-- ==== Sys2Proof/Word.lean ====
section
/-!
DEFINITION. The two bit types of the manual that software sees as bits: a byte of a message, a frame or a memory
(00 R8), and a 32-bit word of a Xitre core or of a register (14 R362, 00 R7).
-/
namespace Sys2Proof

/-- One byte of a message, a frame or a memory. -/
abbrev Byte := BitVec 8

/-- A 32-bit word: a Xitre register, a port value, a move. -/
abbrev Word := BitVec 32

end Sys2Proof
end

