-- ==== Sys2Proof/Syntax.lean ====
section
/-!
DEFINITION. The commands of the AZ64M-A1: one constructor of `Instr` per row of spec/opcode_table.json, and the types of
their operands. A command is what the outside sends or what happens at a pin, a clock or a timer; its operands are the
values that arrive with it. Every command carries a `Lapse` first: how much time has passed since the command before it.
-/
namespace Sys2Proof

/-- The time between the previous command and this one, on the two counters the manual names: ref ticks of 5 ns (00 R10)
and AON ticks (00 R11). The two oscillators are independent (02 R57), so both are given. -/
structure Lapse where
  tk  : Nat
  aon : Nat
  deriving DecidableEq, Repr

/-- Who makes an access to a host-visible register or block (01 R31, 03 R65, 13 R339). -/
inductive Initiator where
  | super            -- the supervisor core S, and DMA channels it set up
  | applet (n : Fin 4)
  | bench
  | partner
  deriving DecidableEq, Repr

/-- The header of a request that Atlas serves: session, A core of a session-3 request (03 R68), SEQ, FMT and CRC
(03 R70). The stamp is the tick of the command that delivered it. -/
structure Rq where
  ses : Fin 4
  org : Fin 4
  seq : Nat
  fmt : Nat
  crc : Nat
  deriving DecidableEq, Repr

/-- One UDP datagram or fragment of one on an uplink interface (03 R66). `frag` names the IP datagram, the byte offset
of this piece and whether more pieces follow. -/
structure Datagram where
  iface : Fin 2
  src   : Nat
  sport : Nat
  dport : Nat
  frag  : Nat × Nat × Bool
  bytes : List Byte
  deriving DecidableEq, Repr

/-- A write into a session's request window (03 R67): bytes at a buffer offset, or MBX_REQ_LEN. -/
inductive BufWrite where
  | bytes (off : Nat) (data : List Byte)
  | len (n : Nat)
  deriving DecidableEq, Repr

/-- One bench SPI transaction (03 R69): the command byte, the offset if its three bytes were clocked, the data bytes
written and the number of data bytes read. -/
structure SpiTrans where
  cmd   : Nat
  off   : Option Nat
  data  : List Byte
  nread : Nat
  deriving DecidableEq, Repr

/-- A write entry of PARAM_WRITE and PARAM_WRITE_SET (03 R85, R87). -/
structure ParWrite where
  id   : Nat
  idx  : Nat
  type : Nat
  vlen : Nat
  val  : Nat
  deriving DecidableEq, Repr

/-- A fabric access (02 R36, R37): crossbar port and unit of the initiator, byte address, size in bytes, and the data of
a write. `excl` marks the ldx and stx accesses of 14 R370. -/
structure FabReq where
  port  : Nat
  unit  : Nat
  addr  : Nat
  size  : Nat
  write : Bool
  data  : Nat
  excl  : Bool
  deriving DecidableEq, Repr

/-- The fields of CHAN_CMD and VALVE_CMD that the command code leaves (04 R106, 07 R197). -/
structure UnitCmd where
  unit     : Nat
  opt      : Nat
  deadline : Nat
  deriving DecidableEq, Repr

/-- What the sense path and the die report with an event: current in mA, the output or feed voltage in mV, and the switch
energy of the inrush so far in µJ (06 R161, R175). -/
structure Meas where
  ma : Int
  mv : Nat
  uj : Nat
  deriving DecidableEq, Repr

/-- The sensors that the retry conditions read (04 R118): the channel, its junction-to-case difference and its junction,
in 0.1 K and 0.1 °C. -/
structure RetrySense where
  ch : Fin 64
  dt : Int
  tj : Int
  deriving DecidableEq, Repr

/-- A die's temperature trip (04 R115): the measurement, and the difference of its sensors or its junction temperature in 0.1 °C. -/
structure HotTrip where
  m : Meas
  t : Int
  deriving DecidableEq, Repr

/-- The two supply feeds (18 R441). -/
inductive Feed where
  | a
  | b
  deriving DecidableEq, Repr

/-- One sample of a channel (06 R161): the codes of its current, 12-bit two's complement, and of its output voltage, 12-bit unsigned; whether the
gate driver was regulating current (R164), whether the low-side switch of an M channel conducted, and whether it fell in the off-phase
of a pulsing unit (R170). -/
structure Sample where
  cur  : BitVec 12
  volt : BitVec 12
  reg  : Bool
  low  : Bool
  off  : Bool
  deriving DecidableEq, Repr

/-- The 25 samples of a channel over one step (06 R161, R163). -/
structure StepIn where
  ch      : Fin 64
  samples : Vector Sample 25
  deriving DecidableEq, Repr

/-- Mean power that the 10 ms true-up measured for the request number of a valve or of the matrix, mW (06 R175). -/
structure TrueUpIn where
  num : Fin 113
  mw  : Nat
  deriving DecidableEq, Repr

/-- One stream of a channel in a 1 ms window (06 R161, R179): signal 0 current, 1 voltage; 250 codes, none where a sample is absent. -/
structure StreamWin where
  ch      : Fin 64
  sig     : Fin 2
  samples : Vector (Option (BitVec 12)) 250
  deriving DecidableEq, Repr

/-- One chop-cycle record of a valve (07 R207): first tick of the cycle, mean coil voltage in mV, whether the low side
turned on and was turned off by the comparator in it, whether it lies wholly in PEAK, and how many cycles VBb is behind. -/
structure CycleRec where
  start  : Nat
  umv    : Int
  chop   : Bool
  inPeak : Bool
  behind : Nat
  deriving DecidableEq, Repr

/-- A trip of the valve stage (07 R210): low-side fast trip, clamp junction or bank switch, with the coil current. -/
inductive ValveTrip where
  | fast  (ma : Int)
  | clamp (ma : Int)
  | bank  (ma : Int)
  deriving DecidableEq, Repr

/-- A LIGHT_FRAME request (08 R221). -/
structure LightFrame where
  target : Nat
  flags  : Nat
  first  : Nat
  count  : Nat
  fid    : Nat
  data   : List Byte
  deriving DecidableEq, Repr

/-- A wake source of 09 R250 with its detail word (09 R252). -/
structure WakeSrc where
  code   : Nat
  bit    : Nat
  detail : Nat
  deriving DecidableEq, Repr

/-- A CAN frame (10 R268): fmt 0 classical, 1 FD, 2 XL. -/
structure CanFrame where
  id    : Nat
  xtd   : Bool
  rtr   : Bool
  fmt   : Nat
  flags : Nat
  sdt   : Nat
  vcid  : Nat
  af    : Nat
  dlc   : Nat
  data  : List Byte
  deriving DecidableEq, Repr

/-- A CAN error (10 R274): what ISO 11898-1 adds to or takes from the two error counters, and whether this device was
transmitting. -/
structure CanErr where
  dtec : Int
  drec : Int
  tx   : Bool
  deriving DecidableEq, Repr

/-- Ticks of a received frame (10 R268, R273): its start of frame, and the end of its identifier field. -/
structure CanTimes where
  sof   : Nat
  idEnd : Nat
  deriving DecidableEq, Repr

/-- What a LIN responder measures of a header (10 R280): the break in bit times and the rate in bit/s. -/
structure LinBreak where
  brk  : Nat
  rate : Nat
  deriving DecidableEq, Repr

/-- Data to publish (10 R281), and whether it came by an ACF LIN message of the uplink. -/
structure LinPub where
  data : List Byte
  up   : Bool
  deriving DecidableEq, Repr

/-- A completed LIN response (10 R279 to R281): identifier, data, checksum byte, a bit or framing error, tick of the break's falling edge. -/
structure LinFrame where
  id   : Fin 64
  data : List Byte
  chk  : Byte
  bad  : Bool
  sof  : Nat
  deriving DecidableEq, Repr

/-- A frame at the end of its ingress to the switch (10 R284). -/
structure EthFrame where
  port : Fin 5
  dst  : Nat
  src  : Nat
  vlan : Option Nat
  pcp  : Fin 8
  len  : Nat
  /-- The IP address that an ARP request, a neighbour solicitation or an echo request asks for (10 R285). -/
  ask  : Option Nat
  deriving DecidableEq, Repr

/-- What a Sync and its Follow_Up carry (10 R275): the gPTP time at the tick t0, and the rate ratio less 1 in ppb. -/
structure SyncIn where
  g0   : Nat
  t0   : Nat
  rate : Int
  deriving DecidableEq, Repr

/-- The header of an ACCESS_CMD (12 R323). -/
structure AccessCmd where
  slot     : Nat
  aerials  : Nat
  deadline : Nat
  deriving DecidableEq, Repr

/-- A reply frame of a token (12 R315): identifier, nonce, field strengths, proof, and the front-ends that heard it, each with its first-path
power in 0.25 dBm. -/
structure Reply where
  tid   : Nat
  nt    : Nat
  field : List Nat
  mac   : Nat
  heard : List (Fin 4 × Int)
  deriving DecidableEq, Repr

/-- What the enabled front-ends saw in a response slot (12 R314). -/
inductive SlotObs where
  | empty
  | collided
  | malformed
  | reply (r : Reply)
  deriving DecidableEq, Repr

/-- What follows PROOF in an exchange block (12 R316): whether the token accepted, and the token-memory blocks it sent. -/
structure ExchObs where
  accepted : Bool
  blocks   : List Nat
  deriving DecidableEq, Repr

/-- The stamps of a double-sided ranging (12 R317), the STS quality of RESP and of the first path of REPORT in %, whether RESP and REPORT
arrived and passed their checks, and the first-path power of the block's last frame in 0.25 dBm (R318, R331). -/
structure Ranging where
  t1  : Int
  t4  : Int
  t5  : Int
  db  : Int
  rb  : Int
  qResp   : Nat
  qReport : Nat
  resp    : Bool
  report  : Bool
  power   : Int
  deriving DecidableEq, Repr

/-- A transaction that arrives on REQ (13 R335). -/
structure LinkReq where
  op    : Nat
  count : Nat
  tag   : Nat
  be    : Nat
  rid   : Nat
  addr  : Nat
  data  : List Nat
  deriving DecidableEq, Repr

/-- What the partner reports of its pair state on CTL (13 R350, R352): role, whether it pulls the line, its TWIN_ID
level, and a release cause if it sent one (13 R351). -/
structure PairPeer where
  role   : Nat
  pull   : Bool
  twinId : Bool
  cause  : Option Nat
  deriving DecidableEq, Repr

/-- A command or parameter write that the active device forwards (13 R352). -/
inductive FwdCmd where
  | chan  (n : Fin 64) (on : Bool)
  | pulse (n : Fin 64) (on : Bool) (duty : Nat)
  | param (w : ParWrite)
  deriving DecidableEq, Repr

/-- A report of the active device (13 R353). -/
structure PairReport where
  window : Nat
  stamp  : Nat
  on     : Nat
  fail   : Nat
  pulse  : Nat
  inputs : Nat
  duty   : List Nat
  deriving DecidableEq, Repr

/-- The 73 Xitre cores (14 R362). -/
inductive CoreId where
  | s
  | a  (n : Fin 4)
  | c  (n : Fin 64)
  | vb (b : Fin 4)
  deriving DecidableEq, Repr

/-- The ALU a trigger names (14 R366); C and VB cores have ALU0 only. -/
inductive Alu where
  | alu0
  | alu1
  deriving DecidableEq, Repr

/-- The source of a move into call (14 R373): a short immediate or anything else. -/
inductive CallSrc where
  | imm (v : BitVec 18)
  | other
  deriving DecidableEq, Repr

/-- An IMG_BEGIN request (16 R412). -/
structure ImgBegin where
  target : Nat
  flags  : Nat
  len    : Nat
  token  : Nat
  deriving DecidableEq, Repr

/-- An IMG_BLOCK request (16 R413). -/
structure ImgBlock where
  token : Nat
  off   : Nat
  len   : Nat
  crc   : Nat
  data  : List Byte
  deriving DecidableEq, Repr

/-- What a start phase finds (17 R425, R402): the small memories that failed, each with its index in `mem.selftest`, the
first failing step and word; whether the crystal locked; whether the chosen slot's digest matched. -/
structure BootObs where
  failed   : List (Nat × Nat × Nat)
  lock     : Bool
  digestOk : Bool
  loadOk   : Bool
  deriving DecidableEq, Repr

/-- The commands: one constructor per row of spec/opcode_table.json. The docstring of each is its row's rule and summary. -/
inductive Instr where
  /-- UDP_DATAGRAM_RECEIVED, R66: An uplink UDP datagram arrives and is checked for port, interface and peer, then taken as one Atlas message or dropped. -/
  | udpDatagramReceived (g : Lapse) (d : Datagram)
  /-- FRAGMENT_REASSEMBLY_TIMEOUT, R66: An IP datagram still incomplete 100 ms after its first fragment is dropped. -/
  | fragmentReassemblyTimeout (g : Lapse) (ident : Nat)
  /-- MBX_CLAIM, R67: A write of 1 to MBX_REQ_STAT.CLAIM claims a session's request buffer, and the first claim by stamp wins. -/
  | mbxClaim (g : Lapse) (ses org : Fin 4)
  /-- REQUEST_BUFFER_WRITE, R67: A write to a request buffer or MBX_REQ_LEN succeeds only for the claim holder while BUSY is 0; otherwise it ends DENIED. -/
  | requestBufferWrite (g : Lapse) (ses org : Fin 4) (w : BufWrite)
  /-- MBX_DOORBELL_GO, R67: A write of GO hands the claimed request buffer to Atlas, sets BUSY and stamps the request. -/
  | mbxDoorbellGo (g : Lapse) (ses org : Fin 4)
  /-- CLAIM_TIMEOUT, R67: A claim without GO for 100 ms is released, the buffer is discarded, FORMAT increments and ERR is set. -/
  | claimTimeout (g : Lapse) (ses : Fin 4)
  /-- MBX_RSP_ACK, R67: A write of ACK releases the posted response, and Atlas posts the next queued entry. -/
  | mbxRspAck (g : Lapse) (ses org : Fin 4)
  /-- MBX_CTRL_CLRCNT, R95: A write to MBX_CTRL.CLRCNT clears MBX_ERRCNT and MBX_HANDLES.PEAK of each session whose bit is set. -/
  | mbxCtrlClrcnt (g : Lapse) (ini : Initiator) (mask : Nat)
  /-- MBX_IRQ_STAT_CLEAR, R95: A W1C write to MBX_IRQ_STAT clears interrupt bits and may release BENCH_IRQ_N or the link interrupt. -/
  | mbxIrqStatClear (g : Lapse) (ses org : Fin 4) (mask : Nat)
  /-- BENCH_SPI_TRANSACTION, R69: A BENCH_CS_N-framed read or write transaction is decoded into 32-bit accesses and ends with a status byte. -/
  | benchSpiTransaction (g : Lapse) (t : SpiTrans)
  /-- SESSION_TIMEOUT, R80: A session with no valid request for atlas.session_timeout closes, and its handles, subscription and duplicate record are cleared. -/
  | sessionTimeout (g : Lapse) (ses : Fin 4)
  /-- HANDLE_KEEP_EXPIRY, R77: A DONE handle goes to FREE atlas.handle_keep ms after it completed. -/
  | handleKeepExpiry (g : Lapse) (h : Nat)
  /-- KEPT_EVENT_EXPIRY, R454: Events kept since READY are discarded 1 s after MBX_STAT.READY. -/
  | keptEventExpiry (g : Lapse)
  /-- NOP, R72: The operation echoes its empty payload. -/
  | nop (g : Lapse) (q : Rq)
  /-- IDENT, R72: The operation returns the 16 IDN registers as 64 bytes. -/
  | ident (g : Lapse) (q : Rq)
  /-- PARAM_READ, R85: The operation returns the value of one parameter. -/
  | paramRead (g : Lapse) (q : Rq) (id idx : Nat)
  /-- PARAM_WRITE, R453: The operation writes one parameter after the ordered checks. -/
  | paramWrite (g : Lapse) (q : Rq) (w : ParWrite)
  /-- PARAM_READ_MULTI, R85: The operation reads 1 to 64 parameters, each with its own status. -/
  | paramReadMulti (g : Lapse) (q : Rq) (ps : List (Nat × Nat))
  /-- PARAM_WRITE_SET, R87: The operation checks 1 to 64 writes and applies all of them in one tick, or none. -/
  | paramWriteSet (g : Lapse) (q : Rq) (ws : List ParWrite)
  /-- PARAM_DESCRIBE, R83: The operation returns the attributes of one parameter or table element. -/
  | paramDescribe (g : Lapse) (q : Rq) (id idx : Nat)
  /-- PARAM_COMMIT, R86: The long operation writes changed STORED working copies to flash, as they stood at its stamp. -/
  | paramCommit (g : Lapse) (q : Rq)
  /-- PARAM_COMMIT_DONE, R86: The flash writes of a commit end, and the commit completes OK or PERSIST_FAILED. -/
  | paramCommitDone (g : Lapse) (ok : Bool)
  /-- HANDLE_QUERY, R77: The operation returns the state, wait and progress of a handle, and the kept completion of a DONE handle. -/
  | handleQuery (g : Lapse) (q : Rq) (h : Nat)
  /-- HANDLE_CANCEL, R79: The operation cancels a PENDING cancellable operation, which then completes CANCELLED. -/
  | handleCancel (g : Lapse) (q : Rq) (h : Nat)
  /-- HANDLE_RELEASE, R77: The operation frees a DONE handle, and returns STATE for a PENDING one. -/
  | handleRelease (g : Lapse) (q : Rq) (h : Nat)
  /-- EVENT_SUBSCRIBE, R94: The operation replaces the session's event mask and then sends the kept events of the new classes. -/
  | eventSubscribe (g : Lapse) (q : Rq) (mask : Nat)
  /-- FLEET_COMMIT, R92: The long operation raises the behaviour edition to target E and stores it. -/
  | fleetCommit (g : Lapse) (q : Rq) (target : Nat)
  /-- FLEET_COMMIT_DONE, R92: The flash store of a fleet commit ends, and atlas.be_pin and fleet_committed take E. -/
  | fleetCommitDone (g : Lapse) (ok : Bool)
  /-- FABRIC_REQUEST, R41: An initiator's access is stamped, arbitrated and served by its target. -/
  | fabricRequest (g : Lapse) (r : FabReq) (served : Bool)
  /-- FABRIC_RESPONSE, R38: A response reaches its initiator, and an error response is recorded in DBG and acted on by the initiator. -/
  | fabricResponse (g : Lapse) (port unit : Nat)
  /-- FABRIC_TIMEOUT, R39: A request with no response 100 µs after its stamp ends with TIMEOUT. -/
  | fabricTimeout (g : Lapse) (port unit : Nat)
  /-- DOMAIN_DRAIN_END, R40: Once every request in service has ended, or after 100 µs at most, power is removed from the domain. -/
  | domainDrainEnd (g : Lapse) (p : Fin 16)
  /-- PACE_OPREQ, R52: A write to PACE_OPREQ starts the ordered transition of voltage and cap to a target operating point. -/
  | paceOpreq (g : Lapse) (ini : Initiator) (p : Fin 16) (op : Nat)
  /-- PACE_VSEL_WRITE, R51: A direct write of the voltage is checked against the cap in force and accepted or refused. -/
  | paceVselWrite (g : Lapse) (ini : Initiator) (p : Fin 16) (v : Nat)
  /-- PACE_CAP_WRITE, R51: A direct write of the pace cap is checked against the settled voltage and accepted or refused. -/
  | paceCapWrite (g : Lapse) (ini : Initiator) (p : Fin 16) (c : Nat)
  /-- PACE_ERR_CLEAR, R54: A W1C write to PACE_ERR clears refusal bits, and a DROOP_SEEN write also clears PACE_DROOPCNT. -/
  | paceErrClear (g : Lapse) (ini : Initiator) (p : Fin 16) (mask : Nat)
  /-- VOLTAGE_SETTLED, R53: The domain monitor reads within 15 mV of the target for 64 ticks, and the waiting sequence goes on. -/
  | voltageSettled (g : Lapse) (p : Fin 16)
  /-- CAP_WINDOW_BOUNDARY, R53: A new pace cap takes effect at the next 64 tk window boundary. -/
  | capWindowBoundary (g : Lapse) (p : Fin 16)
  /-- DROOP_START, R54: A domain voltage more than 30 mV low for 16 ticks lowers the cap and raises the droop flags and count. -/
  | droopStart (g : Lapse) (p : Fin 16)
  /-- DROOP_END, R54: A voltage back in band for 64 ticks restores the full cap, and the DROOP event is sent. -/
  | droopEnd (g : Lapse) (p : Fin 16)
  /-- PLL_LOCK, R55: The PLL locks to the crystal, and the time base starts counting. -/
  | pllLock (g : Lapse)
  /-- PLL_FALLBACK, R56: The crystal or PLL fails, the internal oscillator takes over without a gap, and FALLBACK_ON is reported. -/
  | pllFallback (g : Lapse)
  /-- PLL_FALLBACK_END, R56: The crystal lock returns, FALLBACK clears, and FALLBACK_OFF is reported. -/
  | pllFallbackEnd (g : Lapse)
  /-- TB_NOW_LO_READ, R55: A read of TB_NOW_LO latches the upper time base bits into TB_NOW_HI for the reading port. -/
  | tbNowLoRead (g : Lapse) (port : Fin 8)
  /-- TB_AON_LO_READ, R57: A read of TB_AON_LO latches the upper AON counter bits for the reading port. -/
  | tbAonLoRead (g : Lapse) (port : Fin 8)
  /-- AON_CALIBRATION, R57: After each 32,768 AON ticks, the ref ticks spanned are written to TB_AONCAL. -/
  | aonCalibration (g : Lapse) (ticks : Nat)
  /-- CHAN_OFF, R104: CHAN_CMD OFF, or COAST on a bridge, turns the channel off or withdraws its request. -/
  | chanOff (g : Lapse) (q : Rq) (c : UnitCmd)
  /-- CHAN_ON, R104: CHAN_CMD ON, or HIGH on an M channel, requests a grant for a turn-on. -/
  | chanOn (g : Lapse) (q : Rq) (c : UnitCmd)
  /-- CHAN_LOW, R104: CHAN_CMD LOW requests a grant to turn on the low side of an M channel. -/
  | chanLow (g : Lapse) (q : Rq) (c : UnitCmd)
  /-- CHAN_FORWARD, R104: CHAN_CMD FORWARD requests a grant to drive a bridge forward, braking first when it reverses. -/
  | chanForward (g : Lapse) (q : Rq) (c : UnitCmd)
  /-- CHAN_REVERSE, R104: CHAN_CMD REVERSE requests a grant to drive a bridge in reverse, braking first when it reverses. -/
  | chanReverse (g : Lapse) (q : Rq) (c : UnitCmd)
  /-- CHAN_BRAKE, R104: CHAN_CMD BRAKE turns both low sides of a bridge on after the dead time. -/
  | chanBrake (g : Lapse) (q : Rq) (c : UnitCmd)
  /-- CHAN_CLEAR, R108: CHAN_CMD CLEAR clears a LATCHED channel or composite, and with CLRCNT zeroes its counts. -/
  | chanClear (g : Lapse) (q : Rq) (c : UnitCmd)
  /-- CHAN_PULSE, R153: CHAN_CMD PULSE starts a generator member pulsing, requesting one grant when it is off. -/
  | chanPulse (g : Lapse) (q : Rq) (c : UnitCmd)
  /-- COMMAND_DEADLINE, R106: A turn-on not yet in INRUSH when its DEADLINE passes is withdrawn and completes TIMEOUT. -/
  | commandDeadline (g : Lapse) (unit : Nat)
  /-- DEAD_TIME_END, R100: The dead time of a half-bridge ends, and the other switch of the new drive turns on. -/
  | deadTimeEnd (g : Lapse) (n : Fin 64)
  /-- INRUSH_END, R111: The inrush timer reaches T, or the L-channel slew output reaches 90 % of feed, and the channel enters ON. -/
  | inrushEnd (g : Lapse) (n : Fin 64) (m : Meas)
  /-- LIMIT_UPDATE, R111: Every 10 µs the die re-evaluates the limit in force from the profile. -/
  | limitUpdate (g : Lapse) (n : Fin 64) (ma : Int)
  /-- REVERSAL_BRAKE_END, R102: The 2 ms brake of a bridge reversal ends, and a grant is requested for the new direction. -/
  | reversalBrakeEnd (g : Lapse) (n : Fin 64)
  /-- FAST_TRIP, R115: Current crosses the fast-trip threshold, and the gate turns off within 1.5 µs. -/
  | fastTrip (g : Lapse) (n : Fin 64) (m : Meas)
  /-- OVERCURRENT, R113: Regulation at the limit lasts the class dwell time outside INRUSH, and the channel trips. -/
  | overcurrent (g : Lapse) (n : Fin 64) (m : Meas)
  /-- STALL, R114: A MOTOR channel still at or above ilim when its stall allowance T runs out trips with STALL. -/
  | stall (g : Lapse) (n : Fin 64) (m : Meas)
  /-- STALL_ALLOWANCE_END, R114: The stall allowance ends without a trip, and the limit returns to ilim. -/
  | stallAllowanceEnd (g : Lapse) (n : Fin 64) (m : Meas)
  /-- I2T_MODEL_STEP, R116: Every 100 µs the wire model updates θ and trips with I2T when θ reaches KTRIP/16. -/
  | i2tModelStep (g : Lapse) (n : Fin 64) (samples : Vector Int 25)
  /-- DELTA_T, R115: ΔT above its limit for 10 µs turns the gate off. -/
  | deltaT (g : Lapse) (n : Fin 64) (x : HotTrip)
  /-- TJ_SHUTDOWN, R115: The junction above its shutdown threshold for 10 µs turns the gate off. -/
  | tjShutdown (g : Lapse) (n : Fin 64) (x : HotTrip)
  /-- INRUSH_TIMEOUT, R112: An L channel whose output has not reached 90 % of feed when its inrush timer reaches T trips. -/
  | inrushTimeout (g : Lapse) (n : Fin 64) (m : Meas)
  /-- RETRY_CONDITIONS_MET, R118: Once delay, θ, ΔT, die inrush and feed conditions all hold, a retry grant is requested. -/
  | retryConditionsMet (g : Lapse) (n : Fin 64) (sens : List RetrySense)
  /-- CONFIRMATION_WINDOW_END, R119: A retry's confirmation window ends without a trip, and the fault is counted transient. -/
  | confirmationWindowEnd (g : Lapse) (n : Fin 64)
  /-- OFF_COMPLETE, R108: An OFF completes once the current is below 10 % of class nominal, or 5 ms after gate-off. -/
  | offComplete (g : Lapse) (n : Fin 64) (m : Meas)
  /-- FEED_LOST, R127: A feed out of range for 10 µs turns its bonded channels off into GRANT_WAIT, and the 1 s window starts. -/
  | feedLost (g : Lapse) (feed : Feed) (volt : Nat)
  /-- FEED_RESTORED, R127: A feed back in range within 1 s lets its channels request grants and turn on again with RESTORED set. -/
  | feedRestored (g : Lapse) (feed : Feed) (volt : Nat)
  /-- FEED_LOST_ABANDON, R104: A feed still out of range 1 s after the loss abandons the pending turn-on, and the channel goes OFF. -/
  | feedLostAbandon (g : Lapse) (n : Fin 64)
  /-- OVERVOLTAGE, R443: A feed above 30 V for 10 µs takes its bonded channels and banks off as for undervoltage. -/
  | overvoltage (g : Lapse) (feed : Feed) (volt : Nat)
  /-- REVERSE_CURRENT, R125: Reverse current opens the blocking switch and sets REVBLOCK. -/
  | reverseCurrent (g : Lapse) (n : Fin 64) (m : Meas)
  /-- REVERSE_CURRENT_END, R125: The output falls below the feed, and the blocking switch closes again. -/
  | reverseCurrentEnd (g : Lapse) (n : Fin 64)
  /-- SAG_START, R121: The die supply falls below 80 % of its mean, and inrush timers of its channels freeze. -/
  | sagStart (g : Lapse) (die : Fin 4)
  /-- SAG_END, R121: The die leaves sag, and frozen inrush timers resume. -/
  | sagEnd (g : Lapse) (die : Fin 4)
  /-- SAG_INRUSH_TIMEOUT, R121: Frozen inrush time reaches 2 ms during a sag, and the channel trips with INRUSH_TIMEOUT. -/
  | sagInrushTimeout (g : Lapse) (n : Fin 64) (m : Meas)
  /-- OFF_STATE_TEST_START, R123: Every PERIOD ms an OFF channel starts the off-state test with the pull-up off. -/
  | offStateTestStart (g : Lapse) (n : Fin 64)
  /-- OFF_STATE_PULLUP_ON, R123: At s + 2,000 the first check is judged and the pull-up turns on. -/
  | offStatePullupOn (g : Lapse) (n : Fin 64) (mv : Nat)
  /-- OFF_STATE_TEST_END, R123: At s + 44,000 the second check is judged, the pull-up turns off, and the diagnostic flags are filtered. -/
  | offStateTestEnd (g : Lapse) (n : Fin 64) (mv : Nat)
  /-- COMPOSITE_ENABLE, R134: A write setting comp[k].cfg.EN checks the membership rules and enables the composite. -/
  | compositeEnable (g : Lapse) (q : Rq) (k : Fin 32) (cfg : Nat)
  /-- COMPOSITE_DISABLE, R135: A write clearing EN makes every member independent again. -/
  | compositeDisable (g : Lapse) (q : Rq) (k : Fin 32) (cfg : Nat)
  /-- GEN_ENABLE, R149: A write setting pulse.gen[g].cfg.EN starts the generator's periods at t0. -/
  | genEnable (g : Lapse) (q : Rq) (gen : Fin 16) (cfg : Nat)
  /-- PERIOD_BOUNDARY, R149: At a period boundary, pending period, duty, phase and spread changes take effect and refunds are applied. -/
  | periodBoundary (g : Lapse) (gen : Fin 16)
  /-- PULSE_ON_EDGE, R150: A pulsing member's scheduled on-edge issues its gate command. -/
  | pulseOnEdge (g : Lapse) (gen : Fin 16) (unit : Nat)
  /-- PULSE_OFF_EDGE, R152: A pulsing member's scheduled off-edge turns it off, or freewheels it. -/
  | pulseOffEdge (g : Lapse) (gen : Fin 16) (unit : Nat)
  /-- ARBITER_PASS, R173: On a request, release, inrush end or step boundary, the arbiter applies refunds and grants or defers pending requests. -/
  | arbiterPass (g : Lapse)
  /-- MODEL_STEP, R165: At each 100 µs boundary the thermal poles, junction estimate, IMEAS and burst pool E are updated. -/
  | modelStep (g : Lapse) (tcase : List Int) (steps : List StepIn)
  /-- TRUE_UP, R175: At each 10 ms boundary, every on unit past inrush has its ps set to its measured power. -/
  | trueUp (g : Lapse) (ms : List TrueUpIn)
  /-- DIVERGENCE_CHECK, R167: At each 1 ms boundary the estimate is compared with the sensor, and reseeded after 10 divergent boundaries. -/
  | divergenceCheck (g : Lapse) (sensors : List (Nat × Int))
  /-- BLOCK_TIMEOUT, R174: A deferred request that has waited block_ms starts blocking every request behind it. -/
  | blockTimeout (g : Lapse) (num : Fin 113)
  /-- CONTOUR_WINDOW_END, R180: At each 1 ms window end, every enabled stream's samples are coded into blocks. -/
  | contourWindowEnd (g : Lapse) (ws : List StreamWin)
  /-- CONTOUR_DATAGRAM_SEND, R181: The coded blocks of a window are sent in UDP datagrams within 3 ms. -/
  | contourDatagramSend (g : Lapse)
  /-- VALVE_OFF, R196: VALVE_CMD OFF turns the valve off with its phase's decay, or withdraws its request. -/
  | valveOff (g : Lapse) (q : Rq) (c : UnitCmd)
  /-- VALVE_ACT, R196: VALVE_CMD ACT requests a grant for an actuation. -/
  | valveAct (g : Lapse) (q : Rq) (c : UnitCmd)
  /-- VALVE_CLEAR, R211: VALVE_CMD CLEAR clears a LATCHED valve and, with CLRCNT, its counts. -/
  | valveClear (g : Lapse) (q : Rq) (c : UnitCmd)
  /-- VALVE_DEADLINE, R196: A valve still waiting at its DEADLINE is withdrawn, and the ACT completes TIMEOUT. -/
  | valveDeadline (g : Lapse) (v : Fin 16)
  /-- BOOST_END, R196: The boost reaches IBOOST or TBOOST, the valve falls to PEAK, and the bank boost passes to a waiting member. -/
  | boostEnd (g : Lapse) (v : Fin 16) (i : Int)
  /-- TPEAK_END, R196: TPEAK ends, the valve falls to HOLD, and a first-run ACT completes. -/
  | tpeakEnd (g : Lapse) (v : Fin 16) (i : Int)
  /-- THOLD_EXPIRY, R196: THOLD expires, and the valve falls to zero with DECAY_H. -/
  | tholdExpiry (g : Lapse) (v : Fin 16)
  /-- VALVE_CONFIRMATION_END, R195: A retry run's confirmation window ends without a trip, and a transient fault is counted. -/
  | valveConfirmationEnd (g : Lapse) (v : Fin 16)
  /-- CHOP_CYCLE_START, R193: A bank-grid chop cycle starts, and the low side turns on below the level. -/
  | chopCycleStart (g : Lapse) (v : Fin 16) (i : Int)
  /-- CHOP_LEVEL_REACHED, R193: The coil current reaches the level, and the low side turns off to freewheel. -/
  | chopLevelReached (g : Lapse) (v : Fin 16) (i : Int)
  /-- CYCLE_RECORD, R207: VBb takes a cycle record, updates its levels and runs closing detection. -/
  | cycleRecord (g : Lapse) (v : Fin 16) (r : CycleRec)
  /-- VALVE_TRIP, R210: A low-side, clamp or bank trip turns the valve off into RETRY_WAIT or LATCHED. -/
  | valveTrip (g : Lapse) (v : Fin 16) (t : ValveTrip)
  /-- OPEN_COIL, R210: Current below 100 mA after 1 ms of low side on trips the valve. -/
  | openCoil (g : Lapse) (v : Fin 16) (i : Int)
  /-- VALVE_RETRY_CONDITIONS, R211: Delay, clamp temperature and feed conditions hold, and the retry run starts. -/
  | valveRetryConditions (g : Lapse) (v : Fin 16) (tclamp : Int)
  /-- BANK_FEED_LOST, R212: A bank's feed out of range turns every member OFF with FEED_LOST. -/
  | bankFeedLost (g : Lapse) (b : Fin 4)
  /-- VALVE_OFF_COMPLETE, R199: An OFF completes once the coil current is below 10 % of IHOLD, or after 5 ms. -/
  | valveOffComplete (g : Lapse) (v : Fin 16) (i : Int)
  /-- RAIL_AVAILABLE, R205: The boost rail reaches 90 % of BOOSTV, and boosts become available. -/
  | railAvailable (g : Lapse) (vrail : Nat)
  /-- RAIL_FAULT, R205: The rail fails to reach 90 % within 25 ms or exceeds 68 V, and the controller stops. -/
  | railFault (g : Lapse) (vrail : Nat)
  /-- RAIL_LOW, R205: The rail falls below feed plus 3 V during a boost, the boost ends, and RAILLOW is set. -/
  | railLow (g : Lapse) (vrail : Nat)
  /-- LIGHT_FRAME, R221: The operation writes full or delta values to a staging buffer and optionally commits it. -/
  | lightFrame (g : Lapse) (q : Rq) (f : LightFrame)
  /-- CHAIN_FRAME_START, R219: A chain frame starts periodically or after a commit, sending the last committed frame at the factor in force. -/
  | chainFrameStart (g : Lapse) (c : Fin 8)
  /-- CHAIN_FRAME_END, R220: At the end of a frame's window, the returned bits are checked and the chain flags filtered. -/
  | chainFrameEnd (g : Lapse) (c : Fin 8) (pulses : List (Nat × Nat)) (doFail : Bool)
  /-- MX_ENABLE, R228: A write setting light.mx.cfg.EN requests the matrix grant, and scanning starts at the next frame boundary. -/
  | mxEnable (g : Lapse) (q : Rq) (cfg : Nat)
  /-- MATRIX_FRAME_BOUNDARY, R225: A matrix frame boundary applies a committed frame, factors and refunds. -/
  | matrixFrameBoundary (g : Lapse)
  /-- ROW_SLOT_START, R225: A row slot starts with blanking, and then the row and column sinks turn on. -/
  | rowSlotStart (g : Lapse) (r : Fin 8)
  /-- COLUMN_INTERVAL_END, R229: A column's on-interval ends, and COL_SHORT or COL_OPEN is judged. -/
  | columnIntervalEnd (g : Lapse) (r : Fin 8) (c : Fin 24) (high weak : Bool)
  /-- ROW_TRIP, R229: A row over its fast trip turns the matrix off and refunds its grant. -/
  | rowTrip (g : Lapse) (r : Fin 8)
  /-- MATRIX_RESTART, R229: 100 ms after a row trip the matrix requests a grant and restarts. -/
  | matrixRestart (g : Lapse)
  /-- MATRIX_CONFIRM_END, R229: A restart that lasts 10 ms without a trip counts a transient row trip. -/
  | matrixConfirmEnd (g : Lapse)
  /-- NTC_CONVERSION, R230: Every 10 ms each NTC input is converted and its temperature, sensor state and factor updated. -/
  | ntcConversion (g : Lapse) (codes : List Nat)
  /-- RUN_SAMPLE_CYCLE, R255: Each run period, the input groups are wetted and sampled, and debounced states updated. -/
  | runSampleCycle (g : Lapse) (levels : List Nat)
  /-- SURVEY_CYCLE, R256: A Survey cycle samples its members group by group and updates their stored states. -/
  | surveyCycle (g : Lapse) (levels : List Nat)
  /-- POWER_REQ_RUN, R240: POWER_REQ RUN returns the device from HOLD to RUN. -/
  | powerReqRun (g : Lapse) (q : Rq) (opt : Nat)
  /-- POWER_REQ_HOLD, R240: POWER_REQ HOLD reduces the domains to hold_domains at OP0. -/
  | powerReqHold (g : Lapse) (q : Rq) (opt : Nat)
  /-- POWER_REQ_PARK, R245: POWER_REQ PARK runs the entry sequence into PARK. -/
  | powerReqPark (g : Lapse) (q : Rq) (opt : Nat)
  /-- POWER_REQ_DORMANT, R245: POWER_REQ DORMANT runs the entry sequence into DORMANT. -/
  | powerReqDormant (g : Lapse) (q : Rq) (opt : Nat)
  /-- ENTRY_OFFS_COMPLETE, R245: The forced OFFs of entry step 1 have completed, and the entry saves state and arms at c. -/
  | entryOffsComplete (g : Lapse)
  /-- ENTRY_COMPLETION_SENT, R245: The entry completion has left or been acknowledged, and the domains are switched off in reverse order. -/
  | entryCompletionSent (g : Lapse)
  /-- WAKE_DURING_ENTRY, R246: A wake after c halts the power-down, raises the domains again and enters RUN. -/
  | wakeDuringEntry (g : Lapse) (w : WakeSrc)
  /-- CAN_WAKE_PATTERN, R303: An armed CAN detector sees the wake-up pattern and wakes the device. -/
  | canWakePattern (g : Lapse) (n : Fin 8)
  /-- SELECTIVE_WAKE, R304: An armed selective-wake detector decodes a matching frame and wakes the device. -/
  | selectiveWake (g : Lapse) (n : Fin 4) (f : CanFrame)
  /-- SELECTIVE_WAKE_ERROR_LIMIT, R304: The detector's error count reaches 32 and wakes the device with identifier 0x1FFF_FFFF. -/
  | selectiveWakeErrorLimit (g : Lapse) (n : Fin 4)
  /-- LIN_WAKE, R303: Dominant for 150 µs on an armed LIN port wakes the device. -/
  | linWake (g : Lapse) (n : Fin 8)
  /-- TC10_WAKE, R303: A TC10 wake from the link partner wakes the device. -/
  | tc10Wake (g : Lapse) (k : Fin 2)
  /-- SPE_WAKE, R303: Segment activity for 100 µs wakes the device. -/
  | speWake (g : Lapse) (k : Fin 2)
  /-- TWIN_PARTNER_WAKE, R347: 10 µs of comma activity on the twin lane wakes the device. -/
  | twinPartnerWake (g : Lapse)
  /-- BENCH_WAKE, R250: A falling edge of BENCH_CS_N wakes the device. -/
  | benchWake (g : Lapse)
  /-- ALARM, R250: The AON counter reaches power.alarm and wakes the device. -/
  | alarm (g : Lapse)
  /-- LGD_CTRL_CLR, R252: A write of CLR clears LGD_COUNT and the history records. -/
  | lgdCtrlClr (g : Lapse) (ini : Initiator)
  /-- FEED_BELOW_PD0, R242: Both feeds below the PD0 threshold for 10 µs put the device in OFF, losing AON state. -/
  | feedBelowPd0 (g : Lapse)
  /-- FEED_START, R242: A feed above the start threshold for 10 ms leaves OFF by a cold start. -/
  | feedStart (g : Lapse) (a b : Bool)
  /-- CAN_FRAME_RECEIVED, R273: A received frame is filtered and written as a record to its queue, or dropped. -/
  | canFrameReceived (g : Lapse) (n : Fin 8) (f : CanFrame) (x : CanTimes)
  /-- CAN_FRAME_SENT, R270: A frame completes transmission, and its buffers are freed. -/
  | canFrameSent (g : Lapse) (n : Fin 8) (sof delay : Nat)
  /-- CAN_ARBITRATION_LOST, R270: A frame loses arbitration and is offered again, or freed into TXFAIL with DAR. -/
  | canArbitrationLost (g : Lapse) (n : Fin 8)
  /-- CAN_ERROR, R274: An error updates the error counters and may make the controller error passive or bus-off. -/
  | canError (g : Lapse) (n : Fin 8) (e : CanErr)
  /-- BUS_OFF_RECOVERED, R274: After 128 occurrences of 11 recessive bits, a bus-off controller recovers. -/
  | busOffRecovered (g : Lapse) (n : Fin 8)
  /-- RING_DELIVER, R384: Atlas moves queue records into an applet's receive ring, advances HEAD and raises RING. -/
  | ringDeliver (g : Lapse) (a : Fin 4)
  /-- TUNNEL_FLUSH, R269: Queue-0 records are sent in an NTSCF frame within 1 ms of the first. -/
  | tunnelFlush (g : Lapse) (n : Fin 8)
  /-- ACF_CAN_RECEIVED, R269: An ACF CAN message from the uplink peer is queued for transmission, or dropped. -/
  | acfCanReceived (g : Lapse) (bus : Nat) (f : CanFrame)
  /-- TX_RING_CONSUME, R385: Atlas consumes applet transmit ring entries into CAN buffers or LIN published data. -/
  | txRingConsume (g : Lapse) (a : Fin 4)
  /-- LIN_SLOT_START, R278: A commander schedule slot starts and sends the entry's header. -/
  | linSlotStart (g : Lapse) (n : Fin 8)
  /-- LIN_NO_RESPONSE, R278: A response not complete within the longest frame time counts as NO_RESPONSE. -/
  | linNoResponse (g : Lapse) (n : Fin 8)
  /-- LIN_HEADER_RECEIVED, R280: A responder detects a break and sync, and answers or receives the identifier. -/
  | linHeaderReceived (g : Lapse) (n : Fin 8) (id : Fin 64) (x : LinBreak)
  /-- LIN_FRAME_RECEIVED, R281: A completed LIN frame is delivered as a record, or judged a collision. -/
  | linFrameReceived (g : Lapse) (n : Fin 8) (f : LinFrame)
  /-- LIN_PUBLISH_WRITE, R281: Published data for an identifier is replaced by an applet or an ACF LIN message. -/
  | linPublishWrite (g : Lapse) (n : Fin 8) (id : Fin 64) (x : LinPub)
  /-- ETH_LINK_UP, R282: A T1 link comes up, and LINK_UP is sent. -/
  | ethLinkUp (g : Lapse) (k : Fin 2) (sqi : Fin 8)
  /-- ETH_LINK_DOWN, R282: A T1 link goes down, and LINK_DOWN is sent. -/
  | ethLinkDown (g : Lapse) (k : Fin 2)
  /-- CABLE_TEST, R282: A write of eth[k].cable.RUN starts the cable test. -/
  | cableTest (g : Lapse) (q : Rq) (k : Fin 2)
  /-- CABLE_TEST_DONE, R282: The cable test ends with OK, OPEN or SHORT and a distance. -/
  | cableTestDone (g : Lapse) (k : Fin 2) (result dist : Nat)
  /-- PLCA_LOST, R283: A follower sees no BEACON for 4 ms and falls back to CSMA/CD. -/
  | plcaLost (g : Lapse) (k : Fin 2)
  /-- SWITCH_FRAME_INGRESS, R284: A frame ends its ingress, addresses are learned, and the frame is forwarded, taken or dropped. -/
  | switchFrameIngress (g : Lapse) (f : EthFrame)
  /-- ADDRESS_AGEING, R284: A learned address entry ages out after AGE seconds. -/
  | addressAgeing (g : Lapse) (vlan mac : Nat)
  /-- GPTP_SYNC, R275: A Sync and Follow_Up update Meridian's time and rate, making it TRACED. -/
  | gptpSync (g : Lapse) (k : Fin 2) (s : SyncIn)
  /-- MERIDIAN_HOLD_EXPIRY, R275: No Sync for HOLD ms makes Meridian untraced. -/
  | meridianHoldExpiry (g : Lapse)
  /-- MERIDIAN_CYCLE_DUE, R276: At each due tick, reference messages are placed on every port, and unsent ones are abandoned. -/
  | meridianCycleDue (g : Lapse)
  /-- REFERENCE_SENT, R277: A reference message has been sent, and its follow-up is queued with the stamped time. -/
  | referenceSent (g : Lapse) (n : Fin 8) (sof : Nat)
  /-- NETSLEEP_ENABLE, R295: A write setting netsleep.cfg.EN starts the agreement in NORMAL. -/
  | netsleepEnable (g : Lapse) (q : Rq) (cfg : Nat)
  /-- NETSLEEP_DISABLE, R295: A write clearing EN puts the agreement in DISABLED. -/
  | netsleepDisable (g : Lapse) (q : Rq) (cfg : Nat)
  /-- KEEP_ALIVE_RECEIVED, R298: A keep-alive restarts the timeout, or aborts ready-sleep. -/
  | keepAliveReceived (g : Lapse) (link node reason : Nat)
  /-- KEEP_ALIVE_SEND, R297: While a local request is held, a keep-alive is sent on each watched link each period. -/
  | keepAliveSend (g : Lapse)
  /-- KEEP_ALIVE_TIMEOUT, R295: The keep-alive timeout expires, and the agreement enters READY_SLEEP. -/
  | keepAliveTimeout (g : Lapse)
  /-- LIN_GO_TO_SLEEP, R299: 20 ms before the wait ends, LIN commanders stop and send go-to-sleep. -/
  | linGoToSleep (g : Lapse)
  /-- PRE_COMMIT_SAVE, R299: 1 ms before the wait ends, entry step 2 is carried out. -/
  | preCommitSave (g : Lapse)
  /-- READY_SLEEP_WAIT_END, R300: The ready-sleep wait ends, and the device commits or reports COMMIT_BLOCKED. -/
  | readySleepWaitEnd (g : Lapse)
  /-- LIN_WAKEUP_RESTART, R299: 100 ms after an aborted wait or a LIN wake, commanders restart at entry 0. -/
  | linWakeupRestart (g : Lapse) (n : Fin 8)
  /-- TC10_SLEEP_ACK_TIMEOUT, R300: With no TC10 acknowledge for 16 ms, the PHY goes silent. -/
  | tc10SleepAckTimeout (g : Lapse) (k : Fin 2)
  /-- FALSE_WAKE_TIMEOUT, R305: The false-wake timeout expires in WAKE_CHECK, and the device commits at once. -/
  | falseWakeTimeout (g : Lapse)
  /-- WAKE_HOLD_END, R296: The wake hold after a non-network wake ends. -/
  | wakeHoldEnd (g : Lapse)
  /-- WAYMARK, R306: A run holding the network awake reaches WMLIMIT minutes and is logged. -/
  | waymark (g : Lapse) (link node : Nat)
  /-- WAYMARK_MINUTE, R306: Each minute a logged run's MINUTES is updated. -/
  | waymarkMinute (g : Lapse) (link node : Nat)
  /-- SEARCH, R320: ACCESS_CMD SEARCH runs a round and chooses the nearest OK token. -/
  | search (g : Lapse) (q : Rq) (c : AccessCmd)
  /-- IMMO, R320: ACCESS_CMD IMMO runs a round on IMASK and needs an INSIDE zone. -/
  | immo (g : Lapse) (q : Rq) (c : AccessCmd)
  /-- TMEM_READ, R316: ACCESS_CMD TMEM_READ runs a round for one slot and reads its memory blocks. -/
  | tmemRead (g : Lapse) (q : Rq) (c : AccessCmd) (first count : Nat)
  /-- ENROL, R325: ACCESS_CMD ENROL installs a wrapped key and runs a confirmation round. -/
  | enrol (g : Lapse) (q : Rq) (c : AccessCmd) (tid keywrap : Nat)
  /-- REVOKE, R325: ACCESS_CMD REVOKE erases a slot's key at its stamp. -/
  | revoke (g : Lapse) (q : Rq) (c : AccessCmd)
  /-- CALIBRATE, R313: ACCESS_CMD CALIBRATE steps TUNE on each enabled aerial. -/
  | calibrate (g : Lapse) (q : Rq) (c : AccessCmd)
  /-- CALIBRATE_STEP, R313: Every 0.5 ms the next TUNE step is measured, and the best is stored at the end. -/
  | calibrateStep (g : Lapse) (ma : Nat)
  /-- LOCK_CLEAR, R322: ACCESS_CMD LOCK_CLEAR ends the lock-out and clears the failures. -/
  | lockClear (g : Lapse) (q : Rq) (c : AccessCmd)
  /-- ROUND_START, R310: A round starts its LF telegram on the aerial mask. -/
  | roundStart (g : Lapse)
  /-- FIELD_BURST, R310: An aerial sends its carrier burst in turn. -/
  | fieldBurst (g : Lapse) (k : Fin 8) (ma : Nat)
  /-- LF_SHORT_TRIP, R313: An aerial over its short trip is turned off for the rest of the round. -/
  | lfShortTrip (g : Lapse) (k : Fin 8)
  /-- RESPONSE_SLOT_END, R314: A response slot ends and is judged clean, empty, collided or malformed. -/
  | responseSlotEnd (g : Lapse) (j : Fin 32) (o : SlotObs)
  /-- REPLY_CHECK, R315: At the check phase, replies are verified, or the round is discarded and retried. -/
  | replyCheck (g : Lapse)
  /-- EXCHANGE_BLOCK, R316: An exchange block sends PROOF, ranges the token and reads its blocks. -/
  | exchangeBlock (g : Lapse) (slot : Fin 16) (x : ExchObs)
  /-- RANGING_RESULT, R317: The REPORT is decoded, ToF and distance computed, and the token placed in a zone. -/
  | rangingResult (g : Lapse) (slot : Fin 16) (r : Ranging)
  /-- ACCESS_DEADLINE, R326: A DEADLINE that passes stops the round, and the command completes TIMEOUT. -/
  | accessDeadline (g : Lapse)
  /-- LOCKOUT_END, R322: The lock-out ends by time, and the flash flag is cleared. -/
  | lockoutEnd (g : Lapse)
  /-- FAIL_WINDOW_EXPIRY, R321: A stored failure older than 60 s leaves FAILS. -/
  | failWindowExpiry (g : Lapse)
  /-- FE_LINK_UP, R319: A front-end sample link aligns and joins rounds. -/
  | feLinkUp (g : Lapse) (f : Fin 4)
  /-- FE_LINK_DOWN, R319: A front-end link goes down, and it takes no part in rounds. -/
  | feLinkDown (g : Lapse) (f : Fin 4) (errs : Nat)
  /-- TWIN_LINK_UP, R334: The twin link trains up, and LINK_UP and the edition reports follow. -/
  | twinLinkUp (g : Lapse)
  /-- TWIN_LINK_DOWN, R336: Alignment loss, replays, silence or PD14 off take the link down, clearing outstanding requests and reservations. -/
  | twinLinkDown (g : Lapse) (reason : Fin 4)
  /-- LINK_FRAME_RECEIVED, R335: A link frame is checked for CRC and SEQ and its ACK and credit taken. -/
  | linkFrameReceived (g : Lapse) (bytes : List Byte)
  /-- LINK_REPLAY, R336: ACK not advanced for 64 tk replays from the first unacknowledged frame. -/
  | linkReplay (g : Lapse)
  /-- TWIN_OUTBOUND_REQUEST, R337: A local access to an open window is sent on REQ once a response buffer is reserved. -/
  | twinOutboundRequest (g : Lapse) (r : FabReq)
  /-- TWIN_INBOUND_REQUEST, R339: The inbound master serves or refuses a request from the partner. -/
  | twinInboundRequest (g : Lapse) (r : LinkReq)
  /-- POSTED_WRITE_ERROR, R341: A posted write ends with an error at the partner and is recorded in twin.posterr. -/
  | postedWriteError (g : Lapse) (addr code : Nat)
  /-- RESERVATION_EXPIRY, R345: A semaphore reservation ends 100 µs after it was set. -/
  | reservationExpiry (g : Lapse) (rid : Nat)
  /-- LOCK_BREAK, R346: An AZ32 lock held 20 µs is released by force and counted. -/
  | lockBreak (g : Lapse)
  /-- CTL_INTERRUPT, R347: A CTL interrupt message raises the partner's link interrupt. -/
  | ctlInterrupt (g : Lapse)
  /-- TWIN_WAKE_PATTERN, R347: Every 100 ms with the link down, a paired device sends the comma wake pattern. -/
  | twinWakePattern (g : Lapse)
  /-- INTLK_LINE_CHANGE, R349: A line level taken after 400 tk moves the pair state. -/
  | intlkLineChange (g : Lapse) (high : Bool)
  /-- IDLE_CLAIM_TIMER, R349: A TWIN_ID-high device sees the line high for IDLECLAIM ms and claims. -/
  | idleClaimTimer (g : Lapse)
  /-- CLAIM_CHECK, R350: 200 tk after a claim, a line not low sets STUCK_HIGH, and the device lets go. -/
  | claimCheck (g : Lapse) (low : Bool)
  /-- PAIR_STATE_REPORT, R350: A CTL role report resolves dual active or detects stuck low. -/
  | pairStateReport (g : Lapse) (p : PairPeer)
  /-- HOLDOFF_END, R349: The holdoff after a release ends. -/
  | holdoffEnd (g : Lapse)
  /-- INTLK_RELEASE, R351: An ACTIVE device releases the line, and its DUALFED channels are turned off by hardware. -/
  | intlkRelease (g : Lapse) (cause : Nat)
  /-- LEASE_EXPIRY, R351: No report for 1.2 ms expires the lease and releases the line. -/
  | leaseExpiry (g : Lapse)
  /-- FORWARDED_COMMAND, R352: A command forwarded on CTL is applied to the standby's shadow state. -/
  | forwardedCommand (g : Lapse) (f : FwdCmd)
  /-- PAIR_REPORT, R353: At each 1 ms window end, the active device generates and sends its report. -/
  | pairReport (g : Lapse)
  /-- REPORT_COMPARE, R354: The standby compares a report with its expected outputs and may decide a switch-over. -/
  | reportCompare (g : Lapse) (r : PairReport)
  /-- MISSING_REPORT, R354: No report for 1.2 ms decides a switch-over. -/
  | missingReport (g : Lapse)
  /-- TAKEOVER_BLOCKED, R354: A line still low 1.2 ms after the decision sets TAKEOVER_BLOCKED. -/
  | takeoverBlocked (g : Lapse)
  /-- PROOF_START, R356: A write of INTLK_PROOF.START starts a proof test or refuses it. -/
  | proofStart (g : Lapse) (ini : Initiator) (v : Nat)
  /-- PROOF_END, R356: After PROOFWIN windows, or the exchange back, the proof test passes or fails. -/
  | proofEnd (g : Lapse)
  /-- EDITION_REPORT, R357: A partner's edition and DUALFED mask arrive, and STANDBY and WATCH are chosen. -/
  | editionReport (g : Lapse) (be mask : Nat)
  /-- INTLK_CTRL_WRITE, R360: A write of INTLK_CTRL sets PAIR, SELFREL and YIELD at once. -/
  | intlkCtrlWrite (g : Lapse) (ini : Initiator) (v : Nat)
  /-- INTLK_ERR_CLEAR, R360: A W1C write clears INTLK_ERR bits. -/
  | intlkErrClear (g : Lapse) (ini : Initiator) (mask : Nat)
  /-- WORD_ISSUE, R365: A core issues an instruction word, reading all sources and then writing destinations and triggers. -/
  | wordIssue (g : Lapse) (k : CoreId)
  /-- ADD, R368: ALU add trigger. -/
  | add (g : Lapse) (k : CoreId) (u : Alu) (v : Word)
  /-- SUB, R368: ALU sub trigger. -/
  | sub (g : Lapse) (k : CoreId) (u : Alu) (v : Word)
  /-- AND, R368: ALU and trigger. -/
  | and (g : Lapse) (k : CoreId) (u : Alu) (v : Word)
  /-- OR, R368: ALU or trigger. -/
  | or (g : Lapse) (k : CoreId) (u : Alu) (v : Word)
  /-- XOR, R368: ALU xor trigger. -/
  | xor (g : Lapse) (k : CoreId) (u : Alu) (v : Word)
  /-- SHL, R368: ALU shift-left trigger. -/
  | shl (g : Lapse) (k : CoreId) (u : Alu) (v : Word)
  /-- SHR, R368: ALU logical shift-right trigger. -/
  | shr (g : Lapse) (k : CoreId) (u : Alu) (v : Word)
  /-- SAR, R368: ALU arithmetic shift-right trigger. -/
  | sar (g : Lapse) (k : CoreId) (u : Alu) (v : Word)
  /-- MIN, R368: ALU signed minimum trigger. -/
  | min (g : Lapse) (k : CoreId) (u : Alu) (v : Word)
  /-- MAX, R368: ALU signed maximum trigger. -/
  | max (g : Lapse) (k : CoreId) (u : Alu) (v : Word)
  /-- MINU, R368: ALU unsigned minimum trigger. -/
  | minu (g : Lapse) (k : CoreId) (u : Alu) (v : Word)
  /-- MAXU, R368: ALU unsigned maximum trigger. -/
  | maxu (g : Lapse) (k : CoreId) (u : Alu) (v : Word)
  /-- MUL, R368: MUL low product trigger. -/
  | mul (g : Lapse) (k : CoreId) (v : Word)
  /-- MULH, R368: Signed high product trigger. -/
  | mulh (g : Lapse) (k : CoreId) (v : Word)
  /-- MULHU, R368: Unsigned high product trigger. -/
  | mulhu (g : Lapse) (k : CoreId) (v : Word)
  /-- DIV, R368: Signed division trigger; divide by zero traps. -/
  | div (g : Lapse) (k : CoreId) (v : Word)
  /-- DIVU, R368: Unsigned division trigger. -/
  | divu (g : Lapse) (k : CoreId) (v : Word)
  /-- REM, R368: Signed remainder trigger. -/
  | rem (g : Lapse) (k : CoreId) (v : Word)
  /-- REMU, R368: Unsigned remainder trigger. -/
  | remu (g : Lapse) (k : CoreId) (v : Word)
  /-- LD8U, R369: Byte load, zero-extended. -/
  | ld8u (g : Lapse) (k : CoreId) (v : Word)
  /-- LD8S, R369: Byte load, sign-extended. -/
  | ld8s (g : Lapse) (k : CoreId) (v : Word)
  /-- LD16U, R369: Halfword load, zero-extended. -/
  | ld16u (g : Lapse) (k : CoreId) (v : Word)
  /-- LD16S, R369: Halfword load, sign-extended. -/
  | ld16s (g : Lapse) (k : CoreId) (v : Word)
  /-- LD32, R369: Word load. -/
  | ld32 (g : Lapse) (k : CoreId) (v : Word)
  /-- LD64, R369: Doubleword load into r and rh. -/
  | ld64 (g : Lapse) (k : CoreId) (v : Word)
  /-- ST8, R369: Byte store, posted. -/
  | st8 (g : Lapse) (k : CoreId) (v : Word)
  /-- ST16, R369: Halfword store, posted. -/
  | st16 (g : Lapse) (k : CoreId) (v : Word)
  /-- ST32, R369: Word store, posted. -/
  | st32 (g : Lapse) (k : CoreId) (v : Word)
  /-- ST64, R369: Doubleword store from d and dh, posted. -/
  | st64 (g : Lapse) (k : CoreId) (v : Word)
  /-- LDX, R370: Exclusive read setting a semaphore reservation. -/
  | ldx (g : Lapse) (k : CoreId) (v : Word)
  /-- STX, R370: Exclusive write that succeeds only under a standing reservation and sets ex. -/
  | stx (g : Lapse) (k : CoreId) (v : Word)
  /-- FENCE, R369: The core stalls until every earlier access of this core has its response. -/
  | fence (g : Lapse) (k : CoreId) (v : Word)
  /-- BEQ, R371: Branch if a equals v. -/
  | beq (g : Lapse) (k : CoreId) (v : Word)
  /-- BNE, R371: Branch if a differs from v. -/
  | bne (g : Lapse) (k : CoreId) (v : Word)
  /-- BLT, R371: Branch if a is less than v, signed. -/
  | blt (g : Lapse) (k : CoreId) (v : Word)
  /-- BGE, R371: Branch if a is at least v, signed. -/
  | bge (g : Lapse) (k : CoreId) (v : Word)
  /-- BLTU, R371: Branch if a is less than v, unsigned. -/
  | bltu (g : Lapse) (k : CoreId) (v : Word)
  /-- BGEU, R371: Branch if a is at least v, unsigned. -/
  | bgeu (g : Lapse) (k : CoreId) (v : Word)
  /-- JMP, R371: Unconditional branch to v after the delay slots. -/
  | jmp (g : Lapse) (k : CoreId) (v : Word)
  /-- CALL, R373: Call that pushes a frame with the save mask after the delay slots. -/
  | call (g : Lapse) (k : CoreId) (imm : CallSrc)
  /-- RET, R374: Return that pops the frame after the delay slots. -/
  | ret (g : Lapse) (k : CoreId) (v : Word)
  /-- RTE, R381: On S, unmasks traps and resumes at epc. -/
  | rte (g : Lapse) (k : CoreId) (v : Word)
  /-- WAIT, R375: Arms a wait on the events in mask, with an optional timeout. -/
  | wait (g : Lapse) (k : CoreId) (v : Word)
  /-- WAIT_END, R375: A wait ends on a pending masked event or on its timeout, and r is set. -/
  | waitEnd (g : Lapse) (k : CoreId)
  /-- POST, R375: Sets the SOFT event of another core. -/
  | post (g : Lapse) (k : CoreId) (v : Word)
  /-- SOFTWARE_TRAP, R379: A move to trap raises a SOFT trap with the moved cause. -/
  | softwareTrap (g : Lapse) (k : CoreId) (v : Word)
  /-- LATE_WRITE_ERROR, R379: A write error response arrives after its word and traps with ASYNC at the next word boundary. -/
  | lateWriteError (g : Lapse) (k : CoreId) (code addr : Nat)
  /-- CRC_INIT, R378: Sets the CRC state. -/
  | crcInit (g : Lapse) (k : CoreId) (v : Word)
  /-- CRC_B8, R378: Feeds 8 bits to the CRC. -/
  | crcB8 (g : Lapse) (k : CoreId) (v : Word)
  /-- CRC_B16, R378: Feeds 16 bits to the CRC. -/
  | crcB16 (g : Lapse) (k : CoreId) (v : Word)
  /-- CRC_B32, R378: Feeds 32 bits to the CRC. -/
  | crcB32 (g : Lapse) (k : CoreId) (v : Word)
  /-- CODEC_STAT, R377: Triggers the codec status of a stream. -/
  | codecStat (g : Lapse) (k : CoreId) (v : Word)
  /-- SHAKE_ABSORB, R377: Absorbs data into the SHAKE unit. -/
  | shakeAbsorb (g : Lapse) (k : CoreId) (v : Word)
  /-- SHAKE_SQUEEZE, R377: Squeezes SHAKE output to an address. -/
  | shakeSqueeze (g : Lapse) (k : CoreId) (v : Word)
  /-- AES_ENC, R377: Encrypts a block with an enclave key slot. -/
  | aesEnc (g : Lapse) (k : CoreId) (v : Word)
  /-- DMA_GO, R405: Starts a DMA channel at a descriptor, or returns its status. -/
  | dmaGo (g : Lapse) (k : CoreId) (v : Word)
  /-- DMA_STOP, R405: Halts a DMA channel after its issued transfers. -/
  | dmaStop (g : Lapse) (k : CoreId) (v : Word)
  /-- DMA_DESCRIPTOR_COMPLETE, R405: Every write of a descriptor has OK, and the channel chains, posts or finishes. -/
  | dmaDescriptorComplete (g : Lapse) (n : Fin 32)
  /-- DMA_TRANSFER_ERROR, R406: An error response halts the channel and records code and address. -/
  | dmaTransferError (g : Lapse) (n : Fin 32) (code addr : Nat)
  /-- DIE_GATE, R366: A C core's die.gate trigger sets the channel's drive. -/
  | dieGate (g : Lapse) (n : Fin 64) (v : Word)
  /-- DIE_RB, R366: A C core sets the blocking switch mode. -/
  | dieRb (g : Lapse) (n : Fin 64) (v : Word)
  /-- DIE_ACK, R366: A C core clears named die events. -/
  | dieAck (g : Lapse) (n : Fin 64) (v : Word)
  /-- VLV_LEVEL, R366: A VB core sets a member's chop level. -/
  | vlvLevel (g : Lapse) (b : Fin 4) (v : Word)
  /-- VLV_PHASE, R366: A VB core moves a member's phase. -/
  | vlvPhase (g : Lapse) (b : Fin 4) (v : Word)
  /-- VLV_RAIL, R366: A VB core sets the bank node rail. -/
  | vlvRail (g : Lapse) (b : Fin 4) (v : Word)
  /-- APPLET_WATCHDOG, R386: An A core running WDOG ms without a wait traps with WATCHDOG. -/
  | appletWatchdog (g : Lapse) (n : Fin 4)
  /-- APPLET_RESTART, R386: 100 ms after a trap with RESTART set, Atlas restarts the core from ENTRY. -/
  | appletRestart (g : Lapse) (n : Fin 4)
  /-- APPLET_RUN, R386: A write of app.a[n].cfg.RUN starts the core from ENTRY or halts it. -/
  | appletRun (g : Lapse) (q : Rq) (n : Fin 4) (cfg : Nat)
  /-- DBG_HALTREQ, R387: A write of HALTREQ halts or resumes a core at a word boundary. -/
  | dbgHaltreq (g : Lapse) (ini : Initiator) (k : Fin 5) (v : Nat)
  /-- DBG_CORE_STEP, R387: A write of STEP runs one word of a halted core and then breaks. -/
  | dbgCoreStep (g : Lapse) (ini : Initiator) (k : Fin 5)
  /-- DBG_CLR_RECORD, R97: A write of RECORD clears the fabric error record. -/
  | dbgClrRecord (g : Lapse) (ini : Initiator)
  /-- DBG_CLR_COUNTS, R97: A write of COUNTS clears every DBG count. -/
  | dbgClrCounts (g : Lapse) (ini : Initiator)
  /-- SCRUB_READ, R400: The scrubber reads the next enabled doubleword when the bank is idle and GAP has passed. -/
  | scrubRead (g : Lapse)
  /-- MEM_FLIP_ARM, R403: A write arming MEM_FLIP_CTRL corrupts the next matching write. -/
  | memFlipArm (g : Lapse) (ini : Initiator) (v : Nat)
  /-- MEM_FLIP_DONE_CLEAR, R407: A W1C write clears MEM_FLIP_CTRL.DONE. -/
  | memFlipDoneClear (g : Lapse) (ini : Initiator)
  /-- MEM_CLR_RECORD, R407: A write of RECORD clears the memory error record. -/
  | memClrRecord (g : Lapse) (ini : Initiator)
  /-- MEM_CLR_COUNTS, R407: A write of COUNTS clears every memory count. -/
  | memClrCounts (g : Lapse) (ini : Initiator)
  /-- IMG_BEGIN, R412: The operation starts or resumes an image transfer and erases its sectors in the background. -/
  | imgBegin (g : Lapse) (q : Rq) (b : ImgBegin)
  /-- SECTOR_ERASE_DONE, R412: A background sector erase completes, and queued granules of it can be programmed. -/
  | sectorEraseDone (g : Lapse)
  /-- IMG_BLOCK, R413: The operation checks one granule and queues it for programming. -/
  | imgBlock (g : Lapse) (q : Rq) (b : ImgBlock)
  /-- GRANULE_PROGRAMMED, R413: A granule is programmed and read back, then mapped or counted as FLASHERR. -/
  | granuleProgrammed (g : Lapse) (ok : Bool)
  /-- IMG_VERIFY, R415: The long operation waits for the flash queue, then checks an image's header, binding, rollback, edition, key and signature. -/
  | imgVerify (g : Lapse) (q : Rq) (target : Nat)
  /-- VERIFY_DONE, R415: The signature check ends, and the slot becomes VERIFIED or INVALID. -/
  | verifyDone (g : Lapse) (sigOk : Bool)
  /-- IMG_ACTIVATE_NOW, R416: IMG_ACTIVATE MODE 0 rechecks, writes the boot record and resets the logic die. -/
  | imgActivateNow (g : Lapse) (q : Rq) (target : Nat)
  /-- IMG_ACTIVATE_ARMED, R416: IMG_ACTIVATE MODE 1 arms the switch for the next PARK or DORMANT entry. -/
  | imgActivateArmed (g : Lapse) (q : Rq) (target : Nat)
  /-- IMG_ACTIVATE_DISARM, R416: IMG_ACTIVATE MODE 2 withdraws an armed activation. -/
  | imgActivateDisarm (g : Lapse) (q : Rq) (target : Nat)
  /-- IMG_ACTIVATE_APPLET, R418: IMG_ACTIVATE for an applet store marks it ACTIVE and copies it into the core memory. -/
  | imgActivateApplet (g : Lapse) (q : Rq) (target mode : Nat)
  /-- ACTIVATION_RESET, R416: Once the completion has left, or after 2 ms, the logic die resets with cause ACTIVATION. -/
  | activationReset (g : Lapse)
  /-- TRIAL_CONFIRM_TIMER, R416: CONFIRM_S seconds of READY confirm the trial image, raising rollback and revoking keys. -/
  | trialConfirmTimer (g : Lapse)
  /-- FW_CONFIRM, R416: A write of fw.confirm.CONFIRM confirms the trial image. -/
  | fwConfirm (g : Lapse) (q : Rq) (v : Nat)
  /-- DEBUG_UNLOCK, R420: The long operation checks the staged debug token and nonce and unlocks core debug. -/
  | debugUnlock (g : Lapse) (q : Rq)
  /-- ATTEST_SIGN, R421: ATTEST MODE 0 builds the report body and starts signing it. -/
  | attestSign (g : Lapse) (q : Rq) (nonce : Nat)
  /-- ATTEST_SIGN_DONE, R421: Signing ends, and ATTEST MODE 0 completes with the body. -/
  | attestSignDone (g : Lapse)
  /-- ATTEST_CHUNK, R421: ATTEST MODE 1 returns one 4 KiB chunk of the signed report. -/
  | attestChunk (g : Lapse) (q : Rq) (chunk : Nat)
  /-- COLD_START, R425: A cold start from OFF runs the start phases from SUPPLY. -/
  | coldStart (g : Lapse)
  /-- WARM_START, R427: A wake from PARK or DORMANT runs the start, skipping check and load when retention allows. -/
  | warmStart (g : Lapse) (digestOk : Bool)
  /-- BOOT_PHASE_ADVANCE, R425: A start phase ends, and the next phase of the sequence begins, up to READY or RECOVERY. -/
  | bootPhaseAdvance (g : Lapse) (o : BootObs)
  /-- SUPERVISOR_WATCHDOG_SERVICE, R429: Atlas services the supervisor watchdog in the PWR block. -/
  | supervisorWatchdogService (g : Lapse)
  /-- WATCHDOG_RESET, R429: The supervisor watchdog unserviced for 100 ms resets the logic die. -/
  | watchdogReset (g : Lapse)
  /-- LOGIC_SUPPLY_RESET, R429: The PD1 or PD3 core supply below 0.52 V for 16 ticks resets the logic die. -/
  | logicSupplyReset (g : Lapse)
  /-- HOLD_WINDOW_EXPIRY, R432: The hold window expires before adoption, and each channel takes its orphan state. -/
  | holdWindowExpiry (g : Lapse)
  /-- STORM_CLEAR, R433: 10 s without a further fault reset clears STORM. -/
  | stormClear (g : Lapse)
  /-- SEQUENCER_RESTART, R434: Atlas reloads and restarts a trapped C or VB core and adopts its channel or bank. -/
  | sequencerRestart (g : Lapse) (core : Nat)
  /-- BOOT_CTRL_HOLD_WRITE, R431: A write of BOOT_CTRL.HOLD within range reaches PD0 at once. -/
  | bootCtrlHoldWrite (g : Lapse) (ini : Initiator) (v : Nat)
  /-- REGISTER_WRITE, R15: A write to a register field without behaviour of its own sets or ignores the value by its access code. -/
  | registerWrite (g : Lapse) (ini : Initiator) (addr v : Nat)
  /-- CAN_INTEGRATION, R286: A started CAN controller sees 11 recessive bits and begins taking part on the bus, leaving the integrating state for error active. -/
  | canIntegration (g : Lapse) (n : Fin 8)
  /-- PLCA_BEACON_RETURN, R283: A T1S follower that fell back to CSMA/CD sees a BEACON again and returns to PLCA. -/
  | plcaBeaconReturn (g : Lapse) (k : Fin 2)
  /-- LIN_BUS_IDLE, R289: A LIN port whose bus has been idle for 4 s enters the bus-idle state of lin[n].status. -/
  | linBusIdle (g : Lapse) (n : Fin 8)
  /-- TC10_SLEEP_ACK, R300: The link partner acknowledges the TC10 sleep request, and the T1 PHY goes silent. -/
  | tc10SleepAck (g : Lapse) (k : Fin 2)
  /-- WAYMARK_RUN_END, R306: A node's keep-alive gap exceeds TMO and its Waymark run ends, clearing ACTIVE. -/
  | waymarkRunEnd (g : Lapse) (link node : Nat)
  /-- STUCK_LOW, R350: A STANDBY device finds INTLK low for 2,000 tk while the partner reports it is not pulling, and sets ERR.STUCK_LOW. -/
  | stuckLow (g : Lapse)
  /-- SWITCH_OVER_CAUSE_TIMEOUT, R355: No release cause arrives within 2,000 tk of a claim, so CAUSE is set to 10 and SWITCH_OVER is sent. -/
  | switchOverCauseTimeout (g : Lapse)
  /-- BOOT_RECORD_WRITTEN, R416: The flash write of the boot record naming the new slot ends, and IMG_ACTIVATE completes OK. -/
  | bootRecordWritten (g : Lapse)
  deriving DecidableEq, Repr

end Sys2Proof
end

