-- ==== Sys2Proof/Decode.lean ====
section
/-!
DEFINITION. Commands spelled by words. The opcode table gives no row bits: a command reaches the block as a message, a register access, a
frame or an event, and the words of a Xitre program are read by the core that runs them (Machine/Xitre.lean). So no word spells a command.
-/
namespace Sys2Proof

/-- The command that a word of `nbits` bits spells by the table's bits: none, as the table gives bits to no row. -/
def decodeTableWord (_nbits _w : Nat) : Option Instr := none

end Sys2Proof
end

