-- ==== Sys2Proof/Machine/Bits.lean ====
section
/-!
DEFINITION. Bit fields, byte order, saturation and checksums: the helpers that every later file uses.
-/
namespace Sys2Proof.Machine

/-- Field of `w` bits at `lo` (00 R7). -/
def bitsOf (v lo w : Nat) : Nat := (v >>> lo) % 2 ^ w

/-- One bit of a value. -/
def bitOf (v i : Nat) : Bool := v.testBit i

/-- A Boolean as the bit 0 or 1. -/
def flag (b : Bool) : Nat := if b then 1 else 0

/-- `v` with the field of `w` bits at `lo` replaced by `x`. -/
def putBits (v lo w x : Nat) : Nat := v - (bitsOf v lo w <<< lo) + ((x % 2 ^ w) <<< lo)

/-- Adding 1 with saturation at `top`. -/
def satInc (top v : Nat) : Nat := if v < top then v + 1 else top

/-- Adding `k` with saturation at `top`. -/
def satAdd (top v k : Nat) : Nat := min top (v + k)

/-- `n` little-endian bytes of a value (00 R8). -/
def leBytes : Nat → Nat → List Byte
  | 0, _ => []
  | n + 1, v => BitVec.ofNat 8 v :: leBytes n (v / 256)

/-- The value of little-endian bytes (00 R8). -/
def leVal : List Byte → Nat
  | [] => 0
  | b :: bs => b.toNat + 256 * leVal bs

/-- `n` shifts of the CRC-8 register, polynomial 0x2F, most significant bit first (12 R312). -/
def crc8Shift : Nat → Nat → Nat
  | 0, c => c
  | k + 1, c => crc8Shift k (if 128 ≤ c then (2 * c % 256) ^^^ 0x2F else 2 * c)

/-- One byte into the CRC-8 of the LF telegram and of the CRC unit (12 R312, 14 R378). -/
def crc8Byte (c b : Nat) : Nat := crc8Shift 8 (c ^^^ b)

/-- CRC-8 of bytes, initial value 0xFF (12 R312). -/
def crc8 (l : List Nat) : Nat := l.foldl crc8Byte 0xFF

/-- `n` bytes of `bs` from offset `o`, as a value; bytes beyond the end count 0. -/
def leAt (bs : List Byte) (o n : Nat) : Nat := leVal ((bs.drop o).take n)

/-- A value of `w` bits read as a signed number. -/
def signedOf (w v : Nat) : Int := if 2 ^ (w - 1) ≤ v % 2 ^ w then (v % 2 ^ w : Int) - 2 ^ w else (v % 2 ^ w : Int)

/-- A signed number as `w` bits of two's complement. -/
def unsignedOf (w : Nat) (i : Int) : Nat := (i % (2 ^ w : Int)).toNat

/-- A signed number clamped to `w` bits, then coded (status fields of type I16 and I32). -/
def clampTo (w : Nat) (i : Int) : Nat :=
  unsignedOf w (max (-(2 ^ (w - 1) : Int)) (min ((2 ^ (w - 1) : Int) - 1) i))

/-- Population count of the `n` low bits. -/
def popCount : Nat → Nat → Nat
  | 0, _ => 0
  | n + 1, v => v % 2 + popCount n (v / 2)

/-- Indices of the set bits below `n`, ascending. -/
def bitList (n v : Nat) : List Nat := (List.range n).filter (fun i => v.testBit i)

/-- The mask with the bits of a list set. -/
def maskOf (l : List Nat) : Nat := l.foldl (fun m i => m ||| (1 <<< i)) 0

/-- `k` shifts of the reflected CRC-32C register (polynomial 0x82F6_3B78). -/
def crcShift : Nat → Nat → Nat
  | 0, c => c
  | k + 1, c => crcShift k (if c % 2 = 1 then (c / 2) ^^^ 0x82F63B78 else c / 2)

/-- One byte into the CRC-32C register. -/
def crcByte (c b : Nat) : Nat := crcShift 8 (c ^^^ b)

/-- CRC-32C: initial value and final XOR 0xFFFF_FFFF (03 R70). -/
def crc32c (bs : List Byte) : Nat := (bs.foldl (fun c b => crcByte c b.toNat) 0xFFFFFFFF) ^^^ 0xFFFFFFFF

/-- Multiples of a step: the value rounded up to a whole number of `d`. -/
def ceilDiv (n d : Nat) : Nat := (n + d - 1) / d

/-- First index of a list that meets a test. -/
def firstIdx {α : Type} (p : α → Bool) : List α → Nat → Option Nat
  | [], _ => none
  | x :: xs, i => if p x then some i else firstIdx p xs (i + 1)

/-- Insertion of a key and value in a list with strictly rising keys; an equal key is replaced. -/
def kvPut {α : Type} (k : Nat) (v : α) : List (Nat × α) → List (Nat × α)
  | [] => [(k, v)]
  | (k', v') :: l => if k < k' then (k, v) :: (k', v') :: l else if k = k' then (k, v) :: l else (k', v') :: kvPut k v l

/-- Lookup of a key. -/
def kvGet {α : Type} (k : Nat) : List (Nat × α) → Option α
  | [] => none
  | (k', v) :: l => if k = k' then some v else kvGet k l

/-- Removal of a key. -/
def kvDel {α : Type} (k : Nat) : List (Nat × α) → List (Nat × α)
  | [] => []
  | (k', v) :: l => if k = k' then l else (k', v) :: kvDel k l

end Sys2Proof.Machine
end

