-- ==== Sys2Proof/Machine/Params.lean ====
section
/-!
DEFINITION. The parameter table of Atlas (03 R83 to R90): every family, member and field of the manual's parameter
tables, with type, persistence, access, legal range and reset value. Resets written for H, M and L channels are a list of
three. Where a table marks a field "reserved", no field covers it.
-/
namespace Sys2Proof.Machine

/-- Access of a field or parameter (00 R15). -/
inductive Acc where
  | ro
  | rw
  | wo
  deriving DecidableEq, Repr

/-- One field of a parameter: place, access, reset (one value, or H, M, L), legal range and step of the coded value. -/
structure FieldSpec where
  lo     : Nat
  w      : Nat
  acc    : Acc
  resets : List Nat
  min    : Int
  max    : Int
  step   : Nat
  signed : Bool
  deriving DecidableEq, Repr

/-- One member of a family (03 R83): offset in the stride, type code (R84), VLEN, unit code, persistence, elements of a
TABLE (1 otherwise), access, name and fields. -/
structure ParSpec where
  off   : Nat
  type  : Nat
  vlen  : Nat
  unit  : Nat
  pers  : Nat
  count : Nat
  acc   : Acc
  name  : String
  flds  : List FieldSpec
  deriving DecidableEq, Repr

/-- One family (03 R90): path before the index, path after it, base, stride, number of indices, members. -/
structure FamSpec where
  pre    : String
  post   : String
  base   : Nat
  stride : Nat
  n      : Nat
  pars   : List ParSpec
  deriving DecidableEq, Repr

/-- A field that a meaning reads: family base and stride, member offset, place. -/
structure ParField where
  base   : Nat
  stride : Nat
  off    : Nat
  lo     : Nat
  w      : Nat
  deriving DecidableEq, Repr

/-- `atlas.ie` (03 R93). -/
def par_atlas_ie : ParSpec :=
  ⟨0, 4, 2, 0, 0, 1, .ro, "ie",
   [⟨0, 16, .ro, [0], 0, 65535, 1, false⟩]⟩

/-- `atlas.be` (03 R93). -/
def par_atlas_be : ParSpec :=
  ⟨1, 4, 2, 0, 0, 1, .ro, "be",
   [⟨0, 16, .ro, [0], 0, 65535, 1, false⟩]⟩

/-- `atlas.be_min` (03 R93). -/
def par_atlas_be_min : ParSpec :=
  ⟨2, 4, 2, 0, 0, 1, .ro, "be_min",
   [⟨0, 16, .ro, [0], 0, 65535, 1, false⟩]⟩

/-- `atlas.be_max` (03 R93). -/
def par_atlas_be_max : ParSpec :=
  ⟨3, 4, 2, 0, 0, 1, .ro, "be_max",
   [⟨0, 16, .ro, [0], 0, 65535, 1, false⟩]⟩

/-- `atlas.be_pin` (03 R93). -/
def par_atlas_be_pin : ParSpec :=
  ⟨4, 4, 2, 0, 2, 1, .rw, "be_pin",
   [⟨0, 16, .rw, [1], 0, 65535, 1, false⟩]⟩

/-- `atlas.fleet_committed` (03 R93). -/
def par_atlas_fleet_committed : ParSpec :=
  ⟨5, 4, 2, 0, 2, 1, .ro, "fleet_committed",
   [⟨0, 16, .ro, [1], 0, 65535, 1, false⟩]⟩

/-- `atlas.udp_port` (03 R93). -/
def par_atlas_udp_port : ParSpec :=
  ⟨6, 4, 2, 0, 2, 1, .rw, "udp_port",
   [⟨0, 16, .rw, [43264], 1024, 65535, 1, false⟩]⟩

/-- `atlas.uplink_peer` (03 R93). -/
def par_atlas_uplink_peer : ParSpec :=
  ⟨7, 11, 16, 0, 2, 1, .rw, "uplink_peer",
   [⟨0, 128, .rw, [0], 0, 0xffffffffffffffffffffffffffffffff, 1, false⟩]⟩

/-- `atlas.uplink_if` (03 R93). -/
def par_atlas_uplink_if : ParSpec :=
  ⟨8, 9, 1, 0, 2, 1, .rw, "uplink_if",
   [⟨0, 8, .rw, [2], 0, 2, 1, false⟩]⟩

/-- `atlas.session_timeout` (03 R93). -/
def par_atlas_session_timeout : ParSpec :=
  ⟨9, 6, 4, 6, 2, 1, .rw, "session_timeout",
   [⟨0, 32, .rw, [5000], 100, 60000, 1, false⟩]⟩

/-- `atlas.handle_keep` (03 R93). -/
def par_atlas_handle_keep : ParSpec :=
  ⟨10, 6, 4, 6, 2, 1, .rw, "handle_keep",
   [⟨0, 32, .rw, [10000], 1000, 600000, 1, false⟩]⟩

/-- `atlas.bench_mode` (03 R93). -/
def par_atlas_bench_mode : ParSpec :=
  ⟨11, 9, 1, 0, 2, 1, .rw, "bench_mode",
   [⟨0, 8, .rw, [2], 0, 2, 1, false⟩]⟩

/-- The family `atlas` (03 R90). -/
def fam_atlas : FamSpec := ⟨"atlas", "", 0x0, 0x10, 1,
  [par_atlas_ie, par_atlas_be, par_atlas_be_min, par_atlas_be_max, par_atlas_be_pin, par_atlas_fleet_committed, par_atlas_udp_port, par_atlas_uplink_peer, par_atlas_uplink_if, par_atlas_session_timeout, par_atlas_handle_keep, par_atlas_bench_mode]⟩

/-- `pace.pd[p]` (03 R90). -/
def par_pace_op : ParSpec :=
  ⟨0, 9, 1, 0, 2, 1, .rw, "",
   [⟨0, 8, .rw, [1], 0, 3, 1, false⟩]⟩

/-- The family `pace.pd[p]` (03 R90). -/
def fam_pace : FamSpec := ⟨"pace.pd[", "]", 0x40, 0x1, 14,
  [par_pace_op]⟩

/-- `power.state` (09 R261). -/
def par_pwr_state : ParSpec :=
  ⟨0, 8, 8, 0, 0, 1, .ro, "state",
   [⟨0, 3, .ro, [0], 0, 7, 1, false⟩,
    ⟨8, 16, .ro, [65535], 0, 65535, 1, false⟩,
    ⟨32, 16, .ro, [0], 0, 65535, 1, false⟩,
    ⟨48, 8, .ro, [0], 0, 255, 1, false⟩,
    ⟨56, 4, .ro, [0], 0, 15, 1, false⟩]⟩

/-- `power.run_domains` (09 R261). -/
def par_pwr_run_domains : ParSpec :=
  ⟨1, 10, 4, 0, 2, 1, .rw, "run_domains",
   [⟨0, 16, .rw, [65535], 0, 65535, 1, false⟩]⟩

/-- `power.hold_domains` (09 R261). -/
def par_pwr_hold_domains : ParSpec :=
  ⟨2, 10, 4, 0, 2, 1, .rw, "hold_domains",
   [⟨0, 16, .rw, [48203], 0, 65535, 1, false⟩]⟩

/-- `power.park_retain` (09 R261). -/
def par_pwr_park_retain : ParSpec :=
  ⟨3, 10, 4, 0, 2, 1, .rw, "park_retain",
   [⟨0, 32, .rw, [1], 0, 4294967295, 1, false⟩]⟩

/-- `power.park_arm` (09 R261). -/
def par_pwr_park_arm : ParSpec :=
  ⟨4, 10, 4, 0, 2, 1, .rw, "park_arm",
   [⟨0, 28, .rw, [201330432], 0, 268435455, 1, false⟩]⟩

/-- `power.dormant_arm` (09 R261). -/
def par_pwr_dormant_arm : ParSpec :=
  ⟨5, 10, 4, 0, 2, 1, .rw, "dormant_arm",
   [⟨0, 28, .rw, [201326599], 0, 268435455, 1, false⟩]⟩

/-- `power.alarm` (09 R261). -/
def par_pwr_alarm : ParSpec :=
  ⟨6, 8, 8, 0, 1, 1, .rw, "alarm",
   [⟨0, 48, .rw, [0], 0, 281474976710655, 1, false⟩]⟩

/-- `power.feed` (09 R261). -/
def par_pwr_feed : ParSpec :=
  ⟨7, 8, 8, 0, 0, 1, .ro, "feed",
   [⟨0, 16, .ro, [0], 0, 65535, 1, false⟩,
    ⟨16, 16, .ro, [0], 0, 65535, 1, false⟩,
    ⟨32, 1, .ro, [0], 0, 1, 1, false⟩,
    ⟨33, 1, .ro, [0], 0, 1, 1, false⟩]⟩

/-- The family `power` (03 R90). -/
def fam_pwr : FamSpec := ⟨"power", "", 0x80, 0x10, 1,
  [par_pwr_state, par_pwr_run_domains, par_pwr_hold_domains, par_pwr_park_retain, par_pwr_park_arm, par_pwr_dormant_arm, par_pwr_alarm, par_pwr_feed]⟩

/-- `survey.period` (09 R262). -/
def par_svy_period : ParSpec :=
  ⟨0, 6, 4, 7, 2, 1, .rw, "period",
   [⟨0, 32, .rw, [1638], 164, 32768, 1, false⟩]⟩

/-- `survey.confirm` (09 R262). -/
def par_svy_confirm : ParSpec :=
  ⟨1, 6, 4, 7, 2, 1, .rw, "confirm",
   [⟨0, 32, .rw, [164], 164, 32768, 1, false⟩]⟩

/-- `survey.dperiod` (09 R262). -/
def par_svy_dperiod : ParSpec :=
  ⟨2, 6, 4, 7, 2, 1, .rw, "dperiod",
   [⟨0, 32, .rw, [3276], 164, 32768, 1, false⟩]⟩

/-- `survey.run_period` (09 R262). -/
def par_svy_run_period : ParSpec :=
  ⟨3, 4, 2, 6, 2, 1, .rw, "run_period",
   [⟨0, 16, .rw, [10], 1, 100, 1, false⟩]⟩

/-- `survey.state` (09 R262). -/
def par_svy_state : ParSpec :=
  ⟨4, 8, 8, 0, 0, 1, .ro, "state",
   [⟨0, 48, .ro, [0], 0, 281474976710655, 1, false⟩]⟩

/-- `survey.changed` (09 R262). -/
def par_svy_changed : ParSpec :=
  ⟨5, 8, 8, 0, 1, 1, .ro, "changed",
   [⟨0, 48, .ro, [0], 0, 281474976710655, 1, false⟩]⟩

/-- `survey.ack` (09 R262). -/
def par_svy_ack : ParSpec :=
  ⟨6, 8, 8, 0, 0, 1, .wo, "ack",
   [⟨0, 48, .wo, [0], 0, 281474976710655, 1, false⟩]⟩

/-- `survey.status` (09 R262). -/
def par_svy_status : ParSpec :=
  ⟨7, 8, 8, 0, 0, 1, .ro, "status",
   [⟨0, 1, .ro, [0], 0, 1, 1, false⟩,
    ⟨8, 8, .ro, [0], 0, 255, 1, false⟩,
    ⟨16, 48, .ro, [0], 0, 281474976710655, 1, false⟩]⟩

/-- The family `survey` (03 R90). -/
def fam_svy : FamSpec := ⟨"survey", "", 0xA0, 0x10, 1,
  [par_svy_period, par_svy_confirm, par_svy_dperiod, par_svy_run_period, par_svy_state, par_svy_changed, par_svy_ack, par_svy_status]⟩

/-- `isotherm.budget_w` (06 R187). -/
def par_iso_budget_w : ParSpec :=
  ⟨0, 6, 4, 10, 2, 1, .rw, "budget_w",
   [⟨0, 32, .rw, [14000], 1000, 14000, 1, false⟩]⟩

/-- `isotherm.peak_w` (06 R187). -/
def par_iso_peak_w : ParSpec :=
  ⟨1, 6, 4, 10, 2, 1, .rw, "peak_w",
   [⟨0, 32, .rw, [30000], 0, 30000, 1, false⟩]⟩

/-- `isotherm.burst_mj` (06 R187). -/
def par_iso_burst_mj : ParSpec :=
  ⟨2, 6, 4, 11, 2, 1, .rw, "burst_mj",
   [⟨0, 32, .rw, [16000], 0, 4294967295, 1, false⟩]⟩

/-- `isotherm.rfrac` (06 R187). -/
def par_iso_rfrac : ParSpec :=
  ⟨3, 4, 2, 13, 2, 1, .rw, "rfrac",
   [⟨0, 16, .rw, [500], 100, 1000, 1, false⟩]⟩

/-- `isotherm.block_ms` (06 R187). -/
def par_iso_block_ms : ParSpec :=
  ⟨4, 4, 2, 6, 2, 1, .rw, "block_ms",
   [⟨0, 16, .rw, [200], 10, 10000, 1, false⟩]⟩

/-- `isotherm.diverge` (06 R187). -/
def par_iso_diverge : ParSpec :=
  ⟨5, 4, 2, 9, 2, 1, .rw, "diverge",
   [⟨0, 16, .rw, [150], 50, 500, 1, false⟩]⟩

/-- `isotherm.tj_warn` (06 R187). -/
def par_iso_tj_warn : ParSpec :=
  ⟨6, 4, 2, 8, 2, 1, .rw, "tj_warn",
   [⟨0, 16, .rw, [1500], 1000, 1600, 1, false⟩]⟩

/-- `isotherm.status` (06 R187). -/
def par_iso_status : ParSpec :=
  ⟨7, 8, 8, 0, 0, 1, .ro, "status",
   [⟨0, 16, .ro, [0], 0, 65535, 1, false⟩,
    ⟨16, 16, .ro, [0], 0, 65535, 1, false⟩,
    ⟨32, 16, .ro, [0], 0, 65535, 1, false⟩,
    ⟨48, 8, .ro, [0], 0, 255, 1, false⟩,
    ⟨56, 1, .ro, [0], 0, 1, 1, false⟩,
    ⟨57, 1, .ro, [0], 0, 1, 1, false⟩]⟩

/-- `isotherm.unit` (06 R187). -/
def par_iso_unit : ParSpec :=
  ⟨8, 12, 8, 0, 0, 113, .ro, "unit",
   [⟨0, 16, .ro, [0], 0, 65535, 1, false⟩,
    ⟨16, 16, .ro, [0], 0, 65535, 1, false⟩,
    ⟨32, 16, .ro, [0], 0, 65535, 1, false⟩,
    ⟨48, 3, .ro, [0], 0, 7, 1, false⟩,
    ⟨56, 8, .ro, [0], 0, 255, 1, false⟩]⟩

/-- `isotherm.tcase` (06 R187). -/
def par_iso_tcase : ParSpec :=
  ⟨9, 12, 8, 0, 0, 4, .ro, "tcase",
   [⟨0, 16, .ro, [0], 0, 65535, 1, false⟩,
    ⟨16, 16, .ro, [0], 0, 65535, 1, false⟩]⟩

/-- The family `isotherm` (03 R90). -/
def fam_iso : FamSpec := ⟨"isotherm", "", 0xC0, 0x10, 1,
  [par_iso_budget_w, par_iso_peak_w, par_iso_burst_mj, par_iso_rfrac, par_iso_block_ms, par_iso_diverge, par_iso_tj_warn, par_iso_status, par_iso_unit, par_iso_tcase]⟩

/-- `load.ch[n].cfg` (04 R131). -/
def par_ch_cfg : ParSpec :=
  ⟨0, 10, 4, 0, 2, 1, .rw, "cfg",
   [⟨0, 3, .rw, [5, 5, 0], 0, 7, 1, false⟩,
    ⟨3, 1, .rw, [0], 0, 1, 1, false⟩,
    ⟨4, 2, .rw, [0], 0, 2, 1, false⟩,
    ⟨6, 2, .rw, [0], 0, 3, 1, false⟩,
    ⟨8, 4, .rw, [8], 0, 15, 1, false⟩,
    ⟨12, 1, .rw, [0], 0, 1, 1, false⟩,
    ⟨13, 2, .rw, [0, 0, 1], 0, 3, 1, false⟩,
    ⟨15, 1, .rw, [0], 0, 1, 1, false⟩]⟩

/-- `load.ch[n].ilim` (04 R131). -/
def par_ch_ilim : ParSpec :=
  ⟨1, 6, 4, 1, 2, 1, .rw, "ilim",
   [⟨0, 32, .rw, [25000, 10000, 3000], 0, 4294967295, 1, false⟩]⟩

/-- `load.ch[n].inrush` (04 R131). -/
def par_ch_inrush : ParSpec :=
  ⟨2, 10, 4, 0, 2, 1, .rw, "inrush",
   [⟨0, 12, .rw, [0], 0, 4095, 1, false⟩,
    ⟨16, 12, .rw, [0], 0, 4095, 1, false⟩]⟩

/-- `load.ch[n].wire` (04 R131). -/
def par_ch_wire : ParSpec :=
  ⟨3, 8, 8, 0, 2, 1, .rw, "wire",
   [⟨0, 16, .rw, [25000, 10000, 3000], 0, 65535, 1, false⟩,
    ⟨16, 16, .rw, [300, 150, 60], 1, 6000, 1, false⟩,
    ⟨32, 8, .rw, [24], 17, 64, 1, false⟩,
    ⟨40, 8, .rw, [8], 0, 255, 1, false⟩]⟩

/-- `load.ch[n].dt_limit` (04 R131). -/
def par_ch_dt_limit : ParSpec :=
  ⟨4, 4, 2, 9, 2, 1, .rw, "dt_limit",
   [⟨0, 16, .rw, [600], 200, 1000, 10, false⟩]⟩

/-- `load.ch[n].openload` (04 R131). -/
def par_ch_openload : ParSpec :=
  ⟨5, 10, 4, 0, 2, 1, .rw, "openload",
   [⟨0, 8, .rw, [60], 40, 80, 1, false⟩,
    ⟨8, 2, .rw, [1], 0, 3, 1, false⟩,
    ⟨12, 4, .rw, [3], 1, 15, 1, false⟩,
    ⟨16, 8, .rw, [100], 10, 255, 1, false⟩,
    ⟨24, 1, .rw, [0], 0, 1, 1, false⟩,
    ⟨25, 1, .rw, [0], 0, 1, 1, false⟩]⟩

/-- `load.ch[n].retry` (04 R131). -/
def par_ch_retry : ParSpec :=
  ⟨6, 10, 4, 0, 2, 1, .rw, "retry",
   [⟨0, 16, .rw, [100], 10, 10000, 1, false⟩,
    ⟨16, 1, .rw, [0], 0, 1, 1, false⟩]⟩

/-- `load.ch[n].status` (04 R131). -/
def par_ch_status : ParSpec :=
  ⟨7, 8, 8, 0, 0, 1, .ro, "status",
   [⟨0, 4, .ro, [0], 0, 15, 1, false⟩,
    ⟨4, 1, .ro, [0], 0, 1, 1, false⟩,
    ⟨5, 1, .ro, [0], 0, 1, 1, false⟩,
    ⟨6, 1, .ro, [0], 0, 1, 1, false⟩,
    ⟨7, 1, .ro, [0], 0, 1, 1, false⟩,
    ⟨8, 8, .ro, [0], 0, 255, 1, false⟩,
    ⟨16, 8, .ro, [0], 0, 255, 1, false⟩,
    ⟨24, 8, .ro, [0], 0, 255, 1, false⟩,
    ⟨32, 16, .ro, [0], 0, 65535, 1, false⟩,
    ⟨48, 16, .ro, [0], 0, 65535, 1, false⟩]⟩

/-- The family `load.ch[n]` (03 R90). -/
def fam_ch : FamSpec := ⟨"load.ch[", "]", 0x1000, 0x20, 64,
  [par_ch_cfg, par_ch_ilim, par_ch_inrush, par_ch_wire, par_ch_dt_limit, par_ch_openload, par_ch_retry, par_ch_status]⟩

/-- `comp[k].cfg` (05 R159). -/
def par_comp_cfg : ParSpec :=
  ⟨0, 10, 4, 0, 2, 1, .rw, "cfg",
   [⟨0, 1, .rw, [0], 0, 1, 1, false⟩,
    ⟨1, 1, .rw, [0], 0, 1, 1, false⟩,
    ⟨2, 1, .rw, [0], 0, 1, 1, false⟩,
    ⟨6, 2, .rw, [0], 0, 3, 1, false⟩,
    ⟨8, 4, .rw, [8], 0, 15, 1, false⟩]⟩

/-- `comp[k].member` (05 R159). -/
def par_comp_member : ParSpec :=
  ⟨1, 12, 8, 0, 2, 96, .rw, "member",
   [⟨0, 1, .rw, [0], 0, 1, 1, false⟩]⟩

/-- `comp[k].status` (05 R159). -/
def par_comp_status : ParSpec :=
  ⟨2, 8, 8, 0, 0, 1, .ro, "status",
   [⟨0, 4, .ro, [0], 0, 15, 1, false⟩,
    ⟨4, 1, .ro, [0], 0, 1, 1, false⟩,
    ⟨5, 3, .ro, [0], 0, 7, 1, false⟩,
    ⟨8, 8, .ro, [0], 0, 255, 1, false⟩,
    ⟨16, 8, .ro, [0], 0, 255, 1, false⟩,
    ⟨24, 8, .ro, [0], 0, 255, 1, false⟩,
    ⟨32, 7, .ro, [0], 0, 127, 1, false⟩,
    ⟨40, 8, .ro, [255], 0, 255, 1, false⟩,
    ⟨48, 8, .ro, [0], 0, 255, 1, false⟩]⟩

/-- `comp[k].meas` (05 R159). -/
def par_comp_meas : ParSpec :=
  ⟨3, 8, 8, 0, 0, 1, .ro, "meas",
   [⟨0, 32, .ro, [0], 0, 4294967295, 1, false⟩,
    ⟨32, 32, .ro, [0], 0, 4294967295, 1, false⟩]⟩

/-- The family `comp[k]` (03 R90). -/
def fam_comp : FamSpec := ⟨"comp[", "]", 0x1800, 0x20, 32,
  [par_comp_cfg, par_comp_member, par_comp_status, par_comp_meas]⟩

/-- `pulse.gen[g].cfg` (05 R160). -/
def par_gen_cfg : ParSpec :=
  ⟨0, 10, 4, 0, 2, 1, .rw, "cfg",
   [⟨0, 1, .rw, [0], 0, 1, 1, false⟩,
    ⟨1, 2, .rw, [0], 0, 2, 1, false⟩]⟩

/-- `pulse.gen[g].period` (05 R160). -/
def par_gen_period : ParSpec :=
  ⟨1, 6, 4, 4, 2, 1, .rw, "period",
   [⟨0, 32, .rw, [1000000], 8000, 4000000, 1, false⟩]⟩

/-- `pulse.gen[g].member` (05 R160). -/
def par_gen_member : ParSpec :=
  ⟨2, 12, 8, 0, 2, 96, .rw, "member",
   [⟨0, 1, .rw, [0], 0, 1, 1, false⟩,
    ⟨1, 1, .rw, [0], 0, 1, 1, false⟩,
    ⟨2, 1, .rw, [0], 0, 1, 1, false⟩,
    ⟨3, 1, .rw, [0], 0, 1, 1, false⟩,
    ⟨8, 10, .rw, [0], 0, 1000, 1, false⟩,
    ⟨32, 10, .rw, [0], 0, 999, 1, false⟩]⟩

/-- `pulse.gen[g].status` (05 R160). -/
def par_gen_status : ParSpec :=
  ⟨3, 8, 8, 0, 0, 1, .ro, "status",
   [⟨0, 8, .ro, [0], 0, 255, 1, false⟩,
    ⟨8, 8, .ro, [0], 0, 255, 1, false⟩,
    ⟨16, 8, .ro, [0], 0, 255, 1, false⟩,
    ⟨32, 32, .ro, [0], 0, 4294967295, 1, false⟩]⟩

/-- The family `pulse.gen[g]` (03 R90). -/
def fam_gen : FamSpec := ⟨"pulse.gen[", "]", 0x1C00, 0x10, 16,
  [par_gen_cfg, par_gen_period, par_gen_member, par_gen_status]⟩

/-- `contour.ch[n].cfg` (06 R188). -/
def par_contour_cfg : ParSpec :=
  ⟨0, 10, 4, 0, 2, 1, .rw, "cfg",
   [⟨0, 4, .rw, [0], 0, 15, 1, false⟩,
    ⟨4, 4, .rw, [0], 0, 15, 1, false⟩,
    ⟨8, 1, .rw, [0], 0, 1, 1, false⟩,
    ⟨9, 1, .rw, [0], 0, 1, 1, false⟩]⟩

/-- The family `contour.ch[n]` (03 R90). -/
def fam_contour : FamSpec := ⟨"contour.ch[", "]", 0x1D00, 0x4, 64,
  [par_contour_cfg]⟩

/-- `valve.v[v].cfg` (07 R215). -/
def par_valve_cfg : ParSpec :=
  ⟨0, 10, 4, 0, 2, 1, .rw, "cfg",
   [⟨0, 1, .rw, [1], 0, 1, 1, false⟩,
    ⟨1, 1, .rw, [1], 0, 1, 1, false⟩,
    ⟨2, 1, .rw, [1], 0, 1, 1, false⟩,
    ⟨3, 1, .rw, [1], 0, 1, 1, false⟩,
    ⟨4, 1, .rw, [0], 0, 1, 1, false⟩,
    ⟨6, 2, .rw, [0], 0, 3, 1, false⟩,
    ⟨8, 4, .rw, [8], 0, 15, 1, false⟩,
    ⟨16, 16, .rw, [100], 10, 10000, 1, false⟩]⟩

/-- `valve.v[v].levels` (07 R215). -/
def par_valve_levels : ParSpec :=
  ⟨1, 8, 8, 0, 2, 1, .rw, "levels",
   [⟨0, 16, .rw, [4000], 500, 12000, 25, false⟩,
    ⟨16, 16, .rw, [2000], 200, 12000, 25, false⟩,
    ⟨32, 16, .rw, [500], 100, 4000, 25, false⟩,
    ⟨48, 16, .rw, [50], 1, 1000, 1, false⟩]⟩

/-- `valve.v[v].times` (07 R215). -/
def par_valve_times : ParSpec :=
  ⟨2, 8, 8, 0, 2, 1, .rw, "times",
   [⟨0, 16, .rw, [0], 0, 1000, 1, false⟩,
    ⟨16, 16, .rw, [2000], 10, 10000, 1, false⟩,
    ⟨32, 16, .rw, [0], 0, 60000, 1, false⟩]⟩

/-- `valve.v[v].kink` (07 R215). -/
def par_valve_kink : ParSpec :=
  ⟨3, 10, 4, 0, 2, 1, .rw, "kink",
   [⟨0, 4, .rw, [4], 2, 15, 1, false⟩,
    ⟨8, 8, .rw, [16], 2, 100, 1, false⟩]⟩

/-- `valve.v[v].status` (07 R215). -/
def par_valve_status : ParSpec :=
  ⟨4, 8, 8, 0, 0, 1, .ro, "status",
   [⟨0, 4, .ro, [0], 0, 15, 1, false⟩,
    ⟨4, 1, .ro, [0], 0, 1, 1, false⟩,
    ⟨5, 1, .ro, [0], 0, 1, 1, false⟩,
    ⟨6, 1, .ro, [0], 0, 1, 1, false⟩,
    ⟨7, 1, .ro, [0], 0, 1, 1, false⟩,
    ⟨8, 8, .ro, [0], 0, 255, 1, false⟩,
    ⟨16, 8, .ro, [0], 0, 255, 1, false⟩,
    ⟨24, 8, .ro, [0], 0, 255, 1, false⟩,
    ⟨32, 32, .ro, [4294967295], 0, 4294967295, 1, false⟩]⟩

/-- The family `valve.v[v]` (03 R90). -/
def fam_valve : FamSpec := ⟨"valve.v[", "]", 0x2000, 0x10, 16,
  [par_valve_cfg, par_valve_levels, par_valve_times, par_valve_kink, par_valve_status]⟩

/-- `valve.bank[b].cfg` (07 R216). -/
def par_bank_cfg : ParSpec :=
  ⟨0, 10, 4, 0, 2, 1, .rw, "cfg",
   [⟨0, 2, .rw, [1], 0, 2, 1, false⟩,
    ⟨2, 1, .rw, [0], 0, 1, 1, false⟩]⟩

/-- `valve.bank[b].rail` (07 R216). -/
def par_bank_rail : ParSpec :=
  ⟨1, 10, 4, 0, 2, 1, .rw, "rail",
   [⟨0, 8, .rw, [48], 30, 65, 1, false⟩,
    ⟨8, 1, .rw, [0], 0, 1, 1, false⟩]⟩

/-- `valve.bank[b].status` (07 R216). -/
def par_bank_status : ParSpec :=
  ⟨2, 8, 8, 0, 0, 1, .ro, "status",
   [⟨0, 1, .ro, [0], 0, 1, 1, false⟩,
    ⟨1, 1, .ro, [0], 0, 1, 1, false⟩,
    ⟨2, 2, .ro, [0], 0, 3, 1, false⟩,
    ⟨4, 1, .ro, [0], 0, 1, 1, false⟩,
    ⟨5, 2, .ro, [0], 0, 3, 1, false⟩,
    ⟨8, 8, .ro, [0], 0, 255, 1, false⟩,
    ⟨16, 16, .ro, [0], 0, 65535, 1, false⟩,
    ⟨32, 1, .ro, [0], 0, 1, 1, false⟩,
    ⟨33, 1, .ro, [0], 0, 1, 1, false⟩]⟩

/-- `valve.bank[b].stats` (07 R216). -/
def par_bank_stats : ParSpec :=
  ⟨3, 8, 8, 0, 0, 1, .ro, "stats",
   [⟨0, 16, .ro, [0], 0, 65535, 1, false⟩,
    ⟨16, 16, .ro, [0], 0, 65535, 1, false⟩,
    ⟨32, 16, .ro, [0], 0, 65535, 1, false⟩,
    ⟨48, 16, .ro, [0], 0, 65535, 1, false⟩]⟩

/-- The family `valve.bank[b]` (03 R90). -/
def fam_bank : FamSpec := ⟨"valve.bank[", "]", 0x2100, 0x10, 4,
  [par_bank_cfg, par_bank_rail, par_bank_status, par_bank_stats]⟩

/-- `light.lc[c].cfg` (08 R236). -/
def par_lc_cfg : ParSpec :=
  ⟨0, 10, 4, 0, 2, 1, .rw, "cfg",
   [⟨0, 1, .rw, [0], 0, 1, 1, false⟩,
    ⟨1, 1, .rw, [0], 0, 1, 1, false⟩,
    ⟨2, 1, .rw, [0], 0, 1, 1, false⟩,
    ⟨3, 1, .rw, [0], 0, 1, 1, false⟩,
    ⟨4, 10, .rw, [64], 1, 512, 1, false⟩,
    ⟨14, 4, .rw, [15], 0, 15, 1, false⟩,
    ⟨18, 10, .rw, [20], 1, 1000, 1, false⟩,
    ⟨28, 4, .rw, [10], 0, 11, 1, false⟩]⟩

/-- `light.lc[c].slot` (08 R236). -/
def par_lc_slot : ParSpec :=
  ⟨1, 12, 8, 0, 0, 512, .ro, "slot",
   [⟨0, 32, .ro, [0], 0, 4294967295, 1, false⟩]⟩

/-- `light.lc[c].status` (08 R236). -/
def par_lc_status : ParSpec :=
  ⟨2, 8, 8, 0, 0, 1, .ro, "status",
   [⟨0, 2, .ro, [0], 0, 3, 1, false⟩,
    ⟨2, 4, .ro, [0], 0, 15, 1, false⟩,
    ⟨6, 1, .ro, [0], 0, 1, 1, false⟩,
    ⟨8, 10, .ro, [0], 0, 1023, 1, false⟩,
    ⟨32, 16, .ro, [0], 0, 65535, 1, false⟩,
    ⟨48, 16, .ro, [0], 0, 65535, 1, false⟩]⟩

/-- The family `light.lc[c]` (03 R90). -/
def fam_lc : FamSpec := ⟨"light.lc[", "]", 0x2200, 0x10, 8,
  [par_lc_cfg, par_lc_slot, par_lc_status]⟩

/-- `light.mx.cfg` (08 R237). -/
def par_mx_cfg : ParSpec :=
  ⟨0, 10, 4, 0, 2, 1, .rw, "cfg",
   [⟨0, 1, .rw, [0], 0, 1, 1, false⟩,
    ⟨1, 5, .rw, [0], 0, 31, 1, false⟩,
    ⟨6, 2, .rw, [0], 0, 3, 1, false⟩,
    ⟨8, 4, .rw, [8], 0, 15, 1, false⟩,
    ⟨12, 8, .rw, [60], 10, 150, 1, false⟩]⟩

/-- `light.mx.timing` (08 R237). -/
def par_mx_timing : ParSpec :=
  ⟨1, 10, 4, 0, 2, 1, .rw, "timing",
   [⟨0, 16, .rw, [10000], 2000, 50000, 1, false⟩,
    ⟨16, 12, .rw, [200], 40, 2000, 1, false⟩]⟩

/-- `light.mx.icol` (08 R237). -/
def par_mx_icol : ParSpec :=
  ⟨2, 12, 8, 0, 2, 24, .rw, "icol",
   [⟨0, 8, .rw, [80], 0, 240, 1, false⟩]⟩

/-- `light.mx.bind` (08 R237). -/
def par_mx_bind : ParSpec :=
  ⟨3, 10, 4, 0, 2, 1, .rw, "bind",
   [⟨0, 32, .rw, [4294967295], 0, 4294967295, 1, false⟩]⟩

/-- `light.mx.pixel` (08 R237). -/
def par_mx_pixel : ParSpec :=
  ⟨4, 12, 8, 0, 0, 192, .ro, "pixel",
   [⟨0, 8, .ro, [0], 0, 255, 1, false⟩]⟩

/-- `light.mx.status` (08 R237). -/
def par_mx_status : ParSpec :=
  ⟨5, 8, 8, 0, 0, 1, .ro, "status",
   [⟨0, 4, .ro, [0], 0, 15, 1, false⟩,
    ⟨8, 24, .ro, [0], 0, 16777215, 1, false⟩,
    ⟨32, 24, .ro, [0], 0, 16777215, 1, false⟩,
    ⟨56, 4, .ro, [0], 0, 15, 1, false⟩,
    ⟨60, 4, .ro, [0], 0, 15, 1, false⟩]⟩

/-- The family `light.mx` (03 R90). -/
def fam_mx : FamSpec := ⟨"light.mx", "", 0x2280, 0x10, 1,
  [par_mx_cfg, par_mx_timing, par_mx_icol, par_mx_bind, par_mx_pixel, par_mx_status]⟩

/-- `light.ntc[t].cfg` (08 R238). -/
def par_ntc_cfg : ParSpec :=
  ⟨0, 8, 8, 0, 2, 1, .rw, "cfg",
   [⟨0, 32, .rw, [0], 0, 4294967295, 1, false⟩,
    ⟨32, 3, .rw, [0], 0, 4, 1, false⟩,
    ⟨40, 10, .ro, [1000], 0, 1023, 1, false⟩,
    ⟨50, 2, .ro, [0], 0, 3, 1, false⟩,
    ⟨52, 12, .ro, [0], 0, 4095, 1, false⟩]⟩

/-- `light.ntc[t].curve` (08 R238). -/
def par_ntc_curve : ParSpec :=
  ⟨1, 12, 8, 0, 2, 8, .rw, "curve",
   [⟨0, 16, .rw, [0], (-32768), 32767, 1, true⟩,
    ⟨16, 10, .rw, [0], 0, 1000, 1, false⟩]⟩

/-- The family `light.ntc[t]` (03 R90). -/
def fam_ntc : FamSpec := ⟨"light.ntc[", "]", 0x2300, 0x8, 8,
  [par_ntc_cfg, par_ntc_curve]⟩

/-- `input.sw[i].cfg` (09 R263). -/
def par_sw_cfg : ParSpec :=
  ⟨0, 8, 8, 0, 2, 1, .rw, "cfg",
   [⟨0, 1, .rw, [0], 0, 1, 1, false⟩,
    ⟨1, 1, .rw, [0], 0, 1, 1, false⟩,
    ⟨2, 4, .rw, [2], 2, 10, 1, false⟩,
    ⟨6, 8, .rw, [30], 5, 180, 1, false⟩,
    ⟨14, 8, .rw, [60], 0, 180, 1, false⟩,
    ⟨22, 4, .rw, [3], 1, 15, 1, false⟩,
    ⟨26, 1, .rw, [0], 0, 1, 1, false⟩,
    ⟨27, 1, .rw, [0], 0, 1, 1, false⟩,
    ⟨28, 2, .rw, [0], 0, 3, 1, false⟩,
    ⟨32, 8, .ro, [0], 0, 255, 1, false⟩,
    ⟨40, 1, .ro, [0], 0, 1, 1, false⟩,
    ⟨41, 1, .ro, [0], 0, 1, 1, false⟩,
    ⟨48, 16, .ro, [0], 0, 65535, 1, false⟩]⟩

/-- The family `input.sw[i]` (03 R90). -/
def fam_sw : FamSpec := ⟨"input.sw[", "]", 0x2400, 0x4, 48,
  [par_sw_cfg]⟩

/-- `can[n].cfg` (10 R288). -/
def par_can_cfg : ParSpec :=
  ⟨0, 10, 4, 0, 2, 1, .rw, "cfg",
   [⟨0, 1, .rw, [0], 0, 1, 1, false⟩,
    ⟨1, 2, .rw, [0], 0, 2, 1, false⟩,
    ⟨3, 2, .rw, [1], 0, 2, 1, false⟩,
    ⟨5, 2, .rw, [1], 0, 3, 1, false⟩,
    ⟨7, 1, .rw, [0], 0, 1, 1, false⟩,
    ⟨8, 1, .rw, [0], 0, 1, 1, false⟩,
    ⟨9, 1, .rw, [0], 0, 1, 1, false⟩,
    ⟨10, 9, .rw, [0], 0, 256, 1, false⟩,
    ⟨19, 1, .rw, [0], 0, 1, 1, false⟩]⟩

/-- `can[n].nbt` (10 R288). -/
def par_can_nbt : ParSpec :=
  ⟨1, 10, 4, 0, 2, 1, .rw, "nbt",
   [⟨0, 9, .rw, [4], 1, 256, 1, false⟩,
    ⟨9, 9, .rw, [79], 2, 256, 1, false⟩,
    ⟨18, 7, .rw, [20], 1, 127, 1, false⟩,
    ⟨25, 7, .rw, [20], 1, 127, 1, false⟩]⟩

/-- `can[n].dbt` (10 R288). -/
def par_can_dbt : ParSpec :=
  ⟨2, 10, 4, 0, 2, 1, .rw, "dbt",
   [⟨0, 5, .rw, [2], 1, 31, 1, false⟩,
    ⟨5, 7, .rw, [34], 1, 127, 1, false⟩,
    ⟨12, 6, .rw, [15], 1, 63, 1, false⟩,
    ⟨18, 6, .rw, [15], 1, 63, 1, false⟩,
    ⟨24, 7, .rw, [70], 0, 127, 1, false⟩,
    ⟨31, 1, .rw, [1], 0, 1, 1, false⟩]⟩

/-- `can[n].xbt` (10 R288). -/
def par_can_xbt : ParSpec :=
  ⟨3, 8, 8, 0, 2, 1, .rw, "xbt",
   [⟨0, 5, .rw, [1], 1, 31, 1, false⟩,
    ⟨5, 7, .rw, [29], 1, 127, 1, false⟩,
    ⟨12, 6, .rw, [10], 1, 63, 1, false⟩,
    ⟨18, 6, .rw, [10], 1, 63, 1, false⟩,
    ⟨24, 7, .rw, [30], 0, 127, 1, false⟩,
    ⟨31, 1, .rw, [1], 0, 1, 1, false⟩,
    ⟨32, 6, .rw, [10], 1, 63, 1, false⟩,
    ⟨38, 6, .rw, [30], 1, 63, 1, false⟩,
    ⟨44, 6, .rw, [0], 0, 63, 1, false⟩]⟩

/-- `can[n].filter` (10 R288). -/
def par_can_filter : ParSpec :=
  ⟨4, 12, 8, 0, 2, 256, .rw, "filter",
   [⟨0, 64, .rw, [0], 0, 18446744073709551615, 1, false⟩]⟩

/-- `can[n].status` (10 R288). -/
def par_can_status : ParSpec :=
  ⟨5, 8, 8, 0, 0, 1, .ro, "status",
   [⟨0, 8, .ro, [0], 0, 255, 1, false⟩,
    ⟨8, 8, .ro, [0], 0, 255, 1, false⟩,
    ⟨16, 2, .ro, [0], 0, 3, 1, false⟩,
    ⟨18, 1, .ro, [0], 0, 1, 1, false⟩,
    ⟨24, 8, .ro, [0], 0, 255, 1, false⟩,
    ⟨32, 12, .ro, [0], 0, 4095, 1, false⟩,
    ⟨44, 10, .ro, [0], 0, 1023, 1, false⟩,
    ⟨54, 10, .ro, [0], 0, 1023, 1, false⟩]⟩

/-- The family `can[n]` (03 R90). -/
def fam_can : FamSpec := ⟨"can[", "]", 0x3000, 0x40, 8,
  [par_can_cfg, par_can_nbt, par_can_dbt, par_can_xbt, par_can_filter, par_can_status]⟩

/-- `lin[n].cfg` (10 R289). -/
def par_lin_cfg : ParSpec :=
  ⟨0, 10, 4, 0, 2, 1, .rw, "cfg",
   [⟨0, 1, .rw, [0], 0, 1, 1, false⟩,
    ⟨1, 1, .rw, [0], 0, 1, 1, false⟩,
    ⟨2, 15, .rw, [19200], 1000, 20000, 1, false⟩,
    ⟨17, 1, .rw, [0], 0, 1, 1, false⟩,
    ⟨18, 7, .rw, [0], 0, 64, 1, false⟩,
    ⟨25, 4, .rw, [0], 0, 13, 1, false⟩]⟩

/-- `lin[n].sched` (10 R289). -/
def par_lin_sched : ParSpec :=
  ⟨1, 12, 8, 0, 2, 64, .rw, "sched",
   [⟨0, 6, .rw, [0], 0, 63, 1, false⟩,
    ⟨6, 2, .rw, [0], 0, 3, 1, false⟩,
    ⟨8, 8, .rw, [10], 1, 255, 1, false⟩,
    ⟨16, 6, .rw, [0], 0, 63, 1, false⟩,
    ⟨22, 6, .rw, [0], 0, 63, 1, false⟩]⟩

/-- `lin[n].frame` (10 R289). -/
def par_lin_frame : ParSpec :=
  ⟨2, 12, 8, 0, 2, 64, .rw, "frame",
   [⟨0, 1, .rw, [0], 0, 1, 1, false⟩,
    ⟨1, 1, .rw, [0], 0, 1, 1, false⟩,
    ⟨2, 4, .rw, [8], 1, 8, 1, false⟩,
    ⟨6, 1, .rw, [0], 0, 1, 1, false⟩,
    ⟨7, 1, .rw, [0], 0, 1, 1, false⟩,
    ⟨8, 6, .rw, [0], 0, 63, 1, false⟩,
    ⟨14, 1, .rw, [0], 0, 1, 1, false⟩]⟩

/-- `lin[n].status` (10 R289). -/
def par_lin_status : ParSpec :=
  ⟨3, 8, 8, 0, 0, 1, .ro, "status",
   [⟨0, 2, .ro, [0], 0, 3, 1, false⟩,
    ⟨8, 6, .ro, [0], 0, 63, 1, false⟩,
    ⟨16, 16, .ro, [0], 0, 65535, 1, false⟩,
    ⟨32, 16, .ro, [0], 0, 65535, 1, false⟩,
    ⟨48, 16, .ro, [0], 0, 65535, 1, false⟩]⟩

/-- The family `lin[n]` (03 R90). -/
def fam_lin : FamSpec := ⟨"lin[", "]", 0x3200, 0x20, 8,
  [par_lin_cfg, par_lin_sched, par_lin_frame, par_lin_status]⟩

/-- `meridian.cfg` (10 R290). -/
def par_mrd_cfg : ParSpec :=
  ⟨0, 10, 4, 0, 2, 1, .rw, "cfg",
   [⟨0, 1, .rw, [0], 0, 1, 1, false⟩,
    ⟨1, 8, .rw, [0], 0, 255, 1, false⟩,
    ⟨9, 1, .rw, [0], 0, 1, 1, false⟩,
    ⟨10, 16, .rw, [1000], 100, 60000, 1, false⟩]⟩

/-- `meridian.ids` (10 R290). -/
def par_mrd_ids : ParSpec :=
  ⟨1, 8, 8, 0, 2, 1, .rw, "ids",
   [⟨0, 29, .rw, [16], 0, 536870911, 1, false⟩,
    ⟨29, 1, .rw, [0], 0, 1, 1, false⟩,
    ⟨32, 29, .rw, [17], 0, 536870911, 1, false⟩,
    ⟨61, 1, .rw, [0], 0, 1, 1, false⟩]⟩

/-- `meridian.period` (10 R290). -/
def par_mrd_period : ParSpec :=
  ⟨2, 6, 4, 6, 2, 1, .rw, "period",
   [⟨0, 32, .rw, [100], 10, 1000, 1, false⟩]⟩

/-- `meridian.status` (10 R290). -/
def par_mrd_status : ParSpec :=
  ⟨3, 8, 8, 0, 0, 1, .ro, "status",
   [⟨0, 1, .ro, [0], 0, 1, 1, false⟩,
    ⟨1, 6, .ro, [0], 0, 63, 1, false⟩,
    ⟨16, 16, .ro, [65535], 0, 65535, 1, false⟩,
    ⟨32, 32, .ro, [0], 0, 4294967295, 1, false⟩]⟩

/-- The family `meridian` (03 R90). -/
def fam_mrd : FamSpec := ⟨"meridian", "", 0x3300, 0x10, 1,
  [par_mrd_cfg, par_mrd_ids, par_mrd_period, par_mrd_status]⟩

/-- `eth[k].cfg` (10 R291). -/
def par_eth_cfg : ParSpec :=
  ⟨0, 10, 4, 0, 2, 1, .rw, "cfg",
   [⟨0, 1, .rw, [1], 0, 1, 1, false⟩,
    ⟨1, 1, .rw, [0], 0, 1, 1, false⟩,
    ⟨4, 12, .rw, [1], 1, 4095, 1, false⟩]⟩

/-- `eth[k].status` (10 R291). -/
def par_eth_status : ParSpec :=
  ⟨1, 8, 8, 0, 0, 1, .ro, "status",
   [⟨0, 1, .ro, [0], 0, 1, 1, false⟩,
    ⟨1, 3, .ro, [0], 0, 7, 1, false⟩,
    ⟨4, 1, .ro, [0], 0, 1, 1, false⟩,
    ⟨16, 16, .ro, [0], 0, 65535, 1, false⟩,
    ⟨32, 32, .ro, [0], 0, 4294967295, 1, false⟩]⟩

/-- `eth[k].counters` (10 R291). -/
def par_eth_counters : ParSpec :=
  ⟨2, 12, 8, 0, 0, 7, .ro, "counters",
   [⟨0, 48, .ro, [0], 0, 281474976710655, 1, false⟩]⟩

/-- `eth[k].cable` (10 R291). -/
def par_eth_cable : ParSpec :=
  ⟨3, 8, 8, 0, 0, 1, .wo, "cable",
   [⟨0, 1, .wo, [0], 0, 1, 1, false⟩,
    ⟨1, 3, .ro, [0], 0, 7, 1, false⟩,
    ⟨4, 12, .ro, [0], 0, 4095, 1, false⟩]⟩

/-- `eth[k].cbs` (10 R291). -/
def par_eth_cbs : ParSpec :=
  ⟨4, 12, 8, 0, 2, 2, .rw, "cbs",
   [⟨0, 32, .rw, [0], 0, 750000, 1, false⟩]⟩

/-- `eth[k].prio` (10 R291). -/
def par_eth_prio : ParSpec :=
  ⟨5, 12, 8, 0, 2, 8, .rw, "prio",
   [⟨0, 3, .rw, [0], 0, 7, 1, false⟩]⟩

/-- The family `eth[k]` (03 R90). -/
def fam_eth : FamSpec := ⟨"eth[", "]", 0x3400, 0x40, 2,
  [par_eth_cfg, par_eth_status, par_eth_counters, par_eth_cable, par_eth_cbs, par_eth_prio]⟩

/-- `spe[k].cfg` (10 R292). -/
def par_spe_cfg : ParSpec :=
  ⟨0, 10, 4, 0, 2, 1, .rw, "cfg",
   [⟨0, 1, .rw, [0], 0, 1, 1, false⟩,
    ⟨1, 1, .rw, [1], 0, 1, 1, false⟩,
    ⟨2, 8, .rw, [1], 0, 254, 1, false⟩,
    ⟨10, 8, .rw, [8], 1, 255, 1, false⟩,
    ⟨18, 12, .rw, [1], 1, 4095, 1, false⟩]⟩

/-- `spe[k].plca` (10 R292). -/
def par_spe_plca : ParSpec :=
  ⟨1, 10, 4, 0, 2, 1, .rw, "plca",
   [⟨0, 8, .rw, [32], 1, 255, 1, false⟩,
    ⟨8, 8, .rw, [0], 0, 255, 1, false⟩,
    ⟨16, 8, .rw, [128], 0, 255, 1, false⟩]⟩

/-- `spe[k].status` (10 R292). -/
def par_spe_status : ParSpec :=
  ⟨2, 8, 8, 0, 0, 1, .ro, "status",
   [⟨0, 1, .ro, [0], 0, 1, 1, false⟩,
    ⟨1, 1, .ro, [0], 0, 1, 1, false⟩,
    ⟨16, 16, .ro, [0], 0, 65535, 1, false⟩,
    ⟨32, 32, .ro, [0], 0, 4294967295, 1, false⟩]⟩

/-- `spe[k].counters` (10 R292). -/
def par_spe_counters : ParSpec :=
  ⟨3, 12, 8, 0, 0, 5, .ro, "counters",
   [⟨0, 48, .ro, [0], 0, 281474976710655, 1, false⟩]⟩

/-- The family `spe[k]` (03 R90). -/
def fam_spe : FamSpec := ⟨"spe[", "]", 0x3480, 0x20, 2,
  [par_spe_cfg, par_spe_plca, par_spe_status, par_spe_counters]⟩

/-- `switch.cfg` (10 R293). -/
def par_swx_cfg : ParSpec :=
  ⟨0, 10, 4, 0, 2, 1, .rw, "cfg",
   [⟨0, 12, .rw, [1], 1, 4095, 1, false⟩,
    ⟨12, 1, .rw, [1], 0, 1, 1, false⟩,
    ⟨13, 12, .rw, [300], 10, 4095, 1, false⟩]⟩

/-- `switch.ip` (10 R293). -/
def par_swx_ip : ParSpec :=
  ⟨1, 11, 16, 0, 2, 1, .rw, "ip",
   [⟨0, 128, .rw, [0], 0, 0xffffffffffffffffffffffffffffffff, 1, false⟩]⟩

/-- `switch.mac` (10 R293). -/
def par_swx_mac : ParSpec :=
  ⟨2, 11, 6, 0, 0, 1, .ro, "mac",
   [⟨0, 48, .ro, [0], 0, 281474976710655, 1, false⟩]⟩

/-- `switch.vlan` (10 R293). -/
def par_swx_vlan : ParSpec :=
  ⟨3, 12, 8, 0, 2, 64, .rw, "vlan",
   [⟨0, 12, .rw, [0], 0, 4095, 1, false⟩,
    ⟨12, 5, .rw, [0], 0, 31, 1, false⟩,
    ⟨17, 5, .rw, [0], 0, 31, 1, false⟩,
    ⟨22, 1, .rw, [0], 0, 1, 1, false⟩]⟩

/-- `switch.fdb` (10 R293). -/
def par_swx_fdb : ParSpec :=
  ⟨4, 12, 8, 0, 2, 64, .rw, "fdb",
   [⟨0, 48, .rw, [0], 0, 281474976710655, 1, false⟩,
    ⟨48, 5, .rw, [0], 0, 31, 1, false⟩,
    ⟨53, 1, .rw, [0], 0, 1, 1, false⟩]⟩

/-- `switch.status` (10 R293). -/
def par_swx_status : ParSpec :=
  ⟨5, 8, 8, 0, 0, 1, .ro, "status",
   [⟨0, 11, .ro, [0], 0, 2047, 1, false⟩,
    ⟨16, 16, .ro, [0], 0, 65535, 1, false⟩,
    ⟨32, 16, .ro, [0], 0, 65535, 1, false⟩]⟩

/-- The family `switch` (03 R90). -/
def fam_swx : FamSpec := ⟨"switch", "", 0x3500, 0x10, 1,
  [par_swx_cfg, par_swx_ip, par_swx_mac, par_swx_vlan, par_swx_fdb, par_swx_status]⟩

/-- `netsleep.cfg` (11 R308). -/
def par_ns_cfg : ParSpec :=
  ⟨0, 8, 8, 0, 2, 1, .rw, "cfg",
   [⟨0, 1, .rw, [0], 0, 1, 1, false⟩,
    ⟨1, 1, .rw, [0], 0, 1, 1, false⟩,
    ⟨2, 6, .rw, [0], 0, 63, 1, false⟩,
    ⟨8, 16, .rw, [2000], 500, 60000, 1, false⟩,
    ⟨24, 8, .rw, [50], 10, 100, 1, false⟩,
    ⟨32, 12, .rw, [100], 20, 1000, 1, false⟩,
    ⟨44, 12, .rw, [200], 0, 3000, 1, false⟩,
    ⟨56, 8, .rw, [30], 1, 255, 1, false⟩]⟩

/-- `netsleep.need` (11 R308). -/
def par_ns_need : ParSpec :=
  ⟨1, 10, 4, 0, 0, 1, .rw, "need",
   [⟨0, 4, .rw, [0], 0, 15, 1, false⟩]⟩

/-- `netsleep.ka` (11 R308). -/
def par_ns_ka : ParSpec :=
  ⟨2, 10, 4, 0, 2, 1, .rw, "ka",
   [⟨0, 8, .rw, [0], 0, 255, 1, false⟩,
    ⟨8, 2, .rw, [0], 0, 3, 1, false⟩,
    ⟨10, 2, .rw, [0], 0, 3, 1, false⟩,
    ⟨12, 11, .rw, [1280], 0, 1984, 1, false⟩]⟩

/-- `netsleep.wuf` (11 R308). -/
def par_ns_wuf : ParSpec :=
  ⟨3, 12, 8, 0, 2, 8, .rw, "wuf",
   [⟨0, 64, .rw, [0], 0, 18446744073709551615, 1, false⟩]⟩

/-- `netsleep.status` (11 R308). -/
def par_ns_status : ParSpec :=
  ⟨4, 8, 8, 0, 0, 1, .ro, "status",
   [⟨0, 3, .ro, [0], 0, 7, 1, false⟩,
    ⟨8, 4, .ro, [0], 0, 15, 1, false⟩,
    ⟨16, 16, .ro, [0], 0, 65535, 1, false⟩,
    ⟨32, 8, .ro, [0], 0, 255, 1, false⟩,
    ⟨40, 5, .ro, [0], 0, 31, 1, false⟩,
    ⟨48, 16, .ro, [0], 0, 65535, 1, false⟩]⟩

/-- `netsleep.waymark` (11 R308). -/
def par_ns_waymark : ParSpec :=
  ⟨5, 12, 8, 0, 1, 16, .rw, "waymark",
   [⟨0, 5, .rw, [0], 0, 31, 1, false⟩,
    ⟨5, 1, .rw, [0], 0, 1, 1, false⟩,
    ⟨8, 8, .rw, [0], 0, 255, 1, false⟩,
    ⟨16, 8, .rw, [0], 0, 255, 1, false⟩,
    ⟨24, 16, .rw, [0], 0, 65535, 1, false⟩,
    ⟨40, 24, .rw, [0], 0, 16777215, 1, false⟩]⟩

/-- The family `netsleep` (03 R90). -/
def fam_ns : FamSpec := ⟨"netsleep", "", 0x3600, 0x10, 1,
  [par_ns_cfg, par_ns_need, par_ns_ka, par_ns_wuf, par_ns_status, par_ns_waymark]⟩

/-- `lf[n].cfg` (12 R330). -/
def par_lf_cfg : ParSpec :=
  ⟨0, 10, 4, 0, 2, 1, .rw, "cfg",
   [⟨0, 1, .rw, [0], 0, 1, 1, false⟩,
    ⟨1, 5, .rw, [30], 2, 30, 1, false⟩,
    ⟨8, 8, .rw, [0], (-40), 40, 1, true⟩,
    ⟨16, 6, .rw, [32], 0, 63, 1, false⟩]⟩

/-- `lf[n].status` (12 R330). -/
def par_lf_status : ParSpec :=
  ⟨1, 8, 8, 0, 0, 1, .ro, "status",
   [⟨0, 2, .ro, [0], 0, 3, 1, false⟩,
    ⟨2, 2, .ro, [0], 0, 3, 1, false⟩,
    ⟨16, 16, .ro, [0], 0, 65535, 1, false⟩,
    ⟨48, 16, .ro, [0], 0, 65535, 1, false⟩]⟩

/-- The family `lf[n]` (03 R90). -/
def fam_lf : FamSpec := ⟨"lf[", "]", 0x4000, 0x10, 8,
  [par_lf_cfg, par_lf_status]⟩

/-- `uwb.fe[f].cfg` (12 R331). -/
def par_fe_cfg : ParSpec :=
  ⟨0, 10, 4, 0, 2, 1, .rw, "cfg",
   [⟨0, 1, .rw, [0], 0, 1, 1, false⟩,
    ⟨1, 16, .rw, [0], 0, 65535, 1, false⟩]⟩

/-- `uwb.fe[f].status` (12 R331). -/
def par_fe_status : ParSpec :=
  ⟨1, 8, 8, 0, 0, 1, .ro, "status",
   [⟨0, 1, .ro, [0], 0, 1, 1, false⟩,
    ⟨16, 16, .ro, [0], 0, 65535, 1, false⟩,
    ⟨32, 16, .ro, [0], 0, 65535, 1, false⟩,
    ⟨48, 16, .ro, [0], 0, 65535, 1, false⟩]⟩

/-- The family `uwb.fe[f]` (03 R90). -/
def fam_fe : FamSpec := ⟨"uwb.fe[", "]", 0x4080, 0x10, 4,
  [par_fe_cfg, par_fe_status]⟩

/-- `access.cfg` (12 R332). -/
def par_acc_cfg : ParSpec :=
  ⟨0, 10, 4, 0, 2, 1, .rw, "cfg",
   [⟨0, 1, .rw, [0], 0, 1, 1, false⟩,
    ⟨1, 2, .rw, [2], 0, 3, 1, false⟩,
    ⟨3, 8, .rw, [255], 0, 255, 1, false⟩,
    ⟨11, 8, .rw, [255], 0, 255, 1, false⟩]⟩

/-- `access.radio` (12 R332). -/
def par_acc_radio : ParSpec :=
  ⟨1, 8, 8, 0, 2, 1, .rw, "radio",
   [⟨0, 16, .rw, [1], 1, 65534, 1, false⟩,
    ⟨16, 1, .rw, [0], 0, 1, 1, false⟩,
    ⟨17, 4, .rw, [9], 9, 12, 1, false⟩,
    ⟨24, 8, .rw, [60], 30, 100, 1, false⟩]⟩

/-- `access.zone` (12 R332). -/
def par_acc_zone : ParSpec :=
  ⟨2, 12, 8, 0, 2, 8, .rw, "zone",
   [⟨0, 1, .rw, [0], 0, 1, 1, false⟩,
    ⟨1, 1, .rw, [0], 0, 1, 1, false⟩,
    ⟨2, 3, .rw, [0], 0, 7, 1, false⟩,
    ⟨8, 8, .rw, [40], 0, 255, 1, false⟩,
    ⟨16, 8, .rw, [12], 0, 100, 1, false⟩,
    ⟨24, 8, .rw, [255], 0, 255, 1, false⟩,
    ⟨32, 16, .rw, [200], 10, 1000, 1, false⟩]⟩

/-- `access.lockout` (12 R332). -/
def par_acc_lockout : ParSpec :=
  ⟨3, 8, 8, 0, 2, 1, .rw, "lockout",
   [⟨0, 5, .rw, [4], 1, 30, 1, false⟩,
    ⟨8, 3, .ro, [0], 0, 7, 1, false⟩,
    ⟨16, 1, .ro, [0], 0, 1, 1, false⟩,
    ⟨32, 16, .ro, [0], 0, 65535, 1, false⟩,
    ⟨48, 16, .ro, [0], 0, 65535, 1, false⟩]⟩

/-- `access.status` (12 R332). -/
def par_acc_status : ParSpec :=
  ⟨4, 8, 8, 0, 0, 1, .ro, "status",
   [⟨0, 3, .ro, [0], 0, 7, 1, false⟩,
    ⟨8, 8, .ro, [0], 0, 255, 1, false⟩,
    ⟨16, 16, .ro, [0], 0, 65535, 1, false⟩,
    ⟨32, 16, .ro, [0], 0, 65535, 1, false⟩,
    ⟨48, 16, .ro, [0], 0, 65535, 1, false⟩]⟩

/-- `access.last` (12 R332). -/
def par_acc_last : ParSpec :=
  ⟨5, 12, 8, 0, 0, 16, .ro, "last",
   [⟨0, 4, .ro, [0], 0, 15, 1, false⟩,
    ⟨4, 8, .ro, [255], 0, 255, 1, false⟩,
    ⟨12, 20, .ro, [0], 0, 1048575, 1, false⟩,
    ⟨32, 32, .ro, [0], 0, 4294967295, 1, false⟩]⟩

/-- The family `access` (03 R90). -/
def fam_acc : FamSpec := ⟨"access", "", 0x4100, 0x10, 1,
  [par_acc_cfg, par_acc_radio, par_acc_zone, par_acc_lockout, par_acc_status, par_acc_last]⟩

/-- `token[s].cfg` (12 R333). -/
def par_token_cfg : ParSpec :=
  ⟨0, 8, 8, 0, 2, 1, .rw, "cfg",
   [⟨0, 32, .ro, [0], 0, 4294967295, 1, false⟩,
    ⟨32, 1, .ro, [0], 0, 1, 1, false⟩,
    ⟨33, 1, .rw, [1], 0, 1, 1, false⟩,
    ⟨34, 1, .rw, [1], 0, 1, 1, false⟩]⟩

/-- `token[s].status` (12 R333). -/
def par_token_status : ParSpec :=
  ⟨1, 8, 8, 0, 1, 1, .ro, "status",
   [⟨0, 16, .ro, [0], 0, 65535, 1, false⟩,
    ⟨16, 16, .ro, [0], 0, 65535, 1, false⟩,
    ⟨32, 16, .ro, [0], 0, 65535, 1, false⟩,
    ⟨48, 8, .ro, [255], 0, 255, 1, false⟩]⟩

/-- The family `token[s]` (03 R90). -/
def fam_token : FamSpec := ⟨"token[", "]", 0x4200, 0x10, 16,
  [par_token_cfg, par_token_status]⟩

/-- `twin.cfg` (13 R361). -/
def par_twin_cfg : ParSpec :=
  ⟨0, 10, 4, 0, 2, 1, .rw, "cfg",
   [⟨0, 1, .rw, [0], 0, 1, 1, false⟩,
    ⟨1, 1, .rw, [0], 0, 1, 1, false⟩,
    ⟨2, 1, .rw, [1], 0, 1, 1, false⟩,
    ⟨3, 1, .rw, [0], 0, 1, 1, false⟩,
    ⟨4, 1, .rw, [0], 0, 1, 1, false⟩,
    ⟨5, 1, .rw, [0], 0, 1, 1, false⟩]⟩

/-- `twin.window` (13 R361). -/
def par_twin_window : ParSpec :=
  ⟨1, 12, 8, 0, 2, 8, .rw, "window",
   [⟨0, 14, .rw, [0], 0, 16383, 1, false⟩,
    ⟨14, 1, .rw, [0], 0, 1, 1, false⟩,
    ⟨15, 1, .rw, [0], 0, 1, 1, false⟩,
    ⟨16, 14, .rw, [0], 0, 16383, 1, false⟩,
    ⟨30, 1, .rw, [0], 0, 1, 1, false⟩,
    ⟨32, 16, .rw, [0], 0, 65535, 1, false⟩]⟩

/-- `twin.inbound` (13 R361). -/
def par_twin_inbound : ParSpec :=
  ⟨2, 12, 8, 0, 2, 4, .rw, "inbound",
   [⟨0, 11, .rw, [0], 0, 2047, 1, false⟩,
    ⟨16, 11, .rw, [0], 0, 2047, 1, false⟩,
    ⟨27, 1, .rw, [0], 0, 1, 1, false⟩,
    ⟨28, 1, .rw, [0], 0, 1, 1, false⟩]⟩

/-- `twin.mirror` (13 R361). -/
def par_twin_mirror : ParSpec :=
  ⟨3, 8, 8, 0, 2, 1, .rw, "mirror",
   [⟨0, 48, .rw, [0], 0, 281474976710655, 1, false⟩]⟩

/-- `twin.pair` (13 R361). -/
def par_twin_pair : ParSpec :=
  ⟨4, 10, 4, 0, 2, 1, .rw, "pair",
   [⟨0, 8, .rw, [100], 10, 255, 1, false⟩,
    ⟨8, 8, .rw, [50], 10, 255, 1, false⟩,
    ⟨16, 8, .rw, [10], 1, 100, 1, false⟩]⟩

/-- `twin.link` (13 R361). -/
def par_twin_link : ParSpec :=
  ⟨5, 8, 8, 0, 0, 1, .ro, "link",
   [⟨0, 1, .ro, [0], 0, 1, 1, false⟩,
    ⟨1, 1, .ro, [0], 0, 1, 1, false⟩,
    ⟨8, 8, .ro, [0], 0, 255, 1, false⟩,
    ⟨16, 16, .ro, [0], 0, 65535, 1, false⟩,
    ⟨32, 16, .ro, [0], 0, 65535, 1, false⟩]⟩

/-- `twin.prefetch` (13 R361). -/
def par_twin_prefetch : ParSpec :=
  ⟨6, 12, 8, 0, 0, 8, .ro, "prefetch",
   [⟨0, 32, .ro, [0], 0, 4294967295, 1, false⟩,
    ⟨32, 32, .ro, [0], 0, 4294967295, 1, false⟩]⟩

/-- `twin.sem` (13 R361). -/
def par_twin_sem : ParSpec :=
  ⟨7, 8, 8, 0, 0, 1, .ro, "sem",
   [⟨0, 16, .ro, [0], 0, 65535, 1, false⟩,
    ⟨16, 16, .ro, [0], 0, 65535, 1, false⟩,
    ⟨32, 16, .ro, [0], 0, 65535, 1, false⟩,
    ⟨48, 16, .ro, [0], 0, 65535, 1, false⟩]⟩

/-- `twin.status` (13 R361). -/
def par_twin_status : ParSpec :=
  ⟨8, 8, 8, 0, 0, 1, .ro, "status",
   [⟨0, 3, .ro, [0], 0, 7, 1, false⟩,
    ⟨8, 16, .ro, [0], 0, 65535, 1, false⟩,
    ⟨24, 8, .ro, [0], 0, 255, 1, false⟩,
    ⟨32, 32, .ro, [0], 0, 4294967295, 1, false⟩]⟩

/-- `twin.posterr` (13 R361). -/
def par_twin_posterr : ParSpec :=
  ⟨9, 8, 8, 0, 0, 1, .ro, "posterr",
   [⟨0, 32, .ro, [0], 0, 4294967295, 1, false⟩,
    ⟨32, 3, .ro, [0], 0, 7, 1, false⟩]⟩

/-- The family `twin` (03 R90). -/
def fam_twin : FamSpec := ⟨"twin", "", 0x5000, 0x10, 1,
  [par_twin_cfg, par_twin_window, par_twin_inbound, par_twin_mirror, par_twin_pair, par_twin_link, par_twin_prefetch, par_twin_sem, par_twin_status, par_twin_posterr]⟩

/-- `mem.cfg` (15 R408). -/
def par_mem_cfg : ParSpec :=
  ⟨0, 10, 4, 0, 2, 1, .rw, "cfg",
   [⟨0, 1, .rw, [1], 0, 1, 1, false⟩,
    ⟨4, 14, .rw, [760], 100, 10000, 1, false⟩,
    ⟨18, 8, .rw, [30], 1, 255, 1, false⟩]⟩

/-- `mem.scrub` (15 R408). -/
def par_mem_scrub : ParSpec :=
  ⟨1, 8, 8, 0, 0, 1, .rw, "scrub",
   [⟨0, 32, .rw, [0], 0, 4294967295, 1, false⟩,
    ⟨32, 1, .rw, [0], 0, 1, 1, false⟩]⟩

/-- `mem.inject` (15 R408). -/
def par_mem_inject : ParSpec :=
  ⟨2, 12, 8, 0, 0, 2, .rw, "inject",
   [⟨0, 64, .rw, [0], 0, 18446744073709551615, 1, false⟩]⟩

/-- `mem.status` (15 R408). -/
def par_mem_status : ParSpec :=
  ⟨3, 8, 8, 0, 0, 1, .ro, "status",
   [⟨0, 24, .ro, [0], 0, 16777215, 1, false⟩,
    ⟨24, 16, .ro, [0], 0, 65535, 1, false⟩,
    ⟨40, 5, .ro, [0], 0, 31, 1, false⟩,
    ⟨45, 1, .ro, [0], 0, 1, 1, false⟩]⟩

/-- `mem.counts` (15 R408). -/
def par_mem_counts : ParSpec :=
  ⟨4, 12, 8, 0, 1, 12, .ro, "counts",
   [⟨0, 16, .ro, [0], 0, 65535, 1, false⟩,
    ⟨16, 16, .ro, [0], 0, 65535, 1, false⟩,
    ⟨32, 16, .ro, [0], 0, 65535, 1, false⟩,
    ⟨48, 16, .ro, [0], 0, 65535, 1, false⟩]⟩

/-- `mem.selftest` (15 R408). -/
def par_mem_selftest : ParSpec :=
  ⟨5, 12, 8, 0, 0, 74, .ro, "selftest",
   [⟨0, 2, .ro, [0], 0, 3, 1, false⟩,
    ⟨8, 4, .ro, [0], 0, 15, 1, false⟩,
    ⟨16, 16, .ro, [0], 0, 65535, 1, false⟩]⟩

/-- The family `mem` (03 R90). -/
def fam_mem : FamSpec := ⟨"mem", "", 0x5800, 0x10, 1,
  [par_mem_cfg, par_mem_scrub, par_mem_inject, par_mem_status, par_mem_counts, par_mem_selftest]⟩

/-- `fw.state` (16 R424). -/
def par_fw_state : ParSpec :=
  ⟨0, 8, 8, 0, 0, 1, .ro, "state",
   [⟨0, 3, .ro, [0], 0, 7, 1, false⟩,
    ⟨3, 3, .ro, [0], 0, 7, 1, false⟩,
    ⟨6, 1, .ro, [0], 0, 1, 1, false⟩,
    ⟨7, 1, .ro, [0], 0, 1, 1, false⟩,
    ⟨8, 3, .ro, [7], 0, 7, 1, false⟩,
    ⟨12, 5, .ro, [16], 0, 31, 1, false⟩,
    ⟨32, 13, .ro, [0], 0, 8191, 1, false⟩,
    ⟨48, 16, .ro, [0], 0, 65535, 1, false⟩]⟩

/-- `fw.slot` (16 R424). -/
def par_fw_slot : ParSpec :=
  ⟨1, 12, 8, 0, 0, 6, .ro, "slot",
   [⟨0, 32, .ro, [0], 0, 4294967295, 1, false⟩,
    ⟨32, 16, .ro, [0], 0, 65535, 1, false⟩,
    ⟨48, 16, .ro, [0], 0, 65535, 1, false⟩]⟩

/-- `fw.cfg` (16 R424). -/
def par_fw_cfg : ParSpec :=
  ⟨2, 10, 4, 0, 2, 1, .rw, "cfg",
   [⟨0, 8, .rw, [60], 0, 255, 1, false⟩]⟩

/-- `fw.confirm` (16 R424). -/
def par_fw_confirm : ParSpec :=
  ⟨3, 10, 4, 0, 0, 1, .wo, "confirm",
   [⟨0, 1, .wo, [0], 0, 1, 1, false⟩]⟩

/-- `fw.rollback` (16 R424). -/
def par_fw_rollback : ParSpec :=
  ⟨4, 6, 4, 0, 2, 1, .ro, "rollback",
   [⟨0, 32, .ro, [0], 0, 4294967295, 1, false⟩]⟩

/-- `fw.keys` (16 R424). -/
def par_fw_keys : ParSpec :=
  ⟨5, 10, 4, 0, 2, 1, .ro, "keys",
   [⟨0, 4, .ro, [0], 0, 15, 1, false⟩,
    ⟨4, 4, .ro, [0], 0, 15, 1, false⟩,
    ⟨8, 1, .ro, [0], 0, 1, 1, false⟩]⟩

/-- `fw.attest_pub` (16 R424). -/
def par_fw_attest_pub : ParSpec :=
  ⟨6, 11, 64, 0, 2, 1, .ro, "attest_pub",
   [⟨0, 512, .ro, [0], 0, 0xffffffffffffffffffffffffffffffffffffffffffffffffffffffffffffffffffffffffffffffffffffffffffffffffffffffffffffffffffffffffffffffff, 1, false⟩]⟩

/-- `fw.app_key` (16 R424). -/
def par_fw_app_key : ParSpec :=
  ⟨7, 11, 64, 0, 2, 1, .rw, "app_key",
   [⟨0, 512, .rw, [0], 0, 0xffffffffffffffffffffffffffffffffffffffffffffffffffffffffffffffffffffffffffffffffffffffffffffffffffffffffffffffffffffffffffffffff, 1, false⟩]⟩

/-- The family `fw` (03 R90). -/
def fam_fw : FamSpec := ⟨"fw", "", 0x6000, 0x10, 1,
  [par_fw_state, par_fw_slot, par_fw_cfg, par_fw_confirm, par_fw_rollback, par_fw_keys, par_fw_attest_pub, par_fw_app_key]⟩

/-- `app.a[n].cfg` (14 R388). -/
def par_app_cfg : ParSpec :=
  ⟨0, 10, 4, 0, 2, 1, .rw, "cfg",
   [⟨0, 1, .rw, [0], 0, 1, 1, false⟩,
    ⟨1, 1, .rw, [0], 0, 1, 1, false⟩,
    ⟨4, 14, .rw, [0], 0, 16383, 1, false⟩,
    ⟨18, 10, .rw, [0], 0, 1000, 1, false⟩]⟩

/-- `app.a[n].grant` (14 R388). -/
def par_app_grant : ParSpec :=
  ⟨1, 12, 8, 0, 2, 32, .rw, "grant",
   [⟨0, 4, .rw, [0], 0, 15, 1, false⟩,
    ⟨4, 1, .rw, [0], 0, 1, 1, false⟩,
    ⟨16, 16, .rw, [0], 0, 65535, 1, false⟩,
    ⟨32, 16, .rw, [0], 0, 65535, 1, false⟩]⟩

/-- `app.a[n].ring` (14 R388). -/
def par_app_ring : ParSpec :=
  ⟨2, 8, 8, 0, 2, 1, .rw, "ring",
   [⟨0, 16, .rw, [0], 0, 65535, 1, false⟩,
    ⟨16, 16, .rw, [0], 0, 65535, 1, false⟩,
    ⟨32, 16, .rw, [0], 0, 65535, 1, false⟩,
    ⟨48, 16, .rw, [0], 0, 65535, 1, false⟩]⟩

/-- `app.a[n].status` (14 R388). -/
def par_app_status : ParSpec :=
  ⟨3, 8, 8, 0, 0, 1, .ro, "status",
   [⟨0, 2, .ro, [0], 0, 3, 1, false⟩,
    ⟨8, 8, .ro, [0], 0, 255, 1, false⟩,
    ⟨16, 8, .ro, [0], 0, 255, 1, false⟩,
    ⟨24, 8, .ro, [0], 0, 255, 1, false⟩,
    ⟨32, 32, .ro, [0], 0, 4294967295, 1, false⟩]⟩

/-- The family `app.a[n]` (03 R90). -/
def fam_app : FamSpec := ⟨"app.a[", "]", 0x7000, 0x40, 4,
  [par_app_cfg, par_app_grant, par_app_ring, par_app_status]⟩

/-- Every family of 03 R90, by base. -/
def famTable : List FamSpec :=
  [fam_atlas, fam_pace, fam_pwr, fam_svy, fam_iso, fam_ch, fam_comp, fam_gen,
   fam_contour, fam_valve, fam_bank, fam_lc, fam_mx, fam_ntc, fam_sw, fam_can,
   fam_lin, fam_mrd, fam_eth, fam_spe, fam_swx, fam_ns, fam_lf, fam_fe,
   fam_acc, fam_token, fam_twin, fam_mem, fam_fw, fam_app]

/-- `mem.inject[1]` has a layout of its own (15 R408). -/
def par_mem_inject1 : ParSpec :=
  ⟨2, 12, 8, 0, 0, 2, .rw, "inject",
   [⟨0, 8, .rw, [0], 0, 255, 1, false⟩, ⟨8, 4, .rw, [0], 0, 15, 1, false⟩, ⟨12, 1, .rw, [0], 0, 1, 1, false⟩,
    ⟨13, 1, .rw, [0], 0, 1, 1, false⟩, ⟨14, 1, .ro, [0], 0, 1, 1, false⟩]⟩

/-! The fields that meanings read, named <family><Member>_<FIELD>. -/

def Pf.atlasIe_IE : ParField := ⟨0x0, 0x0, 0, 0, 16⟩
def Pf.atlasBe_BE : ParField := ⟨0x0, 0x0, 1, 0, 16⟩
def Pf.atlasBeMin_BEMIN : ParField := ⟨0x0, 0x0, 2, 0, 16⟩
def Pf.atlasBeMax_BEMAX : ParField := ⟨0x0, 0x0, 3, 0, 16⟩
def Pf.atlasBePin_PIN : ParField := ⟨0x0, 0x0, 4, 0, 16⟩
def Pf.atlasFleetCommitted_FLEET : ParField := ⟨0x0, 0x0, 5, 0, 16⟩
def Pf.atlasUdpPort_PORT : ParField := ⟨0x0, 0x0, 6, 0, 16⟩
def Pf.atlasUplinkPeer_PEER : ParField := ⟨0x0, 0x0, 7, 0, 128⟩
def Pf.atlasUplinkIf_IF : ParField := ⟨0x0, 0x0, 8, 0, 8⟩
def Pf.atlasSessionTimeout_TMO : ParField := ⟨0x0, 0x0, 9, 0, 32⟩
def Pf.atlasHandleKeep_KEEP : ParField := ⟨0x0, 0x0, 10, 0, 32⟩
def Pf.atlasBenchMode_MODE : ParField := ⟨0x0, 0x0, 11, 0, 8⟩
def Pf.paceOp_OP : ParField := ⟨0x40, 0x1, 0, 0, 8⟩
def Pf.pwrState_STATE : ParField := ⟨0x80, 0x0, 0, 0, 3⟩
def Pf.pwrState_PDON : ParField := ⟨0x80, 0x0, 0, 8, 16⟩
def Pf.pwrState_ENTRIES : ParField := ⟨0x80, 0x0, 0, 32, 16⟩
def Pf.pwrState_REFUSED : ParField := ⟨0x80, 0x0, 0, 48, 8⟩
def Pf.pwrState_LASTREF : ParField := ⟨0x80, 0x0, 0, 56, 4⟩
def Pf.pwrRunDomains_MASK : ParField := ⟨0x80, 0x0, 1, 0, 16⟩
def Pf.pwrHoldDomains_MASK : ParField := ⟨0x80, 0x0, 2, 0, 16⟩
def Pf.pwrParkRetain_MASK : ParField := ⟨0x80, 0x0, 3, 0, 32⟩
def Pf.pwrParkArm_ARM : ParField := ⟨0x80, 0x0, 4, 0, 28⟩
def Pf.pwrDormantArm_ARM : ParField := ⟨0x80, 0x0, 5, 0, 28⟩
def Pf.pwrAlarm_AT : ParField := ⟨0x80, 0x0, 6, 0, 48⟩
def Pf.pwrFeed_VA : ParField := ⟨0x80, 0x0, 7, 0, 16⟩
def Pf.pwrFeed_VB : ParField := ⟨0x80, 0x0, 7, 16, 16⟩
def Pf.pwrFeed_AOK : ParField := ⟨0x80, 0x0, 7, 32, 1⟩
def Pf.pwrFeed_BOK : ParField := ⟨0x80, 0x0, 7, 33, 1⟩
def Pf.svyPeriod_PER : ParField := ⟨0xA0, 0x0, 0, 0, 32⟩
def Pf.svyConfirm_CONF : ParField := ⟨0xA0, 0x0, 1, 0, 32⟩
def Pf.svyDperiod_DPER : ParField := ⟨0xA0, 0x0, 2, 0, 32⟩
def Pf.svyRunPeriod_RPER : ParField := ⟨0xA0, 0x0, 3, 0, 16⟩
def Pf.svyState_STORED : ParField := ⟨0xA0, 0x0, 4, 0, 48⟩
def Pf.svyChanged_CHG : ParField := ⟨0xA0, 0x0, 5, 0, 48⟩
def Pf.svyAck_ACK : ParField := ⟨0xA0, 0x0, 6, 0, 48⟩
def Pf.svyStatus_RUNNING : ParField := ⟨0xA0, 0x0, 7, 0, 1⟩
def Pf.svyStatus_MEMBERS : ParField := ⟨0xA0, 0x0, 7, 8, 8⟩
def Pf.svyStatus_LASTCYC : ParField := ⟨0xA0, 0x0, 7, 16, 48⟩
def Pf.isoBudgetW_BUDGET : ParField := ⟨0xC0, 0x0, 0, 0, 32⟩
def Pf.isoPeakW_PEAK : ParField := ⟨0xC0, 0x0, 1, 0, 32⟩
def Pf.isoBurstMj_CAP : ParField := ⟨0xC0, 0x0, 2, 0, 32⟩
def Pf.isoRfrac_RFRAC : ParField := ⟨0xC0, 0x0, 3, 0, 16⟩
def Pf.isoBlockMs_BLOCK : ParField := ⟨0xC0, 0x0, 4, 0, 16⟩
def Pf.isoDiverge_DIV : ParField := ⟨0xC0, 0x0, 5, 0, 16⟩
def Pf.isoTjWarn_WARN : ParField := ⟨0xC0, 0x0, 6, 0, 16⟩
def Pf.isoStatus_S : ParField := ⟨0xC0, 0x0, 7, 0, 16⟩
def Pf.isoStatus_E : ParField := ⟨0xC0, 0x0, 7, 16, 16⟩
def Pf.isoStatus_Q : ParField := ⟨0xC0, 0x0, 7, 32, 16⟩
def Pf.isoStatus_PENDING : ParField := ⟨0xC0, 0x0, 7, 48, 8⟩
def Pf.isoStatus_OVER : ParField := ⟨0xC0, 0x0, 7, 56, 1⟩
def Pf.isoStatus_BLOCKING : ParField := ⟨0xC0, 0x0, 7, 57, 1⟩
def Pf.isoUnit_RESV : ParField := ⟨0xC0, 0x0, 8, 0, 16⟩
def Pf.isoUnit_ILEARN : ParField := ⟨0xC0, 0x0, 8, 16, 16⟩
def Pf.isoUnit_DEFERS : ParField := ⟨0xC0, 0x0, 8, 32, 16⟩
def Pf.isoUnit_STATE : ParField := ⟨0xC0, 0x0, 8, 48, 3⟩
def Pf.isoUnit_POOL : ParField := ⟨0xC0, 0x0, 8, 56, 8⟩
def Pf.isoTcase_TCASE : ParField := ⟨0xC0, 0x0, 9, 0, 16⟩
def Pf.isoTcase_DIVERGE : ParField := ⟨0xC0, 0x0, 9, 16, 16⟩
def Pf.chCfg_PROFILE : ParField := ⟨0x1000, 0x20, 0, 0, 3⟩
def Pf.chCfg_RB : ParField := ⟨0x1000, 0x20, 0, 3, 1⟩
def Pf.chCfg_ORPHAN : ParField := ⟨0x1000, 0x20, 0, 4, 2⟩
def Pf.chCfg_SCLASS : ParField := ⟨0x1000, 0x20, 0, 6, 2⟩
def Pf.chCfg_PRIO : ParField := ⟨0x1000, 0x20, 0, 8, 4⟩
def Pf.chCfg_BRIDGE : ParField := ⟨0x1000, 0x20, 0, 12, 1⟩
def Pf.chCfg_SLEW : ParField := ⟨0x1000, 0x20, 0, 13, 2⟩
def Pf.chCfg_DUALFED : ParField := ⟨0x1000, 0x20, 0, 15, 1⟩
def Pf.chIlim_ILIM : ParField := ⟨0x1000, 0x20, 1, 0, 32⟩
def Pf.chInrush_IPEAK : ParField := ⟨0x1000, 0x20, 2, 0, 12⟩
def Pf.chInrush_TINR : ParField := ⟨0x1000, 0x20, 2, 16, 12⟩
def Pf.chWire_IRATED : ParField := ⟨0x1000, 0x20, 3, 0, 16⟩
def Pf.chWire_TAU : ParField := ⟨0x1000, 0x20, 3, 16, 16⟩
def Pf.chWire_KTRIP : ParField := ⟨0x1000, 0x20, 3, 32, 8⟩
def Pf.chWire_KRESET : ParField := ⟨0x1000, 0x20, 3, 40, 8⟩
def Pf.chDtLimit_DT : ParField := ⟨0x1000, 0x20, 4, 0, 16⟩
def Pf.chOpenload_VTH : ParField := ⟨0x1000, 0x20, 5, 0, 8⟩
def Pf.chOpenload_IPU : ParField := ⟨0x1000, 0x20, 5, 8, 2⟩
def Pf.chOpenload_FILT : ParField := ⟨0x1000, 0x20, 5, 12, 4⟩
def Pf.chOpenload_PERIOD : ParField := ⟨0x1000, 0x20, 5, 16, 8⟩
def Pf.chOpenload_EN : ParField := ⟨0x1000, 0x20, 5, 24, 1⟩
def Pf.chOpenload_POL : ParField := ⟨0x1000, 0x20, 5, 25, 1⟩
def Pf.chRetry_DELAY : ParField := ⟨0x1000, 0x20, 6, 0, 16⟩
def Pf.chRetry_NORETRY : ParField := ⟨0x1000, 0x20, 6, 16, 1⟩
def Pf.chStatus_STATE : ParField := ⟨0x1000, 0x20, 7, 0, 4⟩
def Pf.chStatus_OPENLOAD : ParField := ⟨0x1000, 0x20, 7, 4, 1⟩
def Pf.chStatus_SHORT : ParField := ⟨0x1000, 0x20, 7, 5, 1⟩
def Pf.chStatus_REVBLOCK : ParField := ⟨0x1000, 0x20, 7, 6, 1⟩
def Pf.chStatus_BRAKE : ParField := ⟨0x1000, 0x20, 7, 7, 1⟩
def Pf.chStatus_FAULT : ParField := ⟨0x1000, 0x20, 7, 8, 8⟩
def Pf.chStatus_TRANS : ParField := ⟨0x1000, 0x20, 7, 16, 8⟩
def Pf.chStatus_LASTING : ParField := ⟨0x1000, 0x20, 7, 24, 8⟩
def Pf.chStatus_IMEAS : ParField := ⟨0x1000, 0x20, 7, 32, 16⟩
def Pf.chStatus_TJ : ParField := ⟨0x1000, 0x20, 7, 48, 16⟩
def Pf.compCfg_EN : ParField := ⟨0x1800, 0x20, 0, 0, 1⟩
def Pf.compCfg_KIND : ParField := ⟨0x1800, 0x20, 0, 1, 1⟩
def Pf.compCfg_GANG : ParField := ⟨0x1800, 0x20, 0, 2, 1⟩
def Pf.compCfg_SCLASS : ParField := ⟨0x1800, 0x20, 0, 6, 2⟩
def Pf.compCfg_PRIO : ParField := ⟨0x1800, 0x20, 0, 8, 4⟩
def Pf.compMember_MEMBER : ParField := ⟨0x1800, 0x20, 1, 0, 1⟩
def Pf.compStatus_STATE : ParField := ⟨0x1800, 0x20, 2, 0, 4⟩
def Pf.compStatus_DEGRADED : ParField := ⟨0x1800, 0x20, 2, 4, 1⟩
def Pf.compStatus_LEVEL : ParField := ⟨0x1800, 0x20, 2, 5, 3⟩
def Pf.compStatus_FAULT : ParField := ⟨0x1800, 0x20, 2, 8, 8⟩
def Pf.compStatus_TRANS : ParField := ⟨0x1800, 0x20, 2, 16, 8⟩
def Pf.compStatus_LASTING : ParField := ⟨0x1800, 0x20, 2, 24, 8⟩
def Pf.compStatus_LEAVES : ParField := ⟨0x1800, 0x20, 2, 32, 7⟩
def Pf.compStatus_FMEMBER : ParField := ⟨0x1800, 0x20, 2, 40, 8⟩
def Pf.compStatus_NLATCHED : ParField := ⟨0x1800, 0x20, 2, 48, 8⟩
def Pf.compMeas_IMEAS : ParField := ⟨0x1800, 0x20, 3, 0, 32⟩
def Pf.compMeas_ILIM : ParField := ⟨0x1800, 0x20, 3, 32, 32⟩
def Pf.genCfg_EN : ParField := ⟨0x1C00, 0x10, 0, 0, 1⟩
def Pf.genCfg_SPREAD : ParField := ⟨0x1C00, 0x10, 0, 1, 2⟩
def Pf.genPeriod_P : ParField := ⟨0x1C00, 0x10, 1, 0, 32⟩
def Pf.genMember_MEMBER : ParField := ⟨0x1C00, 0x10, 2, 0, 1⟩
def Pf.genMember_AUTO : ParField := ⟨0x1C00, 0x10, 2, 1, 1⟩
def Pf.genMember_DIR : ParField := ⟨0x1C00, 0x10, 2, 2, 1⟩
def Pf.genMember_FREEWHEEL : ParField := ⟨0x1C00, 0x10, 2, 3, 1⟩
def Pf.genMember_DUTY : ParField := ⟨0x1C00, 0x10, 2, 8, 10⟩
def Pf.genMember_PHASE : ParField := ⟨0x1C00, 0x10, 2, 32, 10⟩
def Pf.genStatus_MEMBERS : ParField := ⟨0x1C00, 0x10, 3, 0, 8⟩
def Pf.genStatus_PULSING : ParField := ⟨0x1C00, 0x10, 3, 8, 8⟩
def Pf.genStatus_CLAMPED : ParField := ⟨0x1C00, 0x10, 3, 16, 8⟩
def Pf.genStatus_PSTART : ParField := ⟨0x1C00, 0x10, 3, 32, 32⟩
def Pf.contourCfg_EPS_I : ParField := ⟨0x1D00, 0x4, 0, 0, 4⟩
def Pf.contourCfg_EPS_V : ParField := ⟨0x1D00, 0x4, 0, 4, 4⟩
def Pf.contourCfg_EN_I : ParField := ⟨0x1D00, 0x4, 0, 8, 1⟩
def Pf.contourCfg_EN_V : ParField := ⟨0x1D00, 0x4, 0, 9, 1⟩
def Pf.valveCfg_KEN : ParField := ⟨0x2000, 0x10, 0, 0, 1⟩
def Pf.valveCfg_DECAY_B : ParField := ⟨0x2000, 0x10, 0, 1, 1⟩
def Pf.valveCfg_DECAY_P : ParField := ⟨0x2000, 0x10, 0, 2, 1⟩
def Pf.valveCfg_DECAY_H : ParField := ⟨0x2000, 0x10, 0, 3, 1⟩
def Pf.valveCfg_NORETRY : ParField := ⟨0x2000, 0x10, 0, 4, 1⟩
def Pf.valveCfg_SCLASS : ParField := ⟨0x2000, 0x10, 0, 6, 2⟩
def Pf.valveCfg_PRIO : ParField := ⟨0x2000, 0x10, 0, 8, 4⟩
def Pf.valveCfg_DELAY : ParField := ⟨0x2000, 0x10, 0, 16, 16⟩
def Pf.valveLevels_IBOOST : ParField := ⟨0x2000, 0x10, 1, 0, 16⟩
def Pf.valveLevels_IPEAK : ParField := ⟨0x2000, 0x10, 1, 16, 16⟩
def Pf.valveLevels_IHOLD : ParField := ⟨0x2000, 0x10, 1, 32, 16⟩
def Pf.valveLevels_LCOIL : ParField := ⟨0x2000, 0x10, 1, 48, 16⟩
def Pf.valveTimes_TBOOST : ParField := ⟨0x2000, 0x10, 2, 0, 16⟩
def Pf.valveTimes_TPEAK : ParField := ⟨0x2000, 0x10, 2, 16, 16⟩
def Pf.valveTimes_THOLD : ParField := ⟨0x2000, 0x10, 2, 32, 16⟩
def Pf.valveKink_KW : ParField := ⟨0x2000, 0x10, 3, 0, 4⟩
def Pf.valveKink_KTH : ParField := ⟨0x2000, 0x10, 3, 8, 8⟩
def Pf.valveStatus_STATE : ParField := ⟨0x2000, 0x10, 4, 0, 4⟩
def Pf.valveStatus_NOCLOSE : ParField := ⟨0x2000, 0x10, 4, 4, 1⟩
def Pf.valveStatus_FASTDLY : ParField := ⟨0x2000, 0x10, 4, 5, 1⟩
def Pf.valveStatus_RAILLOW : ParField := ⟨0x2000, 0x10, 4, 6, 1⟩
def Pf.valveStatus_BOOSTSKIP : ParField := ⟨0x2000, 0x10, 4, 7, 1⟩
def Pf.valveStatus_FAULT : ParField := ⟨0x2000, 0x10, 4, 8, 8⟩
def Pf.valveStatus_TRANS : ParField := ⟨0x2000, 0x10, 4, 16, 8⟩
def Pf.valveStatus_LASTING : ParField := ⟨0x2000, 0x10, 4, 24, 8⟩
def Pf.valveStatus_TCLOSE : ParField := ⟨0x2000, 0x10, 4, 32, 32⟩
def Pf.bankCfg_FCHOP : ParField := ⟨0x2100, 0x10, 0, 0, 2⟩
def Pf.bankCfg_NOOVERLAP : ParField := ⟨0x2100, 0x10, 0, 2, 1⟩
def Pf.bankRail_BOOSTV : ParField := ⟨0x2100, 0x10, 1, 0, 8⟩
def Pf.bankRail_EN : ParField := ⟨0x2100, 0x10, 1, 8, 1⟩
def Pf.bankStatus_HSON : ParField := ⟨0x2100, 0x10, 2, 0, 1⟩
def Pf.bankStatus_ONBOOST : ParField := ⟨0x2100, 0x10, 2, 1, 1⟩
def Pf.bankStatus_BPOS : ParField := ⟨0x2100, 0x10, 2, 2, 2⟩
def Pf.bankStatus_BWAIT : ParField := ⟨0x2100, 0x10, 2, 4, 1⟩
def Pf.bankStatus_WPOS : ParField := ⟨0x2100, 0x10, 2, 5, 2⟩
def Pf.bankStatus_PTR : ParField := ⟨0x2100, 0x10, 2, 8, 8⟩
def Pf.bankStatus_VRAIL : ParField := ⟨0x2100, 0x10, 2, 16, 16⟩
def Pf.bankStatus_RAILOK : ParField := ⟨0x2100, 0x10, 2, 32, 1⟩
def Pf.bankStatus_RAILFAULT : ParField := ⟨0x2100, 0x10, 2, 33, 1⟩
def Pf.bankStats_WAITS : ParField := ⟨0x2100, 0x10, 3, 0, 16⟩
def Pf.bankStats_REFUSED : ParField := ⟨0x2100, 0x10, 3, 16, 16⟩
def Pf.bankStats_FASTDLY : ParField := ⟨0x2100, 0x10, 3, 32, 16⟩
def Pf.bankStats_WAITMAX : ParField := ⟨0x2100, 0x10, 3, 48, 16⟩
def Pf.lcCfg_EN : ParField := ⟨0x2200, 0x10, 0, 0, 1⟩
def Pf.lcCfg_SB : ParField := ⟨0x2200, 0x10, 0, 1, 1⟩
def Pf.lcCfg_MODE : ParField := ⟨0x2200, 0x10, 0, 2, 1⟩
def Pf.lcCfg_CHK : ParField := ⟨0x2200, 0x10, 0, 3, 1⟩
def Pf.lcCfg_NSLOT : ParField := ⟨0x2200, 0x10, 0, 4, 10⟩
def Pf.lcCfg_NTC : ParField := ⟨0x2200, 0x10, 0, 14, 4⟩
def Pf.lcCfg_FPER : ParField := ⟨0x2200, 0x10, 0, 18, 10⟩
def Pf.lcCfg_LATCH : ParField := ⟨0x2200, 0x10, 0, 28, 4⟩
def Pf.lcSlot_VALUE : ParField := ⟨0x2200, 0x10, 1, 0, 32⟩
def Pf.lcStatus_STATE : ParField := ⟨0x2200, 0x10, 2, 0, 2⟩
def Pf.lcStatus_FLAGS : ParField := ⟨0x2200, 0x10, 2, 2, 4⟩
def Pf.lcStatus_DERATED : ParField := ⟨0x2200, 0x10, 2, 6, 1⟩
def Pf.lcStatus_NFOUND : ParField := ⟨0x2200, 0x10, 2, 8, 10⟩
def Pf.lcStatus_SENT : ParField := ⟨0x2200, 0x10, 2, 32, 16⟩
def Pf.lcStatus_SKIPPED : ParField := ⟨0x2200, 0x10, 2, 48, 16⟩
def Pf.mxCfg_EN : ParField := ⟨0x2280, 0x0, 0, 0, 1⟩
def Pf.mxCfg_STAG : ParField := ⟨0x2280, 0x0, 0, 1, 5⟩
def Pf.mxCfg_SCLASS : ParField := ⟨0x2280, 0x0, 0, 6, 2⟩
def Pf.mxCfg_PRIO : ParField := ⟨0x2280, 0x0, 0, 8, 4⟩
def Pf.mxCfg_VF : ParField := ⟨0x2280, 0x0, 0, 12, 8⟩
def Pf.mxTiming_TROW : ParField := ⟨0x2280, 0x0, 1, 0, 16⟩
def Pf.mxTiming_TBLANK : ParField := ⟨0x2280, 0x0, 1, 16, 12⟩
def Pf.mxIcol_ICOL : ParField := ⟨0x2280, 0x0, 2, 0, 8⟩
def Pf.mxBind_ROWNTC : ParField := ⟨0x2280, 0x0, 3, 0, 32⟩
def Pf.mxPixel_VALUE : ParField := ⟨0x2280, 0x0, 4, 0, 8⟩
def Pf.mxStatus_STATE : ParField := ⟨0x2280, 0x0, 5, 0, 4⟩
def Pf.mxStatus_COLOPEN : ParField := ⟨0x2280, 0x0, 5, 8, 24⟩
def Pf.mxStatus_COLSHORT : ParField := ⟨0x2280, 0x0, 5, 32, 24⟩
def Pf.mxStatus_TRANS : ParField := ⟨0x2280, 0x0, 5, 56, 4⟩
def Pf.mxStatus_LASTING : ParField := ⟨0x2280, 0x0, 5, 60, 4⟩
def Pf.ntcCfg_LMASK : ParField := ⟨0x2300, 0x8, 0, 0, 32⟩
def Pf.ntcCfg_TYPE : ParField := ⟨0x2300, 0x8, 0, 32, 3⟩
def Pf.ntcCfg_FACTOR : ParField := ⟨0x2300, 0x8, 0, 40, 10⟩
def Pf.ntcCfg_SENSE : ParField := ⟨0x2300, 0x8, 0, 50, 2⟩
def Pf.ntcCfg_TEMP : ParField := ⟨0x2300, 0x8, 0, 52, 12⟩
def Pf.ntcCurve_T : ParField := ⟨0x2300, 0x8, 1, 0, 16⟩
def Pf.ntcCurve_F : ParField := ⟨0x2300, 0x8, 1, 16, 10⟩
def Pf.swCfg_EN : ParField := ⟨0x2400, 0x4, 0, 0, 1⟩
def Pf.swCfg_DIR : ParField := ⟨0x2400, 0x4, 0, 1, 1⟩
def Pf.swCfg_IWET : ParField := ⟨0x2400, 0x4, 0, 2, 4⟩
def Pf.swCfg_LO : ParField := ⟨0x2400, 0x4, 0, 6, 8⟩
def Pf.swCfg_HI : ParField := ⟨0x2400, 0x4, 0, 14, 8⟩
def Pf.swCfg_DEB : ParField := ⟨0x2400, 0x4, 0, 22, 4⟩
def Pf.swCfg_SVY : ParField := ⟨0x2400, 0x4, 0, 26, 1⟩
def Pf.swCfg_DSVY : ParField := ⟨0x2400, 0x4, 0, 27, 1⟩
def Pf.swCfg_WAKE : ParField := ⟨0x2400, 0x4, 0, 28, 2⟩
def Pf.swCfg_LEVEL : ParField := ⟨0x2400, 0x4, 0, 32, 8⟩
def Pf.swCfg_STATE : ParField := ⟨0x2400, 0x4, 0, 40, 1⟩
def Pf.swCfg_RAW : ParField := ⟨0x2400, 0x4, 0, 41, 1⟩
def Pf.swCfg_CHANGES : ParField := ⟨0x2400, 0x4, 0, 48, 16⟩
def Pf.canCfg_EN : ParField := ⟨0x3000, 0x40, 0, 0, 1⟩
def Pf.canCfg_OPMODE : ParField := ⟨0x3000, 0x40, 0, 1, 2⟩
def Pf.canCfg_FORMATS : ParField := ⟨0x3000, 0x40, 0, 3, 2⟩
def Pf.canCfg_XCVR : ParField := ⟨0x3000, 0x40, 0, 5, 2⟩
def Pf.canCfg_XLES : ParField := ⟨0x3000, 0x40, 0, 7, 1⟩
def Pf.canCfg_DAR : ParField := ⟨0x3000, 0x40, 0, 8, 1⟩
def Pf.canCfg_BOMANUAL : ParField := ⟨0x3000, 0x40, 0, 9, 1⟩
def Pf.canCfg_NFILT : ParField := ⟨0x3000, 0x40, 0, 10, 9⟩
def Pf.canCfg_NOMATCH : ParField := ⟨0x3000, 0x40, 0, 19, 1⟩
def Pf.canNbt_NBRP : ParField := ⟨0x3000, 0x40, 1, 0, 9⟩
def Pf.canNbt_NTSEG1 : ParField := ⟨0x3000, 0x40, 1, 9, 9⟩
def Pf.canNbt_NTSEG2 : ParField := ⟨0x3000, 0x40, 1, 18, 7⟩
def Pf.canNbt_NSJW : ParField := ⟨0x3000, 0x40, 1, 25, 7⟩
def Pf.canDbt_DBRP : ParField := ⟨0x3000, 0x40, 2, 0, 5⟩
def Pf.canDbt_DTSEG1 : ParField := ⟨0x3000, 0x40, 2, 5, 7⟩
def Pf.canDbt_DTSEG2 : ParField := ⟨0x3000, 0x40, 2, 12, 6⟩
def Pf.canDbt_DSJW : ParField := ⟨0x3000, 0x40, 2, 18, 6⟩
def Pf.canDbt_TDCO : ParField := ⟨0x3000, 0x40, 2, 24, 7⟩
def Pf.canDbt_TDCEN : ParField := ⟨0x3000, 0x40, 2, 31, 1⟩
def Pf.canXbt_XBRP : ParField := ⟨0x3000, 0x40, 3, 0, 5⟩
def Pf.canXbt_XTSEG1 : ParField := ⟨0x3000, 0x40, 3, 5, 7⟩
def Pf.canXbt_XTSEG2 : ParField := ⟨0x3000, 0x40, 3, 12, 6⟩
def Pf.canXbt_XSJW : ParField := ⟨0x3000, 0x40, 3, 18, 6⟩
def Pf.canXbt_XTDCO : ParField := ⟨0x3000, 0x40, 3, 24, 7⟩
def Pf.canXbt_XTDCEN : ParField := ⟨0x3000, 0x40, 3, 31, 1⟩
def Pf.canXbt_PWMS : ParField := ⟨0x3000, 0x40, 3, 32, 6⟩
def Pf.canXbt_PWML : ParField := ⟨0x3000, 0x40, 3, 38, 6⟩
def Pf.canXbt_PWMO : ParField := ⟨0x3000, 0x40, 3, 44, 6⟩
def Pf.canFilter_ELEMENT : ParField := ⟨0x3000, 0x40, 4, 0, 64⟩
def Pf.canStatus_TEC : ParField := ⟨0x3000, 0x40, 5, 0, 8⟩
def Pf.canStatus_REC : ParField := ⟨0x3000, 0x40, 5, 8, 8⟩
def Pf.canStatus_STATE : ParField := ⟨0x3000, 0x40, 5, 16, 2⟩
def Pf.canStatus_TDCSAT : ParField := ⟨0x3000, 0x40, 5, 18, 1⟩
def Pf.canStatus_BUSOFFS : ParField := ⟨0x3000, 0x40, 5, 24, 8⟩
def Pf.canStatus_TXFAIL : ParField := ⟨0x3000, 0x40, 5, 32, 12⟩
def Pf.canStatus_RXDROP : ParField := ⟨0x3000, 0x40, 5, 44, 10⟩
def Pf.canStatus_TUNDROP : ParField := ⟨0x3000, 0x40, 5, 54, 10⟩
def Pf.linCfg_EN : ParField := ⟨0x3200, 0x20, 0, 0, 1⟩
def Pf.linCfg_ROLE : ParField := ⟨0x3200, 0x20, 0, 1, 1⟩
def Pf.linCfg_BAUD : ParField := ⟨0x3200, 0x20, 0, 2, 15⟩
def Pf.linCfg_START : ParField := ⟨0x3200, 0x20, 0, 17, 1⟩
def Pf.linCfg_NSCHED : ParField := ⟨0x3200, 0x20, 0, 18, 7⟩
def Pf.linCfg_BREAK : ParField := ⟨0x3200, 0x20, 0, 25, 4⟩
def Pf.linSched_ID : ParField := ⟨0x3200, 0x20, 1, 0, 6⟩
def Pf.linSched_TYPE : ParField := ⟨0x3200, 0x20, 1, 6, 2⟩
def Pf.linSched_DELAY : ParField := ⟨0x3200, 0x20, 1, 8, 8⟩
def Pf.linSched_AFIRST : ParField := ⟨0x3200, 0x20, 1, 16, 6⟩
def Pf.linSched_ANUM : ParField := ⟨0x3200, 0x20, 1, 22, 6⟩
def Pf.linFrame_EN : ParField := ⟨0x3200, 0x20, 2, 0, 1⟩
def Pf.linFrame_PUB : ParField := ⟨0x3200, 0x20, 2, 1, 1⟩
def Pf.linFrame_LEN : ParField := ⟨0x3200, 0x20, 2, 2, 4⟩
def Pf.linFrame_CLASSIC : ParField := ⟨0x3200, 0x20, 2, 6, 1⟩
def Pf.linFrame_TUNNEL : ParField := ⟨0x3200, 0x20, 2, 7, 1⟩
def Pf.linFrame_RERRBIT : ParField := ⟨0x3200, 0x20, 2, 8, 6⟩
def Pf.linFrame_RERREN : ParField := ⟨0x3200, 0x20, 2, 14, 1⟩
def Pf.linStatus_STATE : ParField := ⟨0x3200, 0x20, 3, 0, 2⟩
def Pf.linStatus_SLOT : ParField := ⟨0x3200, 0x20, 3, 8, 6⟩
def Pf.linStatus_NORESP : ParField := ⟨0x3200, 0x20, 3, 16, 16⟩
def Pf.linStatus_CHKERR : ParField := ⟨0x3200, 0x20, 3, 32, 16⟩
def Pf.linStatus_BITERR : ParField := ⟨0x3200, 0x20, 3, 48, 16⟩
def Pf.mrdCfg_EN : ParField := ⟨0x3300, 0x0, 0, 0, 1⟩
def Pf.mrdCfg_PORTS : ParField := ⟨0x3300, 0x0, 0, 1, 8⟩
def Pf.mrdCfg_SRC : ParField := ⟨0x3300, 0x0, 0, 9, 1⟩
def Pf.mrdCfg_HOLD : ParField := ⟨0x3300, 0x0, 0, 10, 16⟩
def Pf.mrdIds_REFID : ParField := ⟨0x3300, 0x0, 1, 0, 29⟩
def Pf.mrdIds_REFXTD : ParField := ⟨0x3300, 0x0, 1, 29, 1⟩
def Pf.mrdIds_FUPID : ParField := ⟨0x3300, 0x0, 1, 32, 29⟩
def Pf.mrdIds_FUPXTD : ParField := ⟨0x3300, 0x0, 1, 61, 1⟩
def Pf.mrdPeriod_PERIOD : ParField := ⟨0x3300, 0x0, 2, 0, 32⟩
def Pf.mrdStatus_TRACED : ParField := ⟨0x3300, 0x0, 3, 0, 1⟩
def Pf.mrdStatus_CYCLE : ParField := ⟨0x3300, 0x0, 3, 1, 6⟩
def Pf.mrdStatus_SYNCAGE : ParField := ⟨0x3300, 0x0, 3, 16, 16⟩
def Pf.mrdStatus_RATE : ParField := ⟨0x3300, 0x0, 3, 32, 32⟩
def Pf.ethCfg_EN : ParField := ⟨0x3400, 0x40, 0, 0, 1⟩
def Pf.ethCfg_MS : ParField := ⟨0x3400, 0x40, 0, 1, 1⟩
def Pf.ethCfg_PVID : ParField := ⟨0x3400, 0x40, 0, 4, 12⟩
def Pf.ethStatus_LINK : ParField := ⟨0x3400, 0x40, 1, 0, 1⟩
def Pf.ethStatus_SQI : ParField := ⟨0x3400, 0x40, 1, 1, 3⟩
def Pf.ethStatus_ASCAPABLE : ParField := ⟨0x3400, 0x40, 1, 4, 1⟩
def Pf.ethStatus_LINKDOWNS : ParField := ⟨0x3400, 0x40, 1, 16, 16⟩
def Pf.ethStatus_PDELAY : ParField := ⟨0x3400, 0x40, 1, 32, 32⟩
def Pf.ethCounters_COUNT : ParField := ⟨0x3400, 0x40, 2, 0, 48⟩
def Pf.ethCable_RUN : ParField := ⟨0x3400, 0x40, 3, 0, 1⟩
def Pf.ethCable_RESULT : ParField := ⟨0x3400, 0x40, 3, 1, 3⟩
def Pf.ethCable_DIST : ParField := ⟨0x3400, 0x40, 3, 4, 12⟩
def Pf.ethCbs_IDLESLOPE : ParField := ⟨0x3400, 0x40, 4, 0, 32⟩
def Pf.ethPrio_TC : ParField := ⟨0x3400, 0x40, 5, 0, 3⟩
def Pf.speCfg_EN : ParField := ⟨0x3480, 0x20, 0, 0, 1⟩
def Pf.speCfg_PLCA : ParField := ⟨0x3480, 0x20, 0, 1, 1⟩
def Pf.speCfg_NODEID : ParField := ⟨0x3480, 0x20, 0, 2, 8⟩
def Pf.speCfg_NODECNT : ParField := ⟨0x3480, 0x20, 0, 10, 8⟩
def Pf.speCfg_PVID : ParField := ⟨0x3480, 0x20, 0, 18, 12⟩
def Pf.spePlca_TO : ParField := ⟨0x3480, 0x20, 1, 0, 8⟩
def Pf.spePlca_BURSTCNT : ParField := ⟨0x3480, 0x20, 1, 8, 8⟩
def Pf.spePlca_BURSTTMR : ParField := ⟨0x3480, 0x20, 1, 16, 8⟩
def Pf.speStatus_BEACON : ParField := ⟨0x3480, 0x20, 2, 0, 1⟩
def Pf.speStatus_CSMA : ParField := ⟨0x3480, 0x20, 2, 1, 1⟩
def Pf.speStatus_BEACONLOSS : ParField := ⟨0x3480, 0x20, 2, 16, 16⟩
def Pf.speStatus_COLLISIONS : ParField := ⟨0x3480, 0x20, 2, 32, 32⟩
def Pf.speCounters_COUNT : ParField := ⟨0x3480, 0x20, 3, 0, 48⟩
def Pf.swxCfg_EPVID : ParField := ⟨0x3500, 0x0, 0, 0, 12⟩
def Pf.swxCfg_LEARN : ParField := ⟨0x3500, 0x0, 0, 12, 1⟩
def Pf.swxCfg_AGE : ParField := ⟨0x3500, 0x0, 0, 13, 12⟩
def Pf.swxIp_IP : ParField := ⟨0x3500, 0x0, 1, 0, 128⟩
def Pf.swxMac_MAC : ParField := ⟨0x3500, 0x0, 2, 0, 48⟩
def Pf.swxVlan_VID : ParField := ⟨0x3500, 0x0, 3, 0, 12⟩
def Pf.swxVlan_MEMBER : ParField := ⟨0x3500, 0x0, 3, 12, 5⟩
def Pf.swxVlan_UNTAG : ParField := ⟨0x3500, 0x0, 3, 17, 5⟩
def Pf.swxVlan_VALID : ParField := ⟨0x3500, 0x0, 3, 22, 1⟩
def Pf.swxFdb_MAC : ParField := ⟨0x3500, 0x0, 4, 0, 48⟩
def Pf.swxFdb_PORTS : ParField := ⟨0x3500, 0x0, 4, 48, 5⟩
def Pf.swxFdb_VALID : ParField := ⟨0x3500, 0x0, 4, 53, 1⟩
def Pf.swxStatus_LEARNED : ParField := ⟨0x3500, 0x0, 5, 0, 11⟩
def Pf.swxStatus_LEARNFULL : ParField := ⟨0x3500, 0x0, 5, 16, 16⟩
def Pf.swxStatus_VLANDROP : ParField := ⟨0x3500, 0x0, 5, 32, 16⟩
def Pf.nsCfg_EN : ParField := ⟨0x3600, 0x0, 0, 0, 1⟩
def Pf.nsCfg_TARGET : ParField := ⟨0x3600, 0x0, 0, 1, 1⟩
def Pf.nsCfg_NODE : ParField := ⟨0x3600, 0x0, 0, 2, 6⟩
def Pf.nsCfg_TMO : ParField := ⟨0x3600, 0x0, 0, 8, 16⟩
def Pf.nsCfg_KAPER : ParField := ⟨0x3600, 0x0, 0, 24, 8⟩
def Pf.nsCfg_FWTMO : ParField := ⟨0x3600, 0x0, 0, 32, 12⟩
def Pf.nsCfg_WAKEHOLD : ParField := ⟨0x3600, 0x0, 0, 44, 12⟩
def Pf.nsCfg_WMLIMIT : ParField := ⟨0x3600, 0x0, 0, 56, 8⟩
def Pf.nsNeed_NEED : ParField := ⟨0x3600, 0x0, 1, 0, 4⟩
def Pf.nsKa_CAN : ParField := ⟨0x3600, 0x0, 2, 0, 8⟩
def Pf.nsKa_ETH : ParField := ⟨0x3600, 0x0, 2, 8, 2⟩
def Pf.nsKa_SPE : ParField := ⟨0x3600, 0x0, 2, 10, 2⟩
def Pf.nsKa_KABASE : ParField := ⟨0x3600, 0x0, 2, 12, 11⟩
def Pf.nsWuf_ELEMENT : ParField := ⟨0x3600, 0x0, 3, 0, 64⟩
def Pf.nsStatus_STATE : ParField := ⟨0x3600, 0x0, 4, 0, 3⟩
def Pf.nsStatus_LOCAL : ParField := ⟨0x3600, 0x0, 4, 8, 4⟩
def Pf.nsStatus_LEFT : ParField := ⟨0x3600, 0x0, 4, 16, 16⟩
def Pf.nsStatus_LASTNODE : ParField := ⟨0x3600, 0x0, 4, 32, 8⟩
def Pf.nsStatus_LASTLINK : ParField := ⟨0x3600, 0x0, 4, 40, 5⟩
def Pf.nsStatus_ABORTS : ParField := ⟨0x3600, 0x0, 4, 48, 16⟩
def Pf.nsWaymark_LINK : ParField := ⟨0x3600, 0x0, 5, 0, 5⟩
def Pf.nsWaymark_ACTIVE : ParField := ⟨0x3600, 0x0, 5, 5, 1⟩
def Pf.nsWaymark_NODE : ParField := ⟨0x3600, 0x0, 5, 8, 8⟩
def Pf.nsWaymark_REASON : ParField := ⟨0x3600, 0x0, 5, 16, 8⟩
def Pf.nsWaymark_MINUTES : ParField := ⟨0x3600, 0x0, 5, 24, 16⟩
def Pf.nsWaymark_FIRST : ParField := ⟨0x3600, 0x0, 5, 40, 24⟩
def Pf.lfCfg_EN : ParField := ⟨0x4000, 0x10, 0, 0, 1⟩
def Pf.lfCfg_ILF : ParField := ⟨0x4000, 0x10, 0, 1, 5⟩
def Pf.lfCfg_GAIN : ParField := ⟨0x4000, 0x10, 0, 8, 8⟩
def Pf.lfCfg_TUNE : ParField := ⟨0x4000, 0x10, 0, 16, 6⟩
def Pf.lfStatus_STATE : ParField := ⟨0x4000, 0x10, 1, 0, 2⟩
def Pf.lfStatus_FAULT : ParField := ⟨0x4000, 0x10, 1, 2, 2⟩
def Pf.lfStatus_IPEAK : ParField := ⟨0x4000, 0x10, 1, 16, 16⟩
def Pf.lfStatus_FAULTS : ParField := ⟨0x4000, 0x10, 1, 48, 16⟩
def Pf.feCfg_EN : ParField := ⟨0x4080, 0x10, 0, 0, 1⟩
def Pf.feCfg_ADLY : ParField := ⟨0x4080, 0x10, 0, 1, 16⟩
def Pf.feStatus_LINK : ParField := ⟨0x4080, 0x10, 1, 0, 1⟩
def Pf.feStatus_LINKERR : ParField := ⟨0x4080, 0x10, 1, 16, 16⟩
def Pf.feStatus_FRAMES : ParField := ⟨0x4080, 0x10, 1, 32, 16⟩
def Pf.feStatus_FPPOWER : ParField := ⟨0x4080, 0x10, 1, 48, 16⟩
def Pf.accCfg_EN : ParField := ⟨0x4100, 0x0, 0, 0, 1⟩
def Pf.accCfg_RETRIES : ParField := ⟨0x4100, 0x0, 0, 1, 2⟩
def Pf.accCfg_AERIALS : ParField := ⟨0x4100, 0x0, 0, 3, 8⟩
def Pf.accCfg_IMASK : ParField := ⟨0x4100, 0x0, 0, 11, 8⟩
def Pf.accRadio_WAKEID : ParField := ⟨0x4100, 0x0, 1, 0, 16⟩
def Pf.accRadio_CH : ParField := ⟨0x4100, 0x0, 1, 16, 1⟩
def Pf.accRadio_PCODE : ParField := ⟨0x4100, 0x0, 1, 17, 4⟩
def Pf.accRadio_STSQ : ParField := ⟨0x4100, 0x0, 1, 24, 8⟩
def Pf.accZone_EN : ParField := ⟨0x4100, 0x0, 2, 0, 1⟩
def Pf.accZone_INSIDE : ParField := ⟨0x4100, 0x0, 2, 1, 1⟩
def Pf.accZone_PRIMARY : ParField := ⟨0x4100, 0x0, 2, 2, 3⟩
def Pf.accZone_FMIN : ParField := ⟨0x4100, 0x0, 2, 8, 8⟩
def Pf.accZone_MARGIN : ParField := ⟨0x4100, 0x0, 2, 16, 8⟩
def Pf.accZone_OTHERS : ParField := ⟨0x4100, 0x0, 2, 24, 8⟩
def Pf.accZone_DMAX : ParField := ⟨0x4100, 0x0, 2, 32, 16⟩
def Pf.accLockout_LOCKMIN : ParField := ⟨0x4100, 0x0, 3, 0, 5⟩
def Pf.accLockout_FAILS : ParField := ⟨0x4100, 0x0, 3, 8, 3⟩
def Pf.accLockout_ACTIVE : ParField := ⟨0x4100, 0x0, 3, 16, 1⟩
def Pf.accLockout_LEFT : ParField := ⟨0x4100, 0x0, 3, 32, 16⟩
def Pf.accLockout_COUNT : ParField := ⟨0x4100, 0x0, 3, 48, 16⟩
def Pf.accStatus_STATE : ParField := ⟨0x4100, 0x0, 4, 0, 3⟩
def Pf.accStatus_QUEUED : ParField := ⟨0x4100, 0x0, 4, 8, 8⟩
def Pf.accStatus_ROUNDS : ParField := ⟨0x4100, 0x0, 4, 16, 16⟩
def Pf.accStatus_COLLISIONS : ParField := ⟨0x4100, 0x0, 4, 32, 16⟩
def Pf.accStatus_FOREIGN : ParField := ⟨0x4100, 0x0, 4, 48, 16⟩
def Pf.accLast_RESULT : ParField := ⟨0x4100, 0x0, 5, 0, 4⟩
def Pf.accLast_ZONE : ParField := ⟨0x4100, 0x0, 5, 4, 8⟩
def Pf.accLast_DIST : ParField := ⟨0x4100, 0x0, 5, 12, 20⟩
def Pf.accLast_AT : ParField := ⟨0x4100, 0x0, 5, 32, 32⟩
def Pf.tokenCfg_ID : ParField := ⟨0x4200, 0x10, 0, 0, 32⟩
def Pf.tokenCfg_ENROLLED : ParField := ⟨0x4200, 0x10, 0, 32, 1⟩
def Pf.tokenCfg_ACCESS : ParField := ⟨0x4200, 0x10, 0, 33, 1⟩
def Pf.tokenCfg_IMMO : ParField := ⟨0x4200, 0x10, 0, 34, 1⟩
def Pf.tokenStatus_AUTHS : ParField := ⟨0x4200, 0x10, 1, 0, 16⟩
def Pf.tokenStatus_FAILS : ParField := ⟨0x4200, 0x10, 1, 16, 16⟩
def Pf.tokenStatus_LASTDIST : ParField := ⟨0x4200, 0x10, 1, 32, 16⟩
def Pf.tokenStatus_LASTZONE : ParField := ⟨0x4200, 0x10, 1, 48, 8⟩
def Pf.twinCfg_EN : ParField := ⟨0x5000, 0x0, 0, 0, 1⟩
def Pf.twinCfg_PAIR : ParField := ⟨0x5000, 0x0, 0, 1, 1⟩
def Pf.twinCfg_SELFREL : ParField := ⟨0x5000, 0x0, 0, 2, 1⟩
def Pf.twinCfg_WIDTH : ParField := ⟨0x5000, 0x0, 0, 3, 1⟩
def Pf.twinCfg_LOCK : ParField := ⟨0x5000, 0x0, 0, 4, 1⟩
def Pf.twinCfg_YIELD : ParField := ⟨0x5000, 0x0, 0, 5, 1⟩
def Pf.twinWindow_LBASE : ParField := ⟨0x5000, 0x0, 1, 0, 14⟩
def Pf.twinWindow_EN : ParField := ⟨0x5000, 0x0, 1, 14, 1⟩
def Pf.twinWindow_PF : ParField := ⟨0x5000, 0x0, 1, 15, 1⟩
def Pf.twinWindow_SIZE : ParField := ⟨0x5000, 0x0, 1, 16, 14⟩
def Pf.twinWindow_POSTED : ParField := ⟨0x5000, 0x0, 1, 30, 1⟩
def Pf.twinWindow_TBASE : ParField := ⟨0x5000, 0x0, 1, 32, 16⟩
def Pf.twinInbound_BASE : ParField := ⟨0x5000, 0x0, 2, 0, 11⟩
def Pf.twinInbound_SIZE : ParField := ⟨0x5000, 0x0, 2, 16, 11⟩
def Pf.twinInbound_EN : ParField := ⟨0x5000, 0x0, 2, 27, 1⟩
def Pf.twinInbound_WR : ParField := ⟨0x5000, 0x0, 2, 28, 1⟩
def Pf.twinMirror_SW : ParField := ⟨0x5000, 0x0, 3, 0, 48⟩
def Pf.twinPair_PROOFWIN : ParField := ⟨0x5000, 0x0, 4, 0, 8⟩
def Pf.twinPair_IDLECLAIM : ParField := ⟨0x5000, 0x0, 4, 8, 8⟩
def Pf.twinPair_HOLDOFF : ParField := ⟨0x5000, 0x0, 4, 16, 8⟩
def Pf.twinLink_UP : ParField := ⟨0x5000, 0x0, 5, 0, 1⟩
def Pf.twinLink_TRAINING : ParField := ⟨0x5000, 0x0, 5, 1, 1⟩
def Pf.twinLink_REPLAYS : ParField := ⟨0x5000, 0x0, 5, 8, 8⟩
def Pf.twinLink_CRCERR : ParField := ⟨0x5000, 0x0, 5, 16, 16⟩
def Pf.twinLink_DOWNS : ParField := ⟨0x5000, 0x0, 5, 32, 16⟩
def Pf.twinPrefetch_ISSUED : ParField := ⟨0x5000, 0x0, 6, 0, 32⟩
def Pf.twinPrefetch_DISCARDED : ParField := ⟨0x5000, 0x0, 6, 32, 32⟩
def Pf.twinSem_EXOK : ParField := ⟨0x5000, 0x0, 7, 0, 16⟩
def Pf.twinSem_EXFAIL : ParField := ⟨0x5000, 0x0, 7, 16, 16⟩
def Pf.twinSem_LOCKRETRY : ParField := ⟨0x5000, 0x0, 7, 32, 16⟩
def Pf.twinSem_LOCKBREAK : ParField := ⟨0x5000, 0x0, 7, 48, 16⟩
def Pf.twinStatus_ROLE : ParField := ⟨0x5000, 0x0, 8, 0, 3⟩
def Pf.twinStatus_PARTNER_BE : ParField := ⟨0x5000, 0x0, 8, 8, 16⟩
def Pf.twinStatus_SHADOWON : ParField := ⟨0x5000, 0x0, 8, 24, 8⟩
def Pf.twinStatus_POSTERR : ParField := ⟨0x5000, 0x0, 8, 32, 32⟩
def Pf.twinPosterr_ADDR : ParField := ⟨0x5000, 0x0, 9, 0, 32⟩
def Pf.twinPosterr_CODE : ParField := ⟨0x5000, 0x0, 9, 32, 3⟩
def Pf.memCfg_SCRUB_EN : ParField := ⟨0x5800, 0x0, 0, 0, 1⟩
def Pf.memCfg_GAP : ParField := ⟨0x5800, 0x0, 0, 4, 14⟩
def Pf.memCfg_LAPMAX : ParField := ⟨0x5800, 0x0, 0, 18, 8⟩
def Pf.memScrub_HALF : ParField := ⟨0x5800, 0x0, 1, 0, 32⟩
def Pf.memScrub_FILTER : ParField := ⟨0x5800, 0x0, 1, 32, 1⟩
def Pf.memInject_DMASK : ParField := ⟨0x5800, 0x0, 2, 0, 64⟩
def Pf.memInject_CMASK : ParField := ⟨0x5800, 0x0, 2, 0, 8⟩
def Pf.memInject_BANK : ParField := ⟨0x5800, 0x0, 2, 8, 4⟩
def Pf.memInject_ALL : ParField := ⟨0x5800, 0x0, 2, 12, 1⟩
def Pf.memInject_ARM : ParField := ⟨0x5800, 0x0, 2, 13, 1⟩
def Pf.memInject_DONE : ParField := ⟨0x5800, 0x0, 2, 14, 1⟩
def Pf.memStatus_LAP : ParField := ⟨0x5800, 0x0, 3, 0, 24⟩
def Pf.memStatus_LAPS : ParField := ⟨0x5800, 0x0, 3, 24, 16⟩
def Pf.memStatus_POS : ParField := ⟨0x5800, 0x0, 3, 40, 5⟩
def Pf.memStatus_SLOW : ParField := ⟨0x5800, 0x0, 3, 45, 1⟩
def Pf.memCounts_CET : ParField := ⟨0x5800, 0x0, 4, 0, 16⟩
def Pf.memCounts_CEL : ParField := ⟨0x5800, 0x0, 4, 16, 16⟩
def Pf.memCounts_UET : ParField := ⟨0x5800, 0x0, 4, 32, 16⟩
def Pf.memCounts_UEL : ParField := ⟨0x5800, 0x0, 4, 48, 16⟩
def Pf.memSelftest_RESULT : ParField := ⟨0x5800, 0x0, 5, 0, 2⟩
def Pf.memSelftest_STEP : ParField := ⟨0x5800, 0x0, 5, 8, 4⟩
def Pf.memSelftest_OFFSET : ParField := ⟨0x5800, 0x0, 5, 16, 16⟩
def Pf.fwState_SLOTA : ParField := ⟨0x6000, 0x0, 0, 0, 3⟩
def Pf.fwState_SLOTB : ParField := ⟨0x6000, 0x0, 0, 3, 3⟩
def Pf.fwState_RUN : ParField := ⟨0x6000, 0x0, 0, 6, 1⟩
def Pf.fwState_ARMED : ParField := ⟨0x6000, 0x0, 0, 7, 1⟩
def Pf.fwState_XFER : ParField := ⟨0x6000, 0x0, 0, 8, 3⟩
def Pf.fwState_FREE : ParField := ⟨0x6000, 0x0, 0, 12, 5⟩
def Pf.fwState_RECEIVED : ParField := ⟨0x6000, 0x0, 0, 32, 13⟩
def Pf.fwState_FLASHERR : ParField := ⟨0x6000, 0x0, 0, 48, 16⟩
def Pf.fwSlot_VERSION : ParField := ⟨0x6000, 0x0, 1, 0, 32⟩
def Pf.fwSlot_BE_MIN : ParField := ⟨0x6000, 0x0, 1, 32, 16⟩
def Pf.fwSlot_BE_MAX : ParField := ⟨0x6000, 0x0, 1, 48, 16⟩
def Pf.fwCfg_CONFIRM_S : ParField := ⟨0x6000, 0x0, 2, 0, 8⟩
def Pf.fwConfirm_CONFIRM : ParField := ⟨0x6000, 0x0, 3, 0, 1⟩
def Pf.fwRollback_COUNT : ParField := ⟨0x6000, 0x0, 4, 0, 32⟩
def Pf.fwKeys_PRESENT : ParField := ⟨0x6000, 0x0, 5, 0, 4⟩
def Pf.fwKeys_REVOKED : ParField := ⟨0x6000, 0x0, 5, 4, 4⟩
def Pf.fwKeys_APPKEY : ParField := ⟨0x6000, 0x0, 5, 8, 1⟩
def Pf.fwAttestPub_KEY : ParField := ⟨0x6000, 0x0, 6, 0, 512⟩
def Pf.fwAppKey_KEY : ParField := ⟨0x6000, 0x0, 7, 0, 512⟩
def Pf.appCfg_RUN : ParField := ⟨0x7000, 0x40, 0, 0, 1⟩
def Pf.appCfg_RESTART : ParField := ⟨0x7000, 0x40, 0, 1, 1⟩
def Pf.appCfg_ENTRY : ParField := ⟨0x7000, 0x40, 0, 4, 14⟩
def Pf.appCfg_WDOG : ParField := ⟨0x7000, 0x40, 0, 18, 10⟩
def Pf.appGrant_KIND : ParField := ⟨0x7000, 0x40, 1, 0, 4⟩
def Pf.appGrant_WR : ParField := ⟨0x7000, 0x40, 1, 4, 1⟩
def Pf.appGrant_FIRST : ParField := ⟨0x7000, 0x40, 1, 16, 16⟩
def Pf.appGrant_LAST : ParField := ⟨0x7000, 0x40, 1, 32, 16⟩
def Pf.appRing_RXBASE : ParField := ⟨0x7000, 0x40, 2, 0, 16⟩
def Pf.appRing_RXSIZE : ParField := ⟨0x7000, 0x40, 2, 16, 16⟩
def Pf.appRing_TXBASE : ParField := ⟨0x7000, 0x40, 2, 32, 16⟩
def Pf.appRing_TXSIZE : ParField := ⟨0x7000, 0x40, 2, 48, 16⟩
def Pf.appStatus_STATE : ParField := ⟨0x7000, 0x40, 3, 0, 2⟩
def Pf.appStatus_CAUSE : ParField := ⟨0x7000, 0x40, 3, 8, 8⟩
def Pf.appStatus_TRAPS : ParField := ⟨0x7000, 0x40, 3, 16, 8⟩
def Pf.appStatus_TXDROP : ParField := ⟨0x7000, 0x40, 3, 24, 8⟩
def Pf.appStatus_PC : ParField := ⟨0x7000, 0x40, 3, 32, 32⟩

/-! Parameter IDs by index. -/

def Pid.atlasIe : Nat := 0x0
def Pid.atlasBe : Nat := 0x1
def Pid.atlasBeMin : Nat := 0x2
def Pid.atlasBeMax : Nat := 0x3
def Pid.atlasBePin : Nat := 0x4
def Pid.atlasFleetCommitted : Nat := 0x5
def Pid.atlasUdpPort : Nat := 0x6
def Pid.atlasUplinkPeer : Nat := 0x7
def Pid.atlasUplinkIf : Nat := 0x8
def Pid.atlasSessionTimeout : Nat := 0x9
def Pid.atlasHandleKeep : Nat := 0xA
def Pid.atlasBenchMode : Nat := 0xB
def Pid.paceOp (i : Nat) : Nat := 0x40 + 0x1 * i
def Pid.pwrState : Nat := 0x80
def Pid.pwrRunDomains : Nat := 0x81
def Pid.pwrHoldDomains : Nat := 0x82
def Pid.pwrParkRetain : Nat := 0x83
def Pid.pwrParkArm : Nat := 0x84
def Pid.pwrDormantArm : Nat := 0x85
def Pid.pwrAlarm : Nat := 0x86
def Pid.pwrFeed : Nat := 0x87
def Pid.svyPeriod : Nat := 0xA0
def Pid.svyConfirm : Nat := 0xA1
def Pid.svyDperiod : Nat := 0xA2
def Pid.svyRunPeriod : Nat := 0xA3
def Pid.svyState : Nat := 0xA4
def Pid.svyChanged : Nat := 0xA5
def Pid.svyAck : Nat := 0xA6
def Pid.svyStatus : Nat := 0xA7
def Pid.isoBudgetW : Nat := 0xC0
def Pid.isoPeakW : Nat := 0xC1
def Pid.isoBurstMj : Nat := 0xC2
def Pid.isoRfrac : Nat := 0xC3
def Pid.isoBlockMs : Nat := 0xC4
def Pid.isoDiverge : Nat := 0xC5
def Pid.isoTjWarn : Nat := 0xC6
def Pid.isoStatus : Nat := 0xC7
def Pid.isoUnit : Nat := 0xC8
def Pid.isoTcase : Nat := 0xC9
def Pid.chCfg (i : Nat) : Nat := 0x1000 + 0x20 * i
def Pid.chIlim (i : Nat) : Nat := 0x1001 + 0x20 * i
def Pid.chInrush (i : Nat) : Nat := 0x1002 + 0x20 * i
def Pid.chWire (i : Nat) : Nat := 0x1003 + 0x20 * i
def Pid.chDtLimit (i : Nat) : Nat := 0x1004 + 0x20 * i
def Pid.chOpenload (i : Nat) : Nat := 0x1005 + 0x20 * i
def Pid.chRetry (i : Nat) : Nat := 0x1006 + 0x20 * i
def Pid.chStatus (i : Nat) : Nat := 0x1007 + 0x20 * i
def Pid.compCfg (i : Nat) : Nat := 0x1800 + 0x20 * i
def Pid.compMember (i : Nat) : Nat := 0x1801 + 0x20 * i
def Pid.compStatus (i : Nat) : Nat := 0x1802 + 0x20 * i
def Pid.compMeas (i : Nat) : Nat := 0x1803 + 0x20 * i
def Pid.genCfg (i : Nat) : Nat := 0x1C00 + 0x10 * i
def Pid.genPeriod (i : Nat) : Nat := 0x1C01 + 0x10 * i
def Pid.genMember (i : Nat) : Nat := 0x1C02 + 0x10 * i
def Pid.genStatus (i : Nat) : Nat := 0x1C03 + 0x10 * i
def Pid.contourCfg (i : Nat) : Nat := 0x1D00 + 0x4 * i
def Pid.valveCfg (i : Nat) : Nat := 0x2000 + 0x10 * i
def Pid.valveLevels (i : Nat) : Nat := 0x2001 + 0x10 * i
def Pid.valveTimes (i : Nat) : Nat := 0x2002 + 0x10 * i
def Pid.valveKink (i : Nat) : Nat := 0x2003 + 0x10 * i
def Pid.valveStatus (i : Nat) : Nat := 0x2004 + 0x10 * i
def Pid.bankCfg (i : Nat) : Nat := 0x2100 + 0x10 * i
def Pid.bankRail (i : Nat) : Nat := 0x2101 + 0x10 * i
def Pid.bankStatus (i : Nat) : Nat := 0x2102 + 0x10 * i
def Pid.bankStats (i : Nat) : Nat := 0x2103 + 0x10 * i
def Pid.lcCfg (i : Nat) : Nat := 0x2200 + 0x10 * i
def Pid.lcSlot (i : Nat) : Nat := 0x2201 + 0x10 * i
def Pid.lcStatus (i : Nat) : Nat := 0x2202 + 0x10 * i
def Pid.mxCfg : Nat := 0x2280
def Pid.mxTiming : Nat := 0x2281
def Pid.mxIcol : Nat := 0x2282
def Pid.mxBind : Nat := 0x2283
def Pid.mxPixel : Nat := 0x2284
def Pid.mxStatus : Nat := 0x2285
def Pid.ntcCfg (i : Nat) : Nat := 0x2300 + 0x8 * i
def Pid.ntcCurve (i : Nat) : Nat := 0x2301 + 0x8 * i
def Pid.swCfg (i : Nat) : Nat := 0x2400 + 0x4 * i
def Pid.canCfg (i : Nat) : Nat := 0x3000 + 0x40 * i
def Pid.canNbt (i : Nat) : Nat := 0x3001 + 0x40 * i
def Pid.canDbt (i : Nat) : Nat := 0x3002 + 0x40 * i
def Pid.canXbt (i : Nat) : Nat := 0x3003 + 0x40 * i
def Pid.canFilter (i : Nat) : Nat := 0x3004 + 0x40 * i
def Pid.canStatus (i : Nat) : Nat := 0x3005 + 0x40 * i
def Pid.linCfg (i : Nat) : Nat := 0x3200 + 0x20 * i
def Pid.linSched (i : Nat) : Nat := 0x3201 + 0x20 * i
def Pid.linFrame (i : Nat) : Nat := 0x3202 + 0x20 * i
def Pid.linStatus (i : Nat) : Nat := 0x3203 + 0x20 * i
def Pid.mrdCfg : Nat := 0x3300
def Pid.mrdIds : Nat := 0x3301
def Pid.mrdPeriod : Nat := 0x3302
def Pid.mrdStatus : Nat := 0x3303
def Pid.ethCfg (i : Nat) : Nat := 0x3400 + 0x40 * i
def Pid.ethStatus (i : Nat) : Nat := 0x3401 + 0x40 * i
def Pid.ethCounters (i : Nat) : Nat := 0x3402 + 0x40 * i
def Pid.ethCable (i : Nat) : Nat := 0x3403 + 0x40 * i
def Pid.ethCbs (i : Nat) : Nat := 0x3404 + 0x40 * i
def Pid.ethPrio (i : Nat) : Nat := 0x3405 + 0x40 * i
def Pid.speCfg (i : Nat) : Nat := 0x3480 + 0x20 * i
def Pid.spePlca (i : Nat) : Nat := 0x3481 + 0x20 * i
def Pid.speStatus (i : Nat) : Nat := 0x3482 + 0x20 * i
def Pid.speCounters (i : Nat) : Nat := 0x3483 + 0x20 * i
def Pid.swxCfg : Nat := 0x3500
def Pid.swxIp : Nat := 0x3501
def Pid.swxMac : Nat := 0x3502
def Pid.swxVlan : Nat := 0x3503
def Pid.swxFdb : Nat := 0x3504
def Pid.swxStatus : Nat := 0x3505
def Pid.nsCfg : Nat := 0x3600
def Pid.nsNeed : Nat := 0x3601
def Pid.nsKa : Nat := 0x3602
def Pid.nsWuf : Nat := 0x3603
def Pid.nsStatus : Nat := 0x3604
def Pid.nsWaymark : Nat := 0x3605
def Pid.lfCfg (i : Nat) : Nat := 0x4000 + 0x10 * i
def Pid.lfStatus (i : Nat) : Nat := 0x4001 + 0x10 * i
def Pid.feCfg (i : Nat) : Nat := 0x4080 + 0x10 * i
def Pid.feStatus (i : Nat) : Nat := 0x4081 + 0x10 * i
def Pid.accCfg : Nat := 0x4100
def Pid.accRadio : Nat := 0x4101
def Pid.accZone : Nat := 0x4102
def Pid.accLockout : Nat := 0x4103
def Pid.accStatus : Nat := 0x4104
def Pid.accLast : Nat := 0x4105
def Pid.tokenCfg (i : Nat) : Nat := 0x4200 + 0x10 * i
def Pid.tokenStatus (i : Nat) : Nat := 0x4201 + 0x10 * i
def Pid.twinCfg : Nat := 0x5000
def Pid.twinWindow : Nat := 0x5001
def Pid.twinInbound : Nat := 0x5002
def Pid.twinMirror : Nat := 0x5003
def Pid.twinPair : Nat := 0x5004
def Pid.twinLink : Nat := 0x5005
def Pid.twinPrefetch : Nat := 0x5006
def Pid.twinSem : Nat := 0x5007
def Pid.twinStatus : Nat := 0x5008
def Pid.twinPosterr : Nat := 0x5009
def Pid.memCfg : Nat := 0x5800
def Pid.memScrub : Nat := 0x5801
def Pid.memInject : Nat := 0x5802
def Pid.memStatus : Nat := 0x5803
def Pid.memCounts : Nat := 0x5804
def Pid.memSelftest : Nat := 0x5805
def Pid.fwState : Nat := 0x6000
def Pid.fwSlot : Nat := 0x6001
def Pid.fwCfg : Nat := 0x6002
def Pid.fwConfirm : Nat := 0x6003
def Pid.fwRollback : Nat := 0x6004
def Pid.fwKeys : Nat := 0x6005
def Pid.fwAttestPub : Nat := 0x6006
def Pid.fwAppKey : Nat := 0x6007
def Pid.appCfg (i : Nat) : Nat := 0x7000 + 0x40 * i
def Pid.appGrant (i : Nat) : Nat := 0x7001 + 0x40 * i
def Pid.appRing (i : Nat) : Nat := 0x7002 + 0x40 * i
def Pid.appStatus (i : Nat) : Nat := 0x7003 + 0x40 * i

end Sys2Proof.Machine
end

