-- ==== Sys2Proof/Config.lean ====
section
/-!
DEFINITION. What an implementation fixes and what the manual leaves open: constants with no body, so that no proof can rest
on a value the manual does not give. Each names the assumption that records it.
-/
namespace Sys2Proof

/-- FMT of an event message, from the interface edition of the image: the manual codes it in no stated edition (03 R70,
R91; entry 3). -/
opaque Config.eventFmt : Nat → Nat

/-- A byte of a memory whose content the manual does not define, by epoch and address (15 R393; entry 8). -/
opaque Config.undefByte : Nat → Nat → Byte

/-- Whether a write that timed out took effect (02 R39; entry 9), by the count of timeouts. -/
opaque Config.lateWrite : Nat → Bool

/-- A coil current at a tick, mA, where the command that stands for the event reports none (07 R214; entry 12). -/
opaque Config.coilMa : Nat → Nat → Int

/-- Measured switch energy of request number 96 to 112 from its start to a tick, µJ: the commands report none (06 R175;
entry 12). -/
opaque Config.inrushUj : Nat → Nat → Nat → Nat

/-- Natural logarithm as the device represents it in the Beta equation: the manual gives the equation and its accuracy (08 R230;
entry 13). -/
opaque Config.ln : Rat → Rat

/-- A temperature in 0.1 °C rounded to a whole number: the manual gives no rounding (08 R230; entry 13). -/
opaque Config.ntcRound : Rat → Int

/-- MX_VROW at a tick, mV, which no command reports (08 R228; entry 12). -/
opaque Config.mxVrow : Nat → Nat

/-- Measured power of the matrix at its adoption, mW (08 R235; entry 12). -/
opaque Config.mxMw : Nat → Nat

/-- Switch energy of a channel from the last step boundary to a tick inside the step, µJ: no command brings it where a command turns the channel
off in its inrush (06 R175; entry 93). -/
opaque Config.partUj : Nat → Nat → Nat

/-- MIN and MAX of a Contour window without a present sample (06 R186; entry 14). -/
opaque Config.noSample : Nat → Nat

/-- The partner's release stamp r of the switch-over that is claimed at a tick (13 R355; entry 15). -/
opaque Config.relStamp : Nat → Nat

/-- Draws of the enclave's random generator, by the model's count of draws (12 R312, 16 R420; entry 16). -/
opaque Config.enclaveRand : Nat → Nat

/-- Receive error counter after a good reception in error passive, less 119: ISO 11898-1 leaves the value between 119 and 127
(10 R274; entry 17). -/
opaque Config.recAfter : Nat → Fin 9

/-- Link delay that peer-delay measurement found by a tick, ns: no command reports one (10 R291; entry 12). -/
opaque Config.linkDelay : Nat → Nat

/-- The token key that a KEYWRAP carries: its AES-128 decryption under the device's enrolment key, whose secret the manual does not
give (12 R325; entry 11). -/
opaque Config.tokenKey : Nat → Nat

/-- Unit identifier words IDN_UID0 to IDN_UID3 (index 0 to 3), manufacturing lot (4) and wafer position (5), fused at manufacture
(03 R96; entry 11). -/
opaque Config.fused : Nat → BitVec 32

/-- The attestation public key, generated in the enclave at manufacture (16 R421; entry 11). -/
opaque Config.attestPub : BitVec 512

/-- SLH-DSA-SHAKE-256s signature of a report body under the attestation key, which never leaves the enclave: 29,792 bytes (16 R421;
entry 11). -/
opaque Config.signature : List Byte → BitVec 238336

/-- SHAKE256 digest of the STORED copies in flash, whose layout there the manual does not give (16 R421; entry 20). -/
opaque Config.storeDigest : List (Nat × Nat) → BitVec 512

/-- The decay factor exp(−x) of a wire temperature over a parked time, as the device represents it: the manual gives no rounding (09 R249;
entry 22). -/
opaque Config.expNeg : Rat → Rat

/-- A result that a core's function unit gives and the manual does not state, by tick and port: samples at the die and valve-stage ports, codec and
hash status, the result of a DMA channel number above 31 (14 R366, R377, 15 R405; entry 30). -/
opaque Config.unitResult : Nat → Nat → BitVec 32

/-- Output byte of the SHAKE unit: mode, what was absorbed, offset (14 R377: the manual does not code `mode`; entry 30). -/
opaque Config.shakeOut : Nat → List Byte → Nat → Byte

/-- AES-128 encryption of a block under the enclave key of a slot: the manual does not number the enclave's slots and never shows their keys
(14 R377; entry 11). -/
opaque Config.aesOut : Nat → List Byte → BitVec 128

/-- The phase that a value at vlv.phase names: 0 none, 1 BOOST, 2 PEAK, 3 HOLD; the manual does not code it (14 R366; entry 31). -/
opaque Config.vlvPhase : BitVec 32 → Fin 4

/-- Transfers that a DMA channel had issued when a stop reached it, by tick and channel (15 R405; entry 12). -/
opaque Config.dmaIssued : Nat → Nat → Nat

/-- A byte that a DMA channel reads through the twin window, by tick and address: the partner's memory (entry 27). -/
opaque Config.partnerByte : Nat → Nat → Byte

/-- MAC address that the endpoint resolves for an IP address: the peer's answer on the link (10 R269; entry 12). -/
opaque Config.peerMac : Nat → BitVec 48

/-- Response of Atlas to an Assign NAD or Assign frame identifier range request: ISO 17987-3 sets it, with the node's NAD, and the manual does not
(10 R280; entry 53). -/
opaque Config.linAnswer : List Byte → List Byte

/-- Endpoint MAC address, fused at manufacture (10 R293; entry 11). -/
opaque Config.mac : BitVec 48

/-- POS of `mem.status` while the filter RAM is scrubbed, which is no half-bank, by tick (15 R408; entry 12). -/
opaque Config.scrubPos : Nat → Fin 32

/-- The code byte of a FLEET_COMMIT that completes PERSIST_FAILED, by tick: the manual gives the byte for OK and FAILED only (03 R92; entry 37). -/
opaque Config.fleetCode : Nat → Byte

end Sys2Proof
end

