-- ==== Sys2Proof/Machine/State.lean ====
section
/-!
DEFINITION. The state of the AZ64M-A1: one structure per block of the manual, gathered in `State`, and `State.reset`.
Every field is plain data. A default written beside a field is its value in `State.reset`; where the manual gives no reset
value, the field's docstring names the assumption that fixes it.
-/
namespace Sys2Proof.Machine

/-- The reasons a step can stop. No command of this model raises one: every access that the manual calls wrong has a
response code, a status or a count (00 R19, 02 R36, 03 R81). -/
inductive Fault where
  /-- Raised by no command: the manual names no condition that stops the device. Safe. -/
  | neverRaised
  deriving DecidableEq, Repr

/-- The reasons a command can have no meaning. -/
inductive Refusal where
  /-- Raised by a row of the table whose meaning is not written; the string is the row's mnemonic. Safe. -/
  | notModelled (mnemonic : String)
  deriving DecidableEq, Repr

/-! ### Time base and AON counter (02 R55 to R59) -/

/-- The TB block and the counters of PD0. -/
structure TimeBase where
  /-- The time base (R55); 0 at a cold start. -/
  tb : Nat := 0
  /-- The AON counter (R57); 0 at a cold start. -/
  aon : Nat := 0
  /-- The PLL has locked since the last cold start, so the time base runs while PD3 is on (R55). -/
  run : Bool := false
  /-- TB_STAT.LOCK. -/
  lock : Bool := false
  /-- TB_STAT.FALLBACK. -/
  fallback : Bool := false
  /-- TB_STAT.RESUMED. -/
  resumed : Bool := false
  /-- TB_STAT.CALVALID. -/
  calValid : Bool := false
  /-- TB_AONCAL. -/
  aonCal : Nat := 0
  /-- The time base value that PD0 saved when PD3 last lost power (R58). DESIGN CHOICE 0, entry 2. -/
  tbSleep : Nat := 0
  /-- The AON count at that moment (R58). DESIGN CHOICE 0, entry 2. -/
  aonSleep : Nat := 0
  /-- AON count and time base at the start of the present span of 32,768 AON ticks (R57). DESIGN CHOICE 0, entry 2. -/
  calAon : Nat := 0
  calTb  : Nat := 0
  /-- TB_NOW_HI per reading crossbar port. -/
  nowHi : Vector Nat 8 := Vector.replicate 8 0
  /-- TB_AON_HI per reading crossbar port. -/
  aonHi : Vector Nat 8 := Vector.replicate 8 0
  deriving DecidableEq, Repr

/-! ### Pace governor (02 R47 to R54) -/

/-- The sequence that a write of PACE_OPREQ runs (R52): raising waits for the voltage and then lifts the cap; lowering
waits for the window boundary and then for the voltage. -/
inductive PaceSeq where
  | idle
  | raise  (target : Nat)
  | lower  (target : Nat)
  | settle (target : Nat)
  deriving DecidableEq, Repr

/-- One record of the PACE block. -/
structure PaceRec where
  /-- PACE_OPREQ.OP. -/
  opreq : Nat := 1
  /-- PACE_VSEL.V. -/
  vsel : Nat := 1
  /-- PACE_CAP.CAP. -/
  cap : Nat := 1
  /-- Operating point at which the voltage last settled (R53). -/
  volt : Nat := 1
  /-- PACE_STAT.VSETTLED. -/
  settled : Bool := true
  /-- Operating point whose cap is in force (R53). -/
  capIf : Nat := 1
  /-- The sequence of R52. -/
  seq : PaceSeq := .idle
  /-- PACE_STAT.DROOP. -/
  droop : Bool := false
  /-- The lowered cap of R54 is in force. It outlasts the droop until the next window boundary. -/
  droopCap : Bool := false
  /-- PACE_ERR bits [3:0]. -/
  err : Nat := 0
  /-- PACE_DROOPCNT. -/
  droopCnt : Nat := 0
  deriving DecidableEq, Repr

/-! ### Fabric (02 R36 to R45) -/

/-- What has become of a request (R36, R43): it waits at the arbiter of its target, its target will not answer it, or it has been served
and its response is on the way. -/
inductive FabAns where
  | waiting
  | silent
  | answered (code data : Nat)
  deriving DecidableEq, Repr

/-- A fabric request whose initiator has no response yet: stamp and answer. -/
structure FabEntry where
  req   : FabReq
  stamp : Nat
  ans   : FabAns
  deriving DecidableEq, Repr

/-- The response that an initiator got last (R36): port, unit, code, and the data of a read. -/
structure FabResp where
  port : Nat
  unit : Nat
  code : Nat
  data : Nat
  deriving DecidableEq, Repr

/-- The crossbar. -/
structure Fabric where
  /-- Requests whose response is outstanding, in the order of their issue. -/
  inflight : List FabEntry := []
  /-- Ports of these domains are closed for power-down (R40), bit p for PDp. -/
  closed : Nat := 0
  /-- Rotation pointer of crossbar port 2 (R45). -/
  ptrDma : Nat := 0
  /-- The last response delivered to an initiator; of an access that a command makes whole, an error response only. -/
  last : Option FabResp := none
  /-- What the bench SPI port last shifted out: the data bytes and the status byte (03 R69). -/
  spi  : List Byte × Nat := ([], 0)
  deriving DecidableEq, Repr

/-! ### Atlas (03) -/

/-- A message that the device sends (R70): response, completion or event. -/
structure Msg where
  fmt     : Nat
  op      : Nat
  seq     : Nat
  handle  : Nat
  status  : Nat
  flags   : Nat
  origin  : Nat
  payload : List Byte
  deriving DecidableEq, Repr

/-- An event (R94). -/
structure Ev where
  cls    : Nat
  unit   : Nat
  code   : Nat
  stamp  : Nat
  detail : List Byte
  deriving DecidableEq, Repr

/-- A request handed over to Atlas and not yet served (R73), with its stamp and, on the uplink, its source. -/
structure InReq where
  ses     : Nat
  org     : Nat
  fmt     : Nat
  op      : Nat
  seq     : Nat
  handle  : Nat
  crc     : Nat
  payload : List Byte
  stamp   : Nat
  iface   : Nat
  src     : Nat
  sport   : Nat
  /-- What R71 found: 0 nothing, 1 a wrong length, 2 a wrong CRC, 3 a FLAGS bit that a request may not set. -/
  chk     : Nat
  deriving DecidableEq, Repr

/-- A request that the session has answered, kept for the duplicate check (R75). -/
structure Answered where
  org : Nat
  seq : Nat
  crc : Nat
  rsp : Msg
  deriving DecidableEq, Repr

/-- The state of a handle that is not FREE (R77). An operation that has ended while a HANDLE_CANCEL stamped at or before
its end waits to be served keeps its end here (R79). -/
inductive HPhase where
  | pending
  | ended (tick status : Nat) (payload : List Byte)
  | done  (tick status : Nat) (payload : List Byte)
  deriving DecidableEq, Repr

/-- A handle (R76, R77). -/
structure Hnd where
  num      : Nat
  ses      : Nat
  org      : Nat
  fmt      : Nat
  op       : Nat
  seq      : Nat
  /-- Unit or slot + 256 × command of a CHAN_CMD, VALVE_CMD or ACCESS_CMD, MODE of an ATTEST, operand of the others. -/
  unit     : Nat
  stamp    : Nat
  wait     : Nat
  progress : Nat
  phase    : HPhase
  /-- The session has closed, or the A core has halted (R80, R68): the completion is discarded. -/
  orphan   : Bool
  deriving DecidableEq, Repr

/-- One session and its record in the MBX block (R64, R95). In session 3 the masks and event counts are per A core
(R68); in the others entry 0 is used. -/
structure SesRec where
  isOpen     : Bool := false
  /-- Tick of the last valid request (R80). DESIGN CHOICE 0 while closed, entry 2. -/
  lastReq    : Nat := 0
  masks      : Vector Nat 4 := Vector.replicate 4 0
  evSeq      : Vector Nat 4 := Vector.replicate 4 0
  answered   : List Answered := []
  nextSerial : Nat := 1
  /-- Request buffer: the bytes written since it was last discarded, by offset (R67). -/
  buf        : List Host.Cell := []
  reqLen     : Nat := 0
  busy       : Bool := false
  owner      : Nat := 0xF
  /-- Stamp of the claim in force. DESIGN CHOICE 0 while unclaimed, entry 2. -/
  claimAt    : Nat := 0
  posted     : Option Msg := none
  /-- At most 64 entries, and the completions that found it full and wait at Atlas (R67, entry 88). -/
  queue      : List Msg := []
  spill      : List Msg := []
  irqEn      : Nat := 0
  irqStat    : Nat := 0
  peak       : Nat := 0
  errFormat  : Nat := 0
  errCrc     : Nat := 0
  evLost     : Nat := 0
  dup        : Nat := 0
  seqLast    : Nat := 0
  deriving DecidableEq, Repr

/-- A message sent on the uplink: interface, address, port, message (R66). -/
structure UpMsg where
  iface : Nat
  dst   : Nat
  port  : Nat
  msg   : Msg
  deriving DecidableEq, Repr

/-- An IP datagram being reassembled (R66): identifier, first stamp, pieces, total length once known. -/
structure Reasm where
  ident  : Nat
  first  : Nat
  iface  : Nat
  src    : Nat
  pieces : List (Nat × List Byte)
  total  : Option Nat
  deriving DecidableEq, Repr

/-- An event of a start, kept for late subscribers (R454), and the session and core numbers that have had it. -/
structure KeptEv where
  ev  : Ev
  had : List (Nat × Nat)
  deriving DecidableEq, Repr

/-- Atlas: sessions, requests, handles, events. -/
structure Atlas where
  /-- MBX_STAT.READY. -/
  ready   : Bool := false
  /-- Tick of the last rise of READY (R454). DESIGN CHOICE 0 before, entry 2. -/
  readyAt : Nat := 0
  ses     : Vector SesRec 4 := Vector.replicate 4 {}
  /-- Requests handed over, in stamp order with ties by session (R73). -/
  inbox   : List InReq := []
  handles : List Hnd := []
  kept    : List KeptEv := []
  /-- Uplink: interface, address and port of the last valid request (R66). DESIGN CHOICE 0, entry 2. -/
  peerIf   : Nat := 0
  peer     : Nat := 0
  peerPort : Nat := 0
  reasm   : List Reasm := []
  /-- Messages sent on the uplink, oldest first. -/
  sent    : List UpMsg := []
  /-- PENDING PARAM_COMMIT with the copies as they stood at its stamp (R86). -/
  commit  : Option (Nat × List (Nat × Nat)) := none
  /-- PENDING FLEET_COMMIT and its target (R92). -/
  fleet   : Option (Nat × Nat) := none
  deriving DecidableEq, Repr

/-- The parameters (R86): working copies and stored copies, each a list of (ID × 65,536 + INDEX, value) in rising order
that holds no entry equal to the default. -/
structure ParStore where
  work   : List (Nat × Nat) := []
  stored : List (Nat × Nat) := []
  deriving DecidableEq, Repr

/-! ### Debug block (03 R97, 14 R387) -/

/-- Debug record of one core (14 R387): CTRL bits, trap record, breakpoints. -/
structure DbgCore where
  ctrl : Nat := 0
  trap : Nat := 0
  brk0 : Nat := 0
  brk1 : Nat := 0
  deriving DecidableEq, Repr

/-- The DBG block. -/
structure Dbg where
  ferrCode  : Nat := 0
  ferrValid : Bool := false
  ferrPort  : Nat := 0
  ferrAddr  : Nat := 0
  ferrCnt   : Nat := 0
  codeCnt   : Vector Nat 8 := Vector.replicate 8 0
  portCnt   : Vector Nat 9 := Vector.replicate 9 0
  locked    : Bool := true
  cores     : Vector DbgCore 5 := Vector.replicate 5 {}
  deriving DecidableEq, Repr

/-! ### Load channels, composites and pulse generators (04, 05) -/

/-- Channel states (04 R103). -/
inductive ChSt where
  | off
  | grantWait
  | inrush
  | on
  | retryWait
  | retryOn
  | latched
  deriving DecidableEq, Repr

/-- What a channel or bridge drives when it is on (04 R100, R101). H and L channels know `high` only. -/
inductive Drive where
  | high
  | low
  | fwd
  | rev
  deriving DecidableEq, Repr

/-- What the gate latches of the power die hold (04 R100, R101): off (or COAST), a drive, or both low sides. -/
inductive Gate where
  | off
  | drive (d : Drive)
  | brake
  deriving DecidableEq, Repr

/-- What follows a dead time of 04 R100: a gate turns on with an inrush, both low sides turn on, a grant is requested, or an
edge of a pulse generator takes effect (05 R152). -/
inductive DeadAct where
  | gateOn
  | brakeOn
  | request
  | set (g : Gate)
  deriving DecidableEq, Repr

/-- The off-state test in progress (04 R123): idle, before the pull-up, pull-up on with the candidate of the first step. -/
inductive OffTest where
  | idle
  | pullOff (start : Nat)
  | pullOn  (start cand : Nat)
  deriving DecidableEq, Repr

/-- One load channel: Cn's record, the die's latch and comparators' marks (04). -/
structure Chan where
  st       : ChSt := .off
  /-- Drive requested or in force. -/
  drive    : Drive := .high
  /-- BRAKE flag (R104). -/
  brake    : Bool := false
  /-- Gate command latched in the power die (R25). -/
  gate     : Gate := .off
  /-- Dead time running since this tick, and what follows (R100). -/
  dead     : Option (Nat × DeadAct) := none
  /-- What the gates held before they last went off, and when (R100). -/
  opened   : Option (Gate × Nat) := none
  /-- Reversal passing through BRAKE since this tick (R102). -/
  revAt    : Option Nat := none
  /-- FAULT: last fault code (R128). -/
  fault    : Nat := 0
  /-- FEED_LOST or INTERLOCK where the channel is off because of it (05 R141), else 0. -/
  offBy    : Nat := 0
  /-- Code of the first trip that the retry is for (R118, R119). -/
  firstCode : Nat := 0
  /-- DELAY of the present trip, ms: `retry` applies from the next trip (R132). DESIGN CHOICE 0, entry 2. -/
  delay    : Nat := 0
  /-- TRANS and LASTING (R120), RETAINED. -/
  trans    : Nat := 0
  lasting  : Nat := 0
  openload : Bool := false
  short    : Bool := false
  revblock : Bool := false
  /-- IMEAS, 10 mA (06 R163). -/
  imeas    : Int := 0
  /-- Gate-on tick of the present inrush or retry (R111, R119). DESIGN CHOICE 0, entry 2. -/
  gateAt   : Nat := 0
  /-- P in mA and T in tk of the present inrush: `inrush` applies from the next one (R132). DESIGN CHOICE 0, entry 2. -/
  inrP     : Nat := 0
  inrT     : Nat := 0
  /-- The inrush part is running. -/
  inr      : Bool := false
  /-- The inrush is due at the first on-edge of a unit pulsing at duty 0 (05 R153). -/
  inrDue   : Bool := false
  /-- Frozen time accumulated in this inrush, and since when it is frozen (R121). -/
  frozen   : Nat := 0
  frozenAt : Option Nat := none
  /-- Tick at which the inrush part ended (R119). DESIGN CHOICE 0, entry 2. -/
  inrEnd   : Nat := 0
  /-- Stamp of the trip that DELAY counts from (R118). DESIGN CHOICE 0, entry 2. -/
  tripAt   : Nat := 0
  /-- A retry's grant is requested (R104). -/
  retryReq : Bool := false
  /-- Start of the 1 s window of R127, while it applies. -/
  lostAt   : Option Nat := none
  /-- Stall allowance (R114): running since, available, current below ilim since. -/
  stallAt  : Option Nat := none
  stallOk  : Bool := true
  belowAt  : Option Nat := none
  /-- Dwell timer (R113, 05 R155): regulated at the limit since, regulated time of earlier on-phases, regulation seen in the
  present on-phase. -/
  regAt    : Option Nat := none
  regSum   : Nat := 0
  regSeen  : Bool := false
  /-- The limit in force at the die's last update, mA (R111). DESIGN CHOICE 0, entry 2. -/
  limit    : Nat := 0
  /-- Normalised wire temperature rise (R116); 0: a cold wire, DESIGN CHOICE entry 2. -/
  theta    : Rat := 0
  /-- Gate-off whose output current is still to fall, since this tick (R108). -/
  offAt    : Option Nat := none
  /-- Off-state test (R123): step, start of the last test, candidate seen last and how often, clean tests. -/
  test     : OffTest := .idle
  testAt   : Nat := 0
  /-- `openload` as the test in progress found it (R132). DESIGN CHOICE 0, entry 2. -/
  testCfg  : Nat := 0
  cand     : Nat := 0
  candCnt  : Nat := 0
  cleanCnt : Nat := 0
  /-- Die latch: tripped while the sequencer was down; lasting flag (R130, 17 R431). -/
  dieTrip  : Bool := false
  dieLast  : Bool := false
  /-- Thermal poles of the two switches, K (06 R165); the second belongs to M channels. -/
  poles    : Vector (Vector Rat 4) 2 := Vector.replicate 2 (Vector.replicate 4 0)
  /-- Adopted while on: the poles and the grant are taken from the next step (06 R167, R177). -/
  seed     : Bool := false
  /-- Consecutive divergent boundaries (06 R167). -/
  diverged : Nat := 0
  /-- TJ_WARN may be sent (06 R176). -/
  warnArm  : Bool := true
  /-- Since the last true-up, the end of the inrush or the adoption: sum of the samples' powers in W and their number, sum of i² in mA² over the
  on-phases and their number of samples (06 R170, R175). -/
  tuP      : Rat := 0
  tuN      : Nat := 0
  tuSq     : Int := 0
  tuOn     : Nat := 0
  /-- Trips held for Contour: code and stamp (06 R183, R186). -/
  trips    : List (Nat × Nat) := []
  deriving DecidableEq, Repr

/-- A CHAN_CMD or VALVE_CMD of a unit that is PENDING (04 R106, 05 R146): handle, command code, deadline tick, marks. -/
structure UCmd where
  handle   : Nat
  cmd      : Nat
  deadline : Option Nat
  retried  : Bool
  deferred : Bool
  restored : Bool
  deriving DecidableEq, Repr

/-- One composite slot (05): the membership in force while it is enabled, its latch, and whether its last command was
OFF or CLEAR (or none). -/
structure Comp where
  en      : Bool := false
  par     : Bool := false
  members : List Nat := []
  latched : Bool := false
  idle    : Bool := true
  deriving DecidableEq, Repr

/-- One member of a pulse generator (05 R149 to R154). -/
structure PMem where
  unit    : Nat
  /-- Settings in force. -/
  duty    : Nat
  phase   : Nat
  dir     : Bool
  free    : Bool
  /-- The unit pulses (RETAINED, R158); with `start` its schedule begins at the next boundary (R153). -/
  pulsing : Bool := false
  start   : Bool := false
  /-- Scheduled on-edge still to come, and the on-width that follows it; no width where the member stays on. -/
  onEdge  : Option (Nat × Option Nat) := none
  /-- Scheduled off-edge still to come. -/
  offEdge : Option Nat := none
  /-- Altered in this period under R151. -/
  clamped : Bool := false
  /-- Stays off in this period (R150, R151). -/
  off     : Bool := false
  deriving DecidableEq, Repr

/-- One pulse generator (05 R149). -/
structure Gen where
  en      : Bool := false
  t0      : Nat := 0
  /-- Period in force; the table's reset. -/
  per     : Nat := 1000000
  /-- Start of the present period (PSTART). -/
  start   : Nat := 0
  mems    : List PMem := []
  /-- CLAMPED of the last complete period. -/
  clamped : Nat := 0
  deriving DecidableEq, Repr

/-- Power die marks: sag (04 R121), case sensor in 0.1 °C and DIVERGE count (06 R187). TCASE resets to 0. -/
structure Die where
  sag     : Bool := false
  tcase   : Int := 0
  diverge : Nat := 0
  deriving DecidableEq, Repr

/-- All load channels and what is built on them. -/
structure Load where
  ch    : Vector Chan 64 := Vector.replicate 64 {}
  die   : Vector Die 4 := Vector.replicate 4 {}
  comp  : Vector Comp 32 := Vector.replicate 32 {}
  gen   : Vector Gen 16 := Vector.replicate 16 {}
  /-- The dies hold their latches without sequencers, from a reset of the logic die to adoption (R130, 17 R431). -/
  held  : Bool := false
  /-- Channels whose C core has trapped or is left halted (14 R380, 17 R434), bit n. -/
  halted : Nat := 0
  /-- PENDING CHAN_CMDs by unit 0–95. -/
  cmds  : List (Nat × UCmd) := []
  /-- Fused on-resistance per switch at 25 °C, µΩ: number 2 n for the high side of chn, 2 n + 1 for its low side, where
  it differs from the class typical value of 04 R99. DESIGN CHOICE: none differs, entry 11. -/
  ron25 : List (Nat × Nat) := []
  deriving DecidableEq, Repr

/-! ### Isotherm and Contour (06) -/

/-- What a heat-budget request is for: a turn-on, a retry, or more steady power for a pulsing unit of a generator, for a
higher duty (05 R154) or a shorter period (05 R149). -/
inductive ReqKind where
  | turnOn
  | retry
  | more (gen unit : Nat)
  | shorter (gen unit : Nat)
  deriving DecidableEq, Repr

/-- The part of a reservation that belongs to one leaf (06 R169): channel, or the request number of a valve or the matrix; mW, mJ,
mW of inrush. -/
structure Share where
  ch : Nat
  ps : Rat
  ex : Rat
  q  : Rat
  deriving DecidableEq, Repr

/-- A heat-budget request (06 R169). -/
structure IsoReq where
  num    : Nat
  kind   : ReqKind
  shares : List Share
  /-- Inrush time T, tk. -/
  t      : Nat
  sclass : Nat
  prio   : Nat
  stamp  : Nat
  /-- Tick of the first deferral. -/
  first  : Option Nat
  block  : Bool
  deriving DecidableEq, Repr

/-- A share that is granted, its grant's number, when its gate turned on, whether its inrush runs. -/
structure Grant where
  num   : Nat
  share : Share
  at_   : Nat
  inr   : Bool
  /-- Switch energy measured since the gate-on, µJ (06 R175). -/
  uj    : Rat
  deriving DecidableEq, Repr

/-- A release or refund that waits for the next pass (06 R173, R175): the end of an inrush with its measured energy, or
the end of a reservation. -/
inductive IsoRel where
  | inrEnd (ch : Nat) (uj : Rat) (stamp : Nat)
  | free   (ch : Nat) (uj : Rat) (stamp : Nat)
  | less   (ch : Nat) (ps : Rat)
  deriving DecidableEq, Repr

/-- The Isotherm arbiter (06 R168). -/
structure Iso where
  /-- Burst energy E, mJ. -/
  e      : Rat := 0
  grants : List Grant := []
  pend   : List IsoReq := []
  rels   : List IsoRel := []
  ovr    : Bool := false
  /-- Rotation pointer of the heat budget (02 R45), n = 113. -/
  ptr    : Nat := 0
  /-- Learned current per request number, mA, 0 none; RETAINED (R170). -/
  learn  : Vector Nat 113 := Vector.replicate 113 0
  defers : Vector Nat 113 := Vector.replicate 113 0
  pool   : Vector Nat 113 := Vector.replicate 113 0
  deriving DecidableEq, Repr

/-- One Contour block (06 R182): header fields and record words. -/
structure CtrBlock where
  win    : Nat
  ch     : Nat
  sig    : Nat
  mode   : Nat
  eps    : Nat
  anchor : Nat
  words  : List Nat
  deriving DecidableEq, Repr

/-- A Contour datagram as it was sent (06 R181): interface and address, the port it comes from and goes to, and its bytes. -/
structure CtrSent where
  iface : Nat
  dst   : Nat
  port  : Nat
  bytes : List Byte
  deriving DecidableEq, Repr

/-- The Contour codec (06 R179 to R186). -/
structure Contour where
  /-- Datagram SEQ of the next datagram (R181); DESIGN CHOICE 0, entry 2. -/
  seq     : Nat := 0
  /-- Encoded windows that wait to leave, at most 64. -/
  queue   : List (Nat × List CtrBlock) := []
  /-- Configuration per channel as of the last window boundary (R179). -/
  inForce : List (Nat × Nat) := []
  /-- Last sample of every stream, the next ANCHOR, by 2 × CH + SIG; DESIGN CHOICE 0, entry 2. -/
  last    : List (Nat × Int) := []
  /-- Datagrams sent, newest last. -/
  sent    : List CtrSent := []
  deriving DecidableEq, Repr

/-! ### Valve stage (07) -/

/-- Valve states (07 R195). -/
inductive VSt where
  | off
  | grantWait
  | boostWait
  | boost
  | peak
  | hold
  | retryWait
  | latched
  deriving DecidableEq, Repr

/-- How the coil current falls while the low side is off (07 R191): no fall from a level in progress, through the freewheel
switch, through the clamp, or slow until the node returns to the feed and then through the clamp. -/
inductive VDecay where
  | none
  | slow
  | fast
  | delayed
  deriving DecidableEq, Repr

/-- One valve: VBb's record and the stage's outputs. -/
structure Valve where
  st       : VSt := .off
  /-- Settings of the present actuation (R215); the tables' resets. -/
  cfg      : Nat := 0x0064080F
  levels   : Nat := 0x003201F407D00FA0
  times    : Nat := 0x07D00000
  kink     : Nat := 0x1004
  /-- Low-side switch, the chopper's level in mA, and the decay of R191; 0 and off at reset (R213). -/
  low      : Bool := false
  level    : Nat := 0
  decay    : VDecay := .none
  /-- The delayed decay is a fall from HOLD to zero, whose clamp energy is taken from E at its start (R201). -/
  holdFall : Bool := false
  /-- Since when the low side is on without a break (R210). -/
  onSince  : Option Nat := none
  /-- Gate-on tick, start of the present phase, tick of the wait for the bank boost. DESIGN CHOICE 0, entry 2. -/
  gateAt   : Nat := 0
  phaseAt  : Nat := 0
  waitAt   : Nat := 0
  /-- A retry run whose confirmation window has not ended (R195). -/
  retry    : Bool := false
  /-- Stamp of the trip, DELAY as it stood then, and the code (R211). DESIGN CHOICE 0, entry 2. -/
  tripAt   : Nat := 0
  delay    : Nat := 0
  tripCode : Nat := 0
  /-- Lowest fault code of the actuation (R199) and last fault code (R215). -/
  codes    : Nat := 0
  fault    : Nat := 0
  noclose  : Bool := false
  fastdly  : Bool := false
  raillow  : Bool := false
  boostskip : Bool := false
  bwait    : Bool := false
  tclose   : Nat := 0xFFFFFFFF
  trans    : Nat := 0
  lasting  : Nat := 0
  /-- Closing detection (R207): means of the cycles from p0, newest last, at most 16; p0 found; ended for this PEAK. -/
  us       : List Int := []
  detected : Bool := false
  /-- PENDING VALVE_CMD, and the tick at which an OFF was dispatched (R199). -/
  cmd      : Option UCmd := none
  offAt    : Nat := 0
  deriving DecidableEq, Repr

/-- One bank: rotation pointer and `stats` (07 R216). -/
structure VBank where
  ptr     : Nat := 0
  waits   : Nat := 0
  refused : Nat := 0
  fastdly : Nat := 0
  waitmax : Nat := 0
  /-- The value last moved to vlv.rail (14 R366): the node itself follows its members' states (R190). -/
  rail    : Nat := 0
  deriving DecidableEq, Repr

/-- The valve stage. -/
structure Valves where
  v      : Vector Valve 16 := Vector.replicate 16 {}
  bank   : Vector VBank 4 := Vector.replicate 4 {}
  /-- Boost rail (R205): voltage as last reported in 10 mV, has reached 90 % since EN was set, fault, tick of the start. -/
  vrail  : Nat := 0
  reached : Bool := false
  fault  : Bool := false
  railAt : Nat := 0
  deriving DecidableEq, Repr

/-! ### Lighting (08) -/

/-- One chain port. Buffers list the nonzero slots in rising order (08 R221, R236). -/
structure Chain where
  staging : List (Nat × Nat) := []
  comm    : List (Nat × Nat) := []
  commFid : Nat := 0
  sentFid : Nat := 0
  /-- A commit that no frame has sent (R219). -/
  fresh   : Bool := false
  skipped : Nat := 0
  /-- Frame in progress since this tick. -/
  sending : Option Nat := none
  /-- Factor in force at the last frame start, and the slot values of that frame as sent, slot 0 first (R232). -/
  factor  : Nat := 1000
  out     : List Nat := []
  /-- Of the last frame started: its length L in tk, whether its slots have 32 bits, and whether it has a check slot (R218, R220). -/
  len     : Nat := 0
  wide    : Bool := false
  chk     : Bool := false
  /-- `light.lc[c].cfg` by which the port works on through a reset of the logic die (R235). DESIGN CHOICE 0, entry 2. -/
  cfg     : Nat := 0
  /-- The hold window has expired: one frame of zeros, then none (R235): 0 no, 1 due, 2 sent. -/
  dark    : Nat := 0
  /-- Return check (R220): last result (0 clean) and how often in a row; flags SILENT, COUNT, DATA; NFOUND. -/
  res     : Nat := 0
  resCnt  : Nat := 0
  flags   : Nat := 0
  doBad   : Nat := 0
  doGood  : Nat := 0
  doFault : Bool := false
  nfound  : Nat := 0
  deriving DecidableEq, Repr

/-- States of the matrix (08 R237). -/
inductive MxSt where
  | off
  | grantWait
  | scan
  | retryWait
  | retryOn
  | latched
  deriving DecidableEq, Repr

/-- The matrix port. -/
structure Mx where
  staging : List (Nat × Nat) := []
  comm    : List (Nat × Nat) := []
  commFid : Nat := 0
  st      : MxSt := .off
  /-- The grant is held, and scanning starts at the next frame boundary (R228). -/
  granted : Bool := false
  /-- A restart's grant has been asked for (R229). -/
  asked   : Bool := false
  /-- Frame shown: pixels, its identifier, row factors, column currents in 0.25 mA (R225, R237). -/
  shown    : List (Nat × Nat) := []
  shownFid : Nat := 0
  factors  : List Nat := []
  icol     : List Nat := []
  /-- Steady power that the grant covers, by R228, mW. -/
  ps      : Nat := 0
  /-- MX_VROW at the last request, mV (R228). DESIGN CHOICE 0, entry 2. -/
  vrow    : Nat := 0
  /-- `light.mx.cfg` and `timing` by which the scanner works on through a reset of the logic die (R235). DESIGN CHOICE 0, entry 2. -/
  cfg     : Nat := 0
  timing  : Nat := 0
  /-- Frame start, and the row whose slot runs. DESIGN CHOICE 0 while off, entry 2. -/
  frameAt : Nat := 0
  row     : Option Nat := none
  /-- Columns turned off for the rest of the frame, and columns found short or open in this frame (R229). -/
  colOff  : Nat := 0
  shortNow : Nat := 0
  openNow : Nat := 0
  /-- Consecutive frames with and without each finding, per column: short bad, short clean, open bad, open clean. -/
  counts  : Vector (Nat × Nat × Nat × Nat) 24 := Vector.replicate 24 (0, 0, 0, 0)
  colShort : Nat := 0
  colOpen : Nat := 0
  trans   : Nat := 0
  lasting : Nat := 0
  /-- Row and stamp of the trip, and tick of the restart (R229). DESIGN CHOICE 0, entry 2. -/
  tripRow   : Nat := 0
  tripAt    : Nat := 0
  restartAt : Nat := 0
  deriving DecidableEq, Repr

/-- One thermistor input (08 R230, R231): the last 8 codes in range, consecutive codes out of range, result. -/
structure Ntc where
  codes  : List Nat := []
  openN  : Nat := 0
  shortN : Nat := 0
  sense  : Nat := 0
  factor : Nat := 1000
  temp   : Int := 0
  /-- DERATE_ON was the last event of its kind (R234). -/
  low    : Bool := false
  deriving DecidableEq, Repr

/-- The lighting block. -/
structure Light where
  lc  : Vector Chain 8 := Vector.replicate 8 {}
  mx  : Mx := {}
  ntc : Vector Ntc 8 := Vector.replicate 8 {}
  deriving DecidableEq, Repr

/-! ### Power states, Legend, Survey and inputs (09) -/

/-- Device states (09 R239), and START while a start sequence runs. -/
inductive DevSt where
  | run
  | hold
  | park
  | dormant
  | off
  | start
  deriving DecidableEq, Repr

/-- A change of power state in progress (R244 to R247): target (1 HOLD, 2 PARK, 3 DORMANT), handle of its POWER_REQ, FORCE,
and its step: 1 waits for OFFs, 4 waits for the completion to leave, 5 switches domains off. -/
structure Entry where
  target : Nat
  handle : Option Nat
  force  : Bool
  step   : Nat
  /-- Tick c, and the AON count at it, once reached; before, the tick at which the entry began. -/
  c      : Nat
  cAon   : Nat
  /-- Network commit (11 R300). -/
  net    : Bool
  /-- A reset of the logic die was stamped at or after c (17 R437). -/
  reset  : Bool
  deriving DecidableEq, Repr

/-- One record of the Legend (R252): the word of LGD_LAST, its detail and its stamp. -/
structure LgdRec where
  word   : Nat := 0
  detail : Nat := 0
  ts     : Nat := 0
  deriving DecidableEq, Repr

/-- The Legend, in PD0. -/
structure Legend where
  freeze : Bool := false
  wakes  : Nat := 0
  falses : Nat := 0
  last   : LgdRec := {}
  hist   : Vector LgdRec 8 := Vector.replicate 8 {}
  deriving DecidableEq, Repr

/-- One switch input in RUN sampling (R255, R263). -/
structure Input where
  level   : Nat := 0
  state   : Bool := false
  raw     : Bool := false
  changes : Nat := 0
  /-- Consecutive samples that differ from STATE. -/
  cand    : Nat := 0
  deriving DecidableEq, Repr

/-- Survey, in PD0 (R256, R262). -/
structure Survey where
  running : Bool := false
  /-- It runs with the members and period of DORMANT. -/
  dormant : Bool := false
  stored  : Nat := 0
  changed : Nat := 0
  cand    : Vector Nat 48 := Vector.replicate 48 0
  /-- Period and confirm spacing since Survey's last start, AON ticks (R262). DESIGN CHOICE 0, entry 2. -/
  per     : Nat := 0
  conf    : Nat := 0
  /-- AON tick of the next cycle and of the last. -/
  next    : Nat := 0
  lastCyc : Nat := 0
  /-- Changes to report at READY: input, new state, AON tick (R257). -/
  log     : List (Nat × Bool × Nat) := []
  deriving DecidableEq, Repr

/-- The power controller and the supply monitors. -/
structure Power where
  st       : DevSt := .start
  /-- PDON: bit p for PDp (01 R24). After a cold start PD0 alone is on until the start phases raise the others. -/
  pdOn     : Nat := 1
  /-- Feed voltages, 10 mV (09 R261). The table's reset is 0. -/
  va       : Nat := 0
  vb       : Nat := 0
  /-- AOK and BOK. The table's reset is 0. -/
  aOk      : Bool := false
  bOk      : Bool := false
  /-- Stamp of each feed's last loss (04 R127). DESIGN CHOICE 0, entry 2. -/
  aLost    : Nat := 0
  bLost    : Nat := 0
  entries  : Nat := 0
  refused  : Nat := 0
  lastRef  : Nat := 0
  entry    : Option Entry := none
  /-- Wake whose event WAKE is due at READY (R260): the Legend's word and detail. -/
  woke     : Option (Nat × Nat) := none
  /-- AON count at which PARK or DORMANT was entered at c (R249), and what `power.park_retain` held then. -/
  sleptAt  : Nat := 0
  retained : Nat := 0
  /-- Feeds above the start threshold at the last cold start (R252): bit 0 FEEDA, bit 1 FEEDB. DESIGN CHOICE 1, entry 2. -/
  startFeeds : Nat := 1
  deriving DecidableEq, Repr

/-! ### CAN, LIN, Ethernet and Meridian (10) -/

/-- States of a CAN controller (R274, R286, R288). -/
inductive CanSt where
  | off
  | integrating
  | active
  | passive
  | busOff
  deriving DecidableEq, Repr

/-- A record of a receive queue (R268): STAMP, format 0 to 2 or 3 for LIN, and the frame. -/
structure RxRec where
  stamp : Nat
  fmt   : Nat
  frame : CanFrame
  deriving DecidableEq, Repr

/-- A frame in the transmit buffers (R270, R271): first buffer, number of buffers, stamp, frame. -/
structure TxBuf where
  first : Nat
  width : Nat
  stamp : Nat
  frame : CanFrame
  deriving DecidableEq, Repr

/-- The Meridian buffer of a port (R276): the frame that waits, whether it is the follow-up, its stamp. -/
structure MrdBuf where
  frame : CanFrame
  fup   : Bool
  stamp : Nat
  deriving DecidableEq, Repr

/-- One CAN controller. -/
structure CanPort where
  st      : CanSt := .off
  tec     : Nat := 0
  recv    : Nat := 0
  tdcSat  : Bool := false
  busOffs : Nat := 0
  txFail  : Nat := 0
  rxDrop  : Nat := 0
  tunDrop : Nat := 0
  queues  : Vector (List RxRec) 4 := Vector.replicate 4 []
  tx      : List TxBuf := []
  mrd     : Option MrdBuf := none
  /-- Meridian cycle count of the port (R277). -/
  cycle   : Nat := 0
  /-- Secondary sample point of the last frame with delay compensation, tk (R267). DESIGN CHOICE 0 before, entry 2. -/
  ssp     : Nat := 0
  /-- Element writes, and NFILT writes, since the last frame received: index, stamp and earlier value; stamp and earlier value (R273). -/
  elemW   : List (Nat × Nat × Nat) := []
  nfiltW  : List (Nat × Nat) := []
  /-- Frames sent, newest last. -/
  sent    : List CanFrame := []
  deriving DecidableEq, Repr

/-- A LIN header in progress: identifier, tick of its break, schedule entry or none for a responder, collision run. -/
structure LinHdr where
  id    : Nat
  start : Nat
  entry : Option Nat
  deriving DecidableEq, Repr

/-- One LIN port. -/
structure LinPort where
  /-- The commander's schedule runs (R278). -/
  run     : Bool := false
  /-- Tick of the next slot, its entry, and SLOT. -/
  next    : Nat := 0
  pos     : Nat := 0
  slot    : Nat := 0
  /-- Resolution of a collision (R279): entries still to run, and the entry that follows them. -/
  coll    : Option (List Nat × Nat) := none
  hdr     : Option LinHdr := none
  /-- Published data by identifier, and the identifiers written since last sent. -/
  pub     : List (Nat × List Byte) := []
  fresh   : List Nat := []
  /-- Identifiers with RERREN for which a response error occurred since the frame was last sent (R280). -/
  rerr    : List Nat := []
  /-- Tick at which a stopped commander restarts (11 R299, R303). -/
  restart : Option Nat := none
  /-- Records that wait to be tunnelled (R281). -/
  tun     : List RxRec := []
  idle    : Bool := false
  /-- Tick of the last activity on the bus. DESIGN CHOICE 0, entry 2. -/
  lastAct : Nat := 0
  noResp  : Nat := 0
  chkErr  : Nat := 0
  bitErr  : Nat := 0
  /-- Responses sent, newest last, and wake-up and go-to-sleep signals: identifier, or 64 for a wake-up signal. -/
  sent    : List (Nat × List Byte) := []
  /-- Headers sent, newest last: identifier, and the break's length in bits (R278). -/
  heads   : List (Nat × Nat) := []
  /-- Assign NAD and Assign frame identifier range requests taken, and the one that waits for its answer on identifier 61 (R280). -/
  config  : List (List Byte) := []
  answer  : Option (List Byte) := none
  deriving DecidableEq, Repr

/-- Meridian (R275, R290). -/
structure Meridian where
  /-- gPTP time G0 at t0 and RATE; none before the first Sync. -/
  sync   : Option (Nat × Nat × Int) := none
  /-- Tick at which the last Sync came. DESIGN CHOICE 0 before, entry 2. -/
  syncAt : Nat := 0
  traced : Bool := false
  /-- PERIOD in ms, and `meridian.ids`, in force since the last due tick (R290); none before the first. -/
  force  : Option (Nat × Nat) := none
  deriving DecidableEq, Repr

/-- One 1000BASE-T1 uplink (R282, R291). -/
structure EthPort where
  link    : Bool := false
  sqi     : Nat := 0
  asCap   : Bool := false
  downs   : Nat := 0
  pdelay  : Nat := 0
  cnt     : Vector Nat 7 := Vector.replicate 7 0
  cable   : Nat := 0
  dist    : Nat := 0
  /-- TC10 sleep request sent at this tick (11 R300), and the PHY is silent. -/
  tc10    : Option Nat := none
  silent  : Bool := false
  deriving DecidableEq, Repr

/-- One 10BASE-T1S port (R283, R292). -/
structure SpePort where
  beacon : Bool := false
  csma   : Bool := false
  losses : Nat := 0
  colls  : Nat := 0
  cnt    : Vector Nat 5 := Vector.replicate 5 0
  deriving DecidableEq, Repr

/-- A learned address (R284): VLAN, MAC, port, tick at which it was last seen. -/
structure Learned where
  vlan : Nat
  mac  : Nat
  port : Nat
  at_  : Nat
  deriving DecidableEq, Repr

/-- A frame placed in an egress queue: port, queue, tick at which its ingress ended, whether it leaves untagged, the frame. -/
structure Egress where
  port  : Nat
  queue : Nat
  at_   : Nat
  untag : Bool
  frame : EthFrame
  deriving DecidableEq, Repr

/-- A received frame that Atlas tunnels, and its CAN or LIN bus (R269, R281). -/
structure TunMsg where
  bus : Nat
  rx  : RxRec
  deriving DecidableEq, Repr

/-- The vehicle networks. -/
structure Nets where
  can   : Vector CanPort 8 := Vector.replicate 8 {}
  lin   : Vector LinPort 8 := Vector.replicate 8 {}
  mrd   : Meridian := {}
  eth   : Vector EthPort 2 := Vector.replicate 2 {}
  spe   : Vector SpePort 2 := Vector.replicate 2 {}
  learned   : List Learned := []
  learnFull : Nat := 0
  vlanDrop  : Nat := 0
  /-- Frames put into egress queues, oldest first. -/
  egress : List Egress := []
  /-- NTSCF frames sent to the uplink host: the messages of each. -/
  ntscf  : List (BitVec 48 × List TunMsg) := []
  /-- LIN records for applets (R281), by port. -/
  linq   : Vector (List RxRec) 8 := Vector.replicate 8 []
  /-- Class-5 events sent (R281, R287): unit × 256 + code, tick of the last one, occurrences since. -/
  evs    : List (Nat × Nat × Nat) := []
  deriving DecidableEq, Repr

/-! ### Network sleep (11) -/

/-- Agreement states (R294). -/
inductive AgSt where
  | disabled
  | normal
  | readySleep
  | committing
  | wakeCheck
  deriving DecidableEq, Repr

/-- A run of keep-alives of a node that holds the network (R306). -/
structure WmRun where
  link   : Nat
  node   : Nat
  reason : Nat
  /-- AON count and tick at its start, tick of its last keep-alive. -/
  first  : Nat
  start  : Nat
  last   : Nat
  /-- It is in the log. -/
  logged : Bool
  deriving DecidableEq, Repr

/-- A keep-alive datagram that was sent (R297): link as Unit of 10 R287, VLAN, destination address, port from and to, payload. -/
structure KaOut where
  link  : Nat
  vlan  : Nat
  dst   : Nat
  port  : Nat
  bytes : List Byte
  deriving DecidableEq, Repr

/-- The sleep agreement. -/
structure Agree where
  st       : AgSt := .disabled
  /-- Start of the timeout, wait or false-wake timeout in progress. DESIGN CHOICE 0 while none, entry 2. -/
  start    : Nat := 0
  lastNode : Nat := 0
  lastLink : Nat := 0
  aborts   : Nat := 0
  /-- Start of the wake hold (R296). -/
  hold     : Option Nat := none
  /-- A local request was held when it was last looked at (R297). -/
  held     : Bool := false
  /-- LIN commanders have gone to sleep in this wait, and step 2 of 09 R245 has been carried out (R299). -/
  linSlept : Bool := false
  saved    : Bool := false
  runs     : List WmRun := []
  /-- AON count at c of the last network commit (R302). -/
  commit   : Option Nat := none
  /-- Source of the last wake, and of a false wake to report at READY (R305). -/
  wakeSrc  : Nat := 0
  falseSrc : Option Nat := none
  /-- Error counts of the selective-wake detectors of CAN0 to CAN3, in PD0 (R304). -/
  wufErr   : Vector Nat 4 := Vector.replicate 4 0
  /-- `netsleep.cfg` and `netsleep.ka` in force since the timeout last started (R308). DESIGN CHOICE 0 before, entry 2. -/
  cfg      : Nat := 0
  ka       : Nat := 0
  /-- Ethernet and T1S keep-alives sent, newest last (R297). -/
  sent     : List KaOut := []
  deriving DecidableEq, Repr

/-! ### Access and immobiliser (12) -/

/-- An ACCESS_CMD that is PENDING (R323). -/
structure AccCmd where
  handle   : Nat
  ses      : Nat
  cmd      : Nat
  slot     : Nat
  aerials  : Nat
  deadline : Option Nat
  tid      : Nat
  keywrap  : Nat
  first    : Nat
  count    : Nat
  deriving DecidableEq, Repr

/-- A result of a token slot in a round (R327): RESULT, zone, front-end, distance in mm if ranged, corrected fields. -/
structure AccRes where
  slot   : Nat
  result : Nat
  zone   : Nat
  fe     : Nat
  dist   : Option Int
  field  : List Nat
  deriving DecidableEq, Repr

/-- What an exchange has still to do for a token (R316, R317): slot, reply, tick of its block's start. -/
structure AccExch where
  slot  : Nat
  reply : Reply
  /-- Front-end that the exchange uses (R317). -/
  fe    : Nat
  start : Nat
  /-- The token has accepted the proof. -/
  accepted : Bool
  /-- PROOF, as its frame carries it, and the session key KS. -/
  proof : List Nat
  ks    : List Nat
  /-- Token-memory blocks received. -/
  blk   : Nat
  deriving DecidableEq, Repr

/-- A round in progress (R310). -/
structure Round where
  start  : Nat
  /-- AON count at the start. -/
  aon    : Nat
  mask   : Nat
  seed   : Nat
  nd     : Nat
  target : Nat
  /-- `lf[n].cfg` as it stood at the start (R330), the aerials that carried neither OPEN nor SHORT then, and the telegram sent. -/
  lf     : List Nat
  live   : Nat
  tele   : List Nat
  /-- Response slots seen so far, as they were: collided, malformed, clean with their reply. -/
  seen   : List (Nat × SlotObs)
  /-- The check has run, and no exchange remains but these. -/
  checked : Bool
  exch   : List AccExch
  res    : List AccRes
  blocks : List Nat
  /-- Aerials off for the rest of the round after a short trip. -/
  off    : Nat
  /-- Peak currents measured in this round, mA, by aerial. -/
  peaks  : List (Nat × Nat)
  deriving DecidableEq, Repr

/-- The command in progress: rounds run including discarded ones, its round or the CALIBRATE step. -/
structure AccJob where
  cmd    : AccCmd
  rounds : Nat
  round  : Option Round
  /-- CALIBRATE: aerial, TUNE step, best TUNE and its current, tick of the step's start. -/
  cal    : Option (Nat × Nat × Nat × Nat × Nat)
  /-- End tick of the check of the round before, from which a retry or the first round may start. -/
  ready  : Nat
  /-- A cancel or DEADLINE stops the round: status, and the slot boundary at which it ends (R326). -/
  stop   : Option (Nat × Nat) := none
  deriving DecidableEq, Repr

/-- One LF aerial (R313, R330). -/
structure Aerial where
  fault  : Nat := 0
  ipeak  : Nat := 0
  faults : Nat := 0
  /-- Consecutive rounds with a low current, and consecutive clean rounds. -/
  low    : Nat := 0
  clean  : Nat := 0
  deriving DecidableEq, Repr

/-- One UWB front-end (R319, R331). -/
structure FrontEnd where
  link    : Bool := false
  errs    : Nat := 0
  frames  : Nat := 0
  power   : Int := 0
  deriving DecidableEq, Repr

/-- One token slot (R333). The key is in the enclave. -/
structure Token where
  id       : Nat := 0
  enrolled : Bool := false
  key      : Nat := 0
  auths    : Nat := 0
  fails    : Nat := 0
  lastDist : Nat := 0
  lastZone : Nat := 0xFF
  deriving DecidableEq, Repr

/-- `access.last` of a slot (R332). -/
structure AccLast where
  result : Nat := 0
  zone   : Nat := 0xFF
  dist   : Nat := 0
  at_    : Nat := 0
  deriving DecidableEq, Repr

/-- The access block. -/
structure Access where
  queue   : List AccCmd := []
  job     : Option AccJob := none
  lf      : Vector Aerial 8 := Vector.replicate 8 {}
  fe      : Vector FrontEnd 4 := Vector.replicate 4 {}
  tok     : Vector Token 16 := Vector.replicate 16 {}
  last    : Vector AccLast 16 := Vector.replicate 16 {}
  rounds  : Nat := 0
  colls   : Nat := 0
  foreign : Nat := 0
  /-- Failures by AON count, oldest first (R321), and the lock-out: its first AON tick and its length. -/
  fails   : List Nat := []
  lock    : Option (Nat × Nat) := none
  lockCnt : Nat := 0
  /-- Lock-out flag of flash stored data (R322). -/
  flag    : Bool := false
  /-- ROUND of the telegram (R312); DESIGN CHOICE 0, entry 2. -/
  roundNo : Nat := 0
  /-- LOCKOUT_END that is due at READY, and its VALUE (R329). -/
  endDue  : Option Nat := none
  /-- Draws made from the enclave's random generator: the model's own counter for free values (entry 16). -/
  draws   : Nat := 0
  deriving DecidableEq, Repr

/-! ### Interlock line and redundant pair (13 R348 to R360) -/

/-- A message sent to the partner on CTL (13 R350 to R357): kind, value, stamp, and the bytes of a forwarded command or of a report, whose coding on CTL
the manual does not give (entry 57). -/
structure CtlMsg where
  kind  : Nat
  value : Nat
  stamp : Nat
  data  : List Byte
  deriving DecidableEq, Repr

/-- The INTLK block and the pair state. -/
structure Intlk where
  /-- INTLK_STATE.ROLE: 0 OFF, 1 IDLE, 2 ACTIVE, 3 STANDBY, 4 WATCH. -/
  role     : Nat := 0
  /-- LINE: the level taken, 1 high. -/
  line     : Bool := false
  /-- Tick at which the level was taken. DESIGN CHOICE 0, entry 2. -/
  lineAt   : Nat := 0
  /-- A level has been taken since the cold start (R348). -/
  taken    : Bool := false
  pull     : Bool := false
  /-- Tick of a claim that the line has not confirmed (R350). -/
  claimAt  : Option Nat := none
  /-- End of the holdoff (R349). -/
  holdoff  : Option Nat := none
  /-- INTLK_CTRL: PAIR, SELFREL, YIELD. -/
  ctrl     : Nat := 0
  /-- INTLK_ROLE. -/
  cause    : Nat := 0
  run      : Nat := 0
  firstCh  : Nat := 0
  /-- INTLK_PROOF; the start tick, window count and dirty mark of a test. -/
  proofOn  : Bool := false
  back     : Bool := false
  result   : Nat := 0
  proofCnt : Nat := 0
  proofBad : Bool := false
  proofGap : Nat := 0
  /-- Step of a running test: 0 waiting for the window boundary, 1 comparing, 2 the exchange back. -/
  proofStep : Nat := 0
  /-- INTLK_ERR. -/
  err      : Nat := 0
  switches : Nat := 0
  proofs   : Nat := 0
  mismatch : Nat := 0
  compared : Nat := 0
  gapLast  : Nat := 0
  gapMax   : Nat := 0
  lastTs   : Nat := 0
  partnerBe : Nat := 0
  beValid  : Bool := false
  /-- The partner's DUALFED mask (R357). -/
  partnerMask : Nat := 0
  /-- Partner's role, pull and TWIN_ID as last reported on CTL. -/
  pRole    : Nat := 0
  pPull    : Bool := false
  pTwinId  : Bool := false
  /-- Level of land TWIN_ID (03 R96). DESIGN CHOICE low, entry 11. -/
  twinId   : Bool := false
  /-- Last report generated (lease, R351) and last report received or standby entered (R354). -/
  leaseAt  : Nat := 0
  heardAt  : Nat := 0
  /-- Switch-over decided at this tick, for this cause (R354). -/
  decided  : Option (Nat × Nat) := none
  /-- Tick of the last switch-over decided by mismatch (R354). -/
  lastMis  : Option Nat := none
  /-- A claim from STANDBY or WATCH whose SWITCH_OVER is still to be sent: tick of the claim, cause once known. -/
  swOver   : Option (Nat × Option Nat) := none
  /-- The gap of that switch-over has ended. -/
  gapEnd   : Bool := false
  /-- Release cause that the partner sent, and when it arrived (R351, R355). -/
  pCause   : Option (Nat × Nat) := none
  /-- Since when the partner reports that it does not pull while the line is low (R350). -/
  idleAt   : Option Nat := none
  /-- TAKEOVER_BLOCKED has been sent for the present decision. -/
  blocked  : Bool := false
  /-- Release stamp r seen by this device (R351, R355). -/
  relAt    : Nat := 0
  /-- Shadow states (R352): channels on, channels pulsing, duties. -/
  shadowOn : Nat := 0
  shadowPulse : Nat := 0
  shadowDuty  : List (Nat × Nat) := []
  /-- Forwarded parameter writes, by parameter key. -/
  shadowPar   : List (Nat × Nat) := []
  /-- The last report generated (R353). -/
  report   : Option PairReport := none
  /-- INPUTS of the last report received. -/
  inputs   : Nat := 0
  /-- Reports and messages sent on CTL, oldest first. -/
  ctl      : List CtlMsg := []
  deriving DecidableEq, Repr


/-- An outbound transaction whose response has not come (13 R337): tag, OP of 13 R335, the access, its window, the address on the partner,
its stamp. A posted write stays until its frame is acknowledged; a prefetch of the following block has no initiator. -/
structure TwinOut where
  tag    : Nat
  op     : Nat
  req    : FabReq
  win    : Nat
  target : Nat
  stamp  : Nat
  silent : Bool
  deriving DecidableEq, Repr

/-- A prefetch buffer of one window (13 R343): block address, its four words, fill tick, words read (bit mask). -/
structure PfBuf where
  block : Nat
  words : List Nat
  at_   : Nat
  read  : Nat
  deriving DecidableEq, Repr

/-- A reservation of the semaphore (13 R345): identifier, doubleword address, stamp. -/
structure Reserv where
  rid   : Nat
  dw    : Nat
  stamp : Nat
  deriving DecidableEq, Repr

/-- The twin link and the bridge (13 R334 to R347). -/
structure Twin where
  up      : Bool := false
  /-- IDN_TWIN.PARTNER. -/
  seen    : Bool := false
  /-- SEQ of the next frame sent, SEQ expected next, ACK last taken and when it advanced. -/
  txSeq   : Nat := 0
  rxSeq   : Nat := 0
  ackSeq  : Nat := 255
  ackAt   : Nat := 0
  /-- Frames sent and not acknowledged, oldest first, and how often the first has been replayed. -/
  unacked : List (Nat × List Byte) := []
  replayed : Nat := 0
  /-- Credits held for REQ, RSP and CTL. -/
  credit  : List Nat := [32, 32, 32]
  /-- Payloads that wait to be framed, by virtual channel and bytes. -/
  txq     : List (Nat × List Byte) := []
  /-- Buffers of received REQ, RSP and CTL frames still to be returned as credits, and the tick of the last valid frame.
  DESIGN CHOICE 0, entry 2. -/
  owed    : List Nat := [0, 0, 0]
  lastRx  : Nat := 0
  /-- Transactions received on REQ and not yet served. -/
  inq     : List LinkReq := []
  /-- Outbound requests that this bridge holds while the partner holds the lock, with their stamps; and those answered RETRY, which
  it reissues when the partner's lock is released (13 R346). -/
  wait    : List (FabReq × Nat) := []
  again   : List TwinOut := []
  out     : List TwinOut := []
  nextTag : Nat := 0
  sem     : List Reserv := []
  /-- The partner's AZ32 lock on this device's SRAM: RID and tick of its grant (13 R346); and this device's lock read sent and not
  granted. -/
  lock    : Option (Nat × Nat) := none
  /-- A lock was released by force: the unlock write of this RID writes nothing. -/
  broken  : Option Nat := none
  lockReq : Bool := false
  pf      : Vector (Option PfBuf) 8 := Vector.replicate 8 none
  /-- Link interrupt of the supervisor (13 R347). -/
  irq     : Bool := false
  /-- Tick of the last wake pattern sent (13 R347). DESIGN CHOICE 0, entry 2. -/
  wakeAt  : Nat := 0
  /-- Parameters `twin.link`, `twin.prefetch`, `twin.sem`, `twin.status`, `twin.posterr`. -/
  replays : Nat := 0
  crcErr  : Nat := 0
  downs   : Nat := 0
  issued  : Vector Nat 8 := Vector.replicate 8 0
  discarded : Vector Nat 8 := Vector.replicate 8 0
  exok    : Nat := 0
  exfail  : Nat := 0
  lockRetry : Nat := 0
  lockBreak : Nat := 0
  postErr : Nat := 0
  postAddr : Nat := 0
  postCode : Nat := 0
  deriving DecidableEq, Repr

/-! ### Xitre cores (14) -/

/-- What a core does (R375, R380, R387). -/
inductive CoreSt where
  | halted
  | running
  | waiting
  | trapped
  deriving DecidableEq, Repr

/-- Where control goes once the delay slots have run (R372 to R374, R381). -/
inductive Flow where
  | jump (target : Nat)
  | call (target mask : Nat)
  | ret
  deriving DecidableEq, Repr

/-- A load whose response is outstanding (R367): address, size, sign extension, exclusive. -/
structure LdWait where
  addr : Nat
  size : Nat
  sgn  : Bool
  excl : Bool
  deriving DecidableEq, Repr

/-- One core: registers, port values of its units, trap state (R366). Port values and registers the manual gives no reset
value for are 0 (DESIGN CHOICE, entry 2). -/
structure Core where
  st     : CoreSt := .halted
  g      : Vector Nat 32 := Vector.replicate 32 0
  pc     : Nat := 0
  sp     : Nat := 0
  splim  : Nat := 0
  nowh   : Nat := 0
  /-- Pending transfer of control and delay slots still to run. -/
  flow   : Option Flow := none
  slots  : Nat := 0
  /-- ALU0 and ALU1: operand and result. -/
  aluO   : Vector Nat 2 := Vector.replicate 2 0
  aluR   : Vector Nat 2 := Vector.replicate 2 0
  mulO   : Nat := 0
  mulR   : Nat := 0
  lsuD   : Nat := 0
  lsuDh  : Nat := 0
  lsuR   : Nat := 0
  lsuRh  : Nat := 0
  lsuEx  : Nat := 0
  /-- Error of the last load, taken by the word that reads its result (R379): code and address. -/
  ldErr  : Option (Nat × Nat) := none
  ldWait : Option LdWait := none
  exWait : Bool := false
  /-- A fence waits for every earlier access (R369). -/
  fence  : Bool := false
  /-- Error responses of posted writes still to be taken (R379): code and address. -/
  late   : List (Nat × Nat) := []
  brA    : Nat := 0
  brT    : Nat := 0
  evMask : Nat := 0
  evR    : Nat := 0
  evPend : Nat := 0
  /-- Tick of the wait trigger and its time, or none for no timeout. -/
  waitAt : Nat := 0
  waitFor : Option Nat := none
  /-- S only: trap state of R381, and traps masked. -/
  tvec   : Nat := 0
  epc    : Nat := 0
  etgt   : Nat := 0
  eds    : Nat := 0
  /-- What follows the delay slots that a trap interrupted: a call keeps its frame to push, a return its frame to pop. -/
  eflow  : Option Flow := none
  ecause : Nat := 0
  eaddr  : Nat := 0
  masked : Bool := false
  crcSel : Nat := 0
  /-- Selection taken at the last init, and the state (R378). -/
  crcIn  : Nat := 0
  crcS   : Nat := 0
  codS   : Nat := 0
  codR   : Nat := 0
  shMode : Nat := 0
  shLen  : Nat := 0
  shR    : Nat := 0
  aesKey : Nat := 0
  aesSrc : Nat := 0
  aesR   : Nat := 0
  dmaD   : Nat := 0
  dmaR   : Nat := 0
  /-- C cores: die.lim, blocking mode and pending die events. VB cores: vlv.sel. -/
  dieLim : Nat := 0
  dieRb  : Nat := 0
  dieEv  : Nat := 0
  vlvSel : Nat := 0
  /-- Ticks from which new SAMPLE pairs and model STEPs are pending events of a C core (R376). -/
  sampAt : Nat := 0
  stepAt : Nat := 0
  /-- Halted by HALTREQ, by a BREAK or by a stop of RUN rather than by a trap (R387); the next word runs as a step. -/
  stepped : Bool := false
  /-- Tick since which an A core has run without a wait (R386), and the ticks of its traps (R386, 17 R434). -/
  busyAt : Nat := 0
  traps  : List Nat := []
  deriving DecidableEq, Repr

/-- Applets: `app.a[n].status` (R388) and the restart (R386). -/
structure Applet where
  cause  : Nat := 0
  trapN  : Nat := 0
  txDrop : Nat := 0
  pc     : Nat := 0
  restart : Option Nat := none
  /-- Left halted after the third trap. -/
  stuck  : Bool := false
  deriving DecidableEq, Repr

/-- The cores: S is 0, An 1 + n, Cn 5 + n, VBb 69 + b. -/
structure Cores where
  core : Vector Core 73 := Vector.replicate 73 {}
  app  : Vector Applet 4 := Vector.replicate 4 {}
  /-- State of the SHAKE unit (R377): bytes absorbed, and bytes squeezed since. -/
  shIn  : List Byte := []
  shOut : Nat := 0
  deriving DecidableEq, Repr

/-! ### Memories and DMA (15) -/

/-- Counts of one region (R407, R408). -/
structure MemCnt where
  cet : Nat := 0
  cel : Nat := 0
  uet : Nat := 0
  uel : Nat := 0
  deriving DecidableEq, Repr

/-- A self-test result (R408). -/
structure SelfTest where
  result : Nat := 0
  step   : Nat := 0
  offset : Nat := 0
  deriving DecidableEq, Repr

/-- The memories and the MEM block. -/
structure Mem where
  /-- Data bytes, rising by address; an address that is not listed has never been written since its memory lost its content, and
  reads as a value that the manual does not define (R393). -/
  cells  : List Host.Cell := []
  /-- Check bits, by doubleword address (R391). -/
  chk    : List (Nat × Nat) := []
  /-- How often content has been lost: the model's own counter for free values (entry 8). -/
  epoch  : Nat := 0
  /-- MEM_CTRL and the other registers of R407. -/
  ctrl   : Nat := 0x00782F81
  scrub  : Nat := 0
  scrubF : Bool := false
  lap    : Nat := 0
  flipLo : Nat := 0
  flipHi : Nat := 0
  /-- CHK, BANK and ALL of MEM_FLIP_CTRL. -/
  flip   : Nat := 0
  arm    : Bool := false
  done   : Bool := false
  flipAt : Nat := 0
  errInfo : Nat := 0
  errAddr : Nat := 0
  cnt    : Vector MemCnt 12 := Vector.replicate 12 {}
  /-- `mem.counts`, RETAINED (R408). -/
  counts : Vector MemCnt 12 := Vector.replicate 12 {}
  laps   : Nat := 0
  slow   : Bool := false
  /-- Next doubleword that the scrubber reads, start of the lap, tick of the last read (R400). -/
  pos    : Nat := 0
  lapAt  : Nat := 0
  readAt : Nat := 0
  /-- Per region: tick of the last CE event and CEs since, by region (R399). -/
  evs    : List (Nat × Nat × Nat) := []
  test   : Vector SelfTest 74 := Vector.replicate 74 {}
  deriving DecidableEq, Repr

/-- One DMA channel (R406). -/
structure DmaCh where
  cur     : Nat := 0
  st      : Nat := 0
  code    : Nat := 0
  stopped : Bool := false
  starter : Nat := 0
  errAddr : Nat := 0
  left    : Nat := 0
  /-- The descriptor in progress as it was read: SRC, DST, LEN, CTRL, NEXT, FILLVAL. -/
  desc    : List Nat := []
  deriving DecidableEq, Repr

/-! ### Firmware (16) -/

/-- Slot states (16 R414). -/
inductive SlotSt where
  | empty
  | receiving
  | received
  | verified
  | active
  | trial
  | previous
  | invalid
  deriving DecidableEq, Repr

/-- A slot with the header fields that the device reads (16 R409, R414). -/
structure Slot where
  st       : SlotSt := .empty
  version  : Nat := 0
  ie       : Nat := 1
  beMin    : Nat := 1
  beMax    : Nat := 1
  rollback : Nat := 0
  revoke   : Nat := 0
  len      : Nat := 0
  deriving DecidableEq, Repr

/-- An applet store or the token staging area: state, VERSION, LENGTH, section offset, size and LOAD. -/
structure Store where
  st      : SlotSt := .empty
  version : Nat := 0
  len     : Nat := 0
  off     : Nat := 0
  size    : Nat := 0
  load    : Nat := 0
  deriving DecidableEq, Repr

/-- A granule in the queue (R413): its offset, CRC and data. -/
structure Granule where
  off  : Nat
  crc  : Nat
  data : List Byte
  deriving DecidableEq, Repr

/-- The transfer record (R412): target, LENGTH, TOKEN, granules in the map with their CRC, sectors erased. -/
structure Xfer where
  target : Nat
  len    : Nat
  token  : Nat
  map    : List (Nat × Nat)
  erased : Nat
  deriving DecidableEq, Repr

/-- What an operation on an image does once its check ends (R415, R416, R418, R420). -/
inductive ImgOp where
  | verify
  | now
  | armed
  | applet
  | unlock
  deriving DecidableEq, Repr

/-- An image operation that is PENDING: handle, target, operation. -/
structure ImgJob where
  handle : Nat
  target : Nat
  op     : ImgOp
  /-- The check has passed and the boot record is being written (R416). -/
  writing : Bool
  deriving DecidableEq, Repr

/-- A report being signed (R421). -/
structure SignJob where
  handle : Nat
  body   : List Byte
  deriving DecidableEq, Repr

/-- Firmware. -/
structure Fw where
  slots : Vector Slot 2 := #v[{ st := .active }, {}]
  run   : Nat := 0
  apps  : Vector Store 4 := Vector.replicate 4 {}
  token : Store := {}
  /-- Transfer record, and the queue of granules. -/
  xfer  : Option Xfer := none
  queue : List Granule := []
  flashErr : Nat := 0
  /-- NONCE of R420 in force. -/
  nonce : Option Nat := none
  jobs  : List ImgJob := []
  armed : Bool := false
  sign  : Option SignJob := none
  /-- Handle of the operation that the enclave's SHAKE core serves (R415). -/
  shake : Option Nat := none
  /-- Signed report: serial and body (R421); the last serial. -/
  report : Option (Nat × List Byte) := none
  serial : Nat := 0
  /-- Boot records (R411, R426): slot named; 0 no trial, 1 activated and not started, 2 trial started. -/
  named  : Nat := 0
  trial  : Nat := 0
  /-- Digest that the enclave wrote into the boot record matches the slot, as far as R415 has passed it. -/
  rollback : Nat := 0
  revoked  : Nat := 0
  /-- Ticks of READY counted for the confirmation (R416) up to the start of the present READY period. -/
  ready  : Nat := 0
  /-- MODE 0: tick of the completion after which the logic die is reset (R416). -/
  resetAt : Option Nat := none
  /-- A DEBUG_UNLOCK has completed since the last reset of the logic die (R420). -/
  unlocked : Bool := false
  /-- Events due at READY: IMG_ACTIVATED, IMG_FALLBACK with VERSION, EDITION_RAISED (R416, R419). -/
  due    : List (Nat × Nat × Nat) := []
  deriving DecidableEq, Repr

/-! ### Start-up and reset (17) -/

/-- The BOOT block and what PD0 and the boot records keep for it (R438). -/
structure Boot where
  /-- BOOT_CTRL.HOLD; 0 until phase 4 writes it. -/
  hold     : Nat := 0
  /-- Value of HOLD that PD0 holds. DESIGN CHOICE 0 before phase 4 first writes it, entry 2. -/
  holdPd0  : Nat := 0
  /-- Value of HOLD in the boot record: 8,192 until first written (R438). -/
  holdRec  : Nat := 8192
  cold     : Bool := false
  adopted  : Bool := false
  expired  : Bool := false
  recovery : Bool := false
  storm    : Bool := false
  /-- This start is a reset storm (R433). -/
  stormStart : Bool := false
  resets   : Nat := 0
  phase    : Nat := 0
  /-- BOOT_CAUSE and its history. -/
  cause    : Nat := 0
  hist     : Vector Nat 8 := Vector.replicate 8 0
  /-- BOOT_SLOT, BOOT_ERR and BOOT_SELFTEST. -/
  slot     : Nat := 0
  err      : Nat := 0
  selftest : Nat := 0
  /-- Hold window (R431): AON count at its start and its length, while it runs. -/
  window   : Option (Nat × Nat) := none
  /-- This start follows a reset of the logic die; a warm start that resumes from retention skips phases 5 and 6 (R427). -/
  restart  : Bool := false
  resume   : Bool := false
  /-- Step 2 of R245 placed a digest in the AON store, and the entry wrote no boot record (R427). -/
  digest   : Bool := false
  /-- Channels that took an orphan state at expiry, for HOLD_EXPIRED (R436). -/
  orphans  : Nat := 0
  /-- AON counts of the resets that count for a storm, oldest first (R433). -/
  faults   : List Nat := []
  /-- Tick and AON count of the reset (R436). -/
  resetAt  : Nat := 0
  /-- Last service of the supervisor watchdog (R429). -/
  served   : Nat := 0
  /-- Trap ticks of sequencers, by core number (R434), and cores left halted. -/
  seqTraps : List (Nat × Nat) := []
  stuck    : List Nat := []
  /-- Tick of the last DROOP event per domain (R436), and start of the droop in progress. -/
  droopEv  : Vector (Option Nat) 16 := Vector.replicate 16 none
  droopAt  : Vector Nat 16 := Vector.replicate 16 0
  deriving DecidableEq, Repr

/-- The device, and the queue of commands that wait. -/
structure State where
  clk    : TimeBase := {}
  pace   : Vector PaceRec 16 := Vector.replicate 16 {}
  fab    : Fabric := {}
  atlas  : Atlas := {}
  par    : ParStore := {}
  dbg    : Dbg := {}
  load   : Load := {}
  iso    : Iso := {}
  ctr    : Contour := {}
  vlv    : Valves := {}
  light  : Light := {}
  pwr    : Power := {}
  lgd    : Legend := {}
  svy    : Survey := {}
  inp    : Vector Input 48 := Vector.replicate 48 {}
  net    : Nets := {}
  agr    : Agree := {}
  acc    : Access := {}
  xi     : Cores := {}
  mem    : Mem := {}
  dma    : Vector DmaCh 32 := Vector.replicate 32 {}
  boot   : Boot := {}
  fw     : Fw := {}
  il     : Intlk := {}
  twin   : Twin := {}
  /-- Commands that wait, first in, first out. -/
  pending : List Instr := []
  deriving DecidableEq, Repr

/-- The device right after reset: every field at the value that its structure states. -/
def State.reset : State := {}

end Sys2Proof.Machine
end

