-- ==== Sys2Proof/Machine/Operands.lean ====
section
/-!
DEFINITION. The operands that meanings read: parameters and their fields, the places of channels on dies and feeds, and
time conversions.
-/
namespace Sys2Proof.Machine

/-! ### Parameters (03 R83 to R90) -/

/-- The family that covers an ID, its index and its member (03 R90). `pace.pd[p]` has no p of 0 and 5 to 8. -/
def lookupPar (id : Nat) : Option (FamSpec × Nat × ParSpec) :=
  match famTable.find? (fun f => f.base ≤ id && id < f.base + f.stride * f.n) with
  | none => none
  | some f =>
    let i := (id - f.base) / f.stride
    if f.base = 0x40 && (i = 0 || (5 ≤ i && i ≤ 8)) then none
    else (f.pars.find? (fun p => p.off = (id - f.base) % f.stride)).map (fun p => (f, i, p))

/-- The member that an ID and INDEX address, with `mem.inject[1]`'s own layout; none where no parameter has the ID or the
INDEX lies beyond a TABLE's last element (03 R84). An INDEX on another type is left to the RANGE check. -/
def parSpec (id idx : Nat) : Option (FamSpec × Nat × ParSpec) :=
  match lookupPar id with
  | none => none
  | some (f, i, p) =>
    if p.type = 12 then
      if idx < p.count then some (f, i, if id = 0x5802 && idx = 1 then par_mem_inject1 else p) else none
    else some (f, i, p)

/-- Class of channel n (04 R99): 0 H, 1 M, 2 L. -/
def chClass (n : Nat) : Nat := if n < 8 then 0 else if n < 32 then 1 else 2

/-- The reset value of a field: one value, or the value of the channel's class in the family `load.ch[n]`. -/
def FieldSpec.resetAt (x : FieldSpec) (i : Nat) : Nat :=
  match x.resets with
  | [a, b, c] => if chClass i = 0 then a else if chClass i = 1 then b else c
  | a :: _ => a
  | [] => 0

/-- The default of a parameter or element, without its RO fields but for `atlas.fleet_committed` (03 R93). Three tables give a reset by
INDEX: `switch.vlan`
(10 R293), `eth[k].prio` (10 R291) and `light.ntc[t].curve` (08 R238). -/
def parDefault (id idx : Nat) : Nat :=
  match parSpec id idx with
  | none => 0
  | some (f, i, p) =>
    if id = 5 then 1
    else if id = 0x3503 then (if idx = 0 then 1 ||| (0x1F <<< 12) ||| (0x1F <<< 17) ||| (1 <<< 22) else 0)
    else if f.base = 0x3400 && p.off = 5 then idx
    else if f.base = 0x2300 && p.off = 1 then
      (600 + 100 * idx) ||| (([1000, 1000, 900, 750, 550, 350, 200, 100].getD idx 0) <<< 16)
    else (p.flds.filter (fun x => x.acc = .rw)).foldl (fun v x => v ||| (x.resetAt i <<< x.lo)) 0

/-- Key of a parameter in the stores. -/
def parKey (id idx : Nat) : Nat := id * 65536 + idx

/-- Working copy of a parameter (03 R86): the value last written, or the default. -/
def State.parOf (s : State) (id idx : Nat) : Nat := (kvGet (parKey id idx) s.par.work).getD (parDefault id idx)

/-- Writing a working copy; the store lists no default. -/
def State.setPar (s : State) (id idx v : Nat) : State :=
  let w := if v = parDefault id idx then kvDel (parKey id idx) s.par.work else kvPut (parKey id idx) v s.par.work
  { s with par := { s.par with work := w } }

/-- Stored copy of a parameter (03 R86). -/
def State.storedOf (s : State) (id idx : Nat) : Nat := (kvGet (parKey id idx) s.par.stored).getD (parDefault id idx)

/-- Writing a stored copy; the store lists no default. -/
def State.setStored (s : State) (id idx v : Nat) : State :=
  let w := if v = parDefault id idx then kvDel (parKey id idx) s.par.stored else kvPut (parKey id idx) v s.par.stored
  { s with par := { s.par with stored := w } }

/-- ID of the parameter that a field belongs to. -/
def ParField.id (x : ParField) (i : Nat) : Nat := x.base + x.stride * i + x.off

/-- A field of a parameter: family index `i`, TABLE INDEX `k`. -/
def State.pf (s : State) (x : ParField) (i : Nat := 0) (k : Nat := 0) : Nat := bitsOf (s.parOf (x.id i) k) x.lo x.w

/-- A one-bit field. -/
def State.pb (s : State) (x : ParField) (i : Nat := 0) (k : Nat := 0) : Bool := s.pf x i k = 1

/-- A field's value inside another value, for parameter writes. -/
def ParField.of (x : ParField) (v : Nat) : Nat := bitsOf v x.lo x.w

/-- A field's value shifted into place, for parameter reads. -/
def ParField.put (x : ParField) (v : Nat) : Nat := (v % 2 ^ x.w) <<< x.lo

/-- Writing one field of a parameter. -/
def State.setPf (s : State) (x : ParField) (i k v : Nat) : State :=
  s.setPar (x.id i) k (putBits (s.parOf (x.id i) k) x.lo x.w v)

/-! ### Time (02 R59, R60) -/

/-- Ticks in `n` µs, ms and s. -/
def usTk (n : Nat) : Nat := 200 * n
def msTk (n : Nat) : Nat := 200000 * n
def secTk (n : Nat) : Nat := 200000000 * n

/-- AON ticks as ref ticks (02 R59). -/
def aonToTk (a : Nat) : Nat := a * 390625 / 64

/-- Ref ticks as AON ticks (02 R59). -/
def tkToAon (t : Nat) : Nat := t * 64 / 390625

/-- The time base now. -/
def State.now (s : State) : Nat := s.clk.tb

/-- AON ticks since a count of the 48-bit counter. -/
def State.aonSince (s : State) (a : Nat) : Nat := (s.clk.aon + 2 ^ 48 - a) % 2 ^ 48

/-- A length of `n` ticks that started at `t` has expired (02 R60). -/
def State.expired (s : State) (t n : Nat) : Bool := t + n ≤ s.now

/-! ### Domains (01 R24) -/

/-- PDp is on. -/
def State.pd (s : State) (p : Nat) : Bool := s.pwr.pdOn.testBit p

/-- Entry to PARK or DORMANT by POWER_REQ has been dispatched: every turn-on command is refused (09 R245). -/
def State.entering (s : State) : Bool := match s.pwr.entry with | some e => 2 ≤ e.target | none => false

/-- What a domain requires (01 R24). -/
def pdNeeds (p : Nat) : List Nat :=
  if p = 0 then [] else if p = 1 then [3] else if p = 2 then [1] else if p = 3 then [0]
  else if 10 ≤ p && p ≤ 13 then [3, 15] else [3]

/-! ### Channels on dies and feeds (01 R22, 18 R441) -/

/-- Power die of chn: die d holds ch 2d, 2d+1, 8+6d to 13+6d, 32+8d to 39+8d (01 R22). -/
def dieOf (n : Nat) : Nat := if n < 8 then n / 2 else if n < 32 then (n - 8) / 6 else (n - 32) / 8

/-- Channels of a die. -/
def chansOf (d : Nat) : List Nat := (List.range 64).filter (fun n => dieOf n = d)

/-- The feed of a channel: true for FEEDA (18 R441). -/
def onFeedA (n : Nat) : Bool :=
  if n < 8 then n % 2 = 0
  else if n < 32 then (8 ≤ n && n ≤ 11) || n = 14 || n = 15 || (20 ≤ n && n ≤ 23) || n = 26 || n = 27
  else (n - 32) % 8 < 4

/-- The channel is bonded to the feed. -/
def onFeed (f : Feed) (n : Nat) : Bool := match f with | .a => onFeedA n | .b => !onFeedA n

/-- The channel's feed is in range (04 R127, 18 R443). -/
def State.feedOk (s : State) (n : Nat) : Bool := if onFeedA n then s.pwr.aOk else s.pwr.bOk

/-- Voltage of the channel's feed, mV. -/
def State.feedMv (s : State) (n : Nat) : Nat := 10 * (if onFeedA n then s.pwr.va else s.pwr.vb)

/-- Nominal current of the class, mA; also the fixed limit of the hold window (04 R99). -/
def nominalMa (n : Nat) : Nat := if chClass n = 0 then 25000 else if chClass n = 1 then 10000 else 3000

/-- Resolution of the current limit, mA (04 R115). -/
def limitStep (n : Nat) : Nat := if chClass n = 0 then 250 else if chClass n = 1 then 100 else 25

/-- Range of the current limit, mA (04 R115). -/
def limitRange (n : Nat) : Nat × Nat :=
  if chClass n = 0 then (2000, 35000) else if chClass n = 1 then (500, 15000) else (100, 4500)

/-- The channel record. -/
def State.chan (s : State) (n : Nat) : Chan := s.load.ch.toList.getD n {}

/-- Writing a channel record. -/
def State.setChan (s : State) (n : Nat) (c : Chan) : State :=
  { s with load := { s.load with ch := s.load.ch.setIfInBounds n c } }

/-- Changing a channel record. -/
def State.modChan (s : State) (n : Nat) (f : Chan → Chan) : State := s.setChan n (f (s.chan n))

/-- The composite record of slot 64 + k. -/
def State.compOf (s : State) (k : Nat) : Comp := s.load.comp.toList.getD k {}

/-- Writing a composite record. -/
def State.setComp (s : State) (k : Nat) (c : Comp) : State :=
  { s with load := { s.load with comp := s.load.comp.setIfInBounds k c } }

/-- The generator record. -/
def State.genOf (s : State) (g : Nat) : Gen := s.load.gen.toList.getD g {}

/-- Writing a generator record. -/
def State.setGen (s : State) (g : Nat) (x : Gen) : State :=
  { s with load := { s.load with gen := s.load.gen.setIfInBounds g x } }

/-- The die record. -/
def State.dieRec (s : State) (d : Nat) : Die := s.load.die.toList.getD d {}

/-- Writing a die record. -/
def State.setDie (s : State) (d : Nat) (x : Die) : State :=
  { s with load := { s.load with die := s.load.die.setIfInBounds d x } }

/-! ### Channel settings (04 R131) -/

/-- Bridge in force on even M channel n (04 R101). -/
def State.bridge (s : State) (n : Nat) : Bool := chClass n = 1 && n % 2 = 0 && s.pb Pf.chCfg_BRIDGE n

/-- Odd channel of a bridge. -/
def State.bridgeOdd (s : State) (n : Nat) : Bool := chClass n = 1 && n % 2 = 1 && s.bridge (n - 1)

/-- The channel that reports and is commanded for n: the even channel of its bridge, or n (04 R101). -/
def State.owner (s : State) (n : Nat) : Nat := if s.bridgeOdd n then n - 1 else n

/-- Default inrush peak in mA and time in ms by profile (04 R111), and of L channels (R112). -/
def inrushDefault (n profile : Nat) : Nat × Nat :=
  if chClass n = 2 then (4500, 5)
  else
    let h := [(25000, 0), (80000, 20), (40000, 2), (60000, 10), (75000, 50), (50000, 50), (35000, 5)]
    let m := [(10000, 0), (25000, 20), (15000, 2), (20000, 10), (30000, 300), (15000, 100), (12000, 5)]
    (if chClass n = 0 then h else m).getD profile (0, 0)

/-- Inrush peak P, mA (04 R111, R131). -/
def State.inrushP (s : State) (n : Nat) : Nat :=
  if s.pf Pf.chInrush_IPEAK n = 0 then (inrushDefault n (s.pf Pf.chCfg_PROFILE n)).1 else 100 * s.pf Pf.chInrush_IPEAK n

/-- Inrush time T, tk. -/
def State.inrushT (s : State) (n : Nat) : Nat :=
  msTk (if s.pf Pf.chInrush_TINR n = 0 then (inrushDefault n (s.pf Pf.chCfg_PROFILE n)).2 else s.pf Pf.chInrush_TINR n)

/-- Breakpoints of the profile shape f in ‰ at fractions of T in ‰ (04 R111). -/
def profileShape (profile : Nat) : List (Nat × Nat) :=
  List.zip [0, 50, 100, 200, 400, 700, 1000]
    (match profile with
     | 1 => [1000, 1000, 800, 550, 300, 120, 0]
     | 2 => [1000, 600, 400, 250, 150, 50, 0]
     | 3 => [1000, 1000, 1000, 1000, 800, 400, 0]
     | 4 => [1000, 1000, 1000, 1000, 1000, 700, 0]
     | 5 => [1000, 950, 900, 800, 600, 300, 0]
     | 6 => [1000, 1000, 500, 250, 100, 0, 0]
     | _ => [0, 0, 0, 0, 0, 0, 0])

/-- f at the fraction x of T: linear between the breakpoints. -/
def shapeAt : List (Nat × Nat) → Rat → Rat
  | (x0, y0) :: (x1, y1) :: l, x =>
    if x < (x1 : Rat) / 1000 then
      ((y0 : Rat) + ((y1 : Rat) - y0) * (x * 1000 - x0) / ((x1 : Rat) - x0)) / 1000
    else shapeAt ((x1, y1) :: l) x
  | [(_, y)], _ => (y : Rat) / 1000
  | [], _ => 0

/-- RON25 of switch `sw` of channel n, µΩ: the fused value, or the class typical value (04 R99, 06 R164, entry 11). -/
def State.ron25 (s : State) (n sw : Nat) : Nat :=
  (kvGet (2 * n + sw) s.load.ron25).getD (if chClass n = 0 then 2200 else if chClass n = 1 then 8000 else 35000)

/-- Junction estimate of one switch, °C (06 R165). -/
def State.tjSw (s : State) (n sw : Nat) : Rat :=
  ((s.dieRec (dieOf n)).tcase : Rat) / 10 + (((s.chan n).poles.toList.getD sw (Vector.replicate 4 0)).toList.foldl (· + ·) 0)

/-- Junction estimate of a channel: that of its hotter switch (06 R165). -/
def State.tj (s : State) (n : Nat) : Rat :=
  if chClass n = 1 then max (s.tjSw n 0) (s.tjSw n 1) else s.tjSw n 0

/-- Ron of a switch, mΩ: RON25 × (1 + 0.0046 × (T − 25)) (06 R164). -/
def State.ron (s : State) (n sw : Nat) (t : Rat) : Rat := (s.ron25 n sw : Rat) / 1000 * (1 + (46 : Rat) / 10000 * (t - 25))

/-- A rational rounded up to a natural number; a negative one gives 0. -/
def ratCeil (r : Rat) : Nat := r.ceil.toNat

/-- A rational rounded down. -/
def ratFloor (r : Rat) : Int := r.floor

/-- The running image's slot (16 R414). -/
def State.image (s : State) : Slot := s.fw.slots.toList.getD s.fw.run {}

end Sys2Proof.Machine
end

