-- ==== Sys2Proof/Machine/Ops.lean ====
section
/-!
DEFINITION. The named operations that every family uses: the passing of time, messages, events, handles, and how Atlas takes
and answers a request (03 R64 to R82, R452, R454).
-/
namespace Sys2Proof.Machine

/-- Time passes before a command: the time base counts while PD3 is on and the PLL has locked (02 R55), the AON counter
whenever the device is out of OFF (02 R57). -/
def State.pass (s : State) (g : Lapse) : State :=
  let dt := if s.clk.run && s.pd 3 then g.tk else 0
  let da := if s.pwr.st = .off then 0 else g.aon
  { s with clk := { s.clk with tb := s.clk.tb + dt, aon := (s.clk.aon + da) % 2 ^ 48 } }

/-! ### Sessions and messages -/

/-- A session record. -/
def State.ses (s : State) (i : Nat) : SesRec := s.atlas.ses.toList.getD i {}

/-- Changing a session record. -/
def State.modSes (s : State) (i : Nat) (f : SesRec → SesRec) : State :=
  { s with atlas := { s.atlas with ses := s.atlas.ses.setIfInBounds i (f (s.ses i)) } }

/-- The 16-byte header and the payload of a message (03 R70). -/
def Msg.head (m : Msg) : List Byte :=
  leBytes 1 m.fmt ++ leBytes 1 m.op ++ leBytes 2 m.seq ++ leBytes 2 m.handle ++ leBytes 2 m.status
    ++ leBytes 2 m.payload.length ++ leBytes 1 m.flags ++ leBytes 1 m.origin

/-- The message as bytes, with its CRC (03 R70). -/
def Msg.bytes (m : Msg) : List Byte := m.head ++ leBytes 4 (crc32c (m.head ++ m.payload)) ++ m.payload

/-- Posting a message, or queueing it behind the posted one (03 R67); posting sets MBX_IRQ_STAT.RSP. A completion that finds 64 entries
waiting is not dropped: it waits at Atlas for its place (DESIGN CHOICE, entry 88). -/
def SesRec.push (r : SesRec) (m : Msg) : SesRec :=
  match r.posted with
  | none => { r with posted := some m, irqStat := r.irqStat ||| 1 }
  | some _ => if r.queue.length < 64 then { r with queue := r.queue ++ [m] } else { r with spill := r.spill ++ [m] }

/-- Posting the next entry after the posted one has gone (03 R67). -/
def SesRec.post (r : SesRec) : SesRec :=
  match r.posted, r.queue ++ r.spill with
  | none, m :: q => { r with posted := some m, queue := q.take 64, spill := q.drop 64, irqStat := r.irqStat ||| 1 }
  | _, _ => r

/-- A message of the pair on CTL, while the link is up: its kind and value (13 R350 to R357). Kinds: 1 forwarded command,
2 DUALFED mask, 3 pair state, 4 release cause, 5 RELEASE, 6 report, 7 behaviour edition, 8 interrupt, 9 forwarded write. -/
def State.sendCtlMsg (s : State) (m : CtlMsg) : State :=
  if s.twin.up then { s with il := { s.il with ctl := s.il.ctl ++ [m] } } else s

/-- Such a message of this tick, without bytes. -/
def State.sendCtl (s : State) (kind value : Nat) : State := s.sendCtlMsg ⟨kind, value, s.now, []⟩

/-- Setting a pending event of a Xitre core by its number 0 to 72 (14 R376). -/
def State.raiseEv (s : State) (i bit : Nat) : State :=
  let c := s.xi.core.toList.getD i {}
  { s with xi := { s.xi with core := s.xi.core.setIfInBounds i { c with evPend := c.evPend ||| (1 <<< bit) } } }

/-- A power-die event of channel n: pending at die.ev and as the DIE event of its C core (14 R366, R376). Bits of die.ev: 0 trip, 1 sag,
2 undervoltage, 3 interlock (DESIGN CHOICE, entry 29). -/
def State.dieEvent (s : State) (n bit : Nat) : State :=
  let c := s.xi.core.toList.getD (5 + n) {}
  { s with xi := { s.xi with core := s.xi.core.setIfInBounds (5 + n) { c with evPend := c.evPend ||| 8, dieEv := c.dieEv ||| (1 <<< bit) } } }

/-- What a change of a session's MBX_IRQ_STAT or queue raises (03 R67, 13 R347, 14 R376): the mailbox event of S, the CTL interrupt
message of session 1, the mailbox event of every A core for session 3. -/
def State.mbxEvent (s : State) (ses : Nat) : State :=
  let on := (s.ses ses).irqStat &&& (s.ses ses).irqEn ≠ 0
  let s := s.raiseEv 0 0
  if ses = 1 && on then s.sendCtl 8 0
  else if ses = 3 && on then [1, 2, 3, 4].foldl (fun s i => s.raiseEv i 0) s
  else s

/-- Sending a message. On the uplink it leaves at once to the given interface, address and port; the other sessions post or queue it, and
it is never dropped (03 R66, R67). -/
def State.sendTo (s : State) (ses iface dst port : Nat) (m : Msg) : State :=
  if ses = 0 then { s with atlas := { s.atlas with sent := s.atlas.sent ++ [⟨iface, dst, port, m⟩] } }
  else (s.modSes ses (fun r => r.push m)).mbxEvent ses

/-- Sending an event or a completion: on the uplink to the source of the last valid request, which 03 R66 states for events and leaves open
for completions (DESIGN CHOICE, entry 88). -/
def State.sendPeer (s : State) (ses : Nat) (m : Msg) : State := s.sendTo ses s.atlas.peerIf s.atlas.peer s.atlas.peerPort m

/-- Changing messages that the device has put out: posted, queued, sent on the uplink and kept with their handles. -/
def State.mapSent (s : State) (f : Msg → Msg) (done : Nat → List Byte → List Byte) : State :=
  { s with atlas := { s.atlas with
      ses := s.atlas.ses.map (fun r => { r with posted := r.posted.map f, queue := r.queue.map f, spill := r.spill.map f })
      sent := s.atlas.sent.map (fun u => { u with msg := f u.msg })
      handles := s.atlas.handles.map (fun (h : Hnd) => match h.phase with
        | .done t st p => { h with phase := .done t st (done t p) }
        | _ => h) } }

/-- Of two trips in one tick the lower code is reported (04 R105, 07 R200): the trip events of the class that this tick sent for `units`
with the code `old`, and the completions that failed with it, carry `new`. -/
def State.lowerCode (s : State) (cls op : Nat) (units : List Nat) (old new : Nat) : State :=
  let set := fun (p : List Byte) (i : Nat) => p.set i (BitVec.ofNat 8 new)
  let done := fun (t : Nat) (p : List Byte) => if t = s.now && units.contains (leAt p 0 2) && leAt p 3 1 = old then set p 3 else p
  s.mapSent (fun m =>
    if m.op = 0x41 && leAt m.payload 0 2 = cls && units.contains (leAt m.payload 2 2) && leAt m.payload 4 2 = old && leAt m.payload 8 8 = s.now then
      { m with payload := set m.payload 4 }
    else if m.op = op && m.status = 0x201 then { m with payload := done (leAt m.payload 8 8) m.payload }
    else m) (fun t p => done t p)

/-- The payload of an event (03 R94). -/
def Ev.payload (e : Ev) : List Byte :=
  leBytes 2 e.cls ++ leBytes 2 e.unit ++ leBytes 2 e.code ++ leBytes 2 0 ++ leBytes 8 e.stamp ++ e.detail

/-- Interface edition of the running image (03 R93). -/
def State.ie (s : State) : Nat := s.image.ie

/-- An event for one subscriber takes the next SEQ. At a full queue it is dropped and counted (03 R67, R94). -/
def State.eventTo (s : State) (e : Ev) (ses org : Nat) : State :=
  let r := s.ses ses
  let m : Msg := ⟨Config.eventFmt s.ie, 0x41, r.evSeq.toList.getD org 0, 0, 0, 5, if ses = 3 then org else 0, e.payload⟩
  let s := s.modSes ses (fun r => { r with evSeq := r.evSeq.setIfInBounds org ((r.evSeq.toList.getD org 0 + 1) % 65536) })
  if ses ≠ 0 && r.posted.isSome && 64 ≤ r.queue.length then s.modSes ses (fun r => { r with evLost := satInc 255 r.evLost })
  else s.sendPeer ses m

/-- The subscribers of a class: session and core (03 R68, R94). -/
def State.subscribers (s : State) (cls : Nat) : List (Nat × Nat) :=
  [(0, 0), (1, 0), (2, 0), (3, 0), (3, 1), (3, 2), (3, 3)].filter
    (fun p => (s.ses p.1).isOpen && ((s.ses p.1).masks.toList.getD p.2 0).testBit cls)

/-- An event with a stamp of its own, sent to every subscriber (03 R94). -/
def State.emitAt (s : State) (cls unit code stamp : Nat) (detail : List Byte) : State :=
  (s.subscribers cls).foldl (fun s p => s.eventTo ⟨cls, unit, code, stamp, detail⟩ p.1 p.2) s

/-- An event stamped now. -/
def State.emit (s : State) (cls unit code : Nat) (detail : List Byte) : State := s.emitAt cls unit code s.now detail

/-- An event of a start, kept for one second from READY (03 R454), and sent to whoever has subscribed already. -/
def State.keepAt (s : State) (cls unit code stamp : Nat) (detail : List Byte) : State :=
  let subs := s.subscribers cls
  let s' := s.emitAt cls unit code stamp detail
  { s' with atlas := { s'.atlas with kept := s'.atlas.kept ++ [⟨⟨cls, unit, code, stamp, detail⟩, subs⟩] } }

/-- A kept event stamped now. -/
def State.keep (s : State) (cls unit code : Nat) (detail : List Byte) : State := s.keepAt cls unit code s.now detail

/-- A class-7 event with its VALUE (13 R359). -/
def State.pairEvent (s : State) (unit code value : Nat) : State :=
  s.emit 7 unit code (leBytes 4 value ++ leBytes 1 s.il.cause ++ leBytes 1 s.il.role ++ leBytes 2 0)

/-- Setting a bit of INTLK_ERR (13 R360). -/
def State.pairErr (s : State) (b : Nat) : State := { s with il := { s.il with err := s.il.err ||| (1 <<< b) } }

/-! ### Register accesses (01 R31, 02 R38, 03 R97) -/

/-- Peripheral blocks: base, end, domain, host-visible (01 R31). -/
def blockTable : List (Nat × Nat × Nat × Bool) :=
  [(0x40000000, 0x40010000, 3, true), (0x40010000, 0x40020000, 3, true), (0x40020000, 0x40030000, 3, true),
   (0x40030000, 0x40040000, 3, true), (0x40040000, 0x40050000, 0, true), (0x40050000, 0x40060000, 0, true),
   (0x40060000, 0x40070000, 3, false), (0x40070000, 0x40080000, 3, false), (0x40080000, 0x40090000, 0, false),
   (0x40090000, 0x400A0000, 3, false), (0x400A0000, 0x400B0000, 3, false), (0x400B0000, 0x400C0000, 3, false)]
  ++ [(0x400C0000, 0x400D0000, 4, false), (0x40100000, 0x40110000, 10, false), (0x40110000, 0x40120000, 11, false),
   (0x40120000, 0x40130000, 12, false), (0x40130000, 0x40140000, 13, false), (0x40140000, 0x40160000, 3, false),
   (0x40160000, 0x40178000, 15, false), (0x40178000, 0x40180000, 0, false), (0x40180000, 0x40190000, 9, false),
   (0x40190000, 0x401A0000, 8, false), (0x40200000, 0x402A0000, 6, false), (0x40300000, 0x40350000, 5, false)]
  ++ [(0x40380000, 0x403A0000, 7, false), (0x40400000, 0x40410000, 14, false)]

/-- The block that holds a peripheral address. -/
def blockAt (a : Nat) : Option (Nat × Nat × Nat × Bool) := blockTable.find? (fun b => b.1 ≤ a && a < b.2.1)

/-- The fabric port of the domain of a peripheral address is closed for power-down (02 R40). -/
def State.portClosed (s : State) (a : Nat) : Bool := ((blockAt a).map (fun b => s.fab.closed.testBit b.2.2.1)).getD false

/-- Crossbar port of an initiator, 8 for the bench SPI port (01 R33, 03 R97). -/
def Initiator.port : Initiator → Nat
  | .super => 0
  | .applet _ => 1
  | .partner => 7
  | .bench => 8

/-- Recording an error response: first error, and every count (03 R97). -/
def State.fabErr (s : State) (code port addr : Nat) : State :=
  let d := s.dbg
  let d := if d.ferrValid then d else { d with ferrCode := code, ferrValid := true, ferrPort := port, ferrAddr := addr }
  { s with dbg := { d with ferrCnt := satInc 0xFFFFFFFF d.ferrCnt, codeCnt := d.codeCnt.setIfInBounds code (satInc 0xFFFFFFFF (d.codeCnt.toList.getD code 0)), portCnt := d.portCnt.setIfInBounds port (satInc 0xFFFFFFFF (d.portCnt.toList.getD port 0)) } }

/-- An error response at a crossbar port: recorded, counted and delivered (02 R38, 03 R97). -/
def State.portErr (s : State) (code port addr : Nat) : State :=
  let s := s.fabErr code port addr
  { s with fab := { s.fab with last := some ⟨port, 0, code, 0⟩ } }

/-- The error of a posted write waits for the next word of a core (02 R38, 14 R379); a halted core takes none. -/
def State.lateErr (s : State) (i code addr : Nat) : State :=
  let c := s.xi.core.toList.getD i {}
  if c.st = .halted then s else { s with xi := { s.xi with core := s.xi.core.setIfInBounds i { c with late := c.late ++ [(code, addr)] } } }

/-- An error response of an access that a command makes whole: recorded and delivered, and a core takes its trap (02 R38). -/
def State.accessErr (s : State) (ini : Initiator) (code addr : Nat) : State :=
  let s := s.portErr code (Initiator.port ini) addr
  match ini with
  | .super => s.lateErr 0 code addr
  | .applet n => s.lateErr (1 + n) code addr
  | _ => s

/-- A write of a register of INTLK or of MBX_CTRL: the supervisor and the bench port may write it, the partner and the application
cores may not (03 R65, 13 R339). Without PD3 there is no fabric, and nothing happens; a closed port answers OFF (02 R40). -/
def State.hostWrite (s : State) (ini : Initiator) (addr : Nat) (k : State → State) : State :=
  if !s.pd 3 then s
  else if s.portClosed addr then s.accessErr ini 2 addr
  else
    match ini with
    | .super => k s
    | .bench => k s
    | _ => s.accessErr ini 3 addr

/-- A write of a register of BOOT, DBG or LGD: the partner may write it as a host session may (13 R339), an application core may not
(03 R65). -/
def State.openWrite (s : State) (ini : Initiator) (addr : Nat) (k : State → State) : State :=
  if !s.pd 3 then s
  else if s.portClosed addr then s.accessErr ini 2 addr
  else
    match ini with
    | .applet _ => s.accessErr ini 3 addr
    | _ => k s

/-- A write of a register of a block that is not host-visible: the supervisor alone (01 R31). -/
def State.superWrite (s : State) (ini : Initiator) (addr : Nat) (k : State → State) : State :=
  if !s.pd 3 then s
  else if s.portClosed addr then s.accessErr ini 2 addr
  else
    match ini with
    | .super => k s
    | _ => s.accessErr ini 3 addr

/-! ### Status codes (03 R81) -/

def St.ok := 0
def St.accepted := 1
def St.badFormat := 0x100
def St.unknownOp := 0x101
def St.unknownParam := 0x102
def St.readOnly := 0x103
def St.range := 0x104
def St.type := 0x105
def St.edition := 0x106
def St.denied := 0x107
def St.noHandle := 0x108
def St.unknownHandle := 0x109
def St.notCancellable := 0x10A
def St.conflict := 0x10B
def St.state := 0x10C
def St.notReady := 0x10D
def St.lockedOut := 0x10E
def St.cancelled := 0x200
def St.failed := 0x201
def St.timeout := 0x202
def St.verifyFailed := 0x203
def St.rollback := 0x204
def St.binding := 0x205
def St.persistFailed := 0x206
def St.superseded := 0x207

/-! ### The operations of 03 R72 -/

/-- Kind of an operation: sessions that may send it, cancellable. -/
structure OpInfo where
  code     : Nat
  sessions : List Nat
  cancel   : Bool
  deriving DecidableEq, Repr

/-- The listed operations (03 R72). -/
def opTable : List OpInfo :=
  [⟨0x00, [0, 1, 2, 3], false⟩, ⟨0x01, [0, 1, 2, 3], false⟩, ⟨0x10, [0, 1, 2, 3], false⟩, ⟨0x11, [0, 1, 2, 3], false⟩,
   ⟨0x12, [0, 1, 2, 3], false⟩, ⟨0x13, [0, 1, 2, 3], false⟩, ⟨0x14, [0, 1, 2, 3], false⟩, ⟨0x15, [0, 2], false⟩,
   ⟨0x20, [0, 1, 2, 3], true⟩, ⟨0x21, [0, 1, 2, 3], true⟩, ⟨0x22, [0, 1, 2, 3], false⟩, ⟨0x28, [0, 2], true⟩]
  ++ [⟨0x30, [0, 1, 2, 3], false⟩, ⟨0x31, [0, 1, 2, 3], false⟩, ⟨0x32, [0, 1, 2, 3], false⟩, ⟨0x40, [0, 1, 2, 3], false⟩,
   ⟨0x41, [0, 1, 2, 3], false⟩, ⟨0x50, [0, 2], false⟩, ⟨0x51, [0, 2], false⟩, ⟨0x52, [0, 2], true⟩,
   ⟨0x53, [0, 2], false⟩, ⟨0x58, [0, 1, 2], true⟩, ⟨0x5C, [0, 2], false⟩, ⟨0x60, [0, 2], false⟩, ⟨0x68, [0, 1, 3], true⟩]

/-- The operation with a code. -/
def opInfo (op : Nat) : Option OpInfo := opTable.find? (fun o => o.code = op)

/-- Operations that take a handle in the header (03 R76). -/
def takesHandle (op : Nat) : Bool := op = 0x30 || op = 0x31 || op = 0x32

/-! ### Requests (03 R71 to R75, R452) -/

/-- The FMT of a response: that of the request, FMT 1 to a message with FMT 0, and `atlas.ie` for a newer one (R71). -/
def State.rspFmt (s : State) (fmt : Nat) : Nat := if fmt = 0 then 1 else if s.ie < fmt then s.ie else fmt

/-- The record of the last 64 answered requests; a kept SEQ is replaced (R75). -/
def keepAnswered (l : List Answered) (a : Answered) : List Answered :=
  let l := l.filter (fun b => !(b.seq = a.seq && b.org = a.org)) ++ [a]
  l.drop (l.length - 64)

/-- Answering a request (R77, R81): the response is sent and kept for the duplicate check (R75), and MBX_SEQ_LAST takes its SEQ. -/
def State.answer (s : State) (r : InReq) (status handle : Nat) (payload : List Byte) : State :=
  let m : Msg := ⟨s.rspFmt r.fmt, r.op, r.seq, handle, status, 1, if r.ses = 3 then r.org else 0, payload⟩
  let s := s.modSes r.ses (fun x => { x with
    answered := keepAnswered x.answered ⟨r.org, r.seq, r.crc, m⟩
    seqLast := r.seq })
  s.sendTo r.ses r.iface r.src r.sport m

/-- A valid request opens the session and restarts its timeout (R80). -/
def State.touch (s : State) (ses : Nat) : State :=
  s.modSes ses (fun r =>
    if r.isOpen then { r with lastReq := s.now }
    else { r with isOpen := true, lastReq := s.now, evSeq := if ses = 3 then r.evSeq else Vector.replicate 4 0 })

/-- The kept response to a request with the same SEQ, CRC and, in session 3, core (R75). -/
def State.duplicate (s : State) (r : InReq) : Option Msg :=
  ((s.ses r.ses).answered.find? (fun a => a.seq = r.seq && a.crc = r.crc && a.org = r.org)).map (·.rsp)

/-- An operation that the boot ROM serves in RECOVERY: IMG_BEGIN to IMG_ACTIVATE, in session 2 (17 R428). -/
def State.recoveryOp (s : State) (ses op : Nat) : Bool := s.boot.recovery && ses = 2 && 0x50 ≤ op && op ≤ 0x53

/-- Checks 3 to 5 of R452: READY, the session's right to the operation, and `atlas.bench_mode`; in RECOVERY only session 2 is served (17
R428). -/
def State.gate (s : State) (ses op : Nat) : Option Nat :=
  if s.recoveryOp ses op then none
  else if s.boot.recovery && ses ≠ 2 then some St.notReady
  else if !s.atlas.ready && op ≠ 0 && op ≠ 1 then some St.notReady
  else if ((opInfo op).map (fun o => !o.sessions.contains ses)).getD true then some St.denied
  else if ses = 2 && s.pf Pf.atlasBenchMode_MODE = 0 && op ≠ 0 && op ≠ 1 then some St.denied
  else none

/-- Room in the session's queue, without which Atlas stops consuming its requests (R67). -/
def State.hasRoom (s : State) (ses : Nat) : Bool := ses = 0 || (s.ses ses).queue.length < 64

/-- A claim is released without a message being consumed: the buffer's content is discarded (R67). -/
def SesRec.unclaim (r : SesRec) : SesRec :=
  { r with owner := 0xF, busy := false, reqLen := 0, buf := [], errFormat := satInc 255 r.errFormat, irqStat := r.irqStat ||| 4 }

/-- The claim of a session, if there is one, is released (R67). A message handed over and not yet consumed goes with its buffer. -/
def State.dropClaim (s : State) (ses : Nat) : State :=
  let r := s.ses ses
  if r.owner = 0xF then s
  else
    let s := if r.busy then { s with atlas := { s.atlas with inbox := s.atlas.inbox.filter (fun x => x.ses ≠ ses || x.org ≠ r.owner) } } else s
    (s.modSes ses SesRec.unclaim).mbxEvent ses

/-! ### Handles (03 R76 to R80) -/

/-- Handles of a session in PENDING and DONE (R78). -/
def State.handleCount (s : State) (ses : Nat) : Nat := (s.atlas.handles.filter (fun h => h.ses = ses)).length

/-- The next serial of a session: ascending from the last, wrapping from 16,383 to 1, skipping serials in use (R76). -/
def nextFree (used : List Nat) : Nat → Nat → Nat
  | 0, n => n
  | k + 1, n => if used.contains n then nextFree used k (if n = 16383 then 1 else n + 1) else n

/-- A PENDING operation of an OP, in any session (R77). -/
def State.opPending (s : State) (op : Nat) : Bool :=
  s.atlas.handles.any (fun h => h.op = op && (match h.phase with | .done .. => false | _ => true))

/-- A long operation is accepted: it takes a handle, and ACCEPTED carries it (R77); none where the session's limit of 256 is
reached, with NO_HANDLE (R78). -/
def State.accept (s : State) (r : InReq) (unit : Nat) : State × Option Nat :=
  if 256 ≤ s.handleCount r.ses then (s.answer r St.noHandle 0 [], none)
  else
    let used := (s.atlas.handles.filter (fun h => h.ses = r.ses)).map (fun h => h.num % 16384)
    let ser := nextFree used 256 (s.ses r.ses).nextSerial
    let num := r.ses * 16384 + ser
    let s := s.modSes r.ses (fun x => { x with nextSerial := if ser = 16383 then 1 else ser + 1 })
    let h : Hnd := ⟨num, r.ses, r.org, s.rspFmt r.fmt, r.op, r.seq, unit, r.stamp, 0, 0xFFFF, .pending, false⟩
    let s := { s with atlas := { s.atlas with handles := s.atlas.handles ++ [h] } }
    let n := s.handleCount r.ses
    let s := s.modSes r.ses (fun x => { x with peak := max x.peak n })
    (s.answer r St.accepted num [], some num)

/-- Changing a handle. -/
def State.modHandle (s : State) (num : Nat) (f : Hnd → Hnd) : State :=
  { s with atlas := { s.atlas with handles := s.atlas.handles.map (fun h => if h.num = num then f h else h) } }

/-- A handle by number. -/
def State.handle (s : State) (num : Nat) : Option Hnd := s.atlas.handles.find? (fun h => h.num = num)

/-- A handle goes to FREE. -/
def State.freeHandle (s : State) (num : Nat) : State :=
  { s with atlas := { s.atlas with handles := s.atlas.handles.filter (fun h => h.num ≠ num) } }

/-- The completion of a handle is sent and kept (R77); that of an orphan is discarded and its handle goes to FREE (R80). -/
def State.finish (s : State) (num tick status : Nat) (payload : List Byte) : State :=
  match s.handle num with
  | none => s
  | some h =>
    if h.orphan then s.freeHandle num
    else
      let s := s.modHandle num (fun h => { h with phase := .done tick status payload, wait := 0, progress := 1000 })
      s.sendPeer h.ses
        ⟨h.fmt, h.op, h.seq, num, status, 3, if h.ses = 3 then h.org else 0, payload⟩

/-- A HANDLE_CANCEL of the handle is handed over and not served (R79). -/
def State.cancelWaits (s : State) (h : Hnd) : Bool := s.atlas.inbox.any (fun r => r.op = 0x31 && r.handle = h.num && r.ses = h.ses && (r.chk = 0))

/-- An operation ends. While a HANDLE_CANCEL of its handle is handed over and not served, no completion is sent and the
end is kept (R79). -/
def State.complete (s : State) (num status : Nat) (payload : List Byte) : State :=
  match s.handle num with
  | none => s
  | some h =>
    match h.phase with
    | .pending =>
      if s.cancelWaits h then
        s.modHandle num (fun h => { h with phase := .ended s.now status payload })
      else s.finish num s.now status payload
    | _ => s

/-- Wait of a handle (R80). -/
def State.setWait (s : State) (num w : Nat) : State := s.modHandle num (fun h => { h with wait := w })

/-- Progress of a handle, per mille (R80). -/
def State.setProgress (s : State) (num p : Nat) : State := s.modHandle num (fun h => { h with progress := p })

/-! ### Messages handed over, and serving them (03 R70 to R75, R452) -/

/-- The request that a command row stands for, where nothing was handed over before it. -/
def State.direct (s : State) (q : Rq) (op handle : Nat) (payload : List Byte) : InReq :=
  ⟨q.ses, q.org, q.fmt, op, q.seq, handle, q.crc, payload, s.now, s.atlas.peerIf, s.atlas.peer, s.atlas.peerPort, 0⟩

/-- Atlas runs: S and the fabric are on, and the start has reached phase 7 or the boot ROM's recovery (17 R425, R428). -/
def State.atlasUp (s : State) : Bool := s.pd 1 && s.pd 3 && 7 ≤ s.boot.phase

/-- The write entries of a PARAM_WRITE or PARAM_WRITE_SET payload (R85): position of the first with a reserved byte that is not 0; the
outer value is none where the lengths do not fit (R452). -/
def entriesOk : Nat → Nat → List Byte → Option (Option Nat)
  | 0, _, [] => some none
  | 0, _, _ :: _ => none
  | k + 1, i, p =>
    let n := 8 + leAt p 6 2
    if p.length < n then none
    else
      match entriesOk k (i + 1) (p.drop n) with
      | none => none
      | some x => some (if leAt p 5 1 ≠ 0 then some i else x)

/-- Payload sizes of the operations whose LEN is fixed (R72 and the owning chapters). -/
def fixedLen : List (Nat × Nat) :=
  [(0x00, 0), (0x01, 0), (0x10, 4), (0x14, 4), (0x15, 0), (0x20, 8), (0x21, 8), (0x30, 0), (0x31, 0), (0x32, 0), (0x40, 4),
   (0x50, 16), (0x52, 4), (0x53, 4), (0x58, 36), (0x5C, 0), (0x60, 2), (0x68, 8)]

/-- Bytes of a payload that are reserved: offset and length (R452). -/
def reservedBytes : List (Nat × Nat × Nat) :=
  [(0x28, 3, 1), (0x50, 2, 2), (0x50, 12, 4), (0x52, 1, 3), (0x53, 2, 2), (0x58, 1, 1), (0x68, 2, 6)]

/-- What an ACCESS_CMD must carry after its header, by CMD (12 R323). -/
def accessLen (cmd : Nat) : Option Nat :=
  if cmd = 3 then some 4 else if cmd = 0x10 then some 20
  else if cmd = 1 || cmd = 2 || cmd = 0x11 || cmd = 0x20 || cmd = 0x21 then some 0 else none

/-- Steps 6 and 7 of R452, and the codes that the owning chapters do not list: status and response payload of a request that no
command of its operation stands for. -/
def wrongPayload (op : Nat) (p : List Byte) : Option (Nat × List Byte) :=
  let cmd := leAt p (if op = 0x28 then 0 else 2) 1
  if ((fixedLen.find? (fun x => x.1 = op)).map (fun x => decide (x.2 ≠ p.length))).getD false then some (St.badFormat, [])
  else if op = 0x11 then
    match entriesOk 1 0 p with
    | none => some (St.badFormat, [])
    | some none => none
    | some (some _) => some (St.range, p.take 4)
  else if op = 0x12 then
    (if p.length < 2 || leAt p 0 2 = 0 || 64 < leAt p 0 2 || p.length ≠ 2 + 4 * leAt p 0 2 then some (St.badFormat, []) else none)
  else if op = 0x13 then
    if p.length < 2 || leAt p 0 2 = 0 || 64 < leAt p 0 2 then some (St.badFormat, [])
    else
      match entriesOk (leAt p 0 2) 0 (p.drop 2) with
      | none => some (St.badFormat, [])
      | some none => none
      | some (some i) => some (St.range, leBytes 2 i)
  else if (op = 0x22 && p.length < 8) || (op = 0x51 && p.length < 16) || (op = 0x28 && p.length < 8) then some (St.badFormat, [])
  else if op = 0x28 && ((accessLen cmd).map (fun n => decide (p.length ≠ 8 + n))).getD false then some (St.badFormat, [])
  else if reservedBytes.any (fun x => x.1 = op && leAt p x.2.1 x.2.2 ≠ 0) || (op = 0x28 && cmd = 3 && leAt p 11 1 ≠ 0) then some (St.range, [])
  else if (op = 0x20 && !(cmd ≤ 6 || cmd = 0x10)) || (op = 0x21 && !(cmd = 0 || cmd = 1 || cmd = 6)) || (op = 0x28 && (accessLen cmd).isNone)
      || (op = 0x58 && 1 < leAt p 0 1) || (op = 0x68 && 3 < leAt p 0 1) then some (St.range, [])
  else none

/-- A payload with the bytes that its operation ignores set to 0: CHUNK in MODE 0 and NONCE in MODE 1 of ATTEST (16 R421). -/
def normPayload (op : Nat) (p : List Byte) : List Byte :=
  if op = 0x58 && p.length = 36 then
    if leAt p 0 1 = 0 then p.take 2 ++ leBytes 2 0 ++ p.drop 4 else if leAt p 0 1 = 1 then p.take 4 ++ leBytes 32 0 else p
  else p

/-- Steps 3 and 4 of R71 and the checks of R452, in order: status and response payload of the first that fails. -/
def State.precheck (s : State) (r : InReq) : Option (Nat × List Byte) :=
  if r.fmt = 0 || r.chk = 3 || (r.handle ≠ 0 && !takesHandle r.op) then some (St.badFormat, [])
  else if s.ie < r.fmt then some (St.edition, [])
  else if (opInfo r.op).isNone then some (St.unknownOp, [])
  else if r.op = 0x41 then some (St.badFormat, [])
  else
    match s.gate r.ses r.op with
    | some st => some (st, [])
    | none => wrongPayload r.op r.payload

/-- A message has been consumed: its buffer is free again (R67). -/
def State.consume (s : State) (ses : Nat) : State :=
  if (s.ses ses).busy then (s.modSes ses (fun x => { x with irqStat := x.irqStat ||| 2, owner := 0xF, busy := false })).mbxEvent ses else s

/-- A message is discarded under step 1 or 2 of R71. -/
def State.discard (s : State) (ses chk : Nat) : State :=
  (s.modSes ses (fun x => { x with
    errFormat := if chk = 1 then satInc 255 x.errFormat else x.errFormat
    errCrc := if chk = 1 then x.errCrc else satInc 255 x.errCrc
    irqStat := x.irqStat ||| 4 })).mbxEvent ses

/-- One request with the checks that every operation shares (R71, R75, R452): a duplicate gets its kept response again. -/
def State.serveOne (s : State) (r : InReq) (k : InReq → State → State) : State :=
  match s.duplicate r with
  | some m => (s.modSes r.ses (fun x => { x with dup := satInc 255 x.dup })).sendTo r.ses r.iface r.src r.sport m
  | none =>
    match s.precheck r with
    | some (st, pl) => s.answer r st 0 pl
    | none => k r s

/-- The request that Atlas takes next: the oldest one of a session whose queue has room (R67, R73). -/
def State.front (s : State) : Option InReq := s.atlas.inbox.find? (fun r => s.hasRoom r.ses)

/-- Taking a request out of the list of those handed over; its message is consumed. -/
def State.takeOut (s : State) (r : InReq) : State := ({ s with atlas := { s.atlas with inbox := s.atlas.inbox.erase r } }).consume r.ses

/-- The oldest requests are answered or discarded while no command row stands for them: wrong messages and duplicates. -/
def State.drain : Nat → State → State
  | 0, s => s
  | k + 1, s =>
    match s.front with
    | none => s
    | some r =>
      if r.chk = 1 || r.chk = 2 then ((s.takeOut r).discard r.ses r.chk).drain k
      else if (s.duplicate r).isSome || (s.precheck r).isSome then ((s.takeOut r).serveOne r (fun _ s => s)).drain k
      else s

/-- Operations that have ended send the completion they kept, once no HANDLE_CANCEL of theirs waits (R79). -/
def State.settleEnded (s : State) : State :=
  s.atlas.handles.foldl (fun s (h : Hnd) =>
    match h.phase with
    | .ended t st pl => if s.cancelWaits h then s else s.finish h.num t st pl
    | _ => s) s

/-- Draining everything that can be. -/
def State.drained (s : State) : State := if s.atlasUp then (s.drain s.atlas.inbox.length).settleEnded else s

/-- Serving one request (R73). The oldest request handed over is served when it is the one that the command names; with nothing handed
over, the command itself is the request (assumption 6). Any other command changes nothing, and so does every command while Atlas does
not run. -/
def State.serve (s : State) (q : Rq) (op handle : Nat) (payload : List Byte) (k : InReq → State → State) : State :=
  if !s.atlasUp then s
  else
    match s.atlas.inbox with
    | [] =>
      let r := s.direct q op handle payload
      if !s.hasRoom r.ses then s else (s.touch r.ses).serveOne r k
    | _ :: _ =>
      match s.front with
      | none => s
      | some h =>
        if h.ses = q.ses && h.org = q.org && h.seq = q.seq && h.crc = q.crc && h.fmt = q.fmt && h.op = op && h.handle = handle && h.payload = payload then
          ((s.takeOut h).serveOne h k).drained
        else s

/-- The messages handed over, in stamp order with ties by session (R73). -/
def putRequest (r : InReq) : List InReq → List InReq
  | [] => [r]
  | x :: l => if r.stamp < x.stamp || (r.stamp = x.stamp && r.ses < x.ses) then r :: x :: l else x :: putRequest r l

/-- A message is handed over to Atlas now (R70, R71, R73): it is classified, a valid one opens its session or restarts its timeout (R80), and
Atlas answers at once what no command row stands for. -/
def State.deliver (s : State) (ses org : Nat) (bs : List Byte) (iface src sport : Nat) : State :=
  let p := bs.drop 16
  let chk :=
    if bs.length < 16 || 4128 < leAt bs 8 2 || leAt bs 8 2 ≠ p.length then 1
    else if leAt bs 12 4 ≠ crc32c (bs.take 12 ++ p) then 2
    else if leAt bs 10 1 ≠ 0 then 3 else 0
  let r : InReq := ⟨ses, org, leAt bs 0 1, leAt bs 1 1, leAt bs 2 2, leAt bs 4 2, leAt bs 12 4, normPayload (leAt bs 1 1) p, s.now, iface, src, sport, chk⟩
  let s := if chk = 0 || chk = 3 then
      let s := s.touch ses
      if ses = 0 then { s with atlas := { s.atlas with peerIf := iface, peer := src, peerPort := sport } } else s
    else s
  ({ s with atlas := { s.atlas with inbox := putRequest r s.atlas.inbox } }).drained

/-! ### Rights of session 3 (03 R89, 14 R383) -/

/-- A grant element of kind `kind` covers unit `u` for core `n`. -/
def State.granted (s : State) (n kind u : Nat) : Bool :=
  (List.range 32).any (fun i =>
    s.pf Pf.appGrant_KIND n i = kind && s.pf Pf.appGrant_FIRST n i ≤ u && u ≤ s.pf Pf.appGrant_LAST n i)

/-- The request may use the unit: sessions other than 3 always, a core only what its grant lists. -/
def State.mayUse (s : State) (r : InReq) (kind u : Nat) : Bool := r.ses ≠ 3 || s.granted r.org kind u

/-- A power of the model's outcome: the command ends in this state. -/
def done (s : State) : Host.Outcome State Fault Refusal := .next s

end Sys2Proof.Machine
end

