-- ==== Sys2Proof/Machine/Access.lean ====
section
/-!
DEFINITION. Keyless access and immobiliser (12).
-/
namespace Sys2Proof.Machine

/-! ### Records -/

/-- Changing the access block. -/
def State.modAcc (s : State) (f : Access → Access) : State := { s with acc := f s.acc }

/-- Token slot s. -/
def State.tokenRec (s : State) (i : Nat) : Token := s.acc.tok.toList.getD i {}

/-- Changing it. -/
def State.modTok (s : State) (i : Nat) (f : Token → Token) : State := s.modAcc (fun a => { a with tok := a.tok.setIfInBounds i (f (s.tokenRec i)) })

/-- Aerial record. -/
def State.aerial (s : State) (k : Nat) : Aerial := s.acc.lf.toList.getD k {}

/-- Changing it. -/
def State.modLf (s : State) (k : Nat) (f : Aerial → Aerial) : State := s.modAcc (fun a => { a with lf := a.lf.setIfInBounds k (f (s.aerial k)) })

/-- Front-end record. -/
def State.feRec (s : State) (k : Nat) : FrontEnd := s.acc.fe.toList.getD k {}

/-- Changing it. -/
def State.modFe (s : State) (k : Nat) (f : FrontEnd → FrontEnd) : State := s.modAcc (fun a => { a with fe := a.fe.setIfInBounds k (f (s.feRec k)) })

/-- Changing the round in progress. -/
def State.modRound (s : State) (f : Round → Round) : State :=
  s.modAcc (fun a => { a with job := a.job.map (fun j => { j with round := j.round.map f }) })

/-- The round in progress. -/
def State.round (s : State) : Option Round := match s.acc.job with | some j => j.round | none => none

/-- A draw from the enclave's random generator (entry 16). -/
def State.draw (s : State) : State × Nat := (s.modAcc (fun a => { a with draws := a.draws + 1 }), Config.enclaveRand s.acc.draws)

/-! ### Failures and lock-out (12 R321, R322) -/

/-- Failures of the last 60 s. -/
def State.accFails (s : State) : Nat := (s.acc.fails.filter (fun t => s.aonSince t < 1966080)).length

/-- A lock-out is in force. -/
def State.lockedOut (s : State) : Bool :=
  match s.acc.lock with
  | some (f, n) => s.aonSince f < n
  | none => false

/-- A class-6 event (12 R329). -/
def State.accEvent (s : State) (unit code value zone : Nat) : State :=
  s.emit 6 unit code (leBytes 4 value ++ leBytes 1 zone ++ leBytes 1 s.accFails ++ leBytes 2 0)

/-- A failed attempt (12 R321); true where it starts a lock-out. -/
def State.accFail (s : State) : State × Bool :=
  let s := s.modAcc (fun a => { a with fails := a.fails.filter (fun t => s.aonSince t < 1966080) ++ [s.clk.aon] })
  if s.acc.fails.length < 5 then (s, false)
  else
    let m := s.pf Pf.accLockout_LOCKMIN
    (s.modAcc (fun a => { a with fails := [], lock := some (s.clk.aon, m * 1966080), lockCnt := satInc 0xFFFF a.lockCnt, flag := true }), true)

/-- The lock-out ends (12 R322): event LOCKOUT_END, or at the next READY where Atlas is not running. -/
def State.endLock (s : State) (value : Nat) : State :=
  let s := s.modAcc (fun a => { a with lock := none, flag := false })
  if s.atlas.ready then s.accEvent 0xFF 0x03 value 0xFF else s.modAcc (fun a => { a with endDue := some value })

/-- LOCKOUT_END (R322): by time. -/
def execLockoutEnd (g : Lapse) (s : State) : Host.Outcome State Fault Refusal :=
  let s := s.pass g
  .next (if s.acc.lock.isSome && !s.lockedOut then s.endLock 0 else s)

/-- FAIL_WINDOW_EXPIRY (R321): failures older than 60 s leave FAILS. -/
def execFailWindowExpiry (g : Lapse) (s : State) : Host.Outcome State Fault Refusal :=
  let s := s.pass g
  .next (s.modAcc (fun a => { a with fails := a.fails.filter (fun t => s.aonSince t < 1966080) }))

/-! ### Zones and the choice (12 R319, R320) -/

/-- `lf[k].cfg` in force in a round (R330). -/
def Round.lfCfg (r : Round) (k : Nat) : Nat := r.lf.getD k 0

/-- Aerial k sends in this round (R310, R313): it is in the mask with EN set and has not tripped since. -/
def Round.on (r : Round) (k : Nat) : Bool := r.mask.testBit k && Pf.lfCfg_EN.of (r.lfCfg k) = 1 && !r.off.testBit k

/-- Aerial k sends in its burst: it carried neither OPEN nor SHORT either (R310). -/
def Round.bursts (r : Round) (k : Nat) : Bool := r.on k && r.live.testBit k

/-- Corrected field of an aerial (R319); that of an aerial which was silent is 0 (R310). -/
def Round.fieldOf (r : Round) (field : List Nat) (k : Nat) : Nat :=
  let v := field.getD k 0
  if v = 0 || !r.bursts k then 0 else (max 0 (min 255 ((v : Int) + signedOf 8 (Pf.lfCfg_GAIN.of (r.lfCfg k))))).toNat

/-- The zone of corrected fields (R319); 0xFF for none. -/
def State.zoneOf (s : State) (f : List Nat) : Nat :=
  let ok := fun (z : Nat) =>
    let p := s.pf Pf.accZone_PRIMARY 0 z
    s.pf Pf.accZone_EN 0 z = 1 && s.pf Pf.accZone_FMIN 0 z ≤ f.getD p 0
      && (List.range 8).all (fun k => k = p || !(s.pf Pf.accZone_OTHERS 0 z).testBit k || f.getD k 0 + s.pf Pf.accZone_MARGIN 0 z ≤ f.getD p 0)
  ((List.range 8).find? ok).getD 0xFF

/-- The slot chosen under R320. -/
def State.chosen (s : State) (cmd : Nat) (l : List AccRes) : Option AccRes :=
  let may := fun (r : AccRes) => r.result = 1 && (if cmd = 2 then s.pb Pf.tokenCfg_IMMO r.slot else s.pb Pf.tokenCfg_ACCESS r.slot)
  (l.filter may).foldl (fun b r =>
    match b with
    | none => some r
    | some x =>
      let d := x.dist.getD 0
      let e := r.dist.getD 0
      if e < d || (e = d && r.slot < x.slot) then some r else some x) none

/-! ### Completions (12 R327) -/

/-- One entry of the completion. -/
def AccRes.bytes (r : AccRes) : List Byte :=
  leBytes 1 r.slot ++ leBytes 1 r.result ++ leBytes 1 r.zone ++ leBytes 1 r.fe
    ++ leBytes 4 (match r.dist with | some d => unsignedOf 32 d | none => 0x7FFFFFFF)
    ++ ((List.range 8).map (fun k => leBytes 1 (r.field.getD k 0))).flatten

/-- Results in slot order. -/
def sortRes (l : List AccRes) : List AccRes := ((List.range 16).map (fun i => l.filter (fun r => r.slot = i))).flatten

/-- The completion payload with its STAMP: an entry for each enrolled slot with a result, and for each slot whose result became REVOKED. -/
def State.accPayloadAt (s : State) (t : Nat) (c : AccCmd) (rounds code : Nat) (ch : Option AccRes) (res : List AccRes) (blocks : List Nat) : List Byte :=
  let res := res.filter (fun r => (s.tokenRec r.slot).enrolled || r.result = 8)
  leBytes 1 c.cmd ++ leBytes 1 res.length
    ++ leBytes 1 (match ch with | some r => r.slot | none => 0xFF) ++ leBytes 1 rounds
    ++ leBytes 1 (match ch with | some r => r.zone | none => 0xFF) ++ leBytes 1 code ++ leBytes 2 0 ++ leBytes 8 t
    ++ ((sortRes res).map AccRes.bytes).flatten ++ (blocks.map (leBytes 16)).flatten

/-- The completion payload of an event of this tick. -/
def State.accPayload (s : State) (c : AccCmd) (rounds code : Nat) (ch : Option AccRes) (res : List AccRes) (blocks : List Nat) : List Byte :=
  s.accPayloadAt s.now c rounds code ch res blocks

/-- The key of an ENROL that has not been confirmed is erased (R325, R326). -/
def State.dropEnrol (s : State) (c : AccCmd) : State :=
  if c.cmd = 0x10 && !(s.tokenRec c.slot).enrolled then s.modTok c.slot (fun t => { t with key := 0 }) else s

/-- Lowest enabled aerial from k on. -/
def State.calNext (s : State) (k : Nat) : Option Nat := (List.range 8).find? (fun i => k ≤ i && s.pb Pf.lfCfg_EN i)

/-- A command that the lock-out forbids. -/
def accLocked (cmd : Nat) : Bool := cmd = 1 || cmd = 2 || cmd = 3 || cmd = 0x10

/-- The next queued commands come to run, oldest first; those that a lock-out forbids fail with LOCKOUT (R321, R324). An ENROL whose slot has
become enrolled since it was accepted fails with NO_TOKEN, and installs nothing (entry 101). -/
def State.accNext : Nat → State → State
  | 0, s => s
  | n + 1, s =>
    if s.acc.job.isSome then s
    else
      match s.acc.queue with
      | [] => s
      | c :: rest =>
        let s := s.modAcc (fun a => { a with queue := rest })
        if accLocked c.cmd && s.lockedOut then
          State.accNext n (s.complete c.handle St.failed (s.accPayload c 0 2 none [] []))
        else if c.cmd = 0x20 then
          match s.calNext 0 with
          | some k => s.modAcc (fun a => { a with job := some { cmd := c, rounds := 0, round := none, cal := some (k, 0, 0, 0, s.now), ready := s.now } })
          | none => State.accNext n (s.complete c.handle St.ok (s.accPayload c 0 0 none [] []))
        else if c.cmd = 0x10 && (s.tokenRec c.slot).enrolled then
          State.accNext n (s.complete c.handle St.failed (s.accPayload c 0 1 none [] []))
        else
          let s := if c.cmd = 0x10 then s.modTok c.slot (fun t => { t with key := Config.tokenKey c.keywrap }) else s
          s.modAcc (fun a => { a with job := some { cmd := c, rounds := 0, round := none, cal := none, ready := s.now } })

/-- The command in progress completes with a STAMP, and the next one comes to run. -/
def State.accEndAt (s : State) (t status code : Nat) (ch : Option AccRes) (res : List AccRes) (blocks : List Nat) : State :=
  match s.acc.job with
  | none => s
  | some j =>
    let s := s.modAcc (fun a => { a with job := none })
    let s := s.complete j.cmd.handle status (s.accPayloadAt t j.cmd j.rounds code ch res blocks)
    s.accNext 8

/-- The command in progress completes at this tick. -/
def State.accEnd (s : State) (status code : Nat) (ch : Option AccRes) (res : List AccRes) (blocks : List Nat) : State :=
  s.accEndAt s.now status code ch res blocks

/-- A stop that a cancel or a DEADLINE asked for is done once its slot boundary has come (R326). -/
def State.accDue (s : State) : State :=
  match s.acc.job with
  | some j =>
    match j.stop with
    | some (st, t) => if t ≤ s.now then (s.dropEnrol j.cmd).accEndAt t st 0 none [] [] else s
    | none => s
  | none => s

/-! ### Commands (12 R323 to R326) -/

/-- Request bytes of an ACCESS_CMD. -/
def accPayloadIn (cmd : Nat) (c : AccessCmd) (data : List Byte) : List Byte :=
  leBytes 1 cmd ++ leBytes 1 c.slot ++ leBytes 1 c.aerials ++ leBytes 1 0 ++ leBytes 4 c.deadline ++ data

/-- ACCESS_CMD operations that are PENDING. -/
def State.accPending (s : State) : Nat := s.acc.queue.length + (if s.acc.job.isSome then 1 else 0)

/-- The answer without a handle, if any (R324). -/
def State.accCheck (s : State) (r : InReq) (cmd : Nat) (c : AccessCmd) (count : Nat) : Option Nat :=
  let slotOk := if cmd = 1 || cmd = 2 then c.slot < 16 || c.slot = 0xFF else if cmd = 0x20 || cmd = 0x21 then c.slot = 0xFF else c.slot < 16
  if !slotOk || (cmd = 3 && (count = 0 || 8 < count)) || 60000 < c.deadline then some St.range
  else if cmd = 0x21 && !(r.ses = 2 && s.pf Pf.atlasBenchMode_MODE = 2) then some St.denied
  else if accLocked cmd && s.lockedOut then some St.lockedOut
  else if !s.pd 4 || !s.pd 7 || (accLocked cmd && !s.pb Pf.accCfg_EN) || (cmd = 0x10 && (s.tokenRec c.slot).enrolled)
      || (cmd = 0x11 && !(s.tokenRec c.slot).enrolled) || 4 ≤ s.accPending then some St.state
  else none

/-- An accepted command: it joins the queue, or acts at its stamp. -/
def State.accCmd (s : State) (q : Rq) (cmd : Nat) (c : AccessCmd) (data : List Byte) (tid keywrap first count : Nat)
    (act : Option (State → State)) : State :=
  s.accDue.serve q 0x28 0 (accPayloadIn cmd c data) (fun r s =>
    match s.accCheck r cmd c count with
    | some st => s.answer r st 0 []
    | none =>
      match s.accept r (c.slot + 256 * cmd) with
      | (s, none) => s
      | (s, some h) =>
        let dl := if c.deadline = 0 then none else some (r.stamp + msTk c.deadline)
        let x : AccCmd := ⟨h, r.ses, cmd, c.slot, c.aerials, dl, tid, keywrap, first, count⟩
        match act with
        | some f => let s := f s; s.complete h St.ok (s.accPayload x 0 0 none [] [])
        | none => (s.modAcc (fun a => { a with queue := a.queue ++ [x] })).accNext 8)

/-- SEARCH (R320). -/
def execSearch (g : Lapse) (q : Rq) (c : AccessCmd) (s : State) : Host.Outcome State Fault Refusal :=
  .next ((s.pass g).accCmd q 1 c [] 0 0 0 0 none)

/-- IMMO (R320). -/
def execImmo (g : Lapse) (q : Rq) (c : AccessCmd) (s : State) : Host.Outcome State Fault Refusal :=
  .next ((s.pass g).accCmd q 2 c [] 0 0 0 0 none)

/-- TMEM_READ (R316). -/
def execTmemRead (g : Lapse) (q : Rq) (c : AccessCmd) (first count : Nat) (s : State) : Host.Outcome State Fault Refusal :=
  .next ((s.pass g).accCmd q 3 c (leBytes 2 first ++ leBytes 1 count ++ leBytes 1 0) 0 0 first count none)

/-- ENROL (R325). -/
def execEnrol (g : Lapse) (q : Rq) (c : AccessCmd) (tid keywrap : Nat) (s : State) : Host.Outcome State Fault Refusal :=
  .next ((s.pass g).accCmd q 0x10 c (leBytes 4 tid ++ leBytes 16 keywrap) tid keywrap 0 0 none)

/-- The slot is erased (R325): ID and ENROLLED clear, event REVOKED, and a result not yet reported becomes REVOKED. -/
def State.revoke (s : State) (slot : Nat) : State :=
  let t := s.tokenRec slot
  let s := s.modTok slot (fun t => { t with id := 0, enrolled := false, key := 0 })
  let s := s.setStored (Pid.tokenCfg slot) 0 (putBits (s.storedOf (Pid.tokenCfg slot) 0) 0 33 0)
  let s := s.modRound (fun r => { r with
    exch := r.exch.filter (fun e => e.slot ≠ slot)
    res := r.res.map (fun x => if x.slot = slot then { x with result := 8 } else x)
      ++ (if r.res.any (fun x => x.slot = slot) then [] else (r.exch.filter (fun e => e.slot = slot)).map
        (fun e => (⟨slot, 8, 0xFF, 0xFF, none, (List.range 8).map (r.fieldOf e.reply.field)⟩ : AccRes))) })
  s.accEvent slot 0x21 t.id 0xFF

/-- CALIBRATE (R313). -/
def execCalibrate (g : Lapse) (q : Rq) (c : AccessCmd) (s : State) : Host.Outcome State Fault Refusal :=
  .next ((s.pass g).accCmd q 0x20 c [] 0 0 0 0 none)

/-- LOCK_CLEAR (R322): ends a lock-out and clears the failures at its stamp. -/
def execLockClear (g : Lapse) (q : Rq) (c : AccessCmd) (s : State) : Host.Outcome State Fault Refusal :=
  .next ((s.pass g).accCmd q 0x21 c [] 0 0 0 0 (some (fun s =>
    let s := s.modAcc (fun a => { a with fails := [] })
    if s.acc.lock.isSome then s.endLock 1 else s)))

/-- The best TUNE of an aerial goes to both copies of `lf[n].cfg` (R313); at 0 or 63 DETUNED is raised. -/
def State.tuned (s : State) (k tune : Nat) : State :=
  let s := s.setPf Pf.lfCfg_TUNE k 0 tune
  let s := s.setStored (Pid.lfCfg k) 0 (putBits (s.storedOf (Pid.lfCfg k) 0) Pf.lfCfg_TUNE.lo Pf.lfCfg_TUNE.w tune)
  if tune = 0 || tune = 63 then
    (s.modLf k (fun a => { a with fault := 3, faults := satInc 0xFFFF a.faults })).accEvent (16 + k) 0x12 tune 0xFF
  else s.modLf k (fun a => { a with fault := if a.fault = 3 then 0 else a.fault })

/-- CALIBRATE_STEP (R313): the current of the present TUNE step has been measured, 100,000 tk after the step's start. -/
def execCalibrateStep (g : Lapse) (ma : Nat) (s : State) : Host.Outcome State Fault Refusal :=
  let s := s.pass g
  .next (
    match s.acc.job with
    | some j =>
      match j.cal with
      | some (k, step, best, top, at_) =>
        if !s.expired at_ 100000 then s
        else
          let best' := if top < ma || step = 0 then step else best
          let top' := if top < ma || step = 0 then ma else top
          if step < 63 then s.modAcc (fun a => { a with job := some { j with cal := some (k, step + 1, best', top', at_ + 100000) } })
          else
            let s := s.tuned k best'
            match s.calNext (k + 1) with
            | some k' => s.modAcc (fun a => { a with job := some { j with cal := some (k', 0, 0, 0, at_ + 100000) } })
            | none => s.accEnd St.ok 0 none [] []
      | none => s
    | none => s)

/-! ### The round (12 R310 to R318) -/

/-- Mask of a command's round (R323). -/
def State.roundMask (s : State) (c : AccCmd) : Nat :=
  if c.aerials ≠ 0 then c.aerials else if c.cmd = 2 then s.pf Pf.accCfg_IMASK else s.pf Pf.accCfg_AERIALS

/-- A usable aerial (R310): EN set, neither OPEN nor SHORT. -/
def State.usable (s : State) (k : Nat) : Bool := s.pb Pf.lfCfg_EN k && (s.aerial k).fault ≠ 1 && (s.aerial k).fault ≠ 2

/-- The LF telegram as bytes, each sent most significant bit first (R312): SYNC, WAKEID, ROUND, SEED, TARGET, ND and the CRC-8 over all but
SYNC. -/
def lfTelegram (wakeid no seed target nd : Nat) : List Nat :=
  let body := beBytes 2 wakeid ++ [no % 256, seed, target] ++ beBytes 8 nd
  [0xAA, 0xAA] ++ body ++ [crc8 body]

/-- ROUND_START (R310 to R312): SEED and ND are drawn, and the telegram starts on the mask; a retry round starts at the end tick of the check
before it (R311). A round with no usable aerial or no front-end link up does not start (R327). -/
def execRoundStart (g : Lapse) (s : State) : Host.Outcome State Fault Refusal :=
  let s := (s.pass g).accDue
  .next (
    match s.acc.job with
    | none => s
    | some j =>
      if j.round.isSome || j.cal.isSome || s.now < j.ready then s
      else
        let mask := s.roundMask j.cmd
        if !(bitList 8 mask).any s.usable then (s.dropEnrol j.cmd).accEnd St.failed 3 none [] []
        else if !(List.range 4).any (fun f => (s.feRec f).link) then (s.dropEnrol j.cmd).accEnd St.failed 4 none [] []
        else
          let (s, a) := s.draw
          let (s, nd) := s.draw
          let nd := nd % 2 ^ 64
          let seed := a % 256 - (if a.testBit 3 then 8 else 0)
          let target := if j.cmd.slot = 0xFF then 0 else j.cmd.slot + 16
          let r : Round := {
            start := if j.rounds = 0 then s.now else j.ready
            aon := s.clk.aon
            mask := mask
            seed := seed
            nd := nd
            target := target
            lf := (List.range 8).map (fun k => s.parOf (Pid.lfCfg k) 0)
            live := maskOf ((List.range 8).filter s.usable)
            tele := lfTelegram (s.pf Pf.accRadio_WAKEID) s.acc.roundNo seed target nd
            seen := []
            checked := false
            exch := []
            res := []
            blocks := []
            off := 0
            peaks := [] }
          s.modAcc (fun x => { x with rounds := satInc 0xFFFF x.rounds, roundNo := (x.roundNo + 1) % 256, job := some { j with rounds := j.rounds + 1, round := some r } }))

/-- A round's carrier on aerial k at a tick (R310, R312): Manchester-coded in the telegram, a 1 with carrier in the first half of its bit and a 0
in the second, and steady in the aerial's own burst. -/
def Round.carrier (r : Round) (k t : Nat) : Bool :=
  let d := t - r.start
  if d < 6553600 then
    let n := d / 51200
    let bit := (r.tele.getD (n / 8) 0).testBit (7 - n % 8)
    r.on k && (bit == (d % 51200 < 25600))
  else r.bursts k && 6553600 + 250000 * k ≤ d && d < 6553600 + 250000 * k + 200000

/-- The carrier on aerial k now: that of the round, or that of the CALIBRATE step (R313). -/
def State.lfCarrier (s : State) (k : Nat) : Bool :=
  match s.acc.job with
  | none => false
  | some j =>
    match j.cal, j.round with
    | some (a, _), _ => a = k
    | none, some r => r.carrier k s.now
    | none, none => false

/-- The current of an aerial in this round (R313): below half its setting in two consecutive rounds it is OPEN; two consecutive clean
rounds clear OPEN and SHORT. -/
def State.aerialSeen (s : State) (k ilf ma : Nat) (short : Bool) : State :=
  let bad := 2 * ma < 50 * ilf
  let a := s.aerial k
  let low := if bad then min 2 (a.low + 1) else 0
  let clean := if bad || short then 0 else min 2 (a.clean + 1)
  let open_ := low = 2 && a.fault ≠ 1 && a.fault ≠ 2
  let a := { a with low := low, clean := clean }
  let a := if open_ then { a with fault := 1, faults := satInc 0xFFFF a.faults }
    else if clean = 2 && (a.fault = 1 || a.fault = 2) then { a with fault := 0 } else a
  let s := s.modLf k (fun _ => a)
  if open_ then s.accEvent (16 + k) 0x10 ma 0xFF else s

/-- FIELD_BURST (R310, R313): the peak current of an aerial of the mask, measured in its burst, or for an aerial that carries OPEN or SHORT and
stays silent then, in the telegram. -/
def execFieldBurst (g : Lapse) (k : Fin 8) (ma : Nat) (s : State) : Host.Outcome State Fault Refusal :=
  let s := (s.pass g).accDue
  .next (
    match s.round with
    | none => s
    | some r =>
      if !(r.mask.testBit k && Pf.lfCfg_EN.of (r.lfCfg k) = 1 && r.start + 6553600 + 250000 * k.val ≤ s.now && !r.peaks.any (fun p => p.1 = k.val)) then s
      else
        let s := s.modRound (fun r => { r with peaks := r.peaks ++ [(k.val, ma)] })
        let s := if r.bursts k then s.modLf k (fun a => { a with ipeak := min 0xFFFF ma }) else s
        s.aerialSeen k (Pf.lfCfg_ILF.of (r.lfCfg k)) ma (r.off.testBit k))

/-- LF_SHORT_TRIP (R313): the aerial is off for the rest of the round, and SHORT is raised. -/
def execLfShortTrip (g : Lapse) (k : Fin 8) (s : State) : Host.Outcome State Fault Refusal :=
  let s := (s.pass g).accDue
  .next (
    match s.round with
    | none => s
    | some r =>
      if !r.on k then s
      else
        let new := (s.aerial k).fault ≠ 2
        let s := s.modRound (fun r => { r with off := r.off ||| (1 <<< k.val) })
        let s := s.modLf k (fun a => { a with fault := 2, clean := 0, faults := if new then satInc 0xFFFF a.faults else a.faults })
        if new then s.accEvent (16 + k) 0x11 0 0xFF else s)

/-- Front-ends that receive: EN set and the link up (R314, R318). -/
def State.feOn (s : State) (f : Nat) : Bool := s.pb Pf.feCfg_EN f && (s.feRec f).link

/-- The front-ends that heard a reply. -/
def State.heardBy (s : State) (x : Reply) : List (Fin 4 × Int) := x.heard.filter (fun p => s.feOn p.1)

/-- The one with the highest first-path power (R317), the first named where two are equal (entry 101). -/
def bestFe (l : List (Fin 4 × Int)) : Nat :=
  match l with
  | [] => 0xFF
  | p :: rest => ((rest.foldl (fun b x => if b.2 < x.2 then x else b) p).1 : Nat)

/-- RESPONSE_SLOT_END (R310, R314): response slot j ends at r + 8,753,600 + 40,000 (j + 1). A reply that no front-end in the round heard leaves
the slot empty. -/
def execResponseSlotEnd (g : Lapse) (j : Fin 32) (o : SlotObs) (s : State) : Host.Outcome State Fault Refusal :=
  let s := (s.pass g).accDue
  .next (
    match s.round with
    | none => s
    | some r =>
      if r.checked || s.now ≠ r.start + 8753600 + 40000 * (j.val + 1) then s
      else
        match o with
        | .reply x =>
          let l := s.heardBy x
          let s := l.foldl (fun s p => s.modFe p.1 (fun f => { f with frames := satInc 0xFFFF f.frames, power := p.2 })) s
          s.modRound (fun r => { r with seen := r.seen ++ [(j.val, if l.isEmpty then SlotObs.empty else o)] })
        | _ => s.modRound (fun r => { r with seen := r.seen ++ [(j.val, o)] }))

/-- Index whose pair holds response slot j (R314). -/
def slotIndex (seed j : Nat) : Nat :=
  let a := 2 * (seed % 8) + 1
  let b := seed / 16
  ((List.range 16).find? (fun i => (a * i + b) % 16 = j / 2)).getD 0

/-- E = AES_K(ND ‖ NT), with K the key of slot i (R315). -/
def State.proofOf (s : State) (i nd nt : Nat) : List Nat := aes128 (beBytes 16 (s.tokenRec i).key) (beBytes 8 nd ++ beBytes 8 nt)

/-- The token proves that it knows the key of slot i (R315): MAC_T is bytes 0 to 7 of E. -/
def State.macOk (s : State) (i nd : Nat) (x : Reply) : Bool := beVal ((s.proofOf i nd x.nt).take 8) = x.mac

/-- KS = AES_K(NT ‖ ND) (R316). -/
def State.sessionKey (s : State) (i nd nt : Nat) : List Nat := aes128 (beBytes 16 (s.tokenRec i).key) (beBytes 8 nt ++ beBytes 8 nd)

/-- u of the token of slot i: bit 0 of byte 15 of AES_K(ND ‖ 0) (R314). -/
def State.tokenU (s : State) (i nd : Nat) : Nat := (aes128 (beBytes 16 (s.tokenRec i).key) (beBytes 8 nd ++ beBytes 8 0)).getD 15 0 % 2

/-- Response slot in which the token of slot i answers (R314): 2 π(i) + u. -/
def State.replySlot (s : State) (r : Round) (i : Nat) : Nat :=
  2 * (((2 * (r.seed % 8) + 1) * i + r.seed / 16) % 16) + s.tokenU i r.nd

/-- PROOF of an exchange (R316): bytes 8 to 15 of E, then first block and count of the token-memory blocks to read, 0 where none are. -/
def State.proofFrame (s : State) (c : AccCmd) (i nd nt : Nat) : List Nat :=
  let b := if c.cmd = 3 && c.slot = i then (c.first, c.count) else (0, 0)
  (s.proofOf i nd nt).drop 8 ++ [b.1 % 256, b.1 / 256 % 256, b.2]

/-- A result of a slot in the round; an earlier one of the slot is replaced. -/
def Round.put (r : Round) (x : AccRes) : Round := { r with res := r.res.filter (fun y => y.slot ≠ x.slot) ++ [x] }

/-- `access.last` of every slot after a kept round (R332). -/
def State.keepLast (s : State) (r : Round) : State :=
  (List.range 16).foldl (fun s i =>
    let l : AccLast := match r.res.find? (fun x => x.slot = i) with
      | some x => ⟨x.result, x.zone, min (2 ^ 20 - 1) ((x.dist.getD 0).toNat / 10), bitsOf r.aon 15 32⟩
      | none => ⟨0, 0xFF, 0, bitsOf r.aon 15 32⟩
    s.modAcc (fun a => { a with last := a.last.setIfInBounds i l })) s

/-- The round stops, its command fails with LOCKOUT, and so does every queued one (R321). -/
def State.lockStop (s : State) : State :=
  let s := s.accEvent 0xFF 0x02 (s.pf Pf.accLockout_LOCKMIN) 0xFF
  match s.acc.job with
  | some j =>
    let q := s.acc.queue
    let res := match j.round with | some r => r.res | none => []
    let s := match j.round with | some r => s.keepLast r | none => s
    let s := ((s.modAcc (fun a => { a with queue := [] })).dropEnrol j.cmd).accEnd St.failed 2 none res []
    q.foldl (fun s c => s.complete c.handle St.failed (s.accPayload c 0 2 none [] [])) s
  | none => s

/-- The check of one slot (R311, R315, R321); nothing more once a lock-out has stopped the round. -/
def State.checkSlot (s : State) (p : Nat × SlotObs) : State :=
  match s.acc.job with
  | none => s
  | some j =>
    match j.round with
    | none => s
    | some r =>
      let i := slotIndex r.seed p.1
      let conf := j.cmd.cmd = 0x10 && j.cmd.slot = i
      let t := s.tokenRec i
      let plain := fun (c : Nat) =>
        if (t.enrolled || conf) && !r.res.any (fun y => y.slot = i) && !r.exch.any (fun e => e.slot = i) then
          s.modRound (fun r => r.put ⟨i, c, 0xFF, 0xFF, none, []⟩)
        else s
      match p.2 with
      | .empty => s
      | .collided => plain 3
      | .malformed => plain 4
      | .reply x =>
        let id := if conf then j.cmd.tid else t.id
        if !(t.enrolled || conf) || x.tid ≠ id then
          (s.modAcc (fun a => { a with foreign := satInc 0xFFFF a.foreign })).accEvent i 0x05 x.tid 0xFF
        else if !s.macOk i r.nd x then
          let f := (List.range 8).map (r.fieldOf x.field)
          let s := s.modRound (fun r => r.put ⟨i, 5, 0xFF, 0xFF, none, f⟩)
          let s := s.modTok i (fun t => { t with fails := satInc 0xFFFF t.fails })
          let (s, lock) := s.accFail
          let s := s.accEvent i 0x01 x.tid 0xFF
          if lock then s.lockStop else s
        else
          let s := s.modTok i (fun t => { t with auths := satInc 0xFFFF t.auths })
          let e : AccExch := ⟨i, x, bestFe (s.heardBy x), 0, false, s.proofFrame j.cmd i r.nd x.nt, s.sessionKey i r.nd x.nt, 0⟩
          s.modRound (fun r => { r with res := r.res.filter (fun y => y.slot ≠ i), exch := r.exch.filter (fun e => e.slot ≠ i) ++ [e] })

/-- A kept round has run its last exchange: the command completes (R320, R325, R327). -/
def State.roundDone (s : State) : State :=
  match s.acc.job with
  | none => s
  | some j =>
    match j.round with
    | none => s
    | some r =>
      let s := s.keepLast r
      if j.cmd.cmd = 0x10 then
        let ok := r.res.any (fun x => x.slot = j.cmd.slot && (x.result = 1 || x.result = 2 || x.result = 7))
        if ok then
          let s := s.modTok j.cmd.slot (fun t => { t with id := j.cmd.tid, enrolled := true })
          let s := s.setStored (Pid.tokenCfg j.cmd.slot) 0 (s.parOf (Pid.tokenCfg j.cmd.slot) 0)
          (s.accEvent j.cmd.slot 0x20 j.cmd.tid 0xFF).accEnd St.ok 0 none r.res []
        else (s.dropEnrol j.cmd).accEnd St.failed 1 none r.res []
      else
        let ch := s.chosen j.cmd.cmd r.res
        let good := match ch with
          | some x => j.cmd.cmd ≠ 2 || (x.zone < 8 && s.pf Pf.accZone_INSIDE 0 x.zone = 1)
          | none => j.cmd.cmd = 1
        s.accEnd (if good then St.ok else St.failed) (if good then 0 else 1) ch r.res (if j.cmd.cmd = 3 then r.blocks else [])

/-- Length of an exchange block (R310): 5 slots, and one for each token-memory block read. -/
def blockTk (c : AccCmd) (slot : Nat) : Nat := 200000 + (if c.cmd = 3 && c.slot = slot then 40000 * c.count else 0)

/-- The next exchange starts at a tick, or the round is done. -/
def State.nextExch (s : State) (t : Nat) : State :=
  match s.round with
  | some r =>
    match r.exch with
    | [] => s.roundDone
    | e :: rest => s.modRound (fun r => { r with exch := { e with start := t } :: rest })
  | none => s

/-- The exchanges go on after a revoked token has left them. -/
def State.resumeExch (s : State) : State :=
  match s.round with
  | some r =>
    if !r.checked then s
    else
      match r.exch with
      | [] => s.roundDone
      | e :: _ => if e.start = 0 then s.nextExch s.now else s
  | none => s

/-- REVOKE (R325): acts at its stamp, even while a round runs. -/
def execRevoke (g : Lapse) (q : Rq) (c : AccessCmd) (s : State) : Host.Outcome State Fault Refusal :=
  .next ((s.pass g).accCmd q 0x11 c [] 0 0 0 0 (some (fun s => (s.revoke c.slot).resumeExch)))

/-- REPLY_CHECK (R311, R315): at the end tick of the check the round is discarded, with retries left, or kept. -/
def execReplyCheck (g : Lapse) (s : State) : Host.Outcome State Fault Refusal :=
  let s := (s.pass g).accDue
  .next (
    match s.acc.job with
    | none => s
    | some j =>
      match j.round with
      | none => s
      | some r =>
        if r.checked || s.now ≠ r.start + 10133600 then s
        else
          let bad := r.seen.filter (fun p => p.2 = .collided || p.2 = .malformed)
          if !bad.isEmpty && j.rounds ≤ s.pf Pf.accCfg_RETRIES then
            let s := s.modAcc (fun a => { a with colls := satInc 0xFFFF a.colls, job := some { j with round := none, ready := s.now } })
            bad.foldl (fun s p => s.accEvent 0xFF 0x04 p.1 0xFF) s
          else
            let s := s.modRound (fun r => { r with checked := true })
            (r.seen.foldl State.checkSlot s).nextExch s.now)

/-- EXCHANGE_BLOCK (R316): PROOF has been sent to the next authenticated token, which accepts it, or has stayed silent to the end of its
block. -/
def execExchangeBlock (g : Lapse) (slot : Fin 16) (x : ExchObs) (s : State) : Host.Outcome State Fault Refusal :=
  let s := (s.pass g).accDue
  .next (
    match s.acc.job with
    | none => s
    | some j =>
      match j.round with
      | none => s
      | some r =>
        match r.exch with
        | [] => s
        | e :: rest =>
          if !(r.checked && e.slot = slot.val && !e.accepted && e.start ≤ s.now) then s
          else if x.accepted then
            let mine := j.cmd.cmd = 3 && j.cmd.slot = e.slot
            let got := if mine then x.blocks.take j.cmd.count else []
            s.modRound (fun r => { r with exch := { e with accepted := true, blk := got.length } :: rest, blocks := if mine then got else r.blocks })
          else if s.now < e.start + blockTk j.cmd e.slot then s
          else
            let f := (List.range 8).map (r.fieldOf e.reply.field)
            let s := s.modRound (fun r => { (r.put ⟨e.slot, 6, s.zoneOf f, 0xFF, none, f⟩) with exch := rest })
            (s.accEvent e.slot 0x07 0 0xFF).nextExch (e.start + blockTk j.cmd e.slot))

/-- Distance in mm (R317, R318), from the device's stamps corrected by ADLY and the token's reports; none where the sum is 0. -/
def rangeMm (x : Ranging) (adly : Nat) : Option Int :=
  let t4 := x.t4 - adly
  let ra := t4 - x.t1
  let da := x.t5 - t4
  let den := ra + x.rb + da + x.db
  if den = 0 then none else some (ratFloor (((ra * x.rb - da * x.db : Int) : Rat) / den * (1565 * 299792458 : Nat) / (10 ^ 11 : Nat)))

/-- RANGING_RESULT (R317 to R319): the REPORT of the token whose block runs is decoded, and the token is placed. -/
def execRangingResult (g : Lapse) (slot : Fin 16) (r : Ranging) (s : State) : Host.Outcome State Fault Refusal :=
  let s := (s.pass g).accDue
  .next (
    match s.acc.job with
    | none => s
    | some j =>
      match j.round with
      | none => s
      | some x =>
        match x.exch with
        | [] => s
        | e :: rest =>
          if !(e.accepted && e.slot = slot.val && e.start + blockTk j.cmd e.slot ≤ s.now) then s
          else
            let f := (List.range 8).map (x.fieldOf e.reply.field)
            let zone := s.zoneOf f
            let d := rangeMm r (s.pf Pf.feCfg_ADLY e.fe)
            let n := flag r.resp + flag r.report + e.blk
            let s := if s.feOn e.fe then s.modFe e.fe (fun f => { f with frames := satAdd 0xFFFF f.frames n, power := if n = 0 then f.power else r.power }) else s
            let good := s.feOn e.fe && r.resp && r.report && s.pf Pf.accRadio_STSQ ≤ r.qResp && s.pf Pf.accRadio_STSQ ≤ r.qReport && (match d with | some d => -300 ≤ d | none => false)
            let d := max 0 (d.getD 0)
            let res := if !good then 7 else if zone ≠ 0xFF && d ≤ 10 * (s.pf Pf.accZone_DMAX 0 zone : Int) then 1 else 2
            let s := s.modRound (fun x => { (x.put ⟨e.slot, res, zone, e.fe, if good then some d else none, f⟩) with exch := rest })
            let s := if good then s.modTok e.slot (fun t => { t with lastDist := min 0xFFFF (d.toNat / 10), lastZone := zone })
              else s.accEvent e.slot 0x06 (min r.qResp r.qReport) zone
            s.nextExch (e.start + blockTk j.cmd e.slot))

/-! ### Stopping (12 R326, R328) -/

/-- The slot boundary of the round in progress at or after a tick (R326): the start of the response slots, the slots' ends, the end of the check,
or the slots of the exchange block that runs; that tick where no round runs. -/
def State.slotEdge (s : State) (t : Nat) : Nat :=
  match s.round with
  | none => t
  | some r =>
    let a := r.start + 8753600
    if t ≤ a then a
    else if t ≤ r.start + 10033600 then a + 40000 * ceilDiv (t - a) 40000
    else if t ≤ r.start + 10133600 then r.start + 10133600
    else match r.exch with
      | e :: _ => e.start + 40000 * ceilDiv (t - e.start) 40000
      | [] => t

/-- A PENDING command ends without its result: it leaves the queue, or its round stops, at the slot boundary at or after tick `t` where one is
given, else at once, with every aerial off (R326, 09 R245). -/
def State.accStopAt (s : State) (h status : Nat) (t : Option Nat) : State :=
  match s.acc.queue.find? (fun c => c.handle = h) with
  | some c =>
    let s := s.modAcc (fun a => { a with queue := a.queue.filter (fun c => c.handle ≠ h) })
    s.complete h status (s.accPayload c 0 0 none [] [])
  | none =>
    match s.acc.job with
    | some j =>
      if j.cmd.handle ≠ h then s
      else
        match t with
        | none => (s.dropEnrol j.cmd).accEnd status 0 none [] []
        | some t => if j.stop.isSome then s else (s.modAcc (fun a => { a with job := some { j with stop := some (status, s.slotEdge t) } })).accDue
    | none => s

/-- A cancel stops a command at the next slot boundary. -/
def State.accStop (s : State) (h status : Nat) : State := s.accStopAt h status (some s.now)

/-- Handles of the PENDING ACCESS_CMDs. -/
def State.accHandles (s : State) : List Nat :=
  (match s.acc.job with | some j => [j.cmd.handle] | none => []) ++ s.acc.queue.map (·.handle)

/-- ACCESS_DEADLINE (R326): a command whose DEADLINE has passed completes TIMEOUT. -/
def execAccessDeadline (g : Lapse) (s : State) : Host.Outcome State Fault Refusal :=
  let s := (s.pass g).accDue
  let due := ((match s.acc.job with | some j => [j.cmd] | none => []) ++ s.acc.queue).filter
    (fun c => match c.deadline with | some t => t ≤ s.now | none => false)
  .next (due.foldl (fun s c => s.accStopAt c.handle St.timeout c.deadline) s)

/-- A round in progress and every command are abandoned, without completions (R328). Enrolments, failures and the lock-out stay. -/
def State.accAbandon (s : State) : State :=
  let s := match s.acc.job with | some j => s.dropEnrol j.cmd | none => s
  s.modAcc (fun a => { a with queue := [], job := none })

/-- PD7 is down: no front-end link is up (R328). -/
def State.accPd7Down (s : State) : State := s.accAbandon.modAcc (fun a => { a with fe := a.fe.map (fun x => { x with link := false }) })

/-- PD7 powers up (R328): aerials idle, links to be trained, counts of `access.status` 0. -/
def State.accPd7Up (s : State) : State := s.modAcc (fun a => { a with rounds := 0, colls := 0, foreign := 0 })

/-- The VOLATILE values of the access block return to their defaults, and no command is in progress (R328, R330 to R332). -/
def Access.logicReset (a : Access) : Access :=
  { a with queue := [], job := none, lf := Vector.replicate 8 {}, fe := Vector.replicate 4 {}, last := Vector.replicate 16 {}, rounds := 0, colls := 0, foreign := 0 }

/-- FE_LINK_UP (R318). -/
def execFeLinkUp (g : Lapse) (f : Fin 4) (s : State) : Host.Outcome State Fault Refusal :=
  let s := s.pass g
  .next (if s.pd 7 && s.pb Pf.feCfg_EN f then s.modFe f (fun x => { x with link := true }) else s)

/-- FE_LINK_DOWN (R318): with the link errors seen. -/
def execFeLinkDown (g : Lapse) (f : Fin 4) (errs : Nat) (s : State) : Host.Outcome State Fault Refusal :=
  let s := s.pass g
  .next (
    if (s.feRec f).link then
      let s := s.modFe f (fun x => { x with link := false, errs := satAdd 0xFFFF x.errs errs })
      s.accEvent (24 + f) 0x13 (s.feRec f).errs 0xFF
    else s)

/-- A write of `uwb.fe[f].cfg` with EN 0 takes the link down (R331). -/
def State.feWritten (s : State) (f off v : Nat) : State :=
  if off = 0 && Pf.feCfg_EN.of v = 0 then s.modFe f (fun x => { x with link := false }) else s

end Sys2Proof.Machine
end

