-- ==== Sys2Proof/Machine/Units.lean ====
section
/-!
DEFINITION. Units above the channel: which channels change state together, composites and their summary state
(05 R133 to R147), and the class-0 events of both (04 R129, 05 R147).
-/
namespace Sys2Proof.Machine

/-- The enabled composite slot (64 + k) that has a unit as its member (05 R134: at most one). -/
def State.parentOf (s : State) (u : Nat) : Option Nat :=
  (firstIdx (fun (c : Comp) => c.en && c.members.contains u) s.load.comp.toList 0).map (· + 64)

/-- The enclosing composites of a unit, innermost first; they nest at most four deep (05 R134). -/
def State.enclosing (s : State) : Nat → Nat → List Nat
  | 0, _ => []
  | k + 1, u => match s.parentOf u with | none => [] | some p => p :: s.enclosing k p

/-- The top composite of a unit, or the unit itself (05 R134). -/
def State.topOf (s : State) (u : Nat) : Nat := (s.enclosing 5 u).getLast?.getD u

/-- The leaves of a unit, in the order of its members (05 R134). -/
def State.leaves (s : State) : Nat → Nat → List Nat
  | 0, _ => []
  | k + 1, u => if u < 64 then [u] else ((s.compOf (u - 64)).members.map (s.leaves k)).flatten

/-- The leaves of a unit. -/
def State.leavesOf (s : State) (u : Nat) : List Nat := s.leaves 6 u

/-- The channels that share one state with chn: the members of its PARALLEL composite (05 R139), or its bridge's even
channel (04 R101), or itself. The first is the lead. -/
def State.gang (s : State) (n : Nat) : List Nat :=
  match s.parentOf n with
  | some p => if (s.compOf (p - 64)).par then (s.compOf (p - 64)).members else [n]
  | none => [s.owner n]

/-- The channel whose settings and counts a gang uses (05 R136, R139). -/
def State.lead (s : State) (n : Nat) : Nat := (s.gang n).headD n

/-- The power-die channels that a leaf's gates touch: both halves of a bridge. -/
def State.halves (s : State) (n : Nat) : List Nat := if s.bridge n then [n, n + 1] else [n]

/-- The channel whose parameters channel n's protections use: each half of a bridge its own (04 R101), a PARALLEL member its
lead's (05 R137). -/
def State.conf (s : State) (n : Nat) : Nat := if s.bridgeOdd n then n else s.lead n

/-- The state of a leaf as a composite sees it: LATCHED inside a composite that GANG has latched (05 R144). -/
def State.seen (s : State) (k n : Nat) : ChSt :=
  if ((s.enclosing 5 n).takeWhile (fun p => p ≠ 64 + k)).any (fun p => (s.compOf (p - 64)).latched) then .latched
  else (s.chan n).st

/-- The state of composite slot k from its leaves and last command (05 R141). -/
def State.compState (s : State) (k : Nat) : ChSt :=
  let c := s.compOf k
  let ls := s.leavesOf (64 + k)
  if c.par then (s.chan (c.members.headD 0)).st
  else if c.latched then .latched
  else if ls.all (fun n => s.seen k n = .latched) then .latched
  else if (s.compOf (s.topOf (64 + k) - 64)).idle then .off
  else if ls.any (fun n => s.seen k n = .grantWait) then .grantWait
  else if ls.any (fun n => s.seen k n = .inrush) then .inrush
  else if ls.any (fun n => s.seen k n = .retryWait) then .retryWait
  else if ls.any (fun n => s.seen k n = .retryOn) then .retryOn
  else .on

/-- DEGRADED (05 R141): a composite in row 8 with a leaf latched, or off because of FEED_LOST or INTERLOCK. -/
def State.degraded (s : State) (k : Nat) : Bool :=
  !(s.compOf k).par && s.compState k = .on &&
    (s.leavesOf (64 + k)).any (fun n =>
      s.seen k n = .latched || (s.seen k n = .off && (s.chan n).offBy ≠ 0))

/-- FAULT and FMEMBER of a composite (05 R142): the lowest nonzero code, and the lowest leaf that carries it. -/
def State.compFault (s : State) (k : Nat) : Nat × Nat :=
  let ls := (s.leavesOf (64 + k)).filter (fun n => (s.chan n).fault ≠ 0)
  match ls with
  | [] => (0, 0xFF)
  | n :: l =>
    let f := l.foldl (fun m n => min m (s.chan n).fault) (s.chan n).fault
    (f, (ls.filter (fun n => (s.chan n).fault = f)).foldl min 0xFF)

/-- State, fault and counts of a unit for completions and status. -/
def State.unitState (s : State) (u : Nat) : ChSt := if u < 64 then (s.chan (s.owner u)).st else s.compState (u - 64)
def State.unitFault (s : State) (u : Nat) : Nat := if u < 64 then (s.chan (s.owner u)).fault else (s.compFault (u - 64)).1

/-- Transient count of a composite: the lead's for PARALLEL, else the leaves' sum (05 R142). -/
def State.compTrans (s : State) (k : Nat) : Nat :=
  if (s.compOf k).par then (s.chan ((s.compOf k).members.headD 0)).trans
  else (s.leavesOf (64 + k)).foldl (fun m n => satAdd 255 m (s.chan n).trans) 0

/-- Lasting count of a composite (05 R142). -/
def State.compLasting (s : State) (k : Nat) : Nat :=
  if (s.compOf k).par then (s.chan ((s.compOf k).members.headD 0)).lasting
  else (s.leavesOf (64 + k)).foldl (fun m n => satAdd 255 m (s.chan n).lasting) 0

/-- Highest junction estimate among leaves (05 R142). -/
def State.compTj (s : State) (k : Nat) : Rat :=
  match s.leavesOf (64 + k) with
  | [] => 0
  | n :: l => l.foldl (fun m n => max m (s.tj n)) (s.tj n)

/-- Code of a channel state (04 R103). -/
def ChSt.code : ChSt → Nat
  | .off => 0 | .grantWait => 1 | .inrush => 2 | .on => 3 | .retryWait => 4 | .retryOn => 5 | .latched => 6

/-- A temperature as i16 in 0.1 °C. -/
def tempCode (t : Rat) : Nat := clampTo 16 (ratFloor (t * 10))

/-- Detail of a class-0 event (04 R129). -/
def class0Detail (st kind : Nat) (ma : Int) (tj : Rat) (trans lasting : Nat) : List Byte :=
  leBytes 1 st ++ leBytes 1 kind ++ leBytes 2 0 ++ leBytes 4 (clampTo 32 ma) ++ leBytes 2 (tempCode tj)
    ++ leBytes 1 trans ++ leBytes 1 lasting

/-- Class-0 event of a channel. -/
def State.chanEvent (s : State) (n code kind : Nat) (ma : Int) : State :=
  s.emit 0 n code (class0Detail (s.chan n).st.code kind ma (s.tj n) (s.chan n).trans (s.chan n).lasting)

/-- What a composite reports, compared before and after an event (05 R147). -/
def State.summary (s : State) (k : Nat) : ChSt × Bool × Nat × Nat := (s.compState k, s.degraded k, s.compFault k)

/-- Class-0 events of the enclosing composites whose summary an event of leaf n changed, innermost first, put out by `put`
(05 R147). ITRIP is the sum of the leaves' currents, with `ma` for the channel `who` that the event was measured at. -/
def State.compEventsBy (s : State) (put : State → Nat → Nat → List Byte → State) (s0 : State) (n who code kind : Nat) (ma : Int) : State :=
  (s.enclosing 5 n).foldl (fun s p =>
    let k := p - 64
    if s.summary k = s0.summary k then s
    else
      let sum := (s.leavesOf p).foldl (fun m i => m + (if i = s.owner who then ma else 10 * (s.chan i).imeas)) (0 : Int)
      put s p code (class0Detail (s.compState k).code kind sum (s.compTj k) (s.compTrans k) (s.compLasting k))) s

/-- An event of leaf n measured at channel `who`, then those of its composites; `s0` is the state before the event. -/
def State.leafEventAt (s s0 : State) (n who code kind : Nat) (ma : Int) : State :=
  (s.chanEvent n code kind ma).compEventsBy (fun s p c d => s.emit 0 p c d) s0 n who code kind ma

/-- An event of leaf n. Where no current comes with the event, ITRIP is the mean current of the last step (DESIGN CHOICE,
entry 90). -/
def State.leafEvent (s s0 : State) (n code kind : Nat) (ma : Int) : State := s.leafEventAt s0 n n code kind ma

/-! ### Commands of a unit in progress (04 R106, R108, 05 R146) -/

/-- The PENDING command of a unit. -/
def State.cmdOf (s : State) (u : Nat) : Option UCmd := kvGet u s.load.cmds

/-- Recording a unit's PENDING command. -/
def State.setCmd (s : State) (u : Nat) (c : UCmd) : State :=
  { s with load := { s.load with cmds := kvPut u c s.load.cmds } }

/-- Forgetting a unit's command. -/
def State.dropCmd (s : State) (u : Nat) : State := { s with load := { s.load with cmds := kvDel u s.load.cmds } }

/-- Completion payload of CHAN_CMD (04 R108). -/
def State.cmdPayload (s : State) (u : Nat) (c : UCmd) (st fault : Nat) : List Byte :=
  leBytes 2 u ++ leBytes 1 st ++ leBytes 1 fault
    ++ leBytes 1 (flag c.retried + 2 * flag c.deferred + 4 * flag c.restored) ++ leBytes 3 0 ++ leBytes 8 s.now

/-- Completing a unit's command with its present state and the fault code that its status keeps, which may be older than the
command (DESIGN CHOICE, entry 90). -/
def State.endCmd (s : State) (u status : Nat) : State :=
  match s.cmdOf u with
  | none => s
  | some c => (s.complete c.handle status (s.cmdPayload u c (s.unitState u).code (s.unitFault u))).dropCmd u

/-- Completing a unit's command with a given fault code. -/
def State.failCmd (s : State) (u fault : Nat) : State :=
  match s.cmdOf u with
  | none => s
  | some c => (s.complete c.handle St.failed (s.cmdPayload u c (s.unitState u).code fault)).dropCmd u

/-- A turn-on command code: ON, LOW, FORWARD, REVERSE or PULSE. -/
def isTurnOn (cmd : Nat) : Bool := (1 ≤ cmd && cmd ≤ 4) || cmd = 0x10

/-- A mark of a unit's command: RETRIED, DEFERRED or RESTORED (04 R108). -/
def State.markCmd (s : State) (n : Nat) (f : UCmd → UCmd) : State :=
  match s.cmdOf (s.topOf n) with
  | none => s
  | some c => if isTurnOn c.cmd then s.setCmd (s.topOf n) (f c) else s

/-- A unit's OFF has taken effect when no leaf has a gate-off pending (04 R108). -/
def State.offDone (s : State) (u : Nat) : Bool :=
  (s.leavesOf u).all (fun n => (s.chan n).offAt.isNone)

/-- The command of the top unit of channel n completes when its condition of R108 holds (05 R146). -/
def State.settle (s : State) (n : Nat) : State :=
  let u := s.topOf n
  match s.cmdOf u with
  | none => s
  | some c =>
    if isTurnOn c.cmd then
      if s.unitState u = .on then s.endCmd u St.ok
      else if s.unitState u = .latched then s.failCmd u (s.unitFault u)
      else s
    else if c.cmd = 0 then (if s.offDone u then s.endCmd u St.ok else s)
    else if c.cmd = 5 then
      (if (s.chan n).gate = .brake then s.endCmd u St.ok
       else if (s.chan n).st = .latched then s.failCmd u (s.chan n).fault else s)
    else s

end Sys2Proof.Machine
end

