-- ==== Sys2Proof/Machine/Heat.lean ====
section
/-!
DEFINITION. Heat-budget requests, grants and releases as data (06 R168 to R176): what a request reserves, how a unit asks and
how it gives back. The arbiter's pass stands in Isotherm.lean.
-/
namespace Sys2Proof.Machine

/-- Class of a drive's switches: the channels and switches (0 high, 1 low side) in the current path (04 R101, 06 R170). -/
def pathOf (n : Nat) (d : Drive) : List (Nat × Nat) :=
  match d with
  | .high => [(n, 0)]
  | .low => [(n, 1)]
  | .fwd => [(n, 0), (n + 1, 1)]
  | .rev => [(n + 1, 0), (n, 1)]

/-- Ron(Tj) of the current path, mΩ (06 R170). -/
def State.pathRon (s : State) (n : Nat) (d : Drive) : Rat :=
  (pathOf n d).foldl (fun r p => r + s.ron p.1 p.2 (s.tj p.1)) 0

/-- Iest, mA: the learned current, or ilim × rfrac / 1,000 (06 R170). -/
def State.iest (s : State) (n : Nat) : Rat :=
  let l := s.iso.learn.toList.getD n 0
  if l ≠ 0 then (l : Rat) else (s.pf Pf.chIlim_ILIM (s.lead n) : Rat) * (s.pf Pf.isoRfrac_RFRAC : Rat) / 1000

/-- Steady reservation of a leaf, mW (06 R170). -/
def State.psLeaf (s : State) (n : Nat) (d : Drive) : Rat := (s.iest n / 1000) * (s.iest n / 1000) * s.pathRon n d

/-- Profile factors F1 and F2 in 1/1,000 (06 R171). -/
def profileFactors (profile : Nat) : Rat × Rat :=
  match profile with
  | 1 => (329 / 1000, 190 / 1000)
  | 2 => (175 / 1000, 68 / 1000)
  | 3 => (620 / 1000, 491 / 1000)
  | 4 => (760 / 1000, 668 / 1000)
  | 5 => (500 / 1000, 334 / 1000)
  | 6 => (175 / 1000, 102 / 1000)
  | _ => (0, 0)

/-- Rise time of a SLEW setting, tk (04 R112). -/
def riseTk (slew : Nat) : Nat := [43200, 21600, 10800, 4320].getD slew 43200

/-- Inrush energy of a leaf with steady reservation `ps`, mJ, before rounding (06 R171); a PARALLEL member runs at the lead's settings
(05 R137). -/
def State.exLeaf (s : State) (n : Nat) (d : Drive) (ps : Rat) : Rat :=
  let l := s.lead n
  let p : Rat := (s.inrushP l : Rat) / 1000
  let t : Rat := (s.inrushT l : Rat) / 200000000
  if chClass n = 2 then
    p * ((s.feedMv n : Rat) / 1000) * ((riseTk (s.pf Pf.chCfg_SLEW l) : Rat) * (5 / 4) / 200000000) / 2 * 1000
  else
    let i : Rat := (s.pf Pf.chIlim_ILIM l : Rat) / 1000
    let dd := max 0 (p - i)
    let f := profileFactors (s.pf Pf.chCfg_PROFILE l)
    s.pathRon n d * t * (i * i + 2 * i * dd * f.1 + dd * dd * f.2) - ps * t

/-- Switching energy per period at nominal current and 13.5 V, µJ (06 R172). -/
def switchUj (n slew : Nat) : Nat :=
  if chClass n = 0 then 2250 else if chClass n = 1 then 180 else [2916, 1458, 729, 292].getD slew 2916

/-- Steady reservation of a pulsing leaf at duty d ‰ and period P, mW (06 R172). -/
def State.psPulse (s : State) (n : Nat) (dr : Drive) (d per : Nat) : Rat :=
  let sw : Rat :=
    if d = 0 || d = 1000 || per = 0 then 0
    else (switchUj n (s.pf Pf.chCfg_SLEW n) : Rat) / 1000 * (s.iest n / (nominalMa n : Rat))
      * ((s.feedMv n : Rat) / 13500) * (200000000 / (per : Rat))
  s.psLeaf n dr * (d : Rat) / 1000 + sw

/-- Shares rounded so that their sum is the request's whole mW and mJ; the first share takes the rounding. A request whose
ex works out below 0 reserves 0. The inrush rate is ex / T (06 R169 to R171). -/
def roundShares (l : List (Nat × Rat × Rat)) (t : Nat) : List Share :=
  let ps := l.foldl (fun r x => r + x.2.1) 0
  let ex := l.foldl (fun r x => r + x.2.2) 0
  let exUp : Rat := (ratCeil ex : Rat)
  let tms : Rat := (t : Rat) / 200000000
  match l with
  | [] => []
  | x :: xs =>
    let rest := xs.map (fun y => (y.1, y.2.1, if ex < 0 then 0 else y.2.2))
    let first := (x.1, x.2.1 + ((ratCeil ps : Rat) - ps), exUp - rest.foldl (fun r y => r + y.2.2) 0)
    (first :: rest).map (fun y => ⟨y.1, y.2.1, y.2.2, if t = 0 then 0 else y.2.2 / tms⟩)

/-- Total ps, ex and q of a request, mW, mJ and mW (06 R169). -/
def IsoReq.ps (r : IsoReq) : Rat := r.shares.foldl (fun a x => a + x.ps) 0
def IsoReq.ex (r : IsoReq) : Rat := r.shares.foldl (fun a x => a + x.ex) 0
def IsoReq.q (r : IsoReq) : Rat := r.shares.foldl (fun a x => a + x.q) 0

/-- The generator member of a unit. -/
def State.pmem (s : State) (u : Nat) : Option (Nat × PMem) :=
  (List.range 16).findSome? (fun g => ((s.genOf g).mems.find? (fun m => m.unit = u)).map (fun m => (g, m)))

/-- The unit pulses, or has a PULSE that a grant will start (05 R153). -/
def State.pulsing (s : State) (u : Nat) : Bool :=
  match s.pmem u with
  | none => false
  | some (_, m) => m.pulsing

/-- Steady reservation of leaf n when its top unit pulses or not (06 R170, R172). -/
def State.psFor (s : State) (n : Nat) (d : Drive) : Rat :=
  match s.pmem (s.topOf n) with
  | some (g, m) => if m.pulsing then s.psPulse n d m.duty (s.genOf g).per else s.psLeaf n d
  | none => s.psLeaf n d

/-- A turn-on or retry request of leaves `ls` under number `num`, with the given class and priority (06 R169, 05 R143). -/
def State.makeReq (s : State) (num : Nat) (kind : ReqKind) (ls : List Nat) (sclass prio : Nat) : IsoReq :=
  let t := ls.foldl (fun m n => max m (s.inrushT (s.lead n))) 0
  let sh := roundShares (ls.map (fun n => let d := (s.chan n).drive; let ps := s.psFor n d; (n, ps, s.exLeaf n d ps))) t
  ⟨num, kind, sh, t, sclass, prio, s.now, none, false⟩

/-- Adding a request to those pending; an earlier one of the same number and kind is replaced. -/
def State.addReq (s : State) (r : IsoReq) : State :=
  { s with iso := { s.iso with pend := s.iso.pend.filter (fun x => !(x.num = r.num && x.kind = r.kind)) ++ [r] } }

/-- Safety class and priority of a unit's requests (05 R143). -/
def State.classPrio (s : State) (u : Nat) : Nat × Nat :=
  if u < 64 then (s.pf Pf.chCfg_SCLASS u, s.pf Pf.chCfg_PRIO u)
  else (s.pf Pf.compCfg_SCLASS (u - 64), s.pf Pf.compCfg_PRIO (u - 64))

/-- The turn-on request of channel n: one request of its PARALLEL composite for all its members, or its own (05 R138, R143).
A leaf of a GROUP that asks alone uses its own number with the top composite's class and priority. -/
def State.requestFor (s : State) (n : Nat) (kind : ReqKind) : State :=
  let g := s.gang n
  let top := s.topOf n
  let cp := s.classPrio top
  let num := match s.parentOf n with
    | some p => if (s.compOf (p - 64)).par then p else n
    | none => n
  s.addReq (s.makeReq num kind g cp.1 cp.2)

/-- Withdrawing the requests of channel n; it leaves a joint request of its composite, and the increases asked for a grant
that it gives up. -/
def State.withdraw (s : State) (n : Nat) : State :=
  let strip := fun (r : IsoReq) => { r with shares := r.shares.filter (fun x => x.ch ≠ n) }
  { s with iso := { s.iso with pend := (s.iso.pend.map strip).filter (fun r => !r.shares.isEmpty) } }

/-- Measured switch energy of a channel's inrush so far, µJ. -/
def State.inrUj (s : State) (ch : Nat) : Rat :=
  (s.iso.grants.filter (fun g => g.share.ch = ch)).foldl (fun a g => a + g.uj) 0

/-- A release waits for the next pass (06 R173). -/
def State.addRel (s : State) (r : IsoRel) : State := { s with iso := { s.iso with rels := s.iso.rels ++ [r] } }

/-- The reservation of channel n ends now (06 R175), with the inrush energy given, or measured up to this tick: that of the steps so far and that of
the part of a step since, which no command brings (a free value, entry 93). -/
def State.releaseCh (s : State) (n : Nat) (uj : Option Rat) : State :=
  s.addRel (.free n (uj.getD (s.inrUj n + (Config.partUj n s.now : Rat))) s.now)

/-- S, mW: the sum of the steady reservations (06 R168). -/
def State.isoS (s : State) : Rat := s.iso.grants.foldl (fun a g => a + g.share.ps) 0

/-- Q, mW: the sum of the inrush rates of units in inrush (06 R168). -/
def State.isoQ (s : State) : Rat := s.iso.grants.foldl (fun a g => a + (if g.inr then g.share.q else 0)) 0

/-- Reserved steady power of a request number, mW (06 R187). -/
def State.isoResv (s : State) (num : Nat) : Rat :=
  (s.iso.grants.filter (fun g => g.num = num)).foldl (fun a g => a + g.share.ps) 0

/-- The grant of channel n, if it holds one. -/
def State.holdsGrant (s : State) (n : Nat) : Bool := s.iso.grants.any (fun g => g.share.ch = n)

/-- A class-1 event (06 R176). -/
def State.isoEvent (s : State) (num kind pool : Nat) (mw mj : Nat) (waited : Nat) : State :=
  s.emit 1 num kind (leBytes 1 kind ++ leBytes 1 pool ++ leBytes 2 (min 65535 mw) ++ leBytes 2 (min 65535 mj)
    ++ leBytes 2 0 ++ leBytes 4 (waited / 200 % 2 ^ 32))

end Sys2Proof.Machine
end

