-- ==== Sys2Proof/Machine/Channel.lean ====
section
/-!
DEFINITION. Load channels (04): the transitions of R104, commands (R106 to R109), the limit in force, protection, retry,
off-state diagnostics, reverse blocking and feeds.
-/
namespace Sys2Proof.Machine

/-- INTLK permits a DUALFED channel only on an ACTIVE device (04 R126, 13 R348). -/
def State.intlkBlocks (s : State) : Bool := s.il.role ≠ 2

/-- Channel n is DUALFED (04 R126). -/
def State.dualFed (s : State) (n : Nat) : Bool := s.pb Pf.chCfg_DUALFED n

/-- Cn runs: its die's control domain is on, no hold is in force and the core is not halted (01 R35, 17 R431, R434). -/
def State.seqUp (s : State) (n : Nat) : Bool := !s.load.held && s.pd (10 + dieOf n) && !s.load.halted.testBit n

/-- A gate or both low sides are on. -/
def Chan.energised (c : Chan) : Bool := c.gate ≠ .off

/-- The inrush timer now: from gate-on, without the frozen time (04 R111, R121). -/
def Chan.timer (c : Chan) (now : Nat) : Nat :=
  now - c.gateAt - c.frozen - (match c.frozenAt with | some f => now - f | none => 0)

/-- ILIM that channel n regulates at (04 R101, 05 R137). -/
def State.ilimOf (s : State) (n : Nat) : Nat := s.pf Pf.chIlim_ILIM (s.conf n)

/-- The limit in force of channel n at inrush time t, mA, rounded down to the class's resolution (04 R111, R112), with the P and T
that its inrush started with (R132). -/
def State.inrushLimit (s : State) (n t : Nat) : Nat :=
  let c := s.chan n
  let i := s.ilimOf n
  if chClass n = 2 then c.inrP
  else if c.inrT ≤ t then i
  else
    let f := shapeAt (profileShape (s.pf Pf.chCfg_PROFILE (s.conf n))) ((t : Rat) / (c.inrT : Rat))
    let l := ratFloor ((i : Rat) + f * ((c.inrP - i : Nat) : Rat))
    (l.toNat / limitStep n) * limitStep n

/-! ### Gates -/

/-- Since when a gate must wait before it holds `x`: a switch of another drive is on, or went off less than 200 tk ago (04 R100). -/
def Chan.deadFrom (c : Chan) (x : Gate) (now : Nat) : Option Nat :=
  if c.gate ≠ .off then (if c.gate = x then none else some now)
  else match c.opened with
    | some (y, t) => if y ≠ x && now < t + 200 then some t else none
    | none => none

/-- Every switch off. -/
def Chan.open_ (c : Chan) (now : Nat) : Chan :=
  { c with gate := .off, dead := none, opened := if c.gate = .off then c.opened else some (c.gate, now) }

/-- A gate command: at once, or `act` after the dead time of R100. -/
def Chan.toGate (c : Chan) (x : Gate) (act : DeadAct) (now : Nat) : Chan :=
  if x = .off then c.open_ now
  else match c.deadFrom x now with
    | some t => { c.open_ now with dead := some (t, act) }
    | none => { c with gate := x, dead := none }

/-- Inrush settings and a new dwell timer for a channel whose gate turns on (04 R111, R113, R132). -/
def State.armInrush (s : State) (n : Nat) : State :=
  let h := s.conf n
  let s := s.modChan n (fun c => { c with inrP := s.inrushP h, inrT := s.inrushT h, stallAt := none, regAt := none, regSum := 0, regSeen := false })
  s.modChan n (fun c => { c with limit := s.inrushLimit n 0 })

/-- The gate of channel n turns on in its drive, and the inrush timer starts at 0 (04 R104). The halves of a bridge share the timer. -/
def State.gateOn (s : State) (n : Nat) : State :=
  let c := s.chan n
  let sag := (s.dieRec (dieOf n)).sag
  let s := s.setChan n { c with gate := .drive c.drive, brake := false, dead := none, gateAt := s.now, inr := true, inrDue := false, frozen := 0, frozenAt := if sag then some s.now else none }
  (s.halves n).foldl State.armInrush s

/-- Gate-on at a grant: at once, or after the dead time where another switch is still on or has just gone off (04 R104, R100). -/
def State.gateOnAfter (s : State) (n : Nat) : State :=
  let c := s.chan n
  match c.deadFrom (.drive c.drive) s.now with
  | some t => s.setChan n { c.open_ s.now with brake := false, dead := some (t, .gateOn) }
  | none => s.gateOn n

/-- Both low sides of bridge n on, with the BRAKE flag, each at its own `ilim` (04 R104). -/
def State.lowSides (s : State) (n : Nat) : State :=
  let s := s.modChan n (fun c => { c.toGate .brake .brakeOn s.now with brake := true })
  (s.halves n).foldl (fun s i => s.modChan i (fun c => { c with limit := s.ilimOf i })) s

/-- All gates of channel n off; an inrush ends (04 R104). -/
def Chan.gateOff (c : Chan) (now : Nat) : Chan :=
  { c.open_ now with brake := false, revAt := none, inr := false, inrDue := false, frozenAt := none, stallAt := none, regAt := none, regSum := 0, regSeen := false, revblock := false }

/-- Channel n goes to a state with its gate off and its reservation released (04 R104, 06 R175). -/
def State.dropCh (s : State) (n : Nat) (st : ChSt) (uj : Option Rat) : State :=
  let s := if s.holdsGrant n then s.releaseCh n uj else s
  let s := s.withdraw n
  let s := if s.bridge n then s.modChan (n + 1) (fun c => { c with stallAt := none, regAt := none, regSum := 0, regSeen := false }) else s
  s.modChan n (fun c => { c.gateOff s.now with st := st, offBy := 0, retryReq := false, lostAt := none })

/-- An edge's gate command, or the off-phase that an inrush ends into (05 R152). -/
def State.pulseGate (s : State) (n : Nat) (x : Gate) : State := s.modChan n (fun c => c.toGate x (.set x) s.now)

/-- What a leaf drives in the off-phase (05 R152). -/
def State.offGate (s : State) (n : Nat) (free : Bool) : Gate :=
  if !free then .off else if s.bridge n then .brake else if chClass n = 1 then .drive .low else .off

/-- The dwell timers of leaf n at the end of an on-phase: regulated time adds up, and restarts at 0 after an on-phase without
regulation (05 R155). -/
def State.endOnPhase (s : State) (n : Nat) : State :=
  (s.halves n).foldl (fun s i => s.modChan i (fun c =>
    { c with regSum := if c.regSeen then c.regSum + (match c.regAt with | some t => s.now - t | none => 0) else 0, regAt := none, regSeen := false })) s

/-- An off-state test ends without a result: its pull-up, and the low side of a bridge's odd half, go off (04 R123, R124). -/
def State.endTest (s : State) (n : Nat) : State :=
  if (s.chan n).test = .idle then s
  else
    let s := s.modChan n (fun c => { c with test := .idle })
    if s.bridge n then s.modChan (n + 1) (fun c => c.open_ s.now) else s

/-- The unit's pulsing ends at once (05 R153). -/
def State.endPulse (s : State) (u : Nat) : State :=
  match s.pmem u with
  | none => s
  | some (g, _) =>
    let x := s.genOf g
    let s := s.setGen g { x with mems := x.mems.map (fun m =>
      if m.unit = u then { m with pulsing := false, start := false, onEdge := none, offEdge := none } else m) }
    { s with iso := { s.iso with pend := s.iso.pend.filter (fun r =>
      match r.kind with | .more _ u' => u' ≠ u | .shorter _ u' => u' ≠ u | _ => true) } }

/-! ### Trips (04 R104, R118 to R122) -/

/-- End of the confirmation window of the retry on lead n (04 R119), from the end of the last member's inrush (05 R138, R139). -/
def State.confirmEnd (s : State) (n : Nat) : Nat :=
  let c := s.chan n
  let a := (s.gang n).foldl (fun m i => max m (s.chan i).inrEnd) 0 + 2000000
  if c.firstCode = 4 then max a (c.gateAt + 5 * (20000000 * s.pf Pf.chWire_TAU n)) else a

/-- No inrush of the gang of n runs. -/
def State.inrushOver (s : State) (n : Nat) : Bool := (s.gang n).all (fun i => !(s.chan i).inr)

/-- The confirmation window has ended without a trip: transient (04 R104, R119). -/
def State.confirm (s : State) (n : Nat) : State :=
  let s0 := s
  let s := (s.gang n).foldl (fun s i => s.modChan i (fun c => { c with st := .on })) s
  let s := s.modChan (s.lead n) (fun c => { c with trans := satInc 255 c.trans })
  let s := s.markCmd n (fun c => { c with retried := true })
  (s.leafEvent s0 (s.lead n) (s.chan (s.lead n)).fault 1 (10 * (s.chan n).imeas)).settle n

/-- A GANG composite latches with its first lasting leaf: every other leaf is turned off (05 R144). -/
def State.gangLatch (s : State) (n : Nat) : State :=
  (s.enclosing 5 n).foldl (fun s p =>
    let k := p - 64
    if s.pb Pf.compCfg_GANG k && !(s.compOf k).par && !(s.compOf k).latched then
      let s := s.setComp k { s.compOf k with latched := true }
      (s.leavesOf p).foldl (fun s i =>
        if (s.chan i).st = .latched || (s.gang n).contains i then s else s.dropCh i .off none) s
    else s) s

/-- A trip of channel n goes to Contour (06 R183). -/
def State.noteTrip (s : State) (n code : Nat) : State := s.modChan n (fun c => { c with trips := c.trips ++ [(code, s.now)] })

/-- A trip with its code and tick on lead l. -/
def State.markTrip (s : State) (l code : Nat) : State :=
  s.modChan l (fun c => { c with fault := code, firstCode := code, tripAt := s.now, delay := s.pf Pf.chRetry_DELAY l })

/-- A lasting trip of channel n: LATCHED, also in the die's latch of every member (04 R104, R130, 05 R148). -/
def State.tripLasting (s : State) (n code : Nat) (m : Meas) : State :=
  let s0 := s
  let l := s.lead n
  let s := (s.gang n).foldl (fun s i => (s.dropCh i .latched (if i = n then some (m.uj : Rat) else none)).modChan i (fun c => { c with dieLast := true })) s
  let s := (s.markTrip l code).modChan l (fun c => { c with lasting := satInc 255 c.lasting })
  let s := (s.noteTrip n code).gangLatch l
  let s := if s.unitState (s.topOf l) = .latched then s.endPulse (s.topOf l) else s
  (s.leafEventAt s0 l n code 2 m.ma).settle l

/-- A first trip of channel n: RETRY_WAIT (04 R104). -/
def State.tripFirst (s : State) (n code : Nat) (m : Meas) : State :=
  let s0 := s
  let l := s.lead n
  let s := (s.gang n).foldl (fun s i => s.dropCh i .retryWait (if i = n then some (m.uj : Rat) else none)) s
  ((s.markTrip l code).noteTrip n code).leafEventAt s0 l n code 0 m.ma

/-- Two protections trip in one tick: one trip is taken, with the lower code in the status, in what this tick has reported, and in the trips
held for Contour (04 R105). -/
def State.tripAgain (s : State) (n code : Nat) : State :=
  let l := s.lead n
  let c := s.chan l
  if c.tripAt = s.now && code < c.fault && c.fault < 8 then
    let s := (s.gang n).foldl (fun s i => s.modChan i (fun x => { x with trips := x.trips.map (fun p => if p.2 = s.now then (code, p.2) else p) })) s
    let s := s.modChan l (fun x => { x with fault := code, firstCode := code })
    s.lowerCode 0 0x20 (l :: s.enclosing 5 l) c.fault code
  else s

/-- A trip of channel n with a code of R128, in the states that R104 lists. A trip at or after the end of the confirmation window finds the
retry held, and is a new first trip (R105). -/
def State.trip (s : State) (n code : Nat) (m : Meas) : State :=
  let l := s.lead n
  let s := if (s.chan l).st = .retryOn && s.inrushOver l && s.confirmEnd l ≤ s.now then s.confirm l else s
  let c := s.chan l
  match c.st with
  | .inrush | .on => if s.pb Pf.chRetry_NORETRY l then s.tripLasting n code m else s.tripFirst n code m
  | .retryOn => s.tripLasting n code m
  | .off | .grantWait => if c.brake then s.tripLasting n code m else s
  | .retryWait | .latched => s.tripAgain n code

/-- A trip that the die takes alone while its sequencer is down: the output goes off and stays off, and the latch records
it; the same-die members of a PARALLEL composite go off with it (17 R431, 05 R148). -/
def State.dieTripOff (s : State) (n code : Nat) : State :=
  let c := s.chan n
  if c.dieTrip && c.tripAt = s.now then
    s.modChan n (fun c => { c with fault := min c.fault code, firstCode := min c.firstCode code })
  else if !(s.chan (s.owner n)).energised then s
  else
    let s := ((s.gang n).filter (fun i => dieOf i = dieOf n)).foldl
      (fun s i => s.modChan i (fun c => { c.gateOff s.now with dieTrip := true, fault := code, firstCode := code, tripAt := s.now })) s
    (s.dieEvent n 0).noteTrip n code

/-- The states in which R104 lists a trip: on, between the edges of a pulse generator too (R103), or braking. -/
def State.tripActs (s : State) (n : Nat) : Bool :=
  let c := s.chan (s.lead n)
  match c.st with
  | .inrush | .on | .retryOn => true
  | .off | .grantWait => c.brake
  | .retryWait | .latched => false

/-- A trip raised by the die's own protections. -/
def State.dieTrips (s : State) (n code : Nat) (m : Meas) : State :=
  if !s.seqUp (s.lead n) then s.dieTripOff n code
  else (if s.tripActs n then s.dieEvent n 0 else s).trip n code m

/-! ### Turn-on, OFF, BRAKE and CLEAR of a leaf -/

/-- Feeds of every member of n's gang are in range (05 R139). -/
def State.gangFeedOk (s : State) (n : Nat) : Bool := (s.gang n).all s.feedOk

/-- Stamp of the loss of n's feed. -/
def State.feedLostAt (s : State) (n : Nat) : Nat := if onFeedA n then s.pwr.aLost else s.pwr.bLost

/-- A channel out of range neither requests nor takes a grant. A turn-on that finds its feed out waits from the feed's earlier loss, whose stamp
starts the 1 s window, and no further FEED_LOST is sent (04 R127; DESIGN CHOICE, entry 90). -/
def State.lostMark (s : State) (n : Nat) : Option Nat :=
  ((s.gang n).find? (fun i => !s.feedOk i)).map s.feedLostAt

/-- A retry in progress is abandoned with UNRESOLVED (04 R104), on the lead of a PARALLEL composite (05 R139). -/
def State.unresolved (s s0 : State) (n : Nat) : State :=
  match (s0.chan n).st with
  | .retryWait | .retryOn => if s.lead n = n then s.leafEvent s0 n (s0.chan n).fault 3 (10 * (s0.chan n).imeas) else s
  | _ => s

/-- Two drives reverse a bridge (04 R102). -/
def reverses (a b : Drive) : Bool := (a = .fwd && b = .rev) || (a = .rev && b = .fwd)

/-- A turn-on of leaf n with drive d, by the rows of R104. The flag says that a grant is to be requested at once. A reversal passes through
BRAKE for 400,000 tk, counted from the command (DESIGN CHOICE, entry 90). -/
def State.leafOn (s : State) (n : Nat) (d : Drive) : State × Bool :=
  let s := s.endTest n
  let c := s.chan n
  let s0 := s
  match c.st with
  | .off =>
    if s.dualFed n && s.intlkBlocks then (s.modChan n (fun c => { c with fault := 0x21, offBy := 0x21 }), false)
    else
      let lost := s.lostMark n
      (s.setChan n { c with st := .grantWait, drive := d, offAt := none, lostAt := lost, offBy := 0 }, lost.isNone)
  | .grantWait =>
    if c.drive = d then (s, false)
    else
      let s := s.withdraw n
      if c.revAt.isSome || c.dead.isSome || c.lostAt.isSome then (s.setChan n { c with drive := d }, false)
      else (s.setChan n { c with drive := d }, true)
  | .inrush | .on | .retryWait | .retryOn =>
    if c.drive = d then (s, false)
    else
      let s := s.dropCh n .grantWait none
      let lost := s.lostMark n
      if reverses c.drive d then
        let s := s.lowSides n
        let s := s.modChan n (fun c => { c with drive := d, revAt := some s.now, lostAt := lost })
        (s.unresolved s0 n, false)
      else if c.energised then
        ((s.modChan n (fun c => { c with drive := d, dead := some (s.now, .request), lostAt := lost })).unresolved s0 n, false)
      else ((s.modChan n (fun c => { c with drive := d, lostAt := lost })).unresolved s0 n, lost.isNone)
  | .latched => (s, false)

/-- OFF or COAST of leaf n (04 R104); the output current is then awaited (R108). -/
def State.leafOff (s : State) (n : Nat) : State :=
  let c := s.chan n
  match c.st with
  | .latched => s.setChan n { c with offAt := some s.now }
  | .off => s.setChan n { c.gateOff s.now with offAt := some s.now, offBy := 0 }
  | _ => (s.dropCh n .off none).modChan n (fun c => { c with offAt := some s.now })

/-- BRAKE of bridge n (04 R104): both low sides on, after the dead time where a high side was on. -/
def State.leafBrake (s : State) (n : Nat) : State :=
  let s0 := s
  if (s.chan n).st = .latched || ((s.chan n).st = .off && (s.chan n).brake) then s
  else (((s.endTest n).dropCh n .off none).lowSides n).unresolved s0 n

/-- CLEAR of leaf n (04 R104, R120). -/
def State.leafClear (s : State) (n : Nat) (clr : Bool) : State :=
  let s := s.modChan n (fun c => if c.st = .latched then { c with st := .off, fault := 0, dieLast := false } else c)
  if clr then s.modChan n (fun c => { c with trans := 0, lasting := 0 }) else s

/-! ### Units (05 R141 to R145) -/

/-- The drive that a turn-on command means for a leaf (05 R145). -/
def driveOf (cmd : Nat) : Drive := if cmd = 2 then .low else if cmd = 3 then .fwd else if cmd = 4 then .rev else .high

/-- The request of a unit for the leaves that need a grant. Leaves whose request is still pending join it, and it keeps its stamp and its
deferral (DESIGN CHOICE, entry 91). -/
def State.askUnit (s : State) (u : Nat) (need : List Nat) : State :=
  let cp := s.classPrio u
  match s.iso.pend.find? (fun r => r.num = u && r.kind = .turnOn) with
  | some r =>
    let ls := (s.leavesOf u).filter (fun n => need.contains n || r.shares.any (fun x => x.ch = n))
    s.addReq { s.makeReq u .turnOn ls cp.1 cp.2 with stamp := r.stamp, first := r.first, block := r.block }
  | none => s.addReq (s.makeReq u .turnOn need cp.1 cp.2)

/-- A turn-on of a unit: its leaves that need a grant ask for one together, under the unit's number (05 R143). -/
def State.unitOn (s : State) (u : Nat) (drive : Nat → Drive) : State :=
  let ls := s.leavesOf u
  let (s, need) := ls.foldl (fun (p : State × List Nat) n =>
    let (s, b) := p.1.leafOn n (drive n)
    (s, if b then p.2 ++ [n] else p.2)) (s, [])
  if need.isEmpty then s else s.askUnit u need

/-- Marking a composite's last command (05 R141). -/
def State.lastCmd (s : State) (u : Nat) (idle : Bool) : State :=
  if u < 64 then s else s.setComp (u - 64) { s.compOf (u - 64) with idle := idle }

/-- OFF of a unit. The UNRESOLVED events of its leaves are compared with the state before the command, one after another (05 R147). -/
def State.unitOff (s : State) (u : Nat) : State :=
  let s1 := (s.endPulse u).lastCmd u true
  ((s.leavesOf u).foldl (fun (p : State × State) n =>
    let r := p.1.leafOff n
    if (p.1.chan n).st = .retryWait || (p.1.chan n).st = .retryOn then
      let r := r.unresolved p.2 n
      (r, r)
    else (r, p.2)) (s1, s)).1

/-- CLEAR of a unit: every latched leaf, and the latches of its composites (05 R145). It is a last command of R141. -/
def State.unitClear (s : State) (u : Nat) (clr : Bool) : State :=
  let s := (s.leavesOf u).foldl (fun s n => s.leafClear n clr) s
  let s := ((List.range 32).filter (fun k => (s.compOf k).en && s.topOf (64 + k) = u)).foldl
    (fun s k => s.setComp k { s.compOf k with latched := false }) s
  s.lastCmd u true

/-- Forwarding a served command of a DUALFED unit to the standby, with its stamp (13 R352): kind 1, the unit with its command, and the
request's payload. -/
def State.forward (s : State) (u cmd stamp : Nat) (data : List Byte) : State :=
  if s.il.role = 2 && (s.leavesOf u).any s.dualFed then s.sendCtlMsg ⟨1, u * 256 + cmd, stamp, data⟩ else s

/-! ### CHAN_CMD (04 R106, R107) -/

/-- Payload of CHAN_CMD. -/
def unitCmdPayload (c : UnitCmd) (cmd : Nat) : List Byte :=
  leBytes 2 c.unit ++ leBytes 1 cmd ++ leBytes 1 c.opt ++ leBytes 4 c.deadline

/-- The command is valid for the unit's class and mode (04 R106, 05 R145). Every command to the odd half of a bridge is left
to the STATE check of R101, and one that some composite accepts to the STATE check of a slot whose EN is 0 (05 R133; DEDUCED, entry 45).
ON to a bridge is not valid: R107 asks for the mode, and a bridge is commanded in one of the modes of R101 (DEDUCED, entry 90). -/
def State.cmdValid (s : State) (u cmd : Nat) : Bool :=
  if u < 64 then
    if s.bridgeOdd u then true
    else if cmd = 0 || cmd = 6 || cmd = 0x10 then true
    else if cmd = 1 then !s.bridge u
    else if cmd = 2 then chClass u = 1 && !s.bridge u
    else s.bridge u
  else
    let c := s.compOf (u - 64)
    cmd = 0 || cmd = 1 || cmd = 6 || cmd = 0x10
      || (cmd = 2 && (!c.en || (c.par && chClass (c.members.headD 0) = 1)))

/-- The checks of R107, with those of composites (05 R133, R135), pulses (05 R153), halted cores (17 R434), domains
that are off (09 R243) and an entry to PARK or DORMANT (09 R245). -/
def State.chanCheck (s : State) (r : InReq) (c : UnitCmd) (cmd : Nat) : Option Nat :=
  if 95 < c.unit || 1 < c.opt || 60000 < c.deadline || !s.cmdValid c.unit cmd then some St.range
  else if (c.unit < 64 && s.bridgeOdd c.unit) || (s.parentOf c.unit).isSome
      || (64 ≤ c.unit && !(s.compOf (c.unit - 64)).en)
      || (s.unitState c.unit = .latched && (isTurnOn cmd || cmd = 5))
      || (s.leavesOf c.unit).any (fun n => s.boot.stuck.contains (5 + n) || !s.pd (10 + dieOf n)) || (isTurnOn cmd && s.entering) then some St.state
  else if cmd = 0x10 && (match s.pmem c.unit with | none => true | some (g, _) => !(s.genOf g).en) then some St.state
  else if !s.mayUse r 1 c.unit then some St.denied
  else none

/-- A CHAN_CMD that passes R107: a later command supersedes the earlier handle (R77), and `act` does what it names. -/
def State.chanCmd (s : State) (q : Rq) (c : UnitCmd) (cmd : Nat) (act : State → State) : State :=
  s.serve q 0x20 0 (unitCmdPayload c cmd) (fun r s =>
    match s.chanCheck r c cmd with
    | some st => s.answer r st 0 []
    | none =>
      match s.accept r (c.unit + 256 * cmd) with
      | (s, none) => s
      | (s, some h) =>
        let s := s.endCmd c.unit St.superseded
        let dl := if c.deadline = 0 then none else some (r.stamp + msTk c.deadline)
        (act (s.setCmd c.unit ⟨h, cmd, dl, false, false, false⟩)).forward c.unit cmd r.stamp (unitCmdPayload c cmd))

/-- What follows a turn-on: it fails at once where INTLK holds the unit off, and completes where the unit is on. -/
def State.afterOn (s : State) (u : Nat) : State :=
  if (s.leavesOf u).all (fun n => (s.chan n).st = .off && (s.chan n).offBy = 0x21) then s.failCmd u 0x21
  else s.settle ((s.leavesOf u).headD 0)

/-- A turn-on command: ON, LOW, FORWARD, REVERSE. -/
def State.turnOn (s : State) (q : Rq) (c : UnitCmd) (cmd : Nat) : State :=
  s.chanCmd q c cmd (fun s => ((s.lastCmd c.unit false).unitOn c.unit (fun _ => driveOf cmd)).afterOn c.unit)

/-- CHAN_CMD OFF (04 R104). -/
def execChanOff (g : Lapse) (q : Rq) (c : UnitCmd) (s : State) : Host.Outcome State Fault Refusal :=
  .next ((s.pass g).chanCmd q c 0 (fun s => s.unitOff c.unit))

/-- CHAN_CMD ON (04 R104). -/
def execChanOn (g : Lapse) (q : Rq) (c : UnitCmd) (s : State) : Host.Outcome State Fault Refusal :=
  .next ((s.pass g).turnOn q c 1)

/-- CHAN_CMD LOW (04 R104). -/
def execChanLow (g : Lapse) (q : Rq) (c : UnitCmd) (s : State) : Host.Outcome State Fault Refusal :=
  .next ((s.pass g).turnOn q c 2)

/-- CHAN_CMD FORWARD (04 R101, R104). -/
def execChanForward (g : Lapse) (q : Rq) (c : UnitCmd) (s : State) : Host.Outcome State Fault Refusal :=
  .next ((s.pass g).turnOn q c 3)

/-- CHAN_CMD REVERSE (04 R101, R104). -/
def execChanReverse (g : Lapse) (q : Rq) (c : UnitCmd) (s : State) : Host.Outcome State Fault Refusal :=
  .next ((s.pass g).turnOn q c 4)

/-- CHAN_CMD BRAKE (04 R104); it completes when both low sides are on. -/
def execChanBrake (g : Lapse) (q : Rq) (c : UnitCmd) (s : State) : Host.Outcome State Fault Refusal :=
  .next ((s.pass g).chanCmd q c 5 (fun s => ((s.endPulse c.unit).leafBrake c.unit).settle c.unit))

/-- CHAN_CMD CLEAR, with CLRCNT in OPT bit 0 (04 R104, R108, R120): it completes at once. -/
def execChanClear (g : Lapse) (q : Rq) (c : UnitCmd) (s : State) : Host.Outcome State Fault Refusal :=
  .next ((s.pass g).chanCmd q c 6 (fun s => (s.unitClear c.unit (c.opt = 1)).endCmd c.unit St.ok))

/-! ### Ends of a command -/

/-- A turn-on that is cancelled, or whose deadline passes, leaves its channels OFF (04 R109). -/
def State.abandonOn (s : State) (u : Nat) : State :=
  let s := s.endPulse u
  let s := (s.leavesOf u).foldl (fun s n =>
    if (s.chan n).st = .latched || (s.chan n).st = .off then s else s.dropCh n .off none) s
  s.lastCmd u true

/-- The DEADLINE of a unit's turn-on passes before it leaves GRANT_WAIT (04 R106, R104). -/
def execCommandDeadline (g : Lapse) (unit : Nat) (s : State) : Host.Outcome State Fault Refusal :=
  let s := s.pass g
  match s.cmdOf unit with
  | none => .next s
  | some c =>
    match c.deadline with
    | none => .next s
    | some d =>
      if d ≤ s.now && isTurnOn c.cmd && s.unitState unit = .grantWait then
        .next ((s.abandonOn unit).endCmd unit St.timeout)
      else .next s

/-- The dead time of R100 has run. -/
def execDeadTimeEnd (g : Lapse) (n : Fin 64) (s : State) : Host.Outcome State Fault Refusal :=
  let s := s.pass g
  match (s.chan n).dead with
  | none => .next s
  | some (t, a) =>
    if !s.expired t 200 then .next s
    else match a with
      | .gateOn => .next (s.gateOn n)
      | .brakeOn => .next ((s.modChan n (fun c => { c with dead := none, gate := .brake })).settle n)
      | .set x => .next (s.modChan n (fun c => { c with dead := none, gate := x }))
      | .request =>
        let s := s.modChan n (fun c => { c with dead := none })
        .next (if (s.chan n).st = .grantWait && (s.chan n).lostAt.isNone then s.requestFor n .turnOn else s)

/-- A pulsing leaf whose inrush has ended in a period in which it stays off goes to its off-phase (05 R153). -/
def State.followOff (s : State) (n : Nat) : State :=
  match s.pmem (s.topOf n) with
  | some (_, m) => if m.pulsing && m.off && !m.start then s.pulseGate n (s.offGate n m.free) else s
  | none => s

/-- The inrush of a leaf ends: ON, or the confirmation window of a retry runs on (04 R104, R111, R112). A PARALLEL composite
is in INRUSH until every member's inrush has ended (05 R138). -/
def State.endInrush (s : State) (n : Nat) (m : Meas) : State :=
  let s := s.addRel (.inrEnd n (m.uj : Rat) s.now)
  let s := s.modChan n (fun c => { c with inr := false, inrEnd := s.now, frozenAt := none })
  let s := (s.halves n).foldl (fun s i => s.modChan i (fun c => { c with tuP := 0, tuN := 0, tuSq := 0, tuOn := 0 })) s
  let s := (s.halves n).foldl (fun s i => s.modChan i (fun c => { c with limit := s.inrushLimit i (s.now - (s.chan n).gateAt), stallOk := true, belowAt := none })) s
  if !s.inrushOver n then s
  else
    let s := if (s.chan n).st = .inrush then
        let s := (s.gang n).foldl (fun s i => s.modChan i (fun c => { c with st := .on })) s
        s.settle n
      else s
    (s.gang n).foldl State.followOff s

/-- The inrush has run its time (H, M), or the output has reached 90 % of its feed (L) (04 R111, R112). -/
def execInrushEnd (g : Lapse) (n : Fin 64) (m : Meas) (s : State) : Host.Outcome State Fault Refusal :=
  let s := s.pass g
  let c := s.chan n
  let ended := if chClass n = 2 then decide (9 * s.feedMv n ≤ 10 * m.mv) else decide (c.inrT ≤ c.timer s.now)
  if c.inr && s.seqUp n && ended then .next (s.endInrush n m) else .next s

/-! ### The limit in force, the dwell timer and the stall allowance (04 R111 to R114) -/

/-- Class dwell time, tk (04 R113). -/
def dwellTk (n : Nat) : Nat := if chClass n = 0 then 400000 else if chClass n = 1 then 200000 else 100000

/-- Regulated time on the dwell timer (04 R113, 05 R155). -/
def Chan.dwell (c : Chan) (now : Nat) : Nat := c.regSum + (match c.regAt with | some t => now - t | none => 0)

/-- One look of the dwell timer: while the current is at the limit in force the timer runs. A break restarts it, but in a pulsing unit the
regulated time stays summed (04 R113, 05 R155). -/
def Chan.look (c : Chan) (now : Nat) (ma : Int) (pulsing : Bool) : Chan :=
  if (c.limit : Int) ≤ ma then { c with regAt := some (c.regAt.getD now), regSeen := true }
  else if pulsing then { c with regSum := c.dwell now, regAt := none }
  else { c with regSum := 0, regAt := none, regSeen := false }

/-- Stall allowance of a MOTOR channel in ON at a limit update (04 R114): the limit rises to P when the current reaches ilim, and the
allowance is available again once the current has stayed below ilim for T. -/
def Chan.allow (c : Chan) (n ilim : Nat) (now : Nat) (ma : Int) : Chan :=
  let c := if (ilim : Int) ≤ ma then { c with belowAt := none } else { c with belowAt := some (c.belowAt.getD now) }
  let c := match c.belowAt with
    | some b => if b + c.inrT ≤ now then { c with stallOk := true } else c
    | none => c
  if c.stallAt.isSome then c
  else if (ilim : Int) ≤ ma && c.stallOk then
    { c with stallAt := some now, limit := (max ilim c.inrP / limitStep n) * limitStep n, regAt := none, regSum := 0, regSeen := false }
  else { c with limit := ilim }

/-- Channel n has the stall allowance of R114: MOTOR profile, in ON. -/
def State.stalls (s : State) (n : Nat) : Bool := s.pf Pf.chCfg_PROFILE (s.conf n) = 4 && (s.chan (s.owner n)).st = .on

/-- The die re-evaluates the limit in force of one channel, each half of a bridge with its own parameters (04 R101, R111, R113, R114).
While no sequencer runs, the fixed limit of R99 applies. The model sees regulation at these updates, every 10 µs (DESIGN CHOICE,
entry 92). -/
def execLimitUpdate (g : Lapse) (n : Fin 64) (ma : Int) (s : State) : Host.Outcome State Fault Refusal :=
  let s := s.pass g
  let own := s.chan (s.owner n)
  let c := s.chan n
  let ilim := s.ilimOf n
  let pulsing := s.pulsing (s.topOf (s.owner n))
  if !own.energised then .next s
  else if !s.seqUp n then .next (s.setChan n { c with limit := nominalMa n })
  else if own.inr || (own.st = .on && chClass n ≠ 2 && own.timer s.now < c.inrT && s.bridgeOdd n) then
    .next (if own.frozenAt.isSome then s else s.setChan n { c with limit := s.inrushLimit n (own.timer s.now) })
  else if s.stalls n then .next (s.setChan n ((c.allow n ilim s.now ma).look s.now ma pulsing))
  else .next (s.setChan n (({ c with limit := ilim } : Chan).look s.now ma pulsing))

/-- A reversal has passed through BRAKE for 2 ms: the grant for the new direction is requested (04 R102). -/
def execReversalBrakeEnd (g : Lapse) (n : Fin 64) (s : State) : Host.Outcome State Fault Refusal :=
  let s := s.pass g
  let c := s.chan n
  match c.revAt with
  | none => .next s
  | some t =>
    if s.expired t 400000 && c.st = .grantWait then
      let s := s.setChan n { c with revAt := none }
      .next (if c.lostAt.isNone then s.requestFor n .turnOn else s)
    else .next s

/-! ### Protections (04 R112 to R116, R121) -/

/-- Lowest fast-trip threshold of the class, mA (04 R115): below it no unit trips. -/
def fastMin (n : Nat) : Int := if chClass n = 0 then 115000 else if chClass n = 1 then 35000 else 7000

/-- The fast trip (04 R115): power-die hardware, in every state in which current flows, while the die's feed is in range. -/
def execFastTrip (g : Lapse) (n : Fin 64) (m : Meas) (s : State) : Host.Outcome State Fault Refusal :=
  let s := s.pass g
  .next (if fastMin n ≤ m.ma && s.feedOk n && (s.chan (s.owner n)).energised then s.dieTrips n 1 m else s)

/-- The dwell timer of channel n has run with the current still at the limit in force, outside INRUSH (04 R113). -/
def State.dwellOver (s : State) (n : Nat) (ma : Int) : Bool :=
  s.seqUp n && s.inrushOver n && ((s.chan n).limit : Int) ≤ ma && dwellTk n ≤ (s.chan n).dwell s.now

/-- Regulation at the limit for the class's dwell time outside INRUSH (04 R113); a MOTOR channel in ON trips with STALL
instead (R114). -/
def execOvercurrent (g : Lapse) (n : Fin 64) (m : Meas) (s : State) : Host.Outcome State Fault Refusal :=
  let s := s.pass g
  .next (if s.dwellOver n m.ma && !s.stalls n then s.dieTrips n 2 m else s)

/-- A MOTOR channel in ON trips with STALL (04 R114): its allowance has run with the current at or above ilim, or the dwell timer has run at
the limit in force. -/
def execStall (g : Lapse) (n : Fin 64) (m : Meas) (s : State) : Host.Outcome State Fault Refusal :=
  let s := s.pass g
  let c := s.chan n
  let ran := match c.stallAt with
    | some t => s.seqUp n && s.expired t c.inrT && decide ((s.ilimOf n : Int) ≤ m.ma)
    | none => false
  .next (if s.stalls n && (ran || s.dwellOver n m.ma) then s.dieTrips n 3 m else s)

/-- The stall allowance ends without a trip: the current fell below 90 % of ilim, or T ran out with it below ilim
(04 R114). -/
def execStallAllowanceEnd (g : Lapse) (n : Fin 64) (m : Meas) (s : State) : Host.Outcome State Fault Refusal :=
  let s := s.pass g
  let c := s.chan n
  let ilim : Int := s.ilimOf n
  match c.stallAt with
  | none => .next s
  | some t =>
    if 10 * m.ma < 9 * ilim || (s.expired t c.inrT && m.ma < ilim) then
      .next (s.setChan n { c with stallAt := none, stallOk := false, belowAt := some s.now, limit := ilim.toNat, regAt := none, regSum := 0, regSeen := false })
    else .next s

/-- Rated current of the wire model: m × IRATED of the lead for a PARALLEL composite of m members (05 R137), else the channel's own. -/
def State.wireRated (s : State) (n : Nat) : Nat :=
  if s.bridgeOdd n then s.pf Pf.chWire_IRATED n else (s.gang n).length * s.pf Pf.chWire_IRATED n

/-- One step of the I²t wire model on the mean of i² over the step's 25 samples (04 R116); it runs in every state, in each half of a bridge
with its own parameters (R101), and on the lead alone in a PARALLEL composite, on the sum of its members' samples (05 R137). -/
def execI2tModelStep (g : Lapse) (n : Fin 64) (samples : Vector Int 25) (s : State) : Host.Outcome State Fault Refusal :=
  let s := s.pass g
  if !s.seqUp n || s.conf n ≠ n then .next s
  else
    let sum := samples.toList.foldl (fun a i => a + i * i) (0 : Int)
    let r : Rat := (sum : Rat) / 25 / ((s.wireRated n : Rat) * (s.wireRated n : Rat))
    let c := s.chan n
    let th := c.theta + (r - c.theta) / (1000 * (s.pf Pf.chWire_TAU n : Rat))
    let s := s.setChan n { c with theta := th }
    if (s.pf Pf.chWire_KTRIP n : Rat) / 16 ≤ th then
      .next (s.dieTrips n 4 ⟨samples[24], 0, ratCeil (s.inrUj n)⟩)
    else .next s

/-- The ΔT limit of the channel, held against its sensors (04 R115), while the die's feed is in range. -/
def execDeltaT (g : Lapse) (n : Fin 64) (x : HotTrip) (s : State) : Host.Outcome State Fault Refusal :=
  let s := s.pass g
  .next (if (s.pf Pf.chDtLimit_DT (s.conf n) : Int) < x.t && s.feedOk n then s.dieTrips n 5 x.m else s)

/-- The junction shutdown (04 R115), whose threshold is 162 °C at the lowest, while the die's feed is in range. -/
def execTjShutdown (g : Lapse) (n : Fin 64) (x : HotTrip) (s : State) : Host.Outcome State Fault Refusal :=
  let s := s.pass g
  .next (if 1620 < x.t && s.feedOk n then s.dieTrips n 6 x.m else s)

/-- An L channel's inrush timer reaches T with the output below 90 % of its feed (04 R112). -/
def execInrushTimeout (g : Lapse) (n : Fin 64) (m : Meas) (s : State) : Host.Outcome State Fault Refusal :=
  let s := s.pass g
  let c := s.chan n
  if c.inr && chClass n = 2 && s.seqUp n && c.inrT ≤ c.timer s.now && 10 * m.mv < 9 * s.feedMv n then .next (s.dieTrips n 7 m)
  else .next s

/-- The retry conditions of R118 for lead n: the DELAY in force at the trip (R132), θ and the sensors of every member and of both halves of a
bridge, no inrush on their dies, feeds in range. -/
def State.retryReady (s : State) (n : Nat) (sens : List RetrySense) : Bool :=
  s.expired (s.chan n).tripAt (msTk (s.chan n).delay)
    && (s.halves n).all (fun i => (s.chan i).theta ≤ (s.pf Pf.chWire_KRESET n : Rat) / 16)
    && ((s.gang n).map s.halves).flatten.all (fun i =>
      (sens.any (fun x => x.ch.val = i && x.dt + 200 ≤ (s.pf Pf.chDtLimit_DT (s.conf i) : Int) && x.tj ≤ 1500)) && s.feedOk i)
    && (s.gang n).all (fun i => (chansOf (dieOf i)).all (fun j => !(s.chan j).inr))

/-- All retry conditions hold: the grant for the retry is requested (04 R104, R118). -/
def execRetryConditionsMet (g : Lapse) (n : Fin 64) (sens : List RetrySense) (s : State) :
    Host.Outcome State Fault Refusal :=
  let s := s.pass g
  let l := s.lead n
  let c := s.chan l
  if c.st = .retryWait && !c.retryReq && s.seqUp l && s.retryReady l sens then
    .next ((s.modChan l (fun c => { c with retryReq := true })).requestFor l .retry)
  else .next s

/-- The confirmation window of a retry ends without a trip (04 R119). -/
def execConfirmationWindowEnd (g : Lapse) (n : Fin 64) (s : State) : Host.Outcome State Fault Refusal :=
  let s := s.pass g
  let l := s.lead n
  let c := s.chan l
  if c.st = .retryOn && s.inrushOver l && s.confirmEnd l ≤ s.now && s.seqUp l then
    .next (s.confirm l)
  else .next s

/-- The output current of a channel that was turned off is below 10 % of class nominal, or 5 ms have passed (04 R108). -/
def execOffComplete (g : Lapse) (n : Fin 64) (m : Meas) (s : State) : Host.Outcome State Fault Refusal :=
  let s := s.pass g
  let c := s.chan n
  match c.offAt with
  | none => .next s
  | some t =>
    if 10 * m.ma < (nominalMa n : Int) || s.expired t 1000000 then
      .next ((s.setChan n { c with offAt := none }).settle n)
    else .next s

/-- Reverse current on a channel with RB set: the blocking switch opens, at a threshold between −0.3 A and −0.8 A (04 R115, R125). -/
def execReverseCurrent (g : Lapse) (n : Fin 64) (m : Meas) (s : State) : Host.Outcome State Fault Refusal :=
  let s := s.pass g
  let c := s.chan n
  if chClass n ≠ 1 && s.pb Pf.chCfg_RB n && c.energised && !c.revblock && m.ma ≤ -300 then
    let s0 := s
    .next ((s.setChan n { c with revblock := true, fault := 0x13 }).leafEvent s0 n 0x13 4 m.ma)
  else .next s

/-- The output has fallen below the feed: the blocking switch closes (04 R125). REVBLOCK says that the switch is open, so it clears here, or
when the channel turns off; no DIAG_CLEAR is sent (DESIGN CHOICE, entry 90). -/
def execReverseCurrentEnd (g : Lapse) (n : Fin 64) (s : State) : Host.Outcome State Fault Refusal :=
  let s := s.pass g
  .next (if (s.chan n).revblock then s.modChan n (fun c => { c with revblock := false }) else s)

/-- A power die enters sag: every inrush on it freezes its timer and holds its limit (04 R121). -/
def execSagStart (g : Lapse) (die : Fin 4) (s : State) : Host.Outcome State Fault Refusal :=
  let s := s.pass g
  if (s.dieRec die).sag then .next s
  else
    let s := s.setDie die { s.dieRec die with sag := true }
    .next ((chansOf die).foldl (fun s n => (s.dieEvent n 1).modChan n (fun c => if c.inr then { c with frozenAt := some s.now } else c)) s)

/-- The die leaves sag: the frozen time accumulates and the timers resume (04 R121). -/
def execSagEnd (g : Lapse) (die : Fin 4) (s : State) : Host.Outcome State Fault Refusal :=
  let s := s.pass g
  if !(s.dieRec die).sag then .next s
  else
    let s := s.setDie die { s.dieRec die with sag := false }
    .next ((chansOf die).foldl (fun s n => s.modChan n (fun c =>
      match c.frozenAt with
      | some f => { c with frozen := c.frozen + (s.now - f), frozenAt := none }
      | none => c)) s)

/-- The frozen time of an inrush reaches 2 ms and the sag still lasts (04 R121). -/
def execSagInrushTimeout (g : Lapse) (n : Fin 64) (m : Meas) (s : State) : Host.Outcome State Fault Refusal :=
  let s := s.pass g
  let c := s.chan n
  match c.frozenAt with
  | none => .next s
  | some f => if c.inr && s.seqUp n && 400000 ≤ c.frozen + (s.now - f) then .next (s.dieTrips n 7 m) else .next s

/-! ### Off-state diagnostics (04 R123, R124) -/

/-- INTLK shows the partner driving the shared load: the line is low and this device does not pull it (13 R348). -/
def State.partnerDrives (s : State) : Bool := !s.il.line && !s.il.pull && s.il.role ≠ 0

/-- An off-state test starts (04 R123), on the lead alone in a PARALLEL composite (05 R140), with the settings that it finds (R132). It does not
start while BRAKE is in force, whose low sides would hold the output (DESIGN CHOICE, entry 90). -/
def execOffStateTestStart (g : Lapse) (n : Fin 64) (s : State) : Host.Outcome State Fault Refusal :=
  let s := s.pass g
  let c := s.chan n
  if c.st = .off && !c.energised && c.test = .idle && s.pb Pf.chOpenload_EN n && s.seqUp n && s.lead n = n
      && (c.testAt = 0 || s.expired c.testAt (msTk (s.pf Pf.chOpenload_PERIOD n)))
      && !(s.dualFed n && s.partnerDrives) then
    .next (s.setChan n { c with test := .pullOff s.now, testAt := s.now, testCfg := s.parOf (Pid.chOpenload n) 0 })
  else .next s

/-- The first step of the test ends with the averaged output voltage; the pull-up turns on, and on a bridge the low side of the odd half
(04 R123). -/
def execOffStatePullupOn (g : Lapse) (n : Fin 64) (mv : Nat) (s : State) : Host.Outcome State Fault Refusal :=
  let s := s.pass g
  let c := s.chan n
  match c.test with
  | .pullOff t =>
    if s.expired t 2000 then
      let th := 50 * Pf.chOpenload_VTH.of c.testCfg
      let cand := if Pf.chOpenload_POL.of c.testCfg = 1 then (if mv < th then 0x12 else 0) else (if th < mv then 0x11 else 0)
      let s := s.setChan n { c with test := .pullOn t cand }
      .next (if s.bridge n then s.modChan (n + 1) (fun c => { c with gate := .drive .low }) else s)
    else .next s
  | _ => .next s

/-- Taking a test's result (04 R123, R128): FILT equal candidates set the flag and FAULT, FILT clean tests clear the flags. -/
def State.testResult (s : State) (n cand : Nat) : State :=
  let s := s.endTest n
  let c := s.chan n
  let filt := Pf.chOpenload_FILT.of c.testCfg
  let s0 := s
  let shortCode := if Pf.chOpenload_POL.of c.testCfg = 1 then 0x12 else 0x11
  if cand = 0 then
    let k := c.cleanCnt + 1
    let s := s.setChan n { c with cand := 0, candCnt := 0, cleanCnt := min k 15 }
    if k < filt then s
    else
      let s := s.modChan n (fun c => { c with openload := false, short := false })
      let s := if c.openload then s.leafEvent s0 n 0x10 5 (10 * c.imeas) else s
      if c.short then s.leafEvent s0 n shortCode 5 (10 * c.imeas) else s
  else
    let k := if c.cand = cand then c.candCnt + 1 else 1
    let s := s.setChan n { c with cand := cand, candCnt := min k 15, cleanCnt := 0 }
    if k < filt then s
    else if cand = 0x10 then
      (if c.openload then s else (s.modChan n (fun c => { c with openload := true, fault := cand })).leafEvent s0 n cand 4 (10 * c.imeas))
    else if c.short then s
    else (s.modChan n (fun c => { c with short := true, fault := cand })).leafEvent s0 n cand 4 (10 * c.imeas)

/-- The last step of the test ends with the averaged output voltage (04 R123). -/
def execOffStateTestEnd (g : Lapse) (n : Fin 64) (mv : Nat) (s : State) : Host.Outcome State Fault Refusal :=
  let s := s.pass g
  let c := s.chan n
  match c.test with
  | .pullOn t cand =>
    if s.expired t 44000 then
      let th := 50 * Pf.chOpenload_VTH.of c.testCfg
      let high := decide (th < mv)
      let low := decide (mv < th)
      let r := if cand ≠ 0 then cand else if (if Pf.chOpenload_POL.of c.testCfg = 1 then low else high) then 0x10 else 0
      .next (s.testResult n r)
    else .next s
  | _ => .next s

end Sys2Proof.Machine
end

