-- ==== Sys2Proof/Machine/Composite.lean ====
section
/-!
DEFINITION. Parameters of channels and composites (04 R131, R132; 05 R134 to R137, R159): the checks of a write and what it
does.
-/
namespace Sys2Proof.Machine

/-- A channel is OFF or LATCHED. -/
def State.idleCh (s : State) (n : Nat) : Bool :=
  (s.chan (s.owner n)).st = .off || (s.chan (s.owner n)).st = .latched

/-- RANGE rules of `load.ch[n]` beyond each field's own range (04 R101, R115, R125, R126, R131). -/
def chanRange (n off v : Nat) : Bool :=
  if off = 0 then
    let p := Pf.chCfg_PROFILE.of v
    (if chClass n = 2 then p = 0 else 1 ≤ p && p ≤ 6)
      && !(Pf.chCfg_RB.of v = 1 && chClass n = 1)
      && !(Pf.chCfg_SLEW.of v ≠ 0 && chClass n ≠ 2)
      && !(Pf.chCfg_BRIDGE.of v = 1 && !(chClass n = 1 && n % 2 = 0))
      && !(Pf.chCfg_DUALFED.of v = 1 && Pf.chCfg_RB.of v = 0)
  else if off = 1 then
    (limitRange n).1 ≤ v && v ≤ (limitRange n).2 && v % limitStep n = 0
  else if off = 2 then
    let p := Pf.chInrush_IPEAK.of v
    let t := Pf.chInrush_TINR.of v
    (p = 0 && t = 0) ||
      (1 ≤ p && p ≤ [900, 300, 60].getD (chClass n) 0 && 1 ≤ t && t ≤ [50, 500, 20].getD (chClass n) 0)
  else if off = 3 then
    (limitRange n).1 ≤ Pf.chWire_IRATED.of v && Pf.chWire_IRATED.of v ≤ (limitRange n).2
      && Pf.chWire_KRESET.of v < Pf.chWire_KTRIP.of v
  else if off = 5 then !(Pf.chOpenload_POL.of v = 1 && chClass n ≠ 1)
  else true

/-- STATE rules of `load.ch[n]` (04 R132, 05 R136). -/
def State.chanStateOk (s : State) (n off v : Nat) : Bool :=
  let old := s.parOf (Pid.chCfg n) 0
  let ch := fun (x : ParField) => x.of v ≠ x.of old
  let members := match s.parentOf n with
    | some p => if (s.compOf (p - 64)).par then (s.compOf (p - 64)).members else [n]
    | none => [n]
  members.headD n = n &&
    (off ≠ 0 ||
      ((!(ch Pf.chCfg_PROFILE || ch Pf.chCfg_RB || ch Pf.chCfg_SLEW || ch Pf.chCfg_DUALFED) || members.all s.idleCh)
        && (!ch Pf.chCfg_BRIDGE || (s.idleCh n && s.idleCh (n + 1)))))

/-- The DUALFED mask of the device (13 R357). -/
def State.dualMask (s : State) : Nat := maskOf ((List.range 64).filter s.dualFed)

/-- A write to a channel parameter. In a PARALLEL composite the lead's write is copied to every member in the same tick (05 R136). -/
def State.chanWritten (s : State) (n off v : Nat) : State :=
  match s.parentOf n with
  | some p =>
    if (s.compOf (p - 64)).par && off < 7 then
      (s.compOf (p - 64)).members.foldl (fun s i => s.setPar (0x1000 + 0x20 * i + off) 0 v) s
    else s
  | none => s

/-! ### Composites -/

/-- Members written in `comp[k].member`. -/
def State.compMembers (s : State) (k : Nat) : List Nat :=
  (List.range 96).filter (fun u => s.pf Pf.compMember_MEMBER k u = 1)

/-- Level of a unit: a channel 0, a composite 1 plus its highest member (05 R134). -/
def State.levelOf (s : State) : Nat → Nat → Nat
  | 0, _ => 0
  | f + 1, u => if u < 64 then 0 else 1 + ((s.compOf (u - 64)).members.map (s.levelOf f)).foldl max 0

/-- Leaves of a list of units. -/
def State.leavesOfAll (s : State) (us : List Nat) : List Nat := (us.map s.leavesOf).flatten

/-- A unit is a member of some pulse generator (05 R134). -/
def State.inGen (s : State) (u : Nat) : Bool := (s.pmem u).isSome

/-- The rules of R134 that a write setting EN breaks with RANGE. -/
def State.compEnRange (s : State) (k v : Nat) : Bool :=
  let ms := s.compMembers k
  let par := Pf.compCfg_KIND.of v = 1
  let cls := chClass (ms.headD 0)
  let eq := fun (x : ParField) => ms.all (fun m => s.pf x m = s.pf x (ms.headD 0))
  (if par then
      ms.all (fun m => m < 64) && ms.all (fun m => chClass m = cls) && 2 ≤ ms.length
        && ms.length ≤ (if cls = 0 then 3 else 4)
    else 2 ≤ ms.length && ms.length ≤ 32)
  && ms.all (fun m => 64 ≤ m || (!s.bridge m && !s.bridgeOdd m))
  && (!par || (eq Pf.chCfg_PROFILE && eq Pf.chCfg_RB && eq Pf.chCfg_ORPHAN && eq Pf.chCfg_SLEW && eq Pf.chCfg_DUALFED))
  && 1 + (ms.map (s.levelOf 5)).foldl max 0 ≤ 4

/-- The rules of R134 that a write setting EN breaks with STATE. Another slot that the same set enables may not hold a member either. -/
def State.compEnState (s : State) (k : Nat) : Bool :=
  let ms := s.compMembers k
  let other := fun (j : Nat) => j ≠ k && s.pb Pf.compCfg_EN j && !(s.compOf j).en
  ms.all (fun m => (s.parentOf m).isNone && !s.inGen m && (List.range 16).all (fun g => s.pf Pf.genMember_MEMBER g m = 0))
    && ms.all (fun m => m < 64 || (s.compOf (m - 64)).en)
    && (s.leavesOfAll ms).all s.idleCh
    && (List.range 32).all (fun j => !other j || ms.all (fun m => !(s.compMembers j).contains m))

/-- RANGE rules of `comp[k]`. -/
def State.compRange (s : State) (k off idx v : Nat) : Bool :=
  if off = 0 then !(Pf.compCfg_EN.of v = 1 && !(s.compOf k).en) || s.compEnRange k v
  else if off = 1 then idx ≠ 64 + k
  else true

/-- STATE rules of `comp[k]` (05 R134, R135, R159). -/
def State.compStateOk (s : State) (k off v : Nat) : Bool :=
  let c := s.compOf k
  if off = 0 then
    if c.en then
      (Pf.compCfg_KIND.of v = 1) = c.par
        && (Pf.compCfg_EN.of v = 1 || ((s.leavesOf (64 + k)).all s.idleCh && (s.parentOf (64 + k)).isNone))
    else Pf.compCfg_EN.of v = 0 || s.compEnState k
  else if off = 1 then !c.en
  else true

/-- Enabling composite slot 64 + k (05 R134, R141): a PARALLEL composite with a LATCHED member latches every member. The members of a PARALLEL
composite always carry equal settings (R136): those that R134 does not compare take the lead's here (DEDUCED, entry 91). A test that runs on
a member other than the lead ends (R140). -/
def State.compEnable (s : State) (k : Nat) (par : Bool) : State :=
  let ms := s.compMembers k
  let s := s.setComp k ⟨true, par, ms, false, true⟩
  if !par then s
  else
    let l := ms.headD 0
    let s := ms.foldl (fun s m => if m = l then s else
      [1, 2, 3, 4, 5, 6].foldl (fun s off => s.setPar (0x1000 + 0x20 * m + off) 0 (s.parOf (0x1000 + 0x20 * l + off) 0)) (s.endTest m)) s
    if ms.any (fun m => (s.chan m).st = .latched) then
      ms.foldl (fun s m => s.modChan m (fun c => { c with st := .latched, dieLast := true })) s
    else s

/-- Disabling it (05 R135, R137): each member keeps its state, and takes the composite's θ; a member composite, whose last command was that of
its top composite (R141), goes on with it. -/
def State.compDisable (s : State) (k : Nat) : State :=
  let c := s.compOf k
  let s := s.endCmd (64 + k) St.ok
  let s := c.members.foldl (fun s m => s.lastCmd m c.idle) s
  let s := if c.par then c.members.foldl (fun s m => s.modChan m (fun x =>
      { x with theta := (s.chan (c.members.headD 0)).theta })) s else s
  s.setComp k {}

/-- A write to `comp[k]`. -/
def State.compWritten (s : State) (k off v : Nat) : State :=
  if off ≠ 0 then s
  else if Pf.compCfg_EN.of v = 1 && !(s.compOf k).en then s.compEnable k (Pf.compCfg_KIND.of v = 1)
  else if Pf.compCfg_EN.of v = 0 && (s.compOf k).en then s.compDisable k
  else s

end Sys2Proof.Machine
end

