-- ==== Sys2Proof/Machine/Pulse.lean ====
section
/-!
DEFINITION. Pulse generators (05 R149 to R160): their periods, the edges of their members, and writes to their parameters.
-/
namespace Sys2Proof.Machine

/-! ### Derating (08 R230 to R233) -/

/-- A thermistor input's record. -/
def State.ntcRec (s : State) (t : Nat) : Ntc := s.light.ntc.toList.getD t {}

/-- Points (T, F) of an input's curve (08 R231). -/
def State.curve (s : State) (t : Nat) : List (Int × Nat) :=
  (List.range 8).map (fun i => (signedOf 16 (s.pf Pf.ntcCurve_T t i), s.pf Pf.ntcCurve_F t i))

/-- The lowest factor of an input's curve (08 R233). -/
def State.lowestF (s : State) (t : Nat) : Nat := (s.curve t).foldl (fun m p => min m p.2) 1000

/-- D of an input, ‰: 1,000 for TYPE 0, the lowest factor while PD15 is off, else as the last conversion left it (08 R232,
R233). -/
def State.ntcD (s : State) (t : Nat) : Nat :=
  if s.pf Pf.ntcCfg_TYPE t = 0 then 1000 else if !s.pd 15 then s.lowestF t else (s.ntcRec t).factor

/-- Factor of an L channel: the lowest D among the inputs whose LMASK includes it (08 R232). -/
def State.chFactor (s : State) (n : Nat) : Nat :=
  ((List.range 8).filter (fun t => 32 ≤ n && (s.pf Pf.ntcCfg_LMASK t).testBit (n - 32))).foldl (fun m t => min m (s.ntcD t)) 1000

/-- The duty that a member is to have: DUTY scaled by the lowest factor among its bound leaves (08 R232). -/
def State.wantDuty (s : State) (g u : Nat) : Nat :=
  s.pf Pf.genMember_DUTY g u * (s.leavesOf u).foldl (fun m n => min m (s.chFactor n)) 1000 / 1000

/-! ### Schedule -/

/-- Minimum on and off width of a leaf, tk (05 R151). -/
def State.minWidthLeaf (s : State) (n : Nat) : Nat :=
  if chClass n = 0 then 20000 else if chClass n = 1 then 4000
  else [103680, 51840, 25920, 10368].getD (s.pf Pf.chCfg_SLEW (s.lead n)) 103680

/-- Minimum width of a unit: the largest of its leaves' (05 R151). -/
def State.minWidth (s : State) (u : Nat) : Nat := (s.leavesOf u).foldl (fun m n => max m (s.minWidthLeaf n)) 0

/-- What R151 makes of an on-width of `w` in a period of `p`: the width that applies (none: stays on), and whether it was
altered. A duty of 0 or 1,000 has no edge to alter. -/
def clampWidth (d w p lo : Nat) : Option Nat × Bool :=
  if d = 0 then (some 0, false)
  else if d = 1000 then (none, false)
  else if w < lo && p - w < lo then (if p - w < w then none else some 0, true)
  else if w < lo then (some 0, true)
  else if p - w < lo then (none, true)
  else (some w, false)

/-- The on-edge of a member in the period from `b`, with its on-width, and the mark of R151 (05 R150). -/
def PMem.plan (m : PMem) (b p lo : Nat) : PMem :=
  let w := clampWidth m.duty (m.duty * p / 1000) p lo
  let off := decide (w.1 = some 0)
  { m with onEdge := if off then none else some (b + m.phase * p / 1000, w.1), clamped := w.2, off := off }

/-- Entering the schedule in the course of the period from `b`: the first scheduled edge at or after `t` counts (R153). -/
def PMem.join (m : PMem) (b p lo t : Nat) : PMem :=
  let m := m.plan b p lo
  match m.onEdge with
  | none => { m with offEdge := none }
  | some (e, w) =>
    if t ≤ e then { m with offEdge := match w with | some w => if t + p ≤ e + w then some (e + w - p) else none | none => none }
    else { m with onEdge := none, offEdge := w.map (e + ·) }

/-- Phases that SPREAD sets for the AUTO members, in ascending unit number (05 R156). -/
def spreadPhases (spread : Nat) (auto : Nat → Bool) (ms : List PMem) : List PMem :=
  let n := (ms.filter (fun m => auto m.unit)).length
  if spread = 0 then ms
  else (ms.foldl (fun (p : List PMem × Nat) m =>
    if auto m.unit then
      if spread = 1 then (p.1 ++ [{ m with phase := p.2 * 1000 / n }], p.2 + 1)
      else (p.1 ++ [{ m with phase := p.2 % 1000 }], p.2 + m.duty)
    else (p.1 ++ [m], p.2)) ([], 0)).1

/-! ### Heat budget of pulsing units (05 R149, R154; 06 R172) -/

/-- The increase or decrease of a leaf's steady reservation between two settings, mW. -/
def State.psDelta (s : State) (n d0 p0 d1 p1 : Nat) : Rat :=
  s.psPulse n (s.chan n).drive d1 p1 - s.psPulse n (s.chan n).drive d0 p0

/-- Requests for the increase of a unit's steady power, one for each grant that its leaves hold, under that grant's number
and with the top composite's class and priority. -/
def State.askMore (s : State) (kind : ReqKind) (u d0 p0 d1 p1 : Nat) : State :=
  let cp := s.classPrio u
  let held := s.iso.grants.filter (fun g => (s.leavesOf u).contains g.share.ch)
  ((held.map (·.num)).eraseDups).foldl (fun s num =>
    let ls := ((held.filter (fun g => g.num = num)).map (fun g => (g.share.ch, s.psDelta g.share.ch d0 p0 d1 p1, (0 : Rat)))).filter
      (fun x => 0 < x.2.1)
    if ls.isEmpty then s else s.addReq ⟨num, kind, roundShares ls 0, 0, cp.1, cp.2, s.now, none, false⟩) s

/-- Refunds of a unit's leaves whose new settings need less (05 R154). -/
def State.refundPulse (s : State) (u d0 p0 d1 p1 : Nat) : State :=
  (s.leavesOf u).foldl (fun s n =>
    let x := s.psDelta n d0 p0 d1 p1
    if x < 0 && s.holdsGrant n then s.addRel (.less n (-x)) else s) s

/-- A request for a member's higher duty is pending. -/
def State.dutyWaits (s : State) (g u : Nat) : Bool := s.iso.pend.any (fun r => r.kind = .more g u)

/-- A request for a generator's shorter period is pending. -/
def State.periodWaits (s : State) (g : Nat) : Bool :=
  s.iso.pend.any (fun r => match r.kind with | .shorter g' _ => g' = g | _ => false)

/-- Dropping the pending increases of one kind. -/
def State.dropMore (s : State) (p : ReqKind → Bool) : State :=
  { s with iso := { s.iso with pend := s.iso.pend.filter (fun r => !p r.kind) } }

/-! ### Boundaries and edges -/

/-- A member takes its written settings, but for a duty whose increase is still to be granted (05 R154). -/
def State.takeSettings (s : State) (g : Nat) (m : PMem) : PMem :=
  { m with phase := s.pf Pf.genMember_PHASE g m.unit, dir := s.pb Pf.genMember_DIR g m.unit, free := s.pb Pf.genMember_FREEWHEEL g m.unit, duty := if s.dutyWaits g m.unit then m.duty else s.wantDuty g m.unit }

/-- An edge reaches leaf n: it follows the schedule when it is on and its inrush has ended (05 R153, R155). -/
def State.onSchedule (s : State) (n : Nat) : Bool :=
  ((s.chan n).st = .on || (s.chan n).st = .retryOn) && s.inrushOver n && s.seqUp n

/-- The on-edge of leaf n: the inrush that a duty of 0 left due runs now (05 R153). -/
def State.leafOnEdge (s : State) (n : Nat) (dir : Bool) : State :=
  let s := if s.bridge n then s.modChan n (fun c => { c with drive := if dir then .rev else .fwd }) else s
  if (s.chan n).inrDue then s.gateOnAfter n else s.pulseGate n (.drive (s.chan n).drive)

/-- The off-edge of leaf n. -/
def State.leafOffEdge (s : State) (n : Nat) (free : Bool) : State := (s.endOnPhase n).pulseGate n (s.offGate n free)

/-- The on-edge of a unit: every leaf that follows the schedule switches at one tick (05 R152, R157). -/
def State.unitOnEdge (s : State) (u : Nat) (dir : Bool) : State :=
  ((s.leavesOf u).filter s.onSchedule).foldl (fun s n => s.leafOnEdge n dir) s

/-- The off-edge of a unit. -/
def State.unitOffEdge (s : State) (u : Nat) (free : Bool) : State :=
  ((s.leavesOf u).filter (fun n => s.onSchedule n && !(s.chan n).inrDue)).foldl (fun s n => s.leafOffEdge n free) s

/-- A period begins at tick `b` (05 R149, R150, R154, R156). A member that stays off in it, and has no off-edge still to come, goes to its
off-phase at the boundary. -/
def State.beginPeriod (s : State) (g b : Nat) : State :=
  let x := s.genOf g
  let per := if s.periodWaits g then x.per else s.pf Pf.genPeriod_P g
  let ms := spreadPhases (s.pf Pf.genCfg_SPREAD g) (fun u => s.pb Pf.genMember_AUTO g u) (x.mems.map (s.takeSettings g))
  let s := x.mems.foldl (fun s m =>
    if m.pulsing then
      let d1 := if s.dutyWaits g m.unit then m.duty else s.wantDuty g m.unit
      (s.refundPulse m.unit m.duty x.per d1 x.per).refundPulse m.unit d1 x.per d1 per
    else s) s
  let ms := ms.map (fun m => if m.pulsing then { m.plan b per (s.minWidth m.unit) with start := false } else m)
  let s := s.setGen g { x with per := per, t0 := if per = x.per then x.t0 else b, start := b, mems := ms, clamped := (x.mems.filter (fun m => m.pulsing && m.clamped)).length }
  (ms.filter (fun m => m.pulsing && m.off && m.offEdge.isNone)).foldl (fun s m => s.unitOffEdge m.unit m.free) s

/-- A period boundary of an enabled generator (05 R149). -/
def execPeriodBoundary (g : Lapse) (gen : Fin 16) (s : State) : Host.Outcome State Fault Refusal :=
  let s := s.pass g
  let x := s.genOf gen
  if x.en && s.pd 3 && x.start + x.per ≤ s.now then .next (s.beginPeriod gen (x.start + x.per)) else .next s

/-- Changing one member of a generator. -/
def State.modMem (s : State) (g u : Nat) (f : PMem → PMem) : State :=
  s.setGen g { s.genOf g with mems := (s.genOf g).mems.map (fun m => if m.unit = u then f m else m) }

/-- The member of generator g with unit u. -/
def State.memOf (s : State) (g u : Nat) : Option PMem := (s.genOf g).mems.find? (fun m => m.unit = u)

/-- A member's scheduled on-edge (05 R150, R152). -/
def execPulseOnEdge (g : Lapse) (gen : Fin 16) (unit : Nat) (s : State) : Host.Outcome State Fault Refusal :=
  let s := s.pass g
  match s.memOf gen unit with
  | none => .next s
  | some m =>
    match m.onEdge with
    | none => .next s
    | some (e, w) =>
      if m.pulsing && s.pd 3 && e ≤ s.now then
        let s := s.modMem gen unit (fun m => { m with onEdge := none, offEdge := w.map (e + ·) })
        .next (s.unitOnEdge unit m.dir)
      else .next s

/-- A member's scheduled off-edge (05 R150, R152). -/
def execPulseOffEdge (g : Lapse) (gen : Fin 16) (unit : Nat) (s : State) : Host.Outcome State Fault Refusal :=
  let s := s.pass g
  match s.memOf gen unit with
  | none => .next s
  | some m =>
    match m.offEdge with
    | none => .next s
    | some e =>
      if m.pulsing && s.pd 3 && e ≤ s.now then
        let s := s.modMem gen unit (fun m => { m with offEdge := none })
        .next (s.unitOffEdge unit m.free)
      else .next s

/-- CHAN_CMD PULSE (05 R153): from OFF one grant covers inrush and pulsing, on a unit steadily ON the schedule starts at the
next period boundary, and on a unit that pulses nothing changes on the output. -/
def execChanPulse (g : Lapse) (q : Rq) (c : UnitCmd) (s : State) : Host.Outcome State Fault Refusal :=
  .next ((s.pass g).chanCmd q c 0x10 (fun s =>
    match s.pmem c.unit with
    | none => s
    | some (gi, m) =>
      let x := s.genOf gi
      let steady := s.unitState c.unit = .on
      let s := if m.pulsing then s else s.modMem gi c.unit (fun y =>
        if steady then { y with pulsing := true, start := true, onEdge := none, offEdge := none }
        else { y.join x.start x.per (s.minWidth c.unit) s.now with pulsing := true, start := false })
      let dr := fun n =>
        if (s.chan n).st = .on then (s.chan n).drive
        else if s.bridge n then (if m.dir then Drive.rev else Drive.fwd)
        else if (s.chan n).st = .off then Drive.high else (s.chan n).drive
      ((s.lastCmd c.unit false).unitOn c.unit dr).afterOn c.unit))

/-! ### Parameters `pulse.gen[g]` (05 R160) -/

/-- RANGE rules of a member element: DIR on an even bridge channel only, FREEWHEEL not on an H or L channel. -/
def State.genRange (s : State) (off idx v : Nat) : Bool :=
  off ≠ 2 || (!(Pf.genMember_DIR.of v = 1 && !(idx < 64 && s.bridge idx))
    && !(Pf.genMember_FREEWHEEL.of v = 1 && idx < 64 && chClass idx ≠ 1))

/-- STATE rules: EN is not cleared while a member pulses, a unit has one generator and is no composite member, and a pulsing
unit keeps MEMBER. -/
def State.genStateOk (s : State) (g off idx v : Nat) : Bool :=
  if off = 0 then !((s.genOf g).en && Pf.genCfg_EN.of v = 0 && (s.genOf g).mems.any (·.pulsing))
  else if off = 2 then
    if Pf.genMember_MEMBER.of v = 1 then
      (s.parentOf idx).isNone && (match s.pmem idx with | none => true | some (g', _) => g' = g)
        && (List.range 16).all (fun j => j = g || s.pf Pf.genMember_MEMBER j idx = 0)
    else !((s.memOf g idx).map (·.pulsing)).getD false
  else true

/-- The value that a write stores: with SPREAD nonzero, PHASE of an AUTO member is ignored (05 R156). -/
def State.genStored (s : State) (g off idx v : Nat) : Nat :=
  if off = 2 && s.pf Pf.genCfg_SPREAD g ≠ 0 && Pf.genMember_AUTO.of v = 1 then
    putBits v 32 10 (s.pf Pf.genMember_PHASE g idx)
  else v

/-- The value that a read returns: with SPREAD nonzero, the phase in force of an AUTO member (05 R156). -/
def State.genRead (s : State) (g off idx v : Nat) : Nat :=
  if off = 2 && s.pf Pf.genCfg_SPREAD g ≠ 0 && Pf.genMember_AUTO.of v = 1 then
    match s.memOf g idx with
    | some m => putBits v 32 10 m.phase
    | none => v
  else v

/-- Insertion of a member in ascending unit number. -/
def putMem (m : PMem) : List PMem → List PMem
  | [] => [m]
  | x :: l => if m.unit < x.unit then m :: x :: l else x :: putMem m l

/-- A write to `pulse.gen[g].member`: membership changes at once, settings at the next boundary (05 R154, R160). -/
def State.memWritten (s : State) (g u v : Nat) : State :=
  let x := s.genOf g
  if Pf.genMember_MEMBER.of v = 0 then s.setGen g { x with mems := x.mems.filter (fun m => m.unit ≠ u) }
  else
    match s.memOf g u with
    | none => s.setGen g { x with mems := putMem (s.takeSettings g { unit := u, duty := 0, phase := 0, dir := false, free := false }) x.mems }
    | some m =>
      let s := s.dropMore (fun k => k = .more g u)
      if !x.en then s.modMem g u (s.takeSettings g)
      else if m.pulsing then s.askMore (.more g u) u m.duty x.per (s.wantDuty g u) x.per
      else s

/-- A write to `pulse.gen[g].period`: a shorter one first asks for every increase (05 R149). -/
def State.periodWritten (s : State) (g v : Nat) : State :=
  let x := s.genOf g
  let s := s.dropMore (fun k => match k with | .shorter g' _ => g' = g | _ => false)
  if !x.en then s.setGen g { x with per := v }
  else if v < x.per then
    x.mems.foldl (fun s m => if m.pulsing then s.askMore (.shorter g m.unit) m.unit m.duty x.per m.duty v else s) s
  else s

/-- The generator starts its periods at this tick (05 R149). -/
def State.genStart (s : State) (g : Nat) : State :=
  let s := s.setGen g { s.genOf g with en := true, t0 := s.now, start := s.now, per := s.pf Pf.genPeriod_P g }
  s.beginPeriod g s.now

/-- A write to a parameter of `pulse.gen[g]`. -/
def State.genWritten (s : State) (g off idx v : Nat) : State :=
  if off = 0 then
    (if Pf.genCfg_EN.of v = 1 && !(s.genOf g).en then s.genStart g
     else if Pf.genCfg_EN.of v = 0 then s.setGen g { s.genOf g with en := false }
     else s)
  else if off = 1 then s.periodWritten g v
  else if off = 2 then s.memWritten g idx v
  else s

end Sys2Proof.Machine
end

