-- ==== Sys2Proof/Machine/Light.lean ====
section
/-!
DEFINITION. Lighting (08): LIGHT_FRAME, chain frames and their return check, the matrix and its grant, thermistor inputs and
derating.
-/
namespace Sys2Proof.Machine

/-! ### Records and buffers -/

/-- A chain's record. -/
def State.chain (s : State) (c : Nat) : Chain := s.light.lc.toList.getD c {}

/-- Writing a chain's record. -/
def State.setChain (s : State) (c : Nat) (x : Chain) : State := { s with light := { s.light with lc := s.light.lc.setIfInBounds c x } }

/-- Writing the matrix record. -/
def State.setMx (s : State) (x : Mx) : State := { s with light := { s.light with mx := x } }

/-- Writing an input's record. -/
def State.setNtc (s : State) (t : Nat) (x : Ntc) : State := { s with light := { s.light with ntc := s.light.ntc.setIfInBounds t x } }

/-- A slot or pixel of a buffer, which lists nonzero values only. -/
def bufGet (b : List (Nat × Nat)) (i : Nat) : Nat := (kvGet i b).getD 0

/-- Writing a slot or pixel. -/
def bufPut (b : List (Nat × Nat)) (i v : Nat) : List (Nat × Nat) := if v = 0 then kvDel i b else kvPut i v b

/-- Writing values from a slot on. -/
def bufWrite (b : List (Nat × Nat)) : Nat → List Nat → List (Nat × Nat)
  | _, [] => b
  | i, v :: l => bufWrite (bufPut b i v) (i + 1) l

/-- A class-3 event (08 R234). -/
def State.lightEvent (s : State) (unit code kind index value : Nat) (temp : Int) : State :=
  s.emit 3 unit code (leBytes 1 kind ++ leBytes 1 index ++ leBytes 2 value ++ leBytes 2 (clampTo 16 temp) ++ leBytes 2 0)

/-! ### LIGHT_FRAME (08 R221 to R223) -/

/-- `n` values of `w` bytes. -/
def takeValues (w : Nat) : Nat → List Byte → Option (List Nat × List Byte)
  | 0, bs => some ([], bs)
  | n + 1, bs =>
    if bs.length < w then none
    else match takeValues w n (bs.drop w) with
      | none => none
      | some (vs, rest) => some (leVal (bs.take w) :: vs, rest)

/-- What a DELTA frame's data say: slots and values, a bad length, or a KIND or N that no rule lists (08 R222). -/
inductive DeltaRes where
  | ok (l : List (Nat × Nat))
  | short
  | bad
  deriving DecidableEq, Repr

/-- Run records of a DELTA frame, from a position (08 R222). -/
def deltaRuns (w : Nat) : Nat → Nat → List Byte → DeltaRes
  | 0, _, bs => if bs.isEmpty then .ok [] else .short
  | k + 1, pos, bs =>
    if bs.length < 4 then .short
    else
      let skip := leAt bs 0 2
      let n := leAt bs 2 1
      let kind := leAt bs 3 1
      if 1 < kind || n = 0 then .bad
      else match takeValues w (if kind = 0 then n else 1) (bs.drop 4) with
        | none => .short
        | some (vs, rest) =>
          let at_ := pos + skip
          let l := (List.range n).map (fun i => (at_ + i, if kind = 0 then vs.getD i 0 else vs.headD 0))
          match deltaRuns w k (at_ + n) rest with
          | .ok l' => .ok (l ++ l')
          | e => e

/-- The writes of a frame: slot and value. -/
def lightWrites (f : LightFrame) : DeltaRes :=
  let w := if f.target = 8 then 1 else 4
  if f.flags % 2 = 1 then deltaRuns w f.count f.first f.data
  else match takeValues w f.count f.data with
    | none => .short
    | some (vs, rest) => if rest.isEmpty then .ok ((List.range f.count).map (fun i => (f.first + i, vs.getD i 0))) else .short

/-- Slots and value bound of a target. -/
def State.lightBounds (s : State) (t : Nat) : Nat × Nat :=
  if t = 8 then (192, 2 ^ 8) else (s.pf Pf.lcCfg_NSLOT t, if s.pb Pf.lcCfg_SB t then 2 ^ 32 else 2 ^ 24)

/-- The checks of R221 in its order, and the writes of a frame that passes them. Data of a TARGET above 8 are measured as a chain's
(DESIGN CHOICE, entry 96). -/
def State.lightCheck (s : State) (r : InReq) (f : LightFrame) : Except Nat (List (Nat × Nat)) :=
  match lightWrites f with
    | .short => .error St.badFormat
    | .bad => .error St.range
    | .ok l =>
      let b := s.lightBounds f.target
      if 8 < f.target || 3 < f.flags || 512 < f.count || l.any (fun p => b.1 ≤ p.1 || b.2 ≤ p.2) then .error St.range
      else if !s.pd 8 then .error St.state
      else if !s.mayUse r 3 f.target then .error St.denied
      else .ok l

/-! ### The matrix's grant (08 R226, R228) -/

/-- Factor of a matrix row under the written binding. -/
def State.rowFactor (s : State) (r : Nat) : Nat :=
  let t := bitsOf (s.pf Pf.mxBind_ROWNTC) (4 * r) 4
  if t < 8 then s.ntcD t else 1000

/-- `light.mx.cfg` and `light.mx.timing` that the scanner works by: through a reset of the logic die, those before it (08 R235). -/
def State.mxCfgNow (s : State) : Nat := if s.load.held then s.light.mx.cfg else s.parOf Pid.mxCfg 0
def State.mxTimingNow (s : State) : Nat := if s.load.held then s.light.mx.timing else s.parOf Pid.mxTiming 0

/-- TROW, TBLANK and STAG in force, tk. -/
def State.trow (s : State) : Nat := Pf.mxTiming_TROW.of s.mxTimingNow
def State.tblank (s : State) : Nat := Pf.mxTiming_TBLANK.of s.mxTimingNow
def State.stag (s : State) : Nat := Pf.mxCfg_STAG.of s.mxCfgNow

/-- On-time of column c in row r, tk (08 R226), for a pixel value and factor. -/
def State.mxOn (s : State) (v d : Nat) : Nat := v * d / 1000 * (s.trow - s.tblank - 23 * s.stag) / 255

/-- Steady reservation of a frame, mW, rounded up, for a VROW in mV (08 R228). -/
def State.mxPs (s : State) (vrow : Nat) (pix : List (Nat × Nat)) (factors icol : List Nat) : Nat :=
  let vf : Int := 100 * s.pf Pf.mxCfg_VF
  let sum := pix.foldl (fun a p =>
    a + icol.getD (p.1 % 24) 0 * s.mxOn p.2 (factors.getD (p.1 / 24) 1000)) 0
  ratCeil ((((vrow : Int) - vf : Int) : Rat) / 1000 * ((sum : Rat) / 4) / (8 * s.trow : Rat))

/-- Row factors and column currents as written. -/
def State.mxFactors (s : State) : List Nat := (List.range 8).map s.rowFactor
def State.mxIcol (s : State) : List Nat := (List.range 24).map (fun c => s.pf Pf.mxIcol_ICOL 0 c)

/-- Reservation that the committed frame needs at the present factors, with VROW as measured at the last request (08 R228). -/
def State.mxNeed (s : State) : Nat := s.mxPs s.light.mx.vrow s.light.mx.comm s.mxFactors s.mxIcol

/-- VROW measured for a request made now (08 R228). -/
def State.mxMeasure (s : State) : State := s.setMx { s.light.mx with vrow := Config.mxVrow s.now }

/-- Request 112 for `mw` of steady power (08 R228). -/
def State.askMx (s : State) (kind : ReqKind) (mw : Nat) : State :=
  s.addReq ⟨112, kind, [⟨112, mw, 0, 0⟩], 0, s.pf Pf.mxCfg_SCLASS, s.pf Pf.mxCfg_PRIO, s.now, none, false⟩

/-- The kind of an increase of the matrix. -/
def mxMore : ReqKind := .more 16 112

/-- An increase is pending. -/
def State.mxWaits (s : State) : Bool := s.iso.pend.any (fun r => r.kind = mxMore)

/-- A commit or a rise in a factor that raises ps requests the increase (08 R228). Whether it raises ps is judged at the VROW of the
last request; the increase itself is asked at VROW measured now (DEDUCED, entry 96). -/
def State.mxRaise (s : State) : State :=
  let x := s.light.mx
  if !(x.st = .scan || x.st = .retryOn || x.granted) then s
  else
    let s := s.dropMore (fun k => k = mxMore)
    if x.ps < s.mxNeed then
      let s := s.mxMeasure
      if x.ps < s.mxNeed then s.askMx mxMore (s.mxNeed - x.ps) else s
    else s

/-- The matrix asks for a grant, its first or a restart's (08 R228, R229). -/
def State.mxAsk (s : State) (kind : ReqKind) : State := let s := s.mxMeasure; s.askMx kind s.mxNeed

/-- The matrix takes a grant: its first, or an increase (08 R228). -/
def State.mxGranted (s : State) (kind : ReqKind) (mw : Nat) : State :=
  let x := s.light.mx
  if kind = mxMore then s.setMx { x with ps := x.ps + mw } else s.setMx { x with granted := true, ps := mw }

/-- All rows and columns off and the grant given back (08 R229). -/
def State.mxStop (s : State) (st : MxSt) : State :=
  let s := if s.holdsGrant 112 then s.addRel (.free 112 0 s.now) else s
  let s := s.withdraw 112
  s.setMx { s.light.mx with st := st, granted := false, asked := false, row := none, colOff := 0, ps := 0 }

/-- A commit (08 R223): the staging buffer is copied; a chain's commit that no frame has sent counts as skipped. -/
def State.commitLight (s : State) (t fid : Nat) : State :=
  if t = 8 then
    (s.setMx { s.light.mx with comm := s.light.mx.staging, commFid := fid }).mxRaise
  else
    let x := s.chain t
    s.setChain t { x with comm := x.staging, commFid := fid, fresh := true, skipped := if x.fresh then satInc 0xFFFF x.skipped else x.skipped }

/-- LIGHT_FRAME (08 R221 to R223). -/
def execLightFrame (g : Lapse) (q : Rq) (f : LightFrame) (s : State) : Host.Outcome State Fault Refusal :=
  let pl := leBytes 1 f.target ++ leBytes 1 f.flags ++ leBytes 2 f.first ++ leBytes 2 f.count ++ leBytes 2 f.fid ++ f.data
  .next ((s.pass g).serve q 0x22 0 pl (fun r s =>
    match s.lightCheck r f with
    | .error st => s.answer r st 0 []
    | .ok l =>
      let s := if f.target = 8 then s.setMx { s.light.mx with staging := l.foldl (fun b p => bufPut b p.1 p.2) s.light.mx.staging }
        else s.setChain f.target { s.chain f.target with staging := l.foldl (fun b p => bufPut b p.1 p.2) (s.chain f.target).staging }
      let s := if f.flags.testBit 1 then s.commitLight f.target f.fid else s
      let ids := if f.target = 8 then (s.light.mx.shownFid, s.light.mx.commFid) else ((s.chain f.target).sentFid, (s.chain f.target).commFid)
      s.answer r St.ok 0 (leBytes 2 ids.1 ++ leBytes 2 ids.2)))

/-! ### Chain frames (08 R217 to R220) -/

/-- Bits of a slot of the last frame started. -/
def Chain.slotBits (x : Chain) : Nat := if x.wide then 32 else 24

/-- Length of a frame, tk, of a `cfg` value (08 R218). -/
def chainLen (v : Nat) : Nat :=
  (Pf.lcCfg_NSLOT.of v + Pf.lcCfg_CHK.of v) * (if Pf.lcCfg_SB.of v = 1 then 32 else 24) * 250
    + usTk (80 + 20 * Pf.lcCfg_LATCH.of v)

/-- Every byte of a slot scaled by D ‰ (08 R232). -/
def deratedSlot (d v : Nat) : Nat := leVal ((leBytes 4 v).map (fun b => BitVec.ofNat 8 (b.toNat * d / 1000)))

/-- `light.lc[c].cfg` that a port works by: through a reset of the logic die, the one before it (08 R235). -/
def State.lcCfgNow (s : State) (c : Nat) : Nat := if s.load.held then (s.chain c).cfg else s.parOf (Pid.lcCfg c) 0

/-- The factor of a chain now; through a reset of the logic die the last one stays in force (08 R232, R235). -/
def State.chainFactor (s : State) (c : Nat) : Nat :=
  if s.load.held then (s.chain c).factor
  else if s.pf Pf.lcCfg_NTC c < 8 then s.ntcD (s.pf Pf.lcCfg_NTC c) else 1000

/-- The check slot (08 R220). -/
def checkSlot (wide : Bool) : Nat := if wide then 0xA5A5A5A5 else 0xA5A5A5

/-- The record of a port whose frame starts at `t` with a `cfg` and a factor: its slots, derated, then the check slot. The frame of zeros
that ends a chain after the hold window (08 R235) sends no commit. -/
def Chain.begin (x : Chain) (v d t : Nat) (held : Bool) : Chain :=
  let wide := decide (Pf.lcCfg_SB.of v = 1)
  let chk := decide (Pf.lcCfg_CHK.of v = 1)
  let slots := (List.range (Pf.lcCfg_NSLOT.of v)).map (fun i => if x.dark = 1 then 0 else deratedSlot d (bufGet x.comm i))
  let x := { x with sending := some t, factor := d, out := slots ++ (if chk then [checkSlot wide] else []), len := chainLen v, wide := wide, chk := chk }
  if x.dark = 1 then { x with dark := if held then 2 else 0 } else { x with sentFid := x.commFid, fresh := false }

/-- The bits of the last frame started in the order of the wire: slot 0 first, each slot from bit SLOTBITS − 1 down (08 R218). -/
def Chain.wire (x : Chain) : List Bool :=
  (x.out.map (fun v => (List.range x.slotBits).map (fun i => v.testBit (x.slotBits - 1 - i)))).flatten

/-- High time of a bit on LCn_DO, tk, in its period of 250 tk (08 R217). -/
def bitHigh (b : Bool) : Nat := if b then 150 else 60

/-- Level of LCn_DO at tick `t`, none where it floats (08 R217, R218, R235): the bit code while the slots go out, low in the latch gap and
between frames, and while EN is 0 (DESIGN CHOICE, entry 96). -/
def State.lcDo (s : State) (c t : Nat) : Option Bool :=
  if !s.pd 8 then none
  else match (s.chain c).sending with
    | none => some false
    | some t0 =>
      match (s.chain c).wire[(t - t0) / 250]? with
      | some b => some (decide (t0 ≤ t && (t - t0) % 250 < bitHigh b))
      | none => some false

/-- A frame starts (08 R219): periodic on its grid, or at a commit once the previous frame has ended. -/
def execChainFrameStart (g : Lapse) (c : Fin 8) (s : State) : Host.Outcome State Fault Refusal :=
  let s := s.pass g
  let x := s.chain c
  let v := s.lcCfgNow c
  let due := if x.dark = 1 then true
    else if Pf.lcCfg_MODE.of v = 1 then x.fresh
    else s.now % (Pf.lcCfg_FPER.of v * 200000) = 0
  if Pf.lcCfg_EN.of v = 1 && s.pd 8 && !s.fab.closed.testBit 8 && x.sending.isNone && x.dark ≠ 2 && due then
    .next (s.setChain c (x.begin v (s.chainFactor c) s.now s.load.held))
  else .next s

/-- The value of bits received, most significant first. -/
def bitsVal (l : List Bool) : Nat := l.foldl (fun v b => 2 * v + flag b) 0

/-- The bits that a port decodes from the pulses on LCn_DI, each a rise tick and a high time, in the window [s, s + L) of its frame
(08 R220): 1 from a high time of 105 tk up. -/
def Chain.decode (x : Chain) (t0 : Nat) (pulses : List (Nat × Nat)) : List Bool :=
  (pulses.filter (fun p => t0 ≤ p.1 && p.1 < t0 + x.len)).map (fun p => decide (105 ≤ p.2))

/-- Result of the return check (08 R220): code, 0 for clean, and NFOUND where it is found. -/
def Chain.result (x : Chain) (bits : List Bool) : Nat × Option Nat :=
  let sb := x.slotBits
  let n := x.out.length - 1
  let chk := checkSlot x.wide
  if bits.isEmpty then (0x11, none)
  else if bits.length % sb ≠ 0 || bitsVal (bits.drop (bits.length - sb)) ≠ chk then (0x13, none)
  else if bits.length = sb then (0, some n)
  else (0x12, some (n + 1 - bits.length / sb))

/-- Three equal results in a row set a flag, three clean frames clear it (08 R220). -/
def State.chainDiag (s : State) (c res : Nat) : State :=
  let x := s.chain c
  let k := if x.res = res then min 3 (x.resCnt + 1) else 1
  let s := s.setChain c { x with res := res, resCnt := k }
  if k < 3 then s
  else if res = 0 then
    let s := s.setChain c { s.chain c with flags := 0 }
    [0x11, 0x12, 0x13].foldl (fun s f =>
      if x.flags.testBit (f - 0x11) then s.lightEvent c f 4 0 (if f = 0x12 then x.nfound else 0) 0 else s) s
  else if x.flags.testBit (res - 0x11) then s
  else
    (s.setChain c { s.chain c with flags := x.flags ||| (1 <<< (res - 0x11)) }).lightEvent c res 3 0 (if res = 0x12 then x.nfound else 0) 0

/-- DO_FAULT sets and clears after 3 frames (08 R220). -/
def State.chainDo (s : State) (c : Nat) (bad : Bool) : State :=
  let x := s.chain c
  let b := if bad then min 3 (x.doBad + 1) else 0
  let g := if bad then 0 else min 3 (x.doGood + 1)
  let s := s.setChain c { x with doBad := b, doGood := g, doFault := if b = 3 then true else if g = 3 then false else x.doFault }
  if b = 3 && !x.doFault then s.lightEvent c 0x14 3 0 0 0
  else if g = 3 && x.doFault then s.lightEvent c 0x14 4 0 0 0
  else s

/-- A frame ends, latch gap included, with the pulses captured on LCn_DI and whether the output failed to reach its level (08 R218, R220).
Through a reset of the logic die nothing is reported (DESIGN CHOICE, entry 96). -/
def execChainFrameEnd (g : Lapse) (c : Fin 8) (pulses : List (Nat × Nat)) (doFail : Bool) (s : State) :
    Host.Outcome State Fault Refusal :=
  let s := s.pass g
  let x := s.chain c
  match x.sending with
  | none => .next s
  | some t =>
    if s.expired t x.len then
      let s := s.setChain c { x with sending := none }
      if s.load.held then .next s
      else
      let s := s.chainDo c doFail
      if x.chk then
        let r := x.result (x.decode t pulses)
        let s := match r.2 with | some n => s.setChain c { s.chain c with nfound := n } | none => s
        .next (s.chainDiag c r.1)
      else .next s
    else .next s

/-! ### Matrix frames (08 R225, R226, R228, R229) -/

/-- One column's counts after a frame: bad and clean frames in a row. -/
def tick3 (bad : Bool) (n k : Nat) : Nat × Nat := if bad then (min 3 (n + 1), 0) else (0, min 3 (k + 1))

/-- The column findings of the frame that ended (08 R229). -/
def State.mxDiag (s : State) : State :=
  (List.range 24).foldl (fun s c =>
    let x := s.light.mx
    let n := x.counts.toList.getD c (0, 0, 0, 0)
    let a := tick3 (x.shortNow.testBit c) n.1 n.2.1
    let b := tick3 (x.openNow.testBit c) n.2.2.1 n.2.2.2
    let s := s.setMx { x with counts := x.counts.setIfInBounds c (a.1, a.2, b.1, b.2), colShort := if a.1 = 3 then x.colShort ||| (1 <<< c) else if a.2 = 3 then putBits x.colShort c 1 0 else x.colShort, colOpen := if b.1 = 3 then x.colOpen ||| (1 <<< c) else if b.2 = 3 then putBits x.colOpen c 1 0 else x.colOpen }
    let y := s.light.mx
    let s := if y.colShort.testBit c = x.colShort.testBit c then s else s.lightEvent 8 2 (if y.colShort.testBit c then 3 else 4) c 0 0
    if y.colOpen.testBit c = x.colOpen.testBit c then s else s.lightEvent 8 0x10 (if y.colOpen.testBit c then 3 else 4) c 0 0) s

/-- Taking the committed frame at a frame boundary: what needs no more than the grant covers is shown, and the difference
refunded; what needs more waits for its increase (08 R228). -/
def State.mxShow (s : State) : State :=
  let need := s.mxNeed
  let x := s.light.mx
  if s.mxWaits then s
  else if need ≤ x.ps then
    let s := if need < x.ps then s.addRel (.less 112 ((x.ps - need : Nat) : Rat)) else s
    s.setMx { x with shown := x.comm, shownFid := x.commFid, factors := s.mxFactors, icol := s.mxIcol, ps := need }
  else s.mxRaise

/-- A matrix frame boundary (08 R225): scanning starts or restarts after a grant, and a committed frame takes effect. Through
a reset of the logic die the shown frame goes on (R235). -/
def execMatrixFrameBoundary (g : Lapse) (s : State) : Host.Outcome State Fault Refusal :=
  let s := s.pass g
  let x := s.light.mx
  let on := x.st = .scan || x.st = .retryOn
  if !s.pd 8 || s.now % (8 * s.trow) ≠ 0 then .next s
  else if on then
    let s := if s.load.held then s else s.mxDiag
    let s := s.setMx { s.light.mx with frameAt := s.now, row := none, colOff := 0, shortNow := 0, openNow := 0 }
    .next (if s.load.held then s else s.mxShow)
  else if x.granted && (x.st = .grantWait || x.st = .retryWait) then
    let s := s.setMx { x with st := if x.st = .retryWait then .retryOn else .scan, granted := false, asked := false, frameAt := s.now, restartAt := s.now, row := none, colOff := 0, shortNow := 0, openNow := 0 }
    .next s.mxShow
  else .next s

/-- Row r's slot starts (08 R225): it begins with the blanking, in which the row before it goes off and row r is not yet on. -/
def execRowSlotStart (g : Lapse) (r : Fin 8) (s : State) : Host.Outcome State Fault Refusal :=
  let s := s.pass g
  let x := s.light.mx
  if (x.st = .scan || x.st = .retryOn) && s.now = x.frameAt + r * s.trow then .next (s.setMx { x with row := some r })
  else .next s

/-- Start of row r's slot. -/
def State.slotAt (s : State) (r : Nat) : Nat := s.light.mx.frameAt + r * s.trow

/-- On-time of column c in row r, tk (08 R226, R229). -/
def State.columnOn (s : State) (r c : Nat) : Nat :=
  let x := s.light.mx
  if x.colOff.testBit c then 0 else s.mxOn (bufGet x.shown (24 * r + c)) (x.factors.getD r 1000)

/-- The row switch that is on at tick `t`: the row whose slot runs, outside the blanking (08 R225). -/
def State.rowOnAt (s : State) (t : Nat) : Option Nat :=
  s.light.mx.row.filter (fun r => s.slotAt r + s.tblank ≤ t && t < s.slotAt r + s.trow)

/-- The columns are pulled up to MX_VROW at tick `t`: the blanking of the slot that runs (08 R225). -/
def State.columnsUpAt (s : State) (t : Nat) : Bool :=
  s.light.mx.row.any (fun r => s.slotAt r ≤ t && t < s.slotAt r + s.tblank)

/-- End of column c's on-interval in row r (08 R226). -/
def State.columnEnd (s : State) (r c : Nat) : Nat := s.slotAt r + s.tblank + c * s.stag + s.columnOn r c

/-- The sink of column c conducts at tick `t` (08 R226). -/
def State.columnOnAt (s : State) (c t : Nat) : Bool :=
  s.light.mx.row.any (fun r => s.slotAt r + s.tblank + c * s.stag ≤ t && t < s.columnEnd r c)

/-- A column's on-interval ends: its land stood above MX_VROW − 0.5 V, or it did not reach its current (08 R229). -/
def execColumnIntervalEnd (g : Lapse) (r : Fin 8) (c : Fin 24) (high weak : Bool) (s : State) :
    Host.Outcome State Fault Refusal :=
  let s := s.pass g
  let x := s.light.mx
  let on := s.columnOn r c
  if x.row = some r.val && 0 < on && s.columnEnd r c ≤ s.now then
    let x := if high then { x with colOff := x.colOff ||| (1 <<< c.val), shortNow := x.shortNow ||| (1 <<< c.val) } else x
    let x := if weak && 2000 ≤ on then { x with openNow := x.openNow ||| (1 <<< c.val) } else x
    .next (s.setMx x)
  else .next s

/-- The restart's window has passed: transient (08 R229). -/
def State.mxConfirm (s : State) : State :=
  (s.setMx { s.light.mx with st := .scan, trans := satInc 15 s.light.mx.trans }).lightEvent 8 1 1 s.light.mx.tripRow 0 0

/-- A row trip (08 R229). -/
def execRowTrip (g : Lapse) (r : Fin 8) (s : State) : Host.Outcome State Fault Refusal :=
  let s := s.pass g
  let s := if s.light.mx.st = .retryOn && s.expired s.light.mx.restartAt 2000000 then s.mxConfirm else s
  match s.light.mx.st with
  | .scan =>
    let s := s.mxStop .retryWait
    .next ((s.setMx { s.light.mx with tripRow := r, tripAt := s.now }).lightEvent 8 1 0 r 0 0)
  | .retryOn =>
    let s := s.mxStop .latched
    .next ((s.setMx { s.light.mx with lasting := satInc 15 s.light.mx.lasting }).lightEvent 8 1 2 r 0 0)
  | _ => .next s

/-- 100 ms after a row trip the matrix requests its grant again (08 R229). -/
def execMatrixRestart (g : Lapse) (s : State) : Host.Outcome State Fault Refusal :=
  let s := s.pass g
  let x := s.light.mx
  if x.st = .retryWait && !x.asked && s.expired x.tripAt 20000000 then
    .next ((s.setMx { x with asked := true }).mxAsk .retry)
  else .next s

/-- 10 ms after the restart without a trip (08 R229). -/
def execMatrixConfirmEnd (g : Lapse) (s : State) : Host.Outcome State Fault Refusal :=
  let s := s.pass g
  if s.light.mx.st = .retryOn && s.expired s.light.mx.restartAt 2000000 then .next s.mxConfirm else .next s

/-! ### Thermistors (08 R230 to R233) -/

/-- The curve is valid: T rises strictly, F does not rise (08 R231). -/
def curveValid : List (Int × Nat) → Bool
  | a :: b :: l => a.1 < b.1 && b.2 ≤ a.2 && curveValid (b :: l)
  | _ => true

/-- D of a valid curve at a temperature in 0.1 °C (08 R231). -/
def curveAt (t : Int) : List (Int × Nat) → Nat
  | a :: b :: l =>
    if t < a.1 then a.2
    else if t < b.1 then ((a.2 : Int) + ((b.2 : Int) - a.2) * (t - a.1) / (b.1 - a.1)).toNat
    else curveAt t (b :: l)
  | [a] => a.2
  | [] => 1000

/-- Thermistor at 25 °C and pull-up in Ω, and Beta in K, of a TYPE (08 R230). -/
def ntcKind (type : Nat) : Rat × Rat × Rat :=
  if type = 1 then (10000, 10000, 3435) else if type = 2 then (10000, 10000, 3950)
  else if type = 3 then (47000, 47000, 4050) else (100000, 100000, 4250)

/-- Temperature of a code, °C (08 R230): the thermistor to ground and its pull-up divide the reference, the code is ratiometric to it with
12 bits (4,096 codes: DEDUCED, entry 13), and the Beta equation about 25 °C gives the temperature. The logarithm is the free value of entry 13. -/
def ntcCelsius (type code : Nat) : Rat :=
  let k := ntcKind type
  let r : Rat := k.2.1 * code / (4096 - code)
  1 / (1 / 298.15 + Config.ln (r / k.1) / k.2.2) - 273.15

/-- Mean of the temperatures of codes, in 0.1 °C, by the rounding of entry 13 (08 R230). -/
def ntcMean (type : Nat) (codes : List Nat) : Int :=
  if codes.isEmpty then 0
  else Config.ntcRound (10 * (codes.map (ntcCelsius type)).foldl (· + ·) 0 / codes.length)

/-- An input of TYPE 0 is off (08 R230): D is back at 1,000, and what it reported ends. -/
def State.ntcOff (s : State) (t : Nat) : State :=
  let x := s.ntcRec t
  let s := s.setNtc t {}
  let s := if x.sense ≠ 0 then s.lightEvent (16 + t) (0x1F + x.sense) 4 0 0 0 else s
  if x.low then s.lightEvent (16 + t) 0x30 6 0 1000 0 else s

/-- DERATE_ON and DERATE_OFF of input t for its new D (08 R234). -/
def State.ntcDerate (s : State) (t d : Nat) (temp : Int) : State :=
  let x := s.ntcRec t
  if x.low = decide (d < 1000) then s
  else (s.setNtc t { x with low := !x.low }).lightEvent (16 + t) 0x30 (if x.low then 6 else 5) 0 d temp

/-- One conversion of input t (08 R230, R231, R233). -/
def State.ntcConvert (s : State) (t code : Nat) : State :=
  let type := s.pf Pf.ntcCfg_TYPE t
  let x := s.ntcRec t
  if type = 0 then s.ntcOff t
  else
    let x := if 4050 < code then { x with openN := min 2 (x.openN + 1), shortN := 0 }
      else if code < 20 then { x with shortN := min 2 (x.shortN + 1), openN := 0 }
      else { x with openN := 0, shortN := 0, codes := (x.codes ++ [code]).drop (x.codes.length + 1 - 8) }
    let temp := ntcMean type x.codes
    let sense := if x.openN = 2 then 1 else if x.shortN = 2 then 2
      else if !curveValid (s.curve t) then 3
      else if x.sense = 3 || (x.openN = 0 && x.shortN = 0) then 0 else x.sense
    let d := if sense ≠ 0 then s.lowestF t else if x.codes.isEmpty then x.factor else curveAt temp (s.curve t)
    let s := s.setNtc t { x with sense := sense, factor := d, temp := temp }
    let s := if x.sense ≠ 0 && x.sense ≠ sense then s.lightEvent (16 + t) (0x1F + x.sense) 4 0 0 temp else s
    let s := if sense ≠ 0 && x.sense ≠ sense then s.lightEvent (16 + t) (0x1F + sense) 3 0 0 temp else s
    s.ntcDerate t d temp

/-- After a change of factors: a bound L channel that is steadily on is not dimmed and says so once, a pulsing member whose
duty rises requests the increase, and the matrix likewise (08 R228, R232). -/
def State.ntcApply (s s0 : State) : State :=
  let s := (List.range 32).foldl (fun s i =>
    let n := 32 + i
    if s.chFactor n < 1000 && s0.chFactor n = 1000 && (s.chan n).st = .on && !s.pulsing (s.topOf n) then
      s.lightEvent n 0x30 7 0 (s.chFactor n) 0
    else s) s
  let s := (List.range 16).foldl (fun s g =>
    (s.genOf g).mems.foldl (fun s m =>
      if m.pulsing && (s.genOf g).en && s.wantDuty g m.unit ≠ s0.wantDuty g m.unit then
        (s.dropMore (fun k => k = .more g m.unit)).askMore (.more g m.unit) m.unit m.duty (s.genOf g).per (s.wantDuty g m.unit) (s.genOf g).per
      else s) s) s
  if s.mxFactors = s0.mxFactors then s else s.mxRaise

/-- The inputs are converted every 10 ms (08 R230). -/
def execNtcConversion (g : Lapse) (codes : List Nat) (s : State) : Host.Outcome State Fault Refusal :=
  let s := s.pass g
  if !s.pd 15 || s.now % 2000000 ≠ 0 then .next s
  else .next (((List.range 8).foldl (fun s' t => s'.ntcConvert t (codes.getD t 0)) s).ntcApply s)

/-! ### Parameters `light.lc[c]`, `light.mx` (08 R236, R237) -/

/-- RANGE rules of `light.lc[c].cfg`: NTC, and a frame no longer than its period in MODE 0 (08 R219). -/
def chainRange (off v : Nat) : Bool :=
  off ≠ 0 || ((Pf.lcCfg_NTC.of v < 8 || Pf.lcCfg_NTC.of v = 15)
    && (Pf.lcCfg_MODE.of v = 1 || chainLen v ≤ Pf.lcCfg_FPER.of v * 200000))

/-- Fields other than EN are written only while EN is 0. -/
def State.chainStateOk (s : State) (c off v : Nat) : Bool :=
  off ≠ 0 || !s.pb Pf.lcCfg_EN c || v / 2 = s.parOf (Pid.lcCfg c) 0 / 2

/-- RANGE rules of `light.mx`. -/
def mxRange (off v : Nat) : Bool :=
  if off = 1 then 4 * Pf.mxTiming_TBLANK.of v ≤ Pf.mxTiming_TROW.of v
  else if off = 3 then (List.range 8).all (fun r => bitsOf v (4 * r) 4 < 8 || bitsOf v (4 * r) 4 = 15)
  else true

/-- STAG, VF and `timing` are written only while EN is 0. -/
def State.mxStateOk (s : State) (off v : Nat) : Bool :=
  !s.pb Pf.mxCfg_EN || (if off = 0 then Pf.mxCfg_STAG.of v = s.pf Pf.mxCfg_STAG && Pf.mxCfg_VF.of v = s.pf Pf.mxCfg_VF else off ≠ 1)

/-- The matrix with EN set asks for its first grant (08 R228). -/
def State.mxStart (s : State) : State := (s.setMx { s.light.mx with st := .grantWait, granted := false }).mxAsk .turnOn

/-- A write to `light.mx`: EN set requests the grant, EN cleared stops the matrix and ends LATCHED (08 R228, R229). -/
def State.mxWritten (s0 s : State) (off v : Nat) : State :=
  if off = 0 then
    if Pf.mxCfg_EN.of v = 1 && !s0.pb Pf.mxCfg_EN then
      s.mxStart
    else if Pf.mxCfg_EN.of v = 0 && s0.pb Pf.mxCfg_EN then s.mxStop .off
    else s
  else if off = 2 || off = 3 then s.mxRaise
  else s

/-- A write to `light.ntc[t]`: TYPE 0 turns the input off, another TYPE starts its mean afresh and keeps D to the next conversion (DEDUCED,
entry 96); whatever changes a factor, LMASK too, does what a conversion's change does (08 R232). -/
def State.ntcWritten (s0 s : State) (t off v : Nat) : State :=
  let s := if off = 0 && Pf.ntcCfg_TYPE.of v ≠ s0.pf Pf.ntcCfg_TYPE t then
      (if Pf.ntcCfg_TYPE.of v = 0 then s.ntcOff t else s.setNtc t { s.ntcRec t with codes := [], openN := 0, shortN := 0 })
    else s
  s.ntcApply s0

/-- PD8 powers up (08 R235): every buffer is 0 and every port idle; counts are kept. -/
def Light.fresh (x : Light) : Light :=
  { lc := Vector.replicate 8 {}, mx := { ({} : Mx) with trans := x.mx.trans, lasting := x.mx.lasting }, ntc := x.ntc }

/-- PD8 powers up, and a matrix with EN set asks for its grant (08 R228, R235). -/
def State.lightUp (s : State) : State :=
  let s := { s with light := s.light.fresh }
  if s.pb Pf.mxCfg_EN then s.mxStart else s

/-- PD15 powers up: D stays what R233 made it while PD15 was off, to the next conversion (08 R231, R233; DEDUCED, entry 96). -/
def State.ntcUp (s : State) : State :=
  (List.range 8).foldl (fun s t => if s.pf Pf.ntcCfg_TYPE t = 0 then s else s.setNtc t { s.ntcRec t with factor := s.lowestF t }) s

/-- A frame is in progress in PD8 (08 R235). -/
def Light.busy (x : Light) : Bool := x.lc.toList.any (fun c => c.sending.isSome)

/-- The lighting block over a reset of the logic die (08 R235, 03 R86): ports and scanner go on by the settings before it, what `status` and
`light.ntc` report starts again, and a restart's request is to be made again. -/
def State.lightHeld (s : State) : Light :=
  let x := s.light
  { lc := Vector.ofFn (fun (c : Fin 8) => { s.chain c with cfg := s.lcCfgNow c, res := 0, resCnt := 0, flags := 0, doBad := 0, doGood := 0, doFault := false, nfound := 0, skipped := 0 })
    mx := { x.mx with cfg := s.mxCfgNow, timing := s.mxTimingNow, granted := false, asked := false, counts := Vector.replicate 24 (0, 0, 0, 0), colShort := 0, colOpen := 0 }
    ntc := Vector.replicate 8 {} }

/-- The hold window expires before Atlas restarts (08 R235): each chain sends one frame of zeros and stops, the matrix stops. -/
def Light.darken (x : Light) : Light :=
  { x with lc := x.lc.map (fun c => { c with dark := 1 }), mx := { x.mx with st := .off, granted := false, row := none, colOff := 0 } }

/-- Adoption of the lighting block (08 R235, R130): the chains run by their parameters; a matrix that scanned on holds a grant of its
measured power, one that waited for its grant or had stopped asks again, and one whose EN is 0 now stops. -/
def State.adoptLight (s : State) : State :=
  let s := { s with light := { s.light with lc := s.light.lc.map (fun c => { c with dark := c.dark % 2 }) } }
  let x := s.light.mx
  if !s.pd 8 then s
  else if !s.pb Pf.mxCfg_EN then s.mxStop .off
  else if x.st = .scan || x.st = .retryOn then
    { s with iso := { s.iso with grants := s.iso.grants ++ [⟨112, ⟨112, (Config.mxMw s.now : Rat), 0, 0⟩, s.now, false, 0⟩] } }
  else if (x.st = .off || x.st = .grantWait) && !s.iso.pend.any (fun r => r.num = 112) then s.mxStart
  else s

end Sys2Proof.Machine
end

