-- ==== Sys2Proof/Machine/Valve.lean ====
section
/-!
DEFINITION. The valve stage (07): the transitions of R196, chopping, closing detection, banks and the boost rail.
-/
namespace Sys2Proof.Machine

/-- A valve record. -/
def State.valve (s : State) (v : Nat) : Valve := s.vlv.v.toList.getD v {}

/-- Writing a valve record. -/
def State.setValve (s : State) (v : Nat) (x : Valve) : State := { s with vlv := { s.vlv with v := s.vlv.v.setIfInBounds v x } }

/-- Changing a valve record. -/
def State.modValve (s : State) (v : Nat) (f : Valve → Valve) : State := s.setValve v (f (s.valve v))

/-- A bank record. -/
def State.vbank (s : State) (b : Nat) : VBank := s.vlv.bank.toList.getD b {}

/-- Changing a bank record. -/
def State.modBank (s : State) (b : Nat) (f : VBank → VBank) : State :=
  { s with vlv := { s.vlv with bank := s.vlv.bank.setIfInBounds b (f (s.vbank b)) } }

/-- Members of a bank: four valves. -/
def bankMembers (b : Nat) : List Nat := [4 * b, 4 * b + 1, 4 * b + 2, 4 * b + 3]

/-- The bank's feed is in range: B0 and B1 lie on FEEDA, B2 and B3 on FEEDB (18 R441). -/
def State.bankFeedOk (s : State) (b : Nat) : Bool := if b < 2 then s.pwr.aOk else s.pwr.bOk

/-- Voltage of the bank's feed, 10 mV. -/
def State.bankFeed (s : State) (b : Nat) : Nat := if b < 2 then s.pwr.va else s.pwr.vb

/-- Code of a valve state (07 R195). -/
def VSt.code : VSt → Nat
  | .off => 0 | .grantWait => 1 | .boostWait => 2 | .boost => 3 | .peak => 4 | .hold => 5 | .retryWait => 6 | .latched => 7

/-! ### Settings of the present actuation (07 R215) -/

def Valve.iboost (x : Valve) : Nat := Pf.valveLevels_IBOOST.of x.levels
def Valve.ipeak (x : Valve) : Nat := Pf.valveLevels_IPEAK.of x.levels
def Valve.ihold (x : Valve) : Nat := Pf.valveLevels_IHOLD.of x.levels
def Valve.lcoil (x : Valve) : Rat := (Pf.valveLevels_LCOIL.of x.levels : Rat) / 10000
def Valve.tboost (x : Valve) : Nat := usTk (Pf.valveTimes_TBOOST.of x.times)
def Valve.tpeak (x : Valve) : Nat := usTk (10 * Pf.valveTimes_TPEAK.of x.times)
def Valve.thold (x : Valve) : Nat := msTk (Pf.valveTimes_THOLD.of x.times)
def Valve.cfgBit (x : Valve) (f : ParField) : Bool := f.of x.cfg = 1

/-- Fast decay of the fall out of the present phase (07 R192). -/
def Valve.fastNow (x : Valve) : Bool :=
  match x.st with
  | .boost => x.cfgBit Pf.valveCfg_DECAY_B
  | .peak => x.cfgBit Pf.valveCfg_DECAY_P
  | .hold => x.cfgBit Pf.valveCfg_DECAY_H
  | _ => false

/-- A fault code of the actuation: the lowest is kept for the completion, the last for the status (07 R199, R215). -/
def Valve.note (x : Valve) (code : Nat) : Valve :=
  { x with codes := if x.codes = 0 then code else min x.codes code, fault := code }

/-! ### Events and completions -/

/-- A class-2 event (07 R214). -/
def State.valveEvent (s : State) (v code kind : Nat) (ma : Int) (value : Nat) : State :=
  s.emit 2 v code (leBytes 1 (s.valve v).st.code ++ leBytes 1 kind ++ leBytes 2 0 ++ leBytes 4 (clampTo 32 ma)
    ++ leBytes 4 value)

/-- Coil current where the command reports none (entry 12). -/
def State.coil (s : State) (v : Nat) : Int := Config.coilMa v s.now

/-- Completion payload of VALVE_CMD (07 R199). -/
def State.valvePayload (s : State) (v : Nat) (c : UCmd) (fault : Nat) : List Byte :=
  let x := s.valve v
  leBytes 2 v ++ leBytes 1 x.st.code ++ leBytes 1 fault
    ++ leBytes 1 (flag c.retried + 2 * flag c.deferred + 4 * flag x.bwait + 8 * flag x.fastdly + 16 * flag x.raillow
      + 32 * flag x.boostskip) ++ leBytes 3 0 ++ leBytes 8 s.now ++ leBytes 4 x.tclose

/-- The PENDING command of a valve completes. -/
def State.valveEnd (s : State) (v status fault : Nat) : State :=
  match (s.valve v).cmd with
  | none => s
  | some c => (s.complete c.handle status (s.valvePayload v c fault)).modValve v (fun x => { x with cmd := none })

/-- A PENDING ACT completes. -/
def State.actEnd (s : State) (v status fault : Nat) : State :=
  match (s.valve v).cmd with
  | some c => if c.cmd = 1 then s.valveEnd v status fault else s
  | none => s

/-- A PENDING ACT takes RETRIED. -/
def State.actRetried (s : State) (v : Nat) : State :=
  s.modValve v (fun x => { x with cmd := x.cmd.map (fun c => if c.cmd = 1 then { c with retried := true } else c) })

/-! ### Node, decays and bank boost (07 R190, R191, R202, R203) -/

/-- The member of bank b in BOOST. -/
def State.booster (s : State) (b : Nat) : Option Nat := (bankMembers b).find? (fun v => (s.valve v).st = .boost)

/-- The member of bank b in BOOST_WAIT. -/
def State.boostWaiter (s : State) (b : Nat) : Option Nat := (bankMembers b).find? (fun v => (s.valve v).st = .boostWait)

/-- The bank switch is on (07 R190). -/
def State.bankOn (s : State) (b : Nat) : Bool :=
  (bankMembers b).any (fun v => (s.valve v).st = .boost || (s.valve v).st = .peak || (s.valve v).st = .hold)

/-- Taking the clamp energy of a fast fall from HOLD to zero from E (07 R201). -/
def State.takeClamp (s : State) (v : Nat) : State :=
  let x := s.valve v
  { s with iso := { s.iso with e := s.iso.e - 3 / 4 * x.lcoil * (x.ihold : Rat) * (x.ihold : Rat) / 1000 } }

/-- A fall of valve v's current starts, slow or fast; a fast one waits while the node is on the boost rail (07 R191). -/
def State.startFall (s : State) (v : Nat) (fast toZero : Bool) : State :=
  if !fast then s.modValve v (fun x => { x with decay := .slow, holdFall := false })
  else if (s.booster (v / 4)).isSome then
    let s := s.modValve v (fun x => { x with decay := .delayed, holdFall := toZero, fastdly := true })
    let s := s.modBank (v / 4) (fun k => { k with fastdly := satInc 0xFFFF k.fastdly })
    s.valveEvent v 0 9 (s.coil v) 0
  else
    let s := s.modValve v (fun x => { x with decay := .fast, holdFall := false })
    if toZero then s.takeClamp v else s

/-- The node returns to the feed: delayed fast decays start on the clamps (07 R191). -/
def State.resumeFalls (s : State) (b : Nat) : State :=
  (bankMembers b).foldl (fun s v =>
    if (s.valve v).decay = .delayed then
      let z := (s.valve v).holdFall
      let s := s.modValve v (fun x => { x with decay := .fast, holdFall := false })
      if z then s.takeClamp v else s
    else s) s

/-- A boost starts in bank b, and all four clamps are disabled: the fast decay of a member whose coil still carries current runs slow until the
node returns to the feed (07 R191). Its clamp energy was taken when it started. -/
def State.delayFalls (s : State) (b : Nat) : State :=
  (bankMembers b).foldl (fun s v =>
    if (s.valve v).decay = .fast && 0 < s.coil v then
      let s := s.modValve v (fun x => { x with decay := .delayed, holdFall := false, fastdly := true })
      let s := s.modBank b (fun k => { k with fastdly := satInc 0xFFFF k.fastdly })
      s.valveEvent v 0 9 (s.coil v) 0
    else s) s

/-- Gate-on of valve v in a phase (07 R192). -/
def State.valveGate (s : State) (v : Nat) (st : VSt) : State :=
  let s := s.modValve v (fun x => { x with st := st, low := true, onSince := some s.now, decay := .none, gateAt := s.now, phaseAt := s.now, level := if st = .boost then x.iboost else x.ipeak, us := [], detected := false, tclose := 0xFFFFFFFF })
  if st = .boost then s.delayFalls (v / 4) else s

/-- The bank boost is free: the waiting member starts in the same tick (07 R203), or the node returns to the feed. -/
def State.freeBoost (s : State) (b : Nat) : State :=
  match s.boostWaiter b with
  | none => s.resumeFalls b
  | some v =>
    let w := s.now - (s.valve v).waitAt
    let s := (s.valveGate v .boost).modValve v (fun x => { x with bwait := true })
    let s := s.modBank b (fun k => { k with waits := satInc 0xFFFF k.waits, waitmax := max k.waitmax (min 1000 (w / 200)) })
    let s := match (s.valve v).cmd with | some c => s.setWait c.handle 0 | none => s
    s.valveEvent v 0 7 (s.coil v) w

/-- Leaving the states in which current is driven: low side off, grant released, and the bank boost freed if v held it. A
valve that turns off takes the given decay after the boost has passed on (07 R190, R191; example of R209). -/
def State.valveDrop (s : State) (v : Nat) (st : VSt) (fall : Option Bool) : State :=
  let x := s.valve v
  let had := x.st = .boost
  let held := x.st = .boost || x.st = .peak || x.st = .hold
  let fromHold := x.st = .hold
  let inr := s.iso.grants.any (fun g => g.share.ch = 96 + v && g.inr)
  let s := if s.holdsGrant (96 + v) then
      s.addRel (.free (96 + v) (if inr && held then (Config.inrushUj (96 + v) x.gateAt s.now : Rat) else 0) s.now)
    else s
  let s := s.withdraw (96 + v)
  let s := s.modValve v (fun x => { x with st := st, low := false, onSince := none })
  let s := if had then s.freeBoost (v / 4) else s
  match fall with
  | some f => if held then s.startFall v f fromHold else s
  | none => s

/-! ### Requests and grants (07 R201, R202) -/

/-- The rail is available (07 R205). -/
def State.railOk (s : State) : Bool := s.pb Pf.bankRail_EN 0 && s.pd 9 && !s.vlv.fault && s.vlv.reached

/-- Inrush energy of an actuation, mJ before rounding, with ps in mW (07 R201). -/
def State.valveEx (s : State) (x : Valve) (ps : Nat) : Rat :=
  let rv : Rat := 150 / 1000
  let a := fun (n : Nat) => (n : Rat) / 1000
  let sec := fun (t : Nat) => (t : Rat) / 200000000
  let skip := x.tboost = 0 || !s.railOk
  let tb := if skip then 0 else sec x.tboost
  let tp := sec x.tpeak
  let ib := a x.iboost
  let ip := a x.ipeak
  let ih := a x.ihold
  let fall := fun (f : Bool) (i j : Rat) => if f && j < i then 3 / 4 * x.lcoil * (i * i - j * j) else 0
  1000 * (rv * (ib * ib * tb + ip * ip * tp) + 1 / 20 * (s.pf Pf.bankRail_BOOSTV 0 : Rat) * ib * tb
    + fall (x.cfgBit Pf.valveCfg_DECAY_B && !skip) ib ip + fall (x.cfgBit Pf.valveCfg_DECAY_P) ip ih) - (ps : Rat) * (tb + tp)

/-- The request of an actuation, number 96 + v (07 R201). -/
def State.askValve (s : State) (v : Nat) (kind : ReqKind) : State :=
  let x := s.valve v
  let ps := ceilDiv (x.ihold * x.ihold * 150) 1000000
  let ex := ratCeil (s.valveEx x ps)
  let t := (if x.tboost = 0 || !s.railOk then 0 else x.tboost) + x.tpeak
  let sh : Share := ⟨96 + v, ps, ex, (ex : Rat) * 200000000 / (t : Rat)⟩
  s.addReq ⟨96 + v, kind, [sh], t, Pf.valveCfg_SCLASS.of x.cfg, Pf.valveCfg_PRIO.of x.cfg, s.now, none, false⟩

/-- BOOST_BUSY (07 R196): the grant is refunded and the ACT fails. -/
def State.boostBusy (s : State) (v : Nat) : State :=
  let s := (s.valveDrop v .off none).modValve v (fun x => { x.note 8 with retry := false })
  let s := s.modBank (v / 4) (fun k => { k with refused := satInc 0xFFFF k.refused })
  (s.actEnd v St.failed 8).valveEvent v 8 8 (s.coil v) 0

/-- Valve v takes its grant (07 R196). -/
def State.valveGranted (s : State) (v : Nat) : State :=
  let x := s.valve v
  let b := v / 4
  if x.st ≠ .grantWait then s
  else if x.tboost = 0 then s.valveGate v .peak
  else if !s.railOk then
    let s := (s.valveGate v .peak).modValve v (fun x => { x.note 0x11 with boostskip := true })
    s.valveEvent v 0x11 10 (s.coil v) 0
  else if (s.booster b).isNone then s.valveGate v .boost
  else if (s.boostWaiter b).isNone && !s.pb Pf.bankCfg_NOOVERLAP b then
    let s := s.modValve v (fun x => { x with st := .boostWait, waitAt := s.now })
    match x.cmd with
    | some c => s.setWait c.handle 2
    | none => s
  else s.boostBusy v

/-- The members of one bank granted in one tick take the boost in the order of the rotation (07 R202, 02 R45). -/
def State.bankGranted (s : State) (b : Nat) (vs : List Nat) : State :=
  let p := (s.vbank b).ptr
  let wants := vs.filter (fun v => (s.valve v).st = .grantWait && (s.valve v).tboost ≠ 0 && s.railOk)
  let order := (List.range 4).filterMap (fun i => let v := 4 * b + (p + i) % 4; if vs.contains v then some v else none)
  let s := order.foldl (fun s v => s.valveGranted v) s
  match (List.range 4).filterMap (fun i => let v := 4 * b + (p + i) % 4; if wants.contains v then some v else none) with
  | w :: _ :: _ => s.modBank b (fun k => { k with ptr := (w % 4 + 1) % 4 })
  | _ => s

/-- Every valve granted in a pass. -/
def State.valvesGranted (s : State) (vs : List Nat) : State :=
  (List.range 4).foldl (fun s b =>
    let l := vs.filter (fun v => v / 4 = b)
    if l.isEmpty then s else s.bankGranted b l) s

/-! ### VALVE_CMD (07 R197 to R200) -/

/-- A retry run whose window has not ended, or RETRY_WAIT: an OFF abandons it with UNRESOLVED (07 R196). -/
def Valve.inRetry (x : Valve) : Bool := x.retry || x.st = .retryWait

/-- Turning valve v off from any state but LATCHED (07 R196), with the present phase's decay. -/
def State.valveOff (s : State) (v : Nat) : State :=
  let x := s.valve v
  match x.st with
  | .off | .latched => s
  | _ =>
    let s := (s.valveDrop v .off (some x.fastNow)).modValve v (fun x => { x with retry := false })
    if x.inRetry then s.valveEvent v x.tripCode 3 (s.coil v) 0 else s

/-- The checks of R198. -/
def State.valveCheck (s : State) (r : InReq) (c : UnitCmd) (cmd : Nat) : Option Nat :=
  if 15 < c.unit || 1 < c.opt || 60000 < c.deadline then some St.range
  else if ((s.valve c.unit).st = .latched && cmd = 1) || !s.pd 9 || (cmd = 1 && (s.entering || s.boot.stuck.contains (69 + c.unit / 4))) then some St.state
  else if !s.mayUse r 2 c.unit then some St.denied
  else none

/-- A VALVE_CMD that passes R198; a later command supersedes the earlier handle (03 R77). -/
def State.valveCmd (s : State) (q : Rq) (c : UnitCmd) (cmd : Nat) (act : State → State) : State :=
  s.serve q 0x21 0 (leBytes 2 c.unit ++ leBytes 1 cmd ++ leBytes 1 c.opt ++ leBytes 4 c.deadline) (fun r s =>
    match s.valveCheck r c cmd with
    | some st => s.answer r st 0 []
    | none =>
      match s.accept r (c.unit + 256 * cmd) with
      | (s, none) => s
      | (s, some h) =>
        let s := s.valveEnd c.unit St.superseded (s.valve c.unit).codes
        let dl := if c.deadline = 0 then none else some (r.stamp + msTk c.deadline)
        act (s.modValve c.unit (fun x => { x with cmd := some ⟨h, cmd, dl, false, false, false⟩ })))

/-- VALVE_CMD OFF (07 R196, R199). -/
def execValveOff (g : Lapse) (q : Rq) (c : UnitCmd) (s : State) : Host.Outcome State Fault Refusal :=
  .next ((s.pass g).valveCmd q c 0 (fun s =>
    if (s.valve c.unit).st = .off then s.valveEnd c.unit St.ok (s.valve c.unit).codes
    else (s.valveOff c.unit).modValve c.unit (fun x => { x with offAt := s.now })))

/-- Starting an actuation of an OFF valve: the written settings come into force (07 R215). -/
def State.startAct (s : State) (v : Nat) : State :=
  (s.modValve v (fun x => { x with st := .grantWait, cfg := s.parOf (Pid.valveCfg v) 0, levels := s.parOf (Pid.valveLevels v) 0, times := s.parOf (Pid.valveTimes v) 0, kink := s.parOf (Pid.valveKink v) 0, codes := 0, noclose := false, fastdly := false, raillow := false, boostskip := false, bwait := false, tclose := 0xFFFFFFFF, retry := false })).askValve v .turnOn

/-- VALVE_CMD ACT (07 R196, R198): a valve in HOLD outside a retry's window completes it at once. -/
def execValveAct (g : Lapse) (q : Rq) (c : UnitCmd) (s : State) : Host.Outcome State Fault Refusal :=
  .next ((s.pass g).valveCmd q c 1 (fun s =>
    let x := s.valve c.unit
    if x.st = .off then s.startAct c.unit
    else if x.st = .hold && !x.retry then s.valveEnd c.unit St.ok x.codes
    else s))

/-- VALVE_CMD CLEAR, with CLRCNT in OPT bit 0 (07 R196, R211): it completes at once. -/
def execValveClear (g : Lapse) (q : Rq) (c : UnitCmd) (s : State) : Host.Outcome State Fault Refusal :=
  .next ((s.pass g).valveCmd q c 6 (fun s =>
    let s := s.modValve c.unit (fun x =>
      let x := if x.st = .latched then { x with st := .off } else x
      if c.opt = 1 then { x with trans := 0, lasting := 0 } else x)
    s.valveEnd c.unit St.ok (s.valve c.unit).codes))

/-- The DEADLINE of an ACT passes in GRANT_WAIT or BOOST_WAIT (07 R196). -/
def execValveDeadline (g : Lapse) (v : Fin 16) (s : State) : Host.Outcome State Fault Refusal :=
  let s := s.pass g
  let x := s.valve v
  match x.cmd with
  | none => .next s
  | some c =>
    match c.deadline with
    | none => .next s
    | some d =>
      if c.cmd = 1 && d ≤ s.now && (x.st = .grantWait || x.st = .boostWait) then
        .next ((s.valveOff v).valveEnd v St.timeout x.codes)
      else .next s

/-! ### Phases (07 R192, R196) -/

/-- The boost of valve v ends: PEAK, the bank boost passes on, and the fall to IPEAK starts. -/
def State.boostDone (s : State) (v : Nat) (i : Int) : State :=
  let x := s.valve v
  let falls := decide ((x.ipeak : Int) < i)
  let fast := x.cfgBit Pf.valveCfg_DECAY_B
  let s := s.setValve v { x with st := .peak, phaseAt := s.now, level := x.ipeak, low := !falls, onSince := if falls then none else x.onSince }
  let s := s.freeBoost (v / 4)
  if falls then s.startFall v fast false else s

/-- The boost reaches IBOOST, or TBOOST has run (07 R192). -/
def execBoostEnd (g : Lapse) (v : Fin 16) (i : Int) (s : State) : Host.Outcome State Fault Refusal :=
  let s := s.pass g
  let x := s.valve v
  if x.st = .boost && ((x.iboost : Int) ≤ i || s.expired x.phaseAt x.tboost) then .next (s.boostDone v i) else .next s

/-- TPEAK has run (07 R192, R209): HOLD, the inrush ends, and an ACT of a first run completes. -/
def execTpeakEnd (g : Lapse) (v : Fin 16) (i : Int) (s : State) : Host.Outcome State Fault Refusal :=
  let s := s.pass g
  let x := s.valve v
  if x.st = .peak && s.expired x.phaseAt x.tpeak then
    let s := s.addRel (.inrEnd (96 + v) (Config.inrushUj (96 + v) x.gateAt s.now : Rat) s.now)
    let miss := x.cfgBit Pf.valveCfg_KEN && !x.detected
    let falls := decide ((x.ihold : Int) < i)
    let s := s.setValve v { x with st := .hold, phaseAt := s.now, level := x.ihold, low := x.low && !falls, onSince := if falls then none else x.onSince }
    let s := if falls then s.startFall v (x.cfgBit Pf.valveCfg_DECAY_P) false else s
    let s := if miss then (s.modValve v (fun x => { x.note 0x10 with noclose := true })).valveEvent v 0x10 5 i 0 else s
    .next (if x.retry then s else s.actEnd v St.ok (s.valve v).codes)
  else .next s

/-- The confirmation window of a retry run ends without a trip: transient (07 R196, R211). -/
def State.valveConfirm (s : State) (v : Nat) : State :=
  let s := (s.modValve v (fun x => { x with retry := false, trans := satInc 255 x.trans })).actRetried v
  (s.valveEvent v (s.valve v).tripCode 1 (s.coil v) 0).actEnd v St.ok (s.valve v).codes

/-- THOLD has run (07 R196). -/
def execTholdExpiry (g : Lapse) (v : Fin 16) (s : State) : Host.Outcome State Fault Refusal :=
  let s := s.pass g
  let x := s.valve v
  if x.st = .hold && x.thold ≠ 0 && s.expired x.phaseAt x.thold then
    let s := s.valveDrop v .off (some (x.cfgBit Pf.valveCfg_DECAY_H))
    .next (if x.retry then s.valveConfirm v else s)
  else .next s

/-- The confirmation window ends 10 ms after the retry entered HOLD (07 R195). -/
def execValveConfirmationEnd (g : Lapse) (v : Fin 16) (s : State) : Host.Outcome State Fault Refusal :=
  let s := s.pass g
  let x := s.valve v
  if x.st = .hold && x.retry && s.expired x.phaseAt 2000000 then .next (s.valveConfirm v) else .next s

/-! ### Chopping and closing detection (07 R193, R207) -/

/-- Cycle period of a bank, tk (07 R193). -/
def State.chopTk (s : State) (b : Nat) : Nat := [8000, 4000, 2000].getD (s.pf Pf.bankCfg_FCHOP b) 4000

/-- A cycle of valve v starts on the bank's grid: the low side turns on unless the current is at or above the level. -/
def execChopCycleStart (g : Lapse) (v : Fin 16) (i : Int) (s : State) : Host.Outcome State Fault Refusal :=
  let s := s.pass g
  let x := s.valve v
  let tc := s.chopTk (v / 4)
  if (x.st = .peak || x.st = .hold) && s.now % tc = (v % 4) * tc / 4 && i < (x.level : Int) then
    .next (s.setValve v { x with low := true, decay := .none, onSince := some (x.onSince.getD s.now) })
  else .next s

/-- The current reaches the level: the low side turns off and the current freewheels (07 R193). -/
def execChopLevelReached (g : Lapse) (v : Fin 16) (i : Int) (s : State) : Host.Outcome State Fault Refusal :=
  let s := s.pass g
  let x := s.valve v
  if (x.st = .peak || x.st = .hold) && x.low && (x.level : Int) ≤ i then
    .next (s.setValve v { x with low := false, onSince := none })
  else .next s

/-- VBb takes one cycle record (07 R194, R207). -/
def execCycleRecord (g : Lapse) (v : Fin 16) (r : CycleRec) (s : State) : Host.Outcome State Fault Refusal :=
  let s := (s.pass g).raiseEv (69 + v / 4) 4
  let x := s.valve v
  if x.st ≠ .peak || !x.cfgBit Pf.valveCfg_KEN || x.detected || !s.pd 9 then .next s
  else if 16 < r.behind then
    .next ((s.setValve v { x with detected := true }).valveEvent v 0 6 (s.coil v) 0)
  else if !r.inPeak || (x.us.isEmpty && !r.chop) then .next s
  else
    let w := Pf.valveKink_KW.of x.kink
    let us := x.us ++ [r.umv]
    let old := (us.reverse)[w]?
    let x := { x with us := us.drop (us.length - 16) }
    match old with
    | none => .next (s.setValve v x)
    | some u =>
      if r.umv - u ≤ -(50 * Pf.valveKink_KTH.of x.kink : Int) then
        let tc := (r.start - x.gateAt) % 2 ^ 32
        .next ((s.setValve v { x with detected := true, tclose := tc }).valveEvent v 0 4 (s.coil v) tc)
      else .next (s.setValve v x)

/-! ### Faults (07 R196, R210 to R213) -/

/-- A trip of valve v, in a phase that drives its coil: the low side goes off and the coil decays fast; the event carries the state after it. -/
def State.valveTripIn (s : State) (v code : Nat) (ma : Int) : State :=
  let x := s.valve v
  let s := s.valveDrop v (if x.cfgBit Pf.valveCfg_NORETRY || x.retry then .latched else .retryWait) (some true)
  let s := s.modValve v (fun x => { x.note code with tripAt := s.now, delay := s.pf Pf.valveCfg_DELAY v, tripCode := code })
  if x.cfgBit Pf.valveCfg_NORETRY || x.retry then
    let s := s.modValve v (fun x => { x with lasting := satInc 255 x.lasting, retry := false })
    (s.valveEvent v code 2 ma 0).actEnd v St.failed (s.valve v).codes
  else s.valveEvent v code 0 ma 0

/-- A trip of valve v (07 R196), ordered as in 04 R105 (R200): one at or after the end of a retry's confirmation window finds the retry held and is a
new first trip, and of two in one tick the lower code is reported. -/
def State.valveTrip (s : State) (v code : Nat) (ma : Int) : State :=
  let x := s.valve v
  match x.st with
  | .boost | .peak | .hold =>
    (if x.st = .hold && x.retry && s.expired x.phaseAt 2000000 then s.valveConfirm v else s).valveTripIn v code ma
  | .retryWait | .latched =>
    if x.tripAt = s.now && code < x.tripCode then
      (s.modValve v (fun x => { x.note code with tripCode := code })).lowerCode 2 0x21 [v] x.tripCode code
    else s
  | _ => s

/-- A trip: a bank trip is raised on every member in BOOST, PEAK or HOLD (07 R210). -/
def execValveTrip (g : Lapse) (v : Fin 16) (t : ValveTrip) (s : State) : Host.Outcome State Fault Refusal :=
  let s := s.pass g
  match t with
  | .fast ma => .next (s.valveTrip v 1 ma)
  | .clamp ma => .next (s.valveTrip v 3 ma)
  | .bank ma =>
    let hit := (bankMembers (v / 4)).filter (fun i => (s.valve i).st = .boost || (s.valve i).st = .peak || (s.valve i).st = .hold)
    .next (hit.foldl (fun s i => s.valveTrip i 4 ma) s)

/-- The current is below 100 mA after the low side has been on without a break for 1 ms (07 R210). -/
def execOpenCoil (g : Lapse) (v : Fin 16) (i : Int) (s : State) : Host.Outcome State Fault Refusal :=
  let s := s.pass g
  match (s.valve v).onSince with
  | none => .next s
  | some t => if i < 100 && s.expired t 200000 then .next (s.valveTrip v 2 i) else .next s

/-- The retry conditions hold (07 R211): the retry run starts with a grant request. -/
def execValveRetryConditions (g : Lapse) (v : Fin 16) (tclamp : Int) (s : State) : Host.Outcome State Fault Refusal :=
  let s := s.pass g
  let x := s.valve v
  if x.st = .retryWait && s.expired x.tripAt (msTk x.delay) && tclamp ≤ 1500 && s.bankFeedOk (v / 4) then
    .next ((s.setValve v { x with st := .grantWait, retry := true }).askValve v .retry)
  else .next s

/-- The members of a bank that is turned off, the one that waits for the boost first, so that it does not take it (07 R212, 17 R434). -/
def State.offOrder (s : State) (b : Nat) : List Nat :=
  (bankMembers b).filter (fun v => (s.valve v).st = .boostWait) ++ (bankMembers b).filter (fun v => (s.valve v).st ≠ .boostWait)

/-- The feed of a bank is out of range: every member but an OFF or LATCHED one goes OFF (07 R196, R200, R212). -/
def State.bankLost (s : State) (b : Nat) : State :=
  (s.offOrder b).foldl (fun s v =>
    let x := s.valve v
    if x.st = .off || x.st = .latched then s
    else
      let s := (s.valveDrop v .off (some false)).modValve v (fun x => { x.note 0x20 with retry := false })
      (s.valveEvent v 0x20 12 (s.coil v) 0).actEnd v St.failed 0x20) s

/-- BANK_FEED_LOST (07 R212). -/
def execBankFeedLost (g : Lapse) (b : Fin 4) (s : State) : Host.Outcome State Fault Refusal :=
  let s := s.pass g
  .next (if s.bankFeedOk b then s else s.bankLost b)

/-- An OFF completes: the current is below 10 % of IHOLD, or 5 ms have passed since dispatch (07 R199). -/
def execValveOffComplete (g : Lapse) (v : Fin 16) (i : Int) (s : State) : Host.Outcome State Fault Refusal :=
  let s := s.pass g
  let x := s.valve v
  match x.cmd with
  | none => .next s
  | some c =>
    if c.cmd = 0 && (10 * i < (x.ihold : Int) || s.expired x.offAt 1000000) then .next (s.valveEnd v St.ok x.codes) else .next s

/-! ### Boost rail (07 R204, R205) -/

/-- The rail has reached 90 % of BOOSTV. -/
def execRailAvailable (g : Lapse) (vrail : Nat) (s : State) : Host.Outcome State Fault Refusal :=
  let s := s.pass g
  if s.pb Pf.bankRail_EN 0 && s.pd 9 && !s.vlv.fault && 90 * s.pf Pf.bankRail_BOOSTV 0 ≤ vrail then
    .next { s with vlv := { s.vlv with vrail := vrail, reached := true } }
  else .next s

/-- The rail has not reached 90 % within 25 ms of EN, or exceeds 68 V: RAILFAULT, and the controller stops. -/
def execRailFault (g : Lapse) (vrail : Nat) (s : State) : Host.Outcome State Fault Refusal :=
  let s := s.pass g
  if s.pb Pf.bankRail_EN 0 && s.pd 9 && !s.vlv.fault
      && (6800 < vrail || (!s.vlv.reached && s.expired s.vlv.railAt 5000000)) then
    let s := { s with vlv := { s.vlv with vrail := vrail, fault := true } }
    .next (s.emit 2 0xFF 0 (leBytes 1 0 ++ leBytes 1 13 ++ leBytes 10 0))
  else .next s

/-- The rail falls below the feed plus 3 V during a boost: the boost ends at once and the valve goes on into PEAK. -/
def execRailLow (g : Lapse) (vrail : Nat) (s : State) : Host.Outcome State Fault Refusal :=
  let s := s.pass g
  let s := { s with vlv := { s.vlv with vrail := vrail } }
  let hit := (List.range 16).filter (fun v => (s.valve v).st = .boost && vrail < s.bankFeed (v / 4) + 300)
  .next (hit.foldl (fun s v =>
    let s := (s.modValve v (fun x => { x with raillow := true })).boostDone v (s.coil v)
    s.valveEvent v 0 11 (s.coil v) 0) s)

/-! ### Parameters `valve.v[v]` and `valve.bank[b]` (07 R215, R216) -/

/-- RANGE rules beyond each field's range: IHOLD is not above IPEAK, and TBOOST is 0 or 10 to 1,000. -/
def valveRange (off v : Nat) : Bool :=
  if off = 1 then Pf.valveLevels_IHOLD.of v ≤ Pf.valveLevels_IPEAK.of v
  else if off = 2 then Pf.valveTimes_TBOOST.of v = 0 || 10 ≤ Pf.valveTimes_TBOOST.of v
  else true

/-- FCHOP changes only while every member is OFF or LATCHED. -/
def State.bankStateOk (s : State) (b off v : Nat) : Bool :=
  off ≠ 0 || Pf.bankCfg_FCHOP.of v = s.pf Pf.bankCfg_FCHOP b
    || (bankMembers b).all (fun i => (s.valve i).st = .off || (s.valve i).st = .latched)

/-- A write to `valve.bank[b].rail` sets the one setting of all four (07 R204); EN from 0 to 1 starts the controller and
clears RAILFAULT. -/
def State.bankWritten (s0 s : State) (off v : Nat) : State :=
  if off ≠ 1 then s
  else
    let s := (List.range 4).foldl (fun s b => s.setPar (Pid.bankRail b) 0 v) s
    if Pf.bankRail_EN.of v = 1 && !s0.pb Pf.bankRail_EN 0 then
      { s with vlv := { s.vlv with reached := false, fault := false, railAt := s.now } }
    else if Pf.bankRail_EN.of v = 0 then { s with vlv := { s.vlv with reached := false } }
    else s

/-- The controller starts where EN is set and PD9 is on: at a start of the device, whose phase 7 takes EN from its stored copy, and when PD9 is
switched on (07 R205, R213; 03 R86). -/
def State.railStart (s : State) : State :=
  if s.pb Pf.bankRail_EN 0 && s.pd 9 then { s with vlv := { s.vlv with reached := false, railAt := s.now } } else s

/-- A valve when the stage is turned off (07 R213): OFF, with its coil decaying fast; counts and status stay, and so does an OFF whose coil is still
falling (R199). -/
def Valve.offState (y : Valve) (latched : Bool) : Valve :=
  { y with st := if latched && y.st = .latched then .latched else .off, low := false, decay := .fast, onSince := none, retry := false, cmd := y.cmd.filter (fun c => c.cmd = 0) }

/-- A valve at a reset of the logic die or after PARK and DORMANT: its counts are RETAINED, the rest of its status is VOLATILE (07 R215). -/
def Valve.reset (y : Valve) (latched : Bool) : Valve :=
  { ({} : Valve) with st := if latched && y.st = .latched then .latched else .off, cfg := y.cfg, levels := y.levels, times := y.times, kink := y.kink, codes := if latched then y.codes else 0, trans := y.trans, lasting := y.lasting, decay := .fast }

/-- The stage when PD9 is switched off (07 R213): every valve OFF, every boost free, the pointers 0. -/
def Valves.off (x : Valves) : Valves :=
  { x with v := x.v.map (fun y => y.offState true), bank := x.bank.map (fun k => { k with ptr := 0 }), reached := false }

/-- The stage at a start of the logic die: `status` and `stats` of the banks are VOLATILE (07 R213, R216). -/
def Valves.reset (x : Valves) (latched : Bool) : Valves := { v := x.v.map (fun y => y.reset latched) }

end Sys2Proof.Machine
end

