-- ==== Sys2Proof/Machine/Isotherm.lean ====
section
/-!
DEFINITION. The Isotherm arbiter and the junction model (06 R163 to R178).
-/
namespace Sys2Proof.Machine

/-! ### Pools (06 R168) -/

def State.budget (s : State) : Rat := s.pf Pf.isoBudgetW_BUDGET
def State.peak (s : State) : Rat := s.pf Pf.isoPeakW_PEAK
def State.burstCap (s : State) : Rat := s.pf Pf.isoBurstMj_CAP

/-- S is above BUDGET, or E is below 0 (06 R175). -/
def State.isOver (s : State) : Bool := s.budget < s.isoS || s.iso.e < 0

/-- OVER follows the pools; its rise sends OVERRUN with the request number that caused it (06 R175). -/
def State.checkOver (s : State) (num : Option Nat) : State :=
  let o := s.isOver
  let was := s.iso.ovr
  let s := { s with iso := { s.iso with ovr := o } }
  match num with
  | some n => if o && !was then s.isoEvent n 3 (flag (s.budget < s.isoS) + 2 * flag (s.iso.e < 0)) (ratCeil (s.isoS - s.budget)) (ratCeil (-s.iso.e)) 0 else s
  | none => s

/-- Gate-on tick of a grant's leaf: that of the channel or valve where it came after the grant (06 R175). -/
def State.gatedAt (s : State) (x : Grant) : Option Nat :=
  let t := if x.share.ch < 64 then (s.chan x.share.ch).gateAt else if x.share.ch < 112 then (s.valve (x.share.ch - 96)).gateAt else 0
  if x.at_ ≤ t && x.share.ch < 112 then some t else none

/-- The end of a grant's inrush: q leaves Q, and what was reserved above the measured energy goes back to E (06 R175). -/
def State.settleInrush (s : State) (x : Grant) (uj : Rat) (stamp : Nat) : State :=
  if !x.inr then s
  else
    let el : Rat := match s.gatedAt x with | some t => ((stamp - t : Nat) : Rat) / 200000000 | none => 0
    let used := uj / 1000 - x.share.ps * el
    { s with iso := { s.iso with e := s.iso.e + (x.share.ex - used) } }

/-- One release or refund (06 R173, R175). -/
def State.applyRel (s : State) (r : IsoRel) : State :=
  match r with
  | .inrEnd ch uj stamp =>
    match s.iso.grants.find? (fun g => g.share.ch = ch) with
    | none => s
    | some x =>
      let s := s.settleInrush x uj stamp
      let s := { s with iso := { s.iso with grants := s.iso.grants.map (fun (g : Grant) => if g.share.ch = ch then { g with inr := false } else g) } }
      s.checkOver (some x.num)
  | .free ch uj stamp =>
    match s.iso.grants.find? (fun g => g.share.ch = ch) with
    | none => s
    | some x =>
      let s := s.settleInrush x uj stamp
      let s := { s with iso := { s.iso with grants := s.iso.grants.filter (fun g => g.share.ch ≠ ch) } }
      s.checkOver (some x.num)
  | .less ch ps =>
    { s with iso := { s.iso with grants := s.iso.grants.map (fun (g : Grant) => if g.share.ch = ch then { g with share := { g.share with ps := max 0 (g.share.ps - ps) } } else g) } }

/-- Every release and refund that waits (06 R173, step 1). -/
def State.applyRels (s : State) : State :=
  let l := s.iso.rels
  (l.foldl (fun (s : State) r => s.applyRel r) { s with iso := { s.iso with rels := [] } }).checkOver none

/-! ### Grants and deferrals (06 R173, R174, R176) -/

/-- The three tests of R173. -/
def State.fits (s : State) (ps ex q : Rat) : Bool :=
  s.isoS + ps ≤ s.budget && ex ≤ s.iso.e && s.isoS + ps + s.isoQ + q ≤ s.peak

/-- Wait shown by the unit's handle (06 R176). -/
def State.isoWait (s : State) (num w : Nat) : State :=
  let c := if num < 96 then s.cmdOf (s.topOf num) else if num < 112 then (s.valve (num - 96)).cmd else none
  match c with
  | some c => s.setWait c.handle w
  | none => s

/-- DEFERRED mark of the unit's command (06 R176). -/
def State.isoMark (s : State) (num : Nat) : State :=
  if num < 96 then s.markCmd num (fun c => { c with deferred := true })
  else if num < 112 then s.modValve (num - 96) (fun x => { x with cmd := x.cmd.map (fun c => { c with deferred := true }) })
  else s

/-- A channel takes its grant (04 R104, 05 R153): a unit that pulses at duty 0 enters ON with its gate off. -/
def State.chanGranted (s : State) (n : Nat) : State :=
  match (s.chan n).st with
  | .grantWait =>
    let zero := match s.pmem (s.topOf n) with | some (_, m) => m.pulsing && m.duty = 0 | none => false
    if zero then s.modChan n (fun c => { c with st := .on, inrDue := true })
    else (s.modChan n (fun c => { c with st := .inrush })).gateOnAfter n
  | .retryWait => (s.modChan n (fun c => { c with st := .retryOn, retryReq := false })).gateOnAfter n
  | _ => s

/-- What a grant does at its unit. Valves are left to the end of the pass, where members of one bank take the boost in turn
(07 R202). -/
def State.grantEffect (s : State) (r : IsoReq) : State :=
  match r.kind with
  | .turnOn | .retry =>
    if r.num < 96 then
      let s := r.shares.foldl (fun s x => s.chanGranted x.ch) s
      s.settle ((r.shares.map (·.ch)).headD 0)
    else if r.num = 112 then s.mxGranted r.kind (ratCeil r.ps)
    else s
  | _ => if r.num = 112 then s.mxGranted r.kind (ratCeil r.ps) else s

/-- A grant takes its power and energy from the pools (06 R173). -/
def State.grantReq (s : State) (r : IsoReq) : State :=
  let s := { s with iso := { s.iso with pend := s.iso.pend.filter (fun x => !(x.num = r.num && x.kind = r.kind)) } }
  let s := match r.first with
    | some f => s.isoEvent r.num 1 0 0 0 (s.now - f)
    | none => s
  let s := match r.kind with
    | .turnOn | .retry =>
      { s with iso := { s.iso with e := s.iso.e - r.ex, grants := s.iso.grants ++ r.shares.map (fun x => (⟨r.num, x, s.now, r.num ≠ 112, 0⟩ : Grant)) } }
    | _ =>
      { s with iso := { s.iso with grants := s.iso.grants.map (fun (g : Grant) => match r.shares.find? (fun (x : Share) => x.ch = g.share.ch) with | some x => { g with share := { g.share with ps := g.share.ps + x.ps } } | none => g) } }
  (s.isoWait r.num 0).grantEffect r

/-- Changing a pending request. -/
def State.modReq (s : State) (r : IsoReq) (f : IsoReq → IsoReq) : State :=
  { s with iso := { s.iso with pend := s.iso.pend.map (fun x => if x.num = r.num && x.kind = r.kind then f x else x) } }

/-- POOL of a deferral (06 R176). -/
def State.shortPool (s : State) (r : IsoReq) (blocked : Bool) : Nat :=
  flag (s.budget < s.isoS + r.ps) + 2 * flag (s.iso.e < r.ex) + 4 * flag (s.peak < s.isoS + r.ps + s.isoQ + r.q) + 8 * flag blocked

/-- BLOCK in ticks (06 R174). -/
def State.blockTk (s : State) : Nat := msTk (s.pf Pf.isoBlockMs_BLOCK)

/-- A deferred request has waited long enough to block those behind it (06 R174). -/
def State.blocks (s : State) (r : IsoReq) : Bool :=
  match r.first with
  | some f => s.expired f s.blockTk
  | none => false

/-- SHORT_MW and SHORT_MJ of a request: what is missing from the steady or peak pool, and from E (06 R176). -/
def State.shortOf (s : State) (r : IsoReq) : Nat × Nat :=
  (max (ratCeil (s.isoS + r.ps - s.budget)) (ratCeil (s.isoS + r.ps + s.isoQ + r.q - s.peak)), ratCeil (r.ex - s.iso.e))

/-- A request starts to block (06 R174, R176). -/
def State.startBlock (s : State) (r : IsoReq) : State :=
  if r.block then s
  else
    let w := match r.first with | some f => s.now - f | none => 0
    let short := s.shortOf r
    (s.modReq r (fun x => { x with block := true })).isoEvent r.num 2 (s.iso.pool.toList.getD r.num 0) short.1 short.2 w

/-- Deferring a request (06 R176); one for a shadow-on channel of a standby is reported (13 R352). -/
def State.deferReq (s : State) (r : IsoReq) (blocked : Bool) : State :=
  let pool := s.shortPool r blocked
  let short := s.shortOf r
  let s := { s with iso := { s.iso with pool := s.iso.pool.setIfInBounds r.num pool } }
  match r.first with
  | some _ => if s.blocks r then s.startBlock r else s
  | none =>
    let s := s.modReq r (fun x => { x with first := some s.now })
    let s := { s with iso := { s.iso with defers := s.iso.defers.setIfInBounds r.num (satInc 0xFFFF (s.iso.defers.toList.getD r.num 0)) } }
    let s := ((s.isoWait r.num 1).isoMark r.num).isoEvent r.num 0 pool short.1 short.2 0
    if (s.il.role = 3 || s.il.role = 4) && r.num < 64 && s.il.shadowOn.testBit r.num then
      (s.pairErr 5).pairEvent (0x100 + r.num) 0x0A r.num
    else s

/-- Order of R174: higher safety class, then higher priority, then lower number. -/
def reqBefore (a b : IsoReq) : Bool :=
  b.sclass < a.sclass || (a.sclass = b.sclass && (b.prio < a.prio || (a.prio = b.prio && a.num ≤ b.num)))

/-- Insertion in an order. -/
def insertReq (before : IsoReq → IsoReq → Bool) (r : IsoReq) : List IsoReq → List IsoReq
  | [] => [r]
  | x :: l => if before x r then x :: insertReq before r l else r :: x :: l

/-- Sorting by an order, stable. -/
def sortReqs (before : IsoReq → IsoReq → Bool) (l : List IsoReq) : List IsoReq :=
  l.foldl (fun acc r => insertReq before r acc) []

/-- The next request of an ungated pass: the earliest stamp, ties by rotation, with the pointer after it (06 R173, 02 R45). -/
def nextReq (p : Nat) (l : List IsoReq) : Option (IsoReq × Nat) :=
  match l with
  | [] => none
  | r :: rest =>
    let t := rest.foldl (fun m x => min m x.stamp) r.stamp
    let tied := l.filter (fun x => x.stamp = t)
    match tied with
    | [] => none
    | w :: ws =>
      let key := fun (x : IsoReq) => (x.num + 113 - p) % 113
      let win := ws.foldl (fun m x => if key x < key m then x else m) w
      some (win, if ws.isEmpty then p else (win.num + 1) % 113)

/-- Granting every pending request, in order of stamps with ties by rotation. -/
def State.grantAll : Nat → State → List IsoReq → State
  | 0, s, _ => s
  | k + 1, s, l =>
    match nextReq s.iso.ptr l with
    | none => s
    | some (r, p) =>
      ({ s with iso := { s.iso with ptr := p } }.grantReq r).grantAll k (l.filter (fun x => !(x.num = r.num && x.kind = r.kind)))

/-- Step 2 of R173 for requests in the order of R174. -/
def State.grantInOrder : State → Bool → List IsoReq → State
  | s, _, [] => s
  | s, blocked, r :: l =>
    if !blocked && s.fits r.ps r.ex r.q then (s.grantReq r).grantInOrder blocked l
    else
      let b := s.blocks r
      (s.deferReq r blocked).grantInOrder (blocked || b) l

/-- Valve requests that a pass took from the pending list. -/
def takenValves (before after : List IsoReq) : List Nat :=
  (before.filter (fun r => 96 ≤ r.num && r.num < 112 && !(after.any (fun x => x.num = r.num)))).map (fun r => r.num - 96)

/-- One pass of the arbiter (06 R173). It does not run while the device holds (R177). -/
def State.arbiterPass (s : State) : State :=
  if !s.pd 3 || s.load.held then s
  else
    let s := s.applyRels
    let l := s.iso.pend
    let all := s.fits (l.foldl (fun a r => a + r.ps) 0) (l.foldl (fun a r => a + r.ex) 0) (l.foldl (fun a r => a + r.q) 0)
    let s' := if l.isEmpty then s else if all then s.grantAll l.length l else s.grantInOrder false (sortReqs reqBefore l)
    (s'.valvesGranted (takenValves l s'.iso.pend)).checkOver none

/-- ARBITER_PASS (06 R173). -/
def execArbiterPass (g : Lapse) (s : State) : Host.Outcome State Fault Refusal := .next (s.pass g).arbiterPass

/-- A deferred request has waited BLOCK ms since its first deferral (06 R174). -/
def execBlockTimeout (g : Lapse) (num : Fin 113) (s : State) : Host.Outcome State Fault Refusal :=
  let s := s.pass g
  .next ((s.iso.pend.filter (fun r => r.num = num.val && s.blocks r)).foldl (fun s r => s.startBlock r) s)

/-! ### Junction model (06 R163 to R167) -/

/-- Thermal resistances, K/W, and a_m in 2⁻¹⁶ (06 R165): exp(−100 µs / τm), rounded. -/
def polesOf (n : Nat) : List (Rat × Nat) :=
  if chClass n = 0 then [(15 / 100, 53656), (35 / 100, 64238), (60 / 100, 65405), (70 / 100, 65523)]
  else if chClass n = 1 then [(30 / 100, 51039), (60 / 100, 63918), (100 / 100, 65372), (110 / 100, 65520)]
  else [(80 / 100, 46959), (140 / 100, 63387), (180 / 100, 65318), (200 / 100, 65514)]

/-- One step of the poles at power p, W. -/
def stepPoles (n : Nat) (v : Vector Rat 4) (p : Rat) : Vector Rat 4 :=
  Vector.ofFn (fun (i : Fin 4) =>
    let k := (polesOf n).getD i.val (0, 0)
    let a : Rat := (k.2 : Rat) / 65536
    a * v[i] + (1 - a) * k.1 * p)

/-- Seeding the poles from a power (06 R167). -/
def seedPoles (n : Nat) (p : Rat) : Vector Rat 4 := Vector.ofFn (fun (i : Fin 4) => ((polesOf n).getD i.val (0, 0)).1 * p)

/-- Current of one LSB, mA (06 R162). -/
def lsbMa (n : Nat) : Nat := if chClass n = 0 then 80 else if chClass n = 1 then 25 else 5

/-- Current that a code means, mA (06 R161, R162): −163.84 to 163.76 A on H, −51.200 to 51.175 A on M, −10.240 to 10.235 A on L. -/
def curMa (n : Nat) (x : BitVec 12) : Int := (lsbMa n : Int) * x.toInt

/-- Output voltage that a code means, mV (06 R162): 0 to 40.95 V. -/
def voltMv (x : BitVec 12) : Nat := 10 * x.toNat

/-- Tick of sample i of the step that ends at `b`: samples are taken at every multiple of 800 tk (06 R161). -/
def sampleTick (b i : Nat) : Nat := b - 20000 + 800 * i

/-- v_ds of a sample, mV: the feed minus the output on a high side, the output on a low side (06 R164). -/
def State.vds (s : State) (n : Nat) (x : Sample) : Int :=
  if x.low then (voltMv x.volt : Int) else (s.feedMv n : Int) - voltMv x.volt

/-- Power of one sample in the switch that conducts, W (06 R164): i × v_ds where the driver regulates, else i² × Ron at the estimate of the
previous step. -/
def State.samplePower (s : State) (n : Nat) (x : Sample) : Rat :=
  let i : Rat := curMa n x.cur
  let sw := flag x.low
  if x.reg then i * (s.vds n x : Rat) / 1000000 else i * i * s.ron n sw (s.tjSw n sw) / 1000000000

/-- Mean power of a switch over the 25 samples of a step, W (06 R164): those in which it conducted. -/
def State.stepPower (s : State) (n sw : Nat) (l : List Sample) : Rat :=
  ((l.filter (fun x => flag x.low = sw)).foldl (fun (a : Rat) x => a + s.samplePower n x) 0) / 25

/-- The samples of a channel in a step; none given means none present. -/
def samplesOf (l : List StepIn) (n : Nat) : List Sample :=
  match l.find? (fun x => x.ch.val = n) with
  | some x => x.samples.toList
  | none => []

/-- IMEAS of a step, 10 mA, truncated towards zero (06 R163). -/
def stepMean (n : Nat) (l : List Sample) : Int := (l.foldl (fun (t : Int) (x : Sample) => t + curMa n x.cur) 0).tdiv 250

/-- Switch sw (0 high side, 1 low side) of channel n is on as its unit's gates stand (04 R101). -/
def State.switchOn (s : State) (n sw : Nat) : Bool :=
  match (s.chan (s.owner n)).gate with
  | .off => false
  | .brake => sw = 1
  | .drive .high => sw = 0
  | .drive .low => sw = 1
  | .drive .fwd => sw = flag (s.bridgeOdd n)
  | .drive .rev => sw = flag (!s.bridgeOdd n)

/-- The samples of a step that the true-up counts: those after the end of the inrush or the adoption (06 R175). -/
def State.trueSamples (s : State) (n : Nat) (l : List Sample) : List Sample :=
  let own := s.chan (s.owner n)
  if (own.st = .on || own.st = .retryOn) && !own.inr then
    (l.zipIdx.filter (fun p => own.inrEnd ≤ sampleTick s.now p.2)).map (·.1)
  else []

/-- The first step after an adoption gives the unit that is on its grant, under the number of its top unit (06 R177); a step of an inrush adds its
switch energy. -/
def State.stepGrant (s : State) (n : Nat) (first : Bool) (w : Rat) : State :=
  let o := s.owner n
  let held := s.holdsGrant o
  if first && (s.chan o).st = .on && (!held || o ≠ n) then
    if held then { s with iso := { s.iso with grants := s.iso.grants.map (fun (g : Grant) => if g.share.ch = o then { g with share := { g.share with ps := g.share.ps + w * 1000 } } else g) } }
    else { s with iso := { s.iso with grants := s.iso.grants ++ [⟨s.topOf o, ⟨o, w * 1000, 0, 0⟩, s.now, false, 0⟩] } }
  else { s with iso := { s.iso with grants := s.iso.grants.map (fun (g : Grant) => if g.share.ch = o && g.inr then { g with uj := g.uj + w * 100 } else g) } }

/-- One step of channel n; `old` is the state before the step, whose estimate Ron uses. -/
def State.chanStep (s old : State) (n : Nat) (steps : List StepIn) : State :=
  if !s.seqUp n then s
  else
    let c := s.chan n
    let l := samplesOf steps n
    let p := fun (sw : Nat) => old.stepPower n sw l
    let poles := c.poles.toList
    let z : Vector Rat 4 := Vector.replicate 4 0
    let pole := fun (sw : Nat) =>
      if c.seed then (if s.switchOn n sw then seedPoles n (p sw) else z) else stepPoles n (poles.getD sw z) (p sw)
    let tl := s.trueSamples n l
    let on := tl.filter (fun x => !x.off)
    let s := s.setChan n { c with poles := #v[pole 0, pole 1], imeas := stepMean n l, seed := false, tuP := tl.foldl (fun (a : Rat) x => a + old.samplePower n x) c.tuP, tuN := c.tuN + tl.length, tuSq := on.foldl (fun (a : Int) x => a + curMa n x.cur * curMa n x.cur) c.tuSq, tuOn := c.tuOn + on.length }
    let s := s.stepGrant n c.seed (p 0 + p 1)
    let w : Rat := (s.pf Pf.isoTjWarn_WARN : Rat) / 10
    let t := s.tj n
    if c.warnArm && w ≤ t then (s.modChan n (fun c => { c with warnArm := false })).isoEvent n 5 0 0 0 0
    else if !c.warnArm && t ≤ w - 5 then s.modChan n (fun c => { c with warnArm := true })
    else s

/-- A step boundary (06 R163 to R168): case sensors, poles, IMEAS, and the refill of E. -/
def execModelStep (g : Lapse) (tcase : List Int) (steps : List StepIn) (s : State) : Host.Outcome State Fault Refusal :=
  let s := s.pass g
  if s.now % 20000 ≠ 0 || !s.pd 3 then .next s
  else
    let old := s
    let s := (List.range 4).foldl (fun s d => s.setDie d { s.dieRec d with tcase := tcase.getD d (s.dieRec d).tcase }) s
    let s := (List.range 64).foldl (fun s n => s.chanStep old n steps) s
    if s.load.held then .next s
    else
      let e := min s.burstCap (s.iso.e + max 0 (s.budget - s.isoS) / 10000)
      .next ({ s with iso := { s.iso with e := e } }.checkOver none)

/-- Bits of an integer square root, from bit k down. -/
def sqrtBits : Nat → Nat → Nat → Nat
  | 0, _, r => r
  | k + 1, n, r => sqrtBits k n (if (r + 2 ^ k) * (r + 2 ^ k) ≤ n then r + 2 ^ k else r)

/-- Integer square root, rounded down. -/
def sqrtNat (n : Nat) : Nat := sqrtBits 24 n 0

/-- RMS current of channel n over the on-phases of the true-up interval, whole mA rounded down (06 R170; DESIGN CHOICE, entry 94). -/
def Chan.rms (c : Chan) : Nat := sqrtNat (c.tuSq.toNat / c.tuOn)

/-- Mean power of leaf n over the true-up interval, both halves of a bridge together, mW (06 R175). -/
def State.meanMw (s : State) (n : Nat) : Rat :=
  (s.halves n).foldl (fun (a : Rat) i => a + (if (s.chan i).tuN = 0 then 0 else (s.chan i).tuP * 1000 / ((s.chan i).tuN : Rat))) 0

/-- Setting the steady power of a request number to a measured value, in proportion to its shares (06 R175). -/
def trueGrants (l : List Grant) (num mw : Nat) : List Grant :=
  let mine := l.filter (fun g => g.num = num)
  let tot := mine.foldl (fun (a : Rat) (g : Grant) => a + g.share.ps) 0
  l.map (fun g => if g.num = num then
    { g with share := { g.share with ps := if tot = 0 then (mw : Rat) / (mine.length : Rat) else g.share.ps * (mw : Rat) / tot } } else g)

/-- Setting the shares of a channel's or composite's number to what its leaves measured; the first takes the rounding of the sum. -/
def State.trueShares (s : State) (num : Nat) : List Grant :=
  let new := roundShares ((s.iso.grants.filter (fun g => g.num = num)).map (fun g => (g.share.ch, s.meanMw g.share.ch, 0))) 0
  s.iso.grants.map (fun (g : Grant) => match if g.num = num then new.find? (fun (x : Share) => x.ch = g.share.ch) else none with
    | some x => { g with share := { g.share with ps := x.ps } }
    | none => g)

/-- The unit of a request number is on and every inrush of it has ended (06 R175). -/
def State.trueable (s : State) (num : Nat) : Bool :=
  let mine := s.iso.grants.filter (fun g => g.num = num)
  !mine.isEmpty && mine.all (fun g => !g.inr)

/-- The learned current of channel n, where the interval holds on-phase samples of it in ON (06 R170). -/
def State.learnAt (s : State) (n : Nat) : State :=
  let c := s.chan n
  if c.st = .on && c.tuOn ≠ 0 then { s with iso := { s.iso with learn := s.iso.learn.setIfInBounds n c.rms } } else s

/-- The true-up of one channel's or composite's grant (06 R175). -/
def State.trueUnit (s : State) (num : Nat) : State :=
  if s.trueable num && (s.iso.grants.filter (fun g => g.num = num)).all (fun g => (s.chan g.share.ch).tuN ≠ 0) then
    { s with iso := { s.iso with grants := s.trueShares num } }.checkOver (some num)
  else s

/-- The 10 ms true-up and the learned currents (06 R170, R175). Channels and composites are trued up by the samples of their steps, valves and the
matrix by what is given. -/
def execTrueUp (g : Lapse) (ms : List TrueUpIn) (s : State) : Host.Outcome State Fault Refusal :=
  let s := s.pass g
  if s.now % 2000000 ≠ 0 || !s.pd 3 || s.load.held then .next s
  else
    let s := (List.range 64).foldl State.learnAt s
    let s := (((s.iso.grants.map (·.num)).filter (· < 96)).eraseDups).foldl State.trueUnit s
    let s := (ms.filter (fun m => 96 ≤ m.num.val)).foldl (fun s m =>
      if s.trueable m.num then { s with iso := { s.iso with grants := trueGrants s.iso.grants m.num m.mw } }.checkOver (some m.num) else s) s
    .next ((List.range 64).foldl (fun s n => s.modChan n (fun c => { c with tuP := 0, tuN := 0, tuSq := 0, tuOn := 0 })) s)

/-- The comparison of one channel with its junction sensor (06 R167). -/
def State.diverge (s : State) (n : Nat) (sensor : Int) : State :=
  let c := s.chan n
  let t := s.tj n
  let d := t - (sensor : Rat) / 10
  let lim : Rat := (s.pf Pf.isoDiverge_DIV : Rat) / 10
  if (if d < 0 then -d else d) ≤ lim then s.setChan n { c with diverged := 0 }
  else if c.diverged + 1 < 10 then s.setChan n { c with diverged := c.diverged + 1 }
  else
    let tc : Rat := ((s.dieRec (dieOf n)).tcase : Rat) / 10
    let sum := t - tc
    let want := (sensor : Rat) / 10 - tc
    let s := s.setChan n { c with diverged := 0, poles := c.poles.map (fun v => v.map (fun x => if sum = 0 then want / 4 else x * (want / sum))) }
    let s := s.setDie (dieOf n) { s.dieRec (dieOf n) with diverge := satInc 0xFFFF (s.dieRec (dieOf n)).diverge }
    s.isoEvent n 4 0 0 0 0

/-- The estimates are compared with the sensors at a window boundary (06 R167). -/
def execDivergenceCheck (g : Lapse) (sensors : List (Nat × Int)) (s : State) : Host.Outcome State Fault Refusal :=
  let s := s.pass g
  if s.now % 200000 ≠ 0 then .next s
  else .next (sensors.foldl (fun s p => if p.1 < 64 && s.seqUp p.1 then s.diverge p.1 p.2 else s) s)

/-! ### Parameters (06 R178) -/

/-- BUDGET ≤ PEAK and CAP ≤ (PEAK − BUDGET) × 1 s, on the values that a write or a set leaves. -/
def State.isoRelOk (s : State) : Bool :=
  s.pf Pf.isoBudgetW_BUDGET ≤ s.pf Pf.isoPeakW_PEAK
    && s.pf Pf.isoBurstMj_CAP + s.pf Pf.isoBudgetW_BUDGET ≤ s.pf Pf.isoPeakW_PEAK

end Sys2Proof.Machine
end

