-- ==== Sys2Proof/Machine/Contour.lean ====
section
/-!
DEFINITION. Contour telemetry (06 R179 to R186): the two codes of a window, blocks and datagrams.
-/
namespace Sys2Proof.Machine

/-! ### Piecewise-linear mode (06 R180) -/

/-- The reconstruction y(k) of a segment from a to x over n samples: round(z) = floor(z + 1/2). -/
def lineAt (a x : Int) (n k : Nat) : Int := (2 * (a * n + (x - a) * k) + n) / (2 * n)

/-- `valid(a, i, n)`: every sample before the segment's end lies within ε of the line. -/
def segValid (eps : Nat) (a : Int) (xs : List Int) (n : Nat) : Bool :=
  let e := xs.getD (n - 1) 0
  (List.range (n - 1)).all (fun k => (lineAt a e n (k + 1) - xs.getD k 0).natAbs ≤ eps)

/-- The greedy length of a segment that starts before the samples `xs`: the first invalid length ends the search. -/
def segLen (eps : Nat) (a : Int) (xs : List Int) : Nat → Nat → Nat
  | 0, n => n
  | f + 1, n => if n + 1 ≤ xs.length && segValid eps a xs (n + 1) then segLen eps a xs f (n + 1) else n

/-- A record is the list of its words, which no block splits. -/
abbrev Rec := List Nat

/-- A sample as 12 bits. -/
def code12 (x : Int) : Nat := unsignedOf 12 x

/-- The SEG records of a run of present samples (06 R180, R183). -/
def segRecs (eps : Nat) : Nat → Int → List Int → List Rec
  | 0, _, _ => []
  | _, _, [] => []
  | f + 1, a, xs =>
    let n := segLen eps a xs 250 1
    let e := xs.getD (n - 1) 0
    [1 + 16 * n + 4096 * code12 e] :: segRecs eps f e (xs.drop n)

/-! ### Rice mode (06 R184) -/

/-- Deltas, zigzag-mapped. -/
def zigzag : Int → List Int → List Nat
  | _, [] => []
  | a, x :: l => (let d := x - a; if 0 ≤ d then (2 * d).toNat else (-2 * d - 1).toNat) :: zigzag x l

/-- `n` bits of a value, most significant first. -/
def msbBits (n v : Nat) : List Bool := (List.range n).map (fun i => v.testBit (n - 1 - i))

/-- The code of one value. -/
def riceBits (k u : Nat) : List Bool :=
  let q := u >>> k
  if q < 24 then List.replicate q true ++ [false] ++ msbBits k u else List.replicate 24 true ++ msbBits 13 u

/-- Bits of a list of values at K. -/
def riceAll (k : Nat) (us : List Nat) : List Bool := (us.map (riceBits k)).flatten

/-- The K of 0 to 12 with the fewest bits, the lowest on a tie. -/
def riceK (us : List Nat) : Nat :=
  (List.range 13).foldl (fun b k => if (riceAll k us).length < (riceAll b us).length then k else b) 0

/-- Payload words: bits fill each word from bit 0 upwards. -/
def packBits : Nat → List Bool → List Nat
  | 0, _ => []
  | _, [] => []
  | f + 1, bs => maskOf ((List.range 32).filter (fun i => bs.getD i false)) :: packBits f (bs.drop 32)

/-- The RICE record of a run of present samples. -/
def riceRec (a : Int) (xs : List Int) : Rec :=
  let us := zigzag a xs
  let k := riceK us
  let bs := riceAll k us
  (3 + 16 * k + 256 * bs.length + 1048576 * xs.length) :: packBits 110 bs

/-! ### Windows (06 R179, R182, R183, R186) -/

/-- A window as runs of present samples and gaps. -/
def runsOf : List (Option Int) → List (List Int ⊕ Nat)
  | [] => []
  | some x :: l =>
    match runsOf l with
    | .inl xs :: r => .inl (x :: xs) :: r
    | r => .inl [x] :: r
  | none :: l =>
    match runsOf l with
    | .inr n :: r => .inr (n + 1) :: r
    | r => .inr 1 :: r

/-- Sample and GAP records of a window, from the sample before it. -/
def sampleRecs (rice : Bool) (eps : Nat) : Int → List (List Int ⊕ Nat) → List Rec
  | _, [] => []
  | a, .inr n :: l => [5 + 16 * n] :: sampleRecs rice eps a l
  | a, .inl xs :: l => (if rice then [riceRec a xs] else segRecs eps 250 a xs) ++ sampleRecs rice eps (xs.getLastD a) l

/-- MINMAX of the present samples. -/
def minmaxRec (num : Nat) (xs : List Int) : Rec :=
  match xs with
  | [] => [2 + 16 * (Config.noSample num % 4096) + 65536 * (Config.noSample num % 4096)]
  | x :: l => [2 + 16 * code12 (l.foldl min x) + 65536 * code12 (l.foldl max x)]

/-- TRIP records, with the stamp in two words (06 R183). -/
def tripRecs (l : List (Nat × Nat)) : List Rec := l.map (fun p => [4 + 16 * p.1, p.2 % 2 ^ 32, p.2 / 2 ^ 32])

/-- Packing records into blocks of at most 255 words, none split (06 R182). -/
def packRecs : List Rec → List Nat → List (List Nat)
  | [], cur => if cur.isEmpty then [] else [cur]
  | r :: l, cur => if cur.length + r.length ≤ 255 then packRecs l (cur ++ r) else cur :: packRecs l r

/-- Present samples of a window. -/
def presentOf (l : List (Option Int)) : List Int := l.filterMap id

/-- The samples of a window as values of their codes: current two's complement, voltage unsigned (06 R161, R183). -/
def winVals (w : StreamWin) : List (Option Int) :=
  w.samples.toList.map (fun x => x.map (fun v => if w.sig = 0 then v.toInt else (v.toNat : Int)))

/-- EPS and EN of a stream in a configuration value (06 R188). -/
def streamCfg (v sig : Nat) : Nat × Bool := (bitsOf v (4 * sig) 4, v.testBit (8 + sig))

/-- The blocks of one stream's window. An overflow sends GAP with REASON 1, MINMAX and TRIP alone (06 R186). -/
def State.streamBlocks (s : State) (w : StreamWin) (win : Nat) (full : Bool) : List CtrBlock :=
  let cfg := streamCfg ((kvGet w.ch s.ctr.inForce).getD 0) w.sig
  let id := 2 * w.ch.val + w.sig.val
  let a := (((s.ctr.last.find? (fun p => p.1 = id)).map (·.2)).getD 0)
  let rice := cfg.1 = 0
  let trips := tripRecs ((s.chan w.ch).trips.filter (fun p => p.2 < s.now))
  let mm := [minmaxRec id (presentOf (winVals w))]
  let recs := if full then [5 + 16 * 250 + 4096] :: (mm ++ trips)
    else sampleRecs rice cfg.1 a (runsOf (winVals w)) ++ (if rice then [] else mm) ++ trips
  (packRecs recs []).map (fun ws => ⟨win, w.ch, w.sig, flag rice, cfg.1, code12 a, ws⟩)

/-- A window in order of 2 × CH + SIG. -/
def insertWin (w : StreamWin) : List StreamWin → List StreamWin
  | [] => [w]
  | x :: l => if 2 * w.ch.val + w.sig.val < 2 * x.ch.val + x.sig.val then w :: x :: l else x :: insertWin w l

/-- Keeping the last present sample of every stream, the next ANCHOR. -/
def keepLast (l : List (Nat × Int)) (w : StreamWin) : List (Nat × Int) :=
  match (presentOf (winVals w)).getLast? with
  | none => l
  | some x => kvPut (2 * w.ch.val + w.sig.val) x l

/-- Configurations as written at this tick, in force from this boundary (06 R179). -/
def State.ctrCfgs (s : State) : List (Nat × Nat) :=
  (List.range 64).filterMap (fun n => let v := s.parOf (0x1D00 + 4 * n) 0; if v = 0 then none else some (n, v))

/-- A 1 ms window ends (06 R179, R186): every enabled stream with data is coded while PD15 is on, with the trips stamped before its end (02 R61); a trip
of this tick belongs to the next window. Written configurations come into force. -/
def execContourWindowEnd (g : Lapse) (ws : List StreamWin) (s : State) : Host.Outcome State Fault Refusal :=
  let s := s.pass g
  if s.now % 200000 ≠ 0 || s.now = 0 || !s.pd 3 then .next s
  else
    let win := s.now / 200000 - 1
    let en := (ws.foldl (fun l w => insertWin w l) []).filter (fun w => (streamCfg ((kvGet w.ch s.ctr.inForce).getD 0) w.sig).2)
    let full := 64 ≤ s.ctr.queue.length
    let bs := if s.pd 15 then (en.map (fun w => s.streamBlocks w win full)).flatten else []
    let s' := { s with ctr := { s.ctr with queue := if bs.isEmpty then s.ctr.queue else s.ctr.queue ++ [(win, bs)], inForce := s.ctrCfgs, last := ws.foldl keepLast s.ctr.last } }
    .next (if s.pd 15 then (List.range 64).foldl (fun s n => if (s.chan n).trips.isEmpty then s else s.modChan n (fun c => { c with trips := c.trips.filter (fun p => s.now ≤ p.2) })) s' else s')

/-! ### Datagrams (06 R181, R182) -/

/-- A block as words: its header word and its records. -/
def CtrBlock.wordsOut (b : CtrBlock) : List Nat :=
  (b.ch + 64 * b.sig + 128 * b.mode + 256 * b.eps + 4096 * b.anchor + 2 ^ 24 * b.words.length) :: b.words

/-- As many whole blocks as one datagram of 1,472 bytes holds: those taken, and those left. -/
def takeBlocks : Nat → List CtrBlock → List CtrBlock × List CtrBlock
  | _, [] => ([], [])
  | room, b :: l =>
    let n := 4 * (1 + b.words.length)
    if n ≤ room then let r := takeBlocks (room - n) l; (b :: r.1, r.2) else ([], b :: l)

/-- A datagram's bytes (06 R181). -/
def ctrDatagram (seq win : Nat) (bs : List CtrBlock) : List Byte :=
  let body := leBytes 8 win ++ ((bs.map CtrBlock.wordsOut).flatten.map (leBytes 4)).flatten
  let head := leBytes 1 1 ++ leBytes 1 0 ++ leBytes 2 seq
  head ++ leBytes 4 (crc32c (head ++ body)) ++ body

/-- The next datagram leaves, from and to port `atlas.udp_port` + 1 and to the address of the last valid session-0 request, while session 0 is open
(06 R181); a window that comes to leave with the session closed is not
sent. -/
def execContourDatagramSend (g : Lapse) (s : State) : Host.Outcome State Fault Refusal :=
  let s := s.pass g
  match s.ctr.queue with
  | [] => .next s
  | (win, bs) :: rest =>
    if !s.pd 15 then .next s
    else if !(s.ses 0).isOpen then .next { s with ctr := { s.ctr with queue := rest } }
    else
      let t := takeBlocks 1456 bs
      .next { s with ctr := { s.ctr with queue := if t.2.isEmpty then rest else (win, t.2) :: rest, seq := (s.ctr.seq + 1) % 65536, sent := s.ctr.sent ++ [⟨s.atlas.peerIf, s.atlas.peer, s.pf Pf.atlasUdpPort_PORT + 1, ctrDatagram s.ctr.seq win t.1⟩] } }

/-- Enabling a stream with `atlas.udp_port` at 65,535 is refused with STATE (06 R181). -/
def State.contourStateOk (s : State) (n v : Nat) : Bool :=
  let old := s.parOf (0x1D00 + 4 * n) 0
  !(s.pf Pf.atlasUdpPort_PORT = 65535 && ((v.testBit 8 && !old.testBit 8) || (v.testBit 9 && !old.testBit 9)))

end Sys2Proof.Machine
end

