-- ==== Sys2Proof/Machine/Interlock.lean ====
section
/-!
DEFINITION. The interlock line and the redundant pair (13 R348 to R360): pair states, release, mirroring, comparison,
switch-over and the proof test.
-/
namespace Sys2Proof.Machine

/-- Changing the pair's record. -/
def State.modIl (s : State) (f : Intlk → Intlk) : State := { s with il := f s.il }

/-- Fields of `twin.pair` in ticks and windows (13 R361). -/
def State.holdoffTk (s : State) : Nat := msTk (10 * s.pf Pf.twinPair_HOLDOFF)

/-- Behaviour edition in force (03 R92). -/
def State.be (s : State) : Nat := s.pf Pf.atlasBePin_PIN

/-! ### Shadow states and reports (13 R352, R353) -/

/-- A channel is commanded on: in any state but OFF, or off by FEED_LOST (13 R353). -/
def State.commandedOn (s : State) (n : Nat) : Bool :=
  (s.chan (s.owner n)).st ≠ .off || (s.chan (s.owner n)).offBy = 0x20

/-- DUALFED channels. -/
def State.duals (s : State) : List Nat := (List.range 64).filter s.dualFed

/-- ONMASK, FAILMASK and PULSEMASK of a report (13 R353). -/
def State.onMask (s : State) : Nat := maskOf (s.duals.filter s.commandedOn)
def State.failMask (s : State) : Nat :=
  maskOf ((s.duals.filter s.commandedOn).filter (fun n =>
    let c := s.chan (s.owner n)
    match c.st with | .latched | .retryWait | .off => true | _ => c.lostAt.isSome))
def State.pulseMask (s : State) : Nat := maskOf (s.duals.filter (fun n => s.pulsing (s.topOf n)))

/-- Duty of a pulsing channel. -/
def State.dutyOf (s : State) (n : Nat) : Nat := match s.pmem (s.topOf n) with | some (_, m) => m.duty | none => 0

/-- The bytes of a report (13 R353). -/
def pairReportBytes (r : PairReport) : List Byte :=
  leBytes 4 r.window ++ leBytes 8 r.stamp ++ leBytes 8 r.on ++ leBytes 8 r.fail ++ leBytes 8 r.pulse ++ leBytes 8 r.inputs
    ++ (r.duty.map (leBytes 2)).flatten

/-- With the link up, a device reports its pair state on CTL (13 R350): role, whether it pulls the line, its TWIN_ID. -/
def State.sendRole (s : State) : State := s.sendCtl 3 (s.il.role + flag s.il.pull <<< 3 + flag s.il.twinId <<< 4)

/-- The shadow grants of a device that no longer mirrors are given up (13 R352). -/
def State.dropStanding (s : State) : State :=
  (bitList 64 s.il.shadowOn).foldl (fun s n => (if s.holdsGrant n then s.releaseCh n (some 0) else s).withdraw n) s

/-- Forwarded parameter writes, which the standby kept as shadow state, stand when it takes over (13 R352; DEDUCED, entry 102). -/
def State.takeShadowPar (s : State) : State :=
  (s.il.shadowPar.foldl (fun s p => s.setPar (p.1 / 65536) (p.1 % 65536) p.2) s).modIl (fun x => { x with shadowPar := [] })

/-- Standing grants of a standby's shadow-on channels, each under its own number (13 R352). -/
def State.standing (s : State) (n : Nat) : State :=
  if s.holdsGrant n || s.iso.pend.any (fun r => r.num = n) then s
  else s.addReq (s.makeReq n .turnOn [n] (s.classPrio n).1 (s.classPrio n).2)

/-! ### Claiming and releasing (13 R349 to R351, R355) -/

/-- Editions and DUALFED masks agree, as far as the partner has reported them (13 R357). -/
def State.pairEqual (s : State) : Bool := !s.il.beValid || (s.il.partnerBe = s.be && s.il.partnerMask = s.dualMask)

/-- The errors and the event of a difference on a device that would be STANDBY (13 R357). -/
def State.noteDiff (s : State) : State :=
  let s := if s.il.beValid && s.il.partnerBe ≠ s.be then (s.pairErr 4).pairEvent 0 7 s.il.partnerBe else s
  if s.il.beValid && s.il.partnerMask ≠ s.dualMask then s.pairErr 8 else s

/-- The line is low: STANDBY, or WATCH where editions or masks differ; shadow-on channels ask for their standing grants
(13 R349, R352, R357). -/
def State.standBy (s : State) : State :=
  let s := s.modIl (fun x => { x with role := if s.pairEqual then 3 else 4, heardAt := s.now, run := 0, decided := none, blocked := false, idleAt := none })
  let s := if s.pairEqual then s else s.noteDiff
  ((bitList 64 s.il.shadowOn).foldl (fun s n => s.standing n) s).sendRole

/-- A STANDBY device goes to WATCH where editions or DUALFED sets differ, and back where both are equal again (13 R349, R357). -/
def State.watchOrStandby (s : State) : State :=
  if s.il.role = 3 && !s.pairEqual then (s.modIl (fun x => { x with role := 4 })).noteDiff.sendRole
  else if s.il.role = 4 && s.pairEqual then (s.modIl (fun x => { x with role := 3, heardAt := s.now, run := 0 })).sendRole
  else s

/-- SWITCH_OVER is sent once the gap has ended and CAUSE is settled (13 R355). -/
def State.settleOver (s : State) : State :=
  match s.il.swOver with
  | some (_, some c) =>
    if s.il.gapEnd then
      (s.modIl (fun x => { x with swOver := none, cause := c })).pairEvent 0 3 s.il.gapLast
    else s
  | _ => s

/-- Recording the gap from r to this tick (13 R355). -/
def State.recordGap (s : State) : State :=
  let gap := s.now - s.il.relAt
  s.modIl (fun x => { x with gapLast := gap, gapMax := max x.gapMax gap, gapEnd := true })

/-- A shadow-on channel turns on at a claim: at once on its standing grant, else it waits for its deferred grant (13 R355). -/
def State.takeOver (s : State) (n : Nat) : State :=
  let c := s.chan n
  if c.st = .latched then s
  else if s.holdsGrant n then
    let s := s.setChan n { c with st := .inrush }
    let s := if s.il.shadowPulse.testBit n then
        match s.pmem n with
        | some (g, m) => s.modMem g n (fun y => { y.join (s.genOf g).start (s.genOf g).per (s.minWidth n) s.now with pulsing := true, start := false, duty := (kvGet n s.il.shadowDuty).getD m.duty })
        | none => s
      else s
    s.gateOn n
  else s.setChan n { c with st := .grantWait }

/-- Claiming the line (13 R349, R350, R355). -/
def State.claim (s : State) (takeover : Bool) : State :=
  let il := s.il
  let s := (s.modIl (fun x => { x with role := 2, pull := true, claimAt := some s.now, leaseAt := s.now, run := 0, decided := none, blocked := false, idleAt := none })).sendRole
  if !takeover then s.modIl (fun x => { x with cause := 0 })
  else
    let s := s.takeShadowPar
    let cause := match il.decided with
      | some (_, c) => some c
      | none => match il.pCause with | some (c, t) => if s.now ≤ t + 2000 then some c else none | none => none
    let on := bitList 64 il.shadowOn
    let s := s.modIl (fun x => { x with switches := satInc 0xFFFF x.switches, swOver := some (s.now, cause), gapEnd := false, relAt := Config.relStamp s.now, lastTs := Config.relStamp s.now, pCause := none })
    let ready := on.any s.holdsGrant
    let s := on.foldl (fun s n => s.takeOver n) s
    let s := s.modIl (fun x => { x with shadowOn := 0, shadowPulse := 0, shadowDuty := [] })
    (if ready then s.recordGap else s).settleOver

/-- A DUALFED channel, or a PARALLEL composite of them as one channel on its lead, is turned off by hardware (13 R351, 04 R104, 05 R139). -/
def State.dualOffAt (s : State) (n : Nat) : State :=
  let c := s.chan n
  let s0 := s
  let s := (s.gang n).foldl (fun s i => s.dieEvent i 3) s
  if c.st = .off || c.st = .latched then (s.gang n).foldl (fun s i => s.modChan i (fun x => if x.energised then x.gateOff s.now else x)) s
  else
    let u := s.topOf n
    let s := (s.gang n).foldl (fun s i => (s.dropCh i .off none).modChan i (fun c => { c with fault := 0x21, offBy := 0x21 })) s
    let s := s.unresolved s0 n
    let s := s.leafEvent s0 n 0x21 8 (10 * c.imeas)
    if (s.leavesOf u).all (fun i => (s.chan i).st = .off || (s.chan i).st = .latched) then (s.endPulse u).failCmd u 0x21 else s

/-- Every DUALFED channel of the device is turned off by hardware (13 R351, 04 R104). -/
def State.dualOff (s : State) : State := (s.duals.filter (fun n => s.lead n = n)).foldl State.dualOffAt s

/-- Keeping the commanded states as shadow states (13 R351). -/
def State.keepShadow (s : State) : State :=
  let on := s.onMask
  let pulse := s.pulseMask
  s.modIl (fun x => { x with shadowOn := on, shadowPulse := pulse, shadowDuty := (bitList 64 pulse).map (fun n => (n, s.dutyOf n)), shadowPar := [] })

/-- Letting the line go into IDLE with holdoff (13 R349, R350, R351). -/
def State.letGo (s : State) (cause : Nat) : State :=
  let s := s.keepShadow.dualOff
  (s.modIl (fun x => { x with role := 1, pull := false, claimAt := none, swOver := none, cause := cause, holdoff := some (s.now + s.holdoffTk), relAt := s.now })).sendRole

/-- A release at this tick (13 R351). -/
def State.release (s : State) (cause : Nat) : State :=
  if s.il.role ≠ 2 then s else (s.letGo cause).sendCtl 4 cause

/-- The claims out of IDLE (13 R349): the TWIN_ID-low device at once, the other after IDLECLAIM ms; none in holdoff, with YIELD
or with ID_CLASH (13 R350). -/
def State.mayClaim (s : State) : Bool :=
  s.il.role = 1 && s.il.taken && s.il.line && s.il.holdoff.isNone && !s.il.ctrl.testBit 2 && !s.il.err.testBit 3

/-- The transitions that the level of the line makes (13 R349). -/
def State.lineActs (s : State) : State :=
  if !s.il.taken then s
  else if s.il.line then
    (if s.mayClaim && !s.il.twinId then s.claim false
     else if s.il.role = 3 || s.il.role = 4 then
       (if s.il.ctrl.testBit 2 then (s.dropStanding.modIl (fun x => { x with role := 1, decided := none })).sendRole else s.claim true)
     else s)
  else if s.il.role = 1 then s.standBy
  else s

/-- A line level is taken (13 R348, R349). A proof test's first gap ends for the old active when it sees the line low. -/
def execIntlkLineChange (g : Lapse) (high : Bool) (s : State) : Host.Outcome State Fault Refusal :=
  let s := s.pass g
  let s := s.modIl (fun x => { x with line := high, lineAt := s.now, taken := true })
  let s := if s.il.proofOn && s.il.proofStep = 1 && s.il.role = 1 && !high then
      s.modIl (fun x => { x with proofGap := s.now - x.relAt }) else s
  .next s.lineActs

/-- The TWIN_ID-high device has seen the line high for IDLECLAIM ms (13 R349). -/
def execIdleClaimTimer (g : Lapse) (s : State) : Host.Outcome State Fault Refusal :=
  let s := s.pass g
  if s.mayClaim && s.il.twinId && s.expired s.il.lineAt (msTk (s.pf Pf.twinPair_IDLECLAIM)) then .next (s.claim false)
  else .next s

/-- The line is looked at after a claim (13 R350, R355): low confirms it, high 200 tk after it sets STUCK_HIGH. -/
def execClaimCheck (g : Lapse) (low : Bool) (s : State) : Host.Outcome State Fault Refusal :=
  let s := s.pass g
  match s.il.claimAt with
  | none => .next s
  | some t =>
    if low then
      let s := s.modIl (fun x => { x with claimAt := none })
      .next (if s.il.swOver.isSome && !s.il.gapEnd then s.recordGap.settleOver else s)
    else if s.expired t 200 then .next (((s.letGo s.il.cause).pairErr 0).pairEvent 0 9 0)
    else .next s

/-- The holdoff after a release ends (13 R349). -/
def execHoldoffEnd (g : Lapse) (s : State) : Host.Outcome State Fault Refusal :=
  let s := s.pass g
  match s.il.holdoff with
  | none => .next s
  | some e => if e ≤ s.now then .next (s.modIl (fun x => { x with holdoff := none })).lineActs else .next s

/-- The partner's pair state arrives on CTL (13 R350, R351, R355). -/
def execPairStateReport (g : Lapse) (p : PairPeer) (s : State) : Host.Outcome State Fault Refusal :=
  let s := s.pass g
  if !s.twin.up then .next s
  else
    let s := s.modIl (fun x => { x with pRole := p.role, pPull := p.pull, pTwinId := p.twinId })
    let s := if p.twinId = s.il.twinId && !s.il.err.testBit 3 then (s.pairErr 3).pairEvent 0 0x0E (flag s.il.twinId) else s
    let s := match p.cause with
      | none => s
      | some c =>
        match s.il.swOver with
        | some (t, none) => if s.now ≤ t + 2000 then (s.modIl (fun x => { x with swOver := some (t, some c) })).settleOver else s
        | _ => s.modIl (fun x => { x with pCause := some (c, s.now) })
    let s := if s.il.role = 2 && p.role = 2 then
        let s := (s.pairErr 2).pairEvent 0 8 0
        if s.il.twinId then s.release 7 else s
      else s
    .next (s.modIl (fun x => { x with idleAt := if x.role = 3 && !x.line && !p.pull then some (x.idleAt.getD s.now) else none }))

/-- The line is low for 2,000 tk while the partner reports that it is not pulling (13 R350). -/
def execStuckLow (g : Lapse) (s : State) : Host.Outcome State Fault Refusal :=
  let s := s.pass g
  match s.il.idleAt with
  | none => .next s
  | some t =>
    if s.il.role = 3 && s.twin.up && !s.il.line && s.expired t 2000 then
      .next (((s.modIl (fun x => { x with idleAt := none })).pairErr 1).pairEvent 0 9 1)
    else .next s

/-- The lease: 240,000 tk without a report (13 R351). -/
def State.leaseOver (s : State) : Bool := s.il.role = 2 && s.expired s.il.leaseAt 240000

/-- A DUALFED channel of a device with SELFREL is in FEED_LOST (13 R351). -/
def State.selfRelDue (s : State) : Bool :=
  s.il.role = 2 && s.il.ctrl.testBit 1 && s.duals.any (fun n => (s.chan n).lostAt.isSome)

/-- A release (13 R351): a RELEASE message that arrives for a mismatch (1), a missing report (2) or the exchange back of a
proof test (5), or one of the device's own cases, which is due. -/
def execIntlkRelease (g : Lapse) (cause : Nat) (s : State) : Host.Outcome State Fault Refusal :=
  let s := s.pass g
  let due := if cause = 1 || cause = 2 then s.twin.up
    else if cause = 3 then s.selfRelDue
    else if cause = 4 then s.leaseOver
    else if cause = 5 then s.twin.up || (s.il.proofOn && s.il.proofStep = 0 && s.now % 200000 = 0)
    else if cause = 6 then s.il.ctrl.testBit 2
    else false
  .next (if due then s.release cause else s)

/-- LEASE_EXPIRY (13 R351). -/
def execLeaseExpiry (g : Lapse) (s : State) : Host.Outcome State Fault Refusal :=
  let s := s.pass g
  .next (if s.leaseOver then s.release 4 else s)

/-! ### Mirroring and comparison (13 R352 to R354) -/

/-- A command that the active device forwarded changes the shadow state (13 R352). -/
def execForwardedCommand (g : Lapse) (f : FwdCmd) (s : State) : Host.Outcome State Fault Refusal :=
  let s := s.pass g
  if !s.twin.up || !(s.il.role = 3 || s.il.role = 4) then .next s
  else
    match f with
    | .chan n on =>
      let s := s.modIl (fun x => { x with shadowOn := putBits x.shadowOn n 1 (flag on), shadowPulse := if on then x.shadowPulse else putBits x.shadowPulse n 1 0 })
      if on then .next (s.standing n)
      else .next (if s.holdsGrant n then (s.releaseCh n (some 0)).withdraw n else s.withdraw n)
    | .pulse n on duty =>
      let s := s.modIl (fun x => { x with shadowOn := if on then putBits x.shadowOn n 1 1 else x.shadowOn, shadowPulse := putBits x.shadowPulse n 1 (flag on), shadowDuty := kvPut n duty x.shadowDuty })
      .next (if on then s.standing n else s)
    | .param w =>
      let duty := Pf.genMember_DUTY.of w.val
      let us := if 0x1C00 ≤ w.id && w.id < 0x1D00 && w.id % 16 = 2 then s.leavesOf w.idx else []
      .next (s.modIl (fun x => { x with shadowPar := kvPut (parKey w.id w.idx) w.val x.shadowPar, shadowDuty := us.foldl (fun l n => kvPut n duty l) x.shadowDuty }))

/-- The report of the window that ends now (13 R353). -/
def State.makeReport (s : State) (inputs : Nat) : PairReport :=
  let p := s.pulseMask
  ⟨s.now / 200000 - 1, s.now, s.onMask, s.failMask, p, inputs, (bitList 64 p).map s.dutyOf⟩

/-- Debounced states of the mirrored inputs (13 R353). -/
def State.mirrored (s : State) : Nat :=
  maskOf ((List.range 48).filter (fun i => (s.inp.toList.getD i {}).state)) &&& s.pf Pf.twinMirror_SW

/-- At the end of each window the active device generates its report, which refreshes the lease (13 R353); a proof test's
release comes at the same boundary (R356). -/
def execPairReport (g : Lapse) (s : State) : Host.Outcome State Fault Refusal :=
  let s := s.pass g
  if s.il.role ≠ 2 || !s.il.ctrl.testBit 0 || s.now % 200000 ≠ 0 || !s.atlas.ready || !s.pd 3 then .next s
  else
    let r := s.makeReport s.mirrored
    let s := (s.modIl (fun x => { x with leaseAt := s.now, report := some r })).sendCtlMsg ⟨6, r.window, s.now, pairReportBytes r⟩
    .next (if s.il.proofOn && s.il.proofStep = 0 then (s.modIl (fun x => { x with proofStep := 1 })).release 5 else s)

/-- The channels on which a report differs from the shadow state (13 R354). -/
def State.differs (s : State) (r : PairReport) : List Nat :=
  let ps := bitList 64 r.pulse
  (List.range 64).filter (fun n => r.on.testBit n ≠ s.il.shadowOn.testBit n
    || (match firstIdx (fun p => decide (p = n)) ps 0 with
        | some i => r.duty.getD i 0 ≠ (kvGet n s.il.shadowDuty).getD 0
        | none => false))

/-- A switch-over is decided (13 R354): RELEASE is sent while the link is up, and the standby waits for the line. -/
def State.decideOver (s : State) (cause : Nat) : State :=
  (s.modIl (fun x => { x with decided := some (s.now, cause), blocked := false })).sendCtl 5 cause

/-- Three mismatched windows in a row (13 R354): at most one switch-over in a second. -/
def State.misDecide (s : State) : State :=
  match s.il.lastMis with
  | some t =>
    if s.expired t 200000000 then (s.modIl (fun x => { x with lastMis := some s.now })).decideOver 1
    else ((s.modIl (fun x => { x with role := 4 })).pairErr 9).sendRole
  | none => (s.modIl (fun x => { x with lastMis := some s.now })).decideOver 1

/-- A mirrored input shows the debounced state of the report (13 R352). -/
def State.takeInputs (s : State) (m : Nat) : State :=
  (bitList 48 (s.pf Pf.twinMirror_SW)).foldl (fun s i =>
    { s with inp := s.inp.setIfInBounds i { s.inp.toList.getD i {} with state := m.testBit i, cand := 0 } }) s

/-- The standby takes a report (13 R352, R354). WATCH mirrors and does not compare (R357). -/
def execReportCompare (g : Lapse) (r : PairReport) (s : State) : Host.Outcome State Fault Refusal :=
  let s := s.pass g
  if !s.twin.up || !(s.il.role = 3 || s.il.role = 4) then .next s
  else
    let s := s.modIl (fun x => { x with heardAt := s.now, inputs := r.inputs })
    let s := s.takeInputs r.inputs
    if s.il.role = 4 then .next s
    else
      let d := s.differs r
      let bad := !d.isEmpty || r.fail ≠ 0
      let ch := d.headD 0xFF
      let s := s.modIl (fun x => { x with compared := satInc 0xFFFFFFFF x.compared, proofCnt := if x.proofOn && x.proofStep = 1 then x.proofCnt + 1 else x.proofCnt, proofBad := x.proofBad || (x.proofOn && bad) })
      if !bad then .next (s.modIl (fun x => { x with run := 0 }))
      else
        let s := s.modIl (fun x => { x with mismatch := satInc 0xFFFFFFFF x.mismatch, run := min 3 (x.run + 1), firstCh := ch })
        let s := s.pairEvent 0 4 ch
        .next (if s.il.run = 3 && s.il.decided.isNone then s.misDecide else s)

/-- No report for 240,000 tk (13 R354). While the link is down the standby is watch-only (01 R35). -/
def execMissingReport (g : Lapse) (s : State) : Host.Outcome State Fault Refusal :=
  let s := s.pass g
  if s.twin.up && s.il.role = 3 && s.il.decided.isNone && s.expired s.il.heardAt 240000 then .next (s.decideOver 2) else .next s

/-- The line is still low 240,000 tk after the decision (13 R354). -/
def execTakeoverBlocked (g : Lapse) (s : State) : Host.Outcome State Fault Refusal :=
  let s := s.pass g
  match s.il.decided with
  | none => .next s
  | some (t, _) =>
    if (s.il.role = 3 || s.il.role = 4) && !s.il.line && !s.il.blocked && s.expired t 240000 then
      .next (((s.modIl (fun x => { x with blocked := true })).pairErr 7).pairEvent 0 0x0D (s.now - t))
    else .next s

/-- No cause within 2,000 tk of the claim: CAUSE is 10 (13 R355). -/
def execSwitchOverCauseTimeout (g : Lapse) (s : State) : Host.Outcome State Fault Refusal :=
  let s := s.pass g
  match s.il.swOver with
  | some (t, none) =>
    if s.expired t 2000 then .next (s.modIl (fun x => { x with swOver := some (t, some 10) })).settleOver else .next s
  | _ => .next s

/-! ### Proof test (13 R356) -/

/-- A write of INTLK_PROOF (R356, R360). -/
def State.proofWrite (s : State) (v : Nat) : State :=
  let s := if s.il.proofOn then s else s.modIl (fun x => { x with back := v.testBit 1 })
  if !v.testBit 0 || s.il.proofOn then s
  else if s.il.role ≠ 2 || !s.twin.up || s.il.pRole ≠ 3 || !s.pairEqual || s.il.run ≠ 0 then
    s.modIl (fun x => { x with result := 3 })
  else s.modIl (fun x => { x with proofOn := true, proofStep := 0, result := 0, proofCnt := 0, proofBad := false, proofGap := 0 })

/-- PROOF_START: a write of INTLK_PROOF. -/
def execProofStart (g : Lapse) (ini : Initiator) (v : Nat) (s : State) : Host.Outcome State Fault Refusal :=
  .next ((s.pass g).hostWrite ini 0x4004000C (fun s => s.proofWrite v))

/-- The result of a proof test. -/
def State.proofResult (s : State) (pass : Bool) : State :=
  let s := s.modIl (fun x => { x with proofOn := false, proofStep := 0, result := if pass then 1 else 2, proofs := satInc 0xFFFF x.proofs })
  if pass then s.pairEvent 0 5 s.il.proofGap else s.pairEvent 0 6 s.il.proofCnt

/-- The windows of a proof test have been compared, or the exchange back is done, or the new active could not drive. -/
def execProofEnd (g : Lapse) (s : State) : Host.Outcome State Fault Refusal :=
  let s := s.pass g
  if !s.il.proofOn || s.il.proofStep = 0 then .next s
  else if s.il.proofStep = 2 then
    (if s.il.role = 2 && s.il.swOver.isNone then
       .next ((s.modIl (fun x => { x with proofGap := max x.proofGap x.gapLast })).proofResult (s.il.gapLast ≤ 40000))
     else .next s)
  else if s.il.role = 2 then .next (s.proofResult false)
  else if s.pf Pf.twinPair_PROOFWIN ≤ s.il.proofCnt then
    let pass := s.il.proofGap ≤ 40000 && !s.il.proofBad
    if pass && s.il.back then .next ((s.modIl (fun x => { x with proofStep := 2 })).decideOver 5)
    else .next (s.proofResult pass)
  else .next s

/-! ### Editions, control and errors (13 R357, R360) -/

/-- The partner's behaviour edition and DUALFED mask arrive (13 R357). -/
def execEditionReport (g : Lapse) (be mask : Nat) (s : State) : Host.Outcome State Fault Refusal :=
  let s := s.pass g
  if !s.twin.up then .next s
  else
    let s := s.modIl (fun x => { x with partnerBe := be, beValid := true, partnerMask := mask })
    .next s.watchOrStandby

/-- INTLK_CTRL takes a value (13 R349, R351, R360). -/
def State.setCtrl (s : State) (v : Nat) : State :=
  let was := s.il.ctrl
  let s := s.modIl (fun x => { x with ctrl := v % 8 })
  if was.testBit 0 && !v.testBit 0 then
    let s := if s.il.role = 2 then s.release 9 else s.dropStanding
    (s.modIl (fun x => { x with role := 0, pull := false, holdoff := none, decided := none })).sendRole
  else if !was.testBit 0 && v.testBit 0 then (s.modIl (fun x => { x with role := 1 })).sendRole.lineActs
  else if v.testBit 2 && s.il.role = 2 then s.release 6
  else if was.testBit 2 && !v.testBit 2 then s.lineActs
  else s

/-- A direct write of INTLK_CTRL (13 R360). -/
def execIntlkCtrlWrite (g : Lapse) (ini : Initiator) (v : Nat) (s : State) : Host.Outcome State Fault Refusal :=
  .next ((s.pass g).hostWrite ini 0x40040004 (fun s => s.setCtrl v))

/-- INTLK_CTRL from a `twin.cfg` value (13 R360, R361). -/
def ctrlOf (v : Nat) : Nat := Pf.twinCfg_PAIR.of v + 2 * Pf.twinCfg_SELFREL.of v + 4 * Pf.twinCfg_YIELD.of v

/-- A W1C write of INTLK_ERR (13 R360). -/
def State.ilErrClear (s : State) (mask : Nat) : State := s.modIl (fun x => { x with err := x.err - (x.err &&& mask) })

/-- INTLK_ERR_CLEAR. -/
def execIntlkErrClear (g : Lapse) (ini : Initiator) (mask : Nat) (s : State) : Host.Outcome State Fault Refusal :=
  .next ((s.pass g).hostWrite ini 0x40040010 (fun s => s.ilErrClear mask))

end Sys2Proof.Machine
end

