-- ==== Sys2Proof/Machine/FeedMon.lean ====
section
/-!
DEFINITION. The two supply feeds (04 R127, 07 R212, 18 R443): losses, restores, and the windows that follow.
-/
namespace Sys2Proof.Machine

/-- A feed's monitor: in range or not, its voltage, and the stamp of a loss. -/
def State.setFeed (s : State) (f : Feed) (ok : Bool) (volt : Nat) : State :=
  { s with pwr := match f with
    | .a => { s.pwr with aOk := ok, va := volt, aLost := if ok then s.pwr.aLost else s.now }
    | .b => { s.pwr with bOk := ok, vb := volt, bLost := if ok then s.pwr.bLost else s.now } }

/-- The feed is in range. -/
def State.feedInRange (s : State) (f : Feed) : Bool := match f with | .a => s.pwr.aOk | .b => s.pwr.bOk

/-- Leads of the channels bonded to a feed, a PARALLEL composite counting where any member is (05 R139). -/
def State.leadsOn (s : State) (f : Feed) : List Nat :=
  (List.range 64).filter (fun n => s.lead n = n && (s.gang n).any (onFeed f))

/-- The loss of a feed at lead n (04 R104, R127). -/
def State.chanLost (s : State) (n : Nat) : State :=
  let c := s.chan n
  let s0 := s
  let mark := fun (s : State) =>
    let s := s.modChan n (fun c => { c with fault := 0x20, lostAt := some (c.lostAt.getD s.now) })
    s.leafEvent s0 n 0x20 6 (10 * c.imeas)
  match c.st with
  | .inrush | .on | .retryOn => mark ((s.gang n).foldl (fun s i => s.dropCh i .grantWait none) s)
  | .grantWait => mark ((s.gang n).foldl (fun s i => s.withdraw i) s)
  | .retryWait => if c.retryReq then ((s.gang n).foldl (fun s i => s.withdraw i) s).modChan n (fun c => { c with retryReq := false }) else s
  | _ => s

/-- A feed goes out of range (04 R127, 18 R443): every channel bonded to it is off, one without a running sequencer by its die alone; with
SELFREL an active device then releases INTLK (13 R351). -/
def State.loseFeed (s : State) (f : Feed) (volt : Nat) : State :=
  let s := s.setFeed f false volt
  let s := ((List.range 64).filter (onFeed f)).foldl (fun s n => s.dieEvent n 2) s
  let s := ((List.range 64).filter (fun n => onFeed f n && !s.seqUp (s.lead n) && (s.chan n).energised)).foldl (fun s n => s.modChan n (fun c => c.gateOff s.now)) s
  let s := (s.leadsOn f).foldl (fun s n => if s.seqUp n then s.chanLost n else s) s
  if s.selfRelDue then s.release 3 else s

/-- FEED_LOST (04 R127): below the threshold, at most 6.0 V, for 10 µs. -/
def execFeedLost (g : Lapse) (feed : Feed) (volt : Nat) (s : State) : Host.Outcome State Fault Refusal :=
  let s := s.pass g
  .next (if s.feedInRange feed && volt < 600 then s.loseFeed feed volt else s)

/-- OVERVOLTAGE (18 R443): above the threshold, at least 29.0 V, for 10 µs; its banks go off with its channels. -/
def execOvervoltage (g : Lapse) (feed : Feed) (volt : Nat) (s : State) : Host.Outcome State Fault Refusal :=
  let s := s.pass g
  if s.feedInRange feed && 2900 < volt then
    let s := s.loseFeed feed volt
    .next ((match feed with | .a => [0, 1] | .b => [2, 3]).foldl (fun s b => s.bankLost b) s)
  else .next s

/-- A turn-on is abandoned 1 s after the loss (04 R104, R127). -/
def State.abandonLost (s : State) (l : Nat) : State :=
  let c := s.chan l
  let s0 := s
  let s := (s.gang l).foldl (fun s i => s.dropCh i .off none) s
  let s := (s.gang l).foldl (fun s i => s.modChan i (fun c => { c with fault := 0x20, offBy := 0x20 })) s
  let s := s.leafEvent s0 l 0x20 7 (10 * c.imeas)
  if (s.leavesOf (s.topOf l)).all (fun i => (s.chan i).st = .off) then
    (s.endPulse (s.topOf l)).failCmd (s.topOf l) 0x20
  else s

/-- A channel whose feeds are back (04 R127): within 1 s it requests its grant again and RESTORED is set; a later restore
finds the turn-on abandoned. -/
def State.chanRestored (s : State) (n : Nat) : State :=
  let c := s.chan n
  match c.lostAt with
  | none => s
  | some t =>
    if c.st ≠ .grantWait || !s.gangFeedOk n then s
    else if t + 200000000 ≤ s.now then s.abandonLost n
    else
      let s := s.setChan n { c with lostAt := none }
      let s := s.markCmd n (fun x => { x with restored := true })
      if c.revAt.isSome || c.dead.isSome then s else s.requestFor n .turnOn

/-- FEED_RESTORED (04 R127, 18 R443): above the threshold plus 0.5 V, and below 28.5 V, for 10 µs. -/
def execFeedRestored (g : Lapse) (feed : Feed) (volt : Nat) (s : State) : Host.Outcome State Fault Refusal :=
  let s := s.pass g
  if !s.feedInRange feed && 550 < volt && volt < 2850 then
    let s := s.setFeed feed true volt
    .next ((s.leadsOn feed).foldl (fun s n => if s.seqUp n then s.chanRestored n else s) s)
  else .next s

/-- FEED_LOST_ABANDON (04 R104). -/
def execFeedLostAbandon (g : Lapse) (n : Fin 64) (s : State) : Host.Outcome State Fault Refusal :=
  let s := s.pass g
  let l := s.lead n
  match (s.chan l).lostAt with
  | none => .next s
  | some t => if (s.chan l).st = .grantWait && s.expired t 200000000 && !s.gangFeedOk l then .next (s.abandonLost l) else .next s

end Sys2Proof.Machine
end

