-- ==== Sys2Proof/Machine/Entry.lean ====
section
/-!
DEFINITION. Arm masks, the selective-wake detectors and how an armed event aborts an entry (09 R246, R250, 11 R304).
-/
namespace Sys2Proof.Machine

/-- The arm mask of a state: 3 DORMANT, else PARK and HOLD (09 R250). -/
def State.armMask (s : State) (target : Nat) : Nat := if target = 3 then s.pf Pf.pwrDormantArm_ARM else s.pf Pf.pwrParkArm_ARM

/-- Changing the power controller's record. -/
def State.modPwr (s : State) (f : Power → Power) : State := { s with pwr := f s.pwr }

/-- Bits [15:8] of LGD_LAST. -/
def State.lgdFlags (s : State) : Nat := bitsOf s.lgd.last.word 8 8

/-- A class-9 event (09 R260). -/
def State.powerEvent (s : State) (unit code src dst by_ : Nat) : State :=
  s.emit 9 unit code (leBytes 1 src ++ leBytes 1 dst ++ leBytes 1 by_ ++ leBytes 1 s.lgdFlags ++ leBytes 4 s.lgd.last.detail)

/-- Coded as TARGET: RUN 0, HOLD 1, PARK 2, DORMANT 3. -/
def DevSt.code : DevSt → Nat
  | .hold => 1
  | .park => 2
  | .dormant => 3
  | _ => 0

/-- Completion payload of POWER_REQ (09 R247). -/
def powerPayload (st code src stamp : Nat) : List Byte :=
  leBytes 1 st ++ leBytes 1 code ++ leBytes 1 src ++ leBytes 5 0 ++ leBytes 8 stamp

/-- An event that the target's mask would take as a wake, stamped at or before c, aborts the entry (09 R246). -/
def State.abortEntry (s : State) (code : Nat) : State :=
  match s.pwr.entry with
  | none => s
  | some e =>
    let st := s.pwr.st.code
    let s := s.modPwr (fun p => { p with entry := none })
    let s := match e.handle with
      | some h => s.complete h St.failed (powerPayload st 1 code s.now)
      | none => s
    s.powerEvent 0 4 st st code

/-- The entry to PARK or DORMANT that has not reached c, if one runs: its target. -/
def State.beforeC (s : State) : Option Nat :=
  match s.pwr.entry with
  | some e => if 2 ≤ e.target && e.step = 1 then some e.target else none
  | none => none

/-- The filter of selective wake (11 R304): classical frames only. -/
def State.wufMatch (s : State) (n : Nat) (f : CanFrame) : Bool :=
  let e := s.parOf 0x3603 (2 * n)
  let dmask := s.parOf 0x3603 (2 * n + 1)
  let mask := bitsOf e 35 29
  f.fmt = 0 && f.xtd = e.testBit 29 && (f.id &&& mask) = (bitsOf e 0 29 &&& mask)
    && (!e.testBit 30 || f.dlc = bitsOf e 31 4) && (dmask = 0 || (leVal f.data &&& dmask) ≠ 0)

/-- Nominal bit of CANn, tk (10 R266). -/
def State.nomBit (s : State) (n : Nat) : Nat := s.pf Pf.canNbt_NBRP n * (1 + s.pf Pf.canNbt_NTSEG1 n + s.pf Pf.canNbt_NTSEG2 n)

/-- The selective-wake detector of CANn decodes its bus: while its port is enabled, from 125 kbit/s to 1 Mbit/s (11 R300, R304). -/
def State.wufDecodes (s : State) (n : Nat) : Bool := n < 4 && s.pb Pf.canCfg_EN n && 200 ≤ s.nomBit n && s.nomBit n ≤ 1600

/-- Changing a detector's error count, while it decodes (11 R304). -/
def State.wufStep (s : State) (n : Nat) (k : Nat → Nat) : State :=
  if s.wufDecodes n then
    { s with agr := { s.agr with wufErr := s.agr.wufErr.setIfInBounds n (k (s.agr.wufErr.toList.getD n 0)) } }
  else s

/-- A correct classical frame subtracts 1 (11 R304). -/
def State.wufSeen (s : State) (n : Nat) (f : CanFrame) : State := if f.fmt = 0 then s.wufStep n (fun k => k - 1) else s

/-- A frame with an error adds 1 (11 R304). -/
def State.wufBad (s : State) (n : Nat) : State := s.wufStep n (fun k => min 32 (k + 1))

/-- A CAN frame before c: selective wake takes precedence over the port's pattern bit (09 R246, R250). -/
def State.entryTraffic (s : State) (n : Nat) (f : CanFrame) : State :=
  match s.beforeC with
  | none => s
  | some t =>
    let m := s.armMask t
    if n < 4 && m.testBit (8 + n) then (if s.wufDecodes n && s.wufMatch n f then s.abortEntry 3 else s)
    else if m.testBit n then s.abortEntry 2 else s

/-- A keep-alive of the device has been sent: in NORMAL the timeout restarts (11 R295, R298). -/
def State.kaSent (s : State) : State := if s.agr.st = .normal then { s with agr := { s.agr with start := s.now, cfg := s.parOf Pid.nsCfg 0, ka := s.parOf Pid.nsKa 0 } } else s

/-- A frame that has been sent is the device's own keep-alive (11 R297). -/
def State.kaSentCan (s : State) (f : CanFrame) : State :=
  if f.fmt = 0 && !f.xtd && f.dlc = 1 && f.id = Pf.nsKa_KABASE.of s.agr.ka + Pf.nsCfg_NODE.of s.agr.cfg then s.kaSent else s

end Sys2Proof.Machine
end

