-- ==== Sys2Proof/Machine/Mem.lean ====
section
/-!
DEFINITION. Memories, the check code and the scrubber (15).
-/
namespace Sys2Proof.Machine

/-! ### The memories (15 R389, 01 R26) -/

/-- Region of an address (R389), none outside the memories. -/
def regionOf (a : Nat) : Option Nat :=
  if a < 0x20000 then some 9
  else if 0x10000000 ≤ a && a < 0x10800000 then some 0
  else if 0x10800000 ≤ a && a < 0x10804000 then some 1
  else if 0x20000000 ≤ a && a < 0x20010000 then some 2
  else if 0x20010000 ≤ a && a < 0x20050000 then some (3 + (a - 0x20010000) / 0x10000)
  else if 0x20100000 ≤ a && a < 0x20140000 then some 7
  else if 0x20140000 ≤ a && a < 0x20144000 then some 8
  else if 0x60000000 ≤ a && a < 0x64000000 then some 10
  else none

/-- Power domain of an address in a memory (R389). -/
def memDomain (a : Nat) : Nat :=
  match regionOf a with
  | some 2 => 1
  | some 7 => 10 + dieOf ((a - 0x20100000) / 0x1000)
  | some 8 => 9
  | some r => if 3 ≤ r && r ≤ 6 then 2 else 3
  | none => 3

/-- The byte at an address: as written, or a value that the manual does not define (R393). -/
def State.byteAt (s : State) (a : Nat) : Byte := (kvGet a s.mem.cells).getD (Config.undefByte s.mem.epoch a)

/-- `n` bytes from an address, as a little-endian value (00 R8). -/
def State.bytesAt (s : State) (a n : Nat) : Nat := leVal ((List.range n).map (fun i => s.byteAt (a + i)))

/-- Cells with the bytes from `a` on replaced, in rising order. -/
def putCells (cs : List Host.Cell) (a : Nat) (bs : List Byte) : List Host.Cell :=
  cs.filter (fun c => c.1 < a) ++ (bs.zipIdx.map (fun p => (a + p.2, p.1))) ++ cs.filter (fun c => a + bs.length ≤ c.1)

/-- Cells without the `n` bytes from `a` on. -/
def dropCells (cs : List Host.Cell) (a n : Nat) : List Host.Cell := cs.filter (fun c => c.1 < a || a + n ≤ c.1)

/-- The canonical form: addresses strictly rising. What an unlisted address reads as has no value in the model, so no listed byte can be
told equal to it (assumption 8). -/
abbrev Mem.wf (m : Mem) : Prop := m.cells.Pairwise (fun a b => a.1 < b.1)

/-! ### The check code (15 R391, R392) -/

/-- Columns of the data bits: the byte values with three bits set, then eight with five (R391). -/
def eccCols : List Nat :=
  (List.range 256).filter (fun v => popCount 8 v = 3) ++ [0x1F, 0x2F, 0x37, 0x3B, 0x3D, 0x3E, 0x4F, 0x57]

/-- Check bits of 64 data bits (R391). -/
def eccOf (d : Nat) : Nat := (eccCols.zipIdx).foldl (fun c p => if d.testBit p.2 then c ^^^ p.1 else c) 0

/-- What a syndrome means (R392): clean, a data bit, a check bit, or uncorrectable. -/
inductive Syn where
  | clean
  | data (i : Nat)
  | check
  | bad
  deriving DecidableEq, Repr

/-- Decoding a syndrome. -/
def synOf (y : Nat) : Syn :=
  if y = 0 then .clean
  else match firstIdx (fun c => c = y) eccCols 0 with
    | some i => .data i
    | none => if popCount 8 y = 1 then .check else .bad

/-- Stored check bits of the doubleword at `a`. The boot ROM and the flash window read clean, since no command of the model flips a bit of
them; those of a doubleword that nothing has written are not defined (R393). -/
def State.chkAt (s : State) (a : Nat) : Nat :=
  match regionOf a with
  | some 9 => eccOf (s.bytesAt a 8)
  | some 10 => eccOf (s.bytesAt a 8)
  | _ => (kvGet a s.mem.chk).getD (Config.undefByte s.mem.epoch (2 ^ 32 + a)).toNat

/-- Syndrome of the doubleword at `a` (R392). -/
def State.synAt (s : State) (a : Nat) : Nat := eccOf (s.bytesAt a 8) ^^^ s.chkAt a

/-! ### Counts, records and events of errors (15 R399) -/

/-- Changing a region's counts by kind: 0 CE_TRANSIENT, 1 CE_LASTING, 2 UE_TRANSIENT, 3 and 7 lasting UEs and timeouts. -/
def MemCnt.add (c : MemCnt) (kind : Nat) : MemCnt :=
  if kind = 0 then { c with cet := satInc 0xFFFF c.cet }
  else if kind = 1 then { c with cel := satInc 0xFFFF c.cel }
  else if kind = 2 then { c with uet := satInc 0xFFFF c.uet }
  else { c with uel := satInc 0xFFFF c.uel }

/-- A class-8 event. -/
def State.memEvent (s : State) (region kind syn port count addr : Nat) : State :=
  s.emit 8 region kind (leBytes 1 syn ++ leBytes 1 port ++ leBytes 2 count ++ leBytes 4 addr)

/-- Filling the error record, while it is clear (R399). -/
def State.memRecord (s : State) (region kind syn port addr : Nat) : State :=
  if s.mem.errInfo.testBit 7 then s
  else { s with mem := { s.mem with errInfo := region + kind <<< 4 + 0x80 + syn <<< 8 + port <<< 16, errAddr := addr } }

/-- One classified error: the counts, the record, the event (R399). CE events are sent at most once per second and region. -/
def State.memError (s : State) (region kind syn port addr : Nat) : State :=
  let inc := fun (v : Vector MemCnt 12) => v.setIfInBounds region ((v.toList.getD region {}).add kind)
  let s := { s with mem := { s.mem with cnt := inc s.mem.cnt, counts := inc s.mem.counts } }
  let s := if 1 ≤ kind then s.memRecord region kind syn port addr else s
  if 2 ≤ kind then s.memEvent region kind syn port 1 addr
  else
    match kvGet region s.mem.evs with
    | some (t, n) =>
      if s.expired t 200000000 then { s with mem := { s.mem with evs := kvPut region (s.now, 0) s.mem.evs } }.memEvent region kind syn port (n + 1) addr
      else { s with mem := { s.mem with evs := kvPut region (t, n + 1) s.mem.evs } }
    | none => { s with mem := { s.mem with evs := kvPut region (s.now, 0) s.mem.evs } }.memEvent region kind syn port 1 addr

/-! ### Reads and writes (15 R392 to R397, R403) -/

/-- Storing a doubleword with given check bits, raw. -/
def State.storeRaw (s : State) (a data chk : Nat) : State :=
  { s with mem := { s.mem with cells := putCells s.mem.cells a (leBytes 8 data), chk := kvPut a chk s.mem.chk } }

/-- Reading the doubleword at `a`: corrected data, or none for an uncorrectable error (R392, R395, R396). A correctable error of a memory
that is written back is transient, since the second read is then clean; in the boot ROM and the flash window it is lasting. -/
def State.readDw (s : State) (port a : Nat) : State × Option Nat :=
  let d := s.bytesAt a 8
  let y := s.synAt a
  let r := (regionOf a).getD 0
  let fix := fun (v : Nat) => if r = 9 || r = 10 then s.memError r 1 y port a else (s.storeRaw a v (eccOf v)).memError r 0 y port a
  match synOf y with
  | .clean => (s, some d)
  | .data i => (fix (d ^^^ (1 <<< i)), some (d ^^^ (1 <<< i)))
  | .check => (fix d, some d)
  | .bad => (s.memError r 3 y port a, none)

/-- Storing a doubleword: new check bits, and the corruption that MEM_FLIP_CTRL.ARM asks of a write to system SRAM (R403). -/
def State.writeDw (s : State) (a data : Nat) : State :=
  let bank := (a - 0x10000000) / 0x80000
  if s.mem.arm && regionOf a = some 0 && (s.mem.flip.testBit 12 || bitsOf s.mem.flip 8 4 = bank) then
    let s' := s.storeRaw a (data ^^^ (s.mem.flipLo + s.mem.flipHi <<< 32)) (eccOf data ^^^ bitsOf s.mem.flip 0 8)
    { s' with mem := { s'.mem with arm := false, done := true, flipAt := a } }
  else s.storeRaw a data (eccOf data)

/-- A read of a memory: code and data (R396). -/
def State.memRead (s : State) (port a size : Nat) : State × Nat × Nat :=
  match s.readDw port (a / 8 * 8) with
  | (s, some d) => (s, 0, bitsOf d (8 * (a % 8)) (8 * size))
  | (s, none) => (s, 6, 0)

/-- A write of a memory: code. A write of less than 64 bits reads and merges first (R394). -/
def State.memWrite (s : State) (port a size v : Nat) : State × Nat :=
  if size = 8 then (s.writeDw a v, 0)
  else
    match s.readDw port (a / 8 * 8) with
    | (s, some d) => (s.writeDw (a / 8 * 8) (putBits d (8 * (a % 8)) (8 * size) v), 0)
    | (s, none) => (s, 6)

/-- Memory content in a range is no longer defined (R393). -/
def State.loseMem (s : State) (a n : Nat) : State :=
  { s with mem := { s.mem with
      cells := dropCells s.mem.cells a n
      chk := s.mem.chk.filter (fun c => c.1 < a || a + n ≤ c.1)
      epoch := s.mem.epoch + 1 } }

/-- Bytes written by Atlas or the flash controller, from an aligned address, with the check bits of whole doublewords. -/
def State.loadBytes (s : State) (a : Nat) (bs : List Byte) : State :=
  let s := { s with mem := { s.mem with cells := putCells s.mem.cells a bs } }
  (List.range (ceilDiv bs.length 8)).foldl
    (fun s i => { s with mem := { s.mem with chk := kvPut (a + 8 * i) (eccOf (s.bytesAt (a + 8 * i) 8)) s.mem.chk } }) s

/-! ### Filter lists (01 R29, 10 R272, 15 R394) -/

/-- Address of an acceptance element. -/
def filterAddr (n i : Nat) : Nat := 0x10800000 + 0x800 * n + 8 * i

/-- An acceptance element as the controller reads it. -/
def State.filterAt (s : State) (n i : Nat) : Nat := s.bytesAt (filterAddr n i) 8

/-- Atlas writes every element of every list after a start (R394). -/
def State.writeFilters (s : State) : State :=
  let vals := ((List.range 8).map (fun n => (List.range 256).map (fun i => s.pf Pf.canFilter_ELEMENT n i))).flatten
  { s with mem := { s.mem with
      cells := putCells s.mem.cells 0x10800000 ((vals.map (leBytes 8)).flatten)
      chk := s.mem.chk.filter (fun c => c.1 < 0x10800000) ++ vals.zipIdx.map (fun p => (0x10800000 + 8 * p.2, eccOf p.1))
        ++ s.mem.chk.filter (fun c => 0x10804000 ≤ c.1) } }

/-! ### The scrubber (15 R400, R401) -/

/-- Doubleword p of the scrubber's order is enabled: 32,768 to a half-bank, then the filter RAM. -/
def State.scrubOn (s : State) (p : Nat) : Bool :=
  if p < 1048576 then s.mem.scrub.testBit (p / 32768) else p < 1050624 && s.mem.scrubF

/-- First enabled doubleword at or after p, looking through `k` half-banks. -/
def State.scrubFrom (s : State) : Nat → Nat → Option Nat
  | 0, _ => none
  | k + 1, p =>
    if 1050624 ≤ p then none
    else if s.scrubOn p then some p
    else s.scrubFrom k (if p < 1048576 then (p / 32768 + 1) * 32768 else 1050624)

/-- Its address. -/
def scrubAddr (p : Nat) : Nat := if p < 1048576 then 0x10000000 + 8 * p else 0x10800000 + 8 * (p - 1048576)

/-- A lap ends (R400). -/
def State.lapEnd (s : State) (a : Nat) : State :=
  let d := s.now - s.mem.lapAt
  let slow := decide (secTk (bitsOf s.mem.ctrl 18 8) < d)
  let s := { s with mem := { s.mem with lap := d / 200000 % 2 ^ 24, laps := satInc 0xFFFF s.mem.laps, slow := slow, lapAt := s.now } }
  if slow then (s.memRecord 0 5 0 8 a).memEvent 0 5 0 8 1 a else s

/-- SCRUB_READ (R400): the next enabled doubleword is read, while the scrubber runs, its bank is idle and GAP tk have passed. -/
def execScrubRead (g : Lapse) (s : State) : Host.Outcome State Fault Refusal :=
  let s := s.pass g
  .next (
    if !(s.mem.ctrl.testBit 0 && s.pd 3 && (s.pwr.st = .run || s.pwr.st = .hold) && s.expired s.mem.readAt (bitsOf s.mem.ctrl 4 14)) then s
    else
      match s.scrubFrom 34 s.mem.pos with
      | none => s
      | some p =>
        let a := scrubAddr p
        if s.fab.inflight.any (fun e => e.req.addr / 0x80000 = a / 0x80000) then s
        else
          let s := (s.readDw 8 a).1
          let s := { s with mem := { s.mem with readAt := s.now } }
          match s.scrubFrom 34 (p + 1) with
          | some q => { s with mem := { s.mem with pos := q } }
          | none => { (s.lapEnd a) with mem := { (s.lapEnd a).mem with pos := (s.scrubFrom 34 0).getD 0 } })

/-! ### MEM registers with an effect of their own (15 R403, R407) -/

/-- A write of MEM_FLIP_CTRL that leaves DONE: arming with both masks 0 has no effect (R403). -/
def State.setFlip (s : State) (v : Nat) : State :=
  let none := s.mem.flipLo = 0 && s.mem.flipHi = 0 && bitsOf v 0 8 = 0
  { s with mem := { s.mem with flip := bitsOf v 0 13, arm := v.testBit 13 && !none } }

/-- MEM_FLIP_ARM (R403): a write of MEM_FLIP_CTRL. -/
def execMemFlipArm (g : Lapse) (ini : Initiator) (v : Nat) (s : State) : Host.Outcome State Fault Refusal :=
  .next ((s.pass g).superWrite ini 0x40090018 (fun s =>
    let s := s.setFlip v
    if v.testBit 14 then { s with mem := { s.mem with done := false } } else s))

/-- MEM_FLIP_DONE_CLEAR (R407). -/
def execMemFlipDoneClear (g : Lapse) (ini : Initiator) (s : State) : Host.Outcome State Fault Refusal :=
  .next ((s.pass g).superWrite ini 0x40090018 (fun s => { s with mem := { s.mem with done := false } }))

/-- MEM_CLR_RECORD (R407). -/
def execMemClrRecord (g : Lapse) (ini : Initiator) (s : State) : Host.Outcome State Fault Refusal :=
  .next ((s.pass g).superWrite ini 0x40090028 (fun s => { s with mem := { s.mem with errInfo := 0, errAddr := 0 } }))

/-- Clearing every memory count (R407). -/
def State.clearMemCounts (s : State) : State :=
  { s with mem := { s.mem with cnt := Vector.replicate 12 {}, counts := Vector.replicate 12 {} } }

/-- MEM_CLR_COUNTS (R407). -/
def execMemClrCounts (g : Lapse) (ini : Initiator) (s : State) : Host.Outcome State Fault Refusal :=
  .next ((s.pass g).superWrite ini 0x40090028 State.clearMemCounts)

/-! ### `mem` parameters (15 R408) -/

/-- RANGE of a value of `mem` at an offset and INDEX: GAP 100 to 10,000, LAPMAX 1 to 255, and no ARM with both masks 0. -/
def State.memParRange (s : State) (off idx v : Nat) : Bool :=
  if off = 0 then (100 ≤ bitsOf v 4 14 && bitsOf v 4 14 ≤ 10000) && 1 ≤ bitsOf v 18 8
  else if off = 2 && idx = 1 then !(v.testBit 13 && s.mem.flipLo = 0 && s.mem.flipHi = 0 && bitsOf v 0 8 = 0)
  else true

/-- STATE of a write of `mem.scrub`: no half-bank and no filter RAM whose domain is off (R408). -/
def State.memParStateOk (s : State) (off v : Nat) : Bool := off ≠ 1 || s.pd 3 || v = 0

/-- Writes of `mem` reach the registers (R408). -/
def State.memParWritten (s : State) (off idx v : Nat) : State :=
  if off = 0 then { s with mem := { s.mem with ctrl := v } }
  else if off = 1 then { s with mem := { s.mem with scrub := bitsOf v 0 32, scrubF := v.testBit 32 } }
  else if off = 2 && idx = 0 then { s with mem := { s.mem with flipLo := bitsOf v 0 32, flipHi := bitsOf v 32 32 } }
  else if off = 2 then s.setFlip v
  else s

end Sys2Proof.Machine
end

