-- ==== Sys2Proof/Machine/Can.lean ====
section
/-!
DEFINITION. CAN controllers (10 R265 to R274, R286 to R288).
-/
namespace Sys2Proof.Machine

/-- The controller record of CANn. -/
def State.canPort (s : State) (n : Nat) : CanPort := s.net.can.toList.getD n {}

/-- Writing it. -/
def State.setCan (s : State) (n : Nat) (c : CanPort) : State := { s with net := { s.net with can := s.net.can.setIfInBounds n c } }

/-- Changing it. -/
def State.modCan (s : State) (n : Nat) (f : CanPort → CanPort) : State := s.setCan n (f (s.canPort n))

/-! ### Class-5 events (10 R281, R287) -/

/-- A class-5 event with its COUNT and VALUE. -/
def State.netEventN (s : State) (unit code count value : Nat) : State := s.emit 5 unit code (leBytes 4 count ++ leBytes 4 value)

/-- A class-5 event that is sent at each occurrence. -/
def State.netEvent (s : State) (unit code value : Nat) : State := s.netEventN unit code 1 value

/-- A class-5 event sent at most once per second for its unit and code, with the count since the last (R281). -/
def State.netLimited (s : State) (unit code value : Nat) : State :=
  let k := 256 * unit + code
  match kvGet k s.net.evs with
  | some (t, n) =>
    if s.expired t 200000000 then { s with net := { s.net with evs := kvPut k (s.now, 0) s.net.evs } }.netEventN unit code (n + 1) value
    else { s with net := { s.net with evs := kvPut k (t, n + 1) s.net.evs } }
  | none => { s with net := { s.net with evs := kvPut k (s.now, 0) s.net.evs } }.netEventN unit code 1 value

/-- RXDROP counts, and RX_DROP is sent (R268, R287). -/
def State.rxDrop (s : State) (n : Nat) : State :=
  let s := s.modCan n (fun c => { c with rxDrop := satInc 0x3FF c.rxDrop })
  s.netLimited n 4 (s.canPort n).rxDrop

/-- TUNDROP counts, and TUN_DROP is sent (R269, R287). -/
def State.tunDrop (s : State) (n : Nat) : State :=
  let s := s.modCan n (fun c => { c with tunDrop := satInc 0x3FF c.tunDrop })
  s.netLimited n 6 (s.canPort n).tunDrop

/-! ### Acceptance (10 R272, R273) -/

/-- An acceptance element decides a frame: its KIND is not 0, its XTD is the frame's, its condition holds. -/
def takesFrame (e : Nat) (f : CanFrame) : Bool :=
  let k := bitsOf e 0 2
  let a := bitsOf e 6 29
  let b := bitsOf e 35 29
  k ≠ 0 && (e.testBit 2 == f.xtd) &&
    (if k = 1 then a ≤ f.id && f.id ≤ b else if k = 2 then f.id = a || f.id = b else f.id &&& b = a &&& b)

/-- Element i of CANn's list as a frame sees it whose identifier field ended at tick `t`: a write stamped at `t` or later has not reached it
(R273). -/
def State.elementFor (s : State) (n i t : Nat) : Nat :=
  match (s.canPort n).elemW.find? (fun w => w.1 = i && t ≤ w.2.1) with
  | some w => w.2.2
  | none => s.filterAt n i

/-- NFILT as a frame sees it that started at `sof`: a write applies from the next frame (R273). -/
def State.nfiltFor (s : State) (n sof : Nat) : Nat :=
  match (s.canPort n).nfiltW.find? (fun w => sof ≤ w.1) with
  | some w => w.2
  | none => s.pf Pf.canCfg_NFILT n

/-- The queue of a frame received from `sof`, whose identifier field ended at `t`; none where it is rejected (R273). -/
def State.accepts (s : State) (n : Nat) (f : CanFrame) (sof t : Nat) : Option Nat :=
  match (List.range (s.nfiltFor n sof)).find? (fun i => takesFrame (s.elementFor n i t) f) with
  | some i => if (s.elementFor n i t).testBit 3 then some (bitsOf (s.elementFor n i t) 4 2) else none
  | none => if s.pb Pf.canCfg_NOMATCH n then some 3 else none

/-- Bytes of a record in a queue (R268). -/
def RxRec.size (r : RxRec) : Nat := 24 + 8 * ceilDiv r.frame.data.length 8

/-- The core that is granted a unit of a kind (14 R383). -/
def State.granteeOf (s : State) (kind u : Nat) : Option Nat := (List.range 4).find? (fun a => s.granted a kind u)

/-- Session 0 is open and its transport is on (R269, 09 R243). -/
def State.uplinkOpen (s : State) : Bool := (s.ses 0).isOpen && s.pd 5

/-- A record enters queue q of CANn, or is dropped: no room (R268), queue 0 with an XL frame or a closed uplink, queues 1 to 3
granted to no core (R269). -/
def State.queueRec (s : State) (n q : Nat) (r : RxRec) : State :=
  let l := (s.canPort n).queues.toList.getD q []
  if q = 0 && (r.fmt = 2 || !s.uplinkOpen) then s.tunDrop n
  else if q ≠ 0 && (s.granteeOf 4 (4 * n + q)).isNone then s.rxDrop n
  else if 8192 < (l.map RxRec.size).foldl (· + ·) 0 + r.size then s.rxDrop n
  else s.modCan n (fun c => { c with queues := c.queues.setIfInBounds q (l ++ [r]) })

/-- Error state from the counters, for a controller that takes part (R274). -/
def CanPort.confine (c : CanPort) : CanPort := { c with st := if 127 < c.tec || 127 < c.recv then .passive else .active }

/-- The controller takes part on the bus. -/
def CanPort.onBus (c : CanPort) : Bool := c.st = .active || c.st = .passive

/-- A good reception lowers the receive error counter (R274, ISO 11898-1). -/
def CanPort.goodRx (c : CanPort) (t : Nat) : CanPort :=
  { c with recv := if 127 < c.recv then 119 + (Config.recAfter t).val else c.recv - 1 }.confine

/-- CAN_FRAME_RECEIVED (R268, R273): the frame whose start of frame was seen at `x.sof`, and whose identifier field ended at `x.idEnd`, has ended
without error. -/
def execCanFrameReceived (g : Lapse) (n : Fin 8) (f : CanFrame) (x : CanTimes) (s : State) : Host.Outcome State Fault Refusal :=
  let s := ((s.pass g).wufSeen n f).entryTraffic n f
  .next (
    if !((s.canPort n).onBus && f.fmt ≤ s.pf Pf.canCfg_FORMATS n && f.data.length ≤ 2048) then s
    else
      let q := s.accepts n f x.sof x.idEnd
      let s := s.modCan n (fun c => { c.goodRx s.now with elemW := [], nfiltW := [] })
      match q with
      | none => s
      | some q => s.queueRec n q ⟨x.sof, f.fmt, f⟩)

/-! ### Transmission (10 R267, R270, R271) -/

/-- Buffers that a frame takes (R271). -/
def bufsFor (f : CanFrame) : Nat := if f.fmt = 2 then ceilDiv (24 + f.data.length) 256 else 1

/-- Buffer i is taken. -/
def CanPort.taken (c : CanPort) (i : Nat) : Bool := c.tx.any (fun b => b.first ≤ i && i < b.first + b.width)

/-- The lowest run of k free buffers (R271). -/
def CanPort.freeRun (c : CanPort) (k : Nat) : Option Nat :=
  (List.range 32).find? (fun f => f + k ≤ 32 && (List.range k).all (fun j => !c.taken (f + j)))

/-- A frame is queued for transmission, where the port runs, may send its format and has buffers. Remote frames are not sent (R264). -/
def State.canQueue (s : State) (n : Nat) (f : CanFrame) : Option State :=
  let c := s.canPort n
  if c.st = .off || s.pf Pf.canCfg_FORMATS n < f.fmt || f.rtr || (f.fmt < 2 && 64 < f.data.length) || 2048 < f.data.length then none
  else (c.freeRun (bufsFor f)).map (fun i => s.setCan n { c with tx := c.tx ++ [⟨i, bufsFor f, s.now, f⟩] })

/-- What decides arbitration, then stamp and buffer index (R270): upper 11 bits, base before extended, the other 18 bits. -/
def arbKey (f : CanFrame) (stamp i : Nat) : List Nat :=
  if f.xtd then [f.id / 2 ^ 18, 1, f.id % 2 ^ 18, stamp, i] else [f.id, 0, 0, stamp, i]

/-- Order of two keys. -/
def keyLt : List Nat → List Nat → Bool
  | a :: l, b :: m => a < b || (a = b && keyLt l m)
  | [], _ :: _ => true
  | _, [] => false

/-- Ready frames with their keys: the transmit buffers, and the Meridian buffer as index 32. -/
def CanPort.ready (c : CanPort) : List (List Nat × Nat) :=
  c.tx.map (fun b => (arbKey b.frame b.stamp b.first, b.first))
    ++ (match c.mrd with | some m => [(arbKey m.frame m.stamp 32, 32)] | none => [])

/-- Index of the frame that the controller offers (R270). -/
def CanPort.offered (c : CanPort) : Option Nat :=
  match c.ready with
  | [] => none
  | x :: l => some (l.foldl (fun b y => if keyLt y.1 b.1 then y else b) x).2

/-- The frame at an index. -/
def CanPort.frameAt (c : CanPort) (i : Nat) : Option CanFrame :=
  if i = 32 then c.mrd.map (·.frame) else (c.tx.find? (fun b => b.first = i)).map (·.frame)

/-- The buffers of a frame are freed. -/
def CanPort.free (c : CanPort) (i : Nat) : CanPort :=
  if i = 32 then { c with mrd := none } else { c with tx := c.tx.filter (fun b => b.first ≠ i) }

/-- A frame is freed into TXFAIL. -/
def CanPort.fail (c : CanPort) (i : Nat) : CanPort := { c.free i with txFail := satInc 0xFFF c.txFail }

/-- Every transmit buffer is freed into TXFAIL; a Meridian cycle in progress is abandoned (R274). -/
def CanPort.failAll (c : CanPort) : CanPort := { c with tx := [], mrd := none, txFail := satAdd 0xFFF c.txFail c.tx.length }

/-- The controller may send: it takes part, in normal mode (R274). -/
def State.canSends (s : State) (n : Nat) : Bool := (s.canPort n).onBus && s.pf Pf.canCfg_OPMODE n = 0

/-- Delay compensation of a frame with a fast data phase (R267): the secondary sample point is the measured delay plus TDCO, held at 255 tk,
where TDCSAT is set. -/
def State.tdc (s : State) (n : Nat) (f : CanFrame) (delay : Nat) : State :=
  let on := if f.fmt = 2 then s.pb Pf.canXbt_XTDCEN n else f.fmt = 1 && s.pb Pf.canDbt_TDCEN n
  let off := if f.fmt = 2 then s.pf Pf.canXbt_XTDCO n else s.pf Pf.canDbt_TDCO n
  if !on then s
  else
    let s := s.modCan n (fun c => { c with ssp := min 255 (delay + off) })
    if 255 < delay + off then (s.modCan n (fun c => { c with tdcSat := true })).netEvent n 5 delay else s

/-- A good transmission lowers the transmit error counter (R274, ISO 11898-1). -/
def CanPort.goodTx (c : CanPort) : CanPort := { c with tec := c.tec - 1 }.confine

/-- CAN_FRAME_SENT (R270, R271): the frame that the controller offers has been sent, other than a Meridian reference, whose sending is
REFERENCE_SENT. -/
def execCanFrameSent (g : Lapse) (n : Fin 8) (_sof delay : Nat) (s : State) : Host.Outcome State Fault Refusal :=
  let s := s.pass g
  let c := s.canPort n
  .next (
    match c.offered with
    | none => s
    | some i =>
      match c.frameAt i with
      | none => s
      | some f =>
        if !s.canSends n || (i = 32 && !(c.mrd.map (·.fup)).getD true) then s
        else (s.setCan n { (c.free i).goodTx with sent := c.sent ++ [f] }).tdc n f delay |>.kaSentCan f)

/-- CAN_ARBITRATION_LOST (R270): the frame is offered again, or freed into TXFAIL with DAR. -/
def execCanArbitrationLost (g : Lapse) (n : Fin 8) (s : State) : Host.Outcome State Fault Refusal :=
  let s := s.pass g
  .next (
    match (s.canPort n).offered with
    | some i => if s.canSends n && s.pb Pf.canCfg_DAR n then s.modCan n (fun c => c.fail i) else s
    | none => s)

/-! ### Errors and bus-off (10 R274) -/

/-- CAN_ERROR (R274): the counters change as ISO 11898-1 sets, and the controller may become error passive or bus-off. With DAR a frame
of its own that meets an error is freed into TXFAIL. -/
def execCanError (g : Lapse) (n : Fin 8) (e : CanErr) (s : State) : Host.Outcome State Fault Refusal :=
  let s := (s.pass g).wufBad n
  let c := s.canPort n
  .next (
    if !c.onBus then s
    else
      let c := match e.tx, c.offered with
        | true, some i => if s.pb Pf.canCfg_DAR n then c.fail i else c
        | _, _ => c
      let c := { c with tec := ((c.tec : Int) + e.dtec).toNat, recv := min 255 ((c.recv : Int) + e.drec).toNat }
      if 255 < c.tec then
        let c := { c.failAll with st := .busOff, busOffs := satInc 255 c.busOffs }
        (s.setCan n c).netEvent n 2 c.busOffs
      else
        let was := c.st
        let c := c.confine
        let s := s.setCan n c
        if was = .active && c.st = .passive then s.netEvent n 1 (c.tec + c.recv * 256) else s)

/-- BUS_OFF_RECOVERED (R274). -/
def execBusOffRecovered (g : Lapse) (n : Fin 8) (s : State) : Host.Outcome State Fault Refusal :=
  let s := s.pass g
  .next (
    if (s.canPort n).st = .busOff && !s.pb Pf.canCfg_BOMANUAL n then
      (s.modCan n (fun c => { c with st := .active, tec := 0, recv := 0 })).netEvent n 3 0
    else s)

/-- CAN_INTEGRATION (R286): 11 recessive bits have been seen. -/
def execCanIntegration (g : Lapse) (n : Fin 8) (s : State) : Host.Outcome State Fault Refusal :=
  let s := s.pass g
  .next (if (s.canPort n).st = .integrating then s.modCan n CanPort.confine else s)

/-! ### The tunnel (10 R269) -/

/-- Queue 0 is emptied without sending, every record counting in TUNDROP. -/
def State.emptyTunnel (s : State) (n : Nat) : State :=
  let l := (s.canPort n).queues.toList.getD 0 []
  let s := s.modCan n (fun c => { c with queues := c.queues.setIfInBounds 0 [] })
  l.foldl (fun s _ => s.tunDrop n) s

/-- A queue that is granted to no core is emptied, every record counting in RXDROP. -/
def State.emptyQueue (s : State) (n q : Nat) : State :=
  let l := (s.canPort n).queues.toList.getD q []
  let s := s.modCan n (fun c => { c with queues := c.queues.setIfInBounds q [] })
  l.foldl (fun s _ => s.rxDrop n) s

/-- The LIN record of port n. -/
def State.linPort (s : State) (n : Nat) : LinPort := s.net.lin.toList.getD n {}

/-- Writing it. -/
def State.setLin (s : State) (n : Nat) (l : LinPort) : State := { s with net := { s.net with lin := s.net.lin.setIfInBounds n l } }

/-- Changing it. -/
def State.modLin (s : State) (n : Nat) (f : LinPort → LinPort) : State := s.setLin n (f (s.linPort n))

/-- TUNNEL_FLUSH (R269, R281): the oldest records of queue 0 of CANn and of the tunnelled frames of LINn leave in one NTSCF frame of at
most 10 messages, to the MAC address resolved for `atlas.uplink_peer`. While the uplink is closed, queue 0 is emptied without sending. -/
def execTunnelFlush (g : Lapse) (n : Fin 8) (s : State) : Host.Outcome State Fault Refusal :=
  let s := s.pass g
  .next (
    if !s.uplinkOpen then (s.emptyTunnel n).modLin n (fun l => { l with tun := [] })
    else
      let c := (s.canPort n).queues.toList.getD 0 []
      let l := (s.linPort n).tun
      let msgs := (c ++ l).take 10
      if msgs.isEmpty then s
      else
        let s := s.modCan n (fun p => { p with queues := p.queues.setIfInBounds 0 (c.drop 10) })
        let s := s.modLin n (fun p => { p with tun := l.drop (10 - c.length) })
        { s with net := { s.net with ntscf := s.net.ntscf ++ [(Config.peerMac (s.pf Pf.atlasUplinkPeer_PEER), msgs.map (fun r => ⟨n, r⟩))] } })

/-- ACF_CAN_RECEIVED (R269): a message of the uplink peer is queued for transmission on its port, or dropped and counted. XL frames do not
fit the format. -/
def execAcfCanReceived (g : Lapse) (bus : Nat) (f : CanFrame) (s : State) : Host.Outcome State Fault Refusal :=
  let s := s.pass g
  .next (
    if 8 ≤ bus || !s.pd 5 || f.fmt = 2 then s
    else match s.canQueue bus f with
      | some s => s
      | none => s.tunDrop bus)

/-! ### Start, stop and parameters (10 R265, R266, R286, R288) -/

/-- A started controller integrates before it takes part (R286). -/
def State.canStart (s : State) (n : Nat) : State := s.modCan n (fun c => { c with st := .integrating, tec := 0, recv := 0 })

/-- A stopped controller frees its buffers: the frames count in TXFAIL, the records of queue 0 in TUNDROP (R286). -/
def State.canStop (s : State) (n : Nat) : State :=
  (s.modCan n (fun c => { c.failAll with st := .off })).emptyTunnel n

/-- Lowest data bit in tk of the FD phase and of the XL phase by XCVR (R265). -/
def fdBitMin (x : Nat) : Nat := if x = 0 then 100 else 25
def xlBitMin (x : Nat) : Nat := if x = 0 then 100 else if x = 1 then 25 else 10

/-- Every timing set is valid for a value of `cfg` (R266, R267). -/
def State.canTiming (s : State) (n v : Nat) : Bool :=
  let x := Pf.canCfg_XCVR.of v
  let nq := 1 + s.pf Pf.canNbt_NTSEG1 n + s.pf Pf.canNbt_NTSEG2 n
  let nb := s.pf Pf.canNbt_NBRP n * nq
  let db := s.pf Pf.canDbt_DBRP n * (1 + s.pf Pf.canDbt_DTSEG1 n + s.pf Pf.canDbt_DTSEG2 n)
  let xq := 1 + s.pf Pf.canXbt_XTSEG1 n + s.pf Pf.canXbt_XTSEG2 n
  let xb := s.pf Pf.canXbt_XBRP n * xq
  s.pf Pf.canNbt_NSJW n ≤ s.pf Pf.canNbt_NTSEG2 n && s.pf Pf.canDbt_DSJW n ≤ s.pf Pf.canDbt_DTSEG2 n
    && s.pf Pf.canXbt_XSJW n ≤ s.pf Pf.canXbt_XTSEG2 n
    && 200 ≤ nb && nb ≤ 4000 && 8 ≤ nq && nq ≤ 384
    && 25 ≤ db && db ≤ 200 && fdBitMin x ≤ db && (s.pb Pf.canDbt_TDCEN n || 100 < db)
    && 10 ≤ xb && xb ≤ 200 && xlBitMin x ≤ xb && (s.pb Pf.canXbt_XTDCEN n || 100 < xb)
    && (x ≠ 2 || s.pf Pf.canXbt_PWMS n + s.pf Pf.canXbt_PWML n = xq)

/-- RANGE rules of `can[n]` (R265, R266, R272). -/
def State.canRange (s : State) (n off v : Nat) : Bool :=
  if off = 0 then
    let x := Pf.canCfg_XCVR.of v
    !(x = 2 && 4 ≤ n) && !(x = 3 && n < 4) && !(x = 2 && Pf.canCfg_XLES.of v = 1)
      && !(Pf.canCfg_EN.of v = 1 && !s.pb Pf.canCfg_EN n && !s.canTiming n v)
  else if off = 4 then v.testBit 2 || (bitsOf v (6 + 11) 18 = 0 && bitsOf v (35 + 11) 18 = 0)
  else true

/-- STATE rules of `can[n]`: only EN, NFILT and NOMATCH may change while EN is 1 (R266); EN is not set with a failed filter RAM
(15 R402). -/
def State.canStateOk (s : State) (n off v : Nat) : Bool :=
  let old := s.parOf (Pid.canCfg n) 0
  let keep := fun (x : Nat) => putBits (putBits (putBits x 0 1 0) 10 9 0) 19 1 0
  if off = 0 then
    (!s.pb Pf.canCfg_EN n || keep v = keep old)
      && !(Pf.canCfg_EN.of v = 1 && !s.pb Pf.canCfg_EN n && (s.mem.test.toList.getD 73 {}).result = 2)
  else if off = 1 || off = 2 || off = 3 then !s.pb Pf.canCfg_EN n
  else true

/-- Writes of `can[n]`: EN starts and stops the controller; an element goes to the filter RAM (R273, R286). -/
def State.canWritten (s0 s : State) (n off idx v : Nat) : State :=
  if off = 0 then
    if Pf.canCfg_EN.of v = 1 && !s0.pb Pf.canCfg_EN n && s.pd 6 then s.canStart n
    else if Pf.canCfg_EN.of v = 0 && s0.pb Pf.canCfg_EN n then s.canStop n
    else if Pf.canCfg_NFILT.of v ≠ s0.pf Pf.canCfg_NFILT n then s.modCan n (fun c => { c with nfiltW := c.nfiltW ++ [(s.now, s0.pf Pf.canCfg_NFILT n)] })
    else s
  else if off = 4 then (s.modCan n (fun c => { c with elemW := c.elemW ++ [(idx, s.now, s0.filterAt n idx)] })).writeDw (filterAddr n idx) v
  else s

end Sys2Proof.Machine
end

