-- ==== Sys2Proof/Machine/Lin.lean ====
section
/-!
DEFINITION. LIN ports (10 R278 to R281, R289).
-/
namespace Sys2Proof.Machine

/-- Longest frame of LEN data bytes at a bit rate, in tk (10 R278): 1.4 × (34 + 10 × (LEN + 1)) bit times. -/
def linLongest (baud len : Nat) : Nat := 14 * (34 + 10 * (len + 1)) * 20000000 / baud

/-- LEN of the frame of an identifier. -/
def State.linLen (s : State) (n id : Nat) : Nat := s.pf Pf.linFrame_LEN n id

/-- The port runs. -/
def State.linUp (s : State) (n : Nat) : Bool := s.pd 6 && s.pb Pf.linCfg_EN n

/-- Activity on the bus ends the bus-idle state. -/
def LinPort.active (l : LinPort) (t : Nat) : LinPort := { l with idle := false, lastAct := t }

/-- Data that a port sends for an identifier (R280): what was last written, or zeros, with `response_error` in its place. -/
def State.linData (s : State) (n id : Nat) : List Byte :=
  let l := s.linPort n
  let len := s.linLen n id
  let d := (kvGet id l.pub).getD []
  let v := leVal ((d ++ List.replicate 8 0).take len)
  if s.pb Pf.linFrame_RERREN n id then leBytes len (putBits v (s.pf Pf.linFrame_RERRBIT n id) 1 (flag (l.rerr.contains id))) else leBytes len v

/-- Protected identifier: the identifier with its two parity bits (ISO 17987-3; PRESUMED, entry 53). -/
def linPid (id : Nat) : Nat :=
  let b := fun (i : Nat) => id.testBit i
  id + flag (b 0 ^^ b 1 ^^ b 2 ^^ b 4) <<< 6 + flag (!(b 1 ^^ b 3 ^^ b 4 ^^ b 5)) <<< 7

/-- Checksum of data (R264, R278): the inverted sum with carry of the data, classic, or of the protected identifier and the data, enhanced (ISO
17987-3; PRESUMED, entry 53). -/
def linSum (classic : Bool) (id : Nat) (d : List Byte) : Nat :=
  255 - d.foldl (fun a b => (a + b.toNat) % 256 + (a + b.toNat) / 256) (if classic then 0 else linPid id)

/-- The frame of an identifier has the classic checksum; identifiers 60 and 61 always have it (R278). -/
def State.linClassic (s : State) (n id : Nat) : Bool := id = 60 || id = 61 || s.pb Pf.linFrame_CLASSIC n id

/-- A response is good: no framing error, the length of its frame, and its checksum (R278, R279). An event-triggered response is checked as its own
frame. -/
def State.linGood (s : State) (n : Nat) (f : LinFrame) : Bool :=
  !f.bad && f.data.length = s.linLen n f.id && f.chk.toNat = linSum (s.linClassic n f.id) f.id f.data

/-- A port sends the response of an identifier: its data and checksum. -/
def State.linRespond (s : State) (n id : Nat) : State :=
  let d := s.linData n id
  s.modLin n (fun l => { l with
    sent := l.sent ++ [(id, d ++ [BitVec.ofNat 8 (linSum (s.linClassic n id) id d)])]
    fresh := l.fresh.filter (fun i => i ≠ id)
    rerr := l.rerr.filter (fun i => i ≠ id)
    hdr := none })

/-- A response error is marked for every frame that carries `response_error` (R280). -/
def State.linRespErr (s : State) (n : Nat) : State :=
  let ids := (List.range 64).filter (fun i => s.pb Pf.linFrame_RERREN n i)
  s.modLin n (fun l => { l with rerr := l.rerr ++ ids.filter (fun i => !l.rerr.contains i) })

/-! ### Commander schedule (10 R278, R279) -/

/-- The answer to a configuration request goes out on identifier 61 (R280). -/
def State.linAnswer (s : State) (n : Nat) (req : List Byte) : State :=
  let d := Config.linAnswer req
  s.modLin n (fun l => { l with sent := l.sent ++ [(61, d ++ [BitVec.ofNat 8 (linSum true 61 d)])], answer := none })

/-- The header of an identifier is on the bus: the port answers it itself, or waits for the response of an element it subscribes. -/
def State.linHeader (s : State) (n id : Nat) (entry : Option Nat) : State :=
  let s := s.modLin n (fun l => { l with hdr := none })
  if id = 61 && entry.isNone && (s.linPort n).answer.isSome then s.linAnswer n ((s.linPort n).answer.getD [])
  else if s.pb Pf.linFrame_EN n id && s.pb Pf.linFrame_PUB n id then s.linRespond n id
  else if s.pb Pf.linFrame_EN n id then s.modLin n (fun l => { l with hdr := some ⟨id, s.now, entry⟩ })
  else s

/-- A commander sends a header: its break is 13 + BREAK bits long (R278). -/
def State.linSendHeader (s : State) (n id e : Nat) : State :=
  (s.modLin n (fun l => { l with heads := l.heads ++ [(id, 13 + s.pf Pf.linCfg_BREAK n)] })).linHeader n id (some e)

/-- Entries associated with an entry (R279). -/
def State.linAssoc (s : State) (n e : Nat) : List Nat :=
  (List.range (s.pf Pf.linSched_ANUM n e)).map (fun i => s.pf Pf.linSched_AFIRST n e + i)

/-- LIN_SLOT_START (R278, R279): the slot of the schedule's next entry starts, and its header is sent. -/
def execLinSlotStart (g : Lapse) (n : Fin 8) (s : State) : Host.Outcome State Fault Refusal :=
  let s := s.pass g
  let l := s.linPort n
  let cnt := s.pf Pf.linCfg_NSCHED n
  .next (
    if !(s.linUp n && l.run && cnt ≠ 0 && l.next = s.now) then s
    else
      let wrap := fun (e : Nat) => if e + 1 < cnt then e + 1 else 0
      let cur := match l.coll with
        | some (e :: _, _) => e
        | some ([], b) => b
        | none => l.pos
      let plain := match l.coll with
        | some (_ :: _, _) => true
        | _ => false
      let nextColl := match l.coll with
        | some (_ :: e :: r, b) => some (e :: r, b)
        | _ => none
      let nextPos := match l.coll with
        | some (_ :: _, b) => b
        | _ => wrap cur
      let s := s.setLin n { (l.active s.now) with slot := cur, pos := nextPos, coll := nextColl, next := s.now + msTk (s.pf Pf.linSched_DELAY n cur) }
      let ty := if plain then 0 else s.pf Pf.linSched_TYPE n cur
      if ty = 3 then s.modLin n (fun l => { l with hdr := none })
      else if ty = 2 then
        match (s.linAssoc n cur).find? (fun e => l.fresh.contains (s.pf Pf.linSched_ID n e)) with
        | some e => s.linSendHeader n (s.pf Pf.linSched_ID n e) e
        | none => s.modLin n (fun l => { l with hdr := none })
      else s.linSendHeader n (s.pf Pf.linSched_ID n cur) cur)

/-- The header in progress belongs to an event-triggered entry: its number. -/
def State.linEvent (s : State) (n : Nat) (h : LinHdr) : Option Nat :=
  match h.entry with
  | some e => if s.pf Pf.linSched_TYPE n e = 1 && (s.linPort n).coll.isNone then some e else none
  | none => none

/-- LIN_NO_RESPONSE (R278): the longest frame time has passed without a response. An event-triggered slot without one is empty (R279). -/
def execLinNoResponse (g : Lapse) (n : Fin 8) (s : State) : Host.Outcome State Fault Refusal :=
  let s := s.pass g
  .next (
    match (s.linPort n).hdr with
    | none => s
    | some h =>
      if !s.expired h.start (linLongest (s.pf Pf.linCfg_BAUD n) (s.linLen n h.id)) then s
      else
        let e := s.linEvent n h
        let s := s.modLin n (fun l => { l with hdr := none })
        if h.entry.isNone || e.isSome then s
        else (s.modLin n (fun l => { l with noResp := satInc 0xFFFF l.noResp })).netLimited (8 + n) 0x10 h.id)

/-- LIN_HEADER_RECEIVED (R280): a responder detects a break of at least 11 bit times, takes a header whose rate lies within ±14 % of BAUD, and
answers or receives. -/
def execLinHeaderReceived (g : Lapse) (n : Fin 8) (id : Fin 64) (x : LinBreak) (s : State) : Host.Outcome State Fault Refusal :=
  let s := s.pass g
  let b := s.pf Pf.linCfg_BAUD n
  .next (
    if !s.linUp n || s.pb Pf.linCfg_ROLE n || x.brk < 11 then s
    else
      let s := s.modLin n (fun l => l.active s.now)
      if x.rate * 100 < b * 86 || b * 114 < x.rate * 100 then s.modLin n (fun l => { l with bitErr := satInc 0xFFFF l.bitErr })
      else s.linHeader n id.val none)

/-! ### Received frames (10 R279, R281) -/

/-- A LIN record as a receive record (R281). -/
def linRec (id sof : Nat) (d : List Byte) : RxRec :=
  ⟨sof, 3, { id := id, xtd := false, rtr := false, fmt := 3, flags := 0, sdt := 0, vcid := 0, af := 0, dlc := d.length, data := d }⟩

/-- A frame is delivered (R281): to the tunnel, or to the applet ring that grants the port. -/
def State.linDeliver (s : State) (n id sof : Nat) (d : List Byte) : State :=
  if s.pb Pf.linFrame_TUNNEL n id then
    if s.uplinkOpen then s.modLin n (fun l => { l with tun := l.tun ++ [linRec id sof d] }) else s
  else if (s.granteeOf 5 n).isSome then
    { s with net := { s.net with linq := s.net.linq.setIfInBounds n (s.net.linq.toList.getD n [] ++ [linRec id sof d]) } }
  else s

/-- A master request of Assign NAD or Assign frame identifier range, which Atlas answers (R280; ISO 17987-3 service identifiers). -/
def isLinConfig (id : Nat) (d : List Byte) : Bool := id = 60 && (leAt d 2 1 = 0xB0 || leAt d 2 1 = 0xB7)

/-- LIN_FRAME_RECEIVED (R279 to R281): the response of the header in progress has ended, with a good checksum or not. -/
def execLinFrameReceived (g : Lapse) (n : Fin 8) (f : LinFrame) (s : State) : Host.Outcome State Fault Refusal :=
  let s := s.pass g
  .next (
    match (s.linPort n).hdr with
    | none => s
    | some h =>
      if !(s.linUp n && h.id = f.id.val && s.now ≤ h.start + linLongest (s.pf Pf.linCfg_BAUD n) (s.linLen n h.id)) then s
      else
        let ev := s.linEvent n h
        let s := s.modLin n (fun l => { (l.active s.now) with hdr := none })
        if s.linGood n f then
          match ev with
          | some _ => s.linDeliver n (leAt f.data 0 1 % 64) f.sof f.data
          | none =>
            if !s.pb Pf.linCfg_ROLE n && isLinConfig h.id f.data then s.modLin n (fun l => { l with config := l.config ++ [f.data], answer := some f.data })
            else s.linDeliver n h.id f.sof f.data
        else
          let s := s.modLin n (fun l => { l with chkErr := satInc 0xFFFF l.chkErr })
          match ev with
          | some e =>
            let s := s.netLimited (8 + n) 0x12 h.id
            if (s.linAssoc n e).isEmpty then s else s.modLin n (fun l => { l with coll := some (s.linAssoc n e, l.pos) })
          | none => (s.linRespErr n).netLimited (8 + n) 0x11 h.id)

/-- Published data of an identifier is replaced (R281). -/
def State.linPublish (s : State) (n id : Nat) (d : List Byte) : State :=
  s.modLin n (fun l => { l with pub := kvPut id d l.pub, fresh := if l.fresh.contains id then l.fresh else l.fresh ++ [id] })

/-- LIN_PUBLISH_WRITE (R281): from an applet, or by an ACF LIN message from the uplink peer for an element with TUNNEL set, for a frame that the
port publishes. -/
def execLinPublishWrite (g : Lapse) (n : Fin 8) (id : Fin 64) (x : LinPub) (s : State) : Host.Outcome State Fault Refusal :=
  let s := s.pass g
  .next (if s.pd 6 && s.pb Pf.linFrame_PUB n id && (!x.up || (s.pd 5 && s.pb Pf.linFrame_TUNNEL n id)) then s.linPublish n id x.data else s)

/-- LIN_BUS_IDLE (R289): no activity for 4 s. -/
def execLinBusIdle (g : Lapse) (n : Fin 8) (s : State) : Host.Outcome State Fault Refusal :=
  let s := s.pass g
  .next (if s.linUp n && s.expired (s.linPort n).lastAct 800000000 then s.modLin n (fun l => { l with idle := true }) else s)

/-! ### Start, stop, sleep and parameters (10 R278, R286, R289; 11 R299, R303) -/

/-- The port is a commander whose schedule is to run. -/
def State.linCommander (s : State) (n : Nat) : Bool := s.linUp n && s.pb Pf.linCfg_ROLE n && s.pb Pf.linCfg_START n

/-- A commander starts at entry 0 at the next whole millisecond (R286). -/
def State.linStart (s : State) (n : Nat) : State :=
  if s.linCommander n then
    s.modLin n (fun l => { (l.active s.now) with run := true, pos := 0, coll := none, hdr := none, restart := none, next := (s.now / 200000 + 1) * 200000 })
  else s.modLin n (fun l => { (l.active s.now) with run := false, hdr := none, coll := none })

/-- A port stops; the frames it would tunnel are lost. -/
def State.linStop (s : State) (n : Nat) : State :=
  s.modLin n (fun l => { l with run := false, hdr := none, coll := none, tun := [], restart := none })

/-- Go-to-sleep of a commander (11 R299): its schedule stops, and the 0x3C frame is sent. -/
def State.linSleep (s : State) (n : Nat) : State :=
  s.modLin n (fun l => { l with run := false, hdr := none, coll := none, heads := l.heads ++ [(0x3C, 13 + s.pf Pf.linCfg_BREAK n)], sent := l.sent ++ [(0x3C, 0x00 :: List.replicate 7 0xFF ++ [BitVec.ofNat 8 (linSum true 0x3C (0x00 :: List.replicate 7 0xFF))])] })

/-- Wake-up signal of a commander, whose schedule restarts 20,000,000 tk later (11 R299). -/
def State.linWakeup (s : State) (n : Nat) : State :=
  s.modLin n (fun l => { l with sent := l.sent ++ [(64, [])], restart := some (s.now + 20000000) })

/-- LIN_WAKEUP_RESTART (11 R299, R303): 100 ms after the wake-up signal or the wake, the schedule restarts at entry 0. -/
def execLinWakeupRestart (g : Lapse) (n : Fin 8) (s : State) : Host.Outcome State Fault Refusal :=
  let s := s.pass g
  .next (
    match (s.linPort n).restart with
    | some t =>
      if t ≤ s.now && s.linCommander n then
        s.modLin n (fun l => { (l.active s.now) with run := true, pos := 0, coll := none, hdr := none, restart := none, next := s.now })
      else s
    | none => s)

/-- DELAY of an entry is at least the longest frame that it can carry (R278). -/
def State.linFits (s : State) (n v e : Nat) : Bool :=
  let len := fun (i : Nat) => s.linLen n (s.pf Pf.linSched_ID n i)
  let ty := s.pf Pf.linSched_TYPE n e
  let longest := if ty = 3 then 0 else if ty = 2 then (s.linAssoc n e).foldl (fun m i => max m (len i)) 0 else len e
  ty = 3 || 14 * (34 + 10 * (longest + 1)) * 1000 ≤ s.pf Pf.linSched_DELAY n e * Pf.linCfg_BAUD.of v * 10

/-- RANGE rules of `lin[n]` (R278, R279). -/
def State.linRange (s : State) (n off v : Nat) : Bool :=
  if off = 0 then
    !(Pf.linCfg_START.of v = 1 && !s.pb Pf.linCfg_START n) || (List.range (Pf.linCfg_NSCHED.of v)).all (s.linFits n v)
  else if off = 1 then Pf.linSched_ANUM.of v = 0 || Pf.linSched_AFIRST.of v + Pf.linSched_ANUM.of v ≤ 64
  else true

/-- STATE rules of `lin[n]` (R289): ROLE, BAUD, BREAK and `frame` concern EN, NSCHED and `sched` concern START. -/
def State.linStateOk (s : State) (n off v : Nat) : Bool :=
  let old := s.parOf (Pid.linCfg n) 0
  let same := fun (x : ParField) => x.of v = x.of old
  let en := s.pb Pf.linCfg_EN n
  let st := en && s.pb Pf.linCfg_START n
  if off = 0 then (!en || (same Pf.linCfg_ROLE && same Pf.linCfg_BAUD && same Pf.linCfg_BREAK)) && (!st || same Pf.linCfg_NSCHED)
  else if off = 1 then !st
  else if off = 2 then !en
  else true

/-- A write of `lin[n].cfg` starts and stops the port and its schedule (R278, R286). -/
def State.linWritten (s0 s : State) (n off : Nat) : State :=
  if off = 0 then
    let was := s0.pb Pf.linCfg_EN n
    let on := s.pb Pf.linCfg_EN n
    if !s.pd 6 then s
    else if on && !was then s.linStart n
    else if was && !on then s.linStop n
    else if on && s.pb Pf.linCfg_START n && !s0.pb Pf.linCfg_START n then s.linStart n
    else if on && !s.pb Pf.linCfg_START n && s0.pb Pf.linCfg_START n then s.modLin n (fun l => { l with run := false, coll := none, restart := none })
    else s
  else s

end Sys2Proof.Machine
end

