-- ==== Sys2Proof/Machine/Eth.lean ====
section
/-!
DEFINITION. Meridian, the Ethernet ports and the switch (10 R275 to R277, R282 to R293).
-/
namespace Sys2Proof.Machine

/-- Uplink record. -/
def State.ethPort (s : State) (k : Nat) : EthPort := s.net.eth.toList.getD k {}

/-- Writing it. -/
def State.setEth (s : State) (k : Nat) (e : EthPort) : State := { s with net := { s.net with eth := s.net.eth.setIfInBounds k e } }

/-- T1S record. -/
def State.spePort (s : State) (k : Nat) : SpePort := s.net.spe.toList.getD k {}

/-- Writing it. -/
def State.setSpe (s : State) (k : Nat) (e : SpePort) : State := { s with net := { s.net with spe := s.net.spe.setIfInBounds k e } }

/-! ### 1000BASE-T1 (10 R282) -/

/-- A link goes down. -/
def State.ethDown (s : State) (k : Nat) : State :=
  let e := s.ethPort k
  if e.link then
    let e := { e with link := false, sqi := 0, asCap := false, downs := satInc 0xFFFF e.downs }
    (s.setEth k e).netEvent (16 + k) 0x21 e.downs
  else s

/-- ETH_LINK_UP (R282). -/
def execEthLinkUp (g : Lapse) (k : Fin 2) (sqi : Fin 8) (s : State) : Host.Outcome State Fault Refusal :=
  let s := s.pass g
  let e := s.ethPort k
  .next (
    if s.pd 5 && s.pb Pf.ethCfg_EN k && !e.link && !e.silent then
      (s.setEth k { e with link := true, sqi := sqi }).netEvent (16 + k) 0x20 sqi
    else s)

/-- ETH_LINK_DOWN (R282). -/
def execEthLinkDown (g : Lapse) (k : Fin 2) (s : State) : Host.Outcome State Fault Refusal := .next ((s.pass g).ethDown k)

/-- CABLE_TEST_DONE (R282): 1 OK, 2 OPEN, 3 SHORT, and the distance in 0.1 m. -/
def execCableTestDone (g : Lapse) (k : Fin 2) (result dist : Nat) (s : State) : Host.Outcome State Fault Refusal :=
  let s := s.pass g
  let e := s.ethPort k
  .next (if e.cable = 4 && 1 ≤ result && result ≤ 3 then s.setEth k { e with cable := result, dist := if result = 1 then 0 else dist % 4096 } else s)

/-! ### 10BASE-T1S (10 R283) -/

/-- The port follows a BEACON. -/
def State.speFollows (s : State) (k : Nat) : Bool := s.pd 5 && s.pb Pf.speCfg_EN k && s.pb Pf.speCfg_PLCA k && s.pf Pf.speCfg_NODEID k ≠ 0

/-- PLCA_LOST (R283): no BEACON for 4 ms. -/
def execPlcaLost (g : Lapse) (k : Fin 2) (s : State) : Host.Outcome State Fault Refusal :=
  let s := s.pass g
  let e := s.spePort k
  .next (
    if s.speFollows k && !e.csma then
      let e := { e with beacon := false, csma := true, losses := satInc 0xFFFF e.losses }
      (s.setSpe k e).netEvent (18 + k) 0x22 e.losses
    else s)

/-- PLCA_BEACON_RETURN (R283). -/
def execPlcaBeaconReturn (g : Lapse) (k : Fin 2) (s : State) : Host.Outcome State Fault Refusal :=
  let s := s.pass g
  .next (if s.speFollows k then s.setSpe k { s.spePort k with beacon := true, csma := false } else s)

/-- A T1S port starts (R283, R286): a coordinator sends its BEACON, and with PLCA clear the port uses CSMA/CD throughout. -/
def State.speStart (s : State) (k : Nat) : State :=
  let plca := s.pb Pf.speCfg_PLCA k
  s.setSpe k { s.spePort k with csma := !plca, beacon := plca && s.pf Pf.speCfg_NODEID k = 0 }

/-! ### The switch (10 R284) -/

/-- Port VLAN of a switch port. -/
def State.pvid (s : State) (p : Nat) : Nat :=
  if p < 2 then s.pf Pf.ethCfg_PVID p else if p < 4 then s.pf Pf.speCfg_PVID (p - 2) else s.pf Pf.swxCfg_EPVID

/-- A switch port is in service. -/
def State.portUp (s : State) (p : Nat) : Bool :=
  s.pd 5 && (if p < 2 then (s.ethPort p).link else if p < 4 then s.pb Pf.speCfg_EN (p - 2) else true)

/-- Counting in `eth[k].counters` or `spe[k].counters` (R291, R292). -/
def State.portCount (s : State) (p i : Nat) : State :=
  if p < 2 then
    let e := s.ethPort p
    s.setEth p { e with cnt := e.cnt.setIfInBounds i (satInc (2 ^ 48 - 1) (e.cnt.toList.getD i 0)) }
  else if p < 4 then
    let e := s.spePort (p - 2)
    s.setSpe (p - 2) { e with cnt := e.cnt.setIfInBounds i (satInc (2 ^ 48 - 1) (e.cnt.toList.getD i 0)) }
  else s

/-- INDEX of the valid entry of a VLAN. -/
def State.vlanEntry (s : State) (v : Nat) : Option Nat :=
  (List.range 64).find? (fun i => s.pf Pf.swxVlan_VALID 0 i = 1 && s.pf Pf.swxVlan_VID 0 i = v)

/-- Learning a source address (R284). -/
def State.learnAddr (s : State) (vlan mac port : Nat) : State :=
  if !s.pb Pf.swxCfg_LEARN then s
  else if s.net.learned.any (fun l => l.vlan = vlan && l.mac = mac) then
    { s with net := { s.net with learned := s.net.learned.map (fun l => if l.vlan = vlan && l.mac = mac then { l with port := port, at_ := s.now } else l) } }
  else if 1024 ≤ s.net.learned.length then { s with net := { s.net with learnFull := satInc 0xFFFF s.net.learnFull } }
  else { s with net := { s.net with learned := s.net.learned ++ [⟨vlan, mac, port, s.now⟩] } }

/-- Egress ports of a destination, as a mask, none where it is not known (R284): a static entry wins over a learned one. -/
def State.destPorts (s : State) (vlan mac : Nat) : Option Nat :=
  match (List.range 64).find? (fun i => s.pf Pf.swxFdb_VALID 0 i = 1 && s.pf Pf.swxFdb_MAC 0 i = mac) with
  | some i => some (s.pf Pf.swxFdb_PORTS 0 i)
  | none => (s.net.learned.find? (fun l => l.vlan = vlan && l.mac = mac)).map (fun l => 1 <<< l.port)

/-- A frame enters its egress queue in the order of R284: by the tick at which its ingress ended, then by lower ingress port. -/
def putEgress (e : Egress) : List Egress → List Egress
  | [] => [e]
  | x :: l => if x.port = e.port && x.queue = e.queue && x.at_ = e.at_ && e.frame.port.val < x.frame.port.val then e :: x :: l else x :: putEgress e l

/-- The frame that leaves a port next under strict priority (R284): the first of its highest queue that holds one. The credit of a shaped queue
is time's, and left out. -/
def State.egressNext (s : State) (p : Nat) : Option Egress :=
  ((List.range 8).reverse.filterMap (fun q => s.net.egress.find? (fun e => e.port = p && e.queue = q))).head?

/-- A frame is put into the egress queue of a port, or dropped where the port is not in service. -/
def State.egressTo (s : State) (p : Nat) (untag : Bool) (f : EthFrame) : State :=
  if !s.portUp p then s.portCount p 4
  else
    let q := if p < 2 then s.pf Pf.ethPrio_TC p f.pcp.val else f.pcp.val
    let s := s.portCount p 1
    { s with net := { s.net with egress := putEgress ⟨p, q, s.now, untag, f⟩ s.net.egress } }

/-- A frame at the end of its ingress (R284): it is learned from and forwarded, taken by the endpoint or dropped. -/
def State.switchIn (s : State) (f : EthFrame) : State :=
  let p := f.port.val
    if !s.portUp p then s
    else
      let s := s.portCount p 0
      if f.len < 64 || 1522 < f.len then s.portCount p 3
      else if f.dst = 0x0180C200000E then (if p = 4 then s else s.egressTo 4 true f)
      else
        let vlan := f.vlan.getD (s.pvid p)
        match s.vlanEntry vlan with
        | none => { s with net := { s.net with vlanDrop := satInc 0xFFFF s.net.vlanDrop } }
        | some i =>
          let mem := s.pf Pf.swxVlan_MEMBER 0 i
          if !mem.testBit p then { s with net := { s.net with vlanDrop := satInc 0xFFFF s.net.vlanDrop } }
          else
            let s := s.learnAddr vlan f.src p
            let out := (s.destPorts vlan f.dst).getD 0x1F &&& mem
            ((bitList 5 out).filter (fun e => e ≠ p)).foldl (fun s e => s.egressTo e ((s.pf Pf.swxVlan_UNTAG 0 i).testBit e) f) s

/-- The endpoint takes a frame: it came on EPVID, a member VLAN of its ingress port and of port 4, and is forwarded to port 4 (R284, R285). -/
def State.endpointTakes (s : State) (f : EthFrame) : Bool :=
  let vlan := f.vlan.getD (s.pvid f.port)
  s.portUp f.port && f.port.val ≠ 4 && 64 ≤ f.len && f.len ≤ 1522 && vlan = s.pf Pf.swxCfg_EPVID
    && (match s.vlanEntry vlan with
        | some i => (s.pf Pf.swxVlan_MEMBER 0 i).testBit f.port && (s.pf Pf.swxVlan_MEMBER 0 i).testBit 4 && ((s.destPorts vlan f.dst).getD 0x1F).testBit 4
        | none => false)

/-- What the endpoint answers (R285): ARP, a neighbour solicitation or an echo request for its address, with the requester's priority (entry 100);
nothing while `switch.ip` is all zero. -/
def State.endpointAnswer (s : State) (f : EthFrame) : Option EthFrame :=
  let ip := s.pf Pf.swxIp_IP
  if ip ≠ 0 && f.ask = some ip && s.endpointTakes f then
    some { port := 4, dst := f.src, src := Config.mac.toNat, vlan := none, pcp := f.pcp, len := f.len, ask := none }
  else none

/-- SWITCH_FRAME_INGRESS (R284, R285), and the endpoint's answer. -/
def execSwitchFrameIngress (g : Lapse) (f : EthFrame) (s : State) : Host.Outcome State Fault Refusal :=
  let s := s.pass g
  let a := s.endpointAnswer f
  let s := s.switchIn f
  .next (match a with | some r => s.switchIn r | none => s)

/-- ADDRESS_AGEING (R284): an entry not seen for AGE seconds leaves the table. -/
def execAddressAgeing (g : Lapse) (vlan mac : Nat) (s : State) : Host.Outcome State Fault Refusal :=
  let s := s.pass g
  .next { s with net := { s.net with
    learned := s.net.learned.filter (fun l => !(l.vlan = vlan && l.mac = mac && s.expired l.at_ (secTk (s.pf Pf.swxCfg_AGE)))) } }

/-! ### Meridian (10 R275 to R277) -/

/-- Meridian time M at a tick, ns (R275), rounded down. -/
def State.meridian (s : State) (t : Nat) : Nat :=
  match s.net.mrd.sync with
  | some (g0, t0, rate) => ((g0 : Int) + (((t : Int) - t0) * 5 * (1000000000 + rate)) / 1000000000).toNat
  | none => 5 * t

/-- GPTP_SYNC (R275): Meridian learns from a Sync and Follow_Up on the uplink that SRC names. -/
def execGptpSync (g : Lapse) (k : Fin 2) (x : SyncIn) (s : State) : Host.Outcome State Fault Refusal :=
  let s := s.pass g
  .next (
    if !(s.pd 6 && s.pb Pf.mrdCfg_EN && s.pf Pf.mrdCfg_SRC = k.val && s.pd 5 && (s.ethPort k).link) then s
    else
      let was := s.net.mrd.traced
      let s := { s with net := { s.net with mrd := { s.net.mrd with sync := some (x.g0, x.t0, x.rate), syncAt := s.now, traced := true } } }
      let s := s.setEth k { s.ethPort k with asCap := true, pdelay := Config.linkDelay s.now % 2 ^ 32 }
      if was then s else s.netEvent 21 0x30 (unsignedOf 32 x.rate))

/-- MERIDIAN_HOLD_EXPIRY (R275): no Sync for HOLD ms. -/
def execMeridianHoldExpiry (g : Lapse) (s : State) : Host.Outcome State Fault Refusal :=
  let s := s.pass g
  .next (
    if s.net.mrd.traced && s.expired s.net.mrd.syncAt (msTk (s.pf Pf.mrdCfg_HOLD)) then
      { s with net := { s.net with mrd := { s.net.mrd with traced := false } } }.netEvent 21 0x31 ((s.now - s.net.mrd.syncAt) / 200000)
    else s)

/-- A classical data frame. -/
def dataFrame (id : Nat) (xtd : Bool) (d : List Byte) : CanFrame :=
  { id := id, xtd := xtd, rtr := false, fmt := 0, flags := 0, sdt := 0, vcid := 0, af := 0, dlc := d.length, data := d }

/-- A due tick on one port (R276, R277): what is unsent is abandoned or withdrawn, and the reference of the new cycle is placed. -/
def State.mrdDue (s : State) (n : Nat) : State :=
  let c := s.canPort n
  let s := match c.mrd with
    | some m => if m.fup then s else s.netEvent 21 0x32 n
    | none => s
  let on := (s.pf Pf.mrdCfg_PORTS).testBit n && s.pb Pf.canCfg_EN n && c.st ≠ .off
  let m : MrdBuf := ⟨dataFrame (s.pf Pf.mrdIds_REFID) (s.pb Pf.mrdIds_REFXTD) (leBytes 1 (c.cycle % 64)), false, s.now⟩
  s.modCan n (fun c => { c with mrd := if on then some m else none })

/-- PERIOD in force, ms: a write applies from the next due tick (R290). -/
def State.mrdPeriod (s : State) : Nat := (s.net.mrd.force.map (·.1)).getD (s.pf Pf.mrdPeriod_PERIOD)

/-- `meridian.ids` in force (R290). -/
def State.mrdIds (s : State) : Nat := (s.net.mrd.force.map (·.2)).getD (s.parOf Pid.mrdIds 0)

/-- MERIDIAN_CYCLE_DUE (R276). -/
def execMeridianCycleDue (g : Lapse) (s : State) : Host.Outcome State Fault Refusal :=
  let s := s.pass g
  .next (
    if s.pd 6 && s.pb Pf.mrdCfg_EN && s.now % msTk s.mrdPeriod = 0 then
      (List.range 8).foldl State.mrdDue
        { s with net := { s.net with mrd := { s.net.mrd with force := some (s.pf Pf.mrdPeriod_PERIOD, s.parOf Pid.mrdIds 0) } } }
    else s)

/-- Data of the follow-up of a reference whose start of frame was at `sof` (R276), most significant byte first. -/
def State.followUp (s : State) (n sof : Nat) : List Byte :=
  let m := s.meridian sof
  leBytes 1 ((s.canPort n).cycle % 64 + 64 * flag s.net.mrd.traced)
    ++ (leBytes 3 (m / 1000000000)).reverse ++ (leBytes 4 (m % 1000000000)).reverse

/-- REFERENCE_SENT (R276, R277): the reference that the controller offers has been sent; its follow-up takes the dedicated buffer. -/
def execReferenceSent (g : Lapse) (n : Fin 8) (sof : Nat) (s : State) : Host.Outcome State Fault Refusal :=
  let s := s.pass g
  let c := s.canPort n
  .next (
    match c.mrd with
    | some m =>
      if c.offered = some 32 && !m.fup && s.canSends n then
        let fu : MrdBuf := ⟨dataFrame (Pf.mrdIds_FUPID.of s.mrdIds) (decide (Pf.mrdIds_FUPXTD.of s.mrdIds = 1)) (s.followUp n sof), true, s.now⟩
        s.setCan n { c.goodTx with mrd := some fu, cycle := (c.cycle + 1) % 64, sent := c.sent ++ [m.frame] }
      else s
    | none => s)

/-! ### Parameters (10 R282, R291 to R293) -/

/-- EN of Meridian written 0: the next start takes the settings as written (R290). -/
def State.mrdWritten (s : State) (off : Nat) : State :=
  if off = 0 && !s.pb Pf.mrdCfg_EN then { s with net := { s.net with mrd := { s.net.mrd with force := none } } } else s

/-- STATE rules of `eth[k]`: the cable test runs only while EN is 0 (R282). -/
def State.ethStateOk (s : State) (k off v : Nat) : Bool := !(off = 3 && v.testBit 0 && s.pb Pf.ethCfg_EN k)

/-- Writes of `eth[k]`: EN, and RUN of the cable test (R282). -/
def State.ethWritten (s0 s : State) (k off v : Nat) : State :=
  if off = 0 then
    if s0.pb Pf.ethCfg_EN k && Pf.ethCfg_EN.of v = 0 then s.ethDown k
    else if !s0.pb Pf.ethCfg_EN k && Pf.ethCfg_EN.of v = 1 && (s.ethPort k).cable = 4 then s.setEth k { s.ethPort k with cable := 0 }
    else s
  else if off = 3 && v.testBit 0 && s.pd 5 then s.setEth k { s.ethPort k with cable := 4, dist := 0 }
  else s

/-- STATE rules of `spe[k]`: `cfg` and `plca` only while EN is 0, except EN (R292). -/
def State.speStateOk (s : State) (k off v : Nat) : Bool :=
  !s.pb Pf.speCfg_EN k || (if off = 0 then v / 2 = s.parOf (Pid.speCfg k) 0 / 2 else off ≠ 1)

/-- EN of `spe[k]` starts and stops the port. -/
def State.speWritten (s0 s : State) (k off v : Nat) : State :=
  if off = 0 && s.pd 5 then
    if Pf.speCfg_EN.of v = 1 && !s0.pb Pf.speCfg_EN k then s.speStart k
    else if Pf.speCfg_EN.of v = 0 && s0.pb Pf.speCfg_EN k then s.setSpe k { s.spePort k with beacon := false, csma := false }
    else s
  else s

/-- PD6 powers up (R286): every queue and buffer is empty, every count 0, Meridian untraced. -/
def State.netPd6Up (s : State) : State :=
  let s := { s with net := { s.net with
    can := Vector.replicate 8 {}
    lin := Vector.replicate 8 {}
    linq := Vector.replicate 8 []
    mrd := {}
    evs := s.net.evs.filter (fun e => 256 * 16 ≤ e.1 && !(256 * 21 ≤ e.1 && e.1 < 256 * 22)) } }
  let s := (List.range 8).foldl (fun s n => if s.pb Pf.canCfg_EN n && (s.mem.test.toList.getD 73 {}).result ≠ 2 then s.canStart n else s) s
  (List.range 8).foldl (fun s n => if s.pb Pf.linCfg_EN n then s.linStart n else s) s

/-- PD6 is switched off (R286): records not consumed are lost. -/
def State.netPd6Down (s : State) : State :=
  { s with net := { s.net with can := Vector.replicate 8 {}, lin := Vector.replicate 8 {}, linq := Vector.replicate 8 [], mrd := {} } }

/-- PD5 powers up (R286). -/
def State.netPd5Up (s : State) : State :=
  let s := { s with net := { s.net with
    eth := Vector.replicate 2 {}
    spe := Vector.replicate 2 {}
    learned := []
    learnFull := 0
    vlanDrop := 0
    egress := []
    evs := s.net.evs.filter (fun e => e.1 < 256 * 16 || 256 * 21 ≤ e.1) } }
  (List.range 2).foldl (fun s k => if s.pb Pf.speCfg_EN k then s.speStart k else s) s

/-- PD5 is switched off. -/
def State.netPd5Down (s : State) : State :=
  { s with net := { s.net with eth := Vector.replicate 2 {}, spe := Vector.replicate 2 {}, learned := [], egress := [] } }

end Sys2Proof.Machine
end

