-- ==== Sys2Proof/Machine/Session.lean ====
section
/-!
DEFINITION. Closing a session, and READY (03 R80, R454, 11 R296).
-/
namespace Sys2Proof.Machine

/-- A session closes (03 R80): its DONE handles go to FREE, its PENDING operations are orphans, its subscription and duplicate record are
cleared, its claim is released (R67), and its bit of `netsleep.need` is cleared (11 R296). -/
def State.closeSession (s : State) (i : Nat) : State :=
  if (s.ses i).isOpen then
    let s := { s with atlas := { s.atlas with handles := (s.atlas.handles.filter (fun (h : Hnd) => h.ses ≠ i || (match h.phase with | .done .. => false | _ => true))).map (fun (h : Hnd) => if h.ses = i then { h with orphan := true } else h) } }
    let s := (s.dropClaim i).modSes i (fun r => { r with isOpen := false, masks := Vector.replicate 4 0, answered := [] })
    s.setPf Pf.nsNeed_NEED 0 0 (s.pf Pf.nsNeed_NEED - (s.pf Pf.nsNeed_NEED &&& (1 <<< i)))
  else s

/-- Closing every session. -/
def State.closeAll (s : State) : State := (List.range 4).foldl State.closeSession s

end Sys2Proof.Machine
end

