-- ==== Sys2Proof/Machine/Agree.lean ====
section
/-!
DEFINITION. The sleep agreement but for its commit (11 R294 to R299, R306), and the units that block an entry (09 R243, R244).
-/
namespace Sys2Proof.Machine

/-! ### Units that are not OFF or LATCHED (09 R243, R244) -/

/-- A channel that is not OFF or LATCHED. -/
def State.chanBusy (s : State) (n : Nat) : Bool := (s.chan n).st ≠ .off && (s.chan n).st ≠ .latched

/-- A domain holds a unit that is not OFF or LATCHED: a channel of PD10 to PD13, a valve of PD9, an enabled chain or matrix of PD8. -/
def State.unitsIn (s : State) (p : Nat) : Bool :=
  if p = 8 then
    s.pd 8 && ((List.range 8).any (fun c => s.pb Pf.lcCfg_EN c) || (s.light.mx.st ≠ .off && s.light.mx.st ≠ .latched))
  else if p = 9 then (List.range 16).any (fun v => (s.valve v).st ≠ .off && (s.valve v).st ≠ .latched)
  else if 10 ≤ p && p ≤ 13 then (chansOf (p - 10)).any s.chanBusy
  else false

/-- An operation that blocks an entry like a unit (16 R422, 17 R437): IMG_ACTIVATE MODE 0, DEBUG_UNLOCK, PARAM_COMMIT, FLEET_COMMIT. -/
def State.opsBlock (s : State) : Bool :=
  s.opPending 0x5C || s.opPending 0x15 || s.opPending 0x60 || s.fw.jobs.any (fun j => j.op = .now)

/-- A unit blocks PARK and DORMANT. -/
def State.unitBlocks (s : State) : Bool := (List.range 16).any s.unitsIn

/-! ### The local request (11 R296) -/

/-- `netsleep.status.LOCAL`: need, units, wake hold, long operation. -/
def State.local4 (s : State) : Nat :=
  maskOf ((if s.pf Pf.nsNeed_NEED ≠ 0 then [0] else []) ++ (if s.unitBlocks then [1] else []) ++ (if s.agr.hold.isSome then [2] else [])
    ++ (if [0x15, 0x52, 0x53, 0x58, 0x60].any s.opPending then [3] else []))

/-- A local request is held. -/
def State.localReq (s : State) : Bool := s.local4 ≠ 0

/-- REASON: the number of the lowest set bit (assumption 23). -/
def State.reason (s : State) : Nat := ((bitList 4 s.local4).head?).getD 0

/-! ### Transitions (11 R295) -/

/-- Changing the agreement. -/
def State.modAgr (s : State) (f : Agree → Agree) : State := { s with agr := f s.agr }

/-- A class-5 event of the agreement (11 R307). -/
def State.agrEvent (s : State) (code value : Nat) : State := s.netEvent 22 code value

/-- TMO and FWTMO in force, tk. -/
def State.agrTmo (s : State) : Nat := msTk (Pf.nsCfg_TMO.of s.agr.cfg)
def State.agrFwTmo (s : State) : Nat := msTk (10 * Pf.nsCfg_FWTMO.of s.agr.cfg)

/-- A timeout starts at `t`, with `netsleep.cfg` and `netsleep.ka` as written (R308). -/
def State.agrStart (s : State) (t : Nat) : State :=
  s.modAgr (fun a => { a with start := t, cfg := s.parOf Pid.nsCfg 0, ka := s.parOf Pid.nsKa 0 })

/-- NORMAL, with the timeout from `t`. -/
def State.agrNormalAt (s : State) (t : Nat) : State := (s.agrStart t).modAgr (fun a => { a with st := .normal, linSlept := false, saved := false })

/-- NORMAL, with the timeout from now. -/
def State.agrNormal (s : State) : State := s.agrNormalAt s.now

/-- A keep-alive or a local request (R295, R299): the timeout restarts. A wait is aborted, and each LIN commander that had been put to sleep
sends a wake-up signal. -/
def State.agrStay (s : State) (value : Nat) : State :=
  match s.agr.st with
  | .normal => s.agrStart s.now
  | .readySleep =>
    let slept := s.agr.linSlept
    let s := (s.agrNormal.modAgr (fun a => { a with aborts := satInc 0xFFFF a.aborts })).agrEvent 0x41 value
    if slept then (List.range 8).foldl (fun s n => if s.linCommander n then s.linWakeup n else s) s else s
  | .wakeCheck => s.agrNormal
  | _ => s

/-- READY (R295): the agreement starts, by the source of the wake. -/
def State.agrReady (s : State) (src : Option Nat) : State :=
  if !s.pb Pf.nsCfg_EN then s.modAgr (fun a => { a with st := .disabled, hold := none })
  else
    match src with
    | none => s.agrNormal
    | some c =>
      let s := s.modAgr (fun a => { a with wakeSrc := c })
      if 2 ≤ c && c ≤ 7 then (s.agrStart s.now).modAgr (fun a => { a with st := .wakeCheck })
      else if s.pf Pf.nsCfg_WAKEHOLD = 0 then s.agrNormal
      else s.agrNormal.modAgr (fun a => { a with hold := some s.now })

/-- EN of `netsleep.cfg` is written (R295). -/
def State.nsWritten (s0 s : State) (off : Nat) : State :=
  if off ≠ 0 then s
  else if s.pb Pf.nsCfg_EN && s.agr.st = .disabled then s.agrNormal
  else if !s.pb Pf.nsCfg_EN && s0.agr.st ≠ .committing then s.modAgr (fun a => { a with st := .disabled, linSlept := false, saved := false, hold := none })
  else s

/-- RANGE of `netsleep` (R305, R306, R308): KAPER × 20 ms within TMO, FWTMO of at least two periods, KABASE, a Waymark element written 0. -/
def nsRange (off v : Nat) : Bool :=
  if off = 0 then Pf.nsCfg_KAPER.of v * 20 ≤ Pf.nsCfg_TMO.of v && 2 * Pf.nsCfg_KAPER.of v ≤ Pf.nsCfg_FWTMO.of v
  else if off = 2 then Pf.nsKa_KABASE.of v ≤ 0x7C0
  else if off = 5 then v = 0 else true

/-- Ethernet keep-alives have a port and an address (R297). -/
def State.kaEthOk (s : State) : Bool := s.pf Pf.atlasUdpPort_PORT ≤ 65533 && s.pf Pf.swxIp_IP ≠ 0

/-- STATE of `netsleep.ka` (R297). -/
def State.nsStateOk (s : State) (off v : Nat) : Bool :=
  off ≠ 2 || (Pf.nsKa_ETH.of v = 0 && Pf.nsKa_SPE.of v = 0) || s.kaEthOk

/-- DENIED of `netsleep.need`: a session writes its own bit alone (R296). -/
def State.nsDenied (s : State) (ses off v : Nat) : Bool :=
  off = 1 && (List.range 4).any (fun i => i ≠ ses && v.testBit i ≠ (s.pf Pf.nsNeed_NEED).testBit i)

/-! ### Waymark runs (11 R306) -/

/-- A link is watched: its bit of `netsleep.ka` in force, by Unit of 10 R287. -/
def State.watched (s : State) (link : Nat) : Bool :=
  if link < 8 then (Pf.nsKa_CAN.of s.agr.ka).testBit link
  else if 16 ≤ link && link ≤ 17 then (Pf.nsKa_ETH.of s.agr.ka).testBit (link - 16) && s.kaEthOk
  else if 18 ≤ link && link ≤ 19 then (Pf.nsKa_SPE.of s.agr.ka).testBit (link - 18) && s.kaEthOk
  else false

/-- The run of a link and node. -/
def State.wmRun (s : State) (link node : Nat) : Option WmRun := s.agr.runs.find? (fun r => r.link = link && r.node = node)

/-- The log's element of a link and node. -/
def State.wmSlot (s : State) (link node : Nat) : Option Nat :=
  (List.range 16).find? (fun i => s.parOf Pid.nsWaymark i ≠ 0 && s.pf Pf.nsWaymark_LINK 0 i = link && s.pf Pf.nsWaymark_NODE 0 i = node)

/-- The element that a run takes: its own, the first empty one, or the one with the oldest FIRST. -/
def State.wmTake (s : State) (link node : Nat) : Nat :=
  match s.wmSlot link node with
  | some i => i
  | none =>
    match (List.range 16).find? (fun i => s.parOf Pid.nsWaymark i = 0) with
    | some i => i
    | none => (List.range 16).foldl (fun b i => if s.pf Pf.nsWaymark_FIRST 0 i < s.pf Pf.nsWaymark_FIRST 0 b then i else b) 0

/-- Minutes of a run until now. -/
def State.wmMinutes (s : State) (r : WmRun) : Nat := min 0xFFFF ((s.now - r.start) / secTk 60)

/-- Writing a run's element. -/
def State.wmWrite (s : State) (i : Nat) (r : WmRun) (active : Bool) : State :=
  s.setPar Pid.nsWaymark i (Pf.nsWaymark_LINK.put r.link + Pf.nsWaymark_ACTIVE.put (flag active) + Pf.nsWaymark_NODE.put r.node
    + Pf.nsWaymark_REASON.put r.reason + Pf.nsWaymark_MINUTES.put (s.wmMinutes r) + Pf.nsWaymark_FIRST.put (r.first / 32768))

/-- A run ends: ACTIVE of its element is cleared. -/
def State.wmEnd (s : State) (r : WmRun) : State :=
  let s := s.modAgr (fun a => { a with runs := a.runs.filter (fun x => !(x.link = r.link && x.node = r.node)) })
  match s.wmSlot r.link r.node with
  | some i => if r.logged then s.setPf Pf.nsWaymark_ACTIVE 0 i 0 else s
  | none => s

/-- The device holds a local request: every run ends. -/
def State.wmEndAll (s : State) : State := s.agr.runs.foldl State.wmEnd s

/-- A keep-alive starts a run or goes on with it. -/
def State.wmSeen (s : State) (link node reason : Nat) : State :=
  if s.localReq then s.wmEndAll
  else
    match s.wmRun link node with
    | some r =>
      let s := if s.agrTmo < s.now - r.last then s.wmEnd r else s
      if (s.wmRun link node).isSome then
        s.modAgr (fun a => { a with runs := a.runs.map (fun (x : WmRun) => if x.link = link && x.node = node then { x with last := s.now, reason := reason } else x) })
      else s.modAgr (fun a => { a with runs := a.runs ++ [⟨link, node, reason, s.clk.aon, s.now, s.now, false⟩] })
    | none => s.modAgr (fun a => { a with runs := a.runs ++ [⟨link, node, reason, s.clk.aon, s.now, s.now, false⟩] })

end Sys2Proof.Machine
end

