-- ==== Sys2Proof/Machine/CoreOps.lean ====
section
/-!
DEFINITION. What every user of the Xitre cores and of the fabric shares: a core's record and memory, starting and halting a core, and
what an initiator does with a fabric response (14 R366, R374, R380, R386, 02 R38, 03 R67, R68).
-/
namespace Sys2Proof.Machine

/-- Number of a core in the state: S 0, An 1 + n, Cn 5 + n, VBb 69 + b. -/
def coreIx : CoreId → Nat
  | .s => 0
  | .a n => 1 + n
  | .c n => 5 + n
  | .vb b => 69 + b

/-- Types of cores, by number. -/
def isA (i : Nat) : Bool := 1 ≤ i && i ≤ 4
def isC (i : Nat) : Bool := 5 ≤ i && i ≤ 68
def isVb (i : Nat) : Bool := 69 ≤ i

/-- Fabric address and size of a core's own memory (01 R26). -/
def ownBase (i : Nat) : Nat :=
  if i = 0 then 0x20000000 else if i < 5 then 0x20010000 + 0x10000 * (i - 1)
  else if i < 69 then 0x20100000 + 0x1000 * (i - 5) else 0x20140000 + 0x1000 * (i - 69)
def ownSize (i : Nat) : Nat := if i < 5 then 0x10000 else 0x1000

/-- Domain of a core (14 R362, 01 R22). -/
def coreDom (i : Nat) : Nat := if i = 0 then 1 else if i < 5 then 2 else if i < 69 then 10 + dieOf (i - 5) else 9

/-- The value of port core (14 R366). -/
def coreNo (i : Nat) : Nat := if i < 5 then i else i + 11

/-- The core that a core number names. -/
def coreOfNo (c : Nat) : Option Nat := if c < 5 then some c else if 16 ≤ c && c ≤ 83 then some (c - 11) else none

/-- Record of a core. -/
def State.core (s : State) (i : Nat) : Core := s.xi.core.toList.getD i {}
def State.setCore (s : State) (i : Nat) (c : Core) : State := { s with xi := { s.xi with core := s.xi.core.setIfInBounds i c } }
def State.modCore (s : State) (i : Nat) (f : Core → Core) : State := s.setCore i (f (s.core i))

/-- Record of an applet. -/
def State.applet (s : State) (n : Nat) : Applet := s.xi.app.toList.getD n {}
def State.modApplet (s : State) (n : Nat) (f : Applet → Applet) : State :=
  { s with xi := { s.xi with app := s.xi.app.setIfInBounds n (f (s.applet n)) } }

/-- Debug record of core k, S 0 and An 1 + n (14 R387). -/
def State.dbgCore (s : State) (k : Nat) : DbgCore := s.dbg.cores.toList.getD k {}
def State.modDbgCore (s : State) (k : Nat) (f : DbgCore → DbgCore) : State :=
  { s with dbg := { s.dbg with cores := s.dbg.cores.setIfInBounds k (f (s.dbgCore k)) } }

/-- A core starts at a program counter: sp is the end of its own memory and splim its start (14 R374). Nothing is pending or
outstanding; registers and port values stay (DESIGN CHOICE, entry 18). -/
def State.startCore (s : State) (i pc : Nat) : State :=
  s.modCore i (fun c => { c with st := .running, pc := pc, sp := ownBase i + ownSize i, splim := ownBase i, flow := none, slots := 0, ldErr := none, ldWait := none, exWait := false, fence := false, late := [], evPend := 0, stepped := false, busyAt := s.now, sampAt := s.now, stepAt := s.now, masked := false })

/-- A core halts; a wait in progress ends (14 R386). -/
def State.haltCore (s : State) (i : Nat) (st : CoreSt) : State := s.modCore i (fun c => { c with st := st, ldWait := none, exWait := false, fence := false, stepped := false })

/-! ### Session 3 when an A core halts, traps or is restarted (03 R67, R68) -/

/-- Session 3 after core n halted: its entries go, its claim is released, its PENDING operations are orphans. -/
def State.dropApplet (s : State) (n : Nat) : State :=
  let s := if (s.ses 3).owner = n then s.dropClaim 3 else s
  let s := s.modSes 3 (fun r =>
    let l := (r.queue ++ r.spill).filter (fun m => m.origin ≠ n)
    ({ r with queue := l.take 64, spill := l.drop 64, posted := r.posted.filter (fun m => m.origin ≠ n) }).post)
  let s := { s with atlas := { s.atlas with handles := s.atlas.handles.map (fun (h : Hnd) =>
    if h.ses = 3 && h.org = n then (match h.phase with | .done .. => h | _ => { h with orphan := true }) else h) } }
  s.mbxEvent 3

/-- The debugger halts a core, which goes on from where it stands once it is resumed (14 R387); session 3 treats an A core's halt as any other
(03 R68). -/
def State.debugHalt (s : State) (i : Nat) : State :=
  let s := s.modCore i (fun c => { c with st := .halted, stepped := true })
  if isA i then s.dropApplet (i - 1) else s

/-- Ring headers as Atlas writes them before the first word runs (14 R384, R385). -/
def State.freshRings (s : State) (n : Nat) : State :=
  let hdr := fun (s : State) (base size : Nat) =>
    if size = 0 then s
    else s.loadBytes (ownBase (1 + n) + base) (leBytes 4 16 ++ leBytes 4 16 ++ leBytes 4 0 ++ leBytes 4 0)
  let s := hdr s (s.pf Pf.appRing_RXBASE n) (s.pf Pf.appRing_RXSIZE n)
  hdr s (s.pf Pf.appRing_TXBASE n) (s.pf Pf.appRing_TXSIZE n)

/-- Flash address of the store of applet n (16 R410). -/
def appStore (n : Nat) : Nat := 0x63800000 + 0x20000 * n

/-- The active applet's section is copied into its core's memory (16 R418). -/
def State.copyApplet (s : State) (n : Nat) : State :=
  let a := s.fw.apps.toList.getD n {}
  if a.st = .active then s.loadBytes (ownBase (1 + n) + a.load) ((List.range a.size).map (fun i => s.byteAt (appStore n + a.off + i)))
  else s

/-- Starting or restarting an applet at its ENTRY, with fresh rings (14 R386). Its event SEQ starts at 0 (03 R94). -/
def State.startApplet (s : State) (n : Nat) : State :=
  let s := (s.copyApplet n).freshRings n
  let s := s.modSes 3 (fun r => { r with evSeq := r.evSeq.setIfInBounds n 0 })
  let s := s.modApplet n (fun a => { a with restart := none })
  s.startCore (1 + n) (4 * s.pf Pf.appCfg_ENTRY n)

/-- Halting an applet at its next word boundary, for a write of RUN 0 (14 R386). -/
def State.stopApplet (s : State) (n : Nat) : State :=
  ((s.haltCore (1 + n) .halted).modApplet n (fun a => { a with restart := none })).dropApplet n

/-! ### Responses (02 R38, 14 R367, R379, 15 R406) -/

/-- Initiator core of a port and unit. -/
def reqCore (r : FabReq) : Option Nat := if r.port = 0 then some 0 else if r.port = 1 then some (1 + r.unit) else none

/-- Data of a load, extended as its trigger says. -/
def LdWait.value (w : LdWait) (d : Nat) : Nat :=
  if w.sgn then unsignedOf 32 (signedOf (8 * w.size) d) else d % 2 ^ 32

/-- A core takes the response of its load: the result, or an error for the word that reads it. -/
def Core.loaded (c : Core) (w : LdWait) (code d : Nat) : Core :=
  let c := { c with ldWait := none }
  if code = 0 then { c with lsuR := w.value d, lsuRh := if w.size = 8 then d / 2 ^ 32 % 2 ^ 32 else c.lsuRh }
  else { c with ldErr := some (code, w.addr) }

/-- Changing a DMA channel's record. -/
def State.dmaOf (s : State) (n : Nat) : DmaCh := s.dma.toList.getD n {}
def State.modDma (s : State) (n : Nat) (f : DmaCh → DmaCh) : State := { s with dma := s.dma.setIfInBounds n (f (s.dmaOf n)) }

/-- A DMA channel halts with a code and an address (15 R406). -/
def State.dmaHalt (s : State) (n code addr : Nat) : State := s.modDma n (fun c => { c with st := 3, code := code, errAddr := addr })

/-- A response reaches its initiator (02 R38): an error is recorded and counted in DBG; a core takes its data, its exclusive result or
its error; a DMA channel halts on an error. -/
def State.respond (s : State) (r : FabReq) (code data : Nat) : State :=
  let s := { s with fab := { s.fab with last := some ⟨r.port, r.unit, code, if r.write then 0 else data⟩ } }
  let s := if code = 0 then s else s.fabErr code r.port r.addr
  match reqCore r with
  | some i =>
    s.modCore i (fun c =>
      match c.ldWait with
      | some w =>
        if !r.write && w.addr = r.addr && w.size = r.size then c.loaded w code data
        else if r.write && code ≠ 0 then { c with late := c.late ++ [(code, r.addr)] } else c
      | none =>
        if r.write && r.excl && c.exWait then
          (if code = 0 then { c with exWait := false, lsuEx := data } else { c with exWait := false, late := c.late ++ [(code, r.addr)] })
        else if r.write && code ≠ 0 then { c with late := c.late ++ [(code, r.addr)] } else c)
  | none =>
    if r.port = 2 && code ≠ 0 && (s.dmaOf r.unit).st = 1 then s.dmaHalt r.unit code r.addr else s

/-! ### System SRAM, the semaphore and the lock (13 R345, R346) -/

/-- RID of an initiator: crossbar port × 32 plus the unit (13 R335). -/
def ridOf (r : FabReq) : Nat := 32 * r.port + r.unit

/-- Reservations of a doubleword end when another initiator writes it (13 R345). -/
def Twin.written (t : Twin) (rid a n : Nat) : Twin :=
  { t with sem := t.sem.filter (fun v => v.rid = rid || v.dw + 8 ≤ a || a + n ≤ v.dw) }

/-- Setting a reservation: it replaces that of its RID, and a ninth evicts the oldest (13 R345). -/
def Twin.reserve (t : Twin) (rid a now : Nat) : Twin :=
  let l := t.sem.filter (fun v => v.rid ≠ rid) ++ [⟨rid, a / 8 * 8, now⟩]
  { t with sem := l.drop (l.length - 8) }

/-- A write of the system SRAM or the filter RAM by an initiator. -/
def State.sramWrite (s : State) (port rid a size v : Nat) : State × Nat :=
  let (s, code) := s.memWrite port a size v
  (if code = 0 then { s with twin := s.twin.written rid a size } else s, code)

/-- An exclusive write (13 R345): it writes where a reservation of its RID for the doubleword stands; the reservation ends. -/
def State.exWrite (s : State) (port rid a v : Nat) : State × Nat × Nat :=
  let hit := s.twin.sem.any (fun x => x.rid = rid && x.dw = a / 8 * 8 && s.now < x.stamp + 20000)
  let s := { s with twin := { s.twin with sem := s.twin.sem.filter (fun x => x.rid ≠ rid) } }
  if hit then
    let (s, code) := s.sramWrite port rid a 4 v
    if code = 0 then ({ s with twin := { s.twin with exok := satInc 0xFFFF s.twin.exok } }, 0, 1) else (s, code, 0)
  else ({ s with twin := { s.twin with exfail := satInc 0xFFFF s.twin.exfail } }, 0, 0)

/-- An access of an initiator to the system SRAM: code and data. -/
def State.sramAccess (s : State) (r : FabReq) : State × Nat × Nat :=
  if r.excl && r.write then s.exWrite r.port (ridOf r) r.addr r.data
  else if r.write then let (s, c) := s.sramWrite r.port (ridOf r) r.addr r.size r.data; (s, c, 0)
  else
    let (s, c, d) := s.memRead r.port r.addr r.size
    (if r.excl && c = 0 then { s with twin := s.twin.reserve (ridOf r) r.addr s.now } else s, c, d)

/-- A request stamped now joins those whose response is outstanding. -/
def State.inService (s : State) (r : FabReq) (ans : FabAns) : State :=
  { s with fab := { s.fab with inflight := s.fab.inflight ++ [⟨r, s.now, ans⟩] } }

end Sys2Proof.Machine
end

