-- ==== Sys2Proof/Machine/Keccak.lean ====
section
/-!
DEFINITION. SHAKE256 of FIPS 202, the hash that chapter 16 names for the digests of an attestation report (16 R421).
-/
namespace Sys2Proof.Machine

/-- A 64-bit lane. -/
abbrev Lane := BitVec 64

/-- Round constants of Keccak-f[1600]. -/
def keccakRc : List Lane :=
  [0x0000000000000001#64, 0x0000000000008082#64, 0x800000000000808A#64, 0x8000000080008000#64, 0x000000000000808B#64,
   0x0000000080000001#64, 0x8000000080008081#64, 0x8000000000008009#64, 0x000000000000008A#64, 0x0000000000000088#64,
   0x0000000080008009#64, 0x000000008000000A#64]
  ++ [0x000000008000808B#64, 0x800000000000008B#64, 0x8000000000008089#64, 0x8000000000008003#64, 0x8000000000008002#64,
   0x8000000000000080#64, 0x000000000000800A#64, 0x800000008000000A#64, 0x8000000080008081#64, 0x8000000000008080#64,
   0x0000000080000001#64, 0x8000000080008008#64]

/-- Rotation offsets, by lane x + 5 y. -/
def keccakRot : List Nat :=
  [0, 1, 62, 28, 27, 36, 44, 6, 55, 20, 3, 10, 43] ++ [25, 39, 41, 45, 15, 21, 8, 18, 2, 61, 56, 14]

/-- Lane x + 5 y of a state of 25 lanes, coordinates modulo 5. -/
def laneAt (a : List Lane) (x y : Nat) : Lane := a.getD (x % 5 + 5 * (y % 5)) 0

/-- A state from a rule for its lanes. -/
def lanes (f : Nat → Nat → Lane) : List Lane := (List.range 25).map (fun i => f (i % 5) (i / 5))

/-- One round. -/
def keccakRound (a : List Lane) (rc : Lane) : List Lane :=
  let c := (List.range 5).map (fun x => (List.range 5).foldl (fun v y => v ^^^ laneAt a x y) 0)
  let d := (List.range 5).map (fun x => c.getD ((x + 4) % 5) 0 ^^^ (c.getD ((x + 1) % 5) 0).rotateLeft 1)
  let a := lanes (fun x y => laneAt a x y ^^^ d.getD x 0)
  let r := (a.zip keccakRot).map (fun p => p.1.rotateLeft p.2)
  let b := lanes (fun x y => laneAt r (x + 3 * y) x)
  (lanes (fun x y => laneAt b x y ^^^ (~~~ laneAt b (x + 1) y &&& laneAt b (x + 2) y))).zipIdx.map
    (fun p => if p.2 = 0 then p.1 ^^^ rc else p.1)

/-- Keccak-f[1600]. -/
def keccakF (a : List Lane) : List Lane := keccakRc.foldl keccakRound a

/-- Absorbing one block of 136 bytes, then permuting. -/
def absorb (a : List Lane) (block : List Byte) : List Lane :=
  keccakF (a.zipIdx.map (fun p => if p.2 < 17 then p.1 ^^^ BitVec.ofNat 64 (leAt block (8 * p.2) 8) else p.1))

/-- Absorbing `k` blocks of a padded message. -/
def absorbAll : Nat → List Lane → List Byte → List Lane
  | 0, a, _ => a
  | k + 1, a, m => absorbAll k (absorb a (m.take 136)) (m.drop 136)

/-- SHAKE256 with at most 136 bytes of output. -/
def shake256 (m : List Byte) (n : Nat) : List Byte :=
  let k := m.length / 136 + 1
  let gap := 136 * k - m.length
  let pad : List Byte := if gap = 1 then [0x9F#8] else 0x1F#8 :: (List.replicate (gap - 2) 0#8 ++ [0x80#8])
  let a := absorbAll k (List.replicate 25 0) (m ++ pad)
  (a.flatMap (fun l => leBytes 8 l.toNat)).take n

end Sys2Proof.Machine
end

