-- ==== Sys2Proof/Machine/Fw.lean ====
section
/-!
DEFINITION. Firmware images, applets, the debug token and attestation (16).
-/
namespace Sys2Proof.Machine

/-- Changing the firmware record. -/
def State.modFw (s : State) (f : Fw → Fw) : State := { s with fw := f s.fw }

/-! ### Targets and images (16 R409, R410, R412) -/

/-- Flash address of an Atlas slot and of a target. -/
def slotBase (i : Nat) : Nat := 0x60000000 + 0x1800000 * i
def State.targetBase (s : State) (t : Nat) : Nat :=
  if t = 0 then slotBase (1 - s.fw.run) else if t ≤ 4 then appStore (t - 1) else 0x63880000

/-- KIND of a target. -/
def targetKind (t : Nat) : Nat := if t = 0 then 0 else if t ≤ 4 then 1 else 2

/-- LENGTH limits of a KIND (16 R409). -/
def lengthOk (kind n : Nat) : Bool := 30304 ≤ n && n ≤ (if kind = 0 then 25165824 else if kind = 1 then 131072 else 30304)

/-- State of a target. -/
def State.targetSt (s : State) (t : Nat) : SlotSt :=
  if t = 0 then (s.fw.slots.toList.getD (1 - s.fw.run) {}).st
  else if t ≤ 4 then (s.fw.apps.toList.getD (t - 1) {}).st else s.fw.token.st

/-- Changing a slot, and the state of a target. -/
def State.modSlot (s : State) (i : Nat) (f : Slot → Slot) : State :=
  s.modFw (fun w => { w with slots := w.slots.setIfInBounds i (f (w.slots.toList.getD i {})) })
def State.setTarget (s : State) (t : Nat) (st : SlotSt) : State :=
  if t = 0 then s.modSlot (1 - s.fw.run) (fun x => { x with st := st })
  else if t ≤ 4 then s.modFw (fun w => { w with apps := w.apps.setIfInBounds (t - 1) { w.apps.toList.getD (t - 1) {} with st := st } })
  else s.modFw (fun w => { w with token := { w.token with st := st } })

/-- Code of a slot state (16 R414). -/
def SlotSt.code : SlotSt → Nat
  | .empty => 0 | .receiving => 1 | .received => 2 | .verified => 3 | .active => 4 | .trial => 5 | .previous => 6 | .invalid => 7

/-- The running image is in TRIAL. -/
def State.inTrial (s : State) : Bool := s.image.st = .trial

/-- A class-11 event of a target (16 R423). -/
def State.fwEvent (s : State) (t code value : Nat) : State :=
  s.emit 11 t code (leBytes 4 value ++ leBytes 2 (s.pf Pf.atlasBePin_PIN) ++ leBytes 1 (if t = 0 then 1 - s.fw.run else 0xFF) ++ leBytes 1 0)

/-- A class-11 event of the running image. -/
def State.runEvent (s : State) (code value : Nat) : State :=
  s.emit 11 0 code (leBytes 4 value ++ leBytes 2 (s.pf Pf.atlasBePin_PIN) ++ leBytes 1 s.fw.run ++ leBytes 1 0)

/-- Words of the unit identifier. -/
def uidWord (i : Nat) : Nat := (Config.fused i).toNat
def uidVal : Nat := uidWord 0 + uidWord 1 * 2 ^ 32 + uidWord 2 * 2 ^ 64 + uidWord 3 * 2 ^ 96

/-! ### Transfer (16 R412, R413) -/

/-- Granules of an image. -/
def granules (len : Nat) : Nat := ceilDiv len 4096

/-- FREE, RECEIVED and FIRSTGAP (16 R412). -/
def State.xferFree (s : State) : Nat := 16 - s.fw.queue.length
def State.xferReceived (s : State) : Nat := match s.fw.xfer with | some x => x.map.length | none => 0
def State.xferGap (s : State) : Nat :=
  match s.fw.xfer with
  | none => 0
  | some x =>
    match (List.range (granules x.len)).find? (fun i => (kvGet (4096 * i) x.map).isNone && !(s.fw.queue.any (fun q => q.off = 4096 * i))) with
    | some i => 4096 * i
    | none => x.len

/-- The 12-byte payload of an IMG_BLOCK answer (16 R413). -/
def State.blockPayload (s : State) : List Byte := leBytes 2 s.xferFree ++ leBytes 2 0 ++ leBytes 4 s.xferReceived ++ leBytes 4 s.xferGap

/-- An operation that IMG_BEGIN waits for: IMG_VERIFY, IMG_ACTIVATE or DEBUG_UNLOCK is PENDING. -/
def State.imgPending (s : State) : Bool := s.opPending 0x52 || s.opPending 0x53 || s.opPending 0x5C

/-- Starting a transfer of an accepted IMG_BEGIN. The target of an abandoned transfer keeps its state (entry 104). -/
def State.xferStart (s : State) (b : ImgBegin) : State :=
  if b.flags.testBit 0 then s
  else (s.modFw (fun w => { w with xfer := some ⟨b.target, b.len, b.token, [], 0⟩, queue := [] })).setTarget b.target .receiving

/-- In RECOVERY only TARGET 0 is served (17 R428). -/
def State.recoveryOnly (s : State) (t : Nat) : Bool := s.boot.recovery && t ≠ 0

/-- Serving IMG_BEGIN (16 R412). STATE for TARGET 5 with PD4 off is the model's (entry 104). -/
def State.imgBegin (s : State) (r : InReq) (b : ImgBegin) : State :=
  let same := match s.fw.xfer with | some x => x.target = b.target && x.len = b.len && x.token = b.token | none => false
  let resume := b.flags.testBit 0
  if s.recoveryOnly b.target then s.answer r St.notReady 0 []
  else if 5 < b.target || 1 < b.flags || !lengthOk (targetKind b.target) b.len then s.answer r St.range 0 []
  else if (resume && !same) || (b.target = 0 && (s.inTrial || s.fw.armed)) || s.imgPending || (b.target = 5 && !s.pd 4) then s.answer r St.state 0 []
  else
    let s := s.xferStart b
    let (s, nonce) := if b.target = 5 then
        let (s, n) := s.draw
        (s.modFw (fun w => { w with nonce := some (n % 2 ^ 64) }), n % 2 ^ 64)
      else (s, 0)
    s.answer r St.ok 0 (leBytes 1 (if b.target = 0 then 1 - s.fw.run else 0xFF) ++ leBytes 1 0 ++ leBytes 2 s.xferFree ++ leBytes 4 s.xferReceived ++ leBytes 4 s.xferGap ++ leBytes 4 0 ++ leBytes 8 nonce)

/-- IMG_BEGIN (16 R412). -/
def execImgBegin (g : Lapse) (q : Rq) (b : ImgBegin) (s : State) : Host.Outcome State Fault Refusal :=
  .next ((s.pass g).serve q 0x50 0 (leBytes 1 b.target ++ leBytes 1 b.flags ++ leBytes 2 0 ++ leBytes 4 b.len ++ leBytes 4 b.token ++ leBytes 4 0)
    (fun r s => s.imgBegin r b))

/-- SECTOR_ERASE_DONE: the next sector of the transfer, in ascending order (16 R412). -/
def execSectorEraseDone (g : Lapse) (s : State) : Host.Outcome State Fault Refusal :=
  let s := s.pass g
  match s.fw.xfer with
  | none => .next s
  | some x =>
    if 65536 * x.erased < x.len then
      let s := s.loseMem (s.targetBase x.target + 65536 * x.erased) 65536
      .next (s.modFw (fun w => { w with xfer := some { x with erased := x.erased + 1 } }))
    else .next s

/-- Serving IMG_BLOCK (16 R413). -/
def State.imgBlock (s : State) (r : InReq) (b : ImgBlock) : State :=
  match s.fw.xfer with
  | none => if b.data.length ≠ b.len then s.answer r St.badFormat 0 [] else s.answer r St.state 0 s.blockPayload
  | some x =>
    if b.data.length ≠ b.len then s.answer r St.badFormat 0 []
    else if s.recoveryOnly x.target then s.answer r St.notReady 0 []
    else if x.token ≠ b.token then s.answer r St.state 0 s.blockPayload
    else if b.off % 4096 ≠ 0 || x.len ≤ b.off || b.len ≠ min 4096 (x.len - b.off) then s.answer r St.range 0 []
    else if crc32c b.data ≠ b.crc then s.answer r St.badFormat 0 []
    else
      let old : Option Nat := match kvGet b.off x.map with | some c => some c | none => (s.fw.queue.find? (fun (q : Granule) => q.off = b.off)).map (fun (q : Granule) => q.crc)
      match old with
      | some c => if c = b.crc then s.answer r St.ok 0 s.blockPayload else s.answer r St.range 0 []
      | none =>
        if 16 ≤ s.fw.queue.length then s.answer r St.state 0 s.blockPayload
        else
          let s := s.modFw (fun w => { w with queue := w.queue ++ [⟨b.off, b.crc, b.data⟩] })
          s.answer r St.ok 0 s.blockPayload

/-- IMG_BLOCK (16 R413). -/
def execImgBlock (g : Lapse) (q : Rq) (b : ImgBlock) (s : State) : Host.Outcome State Fault Refusal :=
  .next ((s.pass g).serve q 0x51 0 (leBytes 4 b.token ++ leBytes 4 b.off ++ leBytes 4 b.len ++ leBytes 4 b.crc ++ b.data)
    (fun r s => s.imgBlock r b))

/-! ### Verification (16 R415) -/

/-- A header field of the image at a flash address. -/
def State.hdr (s : State) (base off n : Nat) : Nat := s.bytesAt (base + off) n

/-- Sections of an image: OFFSET, SIZE, LOAD. -/
def State.sections (s : State) (base : Nat) : List (Nat × Nat × Nat) :=
  (List.range (s.hdr base 51 1)).map (fun i => (s.hdr base (64 + 16 * i) 4, s.hdr base (68 + 16 * i) 4, s.hdr base (72 + 16 * i) 4))

/-- Step 1: the header. -/
def State.headerOk (s : State) (base kind : Nat) : Bool :=
  let n := s.hdr base 51 1
  let len := s.hdr base 32 4
  let ss := s.sections base
  let rev := s.hdr base 50 1
  s.hdr base 0 4 = 0x474D494C && s.hdr base 4 2 = 1 && s.hdr base 6 1 = kind && 1 ≤ n && n ≤ 28
    && ss.all (fun p => p.1 + p.2.1 ≤ len)
    && (List.range n).all (fun i => (List.range i).all (fun j =>
        let a := ss.getD i (0, 0, 0)
        let b := ss.getD j (0, 0, 0)
        a.1 + a.2.1 ≤ b.1 || b.1 + b.2.1 ≤ a.1))
    && (kind ≠ 1 || (n = 1 && ss.all (fun p => p.2.2 % 4 = 0 && p.2.2 + p.2.1 ≤ 65536)))
    && (kind = 0 || rev = 0) && (kind ≠ 0 || !rev.testBit (s.hdr base 7 1))

/-- Step 2: the binding. -/
def State.bindingOk (s : State) (base kind : Nat) : Bool :=
  let u := s.hdr base 16 16
  s.hdr base 8 4 = 0x34365A41 && s.hdr base 12 1 = 0x4D && s.hdr base 13 1 = 0xA1 && ((u = 0 && kind ≠ 2) || u = uidVal)

/-- Step 5: the key (16 R410, R424). -/
def State.keyErr (s : State) (base kind : Nat) : Nat :=
  let k := s.hdr base 7 1
  if kind = 1 then (if s.parOf 0x6007 0 = 0 then 4 else 0)
  else if (if kind = 0 then decide (k ≤ 2) else decide (k = 3)) && !s.fw.revoked.testBit k then 0 else 3

/-- `atlas.be` for the check: before phase 7 has run, in RECOVERY, the stored copy (17 R425). -/
def State.beInForce (s : State) : Nat := if s.boot.recovery then Pf.atlasBePin_PIN.of (s.storedOf (Pf.atlasBePin_PIN.id 0) 0) else s.pf Pf.atlasBePin_PIN

/-- The check of R415: none for a pass, else the completion status and the FAILED code. -/
def State.imgCheck (s : State) (t : Nat) (sigOk : Bool) : Option (Nat × Nat) :=
  let base := s.targetBase t
  let kind := targetKind t
  let be := s.beInForce
  if !s.headerOk base kind then some (St.failed, 1)
  else if !s.bindingOk base kind then some (St.binding, 0)
  else if kind = 0 && s.hdr base 40 4 < s.fw.rollback then some (St.rollback, 0)
  else if kind = 0 && !(s.hdr base 46 2 ≤ be && be ≤ s.hdr base 48 2) then some (St.failed, 2)
  else if s.keyErr base kind ≠ 0 then some (St.failed, s.keyErr base kind)
  else if !sigOk then some (St.verifyFailed, 0)
  else none

/-- The header fields of a target that has passed are taken into its record. -/
def State.takeHeader (s : State) (t : Nat) : State :=
  let b := s.targetBase t
  if t = 0 then
    s.modSlot (1 - s.fw.run) (fun x => { x with version := s.hdr b 36 4, ie := s.hdr b 44 2, beMin := s.hdr b 46 2, beMax := s.hdr b 48 2, rollback := s.hdr b 40 4, revoke := s.hdr b 50 1 % 8, len := s.hdr b 32 4 })
  else if t ≤ 4 then
    s.modFw (fun w => { w with apps := w.apps.setIfInBounds (t - 1) { w.apps.toList.getD (t - 1) {} with version := s.hdr b 36 4, len := s.hdr b 32 4, off := s.hdr b 64 4, size := s.hdr b 68 4, load := s.hdr b 72 4 } })
  else s

/-- A target that the check may be asked of. -/
def checkable (st : SlotSt) : Bool := st = .received || st = .verified || st = .previous

/-- Operations ready for the enclave's SHAKE core: checks once the flash queue is empty, and the signing of ATTEST (16 R415, R421). -/
def State.shakeReady (s : State) : List Hnd :=
  let jobs := if s.fw.queue.isEmpty then (s.fw.jobs.filter (fun j => !j.writing)).map (·.handle) else []
  let sign := (s.fw.sign.map (fun (j : SignJob) => j.handle)).toList
  (jobs ++ sign).filterMap (fun h => s.handle h)

/-- The first operation in stamp order; of two with one stamp, the one listed first (entry 104). -/
def oldestHnd (l : List Hnd) : Option Hnd :=
  l.foldl (fun (b : Option Hnd) h => match b with | none => some h | some x => if h.stamp < x.stamp then some h else some x) none

/-- The SHAKE core serves one operation at a time, in stamp order: while the one it serves goes on it is kept (16 R415). -/
def State.shakeServe (s : State) : State :=
  let l := s.shakeReady
  let keep := match s.fw.shake with | some n => l.any (fun h => h.num = n) | none => false
  if keep then s else s.modFw (fun w => { w with shake := (oldestHnd l).map (·.num) })

/-- The flash queue is empty: the operations that waited for it run (16 R415, 03 R80). -/
def State.flashFree (s : State) : State :=
  if s.fw.queue.isEmpty then
    let s := s.fw.jobs.foldl (fun s j => s.setWait j.handle 0) s
    let s := match s.atlas.commit with | some (h, _) => s.setWait h 0 | none => s
    (match s.atlas.fleet with | some (h, _) => s.setWait h 0 | none => s).shakeServe
  else s

/-- GRANULE_PROGRAMMED: the first queued granule whose sector is erased (16 R413). -/
def execGranuleProgrammed (g : Lapse) (ok : Bool) (s : State) : Host.Outcome State Fault Refusal :=
  let s := s.pass g
  match s.fw.xfer with
  | none => .next s
  | some x =>
    match s.fw.queue.find? (fun q => q.off / 65536 < x.erased) with
    | none => .next s
    | some q =>
      let s := s.modFw (fun w => { w with queue := w.queue.filter (fun y => y.off ≠ q.off) })
      if ok then
        let s := s.loadBytes (s.targetBase x.target + q.off) q.data
        let x := { x with map := kvPut q.off q.crc x.map }
        let s := s.modFw (fun w => { w with xfer := some x })
        .next (if x.map.length = granules x.len then s.setTarget x.target .received else s).flashFree
      else .next (((s.modFw (fun w => { w with flashErr := satInc 0xFFFF w.flashErr })).fwEvent x.target 0x0A q.off).flashFree)

/-- Accepting a long operation on an image: it waits for the flash queue with Wait 3 (16 R415). -/
def State.imgJob (s : State) (r : InReq) (t : Nat) (op : ImgOp) : State :=
  match s.accept r t with
  | (s, none) => s
  | (s, some h) =>
    let s := s.modFw (fun w => { w with jobs := w.jobs ++ [⟨h, t, op, false⟩] })
    let s := s.setProgress h 0
    (if s.fw.queue.isEmpty then s else s.setWait h 3).shakeServe

/-- IMG_VERIFY (16 R415). RANGE above TARGET 4 and STATE with PD4 off are the model's (entry 104). -/
def execImgVerify (g : Lapse) (q : Rq) (target : Nat) (s : State) : Host.Outcome State Fault Refusal :=
  .next ((s.pass g).serve q 0x52 0 (leBytes 1 target ++ leBytes 3 0) (fun r s =>
    if s.recoveryOnly target then s.answer r St.notReady 0 []
    else if 4 < target then s.answer r St.range 0 []
    else if s.opPending 0x52 then s.answer r St.conflict 0 []
    else if !checkable (s.targetSt target) || !s.pd 4 then s.answer r St.state 0 []
    else s.imgJob r target .verify))

/-- Dropping a job; the SHAKE core goes on with the next operation. -/
def State.dropJob (s : State) (h : Nat) : State :=
  (s.modFw (fun w => { w with jobs := w.jobs.filter (fun j => j.handle ≠ h) })).shakeServe

/-- Dropping the signing of an ATTEST. -/
def State.dropSign (s : State) : State := (s.modFw (fun w => { w with sign := none })).shakeServe

/-- A failed check (16 R414, R415, R423). The FAILED code is the payload's only byte (assumption 21). -/
def State.imgFail (s : State) (j : ImgJob) (status code : Nat) : State :=
  let s := s.setTarget j.target .invalid
  let s := s.complete j.handle status (if status = St.failed then leBytes 1 code else [])
  (s.dropJob j.handle).fwEvent j.target 2 (status + code <<< 16)

/-- The completion payload of a passed IMG_VERIFY. -/
def State.verifyPayload (s : State) (t : Nat) : List Byte :=
  let b := s.targetBase t
  leBytes 4 (s.hdr b 36 4) ++ leBytes 4 (s.hdr b 40 4) ++ leBytes 2 (s.hdr b 46 2) ++ leBytes 2 (s.hdr b 48 2)

/-- The end of DEBUG_UNLOCK: the nonce is used up (16 R420). -/
def State.unlockEnd (s : State) (h status code : Nat) : State :=
  let s := s.complete h status (if status = St.failed then leBytes 1 code else [])
  (s.dropJob h).modFw (fun w => { w with nonce := none })

/-- DEBUG_UNLOCK's check has ended (16 R420, 03 R97). -/
def State.unlockCheck (s : State) (j : ImgJob) (sigOk : Bool) : State :=
  match s.imgCheck 5 sigOk with
  | some (st, c) => s.unlockEnd j.handle st c
  | none =>
    if s.fw.nonce ≠ some (s.hdr (s.targetBase 5) 52 8) then s.unlockEnd j.handle St.failed 7
    else
      let s := s.unlockEnd j.handle St.ok 0
      let s := { s with dbg := { s.dbg with locked := false } }
      (s.modFw (fun w => { w with unlocked := true })).fwEvent 5 9 0

/-- A passed check goes on as its operation says (16 R415, R416, R418). -/
def State.imgPass (s : State) (j : ImgJob) : State :=
  match j.op with
  | .verify =>
    let s := (s.takeHeader j.target).setTarget j.target .verified
    let s := (s.complete j.handle St.ok (s.verifyPayload j.target)).dropJob j.handle
    s.fwEvent j.target 1 (s.hdr (s.targetBase j.target) 36 4)
  | .now =>
    let s := (s.takeHeader 0).setTarget 0 .verified
    (s.modFw (fun w => { w with jobs := w.jobs.map (fun x => if x.handle = j.handle then { x with writing := true } else x) })).shakeServe
  | .armed =>
    let s := (s.takeHeader 0).setTarget 0 .verified
    ((s.complete j.handle St.ok []).dropJob j.handle).modFw (fun w => { w with armed := true })
  | .applet =>
    let s := (s.takeHeader j.target).setTarget j.target .active
    let s := (s.complete j.handle St.ok []).dropJob j.handle
    if s.pd 2 then s.copyApplet (j.target - 1) else s
  | .unlock => s

/-- The job whose check the SHAKE core computes. -/
def State.checking (s : State) : Option ImgJob :=
  s.fw.jobs.find? (fun j => !j.writing && s.fw.shake = some j.handle)

/-- VERIFY_DONE: the check that the SHAKE core computes ends, once the flash queue is empty (16 R415). -/
def execVerifyDone (g : Lapse) (sigOk : Bool) (s : State) : Host.Outcome State Fault Refusal :=
  let s := s.pass g
  match s.checking with
  | none => .next s
  | some j =>
    if !s.pd 4 then .next s
    else if j.op = .unlock then .next (s.unlockCheck j sigOk)
    else
      match s.imgCheck j.target sigOk with
      | some (st, c) => .next (s.imgFail j st c)
      | none => .next (s.imgPass j)

/-! ### Activation (16 R416 to R418) -/

/-- Serving IMG_ACTIVATE with a TARGET and a MODE. The order of its refusals, STATE with PD4 off and the completion of MODE 2 without a
check are the model's (entry 104). -/
def State.imgActivate (s : State) (r : InReq) (t mode : Nat) : State :=
  if s.recoveryOnly t then s.answer r St.notReady 0 []
  else if 4 < t || 2 < mode then s.answer r St.range 0 []
  else if s.opPending 0x53 then s.answer r St.conflict 0 []
  else if !s.pd 4 then s.answer r St.state 0 []
  else if t = 0 then
    let st := s.targetSt 0
    if !(st = .verified || st = .previous) || s.inTrial || (mode = 2 && !s.fw.armed) then s.answer r St.state 0 []
    else if mode = 2 then
      match s.accept r 0 with
      | (s, some h) => (s.modFw (fun w => { w with armed := false })).complete h St.ok []
      | (s, none) => s
    else s.imgJob r 0 (if mode = 0 then .now else .armed)
  else if s.pb Pf.appCfg_RUN (t - 1) || s.targetSt t ≠ .verified then s.answer r St.state 0 []
  else s.imgJob r t .applet

/-- Payload of IMG_ACTIVATE. -/
def activateBytes (t mode : Nat) : List Byte := leBytes 1 t ++ leBytes 1 mode ++ leBytes 2 0

/-- IMG_ACTIVATE_NOW (16 R416). -/
def execImgActivateNow (g : Lapse) (q : Rq) (target : Nat) (s : State) : Host.Outcome State Fault Refusal :=
  .next ((s.pass g).serve q 0x53 0 (activateBytes target 0) (fun r s => s.imgActivate r target 0))

/-- IMG_ACTIVATE_ARMED (16 R416). -/
def execImgActivateArmed (g : Lapse) (q : Rq) (target : Nat) (s : State) : Host.Outcome State Fault Refusal :=
  .next ((s.pass g).serve q 0x53 0 (activateBytes target 1) (fun r s => s.imgActivate r target 1))

/-- IMG_ACTIVATE_DISARM (16 R416). -/
def execImgActivateDisarm (g : Lapse) (q : Rq) (target : Nat) (s : State) : Host.Outcome State Fault Refusal :=
  .next ((s.pass g).serve q 0x53 0 (activateBytes target 2) (fun r s => s.imgActivate r target 2))

/-- IMG_ACTIVATE_APPLET (16 R418). -/
def execImgActivateApplet (g : Lapse) (q : Rq) (target mode : Nat) (s : State) : Host.Outcome State Fault Refusal :=
  .next ((s.pass g).serve q 0x53 0 (activateBytes target mode) (fun r s => s.imgActivate r target mode))

/-- Writing the boot record that names the other slot; it also stores HOLD (16 R416, 17 R426, R431). -/
def State.nameSlot (s : State) : State :=
  { (s.modFw (fun w => { w with named := 1 - w.run, trial := 1 })) with boot := { s.boot with holdRec := s.boot.holdPd0 } }

/-- BOOT_RECORD_WRITTEN: IMG_ACTIVATE MODE 0 completes, and the reset is due (16 R416). -/
def execBootRecordWritten (g : Lapse) (s : State) : Host.Outcome State Fault Refusal :=
  let s := s.pass g
  match s.fw.jobs.find? (fun j => j.writing) with
  | none => .next s
  | some j =>
    let s := (s.nameSlot.complete j.handle St.ok []).dropJob j.handle
    .next (s.modFw (fun w => { w with resetAt := some s.now }))

/-! ### Confirmation (16 R416, R417) -/

/-- Ticks that MBX_STAT.READY has read 1 in this trial. -/
def State.readyFor (s : State) : Nat := s.fw.ready + (if s.atlas.ready then s.now - s.atlas.readyAt else 0)

/-- Confirming the trial (16 R416). -/
def State.confirmTrial (s : State) : State :=
  let img := s.image
  let s := s.modSlot s.fw.run (fun x => { x with st := .active })
  let s := s.modFw (fun w => { w with rollback := max w.rollback img.rollback, revoked := w.revoked ||| img.revoke, trial := 0 })
  let s := s.runEvent 4 s.fw.rollback
  if img.revoke = 0 then s else s.runEvent 8 img.revoke

/-- TRIAL_CONFIRM_TIMER (16 R416). -/
def execTrialConfirmTimer (g : Lapse) (s : State) : Host.Outcome State Fault Refusal :=
  let s := s.pass g
  let n := s.pf Pf.fwCfg_CONFIRM_S
  .next (if s.inTrial && n ≠ 0 && secTk n ≤ s.readyFor then s.confirmTrial else s)

/-! ### Debug unlock (16 R420) -/

/-- DEBUG_UNLOCK. STATE with PD4 off is the model's (entry 104). -/
def execDebugUnlock (g : Lapse) (q : Rq) (s : State) : Host.Outcome State Fault Refusal :=
  .next ((s.pass g).serve q 0x5C 0 [] (fun r s =>
    if s.opPending 0x5C then s.answer r St.conflict 0 []
    else if !s.pd 4 then s.answer r St.state 0 []
    else if s.fw.token.st = .received then s.imgJob r 5 .unlock
    else
      match s.accept r 5 with
      | (s, some h) => s.unlockEnd h St.failed 6
      | (s, none) => s))

/-! ### Attestation (16 R421) -/

/-- `fw.keys` bits [7:0]: every key is fused (16 R410). -/
def State.keyBits (s : State) : Nat := 0xF + (s.fw.revoked % 16) <<< 4

/-- IDN_FW_SLOT.OTHER (16 R414). -/
def State.otherOk (s : State) : Bool := let st := s.targetSt 0; st = .verified || st = .previous

/-- The signed message of the running image. -/
def State.signedMsg (s : State) : List Byte :=
  (List.range (s.image.len - 29792)).map (fun i => s.byteAt (slotBase s.fw.run + i))

/-- The report body (16 R421). -/
def State.reportBody (s : State) (nonce : Nat) : List Byte :=
  leBytes 4 1 ++ leBytes 4 0x34365A41 ++ leBytes 2 0xA14D ++ leBytes 2 0 ++ leBytes 16 uidVal ++ leBytes 32 nonce
    ++ leBytes 8 s.now ++ leBytes 8 s.clk.aon ++ leBytes 4 s.image.version ++ leBytes 4 s.fw.rollback
    ++ leBytes 2 s.ie ++ leBytes 2 (s.pf Pf.atlasBePin_PIN) ++ leBytes 2 s.image.beMax ++ leBytes 2 (s.pf Pf.atlasFleetCommitted_FLEET)
    ++ leBytes 1 (s.fw.run + 2 * flag s.otherOk + 4 * flag s.inTrial + 8 * flag s.fw.armed) ++ leBytes 1 (flag (!s.dbg.locked))
    ++ leBytes 1 s.keyBits ++ leBytes 1 0 ++ shake256 s.signedMsg 64 ++ leBytes 64 (Config.storeDigest s.par.stored).toNat
    ++ leBytes 4 s.boot.cause ++ leBytes 4 s.boot.selftest ++ leBytes 4 s.acc.lockCnt ++ leBytes 20 0

/-- ATTEST_SIGN: MODE 0 (16 R421). STATE with PD4 off is the model's (entry 104). -/
def execAttestSign (g : Lapse) (q : Rq) (nonce : Nat) (s : State) : Host.Outcome State Fault Refusal :=
  .next ((s.pass g).serve q 0x58 0 (leBytes 4 0 ++ leBytes 32 nonce) (fun r s =>
    if s.opPending 0x58 then s.answer r St.conflict 0 []
    else if !s.pd 4 then s.answer r St.state 0 []
    else
      match s.accept r 0 with
      | (s, none) => s
      | (s, some h) => (s.modFw (fun w => { w with report := none, sign := some ⟨h, s.reportBody nonce⟩ })).shakeServe))

/-- ATTEST_SIGN_DONE (16 R421). -/
def execAttestSignDone (g : Lapse) (s : State) : Host.Outcome State Fault Refusal :=
  let s := s.pass g
  match s.fw.sign with
  | none => .next s
  | some j =>
    if !s.pd 4 || s.fw.shake ≠ some j.handle then .next s
    else
      let n := (s.fw.serial + 1) % 65536
      let s := (s.modFw (fun w => { w with serial := n, report := some (n, j.body) })).dropSign
      .next (s.complete j.handle St.ok (leBytes 4 30048 ++ leBytes 2 n ++ leBytes 2 0 ++ j.body))

/-- The signed report: the body and its signature. -/
def reportBytes (body : List Byte) : List Byte := body ++ leBytes 29792 (Config.signature body).toNat

/-- ATTEST_CHUNK: MODE 1 (16 R421). -/
def execAttestChunk (g : Lapse) (q : Rq) (chunk : Nat) (s : State) : Host.Outcome State Fault Refusal :=
  .next ((s.pass g).serve q 0x58 0 (leBytes 2 1 ++ leBytes 2 chunk ++ leBytes 32 0) (fun r s =>
    if 7 < chunk then s.answer r St.range 0 []
    else if s.opPending 0x58 then s.answer r St.conflict 0 []
    else
      match s.accept r 1 with
      | (s, none) => s
      | (s, some h) =>
        match s.fw.report with
        | none => s.complete h St.failed (leBytes 1 8)
        | some (n, body) =>
          s.complete h St.ok (leBytes 2 n ++ leBytes 2 chunk ++ leBytes 4 0 ++ ((reportBytes body).drop (4096 * chunk)).take 4096)))

/-- `fw` parameter writes (16 R424): STATE of `fw.app_key` and `fw.confirm`. -/
def State.fwStateOk (s : State) (off : Nat) : Bool :=
  if off = 7 then s.parOf 0x6007 0 = 0 || s.fw.unlocked
  else if off = 3 then s.inTrial else true

/-- A `fw` write takes effect. -/
def State.fwWritten (s : State) (off v : Nat) : State := if off = 3 && v.testBit 0 then s.confirmTrial else s

end Sys2Proof.Machine
end

