-- ==== Sys2Proof/Machine/Map.lean ====
section
/-!
DEFINITION. The fabric address map (01 R26, R27).
-/
namespace Sys2Proof.Machine

/-- An address of the twin window (01 R26). -/
def inTwin (a : Nat) : Bool := 0x80000000 ≤ a && a < 0xC0000000

/-- Power domain of an address; none for a reserved one. -/
def addrDomain (a : Nat) : Option Nat :=
  if inTwin a then some 14
  else if 0x40000000 ≤ a && a < 0x50000000 then (blockAt a).map (fun b => b.2.2.1)
  else if (regionOf a).isSome then some (memDomain a) else none

/-- Data words that a memory or a block may be read in: a request for the 64-bit and smaller sizes lies in one naturally aligned word. -/
def aligned (a size : Nat) : Bool := (size = 1 || size = 2 || size = 4 || size = 8) && a % size = 0

end Sys2Proof.Machine
end

