-- ==== Sys2Proof/Machine/Pace.lean ====
section
/-!
DEFINITION. The pace governor and the time base (02 R47 to R62).
-/
namespace Sys2Proof.Machine

/-- The domains with a record in PACE (02 R47, R50). -/
def paced (p : Nat) : Bool := (1 ≤ p && p ≤ 4) || (9 ≤ p && p ≤ 13)

/-- Record of a domain. -/
def State.paceOf (s : State) (p : Nat) : PaceRec := s.pace.toList.getD p {}
def State.modPace (s : State) (p : Nat) (f : PaceRec → PaceRec) : State := { s with pace := s.pace.setIfInBounds p (f (s.paceOf p)) }

/-- Moves per window at an operating point (02 R47). -/
def movesAt (op : Nat) : Nat := [48, 80, 128, 192].getD op 48

/-- PACE_STAT.CAPWIN: the cap in force, lowered by a droop (02 R54). -/
def PaceRec.capWin (r : PaceRec) : Nat :=
  if r.droopCap then (if r.capIf = 0 then 32 else movesAt (r.capIf - 1)) else movesAt r.capIf

/-- PACE_STAT.OPCUR. -/
def PaceRec.opCur (r : PaceRec) : Nat := min r.volt r.capIf

/-- PACE_STAT.BUSY (02 R52). -/
def PaceRec.busy (r : PaceRec) : Bool := r.seq ≠ .idle

/-- Setting the voltage: a new target is settled only once the monitor has found it so (02 R53). -/
def PaceRec.setV (r : PaceRec) (v : Nat) : PaceRec := { r with vsel := v, settled := r.settled && decide (v = r.vsel) }

/-- A write of PACE_OPREQ (02 R52). -/
def PaceRec.opReq (r : PaceRec) (op : Nat) : PaceRec :=
  if r.busy then { r with err := r.err ||| 4 }
  else
    let r := { r with opreq := op }
    if r.opCur < op then
      let r := r.setV op
      if r.settled then { r with cap := op } else { r with seq := .raise op }
    else if op < r.opCur then { r with cap := op, seq := .lower op }
    else r

/-- A direct write of the voltage (02 R51). -/
def PaceRec.vWrite (r : PaceRec) (v : Nat) : PaceRec :=
  if r.busy then { r with err := r.err ||| 4 }
  else if v < r.vsel && v < r.capIf then { r with err := r.err ||| 1 }
  else r.setV v

/-- A direct write of the cap (02 R51). -/
def PaceRec.capWrite (r : PaceRec) (c : Nat) : PaceRec :=
  if r.busy then { r with err := r.err ||| 4 }
  else if r.cap < c && !(r.settled && c ≤ r.volt) then { r with err := r.err ||| 2 }
  else { r with cap := c }

/-- A W1C write of PACE_ERR (02 R54). -/
def PaceRec.errClear (r : PaceRec) (mask : Nat) : PaceRec :=
  let r := { r with err := r.err - (r.err &&& mask) }
  if mask.testBit 3 then { r with droopCnt := 0 } else r

/-- A write of a PACE register by an initiator: the supervisor alone (01 R31); other records are unassigned (02 R54). -/
def State.paceWrite (s : State) (ini : Initiator) (p off : Nat) (f : PaceRec → PaceRec) : State :=
  let addr := 0x40060100 + 0x20 * p + off
  s.superWrite ini addr (fun s => if paced p then s.modPace p f else s.accessErr ini 1 addr)

/-- PACE_OPREQ (02 R52). -/
def execPaceOpreq (g : Lapse) (ini : Initiator) (p : Fin 16) (op : Nat) (s : State) : Host.Outcome State Fault Refusal :=
  .next ((s.pass g).paceWrite ini p 0 (fun r => r.opReq (op % 4)))

/-- PACE_VSEL_WRITE (02 R51). -/
def execPaceVselWrite (g : Lapse) (ini : Initiator) (p : Fin 16) (v : Nat) (s : State) : Host.Outcome State Fault Refusal :=
  .next ((s.pass g).paceWrite ini p 4 (fun r => r.vWrite (v % 4)))

/-- PACE_CAP_WRITE (02 R51). -/
def execPaceCapWrite (g : Lapse) (ini : Initiator) (p : Fin 16) (c : Nat) (s : State) : Host.Outcome State Fault Refusal :=
  .next ((s.pass g).paceWrite ini p 8 (fun r => r.capWrite (c % 4)))

/-- PACE_ERR_CLEAR (02 R54). -/
def execPaceErrClear (g : Lapse) (ini : Initiator) (p : Fin 16) (mask : Nat) (s : State) : Host.Outcome State Fault Refusal :=
  .next ((s.pass g).paceWrite ini p 0x10 (fun r => r.errClear mask))

/-- The voltage settles at PACE_VSEL.V, and a sequence that waited for it goes on (02 R52, R53). -/
def PaceRec.settle (r : PaceRec) : PaceRec :=
  let r := { r with volt := r.vsel, settled := true }
  match r.seq with
  | .raise t => { r with cap := t, seq := .idle }
  | .settle _ => { r with seq := .idle }
  | _ => r

/-- VOLTAGE_SETTLED (02 R53). -/
def execVoltageSettled (g : Lapse) (p : Fin 16) (s : State) : Host.Outcome State Fault Refusal :=
  let s := s.pass g
  .next (if paced p && !(s.paceOf p).settled then s.modPace p PaceRec.settle else s)

/-- A window boundary: the cap takes effect, the full cap returns after a droop, and a lowering sequence goes on (02 R52 to R54). -/
def PaceRec.boundary (r : PaceRec) : PaceRec :=
  let r := { r with capIf := r.cap, droopCap := r.droopCap && r.droop }
  match r.seq with
  | .lower t =>
    let r := r.setV t
    if r.settled then { r with seq := .idle } else { r with seq := .settle t }
  | _ => r

/-- CAP_WINDOW_BOUNDARY (02 R53): a tick that is a multiple of 64. -/
def execCapWindowBoundary (g : Lapse) (p : Fin 16) (s : State) : Host.Outcome State Fault Refusal :=
  let s := s.pass g
  .next (if paced p && s.now % 64 = 0 then s.modPace p PaceRec.boundary else s)

/-- DROOP_START (02 R54). -/
def execDroopStart (g : Lapse) (p : Fin 16) (s : State) : Host.Outcome State Fault Refusal :=
  let s := s.pass g
  if !paced p || (s.paceOf p).droop || !s.pd p then .next s
  else
    let s := s.modPace p (fun r => { r with droop := true, droopCap := true, err := r.err ||| 8, droopCnt := satInc 0xFFFF r.droopCnt })
    .next { s with boot := { s.boot with droopAt := s.boot.droopAt.setIfInBounds p s.now } }

/-- DROOP_END (02 R54, 17 R436): the event is sent at most once per second for a domain. -/
def execDroopEnd (g : Lapse) (p : Fin 16) (s : State) : Host.Outcome State Fault Refusal :=
  let s := s.pass g
  if !paced p || !(s.paceOf p).droop then .next s
  else
    let s := s.modPace p (fun r => { r with droop := false })
    let since := match s.boot.droopEv.toList.getD p none with | none => true | some t => s.expired t 200000000
    if since then
      let d := s.now - s.boot.droopAt.toList.getD p 0
      let s := { s with boot := { s.boot with droopEv := s.boot.droopEv.setIfInBounds p (some s.now) } }
      .next (s.emit 10 p 1 (leBytes 4 d ++ leBytes 2 (s.paceOf p).droopCnt ++ leBytes 2 0))
    else .next s

/-! ### The time base (02 R55 to R58) -/

/-- Class-12 event (17 R436). -/
def State.fallbackEvent (s : State) (code : Nat) : State := s.emit 12 0 code (leBytes 4 s.clk.aonCal ++ leBytes 4 0)

/-- A timer counted in ref ticks stops while PD3 is off (02 R63): the stamps that PD0 and the boot records keep move with the time base by
the `d` ticks of that time. -/
def State.timersStood (s : State) (d : Nat) : State :=
  { s with
    il := { s.il with holdoff := s.il.holdoff.map (· + d), lastMis := s.il.lastMis.map (· + d) }
    boot := { s.boot with droopEv := s.boot.droopEv.map (fun t => t.map (· + d)), seqTraps := s.boot.seqTraps.map (fun p => (p.1, p.2 + d)) } }

/-- The time base resumes (02 R58). A reset of the logic die leaves PD3 powered, and no timer stands still (02 R63). -/
def State.resumeTb (s : State) : State :=
  let cal := if s.clk.calValid then s.clk.aonCal else 200000000
  let d := s.aonSince s.clk.aonSleep
  let tb := max (s.clk.tbSleep + 1) (s.clk.tbSleep + d * cal / 32768)
  let s := if s.boot.restart then s else s.timersStood (tb - s.clk.tbSleep)
  { s with clk := { s.clk with tb := tb, resumed := true } }

/-- A span of 32,768 AON ticks starts (02 R57). -/
def State.spanStart (s : State) : State := { s with clk := { s.clk with calAon := s.clk.aon, calTb := s.now } }

/-- The time base starts to count: from 0 after a cold start, and by R58 after any other; the first span of R57 starts with it. -/
def State.startTb (s : State) : State :=
  if s.clk.run then s
  else
    let s := (if s.boot.cold then s else s.resumeTb).spanStart
    { s with clk := { s.clk with run := true } }

/-- The PLL locks (02 R55). -/
def State.pllLock (s : State) : State := { s.startTb with clk := { s.startTb.clk with lock := true } }

/-- The internal oscillator takes over (02 R56). -/
def State.pllFallback (s : State) : State := { s.startTb with clk := { s.startTb.clk with lock := false, fallback := true } }

/-- PLL_LOCK (02 R55). -/
def execPllLock (g : Lapse) (s : State) : Host.Outcome State Fault Refusal :=
  let s := s.pass g
  .next (if s.pd 3 && !s.clk.lock && !s.clk.fallback then s.pllLock else s)

/-- PLL_FALLBACK (02 R56). -/
def execPllFallback (g : Lapse) (s : State) : Host.Outcome State Fault Refusal :=
  let s := s.pass g
  .next (if s.pd 3 && s.clk.run && !s.clk.fallback then s.pllFallback.fallbackEvent 1 else s)

/-- PLL_FALLBACK_END (02 R56). -/
def execPllFallbackEnd (g : Lapse) (s : State) : Host.Outcome State Fault Refusal :=
  let s := s.pass g
  .next (if s.clk.fallback then ({ s with clk := { s.clk with lock := true, fallback := false } }).fallbackEvent 2 else s)

/-- TB is reached by the supervisor and by DMA channels that it set up (01 R31). -/
def tbPort (p : Nat) : Bool := p = 0 || p = 2

/-- A read of TB_NOW_LO latches the upper bits for its port (02 R55). -/
def State.latchNow (s : State) (p : Nat) : State :=
  { s with clk := { s.clk with nowHi := s.clk.nowHi.setIfInBounds p (s.now / 2 ^ 32 % 2 ^ 32) } }

/-- A read of TB_AON_LO latches the upper bits for its port (02 R57). -/
def State.latchAon (s : State) (p : Nat) : State :=
  { s with clk := { s.clk with aonHi := s.clk.aonHi.setIfInBounds p (s.clk.aon / 2 ^ 32) } }

/-- TB_NOW_LO_READ. -/
def execTbNowLoRead (g : Lapse) (port : Fin 8) (s : State) : Host.Outcome State Fault Refusal :=
  let s := s.pass g
  .next (if tbPort port then s.latchNow port else s.portErr 3 port 0x40070000)

/-- TB_AON_LO_READ. -/
def execTbAonLoRead (g : Lapse) (port : Fin 8) (s : State) : Host.Outcome State Fault Refusal :=
  let s := s.pass g
  .next (if tbPort port then s.latchAon port else s.portErr 3 port 0x40070010)

/-- AON_CALIBRATION (02 R57): the span of 32,768 AON ticks has passed, and the count is that of the time base over it; a command that
names another count, or comes off the boundary, is no such event. A boundary that no command marked starts a new span without a count
(DESIGN CHOICE, entry 87). -/
def execAonCalibration (g : Lapse) (ticks : Nat) (s : State) : Host.Outcome State Fault Refusal :=
  let s := s.pass g
  let d := s.aonSince s.clk.calAon
  .next (if !(s.pd 3 && s.clk.run) || d < 32768 then s
    else if d ≠ 32768 then s.spanStart
    else if ticks ≠ s.now - s.clk.calTb then s
    else ({ s with clk := { s.clk with aonCal := ticks % 2 ^ 32, calValid := true } }).spanStart)

end Sys2Proof.Machine
end

