-- ==== Sys2Proof/Machine/Twin.lean ====
section
/-!
DEFINITION. The twin link and the outbound half of the bridge (13 R334 to R347).
-/
namespace Sys2Proof.Machine

/-- Changing the link's record. -/
def State.modTwin (s : State) (f : Twin → Twin) : State := { s with twin := f s.twin }

/-! ### Windows and prefetch buffers (13 R338, R343, R344) -/

/-- Offset in the twin window of an address, and window i's start and length there. -/
def State.winBase (s : State) (i : Nat) : Nat := 0x10000 * s.pf Pf.twinWindow_LBASE 0 i
def State.winLen (s : State) (i : Nat) : Nat := 0x10000 * (s.pf Pf.twinWindow_SIZE 0 i + 1)

/-- The enabled window that covers an address (13 R338). -/
def State.findWin (s : State) (a : Nat) : Option Nat :=
  (List.range 8).find? (fun i =>
    s.pb Pf.twinWindow_EN 0 i && 0x80000000 + s.winBase i ≤ a && a < 0x80000000 + s.winBase i + s.winLen i)

/-- The partner's address that an address means in window i (13 R338). -/
def State.winTarget (s : State) (i a : Nat) : Nat :=
  (0x10000 * s.pf Pf.twinWindow_TBASE 0 i + (a - 0x80000000 - s.winBase i)) % 2 ^ 32

/-- A window's buffer. -/
def Twin.buf (t : Twin) (i : Nat) : Option PfBuf := t.pf.toList.getD i none

/-- A buffer is emptied, and its unread words count as discarded (13 R344). -/
def Twin.dropBuf (t : Twin) (i : Nat) : Twin :=
  match t.buf i with
  | none => t
  | some b =>
    { t with pf := t.pf.setIfInBounds i none, discarded := t.discarded.setIfInBounds i (satAdd 0xFFFFFFFF (t.discarded.toList.getD i 0) (4 - popCount 4 b.read)) }

/-- Every buffer that a write of `n` bytes at the partner's address touches is emptied (13 R343). -/
def Twin.touch (t : Twin) (a n : Nat) : Twin :=
  (List.range 8).foldl (fun t i =>
    match t.buf i with
    | some b => if a < b.block + 16 && b.block < a + n then t.dropBuf i else t
    | none => t) t

/-! ### Frames (13 R335, R336) -/

/-- Adding to an entry of a list of counts. -/
def bump (l : List Nat) (i k : Nat) : List Nat := l.set i (l.getD i 0 + k)

/-- First queued payload whose channel has a credit, and the queue without it. -/
def takeReady (credit : List Nat) : List (Nat × List Byte) → Option ((Nat × List Byte) × List (Nat × List Byte))
  | [] => none
  | p :: l => if 0 < credit.getD p.1 0 then some (p, l) else (takeReady credit l).map (fun q => (q.1, p :: q.2))

/-- CREDIT of the next frame: the lowest channel with buffers to return, at most 63 of them. -/
def Twin.creditByte (t : Twin) : Nat × Nat :=
  match (List.range 3).find? (fun v => 0 < t.owed.getD v 0) with
  | some v => (v, min 63 (t.owed.getD v 0))
  | none => (0, 0)

/-- Sending one queued payload as a frame (13 R335), while fewer than 32 are unacknowledged (13 R336). -/
def Twin.send1 (t : Twin) (now : Nat) : Twin :=
  if 32 ≤ t.unacked.length then t
  else
    match takeReady t.credit t.txq with
    | none => t
    | some ((vc, pay), q) =>
      let (v, k) := t.creditByte
      let body := leBytes 1 vc ++ leBytes 1 t.txSeq ++ leBytes 1 (t.rxSeq + 255) ++ leBytes 1 (v + 4 * k) ++ pay
      let frame := body ++ leBytes 4 (crc32c body)
      { t with txq := q, credit := t.credit.set vc (t.credit.getD vc 0 - 1), owed := t.owed.set v (t.owed.getD v 0 - k), txSeq := (t.txSeq + 1) % 256, ackAt := if t.unacked.isEmpty then now else t.ackAt, unacked := t.unacked ++ [(t.txSeq, frame)] }

/-- The frame that goes out where nothing waits or may be sent: it carries acknowledgement and credits (13 R335). -/
def Twin.idleFrame (t : Twin) : List Byte :=
  let (v, k) := t.creditByte
  let body := leBytes 1 3 ++ leBytes 1 t.txSeq ++ leBytes 1 (t.rxSeq + 255) ++ leBytes 1 (v + 4 * k) ++ List.replicate 24 0
  body ++ leBytes 4 (crc32c body)

/-- Sending what the credits allow. -/
def Twin.pump (t : Twin) (now : Nat) : Nat → Twin
  | 0 => t
  | k + 1 => (t.send1 now).pump now k

/-- Queueing a payload on a virtual channel: 24 bytes. -/
def State.frame (s : State) (vc head : Nat) (words : List Nat) : State :=
  let pay := leBytes 8 head ++ (List.range 4).flatMap (fun i => leBytes 4 (words.getD i 0))
  s.modTwin (fun t => ({ t with txq := t.txq ++ [(vc, pay)] }).pump s.now 33)

/-- A transaction on REQ (13 R335): the byte enables and, for OP 3 to 6, the RID. -/
def State.sendReq (s : State) (o : TwinOut) : State :=
  let r := o.req
  let lane := r.addr % 4
  let head := fun (count be addr : Nat) =>
    o.op + 16 * (count - 1) + 256 * o.tag + be <<< 16 + (if 3 ≤ o.op && o.op ≤ 6 then ridOf r <<< 24 else 0) + addr <<< 32
  if o.op = 7 then s.frame 0 (head 4 0xFFFF (o.target / 16 * 16)) []
  else if r.size = 8 then s.frame 0 (head 2 0xFF o.target) (if r.write then [r.data % 2 ^ 32, r.data / 2 ^ 32] else [])
  else s.frame 0 (head 1 ((2 ^ r.size - 1) <<< lane) (o.target / 4 * 4)) (if r.write then [r.data <<< (8 * lane)] else [])

/-- Recording an outbound transaction and sending it. -/
def State.issueOut (s : State) (op : Nat) (r : FabReq) (win target stamp : Nat) (silent : Bool) : State :=
  let o : TwinOut := ⟨s.twin.nextTag, op, r, win, target, stamp, silent⟩
  let s := s.modTwin (fun t => { t with nextTag := (t.nextTag + 1) % 256, out := t.out ++ [o], lockReq := t.lockReq || op = 5, issued := if op = 7 then t.issued.setIfInBounds win (satInc 0xFFFFFFFF (t.issued.toList.getD win 0)) else t.issued })
  s.sendReq o

/-- The next block is prefetched after a read of the last word, within the same 4 KiB page (13 R343). -/
def State.fetchNext (s : State) (r : FabReq) (win target : Nat) : State :=
  let next := target / 16 * 16 + 16
  if target % 16 / 4 = 3 && next % 4096 ≠ 0 && s.twin.out.length < 32 then s.issueOut 7 r win next s.now true else s

/-- A read is served from its window's buffer (13 R343). -/
def State.fromBuf (s : State) (r : FabReq) (win target : Nat) (b : PfBuf) : State :=
  let i := target % 16 / 4
  let s := s.modTwin (fun t => { t with pf := t.pf.setIfInBounds win (some { b with read := b.read ||| (1 <<< i) }) })
  (s.respond r 0 (bitsOf (b.words.getD i 0) (8 * (target % 4)) (8 * r.size))).fetchNext r win target

/-- An outbound access goes out, or is served by its window's buffer (13 R340 to R346). -/
def State.twinSend (s : State) (r : FabReq) (win stamp : Nat) : State :=
  let a := s.winTarget win r.addr
  if r.excl then
    let s := s.modTwin (fun t => t.dropBuf win)
    let lock := s.pb Pf.twinCfg_LOCK
    let s := if r.write then s.modTwin (fun t => t.touch a r.size) else s
    s.issueOut (if r.write then (if lock then 6 else 4) else (if lock then 5 else 3)) r win a stamp false
  else if r.write then
    let s := s.modTwin (fun t => t.touch a r.size)
    if s.pb Pf.twinWindow_POSTED 0 win then (s.issueOut 1 r win a stamp false).respond r 0 0
    else s.issueOut 2 r win a stamp false
  else if s.pb Pf.twinWindow_PF 0 win && r.size ≤ 4 then
    match s.twin.buf win with
    | some b =>
      if b.block = a / 16 * 16 && !s.expired b.at_ 2000 then s.fromBuf r win a b else s.issueOut 7 r win a stamp false
    | none => s.issueOut 7 r win a stamp false
  else s.issueOut 0 r win a stamp false

/-- A local access to the twin window (13 R337, R338, R342, R346; 02 R40). -/
def State.twinOut (s : State) (r : FabReq) (stamp : Nat) : State :=
  if !s.pd 14 || s.fab.closed.testBit 14 then s.respond r 2 0
  else
    match s.findWin r.addr with
    | none => s.respond r 3 0
    | some w =>
      if r.size = 8 && (r.excl || !s.pb Pf.twinCfg_WIDTH) then s.respond r 4 0
      else if !s.twin.up then s.respond r 2 0
      else if s.twin.lock.isSome || 32 ≤ s.twin.out.length || !s.twin.wait.isEmpty then s.modTwin (fun t => { t with wait := t.wait ++ [(r, stamp)] })
      else s.twinSend r w stamp

/-- Requests held at the bridge go out while it may send them (13 R337, R346). -/
def State.freeWait (s : State) : Nat → State
  | 0 => s
  | k + 1 =>
    if s.twin.lock.isSome || 32 ≤ s.twin.out.length then s
    else
      match s.twin.wait with
      | [] => s
      | (r, t) :: l =>
        let s := s.modTwin (fun x => { x with wait := l })
        (match s.findWin r.addr with | some w => s.twinSend r w t | none => s.respond r 3 0).freeWait k

/-- The partner's lock on this device has ended: the bridge goes on (13 R346), and the crossbar serves what waited for it. -/
def State.unlocked (s : State) : State :=
  let l := s.twin.again
  let s := s.modTwin (fun t => { t with again := [] })
  let s := l.foldl (fun s o => s.issueOut 5 o.req o.win o.target o.stamp false) s
  s.freeWait s.twin.wait.length

/-! ### Link up and down (13 R334, R336) -/

/-- A class-7 event of the link. -/
def State.linkEvent (s : State) (code value : Nat) : State := s.pairEvent 1 code value

/-- TWIN_LINK_UP (13 R334, R357). -/
def execTwinLinkUp (g : Lapse) (s : State) : Host.Outcome State Fault Refusal :=
  let s := s.pass g
  if s.twin.up || !s.pd 14 || !s.pb Pf.twinCfg_EN then .next s
  else
    let s := s.modTwin (fun t => { t with up := true, seen := true, txSeq := 0, rxSeq := 0, ackSeq := 255, ackAt := s.now, lastRx := s.now, unacked := [], replayed := 0, credit := [32, 32, 32], owed := [0, 0, 0], txq := [], inq := [], broken := none })
    let s := s.modIl (fun x => { x with heardAt := s.now })
    .next ((((s.linkEvent 1 s.twin.downs).sendCtl 7 s.be).sendCtl 2 s.dualMask).sendRole)

/-- A forced release of the lock (13 R346). -/
def State.breakLock (s : State) : State :=
  match s.twin.lock with
  | none => s
  | some (rid, _) =>
    (s.modTwin (fun t => { t with lock := none, broken := some rid, lockBreak := satInc 0xFFFF t.lockBreak })).linkEvent 0x0C rid

/-- The link goes down (13 R336). -/
def State.linkDown (s : State) (reason : Nat) : State :=
  if !s.twin.up then s
  else
    let outs := s.twin.out.filter (fun o => !(o.op = 1) && !o.silent)
    let lost := (s.twin.out.filter (fun o => o.op = 1)).length
    let again := s.twin.again
    let wait := s.twin.wait
    let s := s.breakLock
    let s := (List.range 8).foldl (fun s i => s.modTwin (fun t => t.dropBuf i)) s
    let s := s.modTwin (fun t => { t with up := false, out := [], again := [], wait := [], txq := [], unacked := [], inq := [], sem := [], lockReq := false, downs := satInc 0xFFFF t.downs, postErr := satAdd 0xFFFFFFFF t.postErr lost })
    let s := (outs ++ again).foldl (fun s o => s.respond o.req 2 0) s
    let s := wait.foldl (fun s p => s.respond p.1 2 0) s
    let s := s.modIl (fun x => { x with beValid := false, idleAt := none })
    let s := if s.il.ctrl.testBit 0 then s.pairErr 6 else s
    s.linkEvent 2 reason

/-- TWIN_LINK_DOWN: 0 alignment, 1 a frame replayed 8 times, 2 silence, 3 PD14 off (13 R336). -/
def execTwinLinkDown (g : Lapse) (reason : Fin 4) (s : State) : Host.Outcome State Fault Refusal :=
  let s := s.pass g
  let due := if reason = 1 then decide (8 ≤ s.twin.replayed) else if reason = 2 then s.expired s.twin.lastRx 2000 else true
  .next (if due then s.linkDown reason else s)

/-! ### Receiving (13 R335 to R337) -/

/-- ACK of a frame: the frames up to it are acknowledged, and a posted write so acknowledged is no longer at risk (13 R336). -/
def Twin.takeAck (t : Twin) (ack now : Nat) : Twin :=
  match firstIdx (fun (p : Nat × List Byte) => p.1 = ack) t.unacked 0 with
  | none => t
  | some i =>
    let done := t.unacked.take (i + 1)
    let tags := (done.filter (fun p => leAt p.2 0 1 = 0 && leAt p.2 4 1 % 16 = 1)).map (fun p => leAt p.2 5 1)
    { t with unacked := t.unacked.drop (i + 1), ackSeq := ack, ackAt := now, replayed := 0, out := t.out.filter (fun o => !(o.op = 1 && tags.contains o.tag)) }

/-- The transaction that a REQ payload carries (13 R335). -/
def parseReq (p : List Byte) : LinkReq :=
  let h := leAt p 0 8
  let op := h % 16
  let count := bitsOf h 4 2 + 1
  ⟨op, count, bitsOf h 8 8, if 3 ≤ op && op ≤ 6 then bitsOf h 16 8 else bitsOf h 16 16, bitsOf h 24 8, bitsOf h 32 32, (List.range 4).map (fun i => leAt p (8 + 4 * i) 4)⟩

/-- Data of a read from the words of its response. -/
def TwinOut.value (o : TwinOut) (ws : List Nat) : Nat :=
  if o.req.size = 8 then ws.getD 0 0 + ws.getD 1 0 <<< 32
  else bitsOf (ws.getD 0 0) (8 * (o.req.addr % 4)) (8 * o.req.size)

/-- A response on RSP ends its transaction (13 R337, R343, R345, R346). -/
def State.takeRsp (s : State) (p : List Byte) : State :=
  let h := leAt p 0 8
  let code := h % 8
  let ws := (List.range 4).map (fun i => leAt p (8 + 4 * i) 4)
  match s.twin.out.find? (fun o => o.tag = bitsOf h 8 8 && !(o.op = 1)) with
  | none => s
  | some o =>
    let s := s.modTwin (fun t => { t with out := t.out.filter (fun x => !(x.tag = o.tag && !(x.op = 1))), lockReq := t.lockReq && !(o.op = 5) })
    if h.testBit 4 then
      let s := s.modTwin (fun t => { t with lockRetry := satInc 0xFFFF t.lockRetry, again := t.again ++ [o] })
      if s.twin.lock.isNone then s.unlocked else s
    else if o.op = 7 then
      if code ≠ 0 then (if o.silent then s else s.respond o.req code 0)
      else
        let b : PfBuf := ⟨o.target / 16 * 16, ws, s.now, 0⟩
        let s := s.modTwin (fun t => { t.dropBuf o.win with pf := t.pf.setIfInBounds o.win (some b) })
        if o.silent then s else s.fromBuf o.req o.win o.target b
    else if o.req.write then s.respond o.req code (if o.req.excl then flag (h.testBit 3) else 0)
    else s.respond o.req code (o.value ws)

/-- LINK_FRAME_RECEIVED (13 R335, R336). An idle frame takes no sequence number (assumption 19). -/
def execLinkFrameReceived (g : Lapse) (bytes : List Byte) (s : State) : Host.Outcome State Fault Refusal :=
  let s := s.pass g
  if !s.twin.up then .next s
  else if bytes.length ≠ 32 || crc32c (bytes.take 28) ≠ leAt bytes 28 4 then .next (s.modTwin (fun t => { t with crcErr := satInc 0xFFFF t.crcErr }))
  else if leAt bytes 1 1 ≠ s.twin.rxSeq then .next s
  else
    let vc := leAt bytes 0 1 % 4
    let cr := leAt bytes 3 1
    let p := (bytes.drop 4).take 24
    let s := s.modTwin (fun t => { (t.takeAck (leAt bytes 2 1) s.now) with lastRx := s.now, credit := if cr % 4 < 3 then bump t.credit (cr % 4) (cr / 4) else t.credit, rxSeq := if vc = 3 then t.rxSeq else (t.rxSeq + 1) % 256, owed := if vc = 3 then t.owed else bump t.owed vc 1 })
    let s := if vc = 0 then s.modTwin (fun t => { t with inq := t.inq ++ [parseReq p] }) else if vc = 1 then s.takeRsp p else s
    let s := s.freeWait s.twin.wait.length
    .next (s.modTwin (fun t => t.pump s.now 33))

/-- LINK_REPLAY: ACK has not advanced for 64 tk (13 R336). -/
def execLinkReplay (g : Lapse) (s : State) : Host.Outcome State Fault Refusal :=
  let s := s.pass g
  .next (if s.twin.up && !s.twin.unacked.isEmpty && s.expired s.twin.ackAt 64 then
      s.modTwin (fun t => { t with replays := satInc 255 t.replays, replayed := t.replayed + 1, ackAt := s.now })
    else s)

/-- TWIN_OUTBOUND_REQUEST (13 R337). An access that is not aligned, or not 8 to 64 bits wide, reaches nothing (02 R37). -/
def execTwinOutboundRequest (g : Lapse) (r : FabReq) (s : State) : Host.Outcome State Fault Refusal :=
  let s := s.pass g
  .next (if !(r.size = 1 || r.size = 2 || r.size = 4 || r.size = 8) || r.addr % r.size ≠ 0 then s.respond r 4 0
    else if 0x80000000 ≤ r.addr && r.addr < 0xC0000000 then s.twinOut r s.now else s)

/-- POSTED_WRITE_ERROR (13 R341). -/
def execPostedWriteError (g : Lapse) (addr code : Nat) (s : State) : Host.Outcome State Fault Refusal :=
  let s := s.pass g
  if !s.twin.up || code % 8 = 0 then .next s
  else .next ((s.modTwin (fun t => { t with postErr := satInc 0xFFFFFFFF t.postErr, postAddr := addr % 2 ^ 32, postCode := code % 8 })).linkEvent 0x0B (addr % 2 ^ 32))

/-- RESERVATION_EXPIRY: 20,000 tk after it was set (13 R345). -/
def execReservationExpiry (g : Lapse) (rid : Nat) (s : State) : Host.Outcome State Fault Refusal :=
  let s := s.pass g
  .next (s.modTwin (fun t => { t with sem := t.sem.filter (fun v => !(v.rid = rid && s.expired v.stamp 20000)) }))

/-- LOCK_BREAK: 4,000 tk after the grant (13 R346). -/
def execLockBreak (g : Lapse) (s : State) : Host.Outcome State Fault Refusal :=
  let s := s.pass g
  match s.twin.lock with
  | some (_, t) => .next (if s.expired t 4000 then s.breakLock.unlocked else s)
  | none => .next s

/-- CTL_INTERRUPT: the link interrupt of the supervisor core (13 R347, 14 R376). -/
def execCtlInterrupt (g : Lapse) (s : State) : Host.Outcome State Fault Refusal :=
  let s := s.pass g
  .next (if s.twin.up then (s.modTwin (fun t => { t with irq := true })).raiseEv 0 2 else s)

/-- TWIN_WAKE_PATTERN (13 R347). -/
def execTwinWakePattern (g : Lapse) (s : State) : Host.Outcome State Fault Refusal :=
  let s := s.pass g
  .next (if (s.pwr.st = .run || s.pwr.st = .hold) && s.pd 14 && s.pb Pf.twinCfg_PAIR && !s.twin.up && s.expired s.twin.wakeAt 20000000 then
      s.modTwin (fun t => { t with wakeAt := s.now })
    else s)

/-! ### `twin` parameters (13 R338, R361) -/

/-- RANGE of a `twin` value (13 R338, R361). -/
def State.twinRange (s : State) (off idx v : Nat) : Bool :=
  if off = 1 then
    let lo := bitsOf v 0 14
    let n := bitsOf v 16 14 + 1
    !v.testBit 14 ||
      (lo + n ≤ 0x4000 && bitsOf v 32 16 + n ≤ 0x10000 &&
        (List.range 8).all (fun j => j = idx || !s.pb Pf.twinWindow_EN 0 j ||
          (let lj := s.pf Pf.twinWindow_LBASE 0 j
           let nj := s.pf Pf.twinWindow_SIZE 0 j + 1
           lo + n ≤ lj || lj + nj ≤ lo)))
  else if off = 2 then bitsOf v 0 11 + bitsOf v 16 11 ≤ 2047
  else if off = 4 then 10 ≤ bitsOf v 0 8 && 10 ≤ bitsOf v 8 8 && 1 ≤ bitsOf v 16 8 && bitsOf v 16 8 ≤ 100
  else true

/-- STATE: a write of window 7 (13 R338). -/
def twinStateOk (off idx : Nat) : Bool := !(off = 1 && idx = 7)

/-- A `twin` write takes effect: INTLK_CTRL follows `twin.cfg` (13 R360), the link stops with EN clear, and a window's buffer is emptied
(13 R338). -/
def State.twinWritten (s : State) (off idx v : Nat) : State :=
  if off = 0 then
    let s := s.setCtrl (ctrlOf v)
    if !v.testBit 0 then s.linkDown 3 else s
  else if off = 1 then s.modTwin (fun t => t.dropBuf idx)
  else s

end Sys2Proof.Machine
end

