-- ==== Sys2Proof/Machine/Power.lean ====
section
/-!
DEFINITION. Power domains, power states, the Legend, Survey and the switch inputs (09, 01 R24, 02 R40).
-/
namespace Sys2Proof.Machine

/-! ### Switch inputs (09 R254, R255) -/

/-- Record of an input. -/
def State.inputOf (s : State) (i : Nat) : Input := s.inp.toList.getD i {}
def State.setInput (s : State) (i : Nat) (x : Input) : State := { s with inp := s.inp.setIfInBounds i x }

/-- Classification of a level in 100 mV: active, inactive, or between (R254). -/
def State.classify (s : State) (i v : Nat) : Option Bool :=
  let lo := decide (v < s.pf Pf.swCfg_LO i)
  let hi := decide (s.pf Pf.swCfg_HI i < v)
  if s.pb Pf.swCfg_DIR i then (if hi then some true else if lo then some false else none)
  else (if lo then some true else if hi then some false else none)

/-- A class-4 event (R260). -/
def inputDetail (src mv : Nat) : List Byte := leBytes 1 src ++ leBytes 1 0 ++ leBytes 2 mv ++ leBytes 4 0
def edgeCode (active : Bool) : Nat := if active then 1 else 2

/-- The standby takes the debounced states of mirrored inputs from the report (13 R352). -/
def State.mirrorsInput (s : State) (i : Nat) : Bool :=
  s.twin.up && (s.il.role = 3 || s.il.role = 4) && (s.pf Pf.twinMirror_SW).testBit i

/-- A change of input i to a state is an edge of its WAKE field (R263). -/
def State.wakeEdge (s : State) (i : Nat) (active : Bool) : Bool :=
  let w := s.pf Pf.swCfg_WAKE i
  w = 3 || w = (if active then 1 else 2)

/-- A debounced change before c that the target's mask would take as a wake aborts the entry (R246). -/
def State.changeAborts (s : State) (i : Nat) (active : Bool) : State :=
  match s.beforeC with
  | some t => if (s.armMask t).testBit 27 && s.wakeEdge i active then s.abortEntry 1 else s
  | none => s

/-- One sample of an input at tick `t` (R255). -/
def State.sampleInput (s : State) (i v t : Nat) : State :=
  let x := s.inputOf i
  let c := s.classify i v
  let x := { x with level := min 255 v, raw := c.getD x.raw }
  if s.mirrorsInput i then s.setInput i x
  else
    match c with
    | none => s.setInput i { x with cand := 0 }
    | some b =>
      if b = x.state then s.setInput i { x with cand := 0 }
      else if x.cand + 1 < s.pf Pf.swCfg_DEB i then s.setInput i { x with cand := x.cand + 1 }
      else
        ((s.setInput i { x with state := b, cand := 0, changes := satInc 0xFFFF x.changes }).emitAt 4 i (edgeCode b) t (inputDetail 0 (100 * v))).changeAborts i b

/-- RUN_SAMPLE_CYCLE (R255): the samples of the cycle that started at t = k × `survey.run_period`, once its sixth group has been pulsed, in
RUN, from phase 7 of a start on (17 R430), and in HOLD, while Survey does not have the inputs. -/
def execRunSampleCycle (g : Lapse) (levels : List Nat) (s : State) : Host.Outcome State Fault Refusal :=
  let s := s.pass g
  let per := 200000 * s.pf Pf.svyRunPeriod_RPER
  if !(s.pd 15 && s.pd 3 && !s.svy.running && (s.pwr.st = .run || s.pwr.st = .hold)) || s.now % per ≠ 24000 then .next s
  else
    let t := s.now - 24000
    .next ((List.range 48).foldl (fun s i =>
      if s.pb Pf.swCfg_EN i then s.sampleInput i (levels.getD i 0) (t + 4000 * (i / 8 + 1)) else s) s)

/-- Debounced states of the inputs. -/
def State.debounced (s : State) : Nat := maskOf ((List.range 48).filter (fun i => s.pb Pf.swCfg_EN i && (s.inputOf i).state))

/-! ### Survey (09 R256, R257) -/

/-- Changing Survey's record. -/
def State.modSvy (s : State) (f : Survey → Survey) : State := { s with svy := f s.svy }

/-- Survey starts with the settings of now (R262): its first cycle is at the first AON tick after. -/
def State.startSurvey (s : State) (dormant : Bool) : State :=
  s.modSvy (fun v => { v with running := true, dormant := dormant, per := if dormant then s.pf Pf.svyDperiod_DPER else s.pf Pf.svyPeriod_PER, conf := s.pf Pf.svyConfirm_CONF, cand := Vector.replicate 48 0, next := s.clk.aon + 1 })

/-- An input is a member of the present set. -/
def State.svyMember (s : State) (i : Nat) : Bool := if s.svy.dormant then s.pb Pf.swCfg_DSVY i else s.pb Pf.swCfg_SVY i

/-- RUN sampling starts from Survey's stored state (R257). -/
def State.fromSurvey (s : State) : State :=
  let s := s.modSvy (fun v => { v with running := false })
  { s with inp := Vector.ofFn (fun (i : Fin 48) => { s.inputOf i with state := s.pb Pf.swCfg_EN i && s.svy.stored.testBit i, cand := 0 }) }

/-- In RUN with PD15 on, RUN sampling has the inputs; with PD15 off, Survey has them, with the members and period of SVY (R256). -/
def State.surveyInRun (s : State) : State :=
  if s.pd 15 then (if s.svy.running then s.fromSurvey else s)
  else if s.svy.running && !s.svy.dormant then s else s.startSurvey false

/-- The time base that corresponds to an AON count (R257): under R58 where PD3 was off, and by the calibration from now otherwise. -/
def State.tbOfAon (s : State) (a : Nat) (slept : Bool) : Nat :=
  let cal := if s.clk.calValid then s.clk.aonCal else 200000000
  let a0 := if slept then s.clk.aonSleep else s.clk.aon
  let t0 := if slept then s.clk.tbSleep else s.now
  if a0 ≤ a then t0 + (a - a0) * cal / 32768 else t0 - (a0 - a) * cal / 32768

/-- The class-4 events of Survey's changes: one for each bit set in `survey.changed` (R257), by a way of sending. -/
def State.tellChanges (s : State) (slept : Bool) (send : State → Nat → Nat → Nat → State) : State :=
  (s.svy.log.filter (fun p => s.svy.changed.testBit p.1)).foldl (fun s p => send s p.1 (edgeCode p.2.1) (s.tbOfAon p.2.2 slept)) s

/-! ### Domains (01 R24, 02 R40) -/

/-- The order in which domains are raised: each after what it requires (R24). -/
def raiseOrder : List Nat := [0, 3, 1, 15, 2, 4, 5, 6, 7, 8, 9, 10, 11, 12, 13, 14]

/-- Bytes of the running image's sections that lie in [lo, lo + n) are copied to their LOAD addresses (17 R425). -/
def State.loadImage (s : State) (lo n : Nat) : State :=
  let base := slotBase s.fw.run
  (s.sections base).foldl (fun s p =>
    let a := max lo p.2.2
    let b := min (lo + n) (p.2.2 + p.2.1)
    if a < b then s.loadBytes a ((List.range (b - a)).map (fun i => s.byteAt (base + p.1 + (a - p.2.2) + i))) else s) s

/-- A core may start: its memory passed the self-test, and 17 R434 has not left it halted. -/
def State.coreSound (s : State) (i : Nat) : Bool := (s.mem.test.toList.getD i {}).result ≠ 2 && !s.boot.stuck.contains i

/-- A sequencer starts with its code from the running image, at the start of its memory (17 R425, R434; assumption 24). -/
def State.startSeq (s : State) (i : Nat) : State :=
  if s.coreSound i then (s.loadImage (ownBase i) (ownSize i)).startCore i (ownBase i) else s

/-- Applets whose RUN is set start, unless a storm holds them (17 R433). -/
def State.startApplets (s : State) : State :=
  if s.boot.stormStart then s
  else (List.range 4).foldl (fun s n => if s.pb Pf.appCfg_RUN n && s.coreSound (1 + n) && !(s.applet n).stuck then s.startApplet n else s) s

/-- What a domain does when it powers up. -/
def State.domainUp (s : State) (p : Nat) : State :=
  if p = 2 then s.startApplets
  else if p = 5 then s.netPd5Up
  else if p = 6 then s.netPd6Up
  else if p = 7 then s.accPd7Up
  else if p = 8 then s.lightUp
  else if p = 9 then ([69, 70, 71, 72].foldl State.startSeq s).railStart
  else if 10 ≤ p && p ≤ 13 then (if s.boot.recovery then s else (chansOf (p - 10)).foldl (fun s n => s.startSeq (5 + n)) s)
  else if p = 15 then s.ntcUp.fromSurvey
  else s

/-- Raising a domain. -/
def State.raise1 (s : State) (p : Nat) : State :=
  if s.pd p then s
  else
    let s := s.modPwr (fun w => { w with pdOn := w.pdOn ||| (1 <<< p) })
    let s := { s with fab := { s.fab with closed := s.fab.closed - (s.fab.closed &&& (1 <<< p)) } }
    s.domainUp p

/-- Raising the domains of a mask in the order of R24; a port that is closed and still on opens again. -/
def State.raise (s : State) (mask : Nat) : State :=
  let s := { s with fab := { s.fab with closed := s.fab.closed - (s.fab.closed &&& mask) } }
  (raiseOrder.filter (fun p => mask.testBit p)).foldl State.raise1 s

/-- Content of system SRAM and filter RAM is lost but for the half-banks of a mask (R249), and with it their bits of MEM_SCRUB (15 R401). -/
def State.loseSram (s : State) (keep : Nat) : State :=
  let stays := fun (a : Nat) => a < 0x10000000 || 0x10804000 ≤ a || (a < 0x10800000 && keep.testBit ((a - 0x10000000) / 0x40000))
  { s with mem := { s.mem with cells := s.mem.cells.filter (fun c => stays c.1), chk := s.mem.chk.filter (fun c => stays c.1), epoch := s.mem.epoch + 1, scrub := s.mem.scrub &&& keep, scrubF := false } }

/-- The count of READY so far, kept for the confirmation (16 R416), and READY ends. -/
def State.pauseReady (s : State) : State :=
  { (s.modFw (fun w => { w with ready := s.readyFor })) with atlas := { s.atlas with ready := false } }

/-- Cores halt as their domain goes, and their memories lose their content. -/
def State.coresOff (s : State) (l : List Nat) : State :=
  l.foldl (fun s i => (s.haltCore i .halted).loseMem (ownBase i) (ownSize i)) s

/-- What a domain does when it loses power. -/
def State.domainDown (s : State) (p : Nat) : State :=
  if p = 1 then (s.coresOff [0]).pauseReady
  else if p = 2 then
    let s := s.coresOff [1, 2, 3, 4]
    (List.range 4).foldl (fun s n => (s.modApplet n (fun a => { a with restart := none })).dropApplet n) s
  else if p = 3 then
    let s := { s with clk := { s.clk with tbSleep := s.now, aonSleep := s.clk.aon, run := false, lock := false, fallback := false } }
    let keep := match s.pwr.entry with | some e => if e.target = 2 then s.pf Pf.pwrParkRetain_MASK else 0 | none => 0
    { s.loseSram keep with dma := Vector.replicate 32 {}, fab := {} }
  else if p = 4 then s.accAbandon
  else if p = 5 then s.netPd5Down
  else if p = 6 then s.netPd6Down
  else if p = 7 then s.accPd7Down
  else if p = 8 then { s with light := s.light.fresh }
  else if p = 9 then (s.coresOff [69, 70, 71, 72]) |> fun s => { s with vlv := s.vlv.off }
  else if 10 ≤ p && p ≤ 13 then s.coresOff ((chansOf (p - 10)).map (5 + ·))
  else if p = 14 then s.linkDown 3
  else if p = 15 then (if s.svy.running then s else (s.modSvy (fun v => { v with stored := s.debounced })).startSurvey false)
  else s

/-- Removing power from a domain. -/
def State.lower1 (s : State) (p : Nat) : State :=
  let s := (s.domainDown p).modPwr (fun w => { w with pdOn := w.pdOn - (w.pdOn &&& (1 <<< p)) })
  { s with fab := { s.fab with closed := s.fab.closed - (s.fab.closed &&& (1 <<< p)) } }

/-- Masks of RUN and HOLD; PD0, PD1 and PD3 are on in both (R241). -/
def State.runMask (s : State) : Nat := s.pf Pf.pwrRunDomains_MASK ||| 0xB
def State.holdMask (s : State) : Nat := s.pf Pf.pwrHoldDomains_MASK ||| 0xB

/-- The domains to keep as things stand. -/
def State.keepMask (s : State) : Nat :=
  match s.pwr.entry with
  | some e => if e.step = 5 then (if e.target = 1 then s.holdMask else 1) else 0xFFFF
  | none => match s.pwr.st with
    | .run => s.runMask
    | .hold => s.holdMask
    | _ => 0xFFFF

/-- Closing the next domain to go, in the reverse of the order of R24, while none is closed (R40, R245). -/
def State.closeNext (s : State) : State :=
  if s.fab.closed ≠ 0 then s
  else
    match raiseOrder.reverse.find? (fun p => s.pd p && !s.keepMask.testBit p) with
    | some p => { s with fab := { s.fab with closed := 1 <<< p } }
    | none => s

/-- Requests in service in a domain have ended, or have had their 20,000 tk (R40). -/
def State.portDrained (s : State) (p : Nat) : Bool :=
  s.fab.inflight.all (fun e => addrDomain e.req.addr ≠ some p || e.ans = .answered 2 0 || s.expired e.stamp 20000)
    && (p ≠ 8 || !s.light.busy)
    && (p ≠ 14 || ((s.twin.wait.all (fun x => s.expired x.2 20000)) && (s.twin.out ++ s.twin.again).all (fun o => o.silent || s.expired o.stamp 20000)))

/-! ### Entering HOLD, PARK and DORMANT (09 R244 to R247) -/

/-- Every domain with a pace cap goes to an operating point by the sequence of 02 R52. -/
def State.paceAll (s : State) (op : Nat → Nat) : State :=
  ((List.range 16).filter paced).foldl (fun s p => if s.pd p then s.modPace p (fun r => r.opReq (op p)) else s) s

/-- HOLD is reached. -/
def State.enterHold (s : State) (e : Entry) : State :=
  let s := s.modPwr (fun w => { w with st := .hold, entry := none })
  let s := s.paceAll (fun _ => 0)
  let s := match e.handle with | some h => s.complete h St.ok (powerPayload 1 0 0 s.now) | none => s
  s.powerEvent 0 1 0 1 0

/-- PARK or DORMANT is reached (step 6). -/
def State.enterSleep (s : State) (e : Entry) : State :=
  let s := s.modPwr (fun w => { w with st := if e.target = 3 then .dormant else .park, entry := none, entries := satInc 0xFFFF w.entries, sleptAt := e.cAon, retained := if e.target = 2 then s.pf Pf.pwrParkRetain_MASK else 0 })
  s.modAgr (fun a => { a with st := .disabled, hold := none })

/-- What `power.hold_domains` names beyond the domains that are on comes up, and HOLD is reached with every pace-capped domain at OP0 (R239, R241). -/
def State.holdReached (s : State) (e : Entry) : State := (s.raise s.holdMask).enterHold e

/-- Going on with step 5: the next domain closes, or the target is reached. -/
def State.goOn (s : State) : State :=
  let s := s.closeNext
  if s.fab.closed ≠ 0 then s
  else
    match s.pwr.entry with
    | some e => if e.step ≠ 5 then s else if e.target = 1 then s.holdReached e else s.enterSleep e
    | none => s

/-- DOMAIN_DRAIN_END (02 R40). -/
def execDomainDrainEnd (g : Lapse) (p : Fin 16) (s : State) : Host.Outcome State Fault Refusal :=
  let s := s.pass g
  .next (if s.fab.closed.testBit p && s.pd p && s.portDrained p then (s.lower1 p).goOn else s)

/-- A unit or an operation blocks a target (R244, 16 R422, 17 R437). -/
def State.blocksEntry (s : State) (target : Nat) : Bool :=
  if target = 1 then
    (List.range 16).any (fun p => s.unitsIn p && !s.holdMask.testBit p)
      || (!s.holdMask.testBit 4 && [0x52, 0x53, 0x58, 0x5C].any s.opPending)
  else s.unitBlocks || s.opsBlock

/-- FORCE turns a blocking unit off (R245): its command is superseded by an OFF. A valve's OFF runs to its end under 07 R199 as a command without
a handle. -/
def State.forceOffs (s : State) (away : Nat → Bool) : State :=
  let s := (List.range 64).foldl (fun s n =>
    if s.chanBusy n && away (10 + dieOf n) then
      let u := s.topOf (s.owner n)
      (s.endCmd u St.superseded).unitOff u
    else s) s
  let s := if away 9 then (List.range 16).foldl (fun s v =>
      if (s.valve v).st ≠ .off && (s.valve v).st ≠ .latched then ((s.valveEnd v St.superseded (s.valve v).codes).valveOff v).modValve v (fun x => { x with offAt := s.now, cmd := some ⟨0, 0, none, false, false, false⟩ }) else s) s
    else s
  if away 8 then
    let s := (List.range 8).foldl (fun s c => s.setPf Pf.lcCfg_EN c 0 0) s
    if s.light.mx.st ≠ .off && s.light.mx.st ≠ .latched then (s.setPf Pf.mxCfg_EN 0 0 0).mxStop .off else s
  else s

/-- IMG_VERIFY, ATTEST and access commands end CANCELLED at step 1 (16 R422, 12 R328). -/
def State.cancelJobs (s : State) : State :=
  let l := s.atlas.handles.filter (fun h => (match h.phase with | .pending => true | _ => false) && (h.op = 0x52 || h.op = 0x58))
  let s := l.foldl (fun s h => s.complete h.num St.cancelled []) s
  let s := (s.modFw (fun w => { w with jobs := w.jobs.filter (fun j => j.op ≠ .verify) })).dropSign
  s.accHandles.foldl (fun s h => s.accStopAt h St.cancelled none) s

/-- Forced OFFs have run to their end: no unit blocks, and every output and coil current has fallen (04 R108, 07 R199). -/
def State.offsDone (s : State) (e : Entry) : Bool :=
  !s.blocksEntry e.target
    && (!e.force || ((List.range 64).all (fun n => (s.chan n).offAt.isNone) && (List.range 16).all (fun v => (s.valve v).cmd.isNone)))

/-- The payload of POWER_REQ. -/
def powerReqBytes (target opt : Nat) : List Byte := leBytes 1 target ++ leBytes 1 opt ++ leBytes 6 0

/-- The checks of POWER_REQ (R244). -/
def State.powerCheck (s : State) (r : InReq) (target opt : Nat) : Option Nat :=
  if 1 < opt then some St.range
  else if opt = 0 && 1 ≤ target && s.pwr.st.code ≠ target && s.blocksEntry target then some St.state
  else if r.ses = 3 && !s.granted r.org 9 target then some St.denied
  else if s.pwr.entry.isSome || s.opPending 0x68 then some St.conflict
  else none

/-- Survey's stored state is each input's debounced state from RUN sampling, where that runs (R245 step 2). -/
def State.saveInputs (s : State) : State := if s.svy.running then s else s.modSvy (fun v => { v with stored := s.debounced })

/-- Step 2 of R245. -/
def State.saveState (s : State) : State := { s.saveInputs with boot := { s.boot with digest := true } }

/-- The arm tick of a command that commits: the tick before it. Whatever is stamped at c has been handed over by then, and counts as before c
(02 R46; DESIGN CHOICE, entry 98). -/
def State.commitTick (s : State) : Nat := s.now - 1

/-- Tick c of an entry (R245 step 3, R247): the detectors are armed, Survey starts, an ACTIVE device releases the line, every session closes. -/
def State.armAt (s : State) (e : Entry) : State :=
  let s := s.modPwr (fun w => { w with entry := some { e with step := 4, cAon := s.clk.aon } })
  let s := match e.handle with | some h => s.complete h St.ok (powerPayload e.target 0 0 e.c) | none => s
  let s := s.saveInputs
  let s := if s.il.role = 2 then s.release 8 else s
  (s.wmEndAll.startSurvey (e.target = 3)).closeAll

/-- A HANDLE_CANCEL of the entry's POWER_REQ is handed over and not served: c is not reached before it (03 R79, R247). -/
def State.cancelHeld (s : State) (e : Entry) : Bool :=
  match e.handle with
  | some h => (s.handle h).any s.cancelWaits
  | none => false

/-- ENTRY_OFFS_COMPLETE (R245): step 1 has ended; for PARK and DORMANT, c is after the entry's first tick. -/
def execEntryOffsComplete (g : Lapse) (s : State) : Host.Outcome State Fault Refusal :=
  let s := s.pass g
  match s.pwr.entry with
  | some e =>
    if e.step = 1 && s.offsDone e && !s.cancelHeld e then
      if e.target = 1 then .next (s.modPwr (fun w => { w with entry := some { e with step := 5 } })).goOn
      else if e.c < s.commitTick then .next (s.saveState.armAt { e with c := s.commitTick })
      else .next s
    else .next s
  | none => .next s

/-- ENTRY_COMPLETION_SENT (R245): step 5 begins; an armed activation writes its boot record first (16 R416). -/
def execEntryCompletionSent (g : Lapse) (s : State) : Host.Outcome State Fault Refusal :=
  let s := s.pass g
  match s.pwr.entry with
  | some e =>
    if e.step = 4 && !e.net then
      let s := if s.fw.armed then { s.nameSlot with boot := { s.boot with digest := false } } else s
      .next (s.modPwr (fun w => { w with entry := some { e with step := 5 } })).goOn
    else .next s
  | none => .next s

/-! ### The Legend and waking (09 R246, R250 to R252) -/

/-- A wake enters the Legend, unless FREEZE is set (R252). -/
def State.legend (s : State) (word detail ts : Nat) : State :=
  if s.lgd.freeze then s
  else
    let r : LgdRec := ⟨word, detail, ts⟩
    { s with lgd := { s.lgd with wakes := satInc 0xFFFF s.lgd.wakes, last := r, hist := Vector.ofFn (fun (i : Fin 8) => if i.val = 0 then r else s.lgd.hist.toList.getD (i.val - 1) {}) } }

/-- A further source in the AON tick of the last wake (R251): the lowest code is SRC, every other sets its bit of ALSO. -/
def State.legendAlso (s : State) (code detail : Nat) : State :=
  let r := s.lgd.last
  let src := r.word % 256
  let r := if code < src then { r with word := (r.word - src + code) ||| (1 <<< (16 + src)), detail := detail } else if code = src then r else { r with word := r.word ||| (1 <<< (16 + code)) }
  if s.lgd.freeze then s else { s with lgd := { s.lgd with last := r, hist := s.lgd.hist.setIfInBounds 0 r } }

/-- LGD_LAST of a wake: SRC, AFTER_COMMIT, DURING_ENTRY, FROM (R252, 11 R302). -/
def State.wakeWord (s : State) (code src : Nat) (during : Bool) (ts : Nat) : Nat :=
  let after := match s.agr.commit with | some a => a ≤ ts && aonToTk (ts - a) < 300000000 | none => false
  code + flag after <<< 8 + flag during <<< 9 + src <<< 12

/-- The operating points of the `pace` family (R248). -/
def State.paceRestore (s : State) : State := s.paceAll (fun p => s.pf Pf.paceOp_OP p)

/-- HOLD ends, or a power-down is stopped with PD1 and PD3 still on: the domains and operating points of RUN return. -/
def State.backToRun (s : State) : State :=
  let s := s.modPwr (fun w => { w with st := .run, entry := none })
  ((s.raise s.runMask).paceRestore).surveyInRun.closeNext

/-- After a LIN wake each commander's schedule starts 20,000,000 tk later (11 R303). -/
def State.linAfterWake (s : State) (code : Nat) : State :=
  if code = 4 then (List.range 8).foldl (fun s n => if s.linCommander n then s.modLin n (fun l => { l with run := false, restart := some (s.now + 20000000) }) else s) s
  else s

/-- Buses that a network commit had released are taken up again where their domain has stayed on (R246). -/
def State.rejoin (s : State) (e : Entry) : State :=
  if !e.net then s
  else
    let s := if s.pd 6 then (List.range 8).foldl (fun s n =>
        let s := if s.pb Pf.canCfg_EN n then s.canStart n else s
        if s.pb Pf.linCfg_EN n then s.linStart n else s) s else s
    if s.pd 5 then (List.range 2).foldl (fun s k =>
        let s := s.setEth k { s.ethPort k with tc10 := none, silent := false }
        if s.pb Pf.speCfg_EN k then s.speStart k else s) s
    else s

/-- A wake from HOLD (R240). -/
def State.wakeHold (s : State) (code detail ts : Nat) : State :=
  let word := s.wakeWord code 1 false ts
  let s := s.legend word detail ts
  let off := !s.pd 15
  let s := s.backToRun.linAfterWake code
  let s := if off then s.tellChanges false (fun s i c t => s.emitAt 4 i c t (inputDetail 1 0)) else s
  let s := s.emit 9 0 2 (leBytes 1 1 ++ leBytes 1 0 ++ leBytes 1 code ++ leBytes 1 (bitsOf word 8 8) ++ leBytes 4 detail)
  (s.powerEvent 0 1 1 0 code).agrReady (some code)

/-- The start that follows a wake from PARK or DORMANT. -/
def State.wakeStart (s : State) (word detail : Nat) : State :=
  s.modPwr (fun w => { w with st := .start, entry := none, woke := some (word, detail) }) |> fun s => { s with boot := { s.boot with phase := 0 } }

/-- A wake after c, before the power-down has finished (R246). -/
def State.wakeDuring (s : State) (e : Entry) (code detail ts : Nat) : State :=
  let word := s.wakeWord code e.target true ts
  let s := s.legend word detail ts
  if s.pd 1 && s.pd 3 then
    let s := { s.pauseReady with fab := { s.fab with closed := 0 } }
    let s := { s with atlas := { s.atlas with ready := true, readyAt := s.now } }
    let s := ((s.rejoin e).backToRun).linAfterWake code
    let s := s.tellChanges false (fun s i c t => s.keepAt 4 i c t (inputDetail 1 0))
    let s := s.keep 9 0 2 (leBytes 1 e.target ++ leBytes 1 0 ++ leBytes 1 code ++ leBytes 1 (bitsOf word 8 8) ++ leBytes 4 detail)
    s.agrReady (some code)
  else
    let s := { s with fab := { s.fab with closed := 0 } }
    let s := s.modPwr (fun w => { w with sleptAt := e.cAon, retained := if e.target = 2 then s.pf Pf.pwrParkRetain_MASK else 0 })
    s.wakeStart word detail

/-- Domain of the block that serves a source's traffic (R250): in HOLD a source whose block is on does not wake. The alarm has none. -/
def srcDomain (code : Nat) : Option Nat :=
  if code = 1 then some 15
  else if code = 2 || code = 3 || code = 4 then some 6
  else if code = 5 || code = 6 then some 5
  else if code = 7 then some 14
  else if code = 8 then some 3
  else none

/-- A further source decides in the AON tick of the last wake (R251): it was armed in the state that was left and, in HOLD, its block was off. -/
def State.alsoWakes (s : State) (code bit ts : Nat) : Bool :=
  let from_ := bitsOf s.lgd.last.word 12 3
  s.lgd.last.ts = ts && 1 ≤ from_ && from_ ≤ 3 && s.lgd.last.word % 256 ≠ 10 && (s.armMask from_).testBit bit
    && (from_ ≠ 1 || (match srcDomain code with | some p => !s.holdMask.testBit p | none => true))

/-- A source decides a wake at AON tick `ts`: it aborts an entry before c, wakes after it, wakes from HOLD where its block is off, and from
PARK and DORMANT (R246, R250, R251). -/
def State.wakeUp (s : State) (code bit detail ts : Nat) : State :=
  match s.pwr.entry with
  | some e =>
    if e.target < 2 then s
    else if !(s.armMask e.target).testBit bit then s
    else if e.step = 1 then s.abortEntry code
    else s.wakeDuring e code detail ts
  | none =>
    match s.pwr.st with
    | .hold =>
      if (s.armMask 1).testBit bit && (match srcDomain code with | some p => !s.pd p | none => true) then s.wakeHold code detail ts else s
    | .park =>
      if (s.armMask 2).testBit bit then let w := s.wakeWord code 2 false ts; (s.legend w detail ts).wakeStart w detail else s
    | .dormant =>
      if (s.armMask 3).testBit bit then let w := s.wakeWord code 3 false ts; (s.legend w detail ts).wakeStart w detail else s
    | .off => s
    | _ =>
      if s.alsoWakes code bit ts then
        let s := s.legendAlso code detail
        s.modPwr (fun p => { p with woke := p.woke.map (fun _ => (s.lgd.last.word, s.lgd.last.detail)) })
      else s

/-- A wake decided now. -/
def State.wakeNow (s : State) (code bit detail : Nat) : State := s.wakeUp code bit detail s.clk.aon

/-- WAKE_DURING_ENTRY (R246). -/
def execWakeDuringEntry (g : Lapse) (w : WakeSrc) (s : State) : Host.Outcome State Fault Refusal :=
  let s := s.pass g
  match s.pwr.entry with
  | some e => .next (if 2 ≤ e.target && 4 ≤ e.step then s.wakeNow w.code w.bit w.detail else s)
  | none => .next s

/-- A port's selective-wake bit takes precedence over its pattern bit (R250). -/
def State.selective (s : State) (n : Nat) : Bool :=
  let t := match s.pwr.entry with | some e => e.target | none => if s.pwr.st = .dormant then 3 else 2
  n < 4 && (s.armMask t).testBit (8 + n)

/-- CAN_WAKE_PATTERN (11 R303). -/
def execCanWakePattern (g : Lapse) (n : Fin 8) (s : State) : Host.Outcome State Fault Refusal :=
  let s := s.pass g
  .next (if s.selective n then s else s.wakeNow 2 n n)

/-- SELECTIVE_WAKE (11 R304): a frame that the armed detector has decoded. -/
def execSelectiveWake (g : Lapse) (n : Fin 4) (f : CanFrame) (s : State) : Host.Outcome State Fault Refusal :=
  let s := (s.pass g).wufSeen n f
  .next (if s.wufDecodes n && s.wufMatch n f then s.wakeNow 3 (8 + n) (n + f.id <<< 3) else s)

/-- SELECTIVE_WAKE_ERROR_LIMIT (11 R304). -/
def execSelectiveWakeErrorLimit (g : Lapse) (n : Fin 4) (s : State) : Host.Outcome State Fault Refusal :=
  let s := (s.pass g).wufBad n
  .next (if 32 ≤ s.agr.wufErr.toList.getD n 0 then s.wakeNow 3 (8 + n) (n + 0x1FFFFFFF <<< 3) else s)

/-- LIN_WAKE (11 R303). Each commander's schedule restarts 20,000,000 tk after the wake. -/
def execLinWake (g : Lapse) (n : Fin 8) (s : State) : Host.Outcome State Fault Refusal := .next ((s.pass g).wakeNow 4 (12 + n) n)

/-- TC10_WAKE (11 R303). -/
def execTc10Wake (g : Lapse) (k : Fin 2) (s : State) : Host.Outcome State Fault Refusal :=
  let s := s.pass g
  .next (if s.pb Pf.ethCfg_EN k then s.wakeNow 5 (20 + k) k else s)

/-- SPE_WAKE (11 R303). -/
def execSpeWake (g : Lapse) (k : Fin 2) (s : State) : Host.Outcome State Fault Refusal :=
  let s := s.pass g
  .next (if s.pb Pf.speCfg_EN k then s.wakeNow 6 (22 + k) k else s)

/-- TWIN_PARTNER_WAKE (13 R347): the detail is lane activity and the level of INTLK. -/
def execTwinPartnerWake (g : Lapse) (s : State) : Host.Outcome State Fault Refusal :=
  let s := s.pass g
  .next (s.wakeNow 7 24 (1 + flag s.il.line <<< 1))

/-- BENCH_WAKE (R250). -/
def execBenchWake (g : Lapse) (s : State) : Host.Outcome State Fault Refusal := .next ((s.pass g).wakeNow 8 25 0)

/-- ALARM (R250): the AON counter has reached `power.alarm`. -/
def execAlarm (g : Lapse) (s : State) : Host.Outcome State Fault Refusal :=
  let s := s.pass g
  let at_ := s.pf Pf.pwrAlarm_AT
  .next (if at_ ≠ 0 && at_ = s.clk.aon then s.wakeNow 9 26 0 else s)

/-- One member of a Survey cycle in AON tick `a` (R256): the state, and whether it decides a wake. -/
def State.surveyMember (s : State) (i v a : Nat) : State × Bool :=
  match s.classify i v with
  | none => (s.modSvy (fun x => { x with cand := x.cand.setIfInBounds i 0 }), false)
  | some b =>
    if b = s.svy.stored.testBit i then (s.modSvy (fun x => { x with cand := x.cand.setIfInBounds i 0 }), false)
    else
      let k := s.svy.cand.toList.getD i 0 + 1
      if k < s.pf Pf.swCfg_DEB i then (s.modSvy (fun x => { x with cand := x.cand.setIfInBounds i k }), false)
      else
        let s := s.modSvy (fun x => { x with stored := putBits x.stored i 1 (flag b), cand := x.cand.setIfInBounds i 0, changed := x.changed ||| (1 <<< i), log := x.log.filter (fun p => p.1 ≠ i) ++ [(i, b, a)] })
        (s, s.wakeEdge i b)

/-- Group `g` of a cycle: every member is sampled, and the lowest input that decides a wake is named (R251). -/
def State.surveyGroup (s : State) (levels : List Nat) (grp a : Nat) : State × Option (Nat × Bool) :=
  (List.range 8).foldl (fun p j =>
    let i := 8 * grp + j
    if p.1.svyMember i then
      let q := p.1.surveyMember i (levels.getD i 0) a
      (q.1, if p.2.isNone && q.2 then some (i, q.1.svy.stored.testBit i) else p.2)
    else p) (s, none)

/-- The groups of a cycle, to the first that decides a wake. During a restart of the logic die no change is a wake (17 R430). -/
def State.surveyRun (levels : List Nat) : List Nat → Nat → State → State
  | [], _, s => s
  | grp :: l, a, s =>
    let p := s.surveyGroup levels grp (a + grp)
    match p.2 with
    | some (i, b) =>
      let s' := p.1.wakeUp 1 27 (i + flag b <<< 6) (a + grp)
      if s'.pwr = p.1.pwr then State.surveyRun levels l a s' else s'
    | none => State.surveyRun levels l a p.1

/-- SURVEY_CYCLE (R256). -/
def execSurveyCycle (g : Lapse) (levels : List Nat) (s : State) : Host.Outcome State Fault Refusal :=
  let s := s.pass g
  if !s.svy.running || s.pwr.st = .off || s.clk.aon < s.svy.next then .next s
  else
    let a := s.svy.next
    let s := s.modSvy (fun x => { x with lastCyc := a })
    let s := State.surveyRun levels [0, 1, 2, 3, 4, 5] a s
    let d := if s.svy.cand.toList.any (fun k => 0 < k) then s.svy.conf else s.svy.per
    .next (s.modSvy (fun x => { x with next := a + d }))

/-! ### POWER_REQ (09 R240, R244) -/

/-- A POWER_REQ that passes R244: the state in force completes OK at once. -/
def State.powerReq (s : State) (q : Rq) (target opt : Nat) (act : State → Nat → State) : State :=
  s.serve q 0x68 0 (powerReqBytes target opt) (fun r s =>
    match s.powerCheck r target opt with
    | some st => s.answer r st 0 []
    | none =>
      match s.accept r target with
      | (s, none) => s
      | (s, some h) => if s.pwr.st.code = target then s.complete h St.ok (powerPayload target 0 0 s.now) else act s h)

/-- POWER_REQ RUN. -/
def execPowerReqRun (g : Lapse) (q : Rq) (opt : Nat) (s : State) : Host.Outcome State Fault Refusal :=
  .next ((s.pass g).powerReq q 0 opt (fun s h =>
    let off := !s.pd 15
    let s := s.backToRun
    let s := if off then s.tellChanges false (fun s i c t => s.emitAt 4 i c t (inputDetail 1 0)) else s
    (s.complete h St.ok (powerPayload 0 0 0 s.now)).powerEvent 0 1 1 0 0))

/-- An entry begins (R245 step 1). -/
def State.startEntry (s : State) (target opt h : Nat) : State :=
  s.modPwr (fun w => { w with entry := some ⟨target, some h, opt = 1, 1, s.now, 0, false, false⟩ })

/-- POWER_REQ HOLD. -/
def execPowerReqHold (g : Lapse) (q : Rq) (opt : Nat) (s : State) : Host.Outcome State Fault Refusal :=
  .next ((s.pass g).powerReq q 1 opt (fun s h =>
    let s := s.startEntry 1 opt h
    if s.blocksEntry 1 then s.forceOffs (fun p => !s.holdMask.testBit p)
    else (s.modPwr (fun w => { w with entry := w.entry.map (fun e => { e with step := 5 }) })).goOn))

/-- POWER_REQ PARK. -/
def execPowerReqPark (g : Lapse) (q : Rq) (opt : Nat) (s : State) : Host.Outcome State Fault Refusal :=
  .next ((s.pass g).powerReq q 2 opt (fun s h => ((s.startEntry 2 opt h).cancelJobs).forceOffs (fun _ => true)))

/-- POWER_REQ DORMANT. -/
def execPowerReqDormant (g : Lapse) (q : Rq) (opt : Nat) (s : State) : Host.Outcome State Fault Refusal :=
  .next ((s.pass g).powerReq q 3 opt (fun s h => ((s.startEntry 3 opt h).cancelJobs).forceOffs (fun _ => true)))

/-! ### The Legend's control, and the parameters (09 R252, R243, R261 to R263) -/

/-- Clearing the counts and the history (R252). -/
def State.lgdClear (s : State) : State := { s with lgd := { s.lgd with wakes := 0, falses := 0, hist := Vector.replicate 8 {} } }

/-- LGD_CTRL_CLR: a write of LGD_CTRL with CLR 1 and FREEZE 0. -/
def execLgdCtrlClr (g : Lapse) (ini : Initiator) (s : State) : Host.Outcome State Fault Refusal :=
  .next ((s.pass g).openWrite ini 0x40050000 (fun s => { s.lgdClear with lgd := { s.lgdClear.lgd with freeze := false } }))

/-- A refusal of a domain mask (R243): event, count and record; `by_` is the domain that required it, or 0xFF. -/
def State.domainRefused (s : State) (p : Nat) (on : Bool) (by_ : Nat) : State :=
  let s := s.modPwr (fun w => { w with refused := satInc 255 w.refused, lastRef := p })
  s.emit 9 p 3 (leBytes 1 p ++ leBytes 1 (flag on) ++ leBytes 1 by_ ++ leBytes 1 s.lgdFlags ++ leBytes 4 s.lgd.last.detail)

/-- A mask keeps PD0, PD1 and PD3 and obeys the order of R24 (R243). -/
def maskOk (v : Nat) : Bool :=
  v.testBit 0 && v.testBit 1 && v.testBit 3 && (List.range 16).all (fun p => !v.testBit p || (pdNeeds p).all (fun q => v.testBit q))

/-- What a mask `v` that breaks R243 would have done to domain p of the mask `old`: switched it off although a domain of `v` requires it, or on
without what it requires; with the lowest domain on the other side of the order, or 0xFF for PD1 that nothing requires. -/
def pdBreak (old v p : Nat) : Option (Nat × Bool × Nat) :=
  if (old ||| 0xB).testBit p && !v.testBit p then
    match (List.range 16).find? (fun q => v.testBit q && (pdNeeds q).contains p) with
    | some q => some (p, false, q)
    | none => if (0xB).testBit p then some (p, false, 0xFF) else none
  else if !old.testBit p && v.testBit p then ((pdNeeds p).find? (fun q => !v.testBit q)).map (fun q => (p, true, q))
  else none

/-- The refusal reported for a mask that breaks R243: the lowest-numbered domain that the write would have changed against the order (DESIGN
CHOICE where several are: entry 99): the domain, whether it was to be on, and the domain that required it. -/
def maskBreak (old v : Nat) : Option (Nat × Bool × Nat) := ((List.range 16).filterMap (pdBreak old v)).head?

/-- The first domain that a write of `run_domains` would switch off and that holds a unit not OFF or LATCHED (R243), or PD4 with an image
operation (16 R422), or PD4 or PD7 with an ACCESS_CMD PENDING (12 R326). -/
def State.maskBusy (s : State) (v : Nat) : Option Nat :=
  if s.pwr.st ≠ .run then none
  else (List.range 16).find? (fun p => s.pd p && !v.testBit p && (s.unitsIn p || (p = 4 && [0x52, 0x53, 0x58, 0x5C].any s.opPending)
    || ((p = 4 || p = 7) && s.opPending 0x28)))

/-- RANGE of `power` values (R243, R250). -/
def powerRange (off v : Nat) : Bool :=
  if off = 1 || off = 2 then maskOk v
  else if off = 5 then bitsOf v 8 4 = 0
  else true

/-- STATE of `power.run_domains` (R243). -/
def State.powerStateOk (s : State) (off v : Nat) : Bool := off ≠ 1 || (s.maskBusy v).isNone

/-- What a refused write of a mask does besides (R243). -/
def State.powerRefused (s : State) (off v : Nat) : State :=
  if off ≠ 1 && off ≠ 2 then s
  else match maskBreak (if off = 1 then s.pf Pf.pwrRunDomains_MASK else s.pf Pf.pwrHoldDomains_MASK) v with
    | some (p, on, q) => s.domainRefused p on q
    | none => if off = 1 then (match s.maskBusy v with | some p => s.domainRefused p false 0xFF | none => s) else s

/-- A mask takes effect in the state that it names (R241); a domain raised in HOLD is at OP0 (R239). -/
def State.powerWritten (s : State) (off : Nat) : State :=
  if (off = 1 && s.pwr.st = .run) || (off = 2 && s.pwr.st = .hold) then
    (if s.pwr.entry.isNone then
      let s0 := s
      let s := s.raise s.keepMask
      let s := if off = 2 then ((List.range 16).filter (fun p => paced p && s.pd p && !s0.pd p)).foldl (fun s p => s.modPace p (fun r => r.opReq 0)) s else s
      s.surveyInRun.closeNext
    else s)
  else s

/-- RANGE of `survey` (R262), on the values that a write leaves. -/
def State.svyRelOk (s : State) : Bool := s.pf Pf.svyConfirm_CONF ≤ s.pf Pf.svyPeriod_PER

/-- `survey.ack` clears bits of `survey.changed` (R262). -/
def State.svyWritten (s : State) (off v : Nat) : State :=
  if off = 6 then s.modSvy (fun x => { x with changed := x.changed - (x.changed &&& v), log := x.log.filter (fun p => !v.testBit p.1) }) else s

/-- RANGE of `input.sw[i].cfg` (R263). -/
def inputRange (v : Nat) : Bool :=
  2 ≤ Pf.swCfg_IWET.of v && Pf.swCfg_IWET.of v ≤ 10 && 5 ≤ Pf.swCfg_LO.of v && Pf.swCfg_LO.of v ≤ 180
    && Pf.swCfg_LO.of v + 5 ≤ Pf.swCfg_HI.of v && Pf.swCfg_HI.of v ≤ 180 && Pf.swCfg_DEB.of v ≠ 0

/-- An input with EN clear reads STATE and LEVEL 0 (R255). -/
def State.inputWritten (s : State) (i : Nat) : State :=
  if s.pb Pf.swCfg_EN i then s else s.setInput i { s.inputOf i with level := 0, state := false, cand := 0 }

end Sys2Proof.Machine
end

