-- ==== Sys2Proof/Machine/NetSleep.lean ====
section
/-!
DEFINITION. Keep-alives, the ready-sleep wait, the sleep commit and the Waymark log (11 R295 to R306).
-/
namespace Sys2Proof.Machine

/-- KEEP_ALIVE_RECEIVED (R295, R298): on a watched link. -/
def execKeepAliveReceived (g : Lapse) (link node reason : Nat) (s : State) : Host.Outcome State Fault Refusal :=
  let s := s.pass g
  if s.agr.st = .disabled || s.agr.st = .committing || !s.watched link || !s.pd (if link < 8 then 6 else 5) || (link < 8 && 63 < node) then .next s
  else
    let s := (s.modAgr (fun a => { a with lastNode := node, lastLink := link })).agrStay node
    .next (s.wmSeen link node (reason % 256))

/-- `switch.ip` is IPv4-mapped (byte i of an address is bits 8i up). -/
def ipMapped (ip : Nat) : Bool := ip % 2 ^ 80 = 0 && ip / 2 ^ 80 % 0x10000 = 0xFFFF

/-- Address of Ethernet keep-alives (R297): 255.255.255.255 for an IPv4-mapped `switch.ip`, else ff02::1. -/
def kaDest (ip : Nat) : Nat := if ipMapped ip then (2 ^ 48 - 1) * 2 ^ 80 else 0xFF + 0x02 * 2 ^ 8 + 2 ^ 120

/-- The keep-alive datagram on a link (R297). -/
def State.kaDatagram (s : State) (link : Nat) : KaOut :=
  ⟨link, s.pf Pf.swxCfg_EPVID, kaDest (s.pf Pf.swxIp_IP), s.pf Pf.atlasUdpPort_PORT + 2,
    leBytes 1 (Pf.nsCfg_NODE.of s.agr.cfg) ++ leBytes 1 s.reason ++ leBytes 2 0⟩

/-- One keep-alive of the device on every link of `netsleep.ka` (R297): a CAN frame in a transmit buffer, or counted in TXFAIL where none is free,
and a datagram on the others. -/
def State.kaSend (s : State) : State :=
  let f : CanFrame := ⟨Pf.nsKa_KABASE.of s.agr.ka + Pf.nsCfg_NODE.of s.agr.cfg, false, false, 0, 0, 0, 0, 0, 1, [BitVec.ofNat 8 s.reason]⟩
  let s := (bitList 8 (Pf.nsKa_CAN.of s.agr.ka)).foldl (fun s n =>
    match s.canQueue n f with
    | some s' => s'
    | none => s.modCan n (fun c => { c with txFail := satInc 0xFFF c.txFail })) s
  [16, 17, 18, 19].foldl (fun s l =>
    if s.watched l && s.pd 5 then (s.modAgr (fun a => { a with sent := a.sent ++ [s.kaDatagram l] })).kaSent else s) s

/-- KEEP_ALIVE_SEND (R295, R297): when a local request arises, and then at each multiple of KAPER × 2,000,000. -/
def execKeepAliveSend (g : Lapse) (s : State) : Host.Outcome State Fault Refusal :=
  let s := s.pass g
  if s.agr.st = .disabled || s.agr.st = .committing then .next s
  else if !s.localReq then .next (s.modAgr (fun a => { a with held := false }))
  else if !s.agr.held then .next (((s.agrStay 0xFFFFFFFF).modAgr (fun a => { a with held := true })).wmEndAll.kaSend)
  else if s.now % (Pf.nsCfg_KAPER.of s.agr.cfg * 2000000) = 0 then .next s.kaSend
  else .next s

/-- KEEP_ALIVE_TIMEOUT (R295): the expiry tick is over, so that a keep-alive stamped at it has counted before (R46). -/
def execKeepAliveTimeout (g : Lapse) (s : State) : Host.Outcome State Fault Refusal :=
  let s := s.pass g
  if s.agr.st = .normal && s.expired s.agr.start (s.agrTmo + 1) && !s.localReq then
    .next ((s.modAgr (fun a => { a with st := .readySleep, start := a.start + s.agrTmo, linSlept := false, saved := false })).agrEvent 0x40 0)
  else .next s

/-- LIN_GO_TO_SLEEP (R299). -/
def execLinGoToSleep (g : Lapse) (s : State) : Host.Outcome State Fault Refusal :=
  let s := s.pass g
  if s.agr.st = .readySleep && !s.agr.linSlept && s.expired s.agr.start 296000000 then
    let s := (List.range 8).foldl (fun s n => if s.linCommander n then s.linSleep n else s) s
    .next (s.modAgr (fun a => { a with linSlept := true }))
  else .next s

/-- PRE_COMMIT_SAVE (R299). -/
def execPreCommitSave (g : Lapse) (s : State) : Host.Outcome State Fault Refusal :=
  let s := s.pass g
  if s.agr.st = .readySleep && !s.agr.saved && s.expired s.agr.start 299800000 then
    .next (s.saveState.modAgr (fun a => { a with saved := true }))
  else .next s

/-- The arm-mask bit that makes a commit impossible (R301): selective wake of a port with XCVR 3, or a link whose domain is off; an ETH or
SPE bit whose port has EN 0 is ignored. -/
def State.commitBlock (s : State) : Option Nat :=
  let m := s.armMask (2 + s.pf Pf.nsCfg_TARGET)
  (List.range 25).find? (fun b => m.testBit b && (
    if b < 8 then !s.pd 6
    else if b < 12 then s.pf Pf.canCfg_XCVR (b - 8) = 3 || !s.pd 6
    else if b < 20 then !s.pd 6
    else if b < 22 then s.pb Pf.ethCfg_EN (b - 20) && !s.pd 5
    else if b < 24 then s.pb Pf.speCfg_EN (b - 22) && !s.pd 5
    else !s.pd 14))

/-- Buses are released at c (R300 orders 2 to 5). -/
def State.releaseBuses (s : State) (c : Nat) : State :=
  let s := if s.pd 6 then (List.range 8).foldl (fun s n =>
      (s.modCan n (fun c => { c.failAll with st := .off })).linStop n) s else s
  if s.pd 5 then
    let s := (List.range 2).foldl (fun s k => if (s.ethPort k).link then s.setEth k { s.ethPort k with tc10 := some c } else s) s
    (List.range 2).foldl (fun s k => s.setSpe k { s.spePort k with beacon := false, csma := false }) s
  else s

/-- Step 5 of R245 begins once no TC10 request waits for its answer (R300 order 6). -/
def State.netGoOn (s : State) : State :=
  match s.pwr.entry with
  | some e =>
    if e.net && e.step = 4 && (List.range 2).all (fun k => (s.ethPort k).tc10.isNone) then
      let s := if s.fw.armed then { s.nameSlot with boot := { s.boot with digest := false } } else s
      (s.modPwr (fun w => { w with entry := some { e with step := 5 } })).goOn
    else s
  | none => s

/-- The commit at c (R300). -/
def State.commitSleep (s : State) (c : Nat) : State :=
  let s := if s.agr.saved then s else s.saveState
  let s := s.cancelJobs
  let e : Entry := ⟨2 + s.pf Pf.nsCfg_TARGET, none, false, 4, c, s.clk.aon, true, false⟩
  let s := (s.modAgr (fun a => { a with st := .committing, commit := some s.clk.aon })).armAt e
  (s.releaseBuses c).netGoOn

/-- READY_SLEEP_WAIT_END (R295, R300 to R302): the tick of the commit is over, so that what is stamped at it has aborted it (02 R46, entry 98). -/
def execReadySleepWaitEnd (g : Lapse) (s : State) : Host.Outcome State Fault Refusal :=
  let s := s.pass g
  if s.agr.st = .readySleep && s.expired s.agr.start 300000001 && s.pwr.entry.isNone then
    if s.localReq then .next (s.agrStay 0xFFFFFFFF)
    else
      let c := s.agr.start + 300000000
      match s.commitBlock with
      | some b =>
        let slept := s.agr.linSlept
        let s := (s.agrNormalAt c).agrEvent 0x42 b
        .next (if slept then (List.range 8).foldl (fun s n => if s.linCommander n then s.linWakeup n else s) s else s)
      | none => .next (s.commitSleep c)
  else .next s

/-- FALSE_WAKE_TIMEOUT (R305): the wake was false, and the device commits at once. -/
def execFalseWakeTimeout (g : Lapse) (s : State) : Host.Outcome State Fault Refusal :=
  let s := s.pass g
  if s.agr.st = .wakeCheck && s.expired s.agr.start (s.agrFwTmo + 1) && s.pwr.entry.isNone then
    if s.localReq then .next (s.agrStay 0xFFFFFFFF)
    else
      let c := s.agr.start + s.agrFwTmo
      match s.commitBlock with
      | some b => .next ((s.agrNormalAt c).agrEvent 0x42 b)
      | none =>
        let w := s.lgd.last.word ||| 0x400
        let s := { s with lgd := { s.lgd with falses := satInc 0xFFFF s.lgd.falses, last := { s.lgd.last with word := w }, hist := s.lgd.hist.setIfInBounds 0 { s.lgd.hist.toList.headD {} with word := (s.lgd.hist.toList.headD {}).word ||| 0x400 } } }
        .next ((s.modAgr (fun a => { a with falseSrc := some a.wakeSrc })).commitSleep c)
  else .next s

/-- TC10_SLEEP_ACK (R300): the PHY goes silent. -/
def execTc10SleepAck (g : Lapse) (k : Fin 2) (s : State) : Host.Outcome State Fault Refusal :=
  let s := s.pass g
  .next (if (s.ethPort k).tc10.isSome then (s.setEth k { s.ethPort k with tc10 := none, silent := true, link := false }).netGoOn else s)

/-- TC10_SLEEP_ACK_TIMEOUT (R300). -/
def execTc10SleepAckTimeout (g : Lapse) (k : Fin 2) (s : State) : Host.Outcome State Fault Refusal :=
  let s := s.pass g
  match (s.ethPort k).tc10 with
  | some t => .next (if s.expired t 3200000 then (s.setEth k { s.ethPort k with tc10 := none, silent := true, link := false }).netGoOn else s)
  | none => .next s

/-- WAKE_HOLD_END (R296). -/
def execWakeHoldEnd (g : Lapse) (s : State) : Host.Outcome State Fault Refusal :=
  let s := s.pass g
  match s.agr.hold with
  | some t => .next (if s.expired t (msTk (10 * Pf.nsCfg_WAKEHOLD.of s.agr.cfg)) then s.modAgr (fun a => { a with hold := none }) else s)
  | none => .next s

/-- WAYMARK (R306): a run reaches WMLIMIT minutes, enters the log and sends its event. -/
def execWaymark (g : Lapse) (link node : Nat) (s : State) : Host.Outcome State Fault Refusal :=
  let s := s.pass g
  match s.wmRun link node with
  | some r =>
    if r.logged || s.localReq || !(s.agr.st = .normal || s.agr.st = .wakeCheck) || s.wmMinutes r < s.pf Pf.nsCfg_WMLIMIT then .next s
    else
      let s := s.wmWrite (s.wmTake link node) r true
      let s := s.modAgr (fun a => { a with runs := a.runs.map (fun (x : WmRun) => if x.link = link && x.node = node then { x with logged := true } else x) })
      .next (s.netEvent link 0x43 (node + (s.wmMinutes r) <<< 16))
  | none => .next s

/-- WAYMARK_MINUTE (R306): MINUTES of a logged run. -/
def execWaymarkMinute (g : Lapse) (link node : Nat) (s : State) : Host.Outcome State Fault Refusal :=
  let s := s.pass g
  match s.wmRun link node, s.wmSlot link node with
  | some r, some i => .next (if r.logged then s.wmWrite i r true else s)
  | _, _ => .next s

/-- WAYMARK_RUN_END (R306): a gap longer than TMO, or a local request of the device. -/
def execWaymarkRunEnd (g : Lapse) (link node : Nat) (s : State) : Host.Outcome State Fault Refusal :=
  let s := s.pass g
  match s.wmRun link node with
  | some r => .next (if s.localReq || s.agrTmo < s.now - r.last then s.wmEnd r else s)
  | none => .next s

end Sys2Proof.Machine
end

