-- ==== Sys2Proof/Machine/Boot.lean ====
section
/-!
DEFINITION. Start-up, resets of the logic die, the hold window and adoption (17, 04 R130, 05 R148, R158, 09 R242, R249).
-/
namespace Sys2Proof.Machine

/-- Changing the BOOT record. -/
def State.modBoot (s : State) (f : Boot → Boot) : State := { s with boot := f s.boot }

/-- Persistence of a parameter by its key: 0 VOLATILE, 1 RETAINED, 2 STORED (03 R86). -/
def keyPers (k : Nat) : Nat := match lookupPar (k / 65536) with | some (_, _, p) => p.pers | none => 0

/-! ### Causes (17 R429, R438) -/

/-- BOOT_CAUSE of a start now. -/
def State.causeWord (s : State) (cause : Nat) (during : Bool) : Nat :=
  cause + flag during <<< 8 + flag s.boot.window.isSome <<< 9 + bitsOf s.clk.aon 15 16 <<< 16

/-- Recording a cause: the earlier one enters the history (R429; assumption 26). -/
def State.recordCause (s : State) (word : Nat) : State :=
  s.modBoot (fun b => { b with hist := Vector.ofFn (fun (i : Fin 8) => if i.val = 0 then b.cause else b.hist.toList.getD (i.val - 1) 0), cause := word })

/-- Marks of a new start. -/
def Boot.begin (b : Boot) (cold restart resume : Bool) (phase : Nat) : Boot :=
  { b with cold := cold, adopted := false, expired := false, recovery := false, storm := b.storm && !cold, stormStart := false, resets := if cold then 0 else satInc 0xFFFF b.resets, phase := phase, slot := 0, err := 0, selftest := 0, restart := restart, resume := resume, seqTraps := [], stuck := [], orphans := 0, droopEv := Vector.replicate 16 none }

/-! ### What a start of the logic die finds (17 R430, 09 R249) -/

/-- The blocks of the logic die as after power-up or reset; RETAINED and STORED values, memory cells and flash state stay (R430).
After a wake a LATCHED valve is LATCHED again (09 R249); after a reset every valve is OFF (07 R213). -/
def State.freshLogic (s : State) (wake : Bool) : State :=
  { s with
    pace := Vector.replicate 16 {}
    fab := {}
    inp := Vector.replicate 48 {}
    pwr := { s.pwr with refused := 0, lastRef := 0 }
    atlas := { ({} : Atlas) with sent := s.atlas.sent }
    par := { s.par with work := s.par.work.filter (fun p => keyPers p.1 ≠ 0) }
    dbg := {}
    iso := { ({} : Iso) with learn := s.iso.learn }
    ctr := { ({} : Contour) with sent := s.ctr.sent }
    vlv := s.vlv.reset wake
    net := {}
    agr := { ({} : Agree) with commit := s.agr.commit, wufErr := s.agr.wufErr, falseSrc := s.agr.falseSrc, sent := s.agr.sent }
    xi := { app := s.xi.app.map (fun a => { ({} : Applet) with trapN := a.trapN }) }
    mem := { ({} : Mem) with cells := s.mem.cells, chk := s.mem.chk, epoch := s.mem.epoch, counts := s.mem.counts, scrub := if wake then s.mem.scrub else 0 }
    dma := Vector.replicate 32 {}
    fw := { s.fw with queue := [], nonce := none, jobs := [], armed := false, sign := none, shake := none, report := none, ready := if wake then s.fw.ready else 0, resetAt := none, unlocked := false, flashErr := 0 }
    twin := {}
    acc := s.acc.logicReset }

/-- Composites and generators as the parameters in force describe them; which units pulse is RETAINED (05 R148, R158). -/
def State.rebuild (s : State) : State :=
  let s := (List.range 32).foldl (fun s k =>
    s.setComp k { s.compOf k with en := s.pb Pf.compCfg_EN k, par := s.pf Pf.compCfg_KIND k = 1, members := if s.pb Pf.compCfg_EN k then s.compMembers k else [] }) s
  (List.range 16).foldl (fun s g =>
    let x := s.genOf g
    let us := (List.range 96).filter (fun u => s.pf Pf.genMember_MEMBER g u = 1)
    let ms := us.map (fun u => s.takeSettings g { unit := u, duty := 0, phase := 0, dir := false, free := false, pulsing := (x.mems.find? (fun m => m.unit = u)).elim false (·.pulsing) })
    s.setGen g { en := false, per := s.pf Pf.genPeriod_P g, mems := ms }) s

/-- What of a channel stands in its power die: gates and latch (R430, 04 R130), with the counts and what the model keeps for its reports. -/
def Chan.latch (c : Chan) : Chan :=
  { ({} : Chan) with drive := c.drive, brake := c.brake, gate := c.gate, opened := c.opened, fault := c.fault, firstCode := c.firstCode, tripAt := c.tripAt, trans := c.trans, lasting := c.lasting, revblock := c.revblock, dieTrip := c.dieTrip, dieLast := c.dieLast, trips := c.trips }

/-- A channel as a reset of the logic die leaves it; FAULT is VOLATILE (04 R131). -/
def Chan.reset (c : Chan) : Chan := { c.latch with fault := 0, firstCode := 0 }

/-- A channel after PARK or DORMANT: OFF, or LATCHED again, with its counts and its decayed θ (09 R249). -/
def State.parked (s : State) (n : Nat) : Chan :=
  let c := s.chan n
  let x : Rat := (s.aonSince s.pwr.sleptAt : Rat) / 32768 / (s.pf Pf.chWire_TAU n : Rat)
  { ({} : Chan) with st := if c.st = .latched then .latched else .off, fault := if c.st = .latched then c.fault else 0, trans := c.trans, lasting := c.lasting, dieLast := c.dieLast, trips := c.trips, theta := c.theta * Config.expNeg x }

/-- Starting phase 2: PD3 and PD1 are raised (R425). -/
def State.phase2 (s : State) : State := (s.modBoot (fun b => { b with phase := 2 })).raise 0xB

/-! ### Cold start and OFF (09 R242, R425) -/

/-- What survives OFF: flash, fused values, the levels of lands, and the model's own records. -/
def State.cold (s : State) : State :=
  let flash := fun (a : Nat) => 0x60000000 ≤ a && a < 0x64000000
  { State.reset with
    par := { stored := s.par.stored }
    atlas := { ({} : Atlas) with sent := s.atlas.sent }
    load := { ({} : Load) with ron25 := s.load.ron25 }
    ctr := { ({} : Contour) with sent := s.ctr.sent }
    pwr := { ({} : Power) with va := s.pwr.va, vb := s.pwr.vb, aOk := s.pwr.aOk, bOk := s.pwr.bOk, startFeeds := s.pwr.startFeeds }
    agr := { ({} : Agree) with sent := s.agr.sent }
    acc := { ({} : Access) with tok := s.acc.tok.map (fun t => { ({} : Token) with id := t.id, enrolled := t.enrolled, key := t.key }), flag := s.acc.flag, draws := s.acc.draws }
    mem := { ({} : Mem) with cells := s.mem.cells.filter (fun c => flash c.1), epoch := s.mem.epoch + 1 }
    fw := { s.fw with queue := [], nonce := none, jobs := [], armed := false, sign := none, shake := none, report := none, serial := 0, ready := 0, resetAt := none, unlocked := false, flashErr := 0 }
    boot := { ({} : Boot) with holdRec := s.boot.holdRec }
    il := { ({} : Intlk) with twinId := s.il.twinId }
    pending := s.pending }

/-- FEED_BELOW_PD0 (09 R242): both feeds below the PD0 threshold for 10 µs. -/
def execFeedBelowPd0 (g : Lapse) (s : State) : Host.Outcome State Fault Refusal :=
  let s := s.pass g
  .next (s.cold.modPwr (fun w => { w with st := .off, pdOn := 0 }))

/-- FEED_START (09 R242): a feed has stayed above the start threshold for 10 ms. -/
def execFeedStart (g : Lapse) (a b : Bool) (s : State) : Host.Outcome State Fault Refusal :=
  let s := s.pass g
  .next (if s.pwr.st = .off && (a || b) then s.cold.modPwr (fun w => { w with st := .start, pdOn := 1, startFeeds := flag a + 2 * flag b }) else s)

/-- COLD_START (R425): phase 1. A lock-out that stood is applied in full (12 R322). -/
def execColdStart (g : Lapse) (s : State) : Host.Outcome State Fault Refusal :=
  let s := s.pass g
  if s.pwr.st = .start && s.boot.phase = 0 && s.pwr.woke.isNone then
    let s := s.cold
    let lock := Pf.accLockout_LOCKMIN.of (s.storedOf (Pf.accLockout_LOCKMIN.id 0) 0)
    let s := s.modAcc (fun a => { a with lock := if a.flag then some (0, lock * 1966080 + 1) else none })
    let r : LgdRec := ⟨0x400A, s.pwr.startFeeds, 0⟩
    let s := { s with lgd := { last := r, hist := (Vector.replicate 8 ({} : LgdRec)).setIfInBounds 0 r } }
    let s := s.modBoot (fun b => { b.begin true false false 1 with cause := 1 })
    .next (s.modPwr (fun w => { w with pdOn := 1 }))
  else .next s

/-! ### Warm start (R427, 09 R248, R249) -/

/-- WARM_START: after a wake from PARK or DORMANT. `digestOk` says whether the retained half-bank's digest equals that of the AON store. -/
def execWarmStart (g : Lapse) (digestOk : Bool) (s : State) : Host.Outcome State Fault Refusal :=
  let s := s.pass g
  match s.pwr.woke with
  | some (w, _) =>
    if s.pwr.st = .start && s.boot.phase = 0 then
      let resume := bitsOf w 12 3 = 2 && s.pwr.retained.testBit 0 && s.boot.digest && digestOk
      let s := s.recordCause (s.causeWord 2 false)
      let chans := Vector.ofFn (fun (i : Fin 64) => s.parked i)
      let gens := s.load.gen.map (fun x => { x with mems := x.mems.map (fun m => { m with pulsing := false }) })
      let s := { (s.freshLogic true) with load := { s.load with ch := chans, gen := gens, cmds := [], held := false, halted := 0 }, light := s.light.fresh }
      let s := s.modBoot (fun b => { b.begin false false resume 2 with digest := false, window := none })
      .next s.phase2
    else .next s
  | none => .next s

/-! ### Resets of the logic die (R429 to R433, R437) -/

/-- The window's kinds of reset count towards a storm (R433). -/
def countsForStorm (cause : Nat) : Bool := cause = 3 || cause = 4 || cause = 6

/-- A channel goes off with the storm, whatever its ORPHAN (R433). -/
def Chan.stormOff (c : Chan) : Chan := { c with gate := .off, brake := false, dieTrip := false }

/-- A reset of the logic die with its cause (R429 to R433). One stamped at or after c of an entry is recorded, and the entry goes on (R437). -/
def State.logicReset (s : State) (cause : Nat) : State :=
  if !s.pd 3 then s
  else
    let late := match s.pwr.entry with | some e => decide (2 ≤ e.target && 4 ≤ e.step) | none => false
    let s := s.recordCause (s.causeWord cause late)
    if late then { s.pauseReady with pwr := { s.pwr with entry := s.pwr.entry.map (fun e => { e with reset := true }) } }
    else
      let aon := s.clk.aon
      let faults := if countsForStorm cause then s.boot.faults.filter (fun t => s.aonSince t < 327680) ++ [aon] else s.boot.faults
      let storm := countsForStorm cause && 4 ≤ faults.length
      let outs := (List.range 64).any (fun n => (s.chan n).energised || (s.chan n).st = .on || (s.chan n).st = .inrush || (s.chan n).st = .retryOn)
      let window := if storm then none else match s.boot.window with
        | some w => some w
        | none => if outs then some (aon, s.boot.holdPd0) else none
      let stored := s.debounced
      let survey := s.svy.running
      let chans := s.load.ch.map (fun c => if storm then c.reset.stormOff else c.reset)
      let s := { (s.accAbandon.freshLogic false) with load := { s.load with ch := chans, comp := s.load.comp.map (fun (c : Comp) => { c with latched := false }), cmds := [], held := true, halted := 0 }, light := s.lightHeld, clk := { s.clk with tbSleep := s.now, aonSleep := aon, run := false, lock := false, fallback := false } }
      let s := s.modBoot (fun b => { b.begin false true false 2 with window := window, faults := faults, storm := b.storm || storm, stormStart := storm, resetAt := s.clk.tbSleep, digest := false })
      let s := s.modPwr (fun w => { w with st := .start, pdOn := w.pdOn &&& 0x101, entry := none, woke := none })
      let s := if survey then s else (s.modSvy (fun v => { v with stored := stored })).startSurvey false
      s.phase2

/-- WATCHDOG_RESET (R429). -/
def execWatchdogReset (g : Lapse) (s : State) : Host.Outcome State Fault Refusal :=
  let s := s.pass g
  .next (if s.pd 1 && 7 ≤ s.boot.phase && s.boot.phase ≤ 9 && s.expired s.boot.served 20000000 then s.logicReset 3 else s)

/-- LOGIC_SUPPLY_RESET (R429). -/
def execLogicSupplyReset (g : Lapse) (s : State) : Host.Outcome State Fault Refusal := .next ((s.pass g).logicReset 6)

/-- ACTIVATION_RESET (16 R416): the completion of IMG_ACTIVATE MODE 0 has left, or 2 ms have passed. -/
def execActivationReset (g : Lapse) (s : State) : Host.Outcome State Fault Refusal :=
  let s := s.pass g
  .next (if s.fw.resetAt.isSome then s.logicReset 5 else s)

/-- SUPERVISOR_WATCHDOG_SERVICE (R429). -/
def execSupervisorWatchdogService (g : Lapse) (s : State) : Host.Outcome State Fault Refusal :=
  let s := s.pass g
  .next (if s.pd 1 then s.modBoot (fun b => { b with served := s.now }) else s)

/-- STORM_CLEAR (R433). -/
def execStormClear (g : Lapse) (s : State) : Host.Outcome State Fault Refusal :=
  let s := s.pass g
  .next (if s.boot.storm && 327680 ≤ s.aonSince (s.boot.faults.getLast?.getD 0) then s.modBoot (fun b => { b with storm := false, stormStart := false, faults := [] }) else s)

/-- A write of BOOT_CTRL (R431): a HOLD outside 656 to 32,768 is refused. -/
def State.holdWrite (s : State) (v : Nat) : State :=
  let h := v % 65536
  if 656 ≤ h && h ≤ 32768 then s.modBoot (fun b => { b with hold := h, holdPd0 := h }) else s

/-- BOOT_CTRL_HOLD_WRITE. -/
def execBootCtrlHoldWrite (g : Lapse) (ini : Initiator) (v : Nat) (s : State) : Host.Outcome State Fault Refusal :=
  .next ((s.pass g).openWrite ini 0x40020000 (fun s => s.holdWrite v))

/-! ### The hold window's end (R432) -/

/-- The orphan state of a channel (R432). A DUALFED channel follows the release of 13 R351. -/
def State.orphan (s : State) (n : Nat) : State :=
  let c := s.chan n
  let o := s.pf Pf.chCfg_ORPHAN n
  if s.dualFed n || s.bridgeOdd n then s
  else if o = 0 then s.setChan n (c.gateOff s.now)
  else if o = 1 && !s.bridge n && c.gate = .off && !c.dieTrip && !c.dieLast then s.setChan n { c with gate := .drive c.drive, limit := nominalMa n }
  else s

/-- HOLD_WINDOW_EXPIRY (R432): the window ends before phase 8. -/
def execHoldWindowExpiry (g : Lapse) (s : State) : Host.Outcome State Fault Refusal :=
  let s := s.pass g
  match s.boot.window with
  | some (h, n) =>
    if n ≤ s.aonSince h && s.load.held then
      let took := ((List.range 64).filter (fun c => !s.dualFed c && !s.bridgeOdd c)).length
      let s := (List.range 64).foldl State.orphan s
      .next ({ s with light := s.light.darken }.modBoot (fun b => { b with window := none, expired := true, orphans := took }))
    else .next s
  | none => .next s

/-! ### Adoption (04 R130, 05 R148, R158, 06 R177) -/

/-- Adopted state of a latch, with whether its switches are on (R130). A unit that was pulsing keeps the drive of its on-phase where its
off-phase held the low sides (05 R158; DEDUCED, entry 91). -/
def State.adopted (s : State) (n : Nat) (c : Chan) : Chan × Bool :=
  let pulsing := s.pulsing (s.topOf n)
  let on := fun (d : Drive) => ({ c with st := .on, drive := d, gateAt := s.now, inrEnd := s.now, seed := true }, true)
  if c.dieLast then ({ c with st := .latched, gate := .off }, false)
  else if c.dieTrip then ({ c with st := .retryWait, gate := .off, tripAt := s.now, delay := s.pf Pf.chRetry_DELAY n }, false)
  else match c.gate with
    | .drive d => on (if pulsing then c.drive else d)
    | .brake => if pulsing then on c.drive else ({ c with st := .off, brake := true, seed := true }, true)
    | .off => ({ c with st := .off }, false)

/-- θ seeded for channel i of a unit adopted in a state (R130). -/
def State.seedTheta (s : State) (i : Nat) (st : ChSt) : Rat :=
  match st with
  | .on => 1
  | .off => 0
  | _ => (s.pf Pf.chWire_KTRIP i : Rat) / 16

/-- Adopting the latched state of a channel, or of a bridge with both halves, with its seeded θ; ADOPTED is sent, and kept at a start
(R130), and the composites it changes follow (05 R147). -/
def State.adoptChan (s : State) (kept : Bool) (n : Nat) : State :=
  if s.bridgeOdd n then s
  else
    let s0 := s
    let c := (s.chan n).latch
    let x := s.adopted n c
    let arm := fun (s : State) (i : Nat) (y : Chan) =>
      s.setChan i { y with dieTrip := false, theta := s.seedTheta i x.1.st, inrP := s.inrushP (s.conf i), inrT := s.inrushT (s.conf i), limit := s.ilimOf i }
    let s := arm s n x.1
    let s := if s.bridge n then arm s (n + 1) { ((s.chan (n + 1)).latch) with gate := .off, seed := x.2 } else s
    if x.1.st = .off then s
    else
      let put := fun (s : State) (u code : Nat) (d : List Byte) => if kept then s.keepAt 0 u code s.now d else s.emit 0 u code d
      let code := if x.1.st = .on then 0 else x.1.fault
      (put s n code (class0Detail x.1.st.code 9 (10 * x.1.imeas) (s.tj n) x.1.trans x.1.lasting)).compEventsBy put s0 n n code 9 (10 * x.1.imeas)

/-- Members of a PARALLEL composite that were adopted in different states go off, and the composite waits for its retry (05 R148). -/
def State.evenOut (s : State) (k : Nat) : State :=
  let c := s.compOf k
  let l := c.members.headD 0
  if c.en && c.par && c.members.any (fun m => (s.chan m).st ≠ (s.chan l).st) then
    let code := (c.members.map (fun m => (s.chan m).firstCode)).foldl max 0
    c.members.foldl (fun s m => s.modChan m (fun x => { x.gateOff s.now with st := .retryWait, firstCode := code, tripAt := s.now, delay := s.pf Pf.chRetry_DELAY l, seed := false })) s
  else s

/-- A unit that was pulsing resumes (05 R158): a unit adopted OFF asks for its grant, and each OFF leaf beside leaves that are on asks for its
own. -/
def State.resumePulse (s : State) (g u : Nat) : State :=
  match s.memOf g u with
  | none => s
  | some m =>
    if !m.pulsing then s
    else
      let dr := fun n => if s.bridge n then (if m.dir then Drive.rev else Drive.fwd) else (if (s.chan n).st = .off then Drive.high else (s.chan n).drive)
      let ls := s.leavesOf u
      if ls.all (fun n => (s.chan n).st = .off) then (s.lastCmd u false).unitOn u dr
      else (ls.filter (fun n => (s.chan n).st = .off)).foldl (fun s n =>
        let p := s.leafOn n (dr n)
        if p.2 then p.1.requestFor n .turnOn else p.1) s

/-- Enabled generators start their periods again at a tick (05 R149, R158). -/
def State.restartGens (s : State) (t : Nat) : State :=
  (List.range 16).foldl (fun s g =>
    if s.pb Pf.genCfg_EN g then
      let s := s.setGen g { s.genOf g with en := true, t0 := t, start := t }
      (((s.genOf g).mems.map (·.unit)).foldl (fun s u => s.resumePulse g u) s).beginPeriod g t
    else s) s

/-- Phase 8 (R425): adoption of every channel, and of what is built on them; a GANG composite with a LATCHED leaf is latched again (05 R144,
R148). In a storm every channel is OFF, or LATCHED (R433). -/
def State.adopt (s : State) : State :=
  let s := { s with load := { s.load with held := false } }
  let s := (List.range 64).foldl (State.adoptChan · true) s
  let s := (List.range 32).foldl State.evenOut s
  let s := (List.range 64).foldl (fun s n => if (s.chan n).st = .latched then s.gangLatch n else s) s
  let s := (s.restartGens (s.now + 1)).adoptLight
  s.modBoot (fun b => { b with window := none, adopted := true })

/-! ### Phases (R425 to R428) -/

/-- RECOVERY (R428): PD8, which a reset of the logic die leaves on, goes off with every other domain that is not served. -/
def State.recover (s : State) (err : Nat) : State :=
  let s := s.modBoot (fun b => { b with phase := 15, recovery := true, err := err })
  ((if s.pd 8 then s.lower1 8 else s).raise 0xBC1B).modPwr (fun w => { w with st := .run })

/-- Self-test results (15 R402, R408): BOOT_SELFTEST and `mem.selftest`, and an event of kind 6 for each failure. -/
def State.selfTested (s : State) (failed : List (Nat × Nat × Nat)) : State :=
  let test := failed.foldl (fun (v : Vector SelfTest 74) p => v.setIfInBounds p.1 ⟨2, p.2.1, p.2.2⟩) (Vector.replicate 74 ⟨1, 0, 0⟩)
  let bad := fun (i : Nat) => (test.toList.getD i {}).result = 2
  let cs := (List.range 64).filter (fun n => bad (5 + n))
  let word := flag (bad 0) + maskOf ((List.range 4).filter (fun n => bad (1 + n))) <<< 1 + flag (bad 73) <<< 5
    + maskOf ((List.range 4).filter (fun b => bad (69 + b))) <<< 6 + cs.length <<< 10 + (cs.headD 0) <<< 17 + 1 <<< 31
  let s := { s with mem := { s.mem with test := test } }
  let s := (List.range 73).foldl (fun s i => s.loseMem (ownBase i) (ownSize i)) s
  let s := s.loseMem 0x10800000 0x4000
  let s := s.modBoot (fun b => { b with selftest := word })
  failed.foldl (fun s p =>
    let a := if p.1 < 73 then ownBase p.1 else 0x10800000
    s.memEvent ((regionOf a).getD 0) 6 0 0 1 (a + 8 * p.2.2)) s

/-- The boot ROM chooses a slot (R426): a trial that has begun falls back, unless the start follows a wake. -/
def State.selectSlot (s : State) : State :=
  let n := s.fw.named
  let img := s.fw.slots.toList.getD n {}
  let s := s.modBoot (fun b => { b with hold := b.holdRec, holdPd0 := b.holdRec })
  let s :=
    if s.fw.trial = 1 then
      let s := (s.modSlot n (fun x => { x with st := .trial })).modSlot (1 - n) (fun x => if x.st = .active then { x with st := .previous } else x)
      s.modFw (fun w => { w with run := n, trial := 2, ready := 0, due := w.due ++ [(0, 3, img.version)] })
    else if s.fw.trial = 2 && s.pwr.woke.isNone then
      let s := (s.modSlot n (fun x => { x with st := .invalid })).modSlot (1 - n) (fun x => if x.st = .previous then { x with st := .active } else x)
      let s := s.modFw (fun w => { w with run := 1 - n, named := 1 - n, trial := 0, due := w.due ++ [(0, 5, img.version)] })
      s.modBoot (fun b => { b with slot := 2 })
    else s.modFw (fun w => { w with run := n })
  s.modBoot (fun b => { b with slot := b.slot - (b.slot &&& 1) + s.fw.run })

/-- Phase 5 for the slot taken: its digest and its rollback value (R425); a slot that fails is INVALID, and PREVIOUS is taken (R426). -/
def State.checkSlot5 (s : State) (digestOk : Bool) : State :=
  let n := s.fw.run
  let x := s.image
  let none := x.st = .empty || x.st = .invalid
  let err := if none then 1 else if !digestOk then 2 else if x.rollback < s.fw.rollback then 3 else 0
  if err = 0 then s.modBoot (fun b => { b with phase := 6 })
  else
    let due := s.fw.due.filter (fun d => d.2.1 ≠ 3)
    let s := s.modSlot n (fun y => { y with st := if none then y.st else .invalid })
    let s := s.modFw (fun w => { w with due := if w.trial = 2 then due ++ [(0, 5, x.version)] else w.due, trial := 0 })
    let s := s.modBoot (fun b => { b with slot := b.slot ||| (if none then 0 else 4 <<< n) })
    if (s.fw.slots.toList.getD (1 - n) {}).st = .previous then
      let s := (s.modSlot (1 - n) (fun y => { y with st := .active })).modFw (fun w => { w with run := 1 - n, named := 1 - n })
      s.modBoot (fun b => { b with slot := (b.slot - (b.slot &&& 1) + (1 - n)) ||| 2 })
    else s.recover err

/-- An image that honours no older edition raises the one in force (16 R419). -/
def State.raiseEdition (s : State) : State :=
  if s.pf Pf.atlasBePin_PIN < s.image.beMin then
    let v := s.image.beMin
    let put := fun (s : State) (id : Nat) => (s.setPar id 0 v).setStored id 0 v
    ((put (put s 4) 5)).modFw (fun w => { w with due := w.due ++ [(0, 6, v)] })
  else s

/-- Phase 7 (R425): Atlas on S; working copies, filter lists, operating points, domains, generators, INTLK_CTRL from `twin.cfg` (13 R360)
and MEM_CTRL from `mem.cfg` (15 R408). -/
def State.init (s : State) : State :=
  let work := s.par.stored.foldl (fun l p => kvPut p.1 p.2 l) (s.par.work.filter (fun p => keyPers p.1 = 1))
  let s := { s with par := { s.par with work := work } }
  let s := s.raiseEdition
  let s := s.setPar 0x5001 7 (Pf.twinWindow_LBASE.put 0x3FFF + Pf.twinWindow_EN.put 1 + Pf.twinWindow_TBASE.put 0x4000)
  let s := if (s.mem.test.toList.getD 73 {}).result = 2 then s else s.writeFilters
  let s := s.rebuild
  let s := (s.raise s.runMask).paceRestore.railStart
  let s := s.startCore 0 (ownBase 0)
  let s := if s.load.held then s else s.restartGens s.now
  let s := (s.setCtrl (ctrlOf (s.parOf Pid.twinCfg 0))).memParWritten 0 0 (s.parOf Pid.memCfg 0)
  ((s.modPwr (fun w => { w with st := .run })).modBoot (fun b => { b with served := s.now })).surveyInRun.closeNext

/-- Detail of a class-9 event of this chapter (R436). -/
def State.startDetail (s : State) (value : Nat) : List Byte :=
  leBytes 1 (s.boot.cause % 256) ++ leBytes 1 s.boot.phase ++ leBytes 2 0 ++ leBytes 4 value

/-- Keeping a class-9 event of a start. -/
def State.keepStart (s : State) (code value : Nat) : State := s.keep 9 0 code (s.startDetail value)

/-- READY (R425, R430, R436, 03 R454): the kept events, the agreement, and every event due at READY. -/
def State.becomeReady (s : State) : State :=
  let s := s.modBoot (fun b => { b with phase := 9 })
  let s := { s with atlas := { s.atlas with ready := true, readyAt := s.now } }
  let s := s.tellChanges true (fun s i c t => s.keepAt 4 i c t (inputDetail 1 0))
  let s := if s.boot.restart then s.keepStart 0x10 ((s.now - s.boot.resetAt) / 200000) else s
  let s := if s.boot.expired then s.keepStart 0x11 s.boot.orphans else s
  let s := if s.boot.stormStart then s.keepStart 0x13 s.boot.faults.length else s
  let s := match s.pwr.woke with
    | some (w, d) => s.keep 9 0 2 (leBytes 1 (bitsOf w 12 3) ++ leBytes 1 0 ++ leBytes 1 (w % 256) ++ leBytes 1 (bitsOf w 8 8) ++ leBytes 4 d)
    | none => s
  let s := match s.agr.falseSrc with
    | some c => (s.modAgr (fun a => { a with falseSrc := none })).keep 5 22 0x44 (leBytes 4 1 ++ leBytes 4 c)
    | none => s
  let s := match s.acc.endDue with
    | some v => (s.modAcc (fun a => { a with endDue := none })).keep 6 0xFF 3 (leBytes 4 v ++ leBytes 1 0xFF ++ leBytes 1 s.accFails ++ leBytes 2 0)
    | none => s
  let s := s.fw.due.foldl (fun s d => s.keep 11 d.1 d.2.1 (leBytes 4 d.2.2 ++ leBytes 2 (s.pf Pf.atlasBePin_PIN) ++ leBytes 1 s.fw.run ++ leBytes 1 0)) s
  let s := s.modFw (fun w => { w with due := [] })
  let src := s.pwr.woke.map (fun w => w.1 % 256)
  let s := (s.agrReady src).linAfterWake (src.getD 0)
  s.modPwr (fun w => { w with woke := none })

/-- Phase 7 begins: the supervisor watchdog counts from here (DESIGN CHOICE, entry 105). -/
def State.phase7 (s : State) : State := s.modBoot (fun b => { b with phase := 7, served := s.now })

/-- BOOT_PHASE_ADVANCE (R425): the phase in progress ends with what it found, and the next begins. -/
def execBootPhaseAdvance (g : Lapse) (o : BootObs) (s : State) : Host.Outcome State Fault Refusal :=
  let s := s.pass g
  let ph := s.boot.phase
  .next (State.drained (
    if s.pwr.st = .off || s.pwr.st = .park || s.pwr.st = .dormant then s
    else if ph = 1 then s.phase2
    else if ph = 2 then
      let s := if s.clk.run then s else if o.lock then s.pllLock else s.pllFallback
      s.modBoot (fun b => { b with phase := 3 })
    else if ph = 3 then
      let s := s.selfTested o.failed
      if (s.mem.test.toList.getD 0 {}).result = 2 then s.recover 4 else s.modBoot (fun b => { b with phase := 4 })
    else if ph = 4 then (if s.boot.resume then s.selectSlot.phase7 else s.selectSlot.modBoot (fun b => { b with phase := 5 }))
    else if ph = 5 then s.checkSlot5 o.digestOk
    else if ph = 6 then
      if o.loadOk then ((s.loadImage 0x20000000 0x10000).loadImage 0x10000000 0x800000).phase7
      else s.recover 5
    else if ph = 7 then
      let s := s.init
      if s.boot.restart then s.modBoot (fun b => { b with phase := 8 }) else s.becomeReady
    else if ph = 8 then s.adopt.becomeReady
    else s))

/-! ### Sequencer restarts (R434) -/

/-- A bank is turned off as 07 R213 sets: its low sides and its switch go off, and its coils decay fast. -/
def State.bankOff (s : State) (b : Nat) : State :=
  let s := (s.offOrder b).foldl (fun s v =>
    let st := (s.valve v).st
    let s := s.valveEnd v St.failed (s.valve v).codes
    if st = .latched || st = .off then s else (s.valveDrop v .off (some true)).modValve v (fun x => { x with retry := false, low := false })) s
  s.modBank b (fun k => { k with ptr := 0 })

/-- SEQUENCER_RESTART: Atlas reloads a trapped C or VB core and adopts its channel or bank; the third trap within 10 s leaves it halted. -/
def execSequencerRestart (g : Lapse) (core : Nat) (s : State) : Host.Outcome State Fault Refusal :=
  let s := s.pass g
  match coreOfNo core with
  | some i =>
    if !(isC i || isVb i) || (s.core i).st ≠ .trapped || !s.atlas.ready then .next s
    else
      let traps := s.boot.seqTraps.filter (fun p => p.1 = i && !s.expired p.2 2000000000)
      if 3 ≤ traps.length then
        let s := s.modBoot (fun b => { b with stuck := b.stuck ++ [i] })
        let s := s.haltCore i .halted
        let s := if isC i then (if (s.chan (i - 5)).st = .latched then s else s.dropCh (i - 5) .off none) else s.bankOff (i - 69)
        .next (s.emit 9 core 0x12 (s.startDetail 1))
      else
        let s := (s.loseMem (ownBase i) (ownSize i)).startSeq i
        let s := if isC i then
            let n := i - 5
            let s := { s with load := { s.load with halted := s.load.halted - (s.load.halted &&& (1 <<< n)) } }
            let s := (s.applyRel (.free n (s.inrUj n + (Config.partUj n s.now : Rat)) s.now)).adoptChan false n
            (match s.parentOf n with | some p => s.evenOut (p - 64) | none => s).settle n
          else s.bankOff (i - 69)
        .next (s.emit 9 core 0x12 (s.startDetail 0))
  | none => .next s

end Sys2Proof.Machine
end

