-- ==== Sys2Proof/Machine/Regs.lean ====
section
/-!
DEFINITION. Registers: the session windows of MBX and the host-visible blocks (03 R64 to R69, R95 to R98), PACE, TB, MEM and DMA, and who
may reach which of them (01 R31, 03 R65, 13 R339).
-/
namespace Sys2Proof.Machine

/-! ### Session windows (03 R65 to R68) -/

/-- The session of an initiator's own window (03 R65). -/
def ownSession : Initiator → Option Nat
  | .super => none
  | .applet _ => some 3
  | .bench => some 2
  | .partner => some 1

/-- The unit that a claim of an initiator names. -/
def claimUnit : Initiator → Nat
  | .applet n => n
  | _ => 0

/-- The initiator of a window's commands: session and core. -/
def windowIni (ses org : Fin 4) : Initiator := if ses = 1 then .partner else if ses = 3 then .applet org else .bench

/-- The session whose window holds an MBX offset: a record 1 to 3 or its buffers (03 R65, R67). -/
def mbxWindow (off : Nat) : Option Nat :=
  if 0x140 ≤ off && off < 0x200 then some ((off - 0x100) / 0x40) else if 0x4000 ≤ off then some (off / 0x4000) else none

/-- The unit holds the claim and the buffer is not handed over (03 R67). -/
def SesRec.mayWrite (r : SesRec) (unit : Nat) : Bool := r.owner = unit && !r.busy

/-- A claim: the first wins, and a later one changes nothing (03 R67). -/
def State.mbxClaim (s : State) (ses unit : Nat) : State :=
  s.modSes ses (fun r => if r.owner = 0xF then { r with owner := unit, claimAt := s.now } else r)

/-- A byte of a buffer that nothing has written since its content was discarded has no defined value (entry 8). -/
def State.bufByte (s : State) (cells : List Host.Cell) (o : Nat) : Byte := (kvGet o cells).getD (Config.undefByte s.now (0x40000000 + o))

/-- GO: the buffer's first LEN bytes are handed over (03 R67, R73); response code. -/
def State.mbxGo (s : State) (ses unit : Nat) : State × Nat :=
  let r := s.ses ses
  if !r.mayWrite unit then (s, 3)
  else
    let bs := (List.range r.reqLen).map (fun i => s.bufByte r.buf i)
    (((s.modSes ses (fun r => { r with busy := true })).deliver ses unit bs 0 0 0).mbxEvent ses, 0)

/-- A write into the request buffer (03 R67). -/
def State.mbxPut (s : State) (ses unit o : Nat) (bs : List Byte) : State × Nat :=
  if !(s.ses ses).mayWrite unit then (s, 3) else (s.modSes ses (fun r => { r with buf := putCells r.buf o bs }), 0)

/-- A write of MBX_REQ_LEN (03 R67). -/
def State.mbxLen (s : State) (ses unit n : Nat) : State × Nat :=
  if !(s.ses ses).mayWrite unit then (s, 3) else (s.modSes ses (fun r => { r with reqLen := n % 8192 }), 0)

/-- ACK releases the posted entry and posts the next one (03 R67); in session 3 only for its own core (R68). -/
def State.mbxAck (s : State) (ses unit : Nat) : State × Nat :=
  match (s.ses ses).posted with
  | none => (s, 0)
  | some m =>
    if ses = 3 && m.origin ≠ unit then (s, 3)
    else (((s.modSes ses (fun r => ({ r with posted := none }).post)).mbxEvent ses).drained, 0)

/-- MBX_CTRL.CLRCNT (03 R95): PEAK counts again from the handles now in use. -/
def State.mbxClear (s : State) (mask : Nat) : State :=
  (bitList 4 mask).foldl (fun s i => s.modSes i (fun r => { r with errFormat := 0, errCrc := 0, evLost := 0, dup := 0, peak := s.handleCount i })) s

/-- A W1C write of MBX_IRQ_STAT (03 R95). -/
def State.mbxIrqClear (s : State) (ses mask : Nat) : State := s.modSes ses (fun r => { r with irqStat := r.irqStat - (r.irqStat &&& mask) })

/-- Milliseconds until the session closes, rounded up; 0 when closed (03 R95). -/
def State.sesLeft (s : State) (i : Nat) : Nat :=
  let r := s.ses i
  if r.isOpen then min 0xFFFF (ceilDiv (r.lastReq + msTk (s.pf Pf.atlasSessionTimeout_TMO) - s.now) 200000) else 0

/-- An enabled bit of MBX_IRQ_STAT is set (03 R95). -/
def SesRec.irq (r : SesRec) : Bool := r.irqStat &&& r.irqEn ≠ 0

/-- Level of the open-drain land BENCH_IRQ_N: false is driven low (03 R67). -/
def State.benchIrqN (s : State) : Bool := !(s.pd 3 && (s.ses 2).irq)

/-- A register of a session record (03 R95); that of session 0 has no buffer registers. -/
def State.sesReg (s : State) (i r : Nat) : Option Nat :=
  let x := s.ses i
  if r ≤ 0x14 && i = 0 then some 0
  else if r = 0x00 then some 0
  else if r = 0x04 then some x.reqLen
  else if r = 0x08 then some (flag x.busy + x.owner <<< 4)
  else if r = 0x0C then some (match x.posted with | some m => 16 + m.payload.length | none => 0)
  else if r = 0x10 then some (flag x.posted.isSome + (match x.posted with | some m => if i = 3 then m.origin <<< 1 else 0 | none => 0) + x.queue.length <<< 8)
  else if r = 0x14 then some 0
  else if r = 0x18 then some x.irqEn
  else if r = 0x1C then some x.irqStat
  else if r = 0x20 then some (s.handleCount i + x.peak <<< 16)
  else if r = 0x24 then some (x.errFormat + x.errCrc <<< 8 + x.evLost <<< 16 + x.dup <<< 24)
  else if r = 0x28 then some (x.seqLast + (x.evSeq.toList.getD (if i = 3 then x.owner % 4 else 0) 0) <<< 16)
  else if r = 0x2C then some (s.sesLeft i)
  else none

/-- Bytes of a response buffer: the posted entry; the rest has no defined value (entry 8). -/
def State.rspByte (s : State) (ses o : Nat) : Byte :=
  match (s.ses ses).posted with
  | some m => m.bytes.getD o (Config.undefByte s.now (0x40002000 + o))
  | none => Config.undefByte s.now (0x40002000 + o)

/-! ### Register values -/

/-- MBX (03 R95). -/
def State.mbxReg (s : State) (off : Nat) : Option Nat :=
  if off = 0 then some 0
  else if off = 4 then some (flag s.atlas.ready + (maskOf ((List.range 4).filter (fun i => (s.ses i).isOpen))) <<< 1)
  else if off = 8 then some (maskOf ((List.range 4).filter (fun i => (s.ses i).irq)))
  else if 0x100 ≤ off && off < 0x200 then s.sesReg ((off - 0x100) / 0x40) (off % 0x40)
  else if 0x4000 ≤ off then
    let ses := off / 0x4000
    let o := off % 0x4000
    some (leVal ((List.range 4).map (fun i => if o < 0x2000 then s.bufByte (s.ses ses).buf (o + i) else s.rspByte ses (o - 0x2000 + i))))
  else none

/-- The 16 words of IDN (03 R96). -/
def State.idnWords (s : State) : List Nat :=
  [0x34365A41, 0xA14D, uidWord 0, uidWord 1, uidWord 2, uidWord 3, s.ie, s.be]
  ++ [s.image.beMin + s.image.beMax <<< 16, s.image.version, s.fw.run + 2 * flag s.otherOk, s.fw.rollback,
   s.pf Pf.atlasFleetCommitted_FLEET, flag s.il.twinId + 2 * flag s.twin.seen, (Config.fused 4).toNat, (Config.fused 5).toNat]

/-- AON ticks left in the hold window (17 R438). -/
def State.holdLeft (s : State) : Nat := match s.boot.window with | some (t, n) => n - s.aonSince t | none => 0

/-- BOOT (17 R438). The cause and its history are shown from phase 4 on (03 R98, 17 R429). -/
def State.bootReg (s : State) (off : Nat) : Option Nat :=
  let b := s.boot
  if off = 0x00 then some b.hold
  else if off = 0x04 then some (flag b.cold + 2 * flag b.window.isSome + 4 * flag b.adopted + 8 * flag b.expired + 16 * flag b.recovery + 32 * flag b.storm + 64 * flag s.inTrial + b.resets <<< 16)
  else if off = 0x08 then some b.phase
  else if off = 0x0C then some (if b.phase < 4 then 0 else b.cause)
  else if 0x10 ≤ off && off < 0x30 && off % 4 = 0 then some (if b.phase < 4 then 0 else b.hist.toList.getD ((off - 0x10) / 4) 0)
  else if off = 0x30 then some b.slot
  else if off = 0x34 then some b.err
  else if off = 0x38 then some s.holdLeft
  else if off = 0x3C then some b.selftest
  else none

/-- A register of a core's debug record (14 R387). -/
def State.dbgCoreReg (s : State) (k r : Nat) : Option Nat :=
  let d := s.dbgCore k
  let c := s.core k
  if r = 0x00 then some d.ctrl
  else if r = 0x04 then some (flag (c.st = .halted || c.st = .trapped) + 2 * flag (c.st = .waiting) + 4 * flag (c.st = .trapped) + 8 * flag (k = 0 && c.masked) + c.slots <<< 4)
  else if r = 0x08 then some c.pc
  else if r = 0x0C then some d.trap
  else if r = 0x10 then some d.brk0
  else if r = 0x14 then some d.brk1
  else if r = 0x18 then some 0
  else none

/-- DBG (03 R97). -/
def State.dbgReg (s : State) (off : Nat) : Option Nat :=
  let d := s.dbg
  if off = 0x00 then some (d.ferrCode + 8 * flag d.ferrValid + d.ferrPort <<< 4)
  else if off = 0x04 then some d.ferrAddr
  else if off = 0x08 then some d.ferrCnt
  else if off = 0x0C then some 0
  else if 0x10 ≤ off && off < 0x2C && off % 4 = 0 then some (d.codeCnt.toList.getD ((off - 0x10) / 4 + 1) 0)
  else if 0x40 ≤ off && off < 0x64 && off % 4 = 0 then some (d.portCnt.toList.getD ((off - 0x40) / 4) 0)
  else if off = 0x80 then some (flag d.locked)
  else if 0x100 ≤ off && off < 0x1A0 then s.dbgCoreReg ((off - 0x100) / 0x20) (off % 0x20)
  else none

/-- INTLK (13 R360). -/
def State.ilReg (s : State) (off : Nat) : Option Nat :=
  let x := s.il
  if off = 0x00 then some (x.role + 8 * flag x.line + 16 * flag x.pull + 32 * flag s.twin.up + 64 * flag x.holdoff.isSome)
  else if off = 0x04 then some x.ctrl
  else if off = 0x08 then some (x.cause + x.run <<< 8 + x.firstCh <<< 16)
  else if off = 0x0C then some (flag x.proofOn + 2 * flag x.back + x.result <<< 2 + (min 255 x.proofCnt) <<< 8)
  else if off = 0x10 then some x.err
  else if off = 0x14 then some (x.switches + x.proofs <<< 16)
  else if off = 0x18 then some x.mismatch
  else if off = 0x1C then some x.compared
  else if off = 0x20 then some x.gapLast
  else if off = 0x24 then some x.gapMax
  else if off = 0x28 then some (x.lastTs % 2 ^ 32)
  else if off = 0x2C then some (x.lastTs / 2 ^ 32 % 2 ^ 32)
  else if off = 0x30 then some (x.partnerBe + flag x.beValid <<< 16)
  else none

/-- A word of a Legend record (09 R252). -/
def LgdRec.reg (r : LgdRec) (i : Nat) : Nat := [r.word, r.detail, r.ts % 2 ^ 32, r.ts / 2 ^ 32].getD i 0

/-- LGD (09 R252). -/
def State.lgdReg (s : State) (off : Nat) : Option Nat :=
  if off = 0x00 then some (2 * flag s.lgd.freeze)
  else if off = 0x04 then some (s.lgd.wakes + s.lgd.falses <<< 16)
  else if 0x08 ≤ off && off < 0x18 && off % 4 = 0 then some (s.lgd.last.reg ((off - 8) / 4))
  else if 0x20 ≤ off && off < 0xA0 && off % 4 = 0 then some ((s.lgd.hist.toList.getD ((off - 0x20) / 16) {}).reg (off % 16 / 4))
  else none

/-- PACE: records of the domains of R47 (02 R54). -/
def State.paceReg (s : State) (off : Nat) : Option Nat :=
  let p := (off - 0x100) / 0x20
  let r := s.paceOf p
  if off < 0x100 || 0x300 ≤ off || !paced p then none
  else if off % 0x20 = 0x00 then some r.opreq
  else if off % 0x20 = 0x04 then some r.vsel
  else if off % 0x20 = 0x08 then some r.cap
  else if off % 0x20 = 0x0C then some (r.opCur + 4 * flag r.settled + 8 * flag r.busy + 16 * flag r.droop + r.capWin <<< 8)
  else if off % 0x20 = 0x10 then some r.err
  else if off % 0x20 = 0x14 then some r.droopCnt
  else none

/-- TB, as a crossbar port reads it (02 R55, R57). -/
def State.tbReg (s : State) (port off : Nat) : Option Nat :=
  let c := s.clk
  if off = 0x00 then some (c.tb % 2 ^ 32)
  else if off = 0x04 then some (c.nowHi.toList.getD port 0)
  else if off = 0x08 then some (flag c.lock + 2 * flag c.fallback + 4 * flag c.resumed + 8 * flag c.calValid)
  else if off = 0x0C then some c.aonCal
  else if off = 0x10 then some (c.aon % 2 ^ 32)
  else if off = 0x14 then some (c.aonHi.toList.getD port 0)
  else none

/-- MEM (15 R407). -/
def State.memReg (s : State) (off : Nat) : Option Nat :=
  let m := s.mem
  let cnt := m.cnt.toList.getD ((off - 0x40) / 8) {}
  if off = 0x00 then some m.ctrl
  else if off = 0x04 then some m.scrub
  else if off = 0x08 then some (flag m.scrubF)
  else if off = 0x0C then some m.lap
  else if off = 0x10 then some m.flipLo
  else if off = 0x14 then some m.flipHi
  else if off = 0x18 then some (m.flip + flag m.arm <<< 13 + flag m.done <<< 14)
  else if off = 0x1C then some m.flipAt
  else if off = 0x20 then some m.errInfo
  else if off = 0x24 then some m.errAddr
  else if off = 0x28 then some 0
  else if 0x40 ≤ off && off < 0xA0 && off % 8 = 0 then some (cnt.cet + cnt.cel <<< 16)
  else if 0x40 ≤ off && off < 0xA0 && off % 8 = 4 then some (cnt.uet + cnt.uel <<< 16)
  else none

/-- DMA_STAT (15 R406). -/
def DmaCh.stat (c : DmaCh) : Nat := c.st + c.code <<< 2 + 32 * flag c.stopped + c.starter <<< 8

/-- DMA (15 R406). -/
def State.dmaReg (s : State) (off : Nat) : Option Nat :=
  let c := s.dmaOf ((off - 0x100) / 0x20)
  if off < 0x100 || 0x500 ≤ off then none
  else if off % 0x20 = 0x00 then some c.cur
  else if off % 0x20 = 0x04 then some c.stat
  else if off % 0x20 = 0x08 then some c.errAddr
  else if off % 0x20 = 0x0C then some c.left
  else none

/-- The 32-bit register at an address; none where the manual assigns none (01 R27). -/
def State.regAt (s : State) (port a : Nat) : Option Nat :=
  let off := a % 0x10000
  if a / 0x10000 = 0x4000 then s.mbxReg off
  else if a / 0x10000 = 0x4001 then s.idnWords[off / 4]?
  else if a / 0x10000 = 0x4002 then s.bootReg off
  else if a / 0x10000 = 0x4003 then s.dbgReg off
  else if a / 0x10000 = 0x4004 then s.ilReg off
  else if a / 0x10000 = 0x4005 then s.lgdReg off
  else if a / 0x10000 = 0x4006 then s.paceReg off
  else if a / 0x10000 = 0x4007 then s.tbReg port off
  else if a / 0x10000 = 0x4009 then s.memReg off
  else if a / 0x10000 = 0x400A then s.dmaReg off
  else none

/-! ### Rights -/

/-- The response code of a peripheral access that is not let through (01 R24, R27, R31, 03 R65, R67, R68, 13 R339). -/
def State.regDenied (s : State) (ini : Initiator) (a : Nat) (write : Bool) : Option Nat :=
  match blockAt a with
  | none => some 1
  | some (_, _, p, visible) =>
    let off := a % 0x10000
    let mbx : Bool := a / 0x10000 = 0x4000
    let intlk : Bool := a / 0x10000 = 0x4004
    let win := if mbx then mbxWindow off else none
    if !s.pd p || s.fab.closed.testBit p then some 2
    else
      match win with
      | some w =>
        if ownSession ini ≠ some w then some 3
        else if 0x4000 ≤ off && 0x2000 ≤ off % 0x4000 && write then some 5
        else if w = 3 && 0x4000 ≤ off && 0x2000 ≤ off % 0x4000 && ((s.ses 3).posted.map (fun m => decide (m.origin ≠ claimUnit ini))).getD false then some 3
        else none
      | none =>
        match ini with
        | .super => none
        | .applet _ => some 3
        | .bench => if visible then none else some 3
        | .partner => if visible && !(write && (mbx || intlk)) then none else some 3

/-! ### Reads -/

/-- Reading 32 bits: value, and the latch of the time base for the reading port (02 R55, R57). -/
def State.regRead32 (s : State) (port a : Nat) : State × Option Nat :=
  let s' := if a = 0x40070000 then s.latchNow port else if a = 0x40070010 then s.latchAon port else s
  (s', s.regAt port a)

/-- A read of a peripheral: code and data (01 R27, 02 R36, R37). A read of the 64-bit time base takes it whole (02 R55). -/
def State.regRead (s : State) (ini : Initiator) (port a size : Nat) : State × Nat × Nat :=
  match s.regDenied ini a false with
  | some c => (s, c, 0)
  | none =>
    if size = 8 then
      if a = 0x40070000 then (s, 0, s.now % 2 ^ 64)
      else
        let (s1, lo) := s.regRead32 port a
        let (s2, hi) := s1.regRead32 port (a + 4)
        match lo, hi with
        | some l, some h => (s2, 0, l + h * 2 ^ 32)
        | _, _ => (s, 1, 0)
    else
      let (s1, v) := s.regRead32 port (a / 4 * 4)
      match v with
      | some x => (s1, 0, bitsOf x (8 * (a % 4)) (8 * size))
      | none => (s, 1, 0)

/-! ### Writes -/

/-- A write of a session record (03 R67, R95). -/
def State.sesWrite (s : State) (i unit r v : Nat) : State × Nat :=
  if i = 0 then (s, 0)
  else if r = 0x00 then (if v.testBit 0 then s.mbxGo i unit else (s, 0))
  else if r = 0x04 then s.mbxLen i unit v
  else if r = 0x08 then ((if v.testBit 1 then s.mbxClaim i unit else s), 0)
  else if r = 0x14 then (if v.testBit 0 then s.mbxAck i unit else (s, 0))
  else if r = 0x18 then ((s.modSes i (fun x => { x with irqEn := v % 8 })).mbxEvent i, 0)
  else if r = 0x1C then (s.mbxIrqClear i v, 0)
  else (s, 0)

/-- DBG_CORE_CTRL (14 R387): HALTREQ halts a running core at the word boundary where it stands, a waiting one after its wait; clearing it
resumes a core that the debugger halted. -/
def State.dbgCtrl (s : State) (k v : Nat) : State :=
  let was := (s.dbgCore k).ctrl
  let s := s.modDbgCore k (fun d => { d with ctrl := v % 16 })
  let c := s.core k
  if v.testBit 0 && c.st = .running then s.debugHalt k
  else if was.testBit 0 && !v.testBit 0 && c.st = .halted && c.stepped then s.modCore k (fun c => { c with st := .running, stepped := false, busyAt := s.now })
  else s

/-- DBG_CORE_STEP (14 R387): a halted core runs its next word as a step. -/
def State.dbgStep (s : State) (k : Nat) : State :=
  if (s.core k).st = .halted then s.modCore k (fun c => { c with st := .running, stepped := true }) else s

/-- A write of a core's debug record; DENIED while locked (03 R97, 14 R387). -/
def State.dbgCoreWrite (s : State) (k r v : Nat) : State × Nat :=
  if s.dbg.locked then (s, 3)
  else if r = 0x00 then (s.dbgCtrl k v, 0)
  else if r = 0x10 then (s.modDbgCore k (fun d => { d with brk0 := v / 4 * 4 % 2 ^ 32 }), 0)
  else if r = 0x14 then (s.modDbgCore k (fun d => { d with brk1 := v / 4 * 4 % 2 ^ 32 }), 0)
  else if r = 0x18 then ((if v.testBit 0 then s.dbgStep k else s), 0)
  else (s, 0)

/-- DBG_CLR.RECORD and DBG_CLR.COUNTS (03 R97). -/
def State.dbgClrRecord (s : State) : State := { s with dbg := { s.dbg with ferrCode := 0, ferrValid := false, ferrPort := 0, ferrAddr := 0 } }
def State.dbgClrCounts (s : State) : State :=
  { s with dbg := { s.dbg with ferrCnt := 0, codeCnt := Vector.replicate 8 0, portCnt := Vector.replicate 9 0 } }

/-- LGD_CTRL (09 R252). -/
def State.lgdCtrl (s : State) (v : Nat) : State :=
  let s := if v.testBit 0 then s.lgdClear else s
  { s with lgd := { s.lgd with freeze := v.testBit 1 } }

/-- A write of a MEM register (15 R403, R407). A GAP or LAPMAX outside its range keeps the earlier value (00 R19). -/
def State.memWriteReg (s : State) (off v : Nat) : State :=
  let keep := fun (lo w a b : Nat) => if a ≤ bitsOf v lo w && bitsOf v lo w ≤ b then bitsOf v lo w else bitsOf s.mem.ctrl lo w
  if off = 0x00 then { s with mem := { s.mem with ctrl := v % 2 + (keep 4 14 100 10000) <<< 4 + (keep 18 8 1 255) <<< 18 } }
  else if off = 0x04 then { s with mem := { s.mem with scrub := v % 2 ^ 32 } }
  else if off = 0x08 then { s with mem := { s.mem with scrubF := v.testBit 0 } }
  else if off = 0x10 then { s with mem := { s.mem with flipLo := v % 2 ^ 32 } }
  else if off = 0x14 then { s with mem := { s.mem with flipHi := v % 2 ^ 32 } }
  else if off = 0x18 then
    let s := s.setFlip v
    if v.testBit 14 then { s with mem := { s.mem with done := false } } else s
  else if off = 0x28 then
    let s := if v.testBit 0 then { s with mem := { s.mem with errInfo := 0, errAddr := 0 } } else s
    if v.testBit 1 then s.clearMemCounts else s
  else s

/-- A write of a PACE register (02 R51, R52, R54). -/
def State.paceRegWrite (s : State) (off v : Nat) : State :=
  let p := (off - 0x100) / 0x20
  if off % 0x20 = 0x00 then s.modPace p (fun r => r.opReq (v % 4))
  else if off % 0x20 = 0x04 then s.modPace p (fun r => r.vWrite (v % 4))
  else if off % 0x20 = 0x08 then s.modPace p (fun r => r.capWrite (v % 4))
  else if off % 0x20 = 0x10 then s.modPace p (fun r => r.errClear v)
  else s

/-- Writing 32 bits of a register that is assigned and may be reached: code. Read-only registers ignore the write (00 R15). -/
def State.regWrite32 (s : State) (ini : Initiator) (a v : Nat) : State × Nat :=
  let off := a % 0x10000
  if a / 0x10000 = 0x4000 then
    if off = 0 then (s.mbxClear v, 0)
    else if 0x100 ≤ off && off < 0x200 then s.sesWrite ((off - 0x100) / 0x40) (claimUnit ini) (off % 0x40) v
    else (s, 0)
  else if a / 0x10000 = 0x4002 then ((if off = 0 then s.holdWrite v else s), 0)
  else if a / 0x10000 = 0x4003 then
    if off = 0x0C then
      let s := if v.testBit 0 then s.dbgClrRecord else s
      ((if v.testBit 1 then s.dbgClrCounts else s), 0)
    else if 0x100 ≤ off then s.dbgCoreWrite ((off - 0x100) / 0x20) (off % 0x20) v
    else (s, 0)
  else if a / 0x10000 = 0x4004 then
    ((if off = 0x04 then s.setCtrl v else if off = 0x0C then s.proofWrite v else if off = 0x10 then s.ilErrClear v else s), 0)
  else if a / 0x10000 = 0x4005 then ((if off = 0 then s.lgdCtrl v else s), 0)
  else if a / 0x10000 = 0x4006 then (s.paceRegWrite off v, 0)
  else if a / 0x10000 = 0x4009 then (s.memWriteReg off v, 0)
  else (s, 0)

/-- Bits of a register that a write of a part of it leaves as they are: its RW fields. -/
def rwBits (a : Nat) : Nat :=
  let off := a % 0x10000
  if a / 0x10000 = 0x4000 then (if off % 0x40 = 0x04 then 0x1FFF else if off % 0x40 = 0x18 then 7 else 0)
  else if a / 0x10000 = 0x4002 then (if off = 0 then 0xFFFF else 0)
  else if a / 0x10000 = 0x4003 then (if off % 0x20 = 0 then 0xF else if off % 0x20 = 0x10 || off % 0x20 = 0x14 then 0xFFFFFFFC else 0)
  else if a / 0x10000 = 0x4004 then (if off = 4 then 7 else if off = 0x0C then 2 else 0)
  else if a / 0x10000 = 0x4005 then (if off = 0 then 2 else 0)
  else if a / 0x10000 = 0x4006 then (if off % 0x20 ≤ 8 then 3 else 0)
  else if a / 0x10000 = 0x4009 then
    (if off = 0 then 0x3FFFFF1 else if off = 4 || off = 0x10 || off = 0x14 then 0xFFFFFFFF else if off = 8 then 1 else if off = 0x18 then 0x3FFF else 0)
  else 0

/-- Writing a register with 8, 16 or 32 bits. -/
def State.regWritePart (s : State) (ini : Initiator) (a size v : Nat) : State × Nat :=
  let b := a / 4 * 4
  match s.regAt 0 b with
  | none => (s, 1)
  | some old =>
    let lane := 8 * (a % 4)
    let mask := (2 ^ (8 * size) - 1) <<< lane
    let kept := old &&& rwBits b
    s.regWrite32 ini b ((v % 2 ^ (8 * size)) <<< lane + (kept - (kept &&& mask)))

/-- A write of a peripheral: code (01 R27, 02 R36). A refused write changes nothing. -/
def State.regWrite (s : State) (ini : Initiator) (a size v : Nat) : State × Nat :=
  match s.regDenied ini a true with
  | some c => (s, c)
  | none =>
    if a / 0x10000 = 0x4000 && 0x4000 ≤ a % 0x10000 then
      s.mbxPut (a % 0x10000 / 0x4000) (claimUnit ini) (a % 0x4000) (leBytes size v)
    else if size = 8 then
      if (s.regAt 0 a).isNone || (s.regAt 0 (a + 4)).isNone then (s, 1)
      else
        let (s1, c1) := s.regWrite32 ini a (v % 2 ^ 32)
        if c1 ≠ 0 then (s, c1)
        else
          let (s2, c2) := s1.regWrite32 ini (a + 4) (v / 2 ^ 32 % 2 ^ 32)
          if c2 ≠ 0 then (s, c2) else (s2, 0)
    else s.regWritePart ini a size v

/-! ### The commands of single registers -/

/-- A register write of an initiator over its own way: an error response is recorded (02 R38). Without PD3 nothing happens. -/
def State.regCmd (s : State) (ini : Initiator) (a size v : Nat) : State :=
  if !s.pd 3 then s
  else
    let (s', c) := s.regWrite ini a size v
    if c = 0 then s' else s'.accessErr ini c a

/-- Address of a session record's register. -/
def sesAddr (ses r : Nat) : Nat := 0x40000100 + 0x40 * ses + r

/-- MBX_CLAIM (03 R67). -/
def execMbxClaim (g : Lapse) (ses org : Fin 4) (s : State) : Host.Outcome State Fault Refusal :=
  .next ((s.pass g).regCmd (windowIni ses org) (sesAddr ses 8) 4 2)

/-- REQUEST_BUFFER_WRITE (03 R67): the bytes one by one, or MBX_REQ_LEN; session 0 has no window. -/
def execRequestBufferWrite (g : Lapse) (ses org : Fin 4) (w : BufWrite) (s : State) : Host.Outcome State Fault Refusal :=
  let s := s.pass g
  let ini := windowIni ses org
  .next (
    match w with
    | .len n => s.regCmd ini (sesAddr ses 4) 4 n
    | .bytes off data =>
      if !s.pd 3 || data.isEmpty then s
      else
        let a := 0x40000000 + 0x4000 * ses + off
        if s.portClosed a then s.accessErr ini 2 a
        else if ses = 0 then s.accessErr ini 1 a
        else if 0x2000 ≤ off then s.accessErr ini 5 a
        else
          let (s', c) := s.mbxPut ses (claimUnit ini) off (data.take (0x2000 - off))
          if c = 0 then s' else s'.accessErr ini c a)

/-- MBX_DOORBELL_GO (03 R67). -/
def execMbxDoorbellGo (g : Lapse) (ses org : Fin 4) (s : State) : Host.Outcome State Fault Refusal :=
  .next ((s.pass g).regCmd (windowIni ses org) (sesAddr ses 0) 4 1)

/-- CLAIM_TIMEOUT: a claim without GO for 20,000,000 tk (03 R67). -/
def execClaimTimeout (g : Lapse) (ses : Fin 4) (s : State) : Host.Outcome State Fault Refusal :=
  let s := s.pass g
  let r := s.ses ses
  .next (if r.owner ≠ 0xF && !r.busy && s.expired r.claimAt 20000000 then (s.modSes ses SesRec.unclaim).mbxEvent ses else s)

/-- MBX_RSP_ACK (03 R67, R68). -/
def execMbxRspAck (g : Lapse) (ses org : Fin 4) (s : State) : Host.Outcome State Fault Refusal :=
  .next ((s.pass g).regCmd (windowIni ses org) (sesAddr ses 0x14) 4 1)

/-- MBX_CTRL_CLRCNT (03 R95). -/
def execMbxCtrlClrcnt (g : Lapse) (ini : Initiator) (mask : Nat) (s : State) : Host.Outcome State Fault Refusal :=
  .next ((s.pass g).regCmd ini 0x40000000 4 mask)

/-- MBX_IRQ_STAT_CLEAR (03 R95). -/
def execMbxIrqStatClear (g : Lapse) (ses org : Fin 4) (mask : Nat) (s : State) : Host.Outcome State Fault Refusal :=
  .next ((s.pass g).regCmd (windowIni ses org) (sesAddr ses 0x1C) 4 mask)

/-- DBG_CLR_RECORD (03 R97). -/
def execDbgClrRecord (g : Lapse) (ini : Initiator) (s : State) : Host.Outcome State Fault Refusal :=
  .next ((s.pass g).regCmd ini 0x4003000C 4 1)

/-- DBG_CLR_COUNTS (03 R97). -/
def execDbgClrCounts (g : Lapse) (ini : Initiator) (s : State) : Host.Outcome State Fault Refusal :=
  .next ((s.pass g).regCmd ini 0x4003000C 4 2)

/-- DBG_HALTREQ (14 R387): a write of DBG_CORE_CTRL. -/
def execDbgHaltreq (g : Lapse) (ini : Initiator) (k : Fin 5) (v : Nat) (s : State) : Host.Outcome State Fault Refusal :=
  .next ((s.pass g).regCmd ini (0x40030100 + 0x20 * k) 4 v)

/-- REGISTER_WRITE (00 R15): a 32-bit write. -/
def execRegisterWrite (g : Lapse) (ini : Initiator) (addr v : Nat) (s : State) : Host.Outcome State Fault Refusal :=
  let s := s.pass g
  .next (if !s.pd 3 then s
    else if addr % 4 ≠ 0 then s.accessErr ini 4 addr
    else if 0x40000000 ≤ addr && addr < 0x50000000 then s.regCmd ini addr 4 v
    else s)

end Sys2Proof.Machine
end

