-- ==== Sys2Proof/Machine/Fabric.lean ====
section
/-!
DEFINITION. Fabric accesses: who may reach what, the target's answer, the response and its timeout (01 R26 to R31, 02 R36 to R43, 14 R382,
15 R390, R398), and the inbound master of the twin bridge (13 R337 to R346).
-/
namespace Sys2Proof.Machine

/-! ### Initiators and rights -/

/-- The initiator behind a crossbar port and unit (01 R33); a DMA channel acts for the core that started it (15 R390, R405). The data paths
of port 6 and the target ports are none. -/
def State.initiator (s : State) (r : FabReq) : Option Initiator :=
  let applet := fun (n : Nat) => if h : n < 4 then some (Initiator.applet ⟨n, h⟩) else none
  if r.port = 0 then some .super
  else if r.port = 1 then applet r.unit
  else if r.port = 2 then
    let k := (s.dmaOf r.unit).starter
    if k = 0 then some .super else applet (k - 1)
  else if r.port = 7 then some .partner
  else none

/-- An A core's grant covers a page of system SRAM (14 R383, R388). -/
def State.pageGranted (s : State) (n a : Nat) (write : Bool) : Bool :=
  let p := (a - 0x10000000) / 4096
  (List.range 32).any (fun i =>
    s.pf Pf.appGrant_KIND n i = 8 && s.pf Pf.appGrant_FIRST n i ≤ p && p ≤ s.pf Pf.appGrant_LAST n i && (!write || s.pb Pf.appGrant_WR n i))

/-- An inbound range of the partner covers a page of system SRAM (13 R338, R339). -/
def State.inboundOk (s : State) (a : Nat) (write : Bool) : Bool :=
  let p := (a - 0x10000000) / 4096
  (List.range 4).any (fun i =>
    s.pb Pf.twinInbound_EN 0 i && s.pf Pf.twinInbound_BASE 0 i ≤ p && p ≤ s.pf Pf.twinInbound_BASE 0 i + s.pf Pf.twinInbound_SIZE 0 i
      && (!write || s.pb Pf.twinInbound_WR 0 i))

/-- An access to a memory that its initiator may make (01 R31, 13 R339, 14 R382, 15 R390). -/
def State.memAllowed (s : State) (r : FabReq) : Bool :=
  match s.initiator r with
  | some .super => true
  | some (.applet n) => (regionOf r.addr = some 0 && s.pageGranted n r.addr r.write) || (r.port = 2 && regionOf r.addr = some (3 + n))
  | some .partner => regionOf r.addr = some 0 && s.inboundOk r.addr r.write
  | some .bench => false
  | none => r.port = 6 && (regionOf r.addr = some 0 || regionOf r.addr = some 1)

/-- What a target answers, with its effect: code and data (02 R36, R37, 01 R27, R28). Port 2 may not use session 3 for an application core
(03 R65). -/
def State.target (s : State) (r : FabReq) : State × Nat × Nat :=
  if !aligned r.addr r.size then (s, 4, 0)
  else
    match addrDomain r.addr with
    | none => (s, 1, 0)
    | some p =>
      if !s.pd p || s.fab.closed.testBit p then (s, 2, 0)
      else if inTwin r.addr then (s, 3, 0)
      else if 0x40000000 ≤ r.addr && r.addr < 0x50000000 then
        match s.initiator r with
        | none => (s, 3, 0)
        | some ini =>
          if r.excl || (r.port = 2 && (match ini with | .applet _ => true | _ => false)) then (s, 3, 0)
          else if r.write then
            let (s, c) := s.regWrite ini r.addr r.size r.data
            (s, c, 0)
          else s.regRead ini r.port r.addr r.size
      else if !s.memAllowed r || (r.excl && regionOf r.addr ≠ some 0) then (s, 3, 0)
      else if r.write && (regionOf r.addr = some 9 || regionOf r.addr = some 10) then (s, 5, 0)
      else if regionOf r.addr = some 0 then s.sramAccess r
      else if r.write then
        let (s, c) := s.memWrite r.port r.addr r.size r.data
        (s, c, 0)
      else s.memRead r.port r.addr r.size

/-! ### The arbiter (02 R40 to R45) -/

/-- A code that a request gets on the way, before it is at any target (02 R36, R37, R40). -/
def State.earlyCode (s : State) (r : FabReq) : Option Nat :=
  if !aligned r.addr r.size then some 4
  else
    match addrDomain r.addr with
    | none => some 1
    | some p => if !s.pd p || s.fab.closed.testBit p then some 2 else none

/-- Two requests of one initiator whose order the fabric keeps: in one doubleword, or to one peripheral block (02 R41). -/
def keepsOrder (a b : FabReq) : Bool :=
  a.port = b.port && a.unit = b.unit && (a.addr / 8 = b.addr / 8 || ((blockAt a.addr).isSome && blockAt a.addr = blockAt b.addr))

/-- The partner's lock holds a request to system SRAM back (13 R346). -/
def State.lockHolds (s : State) (r : FabReq) : Bool := s.twin.lock.isSome && r.port ≠ 7 && regionOf r.addr = some 0 && s.memAllowed r

/-- Nothing issued before request i must end before it (02 R41). -/
def State.firstOfOrder (s : State) (i : Nat) (r : FabReq) (ended : FabEntry → Bool) : Bool :=
  (s.fab.inflight.take i).all (fun x => ended x || !keepsOrder x.req r)

/-- A request has reached its target and come back with an answer. -/
def FabEntry.served (e : FabEntry) : Bool := match e.ans with | .answered .. => true | _ => false

/-- The requests that the crossbar may serve, with their places in the list: those stamped before now, or all of them. -/
def State.readyReqs (s : State) (all : Bool) : List (Nat × FabEntry) :=
  (s.fab.inflight.zipIdx).filterMap (fun p =>
    if p.1.ans = .waiting && (all || p.1.stamp < s.now) && !s.lockHolds p.1.req && s.firstOfOrder p.2 p.1.req FabEntry.served then some (p.2, p.1) else none)

/-- What decides between requests, first to last: the stamp, the port, the unit, at port 2 from the rotation pointer on (02 R43 to R45). -/
def FabEntry.sooner (ptr : Nat) (a b : FabEntry) : Bool :=
  let key := fun (e : FabEntry) => if e.req.port = 2 then (e.req.unit + 32 - ptr) % 32 else e.req.unit
  decide (a.stamp < b.stamp) || (a.stamp = b.stamp && (decide (a.req.port < b.req.port) || (a.req.port = b.req.port && decide (key a < key b))))

/-- The request that is served next. -/
def pickReq (ptr : Nat) : List (Nat × FabEntry) → Option (Nat × FabEntry)
  | [] => none
  | p :: l =>
    match pickReq ptr l with
    | none => some p
    | some q => if q.2.sooner ptr p.2 then some q else some p

/-- Serving one request: its target answers, and the pointer of port 2 moves after a tie of two or more channels (02 R45). -/
def State.serveReq (s : State) (l : List (Nat × FabEntry)) (i : Nat) (e : FabEntry) : State :=
  let tied := ((l.filter (fun q => q.2.req.port = 2 && q.2.stamp = e.stamp)).map (fun q => q.2.req.unit)).eraseDups
  let s := if e.req.port = 2 && 2 ≤ tied.length then { s with fab := { s.fab with ptrDma := (e.req.unit + 1) % 32 } } else s
  let (s, c, d) := s.target e.req
  { s with fab := { s.fab with inflight := s.fab.inflight.set i { e with ans := .answered c d } } }

/-- The crossbar serves what waits, one request after the other. -/
def State.arbitrate (all : Bool) : Nat → State → State
  | 0, s => s
  | k + 1, s =>
    match pickReq s.fab.ptrDma (s.readyReqs all) with
    | none => s
    | some (i, e) => State.arbitrate all k (s.serveReq (s.readyReqs all) i e)

/-- Every request stamped before now that can be served is served (02 R43): what comes now comes after it. -/
def State.serveOlder (s : State) : State := State.arbitrate false s.fab.inflight.length s

/-- Every request that can be served is served. -/
def State.serveAll (s : State) : State := State.arbitrate true s.fab.inflight.length s

/-! ### Requests, responses and timeouts (02 R38 to R40) -/

/-- A request arrives. An access to the twin window goes to the bridge (13 R337); any other waits at the arbiter of its target, or is one
that its target does not answer. -/
def State.request (s : State) (r : FabReq) (served : Bool) : State :=
  let s := s.serveOlder
  match s.earlyCode r with
  | some c => s.inService r (.answered c 0)
  | none =>
    if inTwin r.addr then (if r.port = 7 then s.inService r (.answered 3 0) else s.twinOut r s.now)
    else s.inService r (if served then .waiting else .silent)

/-- FABRIC_REQUEST (02 R41, R42). -/
def execFabricRequest (g : Lapse) (r : FabReq) (served : Bool) (s : State) : Host.Outcome State Fault Refusal :=
  let s := s.pass g
  .next (if s.pd 3 then s.request r served else s)

/-- An access that an initiator makes whole within one command, now: code and data, not yet recorded. What passes the twin window belongs to
the partner: the bridge's own checks apply, the data of a read is free, and a write has no effect here (entry 27). -/
def State.access (s : State) (r : FabReq) : State × Nat × Nat :=
  let s := s.serveOlder
  if !s.pd 3 then (s, 2, 0)
  else
    match s.earlyCode r with
    | some c => (s, c, 0)
    | none =>
      if inTwin r.addr then
        if (s.findWin r.addr).isNone then (s, 3, 0)
        else if r.size = 8 && !s.pb Pf.twinCfg_WIDTH then (s, 4, 0)
        else if !s.twin.up then (s, 2, 0)
        else (s, 0, leVal ((List.range r.size).map (fun i => Config.partnerByte s.now (r.addr + i))))
      else s.target r

/-- The unit that marks Atlas's own repeat of a read that timed out (15 R398). -/
def rereadUnit : Nat := 1

/-- Atlas issues a read that timed out once more (15 R398). -/
def State.reread (s : State) (r : FabReq) : State := s.request { r with port := 0, unit := rereadUnit, excl := false } true

/-- A read that ended with TIMEOUT is one of Atlas's own accesses, or of a DMA channel that it started. -/
def State.atlasRead (s : State) (r : FabReq) : Bool := !r.write && (r.port = 0 || (r.port = 2 && (s.dmaOf r.unit).starter = 0))

/-- The classification of a repeated read in region 11 (15 R398, R399). -/
def State.classify11 (s : State) (r : FabReq) (code : Nat) : State :=
  if code = 7 then s.memError 11 7 0 r.port r.addr
  else if code = 0 then
    let inc := fun (v : Vector MemCnt 12) => v.setIfInBounds 11 ((v.toList.getD 11 {}).add 2)
    { s with mem := { s.mem with cnt := inc s.mem.cnt, counts := inc s.mem.counts } }
  else s

/-- A response is delivered: that of Atlas's repeat is classified. -/
def State.delivered (s : State) (r : FabReq) (code data : Nat) : State :=
  if r.port = 0 && r.unit = rereadUnit then (if code = 0 then s else s.fabErr code 0 r.addr).classify11 r code
  else
    let again := code = 7 && s.atlasRead r
    let s := s.respond r code data
    if again then s.reread r else s

/-- The first entry of a list that meets a test, and the list without it. -/
def takeFirst {α : Type} (p : α → Bool) : List α → Option (α × List α)
  | [] => none
  | x :: l => if p x then some (x, l) else (takeFirst p l).map (fun q => (q.1, x :: q.2))

/-- The response of entry i may reach its initiator: it is served, its 20,000 tk have not passed (02 R39), and no earlier request that it may
not pass is outstanding (02 R41). -/
def State.mayEnd (s : State) (port unit i : Nat) : Option (FabEntry × Nat × Nat) :=
  match s.fab.inflight[i]? with
  | none => none
  | some e =>
    match e.ans with
    | .answered c d =>
      if e.req.port = port && e.req.unit = unit && s.now ≤ e.stamp + 20000 && s.firstOfOrder i e.req (fun _ => false) then some (e, c, d) else none
    | _ => none

/-- Request i is outstanding no longer. -/
def State.endReq (s : State) (i : Nat) : State := { s with fab := { s.fab with inflight := s.fab.inflight.eraseIdx i } }

/-- FABRIC_RESPONSE: what waits at the arbiters is served, and the oldest request of a port and unit whose response may be delivered gets
it (02 R38, R41, R43). A response later than 20,000 tk after the stamp is discarded (02 R39). -/
def execFabricResponse (g : Lapse) (port unit : Nat) (s : State) : Host.Outcome State Fault Refusal :=
  let s := (s.pass g).serveAll
  .next (
    match (List.range s.fab.inflight.length).find? (fun i => (s.mayEnd port unit i).isSome) with
    | none => s
    | some i =>
      match s.mayEnd port unit i with
      | none => s
      | some (e, c, d) => (s.endReq i).delivered e.req c d)

/-- A write that timed out without an answer may still take effect (02 R39): here in the step of its TIMEOUT, or never. The rule bounds the
time of the effect from below only (DESIGN CHOICE, entry 9). -/
def State.lateWrite (s : State) (r : FabReq) : State :=
  if r.write && Config.lateWrite (s.dbg.codeCnt.toList.getD 7 0) then (s.target r).1 else s

/-- FABRIC_TIMEOUT: a request with no response 20,000 tk after its stamp (02 R39): at its target, at the arbiter, held at the bridge, or on the
link. -/
def execFabricTimeout (g : Lapse) (port unit : Nat) (s : State) : Host.Outcome State Fault Refusal :=
  let s := (s.pass g).serveOlder
  let old := fun (r : FabReq) (t : Nat) => r.port = port && r.unit = unit && s.expired t 20000
  .next (
    match takeFirst (fun (e : FabEntry) => old e.req e.stamp) s.fab.inflight with
    | some (e, l) =>
      let s := { s with fab := { s.fab with inflight := l } }
      (if e.served then s else s.lateWrite e.req).delivered e.req 7 0
    | none =>
      match takeFirst (fun (p : FabReq × Nat) => old p.1 p.2) s.twin.wait with
      | some (p, l) => (s.modTwin (fun t => { t with wait := l })).delivered p.1 7 0
      | none =>
        match takeFirst (fun (o : TwinOut) => !o.silent && o.op ≠ 1 && old o.req o.stamp) s.twin.out with
        | some (o, l) => (s.modTwin (fun t => { t with out := l, lockReq := t.lockReq && o.op ≠ 5 })).delivered o.req 7 0
        | none =>
          match takeFirst (fun (o : TwinOut) => old o.req o.stamp) s.twin.again with
          | some (o, l) => (s.modTwin (fun t => { t with again := l })).delivered o.req 7 0
          | none => s)

/-! ### The inbound master (13 R337 to R346) -/

/-- The part of a word that its four byte enables name: offset and size; none where they name no naturally aligned part. -/
def beLanes (be : Nat) : Option (Nat × Nat) :=
  if be = 15 then some (0, 4) else if be = 3 then some (0, 2) else if be = 12 then some (2, 2)
  else if be = 1 then some (0, 1) else if be = 2 then some (1, 1) else if be = 4 then some (2, 1) else if be = 8 then some (3, 1) else none

/-- RID under which an inbound transaction holds a reservation: apart from those of local initiators (DESIGN CHOICE, entry 28). -/
def inboundRid (rid : Nat) : Nat := 256 + rid

/-- A 32-bit access of the inbound master: code and data, in place in the word. A plain write ends every reservation of its doubleword. -/
def State.inboundWord (s : State) (write : Bool) (be a v : Nat) : State × Nat × Nat :=
  match beLanes be with
  | none => (s, 4, 0)
  | some (o, n) =>
    if inTwin a then (s, 3, 0)
    else
      let (s, c, d) := s.target ⟨7, 31, a + o, n, write, bitsOf v (8 * o) (8 * n), false⟩
      (s, c, d <<< (8 * o))

/-- The words of a transaction one by one, lowest first: the first code other than OK, and the data. -/
def State.inboundWords (s : State) (write : Bool) (be a : Nat) (ws : List Nat) : Nat → Nat → Nat → List Nat → State × Nat × List Nat
  | 0, _, code, out => (s, code, out)
  | k + 1, i, code, out =>
    let (s, c, d) := s.inboundWord write (bitsOf be (4 * i) 4) (a + 4 * i) (ws.getD i 0)
    State.inboundWords s write be a ws k (i + 1) (if code = 0 then c else code) (out ++ [d])

/-- An answer on RSP (13 R335). -/
def State.sendRsp (s : State) (r : LinkReq) (code : Nat) (ex retry : Bool) (ws : List Nat) : State :=
  s.frame 1 (code + 8 * flag ex + 16 * flag retry + r.tag <<< 8 + (if ws.isEmpty then 0 else ws.length - 1) <<< 16) ws

/-- Recording the error of an inbound access (13 R339, 02 R38). -/
def State.inboundErr (s : State) (code a : Nat) : State := if code = 0 then s else s.fabErr code 7 a

/-- Exclusive and lock accesses reach system SRAM only (13 R345, R346). -/
def State.inboundEx (s : State) (r : LinkReq) : State × Nat × Bool × Nat :=
  let write := r.op = 4 || r.op = 6
  let q : FabReq := ⟨7, 31, r.addr, 4, write, r.data.getD 0 0, false⟩
  let rid := inboundRid r.rid
  if !aligned r.addr 4 then (s, 4, false, 0)
  else if regionOf r.addr ≠ some 0 || !s.memAllowed q then (s, 3, false, 0)
  else if !s.pd 3 || s.fab.closed.testBit 3 then (s, 2, false, 0)
  else if r.op = 3 then
    let (s, c, d) := s.memRead 7 r.addr 4
    ((if c = 0 then s.modTwin (fun t => t.reserve rid r.addr s.now) else s), c, false, d)
  else if r.op = 4 then
    let (s, c, ex) := s.exWrite 7 rid r.addr (r.data.getD 0 0)
    (s, c, decide (ex = 1), 0)
  else if r.op = 5 then
    let (s, c, d) := s.memRead 7 r.addr 4
    (s.modTwin (fun t => { t with lock := some (r.rid, s.now), broken := none }), c, false, d)
  else if (s.twin.lock.map (fun l => decide (l.1 = r.rid))).getD false then
    let (s, c) := s.sramWrite 7 rid r.addr 4 (r.data.getD 0 0)
    ((s.modTwin (fun t => { t with lock := none })).unlocked, c, decide (c = 0), 0)
  else (s.modTwin (fun t => { t with broken := none }), 0, false, 0)

/-- A lock read is answered RETRY where it crosses this device's own and TWIN_ID is low here, or where the lock is held (13 R346). -/
def State.lockRetry (s : State) (r : LinkReq) : Bool := r.op = 5 && ((s.twin.lockReq && !s.il.twinId) || s.twin.lock.isSome)

/-- Serving a transaction from the partner. A posted write is answered only where it failed (13 R341). -/
def State.inbound (s : State) (r : LinkReq) : State :=
  if s.lockRetry r then s.sendRsp r 0 false true []
  else if 3 ≤ r.op && r.op ≤ 6 then
    let (s, c, ex, d) := s.inboundEx r
    (s.inboundErr c r.addr).sendRsp r c ex false (if c = 0 && (r.op = 3 || r.op = 5) then [d] else [])
  else
    let write : Bool := r.op = 1 || r.op = 2
    let (s, c, ws) := s.inboundWords write r.be r.addr r.data (if r.op = 7 then 4 else r.count) 0 0 []
    let s := s.inboundErr c r.addr
    if r.op = 1 && c = 0 then s else s.sendRsp r c false false (if write || c ≠ 0 then [] else ws)

/-- The received transaction that may be served now, out of the list: the oldest, or a posted write that has only reads before it (13 R340). -/
def takeInq (r : LinkReq) : List LinkReq → Option (List LinkReq)
  | [] => none
  | h :: l =>
    if h = r then some l
    else if r.op = 1 && (h.op = 0 || h.op = 3 || h.op = 5 || h.op = 7) then (takeInq r l).map (h :: ·)
    else none

/-- TWIN_INBOUND_REQUEST (13 R337, R339): a transaction received is served when it is the one named and its turn has come; with none received, the
command itself is the transaction. -/
def execTwinInboundRequest (g : Lapse) (r : LinkReq) (s : State) : Host.Outcome State Fault Refusal :=
  let s := s.pass g
  .next (
    if !s.twin.up || !s.pd 14 || 7 < r.op then s
    else
      let s := s.serveOlder
      if s.twin.inq.isEmpty then s.inbound r
      else match takeInq r s.twin.inq with
        | some l => (s.modTwin (fun t => { t with inq := l })).inbound r
        | none => s)

/-! ### The bench SPI port (03 R69) -/

/-- One 32-bit access of the bench port: the value of a read. -/
def State.benchWord (s : State) (write : Bool) (off v : Nat) : State × Nat × Nat :=
  let a := 0x40000000 + off
  if 0x5FFFF < off then (s.fabErr 3 8 a, 3, 0)
  else if write then
    let (s, c) := s.regWrite .bench a 4 v
    ((if c = 0 then s else s.fabErr c 8 a), c, 0)
  else
    let (s, c, d) := s.regRead .bench 8 a 4
    ((if c = 0 then s else s.fabErr c 8 a), c, d)

/-- The groups of a transaction in ascending address order: bytes read, and the first code other than OK. -/
def State.benchRun (write : Bool) (data : List Byte) : Nat → Nat → Nat → State → List Byte → Nat → State × List Byte × Nat
  | 0, _, _, s, out, code => (s, out, code)
  | k + 1, i, off, s, out, code =>
    let (s, c, d) := s.benchWord write (off + 4 * i) (leAt data (4 * i) 4)
    State.benchRun write data k (i + 1) off s (if write then out else out ++ leBytes 4 d) (if code = 0 then c else code)

/-- A transaction that makes no access is recorded once (03 R69). -/
def State.benchRefuse (s : State) (code addr n : Nat) : State :=
  let s := s.fabErr code 8 addr
  { s with fab := { s.fab with spi := (List.replicate n 0, code) } }

/-- BENCH_SPI_TRANSACTION (03 R69). With PD3 off nothing is accessed (09 R259). As unit 8 the port comes after every crossbar port that waits.
An offset that is off the alignment and out of range returns ALIGN, and one out of range with too few data bytes DENIED (DESIGN CHOICE,
entry 88). -/
def execBenchSpiTransaction (g : Lapse) (t : SpiTrans) (s : State) : Host.Outcome State Fault Refusal :=
  let s := s.pass g
  let write : Bool := t.cmd = 2
  let n := if write then t.data.length else t.nread
  let off := t.off.getD 0
  let a := 0x40000000 + off
  let nr := if write then 0 else n
  .next (
    if !s.pd 3 then s
    else if t.cmd ≠ 2 && t.cmd ≠ 3 then s.benchRefuse 1 a nr
    else if t.off.isNone || off % 4 ≠ 0 then s.benchRefuse 4 a nr
    else if 0x5FFFF < off then s.benchRefuse 3 a nr
    else if n < 4 then s.benchRefuse 4 a nr
    else
      let s := s.serveAll
      let k := min n 8192 / 4
      let (s, out, code) := State.benchRun write t.data k 0 off s [] 0
      let part := if write || 8192 ≤ n then [] else
        let d := if 0x5FFFF < off + 4 * k then 0 else (s.regRead .bench 8 (a + 4 * k) 4).2.2
        (leBytes 4 d).take (n % 4)
      let bytes := if write then [] else out ++ part ++ List.replicate (n - out.length - part.length) 0
      let st := if code = 0 && (8192 < n || n % 4 ≠ 0) then 4 else code
      { s with fab := { s.fab with spi := (bytes, st) } })

end Sys2Proof.Machine
end

