-- ==== Sys2Proof/Machine/Dma.lean ====
section
/-!
DEFINITION. The DMA channels (15 R404 to R406).
-/
namespace Sys2Proof.Machine

/-- Fields of the descriptor in progress: SRC, DST, LEN, CTRL, NEXT, FILLVAL (15 R404). -/
def DmaCh.fld (c : DmaCh) (i : Nat) : Nat := c.desc.getD i 0

/-- Element size, bytes. -/
def DmaCh.elem (c : DmaCh) : Nat := 2 ^ bitsOf (c.fld 3) 0 2

/-- Number of elements. -/
def DmaCh.count (c : DmaCh) : Nat := c.fld 2 / c.elem

/-- Source and destination of element k (15 R404). -/
def DmaCh.src (c : DmaCh) (k : Nat) : Nat := (c.fld 0 + (if (c.fld 3).testBit 2 then k * c.elem else 0)) % 2 ^ 32
def DmaCh.dst (c : DmaCh) (k : Nat) : Nat := (c.fld 1 + (if (c.fld 3).testBit 3 then k * c.elem else 0)) % 2 ^ 32

/-- A transfer that reads. -/
def DmaCh.reads (c : DmaCh) : Bool := !(c.fld 3).testBit 4

/-- The write of element k of channel n, with the data of a fill; that of a copy is the element read. -/
def DmaCh.writeOf (c : DmaCh) (n k data : Nat) : FabReq := ⟨2, n, c.dst k, c.elem, true, data, false⟩

/-- What element k of channel n writes: code of the read and data. -/
def State.dmaData (s : State) (n k : Nat) : State × Nat × Nat :=
  let c := s.dmaOf n
  if c.reads then s.access ⟨2, n, c.src k, c.elem, false, 0, false⟩ else (s, 0, bitsOf (c.fld 5) 0 (8 * c.elem))

/-- One element of channel n: code and failing address. -/
def State.dmaElem (s : State) (n k : Nat) : State × Nat × Nat :=
  let c := s.dmaOf n
  let (s, e, d) := s.dmaData n k
  if e ≠ 0 then (s, e, c.src k)
  else
    let (s, e, _) := s.access (c.writeOf n k d)
    (s, e, c.dst k)

/-- The write of element k ended with TIMEOUT, and may still take effect (02 R39). -/
def State.dmaLate (s : State) (n k : Nat) : State :=
  let (s', e, d) := s.dmaData n k
  if e ≠ 0 then s else s'.lateWrite ((s.dmaOf n).writeOf n k d)

/-- Transfers of channel n from element k on, until one fails or one lies at `stop`: the element reached, the code and the address. -/
def State.dmaRun (n : Nat) (stop : Option Nat) : Nat → Nat → State → State × Nat × Nat × Nat
  | 0, k, s => (s, k, 0, 0)
  | f + 1, k, s =>
    let c := s.dmaOf n
    if (stop.map (fun a => decide (c.dst k = a) || (c.reads && decide (c.src k = a)))).getD false then (s, k, 0, 0)
    else
      let (s', e, a) := s.dmaElem n k
      if e ≠ 0 then (s', k, e, a) else State.dmaRun n stop f (k + 1) s'

/-- The channel halts with elements from k on not written (15 R406). -/
def State.dmaFail (s : State) (n k code addr : Nat) : State :=
  (s.modDma n (fun c => { c with left := c.fld 2 - k * c.elem })).dmaHalt n code addr

/-- ALIGN of a descriptor (15 R404): an address or LEN off the element size, or a reserved CTRL bit; a LEN outside its range counts as one
(DESIGN CHOICE, entry 32). -/
def DmaCh.misaligned (c : DmaCh) : Bool :=
  (c.reads && c.fld 0 % c.elem ≠ 0) || c.fld 1 % c.elem ≠ 0 || c.fld 2 % c.elem ≠ 0 || 128 ≤ c.fld 3 || c.fld 2 = 0 || 0x1000000 < c.fld 2

/-- A descriptor may lie in system SRAM or in the starting core's own memory (15 R404). -/
def descPlace (starter a : Nat) : Bool := regionOf a = some 0 || regionOf a = some (2 + starter)

/-- Channel n takes the descriptor at an address, or halts. -/
def State.dmaLoad (s : State) (n a : Nat) : State :=
  let s := s.modDma n (fun c => { c with cur := a, desc := [], left := 0 })
  if !descPlace (s.dmaOf n).starter a then (s.dmaHalt n 3 a).fabErr 3 2 a
  else if a % 32 ≠ 0 then (s.dmaHalt n 4 a).fabErr 4 2 a
  else
    let rd := fun (p : State × Nat × List Nat) (i : Nat) =>
      if p.2.1 ≠ 0 then p
      else
        let (s, e, d) := p.1.access ⟨2, n, a + 8 * i, 8, false, 0, false⟩
        (s, e, p.2.2 ++ [d])
    let (s, e, ws) := [0, 1, 2, 3].foldl rd (s, 0, [])
    if e ≠ 0 then (s.dmaHalt n e a).fabErr e 2 a
    else
      let w := fun (i : Nat) => ws.getD i 0
      let s := s.modDma n (fun c => { c with st := 1, desc := [w 0 % 2 ^ 32, w 0 / 2 ^ 32, w 1 % 2 ^ 32, w 1 / 2 ^ 32, w 2 % 2 ^ 32, w 3], left := w 1 % 2 ^ 32 % 2 ^ 25 })
      if (s.dmaOf n).misaligned then (s.dmaHalt n 4 a).fabErr 4 2 a else s

/-- go on channel n by the core whose number is k (0 S, 1 + n for An): the value of r (15 R405). -/
def State.dmaStart (s : State) (k v desc : Nat) : State × Nat :=
  let n := v % 2 ^ 31
  if 32 ≤ n then (s, (Config.unitResult s.now 0x34F).toNat)
  else if v.testBit 31 then (s, (s.dmaOf n).stat)
  else if k ≠ 0 && !s.granted (k - 1) 6 n then (s, 2)
  else if (s.dmaOf n).st = 1 then (s, 1)
  else ((s.modDma n (fun _ => { ({} : DmaCh) with st := 1, starter := k })).dmaLoad n desc, 0)

/-- stop on channel n (15 R405): the transfers already issued complete first. -/
def State.dmaStop (s : State) (k n : Nat) : State :=
  if 32 ≤ n || (s.dmaOf n).st ≠ 1 || (k ≠ 0 && !s.granted (k - 1) 6 n) then s
  else
    let (s, j, e, a) := State.dmaRun n none (min (Config.dmaIssued s.now n) (s.dmaOf n).count) 0 s
    if e ≠ 0 then ((s.dmaFail n j e a).fabErr e 2 a).modDma n (fun c => { c with stopped := true })
    else s.modDma n (fun c => { c with st := 3, stopped := true, left := c.fld 2 - j * c.elem })

/-- DMA_DESCRIPTOR_COMPLETE (15 R405): the transfers of the descriptor are made, in order; then POST, and NEXT or the end. -/
def execDmaDescriptorComplete (g : Lapse) (n : Fin 32) (s : State) : Host.Outcome State Fault Refusal :=
  let s := s.pass g
  .next (
    if (s.dmaOf n).st ≠ 1 then s
    else
      let (s, k, e, a) := State.dmaRun n none (s.dmaOf n).count 0 s
      if e ≠ 0 then (s.dmaFail n k e a).fabErr e 2 a
      else
        let c := s.dmaOf n
        let s := s.modDma n (fun c => { c with left := 0 })
        let s := if (c.fld 3).testBit 6 then s.raiseEv c.starter 6 else s
        if (c.fld 3).testBit 5 then s.dmaLoad n (c.fld 4) else s.modDma n (fun c => { c with st := 2 }))

/-- DMA_TRANSFER_ERROR (15 R406): the transfer at an address of the descriptor ends with an error response, after those before it; an address that
the descriptor does not reach is no such event. -/
def execDmaTransferError (g : Lapse) (n : Fin 32) (code addr : Nat) (s : State) : Host.Outcome State Fault Refusal :=
  let s := s.pass g
  .next (
    if (s.dmaOf n).st ≠ 1 || code = 0 || 7 < code then s
    else
      let total := (s.dmaOf n).count
      let (s', k, e, a) := State.dmaRun n (some addr) total 0 s
      if e ≠ 0 then (s'.dmaFail n k e a).fabErr e 2 a
      else if k = total then s
      else
        let c := s'.dmaOf n
        let s' := if code = 7 && !(c.reads && decide (c.src k = addr)) then s'.dmaLate n k else s'
        (s'.dmaFail n k code addr).fabErr code 2 addr)

end Sys2Proof.Machine
end

