-- ==== Sys2Proof/Machine/Ports.lean ====
section
/-!
DEFINITION. The Xitre port space, moves and arithmetic (14 R363 to R368, R377, R378).
-/
namespace Sys2Proof.Machine

/-! ### Moves (14 R363) -/

/-- The source of a move. -/
inductive Src where
  | port (p : Nat)
  | imm (v : Nat) (short : Bool)
  | bad
  deriving DecidableEq, Repr

/-- One move: destination, source, a reserved field set, end of the word. -/
structure Move where
  dst  : Nat
  src  : Src
  bad  : Bool
  stop : Bool
  deriving DecidableEq, Repr

/-- The 18-bit short immediate, sign-extended to 32 bits. -/
def shortImm (v : Nat) : Nat := unsignedOf 32 (signedOf 18 v)

/-- A move from its 32-bit word. -/
def moveOf (w : Nat) : Move :=
  let sk := bitsOf w 18 2
  let src : Src :=
    if sk = 0 then (if bitsOf w 10 8 = 0 then .port (bitsOf w 0 10) else .bad)
    else if sk = 1 then .imm (shortImm (bitsOf w 0 18)) true
    else if sk = 2 then .imm (bitsOf w 0 18 <<< 14) false
    else .bad
  ⟨bitsOf w 20 10, src, w.testBit 30 || decide (src = .bad), w.testBit 31⟩

/-- A move that an instruction word can hold: a listed width for each field, no reserved bit, and an immediate that its source kind spells
(R363). -/
def Move.legal (m : Move) : Prop :=
  m.dst < 1024 ∧ m.bad = false ∧
  (match m.src with
   | .port p => p < 1024
   | .imm v true => v < 2 ^ 32 ∧ shortImm (v % 2 ^ 18) = v
   | .imm v false => v < 2 ^ 32 ∧ v % 2 ^ 14 = 0
   | .bad => False)

/-- The 32-bit word of a move (R363): STOP at 31, DST at [29:20], SK at [19:18], SRC or IMM at [17:0]. -/
def Move.word (m : Move) : Nat :=
  flag m.stop * 2 ^ 31 + m.dst * 2 ^ 20 +
  (match m.src with
   | .port p => p
   | .imm v true => 2 ^ 18 + v % 2 ^ 18
   | .imm v false => 2 * 2 ^ 18 + v / 2 ^ 14
   | .bad => 3 * 2 ^ 18)

/-! ### Core types (14 R362) -/

/-- Moves per word and delay slots of core i. -/
def busesOf (i : Nat) : Nat := if i < 5 then 4 else 2
def delayOf (i : Nat) : Nat := if i < 5 then 2 else 1

/-! ### The port map (14 R366, R377) -/

/-- What a port is to a core: read and written, read only, an operand, a trigger, a result, not in its map, a unit of the coprocessor block that is
not for its type. -/
inductive PortKind where
  | reg
  | ro
  | operand
  | trigger
  | result
  | bad
  | denied
  deriving DecidableEq, Repr

/-- A unit's port by its offset: `ops` operands, then triggers up to `trigs`, results `res`. -/
def unitPort (o ops trigs : Nat) (res : List Nat) : PortKind :=
  if o < ops then .operand else if o < trigs then .trigger else if res.contains o then .result else .bad

/-- A unit's port where the unit is for the core's type; a listed port of one that is not is denied (14 R377). -/
def coPort (mine : Bool) (k : PortKind) : PortKind := if mine || k = .bad then k else .denied

/-- Kind of port p on core i. -/
def portKind (i p : Nat) : PortKind :=
  let sa : Bool := i < 5
  let on := fun (b : Bool) (k : PortKind) => if b then k else .bad
  let b := p / 16
  let o := p % 16
  if p < 0x20 then on (sa || p < 8) .reg
  else if p = 0xE0 || (0xE3 ≤ p && p ≤ 0xE6) then .ro
  else if p = 0xE1 || p = 0xE2 || p = 0xF0 then .reg
  else if 0xE8 ≤ p && p ≤ 0xED then on (i = 0) .reg
  else if b = 0x10 then unitPort o 1 13 [15]
  else if b = 0x11 then on sa (unitPort o 1 13 [15])
  else if b = 0x12 then (if 4 ≤ o && o ≤ 7 then on sa .trigger else unitPort o 1 4 [15])
  else if 0x140 ≤ p && p < 0x160 then unitPort (p - 0x140) 2 15 [0x18, 0x19, 0x1A]
  else if b = 0x18 then (if o = 11 then on (i = 0) .trigger else unitPort o 2 11 [])
  else if b = 0x1C then unitPort o 1 3 [15]
  else if p = 0x1D0 then .trigger
  else if b = 0x20 then on (isC i) (unitPort o 1 4 [8, 9, 10, 11, 12])
  else if b = 0x24 then on (isVb i) (unitPort o 1 4 [8, 9, 10])
  else if b = 0x30 then coPort sa (unitPort o 1 5 [15])
  else if b = 0x31 then coPort (i = 0 || isC i) (unitPort o 1 2 [15])
  else if b = 0x32 then coPort (i = 0) (unitPort o 2 4 [15])
  else if b = 0x33 then coPort (i = 0) (unitPort o 2 3 [15])
  else if b = 0x34 then coPort sa (unitPort o 1 3 [15])
  else .bad

/-- The unit of a trigger port: LSU spans two sixteens. -/
def unitOf (p : Nat) : Nat := if p / 16 = 0x15 then 0x14 else p / 16

/-! ### Reading ports -/

/-- The finished check of the CRC unit (14 R378). -/
def Core.crcR (c : Core) : Nat := if c.crcIn = 0 then c.crcS ^^^ 0xFFFFFFFF else c.crcS % 256

/-- A 32-bit two's complement value of a signed number. -/
def w32 (x : Int) : Nat := unsignedOf 32 x

/-- A result port of the die or valve-stage units (14 R366). Samples, cycle records and member status have no stated value here. -/
def State.plantPort (s : State) (i p : Nat) : Nat :=
  let c := s.core i
  if p = 0x20B then w32 (s.dieRec (dieOf (i - 5))).tcase
  else if p = 0x20C then c.dieEv
  else if p = 0x249 then w32 (s.coil (4 * (i - 69) + c.vlvSel % 4))
  else (Config.unitResult s.now p).toNat

/-- Value of a readable port (14 R366). -/
def State.portVal (s : State) (i : Nat) (p : Nat) : Nat :=
  let c := s.core i
  if p < 0x20 then c.g.toList.getD p 0
  else if p = 0xE0 then c.pc
  else if p = 0xE1 then c.sp
  else if p = 0xE2 then c.splim
  else if p = 0xE3 then ownBase i
  else if p = 0xE4 then coreNo i
  else if p = 0xE5 then s.now % 2 ^ 32
  else if p = 0xE6 then c.nowh
  else if p = 0xE8 then c.tvec
  else if p = 0xE9 then c.epc
  else if p = 0xEA then c.etgt
  else if p = 0xEB then c.eds
  else if p = 0xEC then c.ecause
  else if p = 0xED then c.eaddr
  else if p = 0xF0 then 0
  else if p = 0x10F then c.aluR.toList.getD 0 0
  else if p = 0x11F then c.aluR.toList.getD 1 0
  else if p = 0x12F then c.mulR
  else if p = 0x158 then c.lsuR
  else if p = 0x159 then c.lsuRh
  else if p = 0x15A then c.lsuEx
  else if p = 0x1CF then c.evR
  else if p = 0x30F then c.crcR
  else if p = 0x31F then c.codR
  else if p = 0x32F then c.shR
  else if p = 0x33F then c.aesR
  else if p = 0x34F then c.dmaR
  else s.plantPort i p

/-- Value of a source. -/
def State.srcVal (s : State) (i : Nat) : Src → Nat
  | .port p => s.portVal i p
  | .imm v _ => v
  | .bad => 0

/-! ### Writing registers and operands -/

/-- A register or operand port takes a value (14 R366). -/
def Core.setPort (c : Core) (p v : Nat) : Core :=
  if p < 0x20 then { c with g := c.g.setIfInBounds p v }
  else if p = 0xE1 then { c with sp := v }
  else if p = 0xE2 then { c with splim := v }
  else if p = 0xE8 then { c with tvec := v }
  else if p = 0xE9 then { c with epc := v }
  else if p = 0xEA then { c with etgt := v }
  else if p = 0xEB then { c with eds := v }
  else if p = 0xEC then { c with ecause := v }
  else if p = 0xED then { c with eaddr := v }
  else if p = 0x100 then { c with aluO := c.aluO.setIfInBounds 0 v }
  else if p = 0x110 then { c with aluO := c.aluO.setIfInBounds 1 v }
  else if p = 0x120 then { c with mulO := v }
  else if p = 0x140 then { c with lsuD := v }
  else if p = 0x141 then { c with lsuDh := v }
  else if p = 0x180 then { c with brA := v }
  else if p = 0x181 then { c with brT := v }
  else if p = 0x1C0 then { c with evMask := v }
  else if p = 0x200 then { c with dieLim := v }
  else if p = 0x240 then { c with vlvSel := v }
  else if p = 0x300 then { c with crcSel := v }
  else if p = 0x310 then { c with codS := v }
  else if p = 0x320 then { c with shMode := v }
  else if p = 0x321 then { c with shLen := v }
  else if p = 0x330 then { c with aesKey := v }
  else if p = 0x331 then { c with aesSrc := v }
  else if p = 0x340 then { c with dmaD := v }
  else c

/-! ### Arithmetic (14 R368) -/

/-- Result of an ALU trigger by its offset in the unit. -/
def aluResult (k o v : Nat) : Nat :=
  if k = 1 then (o + v) % 2 ^ 32
  else if k = 2 then (o + 2 ^ 32 - v) % 2 ^ 32
  else if k = 3 then o &&& v
  else if k = 4 then o ||| v
  else if k = 5 then o ^^^ v
  else if k = 6 then (o <<< (v % 32)) % 2 ^ 32
  else if k = 7 then o >>> (v % 32)
  else if k = 8 then w32 (signedOf 32 o / 2 ^ (v % 32))
  else if k = 9 then (if signedOf 32 o ≤ signedOf 32 v then o else v)
  else if k = 10 then (if signedOf 32 o ≤ signedOf 32 v then v else o)
  else if k = 11 then min o v
  else max o v

/-- Result of a MUL trigger by its offset in the unit; a division by zero never gets here (14 R368). -/
def mulResult (k o v : Nat) : Nat :=
  let so := signedOf 32 o
  let sv := signedOf 32 v
  if k = 1 then o * v % 2 ^ 32
  else if k = 2 then w32 (so * sv / 2 ^ 32)
  else if k = 3 then o * v / 2 ^ 32
  else if k = 4 then w32 (so.tdiv sv)
  else if k = 5 then o / v
  else if k = 6 then w32 (so.tmod sv)
  else o % v

/-! ### CRC (14 R378) -/

/-- One byte into the check in force. -/
def Core.crcFeed (c : Core) (b : Nat) : Core :=
  if c.crcIn = 0 then { c with crcS := crcByte c.crcS b } else { c with crcS := crc8Byte (c.crcS % 256) b }

/-- `n` bytes of a value, least significant first. -/
def Core.crcFeeds : Nat → Nat → Core → Core
  | 0, _, c => c
  | n + 1, v, c => Core.crcFeeds n (v / 256) (c.crcFeed (v % 256))

/-- init (14 R378): the state, and the selection written since; a selection other than 0 and 1 keeps the earlier one (entry 33). -/
def Core.crcInit (c : Core) (v : Nat) : Core := { c with crcS := v, crcIn := if c.crcSel < 2 then c.crcSel else c.crcIn }

end Sys2Proof.Machine
end

