-- ==== Sys2Proof/Machine/Xitre.lean ====
section
/-!
DEFINITION. The Xitre cores: traps, triggers, instruction words (14 R364 to R382, R386, R387).
-/
namespace Sys2Proof.Machine

/-! ### Traps (14 R379 to R381) -/

/-- A trap: cause, fabric code, faulting address or 0. -/
structure Trap where
  cause : Nat
  code  : Nat
  addr  : Nat
  deriving DecidableEq, Repr

/-- Trap of a cause alone. -/
def trapOf (cause : Nat) : Trap := ⟨cause, 0, 0⟩

/-- The trap of lowest cause in a list, the first among equals. -/
def lowestTrap : List Trap → Option Trap
  | [] => none
  | t :: l => match lowestTrap l with
    | some u => if u.cause < t.cause then some u else some t
    | none => some t

/-- The record of a trap at DBG (14 R387). -/
def DbgCore.trapped (d : DbgCore) (t : Trap) (async : Bool) : DbgCore :=
  { d with trap := t.cause % 256 + t.code % 8 <<< 8 + flag async <<< 11 + 0x1000 + (satInc 0xFFFF (d.trap / 0x10000)) <<< 16 }

/-- The target that a pending transfer of control leads to; that of a return stands in its frame (14 R374, R381). -/
def State.flowTarget (s : State) (i : Nat) (f : Flow) : Nat :=
  let sp := (s.core i).sp
  match f with
  | .jump t => t
  | .call t _ => t
  | .ret => s.bytesAt (sp + 4 + 4 * popCount 16 (s.bytesAt sp 4)) 4

/-- S enters its handler (14 R381). -/
def State.superTrap (s : State) (t : Trap) (async : Bool) : State :=
  let c := s.core 0
  if c.masked then s.logicReset 4
  else
    let tgt := if c.slots = 0 then 0 else (c.flow.map (s.flowTarget 0)).getD 0
    s.modCore 0 (fun c => { c with epc := c.pc, ecause := t.cause % 256 + t.code <<< 8 + flag async <<< 11, eaddr := t.addr, etgt := tgt, eds := c.slots, eflow := c.flow, flow := none, slots := 0, masked := true, ldErr := none, pc := c.tvec })

/-- An application core halts on a trap (14 R380, R386): status, event APPLET_TRAP, the restart; the third trap within 10 s leaves it halted. -/
def State.appTrap (s : State) (n cause code : Nat) : State :=
  let c := s.core (1 + n)
  let traps := c.traps.filter (fun t => !s.expired t 2000000000) ++ [s.now]
  let s := (s.haltCore (1 + n) .trapped).modCore (1 + n) (fun c => { c with traps := traps, ldErr := none })
  let again := s.pb Pf.appCfg_RESTART n && traps.length < 3
  let s := s.modApplet n (fun a => { a with cause := cause, trapN := satInc 255 a.trapN, pc := c.pc, restart := if again then some s.now else none, stuck := decide (3 ≤ traps.length) })
  (s.dropApplet n).emit 11 n 0x30 (leBytes 1 cause ++ leBytes 1 code ++ leBytes 2 0 ++ leBytes 4 c.pc)

/-- A C or VB core halts on a trap (14 R380, 17 R434): the channel keeps what its die protects; the bank is turned off. -/
def State.seqTrap (s : State) (i : Nat) : State :=
  let s := (s.haltCore i .trapped).modBoot (fun b => { b with seqTraps := b.seqTraps ++ [(i, s.now)] })
  if isC i then { s with load := { s.load with halted := s.load.halted ||| (1 <<< (i - 5)) } } else s.bankOff (i - 69)

/-- An access that a core makes itself ended with an error response: recorded like any other (02 R38, 03 R97). -/
def State.recordTrap (s : State) (i : Nat) (t : Trap) : State :=
  if t.cause = 6 && t.code ≠ 0 && i < 5 then s.portErr t.code (if i = 0 then 0 else 1) t.addr else s

/-- A trap acts by core type (14 R380). With TRAPHALT set, BREAK halts S and An instead (14 R381, R387). -/
def State.trapCore (s : State) (i : Nat) (t : Trap) (async : Bool) : State :=
  if t.cause = 9 && i < 5 && (s.dbgCore i).ctrl.testBit 3 then s.debugHalt i
  else
    let s := if i < 5 then s.modDbgCore i (fun d => d.trapped t async) else s
    let s := s.modCore i (fun c => { c with stepped := false })
    if i = 0 then s.superTrap t async else if i < 5 then s.appTrap (i - 1) t.cause t.code else s.seqTrap i

/-! ### Loads and stores (14 R369, R370, R382) -/

/-- An address of the core's own memory. -/
def isOwn (i a : Nat) : Bool := ownBase i ≤ a && a < ownBase i + ownSize i

/-- What an applet may reach: its own memory, granted pages, the window of session 3 (14 R382). -/
def State.sandboxOk (s : State) (n a : Nat) (write : Bool) : Bool :=
  isOwn (1 + n) a || (regionOf a = some 0 && s.pageGranted n a write) || (0x4000C000 ≤ a && a < 0x40010000) || (0x400001C0 ≤ a && a < 0x40000200)

/-- Trap of an access at its trigger: SANDBOX, or FABRIC with ALIGN. -/
def State.accTrap (s : State) (i a size : Nat) (write : Bool) : Option Trap :=
  if isA i && !s.sandboxOk (i - 1) a write then some ⟨4, 0, a⟩ else if a % size ≠ 0 then some ⟨6, 4, a⟩ else none

/-- An outstanding request of core i. -/
def mineReq (i : Nat) (r : FabReq) : Bool := if i = 0 then r.port = 0 && r.unit ≠ rereadUnit else r.port = 1 && r.unit = i - 1

/-- Requests of core i whose response is outstanding; a posted write through the twin window until its OK (14 R369, 13 R341). -/
def State.pendingReqs (s : State) (i : Nat) : List FabReq :=
  (s.fab.inflight.map (·.req) ++ s.twin.wait.map (·.1) ++ ((s.twin.out ++ s.twin.again).filter (fun o => !o.silent)).map (·.req)).filter (mineReq i)

/-- Crossbar port and unit of a core that has one (01 R33). -/
def corePort (i : Nat) : Nat × Nat := if i = 0 then (0, 0) else (1, i - 1)

/-- A load: local at once, over the fabric until its response; C and VB cores reach no other memory (15 R390). -/
def State.loadFrom (s : State) (i a size : Nat) (sgn excl : Bool) : State :=
  let w : LdWait := ⟨a, size, sgn, excl⟩
  let s := s.modCore i (fun c => { c with ldErr := none })
  if isOwn i a && !excl then
    let (s, e, d) := s.memRead 9 a size
    s.modCore i (fun c => c.loaded w e d)
  else if 5 ≤ i then s.modCore i (fun c => c.loaded w 3 0)
  else (s.modCore i (fun c => { c with ldWait := some w })).request ⟨(corePort i).1, (corePort i).2, a, size, false, 0, excl⟩ true

/-- A store, posted; its error comes late (02 R38). -/
def State.storeTo (s : State) (i a size v : Nat) (excl : Bool) : State :=
  let late := fun (s : State) (e : Nat) => if e = 0 then s else s.modCore i (fun c => { c with late := c.late ++ [(e, a)] })
  if isOwn i a && !excl then
    let (s, e) := s.memWrite 9 a size v
    late s e
  else if 5 ≤ i then late s 3
  else (s.modCore i (fun c => { c with exWait := c.exWait || excl })).request ⟨(corePort i).1, (corePort i).2, a, size, true, v, excl⟩ true

/-! ### Branches and the stack (14 R371 to R374) -/

/-- The condition of a compare-and-branch trigger, or of one that is always taken. -/
def branchTaken (p a v : Nat) : Bool :=
  if p = 0x182 then a = v
  else if p = 0x183 then a ≠ v
  else if p = 0x184 then signedOf 32 a < signedOf 32 v
  else if p = 0x185 then signedOf 32 v ≤ signedOf 32 a
  else if p = 0x186 then a < v
  else if p = 0x187 then v ≤ a
  else true

/-- Trap of a target at its branch. -/
def targetTrap (i t : Nat) : Option Trap :=
  if t % 4 ≠ 0 then some (trapOf 2) else if i ≠ 0 && ownSize i ≤ t then some ⟨4, 0, t⟩ else none

/-- An access of S that the core makes whole: an error response is recorded (02 R38). -/
def State.superAccess (s : State) (a size : Nat) (write : Bool) (v : Nat) : State × Nat × Nat :=
  let (s, e, d) := s.access ⟨0, 0, a, size, write, v, false⟩
  (if e = 0 then s else s.portErr e 0 a, e, d)

/-- A word of the stack of core i is written or read: its own memory locally, the stack of S elsewhere over the fabric. -/
def State.stackWrite (s : State) (i a v : Nat) : State × Option Trap :=
  match s.accTrap i a 4 true with
  | some t => (s, some t)
  | none =>
    let (s, e) :=
      if isOwn i a then s.memWrite 9 a 4 v
      else if i = 0 then let (s, e, _) := s.superAccess a 4 true v; (s, e)
      else (s, 3)
    (s, if e = 0 then none else some ⟨6, e, a⟩)
def State.stackRead (s : State) (i a : Nat) : State × Nat × Option Trap :=
  match s.accTrap i a 4 false with
  | some t => (s, 0, some t)
  | none =>
    let (s, e, d) :=
      if isOwn i a then s.memRead 9 a 4
      else if i = 0 then s.superAccess a 4 false 0
      else (s, 3, 0)
    (s, d, if e = 0 then none else some ⟨6, e, a⟩)

/-- Pushing words, each below the one before. -/
def State.pushAll (i : Nat) : List Nat → State → State × Option Trap
  | [], s => (s, none)
  | v :: l, s =>
    let a := (s.core i).sp - 4
    match s.stackWrite i a v with
    | (s, some t) => (s, some t)
    | (s, none) => State.pushAll i l (s.modCore i (fun c => { c with sp := a }))

/-- Popping into registers, lowest first. -/
def State.popRegs (i : Nat) : List Nat → State → State × Option Trap
  | [], s => (s, none)
  | k :: l, s =>
    let a := (s.core i).sp
    match s.stackRead i a with
    | (s, _, some t) => (s, some t)
    | (s, d, none) => State.popRegs i l (s.modCore i (fun c => { c with sp := a + 4, g := c.g.setIfInBounds (16 + k) d }))

/-- The frame of a call, from the highest address down (14 R373). -/
def Core.frame (c : Core) (mask ret : Nat) : List Nat :=
  ret :: ((bitList 16 mask).reverse.map (fun k => c.g.toList.getD (16 + k) 0)) ++ [mask]

/-- A call after its delay slots: STACK where the frame would pass splim. -/
def State.doCall (s : State) (i target mask ret : Nat) : State × Option Trap :=
  let c := s.core i
  let f := c.frame mask ret
  if c.sp < c.splim + 4 * f.length then (s, some (trapOf 5))
  else
    match State.pushAll i f s with
    | (s, some t) => (s, some t)
    | (s, none) => (s.modCore i (fun c => { c with pc := target }), none)

/-- A return after its delay slots: STACK where the frame would pass the end of the core's own memory. -/
def State.doRet (s : State) (i : Nat) : State × Option Trap :=
  let sp := (s.core i).sp
  let top := ownBase i + ownSize i
  if top < sp + 8 then (s, some (trapOf 5))
  else
    match s.stackRead i sp with
    | (s, _, some t) => (s, some t)
    | (s, m, none) =>
      let regs := bitList 16 m
      if top < sp + 8 + 4 * regs.length then (s, some (trapOf 5))
      else
        match State.popRegs i regs (s.modCore i (fun c => { c with sp := sp + 4 })) with
        | (s, some t) => (s, some t)
        | (s, none) =>
          let a := (s.core i).sp
          match s.stackRead i a with
          | (s, _, some t) => (s, some t)
          | (s, r, none) =>
            match targetTrap i r with
            | some t => (s, some t)
            | none => (s.modCore i (fun c => { c with sp := a + 4, pc := r }), none)

/-- Control passes to the pending target; `ret` is the word after the last delay slot. -/
def State.transfer (s : State) (i ret : Nat) : State × Option Trap :=
  let f := (s.core i).flow
  let s := s.modCore i (fun c => { c with flow := none, slots := 0, pc := ret })
  match f with
  | some (.jump t) => (s.modCore i (fun c => { c with pc := t }), none)
  | some (.call t m) => s.doCall i t m ret
  | some .ret => s.doRet i
  | none => (s, none)

/-- A branch is taken (14 R372). -/
def State.branch (s : State) (i : Nat) (f : Flow) : State := s.modCore i (fun c => { c with flow := some f, slots := delayOf i })

/-- rte (14 R381): traps are unmasked; the delay slots that the trap interrupted are still to run. -/
def State.doRte (s : State) : State :=
  s.modCore 0 (fun c => { c with masked := false, pc := c.epc, slots := c.eds, flow := if c.eds = 0 then none else match c.eflow with | some (.jump _) => some (.jump c.etgt) | some f => some f | none => some (.jump c.etgt) })

/-! ### Events (14 R375, R376) -/

/-- Pending events of core i; the model steps and sample pairs of a C core that have passed since they were last returned count. -/
def State.pendingEv (s : State) (i : Nat) : Nat :=
  let c := s.core i
  c.evPend ||| (if isC i && c.stepAt < s.now / 20000 * 20000 then 16 else 0) ||| (if isC i && s.pd 15 && c.sampAt < s.now / 800 * 800 then 32 else 0)

/-- A wait ends with the bits it returns, which are cleared (14 R375). The watchdog counts from here (14 R386). -/
def State.endWait (s : State) (i r : Nat) : State :=
  let keep := fun (v : Nat) => v - (v &&& r)
  s.modCore i (fun c => { c with st := .running, evR := r, evPend := keep c.evPend, stepAt := if r.testBit 4 then s.now else c.stepAt, sampAt := if r.testBit 5 then s.now else c.sampAt, busyAt := s.now })

/-- post may set the SOFT event of the core with a number (14 R375). -/
def postTo (i v : Nat) : Option Nat :=
  match coreOfNo v with
  | some j => if i = 0 || (isA i && isA j) then some j else none
  | none => none

/-! ### The coprocessors of S (14 R377) -/

/-- Bytes that a unit of S reads over the fabric, up to the first error response; the error is taken with the next word (02 R38). The sizes of
the unit's accesses are not stated: bytes, in rising order, DESIGN CHOICE, entry 30. -/
def State.bytesFrom (s : State) : Nat → Nat → List Byte → State × List Byte
  | 0, _, out => (s, out)
  | n + 1, a, out =>
    let (s, e, d) := s.superAccess a 1 false 0
    if e ≠ 0 then (s.lateErr 0 e a, out) else State.bytesFrom s n (a + 1) (out ++ [BitVec.ofNat 8 d])

/-- Bytes that a unit of S writes over the fabric, up to the first error response. -/
def State.bytesTo (s : State) (a : Nat) : List Byte → State
  | [] => s
  | b :: l =>
    let (s, e, _) := s.superAccess a 1 true b.toNat
    if e ≠ 0 then s.lateErr 0 e a else State.bytesTo s (a + 1) l

/-- absorb (14 R377): an absorb after a squeeze starts a new message. -/
def State.shakeAbsorb (s : State) (a : Nat) : State :=
  let (s, m) := s.bytesFrom (s.core 0).shLen a []
  let s := { s with xi := { s.xi with shIn := (if s.xi.shOut = 0 then s.xi.shIn else []) ++ m, shOut := 0 } }
  s.modCore 0 (fun c => { c with shR := (Config.unitResult s.now 0x32F).toNat })

/-- squeeze (14 R377). -/
def State.shakeSqueeze (s : State) (a : Nat) : State :=
  let c := s.core 0
  let x := s.xi
  let s := s.bytesTo a ((List.range c.shLen).map (fun k => Config.shakeOut c.shMode x.shIn (x.shOut + k)))
  let s := { s with xi := { s.xi with shOut := x.shOut + c.shLen } }
  s.modCore 0 (fun c => { c with shR := (Config.unitResult s.now 0x32F).toNat })

/-- enc (14 R377): 16 bytes under the key of a slot. -/
def State.aesEncrypt (s : State) (a : Nat) : State :=
  let c := s.core 0
  let (s, m) := s.bytesFrom 16 c.aesSrc []
  let s := if m.length = 16 then s.bytesTo a (leBytes 16 (Config.aesOut c.aesKey m).toNat) else s
  s.modCore 0 (fun c => { c with aesR := (Config.unitResult s.now 0x33F).toNat })

/-! ### The power die and the valve stage (14 R366) -/

/-- die.gate (14 R366): a value above 5 names no gate command and changes nothing. -/
def gateOf (v : Nat) (old : Gate) : Gate :=
  if v = 0 then .off else if v = 1 then .drive .high else if v = 2 then .drive .low else if v = 3 then .drive .fwd
  else if v = 4 then .drive .rev else if v = 5 then .brake else old

/-- vlv.phase (14 R366): a member that is in a phase moves to the one named (entry 31). -/
def State.vlvMove (s : State) (m v : Nat) : State :=
  let k := (Config.vlvPhase (BitVec.ofNat 32 v)).val
  let st := (s.valve m).st
  if (st = .boost || st = .peak || st = .hold) && k ≠ 0 then
    s.modValve m (fun x => { x with st := if k = 1 then .boost else if k = 2 then .peak else .hold, phaseAt := s.now })
  else s

/-! ### Triggers -/

/-- A trigger makes its unit wait: the LSU for its load or its exclusive, a ninth store (14 R367, R369). -/
def State.trigStall (s : State) (i p : Nat) : Bool :=
  let c := s.core i
  unitOf p = 0x14 && (c.ldWait.isSome || c.exWait || (0x148 ≤ p && p ≤ 0x14B && 8 ≤ ((s.pendingReqs i).filter (·.write)).length))

/-- Size in bytes of an LSU trigger's access, and whether it writes. -/
def lsuShape (p : Nat) : Nat × Bool :=
  if p = 0x142 || p = 0x143 then (1, false) else if p = 0x144 || p = 0x145 then (2, false) else if p = 0x146 then (4, false)
  else if p = 0x147 then (8, false) else if p = 0x148 then (1, true) else if p = 0x149 then (2, true) else if p = 0x14A then (4, true)
  else if p = 0x14B then (8, true) else if p = 0x14C then (4, false) else (4, true)

/-- The save mask of a call, and whether its source is a short immediate with bits 16 and 17 clear (14 R373). -/
def callMask (v : Nat) (short : Bool) : Option Nat := if short && v < 2 ^ 16 then some v else none

/-- Traps that a trigger raises, with the operands of its word written (14 R368 to R375, R379). -/
def State.trigTraps (s : State) (i p v : Nat) (short : Bool) : List Trap :=
  let c := s.core i
  let slot : List Trap := if ((0x182 ≤ p && p ≤ 0x18B) || p = 0x1D0) && c.slots ≠ 0 then [trapOf 2] else []
  let own : List Trap :=
    if 0x124 ≤ p && p ≤ 0x127 then (if v = 0 then [trapOf 7] else [])
    else if 0x142 ≤ p && p ≤ 0x14D then (s.accTrap i v (lsuShape p).1 (lsuShape p).2).toList
    else if 0x182 ≤ p && p ≤ 0x187 then (if branchTaken p c.brA v then (targetTrap i c.brT).toList else [])
    else if p = 0x188 then (targetTrap i v).toList
    else if p = 0x189 then
      (match callMask v short with
       | some m => if 5 ≤ i && m ≠ 0 then [trapOf 2] else (targetTrap i c.brT).toList
       | none => [trapOf 2])
    else if p = 0x1C1 then (if 128 ≤ c.evMask then [trapOf 2] else [])
    else if p = 0x1C2 then (if (postTo i v).isNone then [trapOf 3] else [])
    else if p = 0x1D0 then [trapOf (v % 256)]
    else []
  slot ++ own

/-- An LSU trigger. -/
def State.fireLsu (s : State) (i p v : Nat) : State :=
  let c := s.core i
  let n := (lsuShape p).1
  if p = 0x14E then s.modCore i (fun c => { c with fence := true })
  else if (lsuShape p).2 then s.storeTo i v n ((c.lsuD + (if n = 8 then c.lsuDh * 2 ^ 32 else 0)) % 2 ^ (8 * n)) (p = 0x14D)
  else s.loadFrom i v n (p = 0x143 || p = 0x145) (p = 0x14C)

/-- A BR trigger. -/
def State.fireBr (s : State) (i p v : Nat) : State :=
  let c := s.core i
  if p = 0x188 then s.branch i (.jump v)
  else if p = 0x189 then s.branch i (.call c.brT (v % 2 ^ 16))
  else if p = 0x18A then s.branch i .ret
  else if p = 0x18B then s.doRte
  else if branchTaken p c.brA v then s.branch i (.jump c.brT) else s

/-- A trigger of the die and valve-stage units. -/
def State.firePlant (s : State) (i p v : Nat) : State :=
  let m := 4 * (i - 69) + (s.core i).vlvSel % 4
  if p = 0x201 then s.modChan (i - 5) (fun c => if 5 < v then c else c.toGate (gateOf v c.gate) (.set (gateOf v c.gate)) s.now)
  else if p = 0x202 then s.modCore i (fun c => { c with dieRb := v })
  else if p = 0x203 then s.modCore i (fun c => { c with dieEv := c.dieEv - (c.dieEv &&& v) })
  else if p = 0x241 then s.modValve m (fun x => { x with level := v })
  else if p = 0x242 then s.vlvMove m v
  else if p = 0x243 then s.modBank (i - 69) (fun b => { b with rail := v })
  else s

/-- A trigger of the coprocessor block. -/
def State.fireCo (s : State) (i p v : Nat) : State :=
  let c := s.core i
  if p = 0x301 then s.modCore i (fun c => c.crcInit v)
  else if p = 0x302 then s.modCore i (Core.crcFeeds 1 v)
  else if p = 0x303 then s.modCore i (Core.crcFeeds 2 v)
  else if p = 0x304 then s.modCore i (Core.crcFeeds 4 v)
  else if p = 0x311 then s.modCore i (fun c => { c with codR := (Config.unitResult s.now 0x31F).toNat })
  else if p = 0x322 then s.shakeAbsorb v
  else if p = 0x323 then s.shakeSqueeze v
  else if p = 0x332 then s.aesEncrypt v
  else if p = 0x341 then
    let (s, r) := s.dmaStart i v c.dmaD
    s.modCore i (fun c => { c with dmaR := r })
  else if p = 0x342 then s.dmaStop i v
  else s

/-- A trigger that raises no trap starts its unit (14 R365). -/
def State.fire (s : State) (i p v : Nat) : State :=
  if p < 0x110 then s.modCore i (fun c => { c with aluR := c.aluR.setIfInBounds 0 (aluResult (p % 16) (c.aluO.toList.getD 0 0) v) })
  else if p < 0x120 then s.modCore i (fun c => { c with aluR := c.aluR.setIfInBounds 1 (aluResult (p % 16) (c.aluO.toList.getD 1 0) v) })
  else if p < 0x140 then s.modCore i (fun c => { c with mulR := mulResult (p % 16) c.mulO v })
  else if p < 0x160 then s.fireLsu i p v
  else if p < 0x190 then s.fireBr i p v
  else if p = 0x1C1 then s.modCore i (fun c => { c with st := .waiting, waitAt := s.now, waitFor := if v = 0 then none else some v })
  else if p = 0x1C2 then (match postTo i v with | some j => s.raiseEv j 6 | none => s)
  else if 0x300 ≤ p then s.fireCo i p v
  else s.firePlant i p v

/-! ### Instruction words (14 R364, R365) -/

/-- One 32-bit word at a program counter, or the trap of its fetch (14 R362, R379, 15 R397). -/
def State.fetchAt (s : State) (i pc : Nat) : State × Except Trap Nat :=
  let a := if i = 0 then pc else ownBase i + pc
  let place := if i = 0 then regionOf a = some 2 || regionOf a = some 0 || regionOf a = some 9 || regionOf a = some 10 else pc < ownSize i
  if pc % 4 ≠ 0 then (s, .error (trapOf 2))
  else if !place then (s, .error (if i = 0 then ⟨6, if (addrDomain a).isNone then 1 else 3, a⟩ else ⟨4, 0, pc⟩))
  else
    let port := if isOwn i a then 9 else 0
    let dw := a / 8 * 8
    if synOf (s.synAt dw) = .bad then (s.memError ((regionOf a).getD 0) 4 (s.synAt dw) port dw, .error ⟨1, 0, dw⟩)
    else
      let (s, _, d) := s.memRead port a 4
      (s, .ok d)

/-- The moves of the word at a program counter: at most `n`, up to the first with STOP (14 R364). -/
def State.fetchMoves (i : Nat) : Nat → Nat → State → List Move → State × Except Trap (List Move)
  | 0, _, s, _ => (s, .error (trapOf 2))
  | n + 1, pc, s, l =>
    match s.fetchAt i pc with
    | (s, .error t) => (s, .error t)
    | (s, .ok w) =>
      let m := moveOf w
      if m.stop then (s, .ok (l ++ [m])) else State.fetchMoves i n (pc + 4) s (l ++ [m])

/-- Some value stands twice in a list. -/
def hasTwice (l : List Nat) : Bool := !(decide l.Nodup)

/-- Trap of naming a port as a source. -/
def srcTrap (i : Nat) : Src → Option Trap
  | .port p => match portKind i p with
    | .reg => none
    | .ro => none
    | .result => none
    | .denied => some (trapOf 3)
    | _ => some (trapOf 2)
  | _ => none

/-- Trap of naming a port as a destination. -/
def dstTrap (i p : Nat) : Option Trap :=
  match portKind i p with
  | .reg => none
  | .operand => none
  | .trigger => none
  | .denied => some (trapOf 3)
  | _ => some (trapOf 2)

/-- Traps that the coding of a word raises. -/
def wordTraps (i : Nat) (ms : List Move) : List Trap :=
  let dsts := ms.map (·.dst)
  let units := (dsts.filter (fun p => portKind i p = .trigger)).map unitOf
  (if ms.any (·.bad) || hasTwice dsts || hasTwice units then [trapOf 2] else [])
    ++ ms.filterMap (fun m => srcTrap i m.src) ++ dsts.filterMap (dstTrap i)

/-- A move reads one of the ports. -/
def readsPort (ms : List Move) (ps : List Nat) : Bool :=
  ms.any (fun m => match m.src with | .port p => ps.contains p | _ => false)

/-- The word waits: for a load or exclusive that it reads, or for a unit that it triggers (14 R367). -/
def State.wordStalls (s : State) (i : Nat) (ms : List Move) : Bool :=
  let c := s.core i
  (c.ldWait.isSome && readsPort ms [0x158, 0x159]) || (c.exWait && readsPort ms [0x15A]) || ms.any (fun m => portKind i m.dst = .trigger && s.trigStall i m.dst)

/-- A source is a short immediate. -/
def isShort : Src → Bool
  | .imm _ b => b
  | _ => false

/-- Registers and operand ports of a word take their values; a read of now latches nowh; die.lim reaches the die (14 R365, R366). -/
def State.writePorts (s : State) (i : Nat) (ms : List Move) (vs : List Nat) : State :=
  let c := s.core i
  let c := if readsPort ms [0xE5] then { c with nowh := s.now / 2 ^ 32 % 2 ^ 32 } else c
  let ws := (ms.zip vs).filter (fun p => portKind i p.1.dst ≠ .trigger)
  let s := s.setCore i (ws.foldl (fun c p => c.setPort p.1.dst p.2) c)
  match ws.find? (fun p => p.1.dst = 0x200) with
  | some p => s.modChan (i - 5) (fun c => { c with limit := p.2 })
  | none => s

/-- After its triggers, a word moves the program counter on, or ends the delay slots of an earlier branch (14 R372). -/
def State.afterWord (s : State) (i pc slots len : Nat) (rte : Bool) : State × Option Trap :=
  let next := (pc + 4 * len) % 2 ^ 32
  if rte then (s, none)
  else if slots = 0 then (s.modCore i (fun c => { c with pc := next }), none)
  else if slots = 1 then s.transfer i next
  else (s.modCore i (fun c => { c with pc := next, slots := slots - 1 }), none)

/-- The moves of a word run, or it traps with no effect, or it waits (14 R365, R379). -/
def State.runMoves (s : State) (i : Nat) (ms : List Move) : State :=
  let c := s.core i
  let early := wordTraps i ms
  if early.any (fun t => t.cause ≤ 2) then s.trapCore i (trapOf 2) false
  else if s.wordStalls i ms then s
  else
    let vs := ms.map (fun m => s.srcVal i m.src)
    let s1 := s.writePorts i ms vs
    let trigs := (ms.zip vs).filter (fun p => portKind i p.1.dst = .trigger)
    let bad : List Trap := match c.ldErr with
      | some (code, a) => if readsPort ms [0x158, 0x159] then [⟨6, code, a⟩] else []
      | none => []
    match lowestTrap (early ++ bad ++ (trigs.map (fun p => s1.trigTraps i p.1.dst p.2 (isShort p.1.src))).flatten) with
    | some t => (if bad = [t] then s else s.recordTrap i t).trapCore i t false
    | none =>
      let s2 := trigs.foldl (fun s p => s.fire i p.1.dst p.2) s1
      match s2.afterWord i c.pc c.slots ms.length (ms.any (fun m => m.dst = 0x18B)) with
      | (_, some t) => (s.recordTrap i t).trapCore i t false
      | (s3, none) => if c.stepped && (s3.core i).st = .running then s3.trapCore i (trapOf 9) false else s3

/-- The oldest late write error is taken, with ASYNC (14 R379). -/
def State.takeLate (s : State) (i code addr : Nat) : State :=
  (s.modCore i (fun c => { c with late := c.late.drop 1 })).trapCore i ⟨6, code, addr⟩ true

/-- A breakpoint of core i stands at its program counter (14 R387). -/
def State.atBreak (s : State) (i : Nat) : Bool :=
  let d := s.dbgCore i
  let pc := (s.core i).pc
  i < 5 && ((d.ctrl.testBit 1 && d.brk0 = pc) || (d.ctrl.testBit 2 && d.brk1 = pc))

/-- A fence holds the core until every earlier access has its response (14 R369). -/
def State.fenced (s : State) (i : Nat) : Bool := (s.core i).fence && !(s.pendingReqs i).isEmpty

/-- S fetches from system SRAM, which the partner's lock holds (13 R346): it waits. -/
def State.fetchHeld (s : State) (i : Nat) : Bool := i = 0 && regionOf (s.core 0).pc = some 0 && s.twin.lock.isSome

/-- Core i issues the word at its program counter. -/
def State.issue (s : State) (i : Nat) : State :=
  let c := s.core i
  if c.st ≠ .running then s
  else
    match c.late with
    | (code, addr) :: _ => s.takeLate i code addr
    | [] =>
      if i < 5 && (s.dbgCore i).ctrl.testBit 0 && !c.stepped then s.debugHalt i
      else if s.atBreak i && !c.stepped then s.trapCore i (trapOf 9) false
      else if s.fenced i || s.fetchHeld i then s
      else
        match State.fetchMoves i (busesOf i) c.pc (s.modCore i (fun c => { c with fence := false })) [] with
        | (s, .error t) => (s.recordTrap i t).trapCore i t false
        | (s, .ok ms) => s.runMoves i ms

/-- WORD_ISSUE (14 R364, R365). -/
def execWordIssue (g : Lapse) (k : CoreId) (s : State) : Host.Outcome State Fault Refusal :=
  .next ((s.pass g).issue (coreIx k))

/-- A single trigger of core i: what the move does whose value is v, apart from the program counter's advance. -/
def State.trigger (s : State) (i p v : Nat) (short : Bool) : State :=
  if (s.core i).st ≠ .running || s.fenced i then s
  else
    match dstTrap i p with
    | some t => s.trapCore i t false
    | none =>
      if s.trigStall i p then s
      else
        match lowestTrap (s.trigTraps i p v short) with
        | some t => (s.recordTrap i t).trapCore i t false
        | none => (s.modCore i (fun c => { c with fence := false })).fire i p v

/-- Base of an ALU's ports. -/
def aluBase : Alu → Nat
  | .alu0 => 0x100
  | .alu1 => 0x110

/-- ADD (14 R368). -/
def execAdd (g : Lapse) (k : CoreId) (u : Alu) (v : Word) (s : State) : Host.Outcome State Fault Refusal :=
  .next ((s.pass g).trigger (coreIx k) (aluBase u + 1) v.toNat false)

/-- SUB (14 R368). -/
def execSub (g : Lapse) (k : CoreId) (u : Alu) (v : Word) (s : State) : Host.Outcome State Fault Refusal :=
  .next ((s.pass g).trigger (coreIx k) (aluBase u + 2) v.toNat false)

/-- AND (14 R368). -/
def execAnd (g : Lapse) (k : CoreId) (u : Alu) (v : Word) (s : State) : Host.Outcome State Fault Refusal :=
  .next ((s.pass g).trigger (coreIx k) (aluBase u + 3) v.toNat false)

/-- OR (14 R368). -/
def execOr (g : Lapse) (k : CoreId) (u : Alu) (v : Word) (s : State) : Host.Outcome State Fault Refusal :=
  .next ((s.pass g).trigger (coreIx k) (aluBase u + 4) v.toNat false)

/-- XOR (14 R368). -/
def execXor (g : Lapse) (k : CoreId) (u : Alu) (v : Word) (s : State) : Host.Outcome State Fault Refusal :=
  .next ((s.pass g).trigger (coreIx k) (aluBase u + 5) v.toNat false)

/-- SHL (14 R368). -/
def execShl (g : Lapse) (k : CoreId) (u : Alu) (v : Word) (s : State) : Host.Outcome State Fault Refusal :=
  .next ((s.pass g).trigger (coreIx k) (aluBase u + 6) v.toNat false)

/-- SHR (14 R368). -/
def execShr (g : Lapse) (k : CoreId) (u : Alu) (v : Word) (s : State) : Host.Outcome State Fault Refusal :=
  .next ((s.pass g).trigger (coreIx k) (aluBase u + 7) v.toNat false)

/-- SAR (14 R368). -/
def execSar (g : Lapse) (k : CoreId) (u : Alu) (v : Word) (s : State) : Host.Outcome State Fault Refusal :=
  .next ((s.pass g).trigger (coreIx k) (aluBase u + 8) v.toNat false)

/-- MIN (14 R368). -/
def execMin (g : Lapse) (k : CoreId) (u : Alu) (v : Word) (s : State) : Host.Outcome State Fault Refusal :=
  .next ((s.pass g).trigger (coreIx k) (aluBase u + 9) v.toNat false)

/-- MAX (14 R368). -/
def execMax (g : Lapse) (k : CoreId) (u : Alu) (v : Word) (s : State) : Host.Outcome State Fault Refusal :=
  .next ((s.pass g).trigger (coreIx k) (aluBase u + 10) v.toNat false)

/-- MINU (14 R368). -/
def execMinu (g : Lapse) (k : CoreId) (u : Alu) (v : Word) (s : State) : Host.Outcome State Fault Refusal :=
  .next ((s.pass g).trigger (coreIx k) (aluBase u + 11) v.toNat false)

/-- MAXU (14 R368). -/
def execMaxu (g : Lapse) (k : CoreId) (u : Alu) (v : Word) (s : State) : Host.Outcome State Fault Refusal :=
  .next ((s.pass g).trigger (coreIx k) (aluBase u + 12) v.toNat false)

/-- MUL (14 R368). -/
def execMul (g : Lapse) (k : CoreId) (v : Word) (s : State) : Host.Outcome State Fault Refusal :=
  .next ((s.pass g).trigger (coreIx k) 0x121 v.toNat false)

/-- MULH (14 R368). -/
def execMulh (g : Lapse) (k : CoreId) (v : Word) (s : State) : Host.Outcome State Fault Refusal :=
  .next ((s.pass g).trigger (coreIx k) 0x122 v.toNat false)

/-- MULHU (14 R368). -/
def execMulhu (g : Lapse) (k : CoreId) (v : Word) (s : State) : Host.Outcome State Fault Refusal :=
  .next ((s.pass g).trigger (coreIx k) 0x123 v.toNat false)

/-- DIV (14 R368). -/
def execDiv (g : Lapse) (k : CoreId) (v : Word) (s : State) : Host.Outcome State Fault Refusal :=
  .next ((s.pass g).trigger (coreIx k) 0x124 v.toNat false)

/-- DIVU (14 R368). -/
def execDivu (g : Lapse) (k : CoreId) (v : Word) (s : State) : Host.Outcome State Fault Refusal :=
  .next ((s.pass g).trigger (coreIx k) 0x125 v.toNat false)

/-- REM (14 R368). -/
def execRem (g : Lapse) (k : CoreId) (v : Word) (s : State) : Host.Outcome State Fault Refusal :=
  .next ((s.pass g).trigger (coreIx k) 0x126 v.toNat false)

/-- REMU (14 R368). -/
def execRemu (g : Lapse) (k : CoreId) (v : Word) (s : State) : Host.Outcome State Fault Refusal :=
  .next ((s.pass g).trigger (coreIx k) 0x127 v.toNat false)

/-- LD8U (14 R369). -/
def execLd8u (g : Lapse) (k : CoreId) (v : Word) (s : State) : Host.Outcome State Fault Refusal :=
  .next ((s.pass g).trigger (coreIx k) 0x142 v.toNat false)

/-- LD8S (14 R369). -/
def execLd8s (g : Lapse) (k : CoreId) (v : Word) (s : State) : Host.Outcome State Fault Refusal :=
  .next ((s.pass g).trigger (coreIx k) 0x143 v.toNat false)

/-- LD16U (14 R369). -/
def execLd16u (g : Lapse) (k : CoreId) (v : Word) (s : State) : Host.Outcome State Fault Refusal :=
  .next ((s.pass g).trigger (coreIx k) 0x144 v.toNat false)

/-- LD16S (14 R369). -/
def execLd16s (g : Lapse) (k : CoreId) (v : Word) (s : State) : Host.Outcome State Fault Refusal :=
  .next ((s.pass g).trigger (coreIx k) 0x145 v.toNat false)

/-- LD32 (14 R369). -/
def execLd32 (g : Lapse) (k : CoreId) (v : Word) (s : State) : Host.Outcome State Fault Refusal :=
  .next ((s.pass g).trigger (coreIx k) 0x146 v.toNat false)

/-- LD64 (14 R369). -/
def execLd64 (g : Lapse) (k : CoreId) (v : Word) (s : State) : Host.Outcome State Fault Refusal :=
  .next ((s.pass g).trigger (coreIx k) 0x147 v.toNat false)

/-- ST8 (14 R369). -/
def execSt8 (g : Lapse) (k : CoreId) (v : Word) (s : State) : Host.Outcome State Fault Refusal :=
  .next ((s.pass g).trigger (coreIx k) 0x148 v.toNat false)

/-- ST16 (14 R369). -/
def execSt16 (g : Lapse) (k : CoreId) (v : Word) (s : State) : Host.Outcome State Fault Refusal :=
  .next ((s.pass g).trigger (coreIx k) 0x149 v.toNat false)

/-- ST32 (14 R369). -/
def execSt32 (g : Lapse) (k : CoreId) (v : Word) (s : State) : Host.Outcome State Fault Refusal :=
  .next ((s.pass g).trigger (coreIx k) 0x14A v.toNat false)

/-- ST64 (14 R369). -/
def execSt64 (g : Lapse) (k : CoreId) (v : Word) (s : State) : Host.Outcome State Fault Refusal :=
  .next ((s.pass g).trigger (coreIx k) 0x14B v.toNat false)

/-- LDX (14 R370). -/
def execLdx (g : Lapse) (k : CoreId) (v : Word) (s : State) : Host.Outcome State Fault Refusal :=
  .next ((s.pass g).trigger (coreIx k) 0x14C v.toNat false)

/-- STX (14 R370). -/
def execStx (g : Lapse) (k : CoreId) (v : Word) (s : State) : Host.Outcome State Fault Refusal :=
  .next ((s.pass g).trigger (coreIx k) 0x14D v.toNat false)

/-- FENCE (14 R369). -/
def execFence (g : Lapse) (k : CoreId) (v : Word) (s : State) : Host.Outcome State Fault Refusal :=
  .next ((s.pass g).trigger (coreIx k) 0x14E v.toNat false)

/-- BEQ (14 R371). -/
def execBeq (g : Lapse) (k : CoreId) (v : Word) (s : State) : Host.Outcome State Fault Refusal :=
  .next ((s.pass g).trigger (coreIx k) 0x182 v.toNat false)

/-- BNE (14 R371). -/
def execBne (g : Lapse) (k : CoreId) (v : Word) (s : State) : Host.Outcome State Fault Refusal :=
  .next ((s.pass g).trigger (coreIx k) 0x183 v.toNat false)

/-- BLT (14 R371). -/
def execBlt (g : Lapse) (k : CoreId) (v : Word) (s : State) : Host.Outcome State Fault Refusal :=
  .next ((s.pass g).trigger (coreIx k) 0x184 v.toNat false)

/-- BGE (14 R371). -/
def execBge (g : Lapse) (k : CoreId) (v : Word) (s : State) : Host.Outcome State Fault Refusal :=
  .next ((s.pass g).trigger (coreIx k) 0x185 v.toNat false)

/-- BLTU (14 R371). -/
def execBltu (g : Lapse) (k : CoreId) (v : Word) (s : State) : Host.Outcome State Fault Refusal :=
  .next ((s.pass g).trigger (coreIx k) 0x186 v.toNat false)

/-- BGEU (14 R371). -/
def execBgeu (g : Lapse) (k : CoreId) (v : Word) (s : State) : Host.Outcome State Fault Refusal :=
  .next ((s.pass g).trigger (coreIx k) 0x187 v.toNat false)

/-- JMP (14 R371). -/
def execJmp (g : Lapse) (k : CoreId) (v : Word) (s : State) : Host.Outcome State Fault Refusal :=
  .next ((s.pass g).trigger (coreIx k) 0x188 v.toNat false)

/-- CALL (14 R373): a source other than a short immediate raises ILLEGAL. -/
def execCall (g : Lapse) (k : CoreId) (imm : CallSrc) (s : State) : Host.Outcome State Fault Refusal :=
  .next (
    match imm with
    | .imm v => (s.pass g).trigger (coreIx k) 0x189 (shortImm v.toNat) true
    | .other => (s.pass g).trigger (coreIx k) 0x189 0 false)

/-- RET (14 R374). -/
def execRet (g : Lapse) (k : CoreId) (v : Word) (s : State) : Host.Outcome State Fault Refusal :=
  .next ((s.pass g).trigger (coreIx k) 0x18A v.toNat false)

/-- RTE (14 R381). -/
def execRte (g : Lapse) (k : CoreId) (v : Word) (s : State) : Host.Outcome State Fault Refusal :=
  .next ((s.pass g).trigger (coreIx k) 0x18B v.toNat false)

/-- WAIT (14 R375). -/
def execWait (g : Lapse) (k : CoreId) (v : Word) (s : State) : Host.Outcome State Fault Refusal :=
  .next ((s.pass g).trigger (coreIx k) 0x1C1 v.toNat false)

/-- WAIT_END (14 R375): an event in mask is pending, or the time has passed; an event counts before the timeout. A core that was to halt does so now. -/
def execWaitEnd (g : Lapse) (k : CoreId) (s : State) : Host.Outcome State Fault Refusal :=
  let s := s.pass g
  let i := coreIx k
  let c := s.core i
  let r := s.pendingEv i &&& c.evMask
  let late := (c.waitFor.map (fun t => s.expired c.waitAt t)).getD false
  .next (
    if c.st ≠ .waiting || (r = 0 && !late) then s
    else
      let s := s.endWait i r
      if c.stepped then s.trapCore i (trapOf 9) false else s)

/-- POST (14 R375). -/
def execPost (g : Lapse) (k : CoreId) (v : Word) (s : State) : Host.Outcome State Fault Refusal :=
  .next ((s.pass g).trigger (coreIx k) 0x1C2 v.toNat false)

/-- SOFTWARETRAP (14 R379). -/
def execSoftwareTrap (g : Lapse) (k : CoreId) (v : Word) (s : State) : Host.Outcome State Fault Refusal :=
  .next ((s.pass g).trigger (coreIx k) 0x1D0 v.toNat false)

/-- LATE_WRITE_ERROR (14 R379, 02 R38): the error of a posted write is taken at a word boundary. One that no response of the model has brought is
itself the response, and is recorded in DBG for S and An. -/
def execLateWriteError (g : Lapse) (k : CoreId) (code addr : Nat) (s : State) : Host.Outcome State Fault Refusal :=
  let s := s.pass g
  let i := coreIx k
  .next (
    if (s.core i).st ≠ .running || code = 0 || 7 < code then s
    else
      match (s.core i).late with
      | e :: _ => if e = (code, addr) then s.takeLate i code addr else s
      | [] => (if i < 5 then s.fabErr code (corePort i).1 addr else s).takeLate i code addr)

/-- CRCINIT (14 R378). -/
def execCrcInit (g : Lapse) (k : CoreId) (v : Word) (s : State) : Host.Outcome State Fault Refusal :=
  .next ((s.pass g).trigger (coreIx k) 0x301 v.toNat false)

/-- CRCB8 (14 R378). -/
def execCrcB8 (g : Lapse) (k : CoreId) (v : Word) (s : State) : Host.Outcome State Fault Refusal :=
  .next ((s.pass g).trigger (coreIx k) 0x302 v.toNat false)

/-- CRCB16 (14 R378). -/
def execCrcB16 (g : Lapse) (k : CoreId) (v : Word) (s : State) : Host.Outcome State Fault Refusal :=
  .next ((s.pass g).trigger (coreIx k) 0x303 v.toNat false)

/-- CRCB32 (14 R378). -/
def execCrcB32 (g : Lapse) (k : CoreId) (v : Word) (s : State) : Host.Outcome State Fault Refusal :=
  .next ((s.pass g).trigger (coreIx k) 0x304 v.toNat false)

/-- CODECSTAT (14 R377). -/
def execCodecStat (g : Lapse) (k : CoreId) (v : Word) (s : State) : Host.Outcome State Fault Refusal :=
  .next ((s.pass g).trigger (coreIx k) 0x311 v.toNat false)

/-- SHAKEABSORB (14 R377). -/
def execShakeAbsorb (g : Lapse) (k : CoreId) (v : Word) (s : State) : Host.Outcome State Fault Refusal :=
  .next ((s.pass g).trigger (coreIx k) 0x322 v.toNat false)

/-- SHAKESQUEEZE (14 R377). -/
def execShakeSqueeze (g : Lapse) (k : CoreId) (v : Word) (s : State) : Host.Outcome State Fault Refusal :=
  .next ((s.pass g).trigger (coreIx k) 0x323 v.toNat false)

/-- AESENC (14 R377). -/
def execAesEnc (g : Lapse) (k : CoreId) (v : Word) (s : State) : Host.Outcome State Fault Refusal :=
  .next ((s.pass g).trigger (coreIx k) 0x332 v.toNat false)

/-- DMAGO (14 R377; 15 R405). -/
def execDmaGo (g : Lapse) (k : CoreId) (v : Word) (s : State) : Host.Outcome State Fault Refusal :=
  .next ((s.pass g).trigger (coreIx k) 0x341 v.toNat false)

/-- DMASTOP (14 R377; 15 R405). -/
def execDmaStop (g : Lapse) (k : CoreId) (v : Word) (s : State) : Host.Outcome State Fault Refusal :=
  .next ((s.pass g).trigger (coreIx k) 0x342 v.toNat false)

/-- DIEGATE (14 R366). -/
def execDieGate (g : Lapse) (n : Fin 64) (v : Word) (s : State) : Host.Outcome State Fault Refusal :=
  .next ((s.pass g).trigger (5 + n) 0x201 v.toNat false)

/-- DIERB (14 R366). -/
def execDieRb (g : Lapse) (n : Fin 64) (v : Word) (s : State) : Host.Outcome State Fault Refusal :=
  .next ((s.pass g).trigger (5 + n) 0x202 v.toNat false)

/-- DIEACK (14 R366). -/
def execDieAck (g : Lapse) (n : Fin 64) (v : Word) (s : State) : Host.Outcome State Fault Refusal :=
  .next ((s.pass g).trigger (5 + n) 0x203 v.toNat false)

/-- VLVLEVEL (14 R366). -/
def execVlvLevel (g : Lapse) (b : Fin 4) (v : Word) (s : State) : Host.Outcome State Fault Refusal :=
  .next ((s.pass g).trigger (69 + b) 0x241 v.toNat false)

/-- VLVPHASE (14 R366). -/
def execVlvPhase (g : Lapse) (b : Fin 4) (v : Word) (s : State) : Host.Outcome State Fault Refusal :=
  .next ((s.pass g).trigger (69 + b) 0x242 v.toNat false)

/-- VLVRAIL (14 R366). -/
def execVlvRail (g : Lapse) (b : Fin 4) (v : Word) (s : State) : Host.Outcome State Fault Refusal :=
  .next ((s.pass g).trigger (69 + b) 0x243 v.toNat false)

/-- APPLET_WATCHDOG (14 R386): WDOG ms without a wait. -/
def execAppletWatchdog (g : Lapse) (n : Fin 4) (s : State) : Host.Outcome State Fault Refusal :=
  let s := s.pass g
  let w := s.pf Pf.appCfg_WDOG n
  .next (if w ≠ 0 && (s.core (1 + n)).st = .running && s.expired (s.core (1 + n)).busyAt (msTk w) then s.trapCore (1 + n) (trapOf 8) false else s)

/-- APPLET_RESTART (14 R386): 20,000,000 tk after a trap. -/
def execAppletRestart (g : Lapse) (n : Fin 4) (s : State) : Host.Outcome State Fault Refusal :=
  let s := s.pass g
  .next (
    match (s.applet n).restart with
    | some t => if s.expired t 20000000 && s.pb Pf.appCfg_RUN n && s.pd 2 then s.startApplet n else s
    | none => s)

/-- DBG_CORE_STEP (14 R387): a write of STEP; the halted core runs one word, then BREAK. -/
def execDbgCoreStep (g : Lapse) (ini : Initiator) (k : Fin 5) (s : State) : Host.Outcome State Fault Refusal :=
  let s := s.pass g
  let was := (s.core k).st
  let s := s.regCmd ini (0x40030118 + 0x20 * k) 4 1
  .next (if was = .halted && (s.core k).st = .running then s.issue k else s)

end Sys2Proof.Machine
end

