-- ==== Sys2Proof/Machine/Flags.lean ====
section
/-!
DEFINITION. Status flags: what the RO fields of the parameters report, computed from the state, and the value of a parameter as a read
returns it (03 R85, R88 and the parameter tables of every chapter). A power or an energy that the state holds exactly is reported rounded
down (entry 36).
-/
namespace Sys2Proof.Machine

/-- A field's bits placed at `lo`, saturated to `w` bits. -/
def putSat (lo w v : Nat) : Nat := min v (2 ^ w - 1) <<< lo

/-- `atlas` (03 R93). -/
def State.atlasRo (s : State) (off : Nat) : Nat :=
  if off = 0 then s.ie else if off = 1 then s.be else if off = 2 then s.image.beMin else if off = 3 then s.image.beMax
  else if off = 5 then s.parOf Pid.atlasFleetCommitted 0 else 0

/-- `power` (09 R261). -/
def State.pwrRo (s : State) (off : Nat) : Nat :=
  if off = 0 then flag (s.pwr.st = .hold) + s.pwr.pdOn <<< 8 + s.pwr.entries <<< 32 + s.pwr.refused <<< 48 + s.pwr.lastRef <<< 56
  else if off = 7 then putSat 0 16 s.pwr.va + putSat 16 16 s.pwr.vb + flag s.pwr.aOk <<< 32 + flag s.pwr.bOk <<< 33
  else 0

/-- `survey` (09 R262). -/
def State.svyRo (s : State) (off : Nat) : Nat :=
  if off = 4 then s.svy.stored
  else if off = 5 then s.svy.changed
  else if off = 7 then
    flag s.svy.running + (if s.svy.running then ((List.range 48).filter s.svyMember).length else 0) <<< 8 + s.svy.lastCyc <<< 16
  else 0

/-- STATE of a request number in `isotherm.unit`: idle, pending, granted, blocking. A number that holds a grant and waits for another is
pending. -/
def State.isoUnitState (s : State) (num : Nat) : Nat :=
  if s.iso.pend.any (fun r => r.num = num && r.block) then 3
  else if s.iso.pend.any (fun r => r.num = num) then 1
  else if s.iso.grants.any (fun x => x.num = num) then 2 else 0

/-- `isotherm` (06 R187). -/
def State.isoRo (s : State) (off idx : Nat) : Nat :=
  if off = 7 then
    putSat 0 16 (ratFloor s.isoS).toNat + clampTo 16 (ratFloor s.iso.e) <<< 16 + putSat 32 16 (ratFloor s.isoQ).toNat
      + putSat 48 8 s.iso.pend.length + flag s.iso.ovr <<< 56 + flag (s.iso.pend.any (·.block)) <<< 57
  else if off = 8 then
    putSat 0 16 (ratFloor (s.isoResv idx)).toNat + putSat 16 16 (s.iso.learn.toList.getD idx 0 / 10) + putSat 32 16 (s.iso.defers.toList.getD idx 0)
      + s.isoUnitState idx <<< 48 + putSat 56 8 (s.iso.pool.toList.getD idx 0)
  else if off = 9 then clampTo 16 (s.dieRec idx).tcase + putSat 16 16 (s.dieRec idx).diverge
  else 0

/-- `load.ch[n].status` (04 R131): the odd channel of a bridge reports the state of its pair (R103). -/
def State.chRo (s : State) (n off : Nat) : Nat :=
  let c := s.chan n
  if off = 7 then
    (s.chan (s.owner n)).st.code + flag c.openload <<< 4 + flag c.short <<< 5 + flag c.revblock <<< 6 + flag c.brake <<< 7 + c.fault <<< 8
      + c.trans <<< 16 + c.lasting <<< 24 + clampTo 16 c.imeas <<< 32 + tempCode (s.tj n) <<< 48
  else 0

/-- ILIM of a composite, mA (05 R137, R142). -/
def State.compIlim (s : State) (k : Nat) : Nat :=
  let c := s.compOf k
  if c.par then c.members.length * s.pf Pf.chIlim_ILIM (c.members.headD 0)
  else ((s.leavesOf (64 + k)).filter (fun n => s.seen k n ≠ .latched)).foldl (fun a n => a + s.pf Pf.chIlim_ILIM n) 0

/-- `comp[k]` (05 R141, R142, R159). -/
def State.compRo (s : State) (k off : Nat) : Nat :=
  let ls := s.leavesOf (64 + k)
  if !(s.compOf k).en then (if off = 2 then 0xFF <<< 40 else 0)
  else if off = 2 then
    (s.compState k).code + flag (s.degraded k) <<< 4 + s.levelOf 6 (64 + k) <<< 5 + (s.compFault k).1 <<< 8 + s.compTrans k <<< 16
      + s.compLasting k <<< 24 + ls.length <<< 32 + (s.compFault k).2 <<< 40 + (ls.filter (fun n => s.seen k n = .latched)).length <<< 48
  else if off = 3 then clampTo 32 (ls.foldl (fun a n => a + 10 * (s.chan n).imeas) 0) + putSat 32 32 (s.compIlim k)
  else 0

/-- `pulse.gen[g].status` (05 R160). -/
def State.genRo (s : State) (g off : Nat) : Nat :=
  let x := s.genOf g
  if off = 3 then x.mems.length + (x.mems.filter (·.pulsing)).length <<< 8 + x.clamped <<< 16 + (x.start % 2 ^ 32) <<< 32 else 0

/-- `valve.v[v].status` (07 R215). -/
def State.valveRo (s : State) (v off : Nat) : Nat :=
  let x := s.valve v
  if off = 4 then
    x.st.code + flag x.noclose <<< 4 + flag x.fastdly <<< 5 + flag x.raillow <<< 6 + flag x.boostskip <<< 7 + x.fault <<< 8 + x.trans <<< 16
      + x.lasting <<< 24 + putSat 32 32 x.tclose
  else 0

/-- `valve.bank[b]` (07 R190, R216). -/
def State.bankRo (s : State) (b off : Nat) : Nat :=
  let k := s.vbank b
  if off = 2 then
    flag (s.bankOn b) + flag (s.booster b).isSome <<< 1 + ((s.booster b).getD 0 % 4) <<< 2 + flag (s.boostWaiter b).isSome <<< 4
      + ((s.boostWaiter b).getD 0 % 4) <<< 5 + k.ptr <<< 8 + putSat 16 16 s.vlv.vrail + flag s.railOk <<< 32 + flag s.vlv.fault <<< 33
  else if off = 3 then k.waits + k.refused <<< 16 + k.fastdly <<< 32 + k.waitmax <<< 48
  else 0

/-- `light.lc[c]` (08 R236). -/
def State.lcRo (s : State) (c off idx : Nat) : Nat :=
  let x := s.chain c
  if off = 1 then (if idx < s.pf Pf.lcCfg_NSLOT c then bufGet x.comm idx else 0)
  else if off = 2 then
    (if !s.pb Pf.lcCfg_EN c || !s.pd 8 then 0 else if x.sending.isSome then 2 else 1) + (x.flags % 8) <<< 2 + flag x.doFault <<< 5
      + flag (s.chainFactor c < 1000) <<< 6 + putSat 8 10 x.nfound + putSat 32 16 x.sentFid + putSat 48 16 x.skipped
  else 0

/-- Code of a matrix state (08 R237). -/
def MxSt.code : MxSt → Nat
  | .off => 0 | .grantWait => 1 | .scan => 2 | .retryWait => 3 | .retryOn => 4 | .latched => 5

/-- `light.mx` (08 R237). -/
def State.mxRo (s : State) (off idx : Nat) : Nat :=
  let x := s.light.mx
  if off = 4 then bufGet x.comm idx
  else if off = 5 then x.st.code + x.colOpen <<< 8 + x.colShort <<< 32 + x.trans <<< 56 + x.lasting <<< 60
  else 0

/-- `light.ntc[t].cfg` (08 R231, R238): with PD15 off, D is the lowest F of the curve (R233). -/
def State.ntcRo (s : State) (t off : Nat) : Nat :=
  let x := s.ntcRec t
  if off = 0 then s.ntcD t <<< 40 + x.sense <<< 50 + clampTo 12 x.temp <<< 52 else 0

/-- `input.sw[i].cfg` (09 R263). -/
def State.swRo (s : State) (i : Nat) : Nat :=
  let x := s.inputOf i
  x.level <<< 32 + flag x.state <<< 40 + flag x.raw <<< 41 + x.changes <<< 48

/-- `can[n].status` (10 R288). -/
def State.canRo (s : State) (n off : Nat) : Nat :=
  let c := s.canPort n
  let st := match c.st with | .off => 0 | .integrating => 0 | .active => 1 | .passive => 2 | .busOff => 3
  if off = 5 then
    putSat 0 8 c.tec + putSat 8 8 c.recv + st <<< 16 + flag c.tdcSat <<< 18 + c.busOffs <<< 24 + c.txFail <<< 32 + c.rxDrop <<< 44 + c.tunDrop <<< 54
  else 0

/-- `lin[n].status` (10 R289). -/
def State.linRo (s : State) (n off : Nat) : Nat :=
  let l := s.linPort n
  if off = 3 then (if !s.linUp n then 0 else if l.idle then 2 else 1) + l.slot <<< 8 + l.noResp <<< 16 + l.chkErr <<< 32 + l.bitErr <<< 48 else 0

/-- `meridian.status` (10 R290). -/
def State.mrdRo (s : State) (off : Nat) : Nat :=
  let m := s.net.mrd
  let low := ((bitList 8 (s.pf Pf.mrdCfg_PORTS)).head?).getD 0
  if off = 3 then
    flag m.traced + (if s.pf Pf.mrdCfg_PORTS = 0 then 0 else (s.canPort low).cycle) <<< 1
      + (if m.sync.isNone then 0xFFFF else min 0xFFFF ((s.now - m.syncAt) / 200000)) <<< 16
      + clampTo 32 (match m.sync with | some (_, _, r) => r | none => 0) <<< 32
  else 0

/-- `eth[k]` (10 R291). -/
def State.ethRo (s : State) (k off idx : Nat) : Nat :=
  let e := s.ethPort k
  if off = 1 then flag e.link + e.sqi <<< 1 + flag e.asCap <<< 4 + e.downs <<< 16 + e.pdelay <<< 32
  else if off = 2 then e.cnt.toList.getD idx 0 % 2 ^ 48
  else if off = 3 then e.cable <<< 1 + putSat 4 12 e.dist
  else 0

/-- `spe[k]` (10 R292). -/
def State.speRo (s : State) (k off idx : Nat) : Nat :=
  let e := s.spePort k
  if off = 2 then flag e.beacon + flag e.csma <<< 1 + e.losses <<< 16 + e.colls <<< 32
  else if off = 3 then e.cnt.toList.getD idx 0 % 2 ^ 48
  else 0

/-- `switch` (10 R293). -/
def State.swxRo (s : State) (off : Nat) : Nat :=
  if off = 2 then Config.mac.toNat
  else if off = 5 then s.net.learned.length + putSat 16 16 s.net.learnFull + putSat 32 16 s.net.vlanDrop
  else 0

/-- Code of an agreement state (11 R294). -/
def AgSt.code : AgSt → Nat
  | .disabled => 0 | .normal => 1 | .readySleep => 2 | .committing => 3 | .wakeCheck => 4

/-- LEFT of `netsleep.status`, ms rounded up (11 R308). -/
def State.agrLeft (s : State) : Nat :=
  let n := match s.agr.st with
    | .normal => s.agrTmo
    | .readySleep => 300000000
    | .wakeCheck => s.agrFwTmo
    | _ => 0
  if n = 0 then 0 else min 0xFFFF (ceilDiv (s.agr.start + n - s.now) 200000)

/-- `netsleep.status` (11 R308). -/
def State.nsRo (s : State) (off : Nat) : Nat :=
  if off = 4 then
    s.agr.st.code + s.local4 <<< 8 + s.agrLeft <<< 16 + putSat 32 8 s.agr.lastNode + putSat 40 5 s.agr.lastLink + s.agr.aborts <<< 48
  else 0

/-- Ticks since the start of the round in progress. -/
def State.roundAge (s : State) : Option Nat := s.round.map (fun r => s.now - r.start)

/-- The aerial sends: in the telegram of a round whose mask has it, in its own burst, or while it is calibrated (12 R310, R324). -/
def State.lfSends (s : State) (k : Nat) : Bool :=
  match s.acc.job with
  | none => false
  | some j =>
    match j.cal, j.round with
    | some (a, _), _ => a = k
    | none, some r =>
      let t := s.now - r.start
      (t < 6553600 && r.on k) || (6553600 + 250000 * k ≤ t && t < 6553600 + 250000 * k + 200000 && r.bursts k)
    | none, none => false

/-- `lf[n].status` (12 R330). -/
def State.lfRo (s : State) (k off : Nat) : Nat :=
  let a := s.aerial k
  if off = 1 then (if !s.pd 7 || !s.pb Pf.lfCfg_EN k then 0 else if s.lfSends k then 2 else 1) + a.fault <<< 2 + a.ipeak <<< 16 + a.faults <<< 48 else 0

/-- `uwb.fe[f].status` (12 R331). -/
def State.feRo (s : State) (f off : Nat) : Nat :=
  let x := s.feRec f
  if off = 1 then flag x.link + x.errs <<< 16 + x.frames <<< 32 + clampTo 16 x.power <<< 48 else 0

/-- STATE of `access.status` (12 R310, R332): LF up to the first response slot, response up to the end of the check. -/
def State.accState (s : State) : Nat :=
  if !s.pd 7 || !s.pb Pf.accCfg_EN then 0
  else
    match s.acc.job with
    | none => 1
    | some j =>
      if j.cal.isSome then 2
      else match s.roundAge with
        | none => 1
        | some t => if t < 8753600 then 2 else if t < 10133600 then 3 else 4

/-- `access` (12 R332). -/
def State.accRo (s : State) (off idx : Nat) : Nat :=
  if off = 3 then
    s.accFails <<< 8 + flag s.lockedOut <<< 16
      + (match s.acc.lock with | some (f, n) => putSat 32 16 (ceilDiv (n - s.aonSince f) 32768) | none => 0) + s.acc.lockCnt <<< 48
  else if off = 4 then s.accState + s.accPending <<< 8 + s.acc.rounds <<< 16 + s.acc.colls <<< 32 + s.acc.foreign <<< 48
  else if off = 5 then
    let l := s.acc.last.toList.getD idx {}
    l.result + l.zone <<< 4 + putSat 12 20 l.dist + l.at_ <<< 32
  else 0

/-- `token[s]` (12 R333). -/
def State.tokRo (s : State) (i off : Nat) : Nat :=
  let t := s.tokenRec i
  if off = 0 then t.id + flag t.enrolled <<< 32
  else if off = 1 then t.auths + t.fails <<< 16 + t.lastDist <<< 32 + t.lastZone <<< 48
  else 0

/-- `twin` (13 R361). -/
def State.twinRo (s : State) (off idx : Nat) : Nat :=
  let t := s.twin
  if off = 5 then flag t.up + flag (s.pb Pf.twinCfg_EN && s.pd 14 && !t.up) <<< 1 + putSat 8 8 t.replays + putSat 16 16 t.crcErr + putSat 32 16 t.downs
  else if off = 6 then putSat 0 32 (t.issued.toList.getD idx 0) + putSat 32 32 (t.discarded.toList.getD idx 0)
  else if off = 7 then putSat 0 16 t.exok + putSat 16 16 t.exfail + putSat 32 16 t.lockRetry + putSat 48 16 t.lockBreak
  else if off = 8 then s.il.role + s.il.partnerBe <<< 8 + popCount 64 s.il.shadowOn <<< 24 + putSat 32 32 t.postErr
  else if off = 9 then t.postAddr % 2 ^ 32 + t.postCode <<< 32
  else 0

/-- `mem` (15 R408): `cfg`, `scrub` and `inject` are the registers of R407. -/
def State.memRo (s : State) (off idx : Nat) : Nat :=
  let m := s.mem
  if off = 0 then m.ctrl
  else if off = 1 then m.scrub + flag m.scrubF <<< 32
  else if off = 2 then (if idx = 0 then m.flipLo + m.flipHi <<< 32 else m.flip + flag m.arm <<< 13 + flag m.done <<< 14)
  else if off = 3 then
    m.lap + m.laps <<< 24 + (if m.pos < 1048576 then m.pos / 32768 else (Config.scrubPos s.now).val) <<< 40 + flag m.slow <<< 45
  else if off = 4 then
    let c := m.counts.toList.getD idx {}
    c.cet + c.cel <<< 16 + c.uet <<< 32 + c.uel <<< 48
  else if off = 5 then
    let t := m.test.toList.getD idx {}
    t.result + t.step <<< 8 + putSat 16 16 t.offset
  else 0

/-- `fw` (16 R424). -/
def State.fwRo (s : State) (off idx : Nat) : Nat :=
  let w := s.fw
  let slot := fun (i : Nat) => w.slots.toList.getD i {}
  if off = 0 then
    (slot 0).st.code + (slot 1).st.code <<< 3 + w.run <<< 6 + flag w.armed <<< 7 + (match w.xfer with | some x => x.target | none => 7) <<< 8
      + s.xferFree <<< 12 + s.xferReceived <<< 32 + putSat 48 16 w.flashErr
  else if off = 1 then
    if idx < 2 then
      let x := slot idx
      if x.st = .empty then 0 else x.version + x.beMin <<< 32 + x.beMax <<< 48
    else
      let x := w.apps.toList.getD (idx - 2) {}
      if x.st = .empty then 0 else x.version
  else if off = 4 then w.rollback
  else if off = 5 then s.keyBits + flag (s.parOf Pid.fwAppKey 0 ≠ 0) <<< 8
  else if off = 6 then Config.attestPub.toNat
  else 0

/-- `app.a[n].status` (14 R388). -/
def State.appRo (s : State) (n off : Nat) : Nat :=
  let a := s.applet n
  let st := match (s.core (1 + n)).st with | .halted => 0 | .running => 1 | .waiting => 2 | .trapped => 3
  if off = 3 then st + a.cause <<< 8 + putSat 16 8 a.trapN + putSat 24 8 a.txDrop + (a.pc % 2 ^ 32) <<< 32 else 0

/-- Bits of a parameter's fields of one access. -/
def ParSpec.mask (p : ParSpec) (a : Acc) : Nat :=
  (p.flds.filter (fun x => x.acc = a)).foldl (fun m x => m ||| ((2 ^ x.w - 1) <<< x.lo)) 0

/-- Bits of a parameter that no field covers. -/
def ParSpec.reserved (p : ParSpec) (v : Nat) : Bool :=
  let all := p.mask .ro ||| p.mask .rw ||| p.mask .wo
  v ||| all ≠ all

/-- The RO fields of a parameter, by family base, index, member offset and INDEX. -/
def State.roOf (s : State) (base i off idx : Nat) : Nat :=
  if base = 0x0 then s.atlasRo off
  else if base = 0x80 then s.pwrRo off
  else if base = 0xA0 then s.svyRo off
  else if base = 0xC0 then s.isoRo off idx
  else if base = 0x1000 then s.chRo i off
  else if base = 0x1800 then s.compRo i off
  else if base = 0x1C00 then s.genRo i off
  else if base = 0x2000 then s.valveRo i off
  else if base = 0x2100 then s.bankRo i off
  else if base = 0x2200 then s.lcRo i off idx
  else if base = 0x2280 then s.mxRo off idx
  else if base = 0x2300 then s.ntcRo i off
  else if base = 0x2400 then s.swRo i
  else if base = 0x3000 then s.canRo i off
  else if base = 0x3200 then s.linRo i off
  else if base = 0x3300 then s.mrdRo off
  else if base = 0x3400 then s.ethRo i off idx
  else if base = 0x3480 then s.speRo i off idx
  else if base = 0x3500 then s.swxRo off
  else if base = 0x3600 then s.nsRo off
  else if base = 0x4000 then s.lfRo i off
  else if base = 0x4080 then s.feRo i off
  else if base = 0x4100 then s.accRo off idx
  else if base = 0x4200 then s.tokRo i off
  else if base = 0x5000 then s.twinRo off idx
  else if base = 0x5800 then s.memRo off idx
  else if base = 0x6000 then s.fwRo off idx
  else if base = 0x7000 then s.appRo i off
  else 0

/-- The RW fields of a parameter as a read returns them: the working copy, the phase in force of an AUTO member (05 R156), and the
registers that `mem` shows (15 R408). -/
def State.rwOf (s : State) (f : FamSpec) (i : Nat) (p : ParSpec) (id idx : Nat) : Nat :=
  let v := s.parOf id idx
  (if f.base = 0x1C00 then s.genRead i p.off idx v else if f.base = 0x5800 then s.memRo p.off idx else v) &&& p.mask .rw

/-- The value of a parameter (03 R85); a WO field reads 0 (R88). -/
def State.readPar (s : State) (f : FamSpec) (i : Nat) (p : ParSpec) (id idx : Nat) : Nat :=
  s.rwOf f i p id idx ||| (s.roOf f.base i p.off idx &&& p.mask .ro)

end Sys2Proof.Machine
end

