-- ==== Sys2Proof/Machine/Ring.lean ====
section
/-!
DEFINITION. The receive and transmit rings of the applets (14 R383 to R385).
-/
namespace Sys2Proof.Machine

/-! ### Records as bytes (10 R268) -/

/-- The 24-byte header and the data of a record. -/
def RxRec.bytes (r : RxRec) : List Byte :=
  let f := r.frame
  leBytes 8 r.stamp ++ leBytes 4 (f.id + flag f.xtd <<< 29 + flag f.rtr <<< 30) ++ leBytes 1 r.fmt ++ leBytes 1 f.flags ++ leBytes 2 f.data.length
    ++ leBytes 1 f.sdt ++ leBytes 1 f.vcid ++ leBytes 2 0 ++ leBytes 4 f.af ++ f.data

/-- Bytes padded to a multiple of 32 with zeros. -/
def pad32 (bs : List Byte) : List Byte := bs ++ List.replicate (ceilDiv bs.length 32 * 32 - bs.length) 0

/-- A ring entry: the prefix, then the record (14 R384). -/
def ringEntry (src queue : Nat) (r : RxRec) : List Byte :=
  let body := r.bytes
  let len := ceilDiv (8 + body.length) 32 * 32
  pad32 (leBytes 1 src ++ leBytes 1 queue ++ leBytes 2 len ++ leBytes 4 0 ++ body)

/-- A pad entry of a length: 24 bytes of 0xFF after its prefix (14 R384). -/
def padEntry (len : Nat) : List Byte := leBytes 1 0xFF ++ leBytes 1 0 ++ leBytes 2 len ++ leBytes 4 0 ++ List.replicate 24 0xFF

/-- A record by its frame, as an applet writes it (14 R385): STAMP is ignored. -/
def frameOf (bs : List Byte) : CanFrame :=
  let id := leAt bs 8 4
  let len := leAt bs 14 2
  ⟨bitsOf id 0 29, id.testBit 29, id.testBit 30, leAt bs 12 1, leAt bs 13 1, leAt bs 16 1, leAt bs 17 1, leAt bs 20 4, len, (bs.drop 24).take len⟩

/-! ### The receive ring (14 R384) -/

/-- A record waiting for core a: its source, queue and record. -/
structure RingRec where
  src   : Nat
  queue : Nat
  body  : RxRec
  deriving DecidableEq, Repr

/-- The oldest records of the CAN queues and LIN ports that core a is granted. -/
def State.ringHeads (s : State) (a : Nat) : List RingRec :=
  (List.range 32).filterMap (fun k =>
    if k % 4 ≠ 0 && s.granteeOf 4 k = some a then
      ((s.canPort (k / 4)).queues.toList.getD (k % 4) []).head?.map (fun r => ⟨k / 4, k % 4, r⟩) else none)
  ++ (List.range 8).filterMap (fun n => if s.granteeOf 5 n = some a then (s.net.linq.toList.getD n []).head?.map (fun r => ⟨8 + n, 0, r⟩) else none)

/-- The one with the lowest stamp, the first in order of source and queue among equals. -/
def oldestRec : List RingRec → Option RingRec
  | [] => none
  | r :: l => match oldestRec l with
    | some x => if x.body.stamp < r.body.stamp then some x else some r
    | none => some r

/-- The record leaves its queue. -/
def State.takeRec (s : State) (r : RingRec) : State :=
  if r.src < 8 then
    s.modCan r.src (fun c => { c with queues := c.queues.setIfInBounds r.queue ((c.queues.toList.getD r.queue []).drop 1) })
  else { s with net := { s.net with linq := s.net.linq.setIfInBounds (r.src - 8) ((s.net.linq.toList.getD (r.src - 8) []).drop 1) } }

/-- An offset that a ring of a size may hold at HEAD and TAIL. -/
def ringPos (size p : Nat) : Bool := 16 ≤ p && p < size && (p - 16) % 32 = 0

/-- Atlas writes an entry at HEAD, with a pad before it where the space left at the end is too short, if HEAD will still differ from TAIL; otherwise
it counts the record in DROPS (14 R384). -/
def State.ringWrite (s : State) (a base size : Nat) (entry : List Byte) : State :=
  let head := s.bytesAt base 4
  let tail := s.bytesAt (base + 4) 4
  let cap := size - 16
  let used := (head + cap - tail) % cap
  let gap := if size - head < entry.length then size - head else 0
  if !ringPos size head || cap ≤ used + gap + entry.length then
    (s.memWrite 0 (base + 8) 4 (satInc 0xFFFFFFFF (s.bytesAt (base + 8) 4))).1
  else
    let s := if gap = 0 then s else s.loadBytes (base + head) (padEntry gap)
    let at' := if gap = 0 then head else 16
    let s := s.loadBytes (base + at') entry
    let next := if at' + entry.length = size then 16 else at' + entry.length
    ((s.memWrite 0 base 4 next).1).raiseEv (1 + a) 1

/-- RING_DELIVER (14 R384): the oldest record that core a is granted goes to its ring. -/
def execRingDeliver (g : Lapse) (a : Fin 4) (s : State) : Host.Outcome State Fault Refusal :=
  let s := s.pass g
  let size := s.pf Pf.appRing_RXSIZE a
  .next (
    match oldestRec (s.ringHeads a) with
    | none => s
    | some r =>
      if size = 0 || !s.pb Pf.appCfg_RUN a || !s.pd 2 then s
      else (s.takeRec r).ringWrite a (ownBase (1 + a) + s.pf Pf.appRing_RXBASE a) size (ringEntry r.src r.queue r.body))

/-! ### The transmit ring (14 R385) -/

/-- An entry is skipped and counted. -/
def State.txDrop (s : State) (a : Nat) : State := s.modApplet a (fun x => { x with txDrop := satInc 255 x.txDrop })

/-- Core a holds one of the receive queues of CANn (14 R383). -/
def State.mayCan (s : State) (a n : Nat) : Bool := [0, 1, 2, 3].any (fun q => s.granted a 4 (4 * n + q))

/-- An entry acts: a CAN frame takes a transmit buffer, a LIN record replaces published data (14 R385). -/
def State.txEntry (s : State) (a src : Nat) (body : List Byte) : State :=
  let f := frameOf body
  if src < 8 then
    if !s.mayCan a src || 2 < f.fmt || f.data.length ≠ f.dlc then s.txDrop a
    else match s.canQueue src f with
      | some s => s
      | none => s.txDrop a
  else if src < 16 then
    if !s.granted a 5 (src - 8) || f.fmt ≠ 3 || 63 < f.id || f.data.length ≠ f.dlc then s.txDrop a
    else if s.pd 6 && s.pb Pf.linFrame_PUB (src - 8) f.id then s.linPublish (src - 8) f.id f.data
    else s
  else s.txDrop a

/-- TX_RING_CONSUME (14 R385): the entry at TAIL is consumed. A LENGTH that no entry can have is skipped as one of 32 bytes (entry 34). -/
def execTxRingConsume (g : Lapse) (a : Fin 4) (s : State) : Host.Outcome State Fault Refusal :=
  let s := s.pass g
  let size := s.pf Pf.appRing_TXSIZE a
  let base := ownBase (1 + a) + s.pf Pf.appRing_TXBASE a
  let head := s.bytesAt base 4
  let tail := s.bytesAt (base + 4) 4
  let e := base + tail
  let len := s.bytesAt (e + 2) 2
  let ok : Bool := len % 32 = 0 && 32 ≤ len && len ≤ size - tail
  let step := if ok then len else 32
  let next := if tail + step = size then 16 else tail + step
  .next (
    if size = 0 || !s.pb Pf.appCfg_RUN a || !s.pd 2 || head = tail || !ringPos size head || !ringPos size tail then s
    else
      let src := s.bytesAt e 1
      let s :=
        if src = 0xFF && ok then s
        else if !ok then s.txDrop a
        else s.txEntry a src ((List.range (len - 8)).map (fun i => s.byteAt (e + 8 + i)))
      (s.memWrite 0 (base + 4) 4 next).1)

end Sys2Proof.Machine
end

