-- ==== Sys2Proof/Machine/ParamWrite.lean ====
section
/-!
DEFINITION. Writes of parameters (03 R87 to R90, R453): the checks in the order of R453, and what a set of accepted entries does in one
tick. PARAM_WRITE is a set of one entry. Every row that the table names after a parameter is such a write.
-/
namespace Sys2Proof.Machine

/-- An entry whose parameter is known, with the value cut to its VLEN. -/
structure PEnt where
  f   : FamSpec
  i   : Nat
  p   : ParSpec
  id  : Nat
  idx : Nat
  v   : Nat
  deriving DecidableEq, Repr

/-- Session `ses` may write the parameter (R89, 14 R383): the partner only `twin`, an application core what its grant lists and never
`fw.confirm` (16 R419), the bench with full rights only in mode 2. -/
def State.mayWrite (s : State) (ses org : Nat) (base id : Nat) : Bool :=
  if ses = 0 then true
  else if ses = 1 then base = 0x5000
  else if ses = 2 then s.pf Pf.atlasBenchMode_MODE = 2
  else s.granted org 7 id && id ≠ 0x6003

/-- A field's value lies in its range and on its step. -/
def FieldSpec.holds (x : FieldSpec) (v : Nat) : Bool :=
  let raw := bitsOf v x.lo x.w
  let z : Int := if x.signed then signedOf x.w raw else raw
  x.acc = .ro || (x.min ≤ z && z ≤ x.max && z % (x.step : Int) = 0)

/-- The part of step 6 of R453 that the value alone decides. -/
def ParSpec.holds (p : ParSpec) (idx v : Nat) : Bool :=
  (p.type = 12 || idx = 0) && !p.reserved v && p.flds.all (fun x => x.holds v) && !(p.type = 1 && 1 < v)

/-- Steps 1 to 5 of R453, and step 6 as far as the value alone decides it: the status, or the entry. -/
def State.tableCheck (s : State) (ses org : Nat) (w : ParWrite) : Nat ⊕ PEnt :=
  match parSpec w.id w.idx with
  | none => .inl St.unknownParam
  | some (f, i, p) =>
    let v := w.val % 2 ^ (8 * p.vlen)
    if s.be < 1 then .inl St.edition
    else if w.type ≠ p.type || w.vlen ≠ p.vlen then .inl St.type
    else if p.acc = .ro then .inl St.readOnly
    else if !s.mayWrite ses org f.base w.id || (f.base = 0x3600 && s.nsDenied ses p.off v) then .inl St.denied
    else if !p.holds w.idx v then .inl St.range
    else .inr ⟨f, i, p, w.id, w.idx, v⟩

/-! ### Application cores (14 R383, R388) -/

/-- Highest bound of a grant kind. -/
def grantTop (kind : Nat) : Nat := [0xFFFF, 95, 15, 8, 31, 7, 31, 0x7FFF, 2047, 3].getD kind 0

/-- RANGE rules of `app.a[n].grant` (R383, R388). -/
def grantRange (v : Nat) : Bool :=
  let k := Pf.appGrant_KIND.of v
  let a := Pf.appGrant_FIRST.of v
  let b := Pf.appGrant_LAST.of v
  k < 10 && a ≤ b && b ≤ grantTop k && !(k = 7 && a ≤ 0x70FF && 0x7000 ≤ b) && (k = 8 || Pf.appGrant_WR.of v = 0)

/-- RANGE rules of `app.a[n].ring` (R384, R388). -/
def ringRange (v : Nat) : Bool :=
  let one := fun (base size : Nat) => base % 8 = 0 && (size = 0 || (80 ≤ size && (size - 16) % 32 = 0)) && base + size ≤ 65536
  let rb := Pf.appRing_RXBASE.of v
  let rs := Pf.appRing_RXSIZE.of v
  let tb := Pf.appRing_TXBASE.of v
  let ts := Pf.appRing_TXSIZE.of v
  one rb rs && one tb ts && (rs = 0 || ts = 0 || rb + rs ≤ tb || tb + ts ≤ rb)

/-- RANGE rules of `app.a[n]`. -/
def appRange (off v : Nat) : Bool := if off = 1 then grantRange v else if off = 2 then ringRange v else true

/-- STATE rules of `app.a[n]` (R383, R388): everything but RUN only while RUN is 0, one core for a queue, port or DMA channel, and no RUN with
a memory that failed its self-test (15 R402). -/
def State.appStateOk (s : State) (n off v : Nat) : Bool :=
  let run := s.pb Pf.appCfg_RUN n
  if off = 0 then
    (!run || v / 2 = s.parOf (Pid.appCfg n) 0 / 2) && !(Pf.appCfg_RUN.of v = 1 && (s.mem.test.toList.getD (1 + n) {}).result = 2)
  else if off = 1 then
    let k := Pf.appGrant_KIND.of v
    !run && ((k ≠ 4 && k ≠ 5 && k ≠ 6) ||
      (List.range 4).all (fun m => m = n || (List.range 32).all (fun j =>
        s.pf Pf.appGrant_KIND m j ≠ k || Pf.appGrant_LAST.of v < s.pf Pf.appGrant_FIRST m j || s.pf Pf.appGrant_LAST m j < Pf.appGrant_FIRST.of v)))
  else !run

/-- RUN of an application core rises or falls (R386). -/
def State.appWritten (s0 s : State) (n off v : Nat) : State :=
  if off ≠ 0 then s
  else if Pf.appCfg_RUN.of v = 1 && !s0.pb Pf.appCfg_RUN n && s.pd 2 then s.startApplet n
  else if Pf.appCfg_RUN.of v = 0 && s0.pb Pf.appCfg_RUN n then s.stopApplet n
  else s

/-! ### Step 6 and step 7 of R453: the relations and states of the owning chapters -/

/-- The relations that the owning chapter states (step 6). `s0` is the state before the set, `st` holds every value of the set, and `own` all
but this entry's. -/
def relOk (s0 st own : State) (e : PEnt) : Bool :=
  let o := e.p.off
  let b := e.f.base
  if b = 0x0 then o ≠ 4 || s0.image.beMin ≤ e.v
  else if b = 0x80 then powerRange o e.v
  else if b = 0xA0 then 1 < o || st.svyRelOk
  else if b = 0xC0 then 2 < o || st.isoRelOk
  else if b = 0x1000 then chanRange e.i o e.v
  else if b = 0x1800 then own.compRange e.i o e.idx e.v
  else if b = 0x1C00 then own.genRange o e.idx e.v
  else if b = 0x2000 then valveRange o e.v
  else if b = 0x2200 then chainRange o e.v
  else if b = 0x2280 then mxRange o e.v
  else if b = 0x2400 then inputRange e.v
  else if b = 0x3000 then own.canRange e.i o e.v
  else if b = 0x3200 then own.linRange e.i o e.v
  else if b = 0x3600 then nsRange o e.v
  else if b = 0x4100 then
    !(o = 0 && Pf.accCfg_EN.of e.v = 1 && !s0.pb Pf.accCfg_EN && (st.pf Pf.accRadio_WAKEID = 0 || st.pf Pf.accRadio_WAKEID = 0xFFFF))
  else if b = 0x5000 then own.twinRange o e.idx e.v
  else if b = 0x5800 then own.memParRange o e.idx e.v
  else if b = 0x7000 then appRange o e.v
  else true

/-- The states that the owning chapter asks for (step 7). -/
def stateOk (s0 own : State) (e : PEnt) : Bool :=
  let o := e.p.off
  let b := e.f.base
  if b = 0x0 then o ≠ 4 || e.v ≤ s0.pf Pf.atlasBePin_PIN
  else if b = 0x80 then s0.powerStateOk o e.v
  else if b = 0x1000 then s0.chanStateOk e.i o e.v
  else if b = 0x1800 then own.compStateOk e.i o e.v
  else if b = 0x1C00 then own.genStateOk e.i o e.idx e.v
  else if b = 0x1D00 then own.contourStateOk e.i e.v
  else if b = 0x2100 then own.bankStateOk e.i o e.v
  else if b = 0x2200 then own.chainStateOk e.i o e.v
  else if b = 0x2280 then s0.mxStateOk o e.v
  else if b = 0x3000 then s0.canStateOk e.i o e.v
  else if b = 0x3200 then s0.linStateOk e.i o e.v
  else if b = 0x3400 then s0.ethStateOk e.i o e.v
  else if b = 0x3480 then s0.speStateOk e.i o e.v
  else if b = 0x3600 then own.nsStateOk o e.v
  else if b = 0x5000 then twinStateOk o e.idx
  else if b = 0x5800 then s0.memParStateOk o e.v
  else if b = 0x6000 then s0.fwStateOk o
  else if b = 0x7000 then own.appStateOk e.i o e.v
  else true

/-! ### Applying a set -/

/-- The bits of an entry that a write sets. -/
def PEnt.bits (e : PEnt) : Nat := e.v &&& (e.p.mask .rw ||| e.p.mask .wo)

/-- One entry stored: the working copy takes its RW fields (R86), and the flip mask of `mem.inject[0]` its register, which the rules of the
element after it read (15 R408). -/
def State.storeEnt (s : State) (e : PEnt) : State :=
  let v := if e.f.base = 0x1C00 then s.genStored e.i e.p.off e.idx e.v else e.v
  let s := s.setPar e.id e.idx (v &&& e.p.mask .rw)
  if e.id = 0x5802 && e.idx = 0 then s.memParWritten 2 0 e.bits else s

/-- What the owning chapter makes of an accepted write, besides the working copy. `s0` is the state before the set. -/
def State.written (s0 s : State) (e : PEnt) : State :=
  let o := e.p.off
  let b := e.f.base
  let i := e.i
  let v := e.bits
  if b = 0x40 then (if s.pd i && s.pwr.st ≠ .hold then s.modPace i (fun r => r.opReq v) else s)
  else if b = 0x80 then s.powerWritten o
  else if b = 0xA0 then s.svyWritten o v
  else if b = 0xC0 then (if o = 0 then s.checkOver none else s)
  else if b = 0x1000 then s.chanWritten i o v
  else if b = 0x1800 then s.compWritten i o v
  else if b = 0x1C00 then s.genWritten i o e.idx v
  else if b = 0x2100 then s0.bankWritten s o v
  else if b = 0x2280 then s0.mxWritten s o v
  else if b = 0x2300 then s0.ntcWritten s i o v
  else if b = 0x2400 then s.inputWritten i
  else if b = 0x3000 then s0.canWritten s i o e.idx v
  else if b = 0x3200 then s0.linWritten s i o
  else if b = 0x3300 then s.mrdWritten o
  else if b = 0x3400 then s0.ethWritten s i o v
  else if b = 0x3480 then s0.speWritten s i o v
  else if b = 0x3600 then s0.nsWritten s o
  else if b = 0x4080 then s.feWritten i o v
  else if b = 0x5000 then s.twinWritten o e.idx v
  else if b = 0x5800 then s.memParWritten o e.idx v
  else if b = 0x6000 then s.fwWritten o v
  else if b = 0x7000 then s0.appWritten s i o v
  else s

/-- A parameter of a DUALFED channel, or of a composite or generator that holds one (13 R352). -/
def State.entDual (s : State) (e : PEnt) : Bool :=
  if e.f.base = 0x1000 then s.dualFed e.i
  else if e.f.base = 0x1800 then (s.leavesOf (64 + e.i)).any s.dualFed
  else if e.f.base = 0x1C00 then (s.genOf e.i).mems.any (fun m => (s.leavesOf m.unit).any s.dualFed)
  else false

/-- A change of the behaviour edition or of the DUALFED mask is reported on CTL, and moves a STANDBY device to WATCH or back (13 R349,
R357). -/
def State.pairChanged (s0 s : State) : State :=
  let s := if s.be ≠ s0.be then s.sendCtl 7 s.be else s
  let s := if s.dualMask ≠ s0.dualMask then s.sendCtl 2 s.dualMask else s
  if s.be = s0.be && s.dualMask = s0.dualMask then s
  else s.watchOrStandby

/-- Of two entries with one parameter and INDEX the later one counts, but for a WO parameter, which stores nothing. -/
def lastOnes : List PEnt → List PEnt
  | [] => []
  | e :: l => if e.p.acc ≠ .wo && l.any (fun x => x.id = e.id && x.idx = e.idx) then lastOnes l else e :: lastOnes l

/-- All values take effect in one tick (R87); those of DUALFED units are forwarded with the request's stamp (13 R352). -/
def State.applySet (s : State) (stamp : Nat) (es : List PEnt) : State :=
  let es := lastOnes es
  let s1 := es.foldl State.storeEnt s
  let s2 := es.foldl (fun (x : State) e => s.written x e) s1
  let s3 := es.foldl (fun (x : State) e => if x.il.role = 2 && x.entDual e then x.sendCtlMsg ⟨9, parKey e.id e.idx, stamp, leBytes 8 e.bits⟩ else x) s2
  s.pairChanged s3

/-! ### PARAM_WRITE and PARAM_WRITE_SET (R85, R87, R453) -/

/-- The entries of a set that pass the checks of the table. -/
def goodEnts (l : List (Nat ⊕ PEnt)) : List PEnt := l.filterMap (fun x => match x with | .inl _ => none | .inr e => some e)

/-- The status of one entry of a set: 0 where it passes. -/
def State.entStatus (s st : State) (x : Nat ⊕ PEnt) : Nat :=
  match x with
  | .inl c => c
  | .inr e =>
    let own := if e.id = 0x5802 && e.idx = 0 then st else st.setPar e.id e.idx (s.parOf e.id e.idx)
    if !relOk s st own e then St.range else if !stateOk s own e then St.state else 0

/-- The first entry of a set that fails: its position, its status, and the entry where the table knows it. -/
def State.firstBad (s st : State) : Nat → List (Nat ⊕ PEnt) → Option (Nat × Nat × Option PEnt)
  | _, [] => none
  | n, x :: l =>
    if s.entStatus st x = 0 then s.firstBad st (n + 1) l
    else some (n, s.entStatus st x, match x with | .inl _ => none | .inr e => some e)

/-- A set is written: the state, and position and status of the first failing entry. Any failing entry leaves every value as it was; a
refused mask of `power` still raises its event (09 R243). -/
def State.writeSet (s : State) (r : InReq) (ws : List ParWrite) : State × Option (Nat × Nat) :=
  let l := ws.map (s.tableCheck r.ses r.org)
  let es := goodEnts l
  match s.firstBad (es.foldl State.storeEnt s) 0 l with
  | none => (s.applySet r.stamp es, none)
  | some (n, c, e) =>
    ((match e with | some e => if e.f.base = 0x80 then s.powerRefused e.p.off e.v else s | none => s), some (n, c))

/-- A write entry as a payload (R85). -/
def entryBytes (w : ParWrite) : List Byte :=
  leBytes 2 w.id ++ leBytes 2 w.idx ++ leBytes 1 w.type ++ leBytes 1 0 ++ leBytes 2 w.vlen ++ leBytes w.vlen w.val

/-- Serving PARAM_WRITE: the response carries ID and INDEX, as the worked example of R71 shows for OK; so does a refused one (DESIGN CHOICE,
entry 88). -/
def State.paramWrite (s : State) (q : Rq) (w : ParWrite) : State :=
  s.serve q 0x11 0 (entryBytes w) (fun r s =>
    let x := s.writeSet r [w]
    x.1.answer r (match x.2 with | none => St.ok | some (_, c) => c) 0 (leBytes 2 w.id ++ leBytes 2 w.idx))

/-- The write entry of a parameter by its ID, with TYPE and VLEN from its table. -/
def parWrite (id idx v : Nat) : ParWrite :=
  match parSpec id idx with
  | some (_, _, p) => ⟨id, idx, p.type, p.vlen, v⟩
  | none => ⟨id, idx, 0, 0, v⟩

/-- PARAM_WRITE (03 R85, R453). -/
def execParamWrite (g : Lapse) (q : Rq) (w : ParWrite) (s : State) : Host.Outcome State Fault Refusal :=
  .next ((s.pass g).paramWrite q w)

/-- PARAM_WRITE_SET (03 R87): OK with payload 0xFFFF, or the status and position of the first failing entry. -/
def execParamWriteSet (g : Lapse) (q : Rq) (ws : List ParWrite) (s : State) : Host.Outcome State Fault Refusal :=
  .next ((s.pass g).serve q 0x13 0 (leBytes 2 ws.length ++ (ws.map entryBytes).flatten) (fun r s =>
    let x := s.writeSet r ws
    match x.2 with
    | none => x.1.answer r St.ok 0 (leBytes 2 0xFFFF)
    | some (n, c) => x.1.answer r c 0 (leBytes 2 n)))

/-- COMPOSITE_ENABLE: a write of `comp[k].cfg` (05 R134, R141). -/
def execCompositeEnable (g : Lapse) (q : Rq) (k : Fin 32) (cfg : Nat) (s : State) : Host.Outcome State Fault Refusal :=
  .next ((s.pass g).paramWrite q (parWrite (Pid.compCfg k) 0 cfg))

/-- COMPOSITE_DISABLE: a write of `comp[k].cfg` with EN 0 (05 R135, R137). -/
def execCompositeDisable (g : Lapse) (q : Rq) (k : Fin 32) (cfg : Nat) (s : State) : Host.Outcome State Fault Refusal :=
  .next ((s.pass g).paramWrite q (parWrite (Pid.compCfg k) 0 cfg))

/-- GEN_ENABLE: a write of `pulse.gen[g].cfg` (05 R149). -/
def execGenEnable (g : Lapse) (q : Rq) (gen : Fin 16) (cfg : Nat) (s : State) : Host.Outcome State Fault Refusal :=
  .next ((s.pass g).paramWrite q (parWrite (Pid.genCfg gen) 0 cfg))

/-- MX_ENABLE: a write of `light.mx.cfg` (08 R228). -/
def execMxEnable (g : Lapse) (q : Rq) (cfg : Nat) (s : State) : Host.Outcome State Fault Refusal :=
  .next ((s.pass g).paramWrite q (parWrite (Pid.mxCfg) 0 cfg))

/-- CABLE_TEST: RUN of `eth[k].cable` (10 R282). -/
def execCableTest (g : Lapse) (q : Rq) (k : Fin 2) (s : State) : Host.Outcome State Fault Refusal :=
  .next ((s.pass g).paramWrite q (parWrite (Pid.ethCable k) 0 1))

/-- NETSLEEP_ENABLE: a write of `netsleep.cfg` (11 R295). -/
def execNetsleepEnable (g : Lapse) (q : Rq) (cfg : Nat) (s : State) : Host.Outcome State Fault Refusal :=
  .next ((s.pass g).paramWrite q (parWrite (Pid.nsCfg) 0 cfg))

/-- NETSLEEP_DISABLE: a write of `netsleep.cfg` with EN 0 (11 R295). -/
def execNetsleepDisable (g : Lapse) (q : Rq) (cfg : Nat) (s : State) : Host.Outcome State Fault Refusal :=
  .next ((s.pass g).paramWrite q (parWrite (Pid.nsCfg) 0 cfg))

/-- APPLET_RUN: a write of `app.a[n].cfg` (14 R386). -/
def execAppletRun (g : Lapse) (q : Rq) (n : Fin 4) (cfg : Nat) (s : State) : Host.Outcome State Fault Refusal :=
  .next ((s.pass g).paramWrite q (parWrite (Pid.appCfg n) 0 cfg))

/-- FW_CONFIRM: a write of `fw.confirm` (16 R419). -/
def execFwConfirm (g : Lapse) (q : Rq) (v : Nat) (s : State) : Host.Outcome State Fault Refusal :=
  .next ((s.pass g).paramWrite q (parWrite (Pid.fwConfirm) 0 v))

end Sys2Proof.Machine
end

