-- ==== Sys2Proof/Machine/Atlas.lean ====
section
/-!
DEFINITION. Atlas (03): IDENT and NOP, reading and describing parameters, commits, handles, events, sessions and the uplink.
-/
namespace Sys2Proof.Machine

/-! ### NOP, IDENT and reads (R72, R83 to R88, R455) -/

/-- NOP (R72). -/
def execNop (g : Lapse) (q : Rq) (s : State) : Host.Outcome State Fault Refusal :=
  .next ((s.pass g).serve q 0 0 [] (fun r s => s.answer r St.ok 0 []))

/-- IDENT (R72): the 16 IDN registers. -/
def execIdent (g : Lapse) (q : Rq) (s : State) : Host.Outcome State Fault Refusal :=
  .next ((s.pass g).serve q 1 0 [] (fun r s => s.answer r St.ok 0 ((s.idnWords.map (leBytes 4)).flatten)))

/-- Steps 1 and 2 of R453, which a read and a description are checked by, and the INDEX rule of R84: the status, or the parameter with its
family and family index. -/
def State.findPar (s : State) (id idx : Nat) : Nat ⊕ (FamSpec × Nat × ParSpec) :=
  match parSpec id idx with
  | none => .inl St.unknownParam
  | some (f, i, p) => if s.be < 1 then .inl St.edition else if p.type ≠ 12 && idx ≠ 0 then .inl St.range else .inr (f, i, p)

/-- PARAM_READ (R85): the response carries every field; a refused read carries none. -/
def execParamRead (g : Lapse) (q : Rq) (id idx : Nat) (s : State) : Host.Outcome State Fault Refusal :=
  .next ((s.pass g).serve q 0x10 0 (leBytes 2 id ++ leBytes 2 idx) (fun r s =>
    match s.findPar id idx with
    | .inl c => s.answer r c 0 []
    | .inr (f, i, p) => s.answer r St.ok 0 (entryBytes ⟨id, idx, p.type, p.vlen, s.readPar f i p id idx⟩)))

/-- One entry of a PARAM_READ_MULTI response (R85). -/
def State.multiEntry (s : State) (id idx : Nat) : List Byte :=
  leBytes 2 id ++ leBytes 2 idx ++
    (match s.findPar id idx with
     | .inl c => leBytes 2 c ++ leBytes 4 0
     | .inr (f, i, p) => leBytes 2 0 ++ leBytes 1 p.type ++ leBytes 1 0 ++ leBytes 2 p.vlen ++ leBytes p.vlen (s.readPar f i p id idx))

/-- PARAM_READ_MULTI (R85). A response longer than the 4,128 bytes of R70 is sent as it is, with its true length in the model's message
(DESIGN CHOICE, entry 88): the manual does not say what becomes of it. -/
def execParamReadMulti (g : Lapse) (q : Rq) (ps : List (Nat × Nat)) (s : State) : Host.Outcome State Fault Refusal :=
  .next ((s.pass g).serve q 0x12 0 (leBytes 2 ps.length ++ (ps.map (fun p => leBytes 2 p.1 ++ leBytes 2 p.2)).flatten) (fun r s =>
    s.answer r St.ok 0 ((ps.map (fun p => s.multiEntry p.1 p.2)).flatten)))

/-- Bounds of a parameter that depend on others (R455), as they stand, each where there is one: `atlas.be_pin` (R92), `isotherm` (06 R178),
`survey` (09 R262) and `load.ch[n].ilim` (04 R115). -/
def State.liveBounds (s : State) (base off i : Nat) : Option Nat × Option Nat :=
  if base = 0x0 && off = 4 then (some s.image.beMin, some (s.pf Pf.atlasBePin_PIN))
  else if base = 0xC0 && off = 0 then (none, some (s.pf Pf.isoPeakW_PEAK - s.pf Pf.isoBurstMj_CAP))
  else if base = 0xC0 && off = 1 then (some (s.pf Pf.isoBudgetW_BUDGET + s.pf Pf.isoBurstMj_CAP), none)
  else if base = 0xC0 && off = 2 then (none, some (s.pf Pf.isoPeakW_PEAK - s.pf Pf.isoBudgetW_BUDGET))
  else if base = 0xA0 && off = 0 then (some (s.pf Pf.svyConfirm_CONF), none)
  else if base = 0xA0 && off = 1 then (none, some (s.pf Pf.svyPeriod_PER))
  else if base = 0x1000 && off = 1 then (some (limitRange i).1, some (limitRange i).2)
  else (none, none)

/-- Minimum and Maximum of R455: those of a single field, BYTES by length, and otherwise 0 and the mask of every bit that can be written. A
live bound narrows the field's own. -/
def State.bounds (s : State) (f : FamSpec) (i : Nat) (p : ParSpec) : Nat × Nat :=
  if p.type = 11 then (0, p.vlen)
  else
    match p.flds with
    | [x] =>
      if 10 ≤ p.type then (0, p.mask .rw ||| p.mask .wo)
      else
        let b := s.liveBounds f.base p.off i
        let lo := unsignedOf 64 x.min
        let hi := unsignedOf 64 x.max
        (if x.signed then lo else max (b.1.getD lo) lo, min (b.2.getD hi) hi)
    | _ => (0, p.mask .rw ||| p.mask .wo)

/-- Default of R455: the reset value, or the value held where the reset is image, stored, fused or an estimate. -/
def State.descDefault (s : State) (f : FamSpec) (i : Nat) (p : ParSpec) (id idx : Nat) : Nat :=
  if id ≤ 3 || id = 0x3502 || id = 0x6006 then s.readPar f i p id idx
  else
    let ro := (p.flds.filter (fun x => x.acc = .ro)).foldl (fun v x => v ||| (x.resetAt i <<< x.lo)) 0
    parDefault id idx ||| ro ||| (if id = 0x6005 then 0xF else if f.base = 0x1000 && p.off = 7 then tempCode (s.tj i) <<< 48 else 0)

/-- Path of a parameter (R83): the family with its index, and the member. -/
def parPath (f : FamSpec) (i : Nat) (p : ParSpec) : List Byte :=
  let str := fun (x : String) => x.toList.map (fun c => BitVec.ofNat 8 c.toNat)
  str f.pre ++ (if f.post.isEmpty then [] else str (toString i) ++ str f.post) ++ (if p.name.isEmpty then [] else str "." ++ str p.name)

/-- PARAM_DESCRIBE (R83, R455). -/
def execParamDescribe (g : Lapse) (q : Rq) (id idx : Nat) (s : State) : Host.Outcome State Fault Refusal :=
  .next ((s.pass g).serve q 0x14 0 (leBytes 2 id ++ leBytes 2 idx) (fun r s =>
    match s.findPar id idx with
    | .inl c => s.answer r c 0 []
    | .inr (f, i, p) =>
      let b := s.bounds f i p
      let path := parPath f i p
      s.answer r St.ok 0 (leBytes 1 p.type ++ leBytes 1 p.unit ++ leBytes 1 p.pers ++ leBytes 1 (match p.acc with | .ro => 0 | .rw => 1 | .wo => 2)
        ++ leBytes 2 1 ++ leBytes 8 b.1 ++ leBytes 8 b.2 ++ leBytes 8 (s.descDefault f i p id idx) ++ leBytes 2 path.length ++ path)))

/-! ### Commits (R86, R92) -/

/-- Keys of STORED parameters whose working copy differs from the stored copy, with the working copy. -/
def State.uncommitted (s : State) : List (Nat × Nat) :=
  let keys := s.par.work.map (·.1) ++ (s.par.stored.map (·.1)).filter (fun k => (kvGet k s.par.work).isNone)
  let l := keys.map (fun k => (k, s.parOf (k / 65536) (k % 65536)))
  l.filter (fun p => keyPers p.1 = 2 && p.2 ≠ s.storedOf (p.1 / 65536) (p.1 % 65536))

/-- Wait of an operation that needs the flash (R86). -/
def State.flashWait (s : State) (h : Nat) : State := if s.fw.queue.isEmpty then s else s.setWait h 3

/-- PARAM_COMMIT (R86). -/
def execParamCommit (g : Lapse) (q : Rq) (s : State) : Host.Outcome State Fault Refusal :=
  .next ((s.pass g).serve q 0x15 0 [] (fun r s =>
    if s.opPending 0x15 then s.answer r St.conflict 0 []
    else
      match s.accept r 0 with
      | (s, none) => s
      | (s, some h) => ({ s with atlas := { s.atlas with commit := some (h, s.uncommitted) } }).flashWait h))

/-- PARAM_COMMIT_DONE (R86): the copies are written, or none is. -/
def execParamCommitDone (g : Lapse) (ok : Bool) (s : State) : Host.Outcome State Fault Refusal :=
  let s := s.pass g
  match s.atlas.commit with
  | none => .next s
  | some (h, l) =>
    if !s.fw.queue.isEmpty then .next s
    else
      let s := { s with atlas := { s.atlas with commit := none } }
      let s := if ok then l.foldl (fun (s : State) p => s.setStored (p.1 / 65536) (p.1 % 65536) p.2) s else s
      .next (s.complete h (if ok then St.ok else St.persistFailed) [])

/-- Completion payload of FLEET_COMMIT (R92). -/
def State.fleetPayload (s : State) (code : Byte) : List Byte := leBytes 2 s.be ++ [code] ++ leBytes 1 0

/-- FLEET_COMMIT (R92, 16 R419): a target outside `atlas.be` to `atlas.be_max`, and a running image in TRIAL, complete FAILED. -/
def execFleetCommit (g : Lapse) (q : Rq) (target : Nat) (s : State) : Host.Outcome State Fault Refusal :=
  .next ((s.pass g).serve q 0x60 0 (leBytes 2 target) (fun r s =>
    if s.opPending 0x60 then s.answer r St.conflict 0 []
    else
      match s.accept r 0 with
      | (s, none) => s
      | (s, some h) =>
        if target < s.be || s.image.beMax < target then s.complete h St.failed (s.fleetPayload 2)
        else if s.inTrial then s.complete h St.failed (s.fleetPayload 5)
        else ({ s with atlas := { s.atlas with fleet := some (h, target) } }).flashWait h))

/-- FLEET_COMMIT_DONE (R92). The code byte of PERSIST_FAILED is not given (entry 37). -/
def execFleetCommitDone (g : Lapse) (ok : Bool) (s : State) : Host.Outcome State Fault Refusal :=
  let s := s.pass g
  match s.atlas.fleet with
  | none => .next s
  | some (h, t) =>
    if !s.fw.queue.isEmpty then .next s
    else
      let s := { s with atlas := { s.atlas with fleet := none } }
      if ok then
        let s' := ((s.setPar 4 0 t).setPar 5 0 t).setStored 4 0 t |>.setStored 5 0 t
        .next (s.pairChanged ((s'.complete h St.ok (s'.fleetPayload 0)).runEvent 7 t))
      else .next (s.complete h St.persistFailed (s.fleetPayload (Config.fleetCode s.now)))

/-! ### Handles (R76 to R80) -/

/-- The target of a HANDLE operation: a handle of the session, and of the core in session 3 (R68, R76). -/
def State.targetHandle (s : State) (r : InReq) : Option Hnd :=
  match s.handle r.handle with
  | some h => if h.ses = r.ses && (r.ses ≠ 3 || h.org = r.org) then some h else none
  | none => none

/-- Wait of a PENDING handle (R80): what its unit waits for now, which a later command of the unit takes over, or what the operation itself
has recorded. -/
def State.waitOf (s : State) (x : Hnd) : Nat :=
  let u := x.unit % 256
  let asks := fun (n : Nat) => s.iso.pend.any (fun r => r.num = n && r.first.isSome)
  if x.op = 0x20 && asks u then 1
  else if x.op = 0x21 && asks (96 + u) then 1
  else if x.op = 0x21 && (s.valve u).st = .boostWait then 2
  else x.wait

/-- HANDLE_QUERY (R80). -/
def execHandleQuery (g : Lapse) (q : Rq) (h : Nat) (s : State) : Host.Outcome State Fault Refusal :=
  .next ((s.pass g).serve q 0x30 h [] (fun r s =>
    match s.targetHandle r with
    | none => s.answer r St.unknownHandle 0 []
    | some x =>
      match x.phase with
      | .done _ st pl => s.answer r St.ok h (leBytes 1 2 ++ leBytes 1 0 ++ leBytes 2 1000 ++ leBytes 2 st ++ pl)
      | _ => s.answer r St.ok h (leBytes 1 1 ++ leBytes 1 (s.waitOf x) ++ leBytes 2 x.progress)))

/-- HANDLE_RELEASE (R77). -/
def execHandleRelease (g : Lapse) (q : Rq) (h : Nat) (s : State) : Host.Outcome State Fault Refusal :=
  .next ((s.pass g).serve q 0x32 h [] (fun r s =>
    match s.targetHandle r with
    | none => s.answer r St.unknownHandle 0 []
    | some x =>
      match x.phase with
      | .done .. => (s.freeHandle h).answer r St.ok h []
      | _ => s.answer r St.state 0 []))

/-- Operations that HANDLE_CANCEL may cancel (R72). -/
def cancellable (op : Nat) : Bool := ((opInfo op).map (·.cancel)).getD false

/-- The completion payload that an ended operation kept, with state, fault and stamp of the unit as the cancel leaves it. -/
def keptPayload (pl : List Byte) (st fault now : Nat) : List Byte :=
  pl.take 2 ++ leBytes 1 st ++ leBytes 1 fault ++ (pl.drop 4).take 4 ++ leBytes 8 now ++ pl.drop 16

/-- What cancelling an operation that has not ended does to its unit, with its completion CANCELLED (R79, 04 R109, 07 R200, 09 R247,
12 R326, 16 R415, R421). -/
def State.cancelNow (s : State) (x : Hnd) : State :=
  let u := x.unit % 256
  let cmd := x.unit / 256
  if x.op = 0x20 then
    (if isTurnOn cmd then ((s.abandonOn u).endCmd u St.cancelled).forward u 0 s.now [] else s.endCmd u St.cancelled)
  else if x.op = 0x21 then
    (if cmd = 1 then s.valveOff u else s).valveEnd u St.cancelled (s.valve u).codes
  else if x.op = 0x28 then s.accStop x.num St.cancelled
  else if x.op = 0x52 then (s.complete x.num St.cancelled []).dropJob x.num
  else if x.op = 0x58 then s.dropSign.complete x.num St.cancelled []
  else
    let s := { s.modPwr (fun w => { w with entry := none }) with fab := { s.fab with closed := 0 } }
    let s := s.raise s.keepMask
    s.complete x.num St.cancelled (powerPayload s.pwr.st.code 0 0 s.now)

/-- What cancelling an operation that has ended does to its unit, and the payload of its completion (R79): a unit whose operation was
superseded keeps the later command's state. -/
def State.cancelEnded (s : State) (x : Hnd) (st : Nat) (pl : List Byte) : State × List Byte :=
  let u := x.unit % 256
  let cmd := x.unit / 256
  if st = St.superseded then (s, pl)
  else if x.op = 0x20 then
    let s := if isTurnOn cmd then (s.abandonOn u).forward u 0 s.now [] else s
    (s, keptPayload pl (s.unitState u).code (s.unitFault u) s.now)
  else if x.op = 0x21 then
    let s := if cmd = 1 then s.valveOff u else s
    (s, keptPayload pl (s.valve u).st.code (s.valve u).codes s.now)
  else if x.op = 0x28 then (if cmd = 0x10 && st = St.ok then s.revoke u else s, pl)
  else if x.op = 0x68 then (s, powerPayload s.pwr.st.code 0 0 s.now)
  else (s, [])

/-- A handle was the POWER_REQ of an entry that has passed c, where its session closed and it went to FREE (09 R247). -/
def State.pastC (s : State) (h : Nat) : Bool :=
  match s.pwr.entry with | some e => e.handle = some h && 2 ≤ e.target && 4 ≤ e.step | none => false

/-- HANDLE_CANCEL (R77, R79). The cancel is served, and its OK sent, before the CANCELLED completion: "always served before the completion is
sent" (DEDUCED, entry 41). -/
def execHandleCancel (g : Lapse) (q : Rq) (h : Nat) (s : State) : Host.Outcome State Fault Refusal :=
  .next ((s.pass g).serve q 0x31 h [] (fun r s =>
    match s.targetHandle r with
    | none => s.answer r (if s.pastC r.handle then St.state else St.unknownHandle) 0 []
    | some x =>
      match x.phase with
      | .done .. => s.answer r St.state 0 []
      | .ended t st pl =>
        if t < r.stamp then s.answer r St.state 0 []
        else if !cancellable x.op then s.answer r St.notCancellable 0 []
        else
          let y := (s.answer r St.ok h []).cancelEnded x st pl
          y.1.finish h s.now St.cancelled y.2
      | .pending =>
        if !cancellable x.op then s.answer r St.notCancellable 0 []
        else if s.pastC h then s.answer r St.state 0 []
        else (s.answer r St.ok h []).cancelNow x))

/-- HANDLE_KEEP_EXPIRY (R77). -/
def execHandleKeepExpiry (g : Lapse) (h : Nat) (s : State) : Host.Outcome State Fault Refusal :=
  let s := s.pass g
  match s.handle h with
  | none => .next s
  | some x =>
    match x.phase with
    | .done t _ _ => .next (if s.expired t (msTk (s.pf Pf.atlasHandleKeep_KEEP)) then s.freeHandle h else s)
    | _ => .next s

/-! ### Events and sessions (R80, R94, R454) -/

/-- Insertion of a kept event in stamp order, after those of its stamp. -/
def putKept (e : KeptEv) : List KeptEv → List KeptEv
  | [] => [e]
  | x :: l => if e.ev.stamp < x.ev.stamp then e :: x :: l else x :: putKept e l

/-- The kept events of a mask go to a subscriber that has not had them, in stamp order (R454). -/
def State.sendKept (s : State) (ses org mask : Nat) : State :=
  let due := fun (k : KeptEv) => mask.testBit k.ev.cls && !k.had.contains (ses, org)
  let l := (s.atlas.kept.filter due).foldl (fun l k => putKept k l) []
  let s := l.foldl (fun (s : State) k => s.eventTo k.ev ses org) s
  { s with atlas := { s.atlas with kept := s.atlas.kept.map (fun k => if due k then { k with had := (ses, org) :: k.had } else k) } }

/-- EVENT_SUBSCRIBE (R94, R454). -/
def execEventSubscribe (g : Lapse) (q : Rq) (mask : Nat) (s : State) : Host.Outcome State Fault Refusal :=
  .next ((s.pass g).serve q 0x40 0 (leBytes 4 mask) (fun r s =>
    if 2 ^ 13 ≤ mask % 2 ^ 32 then s.answer r St.range 0 []
    else
      let m := mask % 2 ^ 32
      let o := if r.ses = 3 then r.org else 0
      let s := s.modSes r.ses (fun x => { x with masks := x.masks.setIfInBounds o m })
      let s := s.answer r St.ok 0 []
      if s.atlas.ready && s.now < s.atlas.readyAt + 200000000 then s.sendKept r.ses o m else s))

/-- KEPT_EVENT_EXPIRY (R454). -/
def execKeptEventExpiry (g : Lapse) (s : State) : Host.Outcome State Fault Refusal :=
  let s := s.pass g
  .next (if s.atlas.ready && s.expired s.atlas.readyAt 200000000 then { s with atlas := { s.atlas with kept := [] } } else s)

/-- SESSION_TIMEOUT (R80). -/
def execSessionTimeout (g : Lapse) (ses : Fin 4) (s : State) : Host.Outcome State Fault Refusal :=
  let s := s.pass g
  .next (if (s.ses ses).isOpen && s.expired (s.ses ses).lastReq (msTk (s.pf Pf.atlasSessionTimeout_TMO)) then s.closeSession ses else s)

/-! ### The uplink (R66) -/

/-- The bytes of a datagram from its pieces, up to a total length; none while a piece is missing. -/
def gatherFrags : Nat → Nat → Nat → List (Nat × List Byte) → Option (List Byte)
  | 0, pos, total, _ => if pos = total then some [] else none
  | k + 1, pos, total, l =>
    if pos = total then some []
    else
      match l.find? (fun p => p.1 ≤ pos && pos < p.1 + p.2.length) with
      | none => none
      | some p => (gatherFrags k (p.1 + p.2.length) total l).map (fun r => p.2.drop (pos - p.1) ++ r)

/-- The uplink accepts the datagram: port, interface and source (R66). The switch's endpoint takes no frame without an address (10 R293). -/
def State.uplinkOk (s : State) (d : Datagram) : Bool :=
  s.atlasUp && s.portUp d.iface && d.dport = s.pf Pf.atlasUdpPort_PORT && (s.pf Pf.atlasUplinkIf_IF = 2 || s.pf Pf.atlasUplinkIf_IF = d.iface)
    && d.src ≠ 0 && d.src = s.pf Pf.atlasUplinkPeer_PEER && s.pf Pf.swxIp_IP ≠ 0

/-- UDP_DATAGRAM_RECEIVED (R66, R73): a whole datagram is handed over, a fragment waits for the rest of its datagram. -/
def execUdpDatagramReceived (g : Lapse) (d : Datagram) (s : State) : Host.Outcome State Fault Refusal :=
  let s := s.pass g
  if !s.uplinkOk d then .next s
  else
    let (ident, off, more) := d.frag
    if off = 0 && !more then .next (if d.bytes.length ≤ 4148 then s.deliver 0 0 d.bytes d.iface d.src d.sport else s)
    else
      let mine := fun (x : Reasm) => x.ident = ident && x.iface = d.iface.val && x.src = d.src
      let old : Reasm := ((s.atlas.reasm.filter (fun x => !s.expired x.first 20000000)).find? mine).getD ⟨ident, s.now, d.iface, d.src, [], none⟩
      let new : Reasm := { old with pieces := old.pieces ++ [(off, d.bytes)], total := if more then old.total else some (off + d.bytes.length) }
      let rest := s.atlas.reasm.filter (fun x => !mine x)
      if new.pieces.any (fun p => 4148 < p.1 + p.2.length) then .next { s with atlas := { s.atlas with reasm := rest } }
      else
        match new.total.bind (fun t => gatherFrags new.pieces.length 0 t new.pieces) with
        | some bs => .next (({ s with atlas := { s.atlas with reasm := rest } }).deliver 0 0 bs d.iface d.src d.sport)
        | none => .next { s with atlas := { s.atlas with reasm := rest ++ [new] } }

/-- FRAGMENT_REASSEMBLY_TIMEOUT (R66). -/
def execFragmentReassemblyTimeout (g : Lapse) (ident : Nat) (s : State) : Host.Outcome State Fault Refusal :=
  let s := s.pass g
  .next { s with atlas := { s.atlas with reasm := s.atlas.reasm.filter (fun x => !(x.ident = ident && s.expired x.first 20000000)) } }

end Sys2Proof.Machine
end

