-- ==== Sys2Proof/Machine/Dispatch.lean ====
section
/-!
DEFINITION. One arm per command: a direct call of its meaning.
-/
namespace Sys2Proof.Machine

def exec (i : Instr) (s : State) : Host.Outcome State Fault Refusal :=
  match i with
  | .udpDatagramReceived g d => Sys2Proof.Machine.execUdpDatagramReceived g d s
  | .fragmentReassemblyTimeout g ident => Sys2Proof.Machine.execFragmentReassemblyTimeout g ident s
  | .mbxClaim g ses org => Sys2Proof.Machine.execMbxClaim g ses org s
  | .requestBufferWrite g ses org w => Sys2Proof.Machine.execRequestBufferWrite g ses org w s
  | .mbxDoorbellGo g ses org => Sys2Proof.Machine.execMbxDoorbellGo g ses org s
  | .claimTimeout g ses => Sys2Proof.Machine.execClaimTimeout g ses s
  | .mbxRspAck g ses org => Sys2Proof.Machine.execMbxRspAck g ses org s
  | .mbxCtrlClrcnt g ini mask => Sys2Proof.Machine.execMbxCtrlClrcnt g ini mask s
  | .mbxIrqStatClear g ses org mask => Sys2Proof.Machine.execMbxIrqStatClear g ses org mask s
  | .benchSpiTransaction g t => Sys2Proof.Machine.execBenchSpiTransaction g t s
  | .sessionTimeout g ses => Sys2Proof.Machine.execSessionTimeout g ses s
  | .handleKeepExpiry g h => Sys2Proof.Machine.execHandleKeepExpiry g h s
  | .keptEventExpiry g => Sys2Proof.Machine.execKeptEventExpiry g s
  | .nop g q => Sys2Proof.Machine.execNop g q s
  | .ident g q => Sys2Proof.Machine.execIdent g q s
  | .paramRead g q id idx => Sys2Proof.Machine.execParamRead g q id idx s
  | .paramWrite g q w => Sys2Proof.Machine.execParamWrite g q w s
  | .paramReadMulti g q ps => Sys2Proof.Machine.execParamReadMulti g q ps s
  | .paramWriteSet g q ws => Sys2Proof.Machine.execParamWriteSet g q ws s
  | .paramDescribe g q id idx => Sys2Proof.Machine.execParamDescribe g q id idx s
  | .paramCommit g q => Sys2Proof.Machine.execParamCommit g q s
  | .paramCommitDone g ok => Sys2Proof.Machine.execParamCommitDone g ok s
  | .handleQuery g q h => Sys2Proof.Machine.execHandleQuery g q h s
  | .handleCancel g q h => Sys2Proof.Machine.execHandleCancel g q h s
  | .handleRelease g q h => Sys2Proof.Machine.execHandleRelease g q h s
  | .eventSubscribe g q mask => Sys2Proof.Machine.execEventSubscribe g q mask s
  | .fleetCommit g q target => Sys2Proof.Machine.execFleetCommit g q target s
  | .fleetCommitDone g ok => Sys2Proof.Machine.execFleetCommitDone g ok s
  | .fabricRequest g r served => Sys2Proof.Machine.execFabricRequest g r served s
  | .fabricResponse g port unit => Sys2Proof.Machine.execFabricResponse g port unit s
  | .fabricTimeout g port unit => Sys2Proof.Machine.execFabricTimeout g port unit s
  | .domainDrainEnd g p => Sys2Proof.Machine.execDomainDrainEnd g p s
  | .paceOpreq g ini p op => Sys2Proof.Machine.execPaceOpreq g ini p op s
  | .paceVselWrite g ini p v => Sys2Proof.Machine.execPaceVselWrite g ini p v s
  | .paceCapWrite g ini p c => Sys2Proof.Machine.execPaceCapWrite g ini p c s
  | .paceErrClear g ini p mask => Sys2Proof.Machine.execPaceErrClear g ini p mask s
  | .voltageSettled g p => Sys2Proof.Machine.execVoltageSettled g p s
  | .capWindowBoundary g p => Sys2Proof.Machine.execCapWindowBoundary g p s
  | .droopStart g p => Sys2Proof.Machine.execDroopStart g p s
  | .droopEnd g p => Sys2Proof.Machine.execDroopEnd g p s
  | .pllLock g => Sys2Proof.Machine.execPllLock g s
  | .pllFallback g => Sys2Proof.Machine.execPllFallback g s
  | .pllFallbackEnd g => Sys2Proof.Machine.execPllFallbackEnd g s
  | .tbNowLoRead g port => Sys2Proof.Machine.execTbNowLoRead g port s
  | .tbAonLoRead g port => Sys2Proof.Machine.execTbAonLoRead g port s
  | .aonCalibration g ticks => Sys2Proof.Machine.execAonCalibration g ticks s
  | .chanOff g q c => Sys2Proof.Machine.execChanOff g q c s
  | .chanOn g q c => Sys2Proof.Machine.execChanOn g q c s
  | .chanLow g q c => Sys2Proof.Machine.execChanLow g q c s
  | .chanForward g q c => Sys2Proof.Machine.execChanForward g q c s
  | .chanReverse g q c => Sys2Proof.Machine.execChanReverse g q c s
  | .chanBrake g q c => Sys2Proof.Machine.execChanBrake g q c s
  | .chanClear g q c => Sys2Proof.Machine.execChanClear g q c s
  | .chanPulse g q c => Sys2Proof.Machine.execChanPulse g q c s
  | .commandDeadline g unit => Sys2Proof.Machine.execCommandDeadline g unit s
  | .deadTimeEnd g n => Sys2Proof.Machine.execDeadTimeEnd g n s
  | .inrushEnd g n m => Sys2Proof.Machine.execInrushEnd g n m s
  | .limitUpdate g n ma => Sys2Proof.Machine.execLimitUpdate g n ma s
  | .reversalBrakeEnd g n => Sys2Proof.Machine.execReversalBrakeEnd g n s
  | .fastTrip g n m => Sys2Proof.Machine.execFastTrip g n m s
  | .overcurrent g n m => Sys2Proof.Machine.execOvercurrent g n m s
  | .stall g n m => Sys2Proof.Machine.execStall g n m s
  | .stallAllowanceEnd g n m => Sys2Proof.Machine.execStallAllowanceEnd g n m s
  | .i2tModelStep g n samples => Sys2Proof.Machine.execI2tModelStep g n samples s
  | .deltaT g n x => Sys2Proof.Machine.execDeltaT g n x s
  | .tjShutdown g n x => Sys2Proof.Machine.execTjShutdown g n x s
  | .inrushTimeout g n m => Sys2Proof.Machine.execInrushTimeout g n m s
  | .retryConditionsMet g n sens => Sys2Proof.Machine.execRetryConditionsMet g n sens s
  | .confirmationWindowEnd g n => Sys2Proof.Machine.execConfirmationWindowEnd g n s
  | .offComplete g n m => Sys2Proof.Machine.execOffComplete g n m s
  | .feedLost g feed volt => Sys2Proof.Machine.execFeedLost g feed volt s
  | .feedRestored g feed volt => Sys2Proof.Machine.execFeedRestored g feed volt s
  | .feedLostAbandon g n => Sys2Proof.Machine.execFeedLostAbandon g n s
  | .overvoltage g feed volt => Sys2Proof.Machine.execOvervoltage g feed volt s
  | .reverseCurrent g n m => Sys2Proof.Machine.execReverseCurrent g n m s
  | .reverseCurrentEnd g n => Sys2Proof.Machine.execReverseCurrentEnd g n s
  | .sagStart g die => Sys2Proof.Machine.execSagStart g die s
  | .sagEnd g die => Sys2Proof.Machine.execSagEnd g die s
  | .sagInrushTimeout g n m => Sys2Proof.Machine.execSagInrushTimeout g n m s
  | .offStateTestStart g n => Sys2Proof.Machine.execOffStateTestStart g n s
  | .offStatePullupOn g n mv => Sys2Proof.Machine.execOffStatePullupOn g n mv s
  | .offStateTestEnd g n mv => Sys2Proof.Machine.execOffStateTestEnd g n mv s
  | .compositeEnable g q k cfg => Sys2Proof.Machine.execCompositeEnable g q k cfg s
  | .compositeDisable g q k cfg => Sys2Proof.Machine.execCompositeDisable g q k cfg s
  | .genEnable g q gen cfg => Sys2Proof.Machine.execGenEnable g q gen cfg s
  | .periodBoundary g gen => Sys2Proof.Machine.execPeriodBoundary g gen s
  | .pulseOnEdge g gen unit => Sys2Proof.Machine.execPulseOnEdge g gen unit s
  | .pulseOffEdge g gen unit => Sys2Proof.Machine.execPulseOffEdge g gen unit s
  | .arbiterPass g => Sys2Proof.Machine.execArbiterPass g s
  | .modelStep g tcase steps => Sys2Proof.Machine.execModelStep g tcase steps s
  | .trueUp g ms => Sys2Proof.Machine.execTrueUp g ms s
  | .divergenceCheck g sensors => Sys2Proof.Machine.execDivergenceCheck g sensors s
  | .blockTimeout g num => Sys2Proof.Machine.execBlockTimeout g num s
  | .contourWindowEnd g ws => Sys2Proof.Machine.execContourWindowEnd g ws s
  | .contourDatagramSend g => Sys2Proof.Machine.execContourDatagramSend g s
  | .valveOff g q c => Sys2Proof.Machine.execValveOff g q c s
  | .valveAct g q c => Sys2Proof.Machine.execValveAct g q c s
  | .valveClear g q c => Sys2Proof.Machine.execValveClear g q c s
  | .valveDeadline g v => Sys2Proof.Machine.execValveDeadline g v s
  | .boostEnd g v cur => Sys2Proof.Machine.execBoostEnd g v cur s
  | .tpeakEnd g v cur => Sys2Proof.Machine.execTpeakEnd g v cur s
  | .tholdExpiry g v => Sys2Proof.Machine.execTholdExpiry g v s
  | .valveConfirmationEnd g v => Sys2Proof.Machine.execValveConfirmationEnd g v s
  | .chopCycleStart g v cur => Sys2Proof.Machine.execChopCycleStart g v cur s
  | .chopLevelReached g v cur => Sys2Proof.Machine.execChopLevelReached g v cur s
  | .cycleRecord g v r => Sys2Proof.Machine.execCycleRecord g v r s
  | .valveTrip g v t => Sys2Proof.Machine.execValveTrip g v t s
  | .openCoil g v cur => Sys2Proof.Machine.execOpenCoil g v cur s
  | .valveRetryConditions g v tclamp => Sys2Proof.Machine.execValveRetryConditions g v tclamp s
  | .bankFeedLost g b => Sys2Proof.Machine.execBankFeedLost g b s
  | .valveOffComplete g v cur => Sys2Proof.Machine.execValveOffComplete g v cur s
  | .railAvailable g vrail => Sys2Proof.Machine.execRailAvailable g vrail s
  | .railFault g vrail => Sys2Proof.Machine.execRailFault g vrail s
  | .railLow g vrail => Sys2Proof.Machine.execRailLow g vrail s
  | .lightFrame g q f => Sys2Proof.Machine.execLightFrame g q f s
  | .chainFrameStart g c => Sys2Proof.Machine.execChainFrameStart g c s
  | .chainFrameEnd g c pulses doFail => Sys2Proof.Machine.execChainFrameEnd g c pulses doFail s
  | .mxEnable g q cfg => Sys2Proof.Machine.execMxEnable g q cfg s
  | .matrixFrameBoundary g => Sys2Proof.Machine.execMatrixFrameBoundary g s
  | .rowSlotStart g r => Sys2Proof.Machine.execRowSlotStart g r s
  | .columnIntervalEnd g r c high weak => Sys2Proof.Machine.execColumnIntervalEnd g r c high weak s
  | .rowTrip g r => Sys2Proof.Machine.execRowTrip g r s
  | .matrixRestart g => Sys2Proof.Machine.execMatrixRestart g s
  | .matrixConfirmEnd g => Sys2Proof.Machine.execMatrixConfirmEnd g s
  | .ntcConversion g codes => Sys2Proof.Machine.execNtcConversion g codes s
  | .runSampleCycle g levels => Sys2Proof.Machine.execRunSampleCycle g levels s
  | .surveyCycle g levels => Sys2Proof.Machine.execSurveyCycle g levels s
  | .powerReqRun g q opt => Sys2Proof.Machine.execPowerReqRun g q opt s
  | .powerReqHold g q opt => Sys2Proof.Machine.execPowerReqHold g q opt s
  | .powerReqPark g q opt => Sys2Proof.Machine.execPowerReqPark g q opt s
  | .powerReqDormant g q opt => Sys2Proof.Machine.execPowerReqDormant g q opt s
  | .entryOffsComplete g => Sys2Proof.Machine.execEntryOffsComplete g s
  | .entryCompletionSent g => Sys2Proof.Machine.execEntryCompletionSent g s
  | .wakeDuringEntry g w => Sys2Proof.Machine.execWakeDuringEntry g w s
  | .canWakePattern g n => Sys2Proof.Machine.execCanWakePattern g n s
  | .selectiveWake g n f => Sys2Proof.Machine.execSelectiveWake g n f s
  | .selectiveWakeErrorLimit g n => Sys2Proof.Machine.execSelectiveWakeErrorLimit g n s
  | .linWake g n => Sys2Proof.Machine.execLinWake g n s
  | .tc10Wake g k => Sys2Proof.Machine.execTc10Wake g k s
  | .speWake g k => Sys2Proof.Machine.execSpeWake g k s
  | .twinPartnerWake g => Sys2Proof.Machine.execTwinPartnerWake g s
  | .benchWake g => Sys2Proof.Machine.execBenchWake g s
  | .alarm g => Sys2Proof.Machine.execAlarm g s
  | .lgdCtrlClr g ini => Sys2Proof.Machine.execLgdCtrlClr g ini s
  | .feedBelowPd0 g => Sys2Proof.Machine.execFeedBelowPd0 g s
  | .feedStart g a b => Sys2Proof.Machine.execFeedStart g a b s
  | .canFrameReceived g n f x => Sys2Proof.Machine.execCanFrameReceived g n f x s
  | .canFrameSent g n sof delay => Sys2Proof.Machine.execCanFrameSent g n sof delay s
  | .canArbitrationLost g n => Sys2Proof.Machine.execCanArbitrationLost g n s
  | .canError g n e => Sys2Proof.Machine.execCanError g n e s
  | .busOffRecovered g n => Sys2Proof.Machine.execBusOffRecovered g n s
  | .ringDeliver g a => Sys2Proof.Machine.execRingDeliver g a s
  | .tunnelFlush g n => Sys2Proof.Machine.execTunnelFlush g n s
  | .acfCanReceived g bus f => Sys2Proof.Machine.execAcfCanReceived g bus f s
  | .txRingConsume g a => Sys2Proof.Machine.execTxRingConsume g a s
  | .linSlotStart g n => Sys2Proof.Machine.execLinSlotStart g n s
  | .linNoResponse g n => Sys2Proof.Machine.execLinNoResponse g n s
  | .linHeaderReceived g n id x => Sys2Proof.Machine.execLinHeaderReceived g n id x s
  | .linFrameReceived g n f => Sys2Proof.Machine.execLinFrameReceived g n f s
  | .linPublishWrite g n id x => Sys2Proof.Machine.execLinPublishWrite g n id x s
  | .ethLinkUp g k sqi => Sys2Proof.Machine.execEthLinkUp g k sqi s
  | .ethLinkDown g k => Sys2Proof.Machine.execEthLinkDown g k s
  | .cableTest g q k => Sys2Proof.Machine.execCableTest g q k s
  | .cableTestDone g k result dist => Sys2Proof.Machine.execCableTestDone g k result dist s
  | .plcaLost g k => Sys2Proof.Machine.execPlcaLost g k s
  | .switchFrameIngress g f => Sys2Proof.Machine.execSwitchFrameIngress g f s
  | .addressAgeing g vlan mac => Sys2Proof.Machine.execAddressAgeing g vlan mac s
  | .gptpSync g k y => Sys2Proof.Machine.execGptpSync g k y s
  | .meridianHoldExpiry g => Sys2Proof.Machine.execMeridianHoldExpiry g s
  | .meridianCycleDue g => Sys2Proof.Machine.execMeridianCycleDue g s
  | .referenceSent g n sof => Sys2Proof.Machine.execReferenceSent g n sof s
  | .netsleepEnable g q cfg => Sys2Proof.Machine.execNetsleepEnable g q cfg s
  | .netsleepDisable g q cfg => Sys2Proof.Machine.execNetsleepDisable g q cfg s
  | .keepAliveReceived g link node reason => Sys2Proof.Machine.execKeepAliveReceived g link node reason s
  | .keepAliveSend g => Sys2Proof.Machine.execKeepAliveSend g s
  | .keepAliveTimeout g => Sys2Proof.Machine.execKeepAliveTimeout g s
  | .linGoToSleep g => Sys2Proof.Machine.execLinGoToSleep g s
  | .preCommitSave g => Sys2Proof.Machine.execPreCommitSave g s
  | .readySleepWaitEnd g => Sys2Proof.Machine.execReadySleepWaitEnd g s
  | .linWakeupRestart g n => Sys2Proof.Machine.execLinWakeupRestart g n s
  | .tc10SleepAckTimeout g k => Sys2Proof.Machine.execTc10SleepAckTimeout g k s
  | .falseWakeTimeout g => Sys2Proof.Machine.execFalseWakeTimeout g s
  | .wakeHoldEnd g => Sys2Proof.Machine.execWakeHoldEnd g s
  | .waymark g link node => Sys2Proof.Machine.execWaymark g link node s
  | .waymarkMinute g link node => Sys2Proof.Machine.execWaymarkMinute g link node s
  | .search g q c => Sys2Proof.Machine.execSearch g q c s
  | .immo g q c => Sys2Proof.Machine.execImmo g q c s
  | .tmemRead g q c first count => Sys2Proof.Machine.execTmemRead g q c first count s
  | .enrol g q c tid keywrap => Sys2Proof.Machine.execEnrol g q c tid keywrap s
  | .revoke g q c => Sys2Proof.Machine.execRevoke g q c s
  | .calibrate g q c => Sys2Proof.Machine.execCalibrate g q c s
  | .calibrateStep g ma => Sys2Proof.Machine.execCalibrateStep g ma s
  | .lockClear g q c => Sys2Proof.Machine.execLockClear g q c s
  | .roundStart g => Sys2Proof.Machine.execRoundStart g s
  | .fieldBurst g k ma => Sys2Proof.Machine.execFieldBurst g k ma s
  | .lfShortTrip g k => Sys2Proof.Machine.execLfShortTrip g k s
  | .responseSlotEnd g j o => Sys2Proof.Machine.execResponseSlotEnd g j o s
  | .replyCheck g => Sys2Proof.Machine.execReplyCheck g s
  | .exchangeBlock g slot x => Sys2Proof.Machine.execExchangeBlock g slot x s
  | .rangingResult g slot r => Sys2Proof.Machine.execRangingResult g slot r s
  | .accessDeadline g => Sys2Proof.Machine.execAccessDeadline g s
  | .lockoutEnd g => Sys2Proof.Machine.execLockoutEnd g s
  | .failWindowExpiry g => Sys2Proof.Machine.execFailWindowExpiry g s
  | .feLinkUp g f => Sys2Proof.Machine.execFeLinkUp g f s
  | .feLinkDown g f errs => Sys2Proof.Machine.execFeLinkDown g f errs s
  | .twinLinkUp g => Sys2Proof.Machine.execTwinLinkUp g s
  | .twinLinkDown g reason => Sys2Proof.Machine.execTwinLinkDown g reason s
  | .linkFrameReceived g bytes => Sys2Proof.Machine.execLinkFrameReceived g bytes s
  | .linkReplay g => Sys2Proof.Machine.execLinkReplay g s
  | .twinOutboundRequest g r => Sys2Proof.Machine.execTwinOutboundRequest g r s
  | .twinInboundRequest g r => Sys2Proof.Machine.execTwinInboundRequest g r s
  | .postedWriteError g addr code => Sys2Proof.Machine.execPostedWriteError g addr code s
  | .reservationExpiry g rid => Sys2Proof.Machine.execReservationExpiry g rid s
  | .lockBreak g => Sys2Proof.Machine.execLockBreak g s
  | .ctlInterrupt g => Sys2Proof.Machine.execCtlInterrupt g s
  | .twinWakePattern g => Sys2Proof.Machine.execTwinWakePattern g s
  | .intlkLineChange g high => Sys2Proof.Machine.execIntlkLineChange g high s
  | .idleClaimTimer g => Sys2Proof.Machine.execIdleClaimTimer g s
  | .claimCheck g low => Sys2Proof.Machine.execClaimCheck g low s
  | .pairStateReport g p => Sys2Proof.Machine.execPairStateReport g p s
  | .holdoffEnd g => Sys2Proof.Machine.execHoldoffEnd g s
  | .intlkRelease g cause => Sys2Proof.Machine.execIntlkRelease g cause s
  | .leaseExpiry g => Sys2Proof.Machine.execLeaseExpiry g s
  | .forwardedCommand g f => Sys2Proof.Machine.execForwardedCommand g f s
  | .pairReport g => Sys2Proof.Machine.execPairReport g s
  | .reportCompare g r => Sys2Proof.Machine.execReportCompare g r s
  | .missingReport g => Sys2Proof.Machine.execMissingReport g s
  | .takeoverBlocked g => Sys2Proof.Machine.execTakeoverBlocked g s
  | .proofStart g ini v => Sys2Proof.Machine.execProofStart g ini v s
  | .proofEnd g => Sys2Proof.Machine.execProofEnd g s
  | .editionReport g be mask => Sys2Proof.Machine.execEditionReport g be mask s
  | .intlkCtrlWrite g ini v => Sys2Proof.Machine.execIntlkCtrlWrite g ini v s
  | .intlkErrClear g ini mask => Sys2Proof.Machine.execIntlkErrClear g ini mask s
  | .wordIssue g k => Sys2Proof.Machine.execWordIssue g k s
  | .add g k u v => Sys2Proof.Machine.execAdd g k u v s
  | .sub g k u v => Sys2Proof.Machine.execSub g k u v s
  | .and g k u v => Sys2Proof.Machine.execAnd g k u v s
  | .or g k u v => Sys2Proof.Machine.execOr g k u v s
  | .xor g k u v => Sys2Proof.Machine.execXor g k u v s
  | .shl g k u v => Sys2Proof.Machine.execShl g k u v s
  | .shr g k u v => Sys2Proof.Machine.execShr g k u v s
  | .sar g k u v => Sys2Proof.Machine.execSar g k u v s
  | .min g k u v => Sys2Proof.Machine.execMin g k u v s
  | .max g k u v => Sys2Proof.Machine.execMax g k u v s
  | .minu g k u v => Sys2Proof.Machine.execMinu g k u v s
  | .maxu g k u v => Sys2Proof.Machine.execMaxu g k u v s
  | .mul g k v => Sys2Proof.Machine.execMul g k v s
  | .mulh g k v => Sys2Proof.Machine.execMulh g k v s
  | .mulhu g k v => Sys2Proof.Machine.execMulhu g k v s
  | .div g k v => Sys2Proof.Machine.execDiv g k v s
  | .divu g k v => Sys2Proof.Machine.execDivu g k v s
  | .rem g k v => Sys2Proof.Machine.execRem g k v s
  | .remu g k v => Sys2Proof.Machine.execRemu g k v s
  | .ld8u g k v => Sys2Proof.Machine.execLd8u g k v s
  | .ld8s g k v => Sys2Proof.Machine.execLd8s g k v s
  | .ld16u g k v => Sys2Proof.Machine.execLd16u g k v s
  | .ld16s g k v => Sys2Proof.Machine.execLd16s g k v s
  | .ld32 g k v => Sys2Proof.Machine.execLd32 g k v s
  | .ld64 g k v => Sys2Proof.Machine.execLd64 g k v s
  | .st8 g k v => Sys2Proof.Machine.execSt8 g k v s
  | .st16 g k v => Sys2Proof.Machine.execSt16 g k v s
  | .st32 g k v => Sys2Proof.Machine.execSt32 g k v s
  | .st64 g k v => Sys2Proof.Machine.execSt64 g k v s
  | .ldx g k v => Sys2Proof.Machine.execLdx g k v s
  | .stx g k v => Sys2Proof.Machine.execStx g k v s
  | .fence g k v => Sys2Proof.Machine.execFence g k v s
  | .beq g k v => Sys2Proof.Machine.execBeq g k v s
  | .bne g k v => Sys2Proof.Machine.execBne g k v s
  | .blt g k v => Sys2Proof.Machine.execBlt g k v s
  | .bge g k v => Sys2Proof.Machine.execBge g k v s
  | .bltu g k v => Sys2Proof.Machine.execBltu g k v s
  | .bgeu g k v => Sys2Proof.Machine.execBgeu g k v s
  | .jmp g k v => Sys2Proof.Machine.execJmp g k v s
  | .call g k imm => Sys2Proof.Machine.execCall g k imm s
  | .ret g k v => Sys2Proof.Machine.execRet g k v s
  | .rte g k v => Sys2Proof.Machine.execRte g k v s
  | .wait g k v => Sys2Proof.Machine.execWait g k v s
  | .waitEnd g k => Sys2Proof.Machine.execWaitEnd g k s
  | .post g k v => Sys2Proof.Machine.execPost g k v s
  | .softwareTrap g k v => Sys2Proof.Machine.execSoftwareTrap g k v s
  | .lateWriteError g k code addr => Sys2Proof.Machine.execLateWriteError g k code addr s
  | .crcInit g k v => Sys2Proof.Machine.execCrcInit g k v s
  | .crcB8 g k v => Sys2Proof.Machine.execCrcB8 g k v s
  | .crcB16 g k v => Sys2Proof.Machine.execCrcB16 g k v s
  | .crcB32 g k v => Sys2Proof.Machine.execCrcB32 g k v s
  | .codecStat g k v => Sys2Proof.Machine.execCodecStat g k v s
  | .shakeAbsorb g k v => Sys2Proof.Machine.execShakeAbsorb g k v s
  | .shakeSqueeze g k v => Sys2Proof.Machine.execShakeSqueeze g k v s
  | .aesEnc g k v => Sys2Proof.Machine.execAesEnc g k v s
  | .dmaGo g k v => Sys2Proof.Machine.execDmaGo g k v s
  | .dmaStop g k v => Sys2Proof.Machine.execDmaStop g k v s
  | .dmaDescriptorComplete g n => Sys2Proof.Machine.execDmaDescriptorComplete g n s
  | .dmaTransferError g n code addr => Sys2Proof.Machine.execDmaTransferError g n code addr s
  | .dieGate g n v => Sys2Proof.Machine.execDieGate g n v s
  | .dieRb g n v => Sys2Proof.Machine.execDieRb g n v s
  | .dieAck g n v => Sys2Proof.Machine.execDieAck g n v s
  | .vlvLevel g b v => Sys2Proof.Machine.execVlvLevel g b v s
  | .vlvPhase g b v => Sys2Proof.Machine.execVlvPhase g b v s
  | .vlvRail g b v => Sys2Proof.Machine.execVlvRail g b v s
  | .appletWatchdog g n => Sys2Proof.Machine.execAppletWatchdog g n s
  | .appletRestart g n => Sys2Proof.Machine.execAppletRestart g n s
  | .appletRun g q n cfg => Sys2Proof.Machine.execAppletRun g q n cfg s
  | .dbgHaltreq g ini k v => Sys2Proof.Machine.execDbgHaltreq g ini k v s
  | .dbgCoreStep g ini k => Sys2Proof.Machine.execDbgCoreStep g ini k s
  | .dbgClrRecord g ini => Sys2Proof.Machine.execDbgClrRecord g ini s
  | .dbgClrCounts g ini => Sys2Proof.Machine.execDbgClrCounts g ini s
  | .scrubRead g => Sys2Proof.Machine.execScrubRead g s
  | .memFlipArm g ini v => Sys2Proof.Machine.execMemFlipArm g ini v s
  | .memFlipDoneClear g ini => Sys2Proof.Machine.execMemFlipDoneClear g ini s
  | .memClrRecord g ini => Sys2Proof.Machine.execMemClrRecord g ini s
  | .memClrCounts g ini => Sys2Proof.Machine.execMemClrCounts g ini s
  | .imgBegin g q b => Sys2Proof.Machine.execImgBegin g q b s
  | .sectorEraseDone g => Sys2Proof.Machine.execSectorEraseDone g s
  | .imgBlock g q b => Sys2Proof.Machine.execImgBlock g q b s
  | .granuleProgrammed g ok => Sys2Proof.Machine.execGranuleProgrammed g ok s
  | .imgVerify g q target => Sys2Proof.Machine.execImgVerify g q target s
  | .verifyDone g sigOk => Sys2Proof.Machine.execVerifyDone g sigOk s
  | .imgActivateNow g q target => Sys2Proof.Machine.execImgActivateNow g q target s
  | .imgActivateArmed g q target => Sys2Proof.Machine.execImgActivateArmed g q target s
  | .imgActivateDisarm g q target => Sys2Proof.Machine.execImgActivateDisarm g q target s
  | .imgActivateApplet g q target mode => Sys2Proof.Machine.execImgActivateApplet g q target mode s
  | .activationReset g => Sys2Proof.Machine.execActivationReset g s
  | .trialConfirmTimer g => Sys2Proof.Machine.execTrialConfirmTimer g s
  | .fwConfirm g q v => Sys2Proof.Machine.execFwConfirm g q v s
  | .debugUnlock g q => Sys2Proof.Machine.execDebugUnlock g q s
  | .attestSign g q nonce => Sys2Proof.Machine.execAttestSign g q nonce s
  | .attestSignDone g => Sys2Proof.Machine.execAttestSignDone g s
  | .attestChunk g q chunk => Sys2Proof.Machine.execAttestChunk g q chunk s
  | .coldStart g => Sys2Proof.Machine.execColdStart g s
  | .warmStart g digestOk => Sys2Proof.Machine.execWarmStart g digestOk s
  | .bootPhaseAdvance g o => Sys2Proof.Machine.execBootPhaseAdvance g o s
  | .supervisorWatchdogService g => Sys2Proof.Machine.execSupervisorWatchdogService g s
  | .watchdogReset g => Sys2Proof.Machine.execWatchdogReset g s
  | .logicSupplyReset g => Sys2Proof.Machine.execLogicSupplyReset g s
  | .holdWindowExpiry g => Sys2Proof.Machine.execHoldWindowExpiry g s
  | .stormClear g => Sys2Proof.Machine.execStormClear g s
  | .sequencerRestart g core => Sys2Proof.Machine.execSequencerRestart g core s
  | .bootCtrlHoldWrite g ini v => Sys2Proof.Machine.execBootCtrlHoldWrite g ini v s
  | .registerWrite g ini addr v => Sys2Proof.Machine.execRegisterWrite g ini addr v s
  | .canIntegration g n => Sys2Proof.Machine.execCanIntegration g n s
  | .plcaBeaconReturn g k => Sys2Proof.Machine.execPlcaBeaconReturn g k s
  | .linBusIdle g n => Sys2Proof.Machine.execLinBusIdle g n s
  | .tc10SleepAck g k => Sys2Proof.Machine.execTc10SleepAck g k s
  | .waymarkRunEnd g link node => Sys2Proof.Machine.execWaymarkRunEnd g link node s
  | .stuckLow g => Sys2Proof.Machine.execStuckLow g s
  | .switchOverCauseTimeout g => Sys2Proof.Machine.execSwitchOverCauseTimeout g s
  | .bootRecordWritten g => Sys2Proof.Machine.execBootRecordWritten g s

end Sys2Proof.Machine
end

