-- ==== Sys2Proof/Safety.lean ====
section
/-!
DEFINITION. What a safe run is, in the terms that claims use: a step that answers a next state, the parts of the state, and which parts a
command may change.
-/
namespace Sys2Proof.Machine

/-- A step answers a next state: neither a fault nor a refusal. -/
def Goes (o : Host.Outcome State Fault Refusal) : Prop := ∃ t, o = .next t

/-- A command answers a next state, and that state has the property. -/
def Does (c : Instr) (s : State) (P : State → Prop) : Prop := ∃ t, exec c s = .next t ∧ P t

/-- A run of `k` steps answers a next state at every step. -/
def Runs : Nat → State → Prop
  | 0, _ => True
  | k + 1, s => ∃ t, step s = .next t ∧ Runs k t

/-- Every list of key and value pairs of the state is in its one canonical form: the bytes of the memories and their check bits by address,
the working and the stored values of the parameters by key, each strictly rising. -/
def State.Canon (s : State) : Prop :=
  s.mem.wf ∧ s.mem.chk.Pairwise (fun a b => a.1 < b.1) ∧ s.par.work.Pairwise (fun a b => a.1 < b.1) ∧
  s.par.stored.Pairwise (fun a b => a.1 < b.1)

/-! ### The parts of the state -/

/-- A part of the state: a field of `State`, with three fields cut in two: the cores' pending events apart from the rest of the cores, the
bytes of the memories apart from the MEM block, the messages sent on CTL apart from the rest of the pair. -/
inductive Part where
  | clk | pace | fab | atlas | par | dbg | load | iso | ctr | vlv | light | pwr | lgd | svy | inp | net | agr | acc
  | regs | evs | bytes | memc | dma | boot | fw | ilr | ctl | twin | pending
  deriving DecidableEq, Repr

/-- Every part but the queue. -/
def allParts : List Part :=
  [.clk, .pace, .fab, .atlas, .par, .dbg, .load, .iso, .ctr, .vlv, .light, .pwr, .lgd, .svy, .inp, .net, .agr, .acc]
  ++ [.regs, .evs, .bytes, .memc, .dma, .boot, .fw, .ilr, .ctl, .twin]

/-- Every part but the queue and those of a list. -/
def allBut (l : List Part) : List Part := allParts.filter (fun p => !l.contains p)

/-- A part is the same in two states. -/
def Part.same (p : Part) (s t : State) : Prop :=
  match p with
  | .clk => t.clk = s.clk
  | .pace => t.pace = s.pace
  | .fab => t.fab = s.fab
  | .atlas => t.atlas = s.atlas
  | .par => t.par = s.par
  | .dbg => t.dbg = s.dbg
  | .load => t.load = s.load
  | .iso => t.iso = s.iso
  | .ctr => t.ctr = s.ctr
  | .vlv => t.vlv = s.vlv
  | .light => t.light = s.light
  | .pwr => t.pwr = s.pwr
  | .lgd => t.lgd = s.lgd
  | .svy => t.svy = s.svy
  | .inp => t.inp = s.inp
  | .net => t.net = s.net
  | .agr => t.agr = s.agr
  | .acc => t.acc = s.acc
  | .regs => t.xi.app = s.xi.app ∧ t.xi.shIn = s.xi.shIn ∧ t.xi.shOut = s.xi.shOut ∧
      ∀ i, { t.core i with evPend := 0, dieEv := 0 } = { s.core i with evPend := 0, dieEv := 0 }
  | .evs => ∀ i, (t.core i).evPend = (s.core i).evPend ∧ (t.core i).dieEv = (s.core i).dieEv
  | .bytes => t.mem.cells = s.mem.cells ∧ t.mem.chk = s.mem.chk ∧ t.mem.epoch = s.mem.epoch
  | .memc => { t.mem with cells := [], chk := [], epoch := 0 } = { s.mem with cells := [], chk := [], epoch := 0 }
  | .dma => t.dma = s.dma
  | .boot => t.boot = s.boot
  | .fw => t.fw = s.fw
  | .ilr => { t.il with ctl := [] } = { s.il with ctl := [] }
  | .ctl => t.il.ctl = s.il.ctl
  | .twin => t.twin = s.twin
  | .pending => t.pending = s.pending

/-- The time that passes before a command. -/
def lapseOf (c : Instr) : Lapse :=
  match c with
  | .udpDatagramReceived g .. | .fragmentReassemblyTimeout g .. | .mbxClaim g .. | .requestBufferWrite g .. | .mbxDoorbellGo g ..
    | .claimTimeout g .. | .mbxRspAck g .. | .mbxCtrlClrcnt g .. | .mbxIrqStatClear g .. | .benchSpiTransaction g .. | .sessionTimeout g ..
    | .handleKeepExpiry g .. | .keptEventExpiry g | .nop g .. | .ident g .. | .paramRead g .. | .paramWrite g .. | .paramReadMulti g ..
    | .paramWriteSet g .. | .paramDescribe g .. | .paramCommit g .. | .paramCommitDone g .. | .handleQuery g .. | .handleCancel g ..
    | .handleRelease g .. | .eventSubscribe g .. | .fleetCommit g .. | .fleetCommitDone g .. | .fabricRequest g .. | .fabricResponse g ..
    | .fabricTimeout g .. | .domainDrainEnd g .. | .paceOpreq g .. | .paceVselWrite g .. | .paceCapWrite g .. | .paceErrClear g ..
    | .voltageSettled g .. | .capWindowBoundary g .. | .droopStart g .. | .droopEnd g .. | .pllLock g | .pllFallback g | .pllFallbackEnd g
    | .tbNowLoRead g .. | .tbAonLoRead g .. | .aonCalibration g .. | .chanOff g .. | .chanOn g .. | .chanLow g .. | .chanForward g ..
    | .chanReverse g .. | .chanBrake g .. | .chanClear g .. | .chanPulse g .. | .commandDeadline g .. | .deadTimeEnd g .. | .inrushEnd g ..
    | .limitUpdate g .. | .reversalBrakeEnd g .. | .fastTrip g .. | .overcurrent g .. | .stall g .. | .stallAllowanceEnd g ..
    | .i2tModelStep g .. | .deltaT g .. | .tjShutdown g .. | .inrushTimeout g .. | .retryConditionsMet g .. | .confirmationWindowEnd g ..
    | .offComplete g .. | .feedLost g .. | .feedRestored g .. | .feedLostAbandon g .. | .overvoltage g .. | .reverseCurrent g ..
    | .reverseCurrentEnd g .. | .sagStart g .. | .sagEnd g .. | .sagInrushTimeout g .. | .offStateTestStart g .. | .offStatePullupOn g ..
    | .offStateTestEnd g .. | .compositeEnable g .. | .compositeDisable g .. | .genEnable g .. | .periodBoundary g .. | .pulseOnEdge g ..
    | .pulseOffEdge g .. | .arbiterPass g | .modelStep g .. | .trueUp g .. | .divergenceCheck g .. | .blockTimeout g ..
    | .contourWindowEnd g .. | .contourDatagramSend g | .valveOff g .. | .valveAct g .. | .valveClear g .. | .valveDeadline g ..
    | .boostEnd g .. | .tpeakEnd g .. | .tholdExpiry g .. | .valveConfirmationEnd g .. | .chopCycleStart g .. | .chopLevelReached g ..
    | .cycleRecord g .. | .valveTrip g .. | .openCoil g .. | .valveRetryConditions g .. | .bankFeedLost g .. | .valveOffComplete g ..
    | .railAvailable g .. | .railFault g .. | .railLow g .. | .lightFrame g .. | .chainFrameStart g .. | .chainFrameEnd g ..
    | .mxEnable g .. | .matrixFrameBoundary g | .rowSlotStart g .. | .columnIntervalEnd g .. | .rowTrip g .. | .matrixRestart g
    | .matrixConfirmEnd g | .ntcConversion g .. | .runSampleCycle g .. | .surveyCycle g .. | .powerReqRun g .. | .powerReqHold g ..
    | .powerReqPark g .. | .powerReqDormant g .. | .entryOffsComplete g | .entryCompletionSent g | .wakeDuringEntry g ..
    | .canWakePattern g .. | .selectiveWake g .. | .selectiveWakeErrorLimit g .. | .linWake g .. | .tc10Wake g .. | .speWake g ..
    | .twinPartnerWake g | .benchWake g | .alarm g | .lgdCtrlClr g .. | .feedBelowPd0 g | .feedStart g .. | .canFrameReceived g ..
    | .canFrameSent g .. | .canArbitrationLost g .. | .canError g .. | .busOffRecovered g .. | .ringDeliver g .. | .tunnelFlush g ..
    | .acfCanReceived g .. | .txRingConsume g .. | .linSlotStart g .. | .linNoResponse g .. | .linHeaderReceived g ..
    | .linFrameReceived g .. | .linPublishWrite g .. | .ethLinkUp g .. | .ethLinkDown g .. | .cableTest g .. | .cableTestDone g ..
    | .plcaLost g .. | .switchFrameIngress g .. | .addressAgeing g .. | .gptpSync g .. | .meridianHoldExpiry g | .meridianCycleDue g
    | .referenceSent g .. | .netsleepEnable g .. | .netsleepDisable g .. | .keepAliveReceived g .. | .keepAliveSend g | .keepAliveTimeout g
    | .linGoToSleep g | .preCommitSave g | .readySleepWaitEnd g | .linWakeupRestart g .. | .tc10SleepAckTimeout g .. | .falseWakeTimeout g
    | .wakeHoldEnd g | .waymark g .. | .waymarkMinute g .. | .search g .. | .immo g .. | .tmemRead g .. | .enrol g .. | .revoke g ..
    | .calibrate g .. | .calibrateStep g .. | .lockClear g .. | .roundStart g | .fieldBurst g .. | .lfShortTrip g .. | .responseSlotEnd g ..
    | .replyCheck g | .exchangeBlock g .. | .rangingResult g .. | .accessDeadline g | .lockoutEnd g | .failWindowExpiry g | .feLinkUp g ..
    | .feLinkDown g .. | .twinLinkUp g | .twinLinkDown g .. | .linkFrameReceived g .. | .linkReplay g | .twinOutboundRequest g ..
    | .twinInboundRequest g .. | .postedWriteError g .. | .reservationExpiry g .. | .lockBreak g | .ctlInterrupt g | .twinWakePattern g
    | .intlkLineChange g .. | .idleClaimTimer g | .claimCheck g .. | .pairStateReport g .. | .holdoffEnd g | .intlkRelease g ..
    | .leaseExpiry g | .forwardedCommand g .. | .pairReport g | .reportCompare g .. | .missingReport g | .takeoverBlocked g
    | .proofStart g .. | .proofEnd g | .editionReport g .. | .intlkCtrlWrite g .. | .intlkErrClear g .. | .wordIssue g .. | .add g ..
    | .sub g .. | .and g .. | .or g .. | .xor g .. | .shl g .. | .shr g .. | .sar g .. | .min g .. | .max g .. | .minu g .. | .maxu g ..
    | .mul g .. | .mulh g .. | .mulhu g .. | .div g .. | .divu g .. | .rem g .. | .remu g .. | .ld8u g .. | .ld8s g .. | .ld16u g ..
    | .ld16s g .. | .ld32 g .. | .ld64 g .. | .st8 g .. | .st16 g .. | .st32 g .. | .st64 g .. | .ldx g .. | .stx g .. | .fence g ..
    | .beq g .. | .bne g .. | .blt g .. | .bge g .. | .bltu g .. | .bgeu g .. | .jmp g .. | .call g .. | .ret g .. | .rte g .. | .wait g ..
    | .waitEnd g .. | .post g .. | .softwareTrap g .. | .lateWriteError g .. | .crcInit g .. | .crcB8 g .. | .crcB16 g .. | .crcB32 g ..
    | .codecStat g .. | .shakeAbsorb g .. | .shakeSqueeze g .. | .aesEnc g .. | .dmaGo g .. | .dmaStop g .. | .dmaDescriptorComplete g ..
    | .dmaTransferError g .. | .dieGate g .. | .dieRb g .. | .dieAck g .. | .vlvLevel g .. | .vlvPhase g .. | .vlvRail g ..
    | .appletWatchdog g .. | .appletRestart g .. | .appletRun g .. | .dbgHaltreq g .. | .dbgCoreStep g .. | .dbgClrRecord g ..
    | .dbgClrCounts g .. | .scrubRead g | .memFlipArm g .. | .memFlipDoneClear g .. | .memClrRecord g .. | .memClrCounts g ..
    | .imgBegin g .. | .sectorEraseDone g | .imgBlock g .. | .granuleProgrammed g .. | .imgVerify g .. | .verifyDone g ..
    | .imgActivateNow g .. | .imgActivateArmed g .. | .imgActivateDisarm g .. | .imgActivateApplet g .. | .activationReset g
    | .trialConfirmTimer g | .fwConfirm g .. | .debugUnlock g .. | .attestSign g .. | .attestSignDone g | .attestChunk g .. | .coldStart g
    | .warmStart g .. | .bootPhaseAdvance g .. | .supervisorWatchdogService g | .watchdogReset g | .logicSupplyReset g | .holdWindowExpiry g
    | .stormClear g | .sequencerRestart g .. | .bootCtrlHoldWrite g .. | .registerWrite g .. | .canIntegration g .. | .plcaBeaconReturn g ..
    | .linBusIdle g .. | .tc10SleepAck g .. | .waymarkRunEnd g .. | .stuckLow g | .switchOverCauseTimeout g | .bootRecordWritten g => g

/-- The parts that a command may change once its time has passed; any other part it leaves as it is. -/
def touches (c : Instr) : List Part :=
  match c with
  | .fragmentReassemblyTimeout .. | .handleKeepExpiry .. | .keptEventExpiry ..
    => [.atlas]
  | .voltageSettled .. | .capWindowBoundary ..
    => [.pace]
  | .aonCalibration ..
    => [.clk]
  | .limitUpdate .. | .stallAllowanceEnd .. | .reverseCurrentEnd .. | .sagEnd .. | .offStateTestStart .. | .offStatePullupOn ..
    | .pulseOnEdge .. | .pulseOffEdge ..
    => [.load]
  | .contourDatagramSend ..
    => [.ctr]
  | .chopCycleStart .. | .chopLevelReached .. | .railAvailable ..
    => [.vlv]
  | .chainFrameStart .. | .rowSlotStart .. | .columnIntervalEnd ..
    => [.light]
  | .canArbitrationLost .. | .linSlotStart .. | .linHeaderReceived .. | .linPublishWrite .. | .cableTestDone .. | .switchFrameIngress ..
    | .addressAgeing .. | .referenceSent .. | .linWakeupRestart .. | .canIntegration .. | .plcaBeaconReturn .. | .linBusIdle ..
    => [.net]
  | .wakeHoldEnd ..
    => [.agr]
  | .waymarkMinute ..
    => [.par]
  | .failWindowExpiry .. | .feLinkUp ..
    => [.acc]
  | .linkReplay .. | .reservationExpiry .. | .twinWakePattern ..
    => [.twin]
  | .supervisorWatchdogService .. | .stormClear ..
    => [.boot]
  | .droopStart ..
    => [.pace, .boot]
  | .reversalBrakeEnd .. | .retryConditionsMet .. | .periodBoundary ..
    => [.load, .iso]
  | .sagStart ..
    => [.load, .evs]
  | .contourWindowEnd ..
    => [.load, .ctr]
  | .valveRetryConditions ..
    => [.iso, .vlv]
  | .matrixRestart ..
    => [.iso, .light]
  | .linGoToSleep ..
    => [.net, .agr]
  | .ctlInterrupt ..
    => [.evs, .twin]
  | .missingReport ..
    => [.ilr, .ctl]
  | .sectorEraseDone ..
    => [.bytes, .fw]
  | .waymarkRunEnd ..
    => [.par, .agr]
  | .udpDatagramReceived .. | .claimTimeout .. | .nop .. | .ident .. | .paramRead .. | .paramReadMulti .. | .paramDescribe ..
    | .paramCommit .. | .handleQuery .. | .handleRelease .. | .eventSubscribe .. | .fleetCommit .. | .attestChunk ..
    => [.atlas, .evs, .ctl]
  | .pllLock ..
    => [.clk, .boot, .ilr]
  | .tbNowLoRead .. | .tbAonLoRead ..
    => [.clk, .fab, .dbg]
  | .preCommitSave ..
    => [.svy, .agr, .boot]
  | .forwardedCommand ..
    => [.iso, .ilr, .ctl]
  | .dbgClrRecord .. | .dbgClrCounts ..
    => [.fab, .dbg, .regs]
  | .holdWindowExpiry ..
    => [.load, .light, .boot]
  | .mbxClaim .. | .requestBufferWrite .. | .mbxCtrlClrcnt .. | .mbxIrqStatClear ..
    => [.fab, .atlas, .dbg, .regs]
  | .sessionTimeout .. | .paramCommitDone ..
    => [.atlas, .par, .evs, .ctl]
  | .paceOpreq .. | .paceVselWrite .. | .paceCapWrite .. | .paceErrClear ..
    => [.pace, .fab, .dbg, .regs]
  | .pllFallbackEnd ..
    => [.clk, .atlas, .evs, .ctl]
  | .chanClear .. | .confirmationWindowEnd .. | .offComplete .. | .reverseCurrent .. | .offStateTestEnd .. | .divergenceCheck ..
    => [.atlas, .load, .evs, .ctl]
  | .blockTimeout ..
    => [.atlas, .iso, .evs, .ctl]
  | .valveClear .. | .valveConfirmationEnd .. | .cycleRecord .. | .valveOffComplete .. | .railFault ..
    => [.atlas, .vlv, .evs, .ctl]
  | .chainFrameEnd .. | .matrixConfirmEnd ..
    => [.atlas, .light, .evs, .ctl]
  | .lgdCtrlClr ..
    => [.fab, .dbg, .lgd, .regs]
  | .busOffRecovered .. | .tunnelFlush .. | .acfCanReceived .. | .linNoResponse .. | .linFrameReceived .. | .ethLinkUp .. | .ethLinkDown ..
    | .plcaLost .. | .gptpSync .. | .meridianHoldExpiry .. | .meridianCycleDue ..
    => [.atlas, .net, .evs, .ctl]
  | .keepAliveTimeout ..
    => [.atlas, .agr, .evs, .ctl]
  | .search .. | .immo .. | .tmemRead .. | .enrol .. | .calibrate .. | .lockClear .. | .roundStart .. | .fieldBurst .. | .lfShortTrip ..
    | .responseSlotEnd .. | .accessDeadline .. | .lockoutEnd .. | .feLinkDown ..
    => [.atlas, .acc, .evs, .ctl]
  | .postedWriteError ..
    => [.atlas, .evs, .ctl, .twin]
  | .takeoverBlocked .. | .proofEnd .. | .editionReport .. | .stuckLow .. | .switchOverCauseTimeout ..
    => [.atlas, .evs, .ilr, .ctl]
  | .appletRestart ..
    => [.atlas, .regs, .evs, .bytes]
  | .memFlipArm .. | .memFlipDoneClear .. | .memClrRecord .. | .memClrCounts ..
    => [.fab, .dbg, .regs, .memc]
  | .imgBlock .. | .imgVerify .. | .imgActivateNow .. | .imgActivateArmed .. | .imgActivateDisarm .. | .imgActivateApplet ..
    | .trialConfirmTimer .. | .debugUnlock .. | .attestSign .. | .attestSignDone ..
    => [.atlas, .evs, .fw, .ctl]
  | .bootCtrlHoldWrite ..
    => [.fab, .dbg, .regs, .boot]
  | .fleetCommitDone ..
    => [.atlas, .par, .evs, .ilr, .ctl]
  | .droopEnd ..
    => [.pace, .atlas, .evs, .boot, .ctl]
  | .chanOff .. | .chanOn .. | .chanLow .. | .chanForward .. | .chanReverse .. | .chanBrake .. | .chanPulse .. | .commandDeadline ..
    | .deadTimeEnd .. | .inrushEnd .. | .fastTrip .. | .overcurrent .. | .stall .. | .i2tModelStep .. | .deltaT .. | .tjShutdown ..
    | .inrushTimeout .. | .feedLostAbandon .. | .sagInrushTimeout .. | .modelStep .. | .trueUp ..
    => [.atlas, .load, .iso, .evs, .ctl]
  | .valveOff .. | .valveAct .. | .valveDeadline .. | .boostEnd .. | .tpeakEnd .. | .tholdExpiry .. | .valveTrip .. | .openCoil ..
    | .bankFeedLost .. | .railLow ..
    => [.atlas, .iso, .vlv, .evs, .ctl]
  | .lightFrame .. | .matrixFrameBoundary .. | .rowTrip .. | .ntcConversion ..
    => [.atlas, .iso, .light, .evs, .ctl]
  | .runSampleCycle ..
    => [.atlas, .pwr, .inp, .evs, .ctl]
  | .canFrameSent .. | .canError ..
    => [.atlas, .net, .agr, .evs, .ctl]
  | .waymark ..
    => [.atlas, .par, .agr, .evs, .ctl]
  | .revoke .. | .calibrateStep .. | .replyCheck .. | .exchangeBlock .. | .rangingResult ..
    => [.atlas, .par, .acc, .evs, .ctl]
  | .twinLinkUp ..
    => [.atlas, .evs, .ilr, .ctl, .twin]
  | .linkFrameReceived .. | .twinOutboundRequest ..
    => [.fab, .dbg, .regs, .dma, .twin]
  | .reportCompare ..
    => [.atlas, .inp, .evs, .ilr, .ctl]
  | .proofStart .. | .intlkErrClear ..
    => [.fab, .dbg, .regs, .ilr, .ctl]
  | .scrubRead ..
    => [.atlas, .evs, .bytes, .memc, .ctl]
  | .imgBegin ..
    => [.atlas, .acc, .evs, .fw, .ctl]
  | .granuleProgrammed ..
    => [.atlas, .evs, .bytes, .fw, .ctl]
  | .bootRecordWritten ..
    => [.atlas, .evs, .boot, .fw, .ctl]
  | .mbxDoorbellGo .. | .mbxRspAck .. | .dbgHaltreq ..
    => [.fab, .atlas, .dbg, .regs, .evs, .ctl]
  | .pllFallback ..
    => [.clk, .atlas, .evs, .boot, .ilr, .ctl]
  | .feedRestored ..
    => [.atlas, .load, .iso, .pwr, .evs, .ctl]
  | .canFrameReceived ..
    => [.atlas, .pwr, .net, .agr, .evs, .ctl]
  | .ringDeliver ..
    => [.atlas, .net, .evs, .bytes, .memc, .ctl]
  | .keepAliveReceived .. | .keepAliveSend ..
    => [.atlas, .par, .net, .agr, .evs, .ctl]
  | .idleClaimTimer ..
    => [.atlas, .par, .load, .evs, .ilr, .ctl]
  | .claimCheck .. | .pairStateReport .. | .intlkRelease .. | .leaseExpiry .. | .pairReport ..
    => [.atlas, .load, .iso, .evs, .ilr, .ctl]
  | .verifyDone ..
    => [.atlas, .dbg, .evs, .bytes, .fw, .ctl]
  | .feedLost ..
    => [.atlas, .load, .iso, .pwr, .evs, .ilr, .ctl]
  | .txRingConsume ..
    => [.atlas, .net, .regs, .evs, .bytes, .memc, .ctl]
  | .intlkLineChange .. | .holdoffEnd ..
    => [.atlas, .par, .load, .iso, .evs, .ilr, .ctl]
  | .overvoltage ..
    => [.atlas, .load, .iso, .vlv, .pwr, .evs, .ilr, .ctl]
  | .arbiterPass ..
    => [.atlas, .load, .iso, .vlv, .light, .evs, .ilr, .ctl]
  | .lockBreak ..
    => [.fab, .atlas, .dbg, .regs, .evs, .dma, .ctl, .twin]
  | .twinLinkDown ..
    => [.fab, .atlas, .dbg, .regs, .evs, .dma, .ilr, .ctl, .twin]
  | .sequencerRestart ..
    => [.atlas, .load, .iso, .vlv, .regs, .evs, .bytes, .boot, .ctl]
  | .intlkCtrlWrite ..
    => [.fab, .atlas, .par, .dbg, .load, .iso, .regs, .evs, .ilr, .ctl]
  | .powerReqPark .. | .powerReqDormant ..
    => [.atlas, .par, .load, .iso, .vlv, .light, .pwr, .acc, .evs, .fw, .ctl]
  | .registerWrite ..
    => [.pace, .fab, .atlas, .par, .dbg, .load, .iso, .lgd, .regs, .evs, .memc, .boot, .ilr, .ctl]
  | .powerReqRun ..
    => allBut [.clk, .par, .dbg, .load, .ctr, .lgd, .agr, .memc, .dma, .boot, .fw, .ilr, .twin]
  | .benchSpiTransaction ..
    => allBut [.ctr, .vlv, .light, .pwr, .svy, .inp, .net, .agr, .acc, .dma, .fw]
  | .handleCancel ..
    => allBut [.clk, .pace, .dbg, .ctr, .lgd, .agr, .memc, .dma, .boot, .ilr, .twin]
  | .fabricRequest .. | .fabricResponse .. | .fabricTimeout .. | .twinInboundRequest .. | .dmaDescriptorComplete .. | .dmaTransferError ..
    => allBut [.ctr, .vlv, .light, .pwr, .svy, .inp, .net, .agr, .acc, .fw]
  | .powerReqHold ..
    => allBut [.clk, .dbg, .ctr, .lgd, .memc, .dma, .boot, .fw, .ilr, .twin]
  | .entryCompletionSent .. | .tc10SleepAckTimeout .. | .tc10SleepAck ..
    => allBut [.clk, .par, .dbg, .load, .ctr, .lgd, .memc, .dma, .ilr, .twin]
  | .surveyCycle .. | .wakeDuringEntry .. | .canWakePattern .. | .selectiveWake .. | .selectiveWakeErrorLimit .. | .linWake ..
    | .tc10Wake .. | .speWake .. | .twinPartnerWake .. | .benchWake .. | .alarm ..
    => allBut [.clk, .par, .dbg, .load, .ctr, .memc, .dma, .ilr, .twin]
  | .entryOffsComplete ..
    => allBut [.clk, .dbg, .ctr, .lgd, .memc, .dma, .fw, .twin]
  | .readySleepWaitEnd ..
    => allBut [.clk, .dbg, .ctr, .lgd, .memc, .dma, .twin]
  | .falseWakeTimeout ..
    => allBut [.clk, .dbg, .ctr, .memc, .dma, .twin]
  | .domainDrainEnd ..
    => allBut [.par, .load, .ctr, .lgd, .boot]
  | .paramWrite .. | .paramWriteSet .. | .compositeEnable .. | .compositeDisable .. | .genEnable .. | .mxEnable .. | .cableTest ..
    | .netsleepEnable .. | .netsleepDisable .. | .appletRun .. | .fwConfirm ..
    => allBut [.clk, .ctr, .lgd, .boot]
  | .warmStart ..
    => allBut [.clk, .lgd, .ilr, .ctl]
  | .activationReset .. | .watchdogReset .. | .logicSupplyReset ..
    => allBut [.lgd, .ilr, .ctl]
  | .waitEnd .. | .lateWriteError .. | .appletWatchdog ..
    => allBut [.lgd, .ilr]
  | .bootPhaseAdvance ..
    => allBut [.ctr, .lgd]
  | .feedBelowPd0 .. | .feedStart .. | .wordIssue .. | .add .. | .sub .. | .and .. | .or .. | .xor .. | .shl .. | .shr .. | .sar ..
    | .min .. | .max .. | .minu .. | .maxu .. | .mul .. | .mulh .. | .mulhu .. | .div .. | .divu .. | .rem .. | .remu .. | .ld8u ..
    | .ld8s .. | .ld16u .. | .ld16s .. | .ld32 .. | .ld64 .. | .st8 .. | .st16 .. | .st32 .. | .st64 .. | .ldx .. | .stx .. | .fence ..
    | .beq .. | .bne .. | .blt .. | .bge .. | .bltu .. | .bgeu .. | .jmp .. | .call .. | .ret .. | .rte .. | .wait .. | .post ..
    | .softwareTrap .. | .crcInit .. | .crcB8 .. | .crcB16 .. | .crcB32 .. | .codecStat .. | .shakeAbsorb .. | .shakeSqueeze .. | .aesEnc ..
    | .dmaGo .. | .dmaStop .. | .dieGate .. | .dieRb .. | .dieAck .. | .vlvLevel .. | .vlvPhase .. | .vlvRail .. | .dbgCoreStep ..
    | .coldStart ..
    => allBut []

/-! ### Requests that Atlas takes -/

/-- Atlas takes the request of a command: it runs, nothing was handed over before, the session's queue has room, the request is no
duplicate, and it passes the checks of 03 R71 and R452. -/
abbrev Takes (u : State) (q : Rq) (op handle : Nat) (payload : List Byte) : Prop :=
  u.atlasUp = true ∧ u.atlas.inbox = [] ∧ u.hasRoom q.ses = true ∧
  (u.touch q.ses).duplicate (u.direct q op handle payload) = none ∧ (u.touch q.ses).precheck (u.direct q op handle payload) = none

/-- Atlas takes a PARAM_WRITE of one entry, and the entry passes the checks of 03 R453. -/
abbrev Accepts (u : State) (q : Rq) (w : ParWrite) : Prop :=
  Takes u q 0x11 0 (entryBytes w) ∧ ((u.touch q.ses).writeSet (u.direct q 0x11 0 (entryBytes w)) [w]).2 = none

/-- The answer OK to an accepted PARAM_WRITE, after all that the entry's write does. -/
abbrev WroteOk (u : State) (q : Rq) (w : ParWrite) (t : State) : Prop :=
  t = ((u.touch q.ses).writeSet (u.direct q 0x11 0 (entryBytes w)) [w]).1.answer (u.direct q 0x11 0 (entryBytes w)) St.ok 0 (leBytes 2 w.id ++ leBytes 2 w.idx)

/-- A long operation has a handle to take: the session holds fewer than 256 (03 R78). -/
abbrev HasHandle (u : State) (q : Rq) : Prop := u.handleCount q.ses < 256

/-- The operation has been accepted: one handle of the request's session more, PENDING, for the operation and the unit. -/
def Accepted (u : State) (q : Rq) (op unit : Nat) (t : State) (h : Hnd) : Prop :=
  h ∈ t.atlas.handles ∧ h.ses = q.ses ∧ h.org = q.org ∧ h.op = op ∧ h.seq = q.seq ∧ h.unit = unit ∧ h.stamp = u.now ∧ h.orphan = false

/-- Atlas takes a CHAN_CMD with a handle for it, it passes the checks of 04 R107, and no earlier command of the unit is PENDING. -/
abbrev TakesUnit (u : State) (q : Rq) (c : UnitCmd) (cmd : Nat) : Prop :=
  Takes u q 0x20 0 (unitCmdPayload c cmd) ∧ HasHandle u q ∧ u.chanCheck (u.direct q 0x20 0 (unitCmdPayload c cmd)) c cmd = none ∧ u.cmdOf c.unit = none

/-- Atlas takes a VALVE_CMD with a handle for it, it passes the checks of 07 R198, and no earlier command of the valve is PENDING. -/
abbrev TakesValve (u : State) (q : Rq) (c : UnitCmd) (cmd : Nat) : Prop :=
  let p := leBytes 2 c.unit ++ leBytes 1 cmd ++ leBytes 1 c.opt ++ leBytes 4 c.deadline
  Takes u q 0x21 0 p ∧ HasHandle u q ∧ u.valveCheck (u.direct q 0x21 0 p) c cmd = none ∧ (u.valve c.unit).cmd = none

end Sys2Proof.Machine
end

