-- ==== Sys2Proof/Certificates/Slice0/Obligations.lean ====
section
/-!
DEFINITION. The statements for the provers: what the commands of each family do, what they leave as it was, and what every step keeps.
-/
open Sys2Proof Sys2Proof.Machine

/-- Writes of the PACE registers (02 R51; 02 R52; 02 R54). A write of PACE_OPREQ, PACE_VSEL or PACE_CAP by the supervisor is refused with
REFUSE_BUSY while a sequence runs; otherwise OPREQ starts the sequence of R52 (asks for the cap alone where the voltage has settled at the
point, and changes nothing but itself at the point in force), a lower voltage is refused with REFUSE_VDOWN while the cap in force exceeds
it, a higher cap is refused with REFUSE_CAPUP until the voltage has settled, and every other such write is taken. PACE_ERR is cleared by
writing ones, and DROOP_SEEN clears the count with it. Nothing else changes. -/
def Obligations.PaceWrites : Prop :=
  ∀ (s : State) (g : Lapse) (p : Fin 16) (n : Nat), (s.pass g).pd 3 = true → (s.pass g).fab.closed.testBit 3 = false → paced p = true → n < 4 →
    let u := s.pass g
    let r := u.paceOf p
    let becomes := fun (x : PaceRec) (t : State) => t = u.modPace p (fun _ => x)
    (r.busy = true → ∀ c ∈ [Instr.paceOpreq g .super p n, .paceVselWrite g .super p n, .paceCapWrite g .super p n],
      Does c s (becomes { r with err := r.err ||| 4 })) ∧
    (r.busy = false → r.opCur < n → r.settled = false ∨ n ≠ r.vsel → Does (.paceOpreq g .super p n) s
      (becomes { r with opreq := n, vsel := n, settled := false, seq := .raise n })) ∧
    (r.busy = false → r.opCur < n → r.settled = true → n = r.vsel → Does (.paceOpreq g .super p n) s (becomes { r with opreq := n, cap := n })) ∧
    (r.busy = false → n < r.opCur → Does (.paceOpreq g .super p n) s (becomes { r with opreq := n, cap := n, seq := .lower n })) ∧
    (r.busy = false → n = r.opCur → Does (.paceOpreq g .super p n) s (becomes { r with opreq := n })) ∧
    (r.busy = false → n < r.vsel → n < r.capIf → Does (.paceVselWrite g .super p n) s (becomes { r with err := r.err ||| 1 })) ∧
    (r.busy = false → r.vsel ≤ n ∨ r.capIf ≤ n → Does (.paceVselWrite g .super p n) s (becomes { r with vsel := n, settled := r.settled && decide (n = r.vsel) })) ∧
    (r.busy = false → r.cap < n → r.settled = false ∨ r.volt < n → Does (.paceCapWrite g .super p n) s (becomes { r with err := r.err ||| 2 })) ∧
    (r.busy = false → n ≤ r.cap ∨ (r.settled = true ∧ n ≤ r.volt) → Does (.paceCapWrite g .super p n) s (becomes { r with cap := n })) ∧
    (∀ mask, Does (.paceErrClear g .super p mask) s
      (becomes { r with err := r.err - (r.err &&& mask), droopCnt := if mask.testBit 3 then 0 else r.droopCnt }))

/-- Settling, window boundaries and droops (02 R52; 02 R53; 02 R54; 17 R436). When the voltage settles, a raising sequence lifts the cap and
ends and a lowering one ends; at a window boundary the cap takes effect, the full cap returns after a droop and a lowering sequence asks
for its voltage, or ends where it has settled there; a droop sets DROOP and DROOP_SEEN, applies the lower cap and is counted up to 0xFFFF;
its end clears DROOP, and reports the droop where no report of the domain was sent in the last second. -/
def Obligations.PaceEvents : Prop :=
  ∀ (s : State) (g : Lapse) (p : Fin 16), paced p = true →
    let u := s.pass g
    let r := u.paceOf p
    let becomes := fun (x : PaceRec) (t : State) => t = u.modPace p (fun _ => x)
    (∀ n, r.settled = false → r.seq = .raise n → Does (.voltageSettled g p) s (becomes { r with volt := r.vsel, settled := true, cap := n, seq := .idle })) ∧
    (∀ n, r.settled = false → r.seq = .settle n → Does (.voltageSettled g p) s (becomes { r with volt := r.vsel, settled := true, seq := .idle })) ∧
    (r.settled = false → r.seq = .idle → Does (.voltageSettled g p) s (becomes { r with volt := r.vsel, settled := true })) ∧
    (u.now % 64 = 0 → r.seq = .idle → Does (.capWindowBoundary g p) s (becomes { r with capIf := r.cap, droopCap := r.droopCap && r.droop })) ∧
    (∀ n, u.now % 64 = 0 → r.seq = .lower n → r.settled = false ∨ n ≠ r.vsel → Does (.capWindowBoundary g p) s
      (becomes { r with capIf := r.cap, droopCap := r.droopCap && r.droop, vsel := n, settled := false, seq := .settle n })) ∧
    (∀ n, u.now % 64 = 0 → r.seq = .lower n → r.settled = true → n = r.vsel → Does (.capWindowBoundary g p) s
      (becomes { r with capIf := r.cap, droopCap := r.droopCap && r.droop, seq := .idle })) ∧
    (r.droop = false → u.pd p = true → Does (.droopStart g p) s (fun t =>
      t.paceOf p = { r with droop := true, droopCap := true, err := r.err ||| 8, droopCnt := satInc 0xFFFF r.droopCnt } ∧
      t.boot.droopAt.toList.getD p 0 = u.now ∧ ∀ q, q ≠ p.val → t.paceOf q = u.paceOf q)) ∧
    (r.droop = true → Does (.droopEnd g p) s (fun t => t.paceOf p = { r with droop := false } ∧ (∀ q, q ≠ p.val → t.paceOf q = u.paceOf q) ∧
      t.boot.droopEv.toList.getD p none = (match u.boot.droopEv.toList.getD p none with
        | some k => if u.now < k + 200000000 then some k else some u.now
        | none => some u.now)))

/-- The PLL, the time base and the AON calibration (02 R55; 02 R56; 02 R57; 02 R58). The lock sets LOCK and starts the time base; the fallback
clears LOCK, sets FALLBACK and is reported, and its end does the reverse, without a change of the count while the time base runs; a
calibration at the end of a span of 32,768 AON ticks places the ref ticks of the span and CALVALID and starts the next span, and none
comes before the span ends; a read of the low word latches the upper bits for its crossbar port alone. -/
def Obligations.TimeBaseEvents : Prop :=
  ∀ (s : State) (g : Lapse), let u := s.pass g;
    (u.pd 3 = true → u.clk.lock = false → u.clk.fallback = false → u.clk.run = true →
      Does (.pllLock g) s (fun t => t = { u with clk := { u.clk with lock := true } })) ∧
    (u.pd 3 = true → u.clk.lock = false → u.clk.fallback = false → u.clk.run = false → u.boot.cold = true →
      Does (.pllLock g) s (fun t => t = { u with clk := { u.clk with lock := true, run := true, calAon := u.clk.aon, calTb := u.now } })) ∧
    (u.pd 3 = true → u.clk.run = true → u.clk.fallback = false → Does (.pllFallback g) s (fun t =>
      t.clk = { u.clk with lock := false, fallback := true } ∧
      t = ({ u with clk := { u.clk with lock := false, fallback := true } } : State).emit 12 0 1 (leBytes 4 u.clk.aonCal ++ leBytes 4 0))) ∧
    (u.clk.fallback = true → Does (.pllFallbackEnd g) s (fun t =>
      t.clk = { u.clk with lock := true, fallback := false } ∧
      t = ({ u with clk := { u.clk with lock := true, fallback := false } } : State).emit 12 0 2 (leBytes 4 u.clk.aonCal ++ leBytes 4 0))) ∧
    (u.pd 3 = true → u.clk.run = true → u.aonSince u.clk.calAon = 32768 → u.now - u.clk.calTb < 2 ^ 32 →
      Does (.aonCalibration g (u.now - u.clk.calTb)) s (fun t =>
        t = { u with clk := { u.clk with aonCal := u.now - u.clk.calTb, calValid := true, calAon := u.clk.aon, calTb := u.now } })) ∧
    (∀ n, u.pd 3 = true → u.clk.run = true → u.aonSince u.clk.calAon < 32768 → Does (.aonCalibration g n) s (fun t => t = u)) ∧
    (∀ p : Fin 8, p = 0 ∨ p = 2 →
      Does (.tbNowLoRead g p) s (fun t => t = { u with clk := { u.clk with nowHi := u.clk.nowHi.setIfInBounds p (u.clk.tb / 2 ^ 32 % 2 ^ 32) } }) ∧
      Does (.tbAonLoRead g p) s (fun t => t = { u with clk := { u.clk with aonHi := u.clk.aonHi.setIfInBounds p (u.clk.aon / 2 ^ 32) } }))

/-- Time passes before a command (02 R55; 02 R57). Before a command the time base advances by the ref ticks that have passed while PD3 is on
and the PLL has locked, the AON counter by the AON ticks modulo 2^48 unless the device is OFF, and nothing else changes. That the ticks
are operands of each command is the choice of the model (entry 1). -/
def Obligations.TimePasses : Prop :=
  ∀ (s : State) (g : Lapse),
    (s.clk.run = true → s.pd 3 = true → s.pwr.st ≠ .off →
      s.pass g = { s with clk := { s.clk with tb := s.clk.tb + g.tk, aon := (s.clk.aon + g.aon) % 2 ^ 48 } }) ∧
    (s.clk.run = false ∨ s.pd 3 = false → (s.pass g).clk.tb = s.clk.tb) ∧
    s.clk.tb ≤ (s.pass g).clk.tb ∧
    (s.pwr.st = .off → s.clk.aon < 2 ^ 48 → (s.pass g).clk.aon = s.clk.aon) ∧
    (∀ p, p ≠ .clk → Part.same p s (s.pass g))

/-- The steps of a session window (03 R67; 03 R95). A claim of a free buffer gives it to the claimer and a later claim changes no owner; while
the writer holds the claim and BUSY is 0, bytes go into the buffer and the length into MBX_REQ_LEN, and GO hands the message over; a claim
that has not been followed by GO for 100 ms is released, with its buffer discarded, FORMAT counted and ERR set. A write by anyone else
ends with DENIED at its initiator, and changes nothing but the error record and the trap of a core that made it. -/
def Obligations.MailboxSteps : Prop :=
  ∀ (s : State) (g : Lapse) (ses org : Fin 4), ses ≠ 0 → (s.pass g).pd 3 = true → (s.pass g).fab.closed.testBit 3 = false →
    let u := s.pass g
    let r := u.ses ses
    let unit := if ses = 3 then org.val else 0
    (r.owner = 0xF → Does (.mbxClaim g ses org) s (fun t => t = u.modSes ses (fun _ => { r with owner := unit, claimAt := u.now }))) ∧
    (r.owner ≠ 0xF → Does (.mbxClaim g ses org) s (fun t => t = u)) ∧
    (∀ off data, data ≠ [] → off + data.length ≤ 0x2000 → r.owner = unit → r.busy = false →
      Does (.requestBufferWrite g ses org (.bytes off data)) s (fun t => t = u.modSes ses (fun _ => { r with buf := putCells r.buf off data }))) ∧
    (∀ n, n < 8192 → r.owner = unit → r.busy = false →
      Does (.requestBufferWrite g ses org (.len n)) s (fun t => t = u.modSes ses (fun _ => { r with reqLen := n }))) ∧
    (∀ n, (r.owner ≠ unit ∨ r.busy = true) →
      Does (.requestBufferWrite g ses org (.len n)) s (fun t => (∀ p, p ≠ .dbg → p ≠ .fab → p ≠ .regs → Part.same p u t) ∧
        t.dbg.ferrCnt = satInc 0xFFFFFFFF u.dbg.ferrCnt ∧ t.fab = { u.fab with last := some ⟨if ses = 1 then 7 else if ses = 3 then 1 else 8, 0, 3, 0⟩ })) ∧
    (r.owner = unit → r.busy = false → Does (.mbxDoorbellGo g ses org) s (fun t =>
      t = ((u.modSes ses (fun _ => { r with busy := true })).deliver ses unit ((List.range r.reqLen).map (fun i => u.bufByte r.buf i)) 0 0 0).mbxEvent ses)) ∧
    (r.owner ≠ 0xF → r.busy = false → u.now ≥ r.claimAt + 20000000 → Does (.claimTimeout g ses) s (fun t =>
      t.ses ses = { r with owner := 0xF, reqLen := 0, buf := [], errFormat := satInc 255 r.errFormat, irqStat := r.irqStat ||| 4 }))

/-- Releasing the response, clearing counts and flags (03 R67; 03 R95; 03 R97; 09 R252). ACK releases the posted entry; MBX_CTRL.CLRCNT clears
the counts of the sessions named, MBX_IRQ_STAT is cleared by writing ones, the error record and the error counts of DBG by their bits, and
a write of a register that no other row names goes to that register. -/
def Obligations.MailboxAnswers : Prop :=
  ∀ (s : State) (g : Lapse) (ses org : Fin 4), ses ≠ 0 → (s.pass g).pd 3 = true → (s.pass g).fab.closed.testBit 3 = false →
    let u := s.pass g
    let r := u.ses ses
    (∀ m, r.posted = some m → (ses ≠ 3 ∨ m.origin = org) → Does (.mbxRspAck g ses org) s (fun t =>
      t = ((u.modSes ses (fun _ => SesRec.post { r with posted := none })).mbxEvent ses).drained)) ∧
    (r.posted = none → Does (.mbxRspAck g ses org) s (fun t => t = u)) ∧
    (∀ mask, mask < 2 ^ 32 → Does (.mbxIrqStatClear g ses org mask) s (fun t => t = u.modSes ses (fun _ => { r with irqStat := r.irqStat - (r.irqStat &&& mask) }))) ∧
    (∀ ini, ini = .bench ∨ ini = .super →
      Does (.mbxCtrlClrcnt g ini (2 ^ ses.val)) s (fun t => t = u.modSes ses (fun _ => { r with errFormat := 0, errCrc := 0, evLost := 0, dup := 0, peak := u.handleCount ses }))) ∧
    (∀ ini, ini = .bench ∨ ini = .super ∨ ini = .partner →
      Does (.dbgClrRecord g ini) s (fun t => t = { u with dbg := { u.dbg with ferrCode := 0, ferrValid := false, ferrPort := 0, ferrAddr := 0 } }) ∧
      Does (.dbgClrCounts g ini) s (fun t => t = { u with dbg := { u.dbg with ferrCnt := 0, codeCnt := Vector.replicate 8 0, portCnt := Vector.replicate 9 0 } })) ∧
    (∀ v, v < 2 ^ 32 → Does (.registerWrite g .super 0x40090010 v) s (fun t => t = { u with mem := { u.mem with flipLo := v } })) ∧
    (∀ v, v < 2 ^ 32 → Does (.registerWrite g .super 0x40010000 v) s (fun t => t = u))

/-- The bench SPI port (03 R69). A read or write of whole groups from an aligned offset of the host-visible range reads or writes its
registers one after the other in ascending order, after what waits at the fabric, and returns the bytes read and the first code other than
OK: a read of IDN_PART shifts it out with status OK, and a write that clears nothing changes nothing; another command byte, an offset off
a multiple of 4 and an offset outside the host-visible range make no access, return DECODE, ALIGN and DENIED, and are recorded once. -/
def Obligations.BenchPort : Prop :=
  ∀ (s : State) (g : Lapse), (s.pass g).pd 3 = true →
    let u := s.pass g
    (∀ off k, off % 4 = 0 → off ≤ 0x5FFFF → 1 ≤ k → k ≤ 2048 → Does (.benchSpiTransaction g ⟨3, some off, [], 4 * k⟩) s (fun t =>
      let r := State.benchRun false [] k 0 off u.serveAll [] 0
      t = { r.1 with fab := { r.1.fab with spi := (r.2.1, r.2.2) } })) ∧
    (∀ off (data : List Byte) k, off % 4 = 0 → off ≤ 0x5FFFF → 1 ≤ k → k ≤ 2048 → data.length = 4 * k →
      Does (.benchSpiTransaction g ⟨2, some off, data, 0⟩) s (fun t =>
        let r := State.benchRun true data k 0 off u.serveAll [] 0
        t = { r.1 with fab := { r.1.fab with spi := ([], r.2.2) } })) ∧
    (u.fab.inflight = [] → u.fab.closed.testBit 3 = false →
      Does (.benchSpiTransaction g ⟨3, some 0x10000, [], 4⟩) s (fun t => t = { u with fab := { u.fab with spi := (leBytes 4 0x34365A41, 0) } })) ∧
    (∀ data : List Byte, u.fab.inflight = [] → u.fab.closed.testBit 3 = false → data.length = 4 → (leVal data).testBit 0 = false → (leVal data).testBit 1 = false →
      Does (.benchSpiTransaction g ⟨2, some 0x3000C, data, 0⟩) s (fun t => t = { u with fab := { u.fab with spi := ([], 0) } })) ∧
    (∀ cmd off n, cmd ≠ 2 → cmd ≠ 3 → Does (.benchSpiTransaction g ⟨cmd, off, [], n⟩) s (fun t =>
      t.fab.spi = (List.replicate n 0, 1) ∧ t.dbg = (u.fabErr 1 8 (0x40000000 + off.getD 0)).dbg ∧ ∀ p, p ≠ .dbg → p ≠ .fab → Part.same p u t)) ∧
    (∀ off n, off % 4 ≠ 0 → Does (.benchSpiTransaction g ⟨3, some off, [], n⟩) s (fun t =>
      t.fab.spi = (List.replicate n 0, 4) ∧ t.dbg = (u.fabErr 4 8 (0x40000000 + off)).dbg ∧ ∀ p, p ≠ .dbg → p ≠ .fab → Part.same p u t)) ∧
    (∀ off n, off % 4 = 0 → 0x5FFFF < off → Does (.benchSpiTransaction g ⟨3, some off, [], n⟩) s (fun t =>
      t.fab.spi = (List.replicate n 0, 3) ∧ t.dbg = (u.fabErr 3 8 (0x40000000 + off)).dbg ∧ ∀ p, p ≠ .dbg → p ≠ .fab → Part.same p u t))

/-- What a response is, and where it goes (03 R70; 03 R71; 03 R72; 03 R67). NOP is answered OK with an empty payload, IDENT with the 16 IDN
words: the response carries OP, SEQ and FMT of the request, HANDLE 0 and FLAGS with RESP alone. On the uplink it is sent; in another
session it is posted where nothing is posted, and queued behind the posted entry otherwise. -/
def Obligations.Responses : Prop :=
  ∀ (s : State) (g : Lapse) (q : Rq),
    let u := s.pass g
    let rsp := fun (op : Nat) (pl : List Byte) => (⟨q.fmt, op, q.seq, 0, 0, 1, if q.ses = 3 then q.org else 0, pl⟩ : Msg)
    let goes := fun (m : Msg) (t : State) =>
      (q.ses = 0 → ∃ x, t.atlas.sent = u.atlas.sent ++ [x] ∧ x.msg = m) ∧
      (q.ses ≠ 0 → (u.ses q.ses).posted = none → (t.ses q.ses).posted = some m) ∧
      (q.ses ≠ 0 → (u.ses q.ses).posted ≠ none → (t.ses q.ses).queue = (u.ses q.ses).queue ++ [m]) ∧
      (t.ses q.ses).seqLast = q.seq ∧ (t.ses q.ses).isOpen = true ∧ (t.ses q.ses).lastReq = u.now
    (Takes u q 0 0 [] → Does (.nop g q) s (goes (rsp 0 []))) ∧
    (Takes u q 1 0 [] → Does (.ident g q) s (goes (rsp 1 ((u.idnWords.map (leBytes 4)).flatten))))

/-- Reading and describing parameters (03 R83; 03 R84; 03 R85; 03 R455). A read of a known parameter is answered OK with its entry, and one
that no parameter has with UNKNOWN_PARAM and no payload; a multiple read is answered OK with one entry for each pair; a description
carries the type, unit, persistence and access of the table. None of them changes anything but the session. -/
def Obligations.ParamReads : Prop :=
  ∀ (s : State) (g : Lapse) (q : Rq) (id idx : Nat),
    let u := s.pass g
    let v := u.touch q.ses
    (∀ f i p, v.findPar id idx = .inr (f, i, p) → Takes u q 0x10 0 (leBytes 2 id ++ leBytes 2 idx) → Does (.paramRead g q id idx) s (fun t =>
      t = v.answer (u.direct q 0x10 0 (leBytes 2 id ++ leBytes 2 idx)) St.ok 0
        (leBytes 2 id ++ leBytes 2 idx ++ leBytes 1 p.type ++ leBytes 1 0 ++ leBytes 2 p.vlen ++ leBytes p.vlen (v.readPar f i p id idx)))) ∧
    (parSpec id idx = none → Takes u q 0x10 0 (leBytes 2 id ++ leBytes 2 idx) → Does (.paramRead g q id idx) s (fun t =>
      t = v.answer (u.direct q 0x10 0 (leBytes 2 id ++ leBytes 2 idx)) St.unknownParam 0 [])) ∧
    (∀ ps : List (Nat × Nat), Takes u q 0x12 0 (leBytes 2 ps.length ++ (ps.map (fun p => leBytes 2 p.1 ++ leBytes 2 p.2)).flatten) →
      Does (.paramReadMulti g q ps) s (fun t => ∃ r, t = v.answer r St.ok 0 ((ps.map (fun p => v.multiEntry p.1 p.2)).flatten))) ∧
    (∀ f i p, v.findPar id idx = .inr (f, i, p) → Takes u q 0x14 0 (leBytes 2 id ++ leBytes 2 idx) → Does (.paramDescribe g q id idx) s (fun t =>
      ∃ r l, t = v.answer r St.ok 0 (leBytes 1 p.type ++ leBytes 1 p.unit ++ leBytes 1 p.pers ++ leBytes 1 (match p.acc with | .ro => 0 | .rw => 1 | .wo => 2) ++ l)))

/-- Writing parameters (03 R85; 03 R87; 03 R453). An accepted write is answered OK with its ID and INDEX after its effects, and a refused one
with the status of the first check that fails, which leaves every parameter as it was. An accepted set is answered OK with 0xFFFF, a
refused one with its status and the position of the first entry that fails. A write of `atlas.session_timeout` in its range stores the
value and changes no other parameter. -/
def Obligations.ParamWrites : Prop :=
  ∀ (s : State) (g : Lapse) (q : Rq),
    let u := s.pass g
    let v := u.touch q.ses
    (∀ w, Accepts u q w → Does (.paramWrite g q w) s (WroteOk u q w)) ∧
    (∀ w n c, Takes u q 0x11 0 (entryBytes w) → (v.writeSet (u.direct q 0x11 0 (entryBytes w)) [w]).2 = some (n, c) → Does (.paramWrite g q w) s (fun t =>
      t.par = u.par ∧ t = (v.writeSet (u.direct q 0x11 0 (entryBytes w)) [w]).1.answer (u.direct q 0x11 0 (entryBytes w)) c 0 (leBytes 2 w.id ++ leBytes 2 w.idx))) ∧
    (∀ ws, Takes u q 0x13 0 (leBytes 2 ws.length ++ (ws.map entryBytes).flatten) → (v.writeSet (u.direct q 0x13 0 (leBytes 2 ws.length ++ (ws.map entryBytes).flatten)) ws).2 = none →
      Does (.paramWriteSet g q ws) s (fun t => ∃ r, t = (v.writeSet (u.direct q 0x13 0 (leBytes 2 ws.length ++ (ws.map entryBytes).flatten)) ws).1.answer r St.ok 0 (leBytes 2 0xFFFF))) ∧
    (∀ ws n c, Takes u q 0x13 0 (leBytes 2 ws.length ++ (ws.map entryBytes).flatten) → (v.writeSet (u.direct q 0x13 0 (leBytes 2 ws.length ++ (ws.map entryBytes).flatten)) ws).2 = some (n, c) →
      Does (.paramWriteSet g q ws) s (fun t => t.par = u.par ∧ ∃ r, t = (v.writeSet (u.direct q 0x13 0 (leBytes 2 ws.length ++ (ws.map entryBytes).flatten)) ws).1.answer r c 0 (leBytes 2 n))) ∧
    (∀ n, q.ses = 0 → u.Canon → Accepts u q ⟨9, 0, 6, 4, n⟩ → Does (.paramWrite g q ⟨9, 0, 6, 4, n⟩) s (fun t =>
      t.parOf 9 0 = n % 2 ^ 32 ∧ ∀ k, k ≠ 9 * 65536 → kvGet k t.par.work = kvGet k u.par.work))

/-- PARAM_COMMIT and FLEET_COMMIT (03 R86; 03 R92; 03 R77). A commit takes a handle and the working copies that differ from the stored ones,
and its end stores exactly those and completes OK, or stores none and completes PERSIST_FAILED. A fleet commit to an edition in range
takes a handle and its target; its end sets the pin and the committed edition, working and stored, and completes OK with the edition now
in force. -/
def Obligations.Commits : Prop :=
  ∀ (s : State) (g : Lapse) (q : Rq) (target : Nat),
    let u := s.pass g
    let done := fun (t : State) (h status : Nat) => ∀ x ∈ t.atlas.handles, x.num = h → ∃ n pl, x.phase = .done n status pl
    (Takes u q 0x15 0 [] → HasHandle u q → u.opPending 0x15 = false → Does (.paramCommit g q) s (fun t =>
      ∃ h, t.atlas.commit = some (h.num, u.uncommitted) ∧ t.par = u.par ∧ Accepted u q 0x15 0 t h)) ∧
    (∀ h l, u.atlas.commit = some (h, l) → u.fw.queue = [] → Does (.paramCommitDone g true) s (fun t =>
      t.atlas.commit = none ∧ t.par.work = u.par.work ∧
      t.par = (l.foldl (fun (x : State) p => x.setStored (p.1 / 65536) (p.1 % 65536) p.2) u).par)) ∧
    (∀ h l x, u.atlas.commit = some (h, l) → u.fw.queue = [] → u.handle h = some x → x.phase = .pending → x.orphan = false → u.cancelWaits x = false →
      Does (.paramCommitDone g false) s (fun t => t.par = u.par ∧ t.atlas.commit = none ∧ done t h 0x206)) ∧
    (Takes u q 0x60 0 (leBytes 2 target) → HasHandle u q → u.opPending 0x60 = false → u.be ≤ target → target ≤ u.image.beMax → u.inTrial = false →
      Does (.fleetCommit g q target) s (fun t => ∃ h, t.atlas.fleet = some (h.num, target) ∧ t.par = u.par ∧ Accepted u q 0x60 0 t h)) ∧
    (∀ h n, u.Canon → u.atlas.fleet = some (h, n) → u.fw.queue = [] → 1 ≤ n → n < 2 ^ 16 → Does (.fleetCommitDone g true) s (fun t =>
      t.atlas.fleet = none ∧ t.be = n ∧ t.parOf 5 0 = n ∧ t.storedOf 4 0 = n ∧ t.storedOf 5 0 = n))

/-- Querying, releasing and cancelling handles (03 R76; 03 R77; 03 R79; 03 R80). A query of a PENDING handle answers its wait and progress,
that of a DONE one the kept completion; a release frees a DONE handle; a handle of no operation of the session answers UNKNOWN_HANDLE; a
cancel of an operation that is not cancellable answers NOT_CANCELLABLE and changes no handle, and a cancel of a cancellable operation that
is PENDING is answered OK, and the operation ends CANCELLED after it (the order is a reading, entry 41); one of a power entry past c is
answered STATE. A cancel stamped no later than the end of an operation whose completion has not left does the same, and one stamped after
it is answered STATE. A DONE handle is freed when its keep time has passed. -/
def Obligations.Handles : Prop :=
  ∀ (s : State) (g : Lapse) (q : Rq) (h : Nat),
    let u := s.pass g
    let v := u.touch q.ses
    (∀ x op, u.handle h = some x → v.targetHandle (u.direct q op h []) = some x → x.phase = .pending →
      (op = 0x30 → Takes u q op h [] → Does (.handleQuery g q h) s (fun t =>
        t = v.answer (u.direct q op h []) St.ok h (leBytes 1 1 ++ leBytes 1 (v.waitOf x) ++ leBytes 2 x.progress))) ∧
      (op = 0x32 → Takes u q op h [] → Does (.handleRelease g q h) s (fun t => t = v.answer (u.direct q op h []) St.state 0 [])) ∧
      (op = 0x31 → Takes u q op h [] → cancellable x.op = false → Does (.handleCancel g q h) s (fun t =>
        t.atlas.handles = u.atlas.handles ∧ t = v.answer (u.direct q op h []) St.notCancellable 0 [])) ∧
      (op = 0x31 → Takes u q op h [] → cancellable x.op = true → u.pastC h = false → Does (.handleCancel g q h) s (fun t =>
        t = (v.answer (u.direct q op h []) St.ok h []).cancelNow x)) ∧
      (op = 0x31 → Takes u q op h [] → cancellable x.op = true → u.pastC h = true → Does (.handleCancel g q h) s (fun t =>
        t = v.answer (u.direct q op h []) St.state 0 []))) ∧
    (∀ x k st pl, u.handle h = some x → v.targetHandle (u.direct q 0x31 h []) = some x → x.phase = .ended k st pl → Takes u q 0x31 h [] →
      (k < u.now → Does (.handleCancel g q h) s (fun t => t = v.answer (u.direct q 0x31 h []) St.state 0 [])) ∧
      (u.now ≤ k → cancellable x.op = false → Does (.handleCancel g q h) s (fun t => t = v.answer (u.direct q 0x31 h []) St.notCancellable 0 [])) ∧
      (u.now ≤ k → cancellable x.op = true → Does (.handleCancel g q h) s (fun t =>
        let y := (v.answer (u.direct q 0x31 h []) St.ok h []).cancelEnded x st pl
        t = y.1.finish h u.now St.cancelled y.2))) ∧
    (∀ x op n st pl, u.handle h = some x → v.targetHandle (u.direct q op h []) = some x → x.phase = .done n st pl →
      (op = 0x30 → Takes u q op h [] → Does (.handleQuery g q h) s (fun t =>
        t = v.answer (u.direct q op h []) St.ok h (leBytes 1 2 ++ leBytes 1 0 ++ leBytes 2 1000 ++ leBytes 2 st ++ pl))) ∧
      (op = 0x32 → Takes u q op h [] → Does (.handleRelease g q h) s (fun t =>
        (∀ y ∈ t.atlas.handles, y.num ≠ h) ∧ t = (v.freeHandle h).answer (u.direct q op h []) St.ok h [])) ∧
      (u.now ≥ n + msTk (u.pf Pf.atlasHandleKeep_KEEP) → Does (.handleKeepExpiry g h) s (fun t => t = u.freeHandle h))) ∧
    (u.handle h = none → (Takes u q 0x30 h [] → Does (.handleQuery g q h) s (fun t => t = v.answer (u.direct q 0x30 h []) St.unknownHandle 0 [])) ∧
      (Takes u q 0x31 h [] → u.pastC h = false → Does (.handleCancel g q h) s (fun t => t = v.answer (u.direct q 0x31 h []) St.unknownHandle 0 [])) ∧
      (Takes u q 0x31 h [] → u.pastC h = true → Does (.handleCancel g q h) s (fun t => t = v.answer (u.direct q 0x31 h []) St.state 0 [])))

/-- Subscriptions, kept events and the end of a session (03 R80; 03 R94; 03 R454). A subscription sets the mask of the session, or of the core
in session 3, and is answered OK; a mask with a bit above class 12 is answered RANGE and sets nothing. Kept events are dropped one second
after READY. When the timeout has passed the session closes: its subscriptions and its record of answered requests are cleared, its DONE
handles are freed and its PENDING operations run on with no completion to come. -/
def Obligations.EventsAndSessions : Prop :=
  ∀ (s : State) (g : Lapse) (q : Rq) (mask : Nat) (ses : Fin 4),
    let u := s.pass g
    (mask < 2 ^ 13 → Takes u q 0x40 0 (leBytes 4 mask) → Does (.eventSubscribe g q mask) s (fun t =>
      (t.ses q.ses).masks = (u.ses q.ses).masks.setIfInBounds (if q.ses = 3 then q.org else 0) mask ∧
      (t.ses q.ses).seqLast = q.seq ∧ ∀ k : Fin 4, k ≠ q.ses → (t.ses k).masks = (u.ses k).masks)) ∧
    (2 ^ 13 ≤ mask → mask < 2 ^ 32 → Takes u q 0x40 0 (leBytes 4 mask) → Does (.eventSubscribe g q mask) s (fun t =>
      (t.ses q.ses).masks = (u.ses q.ses).masks ∧ t = (u.touch q.ses).answer (u.direct q 0x40 0 (leBytes 4 mask)) St.range 0 [])) ∧
    (u.atlas.ready = true → u.now ≥ u.atlas.readyAt + 200000000 → Does (.keptEventExpiry g) s (fun t =>
      t = { u with atlas := { u.atlas with kept := [] } })) ∧
    ((u.ses ses).isOpen = true → u.now ≥ (u.ses ses).lastReq + 200000 * u.pf Pf.atlasSessionTimeout_TMO → Does (.sessionTimeout g ses) s (fun t =>
      (t.ses ses).isOpen = false ∧ (t.ses ses).masks = Vector.replicate 4 0 ∧ (t.ses ses).answered = [] ∧
      (∀ h ∈ t.atlas.handles, h.ses = ses → h.orphan = true ∧ ∀ n st pl, h.phase ≠ .done n st pl) ∧
      (∀ h ∈ u.atlas.handles, h.ses ≠ ses → h ∈ t.atlas.handles) ∧ (∀ k : Fin 4, k ≠ ses → t.ses k = u.ses k)))

/-- Datagrams of the uplink (03 R66; 03 R71; 03 R73; 03 R80). A whole datagram that the uplink accepts is handed over with its interface,
source and port, and one that is too long is dropped; a first fragment waits; a reassembly older than 100 ms is dropped. A message whose
length or CRC is wrong is discarded without an answer and counted. -/
def Obligations.Uplink : Prop :=
  ∀ (s : State) (g : Lapse) (d : Datagram) (n : Nat),
    let u := s.pass g
    (u.uplinkOk d = true → d.frag = (n, 0, false) → d.bytes.length ≤ 4148 → Does (.udpDatagramReceived g d) s (fun t =>
      t = u.deliver 0 0 d.bytes d.iface d.src d.sport)) ∧
    (u.uplinkOk d = true → d.frag = (n, 0, false) → 4148 < d.bytes.length → Does (.udpDatagramReceived g d) s (fun t => t = u)) ∧
    (u.uplinkOk d = false → Does (.udpDatagramReceived g d) s (fun t => t = u)) ∧
    (u.uplinkOk d = true → d.frag = (n, 0, true) → d.bytes.length ≤ 4148 → (∀ x ∈ u.atlas.reasm, x.ident ≠ n) → Does (.udpDatagramReceived g d) s (fun t =>
      t = { u with atlas := { u.atlas with reasm := u.atlas.reasm ++ [⟨n, u.now, d.iface, d.src, [(0, d.bytes)], none⟩] } })) ∧
    (Does (.fragmentReassemblyTimeout g n) s (fun t =>
      (∀ x ∈ u.atlas.reasm, x.ident = n → u.now ≥ x.first + 20000000 → x ∉ t.atlas.reasm) ∧
      (∀ x ∈ u.atlas.reasm, x.ident ≠ n ∨ u.now < x.first + 20000000 → x ∈ t.atlas.reasm) ∧ ∀ p, p ≠ .atlas → Part.same p u t)) ∧
    (u.uplinkOk d = true → d.frag = (n, 0, false) → d.bytes.length ≤ 4148 → d.bytes.length ≤ 15 → u.atlas.inbox = [] → u.atlas.handles = [] →
      Does (.udpDatagramReceived g d) s (fun t => t.atlas.sent = u.atlas.sent ∧ (t.ses 0).errFormat = satInc 255 (u.ses 0).errFormat ∧ t.atlas.inbox = []))

/-- Requests, arbitration, responses and timeouts of the fabric (02 R36; 02 R37; 02 R38; 02 R39; 02 R40; 02 R43; 02 R44; 02 R45; 01 R27; 01
R31). A request is taken with its stamp, after every older one that can be served has been: ALIGN for an access that is not naturally
aligned or not 8 to 64 bits wide, DECODE for a reserved address, OFF for a domain that is off or whose port is closed, none of which
reaches its target; any other waits at the arbiter or is one its target does not answer. Of the requests that wait, the one with the
lowest stamp goes first, of one stamp the one at the lowest port, and at one port the lowest unit, at port 2 counted from the rotation
pointer. A response reaches its initiator, and an error is recorded and counted in DBG; a request without a response ends with TIMEOUT
20,000 tk after its stamp. Once the requests of a closed domain have ended, the domain is switched off. -/
def Obligations.FabricAccess : Prop :=
  ∀ (s : State) (g : Lapse) (r : FabReq), (s.pass g).pd 3 = true →
    let u := s.pass g
    let w := u.serveOlder
    let taken := fun (a : FabAns) (t : State) => t = { w with fab := { w.fab with inflight := w.fab.inflight ++ [⟨r, w.now, a⟩] } }
    (∀ b, aligned r.addr r.size = false → Does (.fabricRequest g r b) s (taken (.answered 4 0))) ∧
    (∀ b, aligned r.addr r.size = true → addrDomain r.addr = none → Does (.fabricRequest g r b) s (taken (.answered 1 0))) ∧
    (∀ p, aligned r.addr r.size = true → addrDomain r.addr = some p →
      (w.pd p = false ∨ w.fab.closed.testBit p = true → ∀ b, Does (.fabricRequest g r b) s (taken (.answered 2 0))) ∧
      (w.pd p = true → w.fab.closed.testBit p = false → inTwin r.addr = false →
        Does (.fabricRequest g r true) s (taken .waiting) ∧ Does (.fabricRequest g r false) s (taken .silent)) ∧
      (w.pd p = true → w.fab.closed.testBit p = false → inTwin r.addr = true → ∀ b,
        Does (.fabricRequest g r b) s (fun t => if r.port = 7 then taken (.answered 3 0) t else t = w.twinOut r w.now))) ∧
    (∀ ptr l p, pickReq ptr l = some p → p ∈ l ∧ ∀ q ∈ l, q.2.sooner ptr p.2 = false) ∧
    (∀ e c d, u.fab.inflight = [e] → e.ans = .answered c d → u.now ≤ e.stamp + 20000 → Does (.fabricResponse g e.req.port e.req.unit) s (fun t =>
      t = ({ u with fab := { u.fab with inflight := [] } } : State).delivered e.req c d)) ∧
    (∀ e c d, u.fab.inflight = [e] → e.ans = .answered c d → u.now ≤ e.stamp + 20000 → e.req.port = 2 → c ≠ 0 → c ≠ 7 → (u.dmaOf e.req.unit).st ≠ 1 →
      Does (.fabricResponse g e.req.port e.req.unit) s (fun t =>
        t.fab.inflight = [] ∧ t.fab.last = some ⟨e.req.port, e.req.unit, c, if e.req.write then 0 else d⟩ ∧
        t.dbg = (u.fabErr c e.req.port e.req.addr).dbg)) ∧
    (∀ e, u.fab.inflight = [e] → e.ans ≠ .waiting → e.req.port = 2 → e.req.write = false → (u.dmaOf e.req.unit).st ≠ 1 → (u.dmaOf e.req.unit).starter ≠ 0 →
      u.now ≥ e.stamp + 20000 → Does (.fabricTimeout g e.req.port e.req.unit) s (fun t =>
        t.fab.inflight = [] ∧ t.fab.last = some ⟨e.req.port, e.req.unit, 7, 0⟩ ∧ t.dbg = (u.fabErr 7 e.req.port e.req.addr).dbg)) ∧
    (∀ p : Fin 16, u.fab.closed.testBit p = true → u.pd p = true → u.portDrained p = true → Does (.domainDrainEnd g p) s (fun t =>
      t = (u.lower1 p).goOn))

/-- A store over the fabric, and every other byte (02 R36; 15 R391; 15 R394). When the supervisor takes the response of its own write to
system SRAM, the only access outstanding, a 64-bit write that finds no injection armed has stored its bytes and left every byte outside
them as it was; a smaller one to a doubleword that reads without an error has stored its own bytes, and left every other byte as it was. -/
def Obligations.FabricStore : Prop :=
  ∀ (s : State) (g : Lapse) (r : FabReq) (k : Nat),
    let u := s.pass g
    u.pd 3 = true → u.fab.closed.testBit 3 = false → u.twin.lock = none → u.mem.arm = false → r.port = 0 → r.unit = 0 → r.write = true → r.excl = false →
    regionOf r.addr = some 0 → aligned r.addr r.size = true → u.fab.inflight = [⟨r, k, .waiting⟩] → u.now ≤ k + 20000 →
    (r.size = 8 → Does (.fabricResponse g 0 0) s (fun t =>
      (∀ k, k < 8 → t.byteAt (r.addr + k) = BitVec.ofNat 8 (r.data / 256 ^ k)) ∧ (∀ a, a < r.addr ∨ r.addr + 8 ≤ a → t.byteAt a = u.byteAt a) ∧
      t.fab.inflight = [] ∧ t.fab.last = some ⟨0, 0, 0, 0⟩)) ∧
    (r.size < 8 → synOf (u.synAt (r.addr / 8 * 8)) = .clean → Does (.fabricResponse g 0 0) s (fun t =>
      (∀ k, k < r.size → t.byteAt (r.addr + k) = BitVec.ofNat 8 (r.data / 256 ^ k)) ∧ (∀ a, a < r.addr ∨ r.addr + r.size ≤ a → t.byteAt a = u.byteAt a) ∧
      t.fab.inflight = [] ∧ t.fab.last = some ⟨0, 0, 0, 0⟩))

/-- The scrubber and the MEM block (15 R400; 15 R403; 15 R407). The scrubber reads the next enabled doubleword while it runs, its bank is idle
and GAP tk have passed; a write of MEM_FLIP_CTRL takes its masks, and arms unless every mask is 0; DONE is cleared by writing one, the
record and the counts by their bits. Only the supervisor may write the block: an application core gets DENIED. -/
def Obligations.MemoryBlock : Prop :=
  ∀ (s : State) (g : Lapse), (s.pass g).pd 3 = true → (s.pass g).fab.closed.testBit 3 = false →
    let u := s.pass g
    (∀ p, u.mem.ctrl.testBit 0 = true → u.pwr.st = .run → u.now ≥ u.mem.readAt + bitsOf u.mem.ctrl 4 14 → u.scrubFrom 34 u.mem.pos = some p → u.fab.inflight = [] →
      synOf (u.synAt (scrubAddr p)) = .clean → (u.scrubFrom 34 (p + 1)).isSome = true → Does (.scrubRead g) s (fun t =>
        t.mem.readAt = u.now ∧ some t.mem.pos = u.scrubFrom 34 (p + 1) ∧ (∀ a, t.byteAt a = u.byteAt a) ∧ ∀ p, p ≠ .memc → Part.same p u t)) ∧
    (∀ v, v < 2 ^ 14 → v ≠ 2 ^ 13 → Does (.memFlipArm g .super v) s (fun t =>
      t.mem.flip = v % 2 ^ 13 ∧ t.mem.done = u.mem.done ∧ (u.mem.flipLo ≠ 0 → t.mem.arm = v.testBit 13) ∧ (∀ p, p ≠ .memc → Part.same p u t))) ∧
    (u.mem.flipLo = 0 → u.mem.flipHi = 0 → Does (.memFlipArm g .super (2 ^ 13)) s (fun t => t.mem.arm = false)) ∧
    Does (.memFlipDoneClear g .super) s (fun t => t = { u with mem := { u.mem with done := false } }) ∧
    Does (.memClrRecord g .super) s (fun t => t = { u with mem := { u.mem with errInfo := 0, errAddr := 0 } }) ∧
    Does (.memClrCounts g .super) s (fun t => t = { u with mem := { u.mem with cnt := Vector.replicate 12 {}, counts := Vector.replicate 12 {} } }) ∧
    (∀ n : Fin 4, Does (.memClrRecord g (.applet n)) s (fun t => t = u.accessErr (.applet n) 3 0x40090028))

/-- DMA channels (15 R404; 15 R405; 15 R406). The end of a descriptor with no link leaves the channel done with nothing left, and a fill
writes its value to every element; an error response halts the channel with its code and address and the bytes not yet written, TIMEOUT of
a write after the effect it may still take. -/
def Obligations.DmaChannels : Prop :=
  ∀ (s : State) (g : Lapse) (n : Fin 32),
    let u := s.pass g
    let c := u.dmaOf n
    (∀ a v, u.pd 3 = true → u.fab.closed.testBit 3 = false → u.fab.inflight = [] → u.mem.arm = false → c.st = 1 → c.starter = 0 → c.desc = [0, a, 8, 0x1B, 0, v] →
      regionOf a = some 0 → a % 8 = 0 → Does (.dmaDescriptorComplete g n) s (fun t =>
        (t.dmaOf n).st = 2 ∧ (t.dmaOf n).left = 0 ∧ (∀ k, k < 8 → t.byteAt (a + k) = BitVec.ofNat 8 (v / 256 ^ k)) ∧
        (∀ b, b < a ∨ a + 8 ≤ b → t.byteAt b = u.byteAt b) ∧ ∀ m : Fin 32, m ≠ n → t.dmaOf m = u.dmaOf m)) ∧
    (c.st = 1 → 0 < c.count → Does (.dmaTransferError g n 7 (c.dst 0)) s (fun t =>
      t = (((if c.reads && decide (c.src 0 = c.dst 0) then u else u.dmaLate n 0).dmaFail n 0 7 (c.dst 0)).fabErr 7 2 (c.dst 0)))) ∧
    (∀ code, 1 ≤ code → code ≤ 6 → c.st = 1 → 0 < c.count → c.desc.length = 6 → Does (.dmaTransferError g n code (c.dst 0)) s (fun t =>
      (t.dmaOf n).st = 3 ∧ (t.dmaOf n).code = code ∧ (t.dmaOf n).errAddr = c.dst 0 ∧ (t.dmaOf n).left = c.fld 2 ∧
      t.dbg = (u.fabErr code 2 (c.dst 0)).dbg ∧ (∀ b, t.byteAt b = u.byteAt b)))

/-- The twin link (13 R334; 13 R336; 13 R341; 13 R345; 13 R346; 13 R347). A link that comes up starts with sequence 0, the credits full and
nothing to acknowledge, and PARTNER set; one that goes down loses what was in flight, its reservations and its buffers, and is counted. A
frame with a wrong CRC changes only the count of wrong frames; an acknowledgement that has not advanced for 64 tk is a replay. The error
of a posted write is counted with its address and code. Reservations end after 20,000 tk, a lock is broken after 4,000 tk, the interrupt
of the partner sets the link interrupt, and a wake pattern is sent no more than once in 100 ms. -/
def Obligations.TwinLink : Prop :=
  ∀ (s : State) (g : Lapse) (n : Nat),
    let u := s.pass g
    (u.twin.up = false → u.pd 14 = true → u.pb Pf.twinCfg_EN = true → Does (.twinLinkUp g) s (fun t =>
      t.twin.up = true ∧ t.twin.seen = true ∧ t.twin.txSeq = 0 ∧ t.twin.rxSeq = 0 ∧ t.twin.unacked = [] ∧ t.twin.credit = [32, 32, 32] ∧ t.twin.downs = u.twin.downs)) ∧
    (u.twin.up = true → Does (.twinLinkDown g 0) s (fun t =>
      t.twin.up = false ∧ t.twin.out = [] ∧ t.twin.unacked = [] ∧ t.twin.sem = [] ∧ t.twin.lock = none ∧ t.twin.downs = satInc 0xFFFF u.twin.downs ∧
      (∀ i : Fin 8, t.twin.buf i = none) ∧ t.il.beValid = false)) ∧
    (∀ bytes, u.twin.up = true → crc32c (bytes.take 28) ≠ leAt bytes 28 4 → Does (.linkFrameReceived g bytes) s (fun t =>
      t = { u with twin := { u.twin with crcErr := satInc 0xFFFF u.twin.crcErr } })) ∧
    (∀ bytes : List Byte, u.twin.up = true → bytes.length = 32 → crc32c (bytes.take 28) = leAt bytes 28 4 → leAt bytes 1 1 = u.twin.rxSeq → leAt bytes 0 1 = 3 →
      leAt bytes 3 1 = 3 → u.twin.wait = [] → u.twin.txq = [] → Does (.linkFrameReceived g bytes) s (fun t =>
        t.twin.lastRx = u.now ∧ t.twin.rxSeq = u.twin.rxSeq ∧ t.twin.crcErr = u.twin.crcErr ∧ t.twin.credit = u.twin.credit ∧ ∀ p, p ≠ .twin → Part.same p u t)) ∧
    (u.twin.up = true → u.twin.unacked ≠ [] → u.now ≥ u.twin.ackAt + 64 → Does (.linkReplay g) s (fun t =>
      t = { u with twin := { u.twin with replays := satInc 255 u.twin.replays, replayed := u.twin.replayed + 1, ackAt := u.now } })) ∧
    (∀ code, u.twin.up = true → 1 ≤ code → code ≤ 7 → n < 2 ^ 32 → Does (.postedWriteError g n code) s (fun t =>
      t.twin = { u.twin with postErr := satInc 0xFFFFFFFF u.twin.postErr, postAddr := n, postCode := code })) ∧
    Does (.reservationExpiry g n) s (fun t =>
      t = { u with twin := { u.twin with sem := u.twin.sem.filter (fun v => !(decide (v.rid = n) && decide (v.stamp + 20000 ≤ u.now))) } }) ∧
    (∀ rid k, u.twin.lock = some (rid, k) → u.now ≥ k + 4000 → u.twin.again = [] → u.twin.wait = [] → Does (.lockBreak g) s (fun t =>
      t.twin = { u.twin with lock := none, broken := some rid, lockBreak := satInc 0xFFFF u.twin.lockBreak })) ∧
    (u.twin.up = true → Does (.ctlInterrupt g) s (fun t => t.twin = { u.twin with irq := true } ∧ (t.core 0).evPend = (u.core 0).evPend ||| 4)) ∧
    (u.pwr.st = .run → u.pd 14 = true → u.pb Pf.twinCfg_PAIR = true → u.twin.up = false → u.now ≥ u.twin.wakeAt + 20000000 →
      Does (.twinWakePattern g) s (fun t => t = { u with twin := { u.twin with wakeAt := u.now } }))

/-- Accesses through the twin bridge (13 R337; 13 R338; 13 R339; 13 R342). An outbound access outside every enabled window ends with DENIED,
one while the link is down or PD14 off with OFF, one that is not aligned with ALIGN; a plain read through a window waits for its response
under the next tag. An inbound read of an unassigned address is answered, and nothing but the link, the error record and the lists of the
bridge changes. -/
def Obligations.TwinAccesses : Prop :=
  ∀ (s : State) (g : Lapse) (r : FabReq),
    let u := s.pass g
    let ends := fun (code : Nat) (t : State) => t.fab.last = some ⟨r.port, r.unit, code, 0⟩ ∧ t.dbg = (u.fabErr code r.port r.addr).dbg ∧ t.twin = u.twin
    (aligned r.addr r.size = false → r.write = false → Does (.twinOutboundRequest g r) s (ends 4)) ∧
    (aligned r.addr r.size = true → inTwin r.addr = true → r.write = false → u.pd 14 = false → Does (.twinOutboundRequest g r) s (ends 2)) ∧
    (aligned r.addr r.size = true → inTwin r.addr = true → r.write = false → u.pd 14 = true → u.fab.closed.testBit 14 = false → u.findWin r.addr = none →
      Does (.twinOutboundRequest g r) s (ends 3)) ∧
    (∀ w, aligned r.addr r.size = true → r.size = 4 → inTwin r.addr = true → r.write = false → r.excl = false → u.pd 14 = true → u.fab.closed.testBit 14 = false →
      u.findWin r.addr = some w → u.pb Pf.twinWindow_PF 0 w = false → u.twin.up = true → u.twin.lock = none → u.twin.out = [] → u.twin.wait = [] →
      Does (.twinOutboundRequest g r) s (fun t => t.twin.out = [⟨u.twin.nextTag, 0, r, w, u.winTarget w r.addr, u.now, false⟩] ∧
        t.twin.nextTag = (u.twin.nextTag + 1) % 256 ∧ ∀ p, p ≠ .twin → Part.same p u t)) ∧
    (∀ q : LinkReq, q.op = 0 → q.be = 15 → q.count = 1 → q.addr = 0x50000000 → u.twin.up = true → u.pd 14 = true → u.twin.inq = [] →
      Does (.twinInboundRequest g q) s (fun t => t.dbg = (u.fabErr 1 7 0x50000000).dbg ∧ t.twin.out = u.twin.out ∧ (∀ p, p ≠ .twin → p ≠ .dbg → Part.same p u t)))

/-- The commands of a load channel (04 R100; 04 R103; 04 R104; 04 R106; 04 R107; 04 R108; 04 R120; 05 R153). OFF turns the gate off and awaits
the fall of the current; ON, LOW, FORWARD and REVERSE of a channel that is OFF, with no request left over, take it to GRANT_WAIT in their
drive with a heat-budget request of its own; BRAKE gives up the drive and turns both low sides on, after the dead time where another
switch was on; CLEAR takes a latched channel to OFF and, with CLRCNT, clears its counts; PULSE of a channel that is OFF enters the
schedule and asks for its grant. Every other channel stays as it was, but for the odd half of a bridge. A deadline that passes in
GRANT_WAIT leaves the channel OFF. -/
def Obligations.ChannelCommands : Prop :=
  ∀ (s : State) (g : Lapse) (q : Rq) (c : UnitCmd) (n : Fin 64), c.unit = n →
    let u := s.pass g
    let others := fun (t : State) => ∀ k : Fin 64, k ≠ n → (u.bridge n = true → k.val ≠ n.val + 1) → t.chan k = u.chan k
    let starts := fun (k : Nat) (d : Drive) (t : State) =>
      (t.chan n).st = .grantWait ∧ (t.chan n).drive = d ∧ others t ∧ (∃ h dl, t.cmdOf n = some ⟨h, k, dl, false, false, false⟩) ∧
      ∃ r ∈ t.iso.pend, r.num = n ∧ r.kind = .turnOn ∧ r.stamp = u.now ∧ r.shares.map (·.ch) = [n.val]
    let idle := (u.chan n).st = .off ∧ u.feedOk n = true ∧ (u.dualFed n = false ∨ u.il.role = 2) ∧ ∀ r ∈ u.iso.pend, r.num = n → r.kind ≠ .turnOn
    (TakesUnit u q c 0 → Does (.chanOff g q c) s (fun t =>
      (t.chan n).offAt = some u.now ∧ (t.chan n).st = (if (u.chan n).st = .latched then .latched else .off) ∧
      ((u.chan n).st ≠ .latched → (t.chan n).gate = .off) ∧ others t)) ∧
    (TakesUnit u q c 1 → idle → Does (.chanOn g q c) s (starts 1 .high)) ∧
    (TakesUnit u q c 2 → idle → Does (.chanLow g q c) s (starts 2 .low)) ∧
    (TakesUnit u q c 3 → idle → Does (.chanForward g q c) s (starts 3 .fwd)) ∧
    (TakesUnit u q c 4 → idle → Does (.chanReverse g q c) s (starts 4 .rev)) ∧
    (TakesUnit u q c 5 → (u.chan n).st = .on → (u.chan n).gate ≠ .off → (u.chan n).gate ≠ .brake → Does (.chanBrake g q c) s (fun t =>
      (t.chan n).st = .off ∧ (t.chan n).gate = .off ∧ (t.chan n).brake = true ∧ (t.chan n).dead = some (u.now, .brakeOn) ∧ others t)) ∧
    (TakesUnit u q c 5 → (u.chan n).st = .on → (u.chan n).gate = .brake ∨ ((u.chan n).gate = .off ∧ (u.chan n).opened = none) → Does (.chanBrake g q c) s (fun t =>
      (t.chan n).st = .off ∧ (t.chan n).gate = .brake ∧ (t.chan n).brake = true ∧ t.cmdOf n = none ∧ others t)) ∧
    (TakesUnit u q c 6 → (u.chan n).st = .latched → Does (.chanClear g q c) s (fun t =>
      (t.chan n).st = .off ∧ (t.chan n).fault = 0 ∧ t.cmdOf n = none ∧ others t ∧
      (c.opt = 1 → (t.chan n).trans = 0 ∧ (t.chan n).lasting = 0) ∧
      (c.opt = 0 → (t.chan n).trans = (u.chan n).trans ∧ (t.chan n).lasting = (u.chan n).lasting))) ∧
    (∀ i m, TakesUnit u q c 0x10 → idle → u.pmem n = some (i, m) → m.pulsing = false → Does (.chanPulse g q c) s (fun t =>
      (t.chan n).st = .grantWait ∧ others t ∧ ∃ x, t.memOf i n = some x ∧ x.pulsing = true ∧ x.start = false)) ∧
    (∀ x d, u.cmdOf n = some x → x.deadline = some d → d ≤ u.now → isTurnOn x.cmd = true → (u.chan n).st = .grantWait → u.owner n = n →
      Does (.commandDeadline g n) s (fun t =>
        (t.chan n).st = .off ∧ (t.chan n).gate = .off ∧ t.load.cmds = kvDel n u.load.cmds ∧ others t))

/-- What a load channel does as its times run (04 R100; 04 R102; 04 R104; 04 R108; 04 R111; 04 R112; 04 R113; 04 R114; 04 R119; 04 R121; 04
R132; 05 R155). After the dead time the gate turns on with the inrush settings of that tick, or both low sides turn on, the edge of a
pulse takes effect, or the grant is asked for; the inrush ends in ON; the limit is the fixed one while no sequencer runs and ilim after
the inrush, and each look at the current runs or restarts the dwell timer; 2 ms of BRAKE are followed by the request for the new
direction; a stall allowance ends with the fall of the current; the retry conditions lead to the request of the retry, and its
confirmation window to ON with one transient more; the fall of the current ends an OFF; a sag freezes the inrush timers of its die and no
others. -/
def Obligations.ChannelTimes : Prop :=
  ∀ (s : State) (g : Lapse) (n : Fin 64) (m : Meas),
    let u := s.pass g
    let c := u.chan n
    let own := u.chan (u.owner n)
    let becomes := fun (x : Chan) (t : State) => t.chan n = x ∧ ∀ k : Fin 64, k ≠ n → t.chan k = u.chan k
    let asks := fun (kind : ReqKind) (t : State) => ∃ r ∈ t.iso.pend, r.num = n ∧ r.kind = kind ∧ r.stamp = u.now
    (∀ k, c.dead = some (k, .gateOn) → k + 200 ≤ u.now → Does (.deadTimeEnd g n) s (fun t =>
      (t.chan n).gate = .drive c.drive ∧ (t.chan n).gateAt = u.now ∧ (t.chan n).inr = true ∧ (t.chan n).dead = none ∧
      (t.chan n).inrP = u.inrushP (u.conf n) ∧ (t.chan n).inrT = u.inrushT (u.conf n) ∧ (t.chan n).limit = t.inrushLimit n 0 ∧
      (t.chan n).regSum = 0 ∧ (t.chan n).regAt = none)) ∧
    (∀ k, c.dead = some (k, .brakeOn) → k + 200 ≤ u.now → Does (.deadTimeEnd g n) s (becomes { c with dead := none, gate := .brake })) ∧
    (∀ k x, c.dead = some (k, .set x) → k + 200 ≤ u.now → Does (.deadTimeEnd g n) s (becomes { c with dead := none, gate := x })) ∧
    (∀ k, c.dead = some (k, .request) → k + 200 ≤ u.now → c.st = .grantWait → c.lostAt = none → u.parentOf n = none →
      Does (.deadTimeEnd g n) s (fun t => becomes { c with dead := none } t ∧ asks .turnOn t)) ∧
    (c.inr = true → u.seqUp n = true → chClass n ≠ 2 → c.inrT ≤ c.timer u.now → c.st = .inrush → u.gang n = [n.val] → u.bridge n = false →
      u.pmem (u.topOf n) = none → Does (.inrushEnd g n m) s (fun t =>
      becomes { c with st := .on, inr := false, inrEnd := u.now, frozenAt := none, limit := u.ilimOf n, stallOk := true, belowAt := none, tuP := 0, tuN := 0, tuSq := 0, tuOn := 0 } t ∧
      .inrEnd n m.uj u.now ∈ t.iso.rels)) ∧
    (∀ ma, own.energised = true → u.seqUp n = false → Does (.limitUpdate g n ma) s (fun t => t = u.setChan n { c with limit := nominalMa n })) ∧
    (∀ ma, own.energised = true → u.seqUp n = true → own.inr = false → u.bridgeOdd n = false ∨ c.inrT ≤ own.timer u.now → u.stalls n = false →
      Does (.limitUpdate g n ma) s (fun t => t = u.setChan n (
        if (u.ilimOf n : Int) ≤ ma then { c with limit := u.ilimOf n, regAt := some (c.regAt.getD u.now), regSeen := true }
        else if u.pulsing (u.topOf (u.owner n)) = true then { c with limit := u.ilimOf n, regSum := c.dwell u.now, regAt := none }
        else { c with limit := u.ilimOf n, regSum := 0, regAt := none, regSeen := false }))) ∧
    (∀ ma, own.energised = true → u.seqUp n = true → own.inr = false → u.bridgeOdd n = false ∨ c.inrT ≤ own.timer u.now → u.stalls n = true →
      Does (.limitUpdate g n ma) s (fun t => t = u.setChan n ((c.allow n (u.ilimOf n) u.now ma).look u.now ma (u.pulsing (u.topOf (u.owner n)))))) ∧
    (∀ k, c.revAt = some k → k + 400000 ≤ u.now → c.st = .grantWait → c.lostAt = none → u.parentOf n = none → u.owner n = n →
      Does (.reversalBrakeEnd g n) s (fun t => becomes { c with revAt := none } t ∧ asks .turnOn t)) ∧
    (∀ k, c.stallAt = some k → 10 * m.ma < 9 * (u.ilimOf n : Int) ∨ (k + c.inrT ≤ u.now ∧ m.ma < (u.ilimOf n : Int)) →
      Does (.stallAllowanceEnd g n m) s (fun t =>
        t = u.setChan n { c with stallAt := none, stallOk := false, belowAt := some u.now, limit := u.ilimOf n, regAt := none, regSum := 0, regSeen := false })) ∧
    (∀ sens, u.gang n = [n.val] → u.parentOf n = none → c.st = .retryWait → c.retryReq = false → u.seqUp n = true → u.retryReady n sens = true →
      Does (.retryConditionsMet g n sens) s (fun t => becomes { c with retryReq := true } t ∧ asks .retry t)) ∧
    (u.gang n = [n.val] → c.st = .retryOn → c.inr = false → u.confirmEnd n ≤ u.now → u.seqUp n = true → Does (.confirmationWindowEnd g n) s
      (becomes { c with st := .on, trans := satInc 255 c.trans })) ∧
    (∀ k, c.offAt = some k → (10 * m.ma < (nominalMa n : Int) ∨ k + 1000000 ≤ u.now) → Does (.offComplete g n m) s (becomes { c with offAt := none })) ∧
    (∀ d : Fin 4, (u.dieRec d).sag = false → Does (.sagStart g d) s (fun t => (t.dieRec d).sag = true ∧
      ∀ k : Fin 64, t.chan k = if dieOf k = d ∧ (u.chan k).inr = true then { u.chan k with frozenAt := some u.now } else u.chan k)) ∧
    (∀ d : Fin 4, (u.dieRec d).sag = true → dieOf n = d → Does (.sagEnd g d) s (fun t => (t.dieRec d).sag = false ∧
      (∀ f, c.frozenAt = some f → t.chan n = { c with frozen := c.frozen + (u.now - f), frozenAt := none }) ∧ (c.frozenAt = none → t.chan n = c)))

/-- Trips of a load channel (04 R104; 04 R105; 04 R112; 04 R113; 04 R114; 04 R115; 04 R116; 04 R118; 04 R119; 04 R121; 04 R128; 17 R431). A
trip of a channel in ON or INRUSH turns its gate off, takes it to RETRY_WAIT with its fault code and its stamp, and touches no other
channel but the odd half of its bridge; with NORETRY, in the confirmation window of a retry or while BRAKE holds it latches and counts as
lasting; after the window the retry has held, and the trip is a new first one; while no sequencer runs, the die turns the output off and
keeps the mark. The codes are 1 for the fast trip, 2 for the overcurrent dwell, 3 for the stall of a motor, 4 for the wire model, 5 for
the difference to the case, 6 for the junction, 7 for an inrush that does not end, in sag or without it. -/
def Obligations.ChannelTrips : Prop :=
  ∀ (s : State) (g : Lapse) (n : Fin 64) (m : Meas),
    (s.pass g).gang n = [n.val] → (s.pass g).owner n = n → (s.pass g).parentOf n = none → ((s.pass g).chan n).energised = true →
    let u := s.pass g
    let c := u.chan n
    let others := fun (t : State) => ∀ k : Fin 64, k ≠ n → (u.bridge n = true → k.val ≠ n.val + 1) → t.chan k = u.chan k
    let noRetry := u.pb Pf.chRetry_NORETRY n
    let lasts := (c.st = .on ∨ c.st = .inrush) ∧ noRetry = true ∨ c.st = .retryOn ∧ (c.inr = true ∨ u.now < u.confirmEnd n) ∨
      (c.st = .off ∨ c.st = .grantWait) ∧ c.brake = true
    let trips := fun (code : Nat) (t : State) =>
      ((c.st = .on ∨ c.st = .inrush) → noRetry = false →
        (t.chan n).st = .retryWait ∧ (t.chan n).gate = .off ∧ (t.chan n).fault = code ∧ (t.chan n).tripAt = u.now ∧ (t.chan n).lasting = c.lasting ∧
        (t.chan n).trans = c.trans) ∧
      (c.st = .retryOn → c.inr = false → u.confirmEnd n ≤ u.now → noRetry = false →
        (t.chan n).st = .retryWait ∧ (t.chan n).gate = .off ∧ (t.chan n).fault = code ∧ (t.chan n).tripAt = u.now ∧ (t.chan n).lasting = c.lasting ∧
        (t.chan n).trans = satInc 255 c.trans) ∧
      (lasts → (t.chan n).st = .latched ∧ (t.chan n).gate = .off ∧ (t.chan n).fault = code ∧ (t.chan n).lasting = satInc 255 c.lasting) ∧ others t
    let alone := fun (code : Nat) (t : State) =>
      t.chan n = { c.gateOff u.now with dieTrip := true, fault := code, firstCode := code, tripAt := u.now, trips := c.trips ++ [(code, u.now)] } ∧
      ∀ k : Fin 64, k ≠ n → t.chan k = u.chan k
    let dwelt := c.inr = false ∧ (c.limit : Int) ≤ m.ma ∧ dwellTk n ≤ c.dwell u.now
    (fastMin n ≤ m.ma → u.feedOk n = true →
      (u.seqUp n = true → Does (.fastTrip g n m) s (trips 1)) ∧ (u.seqUp n = false → c.dieTrip = false → Does (.fastTrip g n m) s (alone 1))) ∧
    (u.seqUp n = true → dwelt → u.stalls n = false → Does (.overcurrent g n m) s (trips 2)) ∧
    (u.seqUp n = true → u.stalls n = true → (∃ k, c.stallAt = some k ∧ k + c.inrT ≤ u.now ∧ (u.ilimOf n : Int) ≤ m.ma) ∨ dwelt → Does (.stall g n m) s (trips 3)) ∧
    (∀ v : Vector Int 25,
      let ms : Rat := ((v.toList.foldl (fun a i => a + i * i) 0 : Int) : Rat) / 25
      let th := c.theta + (ms / ((u.wireRated n : Rat) * (u.wireRated n : Rat)) - c.theta) / (1000 * (u.pf Pf.chWire_TAU n : Rat))
      u.seqUp n = true →
      ((u.pf Pf.chWire_KTRIP n : Rat) / 16 ≤ th → Does (.i2tModelStep g n v) s (trips 4)) ∧
      (th < (u.pf Pf.chWire_KTRIP n : Rat) / 16 → Does (.i2tModelStep g n v) s (fun t => t = u.setChan n { c with theta := th }))) ∧
    (∀ dt : Int, (u.pf Pf.chDtLimit_DT n : Int) < dt → u.feedOk n = true →
      (u.seqUp n = true → Does (.deltaT g n ⟨m, dt⟩) s (trips 5)) ∧ (u.seqUp n = false → c.dieTrip = false → Does (.deltaT g n ⟨m, dt⟩) s (alone 5))) ∧
    (∀ tj : Int, 1620 < tj → u.feedOk n = true →
      (u.seqUp n = true → Does (.tjShutdown g n ⟨m, tj⟩) s (trips 6)) ∧ (u.seqUp n = false → c.dieTrip = false → Does (.tjShutdown g n ⟨m, tj⟩) s (alone 6))) ∧
    (u.seqUp n = true → c.inr = true → chClass n = 2 → c.inrT ≤ c.timer u.now → 10 * m.mv < 9 * u.feedMv n → Does (.inrushTimeout g n m) s (trips 7)) ∧
    (∀ f, u.seqUp n = true → c.inr = true → c.frozenAt = some f → 400000 ≤ c.frozen + (u.now - f) → Does (.sagInrushTimeout g n m) s (trips 7))

/-- Reverse blocking and the off-state test (04 R123; 04 R124; 04 R125; 04 R128; 04 R132). Reverse current of 0.3 A or more on a channel with
RB opens the blocking switch with its fault code, and the fall of the output below the feed closes it. The off-state test starts on an
idle channel with EN when its period has passed, with the settings of that tick, turns the pull-up on after 10 µs with the candidate of
the first step, on a bridge with the low side of the odd half, and its result counts equal candidates or clean tests; fewer than FILT of
either change no flag. -/
def Obligations.ChannelDiagnostics : Prop :=
  ∀ (s : State) (g : Lapse) (n : Fin 64) (m : Meas) (mv : Nat),
    let u := s.pass g
    let c := u.chan n
    let filt := Pf.chOpenload_FILT.of c.testCfg
    let th := 50 * Pf.chOpenload_VTH.of c.testCfg
    let pol := Pf.chOpenload_POL.of c.testCfg
    let steps := fun (k cand : Nat) (t : State) => t.chan n = { c with test := .pullOn k cand } ∧
      (u.bridge n = false → t = u.setChan n { c with test := .pullOn k cand }) ∧ (u.bridge n = true → (t.chan (n.val + 1)).gate = .drive .low)
    (chClass n ≠ 1 → u.pb Pf.chCfg_RB n = true → c.energised = true → c.revblock = false → m.ma ≤ -300 → Does (.reverseCurrent g n m) s (fun t =>
      t.chan n = { c with revblock := true, fault := 0x13 } ∧ ∀ k : Fin 64, k ≠ n → t.chan k = u.chan k)) ∧
    (c.revblock = true → Does (.reverseCurrentEnd g n) s (fun t => t = u.setChan n { c with revblock := false })) ∧
    (c.st = .off → c.energised = false → c.test = .idle → u.pb Pf.chOpenload_EN n = true → u.seqUp n = true → u.lead n = n → u.dualFed n = false →
      c.testAt = 0 ∨ c.testAt + 200000 * u.pf Pf.chOpenload_PERIOD n ≤ u.now → Does (.offStateTestStart g n) s (fun t =>
        t = u.setChan n { c with test := .pullOff u.now, testAt := u.now, testCfg := u.parOf (Pid.chOpenload n) 0 })) ∧
    (∀ k, c.test = .pullOff k → k + 2000 ≤ u.now → pol ≠ 1 → Does (.offStatePullupOn g n mv) s (steps k (if th < mv then 0x11 else 0))) ∧
    (∀ k, c.test = .pullOff k → k + 2000 ≤ u.now → pol = 1 → Does (.offStatePullupOn g n mv) s (steps k (if mv < th then 0x12 else 0))) ∧
    (∀ k, c.test = .pullOn k 0x11 → k + 44000 ≤ u.now → c.cand ≠ 0x11 → 1 < filt → u.bridge n = false → Does (.offStateTestEnd g n mv) s (fun t =>
      t = u.setChan n { c with test := .idle, cand := 0x11, candCnt := 1, cleanCnt := 0 })) ∧
    (∀ k, c.test = .pullOn k 0 → k + 44000 ≤ u.now → pol ≠ 1 → mv ≤ th → c.cleanCnt + 1 < filt → u.bridge n = false → Does (.offStateTestEnd g n mv) s (fun t =>
      t = u.setChan n { c with test := .idle, cand := 0, candCnt := 0, cleanCnt := min (c.cleanCnt + 1) 15 })) ∧
    (∀ k, c.test = .pullOn k 0 → k + 44000 ≤ u.now → pol ≠ 1 → th < mv → filt ≤ 1 → c.openload = false →
      Does (.offStateTestEnd g n mv) s (fun t => (t.chan n).openload = true ∧ (t.chan n).fault = 0x10 ∧ (t.chan n).test = .idle ∧ (t.chan n).short = c.short))

/-- Feeds, and the schedule of a pulse generator (04 R104; 04 R127; 05 R149; 05 R150; 05 R152; 05 R154; 18 R443). The loss of a feed, by
undervoltage or overvoltage, turns every running channel bonded to it off and leaves it in GRANT_WAIT with FEED_LOST, and turns off the
output of a channel whose sequencer does not run; its restore within a second asks for the grant again, and a channel that waits longer is
abandoned and OFF. A period boundary starts the next period where the last ended, and changes the channels of those members alone that
stay off in it; an on-edge turns the leaf on and sets the off-edge, an off-edge turns it off. -/
def Obligations.FeedsAndPulses : Prop :=
  ∀ (s : State) (g : Lapse) (f : Feed) (n : Fin 64) (volt : Nat) (gen : Fin 16),
    let u := s.pass g
    let plain := (∀ k : Fin 32, (u.compOf k).en = false) ∧ u.il.role ≠ 2
    let lost := fun (t : State) => t.feedInRange f = false ∧ (match f with | .a => t.pwr.va = volt ∧ t.pwr.aLost = u.now | .b => t.pwr.vb = volt ∧ t.pwr.bLost = u.now) ∧
      (onFeed f n = true → u.bridgeOdd n = false → u.seqUp n = true → (u.chan n).st = .on →
        (t.chan n).st = .grantWait ∧ (t.chan n).gate = .off ∧ (t.chan n).fault = 0x20 ∧ (t.chan n).lostAt = some u.now) ∧
      (onFeed f n = true → u.bridgeOdd n = false → u.seqUp n = false → (u.chan n).energised = true → t.chan n = (u.chan n).gateOff u.now) ∧
      (onFeed f n = false → t.chan n = u.chan n)
    (plain → u.feedInRange f = true → volt < 600 → Does (.feedLost g f volt) s lost) ∧
    (plain → u.feedInRange f = true → 2900 < volt → Does (.overvoltage g f volt) s lost) ∧
    (plain → u.feedInRange f = false → 550 < volt → volt < 2850 → Does (.feedRestored g f volt) s (fun t => t.feedInRange f = true ∧
      (∀ k, onFeed f n = true → u.bridgeOdd n = false → u.seqUp n = true → (u.chan n).lostAt = some k → (u.chan n).st = .grantWait →
        (u.now < k + 200000000 → (u.chan n).revAt = none → (u.chan n).dead = none →
          (t.chan n).lostAt = none ∧ ∃ r ∈ t.iso.pend, r.num = n ∧ r.kind = .turnOn ∧ r.stamp = u.now) ∧
        (k + 200000000 ≤ u.now → (t.chan n).st = .off ∧ (t.chan n).fault = 0x20)))) ∧
    (∀ k, u.gang n = [n.val] → (u.chan n).lostAt = some k → (u.chan n).st = .grantWait → k + 200000000 ≤ u.now → u.feedOk n = false →
      Does (.feedLostAbandon g n) s (fun t => (t.chan n).st = .off ∧ (t.chan n).fault = 0x20 ∧ (t.chan n).lostAt = none ∧
        ∀ k : Fin 64, k ≠ n → (u.bridge n = true → k.val ≠ n.val + 1) → t.chan k = u.chan k)) ∧
    ((u.genOf gen).en = true → u.pd 3 = true → (u.genOf gen).start + (u.genOf gen).per ≤ u.now → Does (.periodBoundary g gen) s (fun t =>
      (t.genOf gen).start = (u.genOf gen).start + (u.genOf gen).per ∧
      (t.genOf gen).per = (if u.periodWaits gen then (u.genOf gen).per else u.pf Pf.genPeriod_P gen) ∧
      (t.genOf gen).mems.map (·.unit) = (u.genOf gen).mems.map (·.unit) ∧ (∀ k : Fin 16, k ≠ gen → t.genOf k = u.genOf k) ∧
      ((∀ x ∈ (t.genOf gen).mems, x.pulsing = true → x.off = true → x.offEdge ≠ none) → t.load.ch = u.load.ch))) ∧
    (∀ m e w, u.memOf gen n = some m → m.pulsing = true → m.onEdge = some (e, w) → e ≤ u.now → u.pd 3 = true → u.onSchedule n = true → u.bridge n = false →
      (u.chan n).inrDue = false → (u.chan n).gate = .off → (u.chan n).opened = none → (u.chan n).dead = none → Does (.pulseOnEdge g gen n) s (fun t =>
        t.chan n = { u.chan n with gate := .drive (u.chan n).drive } ∧ t.memOf gen n = some { m with onEdge := none, offEdge := w.map (e + ·) })) ∧
    (∀ m e, u.memOf gen n = some m → m.pulsing = true → m.offEdge = some e → e ≤ u.now → u.pd 3 = true → u.onSchedule n = true → m.free = false →
      (u.chan n).inrDue = false → Does (.pulseOffEdge g gen n) s (fun t =>
        (t.chan n).gate = .off ∧ (t.chan n).dead = none ∧ t.memOf gen n = some { m with offEdge := none }))

/-- The Isotherm arbiter (06 R163; 06 R167; 06 R168; 06 R170; 06 R173; 06 R174; 06 R175; 06 R176). A pass with one pending turn-on request
that fits the pools takes its energy and power, keeps its share among the grants and turns the channel on; one that does not fit is
deferred and keeps its place, and takes nothing. A step boundary refills E by a ten-thousandth of the unused budget up to CAP and takes
the case temperatures and the mean currents; a true-up sets a valve or the matrix that is on to its measured power and the shares of a
channel to the mean of their samples, and learns its RMS current; a comparison within the limit resets the count of divergent boundaries
and one beyond it raises the count; a request that waits BLOCK ms blocks those behind it. -/
def Obligations.HeatBudget : Prop :=
  ∀ (s : State) (g : Lapse) (n : Fin 64) (r : IsoReq) (x : Share),
    let u := s.pass g
    let c := u.chan n
    (u.pd 3 = true → u.load.held = false → u.iso.rels = [] → u.iso.pend = [r] → r.num = n → r.kind = .turnOn → r.shares = [x] → x.ch = n → r.first = none →
      c.st = .grantWait → c.gate = .off → c.opened = none → u.pmem (u.topOf n) = none → u.fits r.ps r.ex r.q = true → Does (.arbiterPass g) s (fun t =>
        t.iso.pend = [] ∧ t.iso.e = u.iso.e - x.ex ∧ t.iso.grants = u.iso.grants ++ [⟨n, x, u.now, true, 0⟩] ∧
        (t.chan n).st = .inrush ∧ (t.chan n).gate = .drive c.drive ∧ (t.chan n).gateAt = u.now ∧ ∀ k : Fin 64, k ≠ n → (u.bridge n = true → k.val ≠ n.val + 1) → t.chan k = u.chan k)) ∧
    (u.pd 3 = true → u.load.held = false → u.iso.rels = [] → u.iso.pend = [r] → r.num = n → r.first = none → u.fits r.ps r.ex r.q = false →
      Does (.arbiterPass g) s (fun t => t.iso.pend = [{ r with first := some u.now }] ∧ t.iso.e = u.iso.e ∧ t.iso.grants = u.iso.grants ∧
        t.iso.defers.toList.getD n 0 = satInc 0xFFFF (u.iso.defers.toList.getD n 0) ∧ t.load.ch = u.load.ch)) ∧
    (∀ tcase steps, u.now % 20000 = 0 → u.pd 3 = true → u.load.held = false → (∀ k : Fin 64, (u.chan k).seed = false) → Does (.modelStep g tcase steps) s (fun t =>
      t.iso.e = min u.burstCap (u.iso.e + max 0 (u.budget - u.isoS) / 10000) ∧ (∀ d : Fin 4, (t.dieRec d).tcase = tcase.getD d (u.dieRec d).tcase) ∧
      (u.seqUp n = true → (t.chan n).imeas = stepMean n (samplesOf steps n)) ∧ (u.seqUp n = false → t.chan n = c))) ∧
    (∀ (num : Fin 113) (mw : Nat), u.now % 2000000 = 0 → u.pd 3 = true → u.load.held = false → 96 ≤ num.val → (∀ y ∈ u.iso.grants, y.num = num.val) →
      u.trueable num = true → Does (.trueUp g [⟨num, mw⟩]) s (fun t => t.iso.grants = trueGrants u.iso.grants num mw ∧ t.iso.e = u.iso.e)) ∧
    (u.now % 2000000 = 0 → u.pd 3 = true → u.load.held = false → (∀ y ∈ u.iso.grants, y.num = n ∧ (u.chan y.share.ch).tuN ≠ 0) → u.trueable n = true →
      Does (.trueUp g []) s (fun t => t.iso.grants = u.trueShares n ∧ t.iso.e = u.iso.e ∧ t.chan n = { c with tuP := 0, tuN := 0, tuSq := 0, tuOn := 0 } ∧
        t.iso.learn.toList.getD n 0 = if c.st = .on ∧ c.tuOn ≠ 0 then c.rms else u.iso.learn.toList.getD n 0)) ∧
    (∀ v : Int, let d := u.tj n - (v : Rat) / 10
      let lim := (u.pf Pf.isoDiverge_DIV : Rat) / 10
      u.now % 200000 = 0 → u.seqUp n = true →
        (d ≤ lim → -d ≤ lim → Does (.divergenceCheck g [(n, v)]) s (fun t => t = u.setChan n { c with diverged := 0 })) ∧
        (lim < d ∨ lim < -d → c.diverged < 9 → Does (.divergenceCheck g [(n, v)]) s (fun t => t = u.setChan n { c with diverged := c.diverged + 1 }))) ∧
    (∀ (num : Fin 113) (f : Nat), u.iso.pend = [r] → r.num = num → r.first = some f → f + 200000 * u.pf Pf.isoBlockMs_BLOCK ≤ u.now → r.block = false →
      Does (.blockTimeout g num) s (fun t => t.iso.pend = [{ r with block := true }] ∧ t.iso.e = u.iso.e ∧ t.iso.grants = u.iso.grants))

/-- Contour windows and datagrams (06 R179; 06 R181; 06 R182; 06 R183; 06 R186). A window that ends with PD15 on codes the streams that are
enabled, queues their blocks under its number and gives up the trips stamped before its end; with PD15 off it keeps them; the written
configurations come into force at either; with 64 windows queued a stream sends its gap alone. The oldest window leaves as a datagram with
the next SEQ, to the address of the peer and from the port after that of Atlas, while session 0 is open, and is dropped while it is
closed. -/
def Obligations.ContourStreams : Prop :=
  ∀ (s : State) (g : Lapse) (w : StreamWin),
    let u := s.pass g
    let win := u.now / 200000 - 1
    let on := (streamCfg ((kvGet w.ch u.ctr.inForce).getD 0) w.sig).2
    (u.now % 200000 = 0 → u.now ≠ 0 → u.pd 3 = true → Does (.contourWindowEnd g [w]) s (fun t =>
      (u.pd 15 = true → on = true → u.ctr.queue.length < 64 → u.streamBlocks w win false ≠ [] →
        t.ctr.queue = u.ctr.queue ++ [(win, u.streamBlocks w win false)]) ∧
      (u.pd 15 = true → on = true → 64 ≤ u.ctr.queue.length → u.streamBlocks w win true ≠ [] →
        t.ctr.queue = u.ctr.queue ++ [(win, u.streamBlocks w win true)]) ∧
      (u.pd 15 = false ∨ on = false → t.ctr.queue = u.ctr.queue) ∧ t.ctr.inForce = u.ctrCfgs ∧
      (u.pd 15 = true → ∀ n : Fin 64, t.chan n = { u.chan n with trips := (u.chan n).trips.filter (fun p => u.now ≤ p.2) }) ∧
      (u.pd 15 = false → t.load = u.load) ∧ t.ctr.last = keepLast u.ctr.last w ∧ t.ctr.sent = u.ctr.sent)) ∧
    (∀ k bs rest, u.ctr.queue = (k, bs) :: rest → u.pd 15 = true → (u.ses 0).isOpen = false → Does (.contourDatagramSend g) s (fun t =>
      t = { u with ctr := { u.ctr with queue := rest } })) ∧
    (∀ k bs rest, u.ctr.queue = (k, bs) :: rest → u.pd 15 = true → (u.ses 0).isOpen = true → (takeBlocks 1456 bs).2 = [] → Does (.contourDatagramSend g) s (fun t =>
      t = { u with ctr := { u.ctr with queue := rest, seq := (u.ctr.seq + 1) % 65536, sent := u.ctr.sent ++ [⟨u.atlas.peerIf, u.atlas.peer, u.pf Pf.atlasUdpPort_PORT + 1, ctrDatagram u.ctr.seq k (takeBlocks 1456 bs).1⟩] } })) ∧
    (∀ eps a xs n, segLen eps a xs 250 1 = n → xs ≠ [] → 2 ≤ n → ∀ k, k + 1 < n →
      (lineAt a (xs.getD (n - 1) 0) n (k + 1) - xs.getD k 0).natAbs ≤ eps)

/-- The commands of a valve (07 R196; 07 R197; 07 R198; 07 R199; 07 R201; 07 R211; 07 R212; 07 R215). OFF of a valve in HOLD turns its low
side off and awaits the fall of the current, which completes it; ACT of a valve that is OFF takes the written settings and asks for its
grant; CLEAR takes a latched valve to OFF and, with CLRCNT, clears its counts; a deadline that passes in GRANT_WAIT withdraws the request;
the retry conditions start the retry run with a request. No other valve changes. -/
def Obligations.ValveCommands : Prop :=
  ∀ (s : State) (g : Lapse) (q : Rq) (c : UnitCmd) (v : Fin 16) (i : Int), c.unit = v →
    let u := s.pass g
    let x := u.valve v
    let others := fun (t : State) => ∀ k : Fin 16, k ≠ v → t.valve k = u.valve k
    let asks := fun (kind : ReqKind) (t : State) => ∃ r ∈ t.iso.pend, r.num = 96 + v.val ∧ r.kind = kind ∧ r.stamp = u.now
    (TakesValve u q c 0 → x.st = .hold → Does (.valveOff g q c) s (fun t =>
      (t.valve v).st = .off ∧ (t.valve v).low = false ∧ (t.valve v).offAt = u.now ∧ (∃ h dl, (t.valve v).cmd = some ⟨h, 0, dl, false, false, false⟩) ∧ others t)) ∧
    (TakesValve u q c 1 → x.st = .off → Does (.valveAct g q c) s (fun t =>
      (t.valve v).st = .grantWait ∧ (t.valve v).cfg = u.parOf (Pid.valveCfg v) 0 ∧ (t.valve v).levels = u.parOf (Pid.valveLevels v) 0 ∧
      (t.valve v).times = u.parOf (Pid.valveTimes v) 0 ∧ (t.valve v).codes = 0 ∧ (∃ h dl, (t.valve v).cmd = some ⟨h, 1, dl, false, false, false⟩) ∧ others t ∧ asks .turnOn t)) ∧
    (TakesValve u q c 6 → x.st = .latched → Does (.valveClear g q c) s (fun t =>
      t.valve v = (if c.opt = 1 then { x with st := .off, trans := 0, lasting := 0, cmd := none } else { x with st := .off, cmd := none }) ∧ others t)) ∧
    (∀ k d, x.cmd = some k → k.cmd = 1 → k.deadline = some d → d ≤ u.now → x.st = .grantWait → Does (.valveDeadline g v) s (fun t =>
      (t.valve v).st = .off ∧ (t.valve v).cmd = none ∧ others t ∧ ∀ r ∈ t.iso.pend, ∀ y ∈ r.shares, y.ch ≠ 96 + v.val)) ∧
    (∀ k, x.cmd = some k → k.cmd = 0 → 10 * i < (x.ihold : Int) ∨ x.offAt + 1000000 ≤ u.now → Does (.valveOffComplete g v i) s (fun t =>
      t.valve v = { x with cmd := none } ∧ others t)) ∧
    (∀ tc : Int, x.st = .retryWait → x.tripAt + 200000 * x.delay ≤ u.now → tc ≤ 1500 → u.bankFeedOk (v / 4) = true → Does (.valveRetryConditions g v tc) s (fun t =>
      t.valve v = { x with st := .grantWait, retry := true } ∧ others t ∧ asks .retry t)) ∧
    (∀ b : Fin 4, u.bankFeedOk b = false → v.val / 4 = b → x.st ≠ .off → x.st ≠ .latched → Does (.bankFeedLost g b) s (fun t =>
      (t.valve v).st = .off ∧ (t.valve v).fault = 0x20 ∧ (t.valve v).low = false))

/-- The phases of an actuation (07 R192; 07 R193; 07 R195; 07 R196; 07 R203; 07 R205; 07 R207). The boost ends at its current or its time, the
valve goes to PEAK and a waiting member of its bank boosts in the same tick; TPEAK leads to HOLD and ends the inrush; THOLD turns the
valve off; the confirmation window of a retry adds a transient; a chop cycle turns the low side on below the level, and the level turns it
off; a cycle record is taken in PEAK and a kink gives the closing time; the rail becomes available at 90 %, stops at a fault, and a low
rail ends the boosts. -/
def Obligations.ValvePhases : Prop :=
  ∀ (s : State) (g : Lapse) (v : Fin 16) (i : Int) (n : Nat),
    let u := s.pass g
    let x := u.valve v
    let others := fun (t : State) => ∀ k : Fin 16, k ≠ v → t.valve k = u.valve k
    (x.st = .boost → (x.iboost : Int) ≤ i ∨ x.phaseAt + x.tboost ≤ u.now → Does (.boostEnd g v i) s (fun t =>
      (t.valve v).st = .peak ∧ (t.valve v).phaseAt = u.now ∧ (t.valve v).level = x.ipeak ∧ (t.valve v).low = decide (i ≤ (x.ipeak : Int)) ∧
      ∀ w, u.boostWaiter (v / 4) = some w → (t.valve w).st = .boost ∧ (t.valve w).low = true ∧ (t.valve w).gateAt = u.now)) ∧
    (x.st = .peak → x.phaseAt + x.tpeak ≤ u.now → Does (.tpeakEnd g v i) s (fun t =>
      (t.valve v).st = .hold ∧ (t.valve v).phaseAt = u.now ∧ (t.valve v).level = x.ihold ∧ others t ∧ (∃ e, IsoRel.inrEnd (96 + v) e u.now ∈ t.iso.rels) ∧
      (x.cfgBit Pf.valveCfg_KEN = true → x.detected = false → (t.valve v).noclose = true ∧ (t.valve v).fault = 0x10))) ∧
    (x.st = .hold → x.thold ≠ 0 → x.phaseAt + x.thold ≤ u.now → x.retry = false → Does (.tholdExpiry g v) s (fun t =>
      (t.valve v).st = .off ∧ (t.valve v).low = false ∧ others t)) ∧
    (x.st = .hold → x.retry = true → x.phaseAt + 2000000 ≤ u.now → Does (.valveConfirmationEnd g v) s (fun t =>
      (t.valve v).st = .hold ∧ (t.valve v).retry = false ∧ (t.valve v).trans = satInc 255 x.trans ∧ others t)) ∧
    (x.st = .peak ∨ x.st = .hold → u.now % u.chopTk (v / 4) = (v % 4) * u.chopTk (v / 4) / 4 → i < (x.level : Int) → Does (.chopCycleStart g v i) s (fun t =>
      t = u.setValve v { x with low := true, decay := .none, onSince := some (x.onSince.getD u.now) })) ∧
    (x.st = .peak ∨ x.st = .hold → x.low = true → (x.level : Int) ≤ i → Does (.chopLevelReached g v i) s (fun t =>
      t = u.setValve v { x with low := false, onSince := none })) ∧
    (∀ r : CycleRec, x.st = .peak → x.cfgBit Pf.valveCfg_KEN = true → x.detected = false → u.pd 9 = true → r.behind ≤ 16 → r.inPeak = true → (x.us ≠ [] ∨ r.chop = true) →
      (((x.us ++ [r.umv]).reverse)[Pf.valveKink_KW.of x.kink]? = none → x.us.length ≤ 15 → Does (.cycleRecord g v r) s (fun t =>
        t.valve v = { x with us := x.us ++ [r.umv] } ∧ others t)) ∧
      (∀ p : Int, ((x.us ++ [r.umv]).reverse)[Pf.valveKink_KW.of x.kink]? = some p → r.umv - p ≤ -(50 * Pf.valveKink_KTH.of x.kink : Int) →
        Does (.cycleRecord g v r) s (fun t => (t.valve v).detected = true ∧ (t.valve v).tclose = (r.start - x.gateAt) % 2 ^ 32 ∧ others t))) ∧
    (u.pb Pf.bankRail_EN 0 = true → u.pd 9 = true → u.vlv.fault = false → 90 * u.pf Pf.bankRail_BOOSTV 0 ≤ n → Does (.railAvailable g n) s (fun t =>
      t = { u with vlv := { u.vlv with vrail := n, reached := true } })) ∧
    (u.pb Pf.bankRail_EN 0 = true → u.pd 9 = true → u.vlv.fault = false → 6800 < n ∨ (u.vlv.reached = false ∧ u.vlv.railAt + 5000000 ≤ u.now) →
      Does (.railFault g n) s (fun t => t.vlv = { u.vlv with vrail := n, fault := true } ∧ u.railOk = u.vlv.reached ∧ t.railOk = false)) ∧
    Does (.railLow g n) s (fun t => t.vlv.vrail = n ∧ (x.st = .boost → n < u.bankFeed (v / 4) + 300 →
      (t.valve v).st = .peak ∧ (t.valve v).raillow = true ∧ (t.valve v).phaseAt = u.now))

/-- Trips of a valve (04 R105; 07 R195; 07 R196; 07 R199; 07 R200; 07 R210; 07 R211). A trip of a valve that drives current turns its low side
off and takes it to RETRY_WAIT with its code, its stamp and its DELAY; with NORETRY, or in the window of a retry, it latches and counts as
lasting; after the window the retry has held, a transient more, and the trip is a new first one. Of two trips in one tick the lower code
stays. The codes are 1 for the low-side trip, 3 for the clamp, 2 for an open coil, and 4 for the bank, whose trip reaches every member
that drives current. A valve that drives none keeps its state. -/
def Obligations.ValveTrips : Prop :=
  ∀ (s : State) (g : Lapse) (v : Fin 16) (ma : Int),
    let u := s.pass g
    let x := u.valve v
    let drives := x.st = .boost ∨ x.st = .peak ∨ x.st = .hold
    let noRetry := x.cfgBit Pf.valveCfg_NORETRY
    let late := x.st = .hold ∧ x.retry = true ∧ x.phaseAt + 2000000 ≤ u.now
    let trips := fun (code : Nat) (t : State) =>
      (drives → noRetry = false → x.retry = false ∨ late →
        (t.valve v).st = .retryWait ∧ (t.valve v).low = false ∧ (t.valve v).fault = code ∧ (t.valve v).tripAt = u.now ∧
        (t.valve v).delay = u.pf Pf.valveCfg_DELAY v ∧ (t.valve v).lasting = x.lasting ∧ (t.valve v).retry = false ∧
        (t.valve v).trans = if late then satInc 255 x.trans else x.trans) ∧
      (drives → noRetry = true ∨ (x.retry = true ∧ ¬ late) →
        (t.valve v).st = .latched ∧ (t.valve v).low = false ∧ (t.valve v).fault = code ∧ (t.valve v).lasting = satInc 255 x.lasting ∧ (t.valve v).retry = false) ∧
      (¬ drives → (t.valve v).st = .boost ∨ (t.valve v).st = x.st)
    let again := fun (code : Nat) (t : State) =>
      (x.st = .retryWait ∨ x.st = .latched) → x.tripAt = u.now → (t.valve v).st = x.st ∧ (code < x.tripCode → (t.valve v).fault = code) ∧
        (x.tripCode ≤ code → (t.valve v).fault = x.fault)
    Does (.valveTrip g v (.fast ma)) s (fun t => trips 1 t ∧ again 1 t) ∧
    Does (.valveTrip g v (.clamp ma)) s (fun t => trips 3 t ∧ again 3 t) ∧
    (∀ k : Fin 16, k.val / 4 = v.val / 4 → Does (.valveTrip g k (.bank ma)) s (trips 4)) ∧
    (∀ k, x.onSince = some k → k + 200000 ≤ u.now → ma < 100 → Does (.openCoil g v ma) s (fun t => trips 2 t ∧ again 2 t))

/-- Chain frames, the matrix and the thermistors (08 R217; 08 R218; 08 R219; 08 R220; 08 R221; 08 R223; 08 R225; 08 R226; 08 R228; 08 R229; 08
R230; 08 R235). A LIGHT_FRAME that passes R221 writes the staging buffer of its target, and with COMMIT the committed one; a commit, or
the grid of the periodic mode, starts a frame whose slots are scaled by the factor and followed by the check slot, each bit of the frame
is high for its time of 250 ticks, and the end of its length frees the chain with the result of its return check. After the hold window
one frame of zeros goes out. A matrix that holds its grant starts to scan the committed frame at a frame boundary; its rows follow each
other, a column above its limit goes off for the rest of the frame, a row trip stops it for 100 ms, one in the 10 ms after the restart
latches it, and 10 ms without a trip confirm the restart. A conversion enters the codes of an input that has a type. -/
def Obligations.Lighting : Prop :=
  ∀ (s : State) (g : Lapse) (c : Fin 8),
    let u := s.pass g
    let x := u.chain c
    let m := u.light.mx
    (∀ q f l, let p := leBytes 1 f.target ++ leBytes 1 f.flags ++ leBytes 2 f.first ++ leBytes 2 f.count ++ leBytes 2 f.fid ++ f.data
      let stg := l.foldl (fun b p => bufPut b p.1 p.2) x.staging
      Takes u q 0x22 0 p → u.lightCheck (u.direct q 0x22 0 p) f = .ok l → f.target = c →
        (f.flags.testBit 1 = false → Does (.lightFrame g q f) s (fun t => t.chain c = { x with staging := stg } ∧ ∀ k : Fin 8, k ≠ c → t.chain k = u.chain k)) ∧
        (f.flags.testBit 1 = true → Does (.lightFrame g q f) s (fun t =>
          t.chain c = { x with staging := stg, comm := stg, commFid := f.fid, fresh := true, skipped := if x.fresh then satInc 0xFFFF x.skipped else x.skipped }))) ∧
    (∀ q f l, let p := leBytes 1 f.target ++ leBytes 1 f.flags ++ leBytes 2 f.first ++ leBytes 2 f.count ++ leBytes 2 f.fid ++ f.data
      let stg := l.foldl (fun b p => bufPut b p.1 p.2) m.staging
      Takes u q 0x22 0 p → u.lightCheck (u.direct q 0x22 0 p) f = .ok l → f.target = 8 → Does (.lightFrame g q f) s (fun t =>
        t.light.mx.staging = stg ∧ t.light.lc = u.light.lc ∧ (f.flags.testBit 1 = true → t.light.mx.comm = stg ∧ t.light.mx.commFid = f.fid) ∧
        (f.flags.testBit 1 = false → t.light.mx = { m with staging := stg }))) ∧
    (let v := u.lcCfgNow c
     let sends := fun (slot : Nat → Nat) => (List.range (Pf.lcCfg_NSLOT.of v)).map slot ++ (if Pf.lcCfg_CHK.of v = 1 then [checkSlot (decide (Pf.lcCfg_SB.of v = 1))] else [])
     Pf.lcCfg_EN.of v = 1 → u.pd 8 = true → u.fab.closed.testBit 8 = false → x.sending = none →
      (x.dark = 0 → (Pf.lcCfg_MODE.of v = 1 ∧ x.fresh = true) ∨ (Pf.lcCfg_MODE.of v ≠ 1 ∧ u.now % (Pf.lcCfg_FPER.of v * 200000) = 0) →
        Does (.chainFrameStart g c) s (fun t => t = u.setChain c { x with
          sending := some u.now, factor := u.chainFactor c, sentFid := x.commFid, fresh := false, len := chainLen v, wide := decide (Pf.lcCfg_SB.of v = 1),
          chk := decide (Pf.lcCfg_CHK.of v = 1), out := sends (fun i => deratedSlot (u.chainFactor c) (bufGet x.comm i)) })) ∧
      (x.dark = 1 → Does (.chainFrameStart g c) s (fun t => t = u.setChain c { x with
          sending := some u.now, factor := u.chainFactor c, len := chainLen v, wide := decide (Pf.lcCfg_SB.of v = 1),
          chk := decide (Pf.lcCfg_CHK.of v = 1), out := sends (fun _ => 0), dark := if u.load.held then 2 else 0 }))) ∧
    (∀ k i j, u.pd 8 = true → x.sending = some k → i < x.wire.length → j < 250 →
      u.lcDo c (k + 250 * i + j) = some (decide (j < if x.wire.getD i false then 150 else 60))) ∧
    (∀ k pulses bad, x.sending = some k → k + x.len ≤ u.now → Does (.chainFrameEnd g c pulses bad) s (fun t =>
      (t.chain c).sending = none ∧ (t.chain c).comm = x.comm ∧ (∀ k : Fin 8, k ≠ c → t.chain k = u.chain k) ∧
      (u.load.held = false → x.chk = true → (t.chain c).res = (x.result (x.decode k pulses)).1) ∧ (u.load.held = true → t = u.setChain c { x with sending := none }))) ∧
    (u.pd 8 = true → u.now % (8 * u.trow) = 0 → m.granted = true → m.st = .grantWait → u.mxWaits = false → u.mxNeed ≤ m.ps →
      Does (.matrixFrameBoundary g) s (fun t => t.light.mx.st = .scan ∧ t.light.mx.frameAt = u.now ∧ t.light.mx.shown = m.comm ∧
        t.light.mx.shownFid = m.commFid ∧ t.light.mx.ps = u.mxNeed ∧ t.light.mx.granted = false ∧ t.light.lc = u.light.lc)) ∧
    (m.st = .scan ∨ m.st = .retryOn → u.now = m.frameAt + c * u.trow → Does (.rowSlotStart g c) s (fun t => t = u.setMx { m with row := some c })) ∧
    (∀ k : Fin 24, m.row = some c.val → 0 < u.columnOn c k → m.frameAt + c * u.trow + u.tblank + k * u.stag + u.columnOn c k ≤ u.now →
      Does (.columnIntervalEnd g c k true false) s (fun t =>
        t = u.setMx { m with colOff := m.colOff ||| (1 <<< k.val), shortNow := m.shortNow ||| (1 <<< k.val) }) ∧
      (2000 ≤ u.columnOn c k → Does (.columnIntervalEnd g c k false true) s (fun t => t = u.setMx { m with openNow := m.openNow ||| (1 <<< k.val) }))) ∧
    (m.st = .scan → Does (.rowTrip g c) s (fun t => t.light.mx.st = .retryWait ∧ t.light.mx.row = none ∧ t.light.mx.tripAt = u.now ∧ t.light.mx.tripRow = c ∧
      t.light.mx.lasting = m.lasting ∧ t.light.mx.trans = m.trans)) ∧
    (m.st = .retryOn → m.restartAt + 2000000 ≤ u.now → Does (.rowTrip g c) s (fun t => t.light.mx.st = .retryWait ∧ t.light.mx.row = none ∧ t.light.mx.tripAt = u.now ∧
      t.light.mx.tripRow = c ∧ t.light.mx.lasting = m.lasting ∧ t.light.mx.trans = satInc 15 m.trans)) ∧
    (m.st = .retryOn → u.now < m.restartAt + 2000000 → Does (.rowTrip g c) s (fun t => t.light.mx.st = .latched ∧ t.light.mx.lasting = satInc 15 m.lasting)) ∧
    (m.st = .retryWait → m.asked = false → m.tripAt + 20000000 ≤ u.now → Does (.matrixRestart g) s (fun t =>
      t.light.mx = { m with asked := true, vrow := Config.mxVrow u.now } ∧ ∃ r ∈ t.iso.pend, r.num = 112 ∧ r.kind = .retry ∧ r.stamp = u.now)) ∧
    (m.st = .retryOn → m.restartAt + 2000000 ≤ u.now → Does (.matrixConfirmEnd g) s (fun t => t.light.mx = { m with st := .scan, trans := satInc 15 m.trans })) ∧
    (∀ codes, u.pd 15 = true → u.now % 2000000 = 0 → Does (.ntcConversion g codes) s (fun t =>
      (u.pf Pf.ntcCfg_TYPE c = 0 → t.ntcRec c = {}) ∧
      (u.pf Pf.ntcCfg_TYPE c ≠ 0 → 20 ≤ codes.getD c 0 → codes.getD c 0 ≤ 4050 → (t.ntcRec c).openN = 0 ∧ (t.ntcRec c).shortN = 0 ∧
        (t.ntcRec c).codes = ((u.ntcRec c).codes ++ [codes.getD c 0]).drop ((u.ntcRec c).codes.length + 1 - 8))))

/-- Writes that start or stop a unit (03 R453; 05 R134; 05 R135; 05 R141; 05 R149; 08 R228; 10 R282; 11 R295; 14 R386; 16 R419). A write of EN
that the checks of R453 accept enables or disables a composite, starts a generator, asks for the grant of the matrix, enables or ends the
sleep agreement, starts an application core at its entry, starts a cable test or confirms the image on trial, and is answered OK after it. -/
def Obligations.EnablingWrites : Prop :=
  ∀ (s : State) (g : Lapse) (q : Rq) (cfg : Nat),
    let u := s.pass g
    let goes := fun (c : Instr) (id v : Nat) (P : State → Prop) =>
      Accepts u q (parWrite id 0 v) → Does c s (fun t => WroteOk u q (parWrite id 0 v) t ∧ P t)
    (∀ k : Fin 32, Pf.compCfg_EN.of cfg = 1 → (u.compOf k).en = false → goes (.compositeEnable g q k cfg) (Pid.compCfg k) cfg (fun t =>
      t.compOf k = ⟨true, decide (Pf.compCfg_KIND.of cfg = 1), u.compMembers k, false, true⟩)) ∧
    (∀ k : Fin 32, Pf.compCfg_EN.of cfg = 0 → (u.compOf k).en = true → goes (.compositeDisable g q k cfg) (Pid.compCfg k) cfg (fun t => t.compOf k = {})) ∧
    (∀ k : Fin 16, Pf.genCfg_EN.of cfg = 1 → (u.genOf k).en = false → goes (.genEnable g q k cfg) (Pid.genCfg k) cfg (fun t =>
      (t.genOf k).en = true ∧ (t.genOf k).start = u.now ∧ (t.genOf k).per = u.pf Pf.genPeriod_P k)) ∧
    (Pf.mxCfg_EN.of cfg = 1 → u.pb Pf.mxCfg_EN = false → goes (.mxEnable g q cfg) Pid.mxCfg cfg (fun t =>
      t.light.mx = { u.light.mx with st := .grantWait, granted := false, vrow := Config.mxVrow u.now } ∧ ∃ r ∈ t.iso.pend, r.num = 112 ∧ r.kind = .turnOn ∧ r.stamp = u.now)) ∧
    (∀ k : Fin 2, u.pd 5 = true → goes (.cableTest g q k) (Pid.ethCable k) 1 (fun t => t.ethPort k = { u.ethPort k with cable := 4, dist := 0 })) ∧
    (Pf.nsCfg_EN.of cfg = 1 → u.agr.st = .disabled → goes (.netsleepEnable g q cfg) Pid.nsCfg cfg (fun t => t.agr.st = .normal)) ∧
    (Pf.nsCfg_EN.of cfg = 0 → u.agr.st ≠ .committing → goes (.netsleepDisable g q cfg) Pid.nsCfg cfg (fun t => t.agr.st = .disabled)) ∧
    (∀ k : Fin 4, Pf.appCfg_RUN.of cfg = 1 → u.pb Pf.appCfg_RUN k = false → u.pd 2 = true → goes (.appletRun g q k cfg) (Pid.appCfg k) cfg (fun t =>
      (t.core (1 + k)).st = .running ∧ (t.core (1 + k)).pc = 4 * Pf.appCfg_ENTRY.of cfg)) ∧
    (cfg.testBit 0 = true → goes (.fwConfirm g q cfg) Pid.fwConfirm cfg (fun t => t.fw.trial = 0))

/-- POWER_REQ and the steps of an entry (09 R240; 09 R243; 09 R244; 09 R245; 09 R247; 09 R252; 01 R24). An accepted POWER_REQ RUN ends HOLD
with the domains of RUN on; HOLD, with nothing that blocks it, goes to the switching of domains or reaches HOLD; PARK and DORMANT begin
their entry at step 1. When the forced OFFs have run to their end, c is reached, the tick before the command (the choice of entry 98,
after 02 R46): the entry holds its tick and its AON count, the debounced inputs are stored, Survey runs and every session is closed; once
the completion has left, step 5 switches the domains off. LGD_CTRL.CLR clears the counts and the history. -/
def Obligations.PowerStates : Prop :=
  ∀ (s : State) (g : Lapse) (q : Rq) (opt : Nat),
    let u := s.pass g
    let takes := fun (target : Nat) => Takes u q 0x68 0 (powerReqBytes target opt) ∧ HasHandle u q ∧
      u.powerCheck (u.direct q 0x68 0 (powerReqBytes target opt)) target opt = none
    let begun := fun (target : Nat) (t : State) => ∃ h, t.pwr.entry = some ⟨target, some h, decide (opt = 1), 1, u.now, 0, false, false⟩ ∧ t.pwr.st = u.pwr.st ∧ t.pwr.pdOn = u.pwr.pdOn
    (takes 0 → u.pwr.st = .hold → Does (.powerReqRun g q opt) s (fun t =>
      t.pwr.st = .run ∧ t.pwr.entry = none ∧ ∀ p : Fin 16, u.runMask.testBit p = true → t.pd p = true)) ∧
    (takes 1 → u.pwr.st = .run → u.blocksEntry 1 = false → Does (.powerReqHold g q opt) s (fun t =>
      (∃ h, t.pwr.entry = some ⟨1, some h, decide (opt = 1), 5, u.now, 0, false, false⟩ ∧ t.fab.closed ≠ 0 ∧ t.pwr.st = .run) ∨
      (t.pwr.entry = none ∧ t.pwr.st = .hold))) ∧
    (takes 2 → u.pwr.st = .run → Does (.powerReqPark g q opt) s (begun 2)) ∧
    (takes 3 → u.pwr.st = .run → Does (.powerReqDormant g q opt) s (begun 3)) ∧
    (∀ e, u.pwr.entry = some e → e.step = 1 → u.offsDone e = true → u.cancelHeld e = false →
      (2 ≤ e.target → e.c + 1 < u.now → Does (.entryOffsComplete g) s (fun t =>
        t.pwr.entry = some { e with step := 4, c := u.now - 1, cAon := u.clk.aon } ∧ t.svy.running = true ∧ t.svy.dormant = decide (e.target = 3) ∧ t.boot.digest = true ∧
        t.svy.stored = (if u.svy.running then u.svy.stored else u.debounced) ∧ ∀ k : Fin 4, (t.ses k).isOpen = false)) ∧
      (e.target = 1 → Does (.entryOffsComplete g) s (fun t => (t.pwr.entry = some { e with step := 5 } ∧ t.fab.closed ≠ 0) ∨ (t.pwr.entry = none ∧ t.pwr.st = .hold)))) ∧
    (∀ e, u.pwr.entry = some e → e.step = 4 → e.net = false → 2 ≤ e.target → u.fab.closed = 0 → u.fw.armed = false → Does (.entryCompletionSent g) s (fun t =>
      (t.pwr.entry = some { e with step := 5 } ∧ t.fab.closed ≠ 0) ∨
      (t.pwr.entry = none ∧ t.pwr.st = (if e.target = 3 then .dormant else .park) ∧ ∀ p : Fin 16, p ≠ 0 → u.pd p = false))) ∧
    (∀ ini, ini = .super ∨ ini = .bench ∨ ini = .partner → u.pd 3 = true → u.portClosed 0x40050000 = false → Does (.lgdCtrlClr g ini) s (fun t =>
      t = { u with lgd := { u.lgd with wakes := 0, falses := 0, hist := Vector.replicate 8 {}, freeze := false } }))

/-- The wake sources (09 R246; 09 R249; 09 R250; 09 R251; 09 R252; 11 R303; 11 R304; 13 R347). In PARK each armed source starts the device and
enters the Legend with its code, its detail and its AON tick, counted, unless FREEZE holds the Legend; a source that is not armed changes
nothing but the counts of its own detector. In HOLD an armed source whose block is off returns the device to RUN. After c of an entry,
while PD1 and PD3 are still on, an armed wake returns the device to RUN and ends the entry. -/
def Obligations.Wakes : Prop :=
  ∀ (s : State) (g : Lapse),
    let u := s.pass g
    let parked := u.pwr.st = .park ∧ u.pwr.entry = none ∧ u.lgd.freeze = false
    let wakes := fun (code bit detail : Nat) (t : State) =>
      (parked → (u.armMask 2).testBit bit = true → t.pwr.st = .start ∧ t.boot.phase = 0 ∧ t.pwr.woke = some (u.wakeWord code 2 false u.clk.aon, detail) ∧
        t.lgd.last = ⟨u.wakeWord code 2 false u.clk.aon, detail, u.clk.aon⟩ ∧ t.lgd.wakes = satInc 0xFFFF u.lgd.wakes ∧ t.pwr.pdOn = u.pwr.pdOn) ∧
      (parked → (u.armMask 2).testBit bit = false → ∀ p, p ≠ .agr → Part.same p u t) ∧
      (u.pwr.st = .hold → u.pwr.entry = none → (u.armMask 1).testBit bit = true → (∀ p, srcDomain code = some p → u.pd p = false) →
        t.pwr.st = .run ∧ t.pwr.entry = none ∧ ∀ p : Fin 16, u.runMask.testBit p = true → t.pd p = true)
    (∀ n : Fin 8, u.selective n = false → Does (.canWakePattern g n) s (wakes 2 n n)) ∧
    (∀ (n : Fin 4) f, u.wufDecodes n = true → u.wufMatch n f = true → Does (.selectiveWake g n f) s (wakes 3 (8 + n) (n + f.id <<< 3))) ∧
    (∀ n : Fin 4, 32 ≤ (u.wufBad n).agr.wufErr.toList.getD n 0 → Does (.selectiveWakeErrorLimit g n) s (wakes 3 (8 + n) (n + 0x1FFFFFFF <<< 3))) ∧
    (∀ n : Fin 8, Does (.linWake g n) s (wakes 4 (12 + n) n)) ∧
    (∀ k : Fin 2, u.pb Pf.ethCfg_EN k = true → Does (.tc10Wake g k) s (wakes 5 (20 + k) k)) ∧
    (∀ k : Fin 2, u.pb Pf.speCfg_EN k = true → Does (.speWake g k) s (wakes 6 (22 + k) k)) ∧
    Does (.twinPartnerWake g) s (wakes 7 24 (1 + flag u.il.line <<< 1)) ∧ Does (.benchWake g) s (wakes 8 25 0) ∧
    (u.pf Pf.pwrAlarm_AT ≠ 0 → u.pf Pf.pwrAlarm_AT = u.clk.aon → Does (.alarm g) s (wakes 9 26 0)) ∧
    (∀ w e, u.pwr.entry = some e → 2 ≤ e.target → 4 ≤ e.step → (u.armMask e.target).testBit w.bit = true → u.pd 1 = true → u.pd 3 = true →
      Does (.wakeDuringEntry g w) s (fun t => t.pwr.st = .run ∧ t.pwr.entry = none ∧ ∀ p : Fin 16, u.runMask.testBit p = true → t.pd p = true)) ∧
    (∀ w e, u.pwr.entry = some e → 2 ≤ e.target → 4 ≤ e.step → (u.armMask e.target).testBit w.bit = true → u.pd 3 = false →
      Does (.wakeDuringEntry g w) s (fun t => t.pwr.st = .start ∧ t.boot.phase = 0 ∧ t.pwr.entry = none))

/-- Sampling the switch inputs (09 R254; 09 R255; 09 R256; 09 R257). A RUN sample that differs from STATE is counted, the sample that
completes DEB changes STATE and is counted as a change, and a sample equal to STATE ends the count; an input that is not enabled keeps its
record. A Survey cycle stamps itself; without members it changes nothing else but the tick of the next, and a member whose sample
completes DEB changes its stored state and is marked. -/
def Obligations.Inputs : Prop :=
  ∀ (s : State) (g : Lapse) (levels : List Nat) (i : Fin 48),
    let u := s.pass g
    let x := u.inputOf i
    let v := levels.getD i 0
    (u.pd 15 = true → u.pd 3 = true → u.svy.running = false → u.pwr.st = .run ∨ u.pwr.st = .hold → u.now % (200000 * u.pf Pf.svyRunPeriod_RPER) = 24000 → Does (.runSampleCycle g levels) s (fun t =>
      (u.pb Pf.swCfg_EN i = false → t.inputOf i = x) ∧
      (∀ b, u.pb Pf.swCfg_EN i = true → u.mirrorsInput i = false → u.classify i v = some b →
        (b = x.state → t.inputOf i = { x with level := min 255 v, raw := b, cand := 0 }) ∧
        (b ≠ x.state → x.cand + 1 < u.pf Pf.swCfg_DEB i → t.inputOf i = { x with level := min 255 v, raw := b, cand := x.cand + 1 }) ∧
        (b ≠ x.state → u.pf Pf.swCfg_DEB i ≤ x.cand + 1 → t.inputOf i = { x with level := min 255 v, raw := b, cand := 0, state := b, changes := satInc 0xFFFF x.changes })))) ∧
    (u.svy.running = true → u.pwr.st ≠ .off → u.svy.next ≤ u.clk.aon →
      ((∀ j : Fin 48, u.svyMember j = false) → Does (.surveyCycle g levels) s (fun t => t.svy.lastCyc = u.svy.next ∧
        t.svy.next = u.svy.next + (if u.svy.cand.toList.any (fun k => 0 < k) then u.svy.conf else u.svy.per) ∧
        t.svy.stored = u.svy.stored ∧ t.svy.cand = u.svy.cand ∧ ∀ p, p ≠ .svy → Part.same p u t)) ∧
      (∀ b, (∀ j : Fin 48, u.svyMember j = true ↔ j = i) → u.classify i v = some b → b ≠ u.svy.stored.testBit i → u.pf Pf.swCfg_WAKE i = 0 →
        u.pf Pf.swCfg_DEB i ≤ u.svy.cand.toList.getD i 0 + 1 → Does (.surveyCycle g levels) s (fun t =>
          t.svy.stored = putBits u.svy.stored i 1 (flag b) ∧ t.svy.changed = u.svy.changed ||| (1 <<< i.val) ∧
          t.svy.log = u.svy.log.filter (fun p => p.1 ≠ i.val) ++ [(i.val, b, u.svy.next + i.val / 8)] ∧ (∀ p, p ≠ .svy → Part.same p u t))))

/-- Cold starts, warm starts and the phases of a start (09 R242; 09 R252; 17 R425; 17 R426; 17 R427; 17 R429; 17 R430). The loss of both feeds
takes the device to OFF, and a feed above its threshold to a start with PD0 alone; a cold start records its cause and loses every working
copy, and a warm start keeps its own; each phase of R425 is followed by the next, with PD1 and PD3 on from phase 2 and the PLL decided in
it, and a start that follows no reset of the logic die is READY after phase 7, any other after the adoption of phase 8. -/
def Obligations.Starts : Prop :=
  ∀ (s : State) (g : Lapse) (o : BootObs),
    let u := s.pass g
    let goesTo := fun (n : Nat) (P : State → Prop) => Does (.bootPhaseAdvance g o) s (fun t => t.boot.phase = n ∧ P t)
    Does (.feedBelowPd0 g) s (fun t => t.pwr.st = .off ∧ t.pwr.pdOn = 0 ∧ t.par.work = [] ∧ t.par.stored = u.par.stored ∧ t.atlas.handles = []) ∧
    (∀ a b, u.pwr.st = .off → a = true ∨ b = true → Does (.feedStart g a b) s (fun t =>
      t.pwr.st = .start ∧ t.pwr.pdOn = 1 ∧ t.pwr.startFeeds = flag a + 2 * flag b ∧ t.boot.phase = 0)) ∧
    (u.pwr.st = .start → u.boot.phase = 0 → u.pwr.woke = none → Does (.coldStart g) s (fun t =>
      t.boot.phase = 1 ∧ t.boot.cause = 1 ∧ t.boot.cold = true ∧ t.boot.resets = 0 ∧ t.lgd.last = ⟨0x400A, u.pwr.startFeeds, 0⟩ ∧ t.clk.tb = 0 ∧ t.clk.aon = 0 ∧
      t.par.work = [] ∧ t.par.stored = u.par.stored)) ∧
    (∀ w d ok, u.pwr.woke = some (w, d) → u.pwr.st = .start → u.boot.phase = 0 → Does (.warmStart g ok) s (fun t =>
      t.boot.phase = 2 ∧ t.boot.cause % 256 = 2 ∧ t.boot.cold = false ∧ t.pd 1 = true ∧ t.pd 3 = true ∧ t.par.stored = u.par.stored ∧
      t.par.work = u.par.work.filter (fun p => keyPers p.1 ≠ 0) ∧ ∀ n : Fin 64, t.chan n = u.parked n)) ∧
    (u.pwr.st = .start → u.atlas.inbox = [] →
      (u.boot.phase = 1 → goesTo 2 (fun t => t.pd 1 = true ∧ t.pd 3 = true)) ∧
      (u.boot.phase = 2 → u.clk.run = false → u.boot.cold = true → goesTo 3 (fun t => t.clk.run = true ∧ t.clk.lock = o.lock ∧ (o.lock = false → t.clk.fallback = true))) ∧
      (u.boot.phase = 3 → o.failed = [] → goesTo 4 (fun t => t.boot.selftest = 2 ^ 31 ∧ ∀ k : Fin 74, t.mem.test.toList.getD k {} = ⟨1, 0, 0⟩)) ∧
      (u.boot.phase = 4 → u.boot.resume = false → goesTo 5 (fun t => t.boot.hold = u.boot.holdRec)) ∧
      (u.boot.phase = 4 → u.boot.resume = true → goesTo 7 (fun t => t.boot.hold = u.boot.holdRec)) ∧
      (u.boot.phase = 5 → o.digestOk = true → u.image.st ≠ .empty → u.image.st ≠ .invalid → u.fw.rollback ≤ u.image.rollback → goesTo 6 (fun t => t.fw.run = u.fw.run)) ∧
      (u.boot.phase = 6 → o.loadOk = true → goesTo 7 (fun t => t.par = u.par)) ∧
      (u.boot.phase = 7 → u.boot.restart = false → goesTo 9 (fun t => t.atlas.ready = true ∧ t.atlas.readyAt = u.now ∧ t.pwr.st = .run ∧ t.pwr.woke = none)) ∧
      (u.boot.phase = 7 → u.boot.restart = true → goesTo 8 (fun t => t.pwr.st = .run)) ∧
      (u.boot.phase = 8 → goesTo 9 (fun t => t.atlas.ready = true ∧ t.boot.adopted = true ∧ t.boot.window = none ∧ t.load.held = false)))

/-- Resets of the logic die, the hold window and the sequencers (17 R429; 17 R430; 17 R431; 17 R432; 17 R433; 17 R434; 17 R438; 16 R416; 14
R380). A reset by the watchdog, by the supply or by an activation records its cause and enters phase 2 with PD1 and PD3 on, keeps the
stored values and the latches of the power dies, holds the sequencers and ends READY. The supervisor serves its watchdog; a HOLD of 656 to
32,768 is written and any other refused; the end of the hold window gives the channels their ORPHAN state; a storm ends after its quiet
time; a trapped sequencer is started again at its memory until its third trap. -/
def Obligations.Resets : Prop :=
  ∀ (s : State) (g : Lapse),
    let u := s.pass g
    let calm := u.pd 3 = true ∧ u.pwr.entry = none ∧ (u.boot.faults.filter (fun k => decide (u.aonSince k < 327680))).length < 3
    let resets := fun (cause : Nat) (t : State) => t.boot.phase = 2 ∧ t.boot.cause = u.causeWord cause false ∧ t.boot.resets = satInc 0xFFFF u.boot.resets ∧
      t.boot.restart = true ∧ t.pwr.st = .start ∧ t.pd 1 = true ∧ t.pd 3 = true ∧ t.atlas.ready = false ∧ t.load.held = true ∧ t.par.stored = u.par.stored ∧
      t.mem.cells = u.mem.cells ∧ ∀ n : Fin 64, t.chan n = (u.chan n).reset
    (calm → u.pd 1 = true → 7 ≤ u.boot.phase → u.boot.phase ≤ 9 → u.boot.served + 20000000 ≤ u.now → Does (.watchdogReset g) s (resets 3)) ∧
    (calm → Does (.logicSupplyReset g) s (resets 6)) ∧
    (calm → u.fw.resetAt ≠ none → Does (.activationReset g) s (resets 5)) ∧
    (u.pd 1 = true → Does (.supervisorWatchdogService g) s (fun t => t = { u with boot := { u.boot with served := u.now } })) ∧
    (∀ v, u.pd 3 = true → u.portClosed 0x40020000 = false → 656 ≤ v % 65536 → v % 65536 ≤ 32768 →
      Does (.bootCtrlHoldWrite g .super v) s (fun t => t = { u with boot := { u.boot with hold := v % 65536, holdPd0 := v % 65536 } })) ∧
    (∀ v, u.pd 3 = true → u.portClosed 0x40020000 = false → v % 65536 < 656 ∨ 32768 < v % 65536 → Does (.bootCtrlHoldWrite g .super v) s (fun t => t = u)) ∧
    (∀ h n, u.boot.window = some (h, n) → n ≤ u.aonSince h → u.load.held = true → Does (.holdWindowExpiry g) s (fun t =>
      t.boot.window = none ∧ t.boot.expired = true ∧
      ∀ k : Fin 64, u.dualFed k = false → u.bridgeOdd k = false → u.pf Pf.chCfg_ORPHAN k = 0 → (t.chan k).gate = .off)) ∧
    (u.boot.storm = true → 327680 ≤ u.aonSince (u.boot.faults.getLast?.getD 0) → Does (.stormClear g) s (fun t =>
      t = { u with boot := { u.boot with storm := false, stormStart := false, faults := [] } })) ∧
    (∀ core i, coreOfNo core = some i → isVb i = true ∨ isC i = true → (u.core i).st = .trapped → u.atlas.ready = true → u.boot.seqTraps = [] → u.coreSound i = true →
      Does (.sequencerRestart g core) s (fun t => (t.core i).st = .running ∧ (t.core i).pc = ownBase i ∧ t.boot = u.boot)) ∧
    (∀ core i, coreOfNo core = some i → isVb i = true ∨ isC i = true → (u.core i).st = .trapped → u.atlas.ready = true →
      3 ≤ (u.boot.seqTraps.filter (fun p => decide (p.1 = i) && decide (u.now < p.2 + 2000000000))).length →
      Does (.sequencerRestart g core) s (fun t => (t.core i).st = .halted ∧ i ∈ t.boot.stuck))

/-- CAN controllers and the tunnel (10 R268; 10 R269; 10 R270; 10 R271; 10 R273; 10 R274; 10 R286). A frame that a controller receives lowers
its receive error count and enters the queue that the first matching acceptance element names, where a core is granted that queue and it
has room; an element counts as it stood before a write stamped at the end of the identifier or later; a frame that matches none is
rejected unless NOMATCH is set. A frame sent frees its buffer and lowers the transmit error count; a frame that loses arbitration stays
unless DAR is set. The error counts decide between active, passive and bus-off, a bus-off frees every buffer, and its recovery clears the
counts. A flush tunnels at most 10 records and empties the queue where the uplink is closed, and a tunnelled frame takes a transmit
buffer. -/
def Obligations.CanPorts : Prop :=
  ∀ (s : State) (g : Lapse) (n : Fin 8),
    let u := s.pass g
    let c := u.canPort n
    let others := fun (t : State) => ∀ k : Fin 8, k ≠ n → t.canPort k = u.canPort k
    (∀ f sof idEnd, u.pwr.entry = none → c.onBus = true → f.fmt ≤ u.pf Pf.canCfg_FORMATS n → f.data.length ≤ 2048 →
      let now := { c.goodRx u.now with elemW := [], nfiltW := [] }
      let el := fun (i : Nat) => u.elementFor n i idEnd
      (∀ i q, i < u.nfiltFor n sof → (∀ j, j < i → takesFrame (el j) f = false) → takesFrame (el i) f = true →
        (el i).testBit 3 = true → bitsOf (el i) 4 2 = q → q ≠ 0 → (u.granteeOf 4 (4 * n.val + q)).isSome = true →
        ((c.queues.toList.getD q []).map RxRec.size).foldl (· + ·) 0 + (RxRec.mk sof f.fmt f).size ≤ 8192 → Does (.canFrameReceived g n f ⟨sof, idEnd⟩) s (fun t =>
          t.canPort n = { now with queues := c.queues.setIfInBounds q (c.queues.toList.getD q [] ++ [⟨sof, f.fmt, f⟩]) } ∧ others t)) ∧
      ((∀ j, j < u.nfiltFor n sof → takesFrame (el j) f = false) → u.pb Pf.canCfg_NOMATCH n = false →
        Does (.canFrameReceived g n f ⟨sof, idEnd⟩) s (fun t => t.canPort n = now ∧ others t)) ∧
      (∀ i, (∀ w ∈ c.elemW, w.1 = i → w.2.1 < idEnd) → el i = u.filterAt n i) ∧
      ((∀ w ∈ c.nfiltW, w.1 < sof) → u.nfiltFor n sof = u.pf Pf.canCfg_NFILT n)) ∧
    (∀ i f sof delay, c.offered = some i → i ≠ 32 → c.frameAt i = some f → u.canSends n = true → Does (.canFrameSent g n sof delay) s (fun t =>
      (t.canPort n).sent = c.sent ++ [f] ∧ (t.canPort n).tec = c.tec - 1 ∧ (t.canPort n).tx = c.tx.filter (fun b => b.first ≠ i) ∧
      (t.canPort n).mrd = c.mrd ∧ others t)) ∧
    (∀ i, c.offered = some i → u.canSends n = true →
      (u.pb Pf.canCfg_DAR n = false → Does (.canArbitrationLost g n) s (fun t => t = u)) ∧
      (u.pb Pf.canCfg_DAR n = true → i ≠ 32 → Does (.canArbitrationLost g n) s (fun t =>
        t = u.setCan n { c with tx := c.tx.filter (fun b => b.first ≠ i), txFail := satInc 0xFFF c.txFail }))) ∧
    (∀ e : CanErr, c.onBus = true → u.pb Pf.canCfg_DAR n = false →
      (255 < (c.tec : Int) + e.dtec → Does (.canError g n e) s (fun t => (t.canPort n).st = .busOff ∧ (t.canPort n).tx = [] ∧ (t.canPort n).mrd = none ∧
        (t.canPort n).busOffs = satInc 255 c.busOffs ∧ (t.canPort n).txFail = satAdd 0xFFF c.txFail c.tx.length ∧ others t)) ∧
      ((c.tec : Int) + e.dtec ≤ 255 → Does (.canError g n e) s (fun t => (t.canPort n).tec = ((c.tec : Int) + e.dtec).toNat ∧
        (t.canPort n).recv = min 255 ((c.recv : Int) + e.drec).toNat ∧ (t.canPort n).tx = c.tx ∧
        (t.canPort n).st = (if 127 < (t.canPort n).tec ∨ 127 < (t.canPort n).recv then .passive else .active) ∧ others t))) ∧
    (c.st = .busOff → u.pb Pf.canCfg_BOMANUAL n = false → Does (.busOffRecovered g n) s (fun t => t.canPort n = { c with st := .active, tec := 0, recv := 0 } ∧ others t)) ∧
    (c.st = .integrating → c.tec ≤ 127 → c.recv ≤ 127 → Does (.canIntegration g n) s (fun t => t = u.setCan n { c with st := .active })) ∧
    (let q := c.queues.toList.getD 0 []
     let l := (u.linPort n).tun
     (u.uplinkOpen = true → q ++ l ≠ [] → Does (.tunnelFlush g n) s (fun t =>
       t.net.ntscf = u.net.ntscf ++ [(Config.peerMac (u.pf Pf.atlasUplinkPeer_PEER), ((q ++ l).take 10).map (fun r => ⟨n, r⟩))] ∧ (t.canPort n).queues.toList.getD 0 [] = q.drop 10 ∧
       (t.linPort n).tun = l.drop (10 - q.length) ∧ others t)) ∧
     (u.uplinkOpen = false → c.tunDrop ≤ 0x3FF → Does (.tunnelFlush g n) s (fun t => t.net.ntscf = u.net.ntscf ∧ (t.canPort n).queues.toList.getD 0 [] = [] ∧
       (t.linPort n).tun = [] ∧ (t.canPort n).tunDrop = min 0x3FF (c.tunDrop + q.length)))) ∧
    (∀ f, u.pd 5 = true → f.fmt < 2 → f.fmt ≤ u.pf Pf.canCfg_FORMATS n → f.rtr = false → f.data.length ≤ 64 → c.st ≠ .off →
      (∀ i, c.freeRun 1 = some i → Does (.acfCanReceived g n f) s (fun t => t = u.setCan n { c with tx := c.tx ++ [⟨i, 1, u.now, f⟩] })) ∧
      (c.freeRun 1 = none → Does (.acfCanReceived g n f) s (fun t => (t.canPort n).tunDrop = satInc 0x3FF c.tunDrop ∧ (t.canPort n).tx = c.tx)))

/-- The rings of the application cores (10 R268; 14 R383; 14 R384; 14 R385). The oldest record that a running core is granted leaves its queue
and is written at HEAD of the receive ring with its prefix, HEAD moves past it and the core has its event, after a pad where the space
left at the end is too short, where HEAD will still differ from TAIL; where it would not, DROPS counts. An entry at TAIL of the transmit
ring that the core may send takes a transmit buffer or replaces published LIN data, one that it may not is counted, and TAIL moves past
it. -/
def Obligations.AppletRings : Prop :=
  ∀ (s : State) (g : Lapse) (a : Fin 4),
    let u := s.pass g
    (∀ r, oldestRec (u.ringHeads a) = some r → u.pb Pf.appCfg_RUN a = true → u.pd 2 = true →
      let size := u.pf Pf.appRing_RXSIZE a
      let base := ownBase (1 + a) + u.pf Pf.appRing_RXBASE a
      let head := u.bytesAt base 4
      let tail := u.bytesAt (base + 4) 4
      let e := ringEntry r.src r.queue r.body
      let used := (head + (size - 16) - tail) % (size - 16)
      size ≠ 0 → ringPos size head = true →
        (e.length ≤ size - head → used + e.length < size - 16 → Does (.ringDeliver g a) s (fun t =>
          t = ((((u.takeRec r).loadBytes (base + head) e).memWrite 0 base 4 (if head + e.length = size then 16 else head + e.length)).1).raiseEv (1 + a) 1)) ∧
        (size - head < e.length → used + (size - head) + e.length < size - 16 → Does (.ringDeliver g a) s (fun t =>
          t = (((((u.takeRec r).loadBytes (base + head) (padEntry (size - head))).loadBytes (base + 16) e).memWrite 0 base 4
            (if 16 + e.length = size then 16 else 16 + e.length)).1).raiseEv (1 + a) 1)) ∧
        (size - 16 ≤ used + e.length → Does (.ringDeliver g a) s (fun t =>
          t = ((u.takeRec r).memWrite 0 (base + 8) 4 (satInc 0xFFFFFFFF (u.bytesAt (base + 8) 4))).1))) ∧
    (let size := u.pf Pf.appRing_TXSIZE a
     let base := ownBase (1 + a) + u.pf Pf.appRing_TXBASE a
     let head := u.bytesAt base 4
     let tail := u.bytesAt (base + 4) 4
     let len := u.bytesAt (base + tail + 2) 2
     let n := u.bytesAt (base + tail) 1
     let f := frameOf ((List.range (len - 8)).map (fun i => u.byteAt (base + tail + 8 + i)))
     let next := if tail + len = size then 16 else tail + len
     size ≠ 0 → u.pb Pf.appCfg_RUN a = true → u.pd 2 = true → head ≠ tail → ringPos size head = true → ringPos size tail = true →
     len % 32 = 0 → 32 ≤ len → len ≤ size - tail →
       (∀ w, u.canQueue n f = some w → n < 8 → u.mayCan a n = true → f.fmt ≤ 2 → f.data.length = f.dlc →
         Does (.txRingConsume g a) s (fun t => t = (w.memWrite 0 (base + 4) 4 next).1)) ∧
       (8 ≤ n → n < 16 → u.granted a 5 (n - 8) = true → f.fmt = 3 → f.id ≤ 63 → f.data.length = f.dlc → u.pd 6 = true → u.pb Pf.linFrame_PUB (n - 8) f.id = true →
         Does (.txRingConsume g a) s (fun t => t = ((u.linPublish (n - 8) f.id f.data).memWrite 0 (base + 4) 4 next).1)) ∧
       (n < 8 → u.mayCan a n = false → Does (.txRingConsume g a) s (fun t =>
         t = ((u.modApplet a (fun x => { x with txDrop := satInc 255 x.txDrop })).memWrite 0 (base + 4) 4 next).1)))

/-- LIN ports (10 R278; 10 R279; 10 R280; 10 R281; 10 R289; 11 R299). A slot of a commander starts at its tick with the header of its entry:
the port sends the data last published for a frame it publishes, with its checksum, or waits for the response of one it receives, and the
next slot follows after DELAY. A slot without a response is counted after the longest frame time. A responder answers a header after a
break of 11 bit times whose rate lies within 14 % of BAUD, and counts another rate. A frame received goes to the tunnel or to the ring of
the core that is granted the port, and one with a wrong checksum is counted and marks the response error. Published data replaces what was
there, a schedule restarts at entry 0, and 4 s without activity are bus idle. -/
def Obligations.LinPorts : Prop :=
  ∀ (s : State) (g : Lapse) (n : Fin 8),
    let u := s.pass g
    let l := u.linPort n
    let cnt := u.pf Pf.linCfg_NSCHED n
    let sid := u.pf Pf.linSched_ID n l.pos
    let slot := fun (p : LinPort) =>
      p.slot = l.pos ∧ p.pos = (if l.pos + 1 < cnt then l.pos + 1 else 0) ∧ p.next = u.now + msTk (u.pf Pf.linSched_DELAY n l.pos)
    let heads := fun (p : LinPort) => p.heads = l.heads ++ [(sid, 13 + u.pf Pf.linCfg_BREAK n)]
    let others := fun (t : State) => ∀ k : Fin 8, k ≠ n → t.linPort k = u.linPort k
    (u.linUp n = true → l.run = true → cnt ≠ 0 → l.next = u.now → l.coll = none →
      (u.pf Pf.linSched_TYPE n l.pos = 0 → u.pb Pf.linFrame_EN n sid = true → u.pb Pf.linFrame_PUB n sid = true → u.pb Pf.linFrame_RERREN n sid = false →
        u.linLen n sid ≤ 8 → Does (.linSlotStart g n) s (fun t => slot (t.linPort n) ∧ others t ∧ heads (t.linPort n) ∧
          (t.linPort n).sent = l.sent ++ [(sid, let d := (((kvGet sid l.pub).getD []) ++ List.replicate 8 0).take (u.linLen n sid)
            d ++ [BitVec.ofNat 8 (linSum (u.linClassic n sid) sid d)])])) ∧
      (u.pf Pf.linSched_TYPE n l.pos = 0 → u.pb Pf.linFrame_EN n sid = true → u.pb Pf.linFrame_PUB n sid = false → Does (.linSlotStart g n) s (fun t =>
        slot (t.linPort n) ∧ heads (t.linPort n) ∧ (t.linPort n).hdr = some ⟨sid, u.now, some l.pos⟩ ∧ (t.linPort n).sent = l.sent ∧ others t)) ∧
      (u.pf Pf.linSched_TYPE n l.pos = 3 → Does (.linSlotStart g n) s (fun t => slot (t.linPort n) ∧ (t.linPort n).hdr = none ∧ (t.linPort n).sent = l.sent ∧ others t))) ∧
    (∀ h e, l.hdr = some h → h.entry = some e → u.pf Pf.linSched_TYPE n e = 0 → h.start + linLongest (u.pf Pf.linCfg_BAUD n) (u.linLen n h.id) ≤ u.now →
      Does (.linNoResponse g n) s (fun t => t.linPort n = { l with hdr := none, noResp := satInc 0xFFFF l.noResp } ∧ others t)) ∧
    (∀ (id : Fin 64) brk rate, u.linUp n = true → u.pb Pf.linCfg_ROLE n = false →
      let b := u.pf Pf.linCfg_BAUD n
      let near := b * 86 ≤ rate * 100 ∧ rate * 100 ≤ b * 114
      (brk < 11 → Does (.linHeaderReceived g n id ⟨brk, rate⟩) s (fun t => t = u)) ∧
      (11 ≤ brk → ¬ near → Does (.linHeaderReceived g n id ⟨brk, rate⟩) s (fun t =>
        t = u.setLin n { l.active u.now with bitErr := satInc 0xFFFF l.bitErr })) ∧
      (11 ≤ brk → near → id.val ≠ 61 ∨ l.answer = none → u.pb Pf.linFrame_EN n id = true → u.pb Pf.linFrame_PUB n id = false →
        Does (.linHeaderReceived g n id ⟨brk, rate⟩) s (fun t => t = u.setLin n { l.active u.now with hdr := some ⟨id, u.now, none⟩ })) ∧
      (11 ≤ brk → near → id.val ≠ 61 ∨ l.answer = none → u.pb Pf.linFrame_EN n id = true → u.pb Pf.linFrame_PUB n id = true →
        Does (.linHeaderReceived g n id ⟨brk, rate⟩) s (fun t => (t.linPort n).hdr = none ∧ others t ∧
          (t.linPort n).sent = l.sent ++ [(id.val, u.linData n id ++ [BitVec.ofNat 8 (linSum (u.linClassic n id) id (u.linData n id))])])) ∧
      (∀ a, 11 ≤ brk → near → id.val = 61 → l.answer = some a → Does (.linHeaderReceived g n id ⟨brk, rate⟩) s (fun t => (t.linPort n).answer = none ∧ others t ∧
        (t.linPort n).sent = l.sent ++ [(61, Config.linAnswer a ++ [BitVec.ofNat 8 (linSum true 61 (Config.linAnswer a))])]))) ∧
    (∀ (h : LinHdr) e (f : LinFrame), l.hdr = some h → h.entry = some e → u.pf Pf.linSched_TYPE n e = 0 → u.linUp n = true → u.pb Pf.linCfg_ROLE n = true → h.id = f.id.val →
      u.now ≤ h.start + linLongest (u.pf Pf.linCfg_BAUD n) (u.linLen n h.id) →
      (u.linGood n f = true → u.pb Pf.linFrame_TUNNEL n h.id = true → u.uplinkOpen = true → Does (.linFrameReceived g n f) s (fun t =>
        t = u.setLin n { l.active u.now with hdr := none, tun := l.tun ++ [linRec h.id f.sof f.data] })) ∧
      (u.linGood n f = true → u.pb Pf.linFrame_TUNNEL n h.id = false → (u.granteeOf 5 n).isSome = true → Does (.linFrameReceived g n f) s (fun t =>
        t.net.linq.toList.getD n [] = u.net.linq.toList.getD n [] ++ [linRec h.id f.sof f.data] ∧ t.linPort n = { l.active u.now with hdr := none } ∧ others t)) ∧
      (u.linGood n f = false → Does (.linFrameReceived g n f) s (fun t => (t.linPort n).hdr = none ∧ (t.linPort n).chkErr = satInc 0xFFFF l.chkErr ∧
        (∀ i, i < 64 → u.pb Pf.linFrame_RERREN n i = true → i ∈ (t.linPort n).rerr) ∧ t.net.linq = u.net.linq ∧ others t))) ∧
    (∀ (id : Fin 64) data up, u.pd 6 = true → u.pb Pf.linFrame_PUB n id = true → up = false ∨ (u.pd 5 = true ∧ u.pb Pf.linFrame_TUNNEL n id = true) →
      Does (.linPublishWrite g n id ⟨data, up⟩) s (fun t =>
      kvGet id (t.linPort n).pub = some data ∧ id.val ∈ (t.linPort n).fresh ∧ (t.linPort n).sent = l.sent ∧ others t)) ∧
    (∀ k, l.restart = some k → k ≤ u.now → u.linCommander n = true → Does (.linWakeupRestart g n) s (fun t =>
      t = u.setLin n { l.active u.now with run := true, pos := 0, coll := none, hdr := none, restart := none, next := u.now })) ∧
    (u.linUp n = true → l.lastAct + 800000000 ≤ u.now → Does (.linBusIdle g n) s (fun t => t = u.setLin n { l with idle := true }))

/-- Ethernet ports, the switch and Meridian (10 R275; 10 R276; 10 R277; 10 R282; 10 R283; 10 R284). A link of an enabled uplink comes up and
goes down with its count; a cable test ends with its result. A T1S port without a BEACON uses CSMA/CD and counts it, until the BEACON
returns. A frame from a member of its VLAN leaves by the port that its destination is known at, its source is learned, one of another VLAN
is dropped and counted, and an address not seen for AGE leaves the table. A Sync gives Meridian time and makes it traced, until HOLD
passes without one; a due tick places the reference of each port, and the follow-up takes its place once the reference is sent. -/
def Obligations.EthernetAndMeridian : Prop :=
  ∀ (s : State) (g : Lapse) (k : Fin 2) (n : Fin 8),
    let u := s.pass g
    let e := u.ethPort k
    let x := u.spePort k
    let c := u.canPort n
    let eths := fun (t : State) (e' : EthPort) => t.ethPort k = e' ∧ ∀ j : Fin 2, j ≠ k → t.ethPort j = u.ethPort j
    (∀ sqi : Fin 8, u.pd 5 = true → u.pb Pf.ethCfg_EN k = true → e.link = false → e.silent = false → Does (.ethLinkUp g k sqi) s (fun t => eths t { e with link := true, sqi := sqi })) ∧
    (e.link = true → Does (.ethLinkDown g k) s (fun t => eths t { e with link := false, sqi := 0, asCap := false, downs := satInc 0xFFFF e.downs })) ∧
    (∀ r d, e.cable = 4 → 1 ≤ r → r ≤ 3 → d < 4096 → Does (.cableTestDone g k r d) s (fun t => t = u.setEth k { e with cable := r, dist := if r = 1 then 0 else d })) ∧
    (u.pd 5 = true → u.pb Pf.speCfg_EN k = true → u.pb Pf.speCfg_PLCA k = true → u.pf Pf.speCfg_NODEID k ≠ 0 →
      (x.csma = false → Does (.plcaLost g k) s (fun t => t.spePort k = { x with beacon := false, csma := true, losses := satInc 0xFFFF x.losses })) ∧
      Does (.plcaBeaconReturn g k) s (fun t => t = u.setSpe k { x with beacon := true, csma := false })) ∧
    (∀ (f : EthFrame) i, u.portUp f.port = true → 64 ≤ f.len → f.len ≤ 1522 → f.dst ≠ 0x0180C200000E → u.vlanEntry (f.vlan.getD (u.pvid f.port)) = some i →
      let v := f.vlan.getD (u.pvid f.port)
      (∀ r, u.endpointAnswer f = some r → Does (.switchFrameIngress g f) s (fun t => t = (u.switchIn f).switchIn r)) ∧
      (u.endpointAnswer f = none →
      let m := u.pf Pf.swxVlan_MEMBER 0 i
      (m.testBit f.port = false → Does (.switchFrameIngress g f) s (fun t =>
        t.net.vlanDrop = satInc 0xFFFF u.net.vlanDrop ∧ t.net.egress = u.net.egress ∧ t.net.learned = u.net.learned)) ∧
      (∀ (d : Fin 5) ps, m.testBit f.port = true → u.pb Pf.swxCfg_LEARN = false → u.destPorts v f.dst = some ps → ps &&& m = 1 <<< d.val → d ≠ f.port → u.portUp d = true →
        Does (.switchFrameIngress g f) s (fun t => t.net.learned = u.net.learned ∧ t.net.vlanDrop = u.net.vlanDrop ∧
          t.net.egress = putEgress ⟨d, if d.val < 2 then u.pf Pf.ethPrio_TC d f.pcp else f.pcp, u.now, (u.pf Pf.swxVlan_UNTAG 0 i).testBit d, f⟩ u.net.egress)) ∧
      (m.testBit f.port = true → u.pb Pf.swxCfg_LEARN = true → u.net.learned.length < 1024 → u.net.learned.any (fun l => l.vlan = v && l.mac = f.src) = false →
        Does (.switchFrameIngress g f) s (fun t => t.net.learned = u.net.learned ++ [⟨v, f.src, f.port, u.now⟩])))) ∧
    (∀ v mac, Does (.addressAgeing g v mac) s (fun t => (∀ p, p ≠ .net → Part.same p u t) ∧
      ∀ l, l ∈ t.net.learned ↔ l ∈ u.net.learned ∧ ¬(l.vlan = v ∧ l.mac = mac ∧ l.at_ + secTk (u.pf Pf.swxCfg_AGE) ≤ u.now))) ∧
    (∀ y : SyncIn, u.pd 6 = true → u.pb Pf.mrdCfg_EN = true → u.pf Pf.mrdCfg_SRC = k.val → u.pd 5 = true → e.link = true → Does (.gptpSync g k y) s (fun t =>
      t.net.mrd = { u.net.mrd with sync := some (y.g0, y.t0, y.rate), syncAt := u.now, traced := true } ∧ (t.ethPort k).pdelay = Config.linkDelay u.now % 2 ^ 32 ∧ (t.ethPort k).asCap = true)) ∧
    (u.net.mrd.traced = true → u.net.mrd.syncAt + msTk (u.pf Pf.mrdCfg_HOLD) ≤ u.now → Does (.meridianHoldExpiry g) s (fun t =>
      t.net.mrd = { u.net.mrd with traced := false })) ∧
    (u.pd 6 = true → u.pb Pf.mrdCfg_EN = true → u.now % msTk u.mrdPeriod = 0 → Does (.meridianCycleDue g) s (fun t =>
      t.net.mrd = { u.net.mrd with force := some (u.pf Pf.mrdPeriod_PERIOD, u.parOf Pid.mrdIds 0) } ∧
      t.canPort n = { c with mrd := if (u.pf Pf.mrdCfg_PORTS).testBit n ∧ u.pb Pf.canCfg_EN n = true ∧ c.st ≠ .off then some ⟨dataFrame (u.pf Pf.mrdIds_REFID) (u.pb Pf.mrdIds_REFXTD) (leBytes 1 (c.cycle % 64)), false, u.now⟩ else none })) ∧
    (∀ m sof, c.mrd = some m → m.fup = false → c.offered = some 32 → u.canSends n = true → Does (.referenceSent g n sof) s (fun t =>
      (t.canPort n).sent = c.sent ++ [m.frame] ∧ (t.canPort n).cycle = (c.cycle + 1) % 64 ∧ (t.canPort n).tec = c.tec - 1 ∧ (t.canPort n).tx = c.tx ∧
      (t.canPort n).mrd = some ⟨dataFrame (Pf.mrdIds_FUPID.of u.mrdIds) (decide (Pf.mrdIds_FUPXTD.of u.mrdIds = 1)) (u.followUp n sof), true, u.now⟩))

/-- The sleep agreement (11 R295; 11 R296; 11 R297; 11 R299; 11 R300; 11 R301; 11 R305; 11 R306). A keep-alive on a watched link restarts the
timeout, aborts a wait and ends a wake check. The device sends its own while it holds a request. A timeout without a request leads to the
wait, in which the LIN commanders go to sleep and the state is saved, and at whose end the device commits unless a request or the arm mask
forbids it; at the commit the ports stop and each Ethernet link asks for sleep. A request for sleep ends with its answer or its timeout. A
wake check that ends without a keep-alive is a false wake. The wake hold ends by its time, and a run of keep-alives enters the Waymark log
after its limit, is updated each minute and leaves the table when it ends. The end of a timeout and a commit are taken after their tick is
over, and the commit bears the tick at which it was due (the choice of entry 98, after 02 R46). -/
def Obligations.SleepAgreement : Prop :=
  ∀ (s : State) (g : Lapse),
    let u := s.pass g
    let a := u.agr
    (∀ link node reason, u.watched link = true → u.pd (if link < 8 then 6 else 5) = true → (link < 8 → node ≤ 63) →
      (a.st = .normal → Does (.keepAliveReceived g link node reason) s (fun t =>
        t.agr.st = .normal ∧ t.agr.start = u.now ∧ t.agr.lastNode = node ∧ t.agr.lastLink = link ∧ t.agr.aborts = a.aborts)) ∧
      (a.st = .readySleep → Does (.keepAliveReceived g link node reason) s (fun t =>
        t.agr.st = .normal ∧ t.agr.start = u.now ∧ t.agr.aborts = satInc 0xFFFF a.aborts ∧ t.agr.linSlept = false ∧ t.agr.saved = false)) ∧
      (a.st = .wakeCheck → Does (.keepAliveReceived g link node reason) s (fun t => t.agr.st = .normal ∧ t.agr.start = u.now))) ∧
    (a.st = .normal → u.localReq = true → a.held = true → u.now % (Pf.nsCfg_KAPER.of a.cfg * 2000000) = 0 →
      (∀ (n : Fin 8) i, (Pf.nsKa_CAN.of a.ka).testBit n = true → (u.canPort n).st ≠ .off → (u.canPort n).freeRun 1 = some i → Does (.keepAliveSend g) s (fun t =>
        (t.canPort n).tx = (u.canPort n).tx ++ [⟨i, 1, u.now, ⟨Pf.nsKa_KABASE.of a.ka + Pf.nsCfg_NODE.of a.cfg, false, false, 0, 0, 0, 0, 0, 1, [BitVec.ofNat 8 u.reason]⟩⟩])) ∧
      (u.watched 16 = true → u.pd 5 = true → Does (.keepAliveSend g) s (fun t => u.kaDatagram 16 ∈ t.agr.sent ∧ t.agr.start = u.now))) ∧
    (a.st = .normal → u.localReq = false → Does (.keepAliveSend g) s (fun t => t = { u with agr := { a with held := false } })) ∧
    (a.st = .normal → a.start + u.agrTmo + 1 ≤ u.now → u.localReq = false → Does (.keepAliveTimeout g) s (fun t =>
      t.agr = { a with st := .readySleep, start := a.start + u.agrTmo, linSlept := false, saved := false })) ∧
    (a.st = .readySleep → a.linSlept = false → a.start + 296000000 ≤ u.now → Does (.linGoToSleep g) s (fun t => t.agr = { a with linSlept := true } ∧
      ∀ n : Fin 8, u.linCommander n = true → (t.linPort n).run = false ∧
        (t.linPort n).sent = (u.linPort n).sent ++ [(0x3C, 0x00 :: List.replicate 7 0xFF ++ [BitVec.ofNat 8 (linSum true 0x3C (0x00 :: List.replicate 7 0xFF))])])) ∧
    (a.st = .readySleep → a.saved = false → a.start + 299800000 ≤ u.now → Does (.preCommitSave g) s (fun t =>
      t.agr = { a with saved := true } ∧ t.boot.digest = true ∧ (u.svy.running = false → t.svy = { u.svy with stored := u.debounced }))) ∧
    (a.st = .readySleep → a.start + 300000001 ≤ u.now → u.pwr.entry = none →
      let c := a.start + 300000000
      (u.localReq = true → Does (.readySleepWaitEnd g) s (fun t => t.agr.st = .normal ∧ t.agr.start = u.now ∧ t.pwr = u.pwr)) ∧
      (∀ b, u.localReq = false → u.commitBlock = some b → Does (.readySleepWaitEnd g) s (fun t => t.agr.st = .normal ∧ t.agr.start = c ∧ t.pwr = u.pwr)) ∧
      (∀ k : Fin 2, u.localReq = false → u.commitBlock = none → u.pd 5 = true → u.pd 6 = true → (u.ethPort k).link = true → Does (.readySleepWaitEnd g) s (fun t =>
        t.agr.st = .committing ∧ t.agr.commit = some u.clk.aon ∧ t.pwr.entry = some ⟨2 + u.pf Pf.nsCfg_TARGET, none, false, 4, c, u.clk.aon, true, false⟩ ∧
        (t.ethPort k).tc10 = some c ∧ ∀ n : Fin 8, (t.canPort n).st = .off ∧ (t.linPort n).run = false))) ∧
    (∀ (k j : Fin 2) x, j ≠ k → (u.ethPort j).tc10.isSome = true → (u.ethPort k).tc10 = some x →
      Does (.tc10SleepAck g k) s (fun t => t = u.setEth k { u.ethPort k with tc10 := none, silent := true, link := false }) ∧
      (x + 3200000 ≤ u.now → Does (.tc10SleepAckTimeout g k) s (fun t => t = u.setEth k { u.ethPort k with tc10 := none, silent := true, link := false }))) ∧
    (∀ k : Fin 2, a.st = .wakeCheck → a.start + u.agrFwTmo + 1 ≤ u.now → u.pwr.entry = none → u.localReq = false → u.commitBlock = none → u.pd 5 = true →
      (u.ethPort k).link = true → Does (.falseWakeTimeout g) s (fun t => t.agr.st = .committing ∧ t.agr.falseSrc = some a.wakeSrc ∧
        t.lgd.falses = satInc 0xFFFF u.lgd.falses ∧ t.lgd.last.word = u.lgd.last.word ||| 0x400 ∧ (t.ethPort k).tc10 = some (a.start + u.agrFwTmo))) ∧
    (∀ k, a.hold = some k → k + msTk (10 * Pf.nsCfg_WAKEHOLD.of a.cfg) ≤ u.now → Does (.wakeHoldEnd g) s (fun t => t = { u with agr := { a with hold := none } })) ∧
    (∀ link node r, u.wmRun link node = some r →
      (r.logged = false → u.localReq = false → a.st = .normal ∨ a.st = .wakeCheck → u.pf Pf.nsCfg_WMLIMIT ≤ u.wmMinutes r → Does (.waymark g link node) s (fun t =>
        t.par = (u.wmWrite (u.wmTake link node) r true).par ∧ t.agr.runs = a.runs.map (fun x => if x.link = link ∧ x.node = node then { x with logged := true } else x))) ∧
      (∀ i, r.logged = true → u.wmSlot link node = some i → Does (.waymarkMinute g link node) s (fun t => t = u.wmWrite i r true)) ∧
      (u.agrTmo < u.now - r.last → Does (.waymarkRunEnd g link node) s (fun t => t.agr.runs = a.runs.filter (fun x => !(x.link = r.link && x.node = r.node)) ∧
        (r.logged = false → t.par = u.par))))

/-- Keyless access and the immobiliser (12 R310; 12 R311; 12 R313; 12 R314; 12 R315; 12 R316; 12 R317; 12 R319; 12 R321; 12 R322; 12 R325; 12
R326). An accepted command comes to run where none does, or waits behind the one that does; REVOKE erases the token slot and LOCK_CLEAR
the failures and the lock-out at once. A calibration steps TUNE and keeps the best. A round starts where an aerial of its mask is usable
and a front-end is up; its bursts measure the aerials, its response slots are noted as they were, and its check repeats it after a
collision or a malformed reply, authenticates a token whose proof is right and counts a failure for one whose proof is wrong, the fifth of
which locks out. A token that accepts the proof is ranged and placed; one that stays silent is not. A deadline ends its command, at once
or at the next slot boundary of its round, a lock-out ends by its time, old failures are forgotten, and the links of the front-ends are
followed. Each clause starts from the state in which a stop that has become due is done. -/
def Obligations.Access : Prop :=
  ∀ (s : State) (g : Lapse) (q : Rq) (c : AccessCmd),
    let w := s.pass g
    let u := w.accDue
    let takes := fun (cmd : Nat) (data : List Byte) (count : Nat) => Takes u q 0x28 0 (accPayloadIn cmd c data) ∧ HasHandle u q ∧
      u.accCheck (u.direct q 0x28 0 (accPayloadIn cmd c data)) cmd c count = none
    let cmdRec := fun (h cmd tid key first count : Nat) =>
      AccCmd.mk h q.ses cmd c.slot c.aerials (if c.deadline = 0 then none else some (u.now + msTk c.deadline)) tid key first count
    let runs := fun (cmd tid key first count : Nat) (t : State) => ∃ h, Accepted u q 0x28 (c.slot + 256 * cmd) t h ∧
      (u.acc.job = none → u.acc.queue = [] → t.acc.job = some ⟨cmdRec h.num cmd tid key first count, 0, none, none, u.now, none⟩ ∧ t.acc.queue = []) ∧
      (∀ j, u.acc.job = some j → t.acc.job = some j ∧ t.acc.queue = u.acc.queue ++ [cmdRec h.num cmd tid key first count])
    (takes 1 [] 0 → Does (.search g q c) s (runs 1 0 0 0 0)) ∧
    (takes 2 [] 0 → Does (.immo g q c) s (runs 2 0 0 0 0)) ∧
    (∀ first count, takes 3 (leBytes 2 first ++ leBytes 1 count ++ leBytes 1 0) count → Does (.tmemRead g q c first count) s (runs 3 0 0 first count)) ∧
    (∀ tid key, takes 0x10 (leBytes 4 tid ++ leBytes 16 key) 0 → Does (.enrol g q c tid key) s (fun t => runs 0x10 tid key 0 0 t ∧
      (u.acc.job = none → u.acc.queue = [] → (t.tokenRec c.slot).key = Config.tokenKey key ∧ (t.tokenRec c.slot).enrolled = false))) ∧
    (takes 0x20 [] 0 →
      (∀ j, u.acc.job = some j → Does (.calibrate g q c) s (runs 0x20 0 0 0 0)) ∧
      (∀ k, u.acc.job = none → u.acc.queue = [] → u.calNext 0 = some k → Does (.calibrate g q c) s (fun t =>
        ∃ h, Accepted u q 0x28 (c.slot + 256 * 0x20) t h ∧ t.acc.job = some ⟨cmdRec h.num 0x20 0 0 0 0, 0, none, some (k, 0, 0, 0, u.now), u.now, none⟩)) ∧
      (u.acc.job = none → u.acc.queue = [] → u.calNext 0 = none → Does (.calibrate g q c) s (fun t => t.acc = u.acc))) ∧
    (takes 0x11 [] 0 → (∀ j, u.acc.job = some j → j.cmd.cmd = 0x10 → j.cmd.slot ≠ c.slot) → Does (.revoke g q c) s (fun t =>
      (t.tokenRec c.slot).id = 0 ∧ (t.tokenRec c.slot).enrolled = false ∧
      (u.round = none → (t.tokenRec c.slot).key = 0 ∧ ∀ k : Fin 16, k.val ≠ c.slot → t.tokenRec k = u.tokenRec k))) ∧
    (takes 0x21 [] 0 → Does (.lockClear g q c) s (fun t => t.acc.lock = none ∧ t.acc.fails = [])) ∧
    (∀ j (k : Fin 8) step best top x ma, w.acc.job = some j → j.cal = some (k.val, step, best, top, x) → x + 100000 ≤ w.now →
      let b := if top < ma ∨ step = 0 then (step, ma) else (best, top)
      (step < 63 → Does (.calibrateStep g ma) s (fun t => t = { w with acc := { w.acc with job := some { j with cal := some (k.val, step + 1, b.1, b.2, x + 100000) } } })) ∧
      (step = 63 → best < 64 → w.Canon →
        (∀ k', w.calNext (k + 1) = some k' → Does (.calibrateStep g ma) s (fun t => t.pf Pf.lfCfg_TUNE k = b.1 ∧
          bitsOf (t.storedOf (Pid.lfCfg k) 0) Pf.lfCfg_TUNE.lo Pf.lfCfg_TUNE.w = b.1 ∧
          (t.aerial k).fault = (if b.1 = 0 ∨ b.1 = 63 then 3 else if (w.aerial k).fault = 3 then 0 else (w.aerial k).fault) ∧
          t.acc.job = some { j with cal := some (k', 0, 0, 0, x + 100000) })) ∧
        (w.calNext (k + 1) = none → w.acc.queue = [] → Does (.calibrateStep g ma) s (fun t => t.pf Pf.lfCfg_TUNE k = b.1 ∧ t.acc.job = none)))) ∧
    (∀ j, u.acc.job = some j → j.round = none → j.cal = none → j.ready ≤ u.now →
      ((bitList 8 (u.roundMask j.cmd)).any u.usable = true → (∃ f : Fin 4, (u.feRec f).link = true) → Does (.roundStart g) s (fun t =>
        t.acc.rounds = satInc 0xFFFF u.acc.rounds ∧ t.acc.roundNo = (u.acc.roundNo + 1) % 256 ∧ ∃ seed nd, seed < 256 ∧ seed.testBit 3 = false ∧ nd < 2 ^ 64 ∧
        let target := if j.cmd.slot = 0xFF then 0 else j.cmd.slot + 16
        t.acc.job = some { j with rounds := j.rounds + 1, round := some ⟨if j.rounds = 0 then u.now else j.ready, u.clk.aon, u.roundMask j.cmd, seed, nd, target,
          (List.range 8).map (fun k => u.parOf (Pid.lfCfg k) 0), maskOf ((List.range 8).filter u.usable),
          lfTelegram (u.pf Pf.accRadio_WAKEID) u.acc.roundNo seed target nd, [], false, [], [], [], 0, []⟩ })) ∧
      ((bitList 8 (u.roundMask j.cmd)).any u.usable = false → u.acc.queue = [] → Does (.roundStart g) s (fun t => t.acc.job = none ∧ t.acc.rounds = u.acc.rounds))) ∧
    (∀ r (k : Fin 8) ma, u.round = some r →
      (r.mask.testBit k = true → Pf.lfCfg_EN.of (r.lfCfg k) = 1 → r.start + 6553600 + 250000 * k.val ≤ u.now → r.peaks.any (fun p => p.1 = k.val) = false →
        let ilf := Pf.lfCfg_ILF.of (r.lfCfg k)
        Does (.fieldBurst g k ma) s (fun t => t.round = some { r with peaks := r.peaks ++ [(k.val, ma)] } ∧
          (t.aerial k).ipeak = (if r.bursts k then min 0xFFFF ma else (u.aerial k).ipeak) ∧
          (2 * ma < 50 * ilf → (u.aerial k).low = 0 → (t.aerial k).fault = (u.aerial k).fault ∧ (t.aerial k).low = 1) ∧
          (2 * ma < 50 * ilf → (u.aerial k).low = 1 → (u.aerial k).fault = 0 → (t.aerial k).fault = 1 ∧ (t.aerial k).faults = satInc 0xFFFF (u.aerial k).faults) ∧
          (50 * ilf ≤ 2 * ma → r.off.testBit k = false → (u.aerial k).clean = 1 → (u.aerial k).fault = 1 ∨ (u.aerial k).fault = 2 → (t.aerial k).fault = 0))) ∧
      (r.on k = true → Does (.lfShortTrip g k) s (fun t => (t.aerial k).fault = 2 ∧ t.round = some { r with off := r.off ||| (1 <<< k.val) }))) ∧
    (∀ r (i : Fin 32), u.round = some r → r.checked = false → u.now = r.start + 8753600 + 40000 * (i.val + 1) →
      (∀ x f p, u.heardBy x = [(f, p)] → Does (.responseSlotEnd g i (.reply x)) s (fun t => t.round = some { r with seen := r.seen ++ [(i.val, .reply x)] } ∧
        t.feRec f = { u.feRec f with frames := satInc 0xFFFF (u.feRec f).frames, power := p })) ∧
      (∀ x, u.heardBy x = [] → Does (.responseSlotEnd g i (.reply x)) s (fun t => t.round = some { r with seen := r.seen ++ [(i.val, .empty)] } ∧ t.acc.fe = u.acc.fe)) ∧
      (∀ o : SlotObs, (∀ x, o ≠ .reply x) → Does (.responseSlotEnd g i o) s (fun t => t.round = some { r with seen := r.seen ++ [(i.val, o)] } ∧ t.acc.fe = u.acc.fe))) ∧
    (∀ j r (i : Fin 32), u.acc.job = some j → j.round = some r → r.checked = false → u.now = r.start + 10133600 →
      let k := slotIndex r.seed i
      let tok := u.tokenRec k
      (r.seen.any (fun p => p.2 = .collided || p.2 = .malformed) = true → j.rounds ≤ u.pf Pf.accCfg_RETRIES → Does (.replyCheck g) s (fun t =>
        t.acc.colls = satInc 0xFFFF u.acc.colls ∧ t.acc.job = some { j with round := none, ready := u.now })) ∧
      (∀ x, r.seen = [(i.val, .reply x)] → r.res = [] → r.exch = [] → j.cmd.cmd ≠ 0x10 → tok.enrolled = true → x.tid = tok.id → u.macOk k r.nd x = true →
        Does (.replyCheck g) s (fun t =>
          t.round = some { r with checked := true,
                                  exch := [⟨k, x, bestFe (u.heardBy x), u.now, false, u.proofFrame j.cmd k r.nd x.nt, u.sessionKey k r.nd x.nt, 0⟩] } ∧
          t.tokenRec k = { tok with auths := satInc 0xFFFF tok.auths } ∧ t.acc.fails = u.acc.fails)) ∧
      (∀ x, r.seen = [(i.val, .reply x)] → r.exch = [] → u.acc.queue = [] → j.cmd.cmd ≠ 0x10 → tok.enrolled = true → x.tid = tok.id → u.macOk k r.nd x = false →
        (u.accFails < 4 → Does (.replyCheck g) s (fun t => t.tokenRec k = { tok with fails := satInc 0xFFFF tok.fails } ∧ t.acc.lock = u.acc.lock ∧
          t.acc.fails = u.acc.fails.filter (fun y => u.aonSince y < 1966080) ++ [u.clk.aon])) ∧
        (4 ≤ u.accFails → Does (.replyCheck g) s (fun t => t.acc.lock = some (u.clk.aon, u.pf Pf.accLockout_LOCKMIN * 1966080) ∧ t.acc.fails = [] ∧
          t.acc.flag = true ∧ t.acc.lockCnt = satInc 0xFFFF u.acc.lockCnt ∧ t.acc.job = none)))) ∧
    (∀ j r e e2 rest (i : Fin 16), u.acc.job = some j → j.round = some r → r.checked = true → r.exch = e :: e2 :: rest → e.slot = i.val →
      let f := (List.range 8).map (r.fieldOf e.reply.field)
      let zone := u.zoneOf f
      let done := e.start + 200000 + (if j.cmd.cmd = 3 ∧ j.cmd.slot = i.val then 40000 * j.cmd.count else 0)
      let goesOn := fun (x : AccRes) (t : State) =>
        t.round = some { r with res := r.res.filter (fun y => y.slot ≠ i.val) ++ [x], exch := { e2 with start := done } :: rest }
      (∀ bl, e.accepted = false → e.start ≤ u.now → Does (.exchangeBlock g i ⟨true, bl⟩) s (fun t =>
        let got := if j.cmd.cmd = 3 ∧ j.cmd.slot = i.val then bl.take j.cmd.count else []
        t.round = some { r with exch := { e with accepted := true, blk := got.length } :: e2 :: rest,
                                blocks := if j.cmd.cmd = 3 ∧ j.cmd.slot = i.val then got else r.blocks })) ∧
      (∀ bl, e.accepted = false → done ≤ u.now → Does (.exchangeBlock g i ⟨false, bl⟩) s (goesOn ⟨e.slot, 6, zone, 0xFF, none, f⟩)) ∧
      (∀ y d, e.accepted = true → done ≤ u.now → u.feOn e.fe = true → rangeMm y (u.pf Pf.feCfg_ADLY e.fe) = some d → -300 ≤ d → y.resp = true → y.report = true →
        u.pf Pf.accRadio_STSQ ≤ y.qResp → u.pf Pf.accRadio_STSQ ≤ y.qReport → Does (.rangingResult g i y) s (fun t =>
          goesOn ⟨e.slot, if zone ≠ 0xFF ∧ max 0 d ≤ 10 * (u.pf Pf.accZone_DMAX 0 zone : Int) then 1 else 2, zone, e.fe, some (max 0 d), f⟩ t ∧
          t.tokenRec i = { u.tokenRec i with lastDist := min 0xFFFF ((max 0 d).toNat / 10), lastZone := zone } ∧
          t.feRec e.fe = { u.feRec e.fe with frames := satAdd 0xFFFF (u.feRec e.fe).frames (2 + e.blk), power := y.power })) ∧
      (∀ y, e.accepted = true → done ≤ u.now → y.resp = false ∨ y.report = false ∨ y.qResp < u.pf Pf.accRadio_STSQ ∨ y.qReport < u.pf Pf.accRadio_STSQ ∨ u.feOn e.fe = false →
        Does (.rangingResult g i y) s (goesOn ⟨e.slot, 7, zone, e.fe, none, f⟩))) ∧
    (∀ x d, u.acc.job = none → u.acc.queue = [x] → x.deadline = some d → d ≤ u.now → Does (.accessDeadline g) s (fun t => t.acc.queue = [] ∧ t.acc.job = none)) ∧
    (∀ j d, u.acc.job = some j → u.acc.queue = [] → j.cmd.deadline = some d → d ≤ u.now → j.stop = none →
      Does (.accessDeadline g) s (fun t => t.acc.job = if u.slotEdge d ≤ u.now then none else some { j with stop := some (St.timeout, u.slotEdge d) })) ∧
    (∀ j x, w.acc.job = some j → w.acc.queue = [] → j.stop = some x → x.2 ≤ w.now → u.acc.job = none) ∧
    (w.acc.lock.isSome = true → w.lockedOut = false → Does (.lockoutEnd g) s (fun t => t.acc.lock = none ∧ t.acc.flag = false)) ∧
    Does (.failWindowExpiry g) s (fun t => t = { w with acc := { w.acc with fails := w.acc.fails.filter (fun y => w.aonSince y < 1966080) } }) ∧
    (∀ f : Fin 4, (w.pd 7 = true → w.pb Pf.feCfg_EN f = true → Does (.feLinkUp g f) s (fun t => t.feRec f = { w.feRec f with link := true })) ∧
      (∀ n, (w.feRec f).link = true → Does (.feLinkDown g f n) s (fun t => t.feRec f = { w.feRec f with link := false, errs := satAdd 0xFFFF (w.feRec f).errs n })))

/-- The interlock line and the redundant pair (13 R348; 13 R349; 13 R350; 13 R351; 13 R352; 13 R353; 13 R354; 13 R355; 13 R356; 13 R357; 13
R360). A device in IDLE that sees the line low becomes STANDBY, one that may claim and sees it high pulls it and becomes ACTIVE, and a
STANDBY that sees it high takes over. A claim is confirmed by a low line and given up after 200 tk of a high one. A release turns every
DUALFED channel off, leaves IDLE with holdoff and the cause, and is sent to the partner. The ACTIVE device reports each window; the other
mirrors the inputs, compares the states, counts a mismatch and decides a switch-over after three in a row or after 240,000 tk without a
report. A proof test starts in ACTIVE alone and passes when its windows have compared without a difference. Editions that differ make a
WATCH. INTLK_CTRL and INTLK_ERR take their writes. -/
def Obligations.Interlock : Prop :=
  ∀ (s : State) (g : Lapse),
    let u := s.pass g
    let x := u.il
    let released := fun (cause : Nat) (t : State) => t.il.role = 1 ∧ t.il.pull = false ∧ t.il.cause = cause ∧ t.il.holdoff = some (u.now + u.holdoffTk) ∧
      t.il.relAt = u.now ∧ (u.twin.up = true → ⟨4, cause, u.now, []⟩ ∈ t.il.ctl) ∧
      ∀ n : Fin 64, u.dualFed n = true → u.lead n = n → (t.chan n).st = .off ∨ (t.chan n).st = .latched
    (x.role = 1 → x.proofOn = false → u.pairEqual = true → Does (.intlkLineChange g false) s (fun t =>
      t.il.role = 3 ∧ t.il.line = false ∧ t.il.heardAt = u.now ∧ t.il.run = 0 ∧ t.load = u.load)) ∧
    (x.role = 1 → x.holdoff = none → x.ctrl.testBit 2 = false → x.err.testBit 3 = false → x.twinId = false → Does (.intlkLineChange g true) s (fun t =>
      t.il.role = 2 ∧ t.il.pull = true ∧ t.il.claimAt = some u.now ∧ t.il.cause = 0 ∧ t.il.switches = x.switches)) ∧
    (x.role = 3 → x.ctrl.testBit 2 = false → Does (.intlkLineChange g true) s (fun t =>
      t.il.role = 2 ∧ t.il.pull = true ∧ t.il.claimAt = some u.now ∧ t.il.switches = satInc 0xFFFF x.switches ∧ t.il.shadowOn = 0)) ∧
    (x.role = 1 → x.taken = true → x.line = true → x.holdoff = none → x.ctrl.testBit 2 = false → x.err.testBit 3 = false → x.twinId = true →
      x.lineAt + msTk (u.pf Pf.twinPair_IDLECLAIM) ≤ u.now → Does (.idleClaimTimer g) s (fun t => t.il.role = 2 ∧ t.il.pull = true ∧ t.il.claimAt = some u.now)) ∧
    (∀ k, x.claimAt = some k →
      (x.swOver = none → Does (.claimCheck g true) s (fun t => t = { u with il := { x with claimAt := none } })) ∧
      (k + 200 ≤ u.now → Does (.claimCheck g false) s (fun t => t.il.role = 1 ∧ t.il.pull = false ∧ t.il.err.testBit 0 = true ∧ t.il.holdoff = some (u.now + u.holdoffTk)))) ∧
    (∀ k, x.holdoff = some k → k ≤ u.now → x.role = 2 → Does (.holdoffEnd g) s (fun t => t = { u with il := { x with holdoff := none } })) ∧
    (∀ p : PairPeer, u.twin.up = true → p.twinId ≠ x.twinId → p.cause = none →
      (x.role ≠ 2 → Does (.pairStateReport g p) s (fun t => t = { u with il := { x with pRole := p.role, pPull := p.pull, pTwinId := p.twinId, idleAt := if x.role = 3 ∧ x.line = false ∧ p.pull = false then some (x.idleAt.getD u.now) else none } })) ∧
      (x.role = 2 → p.role = 2 → x.twinId = true → Does (.pairStateReport g p) s (fun t => released 7 t ∧ t.il.err.testBit 2 = true))) ∧
    (x.role = 2 → x.ctrl.testBit 2 = true → Does (.intlkRelease g 6) s (released 6)) ∧
    (x.role = 2 → u.twin.up = true → Does (.intlkRelease g 1) s (released 1)) ∧
    (x.role = 2 → x.leaseAt + 240000 ≤ u.now → Does (.leaseExpiry g) s (released 4)) ∧
    (u.twin.up = true → x.role = 3 →
      (∀ n : Fin 64, Does (.forwardedCommand g (.chan n true)) s (fun t => t.il.shadowOn = putBits x.shadowOn n 1 1 ∧ t.load = u.load)) ∧
      (∀ n : Fin 64, Does (.forwardedCommand g (.chan n false)) s (fun t => t.il.shadowOn = putBits x.shadowOn n 1 0 ∧ t.il.shadowPulse = putBits x.shadowPulse n 1 0 ∧ t.load = u.load)) ∧
      (∀ (n : Fin 64) d, Does (.forwardedCommand g (.pulse n true d)) s (fun t => t.il.shadowPulse = putBits x.shadowPulse n 1 1 ∧ kvGet n t.il.shadowDuty = some d)) ∧
      (∀ w : ParWrite, Does (.forwardedCommand g (.param w)) s (fun t => t.il.shadowPar = kvPut (parKey w.id w.idx) w.val x.shadowPar ∧ t = { u with il := t.il } ∧
        (0x1C00 ≤ w.id → w.id < 0x1D00 → w.id % 16 = 2 → ∀ n ∈ u.leavesOf w.idx, kvGet n t.il.shadowDuty = some (Pf.genMember_DUTY.of w.val))))) ∧
    (x.role = 2 → x.ctrl.testBit 0 = true → u.now % 200000 = 0 → u.atlas.ready = true → u.pd 3 = true → x.proofOn = false → Does (.pairReport g) s (fun t =>
      t.il.leaseAt = u.now ∧ ∃ r : PairReport, t.il.report = some r ∧ (u.twin.up = true → ⟨6, u.now / 200000 - 1, u.now, pairReportBytes r⟩ ∈ t.il.ctl) ∧ r.stamp = u.now ∧ r.on = u.onMask ∧ r.fail = u.failMask ∧
      r.pulse = u.pulseMask ∧ r.inputs = u.mirrored)) ∧
    (∀ r : PairReport, u.twin.up = true → x.role = 3 → x.proofOn = false →
      (r.on = x.shadowOn → r.pulse = 0 → r.fail = 0 → Does (.reportCompare g r) s (fun t =>
        t.il.run = 0 ∧ t.il.compared = satInc 0xFFFFFFFF x.compared ∧ t.il.mismatch = x.mismatch ∧ t.il.heardAt = u.now ∧
        ∀ i : Fin 48, (u.pf Pf.twinMirror_SW).testBit i = true → (t.inp.toList.getD i {}).state = r.inputs.testBit i)) ∧
      (r.fail ≠ 0 → x.run < 2 → Does (.reportCompare g r) s (fun t => t.il.run = x.run + 1 ∧ t.il.mismatch = satInc 0xFFFFFFFF x.mismatch ∧ t.il.decided = x.decided)) ∧
      (r.fail ≠ 0 → x.run = 2 → x.decided = none → x.lastMis = none → Does (.reportCompare g r) s (fun t =>
        t.il.run = 3 ∧ t.il.decided = some (u.now, 1) ∧ ⟨5, 1, u.now, []⟩ ∈ t.il.ctl ∧ t.il.lastMis = some u.now))) ∧
    (x.role = 3 → x.decided = none → x.heardAt + 240000 ≤ u.now → u.twin.up = true → Does (.missingReport g) s (fun t => t.il.decided = some (u.now, 2) ∧ ⟨5, 2, u.now, []⟩ ∈ t.il.ctl)) ∧
    (u.twin.up = false → Does (.missingReport g) s (fun t => t = u)) ∧
    (∀ k c, x.decided = some (k, c) → x.role = 3 → x.line = false → x.blocked = false → k + 240000 ≤ u.now → Does (.takeoverBlocked g) s (fun t =>
      t.il.blocked = true ∧ t.il.err.testBit 7 = true ∧ t.il.decided = x.decided)) ∧
    (u.pd 3 = true → u.portClosed 0x4004000C = false → x.proofOn = false →
      (x.role = 2 → u.twin.up = true → x.pRole = 3 → u.pairEqual = true → x.run = 0 → Does (.proofStart g .super 1) s (fun t =>
        t.il.proofOn = true ∧ t.il.result = 0 ∧ t.il.proofCnt = 0 ∧ t.il.back = false)) ∧
      (x.role ≠ 2 → Does (.proofStart g .super 1) s (fun t => t.il.proofOn = false ∧ t.il.result = 3))) ∧
    (x.proofOn = true → x.proofStep = 1 → x.role ≠ 2 → u.pf Pf.twinPair_PROOFWIN ≤ x.proofCnt → x.proofGap ≤ 40000 → x.back = false → Does (.proofEnd g) s (fun t =>
      t.il.proofOn = false ∧ t.il.result = (if x.proofBad then 2 else 1) ∧ t.il.proofs = satInc 0xFFFF x.proofs)) ∧
    (∀ be mask, u.twin.up = true → x.role = 3 → be ≠ u.be → Does (.editionReport g be mask) s (fun t => t.il.role = 4 ∧ t.il.partnerBe = be ∧ t.il.err.testBit 4 = true ∧ t.il.err.testBit 2 = x.err.testBit 2)) ∧
    (u.twin.up = true → x.role = 4 → Does (.editionReport g u.be u.dualMask) s (fun t => t.il.role = 3 ∧ t.il.heardAt = u.now ∧ t.il.run = 0)) ∧
    (u.pd 3 = true → u.portClosed 0x40040004 = false → x.role = 0 → x.ctrl = 0 → x.taken = false → Does (.intlkCtrlWrite g .super 1) s (fun t => t = ({ u with il := { x with ctrl := 1, role := 1 } } : State).sendRole)) ∧
    (u.pd 3 = true → u.portClosed 0x40040004 = false → x.role ≠ 2 → x.ctrl.testBit 0 = true → Does (.intlkCtrlWrite g .super 0) s (fun t => t.il.role = 0 ∧ t.il.pull = false ∧ t.il.ctrl = 0)) ∧
    (∀ m, u.pd 3 = true → u.portClosed 0x40040010 = false → Does (.intlkErrClear g .super m) s (fun t => ∀ b, t.il.err.testBit b = (x.err.testBit b && !m.testBit b))) ∧
    (∀ k, x.idleAt = some k → x.role = 3 → u.twin.up = true → x.line = false → k + 2000 ≤ u.now → Does (.stuckLow g) s (fun t => t.il.idleAt = none ∧ t.il.err.testBit 1 = true)) ∧
    (∀ k, x.swOver = some (k, none) → k + 2000 ≤ u.now →
      (x.gapEnd = false → Does (.switchOverCauseTimeout g) s (fun t => t = { u with il := { x with swOver := some (k, some 10) } })) ∧
      (x.gapEnd = true → Does (.switchOverCauseTimeout g) s (fun t => t.il.swOver = none ∧ t.il.cause = 10)))

/-- The arithmetic units of a core (14 R365; 14 R366; 14 R368; 14 R379). In a running core that no fence holds, each trigger of an ALU or of
the MUL unit leaves its result, computed on 32-bit values from the operand o and the value v, at the result port of that unit, and changes
nothing else; a shift takes its distance from the five lowest bits. Division truncates towards zero; a division by zero raises the trap of
cause 7 instead. Division and a second ALU belong to S and the application cores. -/
def Obligations.XitreArithmetic : Prop :=
  ∀ (s : State) (g : Lapse) (k : CoreId) (al : Alu) (o v : Word),
    let u := s.pass g
    let i := coreIx k
    let c := { u.core i with fence := false }
    let n := match al with | .alu0 => 0 | .alu1 => 1
    let alu := fun (r : Word) (t : State) => t = u.setCore i { c with aluR := c.aluR.setIfInBounds n r.toNat }
    let mul := fun (r : Word) (t : State) => t = u.setCore i { c with mulR := r.toNat }
    c.st = .running → u.fenced i = false →
    ((al = .alu0 ∨ i < 5) → c.aluO.toList.getD n 0 = o.toNat →
      Does (.add g k al v) s (alu (o + v)) ∧ Does (.sub g k al v) s (alu (o - v)) ∧ Does (.and g k al v) s (alu (o &&& v)) ∧
      Does (.or g k al v) s (alu (o ||| v)) ∧ Does (.xor g k al v) s (alu (o ^^^ v)) ∧ Does (.shl g k al v) s (alu (o <<< (v.toNat % 32))) ∧
      Does (.shr g k al v) s (alu (o >>> (v.toNat % 32))) ∧ Does (.sar g k al v) s (alu (o.sshiftRight (v.toNat % 32))) ∧
      Does (.min g k al v) s (alu (if o.sle v then o else v)) ∧ Does (.max g k al v) s (alu (if o.sle v then v else o)) ∧
      Does (.minu g k al v) s (alu (if o.ule v then o else v)) ∧ Does (.maxu g k al v) s (alu (if o.ule v then v else o))) ∧
    (c.mulO = o.toNat →
      Does (.mul g k v) s (mul (o * v)) ∧ Does (.mulh g k v) s (mul (((o.signExtend 64 * v.signExtend 64) >>> 32).setWidth 32)) ∧
      Does (.mulhu g k v) s (mul (((o.setWidth 64 * v.setWidth 64) >>> 32).setWidth 32)) ∧
      (i < 5 → v ≠ 0 → Does (.div g k v) s (mul (o.sdiv v)) ∧ Does (.divu g k v) s (mul (o / v)) ∧
        Does (.rem g k v) s (mul (o.srem v)) ∧ Does (.remu g k v) s (mul (o % v)))) ∧
    (i < 5 → Does (.div g k 0) s (fun t => t = u.trapCore i ⟨7, 0, 0⟩ false) ∧ Does (.divu g k 0) s (fun t => t = u.trapCore i ⟨7, 0, 0⟩ false) ∧
      Does (.rem g k 0) s (fun t => t = u.trapCore i ⟨7, 0, 0⟩ false) ∧ Does (.remu g k 0) s (fun t => t = u.trapCore i ⟨7, 0, 0⟩ false))

/-- Loads and stores of a core (14 R367; 14 R369; 14 R370; 14 R382; 15 R391; 15 R394). A load from the own memory of a core, aligned and from
a doubleword that reads without an error, leaves the value at r, zero- or sign-extended, and of 64 bits the upper half at rh; nothing else
changes. A store to it writes the bytes of d, and of 64 bits those of dh above them, and every other byte keeps its value. An access of S
or an application core elsewhere, such as the exclusive ones, waits for its response over the fabric, and fence makes the core wait for
its earlier accesses. An access that is not aligned raises FABRIC, and is recorded for S and the application cores. -/
def Obligations.XitreMemory : Prop :=
  ∀ (s : State) (g : Lapse) (k : CoreId) (v : Word),
    let u := s.pass g
    let i := coreIx k
    let c := { u.core i with fence := false }
    let a := v.toNat
    let own := isOwn i a = true ∧ synOf (u.synAt (a / 8 * 8)) = .clean
    let loads := fun (r rh : Nat) (t : State) => t = u.setCore i { c with ldErr := none, lsuR := r, lsuRh := rh }
    let stores := fun (n : Nat) (t : State) => (∀ j, j < n → t.byteAt (a + j) = BitVec.ofNat 8 ((c.lsuD + c.lsuDh * 2 ^ 32) / 256 ^ j)) ∧
      (∀ b, b < a ∨ a + n ≤ b → t.byteAt b = u.byteAt b) ∧ t.xi = (u.setCore i c).xi ∧ t.fab = u.fab
    c.st = .running → u.fenced i = false → c.ldWait = none → c.exWait = false →
    (own → Does (.ld8u g k v) s (loads (u.bytesAt a 1) c.lsuRh) ∧ Does (.ld8s g k v) s (loads ((u.byteAt a).signExtend 32).toNat c.lsuRh)) ∧
    (own → a % 2 = 0 → Does (.ld16u g k v) s (loads (u.bytesAt a 2) c.lsuRh) ∧
      Does (.ld16s g k v) s (loads ((BitVec.ofNat 16 (u.bytesAt a 2)).signExtend 32).toNat c.lsuRh)) ∧
    (own → a % 4 = 0 → Does (.ld32 g k v) s (loads (u.bytesAt a 4) c.lsuRh)) ∧
    (own → a % 8 = 0 → Does (.ld64 g k v) s (loads (u.bytesAt a 4) (u.bytesAt (a + 4) 4))) ∧
    (c.lsuD < 2 ^ 32 → ((u.pendingReqs i).filter (·.write)).length < 8 → own →
      Does (.st8 g k v) s (stores 1) ∧ (a % 2 = 0 → Does (.st16 g k v) s (stores 2)) ∧ (a % 4 = 0 → Does (.st32 g k v) s (stores 4)) ∧
      (a % 8 = 0 → Does (.st64 g k v) s (stores 8))) ∧
    (i < 5 → a % 4 = 0 → regionOf a = some 0 → u.readyReqs false = [] →
      ((i = 0 ∨ u.sandboxOk (i - 1) a false = true) → Does (.ldx g k v) s (fun t => (t.core i).ldWait = some ⟨a, 4, false, true⟩ ∧ (t.core i).lsuR = c.lsuR ∧
        ∃ e, t.fab.inflight = u.fab.inflight ++ [e] ∧ e.req = ⟨(corePort i).1, (corePort i).2, a, 4, false, 0, true⟩ ∧ e.stamp = u.now)) ∧
      ((i = 0 ∨ u.sandboxOk (i - 1) a true = true) → Does (.stx g k v) s (fun t => (t.core i).exWait = true ∧ (t.core i).lsuEx = c.lsuEx ∧
        ∃ e, t.fab.inflight = u.fab.inflight ++ [e] ∧ e.req = ⟨(corePort i).1, (corePort i).2, a, 4, true, c.lsuD % 2 ^ 32, true⟩ ∧ e.stamp = u.now))) ∧
    (own → a % 4 ≠ 0 → Does (.ld32 g k v) s (fun t => t = (u.recordTrap i ⟨6, 4, a⟩).trapCore i ⟨6, 4, a⟩ false)) ∧
    Does (.fence g k v) s (fun t => t = u.setCore i { c with fence := true })

/-- Words, calls, waits and traps of a core (14 R363; 14 R365; 14 R372; 14 R373; 14 R374; 14 R375; 14 R379; 14 R381; 14 R386; 14 R387). A word
of one move from an immediate to a general register writes it and moves the pc on by 4, or to the target of the jump whose last delay slot
it is. A call and a return are pending for two delay slots, or one in a C or VB core. rte leaves the handler at epc. A wait holds the core
until an event of its mask is pending, which it returns and clears, or its time is over, and post sets the SOFT event of another core. A
trap of S saves the pc and the cause and enters the handler; an applet halts on its watchdog and restarts 100 ms later at ENTRY. The
debugger halts a core and lets it run one word. -/
def Obligations.XitreControl : Prop :=
  ∀ (s : State) (g : Lapse) (k : CoreId) (v b : Word),
    let u := s.pass g
    let i := coreIx k
    let c := { u.core i with fence := false }
    let run := c.st = .running ∧ u.fenced i = false
    let at_ := if i = 0 then c.pc else ownBase i + c.pc
    let moves := fun (d x : Nat) (y : Bool) => isOwn i at_ = true ∧ c.pc % 4 = 0 ∧ synOf (u.synAt (at_ / 8 * 8)) = .clean ∧ d < 8 ∧
      moveOf (u.bytesAt at_ 4) = ⟨d, .imm x y, false, true⟩
    let free := c.late = [] ∧ (i < 5 → (u.dbgCore i).ctrl.testBit 0 = false) ∧ u.atBreak i = false
    let pends := fun (f : Flow) (t : State) => t = u.setCore i { c with flow := some f, slots := if i < 5 then 2 else 1 }
    let fits := fun (x : Word) => x.toNat % 4 = 0 ∧ (i = 0 ∨ x.toNat < ownSize i)
    (run → free → c.stepped = false →
      (∀ d x y, moves d x y → c.slots = 0 → Does (.wordIssue g k) s (fun t =>
        t = u.setCore i { c with fence := false, g := c.g.setIfInBounds d x, pc := (c.pc + 4) % 2 ^ 32 })) ∧
      (∀ d x y z, moves d x y → c.slots = 1 → c.flow = some (.jump z) → Does (.wordIssue g k) s (fun t =>
        t = u.setCore i { c with fence := false, g := c.g.setIfInBounds d x, flow := none, slots := 0, pc := z }))) ∧
    (run → c.slots = 0 →
      (∀ m : BitVec 18, c.brT = b.toNat → fits b → m.toNat < 2 ^ 16 → (i < 5 ∨ m = 0) → Does (.call g k (.imm m)) s (pends (.call b.toNat m.toNat))) ∧
      Does (.call g k .other) s (fun t => t = u.trapCore i ⟨2, 0, 0⟩ false) ∧
      Does (.ret g k v) s (pends .ret) ∧
      (k = .s → c.eds = 0 → Does (.rte g k v) s (fun t => t = u.setCore 0 { c with masked := false, pc := c.epc, slots := 0, flow := none })) ∧
      (k = .s → c.masked = false → v.toNat % 256 ≠ 9 → Does (.softwareTrap g k v) s (fun t =>
        t.core 0 = { u.core i with masked := true, epc := c.pc, ecause := v.toNat % 256, eaddr := 0, etgt := 0, eds := 0, eflow := c.flow, flow := none, slots := 0, ldErr := none, stepped := false, pc := c.tvec }))) ∧
    (run → c.evMask < 128 → Does (.wait g k v) s (fun t =>
      t = u.setCore i { c with st := .waiting, waitAt := u.now, waitFor := if v = 0 then none else some v.toNat })) ∧
    (∀ j, run → postTo i v.toNat = some j → Does (.post g k v) s (fun t => t = (u.setCore i c).raiseEv j 6)) ∧
    (c.st = .waiting → c.stepped = false → isC i = false → c.evPend &&& c.evMask ≠ 0 → Does (.waitEnd g k) s (fun t =>
      (t.core i).st = .running ∧ (t.core i).evR = c.evPend &&& c.evMask ∧ ∀ j, (t.core i).evPend.testBit j = (c.evPend.testBit j && !c.evMask.testBit j))) ∧
    (∀ n, c.st = .waiting → c.stepped = false → isC i = false → c.evPend &&& c.evMask = 0 → c.waitFor = some n → c.waitAt + n ≤ u.now → Does (.waitEnd g k) s (fun t =>
      (t.core i).st = .running ∧ (t.core i).evR = 0 ∧ (t.core i).evPend = c.evPend)) ∧
    (∀ code addr l, k = .s → c.st = .running → c.masked = false → 1 ≤ code → code ≤ 7 → c.late = (code, addr) :: l → Does (.lateWriteError g k code addr) s (fun t =>
      (t.core 0).late = l ∧ (t.core 0).ecause = 6 + 256 * code + 2048 ∧ (t.core 0).eaddr = addr ∧ (t.core 0).epc = c.pc ∧ (t.core 0).pc = c.tvec)) ∧
    (∀ n : Fin 4,
      let x := u.core (1 + n)
      (u.pf Pf.appCfg_WDOG n ≠ 0 → x.st = .running → x.busyAt + msTk (u.pf Pf.appCfg_WDOG n) ≤ u.now → Does (.appletWatchdog g n) s (fun t =>
        (t.core (1 + n)).st = .trapped ∧ (t.applet n).cause = 8 ∧ (t.applet n).trapN = satInc 255 (u.applet n).trapN ∧ (t.applet n).pc = x.pc)) ∧
      (∀ r, (u.applet n).restart = some r → r + 20000000 ≤ u.now → u.pb Pf.appCfg_RUN n = true → u.pd 2 = true → Does (.appletRestart g n) s (fun t =>
        (t.core (1 + n)).st = .running ∧ (t.core (1 + n)).pc = 4 * u.pf Pf.appCfg_ENTRY n ∧ (t.applet n).restart = none))) ∧
    (∀ j : Fin 5, u.pd 3 = true → u.portClosed 0x40030100 = false →
      (u.dbg.locked = true → Does (.dbgHaltreq g .super j 1) s (fun t => t = u.accessErr .super 3 (0x40030100 + 0x20 * j))) ∧
      (u.dbg.locked = false → (u.core j).st = .running → Does (.dbgHaltreq g .super j 1) s (fun t =>
        (t.dbgCore j).ctrl = 1 ∧ { t.core j with evPend := (u.core j).evPend } = { u.core j with st := .halted, stepped := true })) ∧
      (∀ d x y, u.dbg.locked = false → i = j → c.st = .halted → u.fenced i = false → c.late = [] → (u.dbgCore j).ctrl.testBit 3 = true → moves d x y → c.slots = 0 →
        Does (.dbgCoreStep g .super j) s (fun t =>
          { t.core j with evPend := c.evPend } = { c with g := c.g.setIfInBounds d x, pc := (c.pc + 4) % 2 ^ 32, st := .halted, stepped := true })))

/-- Compare and branch (14 R371). In a running core that no fence holds, outside a delay slot, a compare-and-branch trigger compares a with
its value v and takes the branch to the target held in t when the condition holds: beq for equal values, bne for different ones, blt and
bge signed, bltu and bgeu unsigned. jmp always takes it, with v as its target. A branch taken is pending for two delay slots, or one in a
C or VB core, and changes nothing else; a branch whose condition fails changes nothing. (A fence of the core that nothing holds any more
ends with any of these words.) A target that the core cannot run raises the trap of cause 2 or, outside its own memory, of cause 4, and a
branch in a delay slot that of cause 2. -/
def Obligations.CompareAndBranch : Prop :=
  ∀ (s : State) (g : Lapse) (k : CoreId) (v a b : Word),
    let u := s.pass g
    let i := coreIx k
    let c := { u.core i with fence := false }
    let on := u.setCore i c
    let jumps := fun (d : Nat) => if d % 4 ≠ 0 then u.trapCore i ⟨2, 0, 0⟩ false else if i ≠ 0 ∧ ownSize i ≤ d then u.trapCore i ⟨4, 0, d⟩ false
      else u.setCore i { c with flow := some (.jump d), slots := if i < 5 then 2 else 1 }
    c.st = .running → u.fenced i = false → c.brA = a.toNat → c.brT = b.toNat →
    (c.slots = 0 → Does (.beq g k v) s (fun t => t = if a = v then jumps b.toNat else on) ∧
      Does (.bne g k v) s (fun t => t = if a = v then on else jumps b.toNat) ∧
      Does (.blt g k v) s (fun t => t = if a.slt v then jumps b.toNat else on) ∧
      Does (.bge g k v) s (fun t => t = if v.sle a then jumps b.toNat else on) ∧
      Does (.bltu g k v) s (fun t => t = if a.ult v then jumps b.toNat else on) ∧
      Does (.bgeu g k v) s (fun t => t = if v.ule a then jumps b.toNat else on) ∧
      Does (.jmp g k v) s (fun t => t = jumps v.toNat)) ∧
    (c.slots ≠ 0 → ∀ cmd ∈ [Instr.beq g k v, .bne g k v, .blt g k v, .bge g k v, .bltu g k v, .bgeu g k v, .jmp g k v],
      Does cmd s (fun t => t = u.trapCore i ⟨2, 0, 0⟩ false))

/-- The other units of a core (14 R366; 14 R377; 14 R378; 15 R405). The CRC unit takes a value at init and one, two or four bytes, least
significant first, through its check; the trigger of the codec leaves a status, absorb extends the message by bytes that it reads and
squeeze writes the next bytes of the output of the hash, the cipher 16 bytes, and every byte outside the destination keeps its value; the
first error response ends such a transfer, is recorded and reaches the core. go starts a DMA channel that is not busy for the core, and
otherwise leaves 1 at r or, with bit 31, the status; stop ends a channel that runs. The die takes a gate command, the blocking mode and
the events acknowledged, and the valve stage the level, the phase and the rail. -/
def Obligations.XitreUnits : Prop :=
  ∀ (s : State) (g : Lapse) (k : CoreId) (v : Word),
    let u := s.pass g
    let i := coreIx k
    let c := { u.core i with fence := false }
    let x := v.toNat
    let on := u.setCore i c
    let mine := fun (a n : Nat) => ∀ b, b < n → isOwn 0 (a + b) = true ∧ synOf (u.synAt ((a + b) / 8 * 8)) = .clean
    let feed := fun (z b : Nat) => if c.crcIn = 0 then crcByte z (b % 256) else crc8Byte (z % 256) (b % 256)
    let runs := fun (j : Nat) => (u.core j).st = .running ∧ u.fenced j = false
    (runs i → i < 5 → c.crcSel < 2 → Does (.crcInit g k v) s (fun t => t = u.setCore i { c with crcS := x, crcIn := c.crcSel })) ∧
    (runs i → i < 5 →
      Does (.crcB8 g k v) s (fun t => t = u.setCore i { c with crcS := feed c.crcS x }) ∧
      Does (.crcB16 g k v) s (fun t => t = u.setCore i { c with crcS := feed (feed c.crcS x) (x / 256) }) ∧
      Does (.crcB32 g k v) s (fun t => t = u.setCore i { c with crcS := feed (feed (feed (feed c.crcS x) (x / 256)) (x / 65536)) (x / 16777216) })) ∧
    (runs i → (k = .s ∨ ∃ n, k = .c n) → Does (.codecStat g k v) s (fun t => ∃ r, t = u.setCore i { c with codR := r })) ∧
    (runs i → k = .s → u.pd 3 = true → u.fab.inflight = [] → u.pd 1 = true → u.fab.closed.testBit 1 = false →
      let old := if u.xi.shOut = 0 then u.xi.shIn else []
      (mine x c.shLen → Does (.shakeAbsorb g k v) s (fun t => t.xi.shIn = old ++ (List.range c.shLen).map (fun b => u.byteAt (x + b)) ∧ t.xi.shOut = 0 ∧
        t.mem = u.mem ∧ ∃ r, t.core i = { c with shR := r })) ∧
      (mine x c.shLen → Does (.shakeSqueeze g k v) s (fun t => t.xi.shIn = u.xi.shIn ∧ t.xi.shOut = u.xi.shOut + c.shLen ∧
        (∀ b, b < c.shLen → t.byteAt (x + b) = Config.shakeOut c.shMode u.xi.shIn (u.xi.shOut + b)) ∧ ∀ b, b < x ∨ x + c.shLen ≤ b → t.byteAt b = u.byteAt b)) ∧
      (mine c.aesSrc 16 → mine x 16 → Does (.aesEnc g k v) s (fun t => t.xi.shIn = u.xi.shIn ∧
        (∀ b, b < 16 → t.byteAt (x + b) = (leBytes 16 (Config.aesOut c.aesKey ((List.range 16).map (fun j => u.byteAt (c.aesSrc + j)))).toNat).getD b 0) ∧
        ∀ b, b < x ∨ x + 16 ≤ b → t.byteAt b = u.byteAt b)) ∧
      (addrDomain x = none → 0 < c.shLen →
        Does (.shakeAbsorb g k v) s (fun t => t.xi.shIn = old ∧ t.dbg = (u.fabErr 1 0 x).dbg ∧ (1, x) ∈ (t.core i).late) ∧
        Does (.shakeSqueeze g k v) s (fun t => t.mem = u.mem ∧ t.dbg = (u.fabErr 1 0 x).dbg ∧ (1, x) ∈ (t.core i).late))) ∧
    (∀ n : Fin 32, runs i → (i = 0 ∨ (i < 5 ∧ u.granted (i - 1) 6 n = true)) →
      ((u.dmaOf n).st ≠ 1 → u.fab.inflight = [] → Does (.dmaGo g k (BitVec.ofNat 32 n)) s (fun t => (t.core i).dmaR = 0 ∧ (t.dmaOf n).starter = i ∧ ∀ m : Fin 32, m ≠ n → t.dmaOf m = u.dmaOf m)) ∧
      ((u.dmaOf n).st = 1 → Does (.dmaGo g k (BitVec.ofNat 32 n)) s (fun t => t = u.setCore i { c with dmaR := 1 })) ∧
      Does (.dmaGo g k (BitVec.ofNat 32 (2 ^ 31 + n))) s (fun t => t = u.setCore i { c with dmaR := (u.dmaOf n).stat }) ∧
      ((u.dmaOf n).st ≠ 1 → Does (.dmaStop g k (BitVec.ofNat 32 n)) s (fun t => t = on)) ∧
      ((u.dmaOf n).st = 1 → Does (.dmaStop g k (BitVec.ofNat 32 n)) s (fun t => (t.dmaOf n).st = 3 ∧ (t.dmaOf n).stopped = true))) ∧
    (∀ n : Fin 64, runs (5 + n) → k = .c n →
      (∀ y, (x, y) ∈ [(0, Gate.off), (1, .drive .high), (2, .drive .low), (3, .drive .fwd), (4, .drive .rev), (5, .brake)] →
        Does (.dieGate g n v) s (fun t => t = on.modChan n (fun z => z.toGate y (.set y) u.now))) ∧
      (5 < x → Does (.dieGate g n v) s (fun t => t = on)) ∧
      Does (.dieRb g n v) s (fun t => t = u.setCore i { c with dieRb := x }) ∧
      Does (.dieAck g n v) s (fun t => (∀ j, (t.core i).dieEv.testBit j = (c.dieEv.testBit j && !x.testBit j)) ∧ ∀ j, j ≠ i → t.core j = u.core j)) ∧
    (∀ b : Fin 4, runs (69 + b) → k = .vb b →
      let m := 4 * b.val + c.vlvSel % 4
      Does (.vlvLevel g b v) s (fun t => t = on.modValve m (fun z => { z with level := x })) ∧
      ((u.valve m).st = .off → Does (.vlvPhase g b v) s (fun t => t = on)) ∧
      Does (.vlvRail g b v) s (fun t => t = on.modBank b (fun z => { z with rail := x })))

/-- Firmware images, the debug token and attestation (16 R412; 16 R413; 16 R414; 16 R415; 16 R416; 16 R418; 16 R420; 16 R421). An accepted
IMG_BEGIN starts a transfer with nothing received, its target RECEIVING; sectors are erased in ascending order; a block that fits joins
the queue, and once programmed its bytes are in flash and its granule in the map, the last of which makes the target RECEIVED. IMG_VERIFY
and the ways of IMG_ACTIVATE wait for their check, which the SHAKE core computes one operation at a time, and disarming takes effect at
once. A check with a wrong signature makes the target INVALID, one that passes makes it VERIFIED; the boot record written names the other
slot and makes the reset due. A trial that has been ready for its time is confirmed. DEBUG_UNLOCK waits for the check of a token received.
An attestation is signed over the nonce given, takes the next serial, and its chunks are read back. -/
def Obligations.FirmwareImages : Prop :=
  ∀ (s : State) (g : Lapse) (q : Rq),
    let u := s.pass g
    let w := u.fw
    let jobs := fun (op unit : Nat) (k : ImgOp) (t : State) => ∃ h, Accepted u q op unit t h ∧ t.fw = { w with jobs := w.jobs ++ [⟨h.num, unit, k, false⟩], shake := t.fw.shake } ∧
      (w.queue = [] → w.jobs = [] → w.sign = none → t.fw.shake = some h.num)
    (∀ b : ImgBegin, Takes u q 0x50 0 (leBytes 1 b.target ++ leBytes 1 b.flags ++ leBytes 2 0 ++ leBytes 4 b.len ++ leBytes 4 b.token ++ leBytes 4 0) →
      u.boot.recovery = false → b.target ≤ 5 → lengthOk (targetKind b.target) b.len = true → (b.target = 0 → u.inTrial = false ∧ w.armed = false) → u.imgPending = false → u.pd 4 = true →
      (b.flags = 0 → Does (.imgBegin g q b) s (fun t =>
        t.fw.xfer = some ⟨b.target, b.len, b.token, [], 0⟩ ∧ t.fw.queue = [] ∧ t.targetSt b.target = .receiving ∧ (b.target = 5 → t.fw.nonce.isSome = true))) ∧
      (∀ m e, b.flags = 1 → b.target ≠ 5 → w.xfer = some ⟨b.target, b.len, b.token, m, e⟩ → Does (.imgBegin g q b) s (fun t => t.fw = w))) ∧
    (∀ x, w.xfer = some x → 65536 * x.erased < x.len → Does (.sectorEraseDone g) s (fun t => t.fw = { w with xfer := some { x with erased := x.erased + 1 } } ∧
      (∀ a, a < u.targetBase x.target + 65536 * x.erased ∨ u.targetBase x.target + 65536 * (x.erased + 1) ≤ a → kvGet a t.mem.cells = kvGet a u.mem.cells) ∧
      ∀ a, u.targetBase x.target + 65536 * x.erased ≤ a → a < u.targetBase x.target + 65536 * (x.erased + 1) → kvGet a t.mem.cells = none)) ∧
    (∀ (b : ImgBlock) x, Takes u q 0x51 0 (leBytes 4 b.token ++ leBytes 4 b.off ++ leBytes 4 b.len ++ leBytes 4 b.crc ++ b.data) → w.xfer = some x → u.boot.recovery = false →
      b.token = x.token → b.off % 4096 = 0 → b.off < x.len → b.len = min 4096 (x.len - b.off) → b.data.length = b.len → crc32c b.data = b.crc → kvGet b.off x.map = none →
      (∀ y ∈ w.queue, y.off ≠ b.off) → w.queue.length < 16 → Does (.imgBlock g q b) s (fun t => t.fw = { w with queue := w.queue ++ [⟨b.off, b.crc, b.data⟩] })) ∧
    (∀ x y rest, w.xfer = some x → w.queue = y :: rest → y.off / 65536 < x.erased → (∀ z ∈ rest, z.off ≠ y.off) →
      Does (.granuleProgrammed g true) s (fun t => t.fw.xfer = some { x with map := kvPut y.off y.crc x.map } ∧ t.fw.queue = rest ∧
        (∀ i, i < y.data.length → t.byteAt (u.targetBase x.target + y.off + i) = y.data.getD i 0) ∧
        (∀ a, a < u.targetBase x.target + y.off ∨ u.targetBase x.target + y.off + y.data.length ≤ a → t.byteAt a = u.byteAt a) ∧
        t.targetSt x.target = (if (kvPut y.off y.crc x.map).length = granules x.len then .received else u.targetSt x.target)) ∧
      Does (.granuleProgrammed g false) s (fun t => t.fw = { w with queue := rest, flashErr := satInc 0xFFFF w.flashErr, shake := t.fw.shake } ∧ t.mem = u.mem)) ∧
    (∀ target, Takes u q 0x52 0 (leBytes 1 target ++ leBytes 3 0) → HasHandle u q → u.boot.recovery = false → target ≤ 4 → u.opPending 0x52 = false →
      checkable (u.targetSt target) = true → u.pd 4 = true → Does (.imgVerify g q target) s (jobs 0x52 target .verify)) ∧
    (∀ j, w.jobs = [j] → j.writing = false → j.op = .verify → w.shake = some j.handle → u.pd 4 = true →
      Does (.verifyDone g false) s (fun t => t.targetSt j.target = .invalid ∧ t.fw.jobs = [] ∧ t.mem = u.mem) ∧
      (u.imgCheck j.target true = none → Does (.verifyDone g true) s (fun t => t.targetSt j.target = .verified ∧ t.fw.jobs = [] ∧ t.mem = u.mem))) ∧
    (∀ mode, Takes u q 0x53 0 (activateBytes 0 mode) → HasHandle u q → u.opPending 0x53 = false → u.pd 4 = true → u.targetSt 0 = .verified → u.inTrial = false →
      (mode = 0 → Does (.imgActivateNow g q 0) s (jobs 0x53 0 .now)) ∧ (mode = 1 → Does (.imgActivateArmed g q 0) s (jobs 0x53 0 .armed)) ∧
      (mode = 2 → w.armed = true → Does (.imgActivateDisarm g q 0) s (fun t => t.fw = { w with armed := false }))) ∧
    (∀ target mode, Takes u q 0x53 0 (activateBytes target mode) → HasHandle u q → u.boot.recovery = false → 1 ≤ target → target ≤ 4 → mode ≤ 2 → u.opPending 0x53 = false →
      u.pd 4 = true → u.pb Pf.appCfg_RUN (target - 1) = false → u.targetSt target = .verified → Does (.imgActivateApplet g q target mode) s (jobs 0x53 target .applet)) ∧
    (∀ j, w.jobs = [j] → j.writing = true → Does (.bootRecordWritten g) s (fun t =>
      t.fw = { w with named := 1 - w.run, trial := 1, jobs := [], resetAt := some u.now, shake := t.fw.shake } ∧ t.boot = { u.boot with holdRec := u.boot.holdPd0 })) ∧
    (u.inTrial = true → u.pf Pf.fwCfg_CONFIRM_S ≠ 0 → secTk (u.pf Pf.fwCfg_CONFIRM_S) ≤ u.readyFor → Does (.trialConfirmTimer g) s (fun t =>
      t.image.st = .active ∧ t.fw.trial = 0 ∧ t.fw.rollback = max w.rollback u.image.rollback ∧ t.fw.revoked = w.revoked ||| u.image.revoke)) ∧
    (Takes u q 0x5C 0 [] → HasHandle u q → u.opPending 0x5C = false → u.pd 4 = true →
      (w.token.st = .received → Does (.debugUnlock g q) s (jobs 0x5C 5 .unlock)) ∧
      (w.token.st ≠ .received → Does (.debugUnlock g q) s (fun t => t.fw.nonce = none ∧ t.dbg = u.dbg))) ∧
    (∀ nonce, Takes u q 0x58 0 (leBytes 4 0 ++ leBytes 32 nonce) → HasHandle u q → u.opPending 0x58 = false → u.pd 4 = true → Does (.attestSign g q nonce) s (fun t =>
      ∃ h body, Accepted u q 0x58 0 t h ∧ t.fw = { w with report := none, sign := some ⟨h.num, body⟩, shake := t.fw.shake } ∧ (body.drop 28).take 32 = leBytes 32 nonce)) ∧
    (∀ j, w.sign = some j → w.shake = some j.handle → u.pd 4 = true → Does (.attestSignDone g) s (fun t =>
      t.fw = { w with sign := none, serial := (w.serial + 1) % 65536, report := some ((w.serial + 1) % 65536, j.body), shake := t.fw.shake })) ∧
    (∀ chunk n body, Takes u q 0x58 0 (leBytes 2 1 ++ leBytes 2 chunk ++ leBytes 32 0) → chunk ≤ 7 → u.atlas.handles = [] → w.report = some (n, body) →
      Does (.attestChunk g q chunk) s (fun t => t.fw = w ∧ ∃ h ∈ t.atlas.handles, h.op = 0x58 ∧
        h.phase = .done u.now St.ok (leBytes 2 n ++ leBytes 2 chunk ++ leBytes 4 0 ++ ((reportBytes body).drop (4096 * chunk)).take 4096)))

/-- Read-only and write-only parameters (03 R88). A write to an RO parameter with the type and the length of the table, alone or in a set, is
answered READ_ONLY and changes no parameter. A read of a WO parameter is answered with status OK and the value 0; of `eth[k].cable`, whose
result fields are RO, the WO field reads 0 and the result as it stands. -/
def Obligations.ReadOnlyAndWriteOnly : Prop :=
  ∀ (s : State) (g : Lapse) (q : Rq) (id idx : Nat) (f : FamSpec) (i : Nat) (p : ParSpec),
    let u := s.pass g
    let v := u.touch q.ses
    let rd := leBytes 2 id ++ leBytes 2 idx
    parSpec id idx = some (f, i, p) → 1 ≤ v.be →
    (∀ x, let w : ParWrite := ⟨id, idx, p.type, p.vlen, x⟩; p.acc = .ro →
      (Takes u q 0x11 0 (entryBytes w) → Does (.paramWrite g q w) s (fun t =>
        t = v.answer (u.direct q 0x11 0 (entryBytes w)) St.readOnly 0 rd ∧ t.par = u.par)) ∧
      (Takes u q 0x13 0 (leBytes 2 1 ++ [entryBytes w].flatten) → Does (.paramWriteSet g q [w]) s (fun t =>
        (∃ r, t = v.answer r St.readOnly 0 (leBytes 2 0)) ∧ t.par = u.par))) ∧
    (p.acc = .wo → (p.type = 12 ∨ idx = 0) → Takes u q 0x10 0 rd →
      (f.base ≠ 0x3400 → Does (.paramRead g q id idx) s (fun t =>
        t = v.answer (u.direct q 0x10 0 rd) St.ok 0 (rd ++ leBytes 1 p.type ++ leBytes 1 0 ++ leBytes 2 p.vlen ++ leBytes p.vlen 0))) ∧
      (f.base = 0x3400 → Does (.paramRead g q id idx) s (fun t => ∃ x, x.testBit 0 = false ∧
        t = v.answer (u.direct q 0x10 0 rd) St.ok 0 (rd ++ leBytes 1 p.type ++ leBytes 1 0 ++ leBytes 2 p.vlen ++ leBytes p.vlen x))))

/-- A composite exists while EN is 1 (05 R133). OFF, ON, LOW, CLEAR and PULSE, with a valid option and deadline, naming a composite whose EN
is 0 are refused with STATE, and nothing else happens; a command that no composite takes, or with another option or deadline, is refused
with RANGE first (04 R107). While EN is 1, the composite exists: a OFF of it, in a device that has its leaves, passes the checks of
CHAN_CMD where it is in no other composite and the session may use it. -/
def Obligations.CompositeExists : Prop :=
  ∀ (s : State) (g : Lapse) (q : Rq) (c : UnitCmd),
    let u := s.pass g
    let v := u.touch q.ses
    let r := fun (k : Nat) => u.direct q 0x20 0 (unitCmdPayload c k)
    let refused := fun (i : Instr) (k st : Nat) => Takes u q 0x20 0 (unitCmdPayload c k) → Does i s (fun t => t = v.answer (r k) st 0 [])
    64 ≤ c.unit → c.unit ≤ 95 →
    ((u.compOf (c.unit - 64)).en = false →
      (c.opt ≤ 1 → c.deadline ≤ 60000 →
        refused (.chanOff g q c) 0 St.state ∧ refused (.chanOn g q c) 1 St.state ∧ refused (.chanLow g q c) 2 St.state ∧
        refused (.chanClear g q c) 6 St.state ∧ refused (.chanPulse g q c) 0x10 St.state) ∧
      (1 < c.opt ∨ 60000 < c.deadline →
        refused (.chanOff g q c) 0 St.range ∧ refused (.chanOn g q c) 1 St.range ∧ refused (.chanLow g q c) 2 St.range ∧
        refused (.chanClear g q c) 6 St.range ∧ refused (.chanPulse g q c) 0x10 St.range) ∧
      refused (.chanForward g q c) 3 St.range ∧ refused (.chanReverse g q c) 4 St.range ∧ refused (.chanBrake g q c) 5 St.range) ∧
    ((u.compOf (c.unit - 64)).en = true → c.opt ≤ 1 → c.deadline ≤ 60000 → u.parentOf c.unit = none →
      (∀ n ∈ u.leavesOf c.unit, u.pd (10 + dieOf n) = true ∧ u.boot.stuck.contains (5 + n) = false) → u.mayUse (r 0) 1 c.unit = true →
      u.chanCheck (r 0) c 0 = none)

/-- A session holds at most 256 handles (03 R78). In a state in which every session holds at most 256 handles, and the four together at most
1,024, every step that answers a next state leaves one in which both hold again; and a long operation of a session that holds 256 is
answered NO_HANDLE and not started: nothing but the answer happens. -/
def Obligations.HandleLimit : Prop :=
  (∀ (s t : State), (∀ i, i < 4 → s.handleCount i ≤ 256) → (∀ h ∈ s.atlas.handles, h.ses < 4) → step s = .next t →
    (∀ i, i < 4 → t.handleCount i ≤ 256) ∧ (∀ h ∈ t.atlas.handles, h.ses < 4) ∧ t.atlas.handles.length ≤ 1024) ∧
  (∀ (s : State) (g : Lapse) (q : Rq) (c : UnitCmd) (k : Nat),
    let u := s.pass g
    let v := u.touch q.ses
    let none_ := fun (op : Nat) (p : List Byte) (i : Instr) => Takes u q op 0 p → Does i s (fun t => t = v.answer (u.direct q op 0 p) St.noHandle 0 [])
    u.handleCount q.ses = 256 →
    (v.opPending 0x15 = false → none_ 0x15 [] (.paramCommit g q)) ∧
    (v.opPending 0x60 = false → none_ 0x60 (leBytes 2 k) (.fleetCommit g q k)) ∧
    (∀ x ∈ [(Instr.chanOff g q c, 0), (.chanOn g q c, 1), (.chanLow g q c, 2), (.chanForward g q c, 3), (.chanReverse g q c, 4), (.chanBrake g q c, 5), (.chanClear g q c, 6), (.chanPulse g q c, 0x10)],
      v.chanCheck (u.direct q 0x20 0 (unitCmdPayload c x.2)) c x.2 = none → none_ 0x20 (unitCmdPayload c x.2) x.1) ∧
    (∀ x ∈ [(Instr.valveOff g q c, 0), (.valveAct g q c, 1), (.valveClear g q c, 6)],
      let p := leBytes 2 c.unit ++ leBytes 1 x.2 ++ leBytes 1 c.opt ++ leBytes 4 c.deadline
      v.valveCheck (u.direct q 0x21 0 p) c x.2 = none → none_ 0x21 p x.1) ∧
    (v.powerCheck (u.direct q 0x68 0 (powerReqBytes 0 0)) 0 0 = none → none_ 0x68 (powerReqBytes 0 0) (.powerReqRun g q 0)) ∧
    (v.opPending 0x5C = false → v.pd 4 = true → v.fw.token.st ≠ .received → none_ 0x5C [] (.debugUnlock g q)) ∧
    (v.opPending 0x58 = false → v.pd 4 = true → none_ 0x58 (leBytes 4 0 ++ leBytes 32 k) (.attestSign g q k)) ∧
    (v.opPending 0x58 = false → k ≤ 7 → none_ 0x58 (leBytes 2 1 ++ leBytes 2 k ++ leBytes 32 0) (.attestChunk g q k)))

/-- A step runs the command at the front of the queue (01 R21; 02 R46). A step of a state with a command at the front of its queue is that
command on the state with the rest of the queue. An empty queue idles: that is the choice of the model (entry 1). -/
def Obligations.StepTakesFront : Prop :=
  (∀ (c : Instr) (rest : List Instr) (s : State), step { s with pending := c :: rest } = exec c { s with pending := rest }) ∧
  (∀ s : State, s.pending = [] → step s = .next s)

/-- Moves and their words (14 R363). The word of a legal move fits in 32 bits and decodes to that move, for every port, every short and every
upper immediate, with and without STOP; and every 32-bit word that decodes without a reserved field decodes to a legal move whose word it
is, so no two words spell one move. -/
def Obligations.MoveWords : Prop :=
  (∀ m : Move, m.legal → m.word < 2 ^ 32 ∧ moveOf m.word = m) ∧
  (∀ w, w < 2 ^ 32 → (moveOf w).bad = false → (moveOf w).legal ∧ (moveOf w).word = w) ∧
  (∀ w, w < 2 ^ 32 → (w.testBit 30 = true ∨ bitsOf w 18 2 = 3 ∨ (bitsOf w 18 2 = 0 ∧ bitsOf w 10 8 ≠ 0)) → (moveOf w).bad = true)

/-- The state right after reset (02 R55; 02 R57; 03 R95; 03 R97; 04 R103; 07 R196; 09 R239; 14 R387; 15 R402). After reset the device is at
the beginning of its start with PD0 alone on, with the AON counter and the time base at 0, operating point 1 in every paced domain, every
session window free and its session closed, no handle, the debug lock set, every load channel and every valve OFF, every core that an
application or the supervisor runs halted, each parameter at the default of the table in its working and in its stored copy, and no byte
of memory listed. That the queue is empty, and that a state for which the spec gives no value is 0, are choices of the model (entries 1
and 2). -/
def Obligations.ResetValues : Prop :=
  let s := State.reset
  s.pwr.st = .start ∧ s.pwr.pdOn = 1 ∧ s.boot.phase = 0 ∧ s.clk.aon = 0 ∧ s.clk.tb = 0 ∧ s.clk.run = false ∧
  (∀ p : Fin 16, (s.paceOf p).opreq = 1 ∧ (s.paceOf p).volt = 1 ∧ (s.paceOf p).cap = 1 ∧ (s.paceOf p).settled = true ∧ (s.paceOf p).err = 0) ∧
  (∀ i : Fin 4, (s.ses i).isOpen = false ∧ (s.ses i).owner = 0xF ∧ (s.ses i).busy = false ∧ (s.ses i).posted = none) ∧
  s.atlas.handles = [] ∧ s.dbg.locked = true ∧
  (∀ n : Fin 64, (s.chan n).st = .off ∧ (s.chan n).gate = .off) ∧ (∀ v : Fin 16, (s.valve v).st = .off) ∧
  (∀ i : Fin 5, (s.core i).st = .halted) ∧
  (∀ id idx, s.parOf id idx = parDefault id idx ∧ s.storedOf id idx = parDefault id idx) ∧
  s.mem.cells = [] ∧ s.pending = []

/-- The memories and the parameters have their canonical form at reset (03 R85; 15 R393). The lists of the bytes, of the check bits, of the
working and of the stored values of the state after reset are in the canonical form of the model. -/
def Obligations.CanonAtReset : Prop :=
  State.reset.Canon

/-- Every step keeps the canonical form (03 R85; 15 R391). In a state whose lists of bytes, of check bits, of working and of stored values
rise strictly, every step that answers a next state leaves lists that rise strictly: no address and no parameter has two values. -/
def Obligations.CanonKept : Prop :=
  ∀ (s t : State), s.Canon → step s = .next t → t.Canon

/-- What a command leaves as it was (02 R46; 03 R73; 04 R98; 14 R365). Once its time has passed, a command changes no part of the state
outside the list that `touches` gives for it: the clocks, the pace records, the fabric, the sessions, the parameters, the error records,
the channels and generators, the heat budget, the contour, the valves, the lights, the power states, the inputs, the networks, the access
system, the cores, the memories, the DMA channels, the start, the firmware, the interlock and the twin link. -/
def Obligations.Frames : Prop :=
  ∀ (c : Instr) (s t : State), exec c s = .next t → ∀ p ∈ allParts, p ∉ touches c → Part.same p (s.pass (lapseOf c)) t

/-- No command stops, none touches the queue, and bytes change only where a command may store (02 R36; 15 R391). Every command answers a next
state in every state, with the queue as it was; and a command that may not change the bytes of a memory leaves the byte at every address
as it reads. -/
def Obligations.QueueAndBytes : Prop :=
  (∀ (c : Instr) (s : State), Does c s (fun t => t.pending = s.pending)) ∧ (∀ s : State, Goes (step s)) ∧
  (∀ (c : Instr) (s : State), .bytes ∉ touches c → Does c s (fun t => ∀ a, t.byteAt a = s.byteAt a))
end

