-- ==== Sys2Proof/Laws/Mem.lean ====
section
/-!
SUPPORT. The canonical form of the memories and of the parameter stores: every operation on their lists keeps it, a byte reads as it was
last written, and a write leaves every other byte.
-/
namespace Sys2Proof.Machine

/-- A list of key and value pairs in canonical form: keys strictly rising. -/
abbrev Rising {α : Type} (l : List (Nat × α)) : Prop := l.Pairwise (fun a b => a.1 < b.1)

/-! ### The lists -/

/-- A key of a list after an insertion is the new key or an old one. -/
theorem mem_kvPut {α : Type} {k : Nat} {v : α} {l : List (Nat × α)} {x : Nat × α} (h : x ∈ kvPut k v l) : x = (k, v) ∨ x ∈ l := by
  induction l with
  | nil => exact .inl (by simpa [kvPut] using h)
  | cons y l ih =>
    obtain ⟨k', v'⟩ := y
    unfold kvPut at h
    split at h
    · simpa using h
    · split at h
      · rcases List.mem_cons.mp h with h | h
        · exact .inl h
        · exact .inr (List.mem_cons_of_mem _ h)
      · rcases List.mem_cons.mp h with h | h
        · exact .inr (h ▸ List.mem_cons_self)
        · exact (ih h).imp id (List.mem_cons_of_mem _)

/-- An insertion keeps the form. -/
theorem rising_kvPut {α : Type} {k : Nat} {v : α} {l : List (Nat × α)} (h : Rising l) : Rising (kvPut k v l) := by
  induction l with
  | nil => simp [kvPut]
  | cons y l ih =>
    obtain ⟨k', v'⟩ := y
    obtain ⟨hy, hl⟩ := List.pairwise_cons.mp h
    unfold kvPut
    split
    · rename_i hk
      refine List.pairwise_cons.mpr ⟨fun x hx => ?_, h⟩
      rcases List.mem_cons.mp hx with rfl | hx
      · exact hk
      · exact Nat.lt_trans hk (hy x hx)
    · split
      · rename_i he
        exact List.pairwise_cons.mpr ⟨fun x hx => he ▸ hy x hx, hl⟩
      · refine List.pairwise_cons.mpr ⟨fun x hx => ?_, ih hl⟩
        rcases mem_kvPut hx with rfl | hx
        · simp only; omega
        · exact hy x hx

/-- A removal leaves a part of the list. -/
theorem kvDel_sublist {α : Type} (k : Nat) (l : List (Nat × α)) : (kvDel k l).Sublist l := by
  induction l with
  | nil => exact List.Sublist.slnil
  | cons y l ih =>
    unfold kvDel
    split
    · exact List.sublist_cons_self ..
    · exact ih.cons_cons _

/-- A removal keeps the form. -/
theorem rising_kvDel {α : Type} {k : Nat} {l : List (Nat × α)} (h : Rising l) : Rising (kvDel k l) := h.sublist (kvDel_sublist k l)

/-- Leaving entries out keeps the form. -/
theorem rising_filter {α : Type} {p : Nat × α → Bool} {l : List (Nat × α)} (h : Rising l) : Rising (l.filter p) := h.sublist List.filter_sublist

/-- A lookup after an insertion of the same key. -/
theorem kvGet_kvPut_self {α : Type} (k : Nat) (v : α) (l : List (Nat × α)) : kvGet k (kvPut k v l) = some v := by
  induction l with
  | nil => simp [kvPut, kvGet]
  | cons y l ih =>
    obtain ⟨k', v'⟩ := y
    unfold kvPut
    split
    · simp [kvGet]
    · split
      · simp [kvGet]
      · rename_i hne
        simp [kvGet, hne, ih]

/-- A lookup of another key after an insertion. -/
theorem kvGet_kvPut_ne {α : Type} {j k : Nat} (v : α) (l : List (Nat × α)) (h : j ≠ k) : kvGet j (kvPut k v l) = kvGet j l := by
  induction l with
  | nil => simp [kvPut, kvGet, h]
  | cons y l ih =>
    obtain ⟨k', v'⟩ := y
    unfold kvPut
    split
    · simp [kvGet, h]
    · split
      · rename_i he
        simp [kvGet, h, ← he]
      · simp [kvGet, ih]

/-- Entries at rising places between two bounds, between what lies below and above, are in the form. -/
theorem rising_splice {α : Type} {l m : List (Nat × α)} {a b : Nat} (h : Rising l) (hm : Rising m) (hb : ∀ x ∈ m, a ≤ x.1 ∧ x.1 < b)
    (hab : a ≤ b) : Rising (l.filter (fun c => c.1 < a) ++ m ++ l.filter (fun c => b ≤ c.1)) := by
  refine List.pairwise_append.mpr ⟨List.pairwise_append.mpr ⟨rising_filter h, hm, fun x hx y hy => ?_⟩, rising_filter h, fun x hx y hy => ?_⟩
  · have hx' := (List.mem_filter.mp hx).2
    have hy' := (hb y hy).1
    simp only [decide_eq_true_eq] at hx'
    omega
  · have hy' := (List.mem_filter.mp hy).2
    simp only [decide_eq_true_eq] at hy'
    rcases List.mem_append.mp hx with hx | hx
    · have hx' := (List.mem_filter.mp hx).2
      simp only [decide_eq_true_eq] at hx'
      omega
    · have hx' := (hb x hx).2
      omega

/-- A run of entries, `w` apart, from a place on. -/
def spread {α β : Type} (a w : Nat) (f : α → β) (vs : List α) : List (Nat × β) := vs.zipIdx.map (fun p => (a + w * p.2, f p.1))

/-- Its places rise. -/
theorem rising_spread {α β : Type} {a w : Nat} {f : α → β} {vs : List α} (hw : 0 < w) : Rising (spread a w f vs) := by
  refine List.pairwise_map.mpr (List.pairwise_iff_getElem.mpr fun i j hi hj hij => ?_)
  simp only [List.getElem_zipIdx, Nat.zero_add]
  exact Nat.add_lt_add_left (Nat.mul_lt_mul_of_pos_left hij hw) a

/-- And they lie within its length. -/
theorem mem_spread {α β : Type} {a w : Nat} {f : α → β} {vs : List α} {x : Nat × β} (hw : 0 < w) (h : x ∈ spread a w f vs) :
    a ≤ x.1 ∧ x.1 < a + w * vs.length := by
  obtain ⟨p, hp, rfl⟩ := List.mem_map.mp h
  have := (List.mem_zipIdx hp).2.1
  exact ⟨Nat.le_add_right .., Nat.add_lt_add_left (Nat.mul_lt_mul_of_pos_left (by omega) hw) a⟩

/-- Writing a run of bytes keeps the form. -/
theorem rising_putCells {cs : List Host.Cell} {a : Nat} {bs : List Byte} (h : Rising cs) : Rising (putCells cs a bs) := by
  have e : bs.zipIdx.map (fun p => (a + p.2, p.1)) = spread a 1 id bs := by simp [spread]
  rw [putCells, e]
  exact rising_splice h (rising_spread (by decide)) (fun x hx => by simpa using mem_spread (by decide) hx) (Nat.le_add_right ..)

/-- Losing a run of bytes keeps the form. -/
theorem rising_dropCells {cs : List Host.Cell} {a n : Nat} (h : Rising cs) : Rising (dropCells cs a n) := rising_filter h

/-! ### Lookups -/

/-- A lookup looks in the first part of a list first. -/
theorem kvGet_append {α : Type} (k : Nat) (l m : List (Nat × α)) : kvGet k (l ++ m) = (kvGet k l).or (kvGet k m) := by
  induction l with
  | nil => simp [kvGet]
  | cons y l ih =>
    simp only [List.cons_append, kvGet]
    split
    · simp
    · exact ih

/-- A lookup in the entries whose keys have a property. -/
theorem kvGet_filter {α : Type} (k : Nat) (p : Nat → Bool) (l : List (Nat × α)) :
    kvGet k (l.filter (fun c => p c.1)) = if p k then kvGet k l else none := by
  induction l with
  | nil => simp [kvGet]
  | cons y l ih =>
    simp only [List.filter_cons]
    split
    · simp only [kvGet]
      split
      · rename_i hy hk
        simp [hk, hy]
      · exact ih
    · rename_i hy
      rw [ih]
      split
      · rename_i hk
        have hne : k ≠ y.1 := fun e => hy (e ▸ hk)
        simp [kvGet, hne]
      · rfl

/-- A lookup in a run of bytes. -/
theorem kvGet_bytes (x a n : Nat) (bs : List Byte) :
    kvGet x ((bs.zipIdx n).map (fun p => (a + p.2, p.1))) = if a + n ≤ x then bs[x - (a + n)]? else none := by
  induction bs generalizing n with
  | nil => simp [kvGet]
  | cons b bs ih =>
    simp only [List.zipIdx_cons, List.map_cons, kvGet]
    split
    · rename_i h
      simp [h]
    · rename_i h
      rw [ih]
      by_cases hle : a + n ≤ x
      · have hsub : x - (a + n) = (x - (a + (n + 1))) + 1 := by omega
        rw [if_pos hle, if_pos (by omega), hsub, List.getElem?_cons_succ]
      · rw [if_neg hle, if_neg (by omega)]

/-- A byte of a run that was just written reads as it was written. -/
theorem kvGet_putCells_in {cs : List Host.Cell} {a x : Nat} {bs : List Byte} (h1 : a ≤ x) (h2 : x < a + bs.length) :
    kvGet x (putCells cs a bs) = bs[x - a]? := by
  rw [putCells, kvGet_append, kvGet_append, kvGet_filter x (fun k => decide (k < a)), kvGet_bytes x a 0, kvGet_filter x (fun k => decide (a + bs.length ≤ k))]
  have hx : x - a < bs.length := by omega
  simp [Nat.not_lt.mpr h1, h1, List.getElem?_eq_getElem hx]

/-- Every other byte reads as before. -/
theorem kvGet_putCells_out {cs : List Host.Cell} {a x : Nat} {bs : List Byte} (h : x < a ∨ a + bs.length ≤ x) :
    kvGet x (putCells cs a bs) = kvGet x cs := by
  rw [putCells, kvGet_append, kvGet_append, kvGet_filter x (fun k => decide (k < a)), kvGet_bytes x a 0, kvGet_filter x (fun k => decide (a + bs.length ≤ k))]
  rcases h with h | h
  · have h1 : ¬ a ≤ x := by omega
    have h2 : ¬ a + bs.length ≤ x := by omega
    simp [h, h1, h2]
  · have h1 : ¬ x < a := by omega
    have h2 : a ≤ x := by omega
    have h3 : bs[x - a]? = none := List.getElem?_eq_none (by omega)
    simp [h, h1, h2, h3]

/-- Length of a run of little-endian bytes. -/
theorem length_leBytes (n v : Nat) : (leBytes n v).length = n := by
  induction n generalizing v with
  | zero => rfl
  | succ n ih => simp [leBytes, ih]

/-! ### Reads after writes (15 R391 to R394) -/

/-- A doubleword that was stored reads back byte by byte. -/
theorem State.byteAt_storeRaw_in {s : State} {a d c x : Nat} (h1 : a ≤ x) (h2 : x < a + 8) :
    some ((s.storeRaw a d c).byteAt x) = (leBytes 8 d)[x - a]? := by
  have hl := length_leBytes 8 d
  have e := kvGet_putCells_in (cs := s.mem.cells) (bs := leBytes 8 d) h1 (by omega)
  have hx : x - a < (leBytes 8 d).length := by omega
  simp only [State.byteAt, State.storeRaw, e, List.getElem?_eq_getElem hx, Option.getD_some]

/-- Storing a doubleword leaves every other byte. -/
theorem State.byteAt_storeRaw_out {s : State} {a d c x : Nat} (h : x < a ∨ a + 8 ≤ x) : (s.storeRaw a d c).byteAt x = s.byteAt x := by
  have hl := length_leBytes 8 d
  simp only [State.byteAt, State.storeRaw, kvGet_putCells_out (bs := leBytes 8 d) (by omega : x < a ∨ a + (leBytes 8 d).length ≤ x)]

/-- The check bits of a stored doubleword. -/
theorem State.chk_storeRaw {s : State} {a d c : Nat} : kvGet a (s.storeRaw a d c).mem.chk = some c := kvGet_kvPut_self ..

end Sys2Proof.Machine
end

