-- ==== Sys2Proof/Laws/Only.lean ====
section
/-!
SUPPORT. What an operation leaves as it was: from one state to another only the parts of a list change. The relation composes, so that each
operation has one lemma, which says everything that it can change; the lemmas of the operations follow in OnlyA to OnlyD.
-/
namespace Sys2Proof.Machine

/-- From one state to another, only the parts of a list change. -/
structure Only (l : List Part) (s t : State) : Prop where
  same : ∀ p, p ∉ l → p.same s t

theorem Part.same_refl (p : Part) (s : State) : p.same s s := by
  cases p <;> simp [Part.same]

theorem Part.same_trans {p : Part} {s t u : State} (h : p.same s t) (k : p.same t u) : p.same s u := by
  cases p <;> simp only [Part.same] at h k ⊢
  case regs =>
    obtain ⟨h1, h2, h3, h4⟩ := h
    obtain ⟨k1, k2, k3, k4⟩ := k
    exact ⟨k1.trans h1, k2.trans h2, k3.trans h3, fun i => (k4 i).trans (h4 i)⟩
  case evs => exact fun i => ⟨(k i).1.trans (h i).1, (k i).2.trans (h i).2⟩
  case bytes => exact ⟨k.1.trans h.1, k.2.1.trans h.2.1, k.2.2.trans h.2.2⟩
  all_goals exact k.trans h

theorem Part.regs_of {s t : State} (h : t.xi = s.xi) : Part.regs.same s t := by
  simp [Part.same, State.core, h]

theorem Part.evs_of {s t : State} (h : t.xi.core = s.xi.core) : Part.evs.same s t := by
  simp [Part.same, State.core, h]

theorem Only.refl (l : List Part) (s : State) : Only l s s := ⟨fun p _ => p.same_refl s⟩

theorem Only.after {l k : List Part} {s t u : State} (h : Only l s t) (f : Only k t u) (sub : k ⊆ l) : Only l s u :=
  ⟨fun p hp => Part.same_trans (h.same p hp) (f.same p (fun hk => hp (sub hk)))⟩

/-- A record update. -/
theorem Only.upd {l : List Part} {s t : State} {a0 a1 a2 a3 a4 a5 a6 a7 a8 a9 a10 a11 a12 a13 a14 a15 a16 a17 a18 a19 a20 a21 a22 a23 a24}
    (h : Only l s t)
    (k : ∀ p, p ∉ l → p.same t ⟨a0, a1, a2, a3, a4, a5, a6, a7, a8, a9, a10, a11, a12, a13, a14, a15, a16, a17, a18, a19, a20, a21, a22, a23, a24, t.pending⟩) :
    Only l s ⟨a0, a1, a2, a3, a4, a5, a6, a7, a8, a9, a10, a11, a12, a13, a14, a15, a16, a17, a18, a19, a20, a21, a22, a23, a24, t.pending⟩ :=
  h.after ⟨k⟩ (fun _ h => h)

theorem Only.ite {l : List Part} {s t u : State} {c : Prop} [Decidable c] (h : Only l s t) (k : Only l s u) : Only l s (if c then t else u) := by
  split <;> assumption

theorem Only.foldl {α : Type} {l : List Part} {s t : State} {f : State → α → State} {xs : List α} (h : Only l s t)
    (k : ∀ t x, Only l t (f t x)) : Only l s (xs.foldl f t) := by
  induction xs generalizing t with
  | nil => exact h
  | cons x xs ih => exact ih (h.after (k t x) (fun _ h => h))

/-- The same of an operation that answers more than a state. -/
structure OnlyP {α : Type} (l : List Part) (s : State) (x : State × α) : Prop where
  fst : Only l s x.1

theorem OnlyP.pair {α : Type} {l : List Part} {s t : State} {x : α} (h : Only l s t) : OnlyP l s (t, x) := ⟨h⟩

theorem OnlyP.after {α : Type} {l k : List Part} {s t : State} {x : State × α} (h : Only l s t) (f : OnlyP k t x) (sub : k ⊆ l) : OnlyP l s x :=
  ⟨Only.after h f.fst sub⟩

theorem Only.fst {α : Type} {l : List Part} {s : State} {x : State × α} (h : OnlyP l s x) : Only l s x.1 := h.fst

theorem Only.of_pair {α : Type} {l : List Part} {s t : State} {x : α} {e : State × α} (q : e = (t, x)) (h : OnlyP l s e) : Only l s t := by
  subst q; exact h.fst

theorem OnlyP.ite {α : Type} {l : List Part} {s : State} {t u : State × α} {c : Prop} [Decidable c] (h : OnlyP l s t) (k : OnlyP l s u) :
    OnlyP l s (if c then t else u) := by
  split <;> assumption


theorem OnlyP.foldl {α β : Type} {l : List Part} {s : State} {p : State × α} {f : State × α → β → State × α} {xs : List β} (h : OnlyP l s p)
    (k : ∀ q x, OnlyP l q.1 (f q x)) : OnlyP l s (xs.foldl f p) := by
  induction xs generalizing p with
  | nil => exact h
  | cons x xs ih => exact ih ((h.fst.after (k p x).fst (fun _ h => h)) |> OnlyP.mk)

/-! ### Updates of one field -/

theorem Only.put_clk {l : List Part} {s t : State} {a : TimeBase} (h : Only l s t) (sub : [.clk] ⊆ l) : Only l s { t with clk := a } := by
  refine Only.upd h (fun p hp => ?_)
  cases p <;> first | exact absurd (sub (by decide)) hp | (with_reducible apply Part.regs_of; exact rfl) | (with_reducible apply Part.evs_of; exact rfl) | exact rfl | exact ⟨rfl, rfl, rfl⟩

theorem Only.put_pace {l : List Part} {s t : State} {a : Vector PaceRec 16} (h : Only l s t) (sub : [.pace] ⊆ l) : Only l s { t with pace := a } := by
  refine Only.upd h (fun p hp => ?_)
  cases p <;> first | exact absurd (sub (by decide)) hp | (with_reducible apply Part.regs_of; exact rfl) | (with_reducible apply Part.evs_of; exact rfl) | exact rfl | exact ⟨rfl, rfl, rfl⟩

theorem Only.put_fab {l : List Part} {s t : State} {a : Fabric} (h : Only l s t) (sub : [.fab] ⊆ l) : Only l s { t with fab := a } := by
  refine Only.upd h (fun p hp => ?_)
  cases p <;> first | exact absurd (sub (by decide)) hp | (with_reducible apply Part.regs_of; exact rfl) | (with_reducible apply Part.evs_of; exact rfl) | exact rfl | exact ⟨rfl, rfl, rfl⟩

theorem Only.put_atlas {l : List Part} {s t : State} {a : Atlas} (h : Only l s t) (sub : [.atlas] ⊆ l) : Only l s { t with atlas := a } := by
  refine Only.upd h (fun p hp => ?_)
  cases p <;> first | exact absurd (sub (by decide)) hp | (with_reducible apply Part.regs_of; exact rfl) | (with_reducible apply Part.evs_of; exact rfl) | exact rfl | exact ⟨rfl, rfl, rfl⟩

theorem Only.put_par {l : List Part} {s t : State} {a : ParStore} (h : Only l s t) (sub : [.par] ⊆ l) : Only l s { t with par := a } := by
  refine Only.upd h (fun p hp => ?_)
  cases p <;> first | exact absurd (sub (by decide)) hp | (with_reducible apply Part.regs_of; exact rfl) | (with_reducible apply Part.evs_of; exact rfl) | exact rfl | exact ⟨rfl, rfl, rfl⟩

theorem Only.put_dbg {l : List Part} {s t : State} {a : Dbg} (h : Only l s t) (sub : [.dbg] ⊆ l) : Only l s { t with dbg := a } := by
  refine Only.upd h (fun p hp => ?_)
  cases p <;> first | exact absurd (sub (by decide)) hp | (with_reducible apply Part.regs_of; exact rfl) | (with_reducible apply Part.evs_of; exact rfl) | exact rfl | exact ⟨rfl, rfl, rfl⟩

theorem Only.put_load {l : List Part} {s t : State} {a : Load} (h : Only l s t) (sub : [.load] ⊆ l) : Only l s { t with load := a } := by
  refine Only.upd h (fun p hp => ?_)
  cases p <;> first | exact absurd (sub (by decide)) hp | (with_reducible apply Part.regs_of; exact rfl) | (with_reducible apply Part.evs_of; exact rfl) | exact rfl | exact ⟨rfl, rfl, rfl⟩

theorem Only.put_iso {l : List Part} {s t : State} {a : Iso} (h : Only l s t) (sub : [.iso] ⊆ l) : Only l s { t with iso := a } := by
  refine Only.upd h (fun p hp => ?_)
  cases p <;> first | exact absurd (sub (by decide)) hp | (with_reducible apply Part.regs_of; exact rfl) | (with_reducible apply Part.evs_of; exact rfl) | exact rfl | exact ⟨rfl, rfl, rfl⟩

theorem Only.put_ctr {l : List Part} {s t : State} {a : Contour} (h : Only l s t) (sub : [.ctr] ⊆ l) : Only l s { t with ctr := a } := by
  refine Only.upd h (fun p hp => ?_)
  cases p <;> first | exact absurd (sub (by decide)) hp | (with_reducible apply Part.regs_of; exact rfl) | (with_reducible apply Part.evs_of; exact rfl) | exact rfl | exact ⟨rfl, rfl, rfl⟩

theorem Only.put_vlv {l : List Part} {s t : State} {a : Valves} (h : Only l s t) (sub : [.vlv] ⊆ l) : Only l s { t with vlv := a } := by
  refine Only.upd h (fun p hp => ?_)
  cases p <;> first | exact absurd (sub (by decide)) hp | (with_reducible apply Part.regs_of; exact rfl) | (with_reducible apply Part.evs_of; exact rfl) | exact rfl | exact ⟨rfl, rfl, rfl⟩

theorem Only.put_light {l : List Part} {s t : State} {a : Light} (h : Only l s t) (sub : [.light] ⊆ l) : Only l s { t with light := a } := by
  refine Only.upd h (fun p hp => ?_)
  cases p <;> first | exact absurd (sub (by decide)) hp | (with_reducible apply Part.regs_of; exact rfl) | (with_reducible apply Part.evs_of; exact rfl) | exact rfl | exact ⟨rfl, rfl, rfl⟩

theorem Only.put_pwr {l : List Part} {s t : State} {a : Power} (h : Only l s t) (sub : [.pwr] ⊆ l) : Only l s { t with pwr := a } := by
  refine Only.upd h (fun p hp => ?_)
  cases p <;> first | exact absurd (sub (by decide)) hp | (with_reducible apply Part.regs_of; exact rfl) | (with_reducible apply Part.evs_of; exact rfl) | exact rfl | exact ⟨rfl, rfl, rfl⟩

theorem Only.put_lgd {l : List Part} {s t : State} {a : Legend} (h : Only l s t) (sub : [.lgd] ⊆ l) : Only l s { t with lgd := a } := by
  refine Only.upd h (fun p hp => ?_)
  cases p <;> first | exact absurd (sub (by decide)) hp | (with_reducible apply Part.regs_of; exact rfl) | (with_reducible apply Part.evs_of; exact rfl) | exact rfl | exact ⟨rfl, rfl, rfl⟩

theorem Only.put_svy {l : List Part} {s t : State} {a : Survey} (h : Only l s t) (sub : [.svy] ⊆ l) : Only l s { t with svy := a } := by
  refine Only.upd h (fun p hp => ?_)
  cases p <;> first | exact absurd (sub (by decide)) hp | (with_reducible apply Part.regs_of; exact rfl) | (with_reducible apply Part.evs_of; exact rfl) | exact rfl | exact ⟨rfl, rfl, rfl⟩

theorem Only.put_inp {l : List Part} {s t : State} {a : Vector Input 48} (h : Only l s t) (sub : [.inp] ⊆ l) : Only l s { t with inp := a } := by
  refine Only.upd h (fun p hp => ?_)
  cases p <;> first | exact absurd (sub (by decide)) hp | (with_reducible apply Part.regs_of; exact rfl) | (with_reducible apply Part.evs_of; exact rfl) | exact rfl | exact ⟨rfl, rfl, rfl⟩

theorem Only.put_net {l : List Part} {s t : State} {a : Nets} (h : Only l s t) (sub : [.net] ⊆ l) : Only l s { t with net := a } := by
  refine Only.upd h (fun p hp => ?_)
  cases p <;> first | exact absurd (sub (by decide)) hp | (with_reducible apply Part.regs_of; exact rfl) | (with_reducible apply Part.evs_of; exact rfl) | exact rfl | exact ⟨rfl, rfl, rfl⟩

theorem Only.put_agr {l : List Part} {s t : State} {a : Agree} (h : Only l s t) (sub : [.agr] ⊆ l) : Only l s { t with agr := a } := by
  refine Only.upd h (fun p hp => ?_)
  cases p <;> first | exact absurd (sub (by decide)) hp | (with_reducible apply Part.regs_of; exact rfl) | (with_reducible apply Part.evs_of; exact rfl) | exact rfl | exact ⟨rfl, rfl, rfl⟩

theorem Only.put_acc {l : List Part} {s t : State} {a : Access} (h : Only l s t) (sub : [.acc] ⊆ l) : Only l s { t with acc := a } := by
  refine Only.upd h (fun p hp => ?_)
  cases p <;> first | exact absurd (sub (by decide)) hp | (with_reducible apply Part.regs_of; exact rfl) | (with_reducible apply Part.evs_of; exact rfl) | exact rfl | exact ⟨rfl, rfl, rfl⟩

theorem Only.put_dma {l : List Part} {s t : State} {a : Vector DmaCh 32} (h : Only l s t) (sub : [.dma] ⊆ l) : Only l s { t with dma := a } := by
  refine Only.upd h (fun p hp => ?_)
  cases p <;> first | exact absurd (sub (by decide)) hp | (with_reducible apply Part.regs_of; exact rfl) | (with_reducible apply Part.evs_of; exact rfl) | exact rfl | exact ⟨rfl, rfl, rfl⟩

theorem Only.put_boot {l : List Part} {s t : State} {a : Boot} (h : Only l s t) (sub : [.boot] ⊆ l) : Only l s { t with boot := a } := by
  refine Only.upd h (fun p hp => ?_)
  cases p <;> first | exact absurd (sub (by decide)) hp | (with_reducible apply Part.regs_of; exact rfl) | (with_reducible apply Part.evs_of; exact rfl) | exact rfl | exact ⟨rfl, rfl, rfl⟩

theorem Only.put_fw {l : List Part} {s t : State} {a : Fw} (h : Only l s t) (sub : [.fw] ⊆ l) : Only l s { t with fw := a } := by
  refine Only.upd h (fun p hp => ?_)
  cases p <;> first | exact absurd (sub (by decide)) hp | (with_reducible apply Part.regs_of; exact rfl) | (with_reducible apply Part.evs_of; exact rfl) | exact rfl | exact ⟨rfl, rfl, rfl⟩

theorem Only.put_twin {l : List Part} {s t : State} {a : Twin} (h : Only l s t) (sub : [.twin] ⊆ l) : Only l s { t with twin := a } := by
  refine Only.upd h (fun p hp => ?_)
  cases p <;> first | exact absurd (sub (by decide)) hp | (with_reducible apply Part.regs_of; exact rfl) | (with_reducible apply Part.evs_of; exact rfl) | exact rfl | exact ⟨rfl, rfl, rfl⟩

/-- A command answers a next state that differs from a state in the parts of a list alone. -/
inductive Ends (l : List Part) (u : State) : Host.Outcome State Fault Refusal → Prop where
  | next {t : State} (h : Only l u t) : Ends l u (.next t)
theorem Ends.ite {l : List Part} {u : State} {a b : Host.Outcome State Fault Refusal} {c : Prop} [Decidable c] (h : Ends l u a) (k : Ends l u b) :
    Ends l u (if c then a else b) := by
  split <;> assumption

/-- Writing a core's record that differs from the core in its pending events alone. -/
theorem Only.evs_core (s : State) (i : Nat) (c : Core) (h : { c with evPend := 0, dieEv := 0 } = { s.core i with evPend := 0, dieEv := 0 }) :
    Only [.evs] s { s with xi := { s.xi with core := s.xi.core.setIfInBounds i c } } := by
  refine ⟨fun p hp => ?_⟩
  cases p <;> first | rfl | exact absurd (by decide) hp | exact ⟨rfl, rfl, rfl⟩ | skip
  refine ⟨rfl, rfl, rfl, fun j => ?_⟩
  simp only [State.core, Vector.toList_setIfInBounds, List.getD_eq_getElem?_getD, List.getElem?_set] at h ⊢
  split
  · subst i
    split
    · simpa using h
    · rename_i hj
      simp [List.getElem?_eq_none (Nat.le_of_not_lt hj)]
  · rfl

/-- Writing a core's record that has the pending events of the core. -/
theorem Only.regs_core (s : State) (i : Nat) (c : Core) (h : c.evPend = (s.core i).evPend ∧ c.dieEv = (s.core i).dieEv) :
    Only [.regs] s { s with xi := { s.xi with core := s.xi.core.setIfInBounds i c } } := by
  refine ⟨fun p hp => ?_⟩
  cases p <;> first | rfl | exact absurd (by decide) hp | exact ⟨rfl, rfl, rfl⟩ | skip
  intro j
  simp only [State.core, Vector.toList_setIfInBounds, List.getD_eq_getElem?_getD, List.getElem?_set] at h ⊢
  split
  · subst i
    split
    · simpa using h
    · rename_i hj
      simp [List.getElem?_eq_none (Nat.le_of_not_lt hj)]
  · exact ⟨rfl, rfl⟩

theorem State.raiseEv_only {l : List Part} {s t : State} {i bit : Nat} (h : Only l s t) (sub : [.evs] ⊆ l) : Only l s (t.raiseEv i bit) :=
  h.after (Only.evs_core t i _ rfl) sub

theorem State.dieEvent_only {l : List Part} {s t : State} {n bit : Nat} (h : Only l s t) (sub : [.evs] ⊆ l) : Only l s (t.dieEvent n bit) :=
  h.after (Only.evs_core t (5 + n) _ rfl) sub

theorem State.lateErr_only {l : List Part} {s t : State} {i code addr : Nat} (h : Only l s t) (sub : [.regs] ⊆ l) : Only l s (t.lateErr i code addr) := by
  unfold State.lateErr
  extract_lets c
  exact Only.ite h (h.after (Only.regs_core t i _ ⟨rfl, rfl⟩) sub)

theorem State.pass_only {l : List Part} {s t : State} {g : Lapse} (h : Only l s t) (sub : [.clk] ⊆ l) : Only l s (t.pass g) := by
  refine h.after (k := [.clk]) ?_ sub
  refine ⟨fun p hp => ?_⟩; cases p <;> first | rfl | exact absurd (by decide) hp | exact ⟨rfl, rfl, rfl⟩ | exact ⟨rfl, rfl, rfl, fun _ => rfl⟩ | exact fun _ => ⟨rfl, rfl⟩

end Sys2Proof.Machine
end

