-- ==== Sys2Proof/Laws/OnlyA.lean ====
section
/-!
SUPPORT. What each operation can change: parameters, messages and handles, the access system, the memories, the networks. An operation changes only the
parts of its list.
-/
namespace Sys2Proof.Machine

set_option linter.unusedTactic false
set_option linter.unreachableTactic false

/-! ### Machine/Operands.lean -/

theorem State.setPar_only {l : List Part} {s t : State} {id : Nat} {idx : Nat} {v : Nat} (h : Only l s t) (sub : [.par] ⊆ l) : Only l s (t.setPar id idx v) := by
  refine Only.after (k := [.par]) h ?_ sub
  unfold State.setPar
  repeat' first
    | decide | with_reducible apply Only.refl | extract_lets | with_reducible apply Only.put_par

theorem State.setStored_only {l : List Part} {s t : State} {id : Nat} {idx : Nat} {v : Nat} (h : Only l s t) (sub : [.par] ⊆ l) : Only l s (t.setStored id idx v) := by
  refine Only.after (k := [.par]) h ?_ sub
  unfold State.setStored
  repeat' first
    | decide | with_reducible apply Only.refl | extract_lets | with_reducible apply Only.put_par

theorem State.setPf_only {l : List Part} {s t : State} {x : ParField} {i : Nat} {k : Nat} {v : Nat} (h : Only l s t) (sub : [.par] ⊆ l) : Only l s (t.setPf x i k v) := by
  refine Only.after (k := [.par]) h ?_ sub
  unfold State.setPf
  repeat' first
    | decide | with_reducible apply Only.refl | with_reducible apply State.setPar_only

theorem State.setChan_only {l : List Part} {s t : State} {n : Nat} {c : Chan} (h : Only l s t) (sub : [.load] ⊆ l) : Only l s (t.setChan n c) := by
  refine Only.after (k := [.load]) h ?_ sub
  unfold State.setChan
  repeat' first
    | decide | with_reducible apply Only.refl | extract_lets | with_reducible apply Only.put_load

theorem State.modChan_only {l : List Part} {s t : State} {n : Nat} {f : Chan → Chan} (h : Only l s t) (sub : [.load] ⊆ l) : Only l s (t.modChan n f) := by
  refine Only.after (k := [.load]) h ?_ sub
  unfold State.modChan
  repeat' first
    | decide | with_reducible apply Only.refl | with_reducible apply State.setChan_only

theorem State.setComp_only {l : List Part} {s t : State} {k : Nat} {c : Comp} (h : Only l s t) (sub : [.load] ⊆ l) : Only l s (t.setComp k c) := by
  refine Only.after (k := [.load]) h ?_ sub
  unfold State.setComp
  repeat' first
    | decide | with_reducible apply Only.refl | extract_lets | with_reducible apply Only.put_load

theorem State.setGen_only {l : List Part} {s t : State} {g : Nat} {x : Gen} (h : Only l s t) (sub : [.load] ⊆ l) : Only l s (t.setGen g x) := by
  refine Only.after (k := [.load]) h ?_ sub
  unfold State.setGen
  repeat' first
    | decide | with_reducible apply Only.refl | extract_lets | with_reducible apply Only.put_load

theorem State.setDie_only {l : List Part} {s t : State} {d : Nat} {x : Die} (h : Only l s t) (sub : [.load] ⊆ l) : Only l s (t.setDie d x) := by
  refine Only.after (k := [.load]) h ?_ sub
  unfold State.setDie
  repeat' first
    | decide | with_reducible apply Only.refl | extract_lets | with_reducible apply Only.put_load

/-! ### Machine/Ops.lean -/

theorem State.modSes_only {l : List Part} {s t : State} {i : Nat} {f : SesRec → SesRec} (h : Only l s t) (sub : [.atlas] ⊆ l) : Only l s (t.modSes i f) := by
  refine Only.after (k := [.atlas]) h ?_ sub
  unfold State.modSes
  repeat' first
    | decide | with_reducible apply Only.refl | extract_lets | with_reducible apply Only.put_atlas

theorem State.sendCtlMsg_only {l : List Part} {s t : State} {m : CtlMsg} (h : Only l s t) (sub : [.ctl] ⊆ l) : Only l s (t.sendCtlMsg m) := by
  refine Only.after (k := [.ctl]) h ?_ sub
  unfold State.sendCtlMsg
  repeat' first
    | with_reducible apply Only.refl | extract_lets | with_reducible apply Only.ite
    | (with_reducible apply Only.upd) <;> [skip; (intro p hp; (fail_if_success with_reducible apply Part.same_refl); cases p <;> first | exact absurd (by decide) hp | (with_reducible apply Part.regs_of; exact rfl) | (with_reducible apply Part.evs_of; exact rfl) | exact rfl | exact ⟨rfl, rfl, rfl⟩)]

theorem State.sendCtl_only {l : List Part} {s t : State} {kind : Nat} {value : Nat} (h : Only l s t) (sub : [.ctl] ⊆ l) : Only l s (t.sendCtl kind value) := by
  refine Only.after (k := [.ctl]) h ?_ sub
  unfold State.sendCtl
  repeat' first
    | decide | with_reducible apply Only.refl | with_reducible apply State.sendCtlMsg_only

theorem State.mbxEvent_only {l : List Part} {s t : State} {ses : Nat} (h : Only l s t) (sub : [.evs, .ctl] ⊆ l) : Only l s (t.mbxEvent ses) := by
  refine Only.after (k := [.evs, .ctl]) h ?_ sub
  unfold State.mbxEvent
  repeat' first
    | decide | with_reducible apply Only.refl | extract_lets | with_reducible apply Only.ite | with_reducible apply State.raiseEv_only
    | with_reducible apply State.sendCtl_only | with_reducible apply Only.foldl | intro _

theorem State.sendTo_only {l : List Part} {s t : State} {ses : Nat} {iface : Nat} {dst : Nat} {port : Nat} {m : Msg} (h : Only l s t) (sub : [.atlas, .evs, .ctl] ⊆ l) : Only l s (t.sendTo ses iface dst port m) := by
  refine Only.after (k := [.atlas, .evs, .ctl]) h ?_ sub
  unfold State.sendTo
  repeat' first
    | decide | with_reducible apply Only.refl | extract_lets | with_reducible apply Only.ite | with_reducible apply State.mbxEvent_only
    | with_reducible apply State.modSes_only | with_reducible apply Only.put_atlas

theorem State.sendPeer_only {l : List Part} {s t : State} {ses : Nat} {m : Msg} (h : Only l s t) (sub : [.atlas, .evs, .ctl] ⊆ l) : Only l s (t.sendPeer ses m) := by
  refine Only.after (k := [.atlas, .evs, .ctl]) h ?_ sub
  unfold State.sendPeer
  repeat' first
    | decide | with_reducible apply Only.refl | with_reducible apply State.sendTo_only

theorem State.mapSent_only {l : List Part} {s t : State} {f : Msg → Msg} {done : Nat → List Byte → List Byte} (h : Only l s t) (sub : [.atlas] ⊆ l) : Only l s (t.mapSent f done) := by
  refine Only.after (k := [.atlas]) h ?_ sub
  unfold State.mapSent
  repeat' first
    | decide | with_reducible apply Only.refl | extract_lets | with_reducible apply Only.put_atlas

theorem State.lowerCode_only {l : List Part} {s t : State} {cls : Nat} {op : Nat} {units : List Nat} {old : Nat} {new : Nat} (h : Only l s t) (sub : [.atlas] ⊆ l) : Only l s (t.lowerCode cls op units old new) := by
  refine Only.after (k := [.atlas]) h ?_ sub
  unfold State.lowerCode
  repeat' first
    | decide | with_reducible apply Only.refl | extract_lets | with_reducible apply State.mapSent_only

theorem State.eventTo_only {l : List Part} {s t : State} {e : Ev} {ses : Nat} {org : Nat} (h : Only l s t) (sub : [.atlas, .evs, .ctl] ⊆ l) : Only l s (t.eventTo e ses org) := by
  refine Only.after (k := [.atlas, .evs, .ctl]) h ?_ sub
  unfold State.eventTo
  repeat' first
    | decide | with_reducible apply Only.refl | extract_lets | with_reducible apply Only.ite | with_reducible apply State.sendPeer_only
    | with_reducible apply State.modSes_only

theorem State.emitAt_only {l : List Part} {s t : State} {cls : Nat} {unit : Nat} {code : Nat} {stamp : Nat} {detail : List Byte} (h : Only l s t) (sub : [.atlas, .evs, .ctl] ⊆ l) : Only l s (t.emitAt cls unit code stamp detail) := by
  refine Only.after (k := [.atlas, .evs, .ctl]) h ?_ sub
  unfold State.emitAt
  repeat' first
    | decide | with_reducible apply Only.refl | extract_lets | with_reducible apply State.eventTo_only | with_reducible apply Only.foldl | intro _

theorem State.emit_only {l : List Part} {s t : State} {cls : Nat} {unit : Nat} {code : Nat} {detail : List Byte} (h : Only l s t) (sub : [.atlas, .evs, .ctl] ⊆ l) : Only l s (t.emit cls unit code detail) := by
  refine Only.after (k := [.atlas, .evs, .ctl]) h ?_ sub
  unfold State.emit
  repeat' first
    | decide | with_reducible apply Only.refl | with_reducible apply State.emitAt_only

theorem State.keepAt_only {l : List Part} {s t : State} {cls : Nat} {unit : Nat} {code : Nat} {stamp : Nat} {detail : List Byte} (h : Only l s t) (sub : [.atlas, .evs, .ctl] ⊆ l) : Only l s (t.keepAt cls unit code stamp detail) := by
  refine Only.after (k := [.atlas, .evs, .ctl]) h ?_ sub
  unfold State.keepAt
  repeat' first
    | decide | with_reducible apply Only.refl | extract_lets | with_reducible apply State.emitAt_only | with_reducible apply Only.put_atlas

theorem State.keep_only {l : List Part} {s t : State} {cls : Nat} {unit : Nat} {code : Nat} {detail : List Byte} (h : Only l s t) (sub : [.atlas, .evs, .ctl] ⊆ l) : Only l s (t.keep cls unit code detail) := by
  refine Only.after (k := [.atlas, .evs, .ctl]) h ?_ sub
  unfold State.keep
  repeat' first
    | decide | with_reducible apply Only.refl | with_reducible apply State.keepAt_only

theorem State.pairEvent_only {l : List Part} {s t : State} {unit : Nat} {code : Nat} {value : Nat} (h : Only l s t) (sub : [.atlas, .evs, .ctl] ⊆ l) : Only l s (t.pairEvent unit code value) := by
  refine Only.after (k := [.atlas, .evs, .ctl]) h ?_ sub
  unfold State.pairEvent
  repeat' first
    | decide | with_reducible apply Only.refl | with_reducible apply State.emit_only

theorem State.pairErr_only {l : List Part} {s t : State} {b : Nat} (h : Only l s t) (sub : [.ilr] ⊆ l) : Only l s (t.pairErr b) := by
  refine Only.after (k := [.ilr]) h ?_ sub
  unfold State.pairErr
  repeat' first
    | with_reducible apply Only.refl | extract_lets
    | (with_reducible apply Only.upd) <;> [skip; (intro p hp; (fail_if_success with_reducible apply Part.same_refl); cases p <;> first | exact absurd (by decide) hp | (with_reducible apply Part.regs_of; exact rfl) | (with_reducible apply Part.evs_of; exact rfl) | exact rfl | exact ⟨rfl, rfl, rfl⟩)]

theorem State.fabErr_only {l : List Part} {s t : State} {code : Nat} {port : Nat} {addr : Nat} (h : Only l s t) (sub : [.dbg] ⊆ l) : Only l s (t.fabErr code port addr) := by
  refine Only.after (k := [.dbg]) h ?_ sub
  unfold State.fabErr
  repeat' first
    | decide | with_reducible apply Only.refl | extract_lets | with_reducible apply Only.put_dbg

theorem State.portErr_only {l : List Part} {s t : State} {code : Nat} {port : Nat} {addr : Nat} (h : Only l s t) (sub : [.fab, .dbg] ⊆ l) : Only l s (t.portErr code port addr) := by
  refine Only.after (k := [.fab, .dbg]) h ?_ sub
  unfold State.portErr
  repeat' first
    | decide | with_reducible apply Only.refl | extract_lets | with_reducible apply State.fabErr_only | with_reducible apply Only.put_fab

theorem State.accessErr_only {l : List Part} {s t : State} {ini : Initiator} {code : Nat} {addr : Nat} (h : Only l s t) (sub : [.fab, .dbg, .regs] ⊆ l) : Only l s (t.accessErr ini code addr) := by
  refine Only.after (k := [.fab, .dbg, .regs]) h ?_ sub
  unfold State.accessErr
  repeat' first
    | decide | with_reducible apply Only.refl | extract_lets | with_reducible apply State.portErr_only | with_reducible apply State.lateErr_only
    | split

theorem State.hostWrite_only {l : List Part} {s t : State} {ini : Initiator} {addr : Nat} {k : State → State} (h : Only l s t)
    (sub : [.fab, .dbg, .regs] ⊆ l) (hk : ∀ u, Only l u (k u)) : Only l s (t.hostWrite ini addr k) := by
  refine h.after (k := l) ?_ (fun _ h => h)
  have hf : ∀ c, Only l t (t.accessErr ini c addr) := fun c => State.accessErr_only (Only.refl l t) sub
  unfold State.hostWrite
  repeat' first
    | exact Only.refl _ _ | exact hf _ | exact hk _ | split

theorem State.openWrite_only {l : List Part} {s t : State} {ini : Initiator} {addr : Nat} {k : State → State} (h : Only l s t)
    (sub : [.fab, .dbg, .regs] ⊆ l) (hk : ∀ u, Only l u (k u)) : Only l s (t.openWrite ini addr k) := by
  refine h.after (k := l) ?_ (fun _ h => h)
  have hf : ∀ c, Only l t (t.accessErr ini c addr) := fun c => State.accessErr_only (Only.refl l t) sub
  unfold State.openWrite
  repeat' first
    | exact Only.refl _ _ | exact hf _ | exact hk _ | split

theorem State.superWrite_only {l : List Part} {s t : State} {ini : Initiator} {addr : Nat} {k : State → State} (h : Only l s t)
    (sub : [.fab, .dbg, .regs] ⊆ l) (hk : ∀ u, Only l u (k u)) : Only l s (t.superWrite ini addr k) := by
  refine h.after (k := l) ?_ (fun _ h => h)
  have hf : ∀ c, Only l t (t.accessErr ini c addr) := fun c => State.accessErr_only (Only.refl l t) sub
  unfold State.superWrite
  repeat' first
    | exact Only.refl _ _ | exact hf _ | exact hk _ | split

theorem State.answer_only {l : List Part} {s t : State} {r : InReq} {status : Nat} {handle : Nat} {payload : List Byte} (h : Only l s t) (sub : [.atlas, .evs, .ctl] ⊆ l) : Only l s (t.answer r status handle payload) := by
  refine Only.after (k := [.atlas, .evs, .ctl]) h ?_ sub
  unfold State.answer
  repeat' first
    | decide | with_reducible apply Only.refl | extract_lets | with_reducible apply State.sendTo_only | with_reducible apply State.modSes_only

theorem State.touch_only {l : List Part} {s t : State} {ses : Nat} (h : Only l s t) (sub : [.atlas] ⊆ l) : Only l s (t.touch ses) := by
  refine Only.after (k := [.atlas]) h ?_ sub
  unfold State.touch
  repeat' first
    | decide | with_reducible apply Only.refl | with_reducible apply State.modSes_only

theorem State.dropClaim_only {l : List Part} {s t : State} {ses : Nat} (h : Only l s t) (sub : [.atlas, .evs, .ctl] ⊆ l) : Only l s (t.dropClaim ses) := by
  refine Only.after (k := [.atlas, .evs, .ctl]) h ?_ sub
  unfold State.dropClaim
  repeat' first
    | decide | with_reducible apply Only.refl | extract_lets | with_reducible apply Only.ite | with_reducible apply State.mbxEvent_only
    | with_reducible apply State.modSes_only | with_reducible apply Only.put_atlas

theorem State.accept_only {l : List Part} {s t : State} {r : InReq} {unit : Nat} (h : Only l s t) (sub : [.atlas, .evs, .ctl] ⊆ l) : OnlyP l s (t.accept r unit) := by
  refine OnlyP.after (k := [.atlas, .evs, .ctl]) h ?_ sub
  unfold State.accept
  repeat' first
    | decide | with_reducible apply Only.refl | extract_lets | with_reducible apply State.answer_only | with_reducible apply State.modSes_only
    | with_reducible apply OnlyP.ite | with_reducible apply OnlyP.pair | with_reducible apply Only.put_atlas

theorem State.modHandle_only {l : List Part} {s t : State} {num : Nat} {f : Hnd → Hnd} (h : Only l s t) (sub : [.atlas] ⊆ l) : Only l s (t.modHandle num f) := by
  refine Only.after (k := [.atlas]) h ?_ sub
  unfold State.modHandle
  repeat' first
    | decide | with_reducible apply Only.refl | extract_lets | with_reducible apply Only.put_atlas

theorem State.freeHandle_only {l : List Part} {s t : State} {num : Nat} (h : Only l s t) (sub : [.atlas] ⊆ l) : Only l s (t.freeHandle num) := by
  refine Only.after (k := [.atlas]) h ?_ sub
  unfold State.freeHandle
  repeat' first
    | decide | with_reducible apply Only.refl | extract_lets | with_reducible apply Only.put_atlas

theorem State.finish_only {l : List Part} {s t : State} {num : Nat} {tick : Nat} {status : Nat} {payload : List Byte} (h : Only l s t) (sub : [.atlas, .evs, .ctl] ⊆ l) : Only l s (t.finish num tick status payload) := by
  refine Only.after (k := [.atlas, .evs, .ctl]) h ?_ sub
  unfold State.finish
  repeat' first
    | decide | with_reducible apply Only.refl | extract_lets | with_reducible apply Only.ite | with_reducible apply State.freeHandle_only
    | with_reducible apply State.sendPeer_only | with_reducible apply State.modHandle_only | split

theorem State.complete_only {l : List Part} {s t : State} {num : Nat} {status : Nat} {payload : List Byte} (h : Only l s t) (sub : [.atlas, .evs, .ctl] ⊆ l) : Only l s (t.complete num status payload) := by
  refine Only.after (k := [.atlas, .evs, .ctl]) h ?_ sub
  unfold State.complete
  repeat' first
    | decide | with_reducible apply Only.refl | extract_lets | with_reducible apply Only.ite | with_reducible apply State.finish_only
    | with_reducible apply State.modHandle_only | split

theorem State.setWait_only {l : List Part} {s t : State} {num : Nat} {w : Nat} (h : Only l s t) (sub : [.atlas] ⊆ l) : Only l s (t.setWait num w) := by
  refine Only.after (k := [.atlas]) h ?_ sub
  unfold State.setWait
  repeat' first
    | decide | with_reducible apply Only.refl | with_reducible apply State.modHandle_only

theorem State.setProgress_only {l : List Part} {s t : State} {num : Nat} {p : Nat} (h : Only l s t) (sub : [.atlas] ⊆ l) : Only l s (t.setProgress num p) := by
  refine Only.after (k := [.atlas]) h ?_ sub
  unfold State.setProgress
  repeat' first
    | decide | with_reducible apply Only.refl | with_reducible apply State.modHandle_only

theorem State.consume_only {l : List Part} {s t : State} {ses : Nat} (h : Only l s t) (sub : [.atlas, .evs, .ctl] ⊆ l) : Only l s (t.consume ses) := by
  refine Only.after (k := [.atlas, .evs, .ctl]) h ?_ sub
  unfold State.consume
  repeat' first
    | decide | with_reducible apply Only.refl | extract_lets | with_reducible apply Only.ite | with_reducible apply State.mbxEvent_only
    | with_reducible apply State.modSes_only

theorem State.discard_only {l : List Part} {s t : State} {ses : Nat} {chk : Nat} (h : Only l s t) (sub : [.atlas, .evs, .ctl] ⊆ l) : Only l s (t.discard ses chk) := by
  refine Only.after (k := [.atlas, .evs, .ctl]) h ?_ sub
  unfold State.discard
  repeat' first
    | decide | with_reducible apply Only.refl | extract_lets | with_reducible apply State.mbxEvent_only | with_reducible apply State.modSes_only

theorem State.serveOne_only {l : List Part} {s t : State} {r : InReq} {k : InReq → State → State} (h : Only l s t)
    (sub : [.atlas, .evs, .ctl] ⊆ l) (hk : ∀ r u, Only l u (k r u)) : Only l s (t.serveOne r k) := by
  refine h.after (k := l) ?_ (fun _ h => h)
  unfold State.serveOne
  split
  · exact State.sendTo_only (State.modSes_only (Only.refl l t) (by simp_all)) sub
  · split
    · exact State.answer_only (Only.refl l t) sub
    · exact hk _ _

theorem State.takeOut_only {l : List Part} {s t : State} {r : InReq} (h : Only l s t) (sub : [.atlas, .evs, .ctl] ⊆ l) : Only l s (t.takeOut r) := by
  refine Only.after (k := [.atlas, .evs, .ctl]) h ?_ sub
  unfold State.takeOut
  repeat' first
    | decide | with_reducible apply Only.refl | extract_lets | with_reducible apply State.consume_only | with_reducible apply Only.put_atlas

theorem State.drain_only {l : List Part} {s t : State} {k : Nat} (h : Only l s t) (sub : [.atlas, .evs, .ctl] ⊆ l) : Only l s (t.drain k) := by
  induction k generalizing t with
  | zero => exact h
  | succ k ih =>
    unfold State.drain
    split
    · exact h
    · split
      · exact ih (State.discard_only (State.takeOut_only h sub) sub)
      · split
        · exact ih (State.serveOne_only (State.takeOut_only h sub) sub (fun _ _ => Only.refl _ _))
        · exact h

theorem State.settleEnded_only {l : List Part} {s t : State} (h : Only l s t) (sub : [.atlas, .evs, .ctl] ⊆ l) : Only l s (t.settleEnded) := by
  refine Only.after (k := [.atlas, .evs, .ctl]) h ?_ sub
  unfold State.settleEnded
  repeat' first
    | decide | with_reducible apply Only.refl | extract_lets | with_reducible apply Only.ite | with_reducible apply State.finish_only
    | with_reducible apply Only.foldl | split | intro _

theorem State.drained_only {l : List Part} {s t : State} (h : Only l s t) (sub : [.atlas, .evs, .ctl] ⊆ l) : Only l s (t.drained) := by
  refine Only.after (k := [.atlas, .evs, .ctl]) h ?_ sub
  unfold State.drained
  repeat' first
    | decide | with_reducible apply Only.refl | extract_lets | with_reducible apply Only.ite | with_reducible apply State.settleEnded_only
    | with_reducible apply State.drain_only

theorem State.serve_only {l : List Part} {s t : State} {q : Rq} {op handle : Nat} {payload : List Byte} {k : InReq → State → State}
    (h : Only l s t) (sub : [.atlas, .evs, .ctl] ⊆ l) (hk : ∀ r u, Only l u (k r u)) : Only l s (t.serve q op handle payload k) := by
  refine h.after (k := l) ?_ (fun _ h => h)
  unfold State.serve
  split
  · exact Only.refl _ _
  · split
    · extract_lets r
      split
      · exact Only.refl _ _
      · exact State.serveOne_only (State.touch_only (Only.refl l t) (by simp_all)) sub hk
    · split
      · exact Only.refl _ _
      · split
        · exact State.drained_only (State.serveOne_only (State.takeOut_only (Only.refl l t) sub) sub hk) sub
        · exact Only.refl _ _

theorem State.deliver_only {l : List Part} {s t : State} {ses : Nat} {org : Nat} {bs : List Byte} {iface : Nat} {src : Nat} {sport : Nat} (h : Only l s t) (sub : [.atlas, .evs, .ctl] ⊆ l) : Only l s (t.deliver ses org bs iface src sport) := by
  refine Only.after (k := [.atlas, .evs, .ctl]) h ?_ sub
  unfold State.deliver
  repeat' first
    | decide | with_reducible apply Only.refl | extract_lets | with_reducible apply Only.ite | with_reducible apply State.touch_only
    | with_reducible apply State.drained_only | with_reducible apply Only.put_atlas

/-! ### Machine/Access.lean -/

theorem State.modAcc_only {l : List Part} {s t : State} {f : Access → Access} (h : Only l s t) (sub : [.acc] ⊆ l) : Only l s (t.modAcc f) := by
  refine Only.after (k := [.acc]) h ?_ sub
  unfold State.modAcc
  repeat' first
    | decide | with_reducible apply Only.refl | with_reducible apply Only.put_acc

theorem State.modTok_only {l : List Part} {s t : State} {i : Nat} {f : Token → Token} (h : Only l s t) (sub : [.acc] ⊆ l) : Only l s (t.modTok i f) := by
  refine Only.after (k := [.acc]) h ?_ sub
  unfold State.modTok
  repeat' first
    | decide | with_reducible apply Only.refl | with_reducible apply State.modAcc_only

theorem State.modLf_only {l : List Part} {s t : State} {k : Nat} {f : Aerial → Aerial} (h : Only l s t) (sub : [.acc] ⊆ l) : Only l s (t.modLf k f) := by
  refine Only.after (k := [.acc]) h ?_ sub
  unfold State.modLf
  repeat' first
    | decide | with_reducible apply Only.refl | with_reducible apply State.modAcc_only

theorem State.modFe_only {l : List Part} {s t : State} {k : Nat} {f : FrontEnd → FrontEnd} (h : Only l s t) (sub : [.acc] ⊆ l) : Only l s (t.modFe k f) := by
  refine Only.after (k := [.acc]) h ?_ sub
  unfold State.modFe
  repeat' first
    | decide | with_reducible apply Only.refl | with_reducible apply State.modAcc_only

theorem State.modRound_only {l : List Part} {s t : State} {f : Round → Round} (h : Only l s t) (sub : [.acc] ⊆ l) : Only l s (t.modRound f) := by
  refine Only.after (k := [.acc]) h ?_ sub
  unfold State.modRound
  repeat' first
    | decide | with_reducible apply Only.refl | with_reducible apply State.modAcc_only

theorem State.draw_only {l : List Part} {s t : State} (h : Only l s t) (sub : [.acc] ⊆ l) : OnlyP l s (t.draw) := by
  refine OnlyP.after (k := [.acc]) h ?_ sub
  unfold State.draw
  repeat' first
    | decide | with_reducible apply Only.refl | extract_lets | with_reducible apply State.modAcc_only | with_reducible apply OnlyP.pair

theorem State.accEvent_only {l : List Part} {s t : State} {unit : Nat} {code : Nat} {value : Nat} {zone : Nat} (h : Only l s t) (sub : [.atlas, .evs, .ctl] ⊆ l) : Only l s (t.accEvent unit code value zone) := by
  refine Only.after (k := [.atlas, .evs, .ctl]) h ?_ sub
  unfold State.accEvent
  repeat' first
    | decide | with_reducible apply Only.refl | with_reducible apply State.emit_only

theorem State.accFail_only {l : List Part} {s t : State} (h : Only l s t) (sub : [.acc] ⊆ l) : OnlyP l s (t.accFail) := by
  refine OnlyP.after (k := [.acc]) h ?_ sub
  unfold State.accFail
  repeat' first
    | decide | with_reducible apply Only.refl | extract_lets | with_reducible apply State.modAcc_only | with_reducible apply OnlyP.ite
    | with_reducible apply OnlyP.pair

theorem State.endLock_only {l : List Part} {s t : State} {value : Nat} (h : Only l s t) (sub : [.atlas, .acc, .evs, .ctl] ⊆ l) : Only l s (t.endLock value) := by
  refine Only.after (k := [.atlas, .acc, .evs, .ctl]) h ?_ sub
  unfold State.endLock
  repeat' first
    | decide | with_reducible apply Only.refl | extract_lets | with_reducible apply Only.ite | with_reducible apply State.accEvent_only
    | with_reducible apply State.modAcc_only

theorem State.dropEnrol_only {l : List Part} {s t : State} {c : AccCmd} (h : Only l s t) (sub : [.acc] ⊆ l) : Only l s (t.dropEnrol c) := by
  refine Only.after (k := [.acc]) h ?_ sub
  unfold State.dropEnrol
  repeat' first
    | decide | with_reducible apply Only.refl | extract_lets | with_reducible apply Only.ite | with_reducible apply State.modTok_only

theorem State.accNext_only {l : List Part} {s t : State} {x0 : Nat} (h : Only l s t) (sub : [.atlas, .acc, .evs, .ctl] ⊆ l) : Only l s (State.accNext x0 t) := by
  induction x0 generalizing t  with
  | zero => unfold State.accNext; exact h
  | succ k ih =>
    unfold State.accNext
    repeat' first
      | exact h | exact List.Subset.trans (by decide) sub | with_reducible apply ih | extract_lets | with_reducible apply Only.ite
      | with_reducible apply State.complete_only | with_reducible apply State.modAcc_only | with_reducible apply State.modTok_only | split

theorem State.accEndAt_only {l : List Part} {s t : State} {t1 : Nat} {status : Nat} {code : Nat} {ch : Option AccRes} {res : List AccRes} {blocks : List Nat} (h : Only l s t) (sub : [.atlas, .acc, .evs, .ctl] ⊆ l) : Only l s (t.accEndAt t1 status code ch res blocks) := by
  refine Only.after (k := [.atlas, .acc, .evs, .ctl]) h ?_ sub
  unfold State.accEndAt
  repeat' first
    | decide | with_reducible apply Only.refl | extract_lets | with_reducible apply State.accNext_only | with_reducible apply State.complete_only
    | with_reducible apply State.modAcc_only | split

theorem State.accEnd_only {l : List Part} {s t : State} {status : Nat} {code : Nat} {ch : Option AccRes} {res : List AccRes} {blocks : List Nat} (h : Only l s t) (sub : [.atlas, .acc, .evs, .ctl] ⊆ l) : Only l s (t.accEnd status code ch res blocks) := by
  refine Only.after (k := [.atlas, .acc, .evs, .ctl]) h ?_ sub
  unfold State.accEnd
  repeat' first
    | decide | with_reducible apply Only.refl | with_reducible apply State.accEndAt_only

theorem State.accDue_only {l : List Part} {s t : State} (h : Only l s t) (sub : [.atlas, .acc, .evs, .ctl] ⊆ l) : Only l s (t.accDue) := by
  refine Only.after (k := [.atlas, .acc, .evs, .ctl]) h ?_ sub
  unfold State.accDue
  repeat' first
    | decide | with_reducible apply Only.refl | extract_lets | with_reducible apply Only.ite | with_reducible apply State.accEndAt_only
    | with_reducible apply State.dropEnrol_only | split

theorem State.accCmd_only {l : List Part} {s t : State} {q : Rq} {cmd : Nat} {c : AccessCmd} {data : List Byte} {tid keywrap first count : Nat}
    {act : Option (State → State)} (h : Only l s t) (sub : [.atlas, .acc, .evs, .ctl] ⊆ l) (ha : ∀ f, act = some f → ∀ u, Only l u (f u)) :
    Only l s (t.accCmd q cmd c data tid keywrap first count act) := by
  have sub' : [.atlas, .evs, .ctl] ⊆ l := List.Subset.trans (by decide) sub
  refine State.serve_only (State.accDue_only h sub) sub' (fun r u => ?_)
  split
  · exact State.answer_only (Only.refl l u) sub'
  · split
    · exact Only.of_pair (by assumption) (State.accept_only (Only.refl l u) sub')
    · extract_lets dl x
      split
      · exact State.complete_only ((Only.of_pair (by assumption) (State.accept_only (Only.refl l u) sub')).after (ha _ rfl _) (fun _ h => h)) sub'
      · exact State.accNext_only (State.modAcc_only (Only.of_pair (by assumption) (State.accept_only (Only.refl l u) sub')) (List.Subset.trans (by decide) sub)) sub

theorem State.revoke_only {l : List Part} {s t : State} {slot : Nat} (h : Only l s t) (sub : [.atlas, .par, .acc, .evs, .ctl] ⊆ l) : Only l s (t.revoke slot) := by
  refine Only.after (k := [.atlas, .par, .acc, .evs, .ctl]) h ?_ sub
  unfold State.revoke
  repeat' first
    | decide | with_reducible apply Only.refl | extract_lets | with_reducible apply State.accEvent_only | with_reducible apply State.modRound_only
    | with_reducible apply State.modTok_only | with_reducible apply State.setStored_only

theorem State.tuned_only {l : List Part} {s t : State} {k : Nat} {tune : Nat} (h : Only l s t) (sub : [.atlas, .par, .acc, .evs, .ctl] ⊆ l) : Only l s (t.tuned k tune) := by
  refine Only.after (k := [.atlas, .par, .acc, .evs, .ctl]) h ?_ sub
  unfold State.tuned
  repeat' first
    | decide | with_reducible apply Only.refl | extract_lets | with_reducible apply Only.ite | with_reducible apply State.accEvent_only
    | with_reducible apply State.setPf_only | with_reducible apply State.setStored_only | with_reducible apply State.modLf_only

theorem State.aerialSeen_only {l : List Part} {s t : State} {k : Nat} {ilf : Nat} {ma : Nat} {short : Bool} (h : Only l s t) (sub : [.atlas, .acc, .evs, .ctl] ⊆ l) : Only l s (t.aerialSeen k ilf ma short) := by
  refine Only.after (k := [.atlas, .acc, .evs, .ctl]) h ?_ sub
  unfold State.aerialSeen
  repeat' first
    | decide | with_reducible apply Only.refl | extract_lets | with_reducible apply Only.ite | with_reducible apply State.accEvent_only
    | with_reducible apply State.modLf_only

theorem State.keepLast_only {l : List Part} {s t : State} {r : Round} (h : Only l s t) (sub : [.acc] ⊆ l) : Only l s (t.keepLast r) := by
  refine Only.after (k := [.acc]) h ?_ sub
  unfold State.keepLast
  repeat' first
    | decide | with_reducible apply Only.refl | extract_lets | with_reducible apply State.modAcc_only | with_reducible apply Only.foldl | intro _

theorem State.lockStop_only {l : List Part} {s t : State} (h : Only l s t) (sub : [.atlas, .acc, .evs, .ctl] ⊆ l) : Only l s (t.lockStop) := by
  refine Only.after (k := [.atlas, .acc, .evs, .ctl]) h ?_ sub
  unfold State.lockStop
  repeat' first
    | decide | with_reducible apply Only.refl | extract_lets | with_reducible apply State.accEvent_only | with_reducible apply State.accEnd_only
    | with_reducible apply State.complete_only | with_reducible apply State.keepLast_only | with_reducible apply State.dropEnrol_only
    | with_reducible apply State.modAcc_only | with_reducible apply Only.foldl | split | with_reducible apply Only.put_atlas | intro _

theorem State.checkSlot_only {l : List Part} {s t : State} {p : Nat × SlotObs} (h : Only l s t) (sub : [.atlas, .acc, .evs, .ctl] ⊆ l) : Only l s (t.checkSlot p) := by
  refine Only.after (k := [.atlas, .acc, .evs, .ctl]) h ?_ sub
  unfold State.checkSlot
  repeat' first
    | decide | with_reducible apply Only.refl | extract_lets | with_reducible apply Only.ite | with_reducible apply State.accEvent_only
    | with_reducible apply State.lockStop_only | with_reducible apply State.accFail_only | with_reducible apply State.modRound_only
    | with_reducible apply State.modTok_only | with_reducible apply State.modAcc_only | with_reducible apply OnlyP.fst | split

theorem State.roundDone_only {l : List Part} {s t : State} (h : Only l s t) (sub : [.atlas, .par, .acc, .evs, .ctl] ⊆ l) : Only l s (t.roundDone) := by
  refine Only.after (k := [.atlas, .par, .acc, .evs, .ctl]) h ?_ sub
  unfold State.roundDone
  repeat' first
    | decide | with_reducible apply Only.refl | extract_lets | with_reducible apply Only.ite | with_reducible apply State.accEvent_only
    | with_reducible apply State.accEnd_only | with_reducible apply State.keepLast_only | with_reducible apply State.modTok_only
    | with_reducible apply State.setStored_only | with_reducible apply State.dropEnrol_only | split

theorem State.nextExch_only {l : List Part} {s t : State} {t1 : Nat} (h : Only l s t) (sub : [.atlas, .par, .acc, .evs, .ctl] ⊆ l) : Only l s (t.nextExch t1) := by
  refine Only.after (k := [.atlas, .par, .acc, .evs, .ctl]) h ?_ sub
  unfold State.nextExch
  repeat' first
    | decide | with_reducible apply Only.refl | with_reducible apply State.modRound_only | with_reducible apply State.roundDone_only | split

theorem State.resumeExch_only {l : List Part} {s t : State} (h : Only l s t) (sub : [.atlas, .par, .acc, .evs, .ctl] ⊆ l) : Only l s (t.resumeExch) := by
  refine Only.after (k := [.atlas, .par, .acc, .evs, .ctl]) h ?_ sub
  unfold State.resumeExch
  repeat' first
    | decide | with_reducible apply Only.refl | extract_lets | with_reducible apply Only.ite | with_reducible apply State.nextExch_only
    | with_reducible apply State.roundDone_only | split

theorem State.accStopAt_only {l : List Part} {s t : State} {h1 : Nat} {status : Nat} {t1 : Option Nat} (h : Only l s t) (sub : [.atlas, .acc, .evs, .ctl] ⊆ l) : Only l s (t.accStopAt h1 status t1) := by
  refine Only.after (k := [.atlas, .acc, .evs, .ctl]) h ?_ sub
  unfold State.accStopAt
  repeat' first
    | decide | with_reducible apply Only.refl | extract_lets | with_reducible apply Only.ite | with_reducible apply State.accEnd_only
    | with_reducible apply State.complete_only | with_reducible apply State.dropEnrol_only | with_reducible apply State.modAcc_only
    | with_reducible apply State.accDue_only | split

theorem State.accStop_only {l : List Part} {s t : State} {h1 : Nat} {status : Nat} (h : Only l s t) (sub : [.atlas, .acc, .evs, .ctl] ⊆ l) : Only l s (t.accStop h1 status) := by
  refine Only.after (k := [.atlas, .acc, .evs, .ctl]) h ?_ sub
  unfold State.accStop
  repeat' first
    | decide | with_reducible apply Only.refl | with_reducible apply State.accStopAt_only

theorem State.accAbandon_only {l : List Part} {s t : State} (h : Only l s t) (sub : [.acc] ⊆ l) : Only l s (t.accAbandon) := by
  refine Only.after (k := [.acc]) h ?_ sub
  unfold State.accAbandon
  repeat' first
    | decide | with_reducible apply Only.refl | extract_lets | with_reducible apply State.dropEnrol_only | with_reducible apply State.modAcc_only
    | split | with_reducible apply Only.put_acc

theorem State.accPd7Down_only {l : List Part} {s t : State} (h : Only l s t) (sub : [.acc] ⊆ l) : Only l s (t.accPd7Down) := by
  refine Only.after (k := [.acc]) h ?_ sub
  unfold State.accPd7Down
  repeat' first
    | decide | with_reducible apply Only.refl | extract_lets | with_reducible apply State.accAbandon_only | with_reducible apply State.modAcc_only

theorem State.accPd7Up_only {l : List Part} {s t : State} (h : Only l s t) (sub : [.acc] ⊆ l) : Only l s (t.accPd7Up) := by
  refine Only.after (k := [.acc]) h ?_ sub
  unfold State.accPd7Up
  repeat' first
    | decide | with_reducible apply Only.refl | with_reducible apply State.modAcc_only

theorem State.feWritten_only {l : List Part} {s t : State} {f : Nat} {off : Nat} {v : Nat} (h : Only l s t) (sub : [.acc] ⊆ l) : Only l s (t.feWritten f off v) := by
  refine Only.after (k := [.acc]) h ?_ sub
  unfold State.feWritten
  repeat' first
    | decide | with_reducible apply Only.refl | extract_lets | with_reducible apply Only.ite | with_reducible apply State.modFe_only

/-! ### Machine/Mem.lean -/

theorem State.memEvent_only {l : List Part} {s t : State} {region : Nat} {kind : Nat} {syn : Nat} {port : Nat} {count : Nat} {addr : Nat} (h : Only l s t) (sub : [.atlas, .evs, .ctl] ⊆ l) : Only l s (t.memEvent region kind syn port count addr) := by
  refine Only.after (k := [.atlas, .evs, .ctl]) h ?_ sub
  unfold State.memEvent
  repeat' first
    | decide | with_reducible apply Only.refl | with_reducible apply State.emit_only

theorem State.memRecord_only {l : List Part} {s t : State} {region : Nat} {kind : Nat} {syn : Nat} {port : Nat} {addr : Nat} (h : Only l s t) (sub : [.memc] ⊆ l) : Only l s (t.memRecord region kind syn port addr) := by
  refine Only.after (k := [.memc]) h ?_ sub
  unfold State.memRecord
  repeat' first
    | with_reducible apply Only.refl | extract_lets | with_reducible apply Only.ite
    | (with_reducible apply Only.upd) <;> [skip; (intro p hp; (fail_if_success with_reducible apply Part.same_refl); cases p <;> first | exact absurd (by decide) hp | (with_reducible apply Part.regs_of; exact rfl) | (with_reducible apply Part.evs_of; exact rfl) | exact rfl | exact ⟨rfl, rfl, rfl⟩)]

theorem State.memError_only {l : List Part} {s t : State} {region : Nat} {kind : Nat} {syn : Nat} {port : Nat} {addr : Nat} (h : Only l s t) (sub : [.atlas, .evs, .memc, .ctl] ⊆ l) : Only l s (t.memError region kind syn port addr) := by
  refine Only.after (k := [.atlas, .evs, .memc, .ctl]) h ?_ sub
  unfold State.memError
  repeat' first
    | decide | with_reducible apply Only.refl | extract_lets | with_reducible apply Only.ite | with_reducible apply State.memRecord_only
    | with_reducible apply State.memEvent_only | split
    | (with_reducible apply Only.upd) <;> [skip; (intro p hp; (fail_if_success with_reducible apply Part.same_refl); cases p <;> first | exact absurd (by decide) hp | (with_reducible apply Part.regs_of; exact rfl) | (with_reducible apply Part.evs_of; exact rfl) | exact rfl | exact ⟨rfl, rfl, rfl⟩)]

theorem State.storeRaw_only {l : List Part} {s t : State} {a : Nat} {data : Nat} {chk : Nat} (h : Only l s t) (sub : [.bytes] ⊆ l) : Only l s (t.storeRaw a data chk) := by
  refine Only.after (k := [.bytes]) h ?_ sub
  unfold State.storeRaw
  repeat' first
    | with_reducible apply Only.refl | extract_lets
    | (with_reducible apply Only.upd) <;> [skip; (intro p hp; (fail_if_success with_reducible apply Part.same_refl); cases p <;> first | exact absurd (by decide) hp | (with_reducible apply Part.regs_of; exact rfl) | (with_reducible apply Part.evs_of; exact rfl) | exact rfl | exact ⟨rfl, rfl, rfl⟩)]

theorem State.readDw_only {l : List Part} {s t : State} {port : Nat} {a : Nat} (h : Only l s t) (sub : [.atlas, .evs, .bytes, .memc, .ctl] ⊆ l) : OnlyP l s (t.readDw port a) := by
  refine OnlyP.after (k := [.atlas, .evs, .bytes, .memc, .ctl]) h ?_ sub
  unfold State.readDw
  repeat' first
    | decide | with_reducible apply Only.refl | extract_lets | with_reducible apply Only.ite | with_reducible apply State.storeRaw_only
    | with_reducible apply State.memError_only | split | with_reducible apply OnlyP.pair

theorem State.writeDw_only {l : List Part} {s t : State} {a : Nat} {data : Nat} (h : Only l s t) (sub : [.bytes, .memc] ⊆ l) : Only l s (t.writeDw a data) := by
  refine Only.after (k := [.bytes, .memc]) h ?_ sub
  unfold State.writeDw
  repeat' first
    | decide | with_reducible apply Only.refl | extract_lets | with_reducible apply Only.ite | with_reducible apply State.storeRaw_only
    | (with_reducible apply Only.upd) <;> [skip; (intro p hp; (fail_if_success with_reducible apply Part.same_refl); cases p <;> first | exact absurd (by decide) hp | (with_reducible apply Part.regs_of; exact rfl) | (with_reducible apply Part.evs_of; exact rfl) | exact rfl | exact ⟨rfl, rfl, rfl⟩)]

theorem State.memRead_only {l : List Part} {s t : State} {port : Nat} {a : Nat} {size : Nat} (h : Only l s t) (sub : [.atlas, .evs, .bytes, .memc, .ctl] ⊆ l) : OnlyP l s (t.memRead port a size) := by
  refine OnlyP.after (k := [.atlas, .evs, .bytes, .memc, .ctl]) h ?_ sub
  unfold State.memRead
  repeat' first
    | decide | with_reducible apply Only.refl | extract_lets | with_reducible apply State.readDw_only
    | with_reducible refine Only.of_pair (by assumption) ?_ | split | with_reducible apply OnlyP.pair

theorem State.memWrite_only {l : List Part} {s t : State} {port : Nat} {a : Nat} {size : Nat} {v : Nat} (h : Only l s t) (sub : [.atlas, .evs, .bytes, .memc, .ctl] ⊆ l) : OnlyP l s (t.memWrite port a size v) := by
  refine OnlyP.after (k := [.atlas, .evs, .bytes, .memc, .ctl]) h ?_ sub
  unfold State.memWrite
  repeat' first
    | decide | with_reducible apply Only.refl | extract_lets | with_reducible apply State.readDw_only | with_reducible apply State.writeDw_only
    | with_reducible refine Only.of_pair (by assumption) ?_ | with_reducible apply OnlyP.ite | split | with_reducible apply OnlyP.pair

theorem State.loseMem_only {l : List Part} {s t : State} {a : Nat} {n : Nat} (h : Only l s t) (sub : [.bytes] ⊆ l) : Only l s (t.loseMem a n) := by
  refine Only.after (k := [.bytes]) h ?_ sub
  unfold State.loseMem
  repeat' first
    | with_reducible apply Only.refl | extract_lets
    | (with_reducible apply Only.upd) <;> [skip; (intro p hp; (fail_if_success with_reducible apply Part.same_refl); cases p <;> first | exact absurd (by decide) hp | (with_reducible apply Part.regs_of; exact rfl) | (with_reducible apply Part.evs_of; exact rfl) | exact rfl | exact ⟨rfl, rfl, rfl⟩)]

theorem State.loadBytes_only {l : List Part} {s t : State} {a : Nat} {bs : List Byte} (h : Only l s t) (sub : [.bytes] ⊆ l) : Only l s (t.loadBytes a bs) := by
  refine Only.after (k := [.bytes]) h ?_ sub
  unfold State.loadBytes
  repeat' first
    | with_reducible apply Only.refl | extract_lets | with_reducible apply Only.foldl
    | (with_reducible apply Only.upd) <;> [skip; (intro p hp; (fail_if_success with_reducible apply Part.same_refl); cases p <;> first | exact absurd (by decide) hp | (with_reducible apply Part.regs_of; exact rfl) | (with_reducible apply Part.evs_of; exact rfl) | exact rfl | exact ⟨rfl, rfl, rfl⟩)]
    | intro _

theorem State.writeFilters_only {l : List Part} {s t : State} (h : Only l s t) (sub : [.bytes] ⊆ l) : Only l s (t.writeFilters) := by
  refine Only.after (k := [.bytes]) h ?_ sub
  unfold State.writeFilters
  repeat' first
    | with_reducible apply Only.refl | extract_lets
    | (with_reducible apply Only.upd) <;> [skip; (intro p hp; (fail_if_success with_reducible apply Part.same_refl); cases p <;> first | exact absurd (by decide) hp | (with_reducible apply Part.regs_of; exact rfl) | (with_reducible apply Part.evs_of; exact rfl) | exact rfl | exact ⟨rfl, rfl, rfl⟩)]

theorem State.lapEnd_only {l : List Part} {s t : State} {a : Nat} (h : Only l s t) (sub : [.atlas, .evs, .memc, .ctl] ⊆ l) : Only l s (t.lapEnd a) := by
  refine Only.after (k := [.atlas, .evs, .memc, .ctl]) h ?_ sub
  unfold State.lapEnd
  repeat' first
    | decide | with_reducible apply Only.refl | extract_lets | with_reducible apply Only.ite | with_reducible apply State.memRecord_only
    | with_reducible apply State.memEvent_only
    | (with_reducible apply Only.upd) <;> [skip; (intro p hp; (fail_if_success with_reducible apply Part.same_refl); cases p <;> first | exact absurd (by decide) hp | (with_reducible apply Part.regs_of; exact rfl) | (with_reducible apply Part.evs_of; exact rfl) | exact rfl | exact ⟨rfl, rfl, rfl⟩)]

theorem State.setFlip_only {l : List Part} {s t : State} {v : Nat} (h : Only l s t) (sub : [.memc] ⊆ l) : Only l s (t.setFlip v) := by
  refine Only.after (k := [.memc]) h ?_ sub
  unfold State.setFlip
  repeat' first
    | with_reducible apply Only.refl | extract_lets
    | (with_reducible apply Only.upd) <;> [skip; (intro p hp; (fail_if_success with_reducible apply Part.same_refl); cases p <;> first | exact absurd (by decide) hp | (with_reducible apply Part.regs_of; exact rfl) | (with_reducible apply Part.evs_of; exact rfl) | exact rfl | exact ⟨rfl, rfl, rfl⟩)]

theorem State.clearMemCounts_only {l : List Part} {s t : State} (h : Only l s t) (sub : [.memc] ⊆ l) : Only l s (t.clearMemCounts) := by
  refine Only.after (k := [.memc]) h ?_ sub
  unfold State.clearMemCounts
  repeat' first
    | with_reducible apply Only.refl | extract_lets
    | (with_reducible apply Only.upd) <;> [skip; (intro p hp; (fail_if_success with_reducible apply Part.same_refl); cases p <;> first | exact absurd (by decide) hp | (with_reducible apply Part.regs_of; exact rfl) | (with_reducible apply Part.evs_of; exact rfl) | exact rfl | exact ⟨rfl, rfl, rfl⟩)]

theorem State.memParWritten_only {l : List Part} {s t : State} {off : Nat} {idx : Nat} {v : Nat} (h : Only l s t) (sub : [.memc] ⊆ l) : Only l s (t.memParWritten off idx v) := by
  refine Only.after (k := [.memc]) h ?_ sub
  unfold State.memParWritten
  repeat' first
    | decide | with_reducible apply Only.refl | extract_lets | with_reducible apply Only.ite | with_reducible apply State.setFlip_only
    | (with_reducible apply Only.upd) <;> [skip; (intro p hp; (fail_if_success with_reducible apply Part.same_refl); cases p <;> first | exact absurd (by decide) hp | (with_reducible apply Part.regs_of; exact rfl) | (with_reducible apply Part.evs_of; exact rfl) | exact rfl | exact ⟨rfl, rfl, rfl⟩)]

/-! ### Machine/Entry.lean -/

theorem State.modPwr_only {l : List Part} {s t : State} {f : Power → Power} (h : Only l s t) (sub : [.pwr] ⊆ l) : Only l s (t.modPwr f) := by
  refine Only.after (k := [.pwr]) h ?_ sub
  unfold State.modPwr
  repeat' first
    | decide | with_reducible apply Only.refl | with_reducible apply Only.put_pwr

theorem State.powerEvent_only {l : List Part} {s t : State} {unit : Nat} {code : Nat} {src : Nat} {dst : Nat} {by_ : Nat} (h : Only l s t) (sub : [.atlas, .evs, .ctl] ⊆ l) : Only l s (t.powerEvent unit code src dst by_) := by
  refine Only.after (k := [.atlas, .evs, .ctl]) h ?_ sub
  unfold State.powerEvent
  repeat' first
    | decide | with_reducible apply Only.refl | with_reducible apply State.emit_only

theorem State.abortEntry_only {l : List Part} {s t : State} {code : Nat} (h : Only l s t) (sub : [.atlas, .pwr, .evs, .ctl] ⊆ l) : Only l s (t.abortEntry code) := by
  refine Only.after (k := [.atlas, .pwr, .evs, .ctl]) h ?_ sub
  unfold State.abortEntry
  repeat' first
    | decide | with_reducible apply Only.refl | extract_lets | with_reducible apply State.modPwr_only | with_reducible apply State.complete_only
    | with_reducible apply State.powerEvent_only | split | with_reducible apply Only.put_atlas

theorem State.wufStep_only {l : List Part} {s t : State} {n : Nat} {k : Nat → Nat} (h : Only l s t) (sub : [.agr] ⊆ l) : Only l s (t.wufStep n k) := by
  refine Only.after (k := [.agr]) h ?_ sub
  unfold State.wufStep
  repeat' first
    | decide | with_reducible apply Only.refl | extract_lets | with_reducible apply Only.ite | with_reducible apply Only.put_agr

theorem State.wufSeen_only {l : List Part} {s t : State} {n : Nat} {f : CanFrame} (h : Only l s t) (sub : [.agr] ⊆ l) : Only l s (t.wufSeen n f) := by
  refine Only.after (k := [.agr]) h ?_ sub
  unfold State.wufSeen
  repeat' first
    | decide | with_reducible apply Only.refl | extract_lets | with_reducible apply Only.ite | with_reducible apply State.wufStep_only

theorem State.wufBad_only {l : List Part} {s t : State} {n : Nat} (h : Only l s t) (sub : [.agr] ⊆ l) : Only l s (t.wufBad n) := by
  refine Only.after (k := [.agr]) h ?_ sub
  unfold State.wufBad
  repeat' first
    | decide | with_reducible apply Only.refl | with_reducible apply State.wufStep_only

theorem State.entryTraffic_only {l : List Part} {s t : State} {n : Nat} {f : CanFrame} (h : Only l s t) (sub : [.atlas, .pwr, .evs, .ctl] ⊆ l) : Only l s (t.entryTraffic n f) := by
  refine Only.after (k := [.atlas, .pwr, .evs, .ctl]) h ?_ sub
  unfold State.entryTraffic
  repeat' first
    | decide | with_reducible apply Only.refl | extract_lets | with_reducible apply Only.ite | with_reducible apply State.abortEntry_only | split

theorem State.kaSent_only {l : List Part} {s t : State} (h : Only l s t) (sub : [.agr] ⊆ l) : Only l s (t.kaSent) := by
  refine Only.after (k := [.agr]) h ?_ sub
  unfold State.kaSent
  repeat' first
    | decide | with_reducible apply Only.refl | extract_lets | with_reducible apply Only.ite | with_reducible apply Only.put_agr

theorem State.kaSentCan_only {l : List Part} {s t : State} {f : CanFrame} (h : Only l s t) (sub : [.agr] ⊆ l) : Only l s (t.kaSentCan f) := by
  refine Only.after (k := [.agr]) h ?_ sub
  unfold State.kaSentCan
  repeat' first
    | decide | with_reducible apply Only.refl | extract_lets | with_reducible apply Only.ite | with_reducible apply State.kaSent_only

/-! ### Machine/Can.lean -/

theorem State.setCan_only {l : List Part} {s t : State} {n : Nat} {c : CanPort} (h : Only l s t) (sub : [.net] ⊆ l) : Only l s (t.setCan n c) := by
  refine Only.after (k := [.net]) h ?_ sub
  unfold State.setCan
  repeat' first
    | decide | with_reducible apply Only.refl | extract_lets | with_reducible apply Only.put_net

theorem State.modCan_only {l : List Part} {s t : State} {n : Nat} {f : CanPort → CanPort} (h : Only l s t) (sub : [.net] ⊆ l) : Only l s (t.modCan n f) := by
  refine Only.after (k := [.net]) h ?_ sub
  unfold State.modCan
  repeat' first
    | decide | with_reducible apply Only.refl | with_reducible apply State.setCan_only

theorem State.netEventN_only {l : List Part} {s t : State} {unit : Nat} {code : Nat} {count : Nat} {value : Nat} (h : Only l s t) (sub : [.atlas, .evs, .ctl] ⊆ l) : Only l s (t.netEventN unit code count value) := by
  refine Only.after (k := [.atlas, .evs, .ctl]) h ?_ sub
  unfold State.netEventN
  repeat' first
    | decide | with_reducible apply Only.refl | with_reducible apply State.emit_only

theorem State.netEvent_only {l : List Part} {s t : State} {unit : Nat} {code : Nat} {value : Nat} (h : Only l s t) (sub : [.atlas, .evs, .ctl] ⊆ l) : Only l s (t.netEvent unit code value) := by
  refine Only.after (k := [.atlas, .evs, .ctl]) h ?_ sub
  unfold State.netEvent
  repeat' first
    | decide | with_reducible apply Only.refl | with_reducible apply State.netEventN_only

theorem State.netLimited_only {l : List Part} {s t : State} {unit : Nat} {code : Nat} {value : Nat} (h : Only l s t) (sub : [.atlas, .net, .evs, .ctl] ⊆ l) : Only l s (t.netLimited unit code value) := by
  refine Only.after (k := [.atlas, .net, .evs, .ctl]) h ?_ sub
  unfold State.netLimited
  repeat' first
    | decide | with_reducible apply Only.refl | extract_lets | with_reducible apply Only.ite | with_reducible apply State.netEventN_only | split
    | with_reducible apply Only.put_net

theorem State.rxDrop_only {l : List Part} {s t : State} {n : Nat} (h : Only l s t) (sub : [.atlas, .net, .evs, .ctl] ⊆ l) : Only l s (t.rxDrop n) := by
  refine Only.after (k := [.atlas, .net, .evs, .ctl]) h ?_ sub
  unfold State.rxDrop
  repeat' first
    | decide | with_reducible apply Only.refl | extract_lets | with_reducible apply State.modCan_only | with_reducible apply State.netLimited_only

theorem State.tunDrop_only {l : List Part} {s t : State} {n : Nat} (h : Only l s t) (sub : [.atlas, .net, .evs, .ctl] ⊆ l) : Only l s (t.tunDrop n) := by
  refine Only.after (k := [.atlas, .net, .evs, .ctl]) h ?_ sub
  unfold State.tunDrop
  repeat' first
    | decide | with_reducible apply Only.refl | extract_lets | with_reducible apply State.modCan_only | with_reducible apply State.netLimited_only

theorem State.queueRec_only {l : List Part} {s t : State} {n : Nat} {q : Nat} {r : RxRec} (h : Only l s t) (sub : [.atlas, .net, .evs, .ctl] ⊆ l) : Only l s (t.queueRec n q r) := by
  refine Only.after (k := [.atlas, .net, .evs, .ctl]) h ?_ sub
  unfold State.queueRec
  repeat' first
    | decide | with_reducible apply Only.refl | extract_lets | with_reducible apply Only.ite | with_reducible apply State.modCan_only
    | with_reducible apply State.rxDrop_only | with_reducible apply State.tunDrop_only

theorem State.canQueue_only {l : List Part} {s t u : State} {n : Nat} {f : CanFrame} (e : t.canQueue n f = some u) (h : Only l s t)
    (sub : [.net] ⊆ l) : Only l s u := by
  unfold State.canQueue at e
  extract_lets c at e
  split at e
  · cases e
  · obtain ⟨i, -, rfl⟩ := Option.map_eq_some_iff.mp e
    exact State.setCan_only h sub

theorem State.tdc_only {l : List Part} {s t : State} {n : Nat} {f : CanFrame} {delay : Nat} (h : Only l s t) (sub : [.atlas, .net, .evs, .ctl] ⊆ l) : Only l s (t.tdc n f delay) := by
  refine Only.after (k := [.atlas, .net, .evs, .ctl]) h ?_ sub
  unfold State.tdc
  repeat' first
    | decide | with_reducible apply Only.refl | extract_lets | with_reducible apply Only.ite | with_reducible apply State.modCan_only
    | with_reducible apply State.netEvent_only

theorem State.emptyTunnel_only {l : List Part} {s t : State} {n : Nat} (h : Only l s t) (sub : [.atlas, .net, .evs, .ctl] ⊆ l) : Only l s (t.emptyTunnel n) := by
  refine Only.after (k := [.atlas, .net, .evs, .ctl]) h ?_ sub
  unfold State.emptyTunnel
  repeat' first
    | decide | with_reducible apply Only.refl | extract_lets | with_reducible apply State.modCan_only | with_reducible apply State.tunDrop_only
    | with_reducible apply Only.foldl | intro _

theorem State.emptyQueue_only {l : List Part} {s t : State} {n : Nat} {q : Nat} (h : Only l s t) (sub : [.atlas, .net, .evs, .ctl] ⊆ l) : Only l s (t.emptyQueue n q) := by
  refine Only.after (k := [.atlas, .net, .evs, .ctl]) h ?_ sub
  unfold State.emptyQueue
  repeat' first
    | decide | with_reducible apply Only.refl | extract_lets | with_reducible apply State.modCan_only | with_reducible apply State.rxDrop_only
    | with_reducible apply Only.foldl | intro _

theorem State.setLin_only {l : List Part} {s t : State} {n : Nat} {l1 : LinPort} (h : Only l s t) (sub : [.net] ⊆ l) : Only l s (t.setLin n l1) := by
  refine Only.after (k := [.net]) h ?_ sub
  unfold State.setLin
  repeat' first
    | decide | with_reducible apply Only.refl | extract_lets | with_reducible apply Only.put_net

theorem State.modLin_only {l : List Part} {s t : State} {n : Nat} {f : LinPort → LinPort} (h : Only l s t) (sub : [.net] ⊆ l) : Only l s (t.modLin n f) := by
  refine Only.after (k := [.net]) h ?_ sub
  unfold State.modLin
  repeat' first
    | decide | with_reducible apply Only.refl | with_reducible apply State.setLin_only

theorem State.canStart_only {l : List Part} {s t : State} {n : Nat} (h : Only l s t) (sub : [.net] ⊆ l) : Only l s (t.canStart n) := by
  refine Only.after (k := [.net]) h ?_ sub
  unfold State.canStart
  repeat' first
    | decide | with_reducible apply Only.refl | with_reducible apply State.modCan_only

theorem State.canStop_only {l : List Part} {s t : State} {n : Nat} (h : Only l s t) (sub : [.atlas, .net, .evs, .ctl] ⊆ l) : Only l s (t.canStop n) := by
  refine Only.after (k := [.atlas, .net, .evs, .ctl]) h ?_ sub
  unfold State.canStop
  repeat' first
    | decide | with_reducible apply Only.refl | extract_lets | with_reducible apply State.modCan_only | with_reducible apply State.emptyTunnel_only

theorem State.canWritten_only {l : List Part} {s t : State} {s0 : State} {n : Nat} {off : Nat} {idx : Nat} {v : Nat} (h : Only l s t) (sub : [.atlas, .net, .evs, .bytes, .memc, .ctl] ⊆ l) : Only l s (State.canWritten s0 t n off idx v) := by
  refine Only.after (k := [.atlas, .net, .evs, .bytes, .memc, .ctl]) h ?_ sub
  unfold State.canWritten
  repeat' first
    | decide | with_reducible apply Only.refl | extract_lets | with_reducible apply Only.ite | with_reducible apply State.modCan_only
    | with_reducible apply State.canStart_only | with_reducible apply State.canStop_only | with_reducible apply State.writeDw_only

/-! ### Machine/Lin.lean -/

theorem State.linRespond_only {l : List Part} {s t : State} {n : Nat} {id : Nat} (h : Only l s t) (sub : [.net] ⊆ l) : Only l s (t.linRespond n id) := by
  refine Only.after (k := [.net]) h ?_ sub
  unfold State.linRespond
  repeat' first
    | decide | with_reducible apply Only.refl | extract_lets | with_reducible apply State.modLin_only

theorem State.linRespErr_only {l : List Part} {s t : State} {n : Nat} (h : Only l s t) (sub : [.net] ⊆ l) : Only l s (t.linRespErr n) := by
  refine Only.after (k := [.net]) h ?_ sub
  unfold State.linRespErr
  repeat' first
    | decide | with_reducible apply Only.refl | extract_lets | with_reducible apply State.modLin_only

theorem State.linAnswer_only {l : List Part} {s t : State} {n : Nat} {req : List Byte} (h : Only l s t) (sub : [.net] ⊆ l) : Only l s (t.linAnswer n req) := by
  refine Only.after (k := [.net]) h ?_ sub
  unfold State.linAnswer
  repeat' first
    | decide | with_reducible apply Only.refl | extract_lets | with_reducible apply State.modLin_only

theorem State.linHeader_only {l : List Part} {s t : State} {n : Nat} {id : Nat} {entry : Option Nat} (h : Only l s t) (sub : [.net] ⊆ l) : Only l s (t.linHeader n id entry) := by
  refine Only.after (k := [.net]) h ?_ sub
  unfold State.linHeader
  repeat' first
    | decide | with_reducible apply Only.refl | extract_lets | with_reducible apply Only.ite | with_reducible apply State.linRespond_only
    | with_reducible apply State.modLin_only | with_reducible apply State.linAnswer_only

theorem State.linSendHeader_only {l : List Part} {s t : State} {n : Nat} {id : Nat} {e : Nat} (h : Only l s t) (sub : [.net] ⊆ l) : Only l s (t.linSendHeader n id e) := by
  refine Only.after (k := [.net]) h ?_ sub
  unfold State.linSendHeader
  repeat' first
    | decide | with_reducible apply Only.refl | extract_lets | with_reducible apply State.linHeader_only | with_reducible apply State.modLin_only

theorem State.linDeliver_only {l : List Part} {s t : State} {n : Nat} {id : Nat} {sof : Nat} {d : List Byte} (h : Only l s t) (sub : [.net] ⊆ l) : Only l s (t.linDeliver n id sof d) := by
  refine Only.after (k := [.net]) h ?_ sub
  unfold State.linDeliver
  repeat' first
    | decide | with_reducible apply Only.refl | extract_lets | with_reducible apply Only.ite | with_reducible apply State.modLin_only
    | with_reducible apply Only.put_net

theorem State.linPublish_only {l : List Part} {s t : State} {n : Nat} {id : Nat} {d : List Byte} (h : Only l s t) (sub : [.net] ⊆ l) : Only l s (t.linPublish n id d) := by
  refine Only.after (k := [.net]) h ?_ sub
  unfold State.linPublish
  repeat' first
    | decide | with_reducible apply Only.refl | with_reducible apply State.modLin_only

theorem State.linStart_only {l : List Part} {s t : State} {n : Nat} (h : Only l s t) (sub : [.net] ⊆ l) : Only l s (t.linStart n) := by
  refine Only.after (k := [.net]) h ?_ sub
  unfold State.linStart
  repeat' first
    | decide | with_reducible apply Only.refl | extract_lets | with_reducible apply Only.ite | with_reducible apply State.modLin_only

theorem State.linStop_only {l : List Part} {s t : State} {n : Nat} (h : Only l s t) (sub : [.net] ⊆ l) : Only l s (t.linStop n) := by
  refine Only.after (k := [.net]) h ?_ sub
  unfold State.linStop
  repeat' first
    | decide | with_reducible apply Only.refl | with_reducible apply State.modLin_only

theorem State.linSleep_only {l : List Part} {s t : State} {n : Nat} (h : Only l s t) (sub : [.net] ⊆ l) : Only l s (t.linSleep n) := by
  refine Only.after (k := [.net]) h ?_ sub
  unfold State.linSleep
  repeat' first
    | decide | with_reducible apply Only.refl | with_reducible apply State.modLin_only

theorem State.linWakeup_only {l : List Part} {s t : State} {n : Nat} (h : Only l s t) (sub : [.net] ⊆ l) : Only l s (t.linWakeup n) := by
  refine Only.after (k := [.net]) h ?_ sub
  unfold State.linWakeup
  repeat' first
    | decide | with_reducible apply Only.refl | with_reducible apply State.modLin_only

theorem State.linWritten_only {l : List Part} {s t : State} {s0 : State} {n : Nat} {off : Nat} (h : Only l s t) (sub : [.net] ⊆ l) : Only l s (State.linWritten s0 t n off) := by
  refine Only.after (k := [.net]) h ?_ sub
  unfold State.linWritten
  repeat' first
    | decide | with_reducible apply Only.refl | extract_lets | with_reducible apply Only.ite | with_reducible apply State.linStop_only
    | with_reducible apply State.linStart_only | with_reducible apply State.modLin_only

/-! ### Machine/Eth.lean -/

theorem State.setEth_only {l : List Part} {s t : State} {k : Nat} {e : EthPort} (h : Only l s t) (sub : [.net] ⊆ l) : Only l s (t.setEth k e) := by
  refine Only.after (k := [.net]) h ?_ sub
  unfold State.setEth
  repeat' first
    | decide | with_reducible apply Only.refl | extract_lets | with_reducible apply Only.put_net

theorem State.setSpe_only {l : List Part} {s t : State} {k : Nat} {e : SpePort} (h : Only l s t) (sub : [.net] ⊆ l) : Only l s (t.setSpe k e) := by
  refine Only.after (k := [.net]) h ?_ sub
  unfold State.setSpe
  repeat' first
    | decide | with_reducible apply Only.refl | extract_lets | with_reducible apply Only.put_net

theorem State.ethDown_only {l : List Part} {s t : State} {k : Nat} (h : Only l s t) (sub : [.atlas, .net, .evs, .ctl] ⊆ l) : Only l s (t.ethDown k) := by
  refine Only.after (k := [.atlas, .net, .evs, .ctl]) h ?_ sub
  unfold State.ethDown
  repeat' first
    | decide | with_reducible apply Only.refl | extract_lets | with_reducible apply Only.ite | with_reducible apply State.setEth_only
    | with_reducible apply State.netEvent_only

theorem State.speStart_only {l : List Part} {s t : State} {k : Nat} (h : Only l s t) (sub : [.net] ⊆ l) : Only l s (t.speStart k) := by
  refine Only.after (k := [.net]) h ?_ sub
  unfold State.speStart
  repeat' first
    | decide | with_reducible apply Only.refl | extract_lets | with_reducible apply State.setSpe_only

theorem State.portCount_only {l : List Part} {s t : State} {p : Nat} {i : Nat} (h : Only l s t) (sub : [.net] ⊆ l) : Only l s (t.portCount p i) := by
  refine Only.after (k := [.net]) h ?_ sub
  unfold State.portCount
  repeat' first
    | decide | with_reducible apply Only.refl | extract_lets | with_reducible apply Only.ite | with_reducible apply State.setEth_only
    | with_reducible apply State.setSpe_only

theorem State.learnAddr_only {l : List Part} {s t : State} {vlan : Nat} {mac : Nat} {port : Nat} (h : Only l s t) (sub : [.net] ⊆ l) : Only l s (t.learnAddr vlan mac port) := by
  refine Only.after (k := [.net]) h ?_ sub
  unfold State.learnAddr
  repeat' first
    | decide | with_reducible apply Only.refl | extract_lets | with_reducible apply Only.ite | with_reducible apply Only.put_net

theorem State.egressTo_only {l : List Part} {s t : State} {p : Nat} {untag : Bool} {f : EthFrame} (h : Only l s t) (sub : [.net] ⊆ l) : Only l s (t.egressTo p untag f) := by
  refine Only.after (k := [.net]) h ?_ sub
  unfold State.egressTo
  repeat' first
    | decide | with_reducible apply Only.refl | extract_lets | with_reducible apply Only.ite | with_reducible apply State.portCount_only
    | with_reducible apply Only.put_net

theorem State.switchIn_only {l : List Part} {s t : State} {f : EthFrame} (h : Only l s t) (sub : [.net] ⊆ l) : Only l s (t.switchIn f) := by
  refine Only.after (k := [.net]) h ?_ sub
  unfold State.switchIn
  repeat' first
    | decide | with_reducible apply Only.refl | extract_lets | with_reducible apply Only.ite | with_reducible apply State.learnAddr_only
    | with_reducible apply State.portCount_only | with_reducible apply State.egressTo_only | with_reducible apply Only.foldl | split
    | with_reducible apply Only.put_net | intro _

theorem State.mrdDue_only {l : List Part} {s t : State} {n : Nat} (h : Only l s t) (sub : [.atlas, .net, .evs, .ctl] ⊆ l) : Only l s (t.mrdDue n) := by
  refine Only.after (k := [.atlas, .net, .evs, .ctl]) h ?_ sub
  unfold State.mrdDue
  repeat' first
    | decide | with_reducible apply Only.refl | extract_lets | with_reducible apply Only.ite | with_reducible apply State.modCan_only
    | with_reducible apply State.netEvent_only | split | with_reducible apply Only.put_atlas

theorem State.mrdWritten_only {l : List Part} {s t : State} {off : Nat} (h : Only l s t) (sub : [.net] ⊆ l) : Only l s (t.mrdWritten off) := by
  refine Only.after (k := [.net]) h ?_ sub
  unfold State.mrdWritten
  repeat' first
    | decide | with_reducible apply Only.refl | extract_lets | with_reducible apply Only.ite | with_reducible apply Only.put_net

theorem State.ethWritten_only {l : List Part} {s t : State} {s0 : State} {k : Nat} {off : Nat} {v : Nat} (h : Only l s t) (sub : [.atlas, .net, .evs, .ctl] ⊆ l) : Only l s (State.ethWritten s0 t k off v) := by
  refine Only.after (k := [.atlas, .net, .evs, .ctl]) h ?_ sub
  unfold State.ethWritten
  repeat' first
    | decide | with_reducible apply Only.refl | extract_lets | with_reducible apply Only.ite | with_reducible apply State.setEth_only
    | with_reducible apply State.ethDown_only

theorem State.speWritten_only {l : List Part} {s t : State} {s0 : State} {k : Nat} {off : Nat} {v : Nat} (h : Only l s t) (sub : [.net] ⊆ l) : Only l s (State.speWritten s0 t k off v) := by
  refine Only.after (k := [.net]) h ?_ sub
  unfold State.speWritten
  repeat' first
    | decide | with_reducible apply Only.refl | extract_lets | with_reducible apply Only.ite | with_reducible apply State.speStart_only
    | with_reducible apply State.setSpe_only

theorem State.netPd6Up_only {l : List Part} {s t : State} (h : Only l s t) (sub : [.net] ⊆ l) : Only l s (t.netPd6Up) := by
  refine Only.after (k := [.net]) h ?_ sub
  unfold State.netPd6Up
  repeat' first
    | decide | with_reducible apply Only.refl | extract_lets | with_reducible apply Only.ite | with_reducible apply State.linStart_only
    | with_reducible apply State.canStart_only | with_reducible apply Only.foldl | with_reducible apply Only.put_net | intro _

theorem State.netPd6Down_only {l : List Part} {s t : State} (h : Only l s t) (sub : [.net] ⊆ l) : Only l s (t.netPd6Down) := by
  refine Only.after (k := [.net]) h ?_ sub
  unfold State.netPd6Down
  repeat' first
    | decide | with_reducible apply Only.refl | extract_lets | with_reducible apply Only.put_net

theorem State.netPd5Up_only {l : List Part} {s t : State} (h : Only l s t) (sub : [.net] ⊆ l) : Only l s (t.netPd5Up) := by
  refine Only.after (k := [.net]) h ?_ sub
  unfold State.netPd5Up
  repeat' first
    | decide | with_reducible apply Only.refl | extract_lets | with_reducible apply Only.ite | with_reducible apply State.speStart_only
    | with_reducible apply Only.foldl | with_reducible apply Only.put_net | intro _

theorem State.netPd5Down_only {l : List Part} {s t : State} (h : Only l s t) (sub : [.net] ⊆ l) : Only l s (t.netPd5Down) := by
  refine Only.after (k := [.net]) h ?_ sub
  unfold State.netPd5Down
  repeat' first
    | decide | with_reducible apply Only.refl | extract_lets | with_reducible apply Only.put_net

end Sys2Proof.Machine
end

