-- ==== Sys2Proof/Laws/OnlyB.lean ====
section
/-!
SUPPORT. What each operation can change: channels and composites, the generators, the lights, the valves, the heat budget, sessions. An operation changes only the
parts of its list.
-/
namespace Sys2Proof.Machine

set_option linter.unusedTactic false
set_option linter.unreachableTactic false

/-! ### Machine/Units.lean -/

theorem State.chanEvent_only {l : List Part} {s t : State} {n : Nat} {code : Nat} {kind : Nat} {ma : Int} (h : Only l s t) (sub : [.atlas, .evs, .ctl] ⊆ l) : Only l s (t.chanEvent n code kind ma) := by
  refine Only.after (k := [.atlas, .evs, .ctl]) h ?_ sub
  unfold State.chanEvent
  repeat' first
    | decide | with_reducible apply Only.refl | with_reducible apply State.emit_only

theorem State.compEventsBy_only {l : List Part} {s t : State} {put : State → Nat → Nat → List Byte → State} {s0 : State} {n who code kind : Nat} {ma : Int}
    (h : Only l s t) (hp : ∀ u p c d, Only l u (put u p c d)) : Only l s (t.compEventsBy put s0 n who code kind ma) := by
  unfold State.compEventsBy
  refine Only.foldl h (fun u p => ?_)
  extract_lets k sum
  exact Only.ite (Only.refl _ _) (hp _ _ _ _)

theorem State.leafEventAt_only {l : List Part} {s t : State} {s0 : State} {n : Nat} {who : Nat} {code : Nat} {kind : Nat} {ma : Int} (h : Only l s t) (sub : [.atlas, .evs, .ctl] ⊆ l) : Only l s (t.leafEventAt s0 n who code kind ma) := by
  refine Only.after (k := [.atlas, .evs, .ctl]) h ?_ sub
  unfold State.leafEventAt
  repeat' first
    | decide | with_reducible apply Only.refl | extract_lets | with_reducible apply State.compEventsBy_only
    | with_reducible apply State.chanEvent_only | with_reducible apply State.emit_only | intro _

theorem State.leafEvent_only {l : List Part} {s t : State} {s0 : State} {n : Nat} {code : Nat} {kind : Nat} {ma : Int} (h : Only l s t) (sub : [.atlas, .evs, .ctl] ⊆ l) : Only l s (t.leafEvent s0 n code kind ma) := by
  refine Only.after (k := [.atlas, .evs, .ctl]) h ?_ sub
  unfold State.leafEvent
  repeat' first
    | decide | with_reducible apply Only.refl | with_reducible apply State.leafEventAt_only

theorem State.setCmd_only {l : List Part} {s t : State} {u : Nat} {c : UCmd} (h : Only l s t) (sub : [.load] ⊆ l) : Only l s (t.setCmd u c) := by
  refine Only.after (k := [.load]) h ?_ sub
  unfold State.setCmd
  repeat' first
    | decide | with_reducible apply Only.refl | extract_lets | with_reducible apply Only.put_load

theorem State.dropCmd_only {l : List Part} {s t : State} {u : Nat} (h : Only l s t) (sub : [.load] ⊆ l) : Only l s (t.dropCmd u) := by
  refine Only.after (k := [.load]) h ?_ sub
  unfold State.dropCmd
  repeat' first
    | decide | with_reducible apply Only.refl | extract_lets | with_reducible apply Only.put_load

theorem State.endCmd_only {l : List Part} {s t : State} {u : Nat} {status : Nat} (h : Only l s t) (sub : [.atlas, .load, .evs, .ctl] ⊆ l) : Only l s (t.endCmd u status) := by
  refine Only.after (k := [.atlas, .load, .evs, .ctl]) h ?_ sub
  unfold State.endCmd
  repeat' first
    | decide | with_reducible apply Only.refl | extract_lets | with_reducible apply State.dropCmd_only | with_reducible apply State.complete_only
    | split

theorem State.failCmd_only {l : List Part} {s t : State} {u : Nat} {fault : Nat} (h : Only l s t) (sub : [.atlas, .load, .evs, .ctl] ⊆ l) : Only l s (t.failCmd u fault) := by
  refine Only.after (k := [.atlas, .load, .evs, .ctl]) h ?_ sub
  unfold State.failCmd
  repeat' first
    | decide | with_reducible apply Only.refl | extract_lets | with_reducible apply State.dropCmd_only | with_reducible apply State.complete_only
    | split

theorem State.markCmd_only {l : List Part} {s t : State} {n : Nat} {f : UCmd → UCmd} (h : Only l s t) (sub : [.load] ⊆ l) : Only l s (t.markCmd n f) := by
  refine Only.after (k := [.load]) h ?_ sub
  unfold State.markCmd
  repeat' first
    | decide | with_reducible apply Only.refl | extract_lets | with_reducible apply Only.ite | with_reducible apply State.setCmd_only | split

theorem State.settle_only {l : List Part} {s t : State} {n : Nat} (h : Only l s t) (sub : [.atlas, .load, .evs, .ctl] ⊆ l) : Only l s (t.settle n) := by
  refine Only.after (k := [.atlas, .load, .evs, .ctl]) h ?_ sub
  unfold State.settle
  repeat' first
    | decide | with_reducible apply Only.refl | extract_lets | with_reducible apply Only.ite | with_reducible apply State.failCmd_only
    | with_reducible apply State.endCmd_only | split

/-! ### Machine/Heat.lean -/

theorem State.addReq_only {l : List Part} {s t : State} {r : IsoReq} (h : Only l s t) (sub : [.iso] ⊆ l) : Only l s (t.addReq r) := by
  refine Only.after (k := [.iso]) h ?_ sub
  unfold State.addReq
  repeat' first
    | decide | with_reducible apply Only.refl | extract_lets | with_reducible apply Only.put_iso

theorem State.requestFor_only {l : List Part} {s t : State} {n : Nat} {kind : ReqKind} (h : Only l s t) (sub : [.iso] ⊆ l) : Only l s (t.requestFor n kind) := by
  refine Only.after (k := [.iso]) h ?_ sub
  unfold State.requestFor
  repeat' first
    | decide | with_reducible apply Only.refl | extract_lets | with_reducible apply State.addReq_only

theorem State.withdraw_only {l : List Part} {s t : State} {n : Nat} (h : Only l s t) (sub : [.iso] ⊆ l) : Only l s (t.withdraw n) := by
  refine Only.after (k := [.iso]) h ?_ sub
  unfold State.withdraw
  repeat' first
    | decide | with_reducible apply Only.refl | extract_lets | with_reducible apply Only.put_iso

theorem State.addRel_only {l : List Part} {s t : State} {r : IsoRel} (h : Only l s t) (sub : [.iso] ⊆ l) : Only l s (t.addRel r) := by
  refine Only.after (k := [.iso]) h ?_ sub
  unfold State.addRel
  repeat' first
    | decide | with_reducible apply Only.refl | extract_lets | with_reducible apply Only.put_iso

theorem State.releaseCh_only {l : List Part} {s t : State} {n : Nat} {uj : Option Rat} (h : Only l s t) (sub : [.iso] ⊆ l) : Only l s (t.releaseCh n uj) := by
  refine Only.after (k := [.iso]) h ?_ sub
  unfold State.releaseCh
  repeat' first
    | decide | with_reducible apply Only.refl | with_reducible apply State.addRel_only

theorem State.isoEvent_only {l : List Part} {s t : State} {num : Nat} {kind : Nat} {pool : Nat} {mw : Nat} {mj : Nat} {waited : Nat} (h : Only l s t) (sub : [.atlas, .evs, .ctl] ⊆ l) : Only l s (t.isoEvent num kind pool mw mj waited) := by
  refine Only.after (k := [.atlas, .evs, .ctl]) h ?_ sub
  unfold State.isoEvent
  repeat' first
    | decide | with_reducible apply Only.refl | with_reducible apply State.emit_only

/-! ### Machine/Channel.lean -/

theorem State.armInrush_only {l : List Part} {s t : State} {n : Nat} (h : Only l s t) (sub : [.load] ⊆ l) : Only l s (t.armInrush n) := by
  refine Only.after (k := [.load]) h ?_ sub
  unfold State.armInrush
  repeat' first
    | decide | with_reducible apply Only.refl | extract_lets | with_reducible apply State.modChan_only

theorem State.gateOn_only {l : List Part} {s t : State} {n : Nat} (h : Only l s t) (sub : [.load] ⊆ l) : Only l s (t.gateOn n) := by
  refine Only.after (k := [.load]) h ?_ sub
  unfold State.gateOn
  repeat' first
    | decide | with_reducible apply Only.refl | extract_lets | with_reducible apply State.setChan_only | with_reducible apply State.armInrush_only
    | with_reducible apply Only.foldl | intro _

theorem State.gateOnAfter_only {l : List Part} {s t : State} {n : Nat} (h : Only l s t) (sub : [.load] ⊆ l) : Only l s (t.gateOnAfter n) := by
  refine Only.after (k := [.load]) h ?_ sub
  unfold State.gateOnAfter
  repeat' first
    | decide | with_reducible apply Only.refl | extract_lets | with_reducible apply State.setChan_only | with_reducible apply State.gateOn_only
    | split

theorem State.lowSides_only {l : List Part} {s t : State} {n : Nat} (h : Only l s t) (sub : [.load] ⊆ l) : Only l s (t.lowSides n) := by
  refine Only.after (k := [.load]) h ?_ sub
  unfold State.lowSides
  repeat' first
    | decide | with_reducible apply Only.refl | extract_lets | with_reducible apply State.modChan_only | with_reducible apply Only.foldl | intro _

theorem State.dropCh_only {l : List Part} {s t : State} {n : Nat} {st : ChSt} {uj : Option Rat} (h : Only l s t) (sub : [.load, .iso] ⊆ l) : Only l s (t.dropCh n st uj) := by
  refine Only.after (k := [.load, .iso]) h ?_ sub
  unfold State.dropCh
  repeat' first
    | decide | with_reducible apply Only.refl | extract_lets | with_reducible apply Only.ite | with_reducible apply State.modChan_only
    | with_reducible apply State.releaseCh_only | with_reducible apply State.withdraw_only

theorem State.pulseGate_only {l : List Part} {s t : State} {n : Nat} {x : Gate} (h : Only l s t) (sub : [.load] ⊆ l) : Only l s (t.pulseGate n x) := by
  refine Only.after (k := [.load]) h ?_ sub
  unfold State.pulseGate
  repeat' first
    | decide | with_reducible apply Only.refl | with_reducible apply State.modChan_only

theorem State.endOnPhase_only {l : List Part} {s t : State} {n : Nat} (h : Only l s t) (sub : [.load] ⊆ l) : Only l s (t.endOnPhase n) := by
  refine Only.after (k := [.load]) h ?_ sub
  unfold State.endOnPhase
  repeat' first
    | decide | with_reducible apply Only.refl | extract_lets | with_reducible apply State.modChan_only | with_reducible apply Only.foldl | intro _

theorem State.endTest_only {l : List Part} {s t : State} {n : Nat} (h : Only l s t) (sub : [.load] ⊆ l) : Only l s (t.endTest n) := by
  refine Only.after (k := [.load]) h ?_ sub
  unfold State.endTest
  repeat' first
    | decide | with_reducible apply Only.refl | extract_lets | with_reducible apply Only.ite | with_reducible apply State.modChan_only

theorem State.endPulse_only {l : List Part} {s t : State} {u : Nat} (h : Only l s t) (sub : [.load, .iso] ⊆ l) : Only l s (t.endPulse u) := by
  refine Only.after (k := [.load, .iso]) h ?_ sub
  unfold State.endPulse
  repeat' first
    | decide | with_reducible apply Only.refl | extract_lets | with_reducible apply State.setGen_only | split | with_reducible apply Only.put_iso

theorem State.confirm_only {l : List Part} {s t : State} {n : Nat} (h : Only l s t) (sub : [.atlas, .load, .evs, .ctl] ⊆ l) : Only l s (t.confirm n) := by
  refine Only.after (k := [.atlas, .load, .evs, .ctl]) h ?_ sub
  unfold State.confirm
  repeat' first
    | decide | with_reducible apply Only.refl | extract_lets | with_reducible apply State.modChan_only | with_reducible apply State.leafEvent_only
    | with_reducible apply State.settle_only | with_reducible apply State.markCmd_only | with_reducible apply Only.foldl | intro _

theorem State.gangLatch_only {l : List Part} {s t : State} {n : Nat} (h : Only l s t) (sub : [.load, .iso] ⊆ l) : Only l s (t.gangLatch n) := by
  refine Only.after (k := [.load, .iso]) h ?_ sub
  unfold State.gangLatch
  repeat' first
    | decide | with_reducible apply Only.refl | extract_lets | with_reducible apply Only.ite | with_reducible apply State.dropCh_only
    | with_reducible apply State.setComp_only | with_reducible apply Only.foldl | intro _

theorem State.noteTrip_only {l : List Part} {s t : State} {n : Nat} {code : Nat} (h : Only l s t) (sub : [.load] ⊆ l) : Only l s (t.noteTrip n code) := by
  refine Only.after (k := [.load]) h ?_ sub
  unfold State.noteTrip
  repeat' first
    | decide | with_reducible apply Only.refl | with_reducible apply State.modChan_only

theorem State.markTrip_only {l : List Part} {s t : State} {l1 : Nat} {code : Nat} (h : Only l s t) (sub : [.load] ⊆ l) : Only l s (t.markTrip l1 code) := by
  refine Only.after (k := [.load]) h ?_ sub
  unfold State.markTrip
  repeat' first
    | decide | with_reducible apply Only.refl | with_reducible apply State.modChan_only

theorem State.tripLasting_only {l : List Part} {s t : State} {n : Nat} {code : Nat} {m : Meas} (h : Only l s t) (sub : [.atlas, .load, .iso, .evs, .ctl] ⊆ l) : Only l s (t.tripLasting n code m) := by
  refine Only.after (k := [.atlas, .load, .iso, .evs, .ctl]) h ?_ sub
  unfold State.tripLasting
  repeat' first
    | decide | with_reducible apply Only.refl | extract_lets | with_reducible apply Only.ite | with_reducible apply State.modChan_only
    | with_reducible apply State.gangLatch_only | with_reducible apply State.noteTrip_only | with_reducible apply State.markTrip_only
    | with_reducible apply State.settle_only | with_reducible apply State.dropCh_only | with_reducible apply State.leafEventAt_only
    | with_reducible apply State.endPulse_only | with_reducible apply Only.foldl | intro _

theorem State.tripFirst_only {l : List Part} {s t : State} {n : Nat} {code : Nat} {m : Meas} (h : Only l s t) (sub : [.atlas, .load, .iso, .evs, .ctl] ⊆ l) : Only l s (t.tripFirst n code m) := by
  refine Only.after (k := [.atlas, .load, .iso, .evs, .ctl]) h ?_ sub
  unfold State.tripFirst
  repeat' first
    | decide | with_reducible apply Only.refl | extract_lets | with_reducible apply State.noteTrip_only | with_reducible apply State.markTrip_only
    | with_reducible apply State.dropCh_only | with_reducible apply State.leafEventAt_only | with_reducible apply Only.foldl | intro _

theorem State.tripAgain_only {l : List Part} {s t : State} {n : Nat} {code : Nat} (h : Only l s t) (sub : [.atlas, .load] ⊆ l) : Only l s (t.tripAgain n code) := by
  refine Only.after (k := [.atlas, .load]) h ?_ sub
  unfold State.tripAgain
  repeat' first
    | decide | with_reducible apply Only.refl | extract_lets | with_reducible apply Only.ite | with_reducible apply State.modChan_only
    | with_reducible apply State.lowerCode_only | with_reducible apply Only.foldl | intro _

theorem State.trip_only {l : List Part} {s t : State} {n : Nat} {code : Nat} {m : Meas} (h : Only l s t) (sub : [.atlas, .load, .iso, .evs, .ctl] ⊆ l) : Only l s (t.trip n code m) := by
  refine Only.after (k := [.atlas, .load, .iso, .evs, .ctl]) h ?_ sub
  unfold State.trip
  repeat' first
    | decide | with_reducible apply Only.refl | extract_lets | with_reducible apply Only.ite | with_reducible apply State.tripAgain_only
    | with_reducible apply State.tripLasting_only | with_reducible apply State.tripFirst_only | with_reducible apply State.confirm_only | split

theorem State.dieTripOff_only {l : List Part} {s t : State} {n : Nat} {code : Nat} (h : Only l s t) (sub : [.load, .evs] ⊆ l) : Only l s (t.dieTripOff n code) := by
  refine Only.after (k := [.load, .evs]) h ?_ sub
  unfold State.dieTripOff
  repeat' first
    | decide | with_reducible apply Only.refl | extract_lets | with_reducible apply Only.ite | with_reducible apply State.modChan_only
    | with_reducible apply State.dieEvent_only | with_reducible apply State.noteTrip_only | with_reducible apply Only.foldl | intro _

theorem State.dieTrips_only {l : List Part} {s t : State} {n : Nat} {code : Nat} {m : Meas} (h : Only l s t) (sub : [.atlas, .load, .iso, .evs, .ctl] ⊆ l) : Only l s (t.dieTrips n code m) := by
  refine Only.after (k := [.atlas, .load, .iso, .evs, .ctl]) h ?_ sub
  unfold State.dieTrips
  repeat' first
    | decide | with_reducible apply Only.refl | extract_lets | with_reducible apply Only.ite | with_reducible apply State.dieEvent_only
    | with_reducible apply State.dieTripOff_only | with_reducible apply State.trip_only

theorem State.unresolved_only {l : List Part} {s t : State} {s0 : State} {n : Nat} (h : Only l s t) (sub : [.atlas, .evs, .ctl] ⊆ l) : Only l s (t.unresolved s0 n) := by
  refine Only.after (k := [.atlas, .evs, .ctl]) h ?_ sub
  unfold State.unresolved
  repeat' first
    | decide | with_reducible apply Only.refl | extract_lets | with_reducible apply Only.ite | with_reducible apply State.leafEvent_only | split

theorem State.leafOn_only {l : List Part} {s t : State} {n : Nat} {d : Drive} (h : Only l s t) (sub : [.atlas, .load, .iso, .evs, .ctl] ⊆ l) : OnlyP l s (t.leafOn n d) := by
  refine OnlyP.after (k := [.atlas, .load, .iso, .evs, .ctl]) h ?_ sub
  unfold State.leafOn
  repeat' first
    | decide | with_reducible apply Only.refl | extract_lets | with_reducible apply State.endTest_only | with_reducible apply State.modChan_only
    | with_reducible apply State.setChan_only | with_reducible apply State.dropCh_only | with_reducible apply State.withdraw_only
    | with_reducible apply State.lowSides_only | with_reducible apply State.unresolved_only | with_reducible apply OnlyP.ite | split
    | with_reducible apply OnlyP.pair

theorem State.leafOff_only {l : List Part} {s t : State} {n : Nat} (h : Only l s t) (sub : [.load, .iso] ⊆ l) : Only l s (t.leafOff n) := by
  refine Only.after (k := [.load, .iso]) h ?_ sub
  unfold State.leafOff
  repeat' first
    | decide | with_reducible apply Only.refl | extract_lets | with_reducible apply State.modChan_only | with_reducible apply State.setChan_only
    | with_reducible apply State.dropCh_only | split

theorem State.leafBrake_only {l : List Part} {s t : State} {n : Nat} (h : Only l s t) (sub : [.atlas, .load, .iso, .evs, .ctl] ⊆ l) : Only l s (t.leafBrake n) := by
  refine Only.after (k := [.atlas, .load, .iso, .evs, .ctl]) h ?_ sub
  unfold State.leafBrake
  repeat' first
    | decide | with_reducible apply Only.refl | extract_lets | with_reducible apply Only.ite | with_reducible apply State.endTest_only
    | with_reducible apply State.dropCh_only | with_reducible apply State.lowSides_only | with_reducible apply State.unresolved_only

theorem State.leafClear_only {l : List Part} {s t : State} {n : Nat} {clr : Bool} (h : Only l s t) (sub : [.load] ⊆ l) : Only l s (t.leafClear n clr) := by
  refine Only.after (k := [.load]) h ?_ sub
  unfold State.leafClear
  repeat' first
    | decide | with_reducible apply Only.refl | extract_lets | with_reducible apply Only.ite | with_reducible apply State.modChan_only

theorem State.askUnit_only {l : List Part} {s t : State} {u : Nat} {need : List Nat} (h : Only l s t) (sub : [.iso] ⊆ l) : Only l s (t.askUnit u need) := by
  refine Only.after (k := [.iso]) h ?_ sub
  unfold State.askUnit
  repeat' first
    | decide | with_reducible apply Only.refl | extract_lets | with_reducible apply State.addReq_only | split

theorem State.unitOn_only {l : List Part} {s t : State} {u : Nat} {drive : Nat → Drive} (h : Only l s t) (sub : [.atlas, .load, .iso, .evs, .ctl] ⊆ l) : Only l s (t.unitOn u drive) := by
  refine Only.after (k := [.atlas, .load, .iso, .evs, .ctl]) h ?_ sub
  unfold State.unitOn
  repeat' first
    | decide | with_reducible apply Only.refl | extract_lets | with_reducible apply Only.ite | with_reducible apply State.leafOn_only
    | with_reducible apply State.askUnit_only | with_reducible apply OnlyP.fst | with_reducible refine Only.of_pair (by assumption) ?_
    | with_reducible apply OnlyP.foldl | split | with_reducible apply OnlyP.pair | intro _

theorem State.lastCmd_only {l : List Part} {s t : State} {u : Nat} {idle : Bool} (h : Only l s t) (sub : [.load] ⊆ l) : Only l s (t.lastCmd u idle) := by
  refine Only.after (k := [.load]) h ?_ sub
  unfold State.lastCmd
  repeat' first
    | decide | with_reducible apply Only.refl | extract_lets | with_reducible apply Only.ite | with_reducible apply State.setComp_only

theorem State.unitOff_only {l : List Part} {s t : State} {u : Nat} (h : Only l s t) (sub : [.atlas, .load, .iso, .evs, .ctl] ⊆ l) : Only l s (t.unitOff u) := by
  have sb : ∀ {k : List Part}, k ⊆ [.atlas, .load, .iso, .evs, .ctl] → k ⊆ l := fun hk => List.Subset.trans hk sub
  unfold State.unitOff
  refine Only.fst (OnlyP.foldl ⟨State.lastCmd_only (State.endPulse_only h (sb (by decide))) (sb (by decide))⟩ (fun q x => ?_))
  have hr := State.leafOff_only (n := x) (Only.refl l q.1) (sb (by decide))
  split
  · exact OnlyP.pair (State.unresolved_only hr (sb (by decide)))
  · exact OnlyP.pair hr

theorem State.unitClear_only {l : List Part} {s t : State} {u : Nat} {clr : Bool} (h : Only l s t) (sub : [.load] ⊆ l) : Only l s (t.unitClear u clr) := by
  refine Only.after (k := [.load]) h ?_ sub
  unfold State.unitClear
  repeat' first
    | decide | with_reducible apply Only.refl | extract_lets | with_reducible apply State.leafClear_only | with_reducible apply State.lastCmd_only
    | with_reducible apply State.setComp_only | with_reducible apply Only.foldl | intro _

theorem State.forward_only {l : List Part} {s t : State} {u : Nat} {cmd : Nat} {stamp : Nat} {data : List Byte} (h : Only l s t) (sub : [.ctl] ⊆ l) : Only l s (t.forward u cmd stamp data) := by
  refine Only.after (k := [.ctl]) h ?_ sub
  unfold State.forward
  repeat' first
    | decide | with_reducible apply Only.refl | extract_lets | with_reducible apply Only.ite | with_reducible apply State.sendCtlMsg_only

theorem State.chanCmd_only {l : List Part} {s t : State} {q : Rq} {c : UnitCmd} {cmd : Nat} {act : State → State} (h : Only l s t)
    (sub : [.atlas, .load, .evs, .ctl] ⊆ l) (ha : ∀ u, Only l u (act u)) : Only l s (t.chanCmd q c cmd act) := by
  have sub' : [.atlas, .evs, .ctl] ⊆ l := List.Subset.trans (by decide) sub
  refine State.serve_only h sub' (fun r u => ?_)
  split
  · exact State.answer_only (Only.refl l u) sub'
  · split
    · exact Only.of_pair (by assumption) (State.accept_only (Only.refl l u) sub')
    · refine State.forward_only (Only.after (k := l) (State.setCmd_only (State.endCmd_only (Only.of_pair (by assumption) (State.accept_only (Only.refl l u) sub')) ?_) ?_) (ha _) (fun _ h => h)) ?_ <;>
        exact List.Subset.trans (by decide) sub

theorem State.afterOn_only {l : List Part} {s t : State} {u : Nat} (h : Only l s t) (sub : [.atlas, .load, .evs, .ctl] ⊆ l) : Only l s (t.afterOn u) := by
  refine Only.after (k := [.atlas, .load, .evs, .ctl]) h ?_ sub
  unfold State.afterOn
  repeat' first
    | decide | with_reducible apply Only.refl | extract_lets | with_reducible apply Only.ite | with_reducible apply State.failCmd_only
    | with_reducible apply State.settle_only

theorem State.turnOn_only {l : List Part} {s t : State} {q : Rq} {c : UnitCmd} {cmd : Nat} (h : Only l s t) (sub : [.atlas, .load, .iso, .evs, .ctl] ⊆ l) : Only l s (t.turnOn q c cmd) := by
  refine Only.after (k := [.atlas, .load, .iso, .evs, .ctl]) h ?_ sub
  unfold State.turnOn
  repeat' first
    | decide | with_reducible apply Only.refl | extract_lets | with_reducible apply State.unitOn_only | with_reducible apply State.afterOn_only
    | with_reducible apply State.lastCmd_only | with_reducible apply State.chanCmd_only | intro _

theorem State.abandonOn_only {l : List Part} {s t : State} {u : Nat} (h : Only l s t) (sub : [.load, .iso] ⊆ l) : Only l s (t.abandonOn u) := by
  refine Only.after (k := [.load, .iso]) h ?_ sub
  unfold State.abandonOn
  repeat' first
    | decide | with_reducible apply Only.refl | extract_lets | with_reducible apply Only.ite | with_reducible apply State.dropCh_only
    | with_reducible apply State.lastCmd_only | with_reducible apply State.endPulse_only | with_reducible apply Only.foldl | intro _

theorem State.followOff_only {l : List Part} {s t : State} {n : Nat} (h : Only l s t) (sub : [.load] ⊆ l) : Only l s (t.followOff n) := by
  refine Only.after (k := [.load]) h ?_ sub
  unfold State.followOff
  repeat' first
    | decide | with_reducible apply Only.refl | extract_lets | with_reducible apply Only.ite | with_reducible apply State.pulseGate_only | split

theorem State.endInrush_only {l : List Part} {s t : State} {n : Nat} {m : Meas} (h : Only l s t) (sub : [.atlas, .load, .iso, .evs, .ctl] ⊆ l) : Only l s (t.endInrush n m) := by
  refine Only.after (k := [.atlas, .load, .iso, .evs, .ctl]) h ?_ sub
  unfold State.endInrush
  repeat' first
    | decide | with_reducible apply Only.refl | extract_lets | with_reducible apply Only.ite | with_reducible apply State.modChan_only
    | with_reducible apply State.settle_only | with_reducible apply State.followOff_only | with_reducible apply State.addRel_only
    | with_reducible apply Only.foldl | intro _

theorem State.testResult_only {l : List Part} {s t : State} {n : Nat} {cand : Nat} (h : Only l s t) (sub : [.atlas, .load, .evs, .ctl] ⊆ l) : Only l s (t.testResult n cand) := by
  refine Only.after (k := [.atlas, .load, .evs, .ctl]) h ?_ sub
  unfold State.testResult
  repeat' first
    | decide | with_reducible apply Only.refl | extract_lets | with_reducible apply Only.ite | with_reducible apply State.endTest_only
    | with_reducible apply State.modChan_only | with_reducible apply State.leafEvent_only | with_reducible apply State.setChan_only

/-! ### Machine/Composite.lean -/

theorem State.chanWritten_only {l : List Part} {s t : State} {n : Nat} {off : Nat} {v : Nat} (h : Only l s t) (sub : [.par] ⊆ l) : Only l s (t.chanWritten n off v) := by
  refine Only.after (k := [.par]) h ?_ sub
  unfold State.chanWritten
  repeat' first
    | decide | with_reducible apply Only.refl | extract_lets | with_reducible apply Only.ite | with_reducible apply State.setPar_only
    | with_reducible apply Only.foldl | split | intro _

theorem State.compEnable_only {l : List Part} {s t : State} {k : Nat} {par : Bool} (h : Only l s t) (sub : [.par, .load] ⊆ l) : Only l s (t.compEnable k par) := by
  refine Only.after (k := [.par, .load]) h ?_ sub
  unfold State.compEnable
  repeat' first
    | decide | with_reducible apply Only.refl | extract_lets | with_reducible apply Only.ite | with_reducible apply State.endTest_only
    | with_reducible apply State.modChan_only | with_reducible apply State.setPar_only | with_reducible apply State.setComp_only
    | with_reducible apply Only.foldl | intro _

theorem State.compDisable_only {l : List Part} {s t : State} {k : Nat} (h : Only l s t) (sub : [.atlas, .load, .evs, .ctl] ⊆ l) : Only l s (t.compDisable k) := by
  refine Only.after (k := [.atlas, .load, .evs, .ctl]) h ?_ sub
  unfold State.compDisable
  repeat' first
    | decide | with_reducible apply Only.refl | extract_lets | with_reducible apply Only.ite | with_reducible apply State.modChan_only
    | with_reducible apply State.endCmd_only | with_reducible apply State.lastCmd_only | with_reducible apply State.setComp_only
    | with_reducible apply Only.foldl | intro _

theorem State.compWritten_only {l : List Part} {s t : State} {k : Nat} {off : Nat} {v : Nat} (h : Only l s t) (sub : [.atlas, .par, .load, .evs, .ctl] ⊆ l) : Only l s (t.compWritten k off v) := by
  refine Only.after (k := [.atlas, .par, .load, .evs, .ctl]) h ?_ sub
  unfold State.compWritten
  repeat' first
    | decide | with_reducible apply Only.refl | extract_lets | with_reducible apply Only.ite | with_reducible apply State.compDisable_only
    | with_reducible apply State.compEnable_only

/-! ### Machine/Pulse.lean -/

theorem State.askMore_only {l : List Part} {s t : State} {kind : ReqKind} {u : Nat} {d0 : Nat} {p0 : Nat} {d1 : Nat} {p1 : Nat} (h : Only l s t) (sub : [.iso] ⊆ l) : Only l s (t.askMore kind u d0 p0 d1 p1) := by
  refine Only.after (k := [.iso]) h ?_ sub
  unfold State.askMore
  repeat' first
    | decide | with_reducible apply Only.refl | extract_lets | with_reducible apply Only.ite | with_reducible apply State.addReq_only
    | with_reducible apply Only.foldl | intro _

theorem State.refundPulse_only {l : List Part} {s t : State} {u : Nat} {d0 : Nat} {p0 : Nat} {d1 : Nat} {p1 : Nat} (h : Only l s t) (sub : [.iso] ⊆ l) : Only l s (t.refundPulse u d0 p0 d1 p1) := by
  refine Only.after (k := [.iso]) h ?_ sub
  unfold State.refundPulse
  repeat' first
    | decide | with_reducible apply Only.refl | extract_lets | with_reducible apply Only.ite | with_reducible apply State.addRel_only
    | with_reducible apply Only.foldl | intro _

theorem State.dropMore_only {l : List Part} {s t : State} {p : ReqKind → Bool} (h : Only l s t) (sub : [.iso] ⊆ l) : Only l s (t.dropMore p) := by
  refine Only.after (k := [.iso]) h ?_ sub
  unfold State.dropMore
  repeat' first
    | decide | with_reducible apply Only.refl | extract_lets | with_reducible apply Only.put_iso

theorem State.leafOnEdge_only {l : List Part} {s t : State} {n : Nat} {dir : Bool} (h : Only l s t) (sub : [.load] ⊆ l) : Only l s (t.leafOnEdge n dir) := by
  refine Only.after (k := [.load]) h ?_ sub
  unfold State.leafOnEdge
  repeat' first
    | decide | with_reducible apply Only.refl | extract_lets | with_reducible apply Only.ite | with_reducible apply State.pulseGate_only
    | with_reducible apply State.modChan_only | with_reducible apply State.gateOnAfter_only

theorem State.leafOffEdge_only {l : List Part} {s t : State} {n : Nat} {free : Bool} (h : Only l s t) (sub : [.load] ⊆ l) : Only l s (t.leafOffEdge n free) := by
  refine Only.after (k := [.load]) h ?_ sub
  unfold State.leafOffEdge
  repeat' first
    | decide | with_reducible apply Only.refl | extract_lets | with_reducible apply State.pulseGate_only | with_reducible apply State.endOnPhase_only

theorem State.unitOnEdge_only {l : List Part} {s t : State} {u : Nat} {dir : Bool} (h : Only l s t) (sub : [.load] ⊆ l) : Only l s (t.unitOnEdge u dir) := by
  refine Only.after (k := [.load]) h ?_ sub
  unfold State.unitOnEdge
  repeat' first
    | decide | with_reducible apply Only.refl | extract_lets | with_reducible apply State.leafOnEdge_only | with_reducible apply Only.foldl | intro _

theorem State.unitOffEdge_only {l : List Part} {s t : State} {u : Nat} {free : Bool} (h : Only l s t) (sub : [.load] ⊆ l) : Only l s (t.unitOffEdge u free) := by
  refine Only.after (k := [.load]) h ?_ sub
  unfold State.unitOffEdge
  repeat' first
    | decide | with_reducible apply Only.refl | extract_lets | with_reducible apply State.leafOffEdge_only | with_reducible apply Only.foldl | intro _

theorem State.beginPeriod_only {l : List Part} {s t : State} {g : Nat} {b : Nat} (h : Only l s t) (sub : [.load, .iso] ⊆ l) : Only l s (t.beginPeriod g b) := by
  refine Only.after (k := [.load, .iso]) h ?_ sub
  unfold State.beginPeriod
  repeat' first
    | decide | with_reducible apply Only.refl | extract_lets | with_reducible apply Only.ite | with_reducible apply State.unitOffEdge_only
    | with_reducible apply State.setGen_only | with_reducible apply State.refundPulse_only | with_reducible apply Only.foldl | intro _

theorem State.modMem_only {l : List Part} {s t : State} {g : Nat} {u : Nat} {f : PMem → PMem} (h : Only l s t) (sub : [.load] ⊆ l) : Only l s (t.modMem g u f) := by
  refine Only.after (k := [.load]) h ?_ sub
  unfold State.modMem
  repeat' first
    | decide | with_reducible apply Only.refl | extract_lets | with_reducible apply State.setGen_only

theorem State.memWritten_only {l : List Part} {s t : State} {g : Nat} {u : Nat} {v : Nat} (h : Only l s t) (sub : [.load, .iso] ⊆ l) : Only l s (t.memWritten g u v) := by
  refine Only.after (k := [.load, .iso]) h ?_ sub
  unfold State.memWritten
  repeat' first
    | decide | with_reducible apply Only.refl | extract_lets | with_reducible apply Only.ite | with_reducible apply State.dropMore_only
    | with_reducible apply State.askMore_only | with_reducible apply State.modMem_only | with_reducible apply State.setGen_only | split

theorem State.periodWritten_only {l : List Part} {s t : State} {g : Nat} {v : Nat} (h : Only l s t) (sub : [.load, .iso] ⊆ l) : Only l s (t.periodWritten g v) := by
  refine Only.after (k := [.load, .iso]) h ?_ sub
  unfold State.periodWritten
  repeat' first
    | decide | with_reducible apply Only.refl | extract_lets | with_reducible apply Only.ite | with_reducible apply State.dropMore_only
    | with_reducible apply State.askMore_only | with_reducible apply State.setGen_only | with_reducible apply Only.foldl | intro _

theorem State.genStart_only {l : List Part} {s t : State} {g : Nat} (h : Only l s t) (sub : [.load, .iso] ⊆ l) : Only l s (t.genStart g) := by
  refine Only.after (k := [.load, .iso]) h ?_ sub
  unfold State.genStart
  repeat' first
    | decide | with_reducible apply Only.refl | extract_lets | with_reducible apply State.beginPeriod_only | with_reducible apply State.setGen_only

theorem State.genWritten_only {l : List Part} {s t : State} {g : Nat} {off : Nat} {idx : Nat} {v : Nat} (h : Only l s t) (sub : [.load, .iso] ⊆ l) : Only l s (t.genWritten g off idx v) := by
  refine Only.after (k := [.load, .iso]) h ?_ sub
  unfold State.genWritten
  repeat' first
    | decide | with_reducible apply Only.refl | extract_lets | with_reducible apply Only.ite | with_reducible apply State.genStart_only
    | with_reducible apply State.memWritten_only | with_reducible apply State.periodWritten_only | with_reducible apply State.setGen_only

/-! ### Machine/Light.lean -/

theorem State.setChain_only {l : List Part} {s t : State} {c : Nat} {x : Chain} (h : Only l s t) (sub : [.light] ⊆ l) : Only l s (t.setChain c x) := by
  refine Only.after (k := [.light]) h ?_ sub
  unfold State.setChain
  repeat' first
    | decide | with_reducible apply Only.refl | extract_lets | with_reducible apply Only.put_light

theorem State.setMx_only {l : List Part} {s t : State} {x : Mx} (h : Only l s t) (sub : [.light] ⊆ l) : Only l s (t.setMx x) := by
  refine Only.after (k := [.light]) h ?_ sub
  unfold State.setMx
  repeat' first
    | decide | with_reducible apply Only.refl | extract_lets | with_reducible apply Only.put_light

theorem State.setNtc_only {l : List Part} {s t : State} {t1 : Nat} {x : Ntc} (h : Only l s t) (sub : [.light] ⊆ l) : Only l s (t.setNtc t1 x) := by
  refine Only.after (k := [.light]) h ?_ sub
  unfold State.setNtc
  repeat' first
    | decide | with_reducible apply Only.refl | extract_lets | with_reducible apply Only.put_light

theorem State.lightEvent_only {l : List Part} {s t : State} {unit : Nat} {code : Nat} {kind : Nat} {index : Nat} {value : Nat} {temp : Int} (h : Only l s t) (sub : [.atlas, .evs, .ctl] ⊆ l) : Only l s (t.lightEvent unit code kind index value temp) := by
  refine Only.after (k := [.atlas, .evs, .ctl]) h ?_ sub
  unfold State.lightEvent
  repeat' first
    | decide | with_reducible apply Only.refl | with_reducible apply State.emit_only

theorem State.mxMeasure_only {l : List Part} {s t : State} (h : Only l s t) (sub : [.light] ⊆ l) : Only l s (t.mxMeasure) := by
  refine Only.after (k := [.light]) h ?_ sub
  unfold State.mxMeasure
  repeat' first
    | decide | with_reducible apply Only.refl | extract_lets | with_reducible apply State.setMx_only

theorem State.askMx_only {l : List Part} {s t : State} {kind : ReqKind} {mw : Nat} (h : Only l s t) (sub : [.iso] ⊆ l) : Only l s (t.askMx kind mw) := by
  refine Only.after (k := [.iso]) h ?_ sub
  unfold State.askMx
  repeat' first
    | decide | with_reducible apply Only.refl | with_reducible apply State.addReq_only

theorem State.mxRaise_only {l : List Part} {s t : State} (h : Only l s t) (sub : [.iso, .light] ⊆ l) : Only l s (t.mxRaise) := by
  refine Only.after (k := [.iso, .light]) h ?_ sub
  unfold State.mxRaise
  repeat' first
    | decide | with_reducible apply Only.refl | extract_lets | with_reducible apply Only.ite | with_reducible apply State.dropMore_only
    | with_reducible apply State.mxMeasure_only | with_reducible apply State.askMx_only

theorem State.mxAsk_only {l : List Part} {s t : State} {kind : ReqKind} (h : Only l s t) (sub : [.iso, .light] ⊆ l) : Only l s (t.mxAsk kind) := by
  refine Only.after (k := [.iso, .light]) h ?_ sub
  unfold State.mxAsk
  repeat' first
    | decide | with_reducible apply Only.refl | extract_lets | with_reducible apply State.mxMeasure_only | with_reducible apply State.askMx_only

theorem State.mxGranted_only {l : List Part} {s t : State} {kind : ReqKind} {mw : Nat} (h : Only l s t) (sub : [.light] ⊆ l) : Only l s (t.mxGranted kind mw) := by
  refine Only.after (k := [.light]) h ?_ sub
  unfold State.mxGranted
  repeat' first
    | decide | with_reducible apply Only.refl | extract_lets | with_reducible apply Only.ite | with_reducible apply State.setMx_only

theorem State.mxStop_only {l : List Part} {s t : State} {st : MxSt} (h : Only l s t) (sub : [.iso, .light] ⊆ l) : Only l s (t.mxStop st) := by
  refine Only.after (k := [.iso, .light]) h ?_ sub
  unfold State.mxStop
  repeat' first
    | decide | with_reducible apply Only.refl | extract_lets | with_reducible apply Only.ite | with_reducible apply State.withdraw_only
    | with_reducible apply State.addRel_only | with_reducible apply State.setMx_only

theorem State.commitLight_only {l : List Part} {s t : State} {t1 : Nat} {fid : Nat} (h : Only l s t) (sub : [.iso, .light] ⊆ l) : Only l s (t.commitLight t1 fid) := by
  refine Only.after (k := [.iso, .light]) h ?_ sub
  unfold State.commitLight
  repeat' first
    | decide | with_reducible apply Only.refl | extract_lets | with_reducible apply Only.ite | with_reducible apply State.setChain_only
    | with_reducible apply State.mxRaise_only | with_reducible apply State.setMx_only

theorem State.chainDiag_only {l : List Part} {s t : State} {c : Nat} {res : Nat} (h : Only l s t) (sub : [.atlas, .light, .evs, .ctl] ⊆ l) : Only l s (t.chainDiag c res) := by
  refine Only.after (k := [.atlas, .light, .evs, .ctl]) h ?_ sub
  unfold State.chainDiag
  repeat' first
    | decide | with_reducible apply Only.refl | extract_lets | with_reducible apply Only.ite | with_reducible apply State.lightEvent_only
    | with_reducible apply State.setChain_only | with_reducible apply Only.foldl | intro _

theorem State.chainDo_only {l : List Part} {s t : State} {c : Nat} {bad : Bool} (h : Only l s t) (sub : [.atlas, .light, .evs, .ctl] ⊆ l) : Only l s (t.chainDo c bad) := by
  refine Only.after (k := [.atlas, .light, .evs, .ctl]) h ?_ sub
  unfold State.chainDo
  repeat' first
    | decide | with_reducible apply Only.refl | extract_lets | with_reducible apply Only.ite | with_reducible apply State.lightEvent_only
    | with_reducible apply State.setChain_only

theorem State.mxDiag_only {l : List Part} {s t : State} (h : Only l s t) (sub : [.atlas, .light, .evs, .ctl] ⊆ l) : Only l s (t.mxDiag) := by
  refine Only.after (k := [.atlas, .light, .evs, .ctl]) h ?_ sub
  unfold State.mxDiag
  repeat' first
    | decide | with_reducible apply Only.refl | extract_lets | with_reducible apply Only.ite | with_reducible apply State.lightEvent_only
    | with_reducible apply State.setMx_only | with_reducible apply Only.foldl | intro _

theorem State.mxShow_only {l : List Part} {s t : State} (h : Only l s t) (sub : [.iso, .light] ⊆ l) : Only l s (t.mxShow) := by
  refine Only.after (k := [.iso, .light]) h ?_ sub
  unfold State.mxShow
  repeat' first
    | decide | with_reducible apply Only.refl | extract_lets | with_reducible apply Only.ite | with_reducible apply State.addRel_only
    | with_reducible apply State.mxRaise_only | with_reducible apply State.setMx_only

theorem State.mxConfirm_only {l : List Part} {s t : State} (h : Only l s t) (sub : [.atlas, .light, .evs, .ctl] ⊆ l) : Only l s (t.mxConfirm) := by
  refine Only.after (k := [.atlas, .light, .evs, .ctl]) h ?_ sub
  unfold State.mxConfirm
  repeat' first
    | decide | with_reducible apply Only.refl | extract_lets | with_reducible apply State.lightEvent_only | with_reducible apply State.setMx_only

theorem State.ntcOff_only {l : List Part} {s t : State} {t1 : Nat} (h : Only l s t) (sub : [.atlas, .light, .evs, .ctl] ⊆ l) : Only l s (t.ntcOff t1) := by
  refine Only.after (k := [.atlas, .light, .evs, .ctl]) h ?_ sub
  unfold State.ntcOff
  repeat' first
    | decide | with_reducible apply Only.refl | extract_lets | with_reducible apply Only.ite | with_reducible apply State.lightEvent_only
    | with_reducible apply State.setNtc_only

theorem State.ntcDerate_only {l : List Part} {s t : State} {t1 : Nat} {d : Nat} {temp : Int} (h : Only l s t) (sub : [.atlas, .light, .evs, .ctl] ⊆ l) : Only l s (t.ntcDerate t1 d temp) := by
  refine Only.after (k := [.atlas, .light, .evs, .ctl]) h ?_ sub
  unfold State.ntcDerate
  repeat' first
    | decide | with_reducible apply Only.refl | extract_lets | with_reducible apply Only.ite | with_reducible apply State.lightEvent_only
    | with_reducible apply State.setNtc_only

theorem State.ntcConvert_only {l : List Part} {s t : State} {t1 : Nat} {code : Nat} (h : Only l s t) (sub : [.atlas, .light, .evs, .ctl] ⊆ l) : Only l s (t.ntcConvert t1 code) := by
  refine Only.after (k := [.atlas, .light, .evs, .ctl]) h ?_ sub
  unfold State.ntcConvert
  repeat' first
    | decide | with_reducible apply Only.refl | extract_lets | with_reducible apply Only.ite | with_reducible apply State.ntcOff_only
    | with_reducible apply State.lightEvent_only | with_reducible apply State.setNtc_only | with_reducible apply State.ntcDerate_only

theorem State.ntcApply_only {l : List Part} {s t : State} {s0 : State} (h : Only l s t) (sub : [.atlas, .iso, .light, .evs, .ctl] ⊆ l) : Only l s (t.ntcApply s0) := by
  refine Only.after (k := [.atlas, .iso, .light, .evs, .ctl]) h ?_ sub
  unfold State.ntcApply
  repeat' first
    | decide | with_reducible apply Only.refl | extract_lets | with_reducible apply Only.ite | with_reducible apply State.dropMore_only
    | with_reducible apply State.lightEvent_only | with_reducible apply State.askMore_only | with_reducible apply State.mxRaise_only
    | with_reducible apply Only.foldl | intro _

theorem State.mxStart_only {l : List Part} {s t : State} (h : Only l s t) (sub : [.iso, .light] ⊆ l) : Only l s (t.mxStart) := by
  refine Only.after (k := [.iso, .light]) h ?_ sub
  unfold State.mxStart
  repeat' first
    | decide | with_reducible apply Only.refl | extract_lets | with_reducible apply State.setMx_only | with_reducible apply State.mxAsk_only

theorem State.mxWritten_only {l : List Part} {s t : State} {s0 : State} {off : Nat} {v : Nat} (h : Only l s t) (sub : [.iso, .light] ⊆ l) : Only l s (State.mxWritten s0 t off v) := by
  refine Only.after (k := [.iso, .light]) h ?_ sub
  unfold State.mxWritten
  repeat' first
    | decide | with_reducible apply Only.refl | extract_lets | with_reducible apply Only.ite | with_reducible apply State.mxStart_only
    | with_reducible apply State.mxRaise_only | with_reducible apply State.mxStop_only

theorem State.ntcWritten_only {l : List Part} {s t : State} {s0 : State} {t1 : Nat} {off : Nat} {v : Nat} (h : Only l s t) (sub : [.atlas, .iso, .light, .evs, .ctl] ⊆ l) : Only l s (State.ntcWritten s0 t t1 off v) := by
  refine Only.after (k := [.atlas, .iso, .light, .evs, .ctl]) h ?_ sub
  unfold State.ntcWritten
  repeat' first
    | decide | with_reducible apply Only.refl | extract_lets | with_reducible apply Only.ite | with_reducible apply State.ntcApply_only
    | with_reducible apply State.ntcOff_only | with_reducible apply State.setNtc_only

theorem State.lightUp_only {l : List Part} {s t : State} (h : Only l s t) (sub : [.iso, .light] ⊆ l) : Only l s (t.lightUp) := by
  refine Only.after (k := [.iso, .light]) h ?_ sub
  unfold State.lightUp
  repeat' first
    | decide | with_reducible apply Only.refl | extract_lets | with_reducible apply Only.ite | with_reducible apply State.mxStart_only
    | with_reducible apply Only.put_light

theorem State.ntcUp_only {l : List Part} {s t : State} (h : Only l s t) (sub : [.light] ⊆ l) : Only l s (t.ntcUp) := by
  refine Only.after (k := [.light]) h ?_ sub
  unfold State.ntcUp
  repeat' first
    | decide | with_reducible apply Only.refl | extract_lets | with_reducible apply Only.ite | with_reducible apply State.setNtc_only
    | with_reducible apply Only.foldl | intro _

theorem State.adoptLight_only {l : List Part} {s t : State} (h : Only l s t) (sub : [.iso, .light] ⊆ l) : Only l s (t.adoptLight) := by
  refine Only.after (k := [.iso, .light]) h ?_ sub
  unfold State.adoptLight
  repeat' first
    | decide | with_reducible apply Only.refl | extract_lets | with_reducible apply Only.ite | with_reducible apply State.mxStart_only
    | with_reducible apply State.mxStop_only | with_reducible apply Only.put_iso | with_reducible apply Only.put_light

/-! ### Machine/Valve.lean -/

theorem State.setValve_only {l : List Part} {s t : State} {v : Nat} {x : Valve} (h : Only l s t) (sub : [.vlv] ⊆ l) : Only l s (t.setValve v x) := by
  refine Only.after (k := [.vlv]) h ?_ sub
  unfold State.setValve
  repeat' first
    | decide | with_reducible apply Only.refl | extract_lets | with_reducible apply Only.put_vlv

theorem State.modValve_only {l : List Part} {s t : State} {v : Nat} {f : Valve → Valve} (h : Only l s t) (sub : [.vlv] ⊆ l) : Only l s (t.modValve v f) := by
  refine Only.after (k := [.vlv]) h ?_ sub
  unfold State.modValve
  repeat' first
    | decide | with_reducible apply Only.refl | with_reducible apply State.setValve_only

theorem State.modBank_only {l : List Part} {s t : State} {b : Nat} {f : VBank → VBank} (h : Only l s t) (sub : [.vlv] ⊆ l) : Only l s (t.modBank b f) := by
  refine Only.after (k := [.vlv]) h ?_ sub
  unfold State.modBank
  repeat' first
    | decide | with_reducible apply Only.refl | extract_lets | with_reducible apply Only.put_vlv

theorem State.valveEvent_only {l : List Part} {s t : State} {v : Nat} {code : Nat} {kind : Nat} {ma : Int} {value : Nat} (h : Only l s t) (sub : [.atlas, .evs, .ctl] ⊆ l) : Only l s (t.valveEvent v code kind ma value) := by
  refine Only.after (k := [.atlas, .evs, .ctl]) h ?_ sub
  unfold State.valveEvent
  repeat' first
    | decide | with_reducible apply Only.refl | with_reducible apply State.emit_only

theorem State.valveEnd_only {l : List Part} {s t : State} {v : Nat} {status : Nat} {fault : Nat} (h : Only l s t) (sub : [.atlas, .vlv, .evs, .ctl] ⊆ l) : Only l s (t.valveEnd v status fault) := by
  refine Only.after (k := [.atlas, .vlv, .evs, .ctl]) h ?_ sub
  unfold State.valveEnd
  repeat' first
    | decide | with_reducible apply Only.refl | extract_lets | with_reducible apply State.complete_only | with_reducible apply State.modValve_only
    | split

theorem State.actEnd_only {l : List Part} {s t : State} {v : Nat} {status : Nat} {fault : Nat} (h : Only l s t) (sub : [.atlas, .vlv, .evs, .ctl] ⊆ l) : Only l s (t.actEnd v status fault) := by
  refine Only.after (k := [.atlas, .vlv, .evs, .ctl]) h ?_ sub
  unfold State.actEnd
  repeat' first
    | decide | with_reducible apply Only.refl | extract_lets | with_reducible apply Only.ite | with_reducible apply State.valveEnd_only | split

theorem State.actRetried_only {l : List Part} {s t : State} {v : Nat} (h : Only l s t) (sub : [.vlv] ⊆ l) : Only l s (t.actRetried v) := by
  refine Only.after (k := [.vlv]) h ?_ sub
  unfold State.actRetried
  repeat' first
    | decide | with_reducible apply Only.refl | with_reducible apply State.modValve_only

theorem State.takeClamp_only {l : List Part} {s t : State} {v : Nat} (h : Only l s t) (sub : [.iso] ⊆ l) : Only l s (t.takeClamp v) := by
  refine Only.after (k := [.iso]) h ?_ sub
  unfold State.takeClamp
  repeat' first
    | decide | with_reducible apply Only.refl | extract_lets | with_reducible apply Only.put_iso

theorem State.startFall_only {l : List Part} {s t : State} {v : Nat} {fast : Bool} {toZero : Bool} (h : Only l s t) (sub : [.atlas, .iso, .vlv, .evs, .ctl] ⊆ l) : Only l s (t.startFall v fast toZero) := by
  refine Only.after (k := [.atlas, .iso, .vlv, .evs, .ctl]) h ?_ sub
  unfold State.startFall
  repeat' first
    | decide | with_reducible apply Only.refl | extract_lets | with_reducible apply Only.ite | with_reducible apply State.modBank_only
    | with_reducible apply State.valveEvent_only | with_reducible apply State.takeClamp_only | with_reducible apply State.modValve_only

theorem State.resumeFalls_only {l : List Part} {s t : State} {b : Nat} (h : Only l s t) (sub : [.iso, .vlv] ⊆ l) : Only l s (t.resumeFalls b) := by
  refine Only.after (k := [.iso, .vlv]) h ?_ sub
  unfold State.resumeFalls
  repeat' first
    | decide | with_reducible apply Only.refl | extract_lets | with_reducible apply Only.ite | with_reducible apply State.takeClamp_only
    | with_reducible apply State.modValve_only | with_reducible apply Only.foldl | intro _

theorem State.delayFalls_only {l : List Part} {s t : State} {b : Nat} (h : Only l s t) (sub : [.atlas, .vlv, .evs, .ctl] ⊆ l) : Only l s (t.delayFalls b) := by
  refine Only.after (k := [.atlas, .vlv, .evs, .ctl]) h ?_ sub
  unfold State.delayFalls
  repeat' first
    | decide | with_reducible apply Only.refl | extract_lets | with_reducible apply Only.ite | with_reducible apply State.modBank_only
    | with_reducible apply State.valveEvent_only | with_reducible apply State.modValve_only | with_reducible apply Only.foldl | intro _

theorem State.valveGate_only {l : List Part} {s t : State} {v : Nat} {st : VSt} (h : Only l s t) (sub : [.atlas, .vlv, .evs, .ctl] ⊆ l) : Only l s (t.valveGate v st) := by
  refine Only.after (k := [.atlas, .vlv, .evs, .ctl]) h ?_ sub
  unfold State.valveGate
  repeat' first
    | decide | with_reducible apply Only.refl | extract_lets | with_reducible apply Only.ite | with_reducible apply State.delayFalls_only
    | with_reducible apply State.modValve_only

theorem State.freeBoost_only {l : List Part} {s t : State} {b : Nat} (h : Only l s t) (sub : [.atlas, .iso, .vlv, .evs, .ctl] ⊆ l) : Only l s (t.freeBoost b) := by
  refine Only.after (k := [.atlas, .iso, .vlv, .evs, .ctl]) h ?_ sub
  unfold State.freeBoost
  repeat' first
    | decide | with_reducible apply Only.refl | extract_lets | with_reducible apply State.resumeFalls_only | with_reducible apply State.modBank_only
    | with_reducible apply State.valveEvent_only | with_reducible apply State.valveGate_only | with_reducible apply State.setWait_only
    | with_reducible apply State.modValve_only | split | with_reducible apply Only.put_atlas

theorem State.valveDrop_only {l : List Part} {s t : State} {v : Nat} {st : VSt} {fall : Option Bool} (h : Only l s t) (sub : [.atlas, .iso, .vlv, .evs, .ctl] ⊆ l) : Only l s (t.valveDrop v st fall) := by
  refine Only.after (k := [.atlas, .iso, .vlv, .evs, .ctl]) h ?_ sub
  unfold State.valveDrop
  repeat' first
    | decide | with_reducible apply Only.refl | extract_lets | with_reducible apply Only.ite | with_reducible apply State.startFall_only
    | with_reducible apply State.withdraw_only | with_reducible apply State.addRel_only | with_reducible apply State.freeBoost_only
    | with_reducible apply State.modValve_only | split

theorem State.askValve_only {l : List Part} {s t : State} {v : Nat} {kind : ReqKind} (h : Only l s t) (sub : [.iso] ⊆ l) : Only l s (t.askValve v kind) := by
  refine Only.after (k := [.iso]) h ?_ sub
  unfold State.askValve
  repeat' first
    | decide | with_reducible apply Only.refl | extract_lets | with_reducible apply State.addReq_only

theorem State.boostBusy_only {l : List Part} {s t : State} {v : Nat} (h : Only l s t) (sub : [.atlas, .iso, .vlv, .evs, .ctl] ⊆ l) : Only l s (t.boostBusy v) := by
  refine Only.after (k := [.atlas, .iso, .vlv, .evs, .ctl]) h ?_ sub
  unfold State.boostBusy
  repeat' first
    | decide | with_reducible apply Only.refl | extract_lets | with_reducible apply State.modBank_only | with_reducible apply State.valveEvent_only
    | with_reducible apply State.actEnd_only | with_reducible apply State.valveDrop_only | with_reducible apply State.modValve_only

theorem State.valveGranted_only {l : List Part} {s t : State} {v : Nat} (h : Only l s t) (sub : [.atlas, .iso, .vlv, .evs, .ctl] ⊆ l) : Only l s (t.valveGranted v) := by
  refine Only.after (k := [.atlas, .iso, .vlv, .evs, .ctl]) h ?_ sub
  unfold State.valveGranted
  repeat' first
    | decide | with_reducible apply Only.refl | extract_lets | with_reducible apply Only.ite | with_reducible apply State.boostBusy_only
    | with_reducible apply State.valveEvent_only | with_reducible apply State.valveGate_only | with_reducible apply State.setWait_only
    | with_reducible apply State.modValve_only | split

theorem State.bankGranted_only {l : List Part} {s t : State} {b : Nat} {vs : List Nat} (h : Only l s t) (sub : [.atlas, .iso, .vlv, .evs, .ctl] ⊆ l) : Only l s (t.bankGranted b vs) := by
  refine Only.after (k := [.atlas, .iso, .vlv, .evs, .ctl]) h ?_ sub
  unfold State.bankGranted
  repeat' first
    | decide | with_reducible apply Only.refl | extract_lets | with_reducible apply State.modBank_only | with_reducible apply State.valveGranted_only
    | with_reducible apply Only.foldl | split | intro _

theorem State.valvesGranted_only {l : List Part} {s t : State} {vs : List Nat} (h : Only l s t) (sub : [.atlas, .iso, .vlv, .evs, .ctl] ⊆ l) : Only l s (t.valvesGranted vs) := by
  refine Only.after (k := [.atlas, .iso, .vlv, .evs, .ctl]) h ?_ sub
  unfold State.valvesGranted
  repeat' first
    | decide | with_reducible apply Only.refl | extract_lets | with_reducible apply Only.ite | with_reducible apply State.bankGranted_only
    | with_reducible apply Only.foldl | intro _

theorem State.valveOff_only {l : List Part} {s t : State} {v : Nat} (h : Only l s t) (sub : [.atlas, .iso, .vlv, .evs, .ctl] ⊆ l) : Only l s (t.valveOff v) := by
  refine Only.after (k := [.atlas, .iso, .vlv, .evs, .ctl]) h ?_ sub
  unfold State.valveOff
  repeat' first
    | decide | with_reducible apply Only.refl | extract_lets | with_reducible apply Only.ite | with_reducible apply State.valveEvent_only
    | with_reducible apply State.valveDrop_only | with_reducible apply State.modValve_only | split

theorem State.valveCmd_only {l : List Part} {s t : State} {q : Rq} {c : UnitCmd} {cmd : Nat} {act : State → State} (h : Only l s t)
    (sub : [.atlas, .vlv, .evs, .ctl] ⊆ l) (ha : ∀ u, Only l u (act u)) : Only l s (t.valveCmd q c cmd act) := by
  have sub' : [.atlas, .evs, .ctl] ⊆ l := List.Subset.trans (by decide) sub
  refine State.serve_only h sub' (fun r u => ?_)
  split
  · exact State.answer_only (Only.refl l u) sub'
  · split
    · exact Only.of_pair (by assumption) (State.accept_only (Only.refl l u) sub')
    · refine Only.after (k := l) (State.modValve_only (State.valveEnd_only (Only.of_pair (by assumption) (State.accept_only (Only.refl l u) sub')) ?_) ?_) (ha _) (fun _ h => h) <;>
        exact List.Subset.trans (by decide) sub

theorem State.startAct_only {l : List Part} {s t : State} {v : Nat} (h : Only l s t) (sub : [.iso, .vlv] ⊆ l) : Only l s (t.startAct v) := by
  refine Only.after (k := [.iso, .vlv]) h ?_ sub
  unfold State.startAct
  repeat' first
    | decide | with_reducible apply Only.refl | extract_lets | with_reducible apply State.askValve_only | with_reducible apply State.modValve_only

theorem State.boostDone_only {l : List Part} {s t : State} {v : Nat} {i : Int} (h : Only l s t) (sub : [.atlas, .iso, .vlv, .evs, .ctl] ⊆ l) : Only l s (t.boostDone v i) := by
  refine Only.after (k := [.atlas, .iso, .vlv, .evs, .ctl]) h ?_ sub
  unfold State.boostDone
  repeat' first
    | decide | with_reducible apply Only.refl | extract_lets | with_reducible apply Only.ite | with_reducible apply State.startFall_only
    | with_reducible apply State.setValve_only | with_reducible apply State.freeBoost_only

theorem State.valveConfirm_only {l : List Part} {s t : State} {v : Nat} (h : Only l s t) (sub : [.atlas, .vlv, .evs, .ctl] ⊆ l) : Only l s (t.valveConfirm v) := by
  refine Only.after (k := [.atlas, .vlv, .evs, .ctl]) h ?_ sub
  unfold State.valveConfirm
  repeat' first
    | decide | with_reducible apply Only.refl | extract_lets | with_reducible apply State.actRetried_only | with_reducible apply State.valveEvent_only
    | with_reducible apply State.actEnd_only | with_reducible apply State.modValve_only

theorem State.valveTripIn_only {l : List Part} {s t : State} {v : Nat} {code : Nat} {ma : Int} (h : Only l s t) (sub : [.atlas, .iso, .vlv, .evs, .ctl] ⊆ l) : Only l s (t.valveTripIn v code ma) := by
  refine Only.after (k := [.atlas, .iso, .vlv, .evs, .ctl]) h ?_ sub
  unfold State.valveTripIn
  repeat' first
    | decide | with_reducible apply Only.refl | extract_lets | with_reducible apply Only.ite | with_reducible apply State.valveEvent_only
    | with_reducible apply State.actEnd_only | with_reducible apply State.valveDrop_only | with_reducible apply State.modValve_only

theorem State.valveTrip_only {l : List Part} {s t : State} {v : Nat} {code : Nat} {ma : Int} (h : Only l s t) (sub : [.atlas, .iso, .vlv, .evs, .ctl] ⊆ l) : Only l s (t.valveTrip v code ma) := by
  refine Only.after (k := [.atlas, .iso, .vlv, .evs, .ctl]) h ?_ sub
  unfold State.valveTrip
  repeat' first
    | decide | with_reducible apply Only.refl | extract_lets | with_reducible apply Only.ite | with_reducible apply State.lowerCode_only
    | with_reducible apply State.valveTripIn_only | with_reducible apply State.valveConfirm_only | with_reducible apply State.modValve_only | split

theorem State.bankLost_only {l : List Part} {s t : State} {b : Nat} (h : Only l s t) (sub : [.atlas, .iso, .vlv, .evs, .ctl] ⊆ l) : Only l s (t.bankLost b) := by
  refine Only.after (k := [.atlas, .iso, .vlv, .evs, .ctl]) h ?_ sub
  unfold State.bankLost
  repeat' first
    | decide | with_reducible apply Only.refl | extract_lets | with_reducible apply Only.ite | with_reducible apply State.valveEvent_only
    | with_reducible apply State.actEnd_only | with_reducible apply State.valveDrop_only | with_reducible apply State.modValve_only
    | with_reducible apply Only.foldl | intro _

theorem State.bankWritten_only {l : List Part} {s t : State} {s0 : State} {off : Nat} {v : Nat} (h : Only l s t) (sub : [.par, .vlv] ⊆ l) : Only l s (State.bankWritten s0 t off v) := by
  refine Only.after (k := [.par, .vlv]) h ?_ sub
  unfold State.bankWritten
  repeat' first
    | decide | with_reducible apply Only.refl | extract_lets | with_reducible apply Only.ite | with_reducible apply State.setPar_only
    | with_reducible apply Only.foldl | with_reducible apply Only.put_vlv | intro _

theorem State.railStart_only {l : List Part} {s t : State} (h : Only l s t) (sub : [.vlv] ⊆ l) : Only l s (t.railStart) := by
  refine Only.after (k := [.vlv]) h ?_ sub
  unfold State.railStart
  repeat' first
    | decide | with_reducible apply Only.refl | extract_lets | with_reducible apply Only.ite | with_reducible apply Only.put_vlv

/-! ### Machine/Isotherm.lean -/

theorem State.checkOver_only {l : List Part} {s t : State} {num : Option Nat} (h : Only l s t) (sub : [.atlas, .iso, .evs, .ctl] ⊆ l) : Only l s (t.checkOver num) := by
  refine Only.after (k := [.atlas, .iso, .evs, .ctl]) h ?_ sub
  unfold State.checkOver
  repeat' first
    | decide | with_reducible apply Only.refl | extract_lets | with_reducible apply Only.ite | with_reducible apply State.isoEvent_only | split
    | with_reducible apply Only.put_iso

theorem State.settleInrush_only {l : List Part} {s t : State} {x : Grant} {uj : Rat} {stamp : Nat} (h : Only l s t) (sub : [.iso] ⊆ l) : Only l s (t.settleInrush x uj stamp) := by
  refine Only.after (k := [.iso]) h ?_ sub
  unfold State.settleInrush
  repeat' first
    | decide | with_reducible apply Only.refl | extract_lets | with_reducible apply Only.ite | with_reducible apply Only.put_iso

theorem State.applyRel_only {l : List Part} {s t : State} {r : IsoRel} (h : Only l s t) (sub : [.atlas, .iso, .evs, .ctl] ⊆ l) : Only l s (t.applyRel r) := by
  refine Only.after (k := [.atlas, .iso, .evs, .ctl]) h ?_ sub
  unfold State.applyRel
  repeat' first
    | decide | with_reducible apply Only.refl | extract_lets | with_reducible apply State.checkOver_only
    | with_reducible apply State.settleInrush_only | split | with_reducible apply Only.put_iso

theorem State.applyRels_only {l : List Part} {s t : State} (h : Only l s t) (sub : [.atlas, .iso, .evs, .ctl] ⊆ l) : Only l s (t.applyRels) := by
  refine Only.after (k := [.atlas, .iso, .evs, .ctl]) h ?_ sub
  unfold State.applyRels
  repeat' first
    | decide | with_reducible apply Only.refl | extract_lets | with_reducible apply State.checkOver_only | with_reducible apply State.applyRel_only
    | with_reducible apply Only.foldl | with_reducible apply Only.put_iso | intro _

theorem State.isoWait_only {l : List Part} {s t : State} {num : Nat} {w : Nat} (h : Only l s t) (sub : [.atlas] ⊆ l) : Only l s (t.isoWait num w) := by
  refine Only.after (k := [.atlas]) h ?_ sub
  unfold State.isoWait
  repeat' first
    | decide | with_reducible apply Only.refl | extract_lets | with_reducible apply State.setWait_only | split | dsimp +zetaDelta only

theorem State.isoMark_only {l : List Part} {s t : State} {num : Nat} (h : Only l s t) (sub : [.load, .vlv] ⊆ l) : Only l s (t.isoMark num) := by
  refine Only.after (k := [.load, .vlv]) h ?_ sub
  unfold State.isoMark
  repeat' first
    | decide | with_reducible apply Only.refl | extract_lets | with_reducible apply Only.ite | with_reducible apply State.markCmd_only
    | with_reducible apply State.modValve_only

theorem State.chanGranted_only {l : List Part} {s t : State} {n : Nat} (h : Only l s t) (sub : [.load] ⊆ l) : Only l s (t.chanGranted n) := by
  refine Only.after (k := [.load]) h ?_ sub
  unfold State.chanGranted
  repeat' first
    | decide | with_reducible apply Only.refl | extract_lets | with_reducible apply Only.ite | with_reducible apply State.modChan_only
    | with_reducible apply State.gateOnAfter_only | split

theorem State.grantEffect_only {l : List Part} {s t : State} {r : IsoReq} (h : Only l s t) (sub : [.atlas, .load, .light, .evs, .ctl] ⊆ l) : Only l s (t.grantEffect r) := by
  refine Only.after (k := [.atlas, .load, .light, .evs, .ctl]) h ?_ sub
  unfold State.grantEffect
  repeat' first
    | decide | with_reducible apply Only.refl | extract_lets | with_reducible apply Only.ite | with_reducible apply State.settle_only
    | with_reducible apply State.mxGranted_only | with_reducible apply State.chanGranted_only | with_reducible apply Only.foldl | split | intro _

theorem State.grantReq_only {l : List Part} {s t : State} {r : IsoReq} (h : Only l s t) (sub : [.atlas, .load, .iso, .light, .evs, .ctl] ⊆ l) : Only l s (t.grantReq r) := by
  refine Only.after (k := [.atlas, .load, .iso, .light, .evs, .ctl]) h ?_ sub
  unfold State.grantReq
  repeat' first
    | decide | with_reducible apply Only.refl | extract_lets | with_reducible apply State.isoWait_only | with_reducible apply State.isoEvent_only
    | with_reducible apply State.grantEffect_only | split | with_reducible apply Only.put_atlas | with_reducible apply Only.put_iso

theorem State.modReq_only {l : List Part} {s t : State} {r : IsoReq} {f : IsoReq → IsoReq} (h : Only l s t) (sub : [.iso] ⊆ l) : Only l s (t.modReq r f) := by
  refine Only.after (k := [.iso]) h ?_ sub
  unfold State.modReq
  repeat' first
    | decide | with_reducible apply Only.refl | extract_lets | with_reducible apply Only.put_iso

theorem State.startBlock_only {l : List Part} {s t : State} {r : IsoReq} (h : Only l s t) (sub : [.atlas, .iso, .evs, .ctl] ⊆ l) : Only l s (t.startBlock r) := by
  refine Only.after (k := [.atlas, .iso, .evs, .ctl]) h ?_ sub
  unfold State.startBlock
  repeat' first
    | decide | with_reducible apply Only.refl | extract_lets | with_reducible apply Only.ite | with_reducible apply State.isoEvent_only
    | with_reducible apply State.modReq_only

theorem State.deferReq_only {l : List Part} {s t : State} {r : IsoReq} {blocked : Bool} (h : Only l s t) (sub : [.atlas, .load, .iso, .vlv, .evs, .ilr, .ctl] ⊆ l) : Only l s (t.deferReq r blocked) := by
  refine Only.after (k := [.atlas, .load, .iso, .vlv, .evs, .ilr, .ctl]) h ?_ sub
  unfold State.deferReq
  repeat' first
    | decide | with_reducible apply Only.refl | extract_lets | with_reducible apply Only.ite | with_reducible apply State.isoWait_only
    | with_reducible apply State.startBlock_only | with_reducible apply State.isoEvent_only | with_reducible apply State.pairEvent_only
    | with_reducible apply State.isoMark_only | with_reducible apply State.modReq_only | with_reducible apply State.pairErr_only | split
    | with_reducible apply Only.put_iso

theorem State.grantAll_only {l : List Part} {s t : State} {x0 : Nat} {x2 : List IsoReq} (h : Only l s t) (sub : [.atlas, .load, .iso, .light, .evs, .ctl] ⊆ l) : Only l s (State.grantAll x0 t x2) := by
  induction x0 generalizing t x2 with
  | zero => unfold State.grantAll; exact h
  | succ k ih =>
    unfold State.grantAll
    repeat' first
      | exact h | exact List.Subset.trans (by decide) sub | with_reducible apply ih | extract_lets | with_reducible apply State.grantReq_only | split
      | with_reducible apply Only.put_iso

theorem State.grantInOrder_only {l : List Part} {s t : State} {x1 : Bool} {x2 : List IsoReq} (h : Only l s t) (sub : [.atlas, .load, .iso, .vlv, .light, .evs, .ilr, .ctl] ⊆ l) : Only l s (t.grantInOrder x1 x2) := by
  induction x2 generalizing t x1 with
  | nil => unfold State.grantInOrder; exact h
  | cons a as ih =>
    unfold State.grantInOrder
    repeat' first
      | exact h | exact List.Subset.trans (by decide) sub | with_reducible apply ih | extract_lets | with_reducible apply Only.ite
      | with_reducible apply State.grantReq_only | with_reducible apply State.deferReq_only

theorem State.arbiterPass_only {l : List Part} {s t : State} (h : Only l s t) (sub : [.atlas, .load, .iso, .vlv, .light, .evs, .ilr, .ctl] ⊆ l) : Only l s (t.arbiterPass) := by
  refine Only.after (k := [.atlas, .load, .iso, .vlv, .light, .evs, .ilr, .ctl]) h ?_ sub
  unfold State.arbiterPass
  repeat' first
    | decide | with_reducible apply Only.refl | extract_lets | with_reducible apply Only.ite | with_reducible apply State.grantInOrder_only
    | with_reducible apply State.valvesGranted_only | with_reducible apply State.checkOver_only | with_reducible apply State.grantAll_only
    | with_reducible apply State.applyRels_only

theorem State.stepGrant_only {l : List Part} {s t : State} {n : Nat} {first : Bool} {w : Rat} (h : Only l s t) (sub : [.iso] ⊆ l) : Only l s (t.stepGrant n first w) := by
  refine Only.after (k := [.iso]) h ?_ sub
  unfold State.stepGrant
  repeat' first
    | decide | with_reducible apply Only.refl | extract_lets | with_reducible apply Only.ite | with_reducible apply Only.put_iso

theorem State.chanStep_only {l : List Part} {s t : State} {old : State} {n : Nat} {steps : List StepIn} (h : Only l s t) (sub : [.atlas, .load, .iso, .evs, .ctl] ⊆ l) : Only l s (t.chanStep old n steps) := by
  refine Only.after (k := [.atlas, .load, .iso, .evs, .ctl]) h ?_ sub
  unfold State.chanStep
  repeat' first
    | decide | with_reducible apply Only.refl | extract_lets | with_reducible apply Only.ite | with_reducible apply State.modChan_only
    | with_reducible apply State.isoEvent_only | with_reducible apply State.stepGrant_only | with_reducible apply State.setChan_only

theorem State.learnAt_only {l : List Part} {s t : State} {n : Nat} (h : Only l s t) (sub : [.iso] ⊆ l) : Only l s (t.learnAt n) := by
  refine Only.after (k := [.iso]) h ?_ sub
  unfold State.learnAt
  repeat' first
    | decide | with_reducible apply Only.refl | extract_lets | with_reducible apply Only.ite | with_reducible apply Only.put_iso

theorem State.trueUnit_only {l : List Part} {s t : State} {num : Nat} (h : Only l s t) (sub : [.atlas, .iso, .evs, .ctl] ⊆ l) : Only l s (t.trueUnit num) := by
  refine Only.after (k := [.atlas, .iso, .evs, .ctl]) h ?_ sub
  unfold State.trueUnit
  repeat' first
    | decide | with_reducible apply Only.refl | extract_lets | with_reducible apply Only.ite | with_reducible apply State.checkOver_only
    | with_reducible apply Only.put_iso

theorem State.diverge_only {l : List Part} {s t : State} {n : Nat} {sensor : Int} (h : Only l s t) (sub : [.atlas, .load, .evs, .ctl] ⊆ l) : Only l s (t.diverge n sensor) := by
  refine Only.after (k := [.atlas, .load, .evs, .ctl]) h ?_ sub
  unfold State.diverge
  repeat' first
    | decide | with_reducible apply Only.refl | extract_lets | with_reducible apply Only.ite | with_reducible apply State.isoEvent_only
    | with_reducible apply State.setChan_only | with_reducible apply State.setDie_only

/-! ### Machine/Session.lean -/

theorem State.closeSession_only {l : List Part} {s t : State} {i : Nat} (h : Only l s t) (sub : [.atlas, .par, .evs, .ctl] ⊆ l) : Only l s (t.closeSession i) := by
  refine Only.after (k := [.atlas, .par, .evs, .ctl]) h ?_ sub
  unfold State.closeSession
  repeat' first
    | decide | with_reducible apply Only.refl | extract_lets | with_reducible apply Only.ite | with_reducible apply State.dropClaim_only
    | with_reducible apply State.setPf_only | with_reducible apply State.modSes_only | with_reducible apply Only.put_atlas

theorem State.closeAll_only {l : List Part} {s t : State} (h : Only l s t) (sub : [.atlas, .par, .evs, .ctl] ⊆ l) : Only l s (t.closeAll) := by
  refine Only.after (k := [.atlas, .par, .evs, .ctl]) h ?_ sub
  unfold State.closeAll
  repeat' first
    | decide | with_reducible apply Only.refl | extract_lets | with_reducible apply State.closeSession_only | with_reducible apply Only.foldl
    | intro _

end Sys2Proof.Machine
end

