-- ==== Sys2Proof/Laws/OnlyC.lean ====
section
/-!
SUPPORT. What each operation can change: the sleep agreement, the pace of the domains, the cores, the interlock, the twin link, the images, the power states, the start. An operation changes only the
parts of its list.
-/
namespace Sys2Proof.Machine

set_option linter.unusedTactic false
set_option linter.unreachableTactic false

/-! ### Machine/Agree.lean -/

theorem State.modAgr_only {l : List Part} {s t : State} {f : Agree → Agree} (h : Only l s t) (sub : [.agr] ⊆ l) : Only l s (t.modAgr f) := by
  refine Only.after (k := [.agr]) h ?_ sub
  unfold State.modAgr
  repeat' first
    | decide | with_reducible apply Only.refl | with_reducible apply Only.put_agr

theorem State.agrEvent_only {l : List Part} {s t : State} {code : Nat} {value : Nat} (h : Only l s t) (sub : [.atlas, .evs, .ctl] ⊆ l) : Only l s (t.agrEvent code value) := by
  refine Only.after (k := [.atlas, .evs, .ctl]) h ?_ sub
  unfold State.agrEvent
  repeat' first
    | decide | with_reducible apply Only.refl | with_reducible apply State.netEvent_only

theorem State.agrStart_only {l : List Part} {s t : State} {t1 : Nat} (h : Only l s t) (sub : [.agr] ⊆ l) : Only l s (t.agrStart t1) := by
  refine Only.after (k := [.agr]) h ?_ sub
  unfold State.agrStart
  repeat' first
    | decide | with_reducible apply Only.refl | with_reducible apply State.modAgr_only

theorem State.agrNormalAt_only {l : List Part} {s t : State} {t1 : Nat} (h : Only l s t) (sub : [.agr] ⊆ l) : Only l s (t.agrNormalAt t1) := by
  refine Only.after (k := [.agr]) h ?_ sub
  unfold State.agrNormalAt
  repeat' first
    | decide | with_reducible apply Only.refl | extract_lets | with_reducible apply State.agrStart_only | with_reducible apply State.modAgr_only

theorem State.agrNormal_only {l : List Part} {s t : State} (h : Only l s t) (sub : [.agr] ⊆ l) : Only l s (t.agrNormal) := by
  refine Only.after (k := [.agr]) h ?_ sub
  unfold State.agrNormal
  repeat' first
    | decide | with_reducible apply Only.refl | with_reducible apply State.agrNormalAt_only

theorem State.agrStay_only {l : List Part} {s t : State} {value : Nat} (h : Only l s t) (sub : [.atlas, .net, .agr, .evs, .ctl] ⊆ l) : Only l s (t.agrStay value) := by
  refine Only.after (k := [.atlas, .net, .agr, .evs, .ctl]) h ?_ sub
  unfold State.agrStay
  repeat' first
    | decide | with_reducible apply Only.refl | extract_lets | with_reducible apply Only.ite | with_reducible apply State.linWakeup_only
    | with_reducible apply State.agrEvent_only | with_reducible apply State.agrStart_only | with_reducible apply State.modAgr_only
    | with_reducible apply State.agrNormal_only | with_reducible apply Only.foldl | split | intro _

theorem State.agrReady_only {l : List Part} {s t : State} {src : Option Nat} (h : Only l s t) (sub : [.agr] ⊆ l) : Only l s (t.agrReady src) := by
  refine Only.after (k := [.agr]) h ?_ sub
  unfold State.agrReady
  repeat' first
    | decide | with_reducible apply Only.refl | extract_lets | with_reducible apply Only.ite | with_reducible apply State.agrStart_only
    | with_reducible apply State.modAgr_only | with_reducible apply State.agrNormal_only | split

theorem State.nsWritten_only {l : List Part} {s t : State} {s0 : State} {off : Nat} (h : Only l s t) (sub : [.agr] ⊆ l) : Only l s (State.nsWritten s0 t off) := by
  refine Only.after (k := [.agr]) h ?_ sub
  unfold State.nsWritten
  repeat' first
    | decide | with_reducible apply Only.refl | extract_lets | with_reducible apply Only.ite | with_reducible apply State.modAgr_only
    | with_reducible apply State.agrNormal_only

theorem State.wmWrite_only {l : List Part} {s t : State} {i : Nat} {r : WmRun} {active : Bool} (h : Only l s t) (sub : [.par] ⊆ l) : Only l s (t.wmWrite i r active) := by
  refine Only.after (k := [.par]) h ?_ sub
  unfold State.wmWrite
  repeat' first
    | decide | with_reducible apply Only.refl | with_reducible apply State.setPar_only

theorem State.wmEnd_only {l : List Part} {s t : State} {r : WmRun} (h : Only l s t) (sub : [.par, .agr] ⊆ l) : Only l s (t.wmEnd r) := by
  refine Only.after (k := [.par, .agr]) h ?_ sub
  unfold State.wmEnd
  repeat' first
    | decide | with_reducible apply Only.refl | extract_lets | with_reducible apply Only.ite | with_reducible apply State.modAgr_only
    | with_reducible apply State.setPf_only | split

theorem State.wmEndAll_only {l : List Part} {s t : State} (h : Only l s t) (sub : [.par, .agr] ⊆ l) : Only l s (t.wmEndAll) := by
  refine Only.after (k := [.par, .agr]) h ?_ sub
  unfold State.wmEndAll
  repeat' first
    | decide | with_reducible apply Only.refl | extract_lets | with_reducible apply State.wmEnd_only | with_reducible apply Only.foldl | intro _

theorem State.wmSeen_only {l : List Part} {s t : State} {link : Nat} {node : Nat} {reason : Nat} (h : Only l s t) (sub : [.par, .agr] ⊆ l) : Only l s (t.wmSeen link node reason) := by
  refine Only.after (k := [.par, .agr]) h ?_ sub
  unfold State.wmSeen
  repeat' first
    | decide | with_reducible apply Only.refl | extract_lets | with_reducible apply Only.ite | with_reducible apply State.wmEnd_only
    | with_reducible apply State.wmEndAll_only | with_reducible apply State.modAgr_only | split

/-! ### Machine/Pace.lean -/

theorem State.modPace_only {l : List Part} {s t : State} {p : Nat} {f : PaceRec → PaceRec} (h : Only l s t) (sub : [.pace] ⊆ l) : Only l s (t.modPace p f) := by
  refine Only.after (k := [.pace]) h ?_ sub
  unfold State.modPace
  repeat' first
    | decide | with_reducible apply Only.refl | with_reducible apply Only.put_pace

theorem State.paceWrite_only {l : List Part} {s t : State} {ini : Initiator} {p : Nat} {off : Nat} {f : PaceRec → PaceRec} (h : Only l s t) (sub : [.pace, .fab, .dbg, .regs] ⊆ l) : Only l s (t.paceWrite ini p off f) := by
  refine Only.after (k := [.pace, .fab, .dbg, .regs]) h ?_ sub
  unfold State.paceWrite
  repeat' first
    | decide | with_reducible apply Only.refl | extract_lets | with_reducible apply State.superWrite_only | with_reducible apply State.modPace_only
    | with_reducible apply State.accessErr_only | split | intro _

theorem State.fallbackEvent_only {l : List Part} {s t : State} {code : Nat} (h : Only l s t) (sub : [.atlas, .evs, .ctl] ⊆ l) : Only l s (t.fallbackEvent code) := by
  refine Only.after (k := [.atlas, .evs, .ctl]) h ?_ sub
  unfold State.fallbackEvent
  repeat' first
    | decide | with_reducible apply Only.refl | with_reducible apply State.emit_only

theorem State.timersStood_only {l : List Part} {s t : State} {d : Nat} (h : Only l s t) (sub : [.boot, .ilr] ⊆ l) : Only l s (t.timersStood d) := by
  refine Only.after (k := [.boot, .ilr]) h ?_ sub
  unfold State.timersStood
  repeat' first
    | with_reducible apply Only.refl | extract_lets
    | (with_reducible apply Only.upd) <;> [skip; (intro p hp; (fail_if_success with_reducible apply Part.same_refl); cases p <;> first | exact absurd (by decide) hp | (with_reducible apply Part.regs_of; exact rfl) | (with_reducible apply Part.evs_of; exact rfl) | exact rfl | exact ⟨rfl, rfl, rfl⟩)]

theorem State.resumeTb_only {l : List Part} {s t : State} (h : Only l s t) (sub : [.clk, .boot, .ilr] ⊆ l) : Only l s (t.resumeTb) := by
  refine Only.after (k := [.clk, .boot, .ilr]) h ?_ sub
  unfold State.resumeTb
  repeat' first
    | decide | with_reducible apply Only.refl | extract_lets | with_reducible apply Only.ite | with_reducible apply State.timersStood_only
    | with_reducible apply Only.put_clk

theorem State.spanStart_only {l : List Part} {s t : State} (h : Only l s t) (sub : [.clk] ⊆ l) : Only l s (t.spanStart) := by
  refine Only.after (k := [.clk]) h ?_ sub
  unfold State.spanStart
  repeat' first
    | decide | with_reducible apply Only.refl | extract_lets | with_reducible apply Only.put_clk

theorem State.startTb_only {l : List Part} {s t : State} (h : Only l s t) (sub : [.clk, .boot, .ilr] ⊆ l) : Only l s (t.startTb) := by
  refine Only.after (k := [.clk, .boot, .ilr]) h ?_ sub
  unfold State.startTb
  repeat' first
    | decide | with_reducible apply Only.refl | extract_lets | with_reducible apply Only.ite | with_reducible apply State.resumeTb_only
    | with_reducible apply State.spanStart_only | with_reducible apply Only.put_clk

theorem State.pllLock_only {l : List Part} {s t : State} (h : Only l s t) (sub : [.clk, .boot, .ilr] ⊆ l) : Only l s (t.pllLock) := by
  refine Only.after (k := [.clk, .boot, .ilr]) h ?_ sub
  unfold State.pllLock
  repeat' first
    | decide | with_reducible apply Only.refl | extract_lets | with_reducible apply State.startTb_only | with_reducible apply Only.put_clk

theorem State.pllFallback_only {l : List Part} {s t : State} (h : Only l s t) (sub : [.clk, .boot, .ilr] ⊆ l) : Only l s (t.pllFallback) := by
  refine Only.after (k := [.clk, .boot, .ilr]) h ?_ sub
  unfold State.pllFallback
  repeat' first
    | decide | with_reducible apply Only.refl | extract_lets | with_reducible apply State.startTb_only | with_reducible apply Only.put_clk

theorem State.latchNow_only {l : List Part} {s t : State} {p : Nat} (h : Only l s t) (sub : [.clk] ⊆ l) : Only l s (t.latchNow p) := by
  refine Only.after (k := [.clk]) h ?_ sub
  unfold State.latchNow
  repeat' first
    | decide | with_reducible apply Only.refl | extract_lets | with_reducible apply Only.put_clk

theorem State.latchAon_only {l : List Part} {s t : State} {p : Nat} (h : Only l s t) (sub : [.clk] ⊆ l) : Only l s (t.latchAon p) := by
  refine Only.after (k := [.clk]) h ?_ sub
  unfold State.latchAon
  repeat' first
    | decide | with_reducible apply Only.refl | extract_lets | with_reducible apply Only.put_clk

/-! ### Machine/CoreOps.lean -/

theorem State.setCore_only {l : List Part} {s t : State} {i : Nat} {c : Core} (h : Only l s t) (sub : [.regs, .evs] ⊆ l) : Only l s (t.setCore i c) := by
  refine Only.after (k := [.regs, .evs]) h ?_ sub
  unfold State.setCore
  (with_reducible apply Only.upd) <;> [apply Only.refl; (intro p hp; cases p <;> first | exact absurd (by decide) hp | exact rfl | exact ⟨rfl, rfl, rfl⟩)]

theorem State.modCore_only {l : List Part} {s t : State} {i : Nat} {f : Core → Core} (h : Only l s t) (sub : [.regs, .evs] ⊆ l) :
    Only l s (t.modCore i f) := State.setCore_only h sub

/-- A change of a core's record that leaves its pending events. -/
theorem State.modCore_regs {l : List Part} {s t : State} {i : Nat} {f : Core → Core} (h : Only l s t) (sub : [.regs] ⊆ l)
    (hf : ∀ c, (f c).evPend = c.evPend ∧ (f c).dieEv = c.dieEv) : Only l s (t.modCore i f) := by
  refine Only.after (k := [.regs]) h ⟨fun p hp => ?_⟩ sub
  by_cases he : p = .evs
  · subst he
    intro j
    simp only [State.modCore, State.setCore, State.core, Vector.toList_setIfInBounds, List.getD_eq_getElem?_getD, List.getElem?_set] at hf ⊢
    split
    · subst i
      split
      · simpa using hf _
      · rename_i hj
        simp [List.getElem?_eq_none (Nat.le_of_not_lt hj)]
    · exact ⟨rfl, rfl⟩
  · refine (State.modCore_only (l := [.regs, .evs]) (Only.refl _ t) (by decide)).same p ?_
    simp_all

theorem State.modApplet_only {l : List Part} {s t : State} {n : Nat} {f : Applet → Applet} (h : Only l s t) (sub : [.regs] ⊆ l) : Only l s (t.modApplet n f) := by
  refine Only.after (k := [.regs]) h ?_ sub
  unfold State.modApplet
  repeat' first
    | with_reducible apply Only.refl | extract_lets
    | (with_reducible apply Only.upd) <;> [skip; (intro p hp; (fail_if_success with_reducible apply Part.same_refl); cases p <;> first | exact absurd (by decide) hp | (with_reducible apply Part.regs_of; exact rfl) | (with_reducible apply Part.evs_of; exact rfl) | exact rfl | exact ⟨rfl, rfl, rfl⟩)]

theorem State.modDbgCore_only {l : List Part} {s t : State} {k : Nat} {f : DbgCore → DbgCore} (h : Only l s t) (sub : [.dbg] ⊆ l) : Only l s (t.modDbgCore k f) := by
  refine Only.after (k := [.dbg]) h ?_ sub
  unfold State.modDbgCore
  repeat' first
    | decide | with_reducible apply Only.refl | extract_lets | with_reducible apply Only.put_dbg

theorem State.startCore_only {l : List Part} {s t : State} {i : Nat} {pc : Nat} (h : Only l s t) (sub : [.regs, .evs] ⊆ l) : Only l s (t.startCore i pc) := by
  refine Only.after (k := [.regs, .evs]) h ?_ sub
  unfold State.startCore
  repeat' first
    | decide | with_reducible apply Only.refl | with_reducible apply State.modCore_only

theorem State.haltCore_only {l : List Part} {s t : State} {i : Nat} {st : CoreSt} (h : Only l s t) (sub : [.regs] ⊆ l) : Only l s (t.haltCore i st) := by
  refine Only.after (k := [.regs]) h ?_ sub
  unfold State.haltCore
  repeat' first
    | with_reducible apply Only.refl
    | (with_reducible apply State.modCore_regs) <;> [skip; decide; (intro _; constructor <;> (repeat' split) <;> rfl)]

theorem State.dropApplet_only {l : List Part} {s t : State} {n : Nat} (h : Only l s t) (sub : [.atlas, .evs, .ctl] ⊆ l) : Only l s (t.dropApplet n) := by
  refine Only.after (k := [.atlas, .evs, .ctl]) h ?_ sub
  unfold State.dropApplet
  repeat' first
    | decide | with_reducible apply Only.refl | extract_lets | with_reducible apply Only.ite | with_reducible apply State.dropClaim_only
    | with_reducible apply State.mbxEvent_only | with_reducible apply State.modSes_only | with_reducible apply Only.put_atlas

theorem State.debugHalt_only {l : List Part} {s t : State} {i : Nat} (h : Only l s t) (sub : [.atlas, .regs, .evs, .ctl] ⊆ l) : Only l s (t.debugHalt i) := by
  refine Only.after (k := [.atlas, .regs, .evs, .ctl]) h ?_ sub
  unfold State.debugHalt
  repeat' first
    | decide | with_reducible apply Only.refl | extract_lets | with_reducible apply Only.ite
    | (with_reducible apply State.modCore_regs) <;> [skip; decide; (intro _; constructor <;> (repeat' split) <;> rfl)]
    | with_reducible apply State.dropApplet_only

theorem State.freshRings_only {l : List Part} {s t : State} {n : Nat} (h : Only l s t) (sub : [.bytes] ⊆ l) : Only l s (t.freshRings n) := by
  refine Only.after (k := [.bytes]) h ?_ sub
  unfold State.freshRings
  repeat' first
    | decide | with_reducible apply Only.refl | extract_lets | with_reducible apply Only.ite | with_reducible apply State.loadBytes_only

theorem State.copyApplet_only {l : List Part} {s t : State} {n : Nat} (h : Only l s t) (sub : [.bytes] ⊆ l) : Only l s (t.copyApplet n) := by
  refine Only.after (k := [.bytes]) h ?_ sub
  unfold State.copyApplet
  repeat' first
    | decide | with_reducible apply Only.refl | extract_lets | with_reducible apply Only.ite | with_reducible apply State.loadBytes_only

theorem State.startApplet_only {l : List Part} {s t : State} {n : Nat} (h : Only l s t) (sub : [.atlas, .regs, .evs, .bytes] ⊆ l) : Only l s (t.startApplet n) := by
  refine Only.after (k := [.atlas, .regs, .evs, .bytes]) h ?_ sub
  unfold State.startApplet
  repeat' first
    | decide | with_reducible apply Only.refl | extract_lets | with_reducible apply State.startCore_only | with_reducible apply State.modApplet_only
    | with_reducible apply State.freshRings_only | with_reducible apply State.copyApplet_only | with_reducible apply State.modSes_only

theorem State.stopApplet_only {l : List Part} {s t : State} {n : Nat} (h : Only l s t) (sub : [.atlas, .regs, .evs, .ctl] ⊆ l) : Only l s (t.stopApplet n) := by
  refine Only.after (k := [.atlas, .regs, .evs, .ctl]) h ?_ sub
  unfold State.stopApplet
  repeat' first
    | decide | with_reducible apply Only.refl | extract_lets | with_reducible apply State.modApplet_only | with_reducible apply State.haltCore_only
    | with_reducible apply State.dropApplet_only

theorem State.modDma_only {l : List Part} {s t : State} {n : Nat} {f : DmaCh → DmaCh} (h : Only l s t) (sub : [.dma] ⊆ l) : Only l s (t.modDma n f) := by
  refine Only.after (k := [.dma]) h ?_ sub
  unfold State.modDma
  repeat' first
    | decide | with_reducible apply Only.refl | with_reducible apply Only.put_dma

theorem State.dmaHalt_only {l : List Part} {s t : State} {n : Nat} {code : Nat} {addr : Nat} (h : Only l s t) (sub : [.dma] ⊆ l) : Only l s (t.dmaHalt n code addr) := by
  refine Only.after (k := [.dma]) h ?_ sub
  unfold State.dmaHalt
  repeat' first
    | decide | with_reducible apply Only.refl | with_reducible apply State.modDma_only

theorem Core.loaded_ev (c : Core) (w : LdWait) (code d : Nat) : (c.loaded w code d).evPend = c.evPend ∧ (c.loaded w code d).dieEv = c.dieEv := by
  unfold Core.loaded
  split <;> exact ⟨rfl, rfl⟩

theorem State.respond_only {l : List Part} {s t : State} {r : FabReq} {code data : Nat} (h : Only l s t) (sub : [.fab, .dbg, .regs, .dma] ⊆ l) :
    Only l s (t.respond r code data) := by
  unfold State.respond
  extract_lets src u v
  have hu : Only l s u := by
    refine Only.upd h (fun p hp => ?_)
    cases p <;> first | exact absurd (sub (by decide)) hp | (with_reducible apply Part.regs_of; exact rfl) | (with_reducible apply Part.evs_of; exact rfl) | exact rfl | exact ⟨rfl, rfl, rfl⟩
  have hv : Only l s v := Only.ite hu (State.fabErr_only hu (List.Subset.trans (by decide) sub))
  clear_value v
  split
  · refine State.modCore_regs hv (List.Subset.trans (by decide) sub) (fun c => ?_)
    repeat' first
      | exact ⟨rfl, rfl⟩ | exact Core.loaded_ev _ _ _ _ | split
  · split
    · exact State.dmaHalt_only hv (List.Subset.trans (by decide) sub)
    · exact hv

theorem State.sramWrite_only {l : List Part} {s t : State} {port : Nat} {rid : Nat} {a : Nat} {size : Nat} {v : Nat} (h : Only l s t) (sub : [.atlas, .evs, .bytes, .memc, .ctl, .twin] ⊆ l) : OnlyP l s (t.sramWrite port rid a size v) := by
  refine OnlyP.after (k := [.atlas, .evs, .bytes, .memc, .ctl, .twin]) h ?_ sub
  unfold State.sramWrite
  repeat' first
    | decide | with_reducible apply Only.refl | extract_lets | with_reducible apply State.memWrite_only
    | with_reducible refine Only.of_pair (by assumption) ?_ | split | with_reducible apply OnlyP.pair | with_reducible apply Only.put_twin

theorem State.exWrite_only {l : List Part} {s t : State} {port : Nat} {rid : Nat} {a : Nat} {v : Nat} (h : Only l s t) (sub : [.atlas, .evs, .bytes, .memc, .ctl, .twin] ⊆ l) : OnlyP l s (t.exWrite port rid a v) := by
  refine OnlyP.after (k := [.atlas, .evs, .bytes, .memc, .ctl, .twin]) h ?_ sub
  unfold State.exWrite
  repeat' first
    | decide | with_reducible apply Only.refl | extract_lets | with_reducible apply State.sramWrite_only | with_reducible apply OnlyP.fst
    | with_reducible apply OnlyP.ite | with_reducible apply OnlyP.pair | with_reducible apply Only.put_twin

theorem State.sramAccess_only {l : List Part} {s t : State} {r : FabReq} (h : Only l s t) (sub : [.atlas, .evs, .bytes, .memc, .ctl, .twin] ⊆ l) : OnlyP l s (t.sramAccess r) := by
  refine OnlyP.after (k := [.atlas, .evs, .bytes, .memc, .ctl, .twin]) h ?_ sub
  unfold State.sramAccess
  repeat' first
    | decide | with_reducible apply Only.refl | extract_lets | with_reducible apply State.memRead_only | with_reducible apply State.exWrite_only
    | with_reducible apply State.sramWrite_only | with_reducible refine Only.of_pair (by assumption) ?_ | with_reducible apply OnlyP.ite | split
    | with_reducible apply OnlyP.pair | with_reducible apply Only.put_twin

theorem State.inService_only {l : List Part} {s t : State} {r : FabReq} {ans : FabAns} (h : Only l s t) (sub : [.fab] ⊆ l) : Only l s (t.inService r ans) := by
  refine Only.after (k := [.fab]) h ?_ sub
  unfold State.inService
  repeat' first
    | decide | with_reducible apply Only.refl | extract_lets | with_reducible apply Only.put_fab

/-! ### Machine/Interlock.lean -/

theorem State.modIl_only {l : List Part} {s t : State} {f : Intlk → Intlk} (h : Only l s t) (sub : [.ilr, .ctl] ⊆ l) : Only l s (t.modIl f) := by
  refine Only.after (k := [.ilr, .ctl]) h ?_ sub
  unfold State.modIl
  repeat' first
    | with_reducible apply Only.refl
    | (with_reducible apply Only.upd) <;> [skip; (intro p hp; (fail_if_success with_reducible apply Part.same_refl); cases p <;> first | exact absurd (by decide) hp | (with_reducible apply Part.regs_of; exact rfl) | (with_reducible apply Part.evs_of; exact rfl) | exact rfl | exact ⟨rfl, rfl, rfl⟩)]

theorem State.sendRole_only {l : List Part} {s t : State} (h : Only l s t) (sub : [.ctl] ⊆ l) : Only l s (t.sendRole) := by
  refine Only.after (k := [.ctl]) h ?_ sub
  unfold State.sendRole
  repeat' first
    | decide | with_reducible apply Only.refl | with_reducible apply State.sendCtl_only

theorem State.dropStanding_only {l : List Part} {s t : State} (h : Only l s t) (sub : [.iso] ⊆ l) : Only l s (t.dropStanding) := by
  refine Only.after (k := [.iso]) h ?_ sub
  unfold State.dropStanding
  repeat' first
    | decide | with_reducible apply Only.refl | extract_lets | with_reducible apply Only.ite | with_reducible apply State.releaseCh_only
    | with_reducible apply State.withdraw_only | with_reducible apply Only.foldl | intro _

theorem State.takeShadowPar_only {l : List Part} {s t : State} (h : Only l s t) (sub : [.par, .ilr, .ctl] ⊆ l) : Only l s (t.takeShadowPar) := by
  refine Only.after (k := [.par, .ilr, .ctl]) h ?_ sub
  unfold State.takeShadowPar
  repeat' first
    | decide | with_reducible apply Only.refl | extract_lets | with_reducible apply State.setPar_only | with_reducible apply State.modIl_only
    | with_reducible apply Only.foldl | intro _

theorem State.standing_only {l : List Part} {s t : State} {n : Nat} (h : Only l s t) (sub : [.iso] ⊆ l) : Only l s (t.standing n) := by
  refine Only.after (k := [.iso]) h ?_ sub
  unfold State.standing
  repeat' first
    | decide | with_reducible apply Only.refl | extract_lets | with_reducible apply Only.ite | with_reducible apply State.addReq_only

theorem State.noteDiff_only {l : List Part} {s t : State} (h : Only l s t) (sub : [.atlas, .evs, .ilr, .ctl] ⊆ l) : Only l s (t.noteDiff) := by
  refine Only.after (k := [.atlas, .evs, .ilr, .ctl]) h ?_ sub
  unfold State.noteDiff
  repeat' first
    | decide | with_reducible apply Only.refl | extract_lets | with_reducible apply Only.ite | with_reducible apply State.pairEvent_only
    | with_reducible apply State.pairErr_only

theorem State.standBy_only {l : List Part} {s t : State} (h : Only l s t) (sub : [.atlas, .iso, .evs, .ilr, .ctl] ⊆ l) : Only l s (t.standBy) := by
  refine Only.after (k := [.atlas, .iso, .evs, .ilr, .ctl]) h ?_ sub
  unfold State.standBy
  repeat' first
    | decide | with_reducible apply Only.refl | extract_lets | with_reducible apply Only.ite | with_reducible apply State.noteDiff_only
    | with_reducible apply State.standing_only | with_reducible apply State.modIl_only | with_reducible apply State.sendRole_only
    | with_reducible apply Only.foldl | intro _

theorem State.watchOrStandby_only {l : List Part} {s t : State} (h : Only l s t) (sub : [.atlas, .evs, .ilr, .ctl] ⊆ l) : Only l s (t.watchOrStandby) := by
  refine Only.after (k := [.atlas, .evs, .ilr, .ctl]) h ?_ sub
  unfold State.watchOrStandby
  repeat' first
    | decide | with_reducible apply Only.refl | extract_lets | with_reducible apply Only.ite | with_reducible apply State.noteDiff_only
    | with_reducible apply State.modIl_only | with_reducible apply State.sendRole_only

theorem State.settleOver_only {l : List Part} {s t : State} (h : Only l s t) (sub : [.atlas, .evs, .ilr, .ctl] ⊆ l) : Only l s (t.settleOver) := by
  refine Only.after (k := [.atlas, .evs, .ilr, .ctl]) h ?_ sub
  unfold State.settleOver
  repeat' first
    | decide | with_reducible apply Only.refl | extract_lets | with_reducible apply Only.ite | with_reducible apply State.pairEvent_only
    | with_reducible apply State.modIl_only | split

theorem State.recordGap_only {l : List Part} {s t : State} (h : Only l s t) (sub : [.ilr, .ctl] ⊆ l) : Only l s (t.recordGap) := by
  refine Only.after (k := [.ilr, .ctl]) h ?_ sub
  unfold State.recordGap
  repeat' first
    | decide | with_reducible apply Only.refl | extract_lets | with_reducible apply State.modIl_only

theorem State.takeOver_only {l : List Part} {s t : State} {n : Nat} (h : Only l s t) (sub : [.load] ⊆ l) : Only l s (t.takeOver n) := by
  refine Only.after (k := [.load]) h ?_ sub
  unfold State.takeOver
  repeat' first
    | decide | with_reducible apply Only.refl | extract_lets | with_reducible apply Only.ite | with_reducible apply State.setChan_only
    | with_reducible apply State.modMem_only | with_reducible apply State.gateOn_only | split

theorem State.claim_only {l : List Part} {s t : State} {takeover : Bool} (h : Only l s t) (sub : [.atlas, .par, .load, .evs, .ilr, .ctl] ⊆ l) : Only l s (t.claim takeover) := by
  refine Only.after (k := [.atlas, .par, .load, .evs, .ilr, .ctl]) h ?_ sub
  unfold State.claim
  repeat' first
    | decide | with_reducible apply Only.refl | extract_lets | with_reducible apply Only.ite | with_reducible apply State.takeOver_only
    | with_reducible apply State.takeShadowPar_only | with_reducible apply State.settleOver_only | with_reducible apply State.modIl_only
    | with_reducible apply State.sendRole_only | with_reducible apply State.recordGap_only | with_reducible apply Only.foldl | intro _

theorem State.dualOffAt_only {l : List Part} {s t : State} {n : Nat} (h : Only l s t) (sub : [.atlas, .load, .iso, .evs, .ctl] ⊆ l) : Only l s (t.dualOffAt n) := by
  refine Only.after (k := [.atlas, .load, .iso, .evs, .ctl]) h ?_ sub
  unfold State.dualOffAt
  repeat' first
    | decide | with_reducible apply Only.refl | extract_lets | with_reducible apply Only.ite | with_reducible apply State.modChan_only
    | with_reducible apply State.dieEvent_only | with_reducible apply State.leafEvent_only | with_reducible apply State.failCmd_only
    | with_reducible apply State.dropCh_only | with_reducible apply State.unresolved_only | with_reducible apply State.endPulse_only
    | with_reducible apply Only.foldl | intro _

theorem State.dualOff_only {l : List Part} {s t : State} (h : Only l s t) (sub : [.atlas, .load, .iso, .evs, .ctl] ⊆ l) : Only l s (t.dualOff) := by
  refine Only.after (k := [.atlas, .load, .iso, .evs, .ctl]) h ?_ sub
  unfold State.dualOff
  repeat' first
    | decide | with_reducible apply Only.refl | extract_lets | with_reducible apply State.dualOffAt_only | with_reducible apply Only.foldl | intro _

theorem State.keepShadow_only {l : List Part} {s t : State} (h : Only l s t) (sub : [.ilr, .ctl] ⊆ l) : Only l s (t.keepShadow) := by
  refine Only.after (k := [.ilr, .ctl]) h ?_ sub
  unfold State.keepShadow
  repeat' first
    | decide | with_reducible apply Only.refl | extract_lets | with_reducible apply State.modIl_only

theorem State.letGo_only {l : List Part} {s t : State} {cause : Nat} (h : Only l s t) (sub : [.atlas, .load, .iso, .evs, .ilr, .ctl] ⊆ l) : Only l s (t.letGo cause) := by
  refine Only.after (k := [.atlas, .load, .iso, .evs, .ilr, .ctl]) h ?_ sub
  unfold State.letGo
  repeat' first
    | decide | with_reducible apply Only.refl | extract_lets | with_reducible apply State.keepShadow_only | with_reducible apply State.dualOff_only
    | with_reducible apply State.modIl_only | with_reducible apply State.sendRole_only

theorem State.release_only {l : List Part} {s t : State} {cause : Nat} (h : Only l s t) (sub : [.atlas, .load, .iso, .evs, .ilr, .ctl] ⊆ l) : Only l s (t.release cause) := by
  refine Only.after (k := [.atlas, .load, .iso, .evs, .ilr, .ctl]) h ?_ sub
  unfold State.release
  repeat' first
    | decide | with_reducible apply Only.refl | extract_lets | with_reducible apply Only.ite | with_reducible apply State.sendCtl_only
    | with_reducible apply State.letGo_only

theorem State.lineActs_only {l : List Part} {s t : State} (h : Only l s t) (sub : [.atlas, .par, .load, .iso, .evs, .ilr, .ctl] ⊆ l) : Only l s (t.lineActs) := by
  refine Only.after (k := [.atlas, .par, .load, .iso, .evs, .ilr, .ctl]) h ?_ sub
  unfold State.lineActs
  repeat' first
    | decide | with_reducible apply Only.refl | extract_lets | with_reducible apply Only.ite | with_reducible apply State.claim_only
    | with_reducible apply State.modIl_only | with_reducible apply State.standBy_only | with_reducible apply State.sendRole_only
    | with_reducible apply State.dropStanding_only

theorem State.decideOver_only {l : List Part} {s t : State} {cause : Nat} (h : Only l s t) (sub : [.ilr, .ctl] ⊆ l) : Only l s (t.decideOver cause) := by
  refine Only.after (k := [.ilr, .ctl]) h ?_ sub
  unfold State.decideOver
  repeat' first
    | decide | with_reducible apply Only.refl | extract_lets | with_reducible apply State.sendCtl_only | with_reducible apply State.modIl_only

theorem State.misDecide_only {l : List Part} {s t : State} (h : Only l s t) (sub : [.ilr, .ctl] ⊆ l) : Only l s (t.misDecide) := by
  refine Only.after (k := [.ilr, .ctl]) h ?_ sub
  unfold State.misDecide
  repeat' first
    | decide | with_reducible apply Only.refl | extract_lets | with_reducible apply Only.ite | with_reducible apply State.decideOver_only
    | with_reducible apply State.pairErr_only | with_reducible apply State.modIl_only | with_reducible apply State.sendRole_only | split

theorem State.takeInputs_only {l : List Part} {s t : State} {m : Nat} (h : Only l s t) (sub : [.inp] ⊆ l) : Only l s (t.takeInputs m) := by
  refine Only.after (k := [.inp]) h ?_ sub
  unfold State.takeInputs
  repeat' first
    | decide | with_reducible apply Only.refl | extract_lets | with_reducible apply Only.foldl | with_reducible apply Only.put_inp | intro _

theorem State.proofWrite_only {l : List Part} {s t : State} {v : Nat} (h : Only l s t) (sub : [.ilr, .ctl] ⊆ l) : Only l s (t.proofWrite v) := by
  refine Only.after (k := [.ilr, .ctl]) h ?_ sub
  unfold State.proofWrite
  repeat' first
    | decide | with_reducible apply Only.refl | extract_lets | with_reducible apply Only.ite | with_reducible apply State.modIl_only

theorem State.proofResult_only {l : List Part} {s t : State} {pass : Bool} (h : Only l s t) (sub : [.atlas, .evs, .ilr, .ctl] ⊆ l) : Only l s (t.proofResult pass) := by
  refine Only.after (k := [.atlas, .evs, .ilr, .ctl]) h ?_ sub
  unfold State.proofResult
  repeat' first
    | decide | with_reducible apply Only.refl | extract_lets | with_reducible apply Only.ite | with_reducible apply State.pairEvent_only
    | with_reducible apply State.modIl_only

theorem State.setCtrl_only {l : List Part} {s t : State} {v : Nat} (h : Only l s t) (sub : [.atlas, .par, .load, .iso, .evs, .ilr, .ctl] ⊆ l) : Only l s (t.setCtrl v) := by
  refine Only.after (k := [.atlas, .par, .load, .iso, .evs, .ilr, .ctl]) h ?_ sub
  unfold State.setCtrl
  repeat' first
    | decide | with_reducible apply Only.refl | extract_lets | with_reducible apply Only.ite | with_reducible apply State.lineActs_only
    | with_reducible apply State.modIl_only | with_reducible apply State.sendRole_only | with_reducible apply State.dropStanding_only
    | with_reducible apply State.release_only

theorem State.ilErrClear_only {l : List Part} {s t : State} {mask : Nat} (h : Only l s t) (sub : [.ilr, .ctl] ⊆ l) : Only l s (t.ilErrClear mask) := by
  refine Only.after (k := [.ilr, .ctl]) h ?_ sub
  unfold State.ilErrClear
  repeat' first
    | decide | with_reducible apply Only.refl | with_reducible apply State.modIl_only

/-! ### Machine/Twin.lean -/

theorem State.modTwin_only {l : List Part} {s t : State} {f : Twin → Twin} (h : Only l s t) (sub : [.twin] ⊆ l) : Only l s (t.modTwin f) := by
  refine Only.after (k := [.twin]) h ?_ sub
  unfold State.modTwin
  repeat' first
    | decide | with_reducible apply Only.refl | with_reducible apply Only.put_twin

theorem State.frame_only {l : List Part} {s t : State} {vc : Nat} {head : Nat} {words : List Nat} (h : Only l s t) (sub : [.twin] ⊆ l) : Only l s (t.frame vc head words) := by
  refine Only.after (k := [.twin]) h ?_ sub
  unfold State.frame
  repeat' first
    | decide | with_reducible apply Only.refl | extract_lets | with_reducible apply State.modTwin_only

theorem State.sendReq_only {l : List Part} {s t : State} {o : TwinOut} (h : Only l s t) (sub : [.twin] ⊆ l) : Only l s (t.sendReq o) := by
  refine Only.after (k := [.twin]) h ?_ sub
  unfold State.sendReq
  repeat' first
    | decide | with_reducible apply Only.refl | extract_lets | with_reducible apply Only.ite | with_reducible apply State.frame_only

theorem State.issueOut_only {l : List Part} {s t : State} {op : Nat} {r : FabReq} {win : Nat} {target : Nat} {stamp : Nat} {silent : Bool} (h : Only l s t) (sub : [.twin] ⊆ l) : Only l s (t.issueOut op r win target stamp silent) := by
  refine Only.after (k := [.twin]) h ?_ sub
  unfold State.issueOut
  repeat' first
    | decide | with_reducible apply Only.refl | extract_lets | with_reducible apply State.sendReq_only | with_reducible apply State.modTwin_only

theorem State.fetchNext_only {l : List Part} {s t : State} {r : FabReq} {win : Nat} {target : Nat} (h : Only l s t) (sub : [.twin] ⊆ l) : Only l s (t.fetchNext r win target) := by
  refine Only.after (k := [.twin]) h ?_ sub
  unfold State.fetchNext
  repeat' first
    | decide | with_reducible apply Only.refl | extract_lets | with_reducible apply Only.ite | with_reducible apply State.issueOut_only

theorem State.fromBuf_only {l : List Part} {s t : State} {r : FabReq} {win : Nat} {target : Nat} {b : PfBuf} (h : Only l s t) (sub : [.fab, .dbg, .regs, .dma, .twin] ⊆ l) : Only l s (t.fromBuf r win target b) := by
  refine Only.after (k := [.fab, .dbg, .regs, .dma, .twin]) h ?_ sub
  unfold State.fromBuf
  repeat' first
    | decide | with_reducible apply Only.refl | extract_lets | with_reducible apply State.fetchNext_only | with_reducible apply State.respond_only
    | with_reducible apply State.modTwin_only

theorem State.twinSend_only {l : List Part} {s t : State} {r : FabReq} {win : Nat} {stamp : Nat} (h : Only l s t) (sub : [.fab, .dbg, .regs, .dma, .twin] ⊆ l) : Only l s (t.twinSend r win stamp) := by
  refine Only.after (k := [.fab, .dbg, .regs, .dma, .twin]) h ?_ sub
  unfold State.twinSend
  repeat' first
    | decide | with_reducible apply Only.refl | extract_lets | with_reducible apply Only.ite | with_reducible apply State.fromBuf_only
    | with_reducible apply State.issueOut_only | with_reducible apply State.respond_only | with_reducible apply State.modTwin_only | split

theorem State.twinOut_only {l : List Part} {s t : State} {r : FabReq} {stamp : Nat} (h : Only l s t) (sub : [.fab, .dbg, .regs, .dma, .twin] ⊆ l) : Only l s (t.twinOut r stamp) := by
  refine Only.after (k := [.fab, .dbg, .regs, .dma, .twin]) h ?_ sub
  unfold State.twinOut
  repeat' first
    | decide | with_reducible apply Only.refl | extract_lets | with_reducible apply Only.ite | with_reducible apply State.twinSend_only
    | with_reducible apply State.respond_only | with_reducible apply State.modTwin_only | split

theorem State.freeWait_only {l : List Part} {s t : State} {x1 : Nat} (h : Only l s t) (sub : [.fab, .dbg, .regs, .dma, .twin] ⊆ l) : Only l s (t.freeWait x1) := by
  induction x1 generalizing t  with
  | zero => unfold State.freeWait; exact h
  | succ k ih =>
    unfold State.freeWait
    repeat' first
      | exact h | exact List.Subset.trans (by decide) sub | with_reducible apply ih | extract_lets | with_reducible apply Only.ite
      | with_reducible apply State.respond_only | with_reducible apply State.modTwin_only | with_reducible apply State.twinSend_only | split

theorem State.unlocked_only {l : List Part} {s t : State} (h : Only l s t) (sub : [.fab, .dbg, .regs, .dma, .twin] ⊆ l) : Only l s (t.unlocked) := by
  refine Only.after (k := [.fab, .dbg, .regs, .dma, .twin]) h ?_ sub
  unfold State.unlocked
  repeat' first
    | decide | with_reducible apply Only.refl | extract_lets | with_reducible apply State.issueOut_only | with_reducible apply State.freeWait_only
    | with_reducible apply State.modTwin_only | with_reducible apply Only.foldl | intro _

theorem State.linkEvent_only {l : List Part} {s t : State} {code : Nat} {value : Nat} (h : Only l s t) (sub : [.atlas, .evs, .ctl] ⊆ l) : Only l s (t.linkEvent code value) := by
  refine Only.after (k := [.atlas, .evs, .ctl]) h ?_ sub
  unfold State.linkEvent
  repeat' first
    | decide | with_reducible apply Only.refl | with_reducible apply State.pairEvent_only

theorem State.breakLock_only {l : List Part} {s t : State} (h : Only l s t) (sub : [.atlas, .evs, .ctl, .twin] ⊆ l) : Only l s (t.breakLock) := by
  refine Only.after (k := [.atlas, .evs, .ctl, .twin]) h ?_ sub
  unfold State.breakLock
  repeat' first
    | decide | with_reducible apply Only.refl | extract_lets | with_reducible apply State.modTwin_only | with_reducible apply State.linkEvent_only
    | split

theorem State.linkDown_only {l : List Part} {s t : State} {reason : Nat} (h : Only l s t) (sub : [.fab, .atlas, .dbg, .regs, .evs, .dma, .ilr, .ctl, .twin] ⊆ l) : Only l s (t.linkDown reason) := by
  refine Only.after (k := [.fab, .atlas, .dbg, .regs, .evs, .dma, .ilr, .ctl, .twin]) h ?_ sub
  unfold State.linkDown
  repeat' first
    | decide | with_reducible apply Only.refl | extract_lets | with_reducible apply Only.ite | with_reducible apply State.respond_only
    | with_reducible apply State.pairErr_only | with_reducible apply State.modIl_only | with_reducible apply State.breakLock_only
    | with_reducible apply State.modTwin_only | with_reducible apply State.linkEvent_only | with_reducible apply Only.foldl | intro _

theorem State.takeRsp_only {l : List Part} {s t : State} {p : List Byte} (h : Only l s t) (sub : [.fab, .dbg, .regs, .dma, .twin] ⊆ l) : Only l s (t.takeRsp p) := by
  refine Only.after (k := [.fab, .dbg, .regs, .dma, .twin]) h ?_ sub
  unfold State.takeRsp
  repeat' first
    | decide | with_reducible apply Only.refl | extract_lets | with_reducible apply Only.ite | with_reducible apply State.fromBuf_only
    | with_reducible apply State.respond_only | with_reducible apply State.unlocked_only | with_reducible apply State.modTwin_only | split

theorem State.twinWritten_only {l : List Part} {s t : State} {off : Nat} {idx : Nat} {v : Nat} (h : Only l s t) (sub : [.fab, .atlas, .par, .dbg, .load, .iso, .regs, .evs, .dma, .ilr, .ctl, .twin] ⊆ l) : Only l s (t.twinWritten off idx v) := by
  refine Only.after (k := [.fab, .atlas, .par, .dbg, .load, .iso, .regs, .evs, .dma, .ilr, .ctl, .twin]) h ?_ sub
  unfold State.twinWritten
  repeat' first
    | decide | with_reducible apply Only.refl | extract_lets | with_reducible apply Only.ite | with_reducible apply State.linkDown_only
    | with_reducible apply State.setCtrl_only | with_reducible apply State.modTwin_only

/-! ### Machine/Fw.lean -/

theorem State.modFw_only {l : List Part} {s t : State} {f : Fw → Fw} (h : Only l s t) (sub : [.fw] ⊆ l) : Only l s (t.modFw f) := by
  refine Only.after (k := [.fw]) h ?_ sub
  unfold State.modFw
  repeat' first
    | decide | with_reducible apply Only.refl | with_reducible apply Only.put_fw

theorem State.modSlot_only {l : List Part} {s t : State} {i : Nat} {f : Slot → Slot} (h : Only l s t) (sub : [.fw] ⊆ l) : Only l s (t.modSlot i f) := by
  refine Only.after (k := [.fw]) h ?_ sub
  unfold State.modSlot
  repeat' first
    | decide | with_reducible apply Only.refl | with_reducible apply State.modFw_only

theorem State.setTarget_only {l : List Part} {s t : State} {t1 : Nat} {st : SlotSt} (h : Only l s t) (sub : [.fw] ⊆ l) : Only l s (t.setTarget t1 st) := by
  refine Only.after (k := [.fw]) h ?_ sub
  unfold State.setTarget
  repeat' first
    | decide | with_reducible apply Only.refl | extract_lets | with_reducible apply Only.ite | with_reducible apply State.modSlot_only
    | with_reducible apply State.modFw_only

theorem State.fwEvent_only {l : List Part} {s t : State} {t1 : Nat} {code : Nat} {value : Nat} (h : Only l s t) (sub : [.atlas, .evs, .ctl] ⊆ l) : Only l s (t.fwEvent t1 code value) := by
  refine Only.after (k := [.atlas, .evs, .ctl]) h ?_ sub
  unfold State.fwEvent
  repeat' first
    | decide | with_reducible apply Only.refl | with_reducible apply State.emit_only

theorem State.runEvent_only {l : List Part} {s t : State} {code : Nat} {value : Nat} (h : Only l s t) (sub : [.atlas, .evs, .ctl] ⊆ l) : Only l s (t.runEvent code value) := by
  refine Only.after (k := [.atlas, .evs, .ctl]) h ?_ sub
  unfold State.runEvent
  repeat' first
    | decide | with_reducible apply Only.refl | with_reducible apply State.emit_only

theorem State.xferStart_only {l : List Part} {s t : State} {b : ImgBegin} (h : Only l s t) (sub : [.fw] ⊆ l) : Only l s (t.xferStart b) := by
  refine Only.after (k := [.fw]) h ?_ sub
  unfold State.xferStart
  repeat' first
    | decide | with_reducible apply Only.refl | extract_lets | with_reducible apply Only.ite | with_reducible apply State.setTarget_only
    | with_reducible apply State.modFw_only

theorem State.imgBegin_only {l : List Part} {s t : State} {r : InReq} {b : ImgBegin} (h : Only l s t) (sub : [.atlas, .acc, .evs, .fw, .ctl] ⊆ l) : Only l s (t.imgBegin r b) := by
  refine Only.after (k := [.atlas, .acc, .evs, .fw, .ctl]) h ?_ sub
  unfold State.imgBegin
  repeat' first
    | decide | with_reducible apply Only.refl | extract_lets | with_reducible apply Only.ite | with_reducible apply State.draw_only
    | with_reducible apply State.answer_only | with_reducible apply State.xferStart_only | with_reducible apply State.modFw_only
    | with_reducible apply OnlyP.fst | with_reducible refine Only.of_pair (by assumption) ?_ | with_reducible apply OnlyP.ite | split
    | with_reducible apply OnlyP.pair

theorem State.imgBlock_only {l : List Part} {s t : State} {r : InReq} {b : ImgBlock} (h : Only l s t) (sub : [.atlas, .evs, .fw, .ctl] ⊆ l) : Only l s (t.imgBlock r b) := by
  refine Only.after (k := [.atlas, .evs, .fw, .ctl]) h ?_ sub
  unfold State.imgBlock
  repeat' first
    | decide | with_reducible apply Only.refl | extract_lets | with_reducible apply Only.ite | with_reducible apply State.answer_only
    | with_reducible apply State.modFw_only | split | dsimp +zetaDelta only

theorem State.takeHeader_only {l : List Part} {s t : State} {t1 : Nat} (h : Only l s t) (sub : [.fw] ⊆ l) : Only l s (t.takeHeader t1) := by
  refine Only.after (k := [.fw]) h ?_ sub
  unfold State.takeHeader
  repeat' first
    | decide | with_reducible apply Only.refl | extract_lets | with_reducible apply Only.ite | with_reducible apply State.modSlot_only
    | with_reducible apply State.modFw_only

theorem State.shakeServe_only {l : List Part} {s t : State} (h : Only l s t) (sub : [.fw] ⊆ l) : Only l s (t.shakeServe) := by
  refine Only.after (k := [.fw]) h ?_ sub
  unfold State.shakeServe
  repeat' first
    | decide | with_reducible apply Only.refl | extract_lets | with_reducible apply Only.ite | with_reducible apply State.modFw_only

theorem State.flashFree_only {l : List Part} {s t : State} (h : Only l s t) (sub : [.atlas, .fw] ⊆ l) : Only l s (t.flashFree) := by
  refine Only.after (k := [.atlas, .fw]) h ?_ sub
  unfold State.flashFree
  repeat' first
    | decide | with_reducible apply Only.refl | extract_lets | with_reducible apply Only.ite | with_reducible apply State.shakeServe_only
    | with_reducible apply State.setWait_only | with_reducible apply Only.foldl | split | with_reducible apply Only.put_atlas | intro _

theorem State.imgJob_only {l : List Part} {s t : State} {r : InReq} {t1 : Nat} {op : ImgOp} (h : Only l s t) (sub : [.atlas, .evs, .fw, .ctl] ⊆ l) : Only l s (t.imgJob r t1 op) := by
  refine Only.after (k := [.atlas, .evs, .fw, .ctl]) h ?_ sub
  unfold State.imgJob
  repeat' first
    | decide | with_reducible apply Only.refl | extract_lets | with_reducible apply Only.ite | with_reducible apply State.setProgress_only
    | with_reducible apply State.shakeServe_only | with_reducible apply State.modFw_only | with_reducible apply State.setWait_only
    | with_reducible apply State.accept_only | with_reducible refine Only.of_pair (by assumption) ?_ | split

theorem State.dropJob_only {l : List Part} {s t : State} {h1 : Nat} (h : Only l s t) (sub : [.fw] ⊆ l) : Only l s (t.dropJob h1) := by
  refine Only.after (k := [.fw]) h ?_ sub
  unfold State.dropJob
  repeat' first
    | decide | with_reducible apply Only.refl | extract_lets | with_reducible apply State.shakeServe_only | with_reducible apply State.modFw_only

theorem State.dropSign_only {l : List Part} {s t : State} (h : Only l s t) (sub : [.fw] ⊆ l) : Only l s (t.dropSign) := by
  refine Only.after (k := [.fw]) h ?_ sub
  unfold State.dropSign
  repeat' first
    | decide | with_reducible apply Only.refl | extract_lets | with_reducible apply State.shakeServe_only | with_reducible apply State.modFw_only

theorem State.imgFail_only {l : List Part} {s t : State} {j : ImgJob} {status : Nat} {code : Nat} (h : Only l s t) (sub : [.atlas, .evs, .fw, .ctl] ⊆ l) : Only l s (t.imgFail j status code) := by
  refine Only.after (k := [.atlas, .evs, .fw, .ctl]) h ?_ sub
  unfold State.imgFail
  repeat' first
    | decide | with_reducible apply Only.refl | extract_lets | with_reducible apply State.setTarget_only | with_reducible apply State.dropJob_only
    | with_reducible apply State.complete_only | with_reducible apply State.fwEvent_only

theorem State.unlockEnd_only {l : List Part} {s t : State} {h1 : Nat} {status : Nat} {code : Nat} (h : Only l s t) (sub : [.atlas, .evs, .fw, .ctl] ⊆ l) : Only l s (t.unlockEnd h1 status code) := by
  refine Only.after (k := [.atlas, .evs, .fw, .ctl]) h ?_ sub
  unfold State.unlockEnd
  repeat' first
    | decide | with_reducible apply Only.refl | extract_lets | with_reducible apply State.dropJob_only | with_reducible apply State.complete_only
    | with_reducible apply State.modFw_only

theorem State.unlockCheck_only {l : List Part} {s t : State} {j : ImgJob} {sigOk : Bool} (h : Only l s t) (sub : [.atlas, .dbg, .evs, .fw, .ctl] ⊆ l) : Only l s (t.unlockCheck j sigOk) := by
  refine Only.after (k := [.atlas, .dbg, .evs, .fw, .ctl]) h ?_ sub
  unfold State.unlockCheck
  repeat' first
    | decide | with_reducible apply Only.refl | extract_lets | with_reducible apply Only.ite | with_reducible apply State.fwEvent_only
    | with_reducible apply State.modFw_only | with_reducible apply State.unlockEnd_only | split | with_reducible apply Only.put_dbg

theorem State.imgPass_only {l : List Part} {s t : State} {j : ImgJob} (h : Only l s t) (sub : [.atlas, .evs, .bytes, .fw, .ctl] ⊆ l) : Only l s (t.imgPass j) := by
  refine Only.after (k := [.atlas, .evs, .bytes, .fw, .ctl]) h ?_ sub
  unfold State.imgPass
  repeat' first
    | decide | with_reducible apply Only.refl | extract_lets | with_reducible apply Only.ite | with_reducible apply State.setTarget_only
    | with_reducible apply State.takeHeader_only | with_reducible apply State.dropJob_only | with_reducible apply State.complete_only
    | with_reducible apply State.fwEvent_only | with_reducible apply State.shakeServe_only | with_reducible apply State.modFw_only
    | with_reducible apply State.copyApplet_only | split

theorem State.imgActivate_only {l : List Part} {s t : State} {r : InReq} {t1 : Nat} {mode : Nat} (h : Only l s t) (sub : [.atlas, .evs, .fw, .ctl] ⊆ l) : Only l s (t.imgActivate r t1 mode) := by
  refine Only.after (k := [.atlas, .evs, .fw, .ctl]) h ?_ sub
  unfold State.imgActivate
  repeat' first
    | decide | with_reducible apply Only.refl | extract_lets | with_reducible apply Only.ite | with_reducible apply State.answer_only
    | with_reducible apply State.imgJob_only | with_reducible apply State.complete_only | with_reducible apply State.modFw_only
    | with_reducible apply State.accept_only | with_reducible refine Only.of_pair (by assumption) ?_ | split

theorem State.nameSlot_only {l : List Part} {s t : State} (h : Only l s t) (sub : [.boot, .fw] ⊆ l) : Only l s (t.nameSlot) := by
  refine Only.after (k := [.boot, .fw]) h ?_ sub
  unfold State.nameSlot
  repeat' first
    | decide | with_reducible apply Only.refl | extract_lets | with_reducible apply State.modFw_only | with_reducible apply Only.put_boot

theorem State.confirmTrial_only {l : List Part} {s t : State} (h : Only l s t) (sub : [.atlas, .evs, .fw, .ctl] ⊆ l) : Only l s (t.confirmTrial) := by
  refine Only.after (k := [.atlas, .evs, .fw, .ctl]) h ?_ sub
  unfold State.confirmTrial
  repeat' first
    | decide | with_reducible apply Only.refl | extract_lets | with_reducible apply Only.ite | with_reducible apply State.runEvent_only
    | with_reducible apply State.modSlot_only | with_reducible apply State.modFw_only

theorem State.fwWritten_only {l : List Part} {s t : State} {off : Nat} {v : Nat} (h : Only l s t) (sub : [.atlas, .evs, .fw, .ctl] ⊆ l) : Only l s (t.fwWritten off v) := by
  refine Only.after (k := [.atlas, .evs, .fw, .ctl]) h ?_ sub
  unfold State.fwWritten
  repeat' first
    | decide | with_reducible apply Only.refl | extract_lets | with_reducible apply Only.ite | with_reducible apply State.confirmTrial_only

/-! ### Machine/Power.lean -/

theorem State.setInput_only {l : List Part} {s t : State} {i : Nat} {x : Input} (h : Only l s t) (sub : [.inp] ⊆ l) : Only l s (t.setInput i x) := by
  refine Only.after (k := [.inp]) h ?_ sub
  unfold State.setInput
  repeat' first
    | decide | with_reducible apply Only.refl | with_reducible apply Only.put_inp

theorem State.changeAborts_only {l : List Part} {s t : State} {i : Nat} {active : Bool} (h : Only l s t) (sub : [.atlas, .pwr, .evs, .ctl] ⊆ l) : Only l s (t.changeAborts i active) := by
  refine Only.after (k := [.atlas, .pwr, .evs, .ctl]) h ?_ sub
  unfold State.changeAborts
  repeat' first
    | decide | with_reducible apply Only.refl | extract_lets | with_reducible apply Only.ite | with_reducible apply State.abortEntry_only | split

theorem State.sampleInput_only {l : List Part} {s t : State} {i : Nat} {v : Nat} {t1 : Nat} (h : Only l s t) (sub : [.atlas, .pwr, .inp, .evs, .ctl] ⊆ l) : Only l s (t.sampleInput i v t1) := by
  refine Only.after (k := [.atlas, .pwr, .inp, .evs, .ctl]) h ?_ sub
  unfold State.sampleInput
  repeat' first
    | decide | with_reducible apply Only.refl | extract_lets | with_reducible apply Only.ite | with_reducible apply State.changeAborts_only
    | with_reducible apply State.setInput_only | with_reducible apply State.emitAt_only | split | dsimp +zetaDelta only

theorem State.modSvy_only {l : List Part} {s t : State} {f : Survey → Survey} (h : Only l s t) (sub : [.svy] ⊆ l) : Only l s (t.modSvy f) := by
  refine Only.after (k := [.svy]) h ?_ sub
  unfold State.modSvy
  repeat' first
    | decide | with_reducible apply Only.refl | with_reducible apply Only.put_svy

theorem State.startSurvey_only {l : List Part} {s t : State} {dormant : Bool} (h : Only l s t) (sub : [.svy] ⊆ l) : Only l s (t.startSurvey dormant) := by
  refine Only.after (k := [.svy]) h ?_ sub
  unfold State.startSurvey
  repeat' first
    | decide | with_reducible apply Only.refl | with_reducible apply State.modSvy_only

theorem State.fromSurvey_only {l : List Part} {s t : State} (h : Only l s t) (sub : [.svy, .inp] ⊆ l) : Only l s (t.fromSurvey) := by
  refine Only.after (k := [.svy, .inp]) h ?_ sub
  unfold State.fromSurvey
  repeat' first
    | decide | with_reducible apply Only.refl | extract_lets | with_reducible apply State.modSvy_only | with_reducible apply Only.put_inp

theorem State.surveyInRun_only {l : List Part} {s t : State} (h : Only l s t) (sub : [.svy, .inp] ⊆ l) : Only l s (t.surveyInRun) := by
  refine Only.after (k := [.svy, .inp]) h ?_ sub
  unfold State.surveyInRun
  repeat' first
    | decide | with_reducible apply Only.refl | extract_lets | with_reducible apply Only.ite | with_reducible apply State.startSurvey_only
    | with_reducible apply State.fromSurvey_only

theorem State.tellChanges_only {l : List Part} {s t : State} {slept : Bool} {send : State → Nat → Nat → Nat → State} (h : Only l s t)
    (ha : ∀ u i c k, Only l u (send u i c k)) : Only l s (t.tellChanges slept send) :=
  Only.foldl h (fun u _ => ha u _ _ _)

theorem State.loadImage_only {l : List Part} {s t : State} {lo : Nat} {n : Nat} (h : Only l s t) (sub : [.bytes] ⊆ l) : Only l s (t.loadImage lo n) := by
  refine Only.after (k := [.bytes]) h ?_ sub
  unfold State.loadImage
  repeat' first
    | decide | with_reducible apply Only.refl | extract_lets | with_reducible apply Only.ite | with_reducible apply State.loadBytes_only
    | with_reducible apply Only.foldl | intro _

theorem State.startSeq_only {l : List Part} {s t : State} {i : Nat} (h : Only l s t) (sub : [.regs, .evs, .bytes] ⊆ l) : Only l s (t.startSeq i) := by
  refine Only.after (k := [.regs, .evs, .bytes]) h ?_ sub
  unfold State.startSeq
  repeat' first
    | decide | with_reducible apply Only.refl | extract_lets | with_reducible apply Only.ite | with_reducible apply State.startCore_only
    | with_reducible apply State.loadImage_only

theorem State.startApplets_only {l : List Part} {s t : State} (h : Only l s t) (sub : [.atlas, .regs, .evs, .bytes] ⊆ l) : Only l s (t.startApplets) := by
  refine Only.after (k := [.atlas, .regs, .evs, .bytes]) h ?_ sub
  unfold State.startApplets
  repeat' first
    | decide | with_reducible apply Only.refl | extract_lets | with_reducible apply Only.ite | with_reducible apply State.startApplet_only
    | with_reducible apply Only.foldl | intro _

theorem State.domainUp_only {l : List Part} {s t : State} {p : Nat} (h : Only l s t) (sub : [.atlas, .iso, .vlv, .light, .svy, .inp, .net, .acc, .regs, .evs, .bytes] ⊆ l) : Only l s (t.domainUp p) := by
  refine Only.after (k := [.atlas, .iso, .vlv, .light, .svy, .inp, .net, .acc, .regs, .evs, .bytes]) h ?_ sub
  unfold State.domainUp
  repeat' first
    | decide | with_reducible apply Only.refl | extract_lets | with_reducible apply Only.ite | with_reducible apply State.accPd7Up_only
    | with_reducible apply State.railStart_only | with_reducible apply State.netPd6Up_only | with_reducible apply State.lightUp_only
    | with_reducible apply State.startApplets_only | with_reducible apply State.fromSurvey_only | with_reducible apply State.ntcUp_only
    | with_reducible apply State.netPd5Up_only | with_reducible apply State.startSeq_only | with_reducible apply Only.foldl | intro _

theorem State.raise1_only {l : List Part} {s t : State} {p : Nat} (h : Only l s t) (sub : [.fab, .atlas, .iso, .vlv, .light, .pwr, .svy, .inp, .net, .acc, .regs, .evs, .bytes] ⊆ l) : Only l s (t.raise1 p) := by
  refine Only.after (k := [.fab, .atlas, .iso, .vlv, .light, .pwr, .svy, .inp, .net, .acc, .regs, .evs, .bytes]) h ?_ sub
  unfold State.raise1
  repeat' first
    | decide | with_reducible apply Only.refl | extract_lets | with_reducible apply Only.ite | with_reducible apply State.modPwr_only
    | with_reducible apply State.domainUp_only | with_reducible apply Only.put_fab

theorem State.raise_only {l : List Part} {s t : State} {mask : Nat} (h : Only l s t) (sub : [.fab, .atlas, .iso, .vlv, .light, .pwr, .svy, .inp, .net, .acc, .regs, .evs, .bytes] ⊆ l) : Only l s (t.raise mask) := by
  refine Only.after (k := [.fab, .atlas, .iso, .vlv, .light, .pwr, .svy, .inp, .net, .acc, .regs, .evs, .bytes]) h ?_ sub
  unfold State.raise
  repeat' first
    | decide | with_reducible apply Only.refl | extract_lets | with_reducible apply State.raise1_only | with_reducible apply Only.foldl
    | with_reducible apply Only.put_fab | intro _

theorem State.loseSram_only {l : List Part} {s t : State} {keep : Nat} (h : Only l s t) (sub : [.bytes, .memc] ⊆ l) : Only l s (t.loseSram keep) := by
  refine Only.after (k := [.bytes, .memc]) h ?_ sub
  unfold State.loseSram
  repeat' first
    | with_reducible apply Only.refl | extract_lets
    | (with_reducible apply Only.upd) <;> [skip; (intro p hp; (fail_if_success with_reducible apply Part.same_refl); cases p <;> first | exact absurd (by decide) hp | (with_reducible apply Part.regs_of; exact rfl) | (with_reducible apply Part.evs_of; exact rfl) | exact rfl | exact ⟨rfl, rfl, rfl⟩)]

theorem State.pauseReady_only {l : List Part} {s t : State} (h : Only l s t) (sub : [.atlas, .fw] ⊆ l) : Only l s (t.pauseReady) := by
  refine Only.after (k := [.atlas, .fw]) h ?_ sub
  unfold State.pauseReady
  repeat' first
    | decide | with_reducible apply Only.refl | extract_lets | with_reducible apply State.modFw_only | with_reducible apply Only.put_atlas

theorem State.coresOff_only {l : List Part} {s t : State} {l1 : List Nat} (h : Only l s t) (sub : [.regs, .bytes] ⊆ l) : Only l s (t.coresOff l1) := by
  refine Only.after (k := [.regs, .bytes]) h ?_ sub
  unfold State.coresOff
  repeat' first
    | decide | with_reducible apply Only.refl | extract_lets | with_reducible apply State.haltCore_only | with_reducible apply State.loseMem_only
    | with_reducible apply Only.foldl | intro _

theorem State.domainDown_only {l : List Part} {s t : State} {p : Nat} (h : Only l s t) (sub : [.clk, .fab, .atlas, .dbg, .vlv, .light, .svy, .net, .acc, .regs, .evs, .bytes, .memc, .dma, .fw, .ilr, .ctl, .twin] ⊆ l) : Only l s (t.domainDown p) := by
  refine Only.after (k := [.clk, .fab, .atlas, .dbg, .vlv, .light, .svy, .net, .acc, .regs, .evs, .bytes, .memc, .dma, .fw, .ilr, .ctl, .twin]) h ?_ sub
  unfold State.domainDown
  repeat' first
    | decide | with_reducible apply Only.refl | extract_lets | with_reducible apply Only.ite | with_reducible apply State.netPd6Down_only
    | with_reducible apply State.linkDown_only | with_reducible apply State.startSurvey_only | with_reducible apply State.netPd5Down_only
    | with_reducible apply State.modApplet_only | with_reducible apply State.accPd7Down_only | with_reducible apply State.dropApplet_only
    | with_reducible apply State.modSvy_only | with_reducible apply State.loseSram_only | with_reducible apply State.accAbandon_only
    | with_reducible apply State.pauseReady_only | with_reducible apply State.coresOff_only | with_reducible apply Only.foldl
    | with_reducible apply Only.put_clk | with_reducible apply Only.put_vlv | with_reducible apply Only.put_light
    | (with_reducible apply Only.upd) <;> [skip; (intro p hp; (fail_if_success with_reducible apply Part.same_refl); cases p <;> first | exact absurd (by decide) hp | (with_reducible apply Part.regs_of; exact rfl) | (with_reducible apply Part.evs_of; exact rfl) | exact rfl | exact ⟨rfl, rfl, rfl⟩)]
    | intro _

theorem State.lower1_only {l : List Part} {s t : State} {p : Nat} (h : Only l s t) (sub : [.clk, .fab, .atlas, .dbg, .vlv, .light, .pwr, .svy, .net, .acc, .regs, .evs, .bytes, .memc, .dma, .fw, .ilr, .ctl, .twin] ⊆ l) : Only l s (t.lower1 p) := by
  refine Only.after (k := [.clk, .fab, .atlas, .dbg, .vlv, .light, .pwr, .svy, .net, .acc, .regs, .evs, .bytes, .memc, .dma, .fw, .ilr, .ctl, .twin]) h ?_ sub
  unfold State.lower1
  repeat' first
    | decide | with_reducible apply Only.refl | extract_lets | with_reducible apply State.modPwr_only | with_reducible apply State.domainDown_only
    | with_reducible apply Only.put_fab

theorem State.closeNext_only {l : List Part} {s t : State} (h : Only l s t) (sub : [.fab] ⊆ l) : Only l s (t.closeNext) := by
  refine Only.after (k := [.fab]) h ?_ sub
  unfold State.closeNext
  repeat' first
    | decide | with_reducible apply Only.refl | extract_lets | with_reducible apply Only.ite | split | with_reducible apply Only.put_fab

theorem State.paceAll_only {l : List Part} {s t : State} {op : Nat → Nat} (h : Only l s t) (sub : [.pace] ⊆ l) : Only l s (t.paceAll op) := by
  refine Only.after (k := [.pace]) h ?_ sub
  unfold State.paceAll
  repeat' first
    | decide | with_reducible apply Only.refl | extract_lets | with_reducible apply Only.ite | with_reducible apply State.modPace_only
    | with_reducible apply Only.foldl | intro _

theorem State.enterHold_only {l : List Part} {s t : State} {e : Entry} (h : Only l s t) (sub : [.pace, .atlas, .pwr, .evs, .ctl] ⊆ l) : Only l s (t.enterHold e) := by
  refine Only.after (k := [.pace, .atlas, .pwr, .evs, .ctl]) h ?_ sub
  unfold State.enterHold
  repeat' first
    | decide | with_reducible apply Only.refl | extract_lets | with_reducible apply State.modPwr_only | with_reducible apply State.complete_only
    | with_reducible apply State.powerEvent_only | with_reducible apply State.paceAll_only | split | with_reducible apply Only.put_pace

theorem State.enterSleep_only {l : List Part} {s t : State} {e : Entry} (h : Only l s t) (sub : [.pwr, .agr] ⊆ l) : Only l s (t.enterSleep e) := by
  refine Only.after (k := [.pwr, .agr]) h ?_ sub
  unfold State.enterSleep
  repeat' first
    | decide | with_reducible apply Only.refl | extract_lets | with_reducible apply State.modPwr_only | with_reducible apply State.modAgr_only

theorem State.holdReached_only {l : List Part} {s t : State} {e : Entry} (h : Only l s t) (sub : [.pace, .fab, .atlas, .iso, .vlv, .light, .pwr, .svy, .inp, .net, .acc, .regs, .evs, .bytes, .ctl] ⊆ l) : Only l s (t.holdReached e) := by
  refine Only.after (k := [.pace, .fab, .atlas, .iso, .vlv, .light, .pwr, .svy, .inp, .net, .acc, .regs, .evs, .bytes, .ctl]) h ?_ sub
  unfold State.holdReached
  repeat' first
    | decide | with_reducible apply Only.refl | extract_lets | with_reducible apply State.enterHold_only | with_reducible apply State.raise_only

theorem State.goOn_only {l : List Part} {s t : State} (h : Only l s t) (sub : [.pace, .fab, .atlas, .iso, .vlv, .light, .pwr, .svy, .inp, .net, .agr, .acc, .regs, .evs, .bytes, .ctl] ⊆ l) : Only l s (t.goOn) := by
  refine Only.after (k := [.pace, .fab, .atlas, .iso, .vlv, .light, .pwr, .svy, .inp, .net, .agr, .acc, .regs, .evs, .bytes, .ctl]) h ?_ sub
  unfold State.goOn
  repeat' first
    | decide | with_reducible apply Only.refl | extract_lets | with_reducible apply Only.ite | with_reducible apply State.holdReached_only
    | with_reducible apply State.closeNext_only | with_reducible apply State.enterSleep_only | split

theorem State.forceOffs_only {l : List Part} {s t : State} {away : Nat → Bool} (h : Only l s t) (sub : [.atlas, .par, .load, .iso, .vlv, .light, .evs, .ctl] ⊆ l) : Only l s (t.forceOffs away) := by
  refine Only.after (k := [.atlas, .par, .load, .iso, .vlv, .light, .evs, .ctl]) h ?_ sub
  unfold State.forceOffs
  repeat' first
    | decide | with_reducible apply Only.refl | extract_lets | with_reducible apply Only.ite | with_reducible apply State.valveOff_only
    | with_reducible apply State.endCmd_only | with_reducible apply State.setPf_only | with_reducible apply State.unitOff_only
    | with_reducible apply State.valveEnd_only | with_reducible apply State.mxStop_only | with_reducible apply State.modValve_only
    | with_reducible apply Only.foldl | intro _

theorem State.cancelJobs_only {l : List Part} {s t : State} (h : Only l s t) (sub : [.atlas, .acc, .evs, .fw, .ctl] ⊆ l) : Only l s (t.cancelJobs) := by
  refine Only.after (k := [.atlas, .acc, .evs, .fw, .ctl]) h ?_ sub
  unfold State.cancelJobs
  repeat' first
    | decide | with_reducible apply Only.refl | extract_lets | with_reducible apply State.complete_only | with_reducible apply State.dropSign_only
    | with_reducible apply State.accStopAt_only | with_reducible apply State.modFw_only | with_reducible apply Only.foldl | intro _

theorem State.saveInputs_only {l : List Part} {s t : State} (h : Only l s t) (sub : [.svy] ⊆ l) : Only l s (t.saveInputs) := by
  refine Only.after (k := [.svy]) h ?_ sub
  unfold State.saveInputs
  repeat' first
    | decide | with_reducible apply Only.refl | extract_lets | with_reducible apply Only.ite | with_reducible apply State.modSvy_only

theorem State.saveState_only {l : List Part} {s t : State} (h : Only l s t) (sub : [.svy, .boot] ⊆ l) : Only l s (t.saveState) := by
  refine Only.after (k := [.svy, .boot]) h ?_ sub
  unfold State.saveState
  repeat' first
    | decide | with_reducible apply Only.refl | extract_lets | with_reducible apply State.saveInputs_only | with_reducible apply Only.put_boot

theorem State.armAt_only {l : List Part} {s t : State} {e : Entry} (h : Only l s t) (sub : [.atlas, .par, .load, .iso, .pwr, .svy, .agr, .evs, .ilr, .ctl] ⊆ l) : Only l s (t.armAt e) := by
  refine Only.after (k := [.atlas, .par, .load, .iso, .pwr, .svy, .agr, .evs, .ilr, .ctl]) h ?_ sub
  unfold State.armAt
  repeat' first
    | decide | with_reducible apply Only.refl | extract_lets | with_reducible apply Only.ite | with_reducible apply State.modPwr_only
    | with_reducible apply State.closeAll_only | with_reducible apply State.startSurvey_only | with_reducible apply State.complete_only
    | with_reducible apply State.wmEndAll_only | with_reducible apply State.saveInputs_only | with_reducible apply State.release_only | split
    | with_reducible apply Only.put_atlas

theorem State.legend_only {l : List Part} {s t : State} {word : Nat} {detail : Nat} {ts : Nat} (h : Only l s t) (sub : [.lgd] ⊆ l) : Only l s (t.legend word detail ts) := by
  refine Only.after (k := [.lgd]) h ?_ sub
  unfold State.legend
  repeat' first
    | decide | with_reducible apply Only.refl | extract_lets | with_reducible apply Only.ite | with_reducible apply Only.put_lgd

theorem State.legendAlso_only {l : List Part} {s t : State} {code : Nat} {detail : Nat} (h : Only l s t) (sub : [.lgd] ⊆ l) : Only l s (t.legendAlso code detail) := by
  refine Only.after (k := [.lgd]) h ?_ sub
  unfold State.legendAlso
  repeat' first
    | decide | with_reducible apply Only.refl | extract_lets | with_reducible apply Only.ite | with_reducible apply Only.put_lgd

theorem State.paceRestore_only {l : List Part} {s t : State} (h : Only l s t) (sub : [.pace] ⊆ l) : Only l s (t.paceRestore) := by
  refine Only.after (k := [.pace]) h ?_ sub
  unfold State.paceRestore
  repeat' first
    | decide | with_reducible apply Only.refl | with_reducible apply State.paceAll_only

theorem State.backToRun_only {l : List Part} {s t : State} (h : Only l s t) (sub : [.pace, .fab, .atlas, .iso, .vlv, .light, .pwr, .svy, .inp, .net, .acc, .regs, .evs, .bytes] ⊆ l) : Only l s (t.backToRun) := by
  refine Only.after (k := [.pace, .fab, .atlas, .iso, .vlv, .light, .pwr, .svy, .inp, .net, .acc, .regs, .evs, .bytes]) h ?_ sub
  unfold State.backToRun
  repeat' first
    | decide | with_reducible apply Only.refl | extract_lets | with_reducible apply State.modPwr_only | with_reducible apply State.surveyInRun_only
    | with_reducible apply State.closeNext_only | with_reducible apply State.paceRestore_only | with_reducible apply State.raise_only

theorem State.linAfterWake_only {l : List Part} {s t : State} {code : Nat} (h : Only l s t) (sub : [.net] ⊆ l) : Only l s (t.linAfterWake code) := by
  refine Only.after (k := [.net]) h ?_ sub
  unfold State.linAfterWake
  repeat' first
    | decide | with_reducible apply Only.refl | extract_lets | with_reducible apply Only.ite | with_reducible apply State.modLin_only
    | with_reducible apply Only.foldl | intro _

theorem State.rejoin_only {l : List Part} {s t : State} {e : Entry} (h : Only l s t) (sub : [.net] ⊆ l) : Only l s (t.rejoin e) := by
  refine Only.after (k := [.net]) h ?_ sub
  unfold State.rejoin
  repeat' first
    | decide | with_reducible apply Only.refl | extract_lets | with_reducible apply Only.ite | with_reducible apply State.setEth_only
    | with_reducible apply State.speStart_only | with_reducible apply State.linStart_only | with_reducible apply State.canStart_only
    | with_reducible apply Only.foldl | intro _

theorem State.wakeHold_only {l : List Part} {s t : State} {code : Nat} {detail : Nat} {ts : Nat} (h : Only l s t) (sub : [.pace, .fab, .atlas, .iso, .vlv, .light, .pwr, .lgd, .svy, .inp, .net, .agr, .acc, .regs, .evs, .bytes, .ctl] ⊆ l) : Only l s (t.wakeHold code detail ts) := by
  refine Only.after (k := [.pace, .fab, .atlas, .iso, .vlv, .light, .pwr, .lgd, .svy, .inp, .net, .agr, .acc, .regs, .evs, .bytes, .ctl]) h ?_ sub
  unfold State.wakeHold
  repeat' first
    | decide | with_reducible apply Only.refl | extract_lets | with_reducible apply Only.ite | with_reducible apply State.legend_only
    | with_reducible apply State.backToRun_only | with_reducible apply State.linAfterWake_only | with_reducible apply State.tellChanges_only
    | with_reducible apply State.emitAt_only | with_reducible apply State.agrReady_only | with_reducible apply State.powerEvent_only
    | with_reducible apply State.emit_only | intro _

theorem State.wakeStart_only {l : List Part} {s t : State} {word : Nat} {detail : Nat} (h : Only l s t) (sub : [.pwr, .boot] ⊆ l) : Only l s (t.wakeStart word detail) := by
  refine Only.after (k := [.pwr, .boot]) h ?_ sub
  unfold State.wakeStart
  repeat' first
    | decide | with_reducible apply Only.refl | extract_lets | with_reducible apply State.modPwr_only | with_reducible apply Only.put_boot

theorem State.wakeDuring_only {l : List Part} {s t : State} {e : Entry} {code : Nat} {detail : Nat} {ts : Nat} (h : Only l s t) (sub : [.pace, .fab, .atlas, .iso, .vlv, .light, .pwr, .lgd, .svy, .inp, .net, .agr, .acc, .regs, .evs, .bytes, .boot, .fw, .ctl] ⊆ l) : Only l s (t.wakeDuring e code detail ts) := by
  refine Only.after (k := [.pace, .fab, .atlas, .iso, .vlv, .light, .pwr, .lgd, .svy, .inp, .net, .agr, .acc, .regs, .evs, .bytes, .boot, .fw, .ctl]) h ?_ sub
  unfold State.wakeDuring
  repeat' first
    | decide | with_reducible apply Only.refl | extract_lets | with_reducible apply Only.ite | with_reducible apply State.modPwr_only
    | with_reducible apply State.legend_only | with_reducible apply State.keep_only | with_reducible apply State.backToRun_only
    | with_reducible apply State.wakeStart_only | with_reducible apply State.linAfterWake_only | with_reducible apply State.keepAt_only
    | with_reducible apply State.rejoin_only | with_reducible apply State.tellChanges_only | with_reducible apply State.pauseReady_only
    | with_reducible apply State.agrReady_only | with_reducible apply Only.put_fab | with_reducible apply Only.put_atlas | intro _

theorem State.wakeUp_only {l : List Part} {s t : State} {code : Nat} {bit : Nat} {detail : Nat} {ts : Nat} (h : Only l s t) (sub : [.pace, .fab, .atlas, .iso, .vlv, .light, .pwr, .lgd, .svy, .inp, .net, .agr, .acc, .regs, .evs, .bytes, .boot, .fw, .ctl] ⊆ l) : Only l s (t.wakeUp code bit detail ts) := by
  refine Only.after (k := [.pace, .fab, .atlas, .iso, .vlv, .light, .pwr, .lgd, .svy, .inp, .net, .agr, .acc, .regs, .evs, .bytes, .boot, .fw, .ctl]) h ?_ sub
  unfold State.wakeUp
  repeat' first
    | decide | with_reducible apply Only.refl | extract_lets | with_reducible apply Only.ite | with_reducible apply State.modPwr_only
    | with_reducible apply State.legend_only | with_reducible apply State.wakeDuring_only | with_reducible apply State.wakeHold_only
    | with_reducible apply State.wakeStart_only | with_reducible apply State.legendAlso_only | with_reducible apply State.abortEntry_only | split

theorem State.wakeNow_only {l : List Part} {s t : State} {code : Nat} {bit : Nat} {detail : Nat} (h : Only l s t) (sub : [.pace, .fab, .atlas, .iso, .vlv, .light, .pwr, .lgd, .svy, .inp, .net, .agr, .acc, .regs, .evs, .bytes, .boot, .fw, .ctl] ⊆ l) : Only l s (t.wakeNow code bit detail) := by
  refine Only.after (k := [.pace, .fab, .atlas, .iso, .vlv, .light, .pwr, .lgd, .svy, .inp, .net, .agr, .acc, .regs, .evs, .bytes, .boot, .fw, .ctl]) h ?_ sub
  unfold State.wakeNow
  repeat' first
    | decide | with_reducible apply Only.refl | with_reducible apply State.wakeUp_only

theorem State.surveyMember_only {l : List Part} {s t : State} {i : Nat} {v : Nat} {a : Nat} (h : Only l s t) (sub : [.svy] ⊆ l) : OnlyP l s (t.surveyMember i v a) := by
  refine OnlyP.after (k := [.svy]) h ?_ sub
  unfold State.surveyMember
  repeat' first
    | decide | with_reducible apply Only.refl | extract_lets | with_reducible apply State.modSvy_only | with_reducible apply OnlyP.ite | split
    | with_reducible apply OnlyP.pair

theorem State.surveyGroup_only {l : List Part} {s t : State} {levels : List Nat} {grp : Nat} {a : Nat} (h : Only l s t) (sub : [.svy] ⊆ l) : OnlyP l s (t.surveyGroup levels grp a) := by
  refine OnlyP.after (k := [.svy]) h ?_ sub
  unfold State.surveyGroup
  repeat' first
    | decide | with_reducible apply Only.refl | extract_lets | with_reducible apply State.surveyMember_only | with_reducible apply OnlyP.fst
    | with_reducible apply OnlyP.foldl | with_reducible apply OnlyP.ite | split | with_reducible apply OnlyP.pair | intro _

theorem State.surveyRun_only {l : List Part} {s t : State} {levels : List Nat} {x1 : List Nat} {x2 : Nat} (h : Only l s t) (sub : [.pace, .fab, .atlas, .iso, .vlv, .light, .pwr, .lgd, .svy, .inp, .net, .agr, .acc, .regs, .evs, .bytes, .boot, .fw, .ctl] ⊆ l) : Only l s (State.surveyRun levels x1 x2 t) := by
  induction x1 generalizing t levels x2 with
  | nil => unfold State.surveyRun; exact h
  | cons a as ih =>
    unfold State.surveyRun
    repeat' first
      | exact h | exact List.Subset.trans (by decide) sub | with_reducible apply ih | extract_lets | with_reducible apply Only.ite
      | with_reducible apply State.wakeUp_only | with_reducible apply State.surveyGroup_only | with_reducible apply OnlyP.fst | split

theorem State.powerReq_only {l : List Part} {s t : State} {q : Rq} {target opt : Nat} {act : State → Nat → State} (h : Only l s t)
    (sub : [.atlas, .evs, .ctl] ⊆ l) (ha : ∀ u k, Only l u (act u k)) : Only l s (t.powerReq q target opt act) := by
  refine State.serve_only h sub (fun r u => ?_)
  split
  · exact State.answer_only (Only.refl l u) sub
  · split
    · exact Only.of_pair (by assumption) (State.accept_only (Only.refl l u) sub)
    · split
      · exact State.complete_only (Only.of_pair (by assumption) (State.accept_only (Only.refl l u) sub)) sub
      · exact Only.after (Only.of_pair (by assumption) (State.accept_only (Only.refl l u) sub)) (ha _ _) (fun _ h => h)

theorem State.startEntry_only {l : List Part} {s t : State} {target : Nat} {opt : Nat} {h1 : Nat} (h : Only l s t) (sub : [.pwr] ⊆ l) : Only l s (t.startEntry target opt h1) := by
  refine Only.after (k := [.pwr]) h ?_ sub
  unfold State.startEntry
  repeat' first
    | decide | with_reducible apply Only.refl | with_reducible apply State.modPwr_only

theorem State.lgdClear_only {l : List Part} {s t : State} (h : Only l s t) (sub : [.lgd] ⊆ l) : Only l s (t.lgdClear) := by
  refine Only.after (k := [.lgd]) h ?_ sub
  unfold State.lgdClear
  repeat' first
    | decide | with_reducible apply Only.refl | extract_lets | with_reducible apply Only.put_lgd

theorem State.domainRefused_only {l : List Part} {s t : State} {p : Nat} {on : Bool} {by_ : Nat} (h : Only l s t) (sub : [.atlas, .pwr, .evs, .ctl] ⊆ l) : Only l s (t.domainRefused p on by_) := by
  refine Only.after (k := [.atlas, .pwr, .evs, .ctl]) h ?_ sub
  unfold State.domainRefused
  repeat' first
    | decide | with_reducible apply Only.refl | extract_lets | with_reducible apply State.modPwr_only | with_reducible apply State.emit_only

theorem State.powerRefused_only {l : List Part} {s t : State} {off : Nat} {v : Nat} (h : Only l s t) (sub : [.atlas, .pwr, .evs, .ctl] ⊆ l) : Only l s (t.powerRefused off v) := by
  refine Only.after (k := [.atlas, .pwr, .evs, .ctl]) h ?_ sub
  unfold State.powerRefused
  repeat' first
    | decide | with_reducible apply Only.refl | extract_lets | with_reducible apply Only.ite | with_reducible apply State.domainRefused_only | split

theorem State.powerWritten_only {l : List Part} {s t : State} {off : Nat} (h : Only l s t) (sub : [.pace, .fab, .atlas, .iso, .vlv, .light, .pwr, .svy, .inp, .net, .acc, .regs, .evs, .bytes] ⊆ l) : Only l s (t.powerWritten off) := by
  refine Only.after (k := [.pace, .fab, .atlas, .iso, .vlv, .light, .pwr, .svy, .inp, .net, .acc, .regs, .evs, .bytes]) h ?_ sub
  unfold State.powerWritten
  repeat' first
    | decide | with_reducible apply Only.refl | extract_lets | with_reducible apply Only.ite | with_reducible apply State.surveyInRun_only
    | with_reducible apply State.closeNext_only | with_reducible apply State.modPace_only | with_reducible apply State.raise_only
    | with_reducible apply Only.foldl | intro _

theorem State.svyWritten_only {l : List Part} {s t : State} {off : Nat} {v : Nat} (h : Only l s t) (sub : [.svy] ⊆ l) : Only l s (t.svyWritten off v) := by
  refine Only.after (k := [.svy]) h ?_ sub
  unfold State.svyWritten
  repeat' first
    | decide | with_reducible apply Only.refl | extract_lets | with_reducible apply Only.ite | with_reducible apply State.modSvy_only

theorem State.inputWritten_only {l : List Part} {s t : State} {i : Nat} (h : Only l s t) (sub : [.inp] ⊆ l) : Only l s (t.inputWritten i) := by
  refine Only.after (k := [.inp]) h ?_ sub
  unfold State.inputWritten
  repeat' first
    | decide | with_reducible apply Only.refl | extract_lets | with_reducible apply Only.ite | with_reducible apply State.setInput_only

/-! ### Machine/NetSleep.lean -/

theorem State.kaSend_only {l : List Part} {s t : State} (h : Only l s t) (sub : [.net, .agr] ⊆ l) : Only l s (t.kaSend) := by
  refine Only.after (k := [.net, .agr]) h ?_ sub
  unfold State.kaSend
  repeat' first
    | decide | with_reducible apply Only.refl | extract_lets | with_reducible apply Only.ite
    | with_reducible refine State.canQueue_only (by assumption) ?_ ?_ | with_reducible apply State.modCan_only
    | with_reducible apply State.modAgr_only | with_reducible apply State.kaSent_only | with_reducible apply Only.foldl | split | intro _

theorem State.releaseBuses_only {l : List Part} {s t : State} {c : Nat} (h : Only l s t) (sub : [.net] ⊆ l) : Only l s (t.releaseBuses c) := by
  refine Only.after (k := [.net]) h ?_ sub
  unfold State.releaseBuses
  repeat' first
    | decide | with_reducible apply Only.refl | extract_lets | with_reducible apply Only.ite | with_reducible apply State.setEth_only
    | with_reducible apply State.modCan_only | with_reducible apply State.linStop_only | with_reducible apply State.setSpe_only
    | with_reducible apply Only.foldl | intro _

theorem State.netGoOn_only {l : List Part} {s t : State} (h : Only l s t) (sub : [.pace, .fab, .atlas, .iso, .vlv, .light, .pwr, .svy, .inp, .net, .agr, .acc, .regs, .evs, .bytes, .boot, .fw, .ctl] ⊆ l) : Only l s (t.netGoOn) := by
  refine Only.after (k := [.pace, .fab, .atlas, .iso, .vlv, .light, .pwr, .svy, .inp, .net, .agr, .acc, .regs, .evs, .bytes, .boot, .fw, .ctl]) h ?_ sub
  unfold State.netGoOn
  repeat' first
    | decide | with_reducible apply Only.refl | extract_lets | with_reducible apply Only.ite | with_reducible apply State.modPwr_only
    | with_reducible apply State.goOn_only | with_reducible apply State.nameSlot_only | split | with_reducible apply Only.put_boot

theorem State.commitSleep_only {l : List Part} {s t : State} {c : Nat} (h : Only l s t) (sub : [.pace, .fab, .atlas, .par, .load, .iso, .vlv, .light, .pwr, .svy, .inp, .net, .agr, .acc, .regs, .evs, .bytes, .boot, .fw, .ilr, .ctl] ⊆ l) : Only l s (t.commitSleep c) := by
  refine Only.after (k := [.pace, .fab, .atlas, .par, .load, .iso, .vlv, .light, .pwr, .svy, .inp, .net, .agr, .acc, .regs, .evs, .bytes, .boot, .fw, .ilr, .ctl]) h ?_ sub
  unfold State.commitSleep
  repeat' first
    | decide | with_reducible apply Only.refl | extract_lets | with_reducible apply Only.ite | with_reducible apply State.netGoOn_only
    | with_reducible apply State.saveState_only | with_reducible apply State.armAt_only | with_reducible apply State.cancelJobs_only
    | with_reducible apply State.modAgr_only | with_reducible apply State.releaseBuses_only

/-! ### Machine/FeedMon.lean -/

theorem State.setFeed_only {l : List Part} {s t : State} {f : Feed} {ok : Bool} {volt : Nat} (h : Only l s t) (sub : [.pwr] ⊆ l) : Only l s (t.setFeed f ok volt) := by
  refine Only.after (k := [.pwr]) h ?_ sub
  unfold State.setFeed
  repeat' first
    | decide | with_reducible apply Only.refl | extract_lets | split | with_reducible apply Only.put_pwr

theorem State.chanLost_only {l : List Part} {s t : State} {n : Nat} (h : Only l s t) (sub : [.atlas, .load, .iso, .evs, .ctl] ⊆ l) : Only l s (t.chanLost n) := by
  refine Only.after (k := [.atlas, .load, .iso, .evs, .ctl]) h ?_ sub
  unfold State.chanLost
  repeat' first
    | decide | with_reducible apply Only.refl | extract_lets | with_reducible apply Only.ite | with_reducible apply State.modChan_only
    | with_reducible apply State.leafEvent_only | with_reducible apply State.dropCh_only | with_reducible apply State.withdraw_only
    | with_reducible apply Only.foldl | split | intro _

theorem State.loseFeed_only {l : List Part} {s t : State} {f : Feed} {volt : Nat} (h : Only l s t) (sub : [.atlas, .load, .iso, .pwr, .evs, .ilr, .ctl] ⊆ l) : Only l s (t.loseFeed f volt) := by
  refine Only.after (k := [.atlas, .load, .iso, .pwr, .evs, .ilr, .ctl]) h ?_ sub
  unfold State.loseFeed
  repeat' first
    | decide | with_reducible apply Only.refl | extract_lets | with_reducible apply Only.ite | with_reducible apply State.modChan_only
    | with_reducible apply State.dieEvent_only | with_reducible apply State.chanLost_only | with_reducible apply State.setFeed_only
    | with_reducible apply State.release_only | with_reducible apply Only.foldl | intro _

theorem State.abandonLost_only {l : List Part} {s t : State} {l1 : Nat} (h : Only l s t) (sub : [.atlas, .load, .iso, .evs, .ctl] ⊆ l) : Only l s (t.abandonLost l1) := by
  refine Only.after (k := [.atlas, .load, .iso, .evs, .ctl]) h ?_ sub
  unfold State.abandonLost
  repeat' first
    | decide | with_reducible apply Only.refl | extract_lets | with_reducible apply Only.ite | with_reducible apply State.modChan_only
    | with_reducible apply State.leafEvent_only | with_reducible apply State.failCmd_only | with_reducible apply State.dropCh_only
    | with_reducible apply State.endPulse_only | with_reducible apply Only.foldl | intro _

theorem State.chanRestored_only {l : List Part} {s t : State} {n : Nat} (h : Only l s t) (sub : [.atlas, .load, .iso, .evs, .ctl] ⊆ l) : Only l s (t.chanRestored n) := by
  refine Only.after (k := [.atlas, .load, .iso, .evs, .ctl]) h ?_ sub
  unfold State.chanRestored
  repeat' first
    | decide | with_reducible apply Only.refl | extract_lets | with_reducible apply Only.ite | with_reducible apply State.setChan_only
    | with_reducible apply State.requestFor_only | with_reducible apply State.abandonLost_only | with_reducible apply State.markCmd_only | split

/-! ### Machine/Boot.lean -/

theorem State.modBoot_only {l : List Part} {s t : State} {f : Boot → Boot} (h : Only l s t) (sub : [.boot] ⊆ l) : Only l s (t.modBoot f) := by
  refine Only.after (k := [.boot]) h ?_ sub
  unfold State.modBoot
  repeat' first
    | decide | with_reducible apply Only.refl | with_reducible apply Only.put_boot

theorem State.recordCause_only {l : List Part} {s t : State} {word : Nat} (h : Only l s t) (sub : [.boot] ⊆ l) : Only l s (t.recordCause word) := by
  refine Only.after (k := [.boot]) h ?_ sub
  unfold State.recordCause
  repeat' first
    | decide | with_reducible apply Only.refl | with_reducible apply State.modBoot_only

theorem State.freshLogic_only {l : List Part} {s t : State} {wake : Bool} (h : Only l s t) (sub : [.pace, .fab, .atlas, .par, .dbg, .iso, .ctr, .vlv, .pwr, .inp, .net, .agr, .acc, .regs, .evs, .bytes, .memc, .dma, .fw, .twin] ⊆ l) : Only l s (t.freshLogic wake) := by
  refine Only.after (k := [.pace, .fab, .atlas, .par, .dbg, .iso, .ctr, .vlv, .pwr, .inp, .net, .agr, .acc, .regs, .evs, .bytes, .memc, .dma, .fw, .twin]) h ?_ sub
  unfold State.freshLogic
  repeat' first
    | with_reducible apply Only.refl | extract_lets | split
    | (with_reducible apply Only.upd) <;> [skip; (intro p hp; (fail_if_success with_reducible apply Part.same_refl); cases p <;> first | exact absurd (by decide) hp | (with_reducible apply Part.regs_of; exact rfl) | (with_reducible apply Part.evs_of; exact rfl) | exact rfl | exact ⟨rfl, rfl, rfl⟩)]

theorem State.rebuild_only {l : List Part} {s t : State} (h : Only l s t) (sub : [.load] ⊆ l) : Only l s (t.rebuild) := by
  refine Only.after (k := [.load]) h ?_ sub
  unfold State.rebuild
  repeat' first
    | decide | with_reducible apply Only.refl | extract_lets | with_reducible apply State.setComp_only | with_reducible apply State.setGen_only
    | with_reducible apply Only.foldl | intro _

theorem State.phase2_only {l : List Part} {s t : State} (h : Only l s t) (sub : [.fab, .atlas, .iso, .vlv, .light, .pwr, .svy, .inp, .net, .acc, .regs, .evs, .bytes, .boot] ⊆ l) : Only l s (t.phase2) := by
  refine Only.after (k := [.fab, .atlas, .iso, .vlv, .light, .pwr, .svy, .inp, .net, .acc, .regs, .evs, .bytes, .boot]) h ?_ sub
  unfold State.phase2
  repeat' first
    | decide | with_reducible apply Only.refl | extract_lets | with_reducible apply State.raise_only | with_reducible apply State.modBoot_only

theorem State.cold_only {l : List Part} {s t : State} (h : Only l s t) (sub : [.clk, .pace, .fab, .atlas, .par, .dbg, .load, .iso, .ctr, .vlv, .light, .pwr, .lgd, .svy, .inp, .net, .agr, .acc, .regs, .evs, .bytes, .memc, .dma, .boot, .fw, .ilr, .ctl, .twin] ⊆ l) : Only l s (t.cold) := by
  refine Only.after (k := [.clk, .pace, .fab, .atlas, .par, .dbg, .load, .iso, .ctr, .vlv, .light, .pwr, .lgd, .svy, .inp, .net, .agr, .acc, .regs, .evs, .bytes, .memc, .dma, .boot, .fw, .ilr, .ctl, .twin]) h ?_ sub
  unfold State.cold
  repeat' first
    | with_reducible apply Only.refl | extract_lets
    | (with_reducible apply Only.upd) <;> [skip; (intro p hp; (fail_if_success with_reducible apply Part.same_refl); cases p <;> first | exact absurd (by decide) hp | (with_reducible apply Part.regs_of; exact rfl) | (with_reducible apply Part.evs_of; exact rfl) | exact rfl | exact ⟨rfl, rfl, rfl⟩)]

/-- A reset's update of the channels, the lights and the clock. -/
theorem Only.put_load_light_clk {l : List Part} {s t : State} {a : Load} {b : Light} {c : TimeBase} (h : Only l s t) (sub : [.clk, .load, .light] ⊆ l) :
    Only l s { t with load := a, light := b, clk := c } := by
  refine Only.upd h (fun p hp => ?_)
  cases p <;> first | exact absurd (sub (by decide)) hp | (with_reducible apply Part.regs_of; exact rfl) | (with_reducible apply Part.evs_of; exact rfl) | exact rfl | exact ⟨rfl, rfl, rfl⟩

theorem State.logicReset_only {l : List Part} {s t : State} {cause : Nat} (h : Only l s t) (sub : [.clk, .pace, .fab, .atlas, .par, .dbg, .load, .iso, .ctr, .vlv, .light, .pwr, .svy, .inp, .net, .agr, .acc, .regs, .evs, .bytes, .memc, .dma, .boot, .fw, .twin] ⊆ l) : Only l s (t.logicReset cause) := by
  have sb : ∀ {k : List Part}, k ⊆ [.clk, .pace, .fab, .atlas, .par, .dbg, .load, .iso, .ctr, .vlv, .light, .pwr, .svy, .inp, .net, .agr, .acc, .regs, .evs, .bytes, .memc, .dma, .boot, .fw, .twin] → k ⊆ l := fun hk => List.Subset.trans hk sub
  unfold State.logicReset
  split
  · exact h
  · extract_lets late u s1 s2 aon faults storm outs window stored survey chans s3 s4 s5 v w x y
    have hu : Only l s u := State.recordCause_only h (sb (by decide))
    split
    · exact Only.put_pwr (State.pauseReady_only hu (sb (by decide))) (sb (by decide))
    · have hv : Only l s v := Only.put_load_light_clk (State.freshLogic_only (State.accAbandon_only hu (sb (by decide))) (sb (by decide))) (sb (by decide))
      clear_value v
      have hy : Only l s y := by
        apply Only.ite
        · exact State.modPwr_only (State.modBoot_only hv (sb (by decide))) (sb (by decide))
        · exact State.startSurvey_only (State.modSvy_only (State.modPwr_only (State.modBoot_only hv (sb (by decide))) (sb (by decide))) (sb (by decide))) (sb (by decide))
      clear_value y
      exact State.phase2_only hy (sb (by decide))

theorem State.holdWrite_only {l : List Part} {s t : State} {v : Nat} (h : Only l s t) (sub : [.boot] ⊆ l) : Only l s (t.holdWrite v) := by
  refine Only.after (k := [.boot]) h ?_ sub
  unfold State.holdWrite
  repeat' first
    | decide | with_reducible apply Only.refl | extract_lets | with_reducible apply Only.ite | with_reducible apply State.modBoot_only

theorem State.orphan_only {l : List Part} {s t : State} {n : Nat} (h : Only l s t) (sub : [.load] ⊆ l) : Only l s (t.orphan n) := by
  refine Only.after (k := [.load]) h ?_ sub
  unfold State.orphan
  repeat' first
    | decide | with_reducible apply Only.refl | extract_lets | with_reducible apply Only.ite | with_reducible apply State.setChan_only

theorem State.adoptChan_only {l : List Part} {s t : State} {kept : Bool} {n : Nat} (h : Only l s t) (sub : [.atlas, .load, .evs, .ctl] ⊆ l) : Only l s (t.adoptChan kept n) := by
  refine Only.after (k := [.atlas, .load, .evs, .ctl]) h ?_ sub
  unfold State.adoptChan
  repeat' first
    | decide | with_reducible apply Only.refl | extract_lets | with_reducible apply Only.ite | with_reducible apply State.setChan_only
    | with_reducible apply State.compEventsBy_only | with_reducible apply State.keepAt_only | with_reducible apply State.emit_only | intro _

theorem State.evenOut_only {l : List Part} {s t : State} {k : Nat} (h : Only l s t) (sub : [.load] ⊆ l) : Only l s (t.evenOut k) := by
  refine Only.after (k := [.load]) h ?_ sub
  unfold State.evenOut
  repeat' first
    | decide | with_reducible apply Only.refl | extract_lets | with_reducible apply Only.ite | with_reducible apply State.modChan_only
    | with_reducible apply Only.foldl | intro _

theorem State.resumePulse_only {l : List Part} {s t : State} {g : Nat} {u : Nat} (h : Only l s t) (sub : [.atlas, .load, .iso, .evs, .ctl] ⊆ l) : Only l s (t.resumePulse g u) := by
  refine Only.after (k := [.atlas, .load, .iso, .evs, .ctl]) h ?_ sub
  unfold State.resumePulse
  repeat' first
    | decide | with_reducible apply Only.refl | extract_lets | with_reducible apply Only.ite | with_reducible apply State.unitOn_only
    | with_reducible apply State.leafOn_only | with_reducible apply State.requestFor_only | with_reducible apply State.lastCmd_only
    | with_reducible apply OnlyP.fst | split | with_reducible apply Only.foldl | intro _

theorem State.restartGens_only {l : List Part} {s t : State} {t1 : Nat} (h : Only l s t) (sub : [.atlas, .load, .iso, .evs, .ctl] ⊆ l) : Only l s (t.restartGens t1) := by
  refine Only.after (k := [.atlas, .load, .iso, .evs, .ctl]) h ?_ sub
  unfold State.restartGens
  repeat' first
    | decide | with_reducible apply Only.refl | extract_lets | with_reducible apply Only.ite | with_reducible apply State.resumePulse_only
    | with_reducible apply State.beginPeriod_only | with_reducible apply State.setGen_only | with_reducible apply Only.foldl | intro _

theorem State.adopt_only {l : List Part} {s t : State} (h : Only l s t) (sub : [.atlas, .load, .iso, .light, .evs, .boot, .ctl] ⊆ l) : Only l s (t.adopt) := by
  refine Only.after (k := [.atlas, .load, .iso, .light, .evs, .boot, .ctl]) h ?_ sub
  unfold State.adopt
  repeat' first
    | decide | with_reducible apply Only.refl | extract_lets | with_reducible apply Only.ite | with_reducible apply State.restartGens_only
    | with_reducible apply State.gangLatch_only | with_reducible apply State.adoptChan_only | with_reducible apply State.adoptLight_only
    | with_reducible apply State.modBoot_only | with_reducible apply State.evenOut_only | with_reducible apply Only.foldl
    | with_reducible apply Only.put_load | intro _

theorem State.recover_only {l : List Part} {s t : State} {err : Nat} (h : Only l s t) (sub : [.clk, .fab, .atlas, .dbg, .iso, .vlv, .light, .pwr, .svy, .inp, .net, .acc, .regs, .evs, .bytes, .memc, .dma, .boot, .fw, .ilr, .ctl, .twin] ⊆ l) : Only l s (t.recover err) := by
  refine Only.after (k := [.clk, .fab, .atlas, .dbg, .iso, .vlv, .light, .pwr, .svy, .inp, .net, .acc, .regs, .evs, .bytes, .memc, .dma, .boot, .fw, .ilr, .ctl, .twin]) h ?_ sub
  unfold State.recover
  repeat' first
    | decide | with_reducible apply Only.refl | extract_lets | with_reducible apply Only.ite | with_reducible apply State.modPwr_only
    | with_reducible apply State.raise_only | with_reducible apply State.modBoot_only | with_reducible apply State.lower1_only

theorem State.selfTested_only {l : List Part} {s t : State} {failed : List (Nat × Nat × Nat)} (h : Only l s t) (sub : [.atlas, .evs, .bytes, .memc, .boot, .ctl] ⊆ l) : Only l s (t.selfTested failed) := by
  refine Only.after (k := [.atlas, .evs, .bytes, .memc, .boot, .ctl]) h ?_ sub
  unfold State.selfTested
  repeat' first
    | decide | with_reducible apply Only.refl | extract_lets | with_reducible apply State.loseMem_only | with_reducible apply State.memEvent_only
    | with_reducible apply State.modBoot_only | with_reducible apply Only.foldl
    | (with_reducible apply Only.upd) <;> [skip; (intro p hp; (fail_if_success with_reducible apply Part.same_refl); cases p <;> first | exact absurd (by decide) hp | (with_reducible apply Part.regs_of; exact rfl) | (with_reducible apply Part.evs_of; exact rfl) | exact rfl | exact ⟨rfl, rfl, rfl⟩)]
    | intro _

theorem State.selectSlot_only {l : List Part} {s t : State} (h : Only l s t) (sub : [.boot, .fw] ⊆ l) : Only l s (t.selectSlot) := by
  refine Only.after (k := [.boot, .fw]) h ?_ sub
  unfold State.selectSlot
  repeat' first
    | decide | with_reducible apply Only.refl | extract_lets | with_reducible apply Only.ite | with_reducible apply State.modSlot_only
    | with_reducible apply State.modBoot_only | with_reducible apply State.modFw_only

theorem State.checkSlot5_only {l : List Part} {s t : State} {digestOk : Bool} (h : Only l s t) (sub : [.clk, .fab, .atlas, .dbg, .iso, .vlv, .light, .pwr, .svy, .inp, .net, .acc, .regs, .evs, .bytes, .memc, .dma, .boot, .fw, .ilr, .ctl, .twin] ⊆ l) : Only l s (t.checkSlot5 digestOk) := by
  refine Only.after (k := [.clk, .fab, .atlas, .dbg, .iso, .vlv, .light, .pwr, .svy, .inp, .net, .acc, .regs, .evs, .bytes, .memc, .dma, .boot, .fw, .ilr, .ctl, .twin]) h ?_ sub
  unfold State.checkSlot5
  repeat' first
    | decide | with_reducible apply Only.refl | extract_lets | with_reducible apply Only.ite | with_reducible apply State.modSlot_only
    | with_reducible apply State.modBoot_only | with_reducible apply State.modFw_only | with_reducible apply State.recover_only

theorem State.raiseEdition_only {l : List Part} {s t : State} (h : Only l s t) (sub : [.par, .fw] ⊆ l) : Only l s (t.raiseEdition) := by
  refine Only.after (k := [.par, .fw]) h ?_ sub
  unfold State.raiseEdition
  repeat' first
    | decide | with_reducible apply Only.refl | extract_lets | with_reducible apply Only.ite | with_reducible apply State.setPar_only
    | with_reducible apply State.setStored_only | with_reducible apply State.modFw_only

theorem State.init_only {l : List Part} {s t : State} (h : Only l s t) (sub : [.pace, .fab, .atlas, .par, .load, .iso, .vlv, .light, .pwr, .svy, .inp, .net, .acc, .regs, .evs, .bytes, .memc, .boot, .fw, .ilr, .ctl] ⊆ l) : Only l s (t.init) := by
  refine Only.after (k := [.pace, .fab, .atlas, .par, .load, .iso, .vlv, .light, .pwr, .svy, .inp, .net, .acc, .regs, .evs, .bytes, .memc, .boot, .fw, .ilr, .ctl]) h ?_ sub
  unfold State.init
  repeat' first
    | decide | with_reducible apply Only.refl | extract_lets | with_reducible apply Only.ite | with_reducible apply State.modPwr_only
    | with_reducible apply State.surveyInRun_only | with_reducible apply State.memParWritten_only | with_reducible apply State.restartGens_only
    | with_reducible apply State.startCore_only | with_reducible apply State.closeNext_only | with_reducible apply State.railStart_only
    | with_reducible apply State.paceRestore_only | with_reducible apply State.setPar_only | with_reducible apply State.rebuild_only
    | with_reducible apply State.raise_only | with_reducible apply State.raiseEdition_only | with_reducible apply State.setCtrl_only
    | with_reducible apply State.modBoot_only | with_reducible apply State.writeFilters_only | with_reducible apply Only.put_par

theorem State.keepStart_only {l : List Part} {s t : State} {code : Nat} {value : Nat} (h : Only l s t) (sub : [.atlas, .evs, .ctl] ⊆ l) : Only l s (t.keepStart code value) := by
  refine Only.after (k := [.atlas, .evs, .ctl]) h ?_ sub
  unfold State.keepStart
  repeat' first
    | decide | with_reducible apply Only.refl | with_reducible apply State.keep_only

theorem State.becomeReady_only {l : List Part} {s t : State} (h : Only l s t) (sub : [.atlas, .pwr, .net, .agr, .acc, .evs, .boot, .fw, .ctl] ⊆ l) : Only l s (t.becomeReady) := by
  refine Only.after (k := [.atlas, .pwr, .net, .agr, .acc, .evs, .boot, .fw, .ctl]) h ?_ sub
  unfold State.becomeReady
  repeat' first
    | decide | with_reducible apply Only.refl | extract_lets | with_reducible apply Only.ite | with_reducible apply State.modPwr_only
    | with_reducible apply State.keep_only | with_reducible apply State.linAfterWake_only | with_reducible apply State.keepAt_only
    | with_reducible apply State.tellChanges_only | with_reducible apply State.modAgr_only | with_reducible apply State.modAcc_only
    | with_reducible apply State.modBoot_only | with_reducible apply State.modFw_only | with_reducible apply State.agrReady_only
    | with_reducible apply State.keepStart_only | with_reducible apply Only.foldl | split | with_reducible apply Only.put_atlas | intro _

theorem State.phase7_only {l : List Part} {s t : State} (h : Only l s t) (sub : [.boot] ⊆ l) : Only l s (t.phase7) := by
  refine Only.after (k := [.boot]) h ?_ sub
  unfold State.phase7
  repeat' first
    | decide | with_reducible apply Only.refl | with_reducible apply State.modBoot_only

theorem State.bankOff_only {l : List Part} {s t : State} {b : Nat} (h : Only l s t) (sub : [.atlas, .iso, .vlv, .evs, .ctl] ⊆ l) : Only l s (t.bankOff b) := by
  refine Only.after (k := [.atlas, .iso, .vlv, .evs, .ctl]) h ?_ sub
  unfold State.bankOff
  repeat' first
    | decide | with_reducible apply Only.refl | extract_lets | with_reducible apply Only.ite | with_reducible apply State.modBank_only
    | with_reducible apply State.valveEnd_only | with_reducible apply State.valveDrop_only | with_reducible apply State.modValve_only
    | with_reducible apply Only.foldl | intro _

end Sys2Proof.Machine
end

