-- ==== Sys2Proof/Laws/OnlyD.lean ====
section
/-!
SUPPORT. What each operation can change: registers, the fabric, DMA, the cores at work, the rings, parameter writes. An operation changes only the
parts of its list.
-/
namespace Sys2Proof.Machine

set_option linter.unusedTactic false
set_option linter.unreachableTactic false

/-! ### Machine/Regs.lean -/

theorem State.mbxClaim_only {l : List Part} {s t : State} {ses : Nat} {unit : Nat} (h : Only l s t) (sub : [.atlas] ⊆ l) : Only l s (t.mbxClaim ses unit) := by
  refine Only.after (k := [.atlas]) h ?_ sub
  unfold State.mbxClaim
  repeat' first
    | decide | with_reducible apply Only.refl | with_reducible apply State.modSes_only

theorem State.mbxGo_only {l : List Part} {s t : State} {ses : Nat} {unit : Nat} (h : Only l s t) (sub : [.atlas, .evs, .ctl] ⊆ l) : OnlyP l s (t.mbxGo ses unit) := by
  refine OnlyP.after (k := [.atlas, .evs, .ctl]) h ?_ sub
  unfold State.mbxGo
  repeat' first
    | decide | with_reducible apply Only.refl | extract_lets | with_reducible apply State.deliver_only | with_reducible apply State.mbxEvent_only
    | with_reducible apply State.modSes_only | with_reducible apply OnlyP.ite | with_reducible apply OnlyP.pair

theorem State.mbxPut_only {l : List Part} {s t : State} {ses : Nat} {unit : Nat} {o : Nat} {bs : List Byte} (h : Only l s t) (sub : [.atlas] ⊆ l) : OnlyP l s (t.mbxPut ses unit o bs) := by
  refine OnlyP.after (k := [.atlas]) h ?_ sub
  unfold State.mbxPut
  repeat' first
    | decide | with_reducible apply Only.refl | extract_lets | with_reducible apply State.modSes_only | with_reducible apply OnlyP.ite
    | with_reducible apply OnlyP.pair

theorem State.mbxLen_only {l : List Part} {s t : State} {ses : Nat} {unit : Nat} {n : Nat} (h : Only l s t) (sub : [.atlas] ⊆ l) : OnlyP l s (t.mbxLen ses unit n) := by
  refine OnlyP.after (k := [.atlas]) h ?_ sub
  unfold State.mbxLen
  repeat' first
    | decide | with_reducible apply Only.refl | extract_lets | with_reducible apply State.modSes_only | with_reducible apply OnlyP.ite
    | with_reducible apply OnlyP.pair

theorem State.mbxAck_only {l : List Part} {s t : State} {ses : Nat} {unit : Nat} (h : Only l s t) (sub : [.atlas, .evs, .ctl] ⊆ l) : OnlyP l s (t.mbxAck ses unit) := by
  refine OnlyP.after (k := [.atlas, .evs, .ctl]) h ?_ sub
  unfold State.mbxAck
  repeat' first
    | decide | with_reducible apply Only.refl | extract_lets | with_reducible apply State.mbxEvent_only | with_reducible apply State.modSes_only
    | with_reducible apply State.drained_only | with_reducible apply OnlyP.ite | split | with_reducible apply OnlyP.pair

theorem State.mbxClear_only {l : List Part} {s t : State} {mask : Nat} (h : Only l s t) (sub : [.atlas] ⊆ l) : Only l s (t.mbxClear mask) := by
  refine Only.after (k := [.atlas]) h ?_ sub
  unfold State.mbxClear
  repeat' first
    | decide | with_reducible apply Only.refl | extract_lets | with_reducible apply State.modSes_only | with_reducible apply Only.foldl | intro _

theorem State.mbxIrqClear_only {l : List Part} {s t : State} {ses : Nat} {mask : Nat} (h : Only l s t) (sub : [.atlas] ⊆ l) : Only l s (t.mbxIrqClear ses mask) := by
  refine Only.after (k := [.atlas]) h ?_ sub
  unfold State.mbxIrqClear
  repeat' first
    | decide | with_reducible apply Only.refl | with_reducible apply State.modSes_only

theorem State.regRead32_only {l : List Part} {s t : State} {port : Nat} {a : Nat} (h : Only l s t) (sub : [.clk] ⊆ l) : OnlyP l s (t.regRead32 port a) := by
  refine OnlyP.after (k := [.clk]) h ?_ sub
  unfold State.regRead32
  repeat' first
    | decide | with_reducible apply Only.refl | extract_lets | with_reducible apply Only.ite | with_reducible apply State.latchAon_only
    | with_reducible apply State.latchNow_only | with_reducible apply OnlyP.pair

theorem State.regRead_only {l : List Part} {s t : State} {ini : Initiator} {port : Nat} {a : Nat} {size : Nat} (h : Only l s t) (sub : [.clk] ⊆ l) : OnlyP l s (t.regRead ini port a size) := by
  refine OnlyP.after (k := [.clk]) h ?_ sub
  unfold State.regRead
  repeat' first
    | decide | with_reducible apply Only.refl | extract_lets | with_reducible apply State.regRead32_only
    | with_reducible refine Only.of_pair (by assumption) ?_ | with_reducible apply OnlyP.ite | split | with_reducible apply OnlyP.pair

theorem State.sesWrite_only {l : List Part} {s t : State} {i : Nat} {unit : Nat} {r : Nat} {v : Nat} (h : Only l s t) (sub : [.atlas, .evs, .ctl] ⊆ l) : OnlyP l s (t.sesWrite i unit r v) := by
  refine OnlyP.after (k := [.atlas, .evs, .ctl]) h ?_ sub
  unfold State.sesWrite
  repeat' first
    | decide | with_reducible apply Only.refl | extract_lets | with_reducible apply State.mbxLen_only | with_reducible apply State.mbxClaim_only
    | with_reducible apply State.mbxIrqClear_only | with_reducible apply State.mbxGo_only | with_reducible apply State.mbxEvent_only
    | with_reducible apply State.mbxAck_only | with_reducible apply State.modSes_only | with_reducible apply OnlyP.ite | split
    | with_reducible apply OnlyP.pair

theorem State.dbgCtrl_only {l : List Part} {s t : State} {k : Nat} {v : Nat} (h : Only l s t) (sub : [.atlas, .dbg, .regs, .evs, .ctl] ⊆ l) : Only l s (t.dbgCtrl k v) := by
  refine Only.after (k := [.atlas, .dbg, .regs, .evs, .ctl]) h ?_ sub
  unfold State.dbgCtrl
  repeat' first
    | decide | with_reducible apply Only.refl | extract_lets | with_reducible apply Only.ite
    | (with_reducible apply State.modCore_regs) <;> [skip; decide; (intro _; constructor <;> (repeat' split) <;> rfl)]
    | with_reducible apply State.debugHalt_only | with_reducible apply State.modDbgCore_only

theorem State.dbgStep_only {l : List Part} {s t : State} {k : Nat} (h : Only l s t) (sub : [.regs] ⊆ l) : Only l s (t.dbgStep k) := by
  refine Only.after (k := [.regs]) h ?_ sub
  unfold State.dbgStep
  repeat' first
    | with_reducible apply Only.refl | extract_lets | with_reducible apply Only.ite
    | (with_reducible apply State.modCore_regs) <;> [skip; decide; (intro _; constructor <;> (repeat' split) <;> rfl)]

theorem State.dbgCoreWrite_only {l : List Part} {s t : State} {k : Nat} {r : Nat} {v : Nat} (h : Only l s t) (sub : [.atlas, .dbg, .regs, .evs, .ctl] ⊆ l) : OnlyP l s (t.dbgCoreWrite k r v) := by
  refine OnlyP.after (k := [.atlas, .dbg, .regs, .evs, .ctl]) h ?_ sub
  unfold State.dbgCoreWrite
  repeat' first
    | decide | with_reducible apply Only.refl | extract_lets | with_reducible apply State.dbgCtrl_only | with_reducible apply State.modDbgCore_only
    | with_reducible apply State.dbgStep_only | with_reducible apply OnlyP.ite | split | with_reducible apply OnlyP.pair

theorem State.dbgClrRecord_only {l : List Part} {s t : State} (h : Only l s t) (sub : [.dbg] ⊆ l) : Only l s (t.dbgClrRecord) := by
  refine Only.after (k := [.dbg]) h ?_ sub
  unfold State.dbgClrRecord
  repeat' first
    | decide | with_reducible apply Only.refl | extract_lets | with_reducible apply Only.put_dbg

theorem State.dbgClrCounts_only {l : List Part} {s t : State} (h : Only l s t) (sub : [.dbg] ⊆ l) : Only l s (t.dbgClrCounts) := by
  refine Only.after (k := [.dbg]) h ?_ sub
  unfold State.dbgClrCounts
  repeat' first
    | decide | with_reducible apply Only.refl | extract_lets | with_reducible apply Only.put_dbg

theorem State.lgdCtrl_only {l : List Part} {s t : State} {v : Nat} (h : Only l s t) (sub : [.lgd] ⊆ l) : Only l s (t.lgdCtrl v) := by
  refine Only.after (k := [.lgd]) h ?_ sub
  unfold State.lgdCtrl
  repeat' first
    | decide | with_reducible apply Only.refl | extract_lets | with_reducible apply Only.ite | with_reducible apply State.lgdClear_only
    | with_reducible apply Only.put_lgd

theorem State.memWriteReg_only {l : List Part} {s t : State} {off : Nat} {v : Nat} (h : Only l s t) (sub : [.memc] ⊆ l) : Only l s (t.memWriteReg off v) := by
  refine Only.after (k := [.memc]) h ?_ sub
  unfold State.memWriteReg
  repeat' first
    | decide | with_reducible apply Only.refl | extract_lets | with_reducible apply Only.ite | with_reducible apply State.setFlip_only
    | with_reducible apply State.clearMemCounts_only
    | (with_reducible apply Only.upd) <;> [skip; (intro p hp; (fail_if_success with_reducible apply Part.same_refl); cases p <;> first | exact absurd (by decide) hp | (with_reducible apply Part.regs_of; exact rfl) | (with_reducible apply Part.evs_of; exact rfl) | exact rfl | exact ⟨rfl, rfl, rfl⟩)]

theorem State.paceRegWrite_only {l : List Part} {s t : State} {off : Nat} {v : Nat} (h : Only l s t) (sub : [.pace] ⊆ l) : Only l s (t.paceRegWrite off v) := by
  refine Only.after (k := [.pace]) h ?_ sub
  unfold State.paceRegWrite
  repeat' first
    | decide | with_reducible apply Only.refl | extract_lets | with_reducible apply Only.ite | with_reducible apply State.modPace_only

theorem State.regWrite32_only {l : List Part} {s t : State} {ini : Initiator} {a : Nat} {v : Nat} (h : Only l s t) (sub : [.pace, .atlas, .par, .dbg, .load, .iso, .lgd, .regs, .evs, .memc, .boot, .ilr, .ctl] ⊆ l) : OnlyP l s (t.regWrite32 ini a v) := by
  refine OnlyP.after (k := [.pace, .atlas, .par, .dbg, .load, .iso, .lgd, .regs, .evs, .memc, .boot, .ilr, .ctl]) h ?_ sub
  unfold State.regWrite32
  repeat' first
    | decide | with_reducible apply Only.refl | extract_lets | with_reducible apply Only.ite | with_reducible apply State.dbgClrRecord_only
    | with_reducible apply State.memWriteReg_only | with_reducible apply State.lgdCtrl_only | with_reducible apply State.ilErrClear_only
    | with_reducible apply State.mbxClear_only | with_reducible apply State.setCtrl_only | with_reducible apply State.dbgClrCounts_only
    | with_reducible apply State.sesWrite_only | with_reducible apply State.proofWrite_only | with_reducible apply State.dbgCoreWrite_only
    | with_reducible apply State.paceRegWrite_only | with_reducible apply State.holdWrite_only | with_reducible apply OnlyP.ite | split
    | with_reducible apply OnlyP.pair

theorem State.regWritePart_only {l : List Part} {s t : State} {ini : Initiator} {a : Nat} {size : Nat} {v : Nat} (h : Only l s t) (sub : [.pace, .atlas, .par, .dbg, .load, .iso, .lgd, .regs, .evs, .memc, .boot, .ilr, .ctl] ⊆ l) : OnlyP l s (t.regWritePart ini a size v) := by
  refine OnlyP.after (k := [.pace, .atlas, .par, .dbg, .load, .iso, .lgd, .regs, .evs, .memc, .boot, .ilr, .ctl]) h ?_ sub
  unfold State.regWritePart
  repeat' first
    | decide | with_reducible apply Only.refl | extract_lets | with_reducible apply State.regWrite32_only | split | with_reducible apply OnlyP.pair

theorem State.regWrite_only {l : List Part} {s t : State} {ini : Initiator} {a : Nat} {size : Nat} {v : Nat} (h : Only l s t) (sub : [.pace, .atlas, .par, .dbg, .load, .iso, .lgd, .regs, .evs, .memc, .boot, .ilr, .ctl] ⊆ l) : OnlyP l s (t.regWrite ini a size v) := by
  refine OnlyP.after (k := [.pace, .atlas, .par, .dbg, .load, .iso, .lgd, .regs, .evs, .memc, .boot, .ilr, .ctl]) h ?_ sub
  unfold State.regWrite
  repeat' first
    | decide | with_reducible apply Only.refl | extract_lets | with_reducible apply State.regWrite32_only | with_reducible apply State.mbxPut_only
    | with_reducible apply State.regWritePart_only | with_reducible apply OnlyP.fst | with_reducible apply OnlyP.ite | split
    | with_reducible apply OnlyP.pair

theorem State.regCmd_only {l : List Part} {s t : State} {ini : Initiator} {a : Nat} {size : Nat} {v : Nat} (h : Only l s t) (sub : [.pace, .fab, .atlas, .par, .dbg, .load, .iso, .lgd, .regs, .evs, .memc, .boot, .ilr, .ctl] ⊆ l) : Only l s (t.regCmd ini a size v) := by
  refine Only.after (k := [.pace, .fab, .atlas, .par, .dbg, .load, .iso, .lgd, .regs, .evs, .memc, .boot, .ilr, .ctl]) h ?_ sub
  unfold State.regCmd
  repeat' first
    | decide | with_reducible apply Only.refl | extract_lets | with_reducible apply Only.ite | with_reducible apply State.regWrite_only
    | with_reducible apply State.accessErr_only | with_reducible apply OnlyP.fst

/-! ### Machine/Fabric.lean -/

theorem State.target_only {l : List Part} {s t : State} {r : FabReq} (h : Only l s t) (sub : [.clk, .pace, .atlas, .par, .dbg, .load, .iso, .lgd, .regs, .evs, .bytes, .memc, .boot, .ilr, .ctl, .twin] ⊆ l) : OnlyP l s (t.target r) := by
  refine OnlyP.after (k := [.clk, .pace, .atlas, .par, .dbg, .load, .iso, .lgd, .regs, .evs, .bytes, .memc, .boot, .ilr, .ctl, .twin]) h ?_ sub
  unfold State.target
  repeat' first
    | decide | with_reducible apply Only.refl | extract_lets | with_reducible apply State.memRead_only | with_reducible apply State.sramAccess_only
    | with_reducible apply State.regRead_only | with_reducible apply State.regWrite_only | with_reducible apply State.memWrite_only
    | with_reducible refine Only.of_pair (by assumption) ?_ | with_reducible apply OnlyP.ite | split | with_reducible apply OnlyP.pair

theorem State.serveReq_only {l : List Part} {s t : State} {l1 : List (Nat × FabEntry)} {i : Nat} {e : FabEntry} (h : Only l s t) (sub : [.clk, .pace, .fab, .atlas, .par, .dbg, .load, .iso, .lgd, .regs, .evs, .bytes, .memc, .boot, .ilr, .ctl, .twin] ⊆ l) : Only l s (t.serveReq l1 i e) := by
  refine Only.after (k := [.clk, .pace, .fab, .atlas, .par, .dbg, .load, .iso, .lgd, .regs, .evs, .bytes, .memc, .boot, .ilr, .ctl, .twin]) h ?_ sub
  unfold State.serveReq
  repeat' first
    | decide | with_reducible apply Only.refl | extract_lets | with_reducible apply Only.ite | with_reducible apply State.target_only
    | with_reducible refine Only.of_pair (by assumption) ?_ | split | with_reducible apply Only.put_fab

theorem State.arbitrate_only {l : List Part} {s t : State} {all : Bool} {x1 : Nat} (h : Only l s t) (sub : [.clk, .pace, .fab, .atlas, .par, .dbg, .load, .iso, .lgd, .regs, .evs, .bytes, .memc, .boot, .ilr, .ctl, .twin] ⊆ l) : Only l s (State.arbitrate all x1 t) := by
  induction x1 generalizing t all with
  | zero => unfold State.arbitrate; exact h
  | succ k ih =>
    unfold State.arbitrate
    repeat' first
      | exact h | exact List.Subset.trans (by decide) sub | with_reducible apply ih | extract_lets | with_reducible apply State.serveReq_only | split

theorem State.serveOlder_only {l : List Part} {s t : State} (h : Only l s t) (sub : [.clk, .pace, .fab, .atlas, .par, .dbg, .load, .iso, .lgd, .regs, .evs, .bytes, .memc, .boot, .ilr, .ctl, .twin] ⊆ l) : Only l s (t.serveOlder) := by
  refine Only.after (k := [.clk, .pace, .fab, .atlas, .par, .dbg, .load, .iso, .lgd, .regs, .evs, .bytes, .memc, .boot, .ilr, .ctl, .twin]) h ?_ sub
  unfold State.serveOlder
  repeat' first
    | decide | with_reducible apply Only.refl | with_reducible apply State.arbitrate_only

theorem State.serveAll_only {l : List Part} {s t : State} (h : Only l s t) (sub : [.clk, .pace, .fab, .atlas, .par, .dbg, .load, .iso, .lgd, .regs, .evs, .bytes, .memc, .boot, .ilr, .ctl, .twin] ⊆ l) : Only l s (t.serveAll) := by
  refine Only.after (k := [.clk, .pace, .fab, .atlas, .par, .dbg, .load, .iso, .lgd, .regs, .evs, .bytes, .memc, .boot, .ilr, .ctl, .twin]) h ?_ sub
  unfold State.serveAll
  repeat' first
    | decide | with_reducible apply Only.refl | with_reducible apply State.arbitrate_only

theorem State.request_only {l : List Part} {s t : State} {r : FabReq} {served : Bool} (h : Only l s t) (sub : [.clk, .pace, .fab, .atlas, .par, .dbg, .load, .iso, .lgd, .regs, .evs, .bytes, .memc, .dma, .boot, .ilr, .ctl, .twin] ⊆ l) : Only l s (t.request r served) := by
  refine Only.after (k := [.clk, .pace, .fab, .atlas, .par, .dbg, .load, .iso, .lgd, .regs, .evs, .bytes, .memc, .dma, .boot, .ilr, .ctl, .twin]) h ?_ sub
  unfold State.request
  repeat' first
    | decide | with_reducible apply Only.refl | extract_lets | with_reducible apply Only.ite | with_reducible apply State.inService_only
    | with_reducible apply State.twinOut_only | with_reducible apply State.serveOlder_only | split

theorem State.access_only {l : List Part} {s t : State} {r : FabReq} (h : Only l s t) (sub : [.clk, .pace, .fab, .atlas, .par, .dbg, .load, .iso, .lgd, .regs, .evs, .bytes, .memc, .boot, .ilr, .ctl, .twin] ⊆ l) : OnlyP l s (t.access r) := by
  refine OnlyP.after (k := [.clk, .pace, .fab, .atlas, .par, .dbg, .load, .iso, .lgd, .regs, .evs, .bytes, .memc, .boot, .ilr, .ctl, .twin]) h ?_ sub
  unfold State.access
  repeat' first
    | decide | with_reducible apply Only.refl | extract_lets | with_reducible apply State.target_only | with_reducible apply State.serveOlder_only
    | with_reducible apply OnlyP.ite | split | with_reducible apply OnlyP.pair

theorem State.reread_only {l : List Part} {s t : State} {r : FabReq} (h : Only l s t) (sub : [.clk, .pace, .fab, .atlas, .par, .dbg, .load, .iso, .lgd, .regs, .evs, .bytes, .memc, .dma, .boot, .ilr, .ctl, .twin] ⊆ l) : Only l s (t.reread r) := by
  refine Only.after (k := [.clk, .pace, .fab, .atlas, .par, .dbg, .load, .iso, .lgd, .regs, .evs, .bytes, .memc, .dma, .boot, .ilr, .ctl, .twin]) h ?_ sub
  unfold State.reread
  repeat' first
    | decide | with_reducible apply Only.refl | with_reducible apply State.request_only

theorem State.classify11_only {l : List Part} {s t : State} {r : FabReq} {code : Nat} (h : Only l s t) (sub : [.atlas, .evs, .memc, .ctl] ⊆ l) : Only l s (t.classify11 r code) := by
  refine Only.after (k := [.atlas, .evs, .memc, .ctl]) h ?_ sub
  unfold State.classify11
  repeat' first
    | decide | with_reducible apply Only.refl | extract_lets | with_reducible apply Only.ite | with_reducible apply State.memError_only
    | (with_reducible apply Only.upd) <;> [skip; (intro p hp; (fail_if_success with_reducible apply Part.same_refl); cases p <;> first | exact absurd (by decide) hp | (with_reducible apply Part.regs_of; exact rfl) | (with_reducible apply Part.evs_of; exact rfl) | exact rfl | exact ⟨rfl, rfl, rfl⟩)]

theorem State.delivered_only {l : List Part} {s t : State} {r : FabReq} {code : Nat} {data : Nat} (h : Only l s t) (sub : [.clk, .pace, .fab, .atlas, .par, .dbg, .load, .iso, .lgd, .regs, .evs, .bytes, .memc, .dma, .boot, .ilr, .ctl, .twin] ⊆ l) : Only l s (t.delivered r code data) := by
  refine Only.after (k := [.clk, .pace, .fab, .atlas, .par, .dbg, .load, .iso, .lgd, .regs, .evs, .bytes, .memc, .dma, .boot, .ilr, .ctl, .twin]) h ?_ sub
  unfold State.delivered
  repeat' first
    | decide | with_reducible apply Only.refl | extract_lets | with_reducible apply Only.ite | with_reducible apply State.classify11_only
    | with_reducible apply State.fabErr_only | with_reducible apply State.respond_only | with_reducible apply State.reread_only

theorem State.endReq_only {l : List Part} {s t : State} {i : Nat} (h : Only l s t) (sub : [.fab] ⊆ l) : Only l s (t.endReq i) := by
  refine Only.after (k := [.fab]) h ?_ sub
  unfold State.endReq
  repeat' first
    | decide | with_reducible apply Only.refl | extract_lets | with_reducible apply Only.put_fab

theorem State.lateWrite_only {l : List Part} {s t : State} {r : FabReq} (h : Only l s t) (sub : [.clk, .pace, .atlas, .par, .dbg, .load, .iso, .lgd, .regs, .evs, .bytes, .memc, .boot, .ilr, .ctl, .twin] ⊆ l) : Only l s (t.lateWrite r) := by
  refine Only.after (k := [.clk, .pace, .atlas, .par, .dbg, .load, .iso, .lgd, .regs, .evs, .bytes, .memc, .boot, .ilr, .ctl, .twin]) h ?_ sub
  unfold State.lateWrite
  repeat' first
    | decide | with_reducible apply Only.refl | extract_lets | with_reducible apply Only.ite | with_reducible apply State.target_only
    | with_reducible apply OnlyP.fst

theorem State.inboundWord_only {l : List Part} {s t : State} {write : Bool} {be : Nat} {a : Nat} {v : Nat} (h : Only l s t) (sub : [.clk, .pace, .atlas, .par, .dbg, .load, .iso, .lgd, .regs, .evs, .bytes, .memc, .boot, .ilr, .ctl, .twin] ⊆ l) : OnlyP l s (t.inboundWord write be a v) := by
  refine OnlyP.after (k := [.clk, .pace, .atlas, .par, .dbg, .load, .iso, .lgd, .regs, .evs, .bytes, .memc, .boot, .ilr, .ctl, .twin]) h ?_ sub
  unfold State.inboundWord
  repeat' first
    | decide | with_reducible apply Only.refl | extract_lets | with_reducible apply State.target_only
    | with_reducible refine Only.of_pair (by assumption) ?_ | with_reducible apply OnlyP.ite | split | with_reducible apply OnlyP.pair

theorem State.inboundWords_only {l : List Part} {s t : State} {write : Bool} {be : Nat} {a : Nat} {ws : List Nat} {x5 : Nat} {x6 : Nat} {x7 : Nat} {x8 : List Nat} (h : Only l s t) (sub : [.clk, .pace, .atlas, .par, .dbg, .load, .iso, .lgd, .regs, .evs, .bytes, .memc, .boot, .ilr, .ctl, .twin] ⊆ l) : OnlyP l s (t.inboundWords write be a ws x5 x6 x7 x8) := by
  induction x5 generalizing t write be a ws x6 x7 x8 with
  | zero => unfold State.inboundWords; exact ⟨h⟩
  | succ k ih =>
    unfold State.inboundWords
    repeat' first
      | exact h | exact List.Subset.trans (by decide) sub | with_reducible apply ih | extract_lets | with_reducible apply State.inboundWord_only
      | with_reducible apply OnlyP.fst

theorem State.sendRsp_only {l : List Part} {s t : State} {r : LinkReq} {code : Nat} {ex : Bool} {retry : Bool} {ws : List Nat} (h : Only l s t) (sub : [.twin] ⊆ l) : Only l s (t.sendRsp r code ex retry ws) := by
  refine Only.after (k := [.twin]) h ?_ sub
  unfold State.sendRsp
  repeat' first
    | decide | with_reducible apply Only.refl | with_reducible apply State.frame_only

theorem State.inboundErr_only {l : List Part} {s t : State} {code : Nat} {a : Nat} (h : Only l s t) (sub : [.dbg] ⊆ l) : Only l s (t.inboundErr code a) := by
  refine Only.after (k := [.dbg]) h ?_ sub
  unfold State.inboundErr
  repeat' first
    | decide | with_reducible apply Only.refl | extract_lets | with_reducible apply Only.ite | with_reducible apply State.fabErr_only

theorem State.inboundEx_only {l : List Part} {s t : State} {r : LinkReq} (h : Only l s t) (sub : [.fab, .atlas, .dbg, .regs, .evs, .bytes, .memc, .dma, .ctl, .twin] ⊆ l) : OnlyP l s (t.inboundEx r) := by
  refine OnlyP.after (k := [.fab, .atlas, .dbg, .regs, .evs, .bytes, .memc, .dma, .ctl, .twin]) h ?_ sub
  unfold State.inboundEx
  repeat' first
    | decide | with_reducible apply Only.refl | extract_lets | with_reducible apply State.memRead_only | with_reducible apply State.exWrite_only
    | with_reducible apply State.unlocked_only | with_reducible apply State.sramWrite_only | with_reducible apply State.modTwin_only
    | with_reducible refine Only.of_pair (by assumption) ?_ | with_reducible apply OnlyP.ite | split | with_reducible apply OnlyP.pair

theorem State.inbound_only {l : List Part} {s t : State} {r : LinkReq} (h : Only l s t) (sub : [.clk, .pace, .fab, .atlas, .par, .dbg, .load, .iso, .lgd, .regs, .evs, .bytes, .memc, .dma, .boot, .ilr, .ctl, .twin] ⊆ l) : Only l s (t.inbound r) := by
  refine Only.after (k := [.clk, .pace, .fab, .atlas, .par, .dbg, .load, .iso, .lgd, .regs, .evs, .bytes, .memc, .dma, .boot, .ilr, .ctl, .twin]) h ?_ sub
  unfold State.inbound
  repeat' first
    | decide | with_reducible apply Only.refl | extract_lets | with_reducible apply Only.ite | with_reducible apply State.inboundWords_only
    | with_reducible apply State.inboundEx_only | with_reducible apply State.sendRsp_only | with_reducible apply State.inboundErr_only
    | with_reducible apply OnlyP.fst

theorem State.benchWord_only {l : List Part} {s t : State} {write : Bool} {off : Nat} {v : Nat} (h : Only l s t) (sub : [.clk, .pace, .atlas, .par, .dbg, .load, .iso, .lgd, .regs, .evs, .memc, .boot, .ilr, .ctl] ⊆ l) : OnlyP l s (t.benchWord write off v) := by
  refine OnlyP.after (k := [.clk, .pace, .atlas, .par, .dbg, .load, .iso, .lgd, .regs, .evs, .memc, .boot, .ilr, .ctl]) h ?_ sub
  unfold State.benchWord
  repeat' first
    | decide | with_reducible apply Only.refl | extract_lets | with_reducible apply State.regRead_only | with_reducible apply State.regWrite_only
    | with_reducible apply State.fabErr_only | with_reducible refine Only.of_pair (by assumption) ?_ | with_reducible apply OnlyP.ite | split
    | with_reducible apply OnlyP.pair

theorem State.benchRun_only {l : List Part} {s t : State} {write : Bool} {data : List Byte} {x2 : Nat} {x3 : Nat} {x4 : Nat} {x6 : List Byte} {x7 : Nat} (h : Only l s t) (sub : [.clk, .pace, .atlas, .par, .dbg, .load, .iso, .lgd, .regs, .evs, .memc, .boot, .ilr, .ctl] ⊆ l) : OnlyP l s (State.benchRun write data x2 x3 x4 t x6 x7) := by
  induction x2 generalizing t write data x3 x4 x6 x7 with
  | zero => unfold State.benchRun; exact ⟨h⟩
  | succ k ih =>
    unfold State.benchRun
    repeat' first
      | exact h | exact List.Subset.trans (by decide) sub | with_reducible apply ih | extract_lets | with_reducible apply State.benchWord_only
      | with_reducible apply OnlyP.fst

theorem State.benchRefuse_only {l : List Part} {s t : State} {code : Nat} {addr : Nat} {n : Nat} (h : Only l s t) (sub : [.fab, .dbg] ⊆ l) : Only l s (t.benchRefuse code addr n) := by
  refine Only.after (k := [.fab, .dbg]) h ?_ sub
  unfold State.benchRefuse
  repeat' first
    | decide | with_reducible apply Only.refl | extract_lets | with_reducible apply State.fabErr_only | with_reducible apply Only.put_fab

/-! ### Machine/Dma.lean -/

theorem State.dmaData_only {l : List Part} {s t : State} {n : Nat} {k : Nat} (h : Only l s t) (sub : [.clk, .pace, .fab, .atlas, .par, .dbg, .load, .iso, .lgd, .regs, .evs, .bytes, .memc, .boot, .ilr, .ctl, .twin] ⊆ l) : OnlyP l s (t.dmaData n k) := by
  refine OnlyP.after (k := [.clk, .pace, .fab, .atlas, .par, .dbg, .load, .iso, .lgd, .regs, .evs, .bytes, .memc, .boot, .ilr, .ctl, .twin]) h ?_ sub
  unfold State.dmaData
  repeat' first
    | decide | with_reducible apply Only.refl | extract_lets | with_reducible apply State.access_only | with_reducible apply OnlyP.ite
    | with_reducible apply OnlyP.pair

theorem State.dmaElem_only {l : List Part} {s t : State} {n : Nat} {k : Nat} (h : Only l s t) (sub : [.clk, .pace, .fab, .atlas, .par, .dbg, .load, .iso, .lgd, .regs, .evs, .bytes, .memc, .boot, .ilr, .ctl, .twin] ⊆ l) : OnlyP l s (t.dmaElem n k) := by
  refine OnlyP.after (k := [.clk, .pace, .fab, .atlas, .par, .dbg, .load, .iso, .lgd, .regs, .evs, .bytes, .memc, .boot, .ilr, .ctl, .twin]) h ?_ sub
  unfold State.dmaElem
  repeat' first
    | decide | with_reducible apply Only.refl | extract_lets | with_reducible apply State.dmaData_only | with_reducible apply State.access_only
    | with_reducible apply OnlyP.fst | with_reducible refine Only.of_pair (by assumption) ?_ | with_reducible apply OnlyP.ite | split
    | with_reducible apply OnlyP.pair

theorem State.dmaLate_only {l : List Part} {s t : State} {n : Nat} {k : Nat} (h : Only l s t) (sub : [.clk, .pace, .fab, .atlas, .par, .dbg, .load, .iso, .lgd, .regs, .evs, .bytes, .memc, .boot, .ilr, .ctl, .twin] ⊆ l) : Only l s (t.dmaLate n k) := by
  refine Only.after (k := [.clk, .pace, .fab, .atlas, .par, .dbg, .load, .iso, .lgd, .regs, .evs, .bytes, .memc, .boot, .ilr, .ctl, .twin]) h ?_ sub
  unfold State.dmaLate
  repeat' first
    | decide | with_reducible apply Only.refl | extract_lets | with_reducible apply Only.ite | with_reducible apply State.dmaData_only
    | with_reducible apply State.lateWrite_only | with_reducible apply OnlyP.fst

theorem State.dmaRun_only {l : List Part} {s t : State} {n : Nat} {stop : Option Nat} {x2 : Nat} {x3 : Nat} (h : Only l s t) (sub : [.clk, .pace, .fab, .atlas, .par, .dbg, .load, .iso, .lgd, .regs, .evs, .bytes, .memc, .boot, .ilr, .ctl, .twin] ⊆ l) : OnlyP l s (State.dmaRun n stop x2 x3 t) := by
  induction x2 generalizing t n stop x3 with
  | zero => unfold State.dmaRun; exact ⟨h⟩
  | succ k ih =>
    unfold State.dmaRun
    repeat' first
      | exact h | exact List.Subset.trans (by decide) sub | with_reducible apply ih | extract_lets | with_reducible apply State.dmaElem_only
      | with_reducible apply OnlyP.fst | with_reducible apply OnlyP.ite | with_reducible apply OnlyP.pair

theorem State.dmaFail_only {l : List Part} {s t : State} {n : Nat} {k : Nat} {code : Nat} {addr : Nat} (h : Only l s t) (sub : [.dma] ⊆ l) : Only l s (t.dmaFail n k code addr) := by
  refine Only.after (k := [.dma]) h ?_ sub
  unfold State.dmaFail
  repeat' first
    | decide | with_reducible apply Only.refl | extract_lets | with_reducible apply State.modDma_only | with_reducible apply State.dmaHalt_only

theorem State.dmaLoad_only {l : List Part} {s t : State} {n : Nat} {a : Nat} (h : Only l s t) (sub : [.clk, .pace, .fab, .atlas, .par, .dbg, .load, .iso, .lgd, .regs, .evs, .bytes, .memc, .dma, .boot, .ilr, .ctl, .twin] ⊆ l) : Only l s (t.dmaLoad n a) := by
  refine Only.after (k := [.clk, .pace, .fab, .atlas, .par, .dbg, .load, .iso, .lgd, .regs, .evs, .bytes, .memc, .dma, .boot, .ilr, .ctl, .twin]) h ?_ sub
  unfold State.dmaLoad
  repeat' first
    | decide | with_reducible apply Only.refl | extract_lets | with_reducible apply Only.ite | with_reducible apply State.modDma_only
    | with_reducible apply State.fabErr_only | with_reducible apply State.access_only | with_reducible apply State.dmaHalt_only
    | with_reducible apply OnlyP.fst | with_reducible refine Only.of_pair (by assumption) ?_ | with_reducible apply OnlyP.foldl
    | with_reducible apply OnlyP.ite | split | with_reducible apply OnlyP.pair | intro _

theorem State.dmaStart_only {l : List Part} {s t : State} {k : Nat} {v : Nat} {desc : Nat} (h : Only l s t) (sub : [.clk, .pace, .fab, .atlas, .par, .dbg, .load, .iso, .lgd, .regs, .evs, .bytes, .memc, .dma, .boot, .ilr, .ctl, .twin] ⊆ l) : OnlyP l s (t.dmaStart k v desc) := by
  refine OnlyP.after (k := [.clk, .pace, .fab, .atlas, .par, .dbg, .load, .iso, .lgd, .regs, .evs, .bytes, .memc, .dma, .boot, .ilr, .ctl, .twin]) h ?_ sub
  unfold State.dmaStart
  repeat' first
    | decide | with_reducible apply Only.refl | extract_lets | with_reducible apply State.modDma_only | with_reducible apply State.dmaLoad_only
    | with_reducible apply OnlyP.ite | with_reducible apply OnlyP.pair

theorem State.dmaStop_only {l : List Part} {s t : State} {k : Nat} {n : Nat} (h : Only l s t) (sub : [.clk, .pace, .fab, .atlas, .par, .dbg, .load, .iso, .lgd, .regs, .evs, .bytes, .memc, .dma, .boot, .ilr, .ctl, .twin] ⊆ l) : Only l s (t.dmaStop k n) := by
  refine Only.after (k := [.clk, .pace, .fab, .atlas, .par, .dbg, .load, .iso, .lgd, .regs, .evs, .bytes, .memc, .dma, .boot, .ilr, .ctl, .twin]) h ?_ sub
  unfold State.dmaStop
  repeat' first
    | decide | with_reducible apply Only.refl | extract_lets | with_reducible apply Only.ite | with_reducible apply State.dmaRun_only
    | with_reducible apply State.modDma_only | with_reducible apply State.fabErr_only | with_reducible apply State.dmaFail_only
    | with_reducible apply OnlyP.fst

/-! ### Machine/Xitre.lean -/

theorem State.superTrap_only {l : List Part} {s t : State} {t1 : Trap} {async : Bool} (h : Only l s t) (sub : [.clk, .pace, .fab, .atlas, .par, .dbg, .load, .iso, .ctr, .vlv, .light, .pwr, .svy, .inp, .net, .agr, .acc, .regs, .evs, .bytes, .memc, .dma, .boot, .fw, .twin] ⊆ l) : Only l s (t.superTrap t1 async) := by
  refine Only.after (k := [.clk, .pace, .fab, .atlas, .par, .dbg, .load, .iso, .ctr, .vlv, .light, .pwr, .svy, .inp, .net, .agr, .acc, .regs, .evs, .bytes, .memc, .dma, .boot, .fw, .twin]) h ?_ sub
  unfold State.superTrap
  repeat' first
    | decide | with_reducible apply Only.refl | extract_lets | with_reducible apply Only.ite | with_reducible apply State.logicReset_only
    | (with_reducible apply State.modCore_regs) <;> [skip; decide; (intro _; constructor <;> (repeat' split) <;> rfl)]

theorem State.appTrap_only {l : List Part} {s t : State} {n : Nat} {cause : Nat} {code : Nat} (h : Only l s t) (sub : [.atlas, .regs, .evs, .ctl] ⊆ l) : Only l s (t.appTrap n cause code) := by
  refine Only.after (k := [.atlas, .regs, .evs, .ctl]) h ?_ sub
  unfold State.appTrap
  repeat' first
    | decide | with_reducible apply Only.refl | extract_lets | with_reducible apply State.modApplet_only | with_reducible apply State.haltCore_only
    | (with_reducible apply State.modCore_regs) <;> [skip; decide; (intro _; constructor <;> (repeat' split) <;> rfl)]
    | with_reducible apply State.dropApplet_only | with_reducible apply State.emit_only

theorem State.seqTrap_only {l : List Part} {s t : State} {i : Nat} (h : Only l s t) (sub : [.atlas, .load, .iso, .vlv, .regs, .evs, .boot, .ctl] ⊆ l) : Only l s (t.seqTrap i) := by
  refine Only.after (k := [.atlas, .load, .iso, .vlv, .regs, .evs, .boot, .ctl]) h ?_ sub
  unfold State.seqTrap
  repeat' first
    | decide | with_reducible apply Only.refl | extract_lets | with_reducible apply Only.ite | with_reducible apply State.bankOff_only
    | with_reducible apply State.haltCore_only | with_reducible apply State.modBoot_only | with_reducible apply Only.put_load

theorem State.recordTrap_only {l : List Part} {s t : State} {i : Nat} {t1 : Trap} (h : Only l s t) (sub : [.fab, .dbg] ⊆ l) : Only l s (t.recordTrap i t1) := by
  refine Only.after (k := [.fab, .dbg]) h ?_ sub
  unfold State.recordTrap
  repeat' first
    | decide | with_reducible apply Only.refl | extract_lets | with_reducible apply Only.ite | with_reducible apply State.portErr_only

theorem State.trapCore_only {l : List Part} {s t : State} {i : Nat} {t1 : Trap} {async : Bool} (h : Only l s t) (sub : [.clk, .pace, .fab, .atlas, .par, .dbg, .load, .iso, .ctr, .vlv, .light, .pwr, .svy, .inp, .net, .agr, .acc, .regs, .evs, .bytes, .memc, .dma, .boot, .fw, .ctl, .twin] ⊆ l) : Only l s (t.trapCore i t1 async) := by
  refine Only.after (k := [.clk, .pace, .fab, .atlas, .par, .dbg, .load, .iso, .ctr, .vlv, .light, .pwr, .svy, .inp, .net, .agr, .acc, .regs, .evs, .bytes, .memc, .dma, .boot, .fw, .ctl, .twin]) h ?_ sub
  unfold State.trapCore
  repeat' first
    | decide | with_reducible apply Only.refl | extract_lets | with_reducible apply Only.ite | with_reducible apply State.seqTrap_only
    | with_reducible apply State.superTrap_only
    | (with_reducible apply State.modCore_regs) <;> [skip; decide; (intro _; constructor <;> (repeat' split) <;> rfl)]
    | with_reducible apply State.appTrap_only | with_reducible apply State.debugHalt_only | with_reducible apply State.modDbgCore_only

theorem State.loadFrom_only {l : List Part} {s t : State} {i : Nat} {a : Nat} {size : Nat} {sgn : Bool} {excl : Bool} (h : Only l s t) (sub : [.clk, .pace, .fab, .atlas, .par, .dbg, .load, .iso, .lgd, .regs, .evs, .bytes, .memc, .dma, .boot, .ilr, .ctl, .twin] ⊆ l) : Only l s (t.loadFrom i a size sgn excl) := by
  refine Only.after (k := [.clk, .pace, .fab, .atlas, .par, .dbg, .load, .iso, .lgd, .regs, .evs, .bytes, .memc, .dma, .boot, .ilr, .ctl, .twin]) h ?_ sub
  unfold State.loadFrom
  repeat' first
    | decide | with_reducible apply Only.refl | extract_lets | with_reducible apply Only.ite | with_reducible apply State.memRead_only
    | (with_reducible apply State.modCore_regs) <;> [skip; decide; (intro _; constructor <;> (repeat' split) <;> rfl)]
    | with_reducible apply State.modCore_only | with_reducible apply State.request_only | with_reducible apply OnlyP.fst

theorem State.storeTo_only {l : List Part} {s t : State} {i : Nat} {a : Nat} {size : Nat} {v : Nat} {excl : Bool} (h : Only l s t) (sub : [.clk, .pace, .fab, .atlas, .par, .dbg, .load, .iso, .lgd, .regs, .evs, .bytes, .memc, .dma, .boot, .ilr, .ctl, .twin] ⊆ l) : Only l s (t.storeTo i a size v excl) := by
  refine Only.after (k := [.clk, .pace, .fab, .atlas, .par, .dbg, .load, .iso, .lgd, .regs, .evs, .bytes, .memc, .dma, .boot, .ilr, .ctl, .twin]) h ?_ sub
  unfold State.storeTo
  repeat' first
    | decide | with_reducible apply Only.refl | extract_lets | with_reducible apply Only.ite
    | (with_reducible apply State.modCore_regs) <;> [skip; decide; (intro _; constructor <;> (repeat' split) <;> rfl)]
    | with_reducible apply State.request_only | with_reducible apply State.memWrite_only | with_reducible apply OnlyP.fst

theorem State.superAccess_only {l : List Part} {s t : State} {a : Nat} {size : Nat} {write : Bool} {v : Nat} (h : Only l s t) (sub : [.clk, .pace, .fab, .atlas, .par, .dbg, .load, .iso, .lgd, .regs, .evs, .bytes, .memc, .boot, .ilr, .ctl, .twin] ⊆ l) : OnlyP l s (t.superAccess a size write v) := by
  refine OnlyP.after (k := [.clk, .pace, .fab, .atlas, .par, .dbg, .load, .iso, .lgd, .regs, .evs, .bytes, .memc, .boot, .ilr, .ctl, .twin]) h ?_ sub
  unfold State.superAccess
  repeat' first
    | decide | with_reducible apply Only.refl | extract_lets | with_reducible apply State.portErr_only | with_reducible apply State.access_only
    | with_reducible refine Only.of_pair (by assumption) ?_ | split | with_reducible apply OnlyP.pair

theorem State.stackWrite_only {l : List Part} {s t : State} {i : Nat} {a : Nat} {v : Nat} (h : Only l s t) (sub : [.clk, .pace, .fab, .atlas, .par, .dbg, .load, .iso, .lgd, .regs, .evs, .bytes, .memc, .boot, .ilr, .ctl, .twin] ⊆ l) : OnlyP l s (t.stackWrite i a v) := by
  refine OnlyP.after (k := [.clk, .pace, .fab, .atlas, .par, .dbg, .load, .iso, .lgd, .regs, .evs, .bytes, .memc, .boot, .ilr, .ctl, .twin]) h ?_ sub
  unfold State.stackWrite
  repeat' first
    | decide | with_reducible apply Only.refl | extract_lets | with_reducible apply State.superAccess_only | with_reducible apply State.memWrite_only
    | with_reducible refine Only.of_pair (by assumption) ?_ | with_reducible apply OnlyP.ite | split | with_reducible apply OnlyP.pair

theorem State.stackRead_only {l : List Part} {s t : State} {i : Nat} {a : Nat} (h : Only l s t) (sub : [.clk, .pace, .fab, .atlas, .par, .dbg, .load, .iso, .lgd, .regs, .evs, .bytes, .memc, .boot, .ilr, .ctl, .twin] ⊆ l) : OnlyP l s (t.stackRead i a) := by
  refine OnlyP.after (k := [.clk, .pace, .fab, .atlas, .par, .dbg, .load, .iso, .lgd, .regs, .evs, .bytes, .memc, .boot, .ilr, .ctl, .twin]) h ?_ sub
  unfold State.stackRead
  repeat' first
    | decide | with_reducible apply Only.refl | extract_lets | with_reducible apply State.memRead_only | with_reducible apply State.superAccess_only
    | with_reducible refine Only.of_pair (by assumption) ?_ | with_reducible apply OnlyP.ite | split | with_reducible apply OnlyP.pair

theorem State.pushAll_only {l : List Part} {s t : State} {i : Nat} {x1 : List Nat} (h : Only l s t) (sub : [.clk, .pace, .fab, .atlas, .par, .dbg, .load, .iso, .lgd, .regs, .evs, .bytes, .memc, .boot, .ilr, .ctl, .twin] ⊆ l) : OnlyP l s (State.pushAll i x1 t) := by
  induction x1 generalizing t i with
  | nil => unfold State.pushAll; exact ⟨h⟩
  | cons a as ih =>
    unfold State.pushAll
    repeat' first
      | exact h | exact List.Subset.trans (by decide) sub | with_reducible apply ih | extract_lets | with_reducible apply State.modCore_only
      | with_reducible apply State.stackWrite_only | with_reducible refine Only.of_pair (by assumption) ?_ | split | with_reducible apply OnlyP.pair

theorem State.popRegs_only {l : List Part} {s t : State} {i : Nat} {x1 : List Nat} (h : Only l s t) (sub : [.clk, .pace, .fab, .atlas, .par, .dbg, .load, .iso, .lgd, .regs, .evs, .bytes, .memc, .boot, .ilr, .ctl, .twin] ⊆ l) : OnlyP l s (State.popRegs i x1 t) := by
  induction x1 generalizing t i with
  | nil => unfold State.popRegs; exact ⟨h⟩
  | cons a as ih =>
    unfold State.popRegs
    repeat' first
      | exact h | exact List.Subset.trans (by decide) sub | with_reducible apply ih | extract_lets | with_reducible apply State.modCore_only
      | with_reducible apply State.stackRead_only | with_reducible refine Only.of_pair (by assumption) ?_ | split | with_reducible apply OnlyP.pair

theorem State.doCall_only {l : List Part} {s t : State} {i : Nat} {target : Nat} {mask : Nat} {ret : Nat} (h : Only l s t) (sub : [.clk, .pace, .fab, .atlas, .par, .dbg, .load, .iso, .lgd, .regs, .evs, .bytes, .memc, .boot, .ilr, .ctl, .twin] ⊆ l) : OnlyP l s (t.doCall i target mask ret) := by
  refine OnlyP.after (k := [.clk, .pace, .fab, .atlas, .par, .dbg, .load, .iso, .lgd, .regs, .evs, .bytes, .memc, .boot, .ilr, .ctl, .twin]) h ?_ sub
  unfold State.doCall
  repeat' first
    | decide | with_reducible apply Only.refl | extract_lets
    | (with_reducible apply State.modCore_regs) <;> [skip; decide; (intro _; constructor <;> (repeat' split) <;> rfl)]
    | with_reducible apply State.pushAll_only | with_reducible refine Only.of_pair (by assumption) ?_ | with_reducible apply OnlyP.ite | split
    | with_reducible apply OnlyP.pair

theorem State.doRet_only {l : List Part} {s t : State} {i : Nat} (h : Only l s t) (sub : [.clk, .pace, .fab, .atlas, .par, .dbg, .load, .iso, .lgd, .regs, .evs, .bytes, .memc, .boot, .ilr, .ctl, .twin] ⊆ l) : OnlyP l s (t.doRet i) := by
  refine OnlyP.after (k := [.clk, .pace, .fab, .atlas, .par, .dbg, .load, .iso, .lgd, .regs, .evs, .bytes, .memc, .boot, .ilr, .ctl, .twin]) h ?_ sub
  unfold State.doRet
  repeat' first
    | decide | with_reducible apply Only.refl | extract_lets | with_reducible apply State.popRegs_only
    | (with_reducible apply State.modCore_regs) <;> [skip; decide; (intro _; constructor <;> (repeat' split) <;> rfl)]
    | with_reducible apply State.stackRead_only | with_reducible refine Only.of_pair (by assumption) ?_ | with_reducible apply OnlyP.ite | split
    | with_reducible apply OnlyP.pair

theorem State.transfer_only {l : List Part} {s t : State} {i ret : Nat} (h : Only l s t) (sub : [.clk, .pace, .fab, .atlas, .par, .dbg, .load, .iso, .lgd, .regs, .evs, .bytes, .memc, .boot, .ilr, .ctl, .twin] ⊆ l) : OnlyP l s (t.transfer i ret) := by
  unfold State.transfer
  extract_lets f u
  have hu : Only l s u := State.modCore_only h (List.Subset.trans (by decide) sub)
  clear_value u f
  split
  · exact OnlyP.pair (State.modCore_only hu (List.Subset.trans (by decide) sub))
  · exact State.doCall_only hu (List.Subset.trans (by decide) sub)
  · exact State.doRet_only hu (List.Subset.trans (by decide) sub)
  · exact ⟨hu⟩

theorem State.branch_only {l : List Part} {s t : State} {i : Nat} {f : Flow} (h : Only l s t) (sub : [.regs] ⊆ l) : Only l s (t.branch i f) := by
  refine Only.after (k := [.regs]) h ?_ sub
  unfold State.branch
  repeat' first
    | with_reducible apply Only.refl
    | (with_reducible apply State.modCore_regs) <;> [skip; decide; (intro _; constructor <;> (repeat' split) <;> rfl)]

theorem State.doRte_only {l : List Part} {s t : State} (h : Only l s t) (sub : [.regs] ⊆ l) : Only l s (t.doRte) := by
  refine Only.after (k := [.regs]) h ?_ sub
  unfold State.doRte
  repeat' first
    | with_reducible apply Only.refl
    | (with_reducible apply State.modCore_regs) <;> [skip; decide; (intro _; constructor <;> (repeat' split) <;> rfl)]

theorem State.endWait_only {l : List Part} {s t : State} {i : Nat} {r : Nat} (h : Only l s t) (sub : [.regs, .evs] ⊆ l) : Only l s (t.endWait i r) := by
  refine Only.after (k := [.regs, .evs]) h ?_ sub
  unfold State.endWait
  repeat' first
    | decide | with_reducible apply Only.refl | extract_lets | with_reducible apply State.modCore_only

theorem State.bytesFrom_only {l : List Part} {s t : State} {x1 : Nat} {x2 : Nat} {x3 : List Byte} (h : Only l s t) (sub : [.clk, .pace, .fab, .atlas, .par, .dbg, .load, .iso, .lgd, .regs, .evs, .bytes, .memc, .boot, .ilr, .ctl, .twin] ⊆ l) : OnlyP l s (t.bytesFrom x1 x2 x3) := by
  induction x1 generalizing t x2 x3 with
  | zero => unfold State.bytesFrom; exact ⟨h⟩
  | succ k ih =>
    unfold State.bytesFrom
    repeat' first
      | exact h | exact List.Subset.trans (by decide) sub | with_reducible apply ih | extract_lets | with_reducible apply State.lateErr_only
      | with_reducible apply State.superAccess_only | with_reducible apply OnlyP.fst | with_reducible apply OnlyP.ite
      | with_reducible apply OnlyP.pair

theorem State.bytesTo_only {l : List Part} {s t : State} {a : Nat} {x2 : List Byte} (h : Only l s t) (sub : [.clk, .pace, .fab, .atlas, .par, .dbg, .load, .iso, .lgd, .regs, .evs, .bytes, .memc, .boot, .ilr, .ctl, .twin] ⊆ l) : Only l s (t.bytesTo a x2) := by
  induction x2 generalizing t a with
  | nil => unfold State.bytesTo; exact h
  | cons a as ih =>
    unfold State.bytesTo
    repeat' first
      | exact h | exact List.Subset.trans (by decide) sub | with_reducible apply ih | extract_lets | with_reducible apply Only.ite
      | with_reducible apply State.lateErr_only | with_reducible apply State.superAccess_only | with_reducible apply OnlyP.fst

theorem State.shakeAbsorb_only {l : List Part} {s t : State} {a : Nat} (h : Only l s t) (sub : [.clk, .pace, .fab, .atlas, .par, .dbg, .load, .iso, .lgd, .regs, .evs, .bytes, .memc, .boot, .ilr, .ctl, .twin] ⊆ l) : Only l s (t.shakeAbsorb a) := by
  refine Only.after (k := [.clk, .pace, .fab, .atlas, .par, .dbg, .load, .iso, .lgd, .regs, .evs, .bytes, .memc, .boot, .ilr, .ctl, .twin]) h ?_ sub
  unfold State.shakeAbsorb
  repeat' first
    | decide | with_reducible apply Only.refl | extract_lets | with_reducible apply State.bytesFrom_only
    | (with_reducible apply State.modCore_regs) <;> [skip; decide; (intro _; constructor <;> (repeat' split) <;> rfl)]
    | with_reducible apply OnlyP.fst | split
    | (with_reducible apply Only.upd) <;> [skip; (intro p hp; (fail_if_success with_reducible apply Part.same_refl); cases p <;> first | exact absurd (by decide) hp | (with_reducible apply Part.regs_of; exact rfl) | (with_reducible apply Part.evs_of; exact rfl) | exact rfl | exact ⟨rfl, rfl, rfl⟩)]

theorem State.shakeSqueeze_only {l : List Part} {s t : State} {a : Nat} (h : Only l s t) (sub : [.clk, .pace, .fab, .atlas, .par, .dbg, .load, .iso, .lgd, .regs, .evs, .bytes, .memc, .boot, .ilr, .ctl, .twin] ⊆ l) : Only l s (t.shakeSqueeze a) := by
  refine Only.after (k := [.clk, .pace, .fab, .atlas, .par, .dbg, .load, .iso, .lgd, .regs, .evs, .bytes, .memc, .boot, .ilr, .ctl, .twin]) h ?_ sub
  unfold State.shakeSqueeze
  repeat' first
    | decide | with_reducible apply Only.refl | extract_lets
    | (with_reducible apply State.modCore_regs) <;> [skip; decide; (intro _; constructor <;> (repeat' split) <;> rfl)]
    | with_reducible apply State.bytesTo_only
    | (with_reducible apply Only.upd) <;> [skip; (intro p hp; (fail_if_success with_reducible apply Part.same_refl); cases p <;> first | exact absurd (by decide) hp | (with_reducible apply Part.regs_of; exact rfl) | (with_reducible apply Part.evs_of; exact rfl) | exact rfl | exact ⟨rfl, rfl, rfl⟩)]

theorem State.aesEncrypt_only {l : List Part} {s t : State} {a : Nat} (h : Only l s t) (sub : [.clk, .pace, .fab, .atlas, .par, .dbg, .load, .iso, .lgd, .regs, .evs, .bytes, .memc, .boot, .ilr, .ctl, .twin] ⊆ l) : Only l s (t.aesEncrypt a) := by
  refine Only.after (k := [.clk, .pace, .fab, .atlas, .par, .dbg, .load, .iso, .lgd, .regs, .evs, .bytes, .memc, .boot, .ilr, .ctl, .twin]) h ?_ sub
  unfold State.aesEncrypt
  repeat' first
    | decide | with_reducible apply Only.refl | extract_lets | with_reducible apply Only.ite | with_reducible apply State.bytesFrom_only
    | (with_reducible apply State.modCore_regs) <;> [skip; decide; (intro _; constructor <;> (repeat' split) <;> rfl)]
    | with_reducible apply State.bytesTo_only | with_reducible apply OnlyP.fst

theorem State.vlvMove_only {l : List Part} {s t : State} {m : Nat} {v : Nat} (h : Only l s t) (sub : [.vlv] ⊆ l) : Only l s (t.vlvMove m v) := by
  refine Only.after (k := [.vlv]) h ?_ sub
  unfold State.vlvMove
  repeat' first
    | decide | with_reducible apply Only.refl | extract_lets | with_reducible apply Only.ite | with_reducible apply State.modValve_only

theorem State.fireLsu_only {l : List Part} {s t : State} {i : Nat} {p : Nat} {v : Nat} (h : Only l s t) (sub : [.clk, .pace, .fab, .atlas, .par, .dbg, .load, .iso, .lgd, .regs, .evs, .bytes, .memc, .dma, .boot, .ilr, .ctl, .twin] ⊆ l) : Only l s (t.fireLsu i p v) := by
  refine Only.after (k := [.clk, .pace, .fab, .atlas, .par, .dbg, .load, .iso, .lgd, .regs, .evs, .bytes, .memc, .dma, .boot, .ilr, .ctl, .twin]) h ?_ sub
  unfold State.fireLsu
  repeat' first
    | decide | with_reducible apply Only.refl | extract_lets | with_reducible apply Only.ite
    | (with_reducible apply State.modCore_regs) <;> [skip; decide; (intro _; constructor <;> (repeat' split) <;> rfl)]
    | with_reducible apply State.loadFrom_only | with_reducible apply State.storeTo_only

theorem State.fireBr_only {l : List Part} {s t : State} {i : Nat} {p : Nat} {v : Nat} (h : Only l s t) (sub : [.regs] ⊆ l) : Only l s (t.fireBr i p v) := by
  refine Only.after (k := [.regs]) h ?_ sub
  unfold State.fireBr
  repeat' first
    | decide | with_reducible apply Only.refl | extract_lets | with_reducible apply Only.ite | with_reducible apply State.doRte_only
    | with_reducible apply State.branch_only

theorem State.firePlant_only {l : List Part} {s t : State} {i : Nat} {p : Nat} {v : Nat} (h : Only l s t) (sub : [.load, .vlv, .regs, .evs] ⊆ l) : Only l s (t.firePlant i p v) := by
  refine Only.after (k := [.load, .vlv, .regs, .evs]) h ?_ sub
  unfold State.firePlant
  repeat' first
    | decide | with_reducible apply Only.refl | extract_lets | with_reducible apply Only.ite | with_reducible apply State.modChan_only
    | with_reducible apply State.modBank_only
    | (with_reducible apply State.modCore_regs) <;> [skip; decide; (intro _; constructor <;> (repeat' split) <;> rfl)]
    | with_reducible apply State.modCore_only | with_reducible apply State.vlvMove_only | with_reducible apply State.modValve_only

theorem State.fireCo_only {l : List Part} {s t : State} {i : Nat} {p : Nat} {v : Nat} (h : Only l s t) (sub : [.clk, .pace, .fab, .atlas, .par, .dbg, .load, .iso, .lgd, .regs, .evs, .bytes, .memc, .dma, .boot, .ilr, .ctl, .twin] ⊆ l) : Only l s (t.fireCo i p v) := by
  refine Only.after (k := [.clk, .pace, .fab, .atlas, .par, .dbg, .load, .iso, .lgd, .regs, .evs, .bytes, .memc, .dma, .boot, .ilr, .ctl, .twin]) h ?_ sub
  unfold State.fireCo
  repeat' first
    | decide | with_reducible apply Only.refl | extract_lets | with_reducible apply Only.ite | with_reducible apply State.dmaStop_only
    | with_reducible apply State.shakeSqueeze_only | with_reducible apply State.shakeAbsorb_only
    | (with_reducible apply State.modCore_regs) <;> [skip; decide; (intro _; constructor <;> (repeat' split) <;> rfl)]
    | with_reducible apply State.modCore_only | with_reducible apply State.aesEncrypt_only | with_reducible apply State.dmaStart_only
    | with_reducible apply OnlyP.fst

theorem State.fire_only {l : List Part} {s t : State} {i : Nat} {p : Nat} {v : Nat} (h : Only l s t) (sub : [.clk, .pace, .fab, .atlas, .par, .dbg, .load, .iso, .vlv, .lgd, .regs, .evs, .bytes, .memc, .dma, .boot, .ilr, .ctl, .twin] ⊆ l) : Only l s (t.fire i p v) := by
  refine Only.after (k := [.clk, .pace, .fab, .atlas, .par, .dbg, .load, .iso, .vlv, .lgd, .regs, .evs, .bytes, .memc, .dma, .boot, .ilr, .ctl, .twin]) h ?_ sub
  unfold State.fire
  repeat' first
    | decide | with_reducible apply Only.refl | extract_lets | with_reducible apply Only.ite | with_reducible apply State.fireLsu_only
    | (with_reducible apply State.modCore_regs) <;> [skip; decide; (intro _; constructor <;> (repeat' split) <;> rfl)]
    | with_reducible apply State.raiseEv_only | with_reducible apply State.fireCo_only | with_reducible apply State.firePlant_only
    | with_reducible apply State.fireBr_only | split

theorem State.fetchAt_only {l : List Part} {s t : State} {i : Nat} {pc : Nat} (h : Only l s t) (sub : [.atlas, .evs, .bytes, .memc, .ctl] ⊆ l) : OnlyP l s (t.fetchAt i pc) := by
  refine OnlyP.after (k := [.atlas, .evs, .bytes, .memc, .ctl]) h ?_ sub
  unfold State.fetchAt
  repeat' first
    | decide | with_reducible apply Only.refl | extract_lets | with_reducible apply State.memRead_only | with_reducible apply State.memError_only
    | with_reducible refine Only.of_pair (by assumption) ?_ | with_reducible apply OnlyP.ite | split | with_reducible apply OnlyP.pair

theorem State.fetchMoves_only {l : List Part} {s t : State} {i : Nat} {x1 : Nat} {x2 : Nat} {x4 : List Move} (h : Only l s t) (sub : [.atlas, .evs, .bytes, .memc, .ctl] ⊆ l) : OnlyP l s (State.fetchMoves i x1 x2 t x4) := by
  induction x1 generalizing t i x2 x4 with
  | zero => unfold State.fetchMoves; exact ⟨h⟩
  | succ k ih =>
    unfold State.fetchMoves
    repeat' first
      | exact h | exact List.Subset.trans (by decide) sub | with_reducible apply ih | extract_lets | with_reducible apply State.fetchAt_only
      | with_reducible refine Only.of_pair (by assumption) ?_ | with_reducible apply OnlyP.ite | split | with_reducible apply OnlyP.pair

theorem State.writePorts_only {l : List Part} {s t : State} {i : Nat} {ms : List Move} {vs : List Nat} (h : Only l s t) (sub : [.load, .regs, .evs] ⊆ l) : Only l s (t.writePorts i ms vs) := by
  refine Only.after (k := [.load, .regs, .evs]) h ?_ sub
  unfold State.writePorts
  repeat' first
    | decide | with_reducible apply Only.refl | extract_lets | with_reducible apply State.modChan_only | with_reducible apply State.setCore_only
    | split

theorem State.afterWord_only {l : List Part} {s t : State} {i : Nat} {pc : Nat} {slots : Nat} {len : Nat} {rte : Bool} (h : Only l s t) (sub : [.clk, .pace, .fab, .atlas, .par, .dbg, .load, .iso, .lgd, .regs, .evs, .bytes, .memc, .boot, .ilr, .ctl, .twin] ⊆ l) : OnlyP l s (t.afterWord i pc slots len rte) := by
  refine OnlyP.after (k := [.clk, .pace, .fab, .atlas, .par, .dbg, .load, .iso, .lgd, .regs, .evs, .bytes, .memc, .boot, .ilr, .ctl, .twin]) h ?_ sub
  unfold State.afterWord
  repeat' first
    | decide | with_reducible apply Only.refl | extract_lets
    | (with_reducible apply State.modCore_regs) <;> [skip; decide; (intro _; constructor <;> (repeat' split) <;> rfl)]
    | with_reducible apply State.transfer_only | with_reducible apply OnlyP.ite | with_reducible apply OnlyP.pair

theorem State.runMoves_only {l : List Part} {s t : State} {i : Nat} {ms : List Move} (h : Only l s t) (sub : [.clk, .pace, .fab, .atlas, .par, .dbg, .load, .iso, .ctr, .vlv, .light, .pwr, .lgd, .svy, .inp, .net, .agr, .acc, .regs, .evs, .bytes, .memc, .dma, .boot, .fw, .ilr, .ctl, .twin] ⊆ l) : Only l s (t.runMoves i ms) := by
  refine Only.after (k := [.clk, .pace, .fab, .atlas, .par, .dbg, .load, .iso, .ctr, .vlv, .light, .pwr, .lgd, .svy, .inp, .net, .agr, .acc, .regs, .evs, .bytes, .memc, .dma, .boot, .fw, .ilr, .ctl, .twin]) h ?_ sub
  unfold State.runMoves
  repeat' first
    | decide | with_reducible apply Only.refl | extract_lets | with_reducible apply Only.ite | with_reducible apply State.fire_only
    | with_reducible apply State.trapCore_only | with_reducible apply State.recordTrap_only | with_reducible apply State.afterWord_only
    | with_reducible apply State.writePorts_only | with_reducible refine Only.of_pair (by assumption) ?_ | split | with_reducible apply Only.foldl
    | intro _

theorem State.takeLate_only {l : List Part} {s t : State} {i : Nat} {code : Nat} {addr : Nat} (h : Only l s t) (sub : [.clk, .pace, .fab, .atlas, .par, .dbg, .load, .iso, .ctr, .vlv, .light, .pwr, .svy, .inp, .net, .agr, .acc, .regs, .evs, .bytes, .memc, .dma, .boot, .fw, .ctl, .twin] ⊆ l) : Only l s (t.takeLate i code addr) := by
  refine Only.after (k := [.clk, .pace, .fab, .atlas, .par, .dbg, .load, .iso, .ctr, .vlv, .light, .pwr, .svy, .inp, .net, .agr, .acc, .regs, .evs, .bytes, .memc, .dma, .boot, .fw, .ctl, .twin]) h ?_ sub
  unfold State.takeLate
  repeat' first
    | decide | with_reducible apply Only.refl | extract_lets
    | (with_reducible apply State.modCore_regs) <;> [skip; decide; (intro _; constructor <;> (repeat' split) <;> rfl)]
    | with_reducible apply State.trapCore_only

theorem State.issue_only {l : List Part} {s t : State} {i : Nat} (h : Only l s t) (sub : [.clk, .pace, .fab, .atlas, .par, .dbg, .load, .iso, .ctr, .vlv, .light, .pwr, .lgd, .svy, .inp, .net, .agr, .acc, .regs, .evs, .bytes, .memc, .dma, .boot, .fw, .ilr, .ctl, .twin] ⊆ l) : Only l s (t.issue i) := by
  refine Only.after (k := [.clk, .pace, .fab, .atlas, .par, .dbg, .load, .iso, .ctr, .vlv, .light, .pwr, .lgd, .svy, .inp, .net, .agr, .acc, .regs, .evs, .bytes, .memc, .dma, .boot, .fw, .ilr, .ctl, .twin]) h ?_ sub
  unfold State.issue
  repeat' first
    | decide | with_reducible apply Only.refl | extract_lets | with_reducible apply Only.ite
    | (with_reducible apply State.modCore_regs) <;> [skip; decide; (intro _; constructor <;> (repeat' split) <;> rfl)]
    | with_reducible apply State.debugHalt_only | with_reducible apply State.takeLate_only | with_reducible apply State.trapCore_only
    | with_reducible apply State.recordTrap_only | with_reducible apply State.fetchMoves_only | with_reducible apply State.runMoves_only
    | with_reducible refine Only.of_pair (by assumption) ?_ | split

theorem State.trigger_only {l : List Part} {s t : State} {i : Nat} {p : Nat} {v : Nat} {short : Bool} (h : Only l s t) (sub : [.clk, .pace, .fab, .atlas, .par, .dbg, .load, .iso, .ctr, .vlv, .light, .pwr, .lgd, .svy, .inp, .net, .agr, .acc, .regs, .evs, .bytes, .memc, .dma, .boot, .fw, .ilr, .ctl, .twin] ⊆ l) : Only l s (t.trigger i p v short) := by
  refine Only.after (k := [.clk, .pace, .fab, .atlas, .par, .dbg, .load, .iso, .ctr, .vlv, .light, .pwr, .lgd, .svy, .inp, .net, .agr, .acc, .regs, .evs, .bytes, .memc, .dma, .boot, .fw, .ilr, .ctl, .twin]) h ?_ sub
  unfold State.trigger
  repeat' first
    | decide | with_reducible apply Only.refl | extract_lets | with_reducible apply Only.ite | with_reducible apply State.fire_only
    | (with_reducible apply State.modCore_regs) <;> [skip; decide; (intro _; constructor <;> (repeat' split) <;> rfl)]
    | with_reducible apply State.trapCore_only | with_reducible apply State.recordTrap_only | split

/-! ### Machine/Ring.lean -/

theorem State.takeRec_only {l : List Part} {s t : State} {r : RingRec} (h : Only l s t) (sub : [.net] ⊆ l) : Only l s (t.takeRec r) := by
  refine Only.after (k := [.net]) h ?_ sub
  unfold State.takeRec
  repeat' first
    | decide | with_reducible apply Only.refl | extract_lets | with_reducible apply Only.ite | with_reducible apply State.modCan_only
    | with_reducible apply Only.put_net

theorem State.ringWrite_only {l : List Part} {s t : State} {a : Nat} {base : Nat} {size : Nat} {entry : List Byte} (h : Only l s t) (sub : [.atlas, .evs, .bytes, .memc, .ctl] ⊆ l) : Only l s (t.ringWrite a base size entry) := by
  refine Only.after (k := [.atlas, .evs, .bytes, .memc, .ctl]) h ?_ sub
  unfold State.ringWrite
  repeat' first
    | decide | with_reducible apply Only.refl | extract_lets | with_reducible apply Only.ite | with_reducible apply State.raiseEv_only
    | with_reducible apply State.loadBytes_only | with_reducible apply State.memWrite_only | with_reducible apply OnlyP.fst

theorem State.txDrop_only {l : List Part} {s t : State} {a : Nat} (h : Only l s t) (sub : [.regs] ⊆ l) : Only l s (t.txDrop a) := by
  refine Only.after (k := [.regs]) h ?_ sub
  unfold State.txDrop
  repeat' first
    | decide | with_reducible apply Only.refl | with_reducible apply State.modApplet_only

theorem State.txEntry_only {l : List Part} {s t : State} {a : Nat} {src : Nat} {body : List Byte} (h : Only l s t) (sub : [.net, .regs] ⊆ l) : Only l s (t.txEntry a src body) := by
  refine Only.after (k := [.net, .regs]) h ?_ sub
  unfold State.txEntry
  repeat' first
    | decide | with_reducible apply Only.refl | extract_lets | with_reducible apply Only.ite
    | with_reducible refine State.canQueue_only (by assumption) ?_ ?_ | with_reducible apply State.linPublish_only
    | with_reducible apply State.txDrop_only | split

/-! ### Machine/ParamWrite.lean -/

theorem State.appWritten_only {l : List Part} {s t : State} {s0 : State} {n : Nat} {off : Nat} {v : Nat} (h : Only l s t) (sub : [.atlas, .regs, .evs, .bytes, .ctl] ⊆ l) : Only l s (State.appWritten s0 t n off v) := by
  refine Only.after (k := [.atlas, .regs, .evs, .bytes, .ctl]) h ?_ sub
  unfold State.appWritten
  repeat' first
    | decide | with_reducible apply Only.refl | extract_lets | with_reducible apply Only.ite | with_reducible apply State.startApplet_only
    | with_reducible apply State.stopApplet_only

theorem State.storeEnt_only {l : List Part} {s t : State} {e : PEnt} (h : Only l s t) (sub : [.par, .memc] ⊆ l) : Only l s (t.storeEnt e) := by
  refine Only.after (k := [.par, .memc]) h ?_ sub
  unfold State.storeEnt
  repeat' first
    | decide | with_reducible apply Only.refl | extract_lets | with_reducible apply Only.ite | with_reducible apply State.memParWritten_only
    | with_reducible apply State.setPar_only

theorem State.written_only {l : List Part} {s t : State} {s0 : State} {e : PEnt} (h : Only l s t) (sub : [.pace, .fab, .atlas, .par, .dbg, .load, .iso, .vlv, .light, .pwr, .svy, .inp, .net, .agr, .acc, .regs, .evs, .bytes, .memc, .dma, .fw, .ilr, .ctl, .twin] ⊆ l) : Only l s (State.written s0 t e) := by
  refine Only.after (k := [.pace, .fab, .atlas, .par, .dbg, .load, .iso, .vlv, .light, .pwr, .svy, .inp, .net, .agr, .acc, .regs, .evs, .bytes, .memc, .dma, .fw, .ilr, .ctl, .twin]) h ?_ sub
  unfold State.written
  repeat' first
    | decide | with_reducible apply Only.refl | extract_lets | with_reducible apply Only.ite | with_reducible apply State.mxWritten_only
    | with_reducible apply State.memParWritten_only | with_reducible apply State.canWritten_only | with_reducible apply State.feWritten_only
    | with_reducible apply State.mrdWritten_only | with_reducible apply State.checkOver_only | with_reducible apply State.nsWritten_only
    | with_reducible apply State.svyWritten_only | with_reducible apply State.fwWritten_only | with_reducible apply State.ntcWritten_only
    | with_reducible apply State.compWritten_only | with_reducible apply State.ethWritten_only | with_reducible apply State.powerWritten_only
    | with_reducible apply State.modPace_only | with_reducible apply State.genWritten_only | with_reducible apply State.inputWritten_only
    | with_reducible apply State.chanWritten_only | with_reducible apply State.appWritten_only | with_reducible apply State.linWritten_only
    | with_reducible apply State.speWritten_only | with_reducible apply State.bankWritten_only | with_reducible apply State.twinWritten_only

theorem State.pairChanged_only {l : List Part} {s t : State} {s0 : State} (h : Only l s t) (sub : [.atlas, .evs, .ilr, .ctl] ⊆ l) : Only l s (State.pairChanged s0 t) := by
  refine Only.after (k := [.atlas, .evs, .ilr, .ctl]) h ?_ sub
  unfold State.pairChanged
  repeat' first
    | decide | with_reducible apply Only.refl | extract_lets | with_reducible apply Only.ite | with_reducible apply State.sendCtl_only
    | with_reducible apply State.watchOrStandby_only

theorem State.applySet_only {l : List Part} {s t : State} {stamp : Nat} {es : List PEnt} (h : Only l s t) (sub : [.pace, .fab, .atlas, .par, .dbg, .load, .iso, .vlv, .light, .pwr, .svy, .inp, .net, .agr, .acc, .regs, .evs, .bytes, .memc, .dma, .fw, .ilr, .ctl, .twin] ⊆ l) : Only l s (t.applySet stamp es) := by
  refine Only.after (k := [.pace, .fab, .atlas, .par, .dbg, .load, .iso, .vlv, .light, .pwr, .svy, .inp, .net, .agr, .acc, .regs, .evs, .bytes, .memc, .dma, .fw, .ilr, .ctl, .twin]) h ?_ sub
  unfold State.applySet
  repeat' first
    | decide | with_reducible apply Only.refl | extract_lets | with_reducible apply Only.ite | with_reducible apply State.storeEnt_only
    | with_reducible apply State.written_only | with_reducible apply State.sendCtlMsg_only | with_reducible apply State.pairChanged_only
    | with_reducible apply Only.foldl | intro _

theorem State.writeSet_only {l : List Part} {s t : State} {r : InReq} {ws : List ParWrite} (h : Only l s t) (sub : [.pace, .fab, .atlas, .par, .dbg, .load, .iso, .vlv, .light, .pwr, .svy, .inp, .net, .agr, .acc, .regs, .evs, .bytes, .memc, .dma, .fw, .ilr, .ctl, .twin] ⊆ l) : OnlyP l s (t.writeSet r ws) := by
  refine OnlyP.after (k := [.pace, .fab, .atlas, .par, .dbg, .load, .iso, .vlv, .light, .pwr, .svy, .inp, .net, .agr, .acc, .regs, .evs, .bytes, .memc, .dma, .fw, .ilr, .ctl, .twin]) h ?_ sub
  unfold State.writeSet
  repeat' first
    | decide | with_reducible apply Only.refl | extract_lets | with_reducible apply State.applySet_only | with_reducible apply State.powerRefused_only
    | split | with_reducible apply OnlyP.pair

theorem State.paramWrite_only {l : List Part} {s t : State} {q : Rq} {w : ParWrite} (h : Only l s t) (sub : [.pace, .fab, .atlas, .par, .dbg, .load, .iso, .vlv, .light, .pwr, .svy, .inp, .net, .agr, .acc, .regs, .evs, .bytes, .memc, .dma, .fw, .ilr, .ctl, .twin] ⊆ l) : Only l s (t.paramWrite q w) := by
  refine Only.after (k := [.pace, .fab, .atlas, .par, .dbg, .load, .iso, .vlv, .light, .pwr, .svy, .inp, .net, .agr, .acc, .regs, .evs, .bytes, .memc, .dma, .fw, .ilr, .ctl, .twin]) h ?_ sub
  unfold State.paramWrite
  repeat' first
    | decide | with_reducible apply Only.refl | extract_lets | with_reducible apply State.answer_only | with_reducible apply State.serve_only
    | with_reducible apply State.writeSet_only | with_reducible apply OnlyP.fst | intro _

/-! ### Machine/Atlas.lean -/

theorem State.flashWait_only {l : List Part} {s t : State} {h1 : Nat} (h : Only l s t) (sub : [.atlas] ⊆ l) : Only l s (t.flashWait h1) := by
  refine Only.after (k := [.atlas]) h ?_ sub
  unfold State.flashWait
  repeat' first
    | decide | with_reducible apply Only.refl | extract_lets | with_reducible apply Only.ite | with_reducible apply State.setWait_only

theorem State.cancelNow_only {l : List Part} {s t : State} {x : Hnd} (h : Only l s t) (sub : [.fab, .atlas, .load, .iso, .vlv, .light, .pwr, .svy, .inp, .net, .acc, .regs, .evs, .bytes, .fw, .ctl] ⊆ l) : Only l s (t.cancelNow x) := by
  refine Only.after (k := [.fab, .atlas, .load, .iso, .vlv, .light, .pwr, .svy, .inp, .net, .acc, .regs, .evs, .bytes, .fw, .ctl]) h ?_ sub
  unfold State.cancelNow
  repeat' first
    | decide | with_reducible apply Only.refl | extract_lets | with_reducible apply Only.ite | with_reducible apply State.modPwr_only
    | with_reducible apply State.dropJob_only | with_reducible apply State.complete_only | with_reducible apply State.dropSign_only
    | with_reducible apply State.valveOff_only | with_reducible apply State.endCmd_only | with_reducible apply State.raise_only
    | with_reducible apply State.forward_only | with_reducible apply State.accStop_only | with_reducible apply State.valveEnd_only
    | with_reducible apply State.abandonOn_only | with_reducible apply Only.put_fab

theorem State.cancelEnded_only {l : List Part} {s t : State} {x : Hnd} {st : Nat} {pl : List Byte} (h : Only l s t) (sub : [.atlas, .par, .load, .iso, .vlv, .acc, .evs, .ctl] ⊆ l) : OnlyP l s (t.cancelEnded x st pl) := by
  refine OnlyP.after (k := [.atlas, .par, .load, .iso, .vlv, .acc, .evs, .ctl]) h ?_ sub
  unfold State.cancelEnded
  repeat' first
    | decide | with_reducible apply Only.refl | extract_lets | with_reducible apply Only.ite | with_reducible apply State.valveOff_only
    | with_reducible apply State.forward_only | with_reducible apply State.revoke_only | with_reducible apply State.abandonOn_only
    | with_reducible apply OnlyP.ite | split | with_reducible apply OnlyP.pair

theorem State.sendKept_only {l : List Part} {s t : State} {ses : Nat} {org : Nat} {mask : Nat} (h : Only l s t) (sub : [.atlas, .evs, .ctl] ⊆ l) : Only l s (t.sendKept ses org mask) := by
  refine Only.after (k := [.atlas, .evs, .ctl]) h ?_ sub
  unfold State.sendKept
  repeat' first
    | decide | with_reducible apply Only.refl | extract_lets | with_reducible apply State.eventTo_only | with_reducible apply Only.foldl
    | with_reducible apply Only.put_atlas | intro _

/-! ### Rows that write one register -/

/-- A 32-bit register write outside the buffer windows changes what the register's own write changes, and the error record. -/
theorem State.regCmd_word {l : List Part} {s t : State} {ini : Initiator} {a v : Nat} (h : Only l s t) (sub : [.fab, .dbg, .regs] ⊆ l)
    (ha : a % 4 = 0) (hb : ¬ (a / 0x10000 = 0x4000 ∧ 0x4000 ≤ a % 0x10000)) (hw : ∀ v, OnlyP l t (t.regWrite32 ini a v)) :
    Only l s (t.regCmd ini a 4 v) := by
  refine h.after (k := l) ?_ (fun _ h => h)
  unfold State.regCmd
  split
  · exact Only.refl _ _
  · have key : OnlyP l t (t.regWrite ini a 4 v) := by
      have e3 : a / 4 * 4 = a := by omega
      unfold State.regWrite
      split
      · exact OnlyP.pair (Only.refl _ _)
      · rw [if_neg (by simpa using hb), if_neg (by decide)]
        unfold State.regWritePart
        extract_lets b
        split
        · exact OnlyP.pair (Only.refl _ _)
        · have e4 : b = a := e3
          rw [e4]
          exact hw _
    split
    rename_i e
    have hs := Only.of_pair e key
    split
    · exact hs
    · exact State.accessErr_only hs sub

/-- A register of a session's record is written by the session's own write. -/
theorem State.regCmd_ses {l : List Part} {s t : State} {ini : Initiator} {i : Fin 4} {r v : Nat} (h : Only l s t)
    (sub : [.fab, .dbg, .regs] ⊆ l) (hr : r < 0x40) (h4 : r % 4 = 0) (hw : ∀ u v, OnlyP l t (t.sesWrite i u r v)) :
    Only l s (t.regCmd ini (sesAddr i r) 4 v) := by
  have e1 : sesAddr i r / 0x10000 = 0x4000 := by unfold sesAddr; omega
  have e2 : sesAddr i r % 0x10000 = 0x100 + 0x40 * i + r := by unfold sesAddr; omega
  refine State.regCmd_word h sub (by unfold sesAddr; omega) (by omega) (fun v => ?_)
  unfold State.regWrite32
  extract_lets off
  have e6 : (off - 0x100) / 0x40 = i := by omega
  have e7 : off % 0x40 = r := by omega
  rw [if_pos e1, if_neg (by omega), if_pos (by simp; omega), e6, e7]
  exact hw _ _

/-- MBX_CLAIM changes the session alone, and the error record. -/
theorem State.regCmd_claim {l : List Part} {s t : State} {ini : Initiator} {i : Fin 4} {v : Nat} (h : Only l s t)
    (sub : [.fab, .atlas, .dbg, .regs] ⊆ l) : Only l s (t.regCmd ini (sesAddr i 8) 4 v) := by
  refine State.regCmd_ses h (fun _ hp => sub (by revert hp; simp; tauto)) (by decide) (by decide) (fun u v => ?_)
  have hs : [Part.atlas] ⊆ l := fun _ hp => sub (by revert hp; simp; tauto)
  unfold State.sesWrite
  split
  · exact OnlyP.pair (Only.refl _ _)
  · rw [if_neg (by decide), if_neg (by decide), if_pos rfl]
    exact OnlyP.pair (Only.ite (State.mbxClaim_only (Only.refl _ _) hs) (Only.refl _ _))

/-- MBX_REQ_LEN changes the session alone, and the error record. -/
theorem State.regCmd_len {l : List Part} {s t : State} {ini : Initiator} {i : Fin 4} {v : Nat} (h : Only l s t)
    (sub : [.fab, .atlas, .dbg, .regs] ⊆ l) : Only l s (t.regCmd ini (sesAddr i 4) 4 v) := by
  refine State.regCmd_ses h (fun _ hp => sub (by revert hp; simp; tauto)) (by decide) (by decide) (fun u v => ?_)
  have hs : [Part.atlas] ⊆ l := fun _ hp => sub (by revert hp; simp; tauto)
  unfold State.sesWrite
  split
  · exact OnlyP.pair (Only.refl _ _)
  · rw [if_neg (by decide), if_pos rfl]
    exact State.mbxLen_only (Only.refl _ _) hs

/-- MBX_IRQ_STAT changes the session alone, and the error record. -/
theorem State.regCmd_irq {l : List Part} {s t : State} {ini : Initiator} {i : Fin 4} {v : Nat} (h : Only l s t)
    (sub : [.fab, .atlas, .dbg, .regs] ⊆ l) : Only l s (t.regCmd ini (sesAddr i 0x1C) 4 v) := by
  refine State.regCmd_ses h (fun _ hp => sub (by revert hp; simp; tauto)) (by decide) (by decide) (fun u v => ?_)
  have hs : [Part.atlas] ⊆ l := fun _ hp => sub (by revert hp; simp; tauto)
  unfold State.sesWrite
  split
  · exact OnlyP.pair (Only.refl _ _)
  · rw [if_neg (by decide), if_neg (by decide), if_neg (by decide), if_neg (by decide), if_neg (by decide), if_pos rfl]
    exact OnlyP.pair (State.mbxIrqClear_only (Only.refl _ _) hs)

/-- A register of a session's record changes the session, what its interrupt raises, and the error record. -/
theorem State.regCmd_record {l : List Part} {s t : State} {ini : Initiator} {i : Fin 4} {r v : Nat} (h : Only l s t)
    (sub : [.fab, .atlas, .dbg, .regs, .evs, .ctl] ⊆ l) (hr : r < 0x40) (h4 : r % 4 = 0) : Only l s (t.regCmd ini (sesAddr i r) 4 v) := by
  refine State.regCmd_ses h (fun _ hp => sub (by revert hp; simp; tauto)) hr h4 (fun u v => ?_)
  exact State.sesWrite_only (Only.refl _ _) (fun _ hp => sub (by revert hp; simp; tauto))

/-- MBX_CTRL changes the sessions alone, and the error record. -/
theorem State.regCmd_clear {l : List Part} {s t : State} {ini : Initiator} {v : Nat} (h : Only l s t)
    (sub : [.fab, .atlas, .dbg, .regs] ⊆ l) : Only l s (t.regCmd ini 0x40000000 4 v) := by
  refine State.regCmd_word h (fun _ hp => sub (by revert hp; simp; tauto)) (by decide) (by decide) (fun v => ?_)
  have hs : [Part.atlas] ⊆ l := fun _ hp => sub (by revert hp; simp; tauto)
  unfold State.regWrite32
  extract_lets off
  rw [if_pos (by decide), if_pos (by decide)]
  exact OnlyP.pair (State.mbxClear_only (Only.refl _ _) hs)

/-- DBG_CTRL changes the DBG block alone, and the error record. -/
theorem State.regCmd_dbg {l : List Part} {s t : State} {ini : Initiator} {v : Nat} (h : Only l s t)
    (sub : [.fab, .dbg, .regs] ⊆ l) : Only l s (t.regCmd ini 0x4003000C 4 v) := by
  refine State.regCmd_word h sub (by decide) (by decide) (fun v => ?_)
  have hs : [Part.dbg] ⊆ l := fun _ hp => sub (by revert hp; simp; tauto)
  unfold State.regWrite32
  extract_lets off
  rw [if_neg (by decide), if_neg (by decide), if_pos (by decide), if_pos (by decide)]
  have hu : Only l t (if v.testBit 0 = true then t.dbgClrRecord else t) := Only.ite (State.dbgClrRecord_only (Only.refl _ _) hs) (Only.refl _ _)
  exact OnlyP.pair (Only.ite (State.dbgClrCounts_only hu hs) hu)

/-- A register of DBG_CORE_n changes the core, what its halt drops, and the error record. -/
theorem State.regCmd_core {l : List Part} {s t : State} {ini : Initiator} {k : Fin 5} {v : Nat} (h : Only l s t)
    (sub : [.fab, .atlas, .dbg, .regs, .evs, .ctl] ⊆ l) : Only l s (t.regCmd ini (0x40030100 + 0x20 * k) 4 v) := by
  refine State.regCmd_word h (fun _ hp => sub (by revert hp; simp; tauto)) (by omega) (by omega) (fun v => ?_)
  have hs : [Part.atlas, Part.dbg, Part.regs, Part.evs, Part.ctl] ⊆ l := fun _ hp => sub (by revert hp; simp; tauto)
  unfold State.regWrite32
  extract_lets off
  rw [if_neg (by omega), if_neg (by omega), if_pos (by omega), if_neg (by omega), if_pos (by omega)]
  exact State.dbgCoreWrite_only (Only.refl _ _) hs

end Sys2Proof.Machine
end

