-- ==== Sys2Proof/Laws/Canon.lean ====
section
/-!
SUPPORT. The canonical form is kept: every operation, given a state whose lists of bytes, check bits, working and stored values rise strictly,
answers one whose lists do.
-/
namespace Sys2Proof.Machine

set_option linter.unusedTactic false
set_option linter.unreachableTactic false

/-- An operation that changes neither the bytes of the memories nor the parameters keeps the form. -/
theorem Only.canon {l : List Part} {s t : State} (h : Only l s t) (hb : .bytes ∉ l) (hp : .par ∉ l) (c : s.Canon) : t.Canon := by
  have h1 := h.same .bytes hb
  have h2 := h.same .par hp
  simp only [Part.same] at h1 h2
  unfold State.Canon Mem.wf at *
  rw [h1.1, h1.2.1, h2]
  exact c

theorem State.Canon.ite {t u : State} {c : Prop} [Decidable c] (h : t.Canon) (k : u.Canon) : (if c then t else u).Canon := by
  split <;> assumption

theorem State.Canon.foldl {α : Type} {t : State} {f : State → α → State} {xs : List α} (h : t.Canon)
    (k : ∀ t x, t.Canon → (f t x).Canon) : (xs.foldl f t).Canon := by
  induction xs generalizing t with
  | nil => exact h
  | cons x xs ih => exact ih (k t x h)

/-- The same of an operation that answers more than a state. -/
structure CanonP {α : Type} (x : State × α) : Prop where
  fst : x.1.Canon
theorem CanonP.pair {α : Type} {t : State} {x : α} (h : t.Canon) : CanonP (t, x) := ⟨h⟩
theorem State.Canon.fst {α : Type} {x : State × α} (h : CanonP x) : x.1.Canon := h.fst
theorem State.Canon.of_pair {α : Type} {t : State} {x : α} {e : State × α} (q : e = (t, x)) (h : CanonP e) : t.Canon := by
  subst q; exact h.fst
theorem CanonP.ite {α : Type} {t u : State × α} {c : Prop} [Decidable c] (h : CanonP t) (k : CanonP u) : CanonP (if c then t else u) := by
  split <;> assumption
theorem CanonP.foldl {α β : Type} {p : State × α} {f : State × α → β → State × α} {xs : List β} (h : CanonP p)
    (k : ∀ q x, q.1.Canon → CanonP (f q x)) : CanonP (xs.foldl f p) := by
  induction xs generalizing p with
  | nil => exact h
  | cons x xs ih => exact ih (k p x h.fst)

/-- A record update that leaves the lists. -/
theorem State.Canon.upd {t : State} {a0 a1 a2 a3 a4 a5 a6 a7 a8 a9 a10 a11 a12 a13 a14 a15 a16 a17 a18 a19 a20 a21 a22 a23 a24}
    (h : t.Canon) (h1 : a19.cells = t.mem.cells) (h2 : a19.chk = t.mem.chk) (h3 : a4 = t.par) :
    State.Canon ⟨a0, a1, a2, a3, a4, a5, a6, a7, a8, a9, a10, a11, a12, a13, a14, a15, a16, a17, a18, a19, a20, a21, a22, a23, a24, t.pending⟩ := by
  unfold State.Canon Mem.wf at *
  simp only [h1, h2, h3]
  exact h

/-- The update that changes nothing. -/
theorem State.Canon.eta {t : State} (h : t.Canon) : State.Canon ⟨t.clk, t.pace, t.fab, t.atlas, t.par, t.dbg, t.load, t.iso, t.ctr, t.vlv, t.light, t.pwr, t.lgd, t.svy, t.inp, t.net, t.agr, t.acc, t.xi, t.mem, t.dma, t.boot, t.fw, t.il, t.twin, t.pending⟩ := h

/-- A command answers a next state in the canonical form. -/
inductive CEnds : Host.Outcome State Fault Refusal → Prop where
  | next {t : State} (h : t.Canon) : CEnds (.next t)
theorem CEnds.ite {a b : Host.Outcome State Fault Refusal} {c : Prop} [Decidable c] (h : CEnds a) (k : CEnds b) :
    CEnds (if c then a else b) := by
  split <;> assumption

/-! ### Machine/Operands.lean -/

theorem State.setPar_canon {t : State} {id idx v : Nat} (h : t.Canon) : (t.setPar id idx v).Canon := by
  obtain ⟨h1, h2, h3, h4⟩ := h
  refine ⟨h1, h2, ?_, h4⟩
  simp only [State.setPar]
  split
  · exact rising_kvDel h3
  · exact rising_kvPut h3

theorem State.setStored_canon {t : State} {id idx v : Nat} (h : t.Canon) : (t.setStored id idx v).Canon := by
  obtain ⟨h1, h2, h3, h4⟩ := h
  refine ⟨h1, h2, h3, ?_⟩
  simp only [State.setStored]
  split
  · exact rising_kvDel h4
  · exact rising_kvPut h4

theorem State.setPf_canon {t : State} {x : ParField} {i : Nat} {k : Nat} {v : Nat} (h : t.Canon) : (t.setPf x i k v).Canon := by
  unfold State.setPf
  repeat' first
    | with_reducible assumption | with_reducible apply State.setPar_canon

theorem State.setChan_canon {t : State} {n : Nat} {c : Chan} (h : t.Canon) : (t.setChan n c).Canon := 
  Only.canon (State.setChan_only (Only.refl _ t) (fun _ h => h)) (by decide) (by decide) h

theorem State.modChan_canon {t : State} {n : Nat} {f : Chan → Chan} (h : t.Canon) : (t.modChan n f).Canon := 
  Only.canon (State.modChan_only (Only.refl _ t) (fun _ h => h)) (by decide) (by decide) h

theorem State.setComp_canon {t : State} {k : Nat} {c : Comp} (h : t.Canon) : (t.setComp k c).Canon := 
  Only.canon (State.setComp_only (Only.refl _ t) (fun _ h => h)) (by decide) (by decide) h

theorem State.setGen_canon {t : State} {g : Nat} {x : Gen} (h : t.Canon) : (t.setGen g x).Canon := 
  Only.canon (State.setGen_only (Only.refl _ t) (fun _ h => h)) (by decide) (by decide) h

theorem State.setDie_canon {t : State} {d : Nat} {x : Die} (h : t.Canon) : (t.setDie d x).Canon := 
  Only.canon (State.setDie_only (Only.refl _ t) (fun _ h => h)) (by decide) (by decide) h

/-! ### Machine/Ops.lean -/

theorem State.pass_canon {t : State} {g : Lapse} (h : t.Canon) : (t.pass g).Canon := Only.canon (State.pass_only (Only.refl _ t) (fun _ h => h)) (by decide) (by decide) h

theorem State.modSes_canon {t : State} {i : Nat} {f : SesRec → SesRec} (h : t.Canon) : (t.modSes i f).Canon := 
  Only.canon (State.modSes_only (Only.refl _ t) (fun _ h => h)) (by decide) (by decide) h

theorem State.sendCtlMsg_canon {t : State} {m : CtlMsg} (h : t.Canon) : (t.sendCtlMsg m).Canon := 
  Only.canon (State.sendCtlMsg_only (Only.refl _ t) (fun _ h => h)) (by decide) (by decide) h

theorem State.sendCtl_canon {t : State} {kind : Nat} {value : Nat} (h : t.Canon) : (t.sendCtl kind value).Canon := 
  Only.canon (State.sendCtl_only (Only.refl _ t) (fun _ h => h)) (by decide) (by decide) h

theorem State.raiseEv_canon {t : State} {i b : Nat} (h : t.Canon) : (t.raiseEv i b).Canon := Only.canon (State.raiseEv_only (Only.refl _ t) (fun _ h => h)) (by decide) (by decide) h

theorem State.dieEvent_canon {t : State} {n b : Nat} (h : t.Canon) : (t.dieEvent n b).Canon := Only.canon (State.dieEvent_only (Only.refl _ t) (fun _ h => h)) (by decide) (by decide) h

theorem State.mbxEvent_canon {t : State} {ses : Nat} (h : t.Canon) : (t.mbxEvent ses).Canon := 
  Only.canon (State.mbxEvent_only (Only.refl _ t) (fun _ h => h)) (by decide) (by decide) h

theorem State.sendTo_canon {t : State} {ses : Nat} {iface : Nat} {dst : Nat} {port : Nat} {m : Msg} (h : t.Canon) : (t.sendTo ses iface dst port m).Canon := 
  Only.canon (State.sendTo_only (Only.refl _ t) (fun _ h => h)) (by decide) (by decide) h

theorem State.sendPeer_canon {t : State} {ses : Nat} {m : Msg} (h : t.Canon) : (t.sendPeer ses m).Canon := 
  Only.canon (State.sendPeer_only (Only.refl _ t) (fun _ h => h)) (by decide) (by decide) h

theorem State.mapSent_canon {t : State} {f : Msg → Msg} {done : Nat → List Byte → List Byte} (h : t.Canon) : (t.mapSent f done).Canon := 
  Only.canon (State.mapSent_only (Only.refl _ t) (fun _ h => h)) (by decide) (by decide) h

theorem State.lowerCode_canon {t : State} {cls : Nat} {op : Nat} {units : List Nat} {old : Nat} {new : Nat} (h : t.Canon) : (t.lowerCode cls op units old new).Canon := 
  Only.canon (State.lowerCode_only (Only.refl _ t) (fun _ h => h)) (by decide) (by decide) h

theorem State.eventTo_canon {t : State} {e : Ev} {ses : Nat} {org : Nat} (h : t.Canon) : (t.eventTo e ses org).Canon := 
  Only.canon (State.eventTo_only (Only.refl _ t) (fun _ h => h)) (by decide) (by decide) h

theorem State.emitAt_canon {t : State} {cls : Nat} {unit : Nat} {code : Nat} {stamp : Nat} {detail : List Byte} (h : t.Canon) : (t.emitAt cls unit code stamp detail).Canon := 
  Only.canon (State.emitAt_only (Only.refl _ t) (fun _ h => h)) (by decide) (by decide) h

theorem State.emit_canon {t : State} {cls : Nat} {unit : Nat} {code : Nat} {detail : List Byte} (h : t.Canon) : (t.emit cls unit code detail).Canon := 
  Only.canon (State.emit_only (Only.refl _ t) (fun _ h => h)) (by decide) (by decide) h

theorem State.keepAt_canon {t : State} {cls : Nat} {unit : Nat} {code : Nat} {stamp : Nat} {detail : List Byte} (h : t.Canon) : (t.keepAt cls unit code stamp detail).Canon := 
  Only.canon (State.keepAt_only (Only.refl _ t) (fun _ h => h)) (by decide) (by decide) h

theorem State.keep_canon {t : State} {cls : Nat} {unit : Nat} {code : Nat} {detail : List Byte} (h : t.Canon) : (t.keep cls unit code detail).Canon := 
  Only.canon (State.keep_only (Only.refl _ t) (fun _ h => h)) (by decide) (by decide) h

theorem State.pairEvent_canon {t : State} {unit : Nat} {code : Nat} {value : Nat} (h : t.Canon) : (t.pairEvent unit code value).Canon := 
  Only.canon (State.pairEvent_only (Only.refl _ t) (fun _ h => h)) (by decide) (by decide) h

theorem State.pairErr_canon {t : State} {b : Nat} (h : t.Canon) : (t.pairErr b).Canon := 
  Only.canon (State.pairErr_only (Only.refl _ t) (fun _ h => h)) (by decide) (by decide) h

theorem State.fabErr_canon {t : State} {code : Nat} {port : Nat} {addr : Nat} (h : t.Canon) : (t.fabErr code port addr).Canon := 
  Only.canon (State.fabErr_only (Only.refl _ t) (fun _ h => h)) (by decide) (by decide) h

theorem State.portErr_canon {t : State} {code : Nat} {port : Nat} {addr : Nat} (h : t.Canon) : (t.portErr code port addr).Canon := 
  Only.canon (State.portErr_only (Only.refl _ t) (fun _ h => h)) (by decide) (by decide) h

theorem State.lateErr_canon {t : State} {i code addr : Nat} (h : t.Canon) : (t.lateErr i code addr).Canon :=
  Only.canon (State.lateErr_only (Only.refl _ t) (fun _ h => h)) (by decide) (by decide) h

theorem State.accessErr_canon {t : State} {ini : Initiator} {code : Nat} {addr : Nat} (h : t.Canon) : (t.accessErr ini code addr).Canon := 
  Only.canon (State.accessErr_only (Only.refl _ t) (fun _ h => h)) (by decide) (by decide) h

theorem State.hostWrite_canon {t : State} {ini : Initiator} {addr : Nat} {k : State → State} (h : t.Canon)
    (hk : ∀ u, u.Canon → (k u).Canon) : (t.hostWrite ini addr k).Canon := by
  unfold State.hostWrite
  repeat' first
    | exact h | exact State.accessErr_canon h | exact hk _ h | split

theorem State.openWrite_canon {t : State} {ini : Initiator} {addr : Nat} {k : State → State} (h : t.Canon)
    (hk : ∀ u, u.Canon → (k u).Canon) : (t.openWrite ini addr k).Canon := by
  unfold State.openWrite
  repeat' first
    | exact h | exact State.accessErr_canon h | exact hk _ h | split

theorem State.superWrite_canon {t : State} {ini : Initiator} {addr : Nat} {k : State → State} (h : t.Canon)
    (hk : ∀ u, u.Canon → (k u).Canon) : (t.superWrite ini addr k).Canon := by
  unfold State.superWrite
  repeat' first
    | exact h | exact State.accessErr_canon h | exact hk _ h | split

theorem State.answer_canon {t : State} {r : InReq} {status : Nat} {handle : Nat} {payload : List Byte} (h : t.Canon) : (t.answer r status handle payload).Canon := 
  Only.canon (State.answer_only (Only.refl _ t) (fun _ h => h)) (by decide) (by decide) h

theorem State.touch_canon {t : State} {ses : Nat} (h : t.Canon) : (t.touch ses).Canon := 
  Only.canon (State.touch_only (Only.refl _ t) (fun _ h => h)) (by decide) (by decide) h

theorem State.dropClaim_canon {t : State} {ses : Nat} (h : t.Canon) : (t.dropClaim ses).Canon := 
  Only.canon (State.dropClaim_only (Only.refl _ t) (fun _ h => h)) (by decide) (by decide) h

theorem State.accept_canon {t : State} {r : InReq} {unit : Nat} (h : t.Canon) : CanonP (t.accept r unit) := 
  ⟨Only.canon (State.accept_only (Only.refl _ t) (fun _ h => h)).fst (by decide) (by decide) h⟩

theorem State.modHandle_canon {t : State} {num : Nat} {f : Hnd → Hnd} (h : t.Canon) : (t.modHandle num f).Canon := 
  Only.canon (State.modHandle_only (Only.refl _ t) (fun _ h => h)) (by decide) (by decide) h

theorem State.freeHandle_canon {t : State} {num : Nat} (h : t.Canon) : (t.freeHandle num).Canon := 
  Only.canon (State.freeHandle_only (Only.refl _ t) (fun _ h => h)) (by decide) (by decide) h

theorem State.finish_canon {t : State} {num : Nat} {tick : Nat} {status : Nat} {payload : List Byte} (h : t.Canon) : (t.finish num tick status payload).Canon := 
  Only.canon (State.finish_only (Only.refl _ t) (fun _ h => h)) (by decide) (by decide) h

theorem State.complete_canon {t : State} {num : Nat} {status : Nat} {payload : List Byte} (h : t.Canon) : (t.complete num status payload).Canon := 
  Only.canon (State.complete_only (Only.refl _ t) (fun _ h => h)) (by decide) (by decide) h

theorem State.setWait_canon {t : State} {num : Nat} {w : Nat} (h : t.Canon) : (t.setWait num w).Canon := 
  Only.canon (State.setWait_only (Only.refl _ t) (fun _ h => h)) (by decide) (by decide) h

theorem State.setProgress_canon {t : State} {num : Nat} {p : Nat} (h : t.Canon) : (t.setProgress num p).Canon := 
  Only.canon (State.setProgress_only (Only.refl _ t) (fun _ h => h)) (by decide) (by decide) h

theorem State.consume_canon {t : State} {ses : Nat} (h : t.Canon) : (t.consume ses).Canon := 
  Only.canon (State.consume_only (Only.refl _ t) (fun _ h => h)) (by decide) (by decide) h

theorem State.discard_canon {t : State} {ses : Nat} {chk : Nat} (h : t.Canon) : (t.discard ses chk).Canon := 
  Only.canon (State.discard_only (Only.refl _ t) (fun _ h => h)) (by decide) (by decide) h

theorem State.serveOne_canon {t : State} {r : InReq} {k : InReq → State → State} (h : t.Canon) (hk : ∀ r u, u.Canon → (k r u).Canon) :
    (t.serveOne r k).Canon := by
  unfold State.serveOne
  split
  · exact State.sendTo_canon (State.modSes_canon h)
  · split
    · exact State.answer_canon h
    · exact hk _ _ h

theorem State.takeOut_canon {t : State} {r : InReq} (h : t.Canon) : (t.takeOut r).Canon := 
  Only.canon (State.takeOut_only (Only.refl _ t) (fun _ h => h)) (by decide) (by decide) h

theorem State.drain_canon {t : State} {x0 : Nat} (h : t.Canon) : (State.drain x0 t).Canon := 
  Only.canon (State.drain_only (Only.refl _ t) (fun _ h => h)) (by decide) (by decide) h

theorem State.settleEnded_canon {t : State} (h : t.Canon) : (t.settleEnded).Canon := 
  Only.canon (State.settleEnded_only (Only.refl _ t) (fun _ h => h)) (by decide) (by decide) h

theorem State.drained_canon {t : State} (h : t.Canon) : (t.drained).Canon := 
  Only.canon (State.drained_only (Only.refl _ t) (fun _ h => h)) (by decide) (by decide) h

theorem State.serve_canon {t : State} {q : Rq} {op handle : Nat} {payload : List Byte} {k : InReq → State → State} (h : t.Canon)
    (hk : ∀ r u, u.Canon → (k r u).Canon) : (t.serve q op handle payload k).Canon := by
  unfold State.serve
  split
  · exact h
  · split
    · extract_lets r
      split
      · exact h
      · exact State.serveOne_canon (State.touch_canon h) hk
    · split
      · exact h
      · split
        · exact State.drained_canon (State.serveOne_canon (State.takeOut_canon h) hk)
        · exact h

theorem State.deliver_canon {t : State} {ses : Nat} {org : Nat} {bs : List Byte} {iface : Nat} {src : Nat} {sport : Nat} (h : t.Canon) : (t.deliver ses org bs iface src sport).Canon := 
  Only.canon (State.deliver_only (Only.refl _ t) (fun _ h => h)) (by decide) (by decide) h

/-! ### Machine/Access.lean -/

theorem State.modAcc_canon {t : State} {f : Access → Access} (h : t.Canon) : (t.modAcc f).Canon := 
  Only.canon (State.modAcc_only (Only.refl _ t) (fun _ h => h)) (by decide) (by decide) h

theorem State.modTok_canon {t : State} {i : Nat} {f : Token → Token} (h : t.Canon) : (t.modTok i f).Canon := 
  Only.canon (State.modTok_only (Only.refl _ t) (fun _ h => h)) (by decide) (by decide) h

theorem State.modLf_canon {t : State} {k : Nat} {f : Aerial → Aerial} (h : t.Canon) : (t.modLf k f).Canon := 
  Only.canon (State.modLf_only (Only.refl _ t) (fun _ h => h)) (by decide) (by decide) h

theorem State.modFe_canon {t : State} {k : Nat} {f : FrontEnd → FrontEnd} (h : t.Canon) : (t.modFe k f).Canon := 
  Only.canon (State.modFe_only (Only.refl _ t) (fun _ h => h)) (by decide) (by decide) h

theorem State.modRound_canon {t : State} {f : Round → Round} (h : t.Canon) : (t.modRound f).Canon := 
  Only.canon (State.modRound_only (Only.refl _ t) (fun _ h => h)) (by decide) (by decide) h

theorem State.draw_canon {t : State} (h : t.Canon) : CanonP (t.draw) := 
  ⟨Only.canon (State.draw_only (Only.refl _ t) (fun _ h => h)).fst (by decide) (by decide) h⟩

theorem State.accEvent_canon {t : State} {unit : Nat} {code : Nat} {value : Nat} {zone : Nat} (h : t.Canon) : (t.accEvent unit code value zone).Canon := 
  Only.canon (State.accEvent_only (Only.refl _ t) (fun _ h => h)) (by decide) (by decide) h

theorem State.accFail_canon {t : State} (h : t.Canon) : CanonP (t.accFail) := 
  ⟨Only.canon (State.accFail_only (Only.refl _ t) (fun _ h => h)).fst (by decide) (by decide) h⟩

theorem State.endLock_canon {t : State} {value : Nat} (h : t.Canon) : (t.endLock value).Canon := 
  Only.canon (State.endLock_only (Only.refl _ t) (fun _ h => h)) (by decide) (by decide) h

theorem State.dropEnrol_canon {t : State} {c : AccCmd} (h : t.Canon) : (t.dropEnrol c).Canon := 
  Only.canon (State.dropEnrol_only (Only.refl _ t) (fun _ h => h)) (by decide) (by decide) h

theorem State.accNext_canon {t : State} {x0 : Nat} (h : t.Canon) : (State.accNext x0 t).Canon := 
  Only.canon (State.accNext_only (Only.refl _ t) (fun _ h => h)) (by decide) (by decide) h

theorem State.accEndAt_canon {t : State} {t1 : Nat} {status : Nat} {code : Nat} {ch : Option AccRes} {res : List AccRes} {blocks : List Nat} (h : t.Canon) : (t.accEndAt t1 status code ch res blocks).Canon := 
  Only.canon (State.accEndAt_only (Only.refl _ t) (fun _ h => h)) (by decide) (by decide) h

theorem State.accEnd_canon {t : State} {status : Nat} {code : Nat} {ch : Option AccRes} {res : List AccRes} {blocks : List Nat} (h : t.Canon) : (t.accEnd status code ch res blocks).Canon := 
  Only.canon (State.accEnd_only (Only.refl _ t) (fun _ h => h)) (by decide) (by decide) h

theorem State.accDue_canon {t : State} (h : t.Canon) : (t.accDue).Canon := 
  Only.canon (State.accDue_only (Only.refl _ t) (fun _ h => h)) (by decide) (by decide) h

theorem State.accCmd_canon {t : State} {q : Rq} {cmd : Nat} {c : AccessCmd} {data : List Byte} {tid keywrap first count : Nat}
    {act : Option (State → State)} (h : t.Canon) (ha : ∀ f, act = some f → ∀ u, u.Canon → (f u).Canon) :
    (t.accCmd q cmd c data tid keywrap first count act).Canon := by
  refine State.serve_canon (State.accDue_canon h) (fun r u hu => ?_)
  split
  · exact State.answer_canon hu
  · split
    · exact State.Canon.of_pair (by assumption) (State.accept_canon hu)
    · extract_lets dl x
      split
      · exact State.complete_canon (ha _ rfl _ (State.Canon.of_pair (by assumption) (State.accept_canon hu)))
      · exact State.accNext_canon (State.modAcc_canon (State.Canon.of_pair (by assumption) (State.accept_canon hu)))

theorem State.revoke_canon {t : State} {slot : Nat} (h : t.Canon) : (t.revoke slot).Canon := by
  unfold State.revoke
  repeat' first
    | with_reducible assumption | extract_lets | with_reducible apply State.accEvent_canon | with_reducible apply State.modRound_canon
    | with_reducible apply State.modTok_canon | with_reducible apply State.setStored_canon

theorem State.tuned_canon {t : State} {k : Nat} {tune : Nat} (h : t.Canon) : (t.tuned k tune).Canon := by
  unfold State.tuned
  repeat' first
    | with_reducible assumption | extract_lets | with_reducible apply State.Canon.ite | with_reducible apply State.accEvent_canon
    | with_reducible apply State.setPf_canon | with_reducible apply State.setStored_canon | with_reducible apply State.modLf_canon

theorem State.aerialSeen_canon {t : State} {k : Nat} {ilf : Nat} {ma : Nat} {short : Bool} (h : t.Canon) : (t.aerialSeen k ilf ma short).Canon := 
  Only.canon (State.aerialSeen_only (Only.refl _ t) (fun _ h => h)) (by decide) (by decide) h

theorem State.keepLast_canon {t : State} {r : Round} (h : t.Canon) : (t.keepLast r).Canon := 
  Only.canon (State.keepLast_only (Only.refl _ t) (fun _ h => h)) (by decide) (by decide) h

theorem State.lockStop_canon {t : State} (h : t.Canon) : (t.lockStop).Canon := 
  Only.canon (State.lockStop_only (Only.refl _ t) (fun _ h => h)) (by decide) (by decide) h

theorem State.checkSlot_canon {t : State} {p : Nat × SlotObs} (h : t.Canon) : (t.checkSlot p).Canon := 
  Only.canon (State.checkSlot_only (Only.refl _ t) (fun _ h => h)) (by decide) (by decide) h

theorem State.roundDone_canon {t : State} (h : t.Canon) : (t.roundDone).Canon := by
  unfold State.roundDone
  repeat' first
    | with_reducible assumption | extract_lets | with_reducible apply State.Canon.ite | with_reducible apply State.accEvent_canon
    | with_reducible apply State.accEnd_canon | with_reducible apply State.keepLast_canon | with_reducible apply State.modTok_canon
    | with_reducible apply State.setStored_canon | with_reducible apply State.dropEnrol_canon | split

theorem State.nextExch_canon {t : State} {t1 : Nat} (h : t.Canon) : (t.nextExch t1).Canon := by
  unfold State.nextExch
  repeat' first
    | with_reducible assumption | with_reducible apply State.modRound_canon | with_reducible apply State.roundDone_canon | split

theorem State.resumeExch_canon {t : State} (h : t.Canon) : (t.resumeExch).Canon := by
  unfold State.resumeExch
  repeat' first
    | with_reducible assumption | extract_lets | with_reducible apply State.Canon.ite | with_reducible apply State.nextExch_canon
    | with_reducible apply State.roundDone_canon | split

theorem State.accStopAt_canon {t : State} {h1 : Nat} {status : Nat} {t1 : Option Nat} (h : t.Canon) : (t.accStopAt h1 status t1).Canon := 
  Only.canon (State.accStopAt_only (Only.refl _ t) (fun _ h => h)) (by decide) (by decide) h

theorem State.accStop_canon {t : State} {h1 : Nat} {status : Nat} (h : t.Canon) : (t.accStop h1 status).Canon := 
  Only.canon (State.accStop_only (Only.refl _ t) (fun _ h => h)) (by decide) (by decide) h

theorem State.accAbandon_canon {t : State} (h : t.Canon) : (t.accAbandon).Canon := 
  Only.canon (State.accAbandon_only (Only.refl _ t) (fun _ h => h)) (by decide) (by decide) h

theorem State.accPd7Down_canon {t : State} (h : t.Canon) : (t.accPd7Down).Canon := 
  Only.canon (State.accPd7Down_only (Only.refl _ t) (fun _ h => h)) (by decide) (by decide) h

theorem State.accPd7Up_canon {t : State} (h : t.Canon) : (t.accPd7Up).Canon := 
  Only.canon (State.accPd7Up_only (Only.refl _ t) (fun _ h => h)) (by decide) (by decide) h

theorem State.feWritten_canon {t : State} {f : Nat} {off : Nat} {v : Nat} (h : t.Canon) : (t.feWritten f off v).Canon := 
  Only.canon (State.feWritten_only (Only.refl _ t) (fun _ h => h)) (by decide) (by decide) h

/-! ### Machine/Mem.lean -/

theorem State.memEvent_canon {t : State} {region : Nat} {kind : Nat} {syn : Nat} {port : Nat} {count : Nat} {addr : Nat} (h : t.Canon) : (t.memEvent region kind syn port count addr).Canon := 
  Only.canon (State.memEvent_only (Only.refl _ t) (fun _ h => h)) (by decide) (by decide) h

theorem State.memRecord_canon {t : State} {region : Nat} {kind : Nat} {syn : Nat} {port : Nat} {addr : Nat} (h : t.Canon) : (t.memRecord region kind syn port addr).Canon := 
  Only.canon (State.memRecord_only (Only.refl _ t) (fun _ h => h)) (by decide) (by decide) h

theorem State.memError_canon {t : State} {region : Nat} {kind : Nat} {syn : Nat} {port : Nat} {addr : Nat} (h : t.Canon) : (t.memError region kind syn port addr).Canon := 
  Only.canon (State.memError_only (Only.refl _ t) (fun _ h => h)) (by decide) (by decide) h

theorem State.storeRaw_canon {t : State} {a d c : Nat} (h : t.Canon) : (t.storeRaw a d c).Canon :=
  ⟨rising_putCells h.1, rising_kvPut h.2.1, h.2.2.1, h.2.2.2⟩

theorem State.readDw_canon {t : State} {port : Nat} {a : Nat} (h : t.Canon) : CanonP (t.readDw port a) := by
  unfold State.readDw
  repeat' first
    | with_reducible assumption | extract_lets | with_reducible apply State.Canon.ite | with_reducible apply State.storeRaw_canon
    | with_reducible apply State.memError_canon | split | with_reducible apply CanonP.pair

theorem State.writeDw_canon {t : State} {a : Nat} {data : Nat} (h : t.Canon) : (t.writeDw a data).Canon := by
  unfold State.writeDw
  repeat' first
    | with_reducible assumption | extract_lets | with_reducible apply State.Canon.ite | with_reducible apply State.storeRaw_canon
    | ((fail_if_success with_reducible apply State.Canon.eta); (with_reducible apply State.Canon.upd) <;> [skip; exact rfl; exact rfl; exact rfl])

theorem State.memRead_canon {t : State} {port : Nat} {a : Nat} {size : Nat} (h : t.Canon) : CanonP (t.memRead port a size) := by
  unfold State.memRead
  repeat' first
    | with_reducible assumption | extract_lets | with_reducible apply State.readDw_canon
    | with_reducible refine State.Canon.of_pair (by with_reducible assumption) ?_ | split | with_reducible apply CanonP.pair

theorem State.memWrite_canon {t : State} {port : Nat} {a : Nat} {size : Nat} {v : Nat} (h : t.Canon) : CanonP (t.memWrite port a size v) := by
  unfold State.memWrite
  repeat' first
    | with_reducible assumption | extract_lets | with_reducible apply State.readDw_canon | with_reducible apply State.writeDw_canon
    | with_reducible refine State.Canon.of_pair (by with_reducible assumption) ?_ | with_reducible apply CanonP.ite | split
    | with_reducible apply CanonP.pair

theorem State.loseMem_canon {t : State} {a n : Nat} (h : t.Canon) : (t.loseMem a n).Canon :=
  ⟨rising_dropCells h.1, rising_filter h.2.1, h.2.2.1, h.2.2.2⟩

theorem State.loadBytes_canon {t : State} {a : Nat} {bs : List Byte} (h : t.Canon) : (t.loadBytes a bs).Canon :=
  State.Canon.foldl (f := fun s i => { s with mem := { s.mem with chk := kvPut (a + 8 * i) (eccOf (s.bytesAt (a + 8 * i) 8)) s.mem.chk } })
    ⟨rising_putCells h.1, h.2.1, h.2.2.1, h.2.2.2⟩ (fun _ _ h => ⟨h.1, rising_kvPut h.2.1, h.2.2.1, h.2.2.2⟩)

theorem State.writeFilters_canon {t : State} (h : t.Canon) : t.writeFilters.Canon := by
  refine ⟨rising_putCells h.1, ?_, h.2.2.1, h.2.2.2⟩
  have e : ∀ vals : List Nat, vals.zipIdx.map (fun p => (0x10800000 + 8 * p.2, eccOf p.1)) = spread 0x10800000 8 eccOf vals := fun _ => rfl
  simp only [State.writeFilters, e]
  refine rising_splice h.2.1 (rising_spread (by decide)) (fun x hx => ?_) (by decide)
  have := mem_spread (by decide) hx
  have hl : ((List.range 8).map (fun n => (List.range 256).map (fun i => t.pf Pf.canFilter_ELEMENT n i))).flatten.length = 2048 := by
    simp [List.length_flatten, Function.comp_def]
  rw [hl] at this
  omega

theorem State.lapEnd_canon {t : State} {a : Nat} (h : t.Canon) : (t.lapEnd a).Canon := 
  Only.canon (State.lapEnd_only (Only.refl _ t) (fun _ h => h)) (by decide) (by decide) h

theorem State.setFlip_canon {t : State} {v : Nat} (h : t.Canon) : (t.setFlip v).Canon := 
  Only.canon (State.setFlip_only (Only.refl _ t) (fun _ h => h)) (by decide) (by decide) h

theorem State.clearMemCounts_canon {t : State} (h : t.Canon) : (t.clearMemCounts).Canon := 
  Only.canon (State.clearMemCounts_only (Only.refl _ t) (fun _ h => h)) (by decide) (by decide) h

theorem State.memParWritten_canon {t : State} {off : Nat} {idx : Nat} {v : Nat} (h : t.Canon) : (t.memParWritten off idx v).Canon := 
  Only.canon (State.memParWritten_only (Only.refl _ t) (fun _ h => h)) (by decide) (by decide) h

/-! ### Machine/Entry.lean -/

theorem State.modPwr_canon {t : State} {f : Power → Power} (h : t.Canon) : (t.modPwr f).Canon := 
  Only.canon (State.modPwr_only (Only.refl _ t) (fun _ h => h)) (by decide) (by decide) h

theorem State.powerEvent_canon {t : State} {unit : Nat} {code : Nat} {src : Nat} {dst : Nat} {by_ : Nat} (h : t.Canon) : (t.powerEvent unit code src dst by_).Canon := 
  Only.canon (State.powerEvent_only (Only.refl _ t) (fun _ h => h)) (by decide) (by decide) h

theorem State.abortEntry_canon {t : State} {code : Nat} (h : t.Canon) : (t.abortEntry code).Canon := 
  Only.canon (State.abortEntry_only (Only.refl _ t) (fun _ h => h)) (by decide) (by decide) h

theorem State.wufStep_canon {t : State} {n : Nat} {k : Nat → Nat} (h : t.Canon) : (t.wufStep n k).Canon := 
  Only.canon (State.wufStep_only (Only.refl _ t) (fun _ h => h)) (by decide) (by decide) h

theorem State.wufSeen_canon {t : State} {n : Nat} {f : CanFrame} (h : t.Canon) : (t.wufSeen n f).Canon := 
  Only.canon (State.wufSeen_only (Only.refl _ t) (fun _ h => h)) (by decide) (by decide) h

theorem State.wufBad_canon {t : State} {n : Nat} (h : t.Canon) : (t.wufBad n).Canon := 
  Only.canon (State.wufBad_only (Only.refl _ t) (fun _ h => h)) (by decide) (by decide) h

theorem State.entryTraffic_canon {t : State} {n : Nat} {f : CanFrame} (h : t.Canon) : (t.entryTraffic n f).Canon := 
  Only.canon (State.entryTraffic_only (Only.refl _ t) (fun _ h => h)) (by decide) (by decide) h

theorem State.kaSent_canon {t : State} (h : t.Canon) : (t.kaSent).Canon := 
  Only.canon (State.kaSent_only (Only.refl _ t) (fun _ h => h)) (by decide) (by decide) h

theorem State.kaSentCan_canon {t : State} {f : CanFrame} (h : t.Canon) : (t.kaSentCan f).Canon := 
  Only.canon (State.kaSentCan_only (Only.refl _ t) (fun _ h => h)) (by decide) (by decide) h

/-! ### Machine/Can.lean -/

theorem State.setCan_canon {t : State} {n : Nat} {c : CanPort} (h : t.Canon) : (t.setCan n c).Canon := 
  Only.canon (State.setCan_only (Only.refl _ t) (fun _ h => h)) (by decide) (by decide) h

theorem State.modCan_canon {t : State} {n : Nat} {f : CanPort → CanPort} (h : t.Canon) : (t.modCan n f).Canon := 
  Only.canon (State.modCan_only (Only.refl _ t) (fun _ h => h)) (by decide) (by decide) h

theorem State.netEventN_canon {t : State} {unit : Nat} {code : Nat} {count : Nat} {value : Nat} (h : t.Canon) : (t.netEventN unit code count value).Canon := 
  Only.canon (State.netEventN_only (Only.refl _ t) (fun _ h => h)) (by decide) (by decide) h

theorem State.netEvent_canon {t : State} {unit : Nat} {code : Nat} {value : Nat} (h : t.Canon) : (t.netEvent unit code value).Canon := 
  Only.canon (State.netEvent_only (Only.refl _ t) (fun _ h => h)) (by decide) (by decide) h

theorem State.netLimited_canon {t : State} {unit : Nat} {code : Nat} {value : Nat} (h : t.Canon) : (t.netLimited unit code value).Canon := 
  Only.canon (State.netLimited_only (Only.refl _ t) (fun _ h => h)) (by decide) (by decide) h

theorem State.rxDrop_canon {t : State} {n : Nat} (h : t.Canon) : (t.rxDrop n).Canon := 
  Only.canon (State.rxDrop_only (Only.refl _ t) (fun _ h => h)) (by decide) (by decide) h

theorem State.tunDrop_canon {t : State} {n : Nat} (h : t.Canon) : (t.tunDrop n).Canon := 
  Only.canon (State.tunDrop_only (Only.refl _ t) (fun _ h => h)) (by decide) (by decide) h

theorem State.queueRec_canon {t : State} {n : Nat} {q : Nat} {r : RxRec} (h : t.Canon) : (t.queueRec n q r).Canon := 
  Only.canon (State.queueRec_only (Only.refl _ t) (fun _ h => h)) (by decide) (by decide) h

theorem State.canQueue_canon {t u : State} {n : Nat} {f : CanFrame} (e : t.canQueue n f = some u) (h : t.Canon) : u.Canon :=
  Only.canon (State.canQueue_only e (Only.refl _ t) (fun _ h => h)) (by decide) (by decide) h

theorem State.tdc_canon {t : State} {n : Nat} {f : CanFrame} {delay : Nat} (h : t.Canon) : (t.tdc n f delay).Canon := 
  Only.canon (State.tdc_only (Only.refl _ t) (fun _ h => h)) (by decide) (by decide) h

theorem State.emptyTunnel_canon {t : State} {n : Nat} (h : t.Canon) : (t.emptyTunnel n).Canon := 
  Only.canon (State.emptyTunnel_only (Only.refl _ t) (fun _ h => h)) (by decide) (by decide) h

theorem State.emptyQueue_canon {t : State} {n : Nat} {q : Nat} (h : t.Canon) : (t.emptyQueue n q).Canon := 
  Only.canon (State.emptyQueue_only (Only.refl _ t) (fun _ h => h)) (by decide) (by decide) h

theorem State.setLin_canon {t : State} {n : Nat} {l1 : LinPort} (h : t.Canon) : (t.setLin n l1).Canon := 
  Only.canon (State.setLin_only (Only.refl _ t) (fun _ h => h)) (by decide) (by decide) h

theorem State.modLin_canon {t : State} {n : Nat} {f : LinPort → LinPort} (h : t.Canon) : (t.modLin n f).Canon := 
  Only.canon (State.modLin_only (Only.refl _ t) (fun _ h => h)) (by decide) (by decide) h

theorem State.canStart_canon {t : State} {n : Nat} (h : t.Canon) : (t.canStart n).Canon := 
  Only.canon (State.canStart_only (Only.refl _ t) (fun _ h => h)) (by decide) (by decide) h

theorem State.canStop_canon {t : State} {n : Nat} (h : t.Canon) : (t.canStop n).Canon := 
  Only.canon (State.canStop_only (Only.refl _ t) (fun _ h => h)) (by decide) (by decide) h

theorem State.canWritten_canon {t : State} {s0 : State} {n : Nat} {off : Nat} {idx : Nat} {v : Nat} (h : t.Canon) : (State.canWritten s0 t n off idx v).Canon := by
  unfold State.canWritten
  repeat' first
    | with_reducible assumption | extract_lets | with_reducible apply State.Canon.ite | with_reducible apply State.modCan_canon
    | with_reducible apply State.canStart_canon | with_reducible apply State.canStop_canon | with_reducible apply State.writeDw_canon

/-! ### Machine/Lin.lean -/

theorem State.linRespond_canon {t : State} {n : Nat} {id : Nat} (h : t.Canon) : (t.linRespond n id).Canon := 
  Only.canon (State.linRespond_only (Only.refl _ t) (fun _ h => h)) (by decide) (by decide) h

theorem State.linRespErr_canon {t : State} {n : Nat} (h : t.Canon) : (t.linRespErr n).Canon := 
  Only.canon (State.linRespErr_only (Only.refl _ t) (fun _ h => h)) (by decide) (by decide) h

theorem State.linAnswer_canon {t : State} {n : Nat} {req : List Byte} (h : t.Canon) : (t.linAnswer n req).Canon := 
  Only.canon (State.linAnswer_only (Only.refl _ t) (fun _ h => h)) (by decide) (by decide) h

theorem State.linHeader_canon {t : State} {n : Nat} {id : Nat} {entry : Option Nat} (h : t.Canon) : (t.linHeader n id entry).Canon := 
  Only.canon (State.linHeader_only (Only.refl _ t) (fun _ h => h)) (by decide) (by decide) h

theorem State.linSendHeader_canon {t : State} {n : Nat} {id : Nat} {e : Nat} (h : t.Canon) : (t.linSendHeader n id e).Canon := 
  Only.canon (State.linSendHeader_only (Only.refl _ t) (fun _ h => h)) (by decide) (by decide) h

theorem State.linDeliver_canon {t : State} {n : Nat} {id : Nat} {sof : Nat} {d : List Byte} (h : t.Canon) : (t.linDeliver n id sof d).Canon := 
  Only.canon (State.linDeliver_only (Only.refl _ t) (fun _ h => h)) (by decide) (by decide) h

theorem State.linPublish_canon {t : State} {n : Nat} {id : Nat} {d : List Byte} (h : t.Canon) : (t.linPublish n id d).Canon := 
  Only.canon (State.linPublish_only (Only.refl _ t) (fun _ h => h)) (by decide) (by decide) h

theorem State.linStart_canon {t : State} {n : Nat} (h : t.Canon) : (t.linStart n).Canon := 
  Only.canon (State.linStart_only (Only.refl _ t) (fun _ h => h)) (by decide) (by decide) h

theorem State.linStop_canon {t : State} {n : Nat} (h : t.Canon) : (t.linStop n).Canon := 
  Only.canon (State.linStop_only (Only.refl _ t) (fun _ h => h)) (by decide) (by decide) h

theorem State.linSleep_canon {t : State} {n : Nat} (h : t.Canon) : (t.linSleep n).Canon := 
  Only.canon (State.linSleep_only (Only.refl _ t) (fun _ h => h)) (by decide) (by decide) h

theorem State.linWakeup_canon {t : State} {n : Nat} (h : t.Canon) : (t.linWakeup n).Canon := 
  Only.canon (State.linWakeup_only (Only.refl _ t) (fun _ h => h)) (by decide) (by decide) h

theorem State.linWritten_canon {t : State} {s0 : State} {n : Nat} {off : Nat} (h : t.Canon) : (State.linWritten s0 t n off).Canon := 
  Only.canon (State.linWritten_only (Only.refl _ t) (fun _ h => h)) (by decide) (by decide) h

/-! ### Machine/Eth.lean -/

theorem State.setEth_canon {t : State} {k : Nat} {e : EthPort} (h : t.Canon) : (t.setEth k e).Canon := 
  Only.canon (State.setEth_only (Only.refl _ t) (fun _ h => h)) (by decide) (by decide) h

theorem State.setSpe_canon {t : State} {k : Nat} {e : SpePort} (h : t.Canon) : (t.setSpe k e).Canon := 
  Only.canon (State.setSpe_only (Only.refl _ t) (fun _ h => h)) (by decide) (by decide) h

theorem State.ethDown_canon {t : State} {k : Nat} (h : t.Canon) : (t.ethDown k).Canon := 
  Only.canon (State.ethDown_only (Only.refl _ t) (fun _ h => h)) (by decide) (by decide) h

theorem State.speStart_canon {t : State} {k : Nat} (h : t.Canon) : (t.speStart k).Canon := 
  Only.canon (State.speStart_only (Only.refl _ t) (fun _ h => h)) (by decide) (by decide) h

theorem State.portCount_canon {t : State} {p : Nat} {i : Nat} (h : t.Canon) : (t.portCount p i).Canon := 
  Only.canon (State.portCount_only (Only.refl _ t) (fun _ h => h)) (by decide) (by decide) h

theorem State.learnAddr_canon {t : State} {vlan : Nat} {mac : Nat} {port : Nat} (h : t.Canon) : (t.learnAddr vlan mac port).Canon := 
  Only.canon (State.learnAddr_only (Only.refl _ t) (fun _ h => h)) (by decide) (by decide) h

theorem State.egressTo_canon {t : State} {p : Nat} {untag : Bool} {f : EthFrame} (h : t.Canon) : (t.egressTo p untag f).Canon := 
  Only.canon (State.egressTo_only (Only.refl _ t) (fun _ h => h)) (by decide) (by decide) h

theorem State.switchIn_canon {t : State} {f : EthFrame} (h : t.Canon) : (t.switchIn f).Canon := 
  Only.canon (State.switchIn_only (Only.refl _ t) (fun _ h => h)) (by decide) (by decide) h

theorem State.mrdDue_canon {t : State} {n : Nat} (h : t.Canon) : (t.mrdDue n).Canon := 
  Only.canon (State.mrdDue_only (Only.refl _ t) (fun _ h => h)) (by decide) (by decide) h

theorem State.mrdWritten_canon {t : State} {off : Nat} (h : t.Canon) : (t.mrdWritten off).Canon := 
  Only.canon (State.mrdWritten_only (Only.refl _ t) (fun _ h => h)) (by decide) (by decide) h

theorem State.ethWritten_canon {t : State} {s0 : State} {k : Nat} {off : Nat} {v : Nat} (h : t.Canon) : (State.ethWritten s0 t k off v).Canon := 
  Only.canon (State.ethWritten_only (Only.refl _ t) (fun _ h => h)) (by decide) (by decide) h

theorem State.speWritten_canon {t : State} {s0 : State} {k : Nat} {off : Nat} {v : Nat} (h : t.Canon) : (State.speWritten s0 t k off v).Canon := 
  Only.canon (State.speWritten_only (Only.refl _ t) (fun _ h => h)) (by decide) (by decide) h

theorem State.netPd6Up_canon {t : State} (h : t.Canon) : (t.netPd6Up).Canon := 
  Only.canon (State.netPd6Up_only (Only.refl _ t) (fun _ h => h)) (by decide) (by decide) h

theorem State.netPd6Down_canon {t : State} (h : t.Canon) : (t.netPd6Down).Canon := 
  Only.canon (State.netPd6Down_only (Only.refl _ t) (fun _ h => h)) (by decide) (by decide) h

theorem State.netPd5Up_canon {t : State} (h : t.Canon) : (t.netPd5Up).Canon := 
  Only.canon (State.netPd5Up_only (Only.refl _ t) (fun _ h => h)) (by decide) (by decide) h

theorem State.netPd5Down_canon {t : State} (h : t.Canon) : (t.netPd5Down).Canon := 
  Only.canon (State.netPd5Down_only (Only.refl _ t) (fun _ h => h)) (by decide) (by decide) h

/-! ### Machine/Units.lean -/

theorem State.chanEvent_canon {t : State} {n : Nat} {code : Nat} {kind : Nat} {ma : Int} (h : t.Canon) : (t.chanEvent n code kind ma).Canon := 
  Only.canon (State.chanEvent_only (Only.refl _ t) (fun _ h => h)) (by decide) (by decide) h

theorem State.compEventsBy_canon {t : State} {put : State → Nat → Nat → List Byte → State} {s0 : State} {n who code kind : Nat} {ma : Int}
    (h : t.Canon) (hp : ∀ u p c d, u.Canon → (put u p c d).Canon) : (t.compEventsBy put s0 n who code kind ma).Canon := by
  unfold State.compEventsBy
  refine State.Canon.foldl h (fun u p hu => ?_)
  extract_lets k sum
  exact State.Canon.ite hu (hp _ _ _ _ hu)

theorem State.leafEventAt_canon {t : State} {s0 : State} {n : Nat} {who : Nat} {code : Nat} {kind : Nat} {ma : Int} (h : t.Canon) : (t.leafEventAt s0 n who code kind ma).Canon := 
  Only.canon (State.leafEventAt_only (Only.refl _ t) (fun _ h => h)) (by decide) (by decide) h

theorem State.leafEvent_canon {t : State} {s0 : State} {n : Nat} {code : Nat} {kind : Nat} {ma : Int} (h : t.Canon) : (t.leafEvent s0 n code kind ma).Canon := 
  Only.canon (State.leafEvent_only (Only.refl _ t) (fun _ h => h)) (by decide) (by decide) h

theorem State.setCmd_canon {t : State} {u : Nat} {c : UCmd} (h : t.Canon) : (t.setCmd u c).Canon := 
  Only.canon (State.setCmd_only (Only.refl _ t) (fun _ h => h)) (by decide) (by decide) h

theorem State.dropCmd_canon {t : State} {u : Nat} (h : t.Canon) : (t.dropCmd u).Canon := 
  Only.canon (State.dropCmd_only (Only.refl _ t) (fun _ h => h)) (by decide) (by decide) h

theorem State.endCmd_canon {t : State} {u : Nat} {status : Nat} (h : t.Canon) : (t.endCmd u status).Canon := 
  Only.canon (State.endCmd_only (Only.refl _ t) (fun _ h => h)) (by decide) (by decide) h

theorem State.failCmd_canon {t : State} {u : Nat} {fault : Nat} (h : t.Canon) : (t.failCmd u fault).Canon := 
  Only.canon (State.failCmd_only (Only.refl _ t) (fun _ h => h)) (by decide) (by decide) h

theorem State.markCmd_canon {t : State} {n : Nat} {f : UCmd → UCmd} (h : t.Canon) : (t.markCmd n f).Canon := 
  Only.canon (State.markCmd_only (Only.refl _ t) (fun _ h => h)) (by decide) (by decide) h

theorem State.settle_canon {t : State} {n : Nat} (h : t.Canon) : (t.settle n).Canon := 
  Only.canon (State.settle_only (Only.refl _ t) (fun _ h => h)) (by decide) (by decide) h

/-! ### Machine/Heat.lean -/

theorem State.addReq_canon {t : State} {r : IsoReq} (h : t.Canon) : (t.addReq r).Canon := 
  Only.canon (State.addReq_only (Only.refl _ t) (fun _ h => h)) (by decide) (by decide) h

theorem State.requestFor_canon {t : State} {n : Nat} {kind : ReqKind} (h : t.Canon) : (t.requestFor n kind).Canon := 
  Only.canon (State.requestFor_only (Only.refl _ t) (fun _ h => h)) (by decide) (by decide) h

theorem State.withdraw_canon {t : State} {n : Nat} (h : t.Canon) : (t.withdraw n).Canon := 
  Only.canon (State.withdraw_only (Only.refl _ t) (fun _ h => h)) (by decide) (by decide) h

theorem State.addRel_canon {t : State} {r : IsoRel} (h : t.Canon) : (t.addRel r).Canon := 
  Only.canon (State.addRel_only (Only.refl _ t) (fun _ h => h)) (by decide) (by decide) h

theorem State.releaseCh_canon {t : State} {n : Nat} {uj : Option Rat} (h : t.Canon) : (t.releaseCh n uj).Canon := 
  Only.canon (State.releaseCh_only (Only.refl _ t) (fun _ h => h)) (by decide) (by decide) h

theorem State.isoEvent_canon {t : State} {num : Nat} {kind : Nat} {pool : Nat} {mw : Nat} {mj : Nat} {waited : Nat} (h : t.Canon) : (t.isoEvent num kind pool mw mj waited).Canon := 
  Only.canon (State.isoEvent_only (Only.refl _ t) (fun _ h => h)) (by decide) (by decide) h

/-! ### Machine/Channel.lean -/

theorem State.armInrush_canon {t : State} {n : Nat} (h : t.Canon) : (t.armInrush n).Canon := 
  Only.canon (State.armInrush_only (Only.refl _ t) (fun _ h => h)) (by decide) (by decide) h

theorem State.gateOn_canon {t : State} {n : Nat} (h : t.Canon) : (t.gateOn n).Canon := 
  Only.canon (State.gateOn_only (Only.refl _ t) (fun _ h => h)) (by decide) (by decide) h

theorem State.gateOnAfter_canon {t : State} {n : Nat} (h : t.Canon) : (t.gateOnAfter n).Canon := 
  Only.canon (State.gateOnAfter_only (Only.refl _ t) (fun _ h => h)) (by decide) (by decide) h

theorem State.lowSides_canon {t : State} {n : Nat} (h : t.Canon) : (t.lowSides n).Canon := 
  Only.canon (State.lowSides_only (Only.refl _ t) (fun _ h => h)) (by decide) (by decide) h

theorem State.dropCh_canon {t : State} {n : Nat} {st : ChSt} {uj : Option Rat} (h : t.Canon) : (t.dropCh n st uj).Canon := 
  Only.canon (State.dropCh_only (Only.refl _ t) (fun _ h => h)) (by decide) (by decide) h

theorem State.pulseGate_canon {t : State} {n : Nat} {x : Gate} (h : t.Canon) : (t.pulseGate n x).Canon := 
  Only.canon (State.pulseGate_only (Only.refl _ t) (fun _ h => h)) (by decide) (by decide) h

theorem State.endOnPhase_canon {t : State} {n : Nat} (h : t.Canon) : (t.endOnPhase n).Canon := 
  Only.canon (State.endOnPhase_only (Only.refl _ t) (fun _ h => h)) (by decide) (by decide) h

theorem State.endTest_canon {t : State} {n : Nat} (h : t.Canon) : (t.endTest n).Canon := 
  Only.canon (State.endTest_only (Only.refl _ t) (fun _ h => h)) (by decide) (by decide) h

theorem State.endPulse_canon {t : State} {u : Nat} (h : t.Canon) : (t.endPulse u).Canon := 
  Only.canon (State.endPulse_only (Only.refl _ t) (fun _ h => h)) (by decide) (by decide) h

theorem State.confirm_canon {t : State} {n : Nat} (h : t.Canon) : (t.confirm n).Canon := 
  Only.canon (State.confirm_only (Only.refl _ t) (fun _ h => h)) (by decide) (by decide) h

theorem State.gangLatch_canon {t : State} {n : Nat} (h : t.Canon) : (t.gangLatch n).Canon := 
  Only.canon (State.gangLatch_only (Only.refl _ t) (fun _ h => h)) (by decide) (by decide) h

theorem State.noteTrip_canon {t : State} {n : Nat} {code : Nat} (h : t.Canon) : (t.noteTrip n code).Canon := 
  Only.canon (State.noteTrip_only (Only.refl _ t) (fun _ h => h)) (by decide) (by decide) h

theorem State.markTrip_canon {t : State} {l1 : Nat} {code : Nat} (h : t.Canon) : (t.markTrip l1 code).Canon := 
  Only.canon (State.markTrip_only (Only.refl _ t) (fun _ h => h)) (by decide) (by decide) h

theorem State.tripLasting_canon {t : State} {n : Nat} {code : Nat} {m : Meas} (h : t.Canon) : (t.tripLasting n code m).Canon := 
  Only.canon (State.tripLasting_only (Only.refl _ t) (fun _ h => h)) (by decide) (by decide) h

theorem State.tripFirst_canon {t : State} {n : Nat} {code : Nat} {m : Meas} (h : t.Canon) : (t.tripFirst n code m).Canon := 
  Only.canon (State.tripFirst_only (Only.refl _ t) (fun _ h => h)) (by decide) (by decide) h

theorem State.tripAgain_canon {t : State} {n : Nat} {code : Nat} (h : t.Canon) : (t.tripAgain n code).Canon := 
  Only.canon (State.tripAgain_only (Only.refl _ t) (fun _ h => h)) (by decide) (by decide) h

theorem State.trip_canon {t : State} {n : Nat} {code : Nat} {m : Meas} (h : t.Canon) : (t.trip n code m).Canon := 
  Only.canon (State.trip_only (Only.refl _ t) (fun _ h => h)) (by decide) (by decide) h

theorem State.dieTripOff_canon {t : State} {n : Nat} {code : Nat} (h : t.Canon) : (t.dieTripOff n code).Canon := 
  Only.canon (State.dieTripOff_only (Only.refl _ t) (fun _ h => h)) (by decide) (by decide) h

theorem State.dieTrips_canon {t : State} {n : Nat} {code : Nat} {m : Meas} (h : t.Canon) : (t.dieTrips n code m).Canon := 
  Only.canon (State.dieTrips_only (Only.refl _ t) (fun _ h => h)) (by decide) (by decide) h

theorem State.unresolved_canon {t : State} {s0 : State} {n : Nat} (h : t.Canon) : (t.unresolved s0 n).Canon := 
  Only.canon (State.unresolved_only (Only.refl _ t) (fun _ h => h)) (by decide) (by decide) h

theorem State.leafOn_canon {t : State} {n : Nat} {d : Drive} (h : t.Canon) : CanonP (t.leafOn n d) := 
  ⟨Only.canon (State.leafOn_only (Only.refl _ t) (fun _ h => h)).fst (by decide) (by decide) h⟩

theorem State.leafOff_canon {t : State} {n : Nat} (h : t.Canon) : (t.leafOff n).Canon := 
  Only.canon (State.leafOff_only (Only.refl _ t) (fun _ h => h)) (by decide) (by decide) h

theorem State.leafBrake_canon {t : State} {n : Nat} (h : t.Canon) : (t.leafBrake n).Canon := 
  Only.canon (State.leafBrake_only (Only.refl _ t) (fun _ h => h)) (by decide) (by decide) h

theorem State.leafClear_canon {t : State} {n : Nat} {clr : Bool} (h : t.Canon) : (t.leafClear n clr).Canon := 
  Only.canon (State.leafClear_only (Only.refl _ t) (fun _ h => h)) (by decide) (by decide) h

theorem State.askUnit_canon {t : State} {u : Nat} {need : List Nat} (h : t.Canon) : (t.askUnit u need).Canon := 
  Only.canon (State.askUnit_only (Only.refl _ t) (fun _ h => h)) (by decide) (by decide) h

theorem State.unitOn_canon {t : State} {u : Nat} {drive : Nat → Drive} (h : t.Canon) : (t.unitOn u drive).Canon := 
  Only.canon (State.unitOn_only (Only.refl _ t) (fun _ h => h)) (by decide) (by decide) h

theorem State.lastCmd_canon {t : State} {u : Nat} {idle : Bool} (h : t.Canon) : (t.lastCmd u idle).Canon := 
  Only.canon (State.lastCmd_only (Only.refl _ t) (fun _ h => h)) (by decide) (by decide) h

theorem State.unitOff_canon {t : State} {u : Nat} (h : t.Canon) : (t.unitOff u).Canon := 
  Only.canon (State.unitOff_only (Only.refl _ t) (fun _ h => h)) (by decide) (by decide) h

theorem State.unitClear_canon {t : State} {u : Nat} {clr : Bool} (h : t.Canon) : (t.unitClear u clr).Canon := 
  Only.canon (State.unitClear_only (Only.refl _ t) (fun _ h => h)) (by decide) (by decide) h

theorem State.forward_canon {t : State} {u : Nat} {cmd : Nat} {stamp : Nat} {data : List Byte} (h : t.Canon) : (t.forward u cmd stamp data).Canon := 
  Only.canon (State.forward_only (Only.refl _ t) (fun _ h => h)) (by decide) (by decide) h

theorem State.chanCmd_canon {t : State} {q : Rq} {c : UnitCmd} {cmd : Nat} {act : State → State} (h : t.Canon)
    (ha : ∀ u, u.Canon → (act u).Canon) : (t.chanCmd q c cmd act).Canon := by
  refine State.serve_canon h (fun r u hu => ?_)
  split
  · exact State.answer_canon hu
  · split
    · exact State.Canon.of_pair (by assumption) (State.accept_canon hu)
    · exact State.forward_canon (ha _ (State.setCmd_canon (State.endCmd_canon (State.Canon.of_pair (by assumption) (State.accept_canon hu)))))

theorem State.afterOn_canon {t : State} {u : Nat} (h : t.Canon) : (t.afterOn u).Canon := 
  Only.canon (State.afterOn_only (Only.refl _ t) (fun _ h => h)) (by decide) (by decide) h

theorem State.turnOn_canon {t : State} {q : Rq} {c : UnitCmd} {cmd : Nat} (h : t.Canon) : (t.turnOn q c cmd).Canon := 
  Only.canon (State.turnOn_only (Only.refl _ t) (fun _ h => h)) (by decide) (by decide) h

theorem State.abandonOn_canon {t : State} {u : Nat} (h : t.Canon) : (t.abandonOn u).Canon := 
  Only.canon (State.abandonOn_only (Only.refl _ t) (fun _ h => h)) (by decide) (by decide) h

theorem State.followOff_canon {t : State} {n : Nat} (h : t.Canon) : (t.followOff n).Canon := 
  Only.canon (State.followOff_only (Only.refl _ t) (fun _ h => h)) (by decide) (by decide) h

theorem State.endInrush_canon {t : State} {n : Nat} {m : Meas} (h : t.Canon) : (t.endInrush n m).Canon := 
  Only.canon (State.endInrush_only (Only.refl _ t) (fun _ h => h)) (by decide) (by decide) h

theorem State.testResult_canon {t : State} {n : Nat} {cand : Nat} (h : t.Canon) : (t.testResult n cand).Canon := 
  Only.canon (State.testResult_only (Only.refl _ t) (fun _ h => h)) (by decide) (by decide) h

/-! ### Machine/Composite.lean -/

theorem State.chanWritten_canon {t : State} {n : Nat} {off : Nat} {v : Nat} (h : t.Canon) : (t.chanWritten n off v).Canon := by
  unfold State.chanWritten
  repeat' first
    | with_reducible assumption | intro _ | extract_lets | with_reducible apply State.Canon.ite | with_reducible apply State.setPar_canon
    | with_reducible apply State.Canon.foldl | split

theorem State.compEnable_canon {t : State} {k : Nat} {par : Bool} (h : t.Canon) : (t.compEnable k par).Canon := by
  unfold State.compEnable
  repeat' first
    | with_reducible assumption | intro _ | extract_lets | with_reducible apply State.Canon.ite | with_reducible apply State.endTest_canon
    | with_reducible apply State.modChan_canon | with_reducible apply State.setPar_canon | with_reducible apply State.setComp_canon
    | with_reducible apply State.Canon.foldl

theorem State.compDisable_canon {t : State} {k : Nat} (h : t.Canon) : (t.compDisable k).Canon := 
  Only.canon (State.compDisable_only (Only.refl _ t) (fun _ h => h)) (by decide) (by decide) h

theorem State.compWritten_canon {t : State} {k : Nat} {off : Nat} {v : Nat} (h : t.Canon) : (t.compWritten k off v).Canon := by
  unfold State.compWritten
  repeat' first
    | with_reducible assumption | extract_lets | with_reducible apply State.Canon.ite | with_reducible apply State.compDisable_canon
    | with_reducible apply State.compEnable_canon

/-! ### Machine/Pulse.lean -/

theorem State.askMore_canon {t : State} {kind : ReqKind} {u : Nat} {d0 : Nat} {p0 : Nat} {d1 : Nat} {p1 : Nat} (h : t.Canon) : (t.askMore kind u d0 p0 d1 p1).Canon := 
  Only.canon (State.askMore_only (Only.refl _ t) (fun _ h => h)) (by decide) (by decide) h

theorem State.refundPulse_canon {t : State} {u : Nat} {d0 : Nat} {p0 : Nat} {d1 : Nat} {p1 : Nat} (h : t.Canon) : (t.refundPulse u d0 p0 d1 p1).Canon := 
  Only.canon (State.refundPulse_only (Only.refl _ t) (fun _ h => h)) (by decide) (by decide) h

theorem State.dropMore_canon {t : State} {p : ReqKind → Bool} (h : t.Canon) : (t.dropMore p).Canon := 
  Only.canon (State.dropMore_only (Only.refl _ t) (fun _ h => h)) (by decide) (by decide) h

theorem State.leafOnEdge_canon {t : State} {n : Nat} {dir : Bool} (h : t.Canon) : (t.leafOnEdge n dir).Canon := 
  Only.canon (State.leafOnEdge_only (Only.refl _ t) (fun _ h => h)) (by decide) (by decide) h

theorem State.leafOffEdge_canon {t : State} {n : Nat} {free : Bool} (h : t.Canon) : (t.leafOffEdge n free).Canon := 
  Only.canon (State.leafOffEdge_only (Only.refl _ t) (fun _ h => h)) (by decide) (by decide) h

theorem State.unitOnEdge_canon {t : State} {u : Nat} {dir : Bool} (h : t.Canon) : (t.unitOnEdge u dir).Canon := 
  Only.canon (State.unitOnEdge_only (Only.refl _ t) (fun _ h => h)) (by decide) (by decide) h

theorem State.unitOffEdge_canon {t : State} {u : Nat} {free : Bool} (h : t.Canon) : (t.unitOffEdge u free).Canon := 
  Only.canon (State.unitOffEdge_only (Only.refl _ t) (fun _ h => h)) (by decide) (by decide) h

theorem State.beginPeriod_canon {t : State} {g : Nat} {b : Nat} (h : t.Canon) : (t.beginPeriod g b).Canon := 
  Only.canon (State.beginPeriod_only (Only.refl _ t) (fun _ h => h)) (by decide) (by decide) h

theorem State.modMem_canon {t : State} {g : Nat} {u : Nat} {f : PMem → PMem} (h : t.Canon) : (t.modMem g u f).Canon := 
  Only.canon (State.modMem_only (Only.refl _ t) (fun _ h => h)) (by decide) (by decide) h

theorem State.memWritten_canon {t : State} {g : Nat} {u : Nat} {v : Nat} (h : t.Canon) : (t.memWritten g u v).Canon := 
  Only.canon (State.memWritten_only (Only.refl _ t) (fun _ h => h)) (by decide) (by decide) h

theorem State.periodWritten_canon {t : State} {g : Nat} {v : Nat} (h : t.Canon) : (t.periodWritten g v).Canon := 
  Only.canon (State.periodWritten_only (Only.refl _ t) (fun _ h => h)) (by decide) (by decide) h

theorem State.genStart_canon {t : State} {g : Nat} (h : t.Canon) : (t.genStart g).Canon := 
  Only.canon (State.genStart_only (Only.refl _ t) (fun _ h => h)) (by decide) (by decide) h

theorem State.genWritten_canon {t : State} {g : Nat} {off : Nat} {idx : Nat} {v : Nat} (h : t.Canon) : (t.genWritten g off idx v).Canon := 
  Only.canon (State.genWritten_only (Only.refl _ t) (fun _ h => h)) (by decide) (by decide) h

/-! ### Machine/Light.lean -/

theorem State.setChain_canon {t : State} {c : Nat} {x : Chain} (h : t.Canon) : (t.setChain c x).Canon := 
  Only.canon (State.setChain_only (Only.refl _ t) (fun _ h => h)) (by decide) (by decide) h

theorem State.setMx_canon {t : State} {x : Mx} (h : t.Canon) : (t.setMx x).Canon := 
  Only.canon (State.setMx_only (Only.refl _ t) (fun _ h => h)) (by decide) (by decide) h

theorem State.setNtc_canon {t : State} {t1 : Nat} {x : Ntc} (h : t.Canon) : (t.setNtc t1 x).Canon := 
  Only.canon (State.setNtc_only (Only.refl _ t) (fun _ h => h)) (by decide) (by decide) h

theorem State.lightEvent_canon {t : State} {unit : Nat} {code : Nat} {kind : Nat} {index : Nat} {value : Nat} {temp : Int} (h : t.Canon) : (t.lightEvent unit code kind index value temp).Canon := 
  Only.canon (State.lightEvent_only (Only.refl _ t) (fun _ h => h)) (by decide) (by decide) h

theorem State.mxMeasure_canon {t : State} (h : t.Canon) : (t.mxMeasure).Canon := 
  Only.canon (State.mxMeasure_only (Only.refl _ t) (fun _ h => h)) (by decide) (by decide) h

theorem State.askMx_canon {t : State} {kind : ReqKind} {mw : Nat} (h : t.Canon) : (t.askMx kind mw).Canon := 
  Only.canon (State.askMx_only (Only.refl _ t) (fun _ h => h)) (by decide) (by decide) h

theorem State.mxRaise_canon {t : State} (h : t.Canon) : (t.mxRaise).Canon := 
  Only.canon (State.mxRaise_only (Only.refl _ t) (fun _ h => h)) (by decide) (by decide) h

theorem State.mxAsk_canon {t : State} {kind : ReqKind} (h : t.Canon) : (t.mxAsk kind).Canon := 
  Only.canon (State.mxAsk_only (Only.refl _ t) (fun _ h => h)) (by decide) (by decide) h

theorem State.mxGranted_canon {t : State} {kind : ReqKind} {mw : Nat} (h : t.Canon) : (t.mxGranted kind mw).Canon := 
  Only.canon (State.mxGranted_only (Only.refl _ t) (fun _ h => h)) (by decide) (by decide) h

theorem State.mxStop_canon {t : State} {st : MxSt} (h : t.Canon) : (t.mxStop st).Canon := 
  Only.canon (State.mxStop_only (Only.refl _ t) (fun _ h => h)) (by decide) (by decide) h

theorem State.commitLight_canon {t : State} {t1 : Nat} {fid : Nat} (h : t.Canon) : (t.commitLight t1 fid).Canon := 
  Only.canon (State.commitLight_only (Only.refl _ t) (fun _ h => h)) (by decide) (by decide) h

theorem State.chainDiag_canon {t : State} {c : Nat} {res : Nat} (h : t.Canon) : (t.chainDiag c res).Canon := 
  Only.canon (State.chainDiag_only (Only.refl _ t) (fun _ h => h)) (by decide) (by decide) h

theorem State.chainDo_canon {t : State} {c : Nat} {bad : Bool} (h : t.Canon) : (t.chainDo c bad).Canon := 
  Only.canon (State.chainDo_only (Only.refl _ t) (fun _ h => h)) (by decide) (by decide) h

theorem State.mxDiag_canon {t : State} (h : t.Canon) : (t.mxDiag).Canon := 
  Only.canon (State.mxDiag_only (Only.refl _ t) (fun _ h => h)) (by decide) (by decide) h

theorem State.mxShow_canon {t : State} (h : t.Canon) : (t.mxShow).Canon := 
  Only.canon (State.mxShow_only (Only.refl _ t) (fun _ h => h)) (by decide) (by decide) h

theorem State.mxConfirm_canon {t : State} (h : t.Canon) : (t.mxConfirm).Canon := 
  Only.canon (State.mxConfirm_only (Only.refl _ t) (fun _ h => h)) (by decide) (by decide) h

theorem State.ntcOff_canon {t : State} {t1 : Nat} (h : t.Canon) : (t.ntcOff t1).Canon := 
  Only.canon (State.ntcOff_only (Only.refl _ t) (fun _ h => h)) (by decide) (by decide) h

theorem State.ntcDerate_canon {t : State} {t1 : Nat} {d : Nat} {temp : Int} (h : t.Canon) : (t.ntcDerate t1 d temp).Canon := 
  Only.canon (State.ntcDerate_only (Only.refl _ t) (fun _ h => h)) (by decide) (by decide) h

theorem State.ntcConvert_canon {t : State} {t1 : Nat} {code : Nat} (h : t.Canon) : (t.ntcConvert t1 code).Canon := 
  Only.canon (State.ntcConvert_only (Only.refl _ t) (fun _ h => h)) (by decide) (by decide) h

theorem State.ntcApply_canon {t : State} {s0 : State} (h : t.Canon) : (t.ntcApply s0).Canon := 
  Only.canon (State.ntcApply_only (Only.refl _ t) (fun _ h => h)) (by decide) (by decide) h

theorem State.mxStart_canon {t : State} (h : t.Canon) : (t.mxStart).Canon := 
  Only.canon (State.mxStart_only (Only.refl _ t) (fun _ h => h)) (by decide) (by decide) h

theorem State.mxWritten_canon {t : State} {s0 : State} {off : Nat} {v : Nat} (h : t.Canon) : (State.mxWritten s0 t off v).Canon := 
  Only.canon (State.mxWritten_only (Only.refl _ t) (fun _ h => h)) (by decide) (by decide) h

theorem State.ntcWritten_canon {t : State} {s0 : State} {t1 : Nat} {off : Nat} {v : Nat} (h : t.Canon) : (State.ntcWritten s0 t t1 off v).Canon := 
  Only.canon (State.ntcWritten_only (Only.refl _ t) (fun _ h => h)) (by decide) (by decide) h

theorem State.lightUp_canon {t : State} (h : t.Canon) : (t.lightUp).Canon := 
  Only.canon (State.lightUp_only (Only.refl _ t) (fun _ h => h)) (by decide) (by decide) h

theorem State.ntcUp_canon {t : State} (h : t.Canon) : (t.ntcUp).Canon := 
  Only.canon (State.ntcUp_only (Only.refl _ t) (fun _ h => h)) (by decide) (by decide) h

theorem State.adoptLight_canon {t : State} (h : t.Canon) : (t.adoptLight).Canon := 
  Only.canon (State.adoptLight_only (Only.refl _ t) (fun _ h => h)) (by decide) (by decide) h

/-! ### Machine/Valve.lean -/

theorem State.setValve_canon {t : State} {v : Nat} {x : Valve} (h : t.Canon) : (t.setValve v x).Canon := 
  Only.canon (State.setValve_only (Only.refl _ t) (fun _ h => h)) (by decide) (by decide) h

theorem State.modValve_canon {t : State} {v : Nat} {f : Valve → Valve} (h : t.Canon) : (t.modValve v f).Canon := 
  Only.canon (State.modValve_only (Only.refl _ t) (fun _ h => h)) (by decide) (by decide) h

theorem State.modBank_canon {t : State} {b : Nat} {f : VBank → VBank} (h : t.Canon) : (t.modBank b f).Canon := 
  Only.canon (State.modBank_only (Only.refl _ t) (fun _ h => h)) (by decide) (by decide) h

theorem State.valveEvent_canon {t : State} {v : Nat} {code : Nat} {kind : Nat} {ma : Int} {value : Nat} (h : t.Canon) : (t.valveEvent v code kind ma value).Canon := 
  Only.canon (State.valveEvent_only (Only.refl _ t) (fun _ h => h)) (by decide) (by decide) h

theorem State.valveEnd_canon {t : State} {v : Nat} {status : Nat} {fault : Nat} (h : t.Canon) : (t.valveEnd v status fault).Canon := 
  Only.canon (State.valveEnd_only (Only.refl _ t) (fun _ h => h)) (by decide) (by decide) h

theorem State.actEnd_canon {t : State} {v : Nat} {status : Nat} {fault : Nat} (h : t.Canon) : (t.actEnd v status fault).Canon := 
  Only.canon (State.actEnd_only (Only.refl _ t) (fun _ h => h)) (by decide) (by decide) h

theorem State.actRetried_canon {t : State} {v : Nat} (h : t.Canon) : (t.actRetried v).Canon := 
  Only.canon (State.actRetried_only (Only.refl _ t) (fun _ h => h)) (by decide) (by decide) h

theorem State.takeClamp_canon {t : State} {v : Nat} (h : t.Canon) : (t.takeClamp v).Canon := 
  Only.canon (State.takeClamp_only (Only.refl _ t) (fun _ h => h)) (by decide) (by decide) h

theorem State.startFall_canon {t : State} {v : Nat} {fast : Bool} {toZero : Bool} (h : t.Canon) : (t.startFall v fast toZero).Canon := 
  Only.canon (State.startFall_only (Only.refl _ t) (fun _ h => h)) (by decide) (by decide) h

theorem State.resumeFalls_canon {t : State} {b : Nat} (h : t.Canon) : (t.resumeFalls b).Canon := 
  Only.canon (State.resumeFalls_only (Only.refl _ t) (fun _ h => h)) (by decide) (by decide) h

theorem State.delayFalls_canon {t : State} {b : Nat} (h : t.Canon) : (t.delayFalls b).Canon := 
  Only.canon (State.delayFalls_only (Only.refl _ t) (fun _ h => h)) (by decide) (by decide) h

theorem State.valveGate_canon {t : State} {v : Nat} {st : VSt} (h : t.Canon) : (t.valveGate v st).Canon := 
  Only.canon (State.valveGate_only (Only.refl _ t) (fun _ h => h)) (by decide) (by decide) h

theorem State.freeBoost_canon {t : State} {b : Nat} (h : t.Canon) : (t.freeBoost b).Canon := 
  Only.canon (State.freeBoost_only (Only.refl _ t) (fun _ h => h)) (by decide) (by decide) h

theorem State.valveDrop_canon {t : State} {v : Nat} {st : VSt} {fall : Option Bool} (h : t.Canon) : (t.valveDrop v st fall).Canon := 
  Only.canon (State.valveDrop_only (Only.refl _ t) (fun _ h => h)) (by decide) (by decide) h

theorem State.askValve_canon {t : State} {v : Nat} {kind : ReqKind} (h : t.Canon) : (t.askValve v kind).Canon := 
  Only.canon (State.askValve_only (Only.refl _ t) (fun _ h => h)) (by decide) (by decide) h

theorem State.boostBusy_canon {t : State} {v : Nat} (h : t.Canon) : (t.boostBusy v).Canon := 
  Only.canon (State.boostBusy_only (Only.refl _ t) (fun _ h => h)) (by decide) (by decide) h

theorem State.valveGranted_canon {t : State} {v : Nat} (h : t.Canon) : (t.valveGranted v).Canon := 
  Only.canon (State.valveGranted_only (Only.refl _ t) (fun _ h => h)) (by decide) (by decide) h

theorem State.bankGranted_canon {t : State} {b : Nat} {vs : List Nat} (h : t.Canon) : (t.bankGranted b vs).Canon := 
  Only.canon (State.bankGranted_only (Only.refl _ t) (fun _ h => h)) (by decide) (by decide) h

theorem State.valvesGranted_canon {t : State} {vs : List Nat} (h : t.Canon) : (t.valvesGranted vs).Canon := 
  Only.canon (State.valvesGranted_only (Only.refl _ t) (fun _ h => h)) (by decide) (by decide) h

theorem State.valveOff_canon {t : State} {v : Nat} (h : t.Canon) : (t.valveOff v).Canon := 
  Only.canon (State.valveOff_only (Only.refl _ t) (fun _ h => h)) (by decide) (by decide) h

theorem State.valveCmd_canon {t : State} {q : Rq} {c : UnitCmd} {cmd : Nat} {act : State → State} (h : t.Canon)
    (ha : ∀ u, u.Canon → (act u).Canon) : (t.valveCmd q c cmd act).Canon := by
  refine State.serve_canon h (fun r u hu => ?_)
  split
  · exact State.answer_canon hu
  · split
    · exact State.Canon.of_pair (by assumption) (State.accept_canon hu)
    · exact ha _ (State.modValve_canon (State.valveEnd_canon (State.Canon.of_pair (by assumption) (State.accept_canon hu))))

theorem State.startAct_canon {t : State} {v : Nat} (h : t.Canon) : (t.startAct v).Canon := 
  Only.canon (State.startAct_only (Only.refl _ t) (fun _ h => h)) (by decide) (by decide) h

theorem State.boostDone_canon {t : State} {v : Nat} {i : Int} (h : t.Canon) : (t.boostDone v i).Canon := 
  Only.canon (State.boostDone_only (Only.refl _ t) (fun _ h => h)) (by decide) (by decide) h

theorem State.valveConfirm_canon {t : State} {v : Nat} (h : t.Canon) : (t.valveConfirm v).Canon := 
  Only.canon (State.valveConfirm_only (Only.refl _ t) (fun _ h => h)) (by decide) (by decide) h

theorem State.valveTripIn_canon {t : State} {v : Nat} {code : Nat} {ma : Int} (h : t.Canon) : (t.valveTripIn v code ma).Canon := 
  Only.canon (State.valveTripIn_only (Only.refl _ t) (fun _ h => h)) (by decide) (by decide) h

theorem State.valveTrip_canon {t : State} {v : Nat} {code : Nat} {ma : Int} (h : t.Canon) : (t.valveTrip v code ma).Canon := 
  Only.canon (State.valveTrip_only (Only.refl _ t) (fun _ h => h)) (by decide) (by decide) h

theorem State.bankLost_canon {t : State} {b : Nat} (h : t.Canon) : (t.bankLost b).Canon := 
  Only.canon (State.bankLost_only (Only.refl _ t) (fun _ h => h)) (by decide) (by decide) h

theorem State.bankWritten_canon {t : State} {s0 : State} {off : Nat} {v : Nat} (h : t.Canon) : (State.bankWritten s0 t off v).Canon := by
  unfold State.bankWritten
  repeat' first
    | with_reducible assumption | intro _ | extract_lets | with_reducible apply State.Canon.ite | with_reducible apply State.setPar_canon
    | with_reducible apply State.Canon.foldl
    | ((fail_if_success with_reducible apply State.Canon.eta); (with_reducible apply State.Canon.upd) <;> [skip; exact rfl; exact rfl; exact rfl])

theorem State.railStart_canon {t : State} (h : t.Canon) : (t.railStart).Canon := 
  Only.canon (State.railStart_only (Only.refl _ t) (fun _ h => h)) (by decide) (by decide) h

/-! ### Machine/Isotherm.lean -/

theorem State.checkOver_canon {t : State} {num : Option Nat} (h : t.Canon) : (t.checkOver num).Canon := 
  Only.canon (State.checkOver_only (Only.refl _ t) (fun _ h => h)) (by decide) (by decide) h

theorem State.settleInrush_canon {t : State} {x : Grant} {uj : Rat} {stamp : Nat} (h : t.Canon) : (t.settleInrush x uj stamp).Canon := 
  Only.canon (State.settleInrush_only (Only.refl _ t) (fun _ h => h)) (by decide) (by decide) h

theorem State.applyRel_canon {t : State} {r : IsoRel} (h : t.Canon) : (t.applyRel r).Canon := 
  Only.canon (State.applyRel_only (Only.refl _ t) (fun _ h => h)) (by decide) (by decide) h

theorem State.applyRels_canon {t : State} (h : t.Canon) : (t.applyRels).Canon := 
  Only.canon (State.applyRels_only (Only.refl _ t) (fun _ h => h)) (by decide) (by decide) h

theorem State.isoWait_canon {t : State} {num : Nat} {w : Nat} (h : t.Canon) : (t.isoWait num w).Canon := 
  Only.canon (State.isoWait_only (Only.refl _ t) (fun _ h => h)) (by decide) (by decide) h

theorem State.isoMark_canon {t : State} {num : Nat} (h : t.Canon) : (t.isoMark num).Canon := 
  Only.canon (State.isoMark_only (Only.refl _ t) (fun _ h => h)) (by decide) (by decide) h

theorem State.chanGranted_canon {t : State} {n : Nat} (h : t.Canon) : (t.chanGranted n).Canon := 
  Only.canon (State.chanGranted_only (Only.refl _ t) (fun _ h => h)) (by decide) (by decide) h

theorem State.grantEffect_canon {t : State} {r : IsoReq} (h : t.Canon) : (t.grantEffect r).Canon := 
  Only.canon (State.grantEffect_only (Only.refl _ t) (fun _ h => h)) (by decide) (by decide) h

theorem State.grantReq_canon {t : State} {r : IsoReq} (h : t.Canon) : (t.grantReq r).Canon := 
  Only.canon (State.grantReq_only (Only.refl _ t) (fun _ h => h)) (by decide) (by decide) h

theorem State.modReq_canon {t : State} {r : IsoReq} {f : IsoReq → IsoReq} (h : t.Canon) : (t.modReq r f).Canon := 
  Only.canon (State.modReq_only (Only.refl _ t) (fun _ h => h)) (by decide) (by decide) h

theorem State.startBlock_canon {t : State} {r : IsoReq} (h : t.Canon) : (t.startBlock r).Canon := 
  Only.canon (State.startBlock_only (Only.refl _ t) (fun _ h => h)) (by decide) (by decide) h

theorem State.deferReq_canon {t : State} {r : IsoReq} {blocked : Bool} (h : t.Canon) : (t.deferReq r blocked).Canon := 
  Only.canon (State.deferReq_only (Only.refl _ t) (fun _ h => h)) (by decide) (by decide) h

theorem State.grantAll_canon {t : State} {x0 : Nat} {x2 : List IsoReq} (h : t.Canon) : (State.grantAll x0 t x2).Canon := 
  Only.canon (State.grantAll_only (Only.refl _ t) (fun _ h => h)) (by decide) (by decide) h

theorem State.grantInOrder_canon {t : State} {x1 : Bool} {x2 : List IsoReq} (h : t.Canon) : (t.grantInOrder x1 x2).Canon := 
  Only.canon (State.grantInOrder_only (Only.refl _ t) (fun _ h => h)) (by decide) (by decide) h

theorem State.arbiterPass_canon {t : State} (h : t.Canon) : (t.arbiterPass).Canon := 
  Only.canon (State.arbiterPass_only (Only.refl _ t) (fun _ h => h)) (by decide) (by decide) h

theorem State.stepGrant_canon {t : State} {n : Nat} {first : Bool} {w : Rat} (h : t.Canon) : (t.stepGrant n first w).Canon := 
  Only.canon (State.stepGrant_only (Only.refl _ t) (fun _ h => h)) (by decide) (by decide) h

theorem State.chanStep_canon {t : State} {old : State} {n : Nat} {steps : List StepIn} (h : t.Canon) : (t.chanStep old n steps).Canon := 
  Only.canon (State.chanStep_only (Only.refl _ t) (fun _ h => h)) (by decide) (by decide) h

theorem State.learnAt_canon {t : State} {n : Nat} (h : t.Canon) : (t.learnAt n).Canon := 
  Only.canon (State.learnAt_only (Only.refl _ t) (fun _ h => h)) (by decide) (by decide) h

theorem State.trueUnit_canon {t : State} {num : Nat} (h : t.Canon) : (t.trueUnit num).Canon := 
  Only.canon (State.trueUnit_only (Only.refl _ t) (fun _ h => h)) (by decide) (by decide) h

theorem State.diverge_canon {t : State} {n : Nat} {sensor : Int} (h : t.Canon) : (t.diverge n sensor).Canon := 
  Only.canon (State.diverge_only (Only.refl _ t) (fun _ h => h)) (by decide) (by decide) h

/-! ### Machine/Session.lean -/

theorem State.closeSession_canon {t : State} {i : Nat} (h : t.Canon) : (t.closeSession i).Canon := by
  unfold State.closeSession
  repeat' first
    | with_reducible assumption | extract_lets | with_reducible apply State.Canon.ite | with_reducible apply State.dropClaim_canon
    | with_reducible apply State.setPf_canon | with_reducible apply State.modSes_canon
    | ((fail_if_success with_reducible apply State.Canon.eta); (with_reducible apply State.Canon.upd) <;> [skip; exact rfl; exact rfl; exact rfl])

theorem State.closeAll_canon {t : State} (h : t.Canon) : (t.closeAll).Canon := by
  unfold State.closeAll
  repeat' first
    | with_reducible assumption | intro _ | extract_lets | with_reducible apply State.closeSession_canon | with_reducible apply State.Canon.foldl

/-! ### Machine/Agree.lean -/

theorem State.modAgr_canon {t : State} {f : Agree → Agree} (h : t.Canon) : (t.modAgr f).Canon := 
  Only.canon (State.modAgr_only (Only.refl _ t) (fun _ h => h)) (by decide) (by decide) h

theorem State.agrEvent_canon {t : State} {code : Nat} {value : Nat} (h : t.Canon) : (t.agrEvent code value).Canon := 
  Only.canon (State.agrEvent_only (Only.refl _ t) (fun _ h => h)) (by decide) (by decide) h

theorem State.agrStart_canon {t : State} {t1 : Nat} (h : t.Canon) : (t.agrStart t1).Canon := 
  Only.canon (State.agrStart_only (Only.refl _ t) (fun _ h => h)) (by decide) (by decide) h

theorem State.agrNormalAt_canon {t : State} {t1 : Nat} (h : t.Canon) : (t.agrNormalAt t1).Canon := 
  Only.canon (State.agrNormalAt_only (Only.refl _ t) (fun _ h => h)) (by decide) (by decide) h

theorem State.agrNormal_canon {t : State} (h : t.Canon) : (t.agrNormal).Canon := 
  Only.canon (State.agrNormal_only (Only.refl _ t) (fun _ h => h)) (by decide) (by decide) h

theorem State.agrStay_canon {t : State} {value : Nat} (h : t.Canon) : (t.agrStay value).Canon := 
  Only.canon (State.agrStay_only (Only.refl _ t) (fun _ h => h)) (by decide) (by decide) h

theorem State.agrReady_canon {t : State} {src : Option Nat} (h : t.Canon) : (t.agrReady src).Canon := 
  Only.canon (State.agrReady_only (Only.refl _ t) (fun _ h => h)) (by decide) (by decide) h

theorem State.nsWritten_canon {t : State} {s0 : State} {off : Nat} (h : t.Canon) : (State.nsWritten s0 t off).Canon := 
  Only.canon (State.nsWritten_only (Only.refl _ t) (fun _ h => h)) (by decide) (by decide) h

theorem State.wmWrite_canon {t : State} {i : Nat} {r : WmRun} {active : Bool} (h : t.Canon) : (t.wmWrite i r active).Canon := by
  unfold State.wmWrite
  repeat' first
    | with_reducible assumption | with_reducible apply State.setPar_canon

theorem State.wmEnd_canon {t : State} {r : WmRun} (h : t.Canon) : (t.wmEnd r).Canon := by
  unfold State.wmEnd
  repeat' first
    | with_reducible assumption | extract_lets | with_reducible apply State.Canon.ite | with_reducible apply State.modAgr_canon
    | with_reducible apply State.setPf_canon | split

theorem State.wmEndAll_canon {t : State} (h : t.Canon) : (t.wmEndAll).Canon := by
  unfold State.wmEndAll
  repeat' first
    | with_reducible assumption | intro _ | extract_lets | with_reducible apply State.wmEnd_canon | with_reducible apply State.Canon.foldl

theorem State.wmSeen_canon {t : State} {link : Nat} {node : Nat} {reason : Nat} (h : t.Canon) : (t.wmSeen link node reason).Canon := by
  unfold State.wmSeen
  repeat' first
    | with_reducible assumption | extract_lets | with_reducible apply State.Canon.ite | with_reducible apply State.wmEnd_canon
    | with_reducible apply State.wmEndAll_canon | with_reducible apply State.modAgr_canon | split

/-! ### Machine/Pace.lean -/

theorem State.modPace_canon {t : State} {p : Nat} {f : PaceRec → PaceRec} (h : t.Canon) : (t.modPace p f).Canon := 
  Only.canon (State.modPace_only (Only.refl _ t) (fun _ h => h)) (by decide) (by decide) h

theorem State.paceWrite_canon {t : State} {ini : Initiator} {p : Nat} {off : Nat} {f : PaceRec → PaceRec} (h : t.Canon) : (t.paceWrite ini p off f).Canon := 
  Only.canon (State.paceWrite_only (Only.refl _ t) (fun _ h => h)) (by decide) (by decide) h

theorem State.fallbackEvent_canon {t : State} {code : Nat} (h : t.Canon) : (t.fallbackEvent code).Canon := 
  Only.canon (State.fallbackEvent_only (Only.refl _ t) (fun _ h => h)) (by decide) (by decide) h

theorem State.timersStood_canon {t : State} {d : Nat} (h : t.Canon) : (t.timersStood d).Canon := 
  Only.canon (State.timersStood_only (Only.refl _ t) (fun _ h => h)) (by decide) (by decide) h

theorem State.resumeTb_canon {t : State} (h : t.Canon) : (t.resumeTb).Canon := 
  Only.canon (State.resumeTb_only (Only.refl _ t) (fun _ h => h)) (by decide) (by decide) h

theorem State.spanStart_canon {t : State} (h : t.Canon) : (t.spanStart).Canon := 
  Only.canon (State.spanStart_only (Only.refl _ t) (fun _ h => h)) (by decide) (by decide) h

theorem State.startTb_canon {t : State} (h : t.Canon) : (t.startTb).Canon := 
  Only.canon (State.startTb_only (Only.refl _ t) (fun _ h => h)) (by decide) (by decide) h

theorem State.pllLock_canon {t : State} (h : t.Canon) : (t.pllLock).Canon := 
  Only.canon (State.pllLock_only (Only.refl _ t) (fun _ h => h)) (by decide) (by decide) h

theorem State.pllFallback_canon {t : State} (h : t.Canon) : (t.pllFallback).Canon := 
  Only.canon (State.pllFallback_only (Only.refl _ t) (fun _ h => h)) (by decide) (by decide) h

theorem State.latchNow_canon {t : State} {p : Nat} (h : t.Canon) : (t.latchNow p).Canon := 
  Only.canon (State.latchNow_only (Only.refl _ t) (fun _ h => h)) (by decide) (by decide) h

theorem State.latchAon_canon {t : State} {p : Nat} (h : t.Canon) : (t.latchAon p).Canon := 
  Only.canon (State.latchAon_only (Only.refl _ t) (fun _ h => h)) (by decide) (by decide) h

/-! ### Machine/CoreOps.lean -/

theorem State.setCore_canon {t : State} {i : Nat} {c : Core} (h : t.Canon) : (t.setCore i c).Canon := 
  Only.canon (State.setCore_only (Only.refl _ t) (fun _ h => h)) (by decide) (by decide) h

theorem State.modCore_canon {t : State} {i : Nat} {f : Core → Core} (h : t.Canon) : (t.modCore i f).Canon := 
  Only.canon (State.modCore_only (Only.refl _ t) (fun _ h => h)) (by decide) (by decide) h

theorem State.modApplet_canon {t : State} {n : Nat} {f : Applet → Applet} (h : t.Canon) : (t.modApplet n f).Canon := 
  Only.canon (State.modApplet_only (Only.refl _ t) (fun _ h => h)) (by decide) (by decide) h

theorem State.modDbgCore_canon {t : State} {k : Nat} {f : DbgCore → DbgCore} (h : t.Canon) : (t.modDbgCore k f).Canon := 
  Only.canon (State.modDbgCore_only (Only.refl _ t) (fun _ h => h)) (by decide) (by decide) h

theorem State.startCore_canon {t : State} {i : Nat} {pc : Nat} (h : t.Canon) : (t.startCore i pc).Canon := 
  Only.canon (State.startCore_only (Only.refl _ t) (fun _ h => h)) (by decide) (by decide) h

theorem State.haltCore_canon {t : State} {i : Nat} {st : CoreSt} (h : t.Canon) : (t.haltCore i st).Canon := 
  Only.canon (State.haltCore_only (Only.refl _ t) (fun _ h => h)) (by decide) (by decide) h

theorem State.dropApplet_canon {t : State} {n : Nat} (h : t.Canon) : (t.dropApplet n).Canon := 
  Only.canon (State.dropApplet_only (Only.refl _ t) (fun _ h => h)) (by decide) (by decide) h

theorem State.debugHalt_canon {t : State} {i : Nat} (h : t.Canon) : (t.debugHalt i).Canon := 
  Only.canon (State.debugHalt_only (Only.refl _ t) (fun _ h => h)) (by decide) (by decide) h

theorem State.freshRings_canon {t : State} {n : Nat} (h : t.Canon) : (t.freshRings n).Canon := by
  unfold State.freshRings
  repeat' first
    | with_reducible assumption | extract_lets | with_reducible apply State.Canon.ite | with_reducible apply State.loadBytes_canon

theorem State.copyApplet_canon {t : State} {n : Nat} (h : t.Canon) : (t.copyApplet n).Canon := by
  unfold State.copyApplet
  repeat' first
    | with_reducible assumption | extract_lets | with_reducible apply State.Canon.ite | with_reducible apply State.loadBytes_canon

theorem State.startApplet_canon {t : State} {n : Nat} (h : t.Canon) : (t.startApplet n).Canon := by
  unfold State.startApplet
  repeat' first
    | with_reducible assumption | extract_lets | with_reducible apply State.startCore_canon | with_reducible apply State.modApplet_canon
    | with_reducible apply State.freshRings_canon | with_reducible apply State.copyApplet_canon | with_reducible apply State.modSes_canon

theorem State.stopApplet_canon {t : State} {n : Nat} (h : t.Canon) : (t.stopApplet n).Canon := 
  Only.canon (State.stopApplet_only (Only.refl _ t) (fun _ h => h)) (by decide) (by decide) h

theorem State.modDma_canon {t : State} {n : Nat} {f : DmaCh → DmaCh} (h : t.Canon) : (t.modDma n f).Canon := 
  Only.canon (State.modDma_only (Only.refl _ t) (fun _ h => h)) (by decide) (by decide) h

theorem State.dmaHalt_canon {t : State} {n : Nat} {code : Nat} {addr : Nat} (h : t.Canon) : (t.dmaHalt n code addr).Canon := 
  Only.canon (State.dmaHalt_only (Only.refl _ t) (fun _ h => h)) (by decide) (by decide) h

theorem State.respond_canon {t : State} {r : FabReq} {code : Nat} {data : Nat} (h : t.Canon) : (t.respond r code data).Canon := 
  Only.canon (State.respond_only (Only.refl _ t) (fun _ h => h)) (by decide) (by decide) h

theorem State.sramWrite_canon {t : State} {port : Nat} {rid : Nat} {a : Nat} {size : Nat} {v : Nat} (h : t.Canon) : CanonP (t.sramWrite port rid a size v) := by
  unfold State.sramWrite
  repeat' first
    | with_reducible assumption | extract_lets | with_reducible apply State.memWrite_canon
    | with_reducible refine State.Canon.of_pair (by with_reducible assumption) ?_ | split | with_reducible apply CanonP.pair
    | ((fail_if_success with_reducible apply State.Canon.eta); (with_reducible apply State.Canon.upd) <;> [skip; exact rfl; exact rfl; exact rfl])

theorem State.exWrite_canon {t : State} {port : Nat} {rid : Nat} {a : Nat} {v : Nat} (h : t.Canon) : CanonP (t.exWrite port rid a v) := by
  unfold State.exWrite
  repeat' first
    | with_reducible assumption | extract_lets | with_reducible apply State.sramWrite_canon | with_reducible apply State.Canon.fst
    | with_reducible apply CanonP.ite | with_reducible apply CanonP.pair
    | ((fail_if_success with_reducible apply State.Canon.eta); (with_reducible apply State.Canon.upd) <;> [skip; exact rfl; exact rfl; exact rfl])

theorem State.sramAccess_canon {t : State} {r : FabReq} (h : t.Canon) : CanonP (t.sramAccess r) := by
  unfold State.sramAccess
  repeat' first
    | with_reducible assumption | extract_lets | with_reducible apply State.memRead_canon | with_reducible apply State.exWrite_canon
    | with_reducible apply State.sramWrite_canon | with_reducible refine State.Canon.of_pair (by with_reducible assumption) ?_
    | with_reducible apply CanonP.ite | split | with_reducible apply CanonP.pair
    | ((fail_if_success with_reducible apply State.Canon.eta); (with_reducible apply State.Canon.upd) <;> [skip; exact rfl; exact rfl; exact rfl])

theorem State.inService_canon {t : State} {r : FabReq} {ans : FabAns} (h : t.Canon) : (t.inService r ans).Canon := 
  Only.canon (State.inService_only (Only.refl _ t) (fun _ h => h)) (by decide) (by decide) h

/-! ### Machine/Interlock.lean -/

theorem State.modIl_canon {t : State} {f : Intlk → Intlk} (h : t.Canon) : (t.modIl f).Canon := 
  Only.canon (State.modIl_only (Only.refl _ t) (fun _ h => h)) (by decide) (by decide) h

theorem State.sendRole_canon {t : State} (h : t.Canon) : (t.sendRole).Canon := 
  Only.canon (State.sendRole_only (Only.refl _ t) (fun _ h => h)) (by decide) (by decide) h

theorem State.dropStanding_canon {t : State} (h : t.Canon) : (t.dropStanding).Canon := 
  Only.canon (State.dropStanding_only (Only.refl _ t) (fun _ h => h)) (by decide) (by decide) h

theorem State.takeShadowPar_canon {t : State} (h : t.Canon) : (t.takeShadowPar).Canon := by
  unfold State.takeShadowPar
  repeat' first
    | with_reducible assumption | intro _ | extract_lets | with_reducible apply State.setPar_canon | with_reducible apply State.modIl_canon
    | with_reducible apply State.Canon.foldl

theorem State.standing_canon {t : State} {n : Nat} (h : t.Canon) : (t.standing n).Canon := 
  Only.canon (State.standing_only (Only.refl _ t) (fun _ h => h)) (by decide) (by decide) h

theorem State.noteDiff_canon {t : State} (h : t.Canon) : (t.noteDiff).Canon := 
  Only.canon (State.noteDiff_only (Only.refl _ t) (fun _ h => h)) (by decide) (by decide) h

theorem State.standBy_canon {t : State} (h : t.Canon) : (t.standBy).Canon := 
  Only.canon (State.standBy_only (Only.refl _ t) (fun _ h => h)) (by decide) (by decide) h

theorem State.watchOrStandby_canon {t : State} (h : t.Canon) : (t.watchOrStandby).Canon := 
  Only.canon (State.watchOrStandby_only (Only.refl _ t) (fun _ h => h)) (by decide) (by decide) h

theorem State.settleOver_canon {t : State} (h : t.Canon) : (t.settleOver).Canon := 
  Only.canon (State.settleOver_only (Only.refl _ t) (fun _ h => h)) (by decide) (by decide) h

theorem State.recordGap_canon {t : State} (h : t.Canon) : (t.recordGap).Canon := 
  Only.canon (State.recordGap_only (Only.refl _ t) (fun _ h => h)) (by decide) (by decide) h

theorem State.takeOver_canon {t : State} {n : Nat} (h : t.Canon) : (t.takeOver n).Canon := 
  Only.canon (State.takeOver_only (Only.refl _ t) (fun _ h => h)) (by decide) (by decide) h

theorem State.claim_canon {t : State} {takeover : Bool} (h : t.Canon) : (t.claim takeover).Canon := by
  unfold State.claim
  repeat' first
    | with_reducible assumption | intro _ | extract_lets | with_reducible apply State.Canon.ite | with_reducible apply State.takeOver_canon
    | with_reducible apply State.takeShadowPar_canon | with_reducible apply State.settleOver_canon | with_reducible apply State.modIl_canon
    | with_reducible apply State.sendRole_canon | with_reducible apply State.recordGap_canon | with_reducible apply State.Canon.foldl

theorem State.dualOffAt_canon {t : State} {n : Nat} (h : t.Canon) : (t.dualOffAt n).Canon := 
  Only.canon (State.dualOffAt_only (Only.refl _ t) (fun _ h => h)) (by decide) (by decide) h

theorem State.dualOff_canon {t : State} (h : t.Canon) : (t.dualOff).Canon := 
  Only.canon (State.dualOff_only (Only.refl _ t) (fun _ h => h)) (by decide) (by decide) h

theorem State.keepShadow_canon {t : State} (h : t.Canon) : (t.keepShadow).Canon := 
  Only.canon (State.keepShadow_only (Only.refl _ t) (fun _ h => h)) (by decide) (by decide) h

theorem State.letGo_canon {t : State} {cause : Nat} (h : t.Canon) : (t.letGo cause).Canon := 
  Only.canon (State.letGo_only (Only.refl _ t) (fun _ h => h)) (by decide) (by decide) h

theorem State.release_canon {t : State} {cause : Nat} (h : t.Canon) : (t.release cause).Canon := 
  Only.canon (State.release_only (Only.refl _ t) (fun _ h => h)) (by decide) (by decide) h

theorem State.lineActs_canon {t : State} (h : t.Canon) : (t.lineActs).Canon := by
  unfold State.lineActs
  repeat' first
    | with_reducible assumption | extract_lets | with_reducible apply State.Canon.ite | with_reducible apply State.claim_canon
    | with_reducible apply State.modIl_canon | with_reducible apply State.standBy_canon | with_reducible apply State.sendRole_canon
    | with_reducible apply State.dropStanding_canon

theorem State.decideOver_canon {t : State} {cause : Nat} (h : t.Canon) : (t.decideOver cause).Canon := 
  Only.canon (State.decideOver_only (Only.refl _ t) (fun _ h => h)) (by decide) (by decide) h

theorem State.misDecide_canon {t : State} (h : t.Canon) : (t.misDecide).Canon := 
  Only.canon (State.misDecide_only (Only.refl _ t) (fun _ h => h)) (by decide) (by decide) h

theorem State.takeInputs_canon {t : State} {m : Nat} (h : t.Canon) : (t.takeInputs m).Canon := 
  Only.canon (State.takeInputs_only (Only.refl _ t) (fun _ h => h)) (by decide) (by decide) h

theorem State.proofWrite_canon {t : State} {v : Nat} (h : t.Canon) : (t.proofWrite v).Canon := 
  Only.canon (State.proofWrite_only (Only.refl _ t) (fun _ h => h)) (by decide) (by decide) h

theorem State.proofResult_canon {t : State} {pass : Bool} (h : t.Canon) : (t.proofResult pass).Canon := 
  Only.canon (State.proofResult_only (Only.refl _ t) (fun _ h => h)) (by decide) (by decide) h

theorem State.setCtrl_canon {t : State} {v : Nat} (h : t.Canon) : (t.setCtrl v).Canon := by
  unfold State.setCtrl
  repeat' first
    | with_reducible assumption | extract_lets | with_reducible apply State.Canon.ite | with_reducible apply State.lineActs_canon
    | with_reducible apply State.modIl_canon | with_reducible apply State.sendRole_canon | with_reducible apply State.dropStanding_canon
    | with_reducible apply State.release_canon

theorem State.ilErrClear_canon {t : State} {mask : Nat} (h : t.Canon) : (t.ilErrClear mask).Canon := 
  Only.canon (State.ilErrClear_only (Only.refl _ t) (fun _ h => h)) (by decide) (by decide) h

/-! ### Machine/Twin.lean -/

theorem State.modTwin_canon {t : State} {f : Twin → Twin} (h : t.Canon) : (t.modTwin f).Canon := 
  Only.canon (State.modTwin_only (Only.refl _ t) (fun _ h => h)) (by decide) (by decide) h

theorem State.frame_canon {t : State} {vc : Nat} {head : Nat} {words : List Nat} (h : t.Canon) : (t.frame vc head words).Canon := 
  Only.canon (State.frame_only (Only.refl _ t) (fun _ h => h)) (by decide) (by decide) h

theorem State.sendReq_canon {t : State} {o : TwinOut} (h : t.Canon) : (t.sendReq o).Canon := 
  Only.canon (State.sendReq_only (Only.refl _ t) (fun _ h => h)) (by decide) (by decide) h

theorem State.issueOut_canon {t : State} {op : Nat} {r : FabReq} {win : Nat} {target : Nat} {stamp : Nat} {silent : Bool} (h : t.Canon) : (t.issueOut op r win target stamp silent).Canon := 
  Only.canon (State.issueOut_only (Only.refl _ t) (fun _ h => h)) (by decide) (by decide) h

theorem State.fetchNext_canon {t : State} {r : FabReq} {win : Nat} {target : Nat} (h : t.Canon) : (t.fetchNext r win target).Canon := 
  Only.canon (State.fetchNext_only (Only.refl _ t) (fun _ h => h)) (by decide) (by decide) h

theorem State.fromBuf_canon {t : State} {r : FabReq} {win : Nat} {target : Nat} {b : PfBuf} (h : t.Canon) : (t.fromBuf r win target b).Canon := 
  Only.canon (State.fromBuf_only (Only.refl _ t) (fun _ h => h)) (by decide) (by decide) h

theorem State.twinSend_canon {t : State} {r : FabReq} {win : Nat} {stamp : Nat} (h : t.Canon) : (t.twinSend r win stamp).Canon := 
  Only.canon (State.twinSend_only (Only.refl _ t) (fun _ h => h)) (by decide) (by decide) h

theorem State.twinOut_canon {t : State} {r : FabReq} {stamp : Nat} (h : t.Canon) : (t.twinOut r stamp).Canon := 
  Only.canon (State.twinOut_only (Only.refl _ t) (fun _ h => h)) (by decide) (by decide) h

theorem State.freeWait_canon {t : State} {x1 : Nat} (h : t.Canon) : (t.freeWait x1).Canon := 
  Only.canon (State.freeWait_only (Only.refl _ t) (fun _ h => h)) (by decide) (by decide) h

theorem State.unlocked_canon {t : State} (h : t.Canon) : (t.unlocked).Canon := 
  Only.canon (State.unlocked_only (Only.refl _ t) (fun _ h => h)) (by decide) (by decide) h

theorem State.linkEvent_canon {t : State} {code : Nat} {value : Nat} (h : t.Canon) : (t.linkEvent code value).Canon := 
  Only.canon (State.linkEvent_only (Only.refl _ t) (fun _ h => h)) (by decide) (by decide) h

theorem State.breakLock_canon {t : State} (h : t.Canon) : (t.breakLock).Canon := 
  Only.canon (State.breakLock_only (Only.refl _ t) (fun _ h => h)) (by decide) (by decide) h

theorem State.linkDown_canon {t : State} {reason : Nat} (h : t.Canon) : (t.linkDown reason).Canon := 
  Only.canon (State.linkDown_only (Only.refl _ t) (fun _ h => h)) (by decide) (by decide) h

theorem State.takeRsp_canon {t : State} {p : List Byte} (h : t.Canon) : (t.takeRsp p).Canon := 
  Only.canon (State.takeRsp_only (Only.refl _ t) (fun _ h => h)) (by decide) (by decide) h

theorem State.twinWritten_canon {t : State} {off : Nat} {idx : Nat} {v : Nat} (h : t.Canon) : (t.twinWritten off idx v).Canon := by
  unfold State.twinWritten
  repeat' first
    | with_reducible assumption | extract_lets | with_reducible apply State.Canon.ite | with_reducible apply State.linkDown_canon
    | with_reducible apply State.setCtrl_canon | with_reducible apply State.modTwin_canon

/-! ### Machine/Fw.lean -/

theorem State.modFw_canon {t : State} {f : Fw → Fw} (h : t.Canon) : (t.modFw f).Canon := 
  Only.canon (State.modFw_only (Only.refl _ t) (fun _ h => h)) (by decide) (by decide) h

theorem State.modSlot_canon {t : State} {i : Nat} {f : Slot → Slot} (h : t.Canon) : (t.modSlot i f).Canon := 
  Only.canon (State.modSlot_only (Only.refl _ t) (fun _ h => h)) (by decide) (by decide) h

theorem State.setTarget_canon {t : State} {t1 : Nat} {st : SlotSt} (h : t.Canon) : (t.setTarget t1 st).Canon := 
  Only.canon (State.setTarget_only (Only.refl _ t) (fun _ h => h)) (by decide) (by decide) h

theorem State.fwEvent_canon {t : State} {t1 : Nat} {code : Nat} {value : Nat} (h : t.Canon) : (t.fwEvent t1 code value).Canon := 
  Only.canon (State.fwEvent_only (Only.refl _ t) (fun _ h => h)) (by decide) (by decide) h

theorem State.runEvent_canon {t : State} {code : Nat} {value : Nat} (h : t.Canon) : (t.runEvent code value).Canon := 
  Only.canon (State.runEvent_only (Only.refl _ t) (fun _ h => h)) (by decide) (by decide) h

theorem State.xferStart_canon {t : State} {b : ImgBegin} (h : t.Canon) : (t.xferStart b).Canon := 
  Only.canon (State.xferStart_only (Only.refl _ t) (fun _ h => h)) (by decide) (by decide) h

theorem State.imgBegin_canon {t : State} {r : InReq} {b : ImgBegin} (h : t.Canon) : (t.imgBegin r b).Canon := 
  Only.canon (State.imgBegin_only (Only.refl _ t) (fun _ h => h)) (by decide) (by decide) h

theorem State.imgBlock_canon {t : State} {r : InReq} {b : ImgBlock} (h : t.Canon) : (t.imgBlock r b).Canon := 
  Only.canon (State.imgBlock_only (Only.refl _ t) (fun _ h => h)) (by decide) (by decide) h

theorem State.takeHeader_canon {t : State} {t1 : Nat} (h : t.Canon) : (t.takeHeader t1).Canon := 
  Only.canon (State.takeHeader_only (Only.refl _ t) (fun _ h => h)) (by decide) (by decide) h

theorem State.shakeServe_canon {t : State} (h : t.Canon) : (t.shakeServe).Canon := 
  Only.canon (State.shakeServe_only (Only.refl _ t) (fun _ h => h)) (by decide) (by decide) h

theorem State.flashFree_canon {t : State} (h : t.Canon) : (t.flashFree).Canon := 
  Only.canon (State.flashFree_only (Only.refl _ t) (fun _ h => h)) (by decide) (by decide) h

theorem State.imgJob_canon {t : State} {r : InReq} {t1 : Nat} {op : ImgOp} (h : t.Canon) : (t.imgJob r t1 op).Canon := 
  Only.canon (State.imgJob_only (Only.refl _ t) (fun _ h => h)) (by decide) (by decide) h

theorem State.dropJob_canon {t : State} {h1 : Nat} (h : t.Canon) : (t.dropJob h1).Canon := 
  Only.canon (State.dropJob_only (Only.refl _ t) (fun _ h => h)) (by decide) (by decide) h

theorem State.dropSign_canon {t : State} (h : t.Canon) : (t.dropSign).Canon := 
  Only.canon (State.dropSign_only (Only.refl _ t) (fun _ h => h)) (by decide) (by decide) h

theorem State.imgFail_canon {t : State} {j : ImgJob} {status : Nat} {code : Nat} (h : t.Canon) : (t.imgFail j status code).Canon := 
  Only.canon (State.imgFail_only (Only.refl _ t) (fun _ h => h)) (by decide) (by decide) h

theorem State.unlockEnd_canon {t : State} {h1 : Nat} {status : Nat} {code : Nat} (h : t.Canon) : (t.unlockEnd h1 status code).Canon := 
  Only.canon (State.unlockEnd_only (Only.refl _ t) (fun _ h => h)) (by decide) (by decide) h

theorem State.unlockCheck_canon {t : State} {j : ImgJob} {sigOk : Bool} (h : t.Canon) : (t.unlockCheck j sigOk).Canon := 
  Only.canon (State.unlockCheck_only (Only.refl _ t) (fun _ h => h)) (by decide) (by decide) h

theorem State.imgPass_canon {t : State} {j : ImgJob} (h : t.Canon) : (t.imgPass j).Canon := by
  unfold State.imgPass
  repeat' first
    | with_reducible assumption | extract_lets | with_reducible apply State.Canon.ite | with_reducible apply State.setTarget_canon
    | with_reducible apply State.takeHeader_canon | with_reducible apply State.dropJob_canon | with_reducible apply State.complete_canon
    | with_reducible apply State.fwEvent_canon | with_reducible apply State.shakeServe_canon | with_reducible apply State.modFw_canon
    | with_reducible apply State.copyApplet_canon | split

theorem State.imgActivate_canon {t : State} {r : InReq} {t1 : Nat} {mode : Nat} (h : t.Canon) : (t.imgActivate r t1 mode).Canon := 
  Only.canon (State.imgActivate_only (Only.refl _ t) (fun _ h => h)) (by decide) (by decide) h

theorem State.nameSlot_canon {t : State} (h : t.Canon) : (t.nameSlot).Canon := 
  Only.canon (State.nameSlot_only (Only.refl _ t) (fun _ h => h)) (by decide) (by decide) h

theorem State.confirmTrial_canon {t : State} (h : t.Canon) : (t.confirmTrial).Canon := 
  Only.canon (State.confirmTrial_only (Only.refl _ t) (fun _ h => h)) (by decide) (by decide) h

theorem State.fwWritten_canon {t : State} {off : Nat} {v : Nat} (h : t.Canon) : (t.fwWritten off v).Canon := 
  Only.canon (State.fwWritten_only (Only.refl _ t) (fun _ h => h)) (by decide) (by decide) h

/-! ### Machine/Power.lean -/

theorem State.setInput_canon {t : State} {i : Nat} {x : Input} (h : t.Canon) : (t.setInput i x).Canon := 
  Only.canon (State.setInput_only (Only.refl _ t) (fun _ h => h)) (by decide) (by decide) h

theorem State.changeAborts_canon {t : State} {i : Nat} {active : Bool} (h : t.Canon) : (t.changeAborts i active).Canon := 
  Only.canon (State.changeAborts_only (Only.refl _ t) (fun _ h => h)) (by decide) (by decide) h

theorem State.sampleInput_canon {t : State} {i : Nat} {v : Nat} {t1 : Nat} (h : t.Canon) : (t.sampleInput i v t1).Canon := 
  Only.canon (State.sampleInput_only (Only.refl _ t) (fun _ h => h)) (by decide) (by decide) h

theorem State.modSvy_canon {t : State} {f : Survey → Survey} (h : t.Canon) : (t.modSvy f).Canon := 
  Only.canon (State.modSvy_only (Only.refl _ t) (fun _ h => h)) (by decide) (by decide) h

theorem State.startSurvey_canon {t : State} {dormant : Bool} (h : t.Canon) : (t.startSurvey dormant).Canon := 
  Only.canon (State.startSurvey_only (Only.refl _ t) (fun _ h => h)) (by decide) (by decide) h

theorem State.fromSurvey_canon {t : State} (h : t.Canon) : (t.fromSurvey).Canon := 
  Only.canon (State.fromSurvey_only (Only.refl _ t) (fun _ h => h)) (by decide) (by decide) h

theorem State.surveyInRun_canon {t : State} (h : t.Canon) : (t.surveyInRun).Canon := 
  Only.canon (State.surveyInRun_only (Only.refl _ t) (fun _ h => h)) (by decide) (by decide) h

theorem State.tellChanges_canon {t : State} {slept : Bool} {send : State → Nat → Nat → Nat → State} (h : t.Canon)
    (ha : ∀ u i c k, u.Canon → (send u i c k).Canon) : (t.tellChanges slept send).Canon :=
  State.Canon.foldl h (fun u _ hu => ha u _ _ _ hu)

theorem State.loadImage_canon {t : State} {lo : Nat} {n : Nat} (h : t.Canon) : (t.loadImage lo n).Canon := by
  unfold State.loadImage
  repeat' first
    | with_reducible assumption | intro _ | extract_lets | with_reducible apply State.Canon.ite | with_reducible apply State.loadBytes_canon
    | with_reducible apply State.Canon.foldl

theorem State.startSeq_canon {t : State} {i : Nat} (h : t.Canon) : (t.startSeq i).Canon := by
  unfold State.startSeq
  repeat' first
    | with_reducible assumption | extract_lets | with_reducible apply State.Canon.ite | with_reducible apply State.startCore_canon
    | with_reducible apply State.loadImage_canon

theorem State.startApplets_canon {t : State} (h : t.Canon) : (t.startApplets).Canon := by
  unfold State.startApplets
  repeat' first
    | with_reducible assumption | intro _ | extract_lets | with_reducible apply State.Canon.ite | with_reducible apply State.startApplet_canon
    | with_reducible apply State.Canon.foldl

theorem State.domainUp_canon {t : State} {p : Nat} (h : t.Canon) : (t.domainUp p).Canon := by
  unfold State.domainUp
  repeat' first
    | with_reducible assumption | intro _ | extract_lets | with_reducible apply State.Canon.ite | with_reducible apply State.accPd7Up_canon
    | with_reducible apply State.railStart_canon | with_reducible apply State.netPd6Up_canon | with_reducible apply State.lightUp_canon
    | with_reducible apply State.startApplets_canon | with_reducible apply State.fromSurvey_canon | with_reducible apply State.ntcUp_canon
    | with_reducible apply State.netPd5Up_canon | with_reducible apply State.startSeq_canon | with_reducible apply State.Canon.foldl

theorem State.raise1_canon {t : State} {p : Nat} (h : t.Canon) : (t.raise1 p).Canon := by
  unfold State.raise1
  repeat' first
    | with_reducible assumption | extract_lets | with_reducible apply State.Canon.ite | with_reducible apply State.modPwr_canon
    | with_reducible apply State.domainUp_canon
    | ((fail_if_success with_reducible apply State.Canon.eta); (with_reducible apply State.Canon.upd) <;> [skip; exact rfl; exact rfl; exact rfl])

theorem State.raise_canon {t : State} {mask : Nat} (h : t.Canon) : (t.raise mask).Canon := by
  unfold State.raise
  repeat' first
    | with_reducible assumption | intro _ | extract_lets | with_reducible apply State.raise1_canon | with_reducible apply State.Canon.foldl
    | ((fail_if_success with_reducible apply State.Canon.eta); (with_reducible apply State.Canon.upd) <;> [skip; exact rfl; exact rfl; exact rfl])

theorem State.loseSram_canon {t : State} {keep : Nat} (h : t.Canon) : (t.loseSram keep).Canon :=
  ⟨rising_filter h.1, rising_filter h.2.1, h.2.2.1, h.2.2.2⟩

theorem State.pauseReady_canon {t : State} (h : t.Canon) : (t.pauseReady).Canon := 
  Only.canon (State.pauseReady_only (Only.refl _ t) (fun _ h => h)) (by decide) (by decide) h

theorem State.coresOff_canon {t : State} {l1 : List Nat} (h : t.Canon) : (t.coresOff l1).Canon := by
  unfold State.coresOff
  repeat' first
    | with_reducible assumption | intro _ | extract_lets | with_reducible apply State.haltCore_canon | with_reducible apply State.loseMem_canon
    | with_reducible apply State.Canon.foldl

theorem State.domainDown_canon {t : State} {p : Nat} (h : t.Canon) : (t.domainDown p).Canon := by
  unfold State.domainDown
  repeat' first
    | with_reducible assumption | intro _ | extract_lets | with_reducible apply State.Canon.ite | with_reducible apply State.netPd6Down_canon
    | with_reducible apply State.linkDown_canon | with_reducible apply State.startSurvey_canon | with_reducible apply State.netPd5Down_canon
    | with_reducible apply State.modApplet_canon | with_reducible apply State.accPd7Down_canon | with_reducible apply State.dropApplet_canon
    | with_reducible apply State.modSvy_canon | with_reducible apply State.loseSram_canon | with_reducible apply State.accAbandon_canon
    | with_reducible apply State.pauseReady_canon | with_reducible apply State.coresOff_canon | with_reducible apply State.Canon.foldl
    | ((fail_if_success with_reducible apply State.Canon.eta); (with_reducible apply State.Canon.upd) <;> [skip; exact rfl; exact rfl; exact rfl])

theorem State.lower1_canon {t : State} {p : Nat} (h : t.Canon) : (t.lower1 p).Canon := by
  unfold State.lower1
  repeat' first
    | with_reducible assumption | extract_lets | with_reducible apply State.modPwr_canon | with_reducible apply State.domainDown_canon
    | ((fail_if_success with_reducible apply State.Canon.eta); (with_reducible apply State.Canon.upd) <;> [skip; exact rfl; exact rfl; exact rfl])

theorem State.closeNext_canon {t : State} (h : t.Canon) : (t.closeNext).Canon := 
  Only.canon (State.closeNext_only (Only.refl _ t) (fun _ h => h)) (by decide) (by decide) h

theorem State.paceAll_canon {t : State} {op : Nat → Nat} (h : t.Canon) : (t.paceAll op).Canon := 
  Only.canon (State.paceAll_only (Only.refl _ t) (fun _ h => h)) (by decide) (by decide) h

theorem State.enterHold_canon {t : State} {e : Entry} (h : t.Canon) : (t.enterHold e).Canon := 
  Only.canon (State.enterHold_only (Only.refl _ t) (fun _ h => h)) (by decide) (by decide) h

theorem State.enterSleep_canon {t : State} {e : Entry} (h : t.Canon) : (t.enterSleep e).Canon := 
  Only.canon (State.enterSleep_only (Only.refl _ t) (fun _ h => h)) (by decide) (by decide) h

theorem State.holdReached_canon {t : State} {e : Entry} (h : t.Canon) : (t.holdReached e).Canon := by
  unfold State.holdReached
  repeat' first
    | with_reducible assumption | extract_lets | with_reducible apply State.enterHold_canon | with_reducible apply State.raise_canon

theorem State.goOn_canon {t : State} (h : t.Canon) : (t.goOn).Canon := by
  unfold State.goOn
  repeat' first
    | with_reducible assumption | extract_lets | with_reducible apply State.Canon.ite | with_reducible apply State.holdReached_canon
    | with_reducible apply State.closeNext_canon | with_reducible apply State.enterSleep_canon | split

theorem State.forceOffs_canon {t : State} {away : Nat → Bool} (h : t.Canon) : (t.forceOffs away).Canon := by
  unfold State.forceOffs
  repeat' first
    | with_reducible assumption | intro _ | extract_lets | with_reducible apply State.Canon.ite | with_reducible apply State.valveOff_canon
    | with_reducible apply State.endCmd_canon | with_reducible apply State.setPf_canon | with_reducible apply State.unitOff_canon
    | with_reducible apply State.valveEnd_canon | with_reducible apply State.mxStop_canon | with_reducible apply State.modValve_canon
    | with_reducible apply State.Canon.foldl

theorem State.cancelJobs_canon {t : State} (h : t.Canon) : (t.cancelJobs).Canon := 
  Only.canon (State.cancelJobs_only (Only.refl _ t) (fun _ h => h)) (by decide) (by decide) h

theorem State.saveInputs_canon {t : State} (h : t.Canon) : (t.saveInputs).Canon := 
  Only.canon (State.saveInputs_only (Only.refl _ t) (fun _ h => h)) (by decide) (by decide) h

theorem State.saveState_canon {t : State} (h : t.Canon) : (t.saveState).Canon := 
  Only.canon (State.saveState_only (Only.refl _ t) (fun _ h => h)) (by decide) (by decide) h

theorem State.armAt_canon {t : State} {e : Entry} (h : t.Canon) : (t.armAt e).Canon := by
  unfold State.armAt
  repeat' first
    | with_reducible assumption | extract_lets | with_reducible apply State.Canon.ite | with_reducible apply State.modPwr_canon
    | with_reducible apply State.closeAll_canon | with_reducible apply State.startSurvey_canon | with_reducible apply State.complete_canon
    | with_reducible apply State.wmEndAll_canon | with_reducible apply State.saveInputs_canon | with_reducible apply State.release_canon | split
    | dsimp +zetaDelta only

theorem State.legend_canon {t : State} {word : Nat} {detail : Nat} {ts : Nat} (h : t.Canon) : (t.legend word detail ts).Canon := 
  Only.canon (State.legend_only (Only.refl _ t) (fun _ h => h)) (by decide) (by decide) h

theorem State.legendAlso_canon {t : State} {code : Nat} {detail : Nat} (h : t.Canon) : (t.legendAlso code detail).Canon := 
  Only.canon (State.legendAlso_only (Only.refl _ t) (fun _ h => h)) (by decide) (by decide) h

theorem State.paceRestore_canon {t : State} (h : t.Canon) : (t.paceRestore).Canon := 
  Only.canon (State.paceRestore_only (Only.refl _ t) (fun _ h => h)) (by decide) (by decide) h

theorem State.backToRun_canon {t : State} (h : t.Canon) : (t.backToRun).Canon := by
  unfold State.backToRun
  repeat' first
    | with_reducible assumption | extract_lets | with_reducible apply State.modPwr_canon | with_reducible apply State.surveyInRun_canon
    | with_reducible apply State.closeNext_canon | with_reducible apply State.paceRestore_canon | with_reducible apply State.raise_canon

theorem State.linAfterWake_canon {t : State} {code : Nat} (h : t.Canon) : (t.linAfterWake code).Canon := 
  Only.canon (State.linAfterWake_only (Only.refl _ t) (fun _ h => h)) (by decide) (by decide) h

theorem State.rejoin_canon {t : State} {e : Entry} (h : t.Canon) : (t.rejoin e).Canon := 
  Only.canon (State.rejoin_only (Only.refl _ t) (fun _ h => h)) (by decide) (by decide) h

theorem State.wakeHold_canon {t : State} {code : Nat} {detail : Nat} {ts : Nat} (h : t.Canon) : (t.wakeHold code detail ts).Canon := by
  unfold State.wakeHold
  repeat' first
    | with_reducible assumption | intro _ | extract_lets | with_reducible apply State.Canon.ite | with_reducible apply State.legend_canon
    | with_reducible apply State.backToRun_canon | with_reducible apply State.linAfterWake_canon | with_reducible apply State.tellChanges_canon
    | with_reducible apply State.emitAt_canon | with_reducible apply State.agrReady_canon | with_reducible apply State.powerEvent_canon
    | with_reducible apply State.emit_canon

theorem State.wakeStart_canon {t : State} {word : Nat} {detail : Nat} (h : t.Canon) : (t.wakeStart word detail).Canon := 
  Only.canon (State.wakeStart_only (Only.refl _ t) (fun _ h => h)) (by decide) (by decide) h

theorem State.wakeDuring_canon {t : State} {e : Entry} {code : Nat} {detail : Nat} {ts : Nat} (h : t.Canon) : (t.wakeDuring e code detail ts).Canon := by
  unfold State.wakeDuring
  repeat' first
    | with_reducible assumption | intro _ | extract_lets | with_reducible apply State.Canon.ite | with_reducible apply State.modPwr_canon
    | with_reducible apply State.legend_canon | with_reducible apply State.keep_canon | with_reducible apply State.backToRun_canon
    | with_reducible apply State.wakeStart_canon | with_reducible apply State.linAfterWake_canon | with_reducible apply State.keepAt_canon
    | with_reducible apply State.rejoin_canon | with_reducible apply State.tellChanges_canon | with_reducible apply State.pauseReady_canon
    | with_reducible apply State.agrReady_canon
    | ((fail_if_success with_reducible apply State.Canon.eta); (with_reducible apply State.Canon.upd) <;> [skip; exact rfl; exact rfl; exact rfl])

theorem State.wakeUp_canon {t : State} {code : Nat} {bit : Nat} {detail : Nat} {ts : Nat} (h : t.Canon) : (t.wakeUp code bit detail ts).Canon := by
  unfold State.wakeUp
  repeat' first
    | with_reducible assumption | extract_lets | with_reducible apply State.Canon.ite | with_reducible apply State.modPwr_canon
    | with_reducible apply State.legend_canon | with_reducible apply State.wakeDuring_canon | with_reducible apply State.wakeHold_canon
    | with_reducible apply State.wakeStart_canon | with_reducible apply State.legendAlso_canon | with_reducible apply State.abortEntry_canon | split

theorem State.wakeNow_canon {t : State} {code : Nat} {bit : Nat} {detail : Nat} (h : t.Canon) : (t.wakeNow code bit detail).Canon := by
  unfold State.wakeNow
  repeat' first
    | with_reducible assumption | with_reducible apply State.wakeUp_canon

theorem State.surveyMember_canon {t : State} {i : Nat} {v : Nat} {a : Nat} (h : t.Canon) : CanonP (t.surveyMember i v a) := 
  ⟨Only.canon (State.surveyMember_only (Only.refl _ t) (fun _ h => h)).fst (by decide) (by decide) h⟩

theorem State.surveyGroup_canon {t : State} {levels : List Nat} {grp : Nat} {a : Nat} (h : t.Canon) : CanonP (t.surveyGroup levels grp a) := 
  ⟨Only.canon (State.surveyGroup_only (Only.refl _ t) (fun _ h => h)).fst (by decide) (by decide) h⟩

theorem State.surveyRun_canon {t : State} {levels : List Nat} {x1 : List Nat} {x2 : Nat} (h : t.Canon) : (State.surveyRun levels x1 x2 t).Canon := by
  induction x1 generalizing t levels x2 with
  | nil => unfold State.surveyRun; exact h
  | cons a as ih =>
    unfold State.surveyRun
    repeat' first
      | with_reducible assumption | with_reducible apply ih | extract_lets | with_reducible apply State.Canon.ite
      | with_reducible apply State.wakeUp_canon | with_reducible apply State.surveyGroup_canon | with_reducible apply State.Canon.fst | split

theorem State.powerReq_canon {t : State} {q : Rq} {target opt : Nat} {act : State → Nat → State} (h : t.Canon)
    (ha : ∀ u k, u.Canon → (act u k).Canon) : (t.powerReq q target opt act).Canon := by
  refine State.serve_canon h (fun r u hu => ?_)
  split
  · exact State.answer_canon hu
  · split
    · exact State.Canon.of_pair (by assumption) (State.accept_canon hu)
    · split
      · exact State.complete_canon (State.Canon.of_pair (by assumption) (State.accept_canon hu))
      · exact ha _ _ (State.Canon.of_pair (by assumption) (State.accept_canon hu))

theorem State.startEntry_canon {t : State} {target : Nat} {opt : Nat} {h1 : Nat} (h : t.Canon) : (t.startEntry target opt h1).Canon := 
  Only.canon (State.startEntry_only (Only.refl _ t) (fun _ h => h)) (by decide) (by decide) h

theorem State.lgdClear_canon {t : State} (h : t.Canon) : (t.lgdClear).Canon := 
  Only.canon (State.lgdClear_only (Only.refl _ t) (fun _ h => h)) (by decide) (by decide) h

theorem State.domainRefused_canon {t : State} {p : Nat} {on : Bool} {by_ : Nat} (h : t.Canon) : (t.domainRefused p on by_).Canon := 
  Only.canon (State.domainRefused_only (Only.refl _ t) (fun _ h => h)) (by decide) (by decide) h

theorem State.powerRefused_canon {t : State} {off : Nat} {v : Nat} (h : t.Canon) : (t.powerRefused off v).Canon := 
  Only.canon (State.powerRefused_only (Only.refl _ t) (fun _ h => h)) (by decide) (by decide) h

theorem State.powerWritten_canon {t : State} {off : Nat} (h : t.Canon) : (t.powerWritten off).Canon := by
  unfold State.powerWritten
  repeat' first
    | with_reducible assumption | intro _ | extract_lets | with_reducible apply State.Canon.ite | with_reducible apply State.surveyInRun_canon
    | with_reducible apply State.closeNext_canon | with_reducible apply State.modPace_canon | with_reducible apply State.raise_canon
    | with_reducible apply State.Canon.foldl

theorem State.svyWritten_canon {t : State} {off : Nat} {v : Nat} (h : t.Canon) : (t.svyWritten off v).Canon := 
  Only.canon (State.svyWritten_only (Only.refl _ t) (fun _ h => h)) (by decide) (by decide) h

theorem State.inputWritten_canon {t : State} {i : Nat} (h : t.Canon) : (t.inputWritten i).Canon := 
  Only.canon (State.inputWritten_only (Only.refl _ t) (fun _ h => h)) (by decide) (by decide) h

/-! ### Machine/NetSleep.lean -/

theorem State.kaSend_canon {t : State} (h : t.Canon) : (t.kaSend).Canon := 
  Only.canon (State.kaSend_only (Only.refl _ t) (fun _ h => h)) (by decide) (by decide) h

theorem State.releaseBuses_canon {t : State} {c : Nat} (h : t.Canon) : (t.releaseBuses c).Canon := 
  Only.canon (State.releaseBuses_only (Only.refl _ t) (fun _ h => h)) (by decide) (by decide) h

theorem State.netGoOn_canon {t : State} (h : t.Canon) : (t.netGoOn).Canon := by
  unfold State.netGoOn
  repeat' first
    | with_reducible assumption | extract_lets | with_reducible apply State.Canon.ite | with_reducible apply State.modPwr_canon
    | with_reducible apply State.goOn_canon | with_reducible apply State.nameSlot_canon | split
    | ((fail_if_success with_reducible apply State.Canon.eta); (with_reducible apply State.Canon.upd) <;> [skip; exact rfl; exact rfl; exact rfl])

theorem State.commitSleep_canon {t : State} {c : Nat} (h : t.Canon) : (t.commitSleep c).Canon := by
  unfold State.commitSleep
  repeat' first
    | with_reducible assumption | extract_lets | with_reducible apply State.Canon.ite | with_reducible apply State.netGoOn_canon
    | with_reducible apply State.saveState_canon | with_reducible apply State.armAt_canon | with_reducible apply State.cancelJobs_canon
    | with_reducible apply State.modAgr_canon | with_reducible apply State.releaseBuses_canon

/-! ### Machine/FeedMon.lean -/

theorem State.setFeed_canon {t : State} {f : Feed} {ok : Bool} {volt : Nat} (h : t.Canon) : (t.setFeed f ok volt).Canon := 
  Only.canon (State.setFeed_only (Only.refl _ t) (fun _ h => h)) (by decide) (by decide) h

theorem State.chanLost_canon {t : State} {n : Nat} (h : t.Canon) : (t.chanLost n).Canon := 
  Only.canon (State.chanLost_only (Only.refl _ t) (fun _ h => h)) (by decide) (by decide) h

theorem State.loseFeed_canon {t : State} {f : Feed} {volt : Nat} (h : t.Canon) : (t.loseFeed f volt).Canon := 
  Only.canon (State.loseFeed_only (Only.refl _ t) (fun _ h => h)) (by decide) (by decide) h

theorem State.abandonLost_canon {t : State} {l1 : Nat} (h : t.Canon) : (t.abandonLost l1).Canon := 
  Only.canon (State.abandonLost_only (Only.refl _ t) (fun _ h => h)) (by decide) (by decide) h

theorem State.chanRestored_canon {t : State} {n : Nat} (h : t.Canon) : (t.chanRestored n).Canon := 
  Only.canon (State.chanRestored_only (Only.refl _ t) (fun _ h => h)) (by decide) (by decide) h

/-! ### Machine/Boot.lean -/

theorem State.modBoot_canon {t : State} {f : Boot → Boot} (h : t.Canon) : (t.modBoot f).Canon := 
  Only.canon (State.modBoot_only (Only.refl _ t) (fun _ h => h)) (by decide) (by decide) h

theorem State.recordCause_canon {t : State} {word : Nat} (h : t.Canon) : (t.recordCause word).Canon := 
  Only.canon (State.recordCause_only (Only.refl _ t) (fun _ h => h)) (by decide) (by decide) h

theorem State.freshLogic_canon {t : State} {wake : Bool} (h : t.Canon) : (t.freshLogic wake).Canon :=
  ⟨h.1, h.2.1, rising_filter h.2.2.1, h.2.2.2⟩

theorem State.rebuild_canon {t : State} (h : t.Canon) : (t.rebuild).Canon := 
  Only.canon (State.rebuild_only (Only.refl _ t) (fun _ h => h)) (by decide) (by decide) h

theorem State.phase2_canon {t : State} (h : t.Canon) : (t.phase2).Canon := by
  unfold State.phase2
  repeat' first
    | with_reducible assumption | extract_lets | with_reducible apply State.raise_canon | with_reducible apply State.modBoot_canon

theorem State.cold_canon {t : State} (h : t.Canon) : t.cold.Canon :=
  ⟨rising_filter h.1, List.Pairwise.nil, List.Pairwise.nil, h.2.2.2⟩

theorem State.Canon.put_load_light_clk {t : State} {a : Load} {b : Light} {c : TimeBase} (h : t.Canon) : State.Canon { t with load := a, light := b, clk := c } := h
theorem State.Canon.put_pwr {t : State} {a : Power} (h : t.Canon) : State.Canon { t with pwr := a } := h
theorem State.logicReset_canon {t : State} {cause : Nat} (h : t.Canon) : (t.logicReset cause).Canon := by
  unfold State.logicReset
  split
  · exact h
  · extract_lets late u s1 s2 aon faults storm outs window stored survey chans s3 s4 s5 v w x y
    have hu : u.Canon := State.recordCause_canon h
    split
    · exact State.Canon.put_pwr (State.pauseReady_canon hu)
    · have hv : v.Canon := State.Canon.put_load_light_clk (State.freshLogic_canon (State.accAbandon_canon hu))
      clear_value v
      have hy : y.Canon := by
        apply State.Canon.ite
        · exact State.modPwr_canon (State.modBoot_canon hv)
        · exact State.startSurvey_canon (State.modSvy_canon (State.modPwr_canon (State.modBoot_canon hv)))
      clear_value y
      exact State.phase2_canon hy

theorem State.holdWrite_canon {t : State} {v : Nat} (h : t.Canon) : (t.holdWrite v).Canon := 
  Only.canon (State.holdWrite_only (Only.refl _ t) (fun _ h => h)) (by decide) (by decide) h

theorem State.orphan_canon {t : State} {n : Nat} (h : t.Canon) : (t.orphan n).Canon := 
  Only.canon (State.orphan_only (Only.refl _ t) (fun _ h => h)) (by decide) (by decide) h

theorem State.adoptChan_canon {t : State} {kept : Bool} {n : Nat} (h : t.Canon) : (t.adoptChan kept n).Canon := 
  Only.canon (State.adoptChan_only (Only.refl _ t) (fun _ h => h)) (by decide) (by decide) h

theorem State.evenOut_canon {t : State} {k : Nat} (h : t.Canon) : (t.evenOut k).Canon := 
  Only.canon (State.evenOut_only (Only.refl _ t) (fun _ h => h)) (by decide) (by decide) h

theorem State.resumePulse_canon {t : State} {g : Nat} {u : Nat} (h : t.Canon) : (t.resumePulse g u).Canon := 
  Only.canon (State.resumePulse_only (Only.refl _ t) (fun _ h => h)) (by decide) (by decide) h

theorem State.restartGens_canon {t : State} {t1 : Nat} (h : t.Canon) : (t.restartGens t1).Canon := 
  Only.canon (State.restartGens_only (Only.refl _ t) (fun _ h => h)) (by decide) (by decide) h

theorem State.adopt_canon {t : State} (h : t.Canon) : (t.adopt).Canon := 
  Only.canon (State.adopt_only (Only.refl _ t) (fun _ h => h)) (by decide) (by decide) h

theorem State.recover_canon {t : State} {err : Nat} (h : t.Canon) : (t.recover err).Canon := by
  unfold State.recover
  repeat' first
    | with_reducible assumption | extract_lets | with_reducible apply State.Canon.ite | with_reducible apply State.modPwr_canon
    | with_reducible apply State.raise_canon | with_reducible apply State.modBoot_canon | with_reducible apply State.lower1_canon

theorem State.selfTested_canon {t : State} {failed : List (Nat × Nat × Nat)} (h : t.Canon) : (t.selfTested failed).Canon := by
  unfold State.selfTested
  repeat' first
    | with_reducible assumption | intro _ | extract_lets | with_reducible apply State.loseMem_canon | with_reducible apply State.memEvent_canon
    | with_reducible apply State.modBoot_canon | with_reducible apply State.Canon.foldl
    | ((fail_if_success with_reducible apply State.Canon.eta); (with_reducible apply State.Canon.upd) <;> [skip; exact rfl; exact rfl; exact rfl])

theorem State.selectSlot_canon {t : State} (h : t.Canon) : (t.selectSlot).Canon := 
  Only.canon (State.selectSlot_only (Only.refl _ t) (fun _ h => h)) (by decide) (by decide) h

theorem State.checkSlot5_canon {t : State} {digestOk : Bool} (h : t.Canon) : (t.checkSlot5 digestOk).Canon := by
  unfold State.checkSlot5
  repeat' first
    | with_reducible assumption | extract_lets | with_reducible apply State.Canon.ite | with_reducible apply State.modSlot_canon
    | with_reducible apply State.modBoot_canon | with_reducible apply State.modFw_canon | with_reducible apply State.recover_canon

theorem State.raiseEdition_canon {t : State} (h : t.Canon) : (t.raiseEdition).Canon := by
  unfold State.raiseEdition
  repeat' first
    | with_reducible assumption | extract_lets | with_reducible apply State.Canon.ite | with_reducible apply State.setPar_canon
    | with_reducible apply State.setStored_canon | with_reducible apply State.modFw_canon

theorem State.init_canon {t : State} (h : t.Canon) : t.init.Canon := by
  have hw : ∀ (l : List (Nat × Nat)) (w : List (Nat × Nat)), Rising w → Rising (l.foldl (fun l p => kvPut p.1 p.2 l) w) := by
    intro l
    induction l with
    | nil => exact fun w h => h
    | cons x l ih => exact fun w h => ih _ (rising_kvPut h)
  unfold State.init
  extract_lets work src u v w x y z a b c
  have hu : u.Canon := ⟨h.1, h.2.1, hw _ _ (rising_filter h.2.2.1), h.2.2.2⟩
  have hw : w.Canon := State.setPar_canon (State.raiseEdition_canon hu)
  have hx : x.Canon := State.Canon.ite hw (State.writeFilters_canon hw)
  have ha : a.Canon := State.startCore_canon (State.railStart_canon (State.paceRestore_canon (State.raise_canon (State.rebuild_canon hx))))
  have hb : b.Canon := State.Canon.ite ha (State.restartGens_canon ha)
  have hc : c.Canon := State.memParWritten_canon (State.setCtrl_canon hb)
  exact State.closeNext_canon (State.surveyInRun_canon (State.modBoot_canon (State.modPwr_canon hc)))

theorem State.keepStart_canon {t : State} {code : Nat} {value : Nat} (h : t.Canon) : (t.keepStart code value).Canon := 
  Only.canon (State.keepStart_only (Only.refl _ t) (fun _ h => h)) (by decide) (by decide) h

theorem State.becomeReady_canon {t : State} (h : t.Canon) : (t.becomeReady).Canon := 
  Only.canon (State.becomeReady_only (Only.refl _ t) (fun _ h => h)) (by decide) (by decide) h

theorem State.phase7_canon {t : State} (h : t.Canon) : (t.phase7).Canon := 
  Only.canon (State.phase7_only (Only.refl _ t) (fun _ h => h)) (by decide) (by decide) h

theorem State.bankOff_canon {t : State} {b : Nat} (h : t.Canon) : (t.bankOff b).Canon := 
  Only.canon (State.bankOff_only (Only.refl _ t) (fun _ h => h)) (by decide) (by decide) h

/-! ### Machine/Regs.lean -/

theorem State.mbxClaim_canon {t : State} {ses : Nat} {unit : Nat} (h : t.Canon) : (t.mbxClaim ses unit).Canon := 
  Only.canon (State.mbxClaim_only (Only.refl _ t) (fun _ h => h)) (by decide) (by decide) h

theorem State.mbxGo_canon {t : State} {ses : Nat} {unit : Nat} (h : t.Canon) : CanonP (t.mbxGo ses unit) := 
  ⟨Only.canon (State.mbxGo_only (Only.refl _ t) (fun _ h => h)).fst (by decide) (by decide) h⟩

theorem State.mbxPut_canon {t : State} {ses : Nat} {unit : Nat} {o : Nat} {bs : List Byte} (h : t.Canon) : CanonP (t.mbxPut ses unit o bs) := 
  ⟨Only.canon (State.mbxPut_only (Only.refl _ t) (fun _ h => h)).fst (by decide) (by decide) h⟩

theorem State.mbxLen_canon {t : State} {ses : Nat} {unit : Nat} {n : Nat} (h : t.Canon) : CanonP (t.mbxLen ses unit n) := 
  ⟨Only.canon (State.mbxLen_only (Only.refl _ t) (fun _ h => h)).fst (by decide) (by decide) h⟩

theorem State.mbxAck_canon {t : State} {ses : Nat} {unit : Nat} (h : t.Canon) : CanonP (t.mbxAck ses unit) := 
  ⟨Only.canon (State.mbxAck_only (Only.refl _ t) (fun _ h => h)).fst (by decide) (by decide) h⟩

theorem State.mbxClear_canon {t : State} {mask : Nat} (h : t.Canon) : (t.mbxClear mask).Canon := 
  Only.canon (State.mbxClear_only (Only.refl _ t) (fun _ h => h)) (by decide) (by decide) h

theorem State.mbxIrqClear_canon {t : State} {ses : Nat} {mask : Nat} (h : t.Canon) : (t.mbxIrqClear ses mask).Canon := 
  Only.canon (State.mbxIrqClear_only (Only.refl _ t) (fun _ h => h)) (by decide) (by decide) h

theorem State.regRead32_canon {t : State} {port : Nat} {a : Nat} (h : t.Canon) : CanonP (t.regRead32 port a) := 
  ⟨Only.canon (State.regRead32_only (Only.refl _ t) (fun _ h => h)).fst (by decide) (by decide) h⟩

theorem State.regRead_canon {t : State} {ini : Initiator} {port : Nat} {a : Nat} {size : Nat} (h : t.Canon) : CanonP (t.regRead ini port a size) := 
  ⟨Only.canon (State.regRead_only (Only.refl _ t) (fun _ h => h)).fst (by decide) (by decide) h⟩

theorem State.sesWrite_canon {t : State} {i : Nat} {unit : Nat} {r : Nat} {v : Nat} (h : t.Canon) : CanonP (t.sesWrite i unit r v) := 
  ⟨Only.canon (State.sesWrite_only (Only.refl _ t) (fun _ h => h)).fst (by decide) (by decide) h⟩

theorem State.dbgCtrl_canon {t : State} {k : Nat} {v : Nat} (h : t.Canon) : (t.dbgCtrl k v).Canon := 
  Only.canon (State.dbgCtrl_only (Only.refl _ t) (fun _ h => h)) (by decide) (by decide) h

theorem State.dbgStep_canon {t : State} {k : Nat} (h : t.Canon) : (t.dbgStep k).Canon := 
  Only.canon (State.dbgStep_only (Only.refl _ t) (fun _ h => h)) (by decide) (by decide) h

theorem State.dbgCoreWrite_canon {t : State} {k : Nat} {r : Nat} {v : Nat} (h : t.Canon) : CanonP (t.dbgCoreWrite k r v) := 
  ⟨Only.canon (State.dbgCoreWrite_only (Only.refl _ t) (fun _ h => h)).fst (by decide) (by decide) h⟩

theorem State.dbgClrRecord_canon {t : State} (h : t.Canon) : (t.dbgClrRecord).Canon := 
  Only.canon (State.dbgClrRecord_only (Only.refl _ t) (fun _ h => h)) (by decide) (by decide) h

theorem State.dbgClrCounts_canon {t : State} (h : t.Canon) : (t.dbgClrCounts).Canon := 
  Only.canon (State.dbgClrCounts_only (Only.refl _ t) (fun _ h => h)) (by decide) (by decide) h

theorem State.lgdCtrl_canon {t : State} {v : Nat} (h : t.Canon) : (t.lgdCtrl v).Canon := 
  Only.canon (State.lgdCtrl_only (Only.refl _ t) (fun _ h => h)) (by decide) (by decide) h

theorem State.memWriteReg_canon {t : State} {off : Nat} {v : Nat} (h : t.Canon) : (t.memWriteReg off v).Canon := 
  Only.canon (State.memWriteReg_only (Only.refl _ t) (fun _ h => h)) (by decide) (by decide) h

theorem State.paceRegWrite_canon {t : State} {off : Nat} {v : Nat} (h : t.Canon) : (t.paceRegWrite off v).Canon := 
  Only.canon (State.paceRegWrite_only (Only.refl _ t) (fun _ h => h)) (by decide) (by decide) h

theorem State.regWrite32_canon {t : State} {ini : Initiator} {a : Nat} {v : Nat} (h : t.Canon) : CanonP (t.regWrite32 ini a v) := by
  unfold State.regWrite32
  repeat' first
    | with_reducible assumption | extract_lets | with_reducible apply State.Canon.ite | with_reducible apply State.dbgClrRecord_canon
    | with_reducible apply State.memWriteReg_canon | with_reducible apply State.lgdCtrl_canon | with_reducible apply State.ilErrClear_canon
    | with_reducible apply State.mbxClear_canon | with_reducible apply State.setCtrl_canon | with_reducible apply State.dbgClrCounts_canon
    | with_reducible apply State.sesWrite_canon | with_reducible apply State.proofWrite_canon | with_reducible apply State.dbgCoreWrite_canon
    | with_reducible apply State.paceRegWrite_canon | with_reducible apply State.holdWrite_canon | with_reducible apply CanonP.ite | split
    | with_reducible apply CanonP.pair

theorem State.regWritePart_canon {t : State} {ini : Initiator} {a : Nat} {size : Nat} {v : Nat} (h : t.Canon) : CanonP (t.regWritePart ini a size v) := by
  unfold State.regWritePart
  repeat' first
    | with_reducible assumption | extract_lets | with_reducible apply State.regWrite32_canon | split | with_reducible apply CanonP.pair

theorem State.regWrite_canon {t : State} {ini : Initiator} {a : Nat} {size : Nat} {v : Nat} (h : t.Canon) : CanonP (t.regWrite ini a size v) := by
  unfold State.regWrite
  repeat' first
    | with_reducible assumption | extract_lets | with_reducible apply State.regWrite32_canon | with_reducible apply State.mbxPut_canon
    | with_reducible apply State.regWritePart_canon | with_reducible apply State.Canon.fst | with_reducible apply CanonP.ite | split
    | with_reducible apply CanonP.pair

theorem State.regCmd_canon {t : State} {ini : Initiator} {a : Nat} {size : Nat} {v : Nat} (h : t.Canon) : (t.regCmd ini a size v).Canon := by
  unfold State.regCmd
  repeat' first
    | with_reducible assumption | extract_lets | with_reducible apply State.Canon.ite | with_reducible apply State.regWrite_canon
    | with_reducible apply State.accessErr_canon | with_reducible apply State.Canon.fst

/-! ### Machine/Fabric.lean -/

theorem State.target_canon {t : State} {r : FabReq} (h : t.Canon) : CanonP (t.target r) := by
  unfold State.target
  repeat' first
    | with_reducible assumption | extract_lets | with_reducible apply State.memRead_canon | with_reducible apply State.sramAccess_canon
    | with_reducible apply State.regRead_canon | with_reducible apply State.regWrite_canon | with_reducible apply State.memWrite_canon
    | with_reducible refine State.Canon.of_pair (by with_reducible assumption) ?_ | with_reducible apply CanonP.ite | split
    | with_reducible apply CanonP.pair

theorem State.serveReq_canon {t : State} {l1 : List (Nat × FabEntry)} {i : Nat} {e : FabEntry} (h : t.Canon) : (t.serveReq l1 i e).Canon := by
  unfold State.serveReq
  repeat' first
    | with_reducible assumption | extract_lets | with_reducible apply State.Canon.ite | with_reducible apply State.target_canon
    | with_reducible refine State.Canon.of_pair (by with_reducible assumption) ?_ | split
    | ((fail_if_success with_reducible apply State.Canon.eta); (with_reducible apply State.Canon.upd) <;> [skip; exact rfl; exact rfl; exact rfl])

theorem State.arbitrate_canon {t : State} {all : Bool} {x1 : Nat} (h : t.Canon) : (State.arbitrate all x1 t).Canon := by
  induction x1 generalizing t all with
  | zero => unfold State.arbitrate; exact h
  | succ k ih =>
    unfold State.arbitrate
    repeat' first
      | with_reducible assumption | with_reducible apply ih | extract_lets | with_reducible apply State.serveReq_canon | split

theorem State.serveOlder_canon {t : State} (h : t.Canon) : (t.serveOlder).Canon := by
  unfold State.serveOlder
  repeat' first
    | with_reducible assumption | with_reducible apply State.arbitrate_canon

theorem State.serveAll_canon {t : State} (h : t.Canon) : (t.serveAll).Canon := by
  unfold State.serveAll
  repeat' first
    | with_reducible assumption | with_reducible apply State.arbitrate_canon

theorem State.request_canon {t : State} {r : FabReq} {served : Bool} (h : t.Canon) : (t.request r served).Canon := by
  unfold State.request
  repeat' first
    | with_reducible assumption | extract_lets | with_reducible apply State.Canon.ite | with_reducible apply State.inService_canon
    | with_reducible apply State.twinOut_canon | with_reducible apply State.serveOlder_canon | split

theorem State.access_canon {t : State} {r : FabReq} (h : t.Canon) : CanonP (t.access r) := by
  unfold State.access
  repeat' first
    | with_reducible assumption | extract_lets | with_reducible apply State.target_canon | with_reducible apply State.serveOlder_canon
    | with_reducible apply CanonP.ite | split | with_reducible apply CanonP.pair

theorem State.reread_canon {t : State} {r : FabReq} (h : t.Canon) : (t.reread r).Canon := by
  unfold State.reread
  repeat' first
    | with_reducible assumption | with_reducible apply State.request_canon

theorem State.classify11_canon {t : State} {r : FabReq} {code : Nat} (h : t.Canon) : (t.classify11 r code).Canon := 
  Only.canon (State.classify11_only (Only.refl _ t) (fun _ h => h)) (by decide) (by decide) h

theorem State.delivered_canon {t : State} {r : FabReq} {code : Nat} {data : Nat} (h : t.Canon) : (t.delivered r code data).Canon := by
  unfold State.delivered
  repeat' first
    | with_reducible assumption | extract_lets | with_reducible apply State.Canon.ite | with_reducible apply State.classify11_canon
    | with_reducible apply State.fabErr_canon | with_reducible apply State.respond_canon | with_reducible apply State.reread_canon

theorem State.endReq_canon {t : State} {i : Nat} (h : t.Canon) : (t.endReq i).Canon := 
  Only.canon (State.endReq_only (Only.refl _ t) (fun _ h => h)) (by decide) (by decide) h

theorem State.lateWrite_canon {t : State} {r : FabReq} (h : t.Canon) : (t.lateWrite r).Canon := by
  unfold State.lateWrite
  repeat' first
    | with_reducible assumption | extract_lets | with_reducible apply State.Canon.ite | with_reducible apply State.target_canon
    | with_reducible apply State.Canon.fst

theorem State.inboundWord_canon {t : State} {write : Bool} {be : Nat} {a : Nat} {v : Nat} (h : t.Canon) : CanonP (t.inboundWord write be a v) := by
  unfold State.inboundWord
  repeat' first
    | with_reducible assumption | extract_lets | with_reducible apply State.target_canon
    | with_reducible refine State.Canon.of_pair (by with_reducible assumption) ?_ | with_reducible apply CanonP.ite | split
    | with_reducible apply CanonP.pair

theorem State.inboundWords_canon {t : State} {write : Bool} {be : Nat} {a : Nat} {ws : List Nat} {x5 : Nat} {x6 : Nat} {x7 : Nat} {x8 : List Nat} (h : t.Canon) : CanonP (t.inboundWords write be a ws x5 x6 x7 x8) := by
  induction x5 generalizing t write be a ws x6 x7 x8 with
  | zero => unfold State.inboundWords; exact ⟨h⟩
  | succ k ih =>
    unfold State.inboundWords
    repeat' first
      | with_reducible assumption | with_reducible apply ih | extract_lets | with_reducible apply State.inboundWord_canon
      | with_reducible apply State.Canon.fst

theorem State.sendRsp_canon {t : State} {r : LinkReq} {code : Nat} {ex : Bool} {retry : Bool} {ws : List Nat} (h : t.Canon) : (t.sendRsp r code ex retry ws).Canon := 
  Only.canon (State.sendRsp_only (Only.refl _ t) (fun _ h => h)) (by decide) (by decide) h

theorem State.inboundErr_canon {t : State} {code : Nat} {a : Nat} (h : t.Canon) : (t.inboundErr code a).Canon := 
  Only.canon (State.inboundErr_only (Only.refl _ t) (fun _ h => h)) (by decide) (by decide) h

theorem State.inboundEx_canon {t : State} {r : LinkReq} (h : t.Canon) : CanonP (t.inboundEx r) := by
  unfold State.inboundEx
  repeat' first
    | with_reducible assumption | extract_lets | with_reducible apply State.memRead_canon | with_reducible apply State.exWrite_canon
    | with_reducible apply State.unlocked_canon | with_reducible apply State.sramWrite_canon | with_reducible apply State.modTwin_canon
    | with_reducible refine State.Canon.of_pair (by with_reducible assumption) ?_ | with_reducible apply CanonP.ite | split
    | with_reducible apply CanonP.pair

theorem State.inbound_canon {t : State} {r : LinkReq} (h : t.Canon) : (t.inbound r).Canon := by
  unfold State.inbound
  repeat' first
    | with_reducible assumption | extract_lets | with_reducible apply State.Canon.ite | with_reducible apply State.inboundWords_canon
    | with_reducible apply State.inboundEx_canon | with_reducible apply State.sendRsp_canon | with_reducible apply State.inboundErr_canon
    | with_reducible apply State.Canon.fst

theorem State.benchWord_canon {t : State} {write : Bool} {off : Nat} {v : Nat} (h : t.Canon) : CanonP (t.benchWord write off v) := by
  unfold State.benchWord
  repeat' first
    | with_reducible assumption | extract_lets | with_reducible apply State.regRead_canon | with_reducible apply State.regWrite_canon
    | with_reducible apply State.fabErr_canon | with_reducible refine State.Canon.of_pair (by with_reducible assumption) ?_
    | with_reducible apply CanonP.ite | split | with_reducible apply CanonP.pair

theorem State.benchRun_canon {t : State} {write : Bool} {data : List Byte} {x2 : Nat} {x3 : Nat} {x4 : Nat} {x6 : List Byte} {x7 : Nat} (h : t.Canon) : CanonP (State.benchRun write data x2 x3 x4 t x6 x7) := by
  induction x2 generalizing t write data x3 x4 x6 x7 with
  | zero => unfold State.benchRun; exact ⟨h⟩
  | succ k ih =>
    unfold State.benchRun
    repeat' first
      | with_reducible assumption | with_reducible apply ih | extract_lets | with_reducible apply State.benchWord_canon
      | with_reducible apply State.Canon.fst

theorem State.benchRefuse_canon {t : State} {code : Nat} {addr : Nat} {n : Nat} (h : t.Canon) : (t.benchRefuse code addr n).Canon := 
  Only.canon (State.benchRefuse_only (Only.refl _ t) (fun _ h => h)) (by decide) (by decide) h

/-! ### Machine/Dma.lean -/

theorem State.dmaData_canon {t : State} {n : Nat} {k : Nat} (h : t.Canon) : CanonP (t.dmaData n k) := by
  unfold State.dmaData
  repeat' first
    | with_reducible assumption | extract_lets | with_reducible apply State.access_canon | with_reducible apply CanonP.ite
    | with_reducible apply CanonP.pair

theorem State.dmaElem_canon {t : State} {n : Nat} {k : Nat} (h : t.Canon) : CanonP (t.dmaElem n k) := by
  unfold State.dmaElem
  repeat' first
    | with_reducible assumption | extract_lets | with_reducible apply State.dmaData_canon | with_reducible apply State.access_canon
    | with_reducible apply State.Canon.fst | with_reducible refine State.Canon.of_pair (by with_reducible assumption) ?_
    | with_reducible apply CanonP.ite | split | with_reducible apply CanonP.pair

theorem State.dmaLate_canon {t : State} {n : Nat} {k : Nat} (h : t.Canon) : (t.dmaLate n k).Canon := by
  unfold State.dmaLate
  repeat' first
    | with_reducible assumption | extract_lets | with_reducible apply State.Canon.ite | with_reducible apply State.dmaData_canon
    | with_reducible apply State.lateWrite_canon | with_reducible apply State.Canon.fst

theorem State.dmaRun_canon {t : State} {n : Nat} {stop : Option Nat} {x2 : Nat} {x3 : Nat} (h : t.Canon) : CanonP (State.dmaRun n stop x2 x3 t) := by
  induction x2 generalizing t n stop x3 with
  | zero => unfold State.dmaRun; exact ⟨h⟩
  | succ k ih =>
    unfold State.dmaRun
    repeat' first
      | with_reducible assumption | with_reducible apply ih | extract_lets | with_reducible apply State.dmaElem_canon
      | with_reducible apply State.Canon.fst | with_reducible apply CanonP.ite | with_reducible apply CanonP.pair

theorem State.dmaFail_canon {t : State} {n : Nat} {k : Nat} {code : Nat} {addr : Nat} (h : t.Canon) : (t.dmaFail n k code addr).Canon := 
  Only.canon (State.dmaFail_only (Only.refl _ t) (fun _ h => h)) (by decide) (by decide) h

theorem State.dmaLoad_canon {t : State} {n : Nat} {a : Nat} (h : t.Canon) : (t.dmaLoad n a).Canon := by
  unfold State.dmaLoad
  repeat' first
    | with_reducible assumption | intro _ | extract_lets | with_reducible apply State.Canon.ite | with_reducible apply State.modDma_canon
    | with_reducible apply State.fabErr_canon | with_reducible apply State.access_canon | with_reducible apply State.dmaHalt_canon
    | with_reducible apply State.Canon.fst | with_reducible refine State.Canon.of_pair (by with_reducible assumption) ?_
    | with_reducible apply CanonP.foldl | with_reducible apply CanonP.ite | split | with_reducible apply CanonP.pair

theorem State.dmaStart_canon {t : State} {k : Nat} {v : Nat} {desc : Nat} (h : t.Canon) : CanonP (t.dmaStart k v desc) := by
  unfold State.dmaStart
  repeat' first
    | with_reducible assumption | extract_lets | with_reducible apply State.modDma_canon | with_reducible apply State.dmaLoad_canon
    | with_reducible apply CanonP.ite | with_reducible apply CanonP.pair

theorem State.dmaStop_canon {t : State} {k : Nat} {n : Nat} (h : t.Canon) : (t.dmaStop k n).Canon := by
  unfold State.dmaStop
  repeat' first
    | with_reducible assumption | extract_lets | with_reducible apply State.Canon.ite | with_reducible apply State.dmaRun_canon
    | with_reducible apply State.modDma_canon | with_reducible apply State.fabErr_canon | with_reducible apply State.dmaFail_canon
    | with_reducible apply State.Canon.fst

/-! ### Machine/Xitre.lean -/

theorem State.superTrap_canon {t : State} {t1 : Trap} {async : Bool} (h : t.Canon) : (t.superTrap t1 async).Canon := by
  unfold State.superTrap
  repeat' first
    | with_reducible assumption | extract_lets | with_reducible apply State.Canon.ite | with_reducible apply State.logicReset_canon
    | with_reducible apply State.modCore_canon

theorem State.appTrap_canon {t : State} {n : Nat} {cause : Nat} {code : Nat} (h : t.Canon) : (t.appTrap n cause code).Canon := 
  Only.canon (State.appTrap_only (Only.refl _ t) (fun _ h => h)) (by decide) (by decide) h

theorem State.seqTrap_canon {t : State} {i : Nat} (h : t.Canon) : (t.seqTrap i).Canon := 
  Only.canon (State.seqTrap_only (Only.refl _ t) (fun _ h => h)) (by decide) (by decide) h

theorem State.recordTrap_canon {t : State} {i : Nat} {t1 : Trap} (h : t.Canon) : (t.recordTrap i t1).Canon := 
  Only.canon (State.recordTrap_only (Only.refl _ t) (fun _ h => h)) (by decide) (by decide) h

theorem State.trapCore_canon {t : State} {i : Nat} {t1 : Trap} {async : Bool} (h : t.Canon) : (t.trapCore i t1 async).Canon := by
  unfold State.trapCore
  repeat' first
    | with_reducible assumption | extract_lets | with_reducible apply State.Canon.ite | with_reducible apply State.seqTrap_canon
    | with_reducible apply State.superTrap_canon | with_reducible apply State.modCore_canon | with_reducible apply State.appTrap_canon
    | with_reducible apply State.debugHalt_canon | with_reducible apply State.modDbgCore_canon

theorem State.loadFrom_canon {t : State} {i : Nat} {a : Nat} {size : Nat} {sgn : Bool} {excl : Bool} (h : t.Canon) : (t.loadFrom i a size sgn excl).Canon := by
  unfold State.loadFrom
  repeat' first
    | with_reducible assumption | extract_lets | with_reducible apply State.Canon.ite | with_reducible apply State.memRead_canon
    | with_reducible apply State.modCore_canon | with_reducible apply State.request_canon | with_reducible apply State.Canon.fst

theorem State.storeTo_canon {t : State} {i : Nat} {a : Nat} {size : Nat} {v : Nat} {excl : Bool} (h : t.Canon) : (t.storeTo i a size v excl).Canon := by
  unfold State.storeTo
  repeat' first
    | with_reducible assumption | extract_lets | with_reducible apply State.Canon.ite | with_reducible apply State.modCore_canon
    | with_reducible apply State.request_canon | with_reducible apply State.memWrite_canon | with_reducible apply State.Canon.fst

theorem State.superAccess_canon {t : State} {a : Nat} {size : Nat} {write : Bool} {v : Nat} (h : t.Canon) : CanonP (t.superAccess a size write v) := by
  unfold State.superAccess
  repeat' first
    | with_reducible assumption | extract_lets | with_reducible apply State.portErr_canon | with_reducible apply State.access_canon
    | with_reducible refine State.Canon.of_pair (by with_reducible assumption) ?_ | split | with_reducible apply CanonP.pair

theorem State.stackWrite_canon {t : State} {i : Nat} {a : Nat} {v : Nat} (h : t.Canon) : CanonP (t.stackWrite i a v) := by
  unfold State.stackWrite
  repeat' first
    | with_reducible assumption | extract_lets | with_reducible apply State.superAccess_canon | with_reducible apply State.memWrite_canon
    | with_reducible refine State.Canon.of_pair (by with_reducible assumption) ?_ | with_reducible apply CanonP.ite | split
    | with_reducible apply CanonP.pair

theorem State.stackRead_canon {t : State} {i : Nat} {a : Nat} (h : t.Canon) : CanonP (t.stackRead i a) := by
  unfold State.stackRead
  repeat' first
    | with_reducible assumption | extract_lets | with_reducible apply State.memRead_canon | with_reducible apply State.superAccess_canon
    | with_reducible refine State.Canon.of_pair (by with_reducible assumption) ?_ | with_reducible apply CanonP.ite | split
    | with_reducible apply CanonP.pair

theorem State.pushAll_canon {t : State} {i : Nat} {x1 : List Nat} (h : t.Canon) : CanonP (State.pushAll i x1 t) := by
  induction x1 generalizing t i with
  | nil => unfold State.pushAll; exact ⟨h⟩
  | cons a as ih =>
    unfold State.pushAll
    repeat' first
      | with_reducible assumption | with_reducible apply ih | extract_lets | with_reducible apply State.modCore_canon
      | with_reducible apply State.stackWrite_canon | with_reducible refine State.Canon.of_pair (by with_reducible assumption) ?_ | split
      | with_reducible apply CanonP.pair

theorem State.popRegs_canon {t : State} {i : Nat} {x1 : List Nat} (h : t.Canon) : CanonP (State.popRegs i x1 t) := by
  induction x1 generalizing t i with
  | nil => unfold State.popRegs; exact ⟨h⟩
  | cons a as ih =>
    unfold State.popRegs
    repeat' first
      | with_reducible assumption | with_reducible apply ih | extract_lets | with_reducible apply State.modCore_canon
      | with_reducible apply State.stackRead_canon | with_reducible refine State.Canon.of_pair (by with_reducible assumption) ?_ | split
      | with_reducible apply CanonP.pair

theorem State.doCall_canon {t : State} {i : Nat} {target : Nat} {mask : Nat} {ret : Nat} (h : t.Canon) : CanonP (t.doCall i target mask ret) := by
  unfold State.doCall
  repeat' first
    | with_reducible assumption | extract_lets | with_reducible apply State.modCore_canon | with_reducible apply State.pushAll_canon
    | with_reducible refine State.Canon.of_pair (by with_reducible assumption) ?_ | with_reducible apply CanonP.ite | split
    | with_reducible apply CanonP.pair

theorem State.doRet_canon {t : State} {i : Nat} (h : t.Canon) : CanonP (t.doRet i) := by
  unfold State.doRet
  repeat' first
    | with_reducible assumption | extract_lets | with_reducible apply State.popRegs_canon | with_reducible apply State.modCore_canon
    | with_reducible apply State.stackRead_canon | with_reducible refine State.Canon.of_pair (by with_reducible assumption) ?_
    | with_reducible apply CanonP.ite | split | with_reducible apply CanonP.pair

theorem State.transfer_canon {t : State} {i ret : Nat} (h : t.Canon) : CanonP (t.transfer i ret) := by
  unfold State.transfer
  extract_lets f u
  have hu : u.Canon := State.modCore_canon h
  clear_value u f
  split
  · exact CanonP.pair (State.modCore_canon hu)
  · exact State.doCall_canon hu
  · exact State.doRet_canon hu
  · exact CanonP.pair hu

theorem State.branch_canon {t : State} {i : Nat} {f : Flow} (h : t.Canon) : (t.branch i f).Canon := 
  Only.canon (State.branch_only (Only.refl _ t) (fun _ h => h)) (by decide) (by decide) h

theorem State.doRte_canon {t : State} (h : t.Canon) : (t.doRte).Canon := 
  Only.canon (State.doRte_only (Only.refl _ t) (fun _ h => h)) (by decide) (by decide) h

theorem State.endWait_canon {t : State} {i : Nat} {r : Nat} (h : t.Canon) : (t.endWait i r).Canon := 
  Only.canon (State.endWait_only (Only.refl _ t) (fun _ h => h)) (by decide) (by decide) h

theorem State.bytesFrom_canon {t : State} {x1 : Nat} {x2 : Nat} {x3 : List Byte} (h : t.Canon) : CanonP (t.bytesFrom x1 x2 x3) := by
  induction x1 generalizing t x2 x3 with
  | zero => unfold State.bytesFrom; exact ⟨h⟩
  | succ k ih =>
    unfold State.bytesFrom
    repeat' first
      | with_reducible assumption | with_reducible apply ih | extract_lets | with_reducible apply State.lateErr_canon
      | with_reducible apply State.superAccess_canon | with_reducible apply State.Canon.fst | with_reducible apply CanonP.ite
      | with_reducible apply CanonP.pair

theorem State.bytesTo_canon {t : State} {a : Nat} {x2 : List Byte} (h : t.Canon) : (t.bytesTo a x2).Canon := by
  induction x2 generalizing t a with
  | nil => unfold State.bytesTo; exact h
  | cons a as ih =>
    unfold State.bytesTo
    repeat' first
      | with_reducible assumption | with_reducible apply ih | extract_lets | with_reducible apply State.Canon.ite
      | with_reducible apply State.lateErr_canon | with_reducible apply State.superAccess_canon | with_reducible apply State.Canon.fst

theorem State.shakeAbsorb_canon {t : State} {a : Nat} (h : t.Canon) : (t.shakeAbsorb a).Canon := by
  unfold State.shakeAbsorb
  repeat' first
    | with_reducible assumption | extract_lets | with_reducible apply State.bytesFrom_canon | with_reducible apply State.modCore_canon
    | with_reducible apply State.Canon.fst | split
    | ((fail_if_success with_reducible apply State.Canon.eta); (with_reducible apply State.Canon.upd) <;> [skip; exact rfl; exact rfl; exact rfl])

theorem State.shakeSqueeze_canon {t : State} {a : Nat} (h : t.Canon) : (t.shakeSqueeze a).Canon := by
  unfold State.shakeSqueeze
  repeat' first
    | with_reducible assumption | extract_lets | with_reducible apply State.modCore_canon | with_reducible apply State.bytesTo_canon
    | ((fail_if_success with_reducible apply State.Canon.eta); (with_reducible apply State.Canon.upd) <;> [skip; exact rfl; exact rfl; exact rfl])

theorem State.aesEncrypt_canon {t : State} {a : Nat} (h : t.Canon) : (t.aesEncrypt a).Canon := by
  unfold State.aesEncrypt
  repeat' first
    | with_reducible assumption | extract_lets | with_reducible apply State.Canon.ite | with_reducible apply State.bytesFrom_canon
    | with_reducible apply State.modCore_canon | with_reducible apply State.bytesTo_canon | with_reducible apply State.Canon.fst

theorem State.vlvMove_canon {t : State} {m : Nat} {v : Nat} (h : t.Canon) : (t.vlvMove m v).Canon := 
  Only.canon (State.vlvMove_only (Only.refl _ t) (fun _ h => h)) (by decide) (by decide) h

theorem State.fireLsu_canon {t : State} {i : Nat} {p : Nat} {v : Nat} (h : t.Canon) : (t.fireLsu i p v).Canon := by
  unfold State.fireLsu
  repeat' first
    | with_reducible assumption | extract_lets | with_reducible apply State.Canon.ite | with_reducible apply State.modCore_canon
    | with_reducible apply State.loadFrom_canon | with_reducible apply State.storeTo_canon

theorem State.fireBr_canon {t : State} {i : Nat} {p : Nat} {v : Nat} (h : t.Canon) : (t.fireBr i p v).Canon := 
  Only.canon (State.fireBr_only (Only.refl _ t) (fun _ h => h)) (by decide) (by decide) h

theorem State.firePlant_canon {t : State} {i : Nat} {p : Nat} {v : Nat} (h : t.Canon) : (t.firePlant i p v).Canon := 
  Only.canon (State.firePlant_only (Only.refl _ t) (fun _ h => h)) (by decide) (by decide) h

theorem State.fireCo_canon {t : State} {i : Nat} {p : Nat} {v : Nat} (h : t.Canon) : (t.fireCo i p v).Canon := by
  unfold State.fireCo
  repeat' first
    | with_reducible assumption | extract_lets | with_reducible apply State.Canon.ite | with_reducible apply State.dmaStop_canon
    | with_reducible apply State.shakeSqueeze_canon | with_reducible apply State.shakeAbsorb_canon | with_reducible apply State.modCore_canon
    | with_reducible apply State.aesEncrypt_canon | with_reducible apply State.dmaStart_canon | with_reducible apply State.Canon.fst

theorem State.fire_canon {t : State} {i : Nat} {p : Nat} {v : Nat} (h : t.Canon) : (t.fire i p v).Canon := by
  unfold State.fire
  repeat' first
    | with_reducible assumption | extract_lets | with_reducible apply State.Canon.ite | with_reducible apply State.fireLsu_canon
    | with_reducible apply State.modCore_canon | with_reducible apply State.raiseEv_canon | with_reducible apply State.fireCo_canon
    | with_reducible apply State.firePlant_canon | with_reducible apply State.fireBr_canon | split

theorem State.fetchAt_canon {t : State} {i : Nat} {pc : Nat} (h : t.Canon) : CanonP (t.fetchAt i pc) := by
  unfold State.fetchAt
  repeat' first
    | with_reducible assumption | extract_lets | with_reducible apply State.memRead_canon | with_reducible apply State.memError_canon
    | with_reducible refine State.Canon.of_pair (by with_reducible assumption) ?_ | with_reducible apply CanonP.ite | split
    | with_reducible apply CanonP.pair

theorem State.fetchMoves_canon {t : State} {i : Nat} {x1 : Nat} {x2 : Nat} {x4 : List Move} (h : t.Canon) : CanonP (State.fetchMoves i x1 x2 t x4) := by
  induction x1 generalizing t i x2 x4 with
  | zero => unfold State.fetchMoves; exact ⟨h⟩
  | succ k ih =>
    unfold State.fetchMoves
    repeat' first
      | with_reducible assumption | with_reducible apply ih | extract_lets | with_reducible apply State.fetchAt_canon
      | with_reducible refine State.Canon.of_pair (by with_reducible assumption) ?_ | with_reducible apply CanonP.ite | split
      | with_reducible apply CanonP.pair

theorem State.writePorts_canon {t : State} {i : Nat} {ms : List Move} {vs : List Nat} (h : t.Canon) : (t.writePorts i ms vs).Canon := 
  Only.canon (State.writePorts_only (Only.refl _ t) (fun _ h => h)) (by decide) (by decide) h

theorem State.afterWord_canon {t : State} {i : Nat} {pc : Nat} {slots : Nat} {len : Nat} {rte : Bool} (h : t.Canon) : CanonP (t.afterWord i pc slots len rte) := by
  unfold State.afterWord
  repeat' first
    | with_reducible assumption | extract_lets | with_reducible apply State.modCore_canon | with_reducible apply State.transfer_canon
    | with_reducible apply CanonP.ite | with_reducible apply CanonP.pair

theorem State.runMoves_canon {t : State} {i : Nat} {ms : List Move} (h : t.Canon) : (t.runMoves i ms).Canon := by
  unfold State.runMoves
  repeat' first
    | with_reducible assumption | intro _ | extract_lets | with_reducible apply State.Canon.ite | with_reducible apply State.fire_canon
    | with_reducible apply State.trapCore_canon | with_reducible apply State.recordTrap_canon | with_reducible apply State.afterWord_canon
    | with_reducible apply State.writePorts_canon | with_reducible refine State.Canon.of_pair (by with_reducible assumption) ?_ | split
    | with_reducible apply State.Canon.foldl

theorem State.takeLate_canon {t : State} {i : Nat} {code : Nat} {addr : Nat} (h : t.Canon) : (t.takeLate i code addr).Canon := by
  unfold State.takeLate
  repeat' first
    | with_reducible assumption | extract_lets | with_reducible apply State.modCore_canon | with_reducible apply State.trapCore_canon

theorem State.issue_canon {t : State} {i : Nat} (h : t.Canon) : (t.issue i).Canon := by
  unfold State.issue
  repeat' first
    | with_reducible assumption | extract_lets | with_reducible apply State.Canon.ite | with_reducible apply State.modCore_canon
    | with_reducible apply State.debugHalt_canon | with_reducible apply State.takeLate_canon | with_reducible apply State.trapCore_canon
    | with_reducible apply State.recordTrap_canon | with_reducible apply State.fetchMoves_canon | with_reducible apply State.runMoves_canon
    | with_reducible refine State.Canon.of_pair (by with_reducible assumption) ?_ | split

theorem State.trigger_canon {t : State} {i : Nat} {p : Nat} {v : Nat} {short : Bool} (h : t.Canon) : (t.trigger i p v short).Canon := by
  unfold State.trigger
  repeat' first
    | with_reducible assumption | extract_lets | with_reducible apply State.Canon.ite | with_reducible apply State.fire_canon
    | with_reducible apply State.modCore_canon | with_reducible apply State.trapCore_canon | with_reducible apply State.recordTrap_canon | split

/-! ### Machine/Ring.lean -/

theorem State.takeRec_canon {t : State} {r : RingRec} (h : t.Canon) : (t.takeRec r).Canon := 
  Only.canon (State.takeRec_only (Only.refl _ t) (fun _ h => h)) (by decide) (by decide) h

theorem State.ringWrite_canon {t : State} {a : Nat} {base : Nat} {size : Nat} {entry : List Byte} (h : t.Canon) : (t.ringWrite a base size entry).Canon := by
  unfold State.ringWrite
  repeat' first
    | with_reducible assumption | extract_lets | with_reducible apply State.Canon.ite | with_reducible apply State.raiseEv_canon
    | with_reducible apply State.loadBytes_canon | with_reducible apply State.memWrite_canon | with_reducible apply State.Canon.fst

theorem State.txDrop_canon {t : State} {a : Nat} (h : t.Canon) : (t.txDrop a).Canon := 
  Only.canon (State.txDrop_only (Only.refl _ t) (fun _ h => h)) (by decide) (by decide) h

theorem State.txEntry_canon {t : State} {a : Nat} {src : Nat} {body : List Byte} (h : t.Canon) : (t.txEntry a src body).Canon := 
  Only.canon (State.txEntry_only (Only.refl _ t) (fun _ h => h)) (by decide) (by decide) h

/-! ### Machine/ParamWrite.lean -/

theorem State.appWritten_canon {t : State} {s0 : State} {n : Nat} {off : Nat} {v : Nat} (h : t.Canon) : (State.appWritten s0 t n off v).Canon := by
  unfold State.appWritten
  repeat' first
    | with_reducible assumption | extract_lets | with_reducible apply State.Canon.ite | with_reducible apply State.startApplet_canon
    | with_reducible apply State.stopApplet_canon

theorem State.storeEnt_canon {t : State} {e : PEnt} (h : t.Canon) : (t.storeEnt e).Canon := by
  unfold State.storeEnt
  repeat' first
    | with_reducible assumption | extract_lets | with_reducible apply State.Canon.ite | with_reducible apply State.memParWritten_canon
    | with_reducible apply State.setPar_canon

theorem State.written_canon {t : State} {s0 : State} {e : PEnt} (h : t.Canon) : (State.written s0 t e).Canon := by
  unfold State.written
  repeat' first
    | with_reducible assumption | extract_lets | with_reducible apply State.Canon.ite | with_reducible apply State.mxWritten_canon
    | with_reducible apply State.memParWritten_canon | with_reducible apply State.canWritten_canon | with_reducible apply State.feWritten_canon
    | with_reducible apply State.mrdWritten_canon | with_reducible apply State.checkOver_canon | with_reducible apply State.nsWritten_canon
    | with_reducible apply State.svyWritten_canon | with_reducible apply State.fwWritten_canon | with_reducible apply State.ntcWritten_canon
    | with_reducible apply State.compWritten_canon | with_reducible apply State.ethWritten_canon | with_reducible apply State.powerWritten_canon
    | with_reducible apply State.modPace_canon | with_reducible apply State.genWritten_canon | with_reducible apply State.inputWritten_canon
    | with_reducible apply State.chanWritten_canon | with_reducible apply State.appWritten_canon | with_reducible apply State.linWritten_canon
    | with_reducible apply State.speWritten_canon | with_reducible apply State.bankWritten_canon | with_reducible apply State.twinWritten_canon

theorem State.pairChanged_canon {t : State} {s0 : State} (h : t.Canon) : (State.pairChanged s0 t).Canon := 
  Only.canon (State.pairChanged_only (Only.refl _ t) (fun _ h => h)) (by decide) (by decide) h

theorem State.applySet_canon {t : State} {stamp : Nat} {es : List PEnt} (h : t.Canon) : (t.applySet stamp es).Canon := by
  unfold State.applySet
  repeat' first
    | with_reducible assumption | intro _ | extract_lets | with_reducible apply State.Canon.ite | with_reducible apply State.storeEnt_canon
    | with_reducible apply State.written_canon | with_reducible apply State.sendCtlMsg_canon | with_reducible apply State.pairChanged_canon
    | with_reducible apply State.Canon.foldl

theorem State.writeSet_canon {t : State} {r : InReq} {ws : List ParWrite} (h : t.Canon) : CanonP (t.writeSet r ws) := by
  unfold State.writeSet
  repeat' first
    | with_reducible assumption | extract_lets | with_reducible apply State.applySet_canon | with_reducible apply State.powerRefused_canon | split
    | with_reducible apply CanonP.pair

theorem State.paramWrite_canon {t : State} {q : Rq} {w : ParWrite} (h : t.Canon) : (t.paramWrite q w).Canon := by
  unfold State.paramWrite
  repeat' first
    | with_reducible assumption | intro _ | extract_lets | with_reducible apply State.answer_canon | with_reducible apply State.serve_canon
    | with_reducible apply State.writeSet_canon | with_reducible apply State.Canon.fst

/-! ### Machine/Atlas.lean -/

theorem State.flashWait_canon {t : State} {h1 : Nat} (h : t.Canon) : (t.flashWait h1).Canon := 
  Only.canon (State.flashWait_only (Only.refl _ t) (fun _ h => h)) (by decide) (by decide) h

theorem State.cancelNow_canon {t : State} {x : Hnd} (h : t.Canon) : (t.cancelNow x).Canon := by
  unfold State.cancelNow
  repeat' first
    | with_reducible assumption | extract_lets | with_reducible apply State.Canon.ite | with_reducible apply State.modPwr_canon
    | with_reducible apply State.dropJob_canon | with_reducible apply State.complete_canon | with_reducible apply State.dropSign_canon
    | with_reducible apply State.valveOff_canon | with_reducible apply State.endCmd_canon | with_reducible apply State.raise_canon
    | with_reducible apply State.forward_canon | with_reducible apply State.accStop_canon | with_reducible apply State.valveEnd_canon
    | with_reducible apply State.abandonOn_canon
    | ((fail_if_success with_reducible apply State.Canon.eta); (with_reducible apply State.Canon.upd) <;> [skip; exact rfl; exact rfl; exact rfl])

theorem State.cancelEnded_canon {t : State} {x : Hnd} {st : Nat} {pl : List Byte} (h : t.Canon) : CanonP (t.cancelEnded x st pl) := by
  unfold State.cancelEnded
  repeat' first
    | with_reducible assumption | extract_lets | with_reducible apply State.Canon.ite | with_reducible apply State.valveOff_canon
    | with_reducible apply State.forward_canon | with_reducible apply State.revoke_canon | with_reducible apply State.abandonOn_canon
    | with_reducible apply CanonP.ite | split | with_reducible apply CanonP.pair

theorem State.sendKept_canon {t : State} {ses : Nat} {org : Nat} {mask : Nat} (h : t.Canon) : (t.sendKept ses org mask).Canon := 
  Only.canon (State.sendKept_only (Only.refl _ t) (fun _ h => h)) (by decide) (by decide) h

end Sys2Proof.Machine
end

