-- ==== Sys2Proof/Laws/State.lean ====
section
/-!
SUPPORT. Every elementary update of the state: which fields it leaves as they are, and what a record reads as after it. No later proof
unfolds a record update.
-/
namespace Sys2Proof.Machine

/-! ### The fields that an update leaves -/

@[simp] theorem State.pass_fields (s : State) (g : Lapse) :
    (s.pass g).pace = s.pace ∧ (s.pass g).fab = s.fab ∧ (s.pass g).atlas = s.atlas ∧ (s.pass g).par = s.par ∧ (s.pass g).dbg = s.dbg ∧
    (s.pass g).load = s.load ∧ (s.pass g).iso = s.iso ∧ (s.pass g).ctr = s.ctr ∧ (s.pass g).vlv = s.vlv ∧ (s.pass g).light = s.light ∧
    (s.pass g).pwr = s.pwr ∧ (s.pass g).lgd = s.lgd ∧ (s.pass g).svy = s.svy ∧ (s.pass g).inp = s.inp ∧ (s.pass g).net = s.net ∧
    (s.pass g).agr = s.agr ∧ (s.pass g).acc = s.acc ∧ (s.pass g).xi = s.xi ∧ (s.pass g).mem = s.mem ∧ (s.pass g).dma = s.dma ∧
    (s.pass g).boot = s.boot ∧ (s.pass g).fw = s.fw ∧ (s.pass g).il = s.il ∧ (s.pass g).twin = s.twin ∧ (s.pass g).pending = s.pending := by
  and_intros <;> rfl

@[simp] theorem State.setPar_fields (s : State) (id idx v : Nat) :
    (s.setPar id idx v).clk = s.clk ∧ (s.setPar id idx v).pace = s.pace ∧ (s.setPar id idx v).fab = s.fab ∧ (s.setPar id idx v).atlas = s.atlas ∧
    (s.setPar id idx v).dbg = s.dbg ∧ (s.setPar id idx v).load = s.load ∧ (s.setPar id idx v).iso = s.iso ∧ (s.setPar id idx v).ctr = s.ctr ∧
    (s.setPar id idx v).vlv = s.vlv ∧ (s.setPar id idx v).light = s.light ∧ (s.setPar id idx v).pwr = s.pwr ∧ (s.setPar id idx v).lgd = s.lgd ∧
    (s.setPar id idx v).svy = s.svy ∧ (s.setPar id idx v).inp = s.inp ∧ (s.setPar id idx v).net = s.net ∧ (s.setPar id idx v).agr = s.agr ∧
    (s.setPar id idx v).acc = s.acc ∧ (s.setPar id idx v).xi = s.xi ∧ (s.setPar id idx v).mem = s.mem ∧ (s.setPar id idx v).dma = s.dma ∧
    (s.setPar id idx v).boot = s.boot ∧ (s.setPar id idx v).fw = s.fw ∧ (s.setPar id idx v).il = s.il ∧ (s.setPar id idx v).twin = s.twin ∧
    (s.setPar id idx v).pending = s.pending := by
  and_intros <;> rfl

@[simp] theorem State.setStored_fields (s : State) (id idx v : Nat) :
    (s.setStored id idx v).clk = s.clk ∧ (s.setStored id idx v).pace = s.pace ∧ (s.setStored id idx v).fab = s.fab ∧
    (s.setStored id idx v).atlas = s.atlas ∧ (s.setStored id idx v).dbg = s.dbg ∧ (s.setStored id idx v).load = s.load ∧
    (s.setStored id idx v).iso = s.iso ∧ (s.setStored id idx v).ctr = s.ctr ∧ (s.setStored id idx v).vlv = s.vlv ∧
    (s.setStored id idx v).light = s.light ∧ (s.setStored id idx v).pwr = s.pwr ∧ (s.setStored id idx v).lgd = s.lgd ∧
    (s.setStored id idx v).svy = s.svy ∧ (s.setStored id idx v).inp = s.inp ∧ (s.setStored id idx v).net = s.net ∧
    (s.setStored id idx v).agr = s.agr ∧ (s.setStored id idx v).acc = s.acc ∧ (s.setStored id idx v).xi = s.xi ∧ (s.setStored id idx v).mem = s.mem ∧
    (s.setStored id idx v).dma = s.dma ∧ (s.setStored id idx v).boot = s.boot ∧ (s.setStored id idx v).fw = s.fw ∧ (s.setStored id idx v).il = s.il ∧
    (s.setStored id idx v).twin = s.twin ∧ (s.setStored id idx v).pending = s.pending := by
  and_intros <;> rfl

@[simp] theorem State.setPf_fields (s : State) (x : ParField) (i k v : Nat) :
    (s.setPf x i k v).clk = s.clk ∧ (s.setPf x i k v).pace = s.pace ∧ (s.setPf x i k v).fab = s.fab ∧ (s.setPf x i k v).atlas = s.atlas ∧
    (s.setPf x i k v).dbg = s.dbg ∧ (s.setPf x i k v).load = s.load ∧ (s.setPf x i k v).iso = s.iso ∧ (s.setPf x i k v).ctr = s.ctr ∧
    (s.setPf x i k v).vlv = s.vlv ∧ (s.setPf x i k v).light = s.light ∧ (s.setPf x i k v).pwr = s.pwr ∧ (s.setPf x i k v).lgd = s.lgd ∧
    (s.setPf x i k v).svy = s.svy ∧ (s.setPf x i k v).inp = s.inp ∧ (s.setPf x i k v).net = s.net ∧ (s.setPf x i k v).agr = s.agr ∧
    (s.setPf x i k v).acc = s.acc ∧ (s.setPf x i k v).xi = s.xi ∧ (s.setPf x i k v).mem = s.mem ∧ (s.setPf x i k v).dma = s.dma ∧
    (s.setPf x i k v).boot = s.boot ∧ (s.setPf x i k v).fw = s.fw ∧ (s.setPf x i k v).il = s.il ∧ (s.setPf x i k v).twin = s.twin ∧
    (s.setPf x i k v).pending = s.pending := by
  and_intros <;> rfl

@[simp] theorem State.setChan_fields (s : State) (n : Nat) (c : Chan) :
    (s.setChan n c).clk = s.clk ∧ (s.setChan n c).pace = s.pace ∧ (s.setChan n c).fab = s.fab ∧ (s.setChan n c).atlas = s.atlas ∧
    (s.setChan n c).par = s.par ∧ (s.setChan n c).dbg = s.dbg ∧ (s.setChan n c).iso = s.iso ∧ (s.setChan n c).ctr = s.ctr ∧
    (s.setChan n c).vlv = s.vlv ∧ (s.setChan n c).light = s.light ∧ (s.setChan n c).pwr = s.pwr ∧ (s.setChan n c).lgd = s.lgd ∧
    (s.setChan n c).svy = s.svy ∧ (s.setChan n c).inp = s.inp ∧ (s.setChan n c).net = s.net ∧ (s.setChan n c).agr = s.agr ∧
    (s.setChan n c).acc = s.acc ∧ (s.setChan n c).xi = s.xi ∧ (s.setChan n c).mem = s.mem ∧ (s.setChan n c).dma = s.dma ∧
    (s.setChan n c).boot = s.boot ∧ (s.setChan n c).fw = s.fw ∧ (s.setChan n c).il = s.il ∧ (s.setChan n c).twin = s.twin ∧
    (s.setChan n c).pending = s.pending := by
  and_intros <;> rfl

@[simp] theorem State.modChan_fields (s : State) (n : Nat) (f : Chan → Chan) :
    (s.modChan n f).clk = s.clk ∧ (s.modChan n f).pace = s.pace ∧ (s.modChan n f).fab = s.fab ∧ (s.modChan n f).atlas = s.atlas ∧
    (s.modChan n f).par = s.par ∧ (s.modChan n f).dbg = s.dbg ∧ (s.modChan n f).iso = s.iso ∧ (s.modChan n f).ctr = s.ctr ∧
    (s.modChan n f).vlv = s.vlv ∧ (s.modChan n f).light = s.light ∧ (s.modChan n f).pwr = s.pwr ∧ (s.modChan n f).lgd = s.lgd ∧
    (s.modChan n f).svy = s.svy ∧ (s.modChan n f).inp = s.inp ∧ (s.modChan n f).net = s.net ∧ (s.modChan n f).agr = s.agr ∧
    (s.modChan n f).acc = s.acc ∧ (s.modChan n f).xi = s.xi ∧ (s.modChan n f).mem = s.mem ∧ (s.modChan n f).dma = s.dma ∧
    (s.modChan n f).boot = s.boot ∧ (s.modChan n f).fw = s.fw ∧ (s.modChan n f).il = s.il ∧ (s.modChan n f).twin = s.twin ∧
    (s.modChan n f).pending = s.pending := by
  and_intros <;> rfl

@[simp] theorem State.setComp_fields (s : State) (k : Nat) (c : Comp) :
    (s.setComp k c).clk = s.clk ∧ (s.setComp k c).pace = s.pace ∧ (s.setComp k c).fab = s.fab ∧ (s.setComp k c).atlas = s.atlas ∧
    (s.setComp k c).par = s.par ∧ (s.setComp k c).dbg = s.dbg ∧ (s.setComp k c).iso = s.iso ∧ (s.setComp k c).ctr = s.ctr ∧
    (s.setComp k c).vlv = s.vlv ∧ (s.setComp k c).light = s.light ∧ (s.setComp k c).pwr = s.pwr ∧ (s.setComp k c).lgd = s.lgd ∧
    (s.setComp k c).svy = s.svy ∧ (s.setComp k c).inp = s.inp ∧ (s.setComp k c).net = s.net ∧ (s.setComp k c).agr = s.agr ∧
    (s.setComp k c).acc = s.acc ∧ (s.setComp k c).xi = s.xi ∧ (s.setComp k c).mem = s.mem ∧ (s.setComp k c).dma = s.dma ∧
    (s.setComp k c).boot = s.boot ∧ (s.setComp k c).fw = s.fw ∧ (s.setComp k c).il = s.il ∧ (s.setComp k c).twin = s.twin ∧
    (s.setComp k c).pending = s.pending := by
  and_intros <;> rfl

@[simp] theorem State.setGen_fields (s : State) (g : Nat) (x : Gen) :
    (s.setGen g x).clk = s.clk ∧ (s.setGen g x).pace = s.pace ∧ (s.setGen g x).fab = s.fab ∧ (s.setGen g x).atlas = s.atlas ∧
    (s.setGen g x).par = s.par ∧ (s.setGen g x).dbg = s.dbg ∧ (s.setGen g x).iso = s.iso ∧ (s.setGen g x).ctr = s.ctr ∧ (s.setGen g x).vlv = s.vlv ∧
    (s.setGen g x).light = s.light ∧ (s.setGen g x).pwr = s.pwr ∧ (s.setGen g x).lgd = s.lgd ∧ (s.setGen g x).svy = s.svy ∧
    (s.setGen g x).inp = s.inp ∧ (s.setGen g x).net = s.net ∧ (s.setGen g x).agr = s.agr ∧ (s.setGen g x).acc = s.acc ∧ (s.setGen g x).xi = s.xi ∧
    (s.setGen g x).mem = s.mem ∧ (s.setGen g x).dma = s.dma ∧ (s.setGen g x).boot = s.boot ∧ (s.setGen g x).fw = s.fw ∧ (s.setGen g x).il = s.il ∧
    (s.setGen g x).twin = s.twin ∧ (s.setGen g x).pending = s.pending := by
  and_intros <;> rfl

@[simp] theorem State.setDie_fields (s : State) (d : Nat) (x : Die) :
    (s.setDie d x).clk = s.clk ∧ (s.setDie d x).pace = s.pace ∧ (s.setDie d x).fab = s.fab ∧ (s.setDie d x).atlas = s.atlas ∧
    (s.setDie d x).par = s.par ∧ (s.setDie d x).dbg = s.dbg ∧ (s.setDie d x).iso = s.iso ∧ (s.setDie d x).ctr = s.ctr ∧ (s.setDie d x).vlv = s.vlv ∧
    (s.setDie d x).light = s.light ∧ (s.setDie d x).pwr = s.pwr ∧ (s.setDie d x).lgd = s.lgd ∧ (s.setDie d x).svy = s.svy ∧
    (s.setDie d x).inp = s.inp ∧ (s.setDie d x).net = s.net ∧ (s.setDie d x).agr = s.agr ∧ (s.setDie d x).acc = s.acc ∧ (s.setDie d x).xi = s.xi ∧
    (s.setDie d x).mem = s.mem ∧ (s.setDie d x).dma = s.dma ∧ (s.setDie d x).boot = s.boot ∧ (s.setDie d x).fw = s.fw ∧ (s.setDie d x).il = s.il ∧
    (s.setDie d x).twin = s.twin ∧ (s.setDie d x).pending = s.pending := by
  and_intros <;> rfl

@[simp] theorem State.modSes_fields (s : State) (i : Nat) (f : SesRec → SesRec) :
    (s.modSes i f).clk = s.clk ∧ (s.modSes i f).pace = s.pace ∧ (s.modSes i f).fab = s.fab ∧ (s.modSes i f).par = s.par ∧
    (s.modSes i f).dbg = s.dbg ∧ (s.modSes i f).load = s.load ∧ (s.modSes i f).iso = s.iso ∧ (s.modSes i f).ctr = s.ctr ∧
    (s.modSes i f).vlv = s.vlv ∧ (s.modSes i f).light = s.light ∧ (s.modSes i f).pwr = s.pwr ∧ (s.modSes i f).lgd = s.lgd ∧
    (s.modSes i f).svy = s.svy ∧ (s.modSes i f).inp = s.inp ∧ (s.modSes i f).net = s.net ∧ (s.modSes i f).agr = s.agr ∧ (s.modSes i f).acc = s.acc ∧
    (s.modSes i f).xi = s.xi ∧ (s.modSes i f).mem = s.mem ∧ (s.modSes i f).dma = s.dma ∧ (s.modSes i f).boot = s.boot ∧ (s.modSes i f).fw = s.fw ∧
    (s.modSes i f).il = s.il ∧ (s.modSes i f).twin = s.twin ∧ (s.modSes i f).pending = s.pending := by
  and_intros <;> rfl

@[simp] theorem State.modHandle_fields (s : State) (k : Nat) (f : Hnd → Hnd) :
    (s.modHandle k f).clk = s.clk ∧ (s.modHandle k f).pace = s.pace ∧ (s.modHandle k f).fab = s.fab ∧ (s.modHandle k f).par = s.par ∧
    (s.modHandle k f).dbg = s.dbg ∧ (s.modHandle k f).load = s.load ∧ (s.modHandle k f).iso = s.iso ∧ (s.modHandle k f).ctr = s.ctr ∧
    (s.modHandle k f).vlv = s.vlv ∧ (s.modHandle k f).light = s.light ∧ (s.modHandle k f).pwr = s.pwr ∧ (s.modHandle k f).lgd = s.lgd ∧
    (s.modHandle k f).svy = s.svy ∧ (s.modHandle k f).inp = s.inp ∧ (s.modHandle k f).net = s.net ∧ (s.modHandle k f).agr = s.agr ∧
    (s.modHandle k f).acc = s.acc ∧ (s.modHandle k f).xi = s.xi ∧ (s.modHandle k f).mem = s.mem ∧ (s.modHandle k f).dma = s.dma ∧
    (s.modHandle k f).boot = s.boot ∧ (s.modHandle k f).fw = s.fw ∧ (s.modHandle k f).il = s.il ∧ (s.modHandle k f).twin = s.twin ∧
    (s.modHandle k f).pending = s.pending := by
  and_intros <;> rfl

@[simp] theorem State.freeHandle_fields (s : State) (k : Nat) :
    (s.freeHandle k).clk = s.clk ∧ (s.freeHandle k).pace = s.pace ∧ (s.freeHandle k).fab = s.fab ∧ (s.freeHandle k).par = s.par ∧
    (s.freeHandle k).dbg = s.dbg ∧ (s.freeHandle k).load = s.load ∧ (s.freeHandle k).iso = s.iso ∧ (s.freeHandle k).ctr = s.ctr ∧
    (s.freeHandle k).vlv = s.vlv ∧ (s.freeHandle k).light = s.light ∧ (s.freeHandle k).pwr = s.pwr ∧ (s.freeHandle k).lgd = s.lgd ∧
    (s.freeHandle k).svy = s.svy ∧ (s.freeHandle k).inp = s.inp ∧ (s.freeHandle k).net = s.net ∧ (s.freeHandle k).agr = s.agr ∧
    (s.freeHandle k).acc = s.acc ∧ (s.freeHandle k).xi = s.xi ∧ (s.freeHandle k).mem = s.mem ∧ (s.freeHandle k).dma = s.dma ∧
    (s.freeHandle k).boot = s.boot ∧ (s.freeHandle k).fw = s.fw ∧ (s.freeHandle k).il = s.il ∧ (s.freeHandle k).twin = s.twin ∧
    (s.freeHandle k).pending = s.pending := by
  and_intros <;> rfl

@[simp] theorem State.touch_fields (s : State) (i : Nat) :
    (s.touch i).clk = s.clk ∧ (s.touch i).pace = s.pace ∧ (s.touch i).fab = s.fab ∧ (s.touch i).par = s.par ∧ (s.touch i).dbg = s.dbg ∧
    (s.touch i).load = s.load ∧ (s.touch i).iso = s.iso ∧ (s.touch i).ctr = s.ctr ∧ (s.touch i).vlv = s.vlv ∧ (s.touch i).light = s.light ∧
    (s.touch i).pwr = s.pwr ∧ (s.touch i).lgd = s.lgd ∧ (s.touch i).svy = s.svy ∧ (s.touch i).inp = s.inp ∧ (s.touch i).net = s.net ∧
    (s.touch i).agr = s.agr ∧ (s.touch i).acc = s.acc ∧ (s.touch i).xi = s.xi ∧ (s.touch i).mem = s.mem ∧ (s.touch i).dma = s.dma ∧
    (s.touch i).boot = s.boot ∧ (s.touch i).fw = s.fw ∧ (s.touch i).il = s.il ∧ (s.touch i).twin = s.twin ∧ (s.touch i).pending = s.pending := by
  and_intros <;> rfl

@[simp] theorem State.raiseEv_fields (s : State) (i b : Nat) :
    (s.raiseEv i b).clk = s.clk ∧ (s.raiseEv i b).pace = s.pace ∧ (s.raiseEv i b).fab = s.fab ∧ (s.raiseEv i b).atlas = s.atlas ∧
    (s.raiseEv i b).par = s.par ∧ (s.raiseEv i b).dbg = s.dbg ∧ (s.raiseEv i b).load = s.load ∧ (s.raiseEv i b).iso = s.iso ∧
    (s.raiseEv i b).ctr = s.ctr ∧ (s.raiseEv i b).vlv = s.vlv ∧ (s.raiseEv i b).light = s.light ∧ (s.raiseEv i b).pwr = s.pwr ∧
    (s.raiseEv i b).lgd = s.lgd ∧ (s.raiseEv i b).svy = s.svy ∧ (s.raiseEv i b).inp = s.inp ∧ (s.raiseEv i b).net = s.net ∧
    (s.raiseEv i b).agr = s.agr ∧ (s.raiseEv i b).acc = s.acc ∧ (s.raiseEv i b).mem = s.mem ∧ (s.raiseEv i b).dma = s.dma ∧
    (s.raiseEv i b).boot = s.boot ∧ (s.raiseEv i b).fw = s.fw ∧ (s.raiseEv i b).il = s.il ∧ (s.raiseEv i b).twin = s.twin ∧
    (s.raiseEv i b).pending = s.pending := by
  and_intros <;> rfl

@[simp] theorem State.dieEvent_fields (s : State) (n b : Nat) :
    (s.dieEvent n b).clk = s.clk ∧ (s.dieEvent n b).pace = s.pace ∧ (s.dieEvent n b).fab = s.fab ∧ (s.dieEvent n b).atlas = s.atlas ∧
    (s.dieEvent n b).par = s.par ∧ (s.dieEvent n b).dbg = s.dbg ∧ (s.dieEvent n b).load = s.load ∧ (s.dieEvent n b).iso = s.iso ∧
    (s.dieEvent n b).ctr = s.ctr ∧ (s.dieEvent n b).vlv = s.vlv ∧ (s.dieEvent n b).light = s.light ∧ (s.dieEvent n b).pwr = s.pwr ∧
    (s.dieEvent n b).lgd = s.lgd ∧ (s.dieEvent n b).svy = s.svy ∧ (s.dieEvent n b).inp = s.inp ∧ (s.dieEvent n b).net = s.net ∧
    (s.dieEvent n b).agr = s.agr ∧ (s.dieEvent n b).acc = s.acc ∧ (s.dieEvent n b).mem = s.mem ∧ (s.dieEvent n b).dma = s.dma ∧
    (s.dieEvent n b).boot = s.boot ∧ (s.dieEvent n b).fw = s.fw ∧ (s.dieEvent n b).il = s.il ∧ (s.dieEvent n b).twin = s.twin ∧
    (s.dieEvent n b).pending = s.pending := by
  and_intros <;> rfl

@[simp] theorem State.pairErr_fields (s : State) (b : Nat) :
    (s.pairErr b).clk = s.clk ∧ (s.pairErr b).pace = s.pace ∧ (s.pairErr b).fab = s.fab ∧ (s.pairErr b).atlas = s.atlas ∧ (s.pairErr b).par = s.par ∧
    (s.pairErr b).dbg = s.dbg ∧ (s.pairErr b).load = s.load ∧ (s.pairErr b).iso = s.iso ∧ (s.pairErr b).ctr = s.ctr ∧ (s.pairErr b).vlv = s.vlv ∧
    (s.pairErr b).light = s.light ∧ (s.pairErr b).pwr = s.pwr ∧ (s.pairErr b).lgd = s.lgd ∧ (s.pairErr b).svy = s.svy ∧ (s.pairErr b).inp = s.inp ∧
    (s.pairErr b).net = s.net ∧ (s.pairErr b).agr = s.agr ∧ (s.pairErr b).acc = s.acc ∧ (s.pairErr b).xi = s.xi ∧ (s.pairErr b).mem = s.mem ∧
    (s.pairErr b).dma = s.dma ∧ (s.pairErr b).boot = s.boot ∧ (s.pairErr b).fw = s.fw ∧ (s.pairErr b).twin = s.twin ∧
    (s.pairErr b).pending = s.pending := by
  and_intros <;> rfl

@[simp] theorem State.modAcc_fields (s : State) (f : Access → Access) :
    (s.modAcc f).clk = s.clk ∧ (s.modAcc f).pace = s.pace ∧ (s.modAcc f).fab = s.fab ∧ (s.modAcc f).atlas = s.atlas ∧ (s.modAcc f).par = s.par ∧
    (s.modAcc f).dbg = s.dbg ∧ (s.modAcc f).load = s.load ∧ (s.modAcc f).iso = s.iso ∧ (s.modAcc f).ctr = s.ctr ∧ (s.modAcc f).vlv = s.vlv ∧
    (s.modAcc f).light = s.light ∧ (s.modAcc f).pwr = s.pwr ∧ (s.modAcc f).lgd = s.lgd ∧ (s.modAcc f).svy = s.svy ∧ (s.modAcc f).inp = s.inp ∧
    (s.modAcc f).net = s.net ∧ (s.modAcc f).agr = s.agr ∧ (s.modAcc f).xi = s.xi ∧ (s.modAcc f).mem = s.mem ∧ (s.modAcc f).dma = s.dma ∧
    (s.modAcc f).boot = s.boot ∧ (s.modAcc f).fw = s.fw ∧ (s.modAcc f).il = s.il ∧ (s.modAcc f).twin = s.twin ∧ (s.modAcc f).pending = s.pending ∧
    (s.modAcc f).acc = f s.acc := by
  and_intros <;> rfl

@[simp] theorem State.modTok_fields (s : State) (i : Nat) (f : Token → Token) :
    (s.modTok i f).clk = s.clk ∧ (s.modTok i f).pace = s.pace ∧ (s.modTok i f).fab = s.fab ∧ (s.modTok i f).atlas = s.atlas ∧
    (s.modTok i f).par = s.par ∧ (s.modTok i f).dbg = s.dbg ∧ (s.modTok i f).load = s.load ∧ (s.modTok i f).iso = s.iso ∧
    (s.modTok i f).ctr = s.ctr ∧ (s.modTok i f).vlv = s.vlv ∧ (s.modTok i f).light = s.light ∧ (s.modTok i f).pwr = s.pwr ∧
    (s.modTok i f).lgd = s.lgd ∧ (s.modTok i f).svy = s.svy ∧ (s.modTok i f).inp = s.inp ∧ (s.modTok i f).net = s.net ∧ (s.modTok i f).agr = s.agr ∧
    (s.modTok i f).xi = s.xi ∧ (s.modTok i f).mem = s.mem ∧ (s.modTok i f).dma = s.dma ∧ (s.modTok i f).boot = s.boot ∧ (s.modTok i f).fw = s.fw ∧
    (s.modTok i f).il = s.il ∧ (s.modTok i f).twin = s.twin ∧ (s.modTok i f).pending = s.pending := by
  and_intros <;> rfl

@[simp] theorem State.modLf_fields (s : State) (k : Nat) (f : Aerial → Aerial) :
    (s.modLf k f).clk = s.clk ∧ (s.modLf k f).pace = s.pace ∧ (s.modLf k f).fab = s.fab ∧ (s.modLf k f).atlas = s.atlas ∧ (s.modLf k f).par = s.par ∧
    (s.modLf k f).dbg = s.dbg ∧ (s.modLf k f).load = s.load ∧ (s.modLf k f).iso = s.iso ∧ (s.modLf k f).ctr = s.ctr ∧ (s.modLf k f).vlv = s.vlv ∧
    (s.modLf k f).light = s.light ∧ (s.modLf k f).pwr = s.pwr ∧ (s.modLf k f).lgd = s.lgd ∧ (s.modLf k f).svy = s.svy ∧ (s.modLf k f).inp = s.inp ∧
    (s.modLf k f).net = s.net ∧ (s.modLf k f).agr = s.agr ∧ (s.modLf k f).xi = s.xi ∧ (s.modLf k f).mem = s.mem ∧ (s.modLf k f).dma = s.dma ∧
    (s.modLf k f).boot = s.boot ∧ (s.modLf k f).fw = s.fw ∧ (s.modLf k f).il = s.il ∧ (s.modLf k f).twin = s.twin ∧ (s.modLf k f).pending = s.pending := by
  and_intros <;> rfl

@[simp] theorem State.modFe_fields (s : State) (k : Nat) (f : FrontEnd → FrontEnd) :
    (s.modFe k f).clk = s.clk ∧ (s.modFe k f).pace = s.pace ∧ (s.modFe k f).fab = s.fab ∧ (s.modFe k f).atlas = s.atlas ∧ (s.modFe k f).par = s.par ∧
    (s.modFe k f).dbg = s.dbg ∧ (s.modFe k f).load = s.load ∧ (s.modFe k f).iso = s.iso ∧ (s.modFe k f).ctr = s.ctr ∧ (s.modFe k f).vlv = s.vlv ∧
    (s.modFe k f).light = s.light ∧ (s.modFe k f).pwr = s.pwr ∧ (s.modFe k f).lgd = s.lgd ∧ (s.modFe k f).svy = s.svy ∧ (s.modFe k f).inp = s.inp ∧
    (s.modFe k f).net = s.net ∧ (s.modFe k f).agr = s.agr ∧ (s.modFe k f).xi = s.xi ∧ (s.modFe k f).mem = s.mem ∧ (s.modFe k f).dma = s.dma ∧
    (s.modFe k f).boot = s.boot ∧ (s.modFe k f).fw = s.fw ∧ (s.modFe k f).il = s.il ∧ (s.modFe k f).twin = s.twin ∧ (s.modFe k f).pending = s.pending := by
  and_intros <;> rfl

@[simp] theorem State.storeRaw_fields (s : State) (a d c : Nat) :
    (s.storeRaw a d c).clk = s.clk ∧ (s.storeRaw a d c).pace = s.pace ∧ (s.storeRaw a d c).fab = s.fab ∧ (s.storeRaw a d c).atlas = s.atlas ∧
    (s.storeRaw a d c).par = s.par ∧ (s.storeRaw a d c).dbg = s.dbg ∧ (s.storeRaw a d c).load = s.load ∧ (s.storeRaw a d c).iso = s.iso ∧
    (s.storeRaw a d c).ctr = s.ctr ∧ (s.storeRaw a d c).vlv = s.vlv ∧ (s.storeRaw a d c).light = s.light ∧ (s.storeRaw a d c).pwr = s.pwr ∧
    (s.storeRaw a d c).lgd = s.lgd ∧ (s.storeRaw a d c).svy = s.svy ∧ (s.storeRaw a d c).inp = s.inp ∧ (s.storeRaw a d c).net = s.net ∧
    (s.storeRaw a d c).agr = s.agr ∧ (s.storeRaw a d c).acc = s.acc ∧ (s.storeRaw a d c).xi = s.xi ∧ (s.storeRaw a d c).dma = s.dma ∧
    (s.storeRaw a d c).boot = s.boot ∧ (s.storeRaw a d c).fw = s.fw ∧ (s.storeRaw a d c).il = s.il ∧ (s.storeRaw a d c).twin = s.twin ∧
    (s.storeRaw a d c).pending = s.pending := by
  and_intros <;> rfl

@[simp] theorem State.loseMem_fields (s : State) (a n : Nat) :
    (s.loseMem a n).clk = s.clk ∧ (s.loseMem a n).pace = s.pace ∧ (s.loseMem a n).fab = s.fab ∧ (s.loseMem a n).atlas = s.atlas ∧
    (s.loseMem a n).par = s.par ∧ (s.loseMem a n).dbg = s.dbg ∧ (s.loseMem a n).load = s.load ∧ (s.loseMem a n).iso = s.iso ∧
    (s.loseMem a n).ctr = s.ctr ∧ (s.loseMem a n).vlv = s.vlv ∧ (s.loseMem a n).light = s.light ∧ (s.loseMem a n).pwr = s.pwr ∧
    (s.loseMem a n).lgd = s.lgd ∧ (s.loseMem a n).svy = s.svy ∧ (s.loseMem a n).inp = s.inp ∧ (s.loseMem a n).net = s.net ∧
    (s.loseMem a n).agr = s.agr ∧ (s.loseMem a n).acc = s.acc ∧ (s.loseMem a n).xi = s.xi ∧ (s.loseMem a n).dma = s.dma ∧
    (s.loseMem a n).boot = s.boot ∧ (s.loseMem a n).fw = s.fw ∧ (s.loseMem a n).il = s.il ∧ (s.loseMem a n).twin = s.twin ∧
    (s.loseMem a n).pending = s.pending := by
  and_intros <;> rfl

@[simp] theorem State.writeFilters_fields (s : State) :
    (s.writeFilters).clk = s.clk ∧ (s.writeFilters).pace = s.pace ∧ (s.writeFilters).fab = s.fab ∧ (s.writeFilters).atlas = s.atlas ∧
    (s.writeFilters).par = s.par ∧ (s.writeFilters).dbg = s.dbg ∧ (s.writeFilters).load = s.load ∧ (s.writeFilters).iso = s.iso ∧
    (s.writeFilters).ctr = s.ctr ∧ (s.writeFilters).vlv = s.vlv ∧ (s.writeFilters).light = s.light ∧ (s.writeFilters).pwr = s.pwr ∧
    (s.writeFilters).lgd = s.lgd ∧ (s.writeFilters).svy = s.svy ∧ (s.writeFilters).inp = s.inp ∧ (s.writeFilters).net = s.net ∧
    (s.writeFilters).agr = s.agr ∧ (s.writeFilters).acc = s.acc ∧ (s.writeFilters).xi = s.xi ∧ (s.writeFilters).dma = s.dma ∧
    (s.writeFilters).boot = s.boot ∧ (s.writeFilters).fw = s.fw ∧ (s.writeFilters).il = s.il ∧ (s.writeFilters).twin = s.twin ∧
    (s.writeFilters).pending = s.pending := by
  and_intros <;> rfl

@[simp] theorem State.setFlip_fields (s : State) (v : Nat) :
    (s.setFlip v).clk = s.clk ∧ (s.setFlip v).pace = s.pace ∧ (s.setFlip v).fab = s.fab ∧ (s.setFlip v).atlas = s.atlas ∧ (s.setFlip v).par = s.par ∧
    (s.setFlip v).dbg = s.dbg ∧ (s.setFlip v).load = s.load ∧ (s.setFlip v).iso = s.iso ∧ (s.setFlip v).ctr = s.ctr ∧ (s.setFlip v).vlv = s.vlv ∧
    (s.setFlip v).light = s.light ∧ (s.setFlip v).pwr = s.pwr ∧ (s.setFlip v).lgd = s.lgd ∧ (s.setFlip v).svy = s.svy ∧ (s.setFlip v).inp = s.inp ∧
    (s.setFlip v).net = s.net ∧ (s.setFlip v).agr = s.agr ∧ (s.setFlip v).acc = s.acc ∧ (s.setFlip v).xi = s.xi ∧ (s.setFlip v).dma = s.dma ∧
    (s.setFlip v).boot = s.boot ∧ (s.setFlip v).fw = s.fw ∧ (s.setFlip v).il = s.il ∧ (s.setFlip v).twin = s.twin ∧ (s.setFlip v).pending = s.pending := by
  and_intros <;> rfl

@[simp] theorem State.modPwr_fields (s : State) (f : Power → Power) :
    (s.modPwr f).clk = s.clk ∧ (s.modPwr f).pace = s.pace ∧ (s.modPwr f).fab = s.fab ∧ (s.modPwr f).atlas = s.atlas ∧ (s.modPwr f).par = s.par ∧
    (s.modPwr f).dbg = s.dbg ∧ (s.modPwr f).load = s.load ∧ (s.modPwr f).iso = s.iso ∧ (s.modPwr f).ctr = s.ctr ∧ (s.modPwr f).vlv = s.vlv ∧
    (s.modPwr f).light = s.light ∧ (s.modPwr f).lgd = s.lgd ∧ (s.modPwr f).svy = s.svy ∧ (s.modPwr f).inp = s.inp ∧ (s.modPwr f).net = s.net ∧
    (s.modPwr f).agr = s.agr ∧ (s.modPwr f).acc = s.acc ∧ (s.modPwr f).xi = s.xi ∧ (s.modPwr f).mem = s.mem ∧ (s.modPwr f).dma = s.dma ∧
    (s.modPwr f).boot = s.boot ∧ (s.modPwr f).fw = s.fw ∧ (s.modPwr f).il = s.il ∧ (s.modPwr f).twin = s.twin ∧ (s.modPwr f).pending = s.pending ∧
    (s.modPwr f).pwr = f s.pwr := by
  and_intros <;> rfl

@[simp] theorem State.setCan_fields (s : State) (n : Nat) (c : CanPort) :
    (s.setCan n c).clk = s.clk ∧ (s.setCan n c).pace = s.pace ∧ (s.setCan n c).fab = s.fab ∧ (s.setCan n c).atlas = s.atlas ∧
    (s.setCan n c).par = s.par ∧ (s.setCan n c).dbg = s.dbg ∧ (s.setCan n c).load = s.load ∧ (s.setCan n c).iso = s.iso ∧
    (s.setCan n c).ctr = s.ctr ∧ (s.setCan n c).vlv = s.vlv ∧ (s.setCan n c).light = s.light ∧ (s.setCan n c).pwr = s.pwr ∧
    (s.setCan n c).lgd = s.lgd ∧ (s.setCan n c).svy = s.svy ∧ (s.setCan n c).inp = s.inp ∧ (s.setCan n c).agr = s.agr ∧ (s.setCan n c).acc = s.acc ∧
    (s.setCan n c).xi = s.xi ∧ (s.setCan n c).mem = s.mem ∧ (s.setCan n c).dma = s.dma ∧ (s.setCan n c).boot = s.boot ∧ (s.setCan n c).fw = s.fw ∧
    (s.setCan n c).il = s.il ∧ (s.setCan n c).twin = s.twin ∧ (s.setCan n c).pending = s.pending := by
  and_intros <;> rfl

@[simp] theorem State.modCan_fields (s : State) (n : Nat) (f : CanPort → CanPort) :
    (s.modCan n f).clk = s.clk ∧ (s.modCan n f).pace = s.pace ∧ (s.modCan n f).fab = s.fab ∧ (s.modCan n f).atlas = s.atlas ∧
    (s.modCan n f).par = s.par ∧ (s.modCan n f).dbg = s.dbg ∧ (s.modCan n f).load = s.load ∧ (s.modCan n f).iso = s.iso ∧
    (s.modCan n f).ctr = s.ctr ∧ (s.modCan n f).vlv = s.vlv ∧ (s.modCan n f).light = s.light ∧ (s.modCan n f).pwr = s.pwr ∧
    (s.modCan n f).lgd = s.lgd ∧ (s.modCan n f).svy = s.svy ∧ (s.modCan n f).inp = s.inp ∧ (s.modCan n f).agr = s.agr ∧ (s.modCan n f).acc = s.acc ∧
    (s.modCan n f).xi = s.xi ∧ (s.modCan n f).mem = s.mem ∧ (s.modCan n f).dma = s.dma ∧ (s.modCan n f).boot = s.boot ∧ (s.modCan n f).fw = s.fw ∧
    (s.modCan n f).il = s.il ∧ (s.modCan n f).twin = s.twin ∧ (s.modCan n f).pending = s.pending := by
  and_intros <;> rfl

@[simp] theorem State.setLin_fields (s : State) (n : Nat) (x : LinPort) :
    (s.setLin n x).clk = s.clk ∧ (s.setLin n x).pace = s.pace ∧ (s.setLin n x).fab = s.fab ∧ (s.setLin n x).atlas = s.atlas ∧
    (s.setLin n x).par = s.par ∧ (s.setLin n x).dbg = s.dbg ∧ (s.setLin n x).load = s.load ∧ (s.setLin n x).iso = s.iso ∧
    (s.setLin n x).ctr = s.ctr ∧ (s.setLin n x).vlv = s.vlv ∧ (s.setLin n x).light = s.light ∧ (s.setLin n x).pwr = s.pwr ∧
    (s.setLin n x).lgd = s.lgd ∧ (s.setLin n x).svy = s.svy ∧ (s.setLin n x).inp = s.inp ∧ (s.setLin n x).agr = s.agr ∧ (s.setLin n x).acc = s.acc ∧
    (s.setLin n x).xi = s.xi ∧ (s.setLin n x).mem = s.mem ∧ (s.setLin n x).dma = s.dma ∧ (s.setLin n x).boot = s.boot ∧ (s.setLin n x).fw = s.fw ∧
    (s.setLin n x).il = s.il ∧ (s.setLin n x).twin = s.twin ∧ (s.setLin n x).pending = s.pending := by
  and_intros <;> rfl

@[simp] theorem State.modLin_fields (s : State) (n : Nat) (f : LinPort → LinPort) :
    (s.modLin n f).clk = s.clk ∧ (s.modLin n f).pace = s.pace ∧ (s.modLin n f).fab = s.fab ∧ (s.modLin n f).atlas = s.atlas ∧
    (s.modLin n f).par = s.par ∧ (s.modLin n f).dbg = s.dbg ∧ (s.modLin n f).load = s.load ∧ (s.modLin n f).iso = s.iso ∧
    (s.modLin n f).ctr = s.ctr ∧ (s.modLin n f).vlv = s.vlv ∧ (s.modLin n f).light = s.light ∧ (s.modLin n f).pwr = s.pwr ∧
    (s.modLin n f).lgd = s.lgd ∧ (s.modLin n f).svy = s.svy ∧ (s.modLin n f).inp = s.inp ∧ (s.modLin n f).agr = s.agr ∧ (s.modLin n f).acc = s.acc ∧
    (s.modLin n f).xi = s.xi ∧ (s.modLin n f).mem = s.mem ∧ (s.modLin n f).dma = s.dma ∧ (s.modLin n f).boot = s.boot ∧ (s.modLin n f).fw = s.fw ∧
    (s.modLin n f).il = s.il ∧ (s.modLin n f).twin = s.twin ∧ (s.modLin n f).pending = s.pending := by
  and_intros <;> rfl

@[simp] theorem State.setEth_fields (s : State) (k : Nat) (x : EthPort) :
    (s.setEth k x).clk = s.clk ∧ (s.setEth k x).pace = s.pace ∧ (s.setEth k x).fab = s.fab ∧ (s.setEth k x).atlas = s.atlas ∧
    (s.setEth k x).par = s.par ∧ (s.setEth k x).dbg = s.dbg ∧ (s.setEth k x).load = s.load ∧ (s.setEth k x).iso = s.iso ∧
    (s.setEth k x).ctr = s.ctr ∧ (s.setEth k x).vlv = s.vlv ∧ (s.setEth k x).light = s.light ∧ (s.setEth k x).pwr = s.pwr ∧
    (s.setEth k x).lgd = s.lgd ∧ (s.setEth k x).svy = s.svy ∧ (s.setEth k x).inp = s.inp ∧ (s.setEth k x).agr = s.agr ∧ (s.setEth k x).acc = s.acc ∧
    (s.setEth k x).xi = s.xi ∧ (s.setEth k x).mem = s.mem ∧ (s.setEth k x).dma = s.dma ∧ (s.setEth k x).boot = s.boot ∧ (s.setEth k x).fw = s.fw ∧
    (s.setEth k x).il = s.il ∧ (s.setEth k x).twin = s.twin ∧ (s.setEth k x).pending = s.pending := by
  and_intros <;> rfl

@[simp] theorem State.setSpe_fields (s : State) (k : Nat) (x : SpePort) :
    (s.setSpe k x).clk = s.clk ∧ (s.setSpe k x).pace = s.pace ∧ (s.setSpe k x).fab = s.fab ∧ (s.setSpe k x).atlas = s.atlas ∧
    (s.setSpe k x).par = s.par ∧ (s.setSpe k x).dbg = s.dbg ∧ (s.setSpe k x).load = s.load ∧ (s.setSpe k x).iso = s.iso ∧
    (s.setSpe k x).ctr = s.ctr ∧ (s.setSpe k x).vlv = s.vlv ∧ (s.setSpe k x).light = s.light ∧ (s.setSpe k x).pwr = s.pwr ∧
    (s.setSpe k x).lgd = s.lgd ∧ (s.setSpe k x).svy = s.svy ∧ (s.setSpe k x).inp = s.inp ∧ (s.setSpe k x).agr = s.agr ∧ (s.setSpe k x).acc = s.acc ∧
    (s.setSpe k x).xi = s.xi ∧ (s.setSpe k x).mem = s.mem ∧ (s.setSpe k x).dma = s.dma ∧ (s.setSpe k x).boot = s.boot ∧ (s.setSpe k x).fw = s.fw ∧
    (s.setSpe k x).il = s.il ∧ (s.setSpe k x).twin = s.twin ∧ (s.setSpe k x).pending = s.pending := by
  and_intros <;> rfl

@[simp] theorem State.setCmd_fields (s : State) (u : Nat) (c : UCmd) :
    (s.setCmd u c).clk = s.clk ∧ (s.setCmd u c).pace = s.pace ∧ (s.setCmd u c).fab = s.fab ∧ (s.setCmd u c).atlas = s.atlas ∧
    (s.setCmd u c).par = s.par ∧ (s.setCmd u c).dbg = s.dbg ∧ (s.setCmd u c).iso = s.iso ∧ (s.setCmd u c).ctr = s.ctr ∧ (s.setCmd u c).vlv = s.vlv ∧
    (s.setCmd u c).light = s.light ∧ (s.setCmd u c).pwr = s.pwr ∧ (s.setCmd u c).lgd = s.lgd ∧ (s.setCmd u c).svy = s.svy ∧
    (s.setCmd u c).inp = s.inp ∧ (s.setCmd u c).net = s.net ∧ (s.setCmd u c).agr = s.agr ∧ (s.setCmd u c).acc = s.acc ∧ (s.setCmd u c).xi = s.xi ∧
    (s.setCmd u c).mem = s.mem ∧ (s.setCmd u c).dma = s.dma ∧ (s.setCmd u c).boot = s.boot ∧ (s.setCmd u c).fw = s.fw ∧ (s.setCmd u c).il = s.il ∧
    (s.setCmd u c).twin = s.twin ∧ (s.setCmd u c).pending = s.pending := by
  and_intros <;> rfl

@[simp] theorem State.modMem_fields (s : State) (g u : Nat) (f : PMem → PMem) :
    (s.modMem g u f).clk = s.clk ∧ (s.modMem g u f).pace = s.pace ∧ (s.modMem g u f).fab = s.fab ∧ (s.modMem g u f).atlas = s.atlas ∧
    (s.modMem g u f).par = s.par ∧ (s.modMem g u f).dbg = s.dbg ∧ (s.modMem g u f).iso = s.iso ∧ (s.modMem g u f).ctr = s.ctr ∧
    (s.modMem g u f).vlv = s.vlv ∧ (s.modMem g u f).light = s.light ∧ (s.modMem g u f).pwr = s.pwr ∧ (s.modMem g u f).lgd = s.lgd ∧
    (s.modMem g u f).svy = s.svy ∧ (s.modMem g u f).inp = s.inp ∧ (s.modMem g u f).net = s.net ∧ (s.modMem g u f).agr = s.agr ∧
    (s.modMem g u f).acc = s.acc ∧ (s.modMem g u f).xi = s.xi ∧ (s.modMem g u f).mem = s.mem ∧ (s.modMem g u f).dma = s.dma ∧
    (s.modMem g u f).boot = s.boot ∧ (s.modMem g u f).fw = s.fw ∧ (s.modMem g u f).il = s.il ∧ (s.modMem g u f).twin = s.twin ∧
    (s.modMem g u f).pending = s.pending := by
  and_intros <;> rfl

@[simp] theorem State.setChain_fields (s : State) (c : Nat) (x : Chain) :
    (s.setChain c x).clk = s.clk ∧ (s.setChain c x).pace = s.pace ∧ (s.setChain c x).fab = s.fab ∧ (s.setChain c x).atlas = s.atlas ∧
    (s.setChain c x).par = s.par ∧ (s.setChain c x).dbg = s.dbg ∧ (s.setChain c x).load = s.load ∧ (s.setChain c x).iso = s.iso ∧
    (s.setChain c x).ctr = s.ctr ∧ (s.setChain c x).vlv = s.vlv ∧ (s.setChain c x).pwr = s.pwr ∧ (s.setChain c x).lgd = s.lgd ∧
    (s.setChain c x).svy = s.svy ∧ (s.setChain c x).inp = s.inp ∧ (s.setChain c x).net = s.net ∧ (s.setChain c x).agr = s.agr ∧
    (s.setChain c x).acc = s.acc ∧ (s.setChain c x).xi = s.xi ∧ (s.setChain c x).mem = s.mem ∧ (s.setChain c x).dma = s.dma ∧
    (s.setChain c x).boot = s.boot ∧ (s.setChain c x).fw = s.fw ∧ (s.setChain c x).il = s.il ∧ (s.setChain c x).twin = s.twin ∧
    (s.setChain c x).pending = s.pending := by
  and_intros <;> rfl

@[simp] theorem State.setMx_fields (s : State) (x : Mx) :
    (s.setMx x).clk = s.clk ∧ (s.setMx x).pace = s.pace ∧ (s.setMx x).fab = s.fab ∧ (s.setMx x).atlas = s.atlas ∧ (s.setMx x).par = s.par ∧
    (s.setMx x).dbg = s.dbg ∧ (s.setMx x).load = s.load ∧ (s.setMx x).iso = s.iso ∧ (s.setMx x).ctr = s.ctr ∧ (s.setMx x).vlv = s.vlv ∧
    (s.setMx x).pwr = s.pwr ∧ (s.setMx x).lgd = s.lgd ∧ (s.setMx x).svy = s.svy ∧ (s.setMx x).inp = s.inp ∧ (s.setMx x).net = s.net ∧
    (s.setMx x).agr = s.agr ∧ (s.setMx x).acc = s.acc ∧ (s.setMx x).xi = s.xi ∧ (s.setMx x).mem = s.mem ∧ (s.setMx x).dma = s.dma ∧
    (s.setMx x).boot = s.boot ∧ (s.setMx x).fw = s.fw ∧ (s.setMx x).il = s.il ∧ (s.setMx x).twin = s.twin ∧ (s.setMx x).pending = s.pending := by
  and_intros <;> rfl

@[simp] theorem State.setNtc_fields (s : State) (t : Nat) (x : Ntc) :
    (s.setNtc t x).clk = s.clk ∧ (s.setNtc t x).pace = s.pace ∧ (s.setNtc t x).fab = s.fab ∧ (s.setNtc t x).atlas = s.atlas ∧
    (s.setNtc t x).par = s.par ∧ (s.setNtc t x).dbg = s.dbg ∧ (s.setNtc t x).load = s.load ∧ (s.setNtc t x).iso = s.iso ∧
    (s.setNtc t x).ctr = s.ctr ∧ (s.setNtc t x).vlv = s.vlv ∧ (s.setNtc t x).pwr = s.pwr ∧ (s.setNtc t x).lgd = s.lgd ∧ (s.setNtc t x).svy = s.svy ∧
    (s.setNtc t x).inp = s.inp ∧ (s.setNtc t x).net = s.net ∧ (s.setNtc t x).agr = s.agr ∧ (s.setNtc t x).acc = s.acc ∧ (s.setNtc t x).xi = s.xi ∧
    (s.setNtc t x).mem = s.mem ∧ (s.setNtc t x).dma = s.dma ∧ (s.setNtc t x).boot = s.boot ∧ (s.setNtc t x).fw = s.fw ∧ (s.setNtc t x).il = s.il ∧
    (s.setNtc t x).twin = s.twin ∧ (s.setNtc t x).pending = s.pending := by
  and_intros <;> rfl

@[simp] theorem State.setValve_fields (s : State) (v : Nat) (x : Valve) :
    (s.setValve v x).clk = s.clk ∧ (s.setValve v x).pace = s.pace ∧ (s.setValve v x).fab = s.fab ∧ (s.setValve v x).atlas = s.atlas ∧
    (s.setValve v x).par = s.par ∧ (s.setValve v x).dbg = s.dbg ∧ (s.setValve v x).load = s.load ∧ (s.setValve v x).iso = s.iso ∧
    (s.setValve v x).ctr = s.ctr ∧ (s.setValve v x).light = s.light ∧ (s.setValve v x).pwr = s.pwr ∧ (s.setValve v x).lgd = s.lgd ∧
    (s.setValve v x).svy = s.svy ∧ (s.setValve v x).inp = s.inp ∧ (s.setValve v x).net = s.net ∧ (s.setValve v x).agr = s.agr ∧
    (s.setValve v x).acc = s.acc ∧ (s.setValve v x).xi = s.xi ∧ (s.setValve v x).mem = s.mem ∧ (s.setValve v x).dma = s.dma ∧
    (s.setValve v x).boot = s.boot ∧ (s.setValve v x).fw = s.fw ∧ (s.setValve v x).il = s.il ∧ (s.setValve v x).twin = s.twin ∧
    (s.setValve v x).pending = s.pending := by
  and_intros <;> rfl

@[simp] theorem State.modValve_fields (s : State) (v : Nat) (f : Valve → Valve) :
    (s.modValve v f).clk = s.clk ∧ (s.modValve v f).pace = s.pace ∧ (s.modValve v f).fab = s.fab ∧ (s.modValve v f).atlas = s.atlas ∧
    (s.modValve v f).par = s.par ∧ (s.modValve v f).dbg = s.dbg ∧ (s.modValve v f).load = s.load ∧ (s.modValve v f).iso = s.iso ∧
    (s.modValve v f).ctr = s.ctr ∧ (s.modValve v f).light = s.light ∧ (s.modValve v f).pwr = s.pwr ∧ (s.modValve v f).lgd = s.lgd ∧
    (s.modValve v f).svy = s.svy ∧ (s.modValve v f).inp = s.inp ∧ (s.modValve v f).net = s.net ∧ (s.modValve v f).agr = s.agr ∧
    (s.modValve v f).acc = s.acc ∧ (s.modValve v f).xi = s.xi ∧ (s.modValve v f).mem = s.mem ∧ (s.modValve v f).dma = s.dma ∧
    (s.modValve v f).boot = s.boot ∧ (s.modValve v f).fw = s.fw ∧ (s.modValve v f).il = s.il ∧ (s.modValve v f).twin = s.twin ∧
    (s.modValve v f).pending = s.pending := by
  and_intros <;> rfl

@[simp] theorem State.modBank_fields (s : State) (b : Nat) (f : VBank → VBank) :
    (s.modBank b f).clk = s.clk ∧ (s.modBank b f).pace = s.pace ∧ (s.modBank b f).fab = s.fab ∧ (s.modBank b f).atlas = s.atlas ∧
    (s.modBank b f).par = s.par ∧ (s.modBank b f).dbg = s.dbg ∧ (s.modBank b f).load = s.load ∧ (s.modBank b f).iso = s.iso ∧
    (s.modBank b f).ctr = s.ctr ∧ (s.modBank b f).light = s.light ∧ (s.modBank b f).pwr = s.pwr ∧ (s.modBank b f).lgd = s.lgd ∧
    (s.modBank b f).svy = s.svy ∧ (s.modBank b f).inp = s.inp ∧ (s.modBank b f).net = s.net ∧ (s.modBank b f).agr = s.agr ∧
    (s.modBank b f).acc = s.acc ∧ (s.modBank b f).xi = s.xi ∧ (s.modBank b f).mem = s.mem ∧ (s.modBank b f).dma = s.dma ∧
    (s.modBank b f).boot = s.boot ∧ (s.modBank b f).fw = s.fw ∧ (s.modBank b f).il = s.il ∧ (s.modBank b f).twin = s.twin ∧
    (s.modBank b f).pending = s.pending := by
  and_intros <;> rfl

@[simp] theorem State.modReq_fields (s : State) (r : IsoReq) (f : IsoReq → IsoReq) :
    (s.modReq r f).clk = s.clk ∧ (s.modReq r f).pace = s.pace ∧ (s.modReq r f).fab = s.fab ∧ (s.modReq r f).atlas = s.atlas ∧
    (s.modReq r f).par = s.par ∧ (s.modReq r f).dbg = s.dbg ∧ (s.modReq r f).load = s.load ∧ (s.modReq r f).ctr = s.ctr ∧
    (s.modReq r f).vlv = s.vlv ∧ (s.modReq r f).light = s.light ∧ (s.modReq r f).pwr = s.pwr ∧ (s.modReq r f).lgd = s.lgd ∧
    (s.modReq r f).svy = s.svy ∧ (s.modReq r f).inp = s.inp ∧ (s.modReq r f).net = s.net ∧ (s.modReq r f).agr = s.agr ∧ (s.modReq r f).acc = s.acc ∧
    (s.modReq r f).xi = s.xi ∧ (s.modReq r f).mem = s.mem ∧ (s.modReq r f).dma = s.dma ∧ (s.modReq r f).boot = s.boot ∧ (s.modReq r f).fw = s.fw ∧
    (s.modReq r f).il = s.il ∧ (s.modReq r f).twin = s.twin ∧ (s.modReq r f).pending = s.pending := by
  and_intros <;> rfl

@[simp] theorem State.modAgr_fields (s : State) (f : Agree → Agree) :
    (s.modAgr f).clk = s.clk ∧ (s.modAgr f).pace = s.pace ∧ (s.modAgr f).fab = s.fab ∧ (s.modAgr f).atlas = s.atlas ∧ (s.modAgr f).par = s.par ∧
    (s.modAgr f).dbg = s.dbg ∧ (s.modAgr f).load = s.load ∧ (s.modAgr f).iso = s.iso ∧ (s.modAgr f).ctr = s.ctr ∧ (s.modAgr f).vlv = s.vlv ∧
    (s.modAgr f).light = s.light ∧ (s.modAgr f).pwr = s.pwr ∧ (s.modAgr f).lgd = s.lgd ∧ (s.modAgr f).svy = s.svy ∧ (s.modAgr f).inp = s.inp ∧
    (s.modAgr f).net = s.net ∧ (s.modAgr f).acc = s.acc ∧ (s.modAgr f).xi = s.xi ∧ (s.modAgr f).mem = s.mem ∧ (s.modAgr f).dma = s.dma ∧
    (s.modAgr f).boot = s.boot ∧ (s.modAgr f).fw = s.fw ∧ (s.modAgr f).il = s.il ∧ (s.modAgr f).twin = s.twin ∧ (s.modAgr f).pending = s.pending ∧
    (s.modAgr f).agr = f s.agr := by
  and_intros <;> rfl

@[simp] theorem State.modPace_fields (s : State) (p : Nat) (f : PaceRec → PaceRec) :
    (s.modPace p f).clk = s.clk ∧ (s.modPace p f).fab = s.fab ∧ (s.modPace p f).atlas = s.atlas ∧ (s.modPace p f).par = s.par ∧
    (s.modPace p f).dbg = s.dbg ∧ (s.modPace p f).load = s.load ∧ (s.modPace p f).iso = s.iso ∧ (s.modPace p f).ctr = s.ctr ∧
    (s.modPace p f).vlv = s.vlv ∧ (s.modPace p f).light = s.light ∧ (s.modPace p f).pwr = s.pwr ∧ (s.modPace p f).lgd = s.lgd ∧
    (s.modPace p f).svy = s.svy ∧ (s.modPace p f).inp = s.inp ∧ (s.modPace p f).net = s.net ∧ (s.modPace p f).agr = s.agr ∧
    (s.modPace p f).acc = s.acc ∧ (s.modPace p f).xi = s.xi ∧ (s.modPace p f).mem = s.mem ∧ (s.modPace p f).dma = s.dma ∧
    (s.modPace p f).boot = s.boot ∧ (s.modPace p f).fw = s.fw ∧ (s.modPace p f).il = s.il ∧ (s.modPace p f).twin = s.twin ∧
    (s.modPace p f).pending = s.pending := by
  and_intros <;> rfl

@[simp] theorem State.setCore_fields (s : State) (i : Nat) (c : Core) :
    (s.setCore i c).clk = s.clk ∧ (s.setCore i c).pace = s.pace ∧ (s.setCore i c).fab = s.fab ∧ (s.setCore i c).atlas = s.atlas ∧
    (s.setCore i c).par = s.par ∧ (s.setCore i c).dbg = s.dbg ∧ (s.setCore i c).load = s.load ∧ (s.setCore i c).iso = s.iso ∧
    (s.setCore i c).ctr = s.ctr ∧ (s.setCore i c).vlv = s.vlv ∧ (s.setCore i c).light = s.light ∧ (s.setCore i c).pwr = s.pwr ∧
    (s.setCore i c).lgd = s.lgd ∧ (s.setCore i c).svy = s.svy ∧ (s.setCore i c).inp = s.inp ∧ (s.setCore i c).net = s.net ∧
    (s.setCore i c).agr = s.agr ∧ (s.setCore i c).acc = s.acc ∧ (s.setCore i c).mem = s.mem ∧ (s.setCore i c).dma = s.dma ∧
    (s.setCore i c).boot = s.boot ∧ (s.setCore i c).fw = s.fw ∧ (s.setCore i c).il = s.il ∧ (s.setCore i c).twin = s.twin ∧
    (s.setCore i c).pending = s.pending := by
  and_intros <;> rfl

@[simp] theorem State.modCore_fields (s : State) (i : Nat) (f : Core → Core) :
    (s.modCore i f).clk = s.clk ∧ (s.modCore i f).pace = s.pace ∧ (s.modCore i f).fab = s.fab ∧ (s.modCore i f).atlas = s.atlas ∧
    (s.modCore i f).par = s.par ∧ (s.modCore i f).dbg = s.dbg ∧ (s.modCore i f).load = s.load ∧ (s.modCore i f).iso = s.iso ∧
    (s.modCore i f).ctr = s.ctr ∧ (s.modCore i f).vlv = s.vlv ∧ (s.modCore i f).light = s.light ∧ (s.modCore i f).pwr = s.pwr ∧
    (s.modCore i f).lgd = s.lgd ∧ (s.modCore i f).svy = s.svy ∧ (s.modCore i f).inp = s.inp ∧ (s.modCore i f).net = s.net ∧
    (s.modCore i f).agr = s.agr ∧ (s.modCore i f).acc = s.acc ∧ (s.modCore i f).mem = s.mem ∧ (s.modCore i f).dma = s.dma ∧
    (s.modCore i f).boot = s.boot ∧ (s.modCore i f).fw = s.fw ∧ (s.modCore i f).il = s.il ∧ (s.modCore i f).twin = s.twin ∧
    (s.modCore i f).pending = s.pending := by
  and_intros <;> rfl

@[simp] theorem State.modApplet_fields (s : State) (n : Nat) (f : Applet → Applet) :
    (s.modApplet n f).clk = s.clk ∧ (s.modApplet n f).pace = s.pace ∧ (s.modApplet n f).fab = s.fab ∧ (s.modApplet n f).atlas = s.atlas ∧
    (s.modApplet n f).par = s.par ∧ (s.modApplet n f).dbg = s.dbg ∧ (s.modApplet n f).load = s.load ∧ (s.modApplet n f).iso = s.iso ∧
    (s.modApplet n f).ctr = s.ctr ∧ (s.modApplet n f).vlv = s.vlv ∧ (s.modApplet n f).light = s.light ∧ (s.modApplet n f).pwr = s.pwr ∧
    (s.modApplet n f).lgd = s.lgd ∧ (s.modApplet n f).svy = s.svy ∧ (s.modApplet n f).inp = s.inp ∧ (s.modApplet n f).net = s.net ∧
    (s.modApplet n f).agr = s.agr ∧ (s.modApplet n f).acc = s.acc ∧ (s.modApplet n f).mem = s.mem ∧ (s.modApplet n f).dma = s.dma ∧
    (s.modApplet n f).boot = s.boot ∧ (s.modApplet n f).fw = s.fw ∧ (s.modApplet n f).il = s.il ∧ (s.modApplet n f).twin = s.twin ∧
    (s.modApplet n f).pending = s.pending := by
  and_intros <;> rfl

@[simp] theorem State.modDbgCore_fields (s : State) (k : Nat) (f : DbgCore → DbgCore) :
    (s.modDbgCore k f).clk = s.clk ∧ (s.modDbgCore k f).pace = s.pace ∧ (s.modDbgCore k f).fab = s.fab ∧ (s.modDbgCore k f).atlas = s.atlas ∧
    (s.modDbgCore k f).par = s.par ∧ (s.modDbgCore k f).load = s.load ∧ (s.modDbgCore k f).iso = s.iso ∧ (s.modDbgCore k f).ctr = s.ctr ∧
    (s.modDbgCore k f).vlv = s.vlv ∧ (s.modDbgCore k f).light = s.light ∧ (s.modDbgCore k f).pwr = s.pwr ∧ (s.modDbgCore k f).lgd = s.lgd ∧
    (s.modDbgCore k f).svy = s.svy ∧ (s.modDbgCore k f).inp = s.inp ∧ (s.modDbgCore k f).net = s.net ∧ (s.modDbgCore k f).agr = s.agr ∧
    (s.modDbgCore k f).acc = s.acc ∧ (s.modDbgCore k f).xi = s.xi ∧ (s.modDbgCore k f).mem = s.mem ∧ (s.modDbgCore k f).dma = s.dma ∧
    (s.modDbgCore k f).boot = s.boot ∧ (s.modDbgCore k f).fw = s.fw ∧ (s.modDbgCore k f).il = s.il ∧ (s.modDbgCore k f).twin = s.twin ∧
    (s.modDbgCore k f).pending = s.pending := by
  and_intros <;> rfl

@[simp] theorem State.modDma_fields (s : State) (n : Nat) (f : DmaCh → DmaCh) :
    (s.modDma n f).clk = s.clk ∧ (s.modDma n f).pace = s.pace ∧ (s.modDma n f).fab = s.fab ∧ (s.modDma n f).atlas = s.atlas ∧
    (s.modDma n f).par = s.par ∧ (s.modDma n f).dbg = s.dbg ∧ (s.modDma n f).load = s.load ∧ (s.modDma n f).iso = s.iso ∧
    (s.modDma n f).ctr = s.ctr ∧ (s.modDma n f).vlv = s.vlv ∧ (s.modDma n f).light = s.light ∧ (s.modDma n f).pwr = s.pwr ∧
    (s.modDma n f).lgd = s.lgd ∧ (s.modDma n f).svy = s.svy ∧ (s.modDma n f).inp = s.inp ∧ (s.modDma n f).net = s.net ∧ (s.modDma n f).agr = s.agr ∧
    (s.modDma n f).acc = s.acc ∧ (s.modDma n f).xi = s.xi ∧ (s.modDma n f).mem = s.mem ∧ (s.modDma n f).boot = s.boot ∧ (s.modDma n f).fw = s.fw ∧
    (s.modDma n f).il = s.il ∧ (s.modDma n f).twin = s.twin ∧ (s.modDma n f).pending = s.pending := by
  and_intros <;> rfl

@[simp] theorem State.modIl_fields (s : State) (f : Intlk → Intlk) :
    (s.modIl f).clk = s.clk ∧ (s.modIl f).pace = s.pace ∧ (s.modIl f).fab = s.fab ∧ (s.modIl f).atlas = s.atlas ∧ (s.modIl f).par = s.par ∧
    (s.modIl f).dbg = s.dbg ∧ (s.modIl f).load = s.load ∧ (s.modIl f).iso = s.iso ∧ (s.modIl f).ctr = s.ctr ∧ (s.modIl f).vlv = s.vlv ∧
    (s.modIl f).light = s.light ∧ (s.modIl f).pwr = s.pwr ∧ (s.modIl f).lgd = s.lgd ∧ (s.modIl f).svy = s.svy ∧ (s.modIl f).inp = s.inp ∧
    (s.modIl f).net = s.net ∧ (s.modIl f).agr = s.agr ∧ (s.modIl f).acc = s.acc ∧ (s.modIl f).xi = s.xi ∧ (s.modIl f).mem = s.mem ∧
    (s.modIl f).dma = s.dma ∧ (s.modIl f).boot = s.boot ∧ (s.modIl f).fw = s.fw ∧ (s.modIl f).twin = s.twin ∧ (s.modIl f).pending = s.pending ∧
    (s.modIl f).il = f s.il := by
  and_intros <;> rfl

@[simp] theorem State.modTwin_fields (s : State) (f : Twin → Twin) :
    (s.modTwin f).clk = s.clk ∧ (s.modTwin f).pace = s.pace ∧ (s.modTwin f).fab = s.fab ∧ (s.modTwin f).atlas = s.atlas ∧ (s.modTwin f).par = s.par ∧
    (s.modTwin f).dbg = s.dbg ∧ (s.modTwin f).load = s.load ∧ (s.modTwin f).iso = s.iso ∧ (s.modTwin f).ctr = s.ctr ∧ (s.modTwin f).vlv = s.vlv ∧
    (s.modTwin f).light = s.light ∧ (s.modTwin f).pwr = s.pwr ∧ (s.modTwin f).lgd = s.lgd ∧ (s.modTwin f).svy = s.svy ∧ (s.modTwin f).inp = s.inp ∧
    (s.modTwin f).net = s.net ∧ (s.modTwin f).agr = s.agr ∧ (s.modTwin f).acc = s.acc ∧ (s.modTwin f).xi = s.xi ∧ (s.modTwin f).mem = s.mem ∧
    (s.modTwin f).dma = s.dma ∧ (s.modTwin f).boot = s.boot ∧ (s.modTwin f).fw = s.fw ∧ (s.modTwin f).il = s.il ∧ (s.modTwin f).pending = s.pending ∧
    (s.modTwin f).twin = f s.twin := by
  and_intros <;> rfl

@[simp] theorem State.modFw_fields (s : State) (f : Fw → Fw) :
    (s.modFw f).clk = s.clk ∧ (s.modFw f).pace = s.pace ∧ (s.modFw f).fab = s.fab ∧ (s.modFw f).atlas = s.atlas ∧ (s.modFw f).par = s.par ∧
    (s.modFw f).dbg = s.dbg ∧ (s.modFw f).load = s.load ∧ (s.modFw f).iso = s.iso ∧ (s.modFw f).ctr = s.ctr ∧ (s.modFw f).vlv = s.vlv ∧
    (s.modFw f).light = s.light ∧ (s.modFw f).pwr = s.pwr ∧ (s.modFw f).lgd = s.lgd ∧ (s.modFw f).svy = s.svy ∧ (s.modFw f).inp = s.inp ∧
    (s.modFw f).net = s.net ∧ (s.modFw f).agr = s.agr ∧ (s.modFw f).acc = s.acc ∧ (s.modFw f).xi = s.xi ∧ (s.modFw f).mem = s.mem ∧
    (s.modFw f).dma = s.dma ∧ (s.modFw f).boot = s.boot ∧ (s.modFw f).il = s.il ∧ (s.modFw f).twin = s.twin ∧ (s.modFw f).pending = s.pending ∧
    (s.modFw f).fw = f s.fw := by
  and_intros <;> rfl

@[simp] theorem State.modSlot_fields (s : State) (i : Nat) (f : Slot → Slot) :
    (s.modSlot i f).clk = s.clk ∧ (s.modSlot i f).pace = s.pace ∧ (s.modSlot i f).fab = s.fab ∧ (s.modSlot i f).atlas = s.atlas ∧
    (s.modSlot i f).par = s.par ∧ (s.modSlot i f).dbg = s.dbg ∧ (s.modSlot i f).load = s.load ∧ (s.modSlot i f).iso = s.iso ∧
    (s.modSlot i f).ctr = s.ctr ∧ (s.modSlot i f).vlv = s.vlv ∧ (s.modSlot i f).light = s.light ∧ (s.modSlot i f).pwr = s.pwr ∧
    (s.modSlot i f).lgd = s.lgd ∧ (s.modSlot i f).svy = s.svy ∧ (s.modSlot i f).inp = s.inp ∧ (s.modSlot i f).net = s.net ∧
    (s.modSlot i f).agr = s.agr ∧ (s.modSlot i f).acc = s.acc ∧ (s.modSlot i f).xi = s.xi ∧ (s.modSlot i f).mem = s.mem ∧
    (s.modSlot i f).dma = s.dma ∧ (s.modSlot i f).boot = s.boot ∧ (s.modSlot i f).il = s.il ∧ (s.modSlot i f).twin = s.twin ∧
    (s.modSlot i f).pending = s.pending := by
  and_intros <;> rfl

@[simp] theorem State.setInput_fields (s : State) (i : Nat) (x : Input) :
    (s.setInput i x).clk = s.clk ∧ (s.setInput i x).pace = s.pace ∧ (s.setInput i x).fab = s.fab ∧ (s.setInput i x).atlas = s.atlas ∧
    (s.setInput i x).par = s.par ∧ (s.setInput i x).dbg = s.dbg ∧ (s.setInput i x).load = s.load ∧ (s.setInput i x).iso = s.iso ∧
    (s.setInput i x).ctr = s.ctr ∧ (s.setInput i x).vlv = s.vlv ∧ (s.setInput i x).light = s.light ∧ (s.setInput i x).pwr = s.pwr ∧
    (s.setInput i x).lgd = s.lgd ∧ (s.setInput i x).svy = s.svy ∧ (s.setInput i x).net = s.net ∧ (s.setInput i x).agr = s.agr ∧
    (s.setInput i x).acc = s.acc ∧ (s.setInput i x).xi = s.xi ∧ (s.setInput i x).mem = s.mem ∧ (s.setInput i x).dma = s.dma ∧
    (s.setInput i x).boot = s.boot ∧ (s.setInput i x).fw = s.fw ∧ (s.setInput i x).il = s.il ∧ (s.setInput i x).twin = s.twin ∧
    (s.setInput i x).pending = s.pending := by
  and_intros <;> rfl

@[simp] theorem State.modSvy_fields (s : State) (f : Survey → Survey) :
    (s.modSvy f).clk = s.clk ∧ (s.modSvy f).pace = s.pace ∧ (s.modSvy f).fab = s.fab ∧ (s.modSvy f).atlas = s.atlas ∧ (s.modSvy f).par = s.par ∧
    (s.modSvy f).dbg = s.dbg ∧ (s.modSvy f).load = s.load ∧ (s.modSvy f).iso = s.iso ∧ (s.modSvy f).ctr = s.ctr ∧ (s.modSvy f).vlv = s.vlv ∧
    (s.modSvy f).light = s.light ∧ (s.modSvy f).pwr = s.pwr ∧ (s.modSvy f).lgd = s.lgd ∧ (s.modSvy f).inp = s.inp ∧ (s.modSvy f).net = s.net ∧
    (s.modSvy f).agr = s.agr ∧ (s.modSvy f).acc = s.acc ∧ (s.modSvy f).xi = s.xi ∧ (s.modSvy f).mem = s.mem ∧ (s.modSvy f).dma = s.dma ∧
    (s.modSvy f).boot = s.boot ∧ (s.modSvy f).fw = s.fw ∧ (s.modSvy f).il = s.il ∧ (s.modSvy f).twin = s.twin ∧ (s.modSvy f).pending = s.pending ∧
    (s.modSvy f).svy = f s.svy := by
  and_intros <;> rfl

@[simp] theorem State.setFeed_fields (s : State) (f : Feed) (ok : Bool) (volt : Nat) :
    (s.setFeed f ok volt).clk = s.clk ∧ (s.setFeed f ok volt).pace = s.pace ∧ (s.setFeed f ok volt).fab = s.fab ∧
    (s.setFeed f ok volt).atlas = s.atlas ∧ (s.setFeed f ok volt).par = s.par ∧ (s.setFeed f ok volt).dbg = s.dbg ∧
    (s.setFeed f ok volt).load = s.load ∧ (s.setFeed f ok volt).iso = s.iso ∧ (s.setFeed f ok volt).ctr = s.ctr ∧ (s.setFeed f ok volt).vlv = s.vlv ∧
    (s.setFeed f ok volt).light = s.light ∧ (s.setFeed f ok volt).lgd = s.lgd ∧ (s.setFeed f ok volt).svy = s.svy ∧
    (s.setFeed f ok volt).inp = s.inp ∧ (s.setFeed f ok volt).net = s.net ∧ (s.setFeed f ok volt).agr = s.agr ∧ (s.setFeed f ok volt).acc = s.acc ∧
    (s.setFeed f ok volt).xi = s.xi ∧ (s.setFeed f ok volt).mem = s.mem ∧ (s.setFeed f ok volt).dma = s.dma ∧ (s.setFeed f ok volt).boot = s.boot ∧
    (s.setFeed f ok volt).fw = s.fw ∧ (s.setFeed f ok volt).il = s.il ∧ (s.setFeed f ok volt).twin = s.twin ∧
    (s.setFeed f ok volt).pending = s.pending := by
  and_intros <;> rfl

@[simp] theorem State.modBoot_fields (s : State) (f : Boot → Boot) :
    (s.modBoot f).clk = s.clk ∧ (s.modBoot f).pace = s.pace ∧ (s.modBoot f).fab = s.fab ∧ (s.modBoot f).atlas = s.atlas ∧ (s.modBoot f).par = s.par ∧
    (s.modBoot f).dbg = s.dbg ∧ (s.modBoot f).load = s.load ∧ (s.modBoot f).iso = s.iso ∧ (s.modBoot f).ctr = s.ctr ∧ (s.modBoot f).vlv = s.vlv ∧
    (s.modBoot f).light = s.light ∧ (s.modBoot f).pwr = s.pwr ∧ (s.modBoot f).lgd = s.lgd ∧ (s.modBoot f).svy = s.svy ∧ (s.modBoot f).inp = s.inp ∧
    (s.modBoot f).net = s.net ∧ (s.modBoot f).agr = s.agr ∧ (s.modBoot f).acc = s.acc ∧ (s.modBoot f).xi = s.xi ∧ (s.modBoot f).mem = s.mem ∧
    (s.modBoot f).dma = s.dma ∧ (s.modBoot f).fw = s.fw ∧ (s.modBoot f).il = s.il ∧ (s.modBoot f).twin = s.twin ∧ (s.modBoot f).pending = s.pending ∧
    (s.modBoot f).boot = f s.boot := by
  and_intros <;> rfl

/-! ### What a record reads as after an update -/

/-- An entry of a vector after an update of an entry. -/
theorem getD_setIfInBounds {α : Type} {k : Nat} (v : Vector α k) (i j : Nat) (x d : α) :
    (v.setIfInBounds i x).toList.getD j d = if i = j ∧ i < k then x else v.toList.getD j d := by
  simp only [Vector.toList_setIfInBounds, List.getD_eq_getElem?_getD, List.getElem?_set]
  split
  · subst i
    split
    · rename_i h
      simp at h
      simp [h]
    · rename_i h
      simp at h
      simp [h]
  · rename_i h
    simp [h]

theorem State.chan_setChan (s : State) (i j : Nat) (x : Chan) :
    (s.setChan i x).chan j = if i = j ∧ i < 64 then x else s.chan j := getD_setIfInBounds ..

theorem State.chan_modChan (s : State) (i j : Nat) (f : Chan → Chan) :
    (s.modChan i f).chan j = if i = j ∧ i < 64 then f (s.chan i) else s.chan j := getD_setIfInBounds ..

theorem State.compOf_setComp (s : State) (i j : Nat) (x : Comp) :
    (s.setComp i x).compOf j = if i = j ∧ i < 32 then x else s.compOf j := getD_setIfInBounds ..

theorem State.genOf_setGen (s : State) (i j : Nat) (x : Gen) :
    (s.setGen i x).genOf j = if i = j ∧ i < 16 then x else s.genOf j := getD_setIfInBounds ..

theorem State.dieRec_setDie (s : State) (i j : Nat) (x : Die) :
    (s.setDie i x).dieRec j = if i = j ∧ i < 4 then x else s.dieRec j := getD_setIfInBounds ..

theorem State.ses_modSes (s : State) (i j : Nat) (f : SesRec → SesRec) :
    (s.modSes i f).ses j = if i = j ∧ i < 4 then f (s.ses i) else s.ses j := getD_setIfInBounds ..

theorem State.canPort_setCan (s : State) (i j : Nat) (x : CanPort) :
    (s.setCan i x).canPort j = if i = j ∧ i < 8 then x else s.canPort j := getD_setIfInBounds ..

theorem State.canPort_modCan (s : State) (i j : Nat) (f : CanPort → CanPort) :
    (s.modCan i f).canPort j = if i = j ∧ i < 8 then f (s.canPort i) else s.canPort j := getD_setIfInBounds ..

theorem State.linPort_setLin (s : State) (i j : Nat) (x : LinPort) :
    (s.setLin i x).linPort j = if i = j ∧ i < 8 then x else s.linPort j := getD_setIfInBounds ..

theorem State.linPort_modLin (s : State) (i j : Nat) (f : LinPort → LinPort) :
    (s.modLin i f).linPort j = if i = j ∧ i < 8 then f (s.linPort i) else s.linPort j := getD_setIfInBounds ..

theorem State.ethPort_setEth (s : State) (i j : Nat) (x : EthPort) :
    (s.setEth i x).ethPort j = if i = j ∧ i < 2 then x else s.ethPort j := getD_setIfInBounds ..

theorem State.spePort_setSpe (s : State) (i j : Nat) (x : SpePort) :
    (s.setSpe i x).spePort j = if i = j ∧ i < 2 then x else s.spePort j := getD_setIfInBounds ..

theorem State.chain_setChain (s : State) (i j : Nat) (x : Chain) :
    (s.setChain i x).chain j = if i = j ∧ i < 8 then x else s.chain j := getD_setIfInBounds ..

theorem State.ntcRec_setNtc (s : State) (i j : Nat) (x : Ntc) :
    (s.setNtc i x).ntcRec j = if i = j ∧ i < 8 then x else s.ntcRec j := getD_setIfInBounds ..

theorem State.valve_setValve (s : State) (i j : Nat) (x : Valve) :
    (s.setValve i x).valve j = if i = j ∧ i < 16 then x else s.valve j := getD_setIfInBounds ..

theorem State.valve_modValve (s : State) (i j : Nat) (f : Valve → Valve) :
    (s.modValve i f).valve j = if i = j ∧ i < 16 then f (s.valve i) else s.valve j := getD_setIfInBounds ..

theorem State.vbank_modBank (s : State) (i j : Nat) (f : VBank → VBank) :
    (s.modBank i f).vbank j = if i = j ∧ i < 4 then f (s.vbank i) else s.vbank j := getD_setIfInBounds ..

theorem State.paceOf_modPace (s : State) (i j : Nat) (f : PaceRec → PaceRec) :
    (s.modPace i f).paceOf j = if i = j ∧ i < 16 then f (s.paceOf i) else s.paceOf j := getD_setIfInBounds ..

theorem State.core_setCore (s : State) (i j : Nat) (x : Core) :
    (s.setCore i x).core j = if i = j ∧ i < 73 then x else s.core j := getD_setIfInBounds ..

theorem State.core_modCore (s : State) (i j : Nat) (f : Core → Core) :
    (s.modCore i f).core j = if i = j ∧ i < 73 then f (s.core i) else s.core j := getD_setIfInBounds ..

theorem State.applet_modApplet (s : State) (i j : Nat) (f : Applet → Applet) :
    (s.modApplet i f).applet j = if i = j ∧ i < 4 then f (s.applet i) else s.applet j := getD_setIfInBounds ..

theorem State.dbgCore_modDbgCore (s : State) (i j : Nat) (f : DbgCore → DbgCore) :
    (s.modDbgCore i f).dbgCore j = if i = j ∧ i < 5 then f (s.dbgCore i) else s.dbgCore j := getD_setIfInBounds ..

theorem State.dmaOf_modDma (s : State) (i j : Nat) (f : DmaCh → DmaCh) :
    (s.modDma i f).dmaOf j = if i = j ∧ i < 32 then f (s.dmaOf i) else s.dmaOf j := getD_setIfInBounds ..

theorem State.inputOf_setInput (s : State) (i j : Nat) (x : Input) :
    (s.setInput i x).inputOf j = if i = j ∧ i < 48 then x else s.inputOf j := getD_setIfInBounds ..

theorem State.tokenRec_modTok (s : State) (i j : Nat) (f : Token → Token) :
    (s.modTok i f).tokenRec j = if i = j ∧ i < 16 then f (s.tokenRec i) else s.tokenRec j := getD_setIfInBounds ..

theorem State.aerial_modLf (s : State) (i j : Nat) (f : Aerial → Aerial) :
    (s.modLf i f).aerial j = if i = j ∧ i < 8 then f (s.aerial i) else s.aerial j := getD_setIfInBounds ..

theorem State.feRec_modFe (s : State) (i j : Nat) (f : FrontEnd → FrontEnd) :
    (s.modFe i f).feRec j = if i = j ∧ i < 4 then f (s.feRec i) else s.feRec j := getD_setIfInBounds ..

end Sys2Proof.Machine
end

