-- ==== Sys2Proof/Laws/Serve.lean ====
section
/-!
SUPPORT. Messages: what sending, answering, accepting and serving a request do to the sessions, the handles and the messages sent (03 R66,
R67, R75 to R78).
-/
namespace Sys2Proof.Machine

/-! ### Sending (03 R66, R67) -/

/-- On the uplink a message leaves at once, to the destination given. -/
theorem State.sendTo_zero (s : State) (i d p : Nat) (m : Msg) :
    s.sendTo 0 i d p m = { s with atlas := { s.atlas with sent := s.atlas.sent ++ [⟨i, d, p, m⟩] } } := by
  simp [State.sendTo]

/-- Raising an event of a core leaves Atlas. -/
theorem State.raiseEv_foldl_atlas (s : State) (l : List Nat) (b : Nat) : (l.foldl (fun s i => s.raiseEv i b) s).atlas = s.atlas := by
  induction l generalizing s with
  | nil => rfl
  | cons x l ih => exact ih _

/-- A message of the pair leaves Atlas. -/
@[simp] theorem State.sendCtl_atlas (s : State) (k v : Nat) : (s.sendCtl k v).atlas = s.atlas := by
  unfold State.sendCtl State.sendCtlMsg
  split <;> rfl

/-- What a session's interrupt raises leaves Atlas. -/
@[simp] theorem State.mbxEvent_atlas (s : State) (i : Nat) : (s.mbxEvent i).atlas = s.atlas := by
  unfold State.mbxEvent
  extract_lets on u
  split
  · simp [u]
  · split
    · exact (State.raiseEv_foldl_atlas u _ _).trans (by simp [u])
    · simp [u]

/-- On the other sessions it is posted or queued behind the posted one. -/
theorem State.sendTo_atlas (s : State) {j : Nat} (i d p : Nat) (m : Msg) (h : j ≠ 0) :
    (s.sendTo j i d p m).atlas = (s.modSes j (fun r => r.push m)).atlas := by
  simp [State.sendTo, h]

/-- Sending leaves the handles, the requests that wait and the readiness. -/
theorem State.sendTo_handles (s : State) (j i d p : Nat) (m : Msg) :
    (s.sendTo j i d p m).atlas.handles = s.atlas.handles ∧ (s.sendTo j i d p m).atlas.inbox = s.atlas.inbox ∧
    (s.sendTo j i d p m).atlas.ready = s.atlas.ready := by
  by_cases h : j = 0
  · subst h
    simp [State.sendTo_zero]
  · rw [State.sendTo_atlas s i d p m h]
    exact ⟨rfl, rfl, rfl⟩

/-- A message pushed into a free mailbox is the posted one; into a used one it is queued. -/
theorem SesRec.push_posted (r : SesRec) (m : Msg) : (r.push m).posted = some (r.posted.getD m) := by
  unfold SesRec.push
  split
  · simp_all
  · split <;> simp_all

/-! ### Answering (03 R75, R77) -/

/-- An answer leaves the handles and the requests that wait. -/
theorem State.answer_handles (s : State) (r : InReq) (st h : Nat) (pl : List Byte) :
    (s.answer r st h pl).atlas.handles = s.atlas.handles ∧ (s.answer r st h pl).atlas.inbox = s.atlas.inbox := by
  unfold State.answer
  extract_lets m u
  exact ⟨(State.sendTo_handles u _ _ _ _ _).1, (State.sendTo_handles u _ _ _ _ _).2.1⟩

/-- On the uplink an answer is the last message sent, to the source of its request. -/
theorem State.answer_sent (s : State) (r : InReq) (st h : Nat) (pl : List Byte) (hs : r.ses = 0) :
    (s.answer r st h pl).atlas.sent =
      s.atlas.sent ++ [⟨r.iface, r.src, r.sport, ⟨s.rspFmt r.fmt, r.op, r.seq, h, st, 1, 0, pl⟩⟩] := by
  simp only [State.answer, hs, State.sendTo_zero]
  rfl

/-! ### Handles (03 R76, R78) -/

/-- The handle that an accepted request takes. -/
def State.newHandle (s : State) (r : InReq) : Nat :=
  r.ses * 16384 + nextFree ((s.atlas.handles.filter (fun h => h.ses = r.ses)).map (fun h => h.num % 16384)) 256 (s.ses r.ses).nextSerial

/-- A request of a session with a handle to take is accepted: one handle more, PENDING. -/
theorem State.accept_some (s : State) (r : InReq) (unit : Nat) (h : s.handleCount r.ses < 256) :
    ∃ t, s.accept r unit = (t, some (s.newHandle r)) ∧ t.atlas.handles =
      s.atlas.handles ++ [⟨s.newHandle r, r.ses, r.org, s.rspFmt r.fmt, r.op, r.seq, unit, r.stamp, 0, 0xFFFF, .pending, false⟩] := by
  unfold State.accept
  rw [if_neg (by omega)]
  extract_lets used ser num u hn src v n w
  refine ⟨w.answer r St.accepted num [], rfl, ?_⟩
  rw [(State.answer_handles w r _ _ _).1]
  rfl

/-- A session without a handle to take has the request refused. -/
theorem State.accept_none (s : State) (r : InReq) (unit : Nat) (h : 256 ≤ s.handleCount r.ses) :
    s.accept r unit = (s.answer r St.noHandle 0 [], none) := by
  unfold State.accept
  rw [if_pos h]

/-! ### Serving (03 R71, R73, R75, R452) -/

/-- A request that Atlas takes reaches its operation, after the session's timeout has been restarted. -/
theorem State.serve_takes {u : State} {q : Rq} {op handle : Nat} {payload : List Byte} (k : InReq → State → State)
    (h : Takes u q op handle payload) :
    u.serve q op handle payload k = k (u.direct q op handle payload) (u.touch q.ses) := by
  obtain ⟨h1, h2, h3, h4, h5⟩ := h
  have h3' : u.hasRoom (u.direct q op handle payload).ses = true := h3
  have h4' : (u.touch (u.direct q op handle payload).ses).duplicate (u.direct q op handle payload) = none := h4
  have h5' : (u.touch (u.direct q op handle payload).ses).precheck (u.direct q op handle payload) = none := h5
  simp only [State.serve, h1, h2, h3', State.serveOne, h4', h5']
  rfl

/-- A request while Atlas does not run changes nothing. -/
theorem State.serve_down {u : State} {q : Rq} {op handle : Nat} {payload : List Byte} (k : InReq → State → State) (h : u.atlasUp = false) :
    u.serve q op handle payload k = u := by
  simp [State.serve, h]

end Sys2Proof.Machine
end

