-- ==== Sys2Proof/Machine/Lands.lean ====
section
/-!
DEFINITION. Levels of the logic lands (18 R445, R446, R450, 09 R259, 10 R265).
-/
namespace Sys2Proof.Machine

/-- What a logic land carries: driven low or high, or high-impedance with no pull (09 R259). -/
inductive Land where
  | low
  | high
  | float
  deriving DecidableEq, Repr

/-- A land that a domain drives to a level; it floats while the domain is off (09 R259). -/
def State.land (s : State) (p : Nat) (level : Bool) : Land := if s.pd p then (if level then .high else .low) else .float

/-- The external transceiver of CAN port n is in use: XCVR 3, on CAN4 to CAN7 only (10 R265). -/
def State.canBypass (s : State) (n : Nat) : Bool := 4 ≤ n && n < 8 && s.pf Pf.canCfg_XCVR n = 3

/-- CANn_TXD of CAN4 to CAN7 while the controller puts out a bit (true is recessive): with XCVR 3 the bit, else high (R450). -/
def State.canTxd (s : State) (n : Nat) (bit : Bool) : Land := s.land 6 (!s.canBypass n || bit)

/-- CANn_MODE of CAN4 to CAN7: with XCVR 3 high for FAST mode during the XL data phase and low otherwise (10 R265); else low (R450). -/
def State.canMode (s : State) (n : Nat) (xlData : Bool) : Land := s.land 6 (s.canBypass n && xlData)

/-- The level that the controller of CAN port n reads: CANn_RXD with XCVR 3; else the integrated transceiver's, and RXD is ignored (R450). -/
def State.canRx (s : State) (n : Nat) (rxd bus : Bool) : Bool := if s.canBypass n then rxd else bus

/-- FEn_EN: high while `uwb.fe[f].cfg.EN` is 1 (12 R331). -/
def State.feEn (s : State) (f : Nat) : Land := s.land 7 (s.pb Pf.feCfg_EN f)

/-- LCn_DO of chain c at tick t of a frame; a chain without a frame in progress holds it low (08 R217). -/
def State.lcLand (s : State) (c t : Nat) : Land := s.land 8 ((s.lcDo c t).getD false)

/-- BENCH_IRQ_N, open drain: low while an enabled flag of session 2 is set, else released (03 R67). -/
def State.benchIrqLand (s : State) : Land := if s.benchIrqN then .float else .low

/-- V3AON is present whenever PD0 runs (R445). -/
def State.v3aon (s : State) : Bool := s.pd 0

end Sys2Proof.Machine
end

