-- ==== Sys2Proof/WellFormed.lean ====
section
/-!
DEFINITION. Well-formed commands: every number of a command fits the field that carries it. What the manual lets a host send beyond a range of
its own is well formed here, since the device answers it with a status.
-/
namespace Sys2Proof

/-- Request header (03 R70). -/
def Rq.wf (q : Rq) : Bool := q.seq < 2 ^ 16 && q.fmt < 2 ^ 8 && q.crc < 2 ^ 32

/-- A UDP datagram: ports of 16 bits, a 128-bit source, pieces inside an IP datagram (03 R66). -/
def Datagram.wf (d : Datagram) : Bool :=
  d.src < 2 ^ 128 && d.sport < 2 ^ 16 && d.dport < 2 ^ 16 && d.frag.1 < 2 ^ 32 && d.frag.2.1 + d.bytes.length < 2 ^ 16

/-- A write into a request window: inside the 8 KiB buffer, or 32 bits (03 R67). -/
def BufWrite.wf : BufWrite → Bool
  | .bytes off data => off + data.length ≤ 8192
  | .len n => n < 2 ^ 32

/-- A bench transaction: a command byte and three offset bytes (03 R69). -/
def SpiTrans.wf (t : SpiTrans) : Bool := t.cmd < 2 ^ 8 && (match t.off with | some o => o < 2 ^ 24 | none => true)

/-- A write entry (03 R85). -/
def ParWrite.wf (w : ParWrite) : Bool := w.id < 2 ^ 16 && w.idx < 2 ^ 16 && w.type < 2 ^ 8 && w.vlen < 2 ^ 16 && w.val < 2 ^ (8 * w.vlen)

/-- A fabric access: ports 0 to 7, an address of 32 bits, a width in bytes, which the target judges, and data of that width
(02 R36, R37). -/
def FabReq.wf (r : FabReq) : Bool :=
  r.port < 8 && r.addr < 2 ^ 32 && r.size < 256 && r.data < 2 ^ (8 * r.size)

/-- CHAN_CMD and VALVE_CMD (04 R106). -/
def UnitCmd.wf (c : UnitCmd) : Bool := c.unit < 2 ^ 16 && c.opt < 2 ^ 8 && c.deadline < 2 ^ 32

/-- LIGHT_FRAME (08 R221). -/
def LightFrame.wf (f : LightFrame) : Bool := f.target < 2 ^ 8 && f.flags < 2 ^ 8 && f.first < 2 ^ 16 && f.count < 2 ^ 16 && f.fid < 2 ^ 16

/-- A wake source (09 R250, R252). -/
def WakeSrc.wf (w : WakeSrc) : Bool := w.code < 2 ^ 5 && w.bit < 28 && w.detail < 2 ^ 32

/-- A CAN frame (10 R268): an identifier of 11 or 29 bits, and at most 8, 64 or 2,048 data bytes. -/
def CanFrame.wf (f : CanFrame) : Bool :=
  f.id < (if f.xtd then 2 ^ 29 else 2 ^ 11) && f.fmt < 3 && f.flags < 2 ^ 8 && f.sdt < 2 ^ 8 && f.vcid < 2 ^ 8 && f.af < 2 ^ 32
    && f.dlc < 2 ^ 11 && f.data.length ≤ (if f.fmt = 0 then 8 else if f.fmt = 1 then 64 else 2048)

/-- A LIN response (10 R279). -/
def LinFrame.wf (f : LinFrame) : Bool := f.data.length ≤ 8 && f.sof < 2 ^ 64

/-- An Ethernet frame (10 R284). -/
def EthFrame.wf (f : EthFrame) : Bool := f.dst < 2 ^ 48 && f.src < 2 ^ 48 && (match f.vlan with | some v => v < 2 ^ 12 | none => true) && f.len < 2 ^ 16 && (match f.ask with | some a => decide (a < 2 ^ 128) | none => true)

/-- The gPTP time of a Sync (10 R275). -/
def SyncIn.wf (y : SyncIn) : Bool := y.g0 < 2 ^ 80 && y.t0 < 2 ^ 64

/-- ACCESS_CMD (12 R323). -/
def AccessCmd.wf (c : AccessCmd) : Bool := c.slot < 2 ^ 8 && c.aerials < 2 ^ 8 && c.deadline < 2 ^ 32

/-- A reply frame (12 R315). -/
def Reply.wf (r : Reply) : Bool := r.tid < 2 ^ 32 && r.nt < 2 ^ 64 && r.field.length = 8 && r.mac < 2 ^ 64

/-- 64-bit ticks (10 R273). -/
def CanTimes.wf (x : CanTimes) : Bool := x.sof < 2 ^ 64 && x.idEnd < 2 ^ 64

/-- What a responder measures of a header (10 R280). -/
def LinBreak.wf (x : LinBreak) : Bool := x.brk < 2 ^ 16 && x.rate < 2 ^ 20

/-- At most eight bytes (10 R281). -/
def LinPub.wf (x : LinPub) : Bool := decide (x.data.length ≤ 8)

/-- What a slot saw (12 R314). -/
def SlotObs.wf : SlotObs → Bool
  | .reply r => r.wf
  | .empty => true
  | .collided => true
  | .malformed => true

/-- Token-memory blocks of 16 bytes (12 R316). -/
def ExchObs.wf (x : ExchObs) : Bool := x.blocks.all (fun b => b < 2 ^ 128)

/-- STS quality in % (12 R317). -/
def Ranging.wf (r : Ranging) : Bool := r.qResp ≤ 100 && r.qReport ≤ 100

/-- A link transaction (13 R335). -/
def LinkReq.wf (r : LinkReq) : Bool :=
  r.op < 2 ^ 4 && r.count < 2 ^ 4 && r.tag < 2 ^ 8 && r.be < 2 ^ 8 && r.rid < 2 ^ 8 && r.addr < 2 ^ 32 && r.data.all (fun d => d < 2 ^ 32)

/-- The partner's pair state (13 R350). -/
def PairPeer.wf (p : PairPeer) : Bool := p.role < 5 && (match p.cause with | some c => c < 16 | none => true)

/-- A forwarded command (13 R352). -/
def FwdCmd.wf : FwdCmd → Bool
  | .chan _ _ => true
  | .pulse _ _ d => d ≤ 1000
  | .param w => w.wf

/-- A report (13 R353). -/
def PairReport.wf (r : PairReport) : Bool :=
  r.window < 2 ^ 32 && r.stamp < 2 ^ 64 && r.on < 2 ^ 64 && r.fail < 2 ^ 64 && r.pulse < 2 ^ 64 && r.inputs < 2 ^ 48 && r.duty.all (fun d => d < 2 ^ 16)

/-- IMG_BEGIN (16 R412). -/
def ImgBegin.wf (b : ImgBegin) : Bool := b.target < 2 ^ 8 && b.flags < 2 ^ 8 && b.len < 2 ^ 32 && b.token < 2 ^ 32

/-- IMG_BLOCK (16 R413). -/
def ImgBlock.wf (b : ImgBlock) : Bool := b.token < 2 ^ 32 && b.off < 2 ^ 32 && b.len < 2 ^ 32 && b.crc < 2 ^ 32 && b.data.length ≤ 4096

/-- Failed memories: entries 0 to 73 of `mem.selftest` (15 R402, R408). -/
def BootObs.wf (o : BootObs) : Bool := o.failed.all (fun x => x.1 < 74)

/-- A command is well formed. -/
def Instr.wf (i : Instr) : Bool :=
  match i with
  | .udpDatagramReceived _ d => d.wf
  | .fragmentReassemblyTimeout _ idn => idn < 2 ^ 32
  | .mbxClaim _ _ _ => true
  | .requestBufferWrite _ _ _ w => w.wf
  | .mbxDoorbellGo _ _ _ => true
  | .claimTimeout _ _ => true
  | .mbxRspAck _ _ _ => true
  | .mbxCtrlClrcnt _ _ mask => mask < 2 ^ 32
  | .mbxIrqStatClear _ _ _ mask => mask < 2 ^ 32
  | .benchSpiTransaction _ t => t.wf
  | .sessionTimeout _ _ => true
  | .handleKeepExpiry _ h => h < 2 ^ 16
  | .keptEventExpiry _ => true
  | .nop _ q => q.wf
  | .ident _ q => q.wf
  | .paramRead _ q id idx => q.wf && id < 2 ^ 16 && idx < 2 ^ 16
  | .paramWrite _ q w => q.wf && w.wf
  | .paramReadMulti _ q ps => q.wf && decide (1 ≤ ps.length ∧ ps.length ≤ 64) && ps.all (fun p => p.1 < 2 ^ 16 && p.2 < 2 ^ 16)
  | .paramWriteSet _ q ws => q.wf && decide (1 ≤ ws.length ∧ ws.length ≤ 64) && ws.all ParWrite.wf
  | .paramDescribe _ q id idx => q.wf && id < 2 ^ 16 && idx < 2 ^ 16
  | .paramCommit _ q => q.wf
  | .paramCommitDone _ _ => true
  | .handleQuery _ q h => q.wf && h < 2 ^ 16
  | .handleCancel _ q h => q.wf && h < 2 ^ 16
  | .handleRelease _ q h => q.wf && h < 2 ^ 16
  | .eventSubscribe _ q mask => q.wf && mask < 2 ^ 32
  | .fleetCommit _ q target => q.wf && target < 2 ^ 16
  | .fleetCommitDone _ _ => true
  | .fabricRequest _ r _ => r.wf
  | .fabricResponse _ port unit => port < 2 ^ 4 && unit < 2 ^ 16
  | .fabricTimeout _ port unit => port < 2 ^ 4 && unit < 2 ^ 16
  | .domainDrainEnd _ _ => true
  | .paceOpreq _ _ _ op => op < 2 ^ 32
  | .paceVselWrite _ _ _ v => v < 2 ^ 32
  | .paceCapWrite _ _ _ c => c < 2 ^ 32
  | .paceErrClear _ _ _ mask => mask < 2 ^ 32
  | .voltageSettled _ _ => true
  | .capWindowBoundary _ _ => true
  | .droopStart _ _ => true
  | .droopEnd _ _ => true
  | .pllLock _ => true
  | .pllFallback _ => true
  | .pllFallbackEnd _ => true
  | .tbNowLoRead _ _ => true
  | .tbAonLoRead _ _ => true
  | .aonCalibration _ ticks => ticks < 2 ^ 32
  | .chanOff _ q c => q.wf && c.wf
  | .chanOn _ q c => q.wf && c.wf
  | .chanLow _ q c => q.wf && c.wf
  | .chanForward _ q c => q.wf && c.wf
  | .chanReverse _ q c => q.wf && c.wf
  | .chanBrake _ q c => q.wf && c.wf
  | .chanClear _ q c => q.wf && c.wf
  | .chanPulse _ q c => q.wf && c.wf
  | .commandDeadline _ unit => unit < 2 ^ 16
  | .deadTimeEnd _ _ => true
  | .inrushEnd _ _ _ => true
  | .limitUpdate _ _ _ => true
  | .reversalBrakeEnd _ _ => true
  | .fastTrip _ _ _ => true
  | .overcurrent _ _ _ => true
  | .stall _ _ _ => true
  | .stallAllowanceEnd _ _ _ => true
  | .i2tModelStep _ _ _ => true
  | .deltaT _ _ _ => true
  | .tjShutdown _ _ _ => true
  | .inrushTimeout _ _ _ => true
  | .retryConditionsMet _ _ _ => true
  | .confirmationWindowEnd _ _ => true
  | .offComplete _ _ _ => true
  | .feedLost _ _ volt => volt < 2 ^ 16
  | .feedRestored _ _ volt => volt < 2 ^ 16
  | .feedLostAbandon _ _ => true
  | .overvoltage _ _ volt => volt < 2 ^ 16
  | .reverseCurrent _ _ _ => true
  | .reverseCurrentEnd _ _ => true
  | .sagStart _ _ => true
  | .sagEnd _ _ => true
  | .sagInrushTimeout _ _ _ => true
  | .offStateTestStart _ _ => true
  | .offStatePullupOn _ _ mv => mv < 2 ^ 32
  | .offStateTestEnd _ _ mv => mv < 2 ^ 32
  | .compositeEnable _ q _ cfg => q.wf && cfg < 2 ^ 32
  | .compositeDisable _ q _ cfg => q.wf && cfg < 2 ^ 32
  | .genEnable _ q _ cfg => q.wf && cfg < 2 ^ 32
  | .periodBoundary _ _ => true
  | .pulseOnEdge _ _ unit => unit < 2 ^ 16
  | .pulseOffEdge _ _ unit => unit < 2 ^ 16
  | .arbiterPass _ => true
  | .modelStep _ tcase _ => decide (tcase.length = 4)
  | .trueUp _ _ => true
  | .divergenceCheck _ _ => true
  | .blockTimeout _ _ => true
  | .contourWindowEnd _ _ => true
  | .contourDatagramSend _ => true
  | .valveOff _ q c => q.wf && c.wf
  | .valveAct _ q c => q.wf && c.wf
  | .valveClear _ q c => q.wf && c.wf
  | .valveDeadline _ _ => true
  | .boostEnd _ _ _ => true
  | .tpeakEnd _ _ _ => true
  | .tholdExpiry _ _ => true
  | .valveConfirmationEnd _ _ => true
  | .chopCycleStart _ _ _ => true
  | .chopLevelReached _ _ _ => true
  | .cycleRecord _ _ _ => true
  | .valveTrip _ _ _ => true
  | .openCoil _ _ _ => true
  | .valveRetryConditions _ _ _ => true
  | .bankFeedLost _ _ => true
  | .valveOffComplete _ _ _ => true
  | .railAvailable _ vrail => vrail < 2 ^ 16
  | .railFault _ vrail => vrail < 2 ^ 16
  | .railLow _ vrail => vrail < 2 ^ 16
  | .lightFrame _ q f => q.wf && f.wf
  | .chainFrameStart _ _ => true
  | .chainFrameEnd _ _ _ _ => true
  | .mxEnable _ q cfg => q.wf && cfg < 2 ^ 32
  | .matrixFrameBoundary _ => true
  | .rowSlotStart _ _ => true
  | .columnIntervalEnd _ _ _ _ _ => true
  | .rowTrip _ _ => true
  | .matrixRestart _ => true
  | .matrixConfirmEnd _ => true
  | .ntcConversion _ codes => decide (codes.length = 8) && codes.all (fun x => x < 4096)
  | .runSampleCycle _ levels => decide (levels.length = 48) && levels.all (fun x => x < 256)
  | .surveyCycle _ levels => decide (levels.length = 48) && levels.all (fun x => x < 256)
  | .powerReqRun _ q opt => q.wf && opt < 2 ^ 8
  | .powerReqHold _ q opt => q.wf && opt < 2 ^ 8
  | .powerReqPark _ q opt => q.wf && opt < 2 ^ 8
  | .powerReqDormant _ q opt => q.wf && opt < 2 ^ 8
  | .entryOffsComplete _ => true
  | .entryCompletionSent _ => true
  | .wakeDuringEntry _ w => w.wf
  | .canWakePattern _ _ => true
  | .selectiveWake _ _ f => f.wf
  | .selectiveWakeErrorLimit _ _ => true
  | .linWake _ _ => true
  | .tc10Wake _ _ => true
  | .speWake _ _ => true
  | .twinPartnerWake _ => true
  | .benchWake _ => true
  | .alarm _ => true
  | .lgdCtrlClr _ _ => true
  | .feedBelowPd0 _ => true
  | .feedStart _ _ _ => true
  | .canFrameReceived _ _ f x => f.wf && x.wf
  | .canFrameSent _ _ sof delay => sof < 2 ^ 64 && delay < 2 ^ 32
  | .canArbitrationLost _ _ => true
  | .canError _ _ _ => true
  | .busOffRecovered _ _ => true
  | .ringDeliver _ _ => true
  | .tunnelFlush _ _ => true
  | .acfCanReceived _ bus f => bus < 2 ^ 8 && f.wf
  | .txRingConsume _ _ => true
  | .linSlotStart _ _ => true
  | .linNoResponse _ _ => true
  | .linHeaderReceived _ _ _ x => x.wf
  | .linFrameReceived _ _ f => f.wf
  | .linPublishWrite _ _ _ x => x.wf
  | .ethLinkUp _ _ _ => true
  | .ethLinkDown _ _ => true
  | .cableTest _ q _ => q.wf
  | .cableTestDone _ _ result dist => result < 2 ^ 3 && dist < 2 ^ 12
  | .plcaLost _ _ => true
  | .switchFrameIngress _ f => f.wf
  | .addressAgeing _ vlan mac => vlan < 2 ^ 12 && mac < 2 ^ 48
  | .gptpSync _ _ s => s.wf
  | .meridianHoldExpiry _ => true
  | .meridianCycleDue _ => true
  | .referenceSent _ _ sof => sof < 2 ^ 64
  | .netsleepEnable _ q cfg => q.wf && cfg < 2 ^ 32
  | .netsleepDisable _ q cfg => q.wf && cfg < 2 ^ 32
  | .keepAliveReceived _ link node reason => link < 2 ^ 5 && node < 2 ^ 8 && reason < 2 ^ 8
  | .keepAliveSend _ => true
  | .keepAliveTimeout _ => true
  | .linGoToSleep _ => true
  | .preCommitSave _ => true
  | .readySleepWaitEnd _ => true
  | .linWakeupRestart _ _ => true
  | .tc10SleepAckTimeout _ _ => true
  | .falseWakeTimeout _ => true
  | .wakeHoldEnd _ => true
  | .waymark _ link node => link < 2 ^ 5 && node < 2 ^ 8
  | .waymarkMinute _ link node => link < 2 ^ 5 && node < 2 ^ 8
  | .search _ q c => q.wf && c.wf
  | .immo _ q c => q.wf && c.wf
  | .tmemRead _ q c first count => q.wf && c.wf && first < 2 ^ 8 && count < 2 ^ 8
  | .enrol _ q c tid keywrap => q.wf && c.wf && tid < 2 ^ 32 && keywrap < 2 ^ 128
  | .revoke _ q c => q.wf && c.wf
  | .calibrate _ q c => q.wf && c.wf
  | .calibrateStep _ ma => ma < 2 ^ 32
  | .lockClear _ q c => q.wf && c.wf
  | .roundStart _ => true
  | .fieldBurst _ _ ma => ma < 2 ^ 32
  | .lfShortTrip _ _ => true
  | .responseSlotEnd _ _ o => o.wf
  | .replyCheck _ => true
  | .exchangeBlock _ _ x => x.wf
  | .rangingResult _ _ r => r.wf
  | .accessDeadline _ => true
  | .lockoutEnd _ => true
  | .failWindowExpiry _ => true
  | .feLinkUp _ _ => true
  | .feLinkDown _ _ errs => errs < 2 ^ 16
  | .twinLinkUp _ => true
  | .twinLinkDown _ _ => true
  | .linkFrameReceived _ bytes => decide (bytes.length = 32)
  | .linkReplay _ => true
  | .twinOutboundRequest _ r => r.wf
  | .twinInboundRequest _ r => r.wf
  | .postedWriteError _ addr code => addr < 2 ^ 32 && code < 2 ^ 3
  | .reservationExpiry _ rid => rid < 2 ^ 16
  | .lockBreak _ => true
  | .ctlInterrupt _ => true
  | .twinWakePattern _ => true
  | .intlkLineChange _ _ => true
  | .idleClaimTimer _ => true
  | .claimCheck _ _ => true
  | .pairStateReport _ p => p.wf
  | .holdoffEnd _ => true
  | .intlkRelease _ cause => cause < 2 ^ 4
  | .leaseExpiry _ => true
  | .forwardedCommand _ f => f.wf
  | .pairReport _ => true
  | .reportCompare _ r => r.wf
  | .missingReport _ => true
  | .takeoverBlocked _ => true
  | .proofStart _ _ v => v < 2 ^ 32
  | .proofEnd _ => true
  | .editionReport _ be mask => be < 2 ^ 16 && mask < 2 ^ 64
  | .intlkCtrlWrite _ _ v => v < 2 ^ 32
  | .intlkErrClear _ _ mask => mask < 2 ^ 32
  | .wordIssue _ _ => true
  | .add _ _ _ _ => true
  | .sub _ _ _ _ => true
  | .and _ _ _ _ => true
  | .or _ _ _ _ => true
  | .xor _ _ _ _ => true
  | .shl _ _ _ _ => true
  | .shr _ _ _ _ => true
  | .sar _ _ _ _ => true
  | .min _ _ _ _ => true
  | .max _ _ _ _ => true
  | .minu _ _ _ _ => true
  | .maxu _ _ _ _ => true
  | .mul _ _ _ => true
  | .mulh _ _ _ => true
  | .mulhu _ _ _ => true
  | .div _ _ _ => true
  | .divu _ _ _ => true
  | .rem _ _ _ => true
  | .remu _ _ _ => true
  | .ld8u _ _ _ => true
  | .ld8s _ _ _ => true
  | .ld16u _ _ _ => true
  | .ld16s _ _ _ => true
  | .ld32 _ _ _ => true
  | .ld64 _ _ _ => true
  | .st8 _ _ _ => true
  | .st16 _ _ _ => true
  | .st32 _ _ _ => true
  | .st64 _ _ _ => true
  | .ldx _ _ _ => true
  | .stx _ _ _ => true
  | .fence _ _ _ => true
  | .beq _ _ _ => true
  | .bne _ _ _ => true
  | .blt _ _ _ => true
  | .bge _ _ _ => true
  | .bltu _ _ _ => true
  | .bgeu _ _ _ => true
  | .jmp _ _ _ => true
  | .call _ _ _ => true
  | .ret _ _ _ => true
  | .rte _ _ _ => true
  | .wait _ _ _ => true
  | .waitEnd _ _ => true
  | .post _ _ _ => true
  | .softwareTrap _ _ _ => true
  | .lateWriteError _ _ code addr => code < 2 ^ 3 && addr < 2 ^ 32
  | .crcInit _ _ _ => true
  | .crcB8 _ _ _ => true
  | .crcB16 _ _ _ => true
  | .crcB32 _ _ _ => true
  | .codecStat _ _ _ => true
  | .shakeAbsorb _ _ _ => true
  | .shakeSqueeze _ _ _ => true
  | .aesEnc _ _ _ => true
  | .dmaGo _ _ _ => true
  | .dmaStop _ _ _ => true
  | .dmaDescriptorComplete _ _ => true
  | .dmaTransferError _ _ code addr => code < 2 ^ 3 && addr < 2 ^ 32
  | .dieGate _ _ _ => true
  | .dieRb _ _ _ => true
  | .dieAck _ _ _ => true
  | .vlvLevel _ _ _ => true
  | .vlvPhase _ _ _ => true
  | .vlvRail _ _ _ => true
  | .appletWatchdog _ _ => true
  | .appletRestart _ _ => true
  | .appletRun _ q _ cfg => q.wf && cfg < 2 ^ 32
  | .dbgHaltreq _ _ _ v => v < 2 ^ 32
  | .dbgCoreStep _ _ _ => true
  | .dbgClrRecord _ _ => true
  | .dbgClrCounts _ _ => true
  | .scrubRead _ => true
  | .memFlipArm _ _ v => v < 2 ^ 32
  | .memFlipDoneClear _ _ => true
  | .memClrRecord _ _ => true
  | .memClrCounts _ _ => true
  | .imgBegin _ q b => q.wf && b.wf
  | .sectorEraseDone _ => true
  | .imgBlock _ q b => q.wf && b.wf
  | .granuleProgrammed _ _ => true
  | .imgVerify _ q target => q.wf && target < 2 ^ 8
  | .verifyDone _ _ => true
  | .imgActivateNow _ q target => q.wf && target < 2 ^ 8
  | .imgActivateArmed _ q target => q.wf && target < 2 ^ 8
  | .imgActivateDisarm _ q target => q.wf && target < 2 ^ 8
  | .imgActivateApplet _ q target mode => q.wf && target < 2 ^ 8 && mode < 2 ^ 8
  | .activationReset _ => true
  | .trialConfirmTimer _ => true
  | .fwConfirm _ q v => q.wf && v < 2 ^ 32
  | .debugUnlock _ q => q.wf
  | .attestSign _ q nonce => q.wf && nonce < 2 ^ 256
  | .attestSignDone _ => true
  | .attestChunk _ q chunk => q.wf && chunk < 2 ^ 16
  | .coldStart _ => true
  | .warmStart _ _ => true
  | .bootPhaseAdvance _ o => o.wf
  | .supervisorWatchdogService _ => true
  | .watchdogReset _ => true
  | .logicSupplyReset _ => true
  | .holdWindowExpiry _ => true
  | .stormClear _ => true
  | .sequencerRestart _ core => core < 2 ^ 7
  | .bootCtrlHoldWrite _ _ v => v < 2 ^ 32
  | .registerWrite _ _ addr v => addr < 2 ^ 32 && v < 2 ^ 32
  | .canIntegration _ _ => true
  | .plcaBeaconReturn _ _ => true
  | .linBusIdle _ _ => true
  | .tc10SleepAck _ _ => true
  | .waymarkRunEnd _ link node => link < 2 ^ 5 && node < 2 ^ 8
  | .stuckLow _ => true
  | .switchOverCauseTimeout _ => true
  | .bootRecordWritten _ => true

end Sys2Proof
end

