-- ==== Sys2Proof/Tests/Slice0.lean ====
section
/-!
SUPPORT. Tests: what WellFormed refuses, the worked examples of the spec, and a state and operands that meet the hypotheses of each
statement of Certificates/Slice0/Obligations.lean.
-/
open Sys2Proof Sys2Proof.Machine
namespace Sys2Proof.Tests

set_option Elab.async false

/-- No time. -/
def dt : Lapse := ⟨0, 0⟩

/-- A device in RUN with every domain on, both feeds in range, the start complete and the sessions' requests served; the other fields as
after reset. -/
def live : State :=
  { clk := { run := true, lock := true }
    atlas := { ready := true }
    pwr := { st := .run, pdOn := 0xFFFF, va := 1300, vb := 1300, aOk := true, bOk := true }
    boot := { phase := 9, cold := true, adopted := true, served := 0 } }

/-- A device in the start phase n of a cold start. -/
def cold (n : Nat) : State :=
  { pwr := { st := .start, pdOn := 9, va := 1300, vb := 1300, aOk := true, bOk := true }, boot := { phase := n, cold := true } }

/-- Check bits and bytes of the first and the last doubleword of the system SRAM. -/
def filled : State :=
  { live with mem := { live.mem with
    cells := (List.range 8).map (fun i => (0x10000000 + i, 0)) ++ (List.range 8).map (fun i => (0x107FFFF8 + i, 0)),
    chk := [(0x10000000, 0), (0x107FFFF8, 0)] } }

/-- The uplink is up, with a peer. -/
def linked : State :=
  let s := ((live.setPf Pf.atlasUplinkPeer_PEER 0 0 7).setPf Pf.swxIp_IP 0 0 9).setPf Pf.atlasUdpPort_PORT 0 0 29000
  { s with net := { s.net with eth := s.net.eth.setIfInBounds 0 { link := true } } }

/-- A request of session n. -/
def rq (n : Fin 4) : Rq := ⟨n, 0, 5, 1, 0⟩

/-- A PENDING handle of session 0. -/
def hnd (num op : Nat) : Hnd := ⟨num, 0, 0, 1, op, 3, 0, 0, 0, 0xFFFF, .pending, false⟩


/-- Access, type, length and whether it is a cable test, of a parameter. -/
def accOf (n : Nat) : Option (Acc × Nat × Nat × Bool) :=
  (parSpec n 0).map (fun x => (x.2.2.acc, x.2.2.type, x.2.2.vlen, decide (x.1.base = 0x3400)))


/-! ### Well-formedness: for each check a term that it refuses -/

/-- A datagram, a fabric access, a CAN frame, a reply, a ranging and a report that are well formed. -/
def dg : Datagram := ⟨0, 0, 0, 0, (0, 0, false), []⟩
def fr : FabReq := ⟨0, 0, 0, 4, false, 0, false⟩
def cf : CanFrame := ⟨0, false, false, 0, 0, 0, 0, 0, 0, []⟩
def rp : Reply := ⟨0, 0, List.replicate 8 0, 0, []⟩
def rg : Ranging := ⟨0, 0, 0, 0, 0, 0, 0, true, true, 0⟩
def pr : PairReport := ⟨0, 0, 0, 0, 0, 0, []⟩

/-- Each bound of Rq. -/
theorem test_wf_rq : (([
    ⟨0, 0, 65536, 0, 0⟩, ⟨0, 0, 0, 256, 0⟩, ⟨0, 0, 0, 0, 2 ^ 32⟩] : List Rq).all (fun x => x.wf = false)) = true := by decide

/-- Each bound of Datagram. -/
theorem test_wf_datagram : (([
    { dg with src := 2 ^ 128 }, { dg with sport := 65536 }, { dg with dport := 65536 }, { dg with frag := (2 ^ 32, 0, false) },
    { dg with frag := (0, 65536, false) }] : List Datagram).all (fun x => x.wf = false)) = true := by decide

/-- Each bound of BufWrite. -/
theorem test_wf_bufWrite : (([
    .bytes 8192 [0], .len (2 ^ 32)] : List BufWrite).all (fun x => x.wf = false)) = true := by decide

/-- Each bound of SpiTrans. -/
theorem test_wf_spiTrans : (([
    ⟨256, none, [], 0⟩, ⟨0, some (2 ^ 24), [], 0⟩] : List SpiTrans).all (fun x => x.wf = false)) = true := by decide

/-- Each bound of ParWrite. -/
theorem test_wf_parWrite : (([
    ⟨65536, 0, 0, 0, 0⟩, ⟨0, 65536, 0, 0, 0⟩, ⟨0, 0, 256, 0, 0⟩, ⟨0, 0, 0, 65536, 0⟩, ⟨0, 0, 0, 1, 256⟩] : List ParWrite).all (fun x => x.wf = false)) = true := by decide

/-- Each bound of FabReq. -/
theorem test_wf_fabReq : (([
    { fr with port := 8 }, { fr with addr := 2 ^ 32 }, { fr with size := 256 }, { fr with data := 2 ^ 32 }] : List FabReq).all (fun x => x.wf = false)) = true := by decide

/-- Each bound of UnitCmd. -/
theorem test_wf_unitCmd : (([
    ⟨65536, 0, 0⟩, ⟨0, 256, 0⟩, ⟨0, 0, 2 ^ 32⟩] : List UnitCmd).all (fun x => x.wf = false)) = true := by decide

/-- Each bound of LightFrame. -/
theorem test_wf_lightFrame : (([
    ⟨256, 0, 0, 0, 0, []⟩, ⟨0, 256, 0, 0, 0, []⟩, ⟨0, 0, 65536, 0, 0, []⟩, ⟨0, 0, 0, 65536, 0, []⟩, ⟨0, 0, 0, 0, 65536, []⟩] : List LightFrame).all (fun x => x.wf = false)) = true := by decide

/-- Each bound of WakeSrc. -/
theorem test_wf_wakeSrc : (([
    ⟨32, 0, 0⟩, ⟨0, 28, 0⟩, ⟨0, 0, 2 ^ 32⟩] : List WakeSrc).all (fun x => x.wf = false)) = true := by decide

/-- Each bound of CanFrame. -/
theorem test_wf_canFrame : (([
    { cf with id := 2048 }, { cf with id := 2 ^ 29, xtd := true }, { cf with fmt := 3 }, { cf with flags := 256 }, { cf with sdt := 256 },
    { cf with vcid := 256 }, { cf with af := 2 ^ 32 }, { cf with dlc := 2048 }, { cf with data := List.replicate 9 0 },
    { cf with fmt := 1, data := List.replicate 65 0 }] : List CanFrame).all (fun x => x.wf = false)) = true := by decide

/-- Each bound of LinFrame. -/
theorem test_wf_linFrame : (([
    ⟨0, List.replicate 9 0, 0, true, 0⟩, ⟨0, [], 0, true, 2 ^ 64⟩] : List LinFrame).all (fun x => x.wf = false)) = true := by decide

/-- Each bound of CanTimes. -/
theorem test_wf_canTimes : (([
    ⟨2 ^ 64, 0⟩, ⟨0, 2 ^ 64⟩] : List CanTimes).all (fun x => x.wf = false)) = true := by decide

/-- Each bound of LinBreak. -/
theorem test_wf_linBreak : (([
    ⟨2 ^ 16, 0⟩, ⟨0, 2 ^ 20⟩] : List LinBreak).all (fun x => x.wf = false)) = true := by decide

/-- Each bound of LinPub. -/
theorem test_wf_linPub : (([
    ⟨List.replicate 9 0, false⟩] : List LinPub).all (fun x => x.wf = false)) = true := by decide

/-- Each bound of EthFrame. -/
theorem test_wf_ethFrame : (([
    ⟨0, 2 ^ 48, 0, none, 0, 0, none⟩, ⟨0, 0, 2 ^ 48, none, 0, 0, none⟩, ⟨0, 0, 0, some 4096, 0, 0, none⟩, ⟨0, 0, 0, none, 0, 65536, none⟩,
    ⟨0, 0, 0, none, 0, 0, some (2 ^ 128)⟩] : List EthFrame).all (fun x => x.wf = false)) = true := by decide

/-- Each bound of SyncIn. -/
theorem test_wf_syncIn : (([
    ⟨2 ^ 80, 0, 0⟩, ⟨0, 2 ^ 64, 0⟩] : List SyncIn).all (fun x => x.wf = false)) = true := by decide

/-- Each bound of AccessCmd. -/
theorem test_wf_accessCmd : (([
    ⟨256, 0, 0⟩, ⟨0, 256, 0⟩, ⟨0, 0, 2 ^ 32⟩] : List AccessCmd).all (fun x => x.wf = false)) = true := by decide

/-- Each bound of Reply. -/
theorem test_wf_reply : (([
    { rp with tid := 2 ^ 32 }, { rp with nt := 2 ^ 64 }, { rp with field := [0] }, { rp with mac := 2 ^ 64 }] : List Reply).all (fun x => x.wf = false)) = true := by decide

/-- Each bound of SlotObs. -/
theorem test_wf_slotObs : (([
    .reply { rp with tid := 2 ^ 32 }] : List SlotObs).all (fun x => x.wf = false)) = true := by decide

/-- Each bound of ExchObs. -/
theorem test_wf_exchObs : (([
    ⟨true, [2 ^ 128]⟩] : List ExchObs).all (fun x => x.wf = false)) = true := by decide

/-- Each bound of Ranging. -/
theorem test_wf_ranging : (([
    { rg with qResp := 101 }, { rg with qReport := 101 }] : List Ranging).all (fun x => x.wf = false)) = true := by decide

/-- Each bound of LinkReq. -/
theorem test_wf_linkReq : (([
    ⟨16, 0, 0, 0, 0, 0, []⟩, ⟨0, 16, 0, 0, 0, 0, []⟩, ⟨0, 0, 256, 0, 0, 0, []⟩, ⟨0, 0, 0, 256, 0, 0, []⟩, ⟨0, 0, 0, 0, 256, 0, []⟩,
    ⟨0, 0, 0, 0, 0, 2 ^ 32, []⟩, ⟨0, 0, 0, 0, 0, 0, [2 ^ 32]⟩] : List LinkReq).all (fun x => x.wf = false)) = true := by decide

/-- Each bound of PairPeer. -/
theorem test_wf_pairPeer : (([
    ⟨5, false, false, none⟩, ⟨0, false, false, some 16⟩] : List PairPeer).all (fun x => x.wf = false)) = true := by decide

/-- Each bound of FwdCmd. -/
theorem test_wf_fwdCmd : (([
    .pulse 0 false 1001, .param ⟨65536, 0, 0, 0, 0⟩] : List FwdCmd).all (fun x => x.wf = false)) = true := by decide

/-- Each bound of PairReport. -/
theorem test_wf_pairReport : (([
    { pr with window := 2 ^ 32 }, { pr with stamp := 2 ^ 64 }, { pr with on := 2 ^ 64 }, { pr with fail := 2 ^ 64 }, { pr with pulse := 2 ^ 64 },
    { pr with inputs := 2 ^ 48 }, { pr with duty := [65536] }] : List PairReport).all (fun x => x.wf = false)) = true := by decide

/-- Each bound of ImgBegin. -/
theorem test_wf_imgBegin : (([
    ⟨256, 0, 0, 0⟩, ⟨0, 256, 0, 0⟩, ⟨0, 0, 2 ^ 32, 0⟩, ⟨0, 0, 0, 2 ^ 32⟩] : List ImgBegin).all (fun x => x.wf = false)) = true := by decide

/-- Each bound of ImgBlock. -/
theorem test_wf_imgBlock : (([
    ⟨2 ^ 32, 0, 0, 0, []⟩, ⟨0, 2 ^ 32, 0, 0, []⟩, ⟨0, 0, 2 ^ 32, 0, []⟩, ⟨0, 0, 0, 2 ^ 32, []⟩, ⟨0, 0, 0, 0, List.replicate 4097 0⟩] : List ImgBlock).all (fun x => x.wf = false)) = true := by decide +kernel

/-- Each bound of BootObs. -/
theorem test_wf_bootObs : (([
    ⟨[(74, 0, 0)], true, true, true⟩] : List BootObs).all (fun x => x.wf = false)) = true := by decide

/-- Each check of a command, part 1. -/
theorem test_wf_commands1 : (([
    .udpDatagramReceived dt { dg with sport := 65536 }, .fragmentReassemblyTimeout dt (2 ^ 32), .requestBufferWrite dt 0 0 (.len (2 ^ 32)),
    .mbxCtrlClrcnt dt .super (2 ^ 32), .mbxIrqStatClear dt 0 0 (2 ^ 32), .benchSpiTransaction dt ⟨256, none, [], 0⟩, .handleKeepExpiry dt (2 ^ 16),
    .nop dt { rq 0 with seq := 65536 }, .ident dt { rq 0 with seq := 65536 }, .paramRead dt { rq 0 with seq := 65536 } 0 0,
    .paramRead dt (rq 0) (2 ^ 16) 0, .paramRead dt (rq 0) 0 (2 ^ 16), .paramWrite dt { rq 0 with seq := 65536 } ⟨0, 0, 0, 0, 0⟩,
    .paramWrite dt (rq 0) ⟨65536, 0, 0, 0, 0⟩, .paramReadMulti dt { rq 0 with seq := 65536 } [(0, 0)], .paramReadMulti dt (rq 0) [],
    .paramReadMulti dt (rq 0) (List.replicate 65 (0, 0)), .paramReadMulti dt (rq 0) [(65536, 0)], .paramReadMulti dt (rq 0) [(0, 65536)],
    .paramWriteSet dt { rq 0 with seq := 65536 } [⟨0, 0, 0, 0, 0⟩], .paramWriteSet dt (rq 0) [],
    .paramWriteSet dt (rq 0) (List.replicate 65 ⟨0, 0, 0, 0, 0⟩)] : List Instr).all (fun x => x.wf = false)) = true := by decide

/-- Each check of a command, part 2. -/
theorem test_wf_commands2 : (([
    .paramWriteSet dt (rq 0) [⟨65536, 0, 0, 0, 0⟩], .paramDescribe dt { rq 0 with seq := 65536 } 0 0, .paramDescribe dt (rq 0) (2 ^ 16) 0,
    .paramDescribe dt (rq 0) 0 (2 ^ 16), .paramCommit dt { rq 0 with seq := 65536 }, .handleQuery dt { rq 0 with seq := 65536 } 0,
    .handleQuery dt (rq 0) (2 ^ 16), .handleCancel dt { rq 0 with seq := 65536 } 0, .handleCancel dt (rq 0) (2 ^ 16),
    .handleRelease dt { rq 0 with seq := 65536 } 0, .handleRelease dt (rq 0) (2 ^ 16), .eventSubscribe dt { rq 0 with seq := 65536 } 0,
    .eventSubscribe dt (rq 0) (2 ^ 32), .fleetCommit dt { rq 0 with seq := 65536 } 0, .fleetCommit dt (rq 0) (2 ^ 16),
    .fabricRequest dt { fr with size := 256 } false, .fabricResponse dt (2 ^ 4) 0, .fabricResponse dt 0 (2 ^ 16), .fabricTimeout dt (2 ^ 4) 0,
    .fabricTimeout dt 0 (2 ^ 16), .paceOpreq dt .super 0 (2 ^ 32), .paceVselWrite dt .super 0 (2 ^ 32)] : List Instr).all (fun x => x.wf = false)) = true := by decide

/-- Each check of a command, part 3. -/
theorem test_wf_commands3 : (([
    .paceCapWrite dt .super 0 (2 ^ 32), .paceErrClear dt .super 0 (2 ^ 32), .aonCalibration dt (2 ^ 32),
    .chanOff dt { rq 0 with seq := 65536 } ⟨0, 0, 0⟩, .chanOff dt (rq 0) ⟨65536, 0, 0⟩, .chanOn dt { rq 0 with seq := 65536 } ⟨0, 0, 0⟩,
    .chanOn dt (rq 0) ⟨65536, 0, 0⟩, .chanLow dt { rq 0 with seq := 65536 } ⟨0, 0, 0⟩, .chanLow dt (rq 0) ⟨65536, 0, 0⟩,
    .chanForward dt { rq 0 with seq := 65536 } ⟨0, 0, 0⟩, .chanForward dt (rq 0) ⟨65536, 0, 0⟩, .chanReverse dt { rq 0 with seq := 65536 } ⟨0, 0, 0⟩,
    .chanReverse dt (rq 0) ⟨65536, 0, 0⟩, .chanBrake dt { rq 0 with seq := 65536 } ⟨0, 0, 0⟩, .chanBrake dt (rq 0) ⟨65536, 0, 0⟩,
    .chanClear dt { rq 0 with seq := 65536 } ⟨0, 0, 0⟩, .chanClear dt (rq 0) ⟨65536, 0, 0⟩, .chanPulse dt { rq 0 with seq := 65536 } ⟨0, 0, 0⟩,
    .chanPulse dt (rq 0) ⟨65536, 0, 0⟩, .commandDeadline dt (2 ^ 16), .feedLost dt .a (2 ^ 16), .feedRestored dt .a (2 ^ 16)] : List Instr).all (fun x => x.wf = false)) = true := by decide

/-- Each check of a command, part 4. -/
theorem test_wf_commands4 : (([
    .overvoltage dt .a (2 ^ 16), .offStatePullupOn dt 0 (2 ^ 32), .offStateTestEnd dt 0 (2 ^ 32), .compositeEnable dt { rq 0 with seq := 65536 } 0 0,
    .compositeEnable dt (rq 0) 0 (2 ^ 32), .compositeDisable dt { rq 0 with seq := 65536 } 0 0, .compositeDisable dt (rq 0) 0 (2 ^ 32),
    .genEnable dt { rq 0 with seq := 65536 } 0 0, .genEnable dt (rq 0) 0 (2 ^ 32), .pulseOnEdge dt 0 (2 ^ 16), .pulseOffEdge dt 0 (2 ^ 16),
    .modelStep dt (List.replicate 5 0) [], .valveOff dt { rq 0 with seq := 65536 } ⟨0, 0, 0⟩, .valveOff dt (rq 0) ⟨65536, 0, 0⟩,
    .valveAct dt { rq 0 with seq := 65536 } ⟨0, 0, 0⟩, .valveAct dt (rq 0) ⟨65536, 0, 0⟩, .valveClear dt { rq 0 with seq := 65536 } ⟨0, 0, 0⟩,
    .valveClear dt (rq 0) ⟨65536, 0, 0⟩, .railAvailable dt (2 ^ 16), .railFault dt (2 ^ 16), .railLow dt (2 ^ 16),
    .lightFrame dt { rq 0 with seq := 65536 } ⟨0, 0, 0, 0, 0, []⟩] : List Instr).all (fun x => x.wf = false)) = true := by decide

/-- Each check of a command, part 5. -/
theorem test_wf_commands5 : (([
    .lightFrame dt (rq 0) ⟨256, 0, 0, 0, 0, []⟩, .mxEnable dt { rq 0 with seq := 65536 } 0, .mxEnable dt (rq 0) (2 ^ 32),
    .ntcConversion dt (List.replicate 9 0), .ntcConversion dt (4096 :: List.replicate 7 0), .runSampleCycle dt (List.replicate 49 0),
    .runSampleCycle dt (256 :: List.replicate 47 0), .surveyCycle dt (List.replicate 49 0), .surveyCycle dt (256 :: List.replicate 47 0),
    .powerReqRun dt { rq 0 with seq := 65536 } 0, .powerReqRun dt (rq 0) (2 ^ 8), .powerReqHold dt { rq 0 with seq := 65536 } 0,
    .powerReqHold dt (rq 0) (2 ^ 8), .powerReqPark dt { rq 0 with seq := 65536 } 0, .powerReqPark dt (rq 0) (2 ^ 8),
    .powerReqDormant dt { rq 0 with seq := 65536 } 0, .powerReqDormant dt (rq 0) (2 ^ 8), .wakeDuringEntry dt ⟨32, 0, 0⟩,
    .selectiveWake dt 0 { cf with fmt := 3 }, .canFrameReceived dt 0 { cf with fmt := 3 } ⟨0, 0⟩, .canFrameReceived dt 0 cf ⟨2 ^ 64, 0⟩,
    .canFrameSent dt 0 (2 ^ 64) 0] : List Instr).all (fun x => x.wf = false)) = true := by decide

/-- Each check of a command, part 6. -/
theorem test_wf_commands6 : (([
    .canFrameSent dt 0 0 (2 ^ 32), .acfCanReceived dt (2 ^ 8) cf, .acfCanReceived dt 0 { cf with fmt := 3 }, .linHeaderReceived dt 0 0 ⟨2 ^ 16, 0⟩,
    .linFrameReceived dt 0 ⟨0, List.replicate 9 0, 0, true, 0⟩, .linPublishWrite dt 0 0 ⟨List.replicate 9 0, true⟩,
    .cableTest dt { rq 0 with seq := 65536 } 0, .cableTestDone dt 0 (2 ^ 3) 0, .cableTestDone dt 0 0 (2 ^ 12),
    .switchFrameIngress dt ⟨0, 2 ^ 48, 0, none, 0, 0, none⟩, .addressAgeing dt (2 ^ 12) 0, .addressAgeing dt 0 (2 ^ 48),
    .gptpSync dt 0 ⟨2 ^ 80, 0, 0⟩, .referenceSent dt 0 (2 ^ 64), .netsleepEnable dt { rq 0 with seq := 65536 } 0, .netsleepEnable dt (rq 0) (2 ^ 32),
    .netsleepDisable dt { rq 0 with seq := 65536 } 0, .netsleepDisable dt (rq 0) (2 ^ 32), .keepAliveReceived dt (2 ^ 5) 0 0,
    .keepAliveReceived dt 0 (2 ^ 8) 0, .keepAliveReceived dt 0 0 (2 ^ 8), .waymark dt (2 ^ 5) 0] : List Instr).all (fun x => x.wf = false)) = true := by decide

/-- Each check of a command, part 7. -/
theorem test_wf_commands7 : (([
    .waymark dt 0 (2 ^ 8), .waymarkMinute dt (2 ^ 5) 0, .waymarkMinute dt 0 (2 ^ 8), .search dt { rq 0 with seq := 65536 } ⟨0, 0, 0⟩,
    .search dt (rq 0) ⟨256, 0, 0⟩, .immo dt { rq 0 with seq := 65536 } ⟨0, 0, 0⟩, .immo dt (rq 0) ⟨256, 0, 0⟩,
    .tmemRead dt { rq 0 with seq := 65536 } ⟨0, 0, 0⟩ 0 0, .tmemRead dt (rq 0) ⟨256, 0, 0⟩ 0 0, .tmemRead dt (rq 0) ⟨0, 0, 0⟩ (2 ^ 8) 0,
    .tmemRead dt (rq 0) ⟨0, 0, 0⟩ 0 (2 ^ 8), .enrol dt { rq 0 with seq := 65536 } ⟨0, 0, 0⟩ 0 0, .enrol dt (rq 0) ⟨256, 0, 0⟩ 0 0,
    .enrol dt (rq 0) ⟨0, 0, 0⟩ (2 ^ 32) 0, .enrol dt (rq 0) ⟨0, 0, 0⟩ 0 (2 ^ 128), .revoke dt { rq 0 with seq := 65536 } ⟨0, 0, 0⟩,
    .revoke dt (rq 0) ⟨256, 0, 0⟩, .calibrate dt { rq 0 with seq := 65536 } ⟨0, 0, 0⟩, .calibrate dt (rq 0) ⟨256, 0, 0⟩, .calibrateStep dt (2 ^ 32),
    .lockClear dt { rq 0 with seq := 65536 } ⟨0, 0, 0⟩, .lockClear dt (rq 0) ⟨256, 0, 0⟩] : List Instr).all (fun x => x.wf = false)) = true := by decide

/-- Each check of a command, part 8. -/
theorem test_wf_commands8 : (([
    .fieldBurst dt 0 (2 ^ 32), .responseSlotEnd dt 0 (.reply { rp with tid := 2 ^ 32 }), .exchangeBlock dt 0 ⟨false, [2 ^ 128]⟩,
    .rangingResult dt 0 { rg with qResp := 101 }, .feLinkDown dt 0 (2 ^ 16), .linkFrameReceived dt (List.replicate 33 0),
    .twinOutboundRequest dt { fr with size := 256 }, .twinInboundRequest dt ⟨16, 0, 0, 0, 0, 0, []⟩, .postedWriteError dt (2 ^ 32) 0,
    .postedWriteError dt 0 (2 ^ 3), .reservationExpiry dt (2 ^ 16), .pairStateReport dt ⟨5, false, false, none⟩, .intlkRelease dt (2 ^ 4),
    .forwardedCommand dt (.pulse 0 false 1001), .reportCompare dt { pr with window := 2 ^ 32 }, .proofStart dt .super (2 ^ 32),
    .editionReport dt (2 ^ 16) 0, .editionReport dt 0 (2 ^ 64), .intlkCtrlWrite dt .super (2 ^ 32), .intlkErrClear dt .super (2 ^ 32),
    .lateWriteError dt .s (2 ^ 3) 0, .lateWriteError dt .s 0 (2 ^ 32)] : List Instr).all (fun x => x.wf = false)) = true := by decide

/-- Each check of a command, part 9. -/
theorem test_wf_commands9 : (([
    .dmaTransferError dt 0 (2 ^ 3) 0, .dmaTransferError dt 0 0 (2 ^ 32), .appletRun dt { rq 0 with seq := 65536 } 0 0,
    .appletRun dt (rq 0) 0 (2 ^ 32), .dbgHaltreq dt .super 0 (2 ^ 32), .memFlipArm dt .super (2 ^ 32),
    .imgBegin dt { rq 0 with seq := 65536 } ⟨0, 0, 0, 0⟩, .imgBegin dt (rq 0) ⟨256, 0, 0, 0⟩,
    .imgBlock dt { rq 0 with seq := 65536 } ⟨0, 0, 0, 0, []⟩, .imgBlock dt (rq 0) ⟨2 ^ 32, 0, 0, 0, []⟩, .imgVerify dt { rq 0 with seq := 65536 } 0,
    .imgVerify dt (rq 0) (2 ^ 8), .imgActivateNow dt { rq 0 with seq := 65536 } 0, .imgActivateNow dt (rq 0) (2 ^ 8),
    .imgActivateArmed dt { rq 0 with seq := 65536 } 0, .imgActivateArmed dt (rq 0) (2 ^ 8), .imgActivateDisarm dt { rq 0 with seq := 65536 } 0,
    .imgActivateDisarm dt (rq 0) (2 ^ 8), .imgActivateApplet dt { rq 0 with seq := 65536 } 0 0, .imgActivateApplet dt (rq 0) (2 ^ 8) 0,
    .imgActivateApplet dt (rq 0) 0 (2 ^ 8), .fwConfirm dt { rq 0 with seq := 65536 } 0] : List Instr).all (fun x => x.wf = false)) = true := by decide

/-- Each check of a command, part 10. -/
theorem test_wf_commands10 : (([
    .fwConfirm dt (rq 0) (2 ^ 32), .debugUnlock dt { rq 0 with seq := 65536 }, .attestSign dt { rq 0 with seq := 65536 } 0,
    .attestSign dt (rq 0) (2 ^ 256), .attestChunk dt { rq 0 with seq := 65536 } 0, .attestChunk dt (rq 0) (2 ^ 16),
    .bootPhaseAdvance dt ⟨[(74, 0, 0)], true, true, true⟩, .sequencerRestart dt (2 ^ 7), .bootCtrlHoldWrite dt .super (2 ^ 32),
    .registerWrite dt .super (2 ^ 32) 0, .registerWrite dt .super 0 (2 ^ 32), .waymarkRunEnd dt (2 ^ 5) 0, .waymarkRunEnd dt 0 (2 ^ 8)] : List Instr).all (fun x => x.wf = false)) = true := by decide

/-- The commands that those tests change by one operand are well formed. -/
theorem test_wf_good : (([
    .udpDatagramReceived dt dg, .fragmentReassemblyTimeout dt 0, .requestBufferWrite dt 0 0 (.len 0), .mbxCtrlClrcnt dt .super 0,
    .mbxIrqStatClear dt 0 0 0, .benchSpiTransaction dt ⟨0, none, [], 0⟩, .handleKeepExpiry dt 0, .nop dt (rq 0), .ident dt (rq 0),
    .paramRead dt (rq 0) 0 0, .paramWrite dt (rq 0) ⟨0, 0, 0, 0, 0⟩, .paramReadMulti dt (rq 0) [(0, 0)], .paramWriteSet dt (rq 0) [⟨0, 0, 0, 0, 0⟩],
    .paramDescribe dt (rq 0) 0 0, .paramCommit dt (rq 0), .handleQuery dt (rq 0) 0, .handleCancel dt (rq 0) 0, .handleRelease dt (rq 0) 0,
    .eventSubscribe dt (rq 0) 0, .fleetCommit dt (rq 0) 0, .fabricRequest dt fr false, .fabricResponse dt 0 0, .fabricTimeout dt 0 0,
    .paceOpreq dt .super 0 0, .paceVselWrite dt .super 0 0, .paceCapWrite dt .super 0 0, .paceErrClear dt .super 0 0, .aonCalibration dt 0,
    .chanOff dt (rq 0) ⟨0, 0, 0⟩, .chanOn dt (rq 0) ⟨0, 0, 0⟩, .chanLow dt (rq 0) ⟨0, 0, 0⟩, .chanForward dt (rq 0) ⟨0, 0, 0⟩,
    .chanReverse dt (rq 0) ⟨0, 0, 0⟩, .chanBrake dt (rq 0) ⟨0, 0, 0⟩, .chanClear dt (rq 0) ⟨0, 0, 0⟩, .chanPulse dt (rq 0) ⟨0, 0, 0⟩,
    .commandDeadline dt 0, .feedLost dt .a 0, .feedRestored dt .a 0, .overvoltage dt .a 0, .offStatePullupOn dt 0 0, .offStateTestEnd dt 0 0,
    .compositeEnable dt (rq 0) 0 0, .compositeDisable dt (rq 0) 0 0, .genEnable dt (rq 0) 0 0, .pulseOnEdge dt 0 0, .pulseOffEdge dt 0 0,
    .modelStep dt [0, 0, 0, 0] [], .valveOff dt (rq 0) ⟨0, 0, 0⟩, .valveAct dt (rq 0) ⟨0, 0, 0⟩, .valveClear dt (rq 0) ⟨0, 0, 0⟩,
    .railAvailable dt 0, .railFault dt 0, .railLow dt 0, .lightFrame dt (rq 0) ⟨0, 0, 0, 0, 0, []⟩, .mxEnable dt (rq 0) 0,
    .ntcConversion dt (List.replicate 8 0), .runSampleCycle dt (List.replicate 48 0), .surveyCycle dt (List.replicate 48 0),
    .powerReqRun dt (rq 0) 0, .powerReqHold dt (rq 0) 0, .powerReqPark dt (rq 0) 0, .powerReqDormant dt (rq 0) 0, .wakeDuringEntry dt ⟨0, 0, 0⟩,
    .selectiveWake dt 0 cf, .canFrameReceived dt 0 cf ⟨0, 0⟩, .canFrameSent dt 0 0 0, .acfCanReceived dt 0 cf, .linHeaderReceived dt 0 0 ⟨0, 0⟩,
    .linFrameReceived dt 0 ⟨0, [], 0, true, 0⟩, .linPublishWrite dt 0 0 ⟨[], false⟩, .cableTest dt (rq 0) 0, .cableTestDone dt 0 0 0,
    .switchFrameIngress dt ⟨0, 0, 0, none, 0, 0, none⟩, .addressAgeing dt 0 0, .gptpSync dt 0 ⟨0, 0, 0⟩, .referenceSent dt 0 0,
    .netsleepEnable dt (rq 0) 0, .netsleepDisable dt (rq 0) 0, .keepAliveReceived dt 0 0 0, .waymark dt 0 0, .waymarkMinute dt 0 0,
    .search dt (rq 0) ⟨0, 0, 0⟩, .immo dt (rq 0) ⟨0, 0, 0⟩, .tmemRead dt (rq 0) ⟨0, 0, 0⟩ 0 0, .enrol dt (rq 0) ⟨0, 0, 0⟩ 0 0,
    .revoke dt (rq 0) ⟨0, 0, 0⟩, .calibrate dt (rq 0) ⟨0, 0, 0⟩, .calibrateStep dt 0, .lockClear dt (rq 0) ⟨0, 0, 0⟩, .fieldBurst dt 0 0,
    .responseSlotEnd dt 0 .empty, .exchangeBlock dt 0 ⟨false, []⟩, .rangingResult dt 0 rg, .feLinkDown dt 0 0,
    .linkFrameReceived dt (List.replicate 32 0), .twinOutboundRequest dt fr, .twinInboundRequest dt ⟨0, 0, 0, 0, 0, 0, []⟩, .postedWriteError dt 0 0,
    .reservationExpiry dt 0, .pairStateReport dt ⟨0, false, false, none⟩, .intlkRelease dt 0, .forwardedCommand dt (.chan 0 false),
    .reportCompare dt pr, .proofStart dt .super 0, .editionReport dt 0 0, .intlkCtrlWrite dt .super 0, .intlkErrClear dt .super 0,
    .lateWriteError dt .s 0 0, .dmaTransferError dt 0 0 0, .appletRun dt (rq 0) 0 0, .dbgHaltreq dt .super 0 0, .memFlipArm dt .super 0,
    .imgBegin dt (rq 0) ⟨0, 0, 0, 0⟩, .imgBlock dt (rq 0) ⟨0, 0, 0, 0, []⟩, .imgVerify dt (rq 0) 0, .imgActivateNow dt (rq 0) 0,
    .imgActivateArmed dt (rq 0) 0, .imgActivateDisarm dt (rq 0) 0, .imgActivateApplet dt (rq 0) 0 0, .fwConfirm dt (rq 0) 0, .debugUnlock dt (rq 0),
    .attestSign dt (rq 0) 0, .attestChunk dt (rq 0) 0, .bootPhaseAdvance dt ⟨[], true, true, true⟩, .sequencerRestart dt 0,
    .bootCtrlHoldWrite dt .super 0, .registerWrite dt .super 0 0, .waymarkRunEnd dt 0 0] : List Instr).all (fun x => x.wf = true)) = true := by decide


/-! ### The spec's worked examples -/

/-- 14, the worked applet: `base → alu0.o`, `imm 0x1000 → alu0.add`, `alu0.r → g4`, `imm 0 → g8`, `imm 2 → evt.mask`, `imm 0 → evt.wait`,
`imm 0x3B0 → bne`, `zero → zero`. -/
theorem test_applet_moves :
    [0x100000E3, 0x90141000, 0x0040010F, 0x80840000, 0x1C040002, 0x9C140000, 0x983403B0, 0x8F0000F0].map moveOf =
      [⟨0x100, .port 0xE3, false, false⟩, ⟨0x101, .imm 0x1000 true, false, true⟩, ⟨4, .port 0x10F, false, false⟩, ⟨8, .imm 0 true, false, true⟩,
       ⟨0x1C0, .imm 2 true, false, false⟩, ⟨0x1C1, .imm 0 true, false, true⟩, ⟨0x183, .imm 0x3B0 true, false, true⟩,
       ⟨0xF0, .port 0xF0, false, true⟩] := by decide +kernel

/-- 03, after R71: the header of a write of `atlas.session_timeout` with SEQ 7, and its payload. -/
theorem test_message_header :
    (⟨1, 0x11, 7, 0, 0, 0, 0, entryBytes ⟨9, 0, 6, 4, 2000⟩⟩ : Msg).head = [0x01, 0x11, 0x07, 0, 0, 0, 0, 0, 0x0C, 0, 0, 0] ∧
    entryBytes ⟨9, 0, 6, 4, 2000⟩ = [0x09, 0, 0, 0, 6, 0, 4, 0, 0xD0, 0x07, 0, 0] := by decide +kernel

/-- 03, after R71: what the bench host's request is answered with, and what the parameter holds then. -/
theorem test_param_write :
    (match exec (.paramWrite dt { rq 2 with seq := 7 } ⟨9, 0, 6, 4, 2000⟩) live with
     | .next t => decide ((t.ses 2).posted = some ⟨1, 0x11, 7, 0, 0, 1, 0, [9, 0, 0, 0]⟩) && decide (t.pf Pf.atlasSessionTimeout_TMO 0 = 2000)
     | _ => false) = true := by decide +kernel

/-- The check value of the code that R70 names, over the ASCII digits 1 to 9. -/
theorem test_crc32c : crc32c [0x31, 0x32, 0x33, 0x34, 0x35, 0x36, 0x37, 0x38, 0x39] = 0xE3069283 := by decide +kernel

/-- 15 R391: the columns of data bits 0, 3, 4 and 56, and the number of columns. -/
theorem test_check_columns :
    eccCols.length = 64 ∧ eccOf 1 = 0x07 ∧ eccOf (2 ^ 3) = 0x0E ∧ eccOf (2 ^ 4) = 0x13 ∧ eccOf (2 ^ 56) = 0x1F ∧ eccOf 0x11 = 0x14 := by decide +kernel

/-- 04, after R112: the limit of ch6 with LAMP defaults and `ilim` 25,000 mA, 3 ms after gate-on, is 62.0 A. -/
theorem test_inrush_limit :
    (((live.setPf Pf.chCfg_PROFILE 6 0 1).setPf Pf.chIlim_ILIM 6 0 25000).armInrush 6).inrushLimit 6 600000 = 62000 := by decide +kernel

/-- 06, the reversing example's ch2: ps 24 mW, ex 13 mJ, q 650 mW. -/
theorem test_reservation :
    (let s := (((live.setPf Pf.chCfg_PROFILE 2 0 1).setPf Pf.chIlim_ILIM 2 0 8000).setPf Pf.chInrush_IPEAK 2 0 300).setPf Pf.chInrush_TINR 2 0 20
     let s := { s with load := { s.load with die := Vector.replicate _ { tcase := 450 } }, iso := { s.iso with learn := s.iso.learn.setIfInBounds 2 3100 } }
     let r := s.makeReq 2 .turnOn [2] 2 0
     r.ps = 24 ∧ r.ex = 13 ∧ r.q = 650) := by decide +kernel

/-- 06, the reversing example's ch40, of class L: ps 6 mW, ex 5 mJ. -/
theorem test_reservation_low :
    (let s := live.setPf Pf.chCfg_SLEW 40 0 1
     let s := { s with pwr := { s.pwr with va := 1350, vb := 1350 }, load := { s.load with die := Vector.replicate _ { tcase := 400 } },
                       iso := { s.iso with learn := s.iso.learn.setIfInBounds 40 400 } }
     let r := s.makeReq 40 .turnOn [40] 0 8
     r.ps = 6 ∧ r.ex = 5 ∧ r.q = 1000) := by decide +kernel

/-- 10, after R273: how the filters of CAN2 decide 0x123, 0x742, 0x18FE_F200 and 0x150. -/
theorem test_filters :
    (let e := [0x00003C000001C003, 0x00000FF800004009, 0xC7F790063FBC401E]
     let f : Nat → Bool → CanFrame := fun i x => ⟨i, x, false, 0, 0, 0, 0, 0, 0, []⟩
     [f 0x123 false, f 0x742 false, f 0x18FEF200 true, f 0x150 false].map (fun x => e.map (fun y => takesFrame y x))) =
      [[false, true, false], [true, false, false], [false, false, true], [false, true, false]] := by decide +kernel

/-- 12 R317, the worked exchange: a time of flight of 128 counts. -/
theorem test_ranging :
    (let d := 12779520
     rangeMm ⟨0, d + 256, 2 * d + 256, d + 128, d + 384, 0, 0, true, true, 0⟩ 0 = some 600) := by decide +kernel

/-- 02, after R45: V5 and V7 tie with the pointer at 0 and V5's position 1 makes it 2; V4 and V5 tie then, V4 wins and it becomes 1. -/
theorem test_rotation :
    (let s := (List.range 8).foldl (fun (s : State) v => s.modValve v (fun x => { x with st := .grantWait, times := putBits 0 Pf.valveTimes_TBOOST.lo Pf.valveTimes_TBOOST.w 100 }))
       ({ live.setPf Pf.bankRail_EN 0 0 1 with vlv := { live.vlv with reached := true } } : State)
     ((s.bankGranted 1 [5, 7]).vbank 1).ptr = 2 ∧
     (let t := s.modBank 1 (fun k => { k with ptr := 2 })
      ((t.bankGranted 1 [4, 5]).vbank 1).ptr = 1)) := by decide +kernel

/-- The table gives no row bits, so no word spells a command. -/
theorem test_no_words : decodeTableWord 16 0x9014 = none ∧ State.reset.withFetchWord 32 0x90141000 = State.reset := by decide +kernel

/-! ### States and operands that meet the hypotheses of the statements -/

/-- The clauses of PaceWrites at boundary values. -/
theorem witness_pace_writes :
    (live.pass dt).pd 3 = true ∧ (live.pass dt).fab.closed.testBit 3 = false ∧ paced 1 = true ∧ paced 13 = true ∧
    (let r : PaceRec := { vsel := 2, volt := 2, capIf := 1 }; r.busy = false ∧ r.opCur < 2 ∧ r.settled = true ∧ 2 = r.vsel) ∧
    (let b : PaceRec := { seq := .raise 2 }; b.busy = true) ∧
    (let r := (live.pass dt).paceOf 1
     r.busy = false ∧ r.opCur < 2 ∧ 2 ≠ r.vsel ∧ 0 < r.opCur ∧ 1 = r.opCur ∧ 0 < r.vsel ∧ 0 < r.capIf ∧ r.vsel ≤ 1 ∧ r.cap < 2 ∧ r.volt < 2 ∧ 1 ≤ r.cap ∧
      (({ r with cap := 0, capIf := 0 } : PaceRec).settled = true ∧ 1 ≤ r.volt)) := by
  decide +kernel

/-- The clauses of PaceEvents at boundary values. -/
theorem witness_pace_events :
    (let r : PaceRec := { settled := false, seq := .raise 2 }; r.settled = false ∧ r.seq = .raise 2) ∧
    (let r : PaceRec := { settled := false, seq := .settle 0 }; r.settled = false ∧ r.seq = .settle 0) ∧
    (let r : PaceRec := { settled := false }; r.settled = false ∧ r.seq = .idle) ∧
    (let u := live.pass ⟨64, 0⟩; u.now % 64 = 0 ∧ (u.paceOf 1).seq = .idle ∧ (u.paceOf 1).droop = false ∧ u.pd 1 = true) ∧
    (let r : PaceRec := { seq := .lower 0 }; r.seq = .lower 0 ∧ 0 ≠ r.vsel) ∧ (let r : PaceRec := { seq := .lower 1 }; r.settled = true ∧ 1 = r.vsel) ∧ (let r : PaceRec := { droop := true }; r.droop = true) := by
  decide +kernel

/-- The clauses of TimeBaseEvents. -/
theorem witness_time_base_events :
    (let u := (cold 1).pass dt; u.pd 3 = true ∧ u.clk.lock = false ∧ u.clk.fallback = false ∧ u.clk.run = false ∧ u.boot.cold = true) ∧
    (let u := ({ live with clk := { live.clk with lock := false } } : State).pass dt; u.pd 3 = true ∧ u.clk.lock = false ∧ u.clk.fallback = false ∧ u.clk.run = true) ∧
    (({ live with clk := { live.clk with fallback := true } } : State).pass dt).clk.fallback = true ∧
    (let u := live.pass ⟨200000000, 32768⟩; u.pd 3 = true ∧ u.clk.run = true ∧ u.aonSince u.clk.calAon = 32768 ∧ u.now - u.clk.calTb < 2 ^ 32) ∧
    (let u := live.pass ⟨200000000, 32767⟩; u.aonSince u.clk.calAon < 32768) := by
  decide +kernel

/-- The clauses of TimePasses. -/
theorem witness_time_passes :
    live.clk.run = true ∧ live.pd 3 = true ∧ live.pwr.st ≠ .off ∧ State.reset.clk.run = false ∧
    ({ live with pwr := { live.pwr with st := .off } } : State).pwr.st = .off ∧ live.clk.aon < 2 ^ 48 ∧ Part.pace ≠ .clk := by
  decide +kernel

/-- The clauses of MailboxSteps. -/
theorem witness_mailbox_steps :
    (2 : Fin 4) ≠ 0 ∧ (live.pass dt).pd 3 = true ∧ (live.pass dt).fab.closed.testBit 3 = false ∧ ((live.pass dt).ses 2).owner = 0xF ∧
    (let s : State := live.modSes 3 (fun r => { r with owner := 1 })
     ((s.pass dt).ses 3).owner ≠ 0xF ∧ ((s.pass dt).ses 3).owner = 1 ∧ ((s.pass dt).ses 3).busy = false ∧ ((s.pass dt).ses 3).owner ≠ 2 ∧
      (s.pass ⟨20000000, 0⟩).now ≥ ((s.pass ⟨20000000, 0⟩).ses 3).claimAt + 20000000 ∧ 0x1FFF + [(0 : Byte)].length ≤ 0x2000) := by
  decide +kernel

/-- The clauses of MailboxAnswers. -/
theorem witness_mailbox_answers :
    (3 : Fin 4) ≠ 0 ∧ (live.pass dt).pd 3 = true ∧ (live.pass dt).fab.closed.testBit 3 = false ∧ ((live.pass dt).ses 3).posted = none ∧
    (let s : State := live.modSes 3 (fun r => { r with posted := some ⟨1, 0, 0, 0, 0, 1, 2, []⟩ })
     ((s.pass dt).ses 3).posted = some ⟨1, 0, 0, 0, 0, 1, 2, []⟩ ∧ (⟨1, 0, 0, 0, 0, 1, 2, []⟩ : Msg).origin = (2 : Fin 4)) := by
  decide +kernel

/-- The clauses of BenchPort. -/
theorem witness_bench_port :
    (live.pass dt).pd 3 = true ∧ (live.pass dt).fab.closed.testBit 3 = false ∧ (live.pass dt).fab.inflight = [] ∧ 0x5FFFC % 4 = 0 ∧ 0x5FFFC ≤ 0x5FFFF ∧ (4 : Nat) ≠ 2 ∧ (4 : Nat) ≠ 3 ∧ 1 % 4 ≠ 0 ∧ 0x60000 % 4 = 0 ∧ 0x5FFFF < 0x60000 ∧
    [(4 : Byte), 0, 0, 0].length = 4 ∧ (leVal [4, 0, 0, 0]).testBit 0 = false ∧ (leVal [4, 0, 0, 0]).testBit 1 = false := by
  decide +kernel

/-- The clauses of Responses, for the uplink and for a session with and without a posted entry. -/
theorem witness_responses :
    Takes (live.pass dt) (rq 0) 0 0 [] ∧ Takes (live.pass dt) (rq 2) 1 0 [] ∧ ((live.pass dt).ses 2).posted = none ∧
    (let s : State := live.modSes 2 (fun r => { r with posted := some ⟨1, 0, 0, 0, 0, 1, 0, []⟩ })
     Takes (s.pass dt) (rq 2) 0 0 [] ∧ ((s.pass dt).ses 2).posted ≠ none) := by
  decide +kernel

/-- The clauses of ParamReads. -/
theorem witness_param_reads :
    Sum.isRight (((live.pass dt).touch 0).findPar 9 0) = true ∧ Takes (live.pass dt) (rq 0) 0x10 0 (leBytes 2 9 ++ leBytes 2 0) ∧
    parSpec 0xFFFF 0 = none ∧ Takes (live.pass dt) (rq 0) 0x10 0 (leBytes 2 0xFFFF ++ leBytes 2 0) ∧
    Takes (live.pass dt) (rq 0) 0x12 0 (leBytes 2 1 ++ (leBytes 2 9 ++ leBytes 2 0)) ∧ Takes (live.pass dt) (rq 0) 0x14 0 (leBytes 2 9 ++ leBytes 2 0) := by
  decide +kernel

/-- The clauses of ParamWrites: accepted and refused, alone and in a set. -/
theorem witness_param_writes :
    ((live.pass dt).mem.wf ∧ (live.pass dt).mem.chk = [] ∧ (live.pass dt).par.work = [] ∧ (live.pass dt).par.stored = []) ∧
    Accepts (live.pass dt) (rq 0) ⟨9, 0, 6, 4, 2000⟩ ∧ Takes (live.pass dt) (rq 0) 0x11 0 (entryBytes ⟨9, 0, 6, 4, 1⟩) ∧
    (((live.pass dt).touch 0).writeSet ((live.pass dt).direct (rq 0) 0x11 0 (entryBytes ⟨9, 0, 6, 4, 1⟩)) [⟨9, 0, 6, 4, 1⟩]).2 = some (0, 0x104) ∧
    Takes (live.pass dt) (rq 0) 0x13 0 (leBytes 2 1 ++ [entryBytes ⟨9, 0, 6, 4, 2000⟩].flatten) ∧
    (((live.pass dt).touch 0).writeSet ((live.pass dt).direct (rq 0) 0x13 0 (leBytes 2 1 ++ [entryBytes ⟨9, 0, 6, 4, 2000⟩].flatten)) [⟨9, 0, 6, 4, 2000⟩]).2 = none := by
  decide +kernel

/-- The clauses of Commits. -/
theorem witness_commits :
    Takes (live.pass dt) (rq 0) 0x15 0 [] ∧ (live.pass dt).handleCount 0 < 256 ∧ (live.pass dt).opPending 0x15 = false ∧ (live.pass dt).fw.queue = [] ∧
    Takes (live.pass dt) (rq 0) 0x60 0 (leBytes 2 1) ∧ (live.pass dt).be ≤ 1 ∧ 1 ≤ (live.pass dt).image.beMax ∧ (live.pass dt).inTrial = false ∧
    (let s : State := { live with atlas := { live.atlas with commit := some (1, []), fleet := some (1, 1), handles := [hnd 1 0x15] } }
     (s.pass dt).atlas.commit = some (1, []) ∧ (s.pass dt).atlas.fleet = some (1, 1) ∧ (s.pass dt).handle 1 = some (hnd 1 0x15) ∧
      (hnd 1 0x15).phase = .pending ∧ (hnd 1 0x15).orphan = false ∧ (s.pass dt).cancelWaits (hnd 1 0x15) = false) := by
  decide +kernel

/-- The clauses of Handles. -/
theorem witness_handles_1 :
    (let u := ({ live with atlas := { live.atlas with handles := [hnd 1 0x15, hnd 2 0x20] } } : State).pass dt
     u.handle 1 = some (hnd 1 0x15) ∧ (∀ op ∈ [0x30, 0x31, 0x32], (u.touch 0).targetHandle (u.direct (rq 0) op 1 []) = some (hnd 1 0x15)) ∧
      Takes u (rq 0) 0x30 1 [] ∧ Takes u (rq 0) 0x31 1 [] ∧ Takes u (rq 0) 0x32 1 [] ∧ cancellable (hnd 1 0x15).op = false ∧
      (u.touch 0).targetHandle (u.direct (rq 0) 0x31 2 []) = some (hnd 2 0x20) ∧ (hnd 2 0x20).op = 0x20 ∧ Takes u (rq 0) 0x31 2 [] ∧
      cancellable (hnd 2 0x20).op = true ∧ u.pastC 2 = false ∧ u.pastC 3 = false ∧
      u.handle 3 = none ∧ Takes u (rq 0) 0x30 3 [] ∧ Takes u (rq 0) 0x31 3 []) := by
  decide +kernel

/-- The clauses of Handles. -/
theorem witness_handles_2 :
    (let s : State := { live with atlas := { live.atlas with handles := [hnd 1 0x68] }, pwr := { live.pwr with entry := some ⟨2, some 1, false, 4, 0, 0, false, false⟩ } }
     let u := s.pass dt
     u.handle 1 = some (hnd 1 0x68) ∧ (u.touch 0).targetHandle (u.direct (rq 0) 0x31 1 []) = some (hnd 1 0x68) ∧ cancellable 0x68 = true ∧ u.pastC 1 = true ∧
      Takes u (rq 0) 0x31 1 []) := by
  decide +kernel

/-- The clauses of Handles. -/
theorem witness_handles_3 :
    (let s : State := { live with pwr := { live.pwr with entry := some ⟨2, some 1, false, 4, 0, 0, false, false⟩ } }
     let u := s.pass dt
     u.handle 1 = none ∧ u.pastC 1 = true ∧ Takes u (rq 0) 0x31 1 []) := by
  decide +kernel

/-- The clauses of Handles. -/
theorem witness_handles_4 :
    (let x : Hnd := { hnd 1 0x20 with phase := .ended 0 0 [] }
     let y : Hnd := { hnd 2 0x15 with phase := .ended 0 0 [] }
     let u := ({ live with atlas := { live.atlas with handles := [x, y] } } : State).pass dt
     u.handle 1 = some x ∧ (u.touch 0).targetHandle (u.direct (rq 0) 0x31 1 []) = some x ∧ u.now ≤ 0 ∧ Takes u (rq 0) 0x31 1 [] ∧
      (u.touch 0).targetHandle (u.direct (rq 0) 0x31 2 []) = some y ∧ cancellable y.op = false ∧ Takes u (rq 0) 0x31 2 [] ∧
      (let w := ({ live with atlas := { live.atlas with handles := [x, y] } } : State).pass ⟨1, 0⟩
       0 < w.now ∧ w.handle 1 = some x ∧ (w.touch 0).targetHandle (w.direct (rq 0) 0x31 1 []) = some x ∧ Takes w (rq 0) 0x31 1 [])) := by
  decide +kernel

/-- The clauses of Handles. -/
theorem witness_handles_5 :
    (let x : Hnd := { hnd 1 0x20 with phase := .done 0 0 [] }
     let u := ({ live with atlas := { live.atlas with handles := [x] } } : State).pass ⟨3600000 * 200000, 0⟩
     u.handle 1 = some x ∧ (u.touch 0).targetHandle (u.direct (rq 0) 0x30 1 []) = some x ∧ Takes u (rq 0) 0x30 1 [] ∧ Takes u (rq 0) 0x32 1 [] ∧
      u.now ≥ 0 + msTk (u.pf Pf.atlasHandleKeep_KEEP)) := by
  decide +kernel

/-- The clauses of EventsAndSessions. -/
theorem witness_events_and_sessions :
    Takes (live.pass dt) (rq 0) 0x40 0 (leBytes 4 0x1FFF) ∧ Takes (live.pass dt) (rq 0) 0x40 0 (leBytes 4 0x2000) ∧ 0x1FFF < 2 ^ 13 ∧ 2 ^ 13 ≤ 0x2000 ∧
    (live.pass ⟨200000000, 0⟩).atlas.ready = true ∧ (live.pass ⟨200000000, 0⟩).now ≥ (live.pass ⟨200000000, 0⟩).atlas.readyAt + 200000000 ∧
    (let s : State := live.modSes 1 (fun r => { r with isOpen := true })
     let u := s.pass ⟨1000000000, 0⟩
     (u.ses 1).isOpen = true ∧ u.now ≥ (u.ses 1).lastReq + 200000 * u.pf Pf.atlasSessionTimeout_TMO) := by
  decide +kernel

/-- The clauses of Uplink. -/
theorem witness_uplink :
    (let s := linked
     let u := s.pass dt
     u.uplinkOk ⟨0, 7, 1, 29000, (5, 0, false), [0]⟩ = true ∧ u.uplinkOk ⟨0, 8, 1, 29000, (5, 0, false), [0]⟩ = false ∧
      u.uplinkOk ⟨0, 7, 1, 29000, (5, 0, true), [0]⟩ = true ∧ u.atlas.reasm = [] ∧ u.atlas.inbox = [] ∧ u.atlas.handles = []) := by
  decide +kernel

/-- The clauses of FabricAccess. -/
theorem witness_fabric_access :
    (live.pass dt).pd 3 = true ∧ aligned 1 2 = false ∧ aligned 0x50000000 4 = true ∧ addrDomain 0x50000000 = none ∧
    addrDomain 0x40400000 = some 14 ∧ inTwin 0x40400000 = false ∧ aligned 0x40400000 4 = true ∧ addrDomain 0x80000000 = some 14 ∧ inTwin 0x80000000 = true ∧
    (({ live with pwr := { live.pwr with pdOn := 0xBFFF } } : State).pass dt).serveOlder.pd 14 = false ∧
    (live.pass dt).serveOlder.pd 14 = true ∧ (live.pass dt).serveOlder.fab.closed.testBit 14 = false ∧
    (let a : FabEntry := ⟨⟨1, 0, 0x10000000, 4, false, 0, false⟩, 7, .waiting⟩
     let b : FabEntry := ⟨⟨0, 0, 0x10000000, 4, false, 0, false⟩, 7, .waiting⟩
     pickReq 0 [(0, a), (1, b)] = some (1, b)) ∧
    (let e : FabEntry := ⟨⟨2, 5, 0x10000000, 4, false, 0, false⟩, 0, .answered 3 0⟩
     let u := ({ live with fab := { live.fab with inflight := [e] }, dma := Vector.replicate 32 { starter := 1 } } : State).pass ⟨20000, 0⟩
     u.fab.inflight = [e] ∧ e.ans = .answered 3 0 ∧ u.now ≤ e.stamp + 20000 ∧ e.req.port = 2 ∧ e.ans ≠ .waiting ∧ (u.dmaOf e.req.unit).st ≠ 1 ∧
      e.req.write = false ∧ (u.dmaOf e.req.unit).starter ≠ 0 ∧ u.now ≥ e.stamp + 20000) ∧
    (let u := ({ live with fab := { live.fab with closed := 16 } } : State).pass dt; u.fab.closed.testBit 4 = true ∧ u.pd 4 = true ∧ u.portDrained 4 = true) := by
  decide +kernel

/-- The clauses of FabricStore, at the first doubleword and at the last byte of system SRAM. -/
theorem witness_fabric_store :
    (let r : FabReq := ⟨0, 0, 0x10000000, 8, true, 7, false⟩
     let u := ({ filled with fab := { filled.fab with inflight := [⟨r, 0, .waiting⟩] } } : State).pass ⟨20000, 0⟩
     u.pd 3 = true ∧ u.fab.closed.testBit 3 = false ∧ u.twin.lock = none ∧ u.mem.arm = false ∧ regionOf 0x10000000 = some 0 ∧ aligned 0x10000000 8 = true ∧
      u.fab.inflight = [⟨r, 0, .waiting⟩] ∧ u.now ≤ 0 + 20000) ∧
    (let r : FabReq := ⟨0, 0, 0x107FFFFF, 1, true, 7, false⟩
     let u := ({ filled with fab := { filled.fab with inflight := [⟨r, 0, .waiting⟩] } } : State).pass dt
     u.fab.inflight = [⟨r, 0, .waiting⟩] ∧ regionOf 0x107FFFFF = some 0 ∧ aligned 0x107FFFFF 1 = true ∧ synOf (u.synAt (0x107FFFFF / 8 * 8)) = .clean) := by
  decide +kernel

/-- The clauses of MemoryBlock. -/
theorem witness_memory_block :
    (live.pass dt).pd 3 = true ∧ (live.pass dt).fab.closed.testBit 3 = false ∧
    (let u := ({ filled with mem := { filled.mem with ctrl := 0x00782F81, scrub := 1, pos := 0 } } : State).pass ⟨760, 0⟩
     u.mem.ctrl.testBit 0 = true ∧ u.pwr.st = .run ∧ u.now ≥ u.mem.readAt + bitsOf u.mem.ctrl 4 14 ∧ u.scrubFrom 34 u.mem.pos = some 0 ∧
      u.fab.inflight = [] ∧ synOf (u.synAt (scrubAddr 0)) = .clean ∧ (u.scrubFrom 34 1).isSome = true) ∧
    (live.pass dt).mem.flipLo = 0 ∧ (live.pass dt).mem.flipHi = 0 ∧ (8191 : Nat) < 2 ^ 14 ∧ (8191 : Nat) ≠ 2 ^ 13 ∧
    ({ live.mem with flipLo := 1 } : Mem).flipLo ≠ 0 := by
  decide +kernel

/-- The clauses of DmaChannels. -/
theorem witness_dma_channels :
    (let s : State := { filled with dma := filled.dma.setIfInBounds 31 { st := 1, desc := [0, 0x10000000, 8, 0x1B, 0, 7] } }
     let u := s.pass dt
     u.pd 3 = true ∧ u.fab.closed.testBit 3 = false ∧ u.fab.inflight = [] ∧ u.mem.arm = false ∧ (u.dmaOf 31).st = 1 ∧ (u.dmaOf 31).starter = 0 ∧
      (u.dmaOf 31).desc = [0, 0x10000000, 8, 0x1B, 0, 7] ∧ 0 < (u.dmaOf 31).count ∧ (u.dmaOf 31).desc.length = 6) := by
  decide +kernel

/-- The clauses of TwinLink. -/
theorem witness_twin_link :
    (let s : State := (live.setPf Pf.twinCfg_EN 0 0 1).setPf Pf.twinCfg_PAIR 0 0 1
     let u := s.pass ⟨20000000, 0⟩
     u.twin.up = false ∧ u.pd 14 = true ∧ u.pb Pf.twinCfg_EN = true ∧ u.pwr.st = .run ∧ u.pb Pf.twinCfg_PAIR = true ∧ u.now ≥ u.twin.wakeAt + 20000000) ∧
    (let u := ({ live with twin := { live.twin with up := true, unacked := [(0, [])], lock := some (3, 0), rxSeq := 3 } } : State).pass ⟨4000, 0⟩
     u.twin.up = true ∧ u.twin.unacked ≠ [] ∧ u.now ≥ u.twin.ackAt + 64 ∧ u.twin.again = [] ∧ u.twin.wait = [] ∧ u.twin.txq = [] ∧
      u.twin.lock = some (3, 0) ∧ u.now ≥ 0 + 4000 ∧ crc32c ([] : List Byte) ≠ 1 ∧
      (let f : List Byte := leBytes 28 (3 + 256 * 3 + 2 ^ 24 * 3)
       let b := f ++ leBytes 4 (crc32c f)
       b.length = 32 ∧ crc32c (b.take 28) = leAt b 28 4 ∧ leAt b 1 1 = u.twin.rxSeq ∧ leAt b 0 1 = 3 ∧ leAt b 3 1 = 3)) := by
  decide +kernel

/-- The clauses of TwinAccesses. -/
theorem witness_twin_accesses :
    aligned 0x80000001 4 = false ∧ aligned 0x80000000 4 = true ∧ inTwin 0x80000000 = true ∧
    (({ live with pwr := { live.pwr with pdOn := 0xBFFF } } : State).pass dt).pd 14 = false ∧
    (live.pass dt).pd 14 = true ∧ (live.pass dt).fab.closed.testBit 14 = false ∧ (live.pass dt).findWin 0x80000000 = none ∧
    (let s : State := { live.setPf Pf.twinWindow_EN 0 0 1 with twin := { live.twin with up := true } }
     let u := s.pass dt
     u.findWin 0x80000000 = some 0 ∧ u.pb Pf.twinWindow_PF 0 0 = false ∧ u.twin.up = true ∧ u.twin.lock = none ∧ u.twin.out = [] ∧ u.twin.wait = [] ∧ u.twin.inq = []) := by
  decide +kernel

/-- The clauses of ChannelCommands, at the first, the last and a bridge channel. -/
theorem witness_channel_commands_1 :
    (let u := live.pass dt
     TakesUnit u (rq 0) ⟨0, 0, 0⟩ 0 ∧ TakesUnit u (rq 0) ⟨63, 0, 60000⟩ 1 ∧ TakesUnit u (rq 0) ⟨8, 0, 0⟩ 2 ∧
      (u.chan 63).st = .off ∧ u.feedOk 63 = true ∧ u.dualFed 63 = false ∧ u.feedOk 8 = true ∧ u.dualFed 8 = false ∧
      ∀ r ∈ u.iso.pend, r.num = 63 → r.kind ≠ .turnOn) := by
  decide +kernel

/-- The clauses of ChannelCommands, at the first, the last and a bridge channel. -/
theorem witness_channel_commands_2 :
    (let s := (live.setPf Pf.chCfg_BRIDGE 8 0 1).setChan 8 { st := .on, gate := .drive .fwd, drive := .fwd }
     TakesUnit ((live.setPf Pf.chCfg_BRIDGE 8 0 1).pass dt) (rq 0) ⟨8, 0, 0⟩ 3 ∧ TakesUnit ((live.setPf Pf.chCfg_BRIDGE 8 0 1).pass dt) (rq 0) ⟨8, 0, 0⟩ 4 ∧
      TakesUnit (s.pass dt) (rq 0) ⟨8, 0, 0⟩ 5 ∧ ((s.pass dt).chan 8).st = .on ∧ ((s.pass dt).chan 8).gate ≠ .off ∧ ((s.pass dt).chan 8).gate ≠ .brake) := by
  decide +kernel

/-- The clauses of ChannelCommands, at the first, the last and a bridge channel. -/
theorem witness_channel_commands_3 :
    (let s := (live.setPf Pf.chCfg_BRIDGE 30 0 1).setChan 30 { st := .on, gate := .brake, drive := .fwd }
     TakesUnit (s.pass dt) (rq 0) ⟨30, 0, 0⟩ 5 ∧ ((s.pass dt).chan 30).st = .on ∧ ((s.pass dt).chan 30).gate = .brake) := by
  decide +kernel

/-- The clauses of ChannelCommands, at the first, the last and a bridge channel. -/
theorem witness_channel_commands_4 :
    (let s := live.setChan 1 { st := .latched, fault := 1 }
     TakesUnit (s.pass dt) (rq 0) ⟨1, 1, 0⟩ 6 ∧ TakesUnit (s.pass dt) (rq 0) ⟨1, 0, 0⟩ 6 ∧ ((s.pass dt).chan 1).st = .latched) := by
  decide +kernel

/-- The clauses of ChannelCommands, at the first, the last and a bridge channel. -/
theorem witness_channel_commands_5 :
    (let s := live.setGen 15 { en := true, mems := [{ unit := 0, duty := 500, phase := 0, dir := false, free := false }] }
     TakesUnit (s.pass dt) (rq 0) ⟨0, 0, 0⟩ 0x10 ∧ (s.pass dt).pmem 0 = some (15, { unit := 0, duty := 500, phase := 0, dir := false, free := false }) ∧
      ((s.pass dt).chan 0).st = .off ∧ (s.pass dt).feedOk 0 = true ∧ (s.pass dt).dualFed 0 = false) := by
  decide +kernel

/-- The clauses of ChannelCommands, at the first, the last and a bridge channel. -/
theorem witness_channel_commands_6 :
    (let s := (live.setChan 5 { st := .grantWait }).setCmd 5 ⟨1, 1, some 10, false, false, false⟩
     let u := s.pass ⟨10, 0⟩
     u.cmdOf 5 = some ⟨1, 1, some 10, false, false, false⟩ ∧ 10 ≤ u.now ∧ isTurnOn 1 = true ∧ (u.chan 5).st = .grantWait ∧ u.owner 5 = 5) := by
  decide +kernel

/-- The clauses of ChannelTimes at boundary values. -/
theorem witness_channel_times_1 :
    (let u := (live.setChan 8 { st := .grantWait, dead := some (0, .request) }).pass ⟨200, 0⟩
     (u.chan 8).dead = some (0, .request) ∧ 0 + 200 ≤ u.now ∧ (u.chan 8).st = .grantWait ∧ (u.chan 8).lostAt = none ∧ u.parentOf 8 = none) := by
  decide +kernel

/-- The clauses of ChannelTimes at boundary values. -/
theorem witness_channel_times_2 :
    (let x : Chan := { st := .inrush, inr := true, gate := .drive .high, inrT := 20000000 }
     let u := (live.setChan 0 x).pass ⟨20000000, 0⟩
     (u.chan 0).inr = true ∧ u.seqUp 0 = true ∧ chClass 0 ≠ 2 ∧ (u.chan 0).inrT ≤ (u.chan 0).timer u.now ∧ (u.chan 0).st = .inrush ∧ u.gang 0 = [0] ∧
      u.bridge 0 = false ∧ u.pmem (u.topOf 0) = none ∧ (u.chan 0).energised = true) := by
  decide +kernel

/-- The clauses of ChannelTimes at boundary values. -/
theorem witness_channel_times_3 :
    (let x : Chan := { st := .on, gate := .drive .high, offAt := some 0, stallAt := some 0 }
     let u := (live.setChan 63 x).pass ⟨1000000, 0⟩
     (u.chan (u.owner 63)).energised = true ∧ u.seqUp 63 = true ∧ (u.chan (u.owner 63)).inr = false ∧ u.bridgeOdd 63 = false ∧ u.stalls 63 = false ∧ (u.chan 63).offAt = some 0 ∧
      10 * (299 : Int) < (nominalMa 63 : Int) ∧ (u.chan 63).stallAt = some 0 ∧ 10 * (0 : Int) < 9 * (u.ilimOf 63 : Int)) := by
  decide +kernel

/-- The clauses of ChannelTimes at boundary values. -/
theorem witness_channel_times_4 :
    (let u := ((live.setPf Pf.chCfg_PROFILE 0 0 4).setChan 0 { st := .on, gate := .drive .high }).pass dt
     (u.chan (u.owner 0)).energised = true ∧ u.seqUp 0 = true ∧ (u.chan (u.owner 0)).inr = false ∧ u.bridgeOdd 0 = false ∧ u.stalls 0 = true) := by
  decide +kernel

/-- The clauses of ChannelTimes at boundary values. -/
theorem witness_channel_times_5 :
    (let u := ({ live with load := { live.load with held := true } } : State); u.seqUp 0 = false) := by
  decide +kernel

/-- The clauses of ChannelTimes at boundary values. -/
theorem witness_channel_times_6 :
    (let x : Chan := { st := .grantWait, revAt := some 0 }
     let u := (live.setChan 8 x).pass ⟨400000, 0⟩
     (u.chan 8).revAt = some 0 ∧ 0 + 400000 ≤ u.now ∧ (u.chan 8).lostAt = none ∧ u.parentOf 8 = none ∧ u.owner 8 = 8) := by
  decide +kernel

/-- The clauses of ChannelTimes at boundary values. -/
theorem witness_channel_times_7 :
    (let x : Chan := { st := .retryWait }
     let u := (live.setChan 0 x).pass ⟨200000 * 10000, 0⟩
     u.gang 0 = [0] ∧ u.parentOf 0 = none ∧ (u.chan 0).st = .retryWait ∧ (u.chan 0).retryReq = false ∧ u.seqUp 0 = true ∧ u.retryReady 0 [⟨0, 0, 1500⟩] = true) := by
  decide +kernel

/-- The clauses of ChannelTimes at boundary values. -/
theorem witness_channel_times_8 :
    (let x : Chan := { st := .retryOn }
     let u := (live.setChan 0 x).pass ⟨2000000, 0⟩
     u.gang 0 = [0] ∧ (u.chan 0).st = .retryOn ∧ (u.chan 0).inr = false ∧ u.confirmEnd 0 ≤ u.now ∧ u.seqUp 0 = true) := by
  decide +kernel

/-- The clauses of ChannelTimes at boundary values. -/
theorem witness_channel_times_9 :
    ((live.pass dt).dieRec 3).sag = false ∧
    (let u := ((live.setDie 3 { sag := true }).setChan 63 { inr := true, frozenAt := some 0 }).pass dt; (u.dieRec 3).sag = true ∧ dieOf 63 = 3 ∧ (u.chan 63).frozenAt = some 0) := by
  decide +kernel

/-- The clauses of ChannelTimes at boundary values. -/
theorem witness_channel_times_10 :
    (let u := (live.setChan 9 { st := .grantWait, dead := some (100, .gateOn) }).pass ⟨300, 0⟩; (u.chan 9).dead = some (100, .gateOn) ∧ 100 + 200 ≤ u.now) := by
  decide +kernel

/-- The clauses of ChannelTimes at boundary values. -/
theorem witness_channel_times_11 :
    (let u := (live.setChan 10 { dead := some (100, .brakeOn) }).pass ⟨300, 0⟩; (u.chan 10).dead = some (100, .brakeOn) ∧ 100 + 200 ≤ u.now) := by
  decide +kernel

/-- The clauses of ChannelTimes at boundary values. -/
theorem witness_channel_times_12 :
    (let u := (live.setChan 11 { dead := some (100, .set (.drive .low)) }).pass ⟨300, 0⟩; (u.chan 11).dead = some (100, .set (.drive .low)) ∧ 100 + 200 ≤ u.now) := by
  decide +kernel

/-- The clauses of ChannelTrips. -/
theorem witness_channel_trips_1 :
    (let u := (live.setChan 0 { st := .on, gate := .drive .high, limit := 25000, regAt := some 0 }).pass ⟨400000, 0⟩
     u.gang 0 = [0] ∧ u.owner 0 = 0 ∧ u.parentOf 0 = none ∧ (u.chan 0).energised = true ∧ (u.chan 0).st = .on ∧ u.seqUp 0 = true ∧
      u.pb Pf.chRetry_NORETRY 0 = false ∧ fastMin 0 ≤ 115000 ∧ u.feedOk 0 = true ∧ (u.chan 0).inr = false ∧ ((u.chan 0).limit : Int) ≤ 25000 ∧
      dwellTk 0 ≤ (u.chan 0).dwell u.now ∧ u.stalls 0 = false ∧ (u.pf Pf.chDtLimit_DT 0 : Int) < 10000 ∧ (1620 : Int) < 1621 ∧
      (u.pf Pf.chWire_KTRIP 0 : Rat) / 16 ≤ (u.chan 0).theta + ((((Vector.replicate 25 (100000000 : Int)).toList.foldl (fun a i => a + i * i) 0 : Int) : Rat) / 25 / ((u.wireRated 0 : Rat) * (u.wireRated 0 : Rat)) - (u.chan 0).theta) / (1000 * (u.pf Pf.chWire_TAU 0 : Rat)) ∧
      (u.chan 0).theta + ((((Vector.replicate 25 (0 : Int)).toList.foldl (fun a i => a + i * i) 0 : Int) : Rat) / 25 / ((u.wireRated 0 : Rat) * (u.wireRated 0 : Rat)) - (u.chan 0).theta) / (1000 * (u.pf Pf.chWire_TAU 0 : Rat)) < (u.pf Pf.chWire_KTRIP 0 : Rat) / 16) := by
  decide +kernel

/-- The clauses of ChannelTrips. -/
theorem witness_channel_trips_2 :
    (let s := (live.setChan 0 { st := .on, gate := .drive .high, stallAt := some 0, inrT := 7 }).setPf Pf.chCfg_PROFILE 0 0 4
     let u := (s.setPf Pf.chRetry_NORETRY 0 0 1).pass ⟨7, 0⟩
     u.gang 0 = [0] ∧ u.owner 0 = 0 ∧ u.parentOf 0 = none ∧ (u.chan 0).energised = true ∧ u.seqUp 0 = true ∧ u.pb Pf.chRetry_NORETRY 0 = true ∧ u.stalls 0 = true ∧
      (u.chan 0).stallAt = some 0 ∧ 0 + (u.chan 0).inrT ≤ u.now ∧ (u.ilimOf 0 : Int) ≤ 35000) := by
  decide +kernel

/-- The clauses of ChannelTrips. -/
theorem witness_channel_trips_3 :
    (let s : State := { live with load := { live.load with held := true } }
     let u := (s.setChan 0 { st := .on, gate := .drive .high }).pass dt
     u.seqUp 0 = false ∧ u.gang 0 = [0] ∧ u.owner 0 = 0 ∧ u.parentOf 0 = none ∧ (u.chan 0).energised = true ∧ (u.chan 0).dieTrip = false ∧ u.feedOk 0 = true) := by
  decide +kernel

/-- The clauses of ChannelTrips. -/
theorem witness_channel_trips_4 :
    (let u := (live.setChan 63 { st := .inrush, gate := .drive .high, inr := true, frozenAt := some 1000000, inrT := 1000000 }).pass ⟨1400000, 0⟩
     u.gang 63 = [63] ∧ u.owner 63 = 63 ∧ u.parentOf 63 = none ∧ (u.chan 63).energised = true ∧ u.seqUp 63 = true ∧ (u.chan 63).inr = true ∧ chClass 63 = 2 ∧
      (u.chan 63).inrT ≤ (u.chan 63).timer u.now ∧ 10 * 0 < 9 * u.feedMv 63 ∧ (u.chan 63).frozenAt = some 1000000 ∧ 400000 ≤ (u.chan 63).frozen + (u.now - 1000000)) := by
  decide +kernel

/-- The clauses of ChannelTrips. -/
theorem witness_channel_trips_5 :
    (let u := (live.setChan 1 { st := .retryOn, gate := .drive .high }).pass ⟨2000000, 0⟩
     let v := (live.setChan 1 { st := .retryOn, gate := .drive .high }).pass ⟨1999999, 0⟩
     u.confirmEnd 1 ≤ u.now ∧ v.now < v.confirmEnd 1 ∧ (u.chan 1).st = .retryOn ∧ (u.chan 1).inr = false ∧ u.pb Pf.chRetry_NORETRY 1 = false ∧ u.seqUp 1 = true ∧ u.feedOk 1 = true ∧ u.gang 1 = [1] ∧ u.owner 1 = 1 ∧ u.parentOf 1 = none) := by
  decide +kernel

/-- The clauses of ChannelTrips. -/
theorem witness_channel_trips_6 :
    (let u := ((live.setPf Pf.chCfg_BRIDGE 8 0 1).setChan 8 { st := .off, brake := true, gate := .brake }).pass dt
     (u.chan 8).st = .off ∧ (u.chan 8).brake = true ∧ (u.chan 8).energised = true ∧ u.gang 8 = [8] ∧ u.owner 8 = 8 ∧ u.parentOf 8 = none ∧ u.seqUp 8 = true ∧ u.feedOk 8 = true ∧ fastMin 8 ≤ 35000) := by
  decide +kernel

/-- The clauses of ChannelDiagnostics. -/
theorem witness_channel_diagnostics :
    (let u := ((live.setChan 0 { st := .on, gate := .drive .high }).setPf Pf.chCfg_RB 0 0 1).pass dt
     chClass 0 ≠ 1 ∧ u.pb Pf.chCfg_RB 0 = true ∧ (u.chan 0).energised = true ∧ (u.chan 0).revblock = false) ∧
    (let s := live.setPf Pf.chOpenload_EN 63 0 1
     let u := s.pass dt
     (u.chan 63).st = .off ∧ (u.chan 63).energised = false ∧ (u.chan 63).test = .idle ∧ u.pb Pf.chOpenload_EN 63 = true ∧ u.seqUp 63 = true ∧ u.lead 63 = 63 ∧
      u.dualFed 63 = false ∧ (u.chan 63).testAt = 0) ∧
    (let cfg := live.parOf (Pid.chOpenload 63) 0
     let u := (live.setChan 63 { test := .pullOff 0, testCfg := cfg }).pass ⟨2000, 0⟩
     (u.chan 63).test = .pullOff 0 ∧ 0 + 2000 ≤ u.now ∧ Pf.chOpenload_POL.of (u.chan 63).testCfg ≠ 1 ∧ 1 < Pf.chOpenload_FILT.of (u.chan 63).testCfg ∧
      (u.chan 63).cand ≠ 0x11 ∧ (u.chan 63).cleanCnt + 1 < Pf.chOpenload_FILT.of (u.chan 63).testCfg ∧ u.bridge 63 = false) ∧
    (let cfg := live.parOf (Pid.chOpenload 63) 0
     let u := (live.setChan 63 { test := .pullOn 0 0x11, testCfg := cfg }).pass ⟨44000, 0⟩
     (u.chan 63).test = .pullOn 0 0x11 ∧ 0 + 44000 ≤ u.now ∧ (u.chan 63).cand ≠ 0x11 ∧ 1 < Pf.chOpenload_FILT.of (u.chan 63).testCfg) ∧
    (let s := (live.setPf Pf.chOpenload_POL 8 0 1).setPf Pf.chCfg_BRIDGE 8 0 1
     let u := (s.setChan 8 { test := .pullOff 0, testCfg := s.parOf (Pid.chOpenload 8) 0 }).pass ⟨2000, 0⟩
     Pf.chOpenload_POL.of (u.chan 8).testCfg = 1 ∧ u.bridge 8 = true ∧ (u.chan 8).test = .pullOff 0 ∧ 0 + 2000 ≤ u.now) ∧
    (let s := live.setPf Pf.chOpenload_FILT 5 0 1
     let u := (s.setChan 5 { test := .pullOn 0 0, testCfg := s.parOf (Pid.chOpenload 5) 0 }).pass ⟨44000, 0⟩
     Pf.chOpenload_FILT.of (u.chan 5).testCfg ≤ 1 ∧ (u.chan 5).test = .pullOn 0 0 ∧ 0 + 44000 ≤ u.now ∧ Pf.chOpenload_POL.of (u.chan 5).testCfg ≠ 1 ∧ (u.chan 5).openload = false) := by
  decide +kernel

/-- The clauses of FeedsAndPulses. -/
theorem witness_feeds_and_pulses :
    (let u := (live.setChan 0 { st := .on, gate := .drive .high }).pass dt
     (∀ k : Fin 32, (u.compOf k).en = false) ∧ u.il.role ≠ 2 ∧ u.feedInRange .a = true ∧ onFeed .a 0 = true ∧ u.bridgeOdd 0 = false ∧ u.seqUp 0 = true ∧
      (u.chan 0).st = .on ∧ onFeed .b 0 = false) ∧
    (let s : State := { live with load := { live.load with held := true } }
     let u := (s.setChan 0 { st := .on, gate := .drive .high }).pass dt
     (∀ k : Fin 32, (u.compOf k).en = false) ∧ u.il.role ≠ 2 ∧ u.feedInRange .a = true ∧ onFeed .a 0 = true ∧ u.bridgeOdd 0 = false ∧ u.seqUp 0 = false ∧
      (u.chan 0).energised = true) ∧
    (let s : State := { live with pwr := { live.pwr with aOk := false } }
     let u := (s.setChan 0 { st := .grantWait, lostAt := some 0 }).pass ⟨199999999, 0⟩
     u.feedInRange .a = false ∧ (u.chan 0).lostAt = some 0 ∧ u.now < 0 + 200000000 ∧ (u.chan 0).revAt = none ∧ (u.chan 0).dead = none ∧
      u.gang 0 = [0] ∧ (u.chan 0).st = .grantWait) ∧
    (let s : State := { live with pwr := { live.pwr with aOk := false } }
     let u := (s.setChan 0 { st := .grantWait, lostAt := some 0 }).pass ⟨200000000, 0⟩
     u.feedInRange .a = false ∧ (u.chan 0).lostAt = some 0 ∧ u.gang 0 = [0] ∧ (u.chan 0).st = .grantWait ∧ 0 + 200000000 ≤ u.now ∧ u.feedOk 0 = false) ∧
    (let m : PMem := { unit := 0, duty := 500, phase := 0, dir := false, free := false, pulsing := true, onEdge := some (0, some 500000), offEdge := some 0 }
     let s := (live.setChan 0 { st := .on }).setGen 15 { en := true, mems := [m] }
     let u := s.pass ⟨1000000, 0⟩
     (u.genOf 15).en = true ∧ u.pd 3 = true ∧ (u.genOf 15).start + (u.genOf 15).per ≤ u.now ∧ u.memOf 15 0 = some m ∧ u.onSchedule 0 = true ∧
      u.bridge 0 = false ∧ (u.chan 0).inrDue = false ∧ (u.chan 0).gate = .off ∧ (u.chan 0).opened = none ∧ (u.chan 0).dead = none) := by
  decide +kernel

/-- The clauses of HeatBudget. -/
theorem witness_heat_budget_1 :
    (let x : Share := ⟨63, 1000, 10, 500⟩
     let r : IsoReq := ⟨63, .turnOn, [x], 0, 0, 0, 0, none, false⟩
     let s : State := { live with iso := { live.iso with pend := [r], e := 1000 } }
     let u := (s.setChan 63 { st := .grantWait }).pass dt
     u.pd 3 = true ∧ u.load.held = false ∧ u.iso.rels = [] ∧ u.iso.pend = [r] ∧ (u.chan 63).st = .grantWait ∧ (u.chan 63).gate = .off ∧ (u.chan 63).opened = none ∧
      u.pmem (u.topOf 63) = none ∧ u.fits r.ps r.ex r.q = true ∧ u.now % 2000000 = 0 ∧ (∀ k : Fin 64, (u.chan k).seed = false) ∧
      u.seqUp 63 = true ∧ u.tj 63 - ((0 : Int) : Rat) / 10 ≤ (u.pf Pf.isoDiverge_DIV : Rat) / 10 ∧ -(u.tj 63 - ((0 : Int) : Rat) / 10) ≤ (u.pf Pf.isoDiverge_DIV : Rat) / 10 ∧
      (u.pf Pf.isoDiverge_DIV : Rat) / 10 < -(u.tj 63 - ((30000 : Int) : Rat) / 10) ∧ (u.chan 63).diverged < 9) := by
  decide +kernel

/-- The clauses of HeatBudget. -/
theorem witness_heat_budget_2 :
    (let x : Share := ⟨0, 1000, 10, 500⟩
     let r : IsoReq := ⟨0, .turnOn, [x], 0, 0, 0, 0, none, false⟩
     let u := ({ live with iso := { live.iso with pend := [r] } } : State).pass dt
     u.iso.rels = [] ∧ u.iso.pend = [r] ∧ u.fits r.ps r.ex r.q = false) ∧
    (let u := (({ live with iso := { live.iso with grants := [⟨0, ⟨0, 1, 1, 1⟩, 0, false, 0⟩] } } : State).setChan 0 { st := .on, tuN := 5, tuOn := 5 }).pass dt
     u.trueable 0 = true ∧ (u.chan 0).st = .on ∧ u.now % 2000000 = 0 ∧ u.pd 3 = true ∧ u.load.held = false ∧ (∀ y ∈ u.iso.grants, y.num = 0 ∧ (u.chan y.share.ch).tuN ≠ 0)) ∧
    (let u := ({ live with iso := { live.iso with grants := [⟨112, ⟨112, 1, 1, 1⟩, 0, false, 0⟩] } } : State).pass dt
     u.trueable 112 = true ∧ u.now % 2000000 = 0 ∧ u.pd 3 = true ∧ u.load.held = false ∧ (∀ y ∈ u.iso.grants, y.num = 112)) ∧
    (let r : IsoReq := ⟨112, .turnOn, [], 0, 0, 0, 0, some 0, false⟩
     let u := ({ live with iso := { live.iso with pend := [r] } } : State).pass ⟨200000 * 255, 0⟩
     u.iso.pend = [r] ∧ 0 + 200000 * u.pf Pf.isoBlockMs_BLOCK ≤ u.now) := by
  decide +kernel

/-- The clauses of ContourStreams. -/
theorem witness_contour_streams_1 :
    (let s : State := { live with ctr := { live.ctr with inForce := [(0, 0x100)] } }
     let u := s.pass ⟨200000, 0⟩
     u.now % 200000 = 0 ∧ u.now ≠ 0 ∧ u.pd 15 = true ∧ (streamCfg ((kvGet 0 u.ctr.inForce).getD 0) 0).2 = true ∧ u.ctr.queue.length < 64 ∧
      u.streamBlocks ⟨0, 0, Vector.replicate 250 (some 5)⟩ 0 false ≠ [] ∧ (streamCfg ((kvGet 0 u.ctr.inForce).getD 0) 1).2 = false ∧
      u.streamBlocks ⟨0, 0, Vector.replicate 250 (some 5)⟩ 0 true ≠ []) := by
  decide +kernel

/-- The clauses of ContourStreams. -/
theorem witness_contour_streams_2 :
    (let s : State := { live with ctr := { live.ctr with queue := List.replicate 64 (0, []) } }
     let u := s.pass dt
     64 ≤ u.ctr.queue.length ∧ u.ctr.queue = (0, []) :: List.replicate 63 (0, []) ∧ u.pd 15 = true ∧ (u.ses 0).isOpen = false ∧ (takeBlocks 1456 []).2 = [] ∧
      ((u.touch 0).ses 0).isOpen = true) ∧
    segLen 0 0 [1, 2, 3] 250 1 = 3 := by
  decide +kernel

/-- The clauses of ValveCommands, at the first and the last valve. -/
theorem witness_valve_commands_1 :
    (let u := (live.setValve 15 { st := .hold }).pass dt
     TakesValve u (rq 0) ⟨15, 0, 60000⟩ 0 ∧ (u.valve 15).st = .hold) := by
  decide +kernel

/-- The clauses of ValveCommands, at the first and the last valve. -/
theorem witness_valve_commands_2 :
    (let u := live.pass dt
     TakesValve u (rq 0) ⟨0, 0, 0⟩ 1 ∧ (u.valve 0).st = .off) := by
  decide +kernel

/-- The clauses of ValveCommands, at the first and the last valve. -/
theorem witness_valve_commands_3 :
    (let u := (live.setValve 0 { st := .latched }).pass dt
     TakesValve u (rq 0) ⟨0, 1, 0⟩ 6 ∧ (u.valve 0).st = .latched) := by
  decide +kernel

/-- The clauses of ValveCommands, at the first and the last valve. -/
theorem witness_valve_commands_4 :
    (let u := (live.setValve 15 { st := .grantWait, cmd := some ⟨1, 1, some 10, false, false, false⟩ }).pass ⟨10, 0⟩
     (u.valve 15).cmd = some ⟨1, 1, some 10, false, false, false⟩ ∧ 10 ≤ u.now ∧ (u.valve 15).st = .grantWait) ∧
    (let u := (live.setValve 15 { cmd := some ⟨1, 0, none, false, false, false⟩ }).pass ⟨1000000, 0⟩
     (u.valve 15).cmd = some ⟨1, 0, none, false, false, false⟩ ∧ (u.valve 15).offAt + 1000000 ≤ u.now ∧ 10 * (0 : Int) < ((u.valve 15).ihold : Int)) ∧
    (let u := (live.setValve 15 { st := .retryWait, delay := 1 }).pass ⟨200000, 0⟩
     (u.valve 15).st = .retryWait ∧ (u.valve 15).tripAt + 200000 * (u.valve 15).delay ≤ u.now ∧ u.bankFeedOk (15 / 4) = true) ∧
    (let s : State := { live with pwr := { live.pwr with bOk := false } }
     let u := (s.setValve 15 { st := .hold }).pass dt
     u.bankFeedOk 3 = false ∧ (u.valve 15).st ≠ .off ∧ (u.valve 15).st ≠ .latched) := by
  decide +kernel

/-- The clauses of ValvePhases. -/
theorem witness_valve_phases_1 :
    (let u := ((live.setValve 12 { st := .boost }).setValve 15 { st := .boostWait }).pass ⟨400000, 0⟩
     (u.valve 12).st = .boost ∧ (u.valve 12).phaseAt + (u.valve 12).tboost ≤ u.now ∧ ((u.valve 12).iboost : Int) ≤ 30000 ∧ u.boostWaiter (12 / 4) = some 15 ∧
      0 < u.bankFeed (12 / 4) + 300) ∧
    (let u := (live.setValve 15 { st := .peak, cfg := 0x0064080F + Pf.valveCfg_KEN.put 1 }).pass ⟨200000000, 0⟩
     (u.valve 15).st = .peak ∧ (u.valve 15).phaseAt + (u.valve 15).tpeak ≤ u.now ∧ (u.valve 15).detected = false) ∧
    (let u := (live.setValve 15 { st := .hold, times := Pf.valveTimes_THOLD.put 1 }).pass ⟨200000, 0⟩
     (u.valve 15).st = .hold ∧ (u.valve 15).thold ≠ 0 ∧ (u.valve 15).phaseAt + (u.valve 15).thold ≤ u.now ∧ (u.valve 15).retry = false) ∧
    (let u := (live.setValve 15 { st := .hold, retry := true, low := true }).pass ⟨2000000, 0⟩
     (u.valve 15).st = .hold ∧ (u.valve 15).retry = true ∧ (u.valve 15).phaseAt + 2000000 ≤ u.now ∧ (u.valve 15).low = true ∧ ((u.valve 15).level : Int) ≤ 0) := by
  decide +kernel

/-- The clauses of ValvePhases. -/
theorem witness_valve_phases_2 :
    (let s := live.setValve 15 { st := .peak, level := 5, cfg := Pf.valveCfg_KEN.put 1, kink := 0x1001 }
     let u := s.pass ⟨3000, 0⟩
     u.now % u.chopTk (15 / 4) = (15 % 4) * u.chopTk (15 / 4) / 4 ∧ (0 : Int) < ((u.valve 15).level : Int) ∧
      (u.valve 15).cfgBit Pf.valveCfg_KEN = true ∧ (u.valve 15).detected = false ∧ u.pd 9 = true ∧ (u.valve 15).us = [] ∧
      (((u.valve 15).us ++ [(7 : Int)]).reverse)[Pf.valveKink_KW.of (u.valve 15).kink]? = none) ∧
    (let s := live.setValve 15 { st := .peak, cfg := Pf.valveCfg_KEN.put 1, kink := 0x1001, us := [30000] }
     ((((s.pass dt).valve 15).us ++ [(7 : Int)]).reverse)[Pf.valveKink_KW.of ((s.pass dt).valve 15).kink]? = some 30000 ∧
      (7 : Int) - 30000 ≤ -(50 * Pf.valveKink_KTH.of ((s.pass dt).valve 15).kink : Int)) ∧
    (let s := live.setPf Pf.bankRail_EN 0 0 1
     let u := s.pass ⟨5000000, 0⟩
     u.pb Pf.bankRail_EN 0 = true ∧ u.pd 9 = true ∧ u.vlv.fault = false ∧ 90 * u.pf Pf.bankRail_BOOSTV 0 ≤ 6800 ∧ u.vlv.reached = false ∧
      u.vlv.railAt + 5000000 ≤ u.now) := by
  decide +kernel

/-- The clauses of ValveTrips. -/
theorem witness_valve_trips :
    (let u := (live.setValve 15 { st := .hold, onSince := some 0 }).pass ⟨200000, 0⟩
     (u.valve 15).st = .hold ∧ (u.valve 15).cfgBit Pf.valveCfg_NORETRY = false ∧ (u.valve 15).retry = false ∧ (u.valve 15).onSince = some 0 ∧ 0 + 200000 ≤ u.now) ∧
    (let u := (live.setValve 15 { st := .boost, retry := true, onSince := some 0 }).pass ⟨200000, 0⟩
     (u.valve 15).st = .boost ∧ (u.valve 15).retry = true) ∧
    (let u := (live.setValve 15 { onSince := some 0 }).pass ⟨200000, 0⟩; (u.valve 15).st = .off) ∧
    (let u := (live.setValve 15 { st := .hold, retry := true, onSince := some 0 }).pass ⟨2000000, 0⟩
     (u.valve 15).st = .hold ∧ (u.valve 15).retry = true ∧ (u.valve 15).phaseAt + 2000000 ≤ u.now) ∧
    (let u := (live.setValve 0 { st := .latched, tripCode := 4, fault := 4, tripAt := 200000, onSince := some 0 }).pass ⟨200000, 0⟩
     (u.valve 0).st = .latched ∧ (u.valve 0).tripAt = u.now) := by
  decide +kernel

/-- The clauses of Lighting. -/
theorem witness_lighting_1 :
    (let u := live.pass dt
     let f : LightFrame := ⟨7, 2, 0, 1, 9, [1, 2, 3, 0]⟩
     let p := leBytes 1 f.target ++ leBytes 1 f.flags ++ leBytes 2 f.first ++ leBytes 2 f.count ++ leBytes 2 f.fid ++ f.data
     Takes u (rq 0) 0x22 0 p ∧ (u.lightCheck (u.direct (rq 0) 0x22 0 p) f).toOption = some [(0, 0x030201)] ∧ f.flags.testBit 1 = true) ∧
    (let u := live.pass dt
     let f : LightFrame := ⟨7, 0, 0, 1, 9, [1, 2, 3, 0]⟩
     let p := leBytes 1 f.target ++ leBytes 1 f.flags ++ leBytes 2 f.first ++ leBytes 2 f.count ++ leBytes 2 f.fid ++ f.data
     Takes u (rq 0) 0x22 0 p ∧ (u.lightCheck (u.direct (rq 0) 0x22 0 p) f).toOption = some [(0, 0x030201)] ∧ f.flags.testBit 1 = false) := by
  decide +kernel

/-- The clauses of Lighting. -/
theorem witness_lighting_2 :
    (let u := live.pass dt
     let f : LightFrame := ⟨8, 2, 191, 1, 9, [7]⟩
     let p := leBytes 1 f.target ++ leBytes 1 f.flags ++ leBytes 2 f.first ++ leBytes 2 f.count ++ leBytes 2 f.fid ++ f.data
     Takes u (rq 0) 0x22 0 p ∧ (u.lightCheck (u.direct (rq 0) 0x22 0 p) f).toOption = some [(191, 7)] ∧ f.flags.testBit 1 = true) := by
  decide +kernel

/-- The clauses of Lighting. -/
theorem witness_lighting_3 :
    (let s := ((live.setPf Pf.lcCfg_EN 7 0 1).setPf Pf.lcCfg_MODE 7 0 1).setPf Pf.lcCfg_CHK 7 0 0
     let u := (s.setChain 7 { fresh := true }).pass dt
     Pf.lcCfg_EN.of (u.lcCfgNow 7) = 1 ∧ u.pd 8 = true ∧ u.fab.closed.testBit 8 = false ∧ (u.chain 7).sending = none ∧ (u.chain 7).dark = 0 ∧
      Pf.lcCfg_MODE.of (u.lcCfgNow 7) = 1 ∧ (u.chain 7).fresh = true) ∧
    (let s := live.setPf Pf.lcCfg_EN 0 0 1
     let u := (s.setChain 0 { dark := 1 }).pass dt
     Pf.lcCfg_EN.of (u.lcCfgNow 0) = 1 ∧ (u.chain 0).sending = none ∧ (u.chain 0).dark = 1 ∧ Pf.lcCfg_MODE.of (u.lcCfgNow 0) ≠ 1 ∧ u.now % (Pf.lcCfg_FPER.of (u.lcCfgNow 0) * 200000) = 0) ∧
    (let u := (live.setChain 0 { sending := some 0, out := [5], len := 22000, chk := true }).pass dt; (u.chain 0).sending = some 0 ∧ 23 < (u.chain 0).wire.length) ∧
    (let u := (live.setChain 0 { sending := some 0, len := 200000, chk := true, out := [0xA5A5A5] }).pass ⟨200000, 0⟩; (u.chain 0).sending = some 0 ∧ 0 + (u.chain 0).len ≤ u.now ∧ u.load.held = false ∧ (u.chain 0).chk = true) ∧
    (let u := (live.setMx { granted := true, st := .grantWait, ps := 5 }).pass dt
     u.pd 8 = true ∧ u.now % (8 * u.trow) = 0 ∧ u.mxWaits = false ∧ u.mxNeed ≤ u.light.mx.ps ∧ u.mxFactors = List.replicate 8 1000) := by
  decide +kernel

/-- The clauses of Lighting. -/
theorem witness_lighting_4 :
    (let s := live.setMx { st := .scan, row := some 7, shown := [(191, 255)], factors := List.replicate 8 1000 }
     let u := s.pass ⟨8 * 65535, 0⟩
     0 < u.columnOn 7 23 ∧ 2000 ≤ u.columnOn 7 23 ∧ u.light.mx.frameAt + 7 * u.trow + u.tblank + 23 * u.stag + u.columnOn 7 23 ≤ u.now ∧
      (s.pass ⟨7 * s.trow, 0⟩).now = u.light.mx.frameAt + 7 * u.trow) ∧
    (let u := (live.setMx { st := .retryWait }).pass ⟨20000000, 0⟩; u.light.mx.st = .retryWait ∧ u.light.mx.asked = false ∧ u.light.mx.tripAt + 20000000 ≤ u.now) ∧
    (let u := (live.setMx { st := .retryOn }).pass ⟨2000000, 0⟩; u.light.mx.st = .retryOn ∧ u.light.mx.restartAt + 2000000 ≤ u.now) ∧
    (let u := (live.setMx { st := .retryOn }).pass ⟨1999999, 0⟩; u.now < u.light.mx.restartAt + 2000000) ∧
    (live.pass dt).pd 15 = true ∧ (live.pass dt).now % 2000000 = 0 ∧ (live.pass dt).pf Pf.ntcCfg_TYPE 0 = 0 ∧ (live.setPf Pf.ntcCfg_TYPE 7 0 1).pf Pf.ntcCfg_TYPE 7 ≠ 0 := by
  decide +kernel

/-- The clauses of EnablingWrites. -/
theorem witness_enabling_writes_1 :
    (let s := (live.setPf Pf.compMember_MEMBER 31 0 1).setPf Pf.compMember_MEMBER 31 63 1
     Accepts (s.pass dt) (rq 0) (parWrite (Pid.compCfg 31) 0 (Pf.compCfg_EN.put 1)) ∧ ((s.pass dt).compOf 31).en = false ∧ Pf.compCfg_EN.of (Pf.compCfg_EN.put 1) = 1) := by
  decide +kernel

/-- The clauses of EnablingWrites. -/
theorem witness_enabling_writes_2 :
    (let s := live.setComp 0 { en := true }
     Accepts (s.pass dt) (rq 0) (parWrite (Pid.compCfg 0) 0 0) ∧ ((s.pass dt).compOf 0).en = true ∧ Pf.compCfg_EN.of 0 = 0) := by
  decide +kernel

/-- The clauses of EnablingWrites. -/
theorem witness_enabling_writes_3 :
    Accepts (live.pass dt) (rq 0) (parWrite (Pid.genCfg 15) 0 (Pf.genCfg_EN.put 1)) ∧ ((live.pass dt).genOf 15).en = false := by
  decide +kernel

/-- The clauses of EnablingWrites. -/
theorem witness_enabling_writes_4 :
    Accepts (live.pass dt) (rq 0) (parWrite Pid.mxCfg 0 (live.parOf Pid.mxCfg 0 + Pf.mxCfg_EN.put 1)) ∧ (live.pass dt).pb Pf.mxCfg_EN = false := by
  decide +kernel

/-- The clauses of EnablingWrites. -/
theorem witness_enabling_writes_5 :
    Accepts ((live.setPf Pf.ethCfg_EN 1 0 0).pass dt) (rq 0) (parWrite (Pid.ethCable 1) 0 1) ∧ (live.pass dt).pd 5 = true := by
  decide +kernel

/-- The clauses of EnablingWrites. -/
theorem witness_enabling_writes_6 :
    Accepts (live.pass dt) (rq 0) (parWrite Pid.nsCfg 0 (live.parOf Pid.nsCfg 0 + Pf.nsCfg_EN.put 1)) ∧ (live.pass dt).agr.st = .disabled := by
  decide +kernel

/-- The clauses of EnablingWrites. -/
theorem witness_enabling_writes_7 :
    (let s : State := { live with agr := { live.agr with st := .normal } }
     Accepts (s.pass dt) (rq 0) (parWrite Pid.nsCfg 0 (live.parOf Pid.nsCfg 0)) ∧ (s.pass dt).agr.st ≠ .committing) := by
  decide +kernel

/-- The clauses of EnablingWrites. -/
theorem witness_enabling_writes_8 :
    Accepts (live.pass dt) (rq 0) (parWrite (Pid.appCfg 3) 0 (live.parOf (Pid.appCfg 3) 0 + Pf.appCfg_RUN.put 1)) ∧ (live.pass dt).pb Pf.appCfg_RUN 3 = false := by
  decide +kernel

/-- The clauses of EnablingWrites. -/
theorem witness_enabling_writes_9 :
    (let s : State := { live with fw := { live.fw with trial := 2, slots := #v[{ st := .trial }, {}] } }
     Accepts (s.pass dt) (rq 0) (parWrite Pid.fwConfirm 0 1)) := by
  decide +kernel

/-- The reservation of an empty frame is 0, so the grant of ChainFrames covers it. -/
theorem witness_matrix_need :
    ((live.setMx { granted := true, st := .grantWait, ps := 5 }).pass dt).mxNeed ≤ 5 := by
  simp [State.mxNeed, State.mxPs, live, State.setMx, State.pass, ratCeil]; decide +kernel

/-- The clauses of PowerStates. -/
theorem witness_power_states_1 :
    (let u := ({ live with pwr := { live.pwr with st := .hold } } : State).pass dt
     Takes u (rq 0) 0x68 0 (powerReqBytes 0 0) ∧ HasHandle u (rq 0) ∧ u.powerCheck (u.direct (rq 0) 0x68 0 (powerReqBytes 0 0)) 0 0 = none ∧ u.runMask.testBit 3 = true) := by
  decide +kernel

/-- The clauses of PowerStates. -/
theorem witness_power_states_2 :
    (let u := live.pass dt
     Takes u (rq 0) 0x68 0 (powerReqBytes 1 0) ∧ u.powerCheck (u.direct (rq 0) 0x68 0 (powerReqBytes 1 0)) 1 0 = none ∧ u.blocksEntry 1 = false ∧
      Takes u (rq 0) 0x68 0 (powerReqBytes 2 1) ∧ u.powerCheck (u.direct (rq 0) 0x68 0 (powerReqBytes 2 1)) 2 1 = none) := by
  decide +kernel

/-- The clauses of PowerStates. -/
theorem witness_power_states_3 :
    (let u := live.pass dt
     Takes u (rq 0) 0x68 0 (powerReqBytes 3 0) ∧ u.powerCheck (u.direct (rq 0) 0x68 0 (powerReqBytes 3 0)) 3 0 = none) ∧
    (let e : Entry := ⟨3, none, false, 1, 0, 0, false, false⟩
     let u := ({ live with pwr := { live.pwr with entry := some e } } : State).pass ⟨2, 0⟩
     u.pwr.entry = some e ∧ e.c + 1 < u.now ∧ u.offsDone { e with target := 1 } = true ∧ u.portClosed 0x40050000 = false ∧ u.offsDone e = true ∧ u.cancelHeld e = false ∧ u.fab.closed = 0 ∧ u.fw.armed = false) := by
  decide +kernel

/-- The clauses of Wakes. -/
theorem witness_wakes_1 :
    (let s : State := { live with pwr := { live.pwr with st := .park, pdOn := 1 } }
     let s := ((((s.setPf Pf.pwrParkArm_ARM 0 0 0xFFFF0FF).setPf Pf.pwrAlarm_AT 0 0 1).setPf Pf.ethCfg_EN 1 0 1).setPf Pf.speCfg_EN 1 0 1).setPf Pf.canCfg_EN 3 0 1
     let u := s.pass ⟨0, 1⟩
     u.pwr.st = .park ∧ u.pwr.entry = none ∧ u.lgd.freeze = false ∧ (∀ b : Fin 28, (u.armMask 2).testBit b = true ∨ (8 ≤ b.val ∧ b.val ≤ 11)) ∧
      (∀ n : Fin 8, u.selective n = false) ∧ u.pb Pf.ethCfg_EN 1 = true ∧ u.pb Pf.speCfg_EN 1 = true ∧ u.pf Pf.pwrAlarm_AT ≠ 0 ∧ u.pf Pf.pwrAlarm_AT = u.clk.aon) := by
  decide +kernel

/-- The clauses of Wakes. -/
theorem witness_wakes_2 :
    (let s : State := { live with pwr := { live.pwr with st := .park, pdOn := 1 }, agr := { live.agr with wufErr := #v[0, 0, 0, 31] } }
     let u := ((s.setPf Pf.pwrParkArm_ARM 0 0 0x800).setPf Pf.canCfg_EN 3 0 1).pass dt
     (u.armMask 2).testBit 11 = true ∧ (u.armMask 2).testBit 10 = false ∧ 32 ≤ (u.wufBad 3).agr.wufErr.toList.getD 3 0 ∧
      u.wufDecodes 3 = true ∧ u.wufMatch 3 ⟨0, false, false, 0, 0, 0, 0, 0, 0, []⟩ = true) := by
  decide +kernel

/-- The clauses of Wakes. -/
theorem witness_wakes_3 :
    (let e : Entry := ⟨2, none, false, 4, 0, 0, false, false⟩
     let s : State := { live with pwr := { live.pwr with entry := some e } }
     let u := (s.setPf Pf.pwrParkArm_ARM 0 0 1).pass dt
     u.pwr.entry = some e ∧ (u.armMask 2).testBit 0 = true ∧ u.pd 1 = true ∧ u.pd 3 = true) ∧
    (({ live with pwr := { live.pwr with pdOn := 1 } } : State).pass dt).pd 3 = false := by
  decide +kernel

/-- The clauses of Inputs. -/
theorem witness_inputs_1 :
    (let s := (live.setPf Pf.swCfg_EN 47 0 1).setPf Pf.swCfg_DEB 47 0 1
     let u := s.pass ⟨24000 + 200000 * s.pf Pf.svyRunPeriod_RPER, 0⟩
     u.pd 15 = true ∧ u.pd 3 = true ∧ u.svy.running = false ∧ u.pwr.st = .run ∧ u.now % (200000 * u.pf Pf.svyRunPeriod_RPER) = 24000 ∧ u.pb Pf.swCfg_EN 0 = false ∧
      u.pb Pf.swCfg_EN 47 = true ∧ u.mirrorsInput 47 = false ∧ (u.classify 47 0).isSome = true ∧ (u.classify 47 255).isSome = true ∧ u.classify 47 0 ≠ u.classify 47 255 ∧
      u.pf Pf.swCfg_DEB 47 ≤ (u.inputOf 47).cand + 1) := by
  decide +kernel

/-- The clauses of Inputs. -/
theorem witness_inputs_2 :
    (let s : State := { live with svy := { live.svy with running := true } }
     let u := s.pass dt
     u.svy.running = true ∧ u.pwr.st ≠ .off ∧ u.svy.next ≤ u.clk.aon ∧ (∀ j : Fin 48, u.svyMember j = false)) := by
  decide +kernel

/-- The clauses of Inputs. -/
theorem witness_inputs_3 :
    (let s : State := { live with svy := { live.svy with running := true } }
     let u := ((((s.setPf Pf.swCfg_EN 47 0 1).setPf Pf.swCfg_SVY 47 0 1).setPf Pf.swCfg_DEB 47 0 1).setPf Pf.swCfg_WAKE 47 0 0).pass dt
     (∀ j : Fin 48, u.svyMember j = true ↔ j = 47) ∧ u.classify 47 0 = some true ∧ true ≠ u.svy.stored.testBit 47 ∧ u.pf Pf.swCfg_WAKE 47 = 0 ∧
      u.pf Pf.swCfg_DEB 47 ≤ u.svy.cand.toList.getD 47 0 + 1) := by
  decide +kernel

/-- The clauses of Starts. -/
theorem witness_starts :
    (({ live with pwr := { live.pwr with st := .off } } : State).pass dt).pwr.st = .off ∧
    (let u := (cold 0).pass dt; u.pwr.st = .start ∧ u.boot.phase = 0 ∧ u.pwr.woke = none) ∧
    (let s : State := { cold 0 with pwr := { (cold 0).pwr with woke := some (0x2001, 0) } }
     (s.pass dt).pwr.woke = some (0x2001, 0) ∧ (s.pass dt).boot.phase = 0 ∧ (s.pass dt).pwr.st = .start) ∧
    (∀ n : Fin 10, ((cold n).pass dt).boot.phase = n ∧ ((cold n).pass dt).atlas.inbox = [] ∧ ((cold n).pass dt).pwr.st = .start ∧ ((cold n).pass dt).boot.restart = false ∧ ((cold n).pass dt).boot.resume = false) ∧
    (cold 2).clk.run = false ∧ (cold 2).boot.cold = true ∧ (cold 5).image.st ≠ .empty ∧ (cold 5).image.st ≠ .invalid ∧ (cold 5).fw.rollback ≤ (cold 5).image.rollback ∧
    (({ cold 7 with boot := { (cold 7).boot with restart := true, resume := true } } : State).pass dt).boot.restart = true := by
  decide +kernel

/-- The clauses of Resets. -/
theorem witness_resets :
    (let u := ({ live with fw := { live.fw with resetAt := some 0 } } : State).pass ⟨20000000, 0⟩
     u.pd 3 = true ∧ u.pwr.entry = none ∧ (u.boot.faults.filter (fun k => decide (u.aonSince k < 327680))).length < 3 ∧ u.pd 1 = true ∧ 7 ≤ u.boot.phase ∧
      u.boot.phase ≤ 9 ∧ u.portClosed 0x40020000 = false ∧ u.boot.served + 20000000 ≤ u.now ∧ u.fw.resetAt ≠ none) ∧
    (let s : State := { live with boot := { live.boot with window := some (0, 656), storm := true }, load := { live.load with held := true } }
     let u := s.pass ⟨0, 327680⟩
     u.boot.window = some (0, 656) ∧ 656 ≤ u.aonSince 0 ∧ u.load.held = true ∧ u.dualFed 63 = false ∧ u.bridgeOdd 63 = false ∧ u.pf Pf.chCfg_ORPHAN 63 = 0 ∧
      u.boot.storm = true ∧ 327680 ≤ u.aonSince (u.boot.faults.getLast?.getD 0)) ∧
    (let s := live.modCore 72 (fun c => { c with st := .trapped })
     let u := s.pass dt
     coreOfNo 83 = some 72 ∧ isVb 72 = true ∧ (u.core 72).st = .trapped ∧ u.atlas.ready = true ∧ u.boot.seqTraps = [] ∧ u.coreSound 72 = true) ∧
    (let s := live.modCore 69 (fun c => { c with st := .trapped })
     let u := ({ s with boot := { s.boot with seqTraps := [(69, 0), (69, 1), (69, 2)] } } : State).pass dt
     coreOfNo 80 = some 69 ∧ (u.core 69).st = .trapped ∧ 3 ≤ (u.boot.seqTraps.filter (fun p => decide (p.1 = 69) && decide (u.now < p.2 + 2000000000))).length) := by
  decide +kernel

/-- The clauses of CanPorts. -/
theorem witness_can_ports_1 :
    (let s := ((live.setPf Pf.canCfg_NFILT 7 0 1).setPf Pf.appGrant_KIND 0 0 4).setPf Pf.appGrant_LAST 0 0 31
     let s := (s.setCan 7 { st := .active }).loadBytes (filterAddr 7 0) (leBytes 8 (1 + 8 + 3 * 16 + 100 <<< 35))
     let u := s.pass dt
     let f := dataFrame 100 false [1]
     u.pwr.entry = none ∧ (u.canPort 7).onBus = true ∧ f.fmt ≤ u.pf Pf.canCfg_FORMATS 7 ∧ f.data.length ≤ 2048 ∧ 0 < u.nfiltFor 7 0 ∧
      takesFrame (u.elementFor 7 0 9) f = true ∧ (u.elementFor 7 0 9).testBit 3 = true ∧ bitsOf (u.elementFor 7 0 9) 4 2 = 3 ∧ (u.granteeOf 4 (4 * 7 + 3)).isSome = true ∧
      (((u.canPort 7).queues.toList.getD 3 []).map RxRec.size).foldl (· + ·) 0 + (RxRec.mk 0 0 f).size ≤ 8192) := by
  decide +kernel

/-- The clauses of CanPorts. -/
theorem witness_can_ports_2 :
    (let u := (live.setCan 0 { st := .active }).pass dt
     u.pwr.entry = none ∧ (u.canPort 0).onBus = true ∧ u.nfiltFor 0 0 = 0 ∧ u.pb Pf.canCfg_NOMATCH 0 = false) := by
  decide +kernel

/-- The clauses of CanPorts. -/
theorem witness_can_ports_3 :
    (let f := dataFrame 100 false [1]
     let u := (live.setCan 7 { st := .active, tec := 255, tx := [⟨0, 1, 0, f⟩], tunDrop := 0x3FF }).pass dt
     let c := u.canPort 7
     c.offered = some 0 ∧ c.frameAt 0 = some f ∧ u.canSends 7 = true ∧ u.pb Pf.canCfg_DAR 7 = false ∧ c.onBus = true ∧ 255 < (c.tec : Int) + 1 ∧ (c.tec : Int) + 0 ≤ 255 ∧
      c.freeRun 1 = some 1 ∧ u.pd 5 = true ∧ f.fmt < 2 ∧ f.fmt ≤ u.pf Pf.canCfg_FORMATS 7 ∧ f.rtr = false ∧ f.data.length ≤ 64 ∧ c.st ≠ .off ∧ u.uplinkOpen = false ∧
      c.tunDrop ≤ 0x3FF) := by
  decide +kernel

/-- The clauses of CanPorts. -/
theorem witness_can_ports_4 :
    (let f := dataFrame 100 false [1]
     let u := ((live.setPf Pf.canCfg_DAR 0 0 1).setCan 0 { st := .active, tx := (List.range 32).map (fun i => ⟨i, 1, i, f⟩) }).pass dt
     (u.canPort 0).offered = some 0 ∧ u.canSends 0 = true ∧ u.pb Pf.canCfg_DAR 0 = true ∧ (u.canPort 0).freeRun 1 = none ∧ (u.canPort 0).st ≠ .off) := by
  decide +kernel

/-- The clauses of CanPorts. -/
theorem witness_can_ports_5 :
    (let u := (live.setCan 0 { st := .busOff }).pass dt; (u.canPort 0).st = .busOff ∧ u.pb Pf.canCfg_BOMANUAL 0 = false) ∧
    (let u := (live.setCan 0 { st := .integrating, tec := 127, recv := 127 }).pass dt; (u.canPort 0).st = .integrating ∧ (u.canPort 0).tec ≤ 127 ∧ (u.canPort 0).recv ≤ 127) ∧
    (let s := live.setCan 0 { queues := #v[List.replicate 11 ⟨0, 0, dataFrame 1 false []⟩, [], [], []] }
     let s : State := { s with atlas := { s.atlas with ses := s.atlas.ses.set 0 { isOpen := true } } }
     (s.pass dt).uplinkOpen = true ∧ ((s.pass dt).canPort 0).queues.toList.getD 0 [] ++ ((s.pass dt).linPort 0).tun ≠ []) := by
  decide +kernel

/-- The clauses of AppletRings: an empty ring, a full ring, an entry that the core may send and one that it may not. -/
theorem witness_applet_rings_1 :
    (let s := ((live.setPf Pf.appGrant_KIND 3 0 4).setPf Pf.appGrant_LAST 3 0 31).setPf Pf.appCfg_RUN 3 0 1
     let s := (s.setPf Pf.appRing_RXSIZE 3 0 1040).setCan 0 { queues := #v[[], [⟨0, 0, dataFrame 1 false [5]⟩], [], []] }
     let z := fun (h t : Nat) => (s.loadBytes (ownBase 4) (leBytes 4 h ++ leBytes 4 t ++ leBytes 8 0)).pass dt
     let r : RingRec := ⟨0, 1, ⟨0, 0, dataFrame 1 false [5]⟩⟩
     let e := ringEntry r.src r.queue r.body
     oldestRec ((z 16 16).ringHeads 3) = some r ∧ (z 16 16).pb Pf.appCfg_RUN 3 = true ∧ (z 16 16).pd 2 = true ∧ (z 16 16).pf Pf.appRing_RXSIZE 3 = 1040 ∧
      ringPos 1040 ((z 16 16).bytesAt (ownBase 4) 4) = true ∧ e.length ≤ 1040 - (z 16 16).bytesAt (ownBase 4) 4 ∧ 0 + e.length < 1040 - 16 ∧
      (z 976 16).bytesAt (ownBase 4) 4 = 976 ∧ ringPos 1040 976 = true ∧ e.length ≤ 1040 - 976 ∧ 1040 - 16 ≤ (976 + 1024 - 16) % 1024 + e.length ∧
      (z 1008 976).bytesAt (ownBase 4) 4 = 1008 ∧ ringPos 1040 1008 = true ∧ 1040 - 1008 < e.length ∧ (1008 + 1024 - 976) % 1024 + (1040 - 1008) + e.length < 1040 - 16) := by
  decide +kernel

/-- The clauses of AppletRings: an empty ring, a full ring, an entry that the core may send and one that it may not. -/
theorem witness_applet_rings_2 :
    (let s := ((live.setPf Pf.appGrant_KIND 0 0 4).setPf Pf.appGrant_LAST 0 0 0).setPf Pf.appCfg_RUN 0 0 1
     let s := (s.setPf Pf.appRing_TXSIZE 0 0 1040).setCan 0 { st := .active }
     let body := leBytes 8 0 ++ leBytes 4 1 ++ leBytes 1 0 ++ leBytes 1 0 ++ leBytes 2 1 ++ leBytes 8 0 ++ [5] ++ leBytes 31 0
     let z := fun (src : Nat) => (s.loadBytes (ownBase 1) (leBytes 4 80 ++ leBytes 4 16 ++ leBytes 8 0 ++ leBytes 1 src ++ leBytes 1 0 ++ leBytes 2 64 ++ leBytes 4 0 ++ body)).pass dt
     let u := z 0
     let b := ownBase 1
     u.pf Pf.appRing_TXSIZE 0 = 1040 ∧ u.pb Pf.appCfg_RUN 0 = true ∧ u.pd 2 = true ∧ u.bytesAt b 4 ≠ u.bytesAt (b + 4) 4 ∧ ringPos 1040 (u.bytesAt b 4) = true ∧
      ringPos 1040 (u.bytesAt (b + 4) 4) = true ∧ u.bytesAt (b + 16 + 2) 2 = 64 ∧ u.bytesAt (b + 16) 1 = 0 ∧ u.mayCan 0 0 = true ∧
      (let f := frameOf ((List.range 56).map (fun i => u.byteAt (b + 16 + 8 + i)))
       f.fmt ≤ 2 ∧ f.data.length = f.dlc ∧ (u.canQueue 0 f).isSome = true) ∧ (z 7).bytesAt (b + 16) 1 = 7 ∧ (z 7).mayCan 0 7 = false) := by
  decide +kernel

/-- The clauses of AppletRings: an empty ring, a full ring, an entry that the core may send and one that it may not. -/
theorem witness_applet_rings_3 :
    (let s := (((live.setPf Pf.appGrant_KIND 0 0 5).setPf Pf.appGrant_LAST 0 0 0).setPf Pf.appCfg_RUN 0 0 1).setPf Pf.linFrame_PUB 0 9 1
     let s := s.setPf Pf.appRing_TXSIZE 0 0 1040
     let body := leBytes 8 0 ++ leBytes 4 9 ++ leBytes 1 3 ++ leBytes 1 0 ++ leBytes 2 1 ++ leBytes 8 0 ++ [5] ++ leBytes 31 0
     let u := (s.loadBytes (ownBase 1) (leBytes 4 80 ++ leBytes 4 16 ++ leBytes 8 0 ++ leBytes 1 8 ++ leBytes 1 0 ++ leBytes 2 64 ++ leBytes 4 0 ++ body)).pass dt
     let b := ownBase 1
     let f := frameOf ((List.range 56).map (fun i => u.byteAt (b + 16 + 8 + i)))
     u.bytesAt (b + 16) 1 = 8 ∧ u.granted 0 5 0 = true ∧ f.fmt = 3 ∧ f.id = 9 ∧ f.data.length = f.dlc ∧ u.pd 6 = true ∧ u.pb Pf.linFrame_PUB 0 9 = true ∧ u.pb Pf.appCfg_RUN 0 = true) := by
  decide +kernel

/-- The clauses of LinPorts. -/
theorem witness_lin_ports_1 :
    (let s := ((((live.setPf Pf.linCfg_EN 7 0 1).setPf Pf.linCfg_ROLE 7 0 1).setPf Pf.linCfg_NSCHED 7 0 1).setPf Pf.linCfg_START 7 0 1).setPf Pf.linSched_ID 7 0 63
     let s := (s.setPf Pf.linFrame_EN 7 63 1).setPf Pf.linFrame_LEN 7 63 8
     let p := s.setPf Pf.linFrame_PUB 7 63 1
     let on := fun (x : State) => (x.setLin 7 { run := true }).pass dt
     (on p).linUp 7 = true ∧ ((on p).linPort 7).run = true ∧ (on p).pf Pf.linCfg_NSCHED 7 ≠ 0 ∧ ((on p).linPort 7).next = (on p).now ∧ ((on p).linPort 7).coll = none ∧
      (on p).pf Pf.linSched_TYPE 7 0 = 0 ∧ (on p).pf Pf.linSched_ID 7 0 = 63 ∧ (on p).pb Pf.linFrame_EN 7 63 = true ∧ (on p).pb Pf.linFrame_PUB 7 63 = true ∧
      (on p).pb Pf.linFrame_RERREN 7 63 = false ∧ (on p).linLen 7 63 ≤ 8 ∧ (on s).pb Pf.linFrame_PUB 7 63 = false ∧
      (on (s.setPf Pf.linSched_TYPE 7 0 3)).pf Pf.linSched_TYPE 7 0 = 3) := by
  decide +kernel

/-- The clauses of LinPorts. -/
theorem witness_lin_ports_2 :
    (let s := ((live.setPf Pf.linCfg_EN 0 0 1).setPf Pf.linCfg_ROLE 0 0 1).setLin 0 { hdr := some ⟨1, 0, some 0⟩, restart := some 0 }
     let u := s.pass ⟨800000000, 0⟩
     (u.linPort 0).hdr = some ⟨1, 0, some 0⟩ ∧ u.pf Pf.linSched_TYPE 0 0 = 0 ∧ linLongest (u.pf Pf.linCfg_BAUD 0) (u.linLen 0 1) ≤ u.now ∧
      u.linUp 0 = true ∧ (u.linPort 0).lastAct + 800000000 ≤ u.now ∧ (u.linPort 0).restart = some 0) := by
  decide +kernel

/-- The clauses of LinPorts. -/
theorem witness_lin_ports_3 :
    (let u := (((live.setPf Pf.linCfg_EN 0 0 1).setPf Pf.linFrame_EN 0 0 1).setPf Pf.linFrame_PUB 0 63 1).setPf Pf.linFrame_EN 0 63 1 |>.pass dt
     let b := u.pf Pf.linCfg_BAUD 0
     u.linUp 0 = true ∧ u.pb Pf.linCfg_ROLE 0 = false ∧ b * 86 ≤ b * 100 ∧ b * 100 ≤ b * 114 ∧ 0 < b ∧ u.pb Pf.linFrame_EN 0 0 = true ∧ u.pb Pf.linFrame_PUB 0 0 = false ∧
      u.pb Pf.linFrame_PUB 0 63 = true ∧ u.pb Pf.linFrame_EN 0 63 = true ∧ u.pd 6 = true) := by
  decide +kernel

/-- The clauses of LinPorts. -/
theorem witness_lin_ports_4 :
    (let s := ((live.setPf Pf.linCfg_EN 0 0 1).setPf Pf.linCfg_ROLE 0 0 1).setLin 0 { hdr := some ⟨1, 0, some 0⟩ }
     let u := (((s.setPf Pf.linFrame_TUNNEL 0 1 1).setPf Pf.linFrame_RERREN 0 1 1).setPf Pf.appGrant_KIND 0 0 5).pass dt
     let u : State := { u with atlas := { u.atlas with ses := u.atlas.ses.set 0 { isOpen := true } } }
     u.linUp 0 = true ∧ u.pb Pf.linCfg_ROLE 0 = true ∧ u.now ≤ 0 + linLongest (u.pf Pf.linCfg_BAUD 0) (u.linLen 0 1) ∧ u.pb Pf.linFrame_TUNNEL 0 1 = true ∧
      u.uplinkOpen = true ∧ (s.pass dt).pb Pf.linFrame_TUNNEL 0 1 = false ∧ (u.granteeOf 5 0).isSome = true ∧ u.pb Pf.linFrame_RERREN 0 1 = true) := by
  decide +kernel

/-- The clauses of LinPorts. -/
theorem witness_lin_ports_5 :
    (let u := (((live.setPf Pf.linCfg_EN 0 0 1).setPf Pf.linCfg_ROLE 0 0 1).setPf Pf.linCfg_START 0 0 1).pass dt; u.linCommander 0 = true) := by
  decide +kernel

/-- The clauses of EthernetAndMeridian. -/
theorem witness_ethernet_and_meridian_1 :
    (let s := (live.setPf Pf.ethCfg_EN 1 0 1).setEth 1 { link := false }
     let u := s.pass dt
     u.pd 5 = true ∧ u.pb Pf.ethCfg_EN 1 = true ∧ (u.ethPort 1).link = false ∧ (u.ethPort 1).silent = false ∧ ((live.setEth 1 { cable := 4 }).pass dt |>.ethPort 1).cable = 4) ∧
    (let u := (((live.setPf Pf.speCfg_EN 1 0 1).setPf Pf.speCfg_PLCA 1 0 1).setPf Pf.speCfg_NODEID 1 0 1).pass dt
     u.pb Pf.speCfg_EN 1 = true ∧ u.pb Pf.speCfg_PLCA 1 = true ∧ u.pf Pf.speCfg_NODEID 1 ≠ 0 ∧ (u.spePort 1).csma = false) := by
  decide +kernel

/-- The clauses of EthernetAndMeridian. -/
theorem witness_ethernet_and_meridian_2 :
    (let s := ((((live.setEth 0 { link := true }).setEth 1 { link := true }).setPf Pf.swxVlan_VALID 0 63 1).setPf Pf.swxVlan_VID 0 63 7).setPf Pf.swxVlan_MEMBER 0 63 3
     let u := ((((s.setPf Pf.swxFdb_VALID 0 0 1).setPf Pf.swxFdb_MAC 0 0 9).setPf Pf.swxFdb_PORTS 0 0 2).setPf Pf.swxCfg_LEARN 0 0 0).pass dt
     let f : EthFrame := ⟨0, 9, 8, some 7, 0, 64, none⟩
     u.portUp 0 = true ∧ f.dst ≠ 0x0180C200000E ∧ u.endpointAnswer f = none ∧ u.vlanEntry 7 = some 63 ∧ (u.pf Pf.swxVlan_MEMBER 0 63).testBit 0 = true ∧ u.pb Pf.swxCfg_LEARN = false ∧
      u.destPorts 7 9 = some 2 ∧ 2 &&& u.pf Pf.swxVlan_MEMBER 0 63 = 1 <<< 1 ∧ u.portUp 1 = true ∧
      ((u.setPf Pf.swxCfg_LEARN 0 0 1).pass dt).pb Pf.swxCfg_LEARN = true ∧ u.net.learned.any (fun l => l.vlan = 7 && l.mac = 8) = false ∧
      (((u.setPf Pf.swxVlan_MEMBER 0 63 2).pass dt).pf Pf.swxVlan_MEMBER 0 63).testBit 0 = false ∧
      ((((u.setPf Pf.swxVlan_MEMBER 0 63 19).setPf Pf.swxCfg_EPVID 0 0 7).setPf Pf.swxIp_IP 0 0 3).endpointAnswer ⟨0, 0xFFFFFFFFFFFF, 8, some 7, 3, 64, some 3⟩).isSome = true) := by
  decide +kernel

/-- The clauses of EthernetAndMeridian. -/
theorem witness_ethernet_and_meridian_3 :
    (let s := (live.setPf Pf.mrdCfg_EN 0 0 1).setEth 0 { link := true }
     let u := s.pass dt
     u.pd 6 = true ∧ u.pb Pf.mrdCfg_EN = true ∧ u.pf Pf.mrdCfg_SRC = (0 : Fin 2).val ∧ u.pd 5 = true ∧ (u.ethPort 0).link = true ∧
      u.now % msTk u.mrdPeriod = 0) ∧
    (let s : State := { live with net := { live.net with mrd := { traced := true } } }
     let u := s.pass ⟨msTk (s.pf Pf.mrdCfg_HOLD), 0⟩
     u.net.mrd.traced = true ∧ u.net.mrd.syncAt + msTk (u.pf Pf.mrdCfg_HOLD) ≤ u.now) ∧
    (let m : MrdBuf := ⟨dataFrame 1 false [1], false, 0⟩
     let u := (live.setCan 7 { st := .active, mrd := some m }).pass dt
     (u.canPort 7).mrd = some m ∧ m.fup = false ∧ (u.canPort 7).offered = some 32 ∧ u.canSends 7 = true) := by
  decide +kernel

/-- The clauses of SleepAgreement. -/
theorem witness_sleep_agreement_1 :
    (let z := fun (x : Agree) => (({ live with agr := { x with cfg := live.parOf Pid.nsCfg 0, ka := Pf.nsKa_CAN.put 128 + Pf.nsKa_ETH.put 1 } } : State).setCan 7 { st := .active }).pass dt
     (z { st := .normal }).watched 7 = true ∧ (z { st := .normal }).pd 6 = true ∧ (z { st := .readySleep }).agr.st = .readySleep ∧ (z { st := .wakeCheck }).agr.st = .wakeCheck ∧
      (z { st := .normal }).localReq = false ∧
      (let w := (z { st := .normal, held := true }).setPf Pf.nsNeed_NEED 0 0 1
       w.localReq = true ∧ w.agr.held = true ∧ w.now % (Pf.nsCfg_KAPER.of w.agr.cfg * 2000000) = 0 ∧ (Pf.nsKa_CAN.of w.agr.ka).testBit 7 = true ∧ (w.canPort 7).st ≠ .off ∧
        (w.canPort 7).freeRun 1 = some 0 ∧ (w.setPf Pf.swxIp_IP 0 0 9).watched 16 = true ∧ w.pd 5 = true)) := by
  decide +kernel

/-- The clauses of SleepAgreement. -/
theorem witness_sleep_agreement_2 :
    (let s : State := { live with agr := { st := .normal, cfg := live.parOf Pid.nsCfg 0 } }
     let u := s.pass ⟨s.agrTmo + 1, 0⟩; u.agr.start + u.agrTmo + 1 ≤ u.now ∧ u.localReq = false) ∧
    (let s : State := ({ live with agr := { st := .readySleep } } : State).setEth 1 { link := true }
     let u := s.pass ⟨300000001, 0⟩
     u.agr.linSlept = false ∧ u.agr.saved = false ∧ u.agr.start + 296000000 ≤ u.now ∧ u.agr.start + 299800000 ≤ u.now ∧ u.agr.start + 300000001 ≤ u.now ∧ u.pwr.entry = none ∧
      u.svy.running = false ∧ u.localReq = false ∧ u.commitBlock = none ∧ u.pd 5 = true ∧ u.pd 6 = true ∧ (u.ethPort 1).link = true ∧
      (u.setPf Pf.nsNeed_NEED 0 0 1).localReq = true ∧
      (let w := (s.setPf (if s.pf Pf.nsCfg_TARGET = 1 then Pf.pwrDormantArm_ARM else Pf.pwrParkArm_ARM) 0 0 0x1000100).setPf Pf.canCfg_XCVR 0 0 3
       (w.pass ⟨300000001, 0⟩).commitBlock = some 8 ∧ (w.pass ⟨300000001, 0⟩).localReq = false)) := by
  decide +kernel

/-- The clauses of SleepAgreement. -/
theorem witness_sleep_agreement_3 :
    (let s : State := ({ live with agr := { st := .wakeCheck, cfg := live.parOf Pid.nsCfg 0 } } : State).setEth 0 { link := true }
     let u := s.pass ⟨s.agrFwTmo + 1, 0⟩
     u.agr.start + u.agrFwTmo + 1 ≤ u.now ∧ u.pwr.entry = none ∧ u.localReq = false ∧ u.commitBlock = none ∧ u.pd 5 = true ∧ (u.ethPort 0).link = true) ∧
    (let u := ((live.setEth 0 { tc10 := some 0 }).setEth 1 { tc10 := some 0 }).pass ⟨3200000, 0⟩
     (u.ethPort 0).tc10.isSome = true ∧ (u.ethPort 1).tc10 = some 0 ∧ 0 + 3200000 ≤ u.now) ∧
    (let s : State := { live with agr := { st := .normal, hold := some 0, cfg := live.parOf Pid.nsCfg 0 } }
     let u := s.pass ⟨msTk (10 * Pf.nsCfg_WAKEHOLD.of s.agr.cfg), 0⟩; u.agr.hold = some 0 ∧ 0 + msTk (10 * Pf.nsCfg_WAKEHOLD.of u.agr.cfg) ≤ u.now) := by
  decide +kernel

/-- The clauses of SleepAgreement. -/
theorem witness_sleep_agreement_4 :
    (let r : WmRun := ⟨19, 63, 0, 0, 0, 0, false⟩
     let s : State := { live with agr := { st := .normal, runs := [r], cfg := live.parOf Pid.nsCfg 0 } }
     let u := s.pass ⟨secTk 60 * s.pf Pf.nsCfg_WMLIMIT, 0⟩
     u.wmRun 19 63 = some r ∧ u.localReq = false ∧ u.pf Pf.nsCfg_WMLIMIT ≤ u.wmMinutes r ∧ u.agrTmo < u.now - r.last ∧
      (let r := { r with logged := true }
       let s : State := { s with agr := { s.agr with runs := [r] } }
       let w := s.wmWrite 15 r true
       (w.pass dt).wmRun 19 63 = some r ∧ (w.pass dt).wmSlot 19 63 = some 15)) := by
  decide +kernel

/-- The clauses of Access. -/
theorem witness_access_1 :
    (let s := live.setPf Pf.accCfg_EN 0 0 1
     let u := (s.pass dt).accDue
     let ok := fun (u : State) (c : AccessCmd) (cmd : Nat) (data : List Byte) (count : Nat) => decide (Takes u (rq 0) 0x28 0 (accPayloadIn cmd c data) ∧ HasHandle u (rq 0) ∧
       u.accCheck (u.direct (rq 0) 0x28 0 (accPayloadIn cmd c data)) cmd c count = none)
     u.acc.job = none ∧ u.acc.queue = [] ∧ ok u ⟨0xFF, 0, 60000⟩ 1 [] 0 = true ∧ ok u ⟨15, 1, 0⟩ 2 [] 0 = true ∧ ok u ⟨0, 0, 0⟩ 3 (leBytes 2 0 ++ leBytes 1 8 ++ leBytes 1 0) 8 = true ∧
      ok u ⟨15, 0, 0⟩ 0x10 (leBytes 4 7 ++ leBytes 16 9) 0 = true) := by
  decide +kernel

/-- The clauses of Access. -/
theorem witness_access_2 :
    (let s := (live.setPf Pf.accCfg_EN 0 0 1).setPf Pf.lfCfg_EN 7 0 1
     let s := s.modTok 15 (fun t => { t with enrolled := true })
     let u := (s.pass dt).accDue
     let ok := fun (u : State) (c : AccessCmd) (cmd : Nat) (q : Rq) => decide (Takes u q 0x28 0 (accPayloadIn cmd c []) ∧ HasHandle u q ∧
       u.accCheck (u.direct q 0x28 0 (accPayloadIn cmd c [])) cmd c 0 = none)
     ok u ⟨0xFF, 0, 0⟩ 0x20 (rq 0) = true ∧ (u.calNext 0).isSome = true ∧ ((live.pass dt).calNext 0) = none ∧ ok u ⟨15, 0, 0⟩ 0x11 (rq 0) = true ∧ u.round = none ∧
      ok (((live.setPf Pf.atlasBenchMode_MODE 0 0 2).pass dt)) ⟨0xFF, 0, 0⟩ 0x21 (rq 2) = true ∧
      (let j : AccJob := ⟨⟨1, 0, 1, 0xFF, 0, none, 0, 0, 0, 0⟩, 0, none, none, 0, none⟩
       let w := ((s.modAcc (fun a => { a with job := some j })).pass dt).accDue
       w.acc.job = some j ∧ w.acc.queue = [] ∧ ok w ⟨0xFF, 0, 0⟩ 1 (rq 0) = true ∧ ok w ⟨0xFF, 0, 0⟩ 0x20 (rq 0) = true)) := by
  decide +kernel

/-- The clauses of Access. -/
theorem witness_access_3 :
    (let c : AccCmd := ⟨1, 0, 0x20, 0xFF, 0, some 5, 0, 0, 0, 0⟩
     let s := (live.setPf Pf.lfCfg_EN 0 0 1).setPf Pf.lfCfg_EN 7 0 1
     let u := (s.modAcc (fun a => { a with job := some ⟨c, 0, none, some (0, 63, 0, 0, 0), 0, none⟩ })).pass ⟨100000, 0⟩
     0 + 100000 ≤ u.now ∧ (u.calNext (0 + 1)).isSome = true ∧ u.calNext (7 + 1) = none ∧ decide (u.mem.wf) = true ∧ u.mem.chk = [] ∧ u.par.stored = [] ∧
      u.par.work.Pairwise (fun a b => a.1 < b.1) ∧
      (let w := ((s.modAcc (fun a => { a with queue := [c] })).pass ⟨5, 0⟩).accDue; w.acc.job = none ∧ w.acc.queue = [c] ∧ 5 ≤ w.now) ∧
      (let w := ((s.modAcc (fun a => { a with job := some ⟨c, 0, none, none, 0, none⟩ })).pass ⟨5, 0⟩).accDue; w.acc.job.isSome = true ∧ w.slotEdge 5 ≤ w.now) ∧
      (let w := ((s.modAcc (fun a => { a with job := some ⟨c, 0, some ⟨0, 0, 128, 0, 0, 0, [], 0, [], [], false, [], [], [], 0, []⟩, none, 0, none⟩ })).pass ⟨5, 0⟩).accDue
       w.acc.job.isSome = true ∧ w.now < w.slotEdge 5)) ∧
    (let c : AccCmd := ⟨1, 0, 1, 15, 128, none, 0, 0, 0, 0⟩
     let j : AccJob := ⟨c, 0, none, none, 0, none⟩
     let s := (live.setPf Pf.lfCfg_EN 7 0 1).modFe 3 (fun f => { f with link := true })
     let u := ((s.modAcc (fun a => { a with job := some j })).pass dt).accDue
     u.acc.job = some j ∧ (bitList 8 (u.roundMask c)).any u.usable = true ∧ (u.feRec 3).link = true ∧
      (bitList 8 ((live.pass dt).roundMask c)).any (((live.setPf Pf.lfCfg_EN 7 0 0).pass dt)).usable = false) := by
  decide +kernel

/-- The clauses of Access. -/
theorem witness_access_4 :
    (let lf := (List.range 8).map (fun k => (live.setPf Pf.lfCfg_EN 7 0 1).parOf (Pid.lfCfg k) 0)
     let r : Round := ⟨0, 0, 128, 0, 0, 0, lf, 128, [], [], false, [], [], [], 0, []⟩
     let j : AccJob := ⟨⟨1, 0, 1, 15, 128, none, 0, 0, 0, 0⟩, 1, some r, none, 0, none⟩
     let s := ((live.setPf Pf.lfCfg_EN 7 0 1).modAcc (fun a => { a with job := some j })).modLf 7 (fun a => { a with low := 1 })
     let u := (s.pass ⟨6553600 + 250000 * 7, 0⟩).accDue
     u.round = some r ∧ r.mask.testBit 7 = true ∧ Pf.lfCfg_EN.of (r.lfCfg 7) = 1 ∧ r.on 7 = true ∧ r.start + 6553600 + 250000 * 7 ≤ u.now ∧ (u.aerial 7).fault = 0 ∧
      2 * 0 < 50 * Pf.lfCfg_ILF.of (r.lfCfg 7) ∧ (u.aerial 7).low = 1 ∧
      (let s := s.modFe 3 (fun f => { f with link := true })
       let s := s.setPf Pf.feCfg_EN 3 0 1
       let w := (s.pass ⟨8753600 + 40000 * 32, 0⟩).accDue
       w.round = some r ∧ w.now = r.start + 8753600 + 40000 * (31 + 1) ∧ w.heardBy ⟨9, 5, [], 0, [(3, -200)]⟩ = [(3, -200)] ∧ w.heardBy ⟨9, 5, [], 0, [(0, -200)]⟩ = [])) := by
  decide +kernel

/-- The clauses of Access. -/
theorem witness_access_5 :
    (let x0 : Reply := ⟨9, 5, [], 0, []⟩
     let s := live.modTok 15 (fun t => { t with id := 9, enrolled := true, key := 77 })
     let x : Reply := { x0 with mac := beVal ((aes128 (beBytes 16 77) (beBytes 8 3 ++ beBytes 8 5)).take 8) }
     let z := fun (o : SlotObs) => ((s.modAcc (fun a => { a with job := some ⟨⟨1, 0, 1, 0xFF, 1, none, 0, 0, 0, 0⟩, 1,
       some ⟨0, 0, 1, 0, 3, 0, [], 1, [], [(31, o)], false, [], [], [], 0, []⟩, none, 0, none⟩ })).pass ⟨10133600, 0⟩).accDue
     slotIndex 0 31 = 15 ∧ slotIndex 0 0 = 0 ∧ (z .collided).now = 0 + 10133600 ∧ 1 ≤ (z .collided).pf Pf.accCfg_RETRIES ∧
      ((z (.reply x)).tokenRec 15).enrolled = true ∧ x.tid = ((z (.reply x)).tokenRec 15).id ∧ (z (.reply x)).macOk 15 3 x = true ∧ (z (.reply x)).macOk 15 3 { x with mac := x.mac + 1 } = false ∧
      (z (.reply x)).accFails < 4 ∧ 4 ≤ ((z .empty).modAcc (fun a => { a with fails := [0, 0, 0, 0] })).accFails) := by
  decide +kernel

/-- The clauses of Access. -/
theorem witness_access_6 :
    (let x : Reply := ⟨9, 5, [200, 0, 0, 0, 0, 0, 0, 0], 0, []⟩
     let e : AccExch := ⟨15, x, 0, 0, true, [], [], 0⟩
     let e2 : AccExch := ⟨1, x, 0, 0, false, [], [], 0⟩
     let r : Round := ⟨0, 0, 1, 0, 3, 0, [], 1, [], [], true, [e, e2], [], [], 0, []⟩
     let s := (live.setPf Pf.feCfg_EN 0 0 1).modFe 0 (fun f => { f with link := true })
     let u := ((s.modAcc (fun a => { a with job := some ⟨⟨1, 0, 1, 0xFF, 1, none, 0, 0, 0, 0⟩, 1, some r, none, 0, none⟩ })).pass ⟨200000, 0⟩).accDue
     let y : Ranging := ⟨0, 1000, 1500, 500, 400, 100, 100, true, true, 0⟩
     u.round = some r ∧ e.slot = (15 : Fin 16).val ∧ e.start + 200000 ≤ u.now ∧ u.pf Pf.accRadio_STSQ ≤ y.qResp ∧ u.feOn 0 = true ∧
      (match rangeMm y (u.pf Pf.feCfg_ADLY 0) with | some d => decide (-300 ≤ d) | none => false) = true ∧ e2.accepted = false) := by
  decide +kernel

/-- The clauses of Access. -/
theorem witness_access_7 :
    (let u := (live.modAcc (fun a => { a with lock := some (0, 10) })).pass ⟨0, 10⟩; u.acc.lock.isSome = true ∧ u.lockedOut = false) ∧
    (let u := ((live.setPf Pf.feCfg_EN 3 0 1).modFe 3 (fun f => { f with link := true })).pass dt; u.pd 7 = true ∧ u.pb Pf.feCfg_EN 3 = true ∧ (u.feRec 3).link = true) := by
  decide +kernel

/-- The clauses of Interlock. -/
theorem witness_interlock_1 :
    (let z := fun (x : Intlk) (d : Nat) => (({ live with il := x, twin := { live.twin with up := true } } : State).setPf Pf.chCfg_DUALFED 63 0 1).pass ⟨d, 0⟩
     (z { role := 1 } 0).pairEqual = true ∧ (z { role := 1 } 0).il.holdoff = none ∧ (z { role := 1 } 0).il.err.testBit 3 = false ∧ (z { role := 1 } 0).il.twinId = false ∧
      (z { role := 3 } 0).il.role = 3 ∧ (z { role := 3 } 0).il.ctrl.testBit 2 = false ∧ (z {} 0).dualFed 63 = true ∧ (z {} 0).lead 63 = 63 ∧
      (let w := z { role := 1, taken := true, line := true, twinId := true } 200000000; w.il.lineAt + msTk (w.pf Pf.twinPair_IDLECLAIM) ≤ w.now) ∧
      (let w := z { role := 2, claimAt := some 0, holdoff := some 0, ctrl := 5, twinId := true } 240000
       w.il.claimAt = some 0 ∧ w.il.swOver = none ∧ 0 + 200 ≤ w.now ∧ w.il.holdoff = some 0 ∧ w.twin.up = true ∧ w.il.ctrl.testBit 2 = true ∧ w.il.leaseAt + 240000 ≤ w.now) ∧
      (let w := z { role := 2, ctrl := 1, pRole := 3 } 200000
       w.il.ctrl.testBit 0 = true ∧ w.now % 200000 = 0 ∧ w.atlas.ready = true ∧ w.pd 3 = true ∧ w.portClosed 0x4004000C = false ∧ w.portClosed 0x40040004 = false ∧ w.portClosed 0x40040010 = false ∧ w.il.proofOn = false ∧ w.pairEqual = true ∧ w.il.pRole = 3 ∧ w.il.run = 0)) := by
  decide +kernel

/-- The clauses of Interlock. -/
theorem witness_interlock_2 :
    (let z := fun (x : Intlk) (d : Nat) => ({ live with il := x, twin := { live.twin with up := true } } : State).pass ⟨d, 0⟩
     (let w := z { role := 3, run := 2 } 240000; w.il.decided = none ∧ w.il.lastMis = none ∧ w.il.heardAt + 240000 ≤ w.now ∧ w.il.proofOn = false ∧ w.twin.up = true ∧ w.be ≠ w.be + 1) ∧
      (let w := z { role := 3, decided := some (0, 1), idleAt := some 0 } 240000; w.il.decided = some (0, 1) ∧ w.il.line = false ∧ w.il.blocked = false ∧ w.il.idleAt = some 0 ∧ 0 + 240000 ≤ w.now) ∧
      (let w := z { role := 3, proofOn := true, proofStep := 1, proofCnt := 0xFFFF } 0; w.pf Pf.twinPair_PROOFWIN ≤ w.il.proofCnt ∧ w.il.proofGap ≤ 40000 ∧ w.il.back = false) ∧
      (z { role := 4 } 0).il.role = 4 ∧ (z {} 0).il.ctrl = 0 ∧ (z {} 0).il.taken = false ∧ (z { role := 1, ctrl := 1 } 0).il.ctrl.testBit 0 = true ∧
      (z { swOver := some (0, none) } 2000).il.swOver = some (0, none) ∧ (z { swOver := some (0, none) } 2000).now = 0 + 2000) := by
  decide +kernel

/-- A running core of each type, with the most negative operand. -/
theorem witness_xitre_arithmetic :
    [CoreId.s, .a 3, .c 63, .vb 3].all (fun k =>
      let u := (live.modCore (coreIx k) (fun c => { c with st := .running, aluO := #v[0x80000000, 0x80000000], mulO := 0x80000000 })).pass dt
      let c := u.core (coreIx k)
      c.st = .running ∧ u.fenced (coreIx k) = false ∧ c.aluO.toList.getD 1 0 = (0x80000000 : Word).toNat ∧ c.mulO = (0x80000000 : Word).toNat) = true ∧
    coreIx (.a 3) < 5 ∧ (0xFFFFFFFF : Word) ≠ 0 := by
  decide +kernel

/-- The first and the last doubleword of the own memory of a core of each type, and the shared memory for S and for an application core that is granted its page. -/
theorem witness_xitre_memory_1 :
    [CoreId.s, .a 3, .c 63, .vb 3].all (fun k =>
      let i := coreIx k
      [ownBase i, ownBase i + ownSize i - 8].all (fun a =>
        let s := (live.modCore i (fun c => { c with st := .running })).loadBytes a (List.replicate 8 0x80)
        let u := s.pass dt
        (u.core i).st = .running ∧ u.fenced i = false ∧ (u.core i).ldWait = none ∧ (u.core i).exWait = false ∧ isOwn i a = true ∧
          synOf (u.synAt (a / 8 * 8)) = .clean ∧ a % 8 = 0 ∧ (BitVec.ofNat 32 a).toNat = a ∧ (u.core i).lsuD < 2 ^ 32 ∧ ((u.pendingReqs i).filter (·.write)).length < 8 ∧
          isOwn i (a + 1) = true ∧ (a + 1) % 4 ≠ 0 ∧ (a + 1) / 8 * 8 = a)) = true := by
  decide +kernel

/-- The first and the last doubleword of the own memory of a core of each type, and the shared memory for S and for an application core that is granted its page. -/
theorem witness_xitre_memory_2 :
    regionOf 0x107FFFFC = some 0 ∧ (live.pass dt).readyReqs false = [] ∧
    (let s := ((live.setPf Pf.appGrant_KIND 3 0 8).setPf Pf.appGrant_WR 3 0 1).setPf Pf.appGrant_LAST 3 0 0xFFFF
     (s.pass dt).sandboxOk 3 0x107FFFFC true = true ∧ (s.pass dt).sandboxOk 3 0x107FFFFC false = true) := by
  decide +kernel

/-- The clauses of XitreControl, for a core of each type. -/
theorem witness_xitre_control_1 :
    [CoreId.s, .a 3, .c 63, .vb 3].all (fun k =>
      let i := coreIx k
      let pc := if i = 0 then 0x2000FFFC else ownSize i - 4
      let at_ := if i = 0 then pc else ownBase i + pc
      let s := live.loadBytes (at_ / 8 * 8) (List.replicate 4 0 ++ leBytes 4 (0x80000000 + 7 * 2 ^ 20 + 2 ^ 18 + 5))
      let u := (s.modCore i (fun c => { c with st := .running, pc := pc, slots := 0, brT := 4 })).pass dt
      (u.core i).st = .running ∧ u.fenced i = false ∧ isOwn i at_ = true ∧ pc % 4 = 0 ∧ synOf (u.synAt (at_ / 8 * 8)) = .clean ∧
        moveOf (u.bytesAt at_ 4) = ⟨7, .imm 5 true, false, true⟩ ∧ (u.core i).late = [] ∧ (i < 5 → (u.dbgCore i).ctrl.testBit 0 = false) ∧ u.atBreak i = false ∧
        (u.core i).brT = (4 : Word).toNat ∧ 4 < ownSize i ∧ (u.core i).evMask < 128) = true := by
  decide +kernel

/-- The clauses of XitreControl, for a core of each type. -/
theorem witness_xitre_control_2 :
    postTo 0 83 = some 72 ∧ postTo 4 1 = some 1 ∧
    (let u := (live.modCore 72 (fun c => { c with st := .waiting, evPend := 0x41, evMask := 0x40, waitFor := some 5 })).pass ⟨5, 0⟩
     (u.core 72).st = .waiting ∧ (u.core 72).evPend &&& (u.core 72).evMask ≠ 0 ∧ 0 + 5 ≤ u.now ∧ (0x01 : Nat) &&& 0x40 = 0) ∧
    (let u := (live.modCore 0 (fun c => { c with st := .running, late := [(7, 12)] })).pass dt
     (u.core 0).late = (7, 12) :: [] ∧ (u.core 0).masked = false ∧ (u.core 0).eds = 0 ∧ (5 : Word).toNat % 256 ≠ 9) := by
  decide +kernel

/-- The clauses of XitreControl, for a core of each type. -/
theorem witness_xitre_control_3 :
    (let s := (live.setPf Pf.appCfg_WDOG 3 0 1).modCore 4 (fun c => { c with st := .running })
     let u := s.pass ⟨200000, 0⟩; u.pf Pf.appCfg_WDOG 3 ≠ 0 ∧ (u.core 4).st = .running ∧ (u.core 4).busyAt + msTk (u.pf Pf.appCfg_WDOG 3) ≤ u.now) ∧
    (let u := ((live.setPf Pf.appCfg_RUN 3 0 1).modApplet 3 (fun a => { a with restart := some 0 })).pass ⟨20000000, 0⟩
     (u.applet 3).restart = some 0 ∧ 0 + 20000000 ≤ u.now ∧ u.pb Pf.appCfg_RUN 3 = true ∧ u.pd 2 = true) ∧
    (live.pass dt).dbg.locked = true ∧ (live.pass dt).portClosed 0x40030100 = false ∧ (live.pass dt).pd 3 = true ∧
    (let s := (live.loadBytes 0x20000000 (leBytes 8 (0x80000000 + 7 * 2 ^ 20 + 2 ^ 18 + 5))).modCore 0 (fun c => { c with st := .halted, pc := 0x20000000 })
     let s := s.modDbgCore 0 (fun d => { d with ctrl := 8 })
     let s : State := { s with dbg := { s.dbg with locked := false } }
     let u := s.pass dt
     u.dbg.locked = false ∧ (u.core 0).st = .halted ∧ u.fenced 0 = false ∧ (u.core 0).late = [] ∧ (u.dbgCore 0).ctrl.testBit 3 = true ∧
      moveOf (u.bytesAt 0x20000000 4) = ⟨7, .imm 5 true, false, true⟩) := by
  decide +kernel

/-- A running core of each type, outside a delay slot and in one, with a target that it can run, one that is not a multiple of 4 and one past its own memory. -/
theorem witness_compare_and_branch :
    [CoreId.s, .a 3, .c 63, .vb 3].all (fun k => [0, 1].all (fun n => [0, 2, ownSize (coreIx k)].all (fun b =>
      let u := (live.modCore (coreIx k) (fun c => { c with st := .running, slots := n, brA := 5, brT := b })).pass dt
      let c := u.core (coreIx k)
      c.st = .running ∧ u.fenced (coreIx k) = false ∧ c.brA = (5 : Word).toNat ∧ c.brT = (BitVec.ofNat 32 b).toNat ∧ c.slots = n))) = true := by
  decide +kernel

/-- The clauses of XitreUnits. -/
theorem witness_xitre_units :
    [CoreId.s, .a 3, .c 63, .vb 3].all (fun k =>
      let u := (live.modCore (coreIx k) (fun c => { c with st := .running })).pass dt
      (u.core (coreIx k)).st = .running ∧ u.fenced (coreIx k) = false ∧ (u.core (coreIx k)).crcSel < 2 ∧ (u.dmaOf 31).st ≠ 1 ∧ (u.valve 15).st = .off) = true ∧
    (let u := (((live.setPf Pf.appGrant_KIND 3 0 6).setPf Pf.appGrant_LAST 3 0 31).modDma 31 (fun d => { d with st := 1 })).pass dt
     u.granted 3 6 31 = true ∧ (u.dmaOf 31).st = 1 ∧ u.fab.inflight = []) ∧
    (let a := 0x2000FFF0
     let s := (live.loadBytes a (List.replicate 16 0x80)).modCore 0 (fun c => { c with st := .running, shLen := 16, aesSrc := a })
     let u := s.pass dt
     u.pd 3 = true ∧ u.pd 1 = true ∧ u.fab.closed.testBit 1 = false ∧ u.fab.inflight = [] ∧ (u.core 0).shLen = 16 ∧ (u.core 0).aesSrc = a ∧ addrDomain 0xC0000000 = none ∧
      (List.range 16).all (fun b => isOwn 0 (a + b) = true ∧ synOf (u.synAt ((a + b) / 8 * 8)) = .clean) = true) := by
  decide +kernel

/-- The clauses of FirmwareImages. -/
theorem witness_firmware_images_1 :
    (let u := live.pass dt
     let p := fun (b : ImgBegin) => leBytes 1 b.target ++ leBytes 1 b.flags ++ leBytes 2 0 ++ leBytes 4 b.len ++ leBytes 4 b.token ++ leBytes 4 0
     Takes u (rq 2) 0x50 0 (p ⟨0, 0, 25165824, 7⟩) ∧ Takes u (rq 2) 0x50 0 (p ⟨5, 0, 30304, 7⟩) ∧ u.boot.recovery = false ∧ lengthOk (targetKind 0) 25165824 = true ∧
      lengthOk (targetKind 5) 30304 = true ∧ u.inTrial = false ∧ u.fw.armed = false ∧ u.imgPending = false ∧ u.pd 4 = true ∧ Takes u (rq 2) 0x50 0 (p ⟨1, 1, 30304, 7⟩)) := by
  decide +kernel

/-- The clauses of FirmwareImages. -/
theorem witness_firmware_images_2 :
    (let d : List Byte := List.replicate 1632 0xA5
     let b : ImgBlock := ⟨7, 28672, 1632, crc32c d, d⟩
     let x : Xfer := ⟨1, 30304, 7, [], 0⟩
     let z := fun (w : Fw) => ({ live with fw := w } : State).pass dt
     let u := z { xfer := some x }
     Takes u (rq 2) 0x51 0 (leBytes 4 b.token ++ leBytes 4 b.off ++ leBytes 4 b.len ++ leBytes 4 b.crc ++ b.data) ∧ b.off % 4096 = 0 ∧ b.off < x.len ∧ b.len = min 4096 (x.len - b.off) ∧
      65536 * x.erased < x.len ∧ (u.fw.queue.length < 16) ∧
      (let w := z { xfer := some { x with erased := 1 }, queue := [⟨28672, 5, d⟩] }; w.fw.queue = [⟨28672, 5, d⟩] ∧ 28672 / 65536 < 1)) := by
  decide +kernel

/-- The clauses of FirmwareImages. -/
theorem witness_firmware_images_3 :
    (let z := fun (w : Fw) => ({ live with fw := w } : State).pass dt
     let r : Fw := { slots := #v[{ st := .active }, { st := .received }] }
     let v : Fw := { slots := #v[{ st := .active }, { st := .verified }], apps := #v[{}, {}, {}, { st := .verified }], armed := true }
     Takes (z r) (rq 2) 0x52 0 (leBytes 1 0 ++ leBytes 3 0) ∧ HasHandle (z r) (rq 2) ∧ (z r).opPending 0x52 = false ∧ checkable ((z r).targetSt 0) = true ∧ (z r).pd 4 = true ∧
      Takes (z v) (rq 2) 0x53 0 (activateBytes 0 0) ∧ Takes (z v) (rq 2) 0x53 0 (activateBytes 0 1) ∧ Takes (z v) (rq 2) 0x53 0 (activateBytes 0 2) ∧
      Takes (z v) (rq 2) 0x53 0 (activateBytes 4 0) ∧ (z v).opPending 0x53 = false ∧ (z v).targetSt 0 = .verified ∧ (z v).inTrial = false ∧ (z v).targetSt 4 = .verified ∧
      (z v).pb Pf.appCfg_RUN (4 - 1) = false ∧ (z v).fw.armed = true) := by
  decide +kernel

/-- The clauses of FirmwareImages. -/
theorem witness_firmware_images_4 :
    (let z := fun (w : Fw) (d : Nat) => ({ live with fw := w } : State).pass ⟨d, 0⟩
     let t : Fw := { slots := #v[{ st := .previous }, { st := .trial, rollback := 3, revoke := 1 }], run := 1, trial := 2 }
     let n := secTk ((z t 0).pf Pf.fwCfg_CONFIRM_S)
     (z t n).inTrial = true ∧ (z t n).pf Pf.fwCfg_CONFIRM_S ≠ 0 ∧ n ≤ (z t n).readyFor ∧
      Takes (z { token := { st := .received } } 0) (rq 2) 0x5C 0 [] ∧ HasHandle (z {} 0) (rq 2) ∧ (z { token := { st := .received } } 0).opPending 0x5C = false ∧
      Takes (z {} 0) (rq 2) 0x5C 0 [] ∧ Takes (z {} 0) (rq 1) 0x58 0 (leBytes 4 0 ++ leBytes 32 9) ∧ (z {} 0).opPending 0x58 = false ∧
      Takes (z { report := some (1, []) } 0) (rq 1) 0x58 0 (leBytes 2 1 ++ leBytes 2 7 ++ leBytes 32 0) ∧ (z {} 0).atlas.handles = []) := by
  decide +kernel

/-- The clauses of FirmwareImages. -/
theorem witness_firmware_images_5 :
    (let s := (live.setPar 0x6007 0 1).loadBytes (appStore 0) (leBytes 4 0x474D494C ++ leBytes 2 1 ++ leBytes 1 1 ++ leBytes 1 0 ++ leBytes 4 0x34365A41 ++ leBytes 1 0x4D ++
       leBytes 1 0xA1 ++ leBytes 18 0 ++ leBytes 4 30304 ++ leBytes 15 0 ++ leBytes 1 1 ++ leBytes 12 0 ++ leBytes 4 128 ++ leBytes 4 4 ++ leBytes 4 0 ++ leBytes 4 0)
     let j : ImgJob := ⟨1, 1, .verify, false⟩
     let u := ({ s with fw := { s.fw with jobs := [j], shake := some 1 } } : State).pass dt
     u.fw.jobs = [j] ∧ j.writing = false ∧ j.op = .verify ∧ u.fw.shake = some 1 ∧ u.pd 4 = true ∧ u.imgCheck 1 true = none) ∧
    (let u := ({ live with fw := { jobs := [⟨1, 0, .now, true⟩], sign := some ⟨2, []⟩, shake := some 2 } } : State).pass dt
     u.fw.jobs = [⟨1, 0, .now, true⟩] ∧ u.fw.sign = some ⟨2, []⟩ ∧ u.fw.shake = some 2 ∧ u.pd 4 = true) := by
  decide +kernel

/-- The clauses of ReadOnlyAndWriteOnly: `atlas.be`, `survey.ack`, `fw.confirm` and the cable test of the last port. -/
theorem witness_read_only_and_write_only_1 :
    let u := live.pass dt
    1 ≤ (u.touch 0).be ∧ accOf 0 = some (.ro, 4, 2, false) ∧ Takes u (rq 0) 0x11 0 (entryBytes ⟨0, 0, 4, 2, 7⟩) ∧
    Takes u (rq 0) 0x13 0 (leBytes 2 1 ++ [entryBytes ⟨0, 0, 4, 2, 7⟩].flatten) := by
  decide +kernel

/-- The clauses of ReadOnlyAndWriteOnly: `atlas.be`, `survey.ack`, `fw.confirm` and the cable test of the last port. -/
theorem witness_read_only_and_write_only_2 :
    let u := live.pass dt
    accOf 0xA6 = some (.wo, 8, 8, false) ∧ accOf 0x6003 = some (.wo, 10, 4, false) ∧ accOf 0x3403 = some (.wo, 8, 8, true) ∧
    Takes u (rq 0) 0x10 0 (leBytes 2 0x6003 ++ leBytes 2 0) ∧ Takes u (rq 0) 0x10 0 (leBytes 2 0x3403 ++ leBytes 2 0) := by
  decide +kernel

/-- The first and the last composite, not enabled and enabled, with a valid option and without. -/
theorem witness_composite_exists :
    [64, 95].all (fun n => [false, true].all (fun en => [0, 1, 2].all (fun opt =>
      let c : UnitCmd := ⟨n, opt, 60000⟩
      let u := (live.setComp (n - 64) { en := en, members := [1, 2] }).pass dt
      (u.compOf (n - 64)).en = en ∧ u.parentOf n = none ∧ (u.leavesOf n).all (fun k => u.pd (10 + dieOf k) = true && !u.boot.stuck.contains (5 + k)) = true ∧
      u.mayUse (u.direct (rq 0) 0x20 0 (unitCmdPayload c 0)) 1 n = true ∧
      [0, 1, 2, 3, 4, 5, 6, 0x10].all (fun k => Takes u (rq 0) 0x20 0 (unitCmdPayload c k)) = true))) = true := by
  decide +kernel

/-- A session that holds 256 handles, and the requests of HandleLimit. -/
theorem witness_handle_limit_1 :
    (let s : State := { live with atlas := { live.atlas with handles := (List.range 256).map (fun i => hnd (i + 1) 0x20) } }
     let u := s.pass dt
     let v := u.touch 0
     (List.range 4).all (fun i => s.handleCount i ≤ 256) ∧ s.atlas.handles.all (fun h => h.ses < 4) ∧ u.handleCount 0 = 256 ∧
     v.opPending 0x15 = false ∧ Takes u (rq 0) 0x15 0 [] ∧ v.opPending 0x60 = false ∧ Takes u (rq 0) 0x60 0 (leBytes 2 1) ∧
     Takes u (rq 0) 0x5C 0 [] ∧ v.opPending 0x5C = false ∧ v.opPending 0x58 = false ∧ v.pd 4 = true ∧ v.fw.token.st ≠ .received ∧
     Takes u (rq 0) 0x58 0 (leBytes 4 0 ++ leBytes 32 7) ∧ Takes u (rq 0) 0x58 0 (leBytes 2 1 ++ leBytes 2 7 ++ leBytes 32 0)) := by
  decide +kernel

/-- A session that holds 256 handles, and the requests of HandleLimit. -/
theorem witness_handle_limit_2 :
    (let s : State := { live with atlas := { live.atlas with handles := (List.range 256).map (fun i => hnd (i + 1) 0x24) } }
     let u := s.pass dt
     let v := u.touch 0
     let c : UnitCmd := ⟨9, 0, 0⟩
     u.handleCount 0 = 256 ∧ v.chanCheck (u.direct (rq 0) 0x20 0 (unitCmdPayload c 1)) c 1 = none ∧ Takes u (rq 0) 0x20 0 (unitCmdPayload c 1) ∧
     v.valveCheck (u.direct (rq 0) 0x21 0 (leBytes 2 9 ++ leBytes 1 1 ++ leBytes 1 0 ++ leBytes 4 0)) c 1 = none ∧
     Takes u (rq 0) 0x21 0 (leBytes 2 9 ++ leBytes 1 1 ++ leBytes 1 0 ++ leBytes 4 0) ∧
     v.powerCheck (u.direct (rq 0) 0x68 0 (powerReqBytes 0 0)) 0 0 = none ∧ Takes u (rq 0) 0x68 0 (powerReqBytes 0 0)) := by
  decide +kernel

/-- A state with an empty queue. -/
theorem witness_step_takes_front :
    State.reset.pending = [] := by
  decide +kernel

/-- A move of each source kind at its bounds, and words with each reserved field. -/
theorem witness_move_words :
    Move.legal ⟨1023, .port 1023, false, true⟩ ∧ Move.legal ⟨0, .imm 0xFFFE0000 true, false, false⟩ ∧ Move.legal ⟨7, .imm 0xFFFFC000 false, false, true⟩ ∧
    (moveOf 0x8F0000F0).bad = false ∧ Nat.testBit 0x40000000 30 = true ∧ bitsOf 0x000C0000 18 2 = 3 ∧ bitsOf 0x400 10 8 ≠ 0 := by
  unfold Move.legal; decide +kernel

/-- A state in the canonical form with bytes, check bits and values listed, and a command to run. -/
theorem witness_canon_kept :
    (let s : State := { (filled.setPf Pf.appCfg_RUN 3 0 1).setPf Pf.appCfg_RUN 1 0 1 with pending := [.pllLock dt] }
     s.mem.wf ∧ s.mem.chk.Pairwise (fun a b => a.1 < b.1) ∧ s.par.work.Pairwise (fun a b => a.1 < b.1) ∧ s.par.stored.Pairwise (fun a b => a.1 < b.1) ∧
     (match step s with | .next _ => true | _ => false) = true) := by
  decide +kernel

/-- A command, a state and a part that it leaves as it was. -/
theorem witness_frames :
    (match exec (.pllLock dt) live with | .next _ => true | _ => false) = true ∧ Part.bytes ∈ allParts ∧ Part.bytes ∉ touches (.pllLock dt) := by
  decide +kernel

/-- A command that stores nothing. -/
theorem witness_queue_and_bytes :
    Part.bytes ∉ touches (.pllLock dt) := by
  decide +kernel

end Sys2Proof.Tests
end

section
/-!
PROOFS. What a step of the queue is: one equation for each form of the queue, and O54 from the two.
-/
namespace Sys2Proof.Machine

/-- An empty queue idles (entry 1). -/
theorem step_of_pending_nil {s : State} (h : s.pending = []) : step s = .next s := by
  simp only [step, h]

/-- A command at the front of the queue runs on the state with the rest of the queue. -/
theorem step_of_pending_cons {s : State} {c : Instr} {rest : List Instr} (h : s.pending = c :: rest) :
    step s = exec c { s with pending := rest } := by
  simp only [step, h]

/-- Settles O54, by the equation of `step` for each form of the queue. -/
theorem stepTakesFront : Obligations.StepTakesFront :=
  ⟨fun _ _ _ => step_of_pending_cons rfl, fun _ => step_of_pending_nil⟩

end Sys2Proof.Machine
end

section
/-!
PROOFS. What a command leaves as it was. For every command one lemma, in the order of the model's files: it answers a next state that differs
from the state after its time has passed in the parts of its list alone. Each follows the branches of the command's definition and cites, for
each operation there, the operation's lemma of OnlyA to OnlyD. O59 and O60 follow.
-/
namespace Sys2Proof.Machine

/-! ### Two updates of the state -/

/-- An update of the MEM block that leaves the bytes. -/
theorem Only.put_memc {l : List Part} {s t : State} {a : Mem} (h : Only l s t) (sub : [.memc] ⊆ l) (hc : a.cells = t.mem.cells)
    (hk : a.chk = t.mem.chk) (he : a.epoch = t.mem.epoch) : Only l s { t with mem := a } := by
  refine Only.upd h (fun p hp => ?_)
  cases p
  case memc => exact absurd (sub (by decide)) hp
  case bytes => exact ⟨hc, hk, he⟩
  case regs => exact Part.regs_of rfl
  case evs => exact Part.evs_of rfl
  all_goals rfl

/-- An update of the channels and the lights. -/
theorem Only.put_load_light {l : List Part} {s t : State} {a : Load} {b : Light} (h : Only l s t) (sub : [.load, .light] ⊆ l) :
    Only l s { t with load := a, light := b } :=
  Only.put_light (t := { t with load := a }) (Only.put_load h (List.Subset.trans (by decide) sub)) (List.Subset.trans (by decide) sub)

/-! ### Commands of one operation -/

/-- A trigger of a core may change every part but the queue. -/
theorem trigger_ends {u : State} {i p v : Nat} {short : Bool} : Ends (allBut []) u (.next (u.trigger i p v short)) :=
  .next (State.trigger_only (.refl ..) (by decide))

theorem paramWrite_ends {u : State} {q : Rq} {w : ParWrite} : Ends (allBut [.clk, .ctr, .lgd, .boot]) u (.next (u.paramWrite q w)) :=
  .next (State.paramWrite_only (.refl ..) (by decide))

theorem turnOn_ends {u : State} {q : Rq} {c : UnitCmd} {cmd : Nat} : Ends [.atlas, .load, .iso, .evs, .ctl] u (.next (u.turnOn q c cmd)) :=
  .next (State.turnOn_only (.refl ..) (by decide))

/-- An operation of the access system that waits in its queue. -/
theorem accCmd_ends {u : State} {q : Rq} {c : AccessCmd} {cmd tid keywrap first count : Nat} {data : List Byte} :
    Ends [.atlas, .acc, .evs, .ctl] u (.next (u.accCmd q cmd c data tid keywrap first count none)) :=
  .next (State.accCmd_only (.refl ..) (by decide) (fun _ h => nomatch h))

theorem imgActivate_ends {u : State} {q : Rq} {target mode : Nat} {data : List Byte} :
    Ends [.atlas, .evs, .fw, .ctl] u (.next (u.serve q 0x53 0 data (fun r s => s.imgActivate r target mode))) :=
  .next (State.serve_only (.refl ..) (by decide) (fun _ _ => State.imgActivate_only (.refl ..) (by decide)))

theorem wakeNow_ends {u : State} {code bit detail : Nat} :
    Ends (allBut [.clk, .par, .dbg, .load, .ctr, .memc, .dma, .ilr, .twin]) u (.next (u.wakeNow code bit detail)) :=
  .next (State.wakeNow_only (.refl ..) (by decide))

theorem paceWrite_ends {u : State} {ini : Initiator} {p off : Nat} {f : PaceRec → PaceRec} :
    Ends [.pace, .fab, .dbg, .regs] u (.next (u.paceWrite ini p off f)) :=
  .next (State.paceWrite_only (.refl ..) (by decide))

/-! ### Machine/Access.lean -/

theorem execLockoutEnd_ends {g : Lapse} {s : State} : Ends [.atlas, .acc, .evs, .ctl] (s.pass g) (execLockoutEnd g s) :=
  .next (.ite (State.endLock_only (.refl ..) (by decide)) (.refl ..))

theorem execFailWindowExpiry_ends {g : Lapse} {s : State} : Ends [.acc] (s.pass g) (execFailWindowExpiry g s) :=
  .next (State.modAcc_only (.refl ..) (by decide))

theorem execLockClear_ends {g : Lapse} {q : Rq} {c : AccessCmd} {s : State} : Ends [.atlas, .acc, .evs, .ctl] (s.pass g) (execLockClear g q c s) :=
  .next (State.accCmd_only (.refl ..) (by decide) (fun _ h _ => Option.some.inj h ▸
    .ite (State.endLock_only (State.modAcc_only (.refl ..) (by decide)) (by decide)) (State.modAcc_only (.refl ..) (by decide))))

theorem execCalibrateStep_ends {g : Lapse} {ma : Nat} {s : State} : Ends [.atlas, .par, .acc, .evs, .ctl] (s.pass g) (execCalibrateStep g ma s) := by
  unfold execCalibrateStep
  extract_lets
  refine .next ?_
  split
  · split
    · refine .ite (.refl ..) ?_
      extract_lets
      refine .ite (State.modAcc_only (.refl ..) (by decide)) ?_
      extract_lets
      split
      · exact State.modAcc_only (State.tuned_only (.refl ..) (by decide)) (by decide)
      · exact State.accEnd_only (State.tuned_only (.refl ..) (by decide)) (by decide)
    · exact .refl ..
  · exact .refl ..

theorem execRoundStart_ends {g : Lapse} {s : State} : Ends [.atlas, .acc, .evs, .ctl] (s.pass g) (execRoundStart g s) := by
  unfold execRoundStart
  extract_lets u
  have due : Only [.atlas, .acc, .evs, .ctl] (s.pass g) u := State.accDue_only (.refl ..) (by decide)
  refine .next ?_
  split
  · exact due
  · refine .ite due ?_
    refine .ite ?_ ?_
    · exact State.accEnd_only (State.dropEnrol_only due (by decide)) (by decide)
    · refine .ite ?_ ?_
      · exact State.accEnd_only (State.dropEnrol_only due (by decide)) (by decide)
      · refine State.modAcc_only ?_ (by decide)
        exact Only.fst (State.draw_only (Only.fst (State.draw_only due (by decide))) (by decide))

theorem execFieldBurst_ends {g : Lapse} {k : Fin 8} {ma : Nat} {s : State} :
    Ends [.atlas, .acc, .evs, .ctl] (s.pass g) (execFieldBurst g k ma s) := by
  unfold execFieldBurst
  extract_lets u
  have due : Only [.atlas, .acc, .evs, .ctl] (s.pass g) u := State.accDue_only (.refl ..) (by decide)
  refine .next ?_
  split
  · exact due
  · refine .ite due ?_
    refine State.aerialSeen_only ?_ (by decide)
    refine .ite ?_ (State.modRound_only due (by decide))
    exact State.modLf_only (State.modRound_only due (by decide)) (by decide)

theorem execLfShortTrip_ends {g : Lapse} {k : Fin 8} {s : State} : Ends [.atlas, .acc, .evs, .ctl] (s.pass g) (execLfShortTrip g k s) := by
  unfold execLfShortTrip
  extract_lets u
  have due : Only [.atlas, .acc, .evs, .ctl] (s.pass g) u := State.accDue_only (.refl ..) (by decide)
  refine .next ?_
  split
  · exact due
  · refine .ite due ?_
    refine .ite ?_ ?_
    · refine State.accEvent_only ?_ (by decide)
      exact State.modLf_only (State.modRound_only due (by decide)) (by decide)
    · exact State.modLf_only (State.modRound_only due (by decide)) (by decide)

theorem execResponseSlotEnd_ends {g : Lapse} {j : Fin 32} {o : SlotObs} {s : State} :
    Ends [.atlas, .acc, .evs, .ctl] (s.pass g) (execResponseSlotEnd g j o s) := by
  unfold execResponseSlotEnd
  extract_lets u
  have due : Only [.atlas, .acc, .evs, .ctl] (s.pass g) u := State.accDue_only (.refl ..) (by decide)
  refine .next ?_
  split
  · exact due
  · refine .ite due ?_
    split
    · refine State.modRound_only ?_ (by decide)
      exact Only.foldl due (fun _ _ => State.modFe_only (.refl ..) (by decide))
    · exact State.modRound_only due (by decide)

theorem execRevoke_ends {g : Lapse} {q : Rq} {c : AccessCmd} {s : State} : Ends [.atlas, .par, .acc, .evs, .ctl] (s.pass g) (execRevoke g q c s) :=
  .next (State.accCmd_only (.refl ..) (by decide) (fun _ h _ => Option.some.inj h ▸
    State.resumeExch_only (State.revoke_only (.refl ..) (by decide)) (by decide)))

theorem execReplyCheck_ends {g : Lapse} {s : State} : Ends [.atlas, .par, .acc, .evs, .ctl] (s.pass g) (execReplyCheck g s) := by
  unfold execReplyCheck
  extract_lets u
  have due : Only [.atlas, .par, .acc, .evs, .ctl] (s.pass g) u := State.accDue_only (.refl ..) (by decide)
  refine .next ?_
  split
  · exact due
  · split
    · exact due
    · refine .ite due ?_
      refine .ite ?_ ?_
      · exact Only.foldl (State.modAcc_only due (by decide)) (fun _ _ => State.accEvent_only (.refl ..) (by decide))
      · refine State.nextExch_only ?_ (by decide)
        exact Only.foldl (State.modRound_only due (by decide)) (fun _ _ => State.checkSlot_only (.refl ..) (by decide))

theorem execExchangeBlock_ends {g : Lapse} {slot : Fin 16} {x : ExchObs} {s : State} :
    Ends [.atlas, .par, .acc, .evs, .ctl] (s.pass g) (execExchangeBlock g slot x s) := by
  unfold execExchangeBlock
  extract_lets u
  have due : Only [.atlas, .par, .acc, .evs, .ctl] (s.pass g) u := State.accDue_only (.refl ..) (by decide)
  refine .next ?_
  split
  · exact due
  · split
    · exact due
    · split
      · exact due
      · refine .ite due ?_
        refine .ite (State.modRound_only due (by decide)) ?_
        refine .ite due ?_
        refine State.nextExch_only ?_ (by decide)
        exact State.accEvent_only (State.modRound_only due (by decide)) (by decide)

theorem execRangingResult_ends {g : Lapse} {slot : Fin 16} {r : Ranging} {s : State} :
    Ends [.atlas, .par, .acc, .evs, .ctl] (s.pass g) (execRangingResult g slot r s) := by
  unfold execRangingResult
  extract_lets u
  have due : Only [.atlas, .par, .acc, .evs, .ctl] (s.pass g) u := State.accDue_only (.refl ..) (by decide)
  refine .next ?_
  split
  · exact due
  · split
    · exact due
    · split
      · exact due
      · refine .ite due ?_
        refine State.nextExch_only ?_ (by decide)
        refine .ite ?_ ?_
        · refine State.modTok_only ?_ (by decide)
          refine State.modRound_only ?_ (by decide)
          exact .ite (State.modFe_only due (by decide)) due
        · refine State.accEvent_only ?_ (by decide)
          refine State.modRound_only ?_ (by decide)
          exact .ite (State.modFe_only due (by decide)) due

theorem execAccessDeadline_ends {g : Lapse} {s : State} : Ends [.atlas, .acc, .evs, .ctl] (s.pass g) (execAccessDeadline g s) :=
  .next (Only.foldl (State.accDue_only (.refl ..) (by decide)) (fun _ _ => State.accStopAt_only (.refl ..) (by decide)))

theorem execFeLinkUp_ends {g : Lapse} {f : Fin 4} {s : State} : Ends [.acc] (s.pass g) (execFeLinkUp g f s) :=
  .next (.ite (State.modFe_only (.refl ..) (by decide)) (.refl ..))

theorem execFeLinkDown_ends {g : Lapse} {f : Fin 4} {errs : Nat} {s : State} :
    Ends [.atlas, .acc, .evs, .ctl] (s.pass g) (execFeLinkDown g f errs s) :=
  .next (.ite (State.accEvent_only (State.modFe_only (.refl ..) (by decide)) (by decide)) (.refl ..))

/-! ### Machine/Channel.lean -/

theorem execChanOff_ends {g : Lapse} {q : Rq} {c : UnitCmd} {s : State} : Ends [.atlas, .load, .iso, .evs, .ctl] (s.pass g) (execChanOff g q c s) :=
  .next (State.chanCmd_only (.refl ..) (by decide) (fun _ => State.unitOff_only (.refl ..) (by decide)))

theorem execChanBrake_ends {g : Lapse} {q : Rq} {c : UnitCmd} {s : State} :
    Ends [.atlas, .load, .iso, .evs, .ctl] (s.pass g) (execChanBrake g q c s) :=
  .next (State.chanCmd_only (.refl ..) (by decide) (fun _ => State.settle_only (State.leafBrake_only (State.endPulse_only (.refl ..) (by decide))
    (by decide)) (by decide)))

theorem execChanClear_ends {g : Lapse} {q : Rq} {c : UnitCmd} {s : State} : Ends [.atlas, .load, .evs, .ctl] (s.pass g) (execChanClear g q c s) :=
  .next (State.chanCmd_only (.refl ..) (by decide) (fun _ => State.endCmd_only (State.unitClear_only (.refl ..) (by decide)) (by decide)))

theorem execCommandDeadline_ends {g : Lapse} {unit : Nat} {s : State} :
    Ends [.atlas, .load, .iso, .evs, .ctl] (s.pass g) (execCommandDeadline g unit s) := by
  unfold execCommandDeadline
  extract_lets
  split
  · exact .next (.refl ..)
  · split
    · exact .next (.refl ..)
    · exact .ite (.next (State.endCmd_only (State.abandonOn_only (.refl ..) (by decide)) (by decide))) (.next (.refl ..))

theorem execDeadTimeEnd_ends {g : Lapse} {n : Fin 64} {s : State} : Ends [.atlas, .load, .iso, .evs, .ctl] (s.pass g) (execDeadTimeEnd g n s) := by
  unfold execDeadTimeEnd
  extract_lets
  split
  · exact .next (.refl ..)
  · refine .ite (.next (.refl ..)) ?_
    split
    · exact .next (State.gateOn_only (.refl ..) (by decide))
    · exact .next (State.settle_only (State.modChan_only (.refl ..) (by decide)) (by decide))
    · exact .next (State.modChan_only (.refl ..) (by decide))
    · refine .next ?_
      exact .ite (State.requestFor_only (State.modChan_only (.refl ..) (by decide)) (by decide)) (State.modChan_only (.refl ..) (by decide))

theorem execInrushEnd_ends {g : Lapse} {n : Fin 64} {m : Meas} {s : State} :
    Ends [.atlas, .load, .iso, .evs, .ctl] (s.pass g) (execInrushEnd g n m s) :=
  .ite (.next (State.endInrush_only (.refl ..) (by decide))) (.next (.refl ..))

theorem execLimitUpdate_ends {g : Lapse} {n : Fin 64} {ma : Int} {s : State} : Ends [.load] (s.pass g) (execLimitUpdate g n ma s) := by
  refine .ite (.next (.refl ..)) ?_
  refine .ite (.next (State.setChan_only (.refl ..) (by decide))) ?_
  refine .ite (.next (.ite (.refl ..) (State.setChan_only (.refl ..) (by decide)))) ?_
  exact .ite (.next (State.setChan_only (.refl ..) (by decide))) (.next (State.setChan_only (.refl ..) (by decide)))

theorem execReversalBrakeEnd_ends {g : Lapse} {n : Fin 64} {s : State} : Ends [.load, .iso] (s.pass g) (execReversalBrakeEnd g n s) := by
  unfold execReversalBrakeEnd
  extract_lets
  split
  · exact .next (.refl ..)
  · refine .ite ?_ (.next (.refl ..))
    refine .next ?_
    exact .ite (State.requestFor_only (State.setChan_only (.refl ..) (by decide)) (by decide)) (State.setChan_only (.refl ..) (by decide))

theorem execFastTrip_ends {g : Lapse} {n : Fin 64} {m : Meas} {s : State} :
    Ends [.atlas, .load, .iso, .evs, .ctl] (s.pass g) (execFastTrip g n m s) :=
  .next (.ite (State.dieTrips_only (.refl ..) (by decide)) (.refl ..))

theorem execOvercurrent_ends {g : Lapse} {n : Fin 64} {m : Meas} {s : State} :
    Ends [.atlas, .load, .iso, .evs, .ctl] (s.pass g) (execOvercurrent g n m s) :=
  .next (.ite (State.dieTrips_only (.refl ..) (by decide)) (.refl ..))

theorem execStall_ends {g : Lapse} {n : Fin 64} {m : Meas} {s : State} : Ends [.atlas, .load, .iso, .evs, .ctl] (s.pass g) (execStall g n m s) :=
  .next (.ite (State.dieTrips_only (.refl ..) (by decide)) (.refl ..))

theorem execStallAllowanceEnd_ends {g : Lapse} {n : Fin 64} {m : Meas} {s : State} : Ends [.load] (s.pass g) (execStallAllowanceEnd g n m s) := by
  unfold execStallAllowanceEnd
  extract_lets
  split
  · exact .next (.refl ..)
  · exact .ite (.next (State.setChan_only (.refl ..) (by decide))) (.next (.refl ..))

theorem execI2tModelStep_ends {g : Lapse} {n : Fin 64} {samples : Vector Int 25} {s : State} :
    Ends [.atlas, .load, .iso, .evs, .ctl] (s.pass g) (execI2tModelStep g n samples s) :=
  .ite (.next (.refl ..)) (.ite (.next (State.dieTrips_only (State.setChan_only (.refl ..) (by decide)) (by decide))) (.next (State.setChan_only
    (.refl ..) (by decide))))

theorem execDeltaT_ends {g : Lapse} {n : Fin 64} {x : HotTrip} {s : State} : Ends [.atlas, .load, .iso, .evs, .ctl] (s.pass g) (execDeltaT g n x s) :=
  .next (.ite (State.dieTrips_only (.refl ..) (by decide)) (.refl ..))

theorem execTjShutdown_ends {g : Lapse} {n : Fin 64} {x : HotTrip} {s : State} :
    Ends [.atlas, .load, .iso, .evs, .ctl] (s.pass g) (execTjShutdown g n x s) :=
  .next (.ite (State.dieTrips_only (.refl ..) (by decide)) (.refl ..))

theorem execInrushTimeout_ends {g : Lapse} {n : Fin 64} {m : Meas} {s : State} :
    Ends [.atlas, .load, .iso, .evs, .ctl] (s.pass g) (execInrushTimeout g n m s) :=
  .ite (.next (State.dieTrips_only (.refl ..) (by decide))) (.next (.refl ..))

theorem execRetryConditionsMet_ends {g : Lapse} {n : Fin 64} {sens : List RetrySense} {s : State} :
    Ends [.load, .iso] (s.pass g) (execRetryConditionsMet g n sens s) :=
  .ite (.next (State.requestFor_only (State.modChan_only (.refl ..) (by decide)) (by decide))) (.next (.refl ..))

theorem execConfirmationWindowEnd_ends {g : Lapse} {n : Fin 64} {s : State} :
    Ends [.atlas, .load, .evs, .ctl] (s.pass g) (execConfirmationWindowEnd g n s) :=
  .ite (.next (State.confirm_only (.refl ..) (by decide))) (.next (.refl ..))

theorem execOffComplete_ends {g : Lapse} {n : Fin 64} {m : Meas} {s : State} :
    Ends [.atlas, .load, .evs, .ctl] (s.pass g) (execOffComplete g n m s) := by
  unfold execOffComplete
  extract_lets
  split
  · exact .next (.refl ..)
  · exact .ite (.next (State.settle_only (State.setChan_only (.refl ..) (by decide)) (by decide))) (.next (.refl ..))

theorem execReverseCurrent_ends {g : Lapse} {n : Fin 64} {m : Meas} {s : State} :
    Ends [.atlas, .load, .evs, .ctl] (s.pass g) (execReverseCurrent g n m s) :=
  .ite (.next (State.leafEvent_only (State.setChan_only (.refl ..) (by decide)) (by decide))) (.next (.refl ..))

theorem execReverseCurrentEnd_ends {g : Lapse} {n : Fin 64} {s : State} : Ends [.load] (s.pass g) (execReverseCurrentEnd g n s) :=
  .next (.ite (State.modChan_only (.refl ..) (by decide)) (.refl ..))

theorem execSagStart_ends {g : Lapse} {die : Fin 4} {s : State} : Ends [.load, .evs] (s.pass g) (execSagStart g die s) :=
  .ite (.next (.refl ..)) (.next (Only.foldl (State.setDie_only (.refl ..) (by decide)) (fun _ _ => State.modChan_only (State.dieEvent_only
    (.refl ..) (by decide)) (by decide))))

theorem execSagEnd_ends {g : Lapse} {die : Fin 4} {s : State} : Ends [.load] (s.pass g) (execSagEnd g die s) :=
  .ite (.next (.refl ..)) (.next (Only.foldl (State.setDie_only (.refl ..) (by decide)) (fun _ _ => State.modChan_only (.refl ..) (by decide))))

theorem execSagInrushTimeout_ends {g : Lapse} {n : Fin 64} {m : Meas} {s : State} :
    Ends [.atlas, .load, .iso, .evs, .ctl] (s.pass g) (execSagInrushTimeout g n m s) := by
  unfold execSagInrushTimeout
  extract_lets
  split
  · exact .next (.refl ..)
  · exact .ite (.next (State.dieTrips_only (.refl ..) (by decide))) (.next (.refl ..))

theorem execOffStateTestStart_ends {g : Lapse} {n : Fin 64} {s : State} : Ends [.load] (s.pass g) (execOffStateTestStart g n s) :=
  .ite (.next (State.setChan_only (.refl ..) (by decide))) (.next (.refl ..))

theorem execOffStatePullupOn_ends {g : Lapse} {n : Fin 64} {mv : Nat} {s : State} : Ends [.load] (s.pass g) (execOffStatePullupOn g n mv s) := by
  unfold execOffStatePullupOn
  extract_lets
  split
  · refine .ite ?_ (.next (.refl ..))
    refine .next ?_
    exact .ite (State.modChan_only (State.setChan_only (.refl ..) (by decide)) (by decide)) (State.setChan_only (.refl ..) (by decide))
  · exact .next (.refl ..)

theorem execOffStateTestEnd_ends {g : Lapse} {n : Fin 64} {mv : Nat} {s : State} :
    Ends [.atlas, .load, .evs, .ctl] (s.pass g) (execOffStateTestEnd g n mv s) := by
  unfold execOffStateTestEnd
  extract_lets
  split
  · exact .ite (.next (State.testResult_only (.refl ..) (by decide))) (.next (.refl ..))
  · exact .next (.refl ..)

/-! ### Machine/Pulse.lean -/

theorem execPeriodBoundary_ends {g : Lapse} {gen : Fin 16} {s : State} : Ends [.load, .iso] (s.pass g) (execPeriodBoundary g gen s) :=
  .ite (.next (State.beginPeriod_only (.refl ..) (by decide))) (.next (.refl ..))

theorem execPulseOnEdge_ends {g : Lapse} {gen : Fin 16} {unit : Nat} {s : State} : Ends [.load] (s.pass g) (execPulseOnEdge g gen unit s) := by
  unfold execPulseOnEdge
  extract_lets
  split
  · exact .next (.refl ..)
  · split
    · exact .next (.refl ..)
    · exact .ite (.next (State.unitOnEdge_only (State.modMem_only (.refl ..) (by decide)) (by decide))) (.next (.refl ..))

theorem execPulseOffEdge_ends {g : Lapse} {gen : Fin 16} {unit : Nat} {s : State} : Ends [.load] (s.pass g) (execPulseOffEdge g gen unit s) := by
  unfold execPulseOffEdge
  extract_lets
  split
  · exact .next (.refl ..)
  · split
    · exact .next (.refl ..)
    · exact .ite (.next (State.unitOffEdge_only (State.modMem_only (.refl ..) (by decide)) (by decide))) (.next (.refl ..))

theorem execChanPulse_ends {g : Lapse} {q : Rq} {c : UnitCmd} {s : State} :
    Ends [.atlas, .load, .iso, .evs, .ctl] (s.pass g) (execChanPulse g q c s) := by
  unfold execChanPulse
  refine .next ?_
  refine State.chanCmd_only (.refl ..) (by decide) (fun _ => ?_)
  split
  · exact .refl ..
  · refine State.afterOn_only ?_ (by decide)
    exact State.unitOn_only (State.lastCmd_only (.ite (.refl ..) (State.modMem_only (.refl ..) (by decide))) (by decide)) (by decide)

/-! ### Machine/Light.lean -/

theorem execLightFrame_ends {g : Lapse} {q : Rq} {f : LightFrame} {s : State} :
    Ends [.atlas, .iso, .light, .evs, .ctl] (s.pass g) (execLightFrame g q f s) := by
  unfold execLightFrame
  extract_lets
  refine .next ?_
  refine State.serve_only (.refl ..) (by decide) (fun _ _ => ?_)
  split
  · exact State.answer_only (.refl ..) (by decide)
  · refine State.answer_only ?_ (by decide)
    refine .ite ?_ (.ite (State.setMx_only (.refl ..) (by decide)) (State.setChain_only (.refl ..) (by decide)))
    exact State.commitLight_only (.ite (State.setMx_only (.refl ..) (by decide)) (State.setChain_only (.refl ..) (by decide))) (by decide)

theorem execChainFrameStart_ends {g : Lapse} {c : Fin 8} {s : State} : Ends [.light] (s.pass g) (execChainFrameStart g c s) :=
  .ite (.next (State.setChain_only (.refl ..) (by decide))) (.next (.refl ..))

theorem execChainFrameEnd_ends {g : Lapse} {c : Fin 8} {pulses : List (Nat × Nat)} {doFail : Bool} {s : State} :
    Ends [.atlas, .light, .evs, .ctl] (s.pass g) (execChainFrameEnd g c pulses doFail s) := by
  unfold execChainFrameEnd
  extract_lets u x v w
  have hv : Only [.atlas, .light, .evs, .ctl] u v := State.setChain_only (.refl ..) (by decide)
  have hw : Only [.atlas, .light, .evs, .ctl] u w := State.chainDo_only hv (by decide)
  split
  · exact .next (.refl ..)
  · extract_lets r y
    have hy : Only [.atlas, .light, .evs, .ctl] u y := by
      simp only [y]
      split
      · exact State.setChain_only hw (by decide)
      · exact hw
    exact .ite (.ite (.next hv) (.ite (.next (State.chainDiag_only hy (by decide))) (.next hw))) (.next (.refl ..))

theorem execMatrixFrameBoundary_ends {g : Lapse} {s : State} : Ends [.atlas, .iso, .light, .evs, .ctl] (s.pass g) (execMatrixFrameBoundary g s) := by
  refine .ite (.next (.refl ..)) ?_
  refine .ite ?_ ?_
  · refine .next ?_
    refine .ite (State.setMx_only (.ite (.refl ..) (State.mxDiag_only (.refl ..) (by decide))) (by decide)) ?_
    exact State.mxShow_only (State.setMx_only (.ite (.refl ..) (State.mxDiag_only (.refl ..) (by decide))) (by decide)) (by decide)
  · exact .ite (.next (State.mxShow_only (State.setMx_only (.refl ..) (by decide)) (by decide))) (.next (.refl ..))

theorem execRowSlotStart_ends {g : Lapse} {r : Fin 8} {s : State} : Ends [.light] (s.pass g) (execRowSlotStart g r s) :=
  .ite (.next (State.setMx_only (.refl ..) (by decide))) (.next (.refl ..))

theorem execColumnIntervalEnd_ends {g : Lapse} {r : Fin 8} {c : Fin 24} {high weak : Bool} {s : State} :
    Ends [.light] (s.pass g) (execColumnIntervalEnd g r c high weak s) :=
  .ite (.next (State.setMx_only (.refl ..) (by decide))) (.next (.refl ..))

theorem execRowTrip_ends {g : Lapse} {r : Fin 8} {s : State} : Ends [.atlas, .iso, .light, .evs, .ctl] (s.pass g) (execRowTrip g r s) := by
  unfold execRowTrip
  extract_lets
  split
  · refine .next (State.lightEvent_only ?_ (by decide))
    exact State.setMx_only (State.mxStop_only (.ite (State.mxConfirm_only (.refl ..) (by decide)) (.refl ..)) (by decide)) (by decide)
  · refine .next (State.lightEvent_only ?_ (by decide))
    exact State.setMx_only (State.mxStop_only (.ite (State.mxConfirm_only (.refl ..) (by decide)) (.refl ..)) (by decide)) (by decide)
  · exact .next (.ite (State.mxConfirm_only (.refl ..) (by decide)) (.refl ..))

theorem execMatrixRestart_ends {g : Lapse} {s : State} : Ends [.iso, .light] (s.pass g) (execMatrixRestart g s) :=
  .ite (.next (State.mxAsk_only (State.setMx_only (.refl ..) (by decide)) (by decide))) (.next (.refl ..))

theorem execMatrixConfirmEnd_ends {g : Lapse} {s : State} : Ends [.atlas, .light, .evs, .ctl] (s.pass g) (execMatrixConfirmEnd g s) :=
  .ite (.next (State.mxConfirm_only (.refl ..) (by decide))) (.next (.refl ..))

theorem execNtcConversion_ends {g : Lapse} {codes : List Nat} {s : State} :
    Ends [.atlas, .iso, .light, .evs, .ctl] (s.pass g) (execNtcConversion g codes s) :=
  .ite (.next (.refl ..)) (.next (State.ntcApply_only (Only.foldl (.refl ..) (fun _ _ => State.ntcConvert_only (.refl ..) (by decide))) (by decide)))

/-! ### Machine/Valve.lean -/

theorem execValveOff_ends {g : Lapse} {q : Rq} {c : UnitCmd} {s : State} : Ends [.atlas, .iso, .vlv, .evs, .ctl] (s.pass g) (execValveOff g q c s) :=
  .next (State.valveCmd_only (.refl ..) (by decide) (fun _ => .ite (State.valveEnd_only (.refl ..) (by decide))
    (State.modValve_only (State.valveOff_only (.refl ..) (by decide)) (by decide))))

theorem execValveAct_ends {g : Lapse} {q : Rq} {c : UnitCmd} {s : State} : Ends [.atlas, .iso, .vlv, .evs, .ctl] (s.pass g) (execValveAct g q c s) :=
  .next (State.valveCmd_only (.refl ..) (by decide) (fun _ => .ite (State.startAct_only (.refl ..) (by decide)) (.ite (State.valveEnd_only
    (.refl ..) (by decide)) (.refl ..))))

theorem execValveClear_ends {g : Lapse} {q : Rq} {c : UnitCmd} {s : State} : Ends [.atlas, .vlv, .evs, .ctl] (s.pass g) (execValveClear g q c s) :=
  .next (State.valveCmd_only (.refl ..) (by decide) (fun _ => State.valveEnd_only (State.modValve_only (.refl ..) (by decide)) (by decide)))

theorem execValveDeadline_ends {g : Lapse} {v : Fin 16} {s : State} : Ends [.atlas, .iso, .vlv, .evs, .ctl] (s.pass g) (execValveDeadline g v s) := by
  unfold execValveDeadline
  extract_lets
  split
  · exact .next (.refl ..)
  · split
    · exact .next (.refl ..)
    · exact .ite (.next (State.valveEnd_only (State.valveOff_only (.refl ..) (by decide)) (by decide))) (.next (.refl ..))

theorem execBoostEnd_ends {g : Lapse} {v : Fin 16} {i : Int} {s : State} : Ends [.atlas, .iso, .vlv, .evs, .ctl] (s.pass g) (execBoostEnd g v i s) :=
  .ite (.next (State.boostDone_only (.refl ..) (by decide))) (.next (.refl ..))

theorem execTpeakEnd_ends {g : Lapse} {v : Fin 16} {i : Int} {s : State} :
    Ends [.atlas, .iso, .vlv, .evs, .ctl] (s.pass g) (execTpeakEnd g v i s) := by
  unfold execTpeakEnd
  extract_lets u x v miss falls w y z
  refine .ite ?_ (.next (.refl ..))
  have hw : Only [.atlas, .iso, .vlv, .evs, .ctl] u w := State.setValve_only (State.addRel_only (.refl ..) (by decide)) (by decide)
  have hy : Only [.atlas, .iso, .vlv, .evs, .ctl] u y := .ite (State.startFall_only hw (by decide)) hw
  have hz : Only [.atlas, .iso, .vlv, .evs, .ctl] u z :=
    .ite (State.valveEvent_only (State.modValve_only hy (by decide)) (by decide)) hy
  exact .next (.ite hz (State.actEnd_only hz (by decide)))

theorem execTholdExpiry_ends {g : Lapse} {v : Fin 16} {s : State} : Ends [.atlas, .iso, .vlv, .evs, .ctl] (s.pass g) (execTholdExpiry g v s) :=
  .ite (.next (.ite (State.valveConfirm_only (State.valveDrop_only (.refl ..) (by decide)) (by decide)) (State.valveDrop_only (.refl ..)
    (by decide)))) (.next (.refl ..))

theorem execValveConfirmationEnd_ends {g : Lapse} {v : Fin 16} {s : State} :
    Ends [.atlas, .vlv, .evs, .ctl] (s.pass g) (execValveConfirmationEnd g v s) :=
  .ite (.next (State.valveConfirm_only (.refl ..) (by decide))) (.next (.refl ..))

theorem execChopCycleStart_ends {g : Lapse} {v : Fin 16} {i : Int} {s : State} : Ends [.vlv] (s.pass g) (execChopCycleStart g v i s) :=
  .ite (.next (State.setValve_only (.refl ..) (by decide))) (.next (.refl ..))

theorem execChopLevelReached_ends {g : Lapse} {v : Fin 16} {i : Int} {s : State} : Ends [.vlv] (s.pass g) (execChopLevelReached g v i s) :=
  .ite (.next (State.setValve_only (.refl ..) (by decide))) (.next (.refl ..))

theorem execCycleRecord_ends {g : Lapse} {v : Fin 16} {r : CycleRec} {s : State} :
    Ends [.atlas, .vlv, .evs, .ctl] (s.pass g) (execCycleRecord g v r s) := by
  unfold execCycleRecord
  extract_lets u x w us old y tc
  have hu : Only [.atlas, .vlv, .evs, .ctl] (s.pass g) u := State.raiseEv_only (.refl ..) (by decide)
  have set : ∀ y : Valve, Only [.atlas, .vlv, .evs, .ctl] (s.pass g) (u.setValve v y) := fun _ => State.setValve_only hu (by decide)
  refine .ite (.next hu) (.ite (.next (State.valveEvent_only (set _) (by decide))) (.ite (.next hu) ?_))
  clear_value old
  split
  · exact .next (set _)
  · exact .ite (.next (State.valveEvent_only (set _) (by decide))) (.next (set _))

theorem execValveTrip_ends {g : Lapse} {v : Fin 16} {t : ValveTrip} {s : State} :
    Ends [.atlas, .iso, .vlv, .evs, .ctl] (s.pass g) (execValveTrip g v t s) := by
  unfold execValveTrip
  extract_lets
  split
  · exact .next (State.valveTrip_only (.refl ..) (by decide))
  · exact .next (State.valveTrip_only (.refl ..) (by decide))
  · exact .next (Only.foldl (.refl ..) (fun _ _ => State.valveTrip_only (.refl ..) (by decide)))

theorem execOpenCoil_ends {g : Lapse} {v : Fin 16} {i : Int} {s : State} :
    Ends [.atlas, .iso, .vlv, .evs, .ctl] (s.pass g) (execOpenCoil g v i s) := by
  unfold execOpenCoil
  extract_lets
  split
  · exact .next (.refl ..)
  · exact .ite (.next (State.valveTrip_only (.refl ..) (by decide))) (.next (.refl ..))

theorem execValveRetryConditions_ends {g : Lapse} {v : Fin 16} {tclamp : Int} {s : State} :
    Ends [.iso, .vlv] (s.pass g) (execValveRetryConditions g v tclamp s) :=
  .ite (.next (State.askValve_only (State.setValve_only (.refl ..) (by decide)) (by decide))) (.next (.refl ..))

theorem execBankFeedLost_ends {g : Lapse} {b : Fin 4} {s : State} : Ends [.atlas, .iso, .vlv, .evs, .ctl] (s.pass g) (execBankFeedLost g b s) :=
  .next (.ite (.refl ..) (State.bankLost_only (.refl ..) (by decide)))

theorem execValveOffComplete_ends {g : Lapse} {v : Fin 16} {i : Int} {s : State} :
    Ends [.atlas, .vlv, .evs, .ctl] (s.pass g) (execValveOffComplete g v i s) := by
  unfold execValveOffComplete
  extract_lets
  split
  · exact .next (.refl ..)
  · exact .ite (.next (State.valveEnd_only (.refl ..) (by decide))) (.next (.refl ..))

theorem execRailAvailable_ends {g : Lapse} {vrail : Nat} {s : State} : Ends [.vlv] (s.pass g) (execRailAvailable g vrail s) :=
  .ite (.next (Only.put_vlv (.refl ..) (by decide))) (.next (.refl ..))

theorem execRailFault_ends {g : Lapse} {vrail : Nat} {s : State} : Ends [.atlas, .vlv, .evs, .ctl] (s.pass g) (execRailFault g vrail s) :=
  .ite (.next (State.emit_only (Only.put_vlv (.refl ..) (by decide)) (by decide))) (.next (.refl ..))

theorem execRailLow_ends {g : Lapse} {vrail : Nat} {s : State} : Ends [.atlas, .iso, .vlv, .evs, .ctl] (s.pass g) (execRailLow g vrail s) := by
  refine .next ?_
  exact Only.foldl (Only.put_vlv (.refl ..) (by decide)) (fun _ _ => State.valveEvent_only (State.boostDone_only (State.modValve_only (.refl ..)
    (by decide)) (by decide)) (by decide))

/-! ### Machine/Isotherm.lean -/

theorem execArbiterPass_ends {g : Lapse} {s : State} : Ends [.atlas, .load, .iso, .vlv, .light, .evs, .ilr, .ctl] (s.pass g) (execArbiterPass g s) :=
  .next (State.arbiterPass_only (.refl ..) (by decide))

theorem execBlockTimeout_ends {g : Lapse} {num : Fin 113} {s : State} : Ends [.atlas, .iso, .evs, .ctl] (s.pass g) (execBlockTimeout g num s) :=
  .next (Only.foldl (.refl ..) (fun _ _ => State.startBlock_only (.refl ..) (by decide)))

theorem execModelStep_ends {g : Lapse} {tcase : List Int} {steps : List StepIn} {s : State} :
    Ends [.atlas, .load, .iso, .evs, .ctl] (s.pass g) (execModelStep g tcase steps s) := by
  unfold execModelStep
  extract_lets u old v w e
  refine .ite (.next (.refl ..)) ?_
  have hw : Only [.atlas, .load, .iso, .evs, .ctl] u w :=
    Only.foldl (Only.foldl (.refl ..) (fun _ _ => State.setDie_only (.refl ..) (by decide))) (fun _ _ => State.chanStep_only (.refl ..) (by decide))
  exact .ite (.next hw) (.next (State.checkOver_only (Only.put_iso hw (by decide)) (by decide)))

theorem execTrueUp_ends {g : Lapse} {ms : List TrueUpIn} {s : State} : Ends [.atlas, .load, .iso, .evs, .ctl] (s.pass g) (execTrueUp g ms s) := by
  unfold execTrueUp
  extract_lets u v w x
  refine .ite (.next (.refl ..)) ?_
  have hw : Only [.atlas, .load, .iso, .evs, .ctl] u w :=
    Only.foldl (Only.foldl (.refl ..) (fun _ _ => State.learnAt_only (.refl ..) (by decide))) (fun _ _ => State.trueUnit_only (.refl ..) (by decide))
  have hx : Only [.atlas, .load, .iso, .evs, .ctl] u x :=
    Only.foldl hw (fun _ _ => .ite (State.checkOver_only (Only.put_iso (.refl ..) (by decide)) (by decide)) (.refl ..))
  exact .next (Only.foldl hx (fun _ _ => State.modChan_only (.refl ..) (by decide)))

theorem execDivergenceCheck_ends {g : Lapse} {sensors : List (Nat × Int)} {s : State} :
    Ends [.atlas, .load, .evs, .ctl] (s.pass g) (execDivergenceCheck g sensors s) :=
  .ite (.next (.refl ..)) (.next (Only.foldl (.refl ..) (fun _ _ => .ite (State.diverge_only (.refl ..) (by decide)) (.refl ..))))

/-! ### Machine/Contour.lean -/

theorem execContourWindowEnd_ends {g : Lapse} {ws : List StreamWin} {s : State} : Ends [.load, .ctr] (s.pass g) (execContourWindowEnd g ws s) := by
  refine .ite (.next (.refl ..)) ?_
  refine .next (.ite ?_ (Only.put_ctr (.refl ..) (by decide)))
  exact Only.foldl (Only.put_ctr (.refl ..) (by decide)) (fun _ _ => .ite (.refl ..) (State.modChan_only (.refl ..) (by decide)))

theorem execContourDatagramSend_ends {g : Lapse} {s : State} : Ends [.ctr] (s.pass g) (execContourDatagramSend g s) := by
  unfold execContourDatagramSend
  extract_lets
  split
  · exact .next (.refl ..)
  · exact .ite (.next (.refl ..)) (.ite (.next (Only.put_ctr (.refl ..) (by decide))) (.next (Only.put_ctr (.refl ..) (by decide))))

/-! ### Machine/Interlock.lean -/

theorem execIntlkLineChange_ends {g : Lapse} {high : Bool} {s : State} :
    Ends [.atlas, .par, .load, .iso, .evs, .ilr, .ctl] (s.pass g) (execIntlkLineChange g high s) :=
  .next (State.lineActs_only (.ite (State.modIl_only (State.modIl_only (.refl ..) (by decide)) (by decide)) (State.modIl_only (.refl ..)
    (by decide))) (by decide))

theorem execIdleClaimTimer_ends {g : Lapse} {s : State} : Ends [.atlas, .par, .load, .evs, .ilr, .ctl] (s.pass g) (execIdleClaimTimer g s) :=
  .ite (.next (State.claim_only (.refl ..) (by decide))) (.next (.refl ..))

theorem execClaimCheck_ends {g : Lapse} {low : Bool} {s : State} :
    Ends [.atlas, .load, .iso, .evs, .ilr, .ctl] (s.pass g) (execClaimCheck g low s) := by
  unfold execClaimCheck
  extract_lets
  split
  · exact .next (.refl ..)
  · refine .ite ?_ ?_
    · refine .next (.ite ?_ (State.modIl_only (.refl ..) (by decide)))
      exact State.settleOver_only (State.recordGap_only (State.modIl_only (.refl ..) (by decide)) (by decide)) (by decide)
    · refine .ite ?_ (.next (.refl ..))
      refine .next ?_
      exact State.pairEvent_only (State.pairErr_only (State.letGo_only (.refl ..) (by decide)) (by decide)) (by decide)

theorem execHoldoffEnd_ends {g : Lapse} {s : State} : Ends [.atlas, .par, .load, .iso, .evs, .ilr, .ctl] (s.pass g) (execHoldoffEnd g s) := by
  unfold execHoldoffEnd
  extract_lets
  split
  · exact .next (.refl ..)
  · exact .ite (.next (State.lineActs_only (State.modIl_only (.refl ..) (by decide)) (by decide))) (.next (.refl ..))

theorem execPairStateReport_ends {g : Lapse} {p : PairPeer} {s : State} :
    Ends [.atlas, .load, .iso, .evs, .ilr, .ctl] (s.pass g) (execPairStateReport g p s) := by
  unfold execPairStateReport
  extract_lets u v w x z y
  refine .ite (.next (.refl ..)) ?_
  have hw : Only [.atlas, .load, .iso, .evs, .ilr, .ctl] u w :=
    .ite (State.pairEvent_only (State.pairErr_only (State.modIl_only (.refl ..) (by decide)) (by decide)) (by decide)) (State.modIl_only (.refl ..)
      (by decide))
  have hx : Only [.atlas, .load, .iso, .evs, .ilr, .ctl] u x := by
    simp only [x]
    split
    · exact hw
    · split
      · exact .ite (State.settleOver_only (State.modIl_only hw (by decide)) (by decide)) hw
      · exact State.modIl_only hw (by decide)
  have hz : Only [.atlas, .load, .iso, .evs, .ilr, .ctl] u z := State.pairEvent_only (State.pairErr_only hx (by decide)) (by decide)
  have hy : Only [.atlas, .load, .iso, .evs, .ilr, .ctl] u y := .ite (.ite (State.release_only hz (by decide)) hz) hx
  exact .next (State.modIl_only hy (by decide))

theorem execStuckLow_ends {g : Lapse} {s : State} : Ends [.atlas, .evs, .ilr, .ctl] (s.pass g) (execStuckLow g s) := by
  unfold execStuckLow
  extract_lets
  split
  · exact .next (.refl ..)
  · refine .ite ?_ (.next (.refl ..))
    refine .next ?_
    exact State.pairEvent_only (State.pairErr_only (State.modIl_only (.refl ..) (by decide)) (by decide)) (by decide)

theorem execIntlkRelease_ends {g : Lapse} {cause : Nat} {s : State} :
    Ends [.atlas, .load, .iso, .evs, .ilr, .ctl] (s.pass g) (execIntlkRelease g cause s) :=
  .next (.ite (State.release_only (.refl ..) (by decide)) (.refl ..))

theorem execLeaseExpiry_ends {g : Lapse} {s : State} : Ends [.atlas, .load, .iso, .evs, .ilr, .ctl] (s.pass g) (execLeaseExpiry g s) :=
  .next (.ite (State.release_only (.refl ..) (by decide)) (.refl ..))

theorem execForwardedCommand_ends {g : Lapse} {f : FwdCmd} {s : State} : Ends [.iso, .ilr, .ctl] (s.pass g) (execForwardedCommand g f s) := by
  unfold execForwardedCommand
  extract_lets
  refine .ite (.next (.refl ..)) ?_
  split
  · refine .ite (.next (State.standing_only (State.modIl_only (.refl ..) (by decide)) (by decide))) ?_
    refine .next (.ite ?_ (State.withdraw_only (State.modIl_only (.refl ..) (by decide)) (by decide)))
    exact State.withdraw_only (State.releaseCh_only (State.modIl_only (.refl ..) (by decide)) (by decide)) (by decide)
  · refine .next ?_
    exact .ite (State.standing_only (State.modIl_only (.refl ..) (by decide)) (by decide)) (State.modIl_only (.refl ..) (by decide))
  · exact .next (State.modIl_only (.refl ..) (by decide))

theorem execPairReport_ends {g : Lapse} {s : State} : Ends [.atlas, .load, .iso, .evs, .ilr, .ctl] (s.pass g) (execPairReport g s) := by
  refine .ite (.next (.refl ..)) ?_
  refine .next (.ite ?_ (State.sendCtlMsg_only (State.modIl_only (.refl ..) (by decide)) (by decide)))
  refine State.release_only ?_ (by decide)
  exact State.modIl_only (State.sendCtlMsg_only (State.modIl_only (.refl ..) (by decide)) (by decide)) (by decide)

theorem execReportCompare_ends {g : Lapse} {r : PairReport} {s : State} :
    Ends [.atlas, .inp, .evs, .ilr, .ctl] (s.pass g) (execReportCompare g r s) := by
  refine .ite (.next (.refl ..)) ?_
  refine .ite (.next (State.takeInputs_only (State.modIl_only (.refl ..) (by decide)) (by decide))) ?_
  refine .ite ?_ ?_
  · refine .next (State.modIl_only ?_ (by decide))
    exact State.modIl_only (State.takeInputs_only (State.modIl_only (.refl ..) (by decide)) (by decide)) (by decide)
  · refine .next (.ite ?_ ?_)
    · refine State.misDecide_only ?_ (by decide)
      refine State.pairEvent_only ?_ (by decide)
      refine State.modIl_only ?_ (by decide)
      exact State.modIl_only (State.takeInputs_only (State.modIl_only (.refl ..) (by decide)) (by decide)) (by decide)
    · refine State.pairEvent_only ?_ (by decide)
      refine State.modIl_only ?_ (by decide)
      exact State.modIl_only (State.takeInputs_only (State.modIl_only (.refl ..) (by decide)) (by decide)) (by decide)

theorem execMissingReport_ends {g : Lapse} {s : State} : Ends [.ilr, .ctl] (s.pass g) (execMissingReport g s) :=
  .ite (.next (State.decideOver_only (.refl ..) (by decide))) (.next (.refl ..))

theorem execTakeoverBlocked_ends {g : Lapse} {s : State} : Ends [.atlas, .evs, .ilr, .ctl] (s.pass g) (execTakeoverBlocked g s) := by
  unfold execTakeoverBlocked
  extract_lets
  split
  · exact .next (.refl ..)
  · refine .ite ?_ (.next (.refl ..))
    refine .next ?_
    exact State.pairEvent_only (State.pairErr_only (State.modIl_only (.refl ..) (by decide)) (by decide)) (by decide)

theorem execSwitchOverCauseTimeout_ends {g : Lapse} {s : State} : Ends [.atlas, .evs, .ilr, .ctl] (s.pass g) (execSwitchOverCauseTimeout g s) := by
  unfold execSwitchOverCauseTimeout
  extract_lets
  split
  · exact .ite (.next (State.settleOver_only (State.modIl_only (.refl ..) (by decide)) (by decide))) (.next (.refl ..))
  · exact .next (.refl ..)

theorem execProofStart_ends {g : Lapse} {ini : Initiator} {v : Nat} {s : State} :
    Ends [.fab, .dbg, .regs, .ilr, .ctl] (s.pass g) (execProofStart g ini v s) :=
  .next (State.hostWrite_only (.refl ..) (by decide) (fun _ => State.proofWrite_only (.refl ..) (by decide)))

theorem execProofEnd_ends {g : Lapse} {s : State} : Ends [.atlas, .evs, .ilr, .ctl] (s.pass g) (execProofEnd g s) := by
  refine .ite (.next (.refl ..)) ?_
  refine .ite ?_ ?_
  · exact .ite (.next (State.proofResult_only (State.modIl_only (.refl ..) (by decide)) (by decide))) (.next (.refl ..))
  · refine .ite (.next (State.proofResult_only (.refl ..) (by decide))) ?_
    refine .ite ?_ (.next (.refl ..))
    refine .ite (.next (State.decideOver_only (State.modIl_only (.refl ..) (by decide)) (by decide))) ?_
    exact .next (State.proofResult_only (.refl ..) (by decide))

theorem execEditionReport_ends {g : Lapse} {be mask : Nat} {s : State} : Ends [.atlas, .evs, .ilr, .ctl] (s.pass g) (execEditionReport g be mask s) :=
  .ite (.next (.refl ..)) (.next (State.watchOrStandby_only (State.modIl_only (.refl ..) (by decide)) (by decide)))

theorem execIntlkCtrlWrite_ends {g : Lapse} {ini : Initiator} {v : Nat} {s : State} :
    Ends [.fab, .atlas, .par, .dbg, .load, .iso, .regs, .evs, .ilr, .ctl] (s.pass g) (execIntlkCtrlWrite g ini v s) :=
  .next (State.hostWrite_only (.refl ..) (by decide) (fun _ => State.setCtrl_only (.refl ..) (by decide)))

theorem execIntlkErrClear_ends {g : Lapse} {ini : Initiator} {mask : Nat} {s : State} :
    Ends [.fab, .dbg, .regs, .ilr, .ctl] (s.pass g) (execIntlkErrClear g ini mask s) :=
  .next (State.hostWrite_only (.refl ..) (by decide) (fun _ => State.ilErrClear_only (.refl ..) (by decide)))

/-! ### Machine/FeedMon.lean -/

theorem execFeedLost_ends {g : Lapse} {feed : Feed} {volt : Nat} {s : State} :
    Ends [.atlas, .load, .iso, .pwr, .evs, .ilr, .ctl] (s.pass g) (execFeedLost g feed volt s) :=
  .next (.ite (State.loseFeed_only (.refl ..) (by decide)) (.refl ..))

theorem execOvervoltage_ends {g : Lapse} {feed : Feed} {volt : Nat} {s : State} :
    Ends [.atlas, .load, .iso, .vlv, .pwr, .evs, .ilr, .ctl] (s.pass g) (execOvervoltage g feed volt s) :=
  .ite (.next (Only.foldl (State.loseFeed_only (.refl ..) (by decide)) (fun _ _ => State.bankLost_only (.refl ..) (by decide)))) (.next (.refl ..))

theorem execFeedRestored_ends {g : Lapse} {feed : Feed} {volt : Nat} {s : State} :
    Ends [.atlas, .load, .iso, .pwr, .evs, .ctl] (s.pass g) (execFeedRestored g feed volt s) :=
  .ite (.next (Only.foldl (State.setFeed_only (.refl ..) (by decide)) (fun _ _ => .ite (State.chanRestored_only (.refl ..) (by decide))
    (.refl ..)))) (.next (.refl ..))

theorem execFeedLostAbandon_ends {g : Lapse} {n : Fin 64} {s : State} :
    Ends [.atlas, .load, .iso, .evs, .ctl] (s.pass g) (execFeedLostAbandon g n s) := by
  unfold execFeedLostAbandon
  extract_lets
  split
  · exact .next (.refl ..)
  · exact .ite (.next (State.abandonLost_only (.refl ..) (by decide))) (.next (.refl ..))

/-! ### Machine/Mem.lean -/

theorem execScrubRead_ends {g : Lapse} {s : State} : Ends [.atlas, .evs, .bytes, .memc, .ctl] (s.pass g) (execScrubRead g s) := by
  unfold execScrubRead
  extract_lets u
  refine .next (.ite (.refl ..) ?_)
  split
  · exact .refl ..
  · extract_lets a v m w
    refine .ite (.refl ..) ?_
    have hw : Only [.atlas, .evs, .bytes, .memc, .ctl] u w :=
      Only.put_memc (Only.fst (State.readDw_only (.refl ..) (by decide))) (by decide) rfl rfl rfl
    split
    · exact Only.put_memc hw (by decide) rfl rfl rfl
    · exact Only.put_memc (State.lapEnd_only hw (by decide)) (by decide) rfl rfl rfl

theorem execMemFlipArm_ends {g : Lapse} {ini : Initiator} {v : Nat} {s : State} :
    Ends [.fab, .dbg, .regs, .memc] (s.pass g) (execMemFlipArm g ini v s) :=
  .next (State.superWrite_only (.refl ..) (by decide) (fun _ => .ite
    (Only.put_memc (State.setFlip_only (.refl ..) (by decide)) (by decide) rfl rfl rfl) (State.setFlip_only (.refl ..) (by decide))))

theorem execMemFlipDoneClear_ends {g : Lapse} {ini : Initiator} {s : State} :
    Ends [.fab, .dbg, .regs, .memc] (s.pass g) (execMemFlipDoneClear g ini s) :=
  .next (State.superWrite_only (.refl ..) (by decide) (fun _ => Only.put_memc (.refl ..) (by decide) rfl rfl rfl))

theorem execMemClrRecord_ends {g : Lapse} {ini : Initiator} {s : State} : Ends [.fab, .dbg, .regs, .memc] (s.pass g) (execMemClrRecord g ini s) :=
  .next (State.superWrite_only (.refl ..) (by decide) (fun _ => Only.put_memc (.refl ..) (by decide) rfl rfl rfl))

theorem execMemClrCounts_ends {g : Lapse} {ini : Initiator} {s : State} : Ends [.fab, .dbg, .regs, .memc] (s.pass g) (execMemClrCounts g ini s) :=
  .next (State.superWrite_only (.refl ..) (by decide) (fun _ => State.clearMemCounts_only (.refl ..) (by decide)))

/-! ### Machine/Can.lean -/

theorem execCanFrameReceived_ends {g : Lapse} {n : Fin 8} {f : CanFrame} {x : CanTimes} {s : State} :
    Ends [.atlas, .pwr, .net, .agr, .evs, .ctl] (s.pass g) (execCanFrameReceived g n f x s) := by
  unfold execCanFrameReceived
  extract_lets u q v
  have hu : Only [.atlas, .pwr, .net, .agr, .evs, .ctl] (s.pass g) u := State.entryTraffic_only (State.wufSeen_only (.refl ..) (by decide))
    (by decide)
  refine .next (.ite hu ?_)
  have hv : Only [.atlas, .pwr, .net, .agr, .evs, .ctl] (s.pass g) v := State.modCan_only hu (by decide)
  clear_value v q
  split
  · exact hv
  · exact State.queueRec_only hv (by decide)

theorem execCanFrameSent_ends {g : Lapse} {n : Fin 8} {sof delay : Nat} {s : State} :
    Ends [.atlas, .net, .agr, .evs, .ctl] (s.pass g) (execCanFrameSent g n sof delay s) := by
  unfold execCanFrameSent
  extract_lets u c
  refine .next ?_
  split
  · exact .refl ..
  · split
    · exact .refl ..
    · exact .ite (.refl ..) (State.kaSentCan_only (State.tdc_only (State.setCan_only (.refl ..) (by decide)) (by decide)) (by decide))

theorem execCanArbitrationLost_ends {g : Lapse} {n : Fin 8} {s : State} : Ends [.net] (s.pass g) (execCanArbitrationLost g n s) := by
  unfold execCanArbitrationLost
  extract_lets
  refine .next ?_
  split
  · exact .ite (State.modCan_only (.refl ..) (by decide)) (.refl ..)
  · exact .refl ..

theorem execCanError_ends {g : Lapse} {n : Fin 8} {e : CanErr} {s : State} :
    Ends [.atlas, .net, .agr, .evs, .ctl] (s.pass g) (execCanError g n e s) := by
  refine .next (.ite (State.wufBad_only (.refl ..) (by decide)) ?_)
  refine .ite ?_ ?_
  · exact State.netEvent_only (State.setCan_only (State.wufBad_only (.refl ..) (by decide)) (by decide)) (by decide)
  · refine .ite ?_ (State.setCan_only (State.wufBad_only (.refl ..) (by decide)) (by decide))
    exact State.netEvent_only (State.setCan_only (State.wufBad_only (.refl ..) (by decide)) (by decide)) (by decide)

theorem execBusOffRecovered_ends {g : Lapse} {n : Fin 8} {s : State} : Ends [.atlas, .net, .evs, .ctl] (s.pass g) (execBusOffRecovered g n s) :=
  .next (.ite (State.netEvent_only (State.modCan_only (.refl ..) (by decide)) (by decide)) (.refl ..))

theorem execCanIntegration_ends {g : Lapse} {n : Fin 8} {s : State} : Ends [.net] (s.pass g) (execCanIntegration g n s) :=
  .next (.ite (State.modCan_only (.refl ..) (by decide)) (.refl ..))

theorem execTunnelFlush_ends {g : Lapse} {n : Fin 8} {s : State} : Ends [.atlas, .net, .evs, .ctl] (s.pass g) (execTunnelFlush g n s) := by
  refine .next (.ite (State.modLin_only (State.emptyTunnel_only (.refl ..) (by decide)) (by decide)) ?_)
  refine .ite (.refl ..) ?_
  exact Only.put_net (State.modLin_only (State.modCan_only (.refl ..) (by decide)) (by decide)) (by decide)

theorem execAcfCanReceived_ends {g : Lapse} {bus : Nat} {f : CanFrame} {s : State} :
    Ends [.atlas, .net, .evs, .ctl] (s.pass g) (execAcfCanReceived g bus f s) := by
  unfold execAcfCanReceived
  extract_lets u
  refine .next (.ite (.refl ..) ?_)
  split
  · exact State.canQueue_only (by assumption) (.refl ..) (by decide)
  · exact State.tunDrop_only (.refl ..) (by decide)

/-! ### Machine/Lin.lean -/

theorem execLinSlotStart_ends {g : Lapse} {n : Fin 8} {s : State} : Ends [.net] (s.pass g) (execLinSlotStart g n s) := by
  unfold execLinSlotStart
  extract_lets
  refine .next ?_
  refine .ite (.refl ..) ?_
  extract_lets
  refine .ite (State.modLin_only (State.setLin_only (.refl ..) (by decide)) (by decide)) (.ite ?_ (State.linSendHeader_only (State.setLin_only
    (.refl ..) (by decide)) (by decide)))
  split
  · exact State.linSendHeader_only (State.setLin_only (.refl ..) (by decide)) (by decide)
  · exact State.modLin_only (State.setLin_only (.refl ..) (by decide)) (by decide)

theorem execLinNoResponse_ends {g : Lapse} {n : Fin 8} {s : State} : Ends [.atlas, .net, .evs, .ctl] (s.pass g) (execLinNoResponse g n s) := by
  unfold execLinNoResponse
  extract_lets
  refine .next ?_
  split
  · exact .refl ..
  · refine .ite (.refl ..) ?_
    refine .ite (State.modLin_only (.refl ..) (by decide)) ?_
    exact State.netLimited_only (State.modLin_only (State.modLin_only (.refl ..) (by decide)) (by decide)) (by decide)

theorem execLinHeaderReceived_ends {g : Lapse} {n : Fin 8} {id : Fin 64} {x : LinBreak} {s : State} :
    Ends [.net] (s.pass g) (execLinHeaderReceived g n id x s) := by
  refine .next (.ite (.refl ..) ?_)
  refine .ite (State.modLin_only (State.modLin_only (.refl ..) (by decide)) (by decide)) ?_
  exact State.linHeader_only (State.modLin_only (.refl ..) (by decide)) (by decide)

theorem execLinFrameReceived_ends {g : Lapse} {n : Fin 8} {f : LinFrame} {s : State} :
    Ends [.atlas, .net, .evs, .ctl] (s.pass g) (execLinFrameReceived g n f s) := by
  unfold execLinFrameReceived
  extract_lets u v w
  have hv : Only [.atlas, .net, .evs, .ctl] u v := State.modLin_only (.refl ..) (by decide)
  have deliver : ∀ id d, Only [.atlas, .net, .evs, .ctl] u (v.linDeliver n id f.sof d) := fun _ _ => State.linDeliver_only hv (by decide)
  have hw : Only [.atlas, .net, .evs, .ctl] u w := State.modLin_only hv (by decide)
  clear_value v w
  refine .next ?_
  split
  · exact .refl ..
  · extract_lets ev x
    have hx : Only [.atlas, .net, .evs, .ctl] u x := State.netLimited_only hw (by decide)
    clear_value ev x
    refine .ite (.refl ..) (.ite ?_ ?_)
    · split
      · exact deliver _ _
      · exact .ite (State.modLin_only hv (by decide)) (deliver _ _)
    · split
      · exact .ite hx (State.modLin_only hx (by decide))
      · exact State.netLimited_only (State.linRespErr_only hw (by decide)) (by decide)

theorem execLinPublishWrite_ends {g : Lapse} {n : Fin 8} {id : Fin 64} {x : LinPub} {s : State} :
    Ends [.net] (s.pass g) (execLinPublishWrite g n id x s) :=
  .next (.ite (State.linPublish_only (.refl ..) (by decide)) (.refl ..))

theorem execLinBusIdle_ends {g : Lapse} {n : Fin 8} {s : State} : Ends [.net] (s.pass g) (execLinBusIdle g n s) :=
  .next (.ite (State.modLin_only (.refl ..) (by decide)) (.refl ..))

theorem execLinWakeupRestart_ends {g : Lapse} {n : Fin 8} {s : State} : Ends [.net] (s.pass g) (execLinWakeupRestart g n s) := by
  unfold execLinWakeupRestart
  extract_lets
  refine .next ?_
  split
  · exact .ite (State.modLin_only (.refl ..) (by decide)) (.refl ..)
  · exact .refl ..

/-! ### Machine/Eth.lean -/

theorem execEthLinkUp_ends {g : Lapse} {k : Fin 2} {sqi : Fin 8} {s : State} : Ends [.atlas, .net, .evs, .ctl] (s.pass g) (execEthLinkUp g k sqi s) :=
  .next (.ite (State.netEvent_only (State.setEth_only (.refl ..) (by decide)) (by decide)) (.refl ..))

theorem execEthLinkDown_ends {g : Lapse} {k : Fin 2} {s : State} : Ends [.atlas, .net, .evs, .ctl] (s.pass g) (execEthLinkDown g k s) :=
  .next (State.ethDown_only (.refl ..) (by decide))

theorem execCableTestDone_ends {g : Lapse} {k : Fin 2} {result dist : Nat} {s : State} :
    Ends [.net] (s.pass g) (execCableTestDone g k result dist s) :=
  .next (.ite (State.setEth_only (.refl ..) (by decide)) (.refl ..))

theorem execPlcaLost_ends {g : Lapse} {k : Fin 2} {s : State} : Ends [.atlas, .net, .evs, .ctl] (s.pass g) (execPlcaLost g k s) :=
  .next (.ite (State.netEvent_only (State.setSpe_only (.refl ..) (by decide)) (by decide)) (.refl ..))

theorem execPlcaBeaconReturn_ends {g : Lapse} {k : Fin 2} {s : State} : Ends [.net] (s.pass g) (execPlcaBeaconReturn g k s) :=
  .next (.ite (State.setSpe_only (.refl ..) (by decide)) (.refl ..))

theorem execSwitchFrameIngress_ends {g : Lapse} {f : EthFrame} {s : State} : Ends [.net] (s.pass g) (execSwitchFrameIngress g f s) := by
  unfold execSwitchFrameIngress
  extract_lets u a v
  have hv : Only [.net] u v := State.switchIn_only (.refl ..) (by decide)
  clear_value a v
  refine .next ?_
  split
  · exact State.switchIn_only hv (by decide)
  · exact hv

theorem execAddressAgeing_ends {g : Lapse} {vlan mac : Nat} {s : State} : Ends [.net] (s.pass g) (execAddressAgeing g vlan mac s) :=
  .next (Only.put_net (.refl ..) (by decide))

theorem execGptpSync_ends {g : Lapse} {k : Fin 2} {x : SyncIn} {s : State} : Ends [.atlas, .net, .evs, .ctl] (s.pass g) (execGptpSync g k x s) := by
  refine .next (.ite (.refl ..) ?_)
  refine .ite (State.setEth_only (Only.put_net (.refl ..) (by decide)) (by decide)) ?_
  exact State.netEvent_only (State.setEth_only (Only.put_net (.refl ..) (by decide)) (by decide)) (by decide)

theorem execMeridianHoldExpiry_ends {g : Lapse} {s : State} : Ends [.atlas, .net, .evs, .ctl] (s.pass g) (execMeridianHoldExpiry g s) :=
  .next (.ite (State.netEvent_only (Only.put_net (.refl ..) (by decide)) (by decide)) (.refl ..))

theorem execMeridianCycleDue_ends {g : Lapse} {s : State} : Ends [.atlas, .net, .evs, .ctl] (s.pass g) (execMeridianCycleDue g s) :=
  .next (.ite (Only.foldl (Only.put_net (.refl ..) (by decide)) (fun _ _ => State.mrdDue_only (.refl ..) (by decide))) (.refl ..))

theorem execReferenceSent_ends {g : Lapse} {n : Fin 8} {sof : Nat} {s : State} : Ends [.net] (s.pass g) (execReferenceSent g n sof s) := by
  unfold execReferenceSent
  extract_lets
  refine .next ?_
  split
  · exact .ite (State.setCan_only (.refl ..) (by decide)) (.refl ..)
  · exact .refl ..

/-! ### Machine/Fw.lean -/

theorem execImgBegin_ends {g : Lapse} {q : Rq} {b : ImgBegin} {s : State} : Ends [.atlas, .acc, .evs, .fw, .ctl] (s.pass g) (execImgBegin g q b s) :=
  .next (State.serve_only (.refl ..) (by decide) (fun _ _ => State.imgBegin_only (.refl ..) (by decide)))

theorem execSectorEraseDone_ends {g : Lapse} {s : State} : Ends [.bytes, .fw] (s.pass g) (execSectorEraseDone g s) := by
  unfold execSectorEraseDone
  extract_lets
  split
  · exact .next (.refl ..)
  · exact .ite (.next (State.modFw_only (State.loseMem_only (.refl ..) (by decide)) (by decide))) (.next (.refl ..))

theorem execImgBlock_ends {g : Lapse} {q : Rq} {b : ImgBlock} {s : State} : Ends [.atlas, .evs, .fw, .ctl] (s.pass g) (execImgBlock g q b s) :=
  .next (State.serve_only (.refl ..) (by decide) (fun _ _ => State.imgBlock_only (.refl ..) (by decide)))

theorem execGranuleProgrammed_ends {g : Lapse} {ok : Bool} {s : State} :
    Ends [.atlas, .evs, .bytes, .fw, .ctl] (s.pass g) (execGranuleProgrammed g ok s) := by
  unfold execGranuleProgrammed
  extract_lets
  split
  · exact .next (.refl ..)
  · split
    · exact .next (.refl ..)
    · refine .ite ?_ ?_
      · refine .next (State.flashFree_only ?_ (by decide))
        refine .ite ?_ ?_
        · refine State.setTarget_only ?_ (by decide)
          exact State.modFw_only (State.loadBytes_only (State.modFw_only (.refl ..) (by decide)) (by decide)) (by decide)
        · exact State.modFw_only (State.loadBytes_only (State.modFw_only (.refl ..) (by decide)) (by decide)) (by decide)
      · refine .next (State.flashFree_only ?_ (by decide))
        exact State.fwEvent_only (State.modFw_only (State.modFw_only (.refl ..) (by decide)) (by decide)) (by decide)

theorem execImgVerify_ends {g : Lapse} {q : Rq} {target : Nat} {s : State} :
    Ends [.atlas, .evs, .fw, .ctl] (s.pass g) (execImgVerify g q target s) := by
  refine .next ?_
  exact State.serve_only (.refl ..) (by decide) (fun _ _ => .ite (State.answer_only (.refl ..) (by decide)) (.ite (State.answer_only (.refl ..)
    (by decide)) (.ite (State.answer_only (.refl ..) (by decide)) (.ite (State.answer_only (.refl ..) (by decide)) (State.imgJob_only (.refl ..)
    (by decide))))))

theorem execVerifyDone_ends {g : Lapse} {sigOk : Bool} {s : State} :
    Ends [.atlas, .dbg, .evs, .bytes, .fw, .ctl] (s.pass g) (execVerifyDone g sigOk s) := by
  unfold execVerifyDone
  extract_lets
  split
  · exact .next (.refl ..)
  · refine .ite (.next (.refl ..)) (.ite (.next (State.unlockCheck_only (.refl ..) (by decide))) ?_)
    split
    · exact .next (State.imgFail_only (.refl ..) (by decide))
    · exact .next (State.imgPass_only (.refl ..) (by decide))

theorem execBootRecordWritten_ends {g : Lapse} {s : State} : Ends [.atlas, .evs, .boot, .fw, .ctl] (s.pass g) (execBootRecordWritten g s) := by
  unfold execBootRecordWritten
  extract_lets
  split
  · exact .next (.refl ..)
  · refine .next (State.modFw_only ?_ (by decide))
    exact State.dropJob_only (State.complete_only (State.nameSlot_only (.refl ..) (by decide)) (by decide)) (by decide)

theorem execTrialConfirmTimer_ends {g : Lapse} {s : State} : Ends [.atlas, .evs, .fw, .ctl] (s.pass g) (execTrialConfirmTimer g s) :=
  .next (.ite (State.confirmTrial_only (.refl ..) (by decide)) (.refl ..))

theorem execDebugUnlock_ends {g : Lapse} {q : Rq} {s : State} : Ends [.atlas, .evs, .fw, .ctl] (s.pass g) (execDebugUnlock g q s) := by
  unfold execDebugUnlock
  refine .next ?_
  refine State.serve_only (.refl ..) (by decide) (fun _ _ => .ite (State.answer_only (.refl ..) (by decide)) (.ite (State.answer_only (.refl ..)
    (by decide)) (.ite (State.imgJob_only (.refl ..) (by decide)) ?_)))
  split
  · exact State.unlockEnd_only (Only.of_pair (by assumption) (State.accept_only (.refl ..) (by decide))) (by decide)
  · exact Only.of_pair (by assumption) (State.accept_only (.refl ..) (by decide))

theorem execAttestSign_ends {g : Lapse} {q : Rq} {nonce : Nat} {s : State} :
    Ends [.atlas, .evs, .fw, .ctl] (s.pass g) (execAttestSign g q nonce s) := by
  unfold execAttestSign
  refine .next ?_
  refine State.serve_only (.refl ..) (by decide) (fun _ _ => .ite (State.answer_only (.refl ..) (by decide)) (.ite (State.answer_only (.refl ..)
    (by decide)) ?_))
  split
  · exact Only.of_pair (by assumption) (State.accept_only (.refl ..) (by decide))
  · refine State.shakeServe_only ?_ (by decide)
    exact State.modFw_only (Only.of_pair (by assumption) (State.accept_only (.refl ..) (by decide))) (by decide)

theorem execAttestSignDone_ends {g : Lapse} {s : State} : Ends [.atlas, .evs, .fw, .ctl] (s.pass g) (execAttestSignDone g s) := by
  unfold execAttestSignDone
  extract_lets
  split
  · exact .next (.refl ..)
  · refine .ite (.next (.refl ..)) ?_
    refine .next ?_
    exact State.complete_only (State.dropSign_only (State.modFw_only (.refl ..) (by decide)) (by decide)) (by decide)

theorem execAttestChunk_ends {g : Lapse} {q : Rq} {chunk : Nat} {s : State} : Ends [.atlas, .evs, .ctl] (s.pass g) (execAttestChunk g q chunk s) := by
  unfold execAttestChunk
  refine .next ?_
  refine State.serve_only (.refl ..) (by decide) (fun _ _ => .ite (State.answer_only (.refl ..) (by decide)) (.ite (State.answer_only (.refl ..)
    (by decide)) ?_))
  split
  · exact Only.of_pair (by assumption) (State.accept_only (.refl ..) (by decide))
  · split
    · exact State.complete_only (Only.of_pair (by assumption) (State.accept_only (.refl ..) (by decide))) (by decide)
    · exact State.complete_only (Only.of_pair (by assumption) (State.accept_only (.refl ..) (by decide))) (by decide)

/-! ### Machine/Pace.lean -/

theorem execVoltageSettled_ends {g : Lapse} {p : Fin 16} {s : State} : Ends [.pace] (s.pass g) (execVoltageSettled g p s) :=
  .next (.ite (State.modPace_only (.refl ..) (by decide)) (.refl ..))

theorem execCapWindowBoundary_ends {g : Lapse} {p : Fin 16} {s : State} : Ends [.pace] (s.pass g) (execCapWindowBoundary g p s) :=
  .next (.ite (State.modPace_only (.refl ..) (by decide)) (.refl ..))

theorem execDroopStart_ends {g : Lapse} {p : Fin 16} {s : State} : Ends [.pace, .boot] (s.pass g) (execDroopStart g p s) :=
  .ite (.next (.refl ..)) (.next (Only.put_boot (State.modPace_only (.refl ..) (by decide)) (by decide)))

theorem execDroopEnd_ends {g : Lapse} {p : Fin 16} {s : State} : Ends [.pace, .atlas, .evs, .boot, .ctl] (s.pass g) (execDroopEnd g p s) := by
  refine .ite (.next (.refl ..)) ?_
  refine .ite ?_ (.next (State.modPace_only (.refl ..) (by decide)))
  refine .next ?_
  exact State.emit_only (Only.put_boot (State.modPace_only (.refl ..) (by decide)) (by decide)) (by decide)

theorem execPllLock_ends {g : Lapse} {s : State} : Ends [.clk, .boot, .ilr] (s.pass g) (execPllLock g s) :=
  .next (.ite (State.pllLock_only (.refl ..) (by decide)) (.refl ..))

theorem execPllFallback_ends {g : Lapse} {s : State} : Ends [.clk, .atlas, .evs, .boot, .ilr, .ctl] (s.pass g) (execPllFallback g s) :=
  .next (.ite (State.fallbackEvent_only (State.pllFallback_only (.refl ..) (by decide)) (by decide)) (.refl ..))

theorem execPllFallbackEnd_ends {g : Lapse} {s : State} : Ends [.clk, .atlas, .evs, .ctl] (s.pass g) (execPllFallbackEnd g s) :=
  .next (.ite (State.fallbackEvent_only (Only.put_clk (.refl ..) (by decide)) (by decide)) (.refl ..))

theorem execTbNowLoRead_ends {g : Lapse} {port : Fin 8} {s : State} : Ends [.clk, .fab, .dbg] (s.pass g) (execTbNowLoRead g port s) :=
  .next (.ite (State.latchNow_only (.refl ..) (by decide)) (State.portErr_only (.refl ..) (by decide)))

theorem execTbAonLoRead_ends {g : Lapse} {port : Fin 8} {s : State} : Ends [.clk, .fab, .dbg] (s.pass g) (execTbAonLoRead g port s) :=
  .next (.ite (State.latchAon_only (.refl ..) (by decide)) (State.portErr_only (.refl ..) (by decide)))

theorem execAonCalibration_ends {g : Lapse} {ticks : Nat} {s : State} : Ends [.clk] (s.pass g) (execAonCalibration g ticks s) :=
  .next (.ite (.refl ..) (.ite (State.spanStart_only (.refl ..) (by decide)) (.ite (.refl ..) (State.spanStart_only (Only.put_clk (.refl ..)
    (by decide)) (by decide)))))

/-! ### Machine/Twin.lean -/

theorem execTwinLinkUp_ends {g : Lapse} {s : State} : Ends [.atlas, .evs, .ilr, .ctl, .twin] (s.pass g) (execTwinLinkUp g s) := by
  refine .ite (.next (.refl ..)) ?_
  refine .next (State.sendRole_only ?_ (by decide))
  refine State.sendCtl_only ?_ (by decide)
  refine State.sendCtl_only ?_ (by decide)
  exact State.linkEvent_only (State.modIl_only (State.modTwin_only (.refl ..) (by decide)) (by decide)) (by decide)

theorem execTwinLinkDown_ends {g : Lapse} {reason : Fin 4} {s : State} :
    Ends [.fab, .atlas, .dbg, .regs, .evs, .dma, .ilr, .ctl, .twin] (s.pass g) (execTwinLinkDown g reason s) :=
  .next (.ite (State.linkDown_only (.refl ..) (by decide)) (.refl ..))

theorem execLinkFrameReceived_ends {g : Lapse} {bytes : List Byte} {s : State} :
    Ends [.fab, .dbg, .regs, .dma, .twin] (s.pass g) (execLinkFrameReceived g bytes s) := by
  refine .ite (.next (.refl ..)) ?_
  refine .ite (.next (State.modTwin_only (.refl ..) (by decide))) ?_
  refine .ite (.next (.refl ..)) ?_
  refine .next (State.modTwin_only ?_ (by decide))
  refine State.freeWait_only ?_ (by decide)
  refine .ite (State.modTwin_only (State.modTwin_only (.refl ..) (by decide)) (by decide)) ?_
  exact .ite (State.takeRsp_only (State.modTwin_only (.refl ..) (by decide)) (by decide)) (State.modTwin_only (.refl ..) (by decide))

theorem execLinkReplay_ends {g : Lapse} {s : State} : Ends [.twin] (s.pass g) (execLinkReplay g s) :=
  .next (.ite (State.modTwin_only (.refl ..) (by decide)) (.refl ..))

theorem execTwinOutboundRequest_ends {g : Lapse} {r : FabReq} {s : State} :
    Ends [.fab, .dbg, .regs, .dma, .twin] (s.pass g) (execTwinOutboundRequest g r s) :=
  .next (.ite (State.respond_only (.refl ..) (by decide)) (.ite (State.twinOut_only (.refl ..) (by decide)) (.refl ..)))

theorem execPostedWriteError_ends {g : Lapse} {addr code : Nat} {s : State} :
    Ends [.atlas, .evs, .ctl, .twin] (s.pass g) (execPostedWriteError g addr code s) :=
  .ite (.next (.refl ..)) (.next (State.linkEvent_only (State.modTwin_only (.refl ..) (by decide)) (by decide)))

theorem execReservationExpiry_ends {g : Lapse} {rid : Nat} {s : State} : Ends [.twin] (s.pass g) (execReservationExpiry g rid s) :=
  .next (State.modTwin_only (.refl ..) (by decide))

theorem execLockBreak_ends {g : Lapse} {s : State} : Ends [.fab, .atlas, .dbg, .regs, .evs, .dma, .ctl, .twin] (s.pass g) (execLockBreak g s) := by
  unfold execLockBreak
  extract_lets
  split
  · exact .next (.ite (State.unlocked_only (State.breakLock_only (.refl ..) (by decide)) (by decide)) (.refl ..))
  · exact .next (.refl ..)

theorem execCtlInterrupt_ends {g : Lapse} {s : State} : Ends [.evs, .twin] (s.pass g) (execCtlInterrupt g s) :=
  .next (.ite (State.raiseEv_only (State.modTwin_only (.refl ..) (by decide)) (by decide)) (.refl ..))

theorem execTwinWakePattern_ends {g : Lapse} {s : State} : Ends [.twin] (s.pass g) (execTwinWakePattern g s) :=
  .next (.ite (State.modTwin_only (.refl ..) (by decide)) (.refl ..))

/-! ### Machine/Power.lean -/

theorem execRunSampleCycle_ends {g : Lapse} {levels : List Nat} {s : State} :
    Ends [.atlas, .pwr, .inp, .evs, .ctl] (s.pass g) (execRunSampleCycle g levels s) :=
  .ite (.next (.refl ..)) (.next (Only.foldl (.refl ..) (fun _ _ => .ite (State.sampleInput_only (.refl ..) (by decide)) (.refl ..))))

theorem execDomainDrainEnd_ends {g : Lapse} {p : Fin 16} {s : State} :
    Ends (allBut [.par, .load, .ctr, .lgd, .boot]) (s.pass g) (execDomainDrainEnd g p s) :=
  .next (.ite (State.goOn_only (State.lower1_only (.refl ..) (by decide)) (by decide)) (.refl ..))

theorem execEntryOffsComplete_ends {g : Lapse} {s : State} :
    Ends (allBut [.clk, .dbg, .ctr, .lgd, .memc, .dma, .fw, .twin]) (s.pass g) (execEntryOffsComplete g s) := by
  unfold execEntryOffsComplete
  extract_lets
  split
  · refine .ite ?_ (.next (.refl ..))
    refine .ite (.next (State.goOn_only (State.modPwr_only (.refl ..) (by decide)) (by decide))) ?_
    exact .ite (.next (State.armAt_only (State.saveState_only (.refl ..) (by decide)) (by decide))) (.next (.refl ..))
  · exact .next (.refl ..)

theorem execEntryCompletionSent_ends {g : Lapse} {s : State} :
    Ends (allBut [.clk, .par, .dbg, .load, .ctr, .lgd, .memc, .dma, .ilr, .twin]) (s.pass g) (execEntryCompletionSent g s) := by
  unfold execEntryCompletionSent
  extract_lets
  split
  · refine .ite ?_ (.next (.refl ..))
    refine .next (State.goOn_only ?_ (by decide))
    exact State.modPwr_only (.ite (Only.put_boot (State.nameSlot_only (.refl ..) (by decide)) (by decide)) (.refl ..)) (by decide)
  · exact .next (.refl ..)

theorem execWakeDuringEntry_ends {g : Lapse} {w : WakeSrc} {s : State} :
    Ends (allBut [.clk, .par, .dbg, .load, .ctr, .memc, .dma, .ilr, .twin]) (s.pass g) (execWakeDuringEntry g w s) := by
  unfold execWakeDuringEntry
  extract_lets
  split
  · exact .next (.ite (State.wakeNow_only (.refl ..) (by decide)) (.refl ..))
  · exact .next (.refl ..)

theorem execCanWakePattern_ends {g : Lapse} {n : Fin 8} {s : State} :
    Ends (allBut [.clk, .par, .dbg, .load, .ctr, .memc, .dma, .ilr, .twin]) (s.pass g) (execCanWakePattern g n s) :=
  .next (.ite (.refl ..) (State.wakeNow_only (.refl ..) (by decide)))

theorem execSelectiveWake_ends {g : Lapse} {n : Fin 4} {f : CanFrame} {s : State} :
    Ends (allBut [.clk, .par, .dbg, .load, .ctr, .memc, .dma, .ilr, .twin]) (s.pass g) (execSelectiveWake g n f s) :=
  .next (.ite (State.wakeNow_only (State.wufSeen_only (.refl ..) (by decide)) (by decide)) (State.wufSeen_only (.refl ..) (by decide)))

theorem execSelectiveWakeErrorLimit_ends {g : Lapse} {n : Fin 4} {s : State} :
    Ends (allBut [.clk, .par, .dbg, .load, .ctr, .memc, .dma, .ilr, .twin]) (s.pass g) (execSelectiveWakeErrorLimit g n s) :=
  .next (.ite (State.wakeNow_only (State.wufBad_only (.refl ..) (by decide)) (by decide)) (State.wufBad_only (.refl ..) (by decide)))

theorem execTc10Wake_ends {g : Lapse} {k : Fin 2} {s : State} :
    Ends (allBut [.clk, .par, .dbg, .load, .ctr, .memc, .dma, .ilr, .twin]) (s.pass g) (execTc10Wake g k s) :=
  .next (.ite (State.wakeNow_only (.refl ..) (by decide)) (.refl ..))

theorem execSpeWake_ends {g : Lapse} {k : Fin 2} {s : State} :
    Ends (allBut [.clk, .par, .dbg, .load, .ctr, .memc, .dma, .ilr, .twin]) (s.pass g) (execSpeWake g k s) :=
  .next (.ite (State.wakeNow_only (.refl ..) (by decide)) (.refl ..))

theorem execTwinPartnerWake_ends {g : Lapse} {s : State} :
    Ends (allBut [.clk, .par, .dbg, .load, .ctr, .memc, .dma, .ilr, .twin]) (s.pass g) (execTwinPartnerWake g s) :=
  .next (State.wakeNow_only (.refl ..) (by decide))

theorem execAlarm_ends {g : Lapse} {s : State} : Ends (allBut [.clk, .par, .dbg, .load, .ctr, .memc, .dma, .ilr, .twin]) (s.pass g) (execAlarm g s) :=
  .next (.ite (State.wakeNow_only (.refl ..) (by decide)) (.refl ..))

theorem execSurveyCycle_ends {g : Lapse} {levels : List Nat} {s : State} :
    Ends (allBut [.clk, .par, .dbg, .load, .ctr, .memc, .dma, .ilr, .twin]) (s.pass g) (execSurveyCycle g levels s) :=
  .ite (.next (.refl ..)) (.next (State.modSvy_only (State.surveyRun_only (State.modSvy_only (.refl ..) (by decide)) (by decide)) (by decide)))

theorem execPowerReqRun_ends {g : Lapse} {q : Rq} {opt : Nat} {s : State} :
    Ends (allBut [.clk, .par, .dbg, .load, .ctr, .lgd, .agr, .memc, .dma, .boot, .fw, .ilr, .twin]) (s.pass g) (execPowerReqRun g q opt s) :=
  .next (State.powerReq_only (.refl ..) (by decide) (fun _ _ => State.powerEvent_only (State.complete_only (.ite
    (State.tellChanges_only (State.backToRun_only (.refl ..) (by decide)) (fun _ _ _ _ => State.emitAt_only (.refl ..) (by decide)))
    (State.backToRun_only (.refl ..) (by decide))) (by decide)) (by decide)))

theorem execPowerReqHold_ends {g : Lapse} {q : Rq} {opt : Nat} {s : State} :
    Ends (allBut [.clk, .dbg, .ctr, .lgd, .memc, .dma, .boot, .fw, .ilr, .twin]) (s.pass g) (execPowerReqHold g q opt s) := by
  refine .next ?_
  exact State.powerReq_only (.refl ..) (by decide) (fun _ _ => .ite (State.forceOffs_only (State.startEntry_only (.refl ..) (by decide))
    (by decide)) (State.goOn_only (State.modPwr_only (State.startEntry_only (.refl ..) (by decide)) (by decide)) (by decide)))

theorem execPowerReqPark_ends {g : Lapse} {q : Rq} {opt : Nat} {s : State} :
    Ends [.atlas, .par, .load, .iso, .vlv, .light, .pwr, .acc, .evs, .fw, .ctl] (s.pass g) (execPowerReqPark g q opt s) :=
  .next (State.powerReq_only (.refl ..) (by decide) (fun _ _ => State.forceOffs_only (State.cancelJobs_only (State.startEntry_only (.refl ..)
    (by decide)) (by decide)) (by decide)))

theorem execPowerReqDormant_ends {g : Lapse} {q : Rq} {opt : Nat} {s : State} :
    Ends [.atlas, .par, .load, .iso, .vlv, .light, .pwr, .acc, .evs, .fw, .ctl] (s.pass g) (execPowerReqDormant g q opt s) :=
  .next (State.powerReq_only (.refl ..) (by decide) (fun _ _ => State.forceOffs_only (State.cancelJobs_only (State.startEntry_only (.refl ..)
    (by decide)) (by decide)) (by decide)))

theorem execLgdCtrlClr_ends {g : Lapse} {ini : Initiator} {s : State} : Ends [.fab, .dbg, .lgd, .regs] (s.pass g) (execLgdCtrlClr g ini s) :=
  .next (State.openWrite_only (.refl ..) (by decide) (fun _ => Only.put_lgd (State.lgdClear_only (.refl ..) (by decide)) (by decide)))

/-! ### Machine/NetSleep.lean -/

theorem execKeepAliveReceived_ends {g : Lapse} {link node reason : Nat} {s : State} :
    Ends [.atlas, .par, .net, .agr, .evs, .ctl] (s.pass g) (execKeepAliveReceived g link node reason s) :=
  .ite (.next (.refl ..)) (.next (State.wmSeen_only (State.agrStay_only (State.modAgr_only (.refl ..) (by decide)) (by decide)) (by decide)))

theorem execKeepAliveSend_ends {g : Lapse} {s : State} : Ends [.atlas, .par, .net, .agr, .evs, .ctl] (s.pass g) (execKeepAliveSend g s) := by
  refine .ite (.next (.refl ..)) ?_
  refine .ite (.next (State.modAgr_only (.refl ..) (by decide))) ?_
  refine .ite ?_ (.ite (.next (State.kaSend_only (.refl ..) (by decide))) (.next (.refl ..)))
  refine .next (State.kaSend_only ?_ (by decide))
  exact State.wmEndAll_only (State.modAgr_only (State.agrStay_only (.refl ..) (by decide)) (by decide)) (by decide)

theorem execKeepAliveTimeout_ends {g : Lapse} {s : State} : Ends [.atlas, .agr, .evs, .ctl] (s.pass g) (execKeepAliveTimeout g s) :=
  .ite (.next (State.agrEvent_only (State.modAgr_only (.refl ..) (by decide)) (by decide))) (.next (.refl ..))

theorem execLinGoToSleep_ends {g : Lapse} {s : State} : Ends [.net, .agr] (s.pass g) (execLinGoToSleep g s) :=
  .ite (.next (State.modAgr_only (Only.foldl (.refl ..) (fun _ _ => .ite (State.linSleep_only (.refl ..) (by decide)) (.refl ..))) (by decide)))
    (.next (.refl ..))

theorem execPreCommitSave_ends {g : Lapse} {s : State} : Ends [.svy, .agr, .boot] (s.pass g) (execPreCommitSave g s) :=
  .ite (.next (State.modAgr_only (State.saveState_only (.refl ..) (by decide)) (by decide))) (.next (.refl ..))

theorem execReadySleepWaitEnd_ends {g : Lapse} {s : State} :
    Ends (allBut [.clk, .dbg, .ctr, .lgd, .memc, .dma, .twin]) (s.pass g) (execReadySleepWaitEnd g s) := by
  unfold execReadySleepWaitEnd
  extract_lets
  refine .ite (.ite (.next (State.agrStay_only (.refl ..) (by decide))) ?_) (.next (.refl ..))
  extract_lets
  split
  · refine .next (.ite ?_ (State.agrEvent_only (State.agrNormalAt_only (.refl ..) (by decide)) (by decide)))
    exact Only.foldl (State.agrEvent_only (State.agrNormalAt_only (.refl ..) (by decide)) (by decide)) (fun _ _ => .ite (State.linWakeup_only
      (.refl ..) (by decide)) (.refl ..))
  · exact .next (State.commitSleep_only (.refl ..) (by decide))

theorem execFalseWakeTimeout_ends {g : Lapse} {s : State} :
    Ends (allBut [.clk, .dbg, .ctr, .memc, .dma, .twin]) (s.pass g) (execFalseWakeTimeout g s) := by
  unfold execFalseWakeTimeout
  extract_lets
  refine .ite (.ite (.next (State.agrStay_only (.refl ..) (by decide))) ?_) (.next (.refl ..))
  extract_lets
  split
  · exact .next (State.agrEvent_only (State.agrNormalAt_only (.refl ..) (by decide)) (by decide))
  · exact .next (State.commitSleep_only (State.modAgr_only (Only.put_lgd (.refl ..) (by decide)) (by decide)) (by decide))

theorem execTc10SleepAck_ends {g : Lapse} {k : Fin 2} {s : State} :
    Ends (allBut [.clk, .par, .dbg, .load, .ctr, .lgd, .memc, .dma, .ilr, .twin]) (s.pass g) (execTc10SleepAck g k s) :=
  .next (.ite (State.netGoOn_only (State.setEth_only (.refl ..) (by decide)) (by decide)) (.refl ..))

theorem execTc10SleepAckTimeout_ends {g : Lapse} {k : Fin 2} {s : State} :
    Ends (allBut [.clk, .par, .dbg, .load, .ctr, .lgd, .memc, .dma, .ilr, .twin]) (s.pass g) (execTc10SleepAckTimeout g k s) := by
  unfold execTc10SleepAckTimeout
  extract_lets
  split
  · exact .next (.ite (State.netGoOn_only (State.setEth_only (.refl ..) (by decide)) (by decide)) (.refl ..))
  · exact .next (.refl ..)

theorem execWakeHoldEnd_ends {g : Lapse} {s : State} : Ends [.agr] (s.pass g) (execWakeHoldEnd g s) := by
  unfold execWakeHoldEnd
  extract_lets
  split
  · exact .next (.ite (State.modAgr_only (.refl ..) (by decide)) (.refl ..))
  · exact .next (.refl ..)

theorem execWaymark_ends {g : Lapse} {link node : Nat} {s : State} :
    Ends [.atlas, .par, .agr, .evs, .ctl] (s.pass g) (execWaymark g link node s) := by
  unfold execWaymark
  extract_lets
  split
  · refine .ite (.next (.refl ..)) ?_
    refine .next ?_
    exact State.netEvent_only (State.modAgr_only (State.wmWrite_only (.refl ..) (by decide)) (by decide)) (by decide)
  · exact .next (.refl ..)

theorem execWaymarkMinute_ends {g : Lapse} {link node : Nat} {s : State} : Ends [.par] (s.pass g) (execWaymarkMinute g link node s) := by
  unfold execWaymarkMinute
  extract_lets
  split
  · exact .next (.ite (State.wmWrite_only (.refl ..) (by decide)) (.refl ..))
  · exact .next (.refl ..)

theorem execWaymarkRunEnd_ends {g : Lapse} {link node : Nat} {s : State} : Ends [.par, .agr] (s.pass g) (execWaymarkRunEnd g link node s) := by
  unfold execWaymarkRunEnd
  extract_lets
  split
  · exact .next (.ite (State.wmEnd_only (.refl ..) (by decide)) (.refl ..))
  · exact .next (.refl ..)

/-! ### Machine/Boot.lean -/

theorem execFeedBelowPd0_ends {g : Lapse} {s : State} : Ends (allBut []) (s.pass g) (execFeedBelowPd0 g s) :=
  .next (State.modPwr_only (State.cold_only (.refl ..) (by decide)) (by decide))

theorem execFeedStart_ends {g : Lapse} {a b : Bool} {s : State} : Ends (allBut []) (s.pass g) (execFeedStart g a b s) :=
  .next (.ite (State.modPwr_only (State.cold_only (.refl ..) (by decide)) (by decide)) (.refl ..))

theorem execColdStart_ends {g : Lapse} {s : State} : Ends (allBut []) (s.pass g) (execColdStart g s) := by
  refine .ite ?_ (.next (.refl ..))
  refine .next (State.modPwr_only ?_ (by decide))
  refine State.modBoot_only ?_ (by decide)
  exact Only.put_lgd (State.modAcc_only (State.cold_only (.refl ..) (by decide)) (by decide)) (by decide)

theorem execWarmStart_ends {g : Lapse} {digestOk : Bool} {s : State} :
    Ends (allBut [.clk, .lgd, .ilr, .ctl]) (s.pass g) (execWarmStart g digestOk s) := by
  unfold execWarmStart
  extract_lets u v chans gens r m w
  split
  · refine .ite ?_ (.next (.refl ..))
    extract_lets resume x
    have hv : Only (allBut [.clk, .lgd, .ilr, .ctl]) u v := State.recordCause_only (.refl ..) (by decide)
    have hw : Only (allBut [.clk, .lgd, .ilr, .ctl]) u w := Only.put_load_light (State.freshLogic_only hv (by decide)) (by decide)
    exact .next (State.phase2_only (State.modBoot_only hw (by decide)) (by decide))
  · exact .next (.refl ..)

theorem execWatchdogReset_ends {g : Lapse} {s : State} : Ends (allBut [.lgd, .ilr, .ctl]) (s.pass g) (execWatchdogReset g s) :=
  .next (.ite (State.logicReset_only (.refl ..) (by decide)) (.refl ..))

theorem execLogicSupplyReset_ends {g : Lapse} {s : State} : Ends (allBut [.lgd, .ilr, .ctl]) (s.pass g) (execLogicSupplyReset g s) :=
  .next (State.logicReset_only (.refl ..) (by decide))

theorem execActivationReset_ends {g : Lapse} {s : State} : Ends (allBut [.lgd, .ilr, .ctl]) (s.pass g) (execActivationReset g s) :=
  .next (.ite (State.logicReset_only (.refl ..) (by decide)) (.refl ..))

theorem execSupervisorWatchdogService_ends {g : Lapse} {s : State} : Ends [.boot] (s.pass g) (execSupervisorWatchdogService g s) :=
  .next (.ite (State.modBoot_only (.refl ..) (by decide)) (.refl ..))

theorem execStormClear_ends {g : Lapse} {s : State} : Ends [.boot] (s.pass g) (execStormClear g s) :=
  .next (.ite (State.modBoot_only (.refl ..) (by decide)) (.refl ..))

theorem execBootCtrlHoldWrite_ends {g : Lapse} {ini : Initiator} {v : Nat} {s : State} :
    Ends [.fab, .dbg, .regs, .boot] (s.pass g) (execBootCtrlHoldWrite g ini v s) :=
  .next (State.openWrite_only (.refl ..) (by decide) (fun _ => State.holdWrite_only (.refl ..) (by decide)))

theorem execHoldWindowExpiry_ends {g : Lapse} {s : State} : Ends [.load, .light, .boot] (s.pass g) (execHoldWindowExpiry g s) := by
  unfold execHoldWindowExpiry
  extract_lets u
  split
  · refine .ite ?_ (.next (.refl ..))
    extract_lets
    exact .next (State.modBoot_only (Only.put_light (Only.foldl (.refl ..) (fun _ _ => State.orphan_only (.refl ..) (by decide))) (by decide))
      (by decide))
  · exact .next (.refl ..)

theorem execBootPhaseAdvance_ends {g : Lapse} {o : BootObs} {s : State} : Ends (allBut [.ctr, .lgd]) (s.pass g) (execBootPhaseAdvance g o s) := by
  refine .next (State.drained_only ?_ (by decide))
  refine .ite (.refl ..) ?_
  refine .ite (State.phase2_only (.refl ..) (by decide)) ?_
  refine .ite ?_ ?_
  · refine State.modBoot_only ?_ (by decide)
    refine .ite (.refl ..) ?_
    exact .ite (State.pllLock_only (.refl ..) (by decide)) (State.pllFallback_only (.refl ..) (by decide))
  · refine .ite ?_ ?_
    · refine .ite (State.recover_only (State.selfTested_only (.refl ..) (by decide)) (by decide)) ?_
      exact State.modBoot_only (State.selfTested_only (.refl ..) (by decide)) (by decide)
    · refine .ite ?_ ?_
      · refine .ite (State.phase7_only (State.selectSlot_only (.refl ..) (by decide)) (by decide)) ?_
        exact State.modBoot_only (State.selectSlot_only (.refl ..) (by decide)) (by decide)
      · refine .ite (State.checkSlot5_only (.refl ..) (by decide)) ?_
        refine .ite ?_ ?_
        · refine .ite ?_ (State.recover_only (.refl ..) (by decide))
          exact State.phase7_only (State.loadImage_only (State.loadImage_only (.refl ..) (by decide)) (by decide)) (by decide)
        · refine .ite ?_ ?_
          · refine .ite (State.modBoot_only (State.init_only (.refl ..) (by decide)) (by decide)) ?_
            exact State.becomeReady_only (State.init_only (.refl ..) (by decide)) (by decide)
          · exact .ite (State.becomeReady_only (State.adopt_only (.refl ..) (by decide)) (by decide)) (.refl ..)

theorem execSequencerRestart_ends {g : Lapse} {core : Nat} {s : State} :
    Ends [.atlas, .load, .iso, .vlv, .regs, .evs, .bytes, .boot, .ctl] (s.pass g) (execSequencerRestart g core s) := by
  unfold execSequencerRestart
  extract_lets
  split
  · refine .ite (.next (.refl ..)) ?_
    extract_lets
    refine .ite (.next (State.emit_only (.ite (.ite (State.haltCore_only (State.modBoot_only (.refl ..) (by decide)) (by decide)) (State.dropCh_only
      (State.haltCore_only (State.modBoot_only (.refl ..) (by decide)) (by decide)) (by decide))) (State.bankOff_only (State.haltCore_only
      (State.modBoot_only (.refl ..) (by decide)) (by decide)) (by decide))) (by decide))) ?_
    extract_lets
    refine .next ?_
    refine State.emit_only (.ite ?_ (State.bankOff_only (State.startSeq_only (State.loseMem_only (.refl ..) (by decide)) (by decide)) (by decide)))
      (by decide)
    extract_lets
    refine State.settle_only ?_ (by decide)
    split
    · refine State.evenOut_only ?_ (by decide)
      refine State.adoptChan_only ?_ (by decide)
      refine State.applyRel_only ?_ (by decide)
      exact Only.put_load (State.startSeq_only (State.loseMem_only (.refl ..) (by decide)) (by decide)) (by decide)
    · refine State.adoptChan_only ?_ (by decide)
      refine State.applyRel_only ?_ (by decide)
      exact Only.put_load (State.startSeq_only (State.loseMem_only (.refl ..) (by decide)) (by decide)) (by decide)
  · exact .next (.refl ..)

/-! ### Machine/Regs.lean -/

theorem execMbxClaim_ends {g : Lapse} {ses org : Fin 4} {s : State} : Ends [.fab, .atlas, .dbg, .regs] (s.pass g) (execMbxClaim g ses org s) :=
  .next (State.regCmd_claim (.refl ..) (by decide))

theorem execRequestBufferWrite_ends {g : Lapse} {ses org : Fin 4} {w : BufWrite} {s : State} :
    Ends [.fab, .atlas, .dbg, .regs] (s.pass g) (execRequestBufferWrite g ses org w s) := by
  unfold execRequestBufferWrite
  extract_lets u ini
  refine .next ?_
  split
  · exact State.regCmd_len (.refl ..) (by decide)
  · have err : ∀ {v : State} {code a : Nat}, Only [.fab, .atlas, .dbg, .regs] u v →
        Only [.fab, .atlas, .dbg, .regs] u (v.accessErr ini code a) :=
      fun h => State.accessErr_only h (by decide)
    refine .ite (.refl ..) ?_
    extract_lets a
    refine .ite (err (.refl ..)) (.ite (err (.refl ..)) (.ite (err (.refl ..)) ?_))
    split
    rename_i v c h
    have hv : Only [.fab, .atlas, .dbg, .regs] u v := Only.of_pair h (State.mbxPut_only (.refl ..) (by decide))
    exact .ite hv (err hv)

theorem execMbxDoorbellGo_ends {g : Lapse} {ses org : Fin 4} {s : State} :
    Ends [.fab, .atlas, .dbg, .regs, .evs, .ctl] (s.pass g) (execMbxDoorbellGo g ses org s) :=
  .next (State.regCmd_record (.refl ..) (by decide) (by decide) (by decide))

theorem execClaimTimeout_ends {g : Lapse} {ses : Fin 4} {s : State} : Ends [.atlas, .evs, .ctl] (s.pass g) (execClaimTimeout g ses s) :=
  .next (.ite (State.mbxEvent_only (State.modSes_only (.refl ..) (by decide)) (by decide)) (.refl ..))

theorem execMbxRspAck_ends {g : Lapse} {ses org : Fin 4} {s : State} :
    Ends [.fab, .atlas, .dbg, .regs, .evs, .ctl] (s.pass g) (execMbxRspAck g ses org s) :=
  .next (State.regCmd_record (.refl ..) (by decide) (by decide) (by decide))

theorem execMbxCtrlClrcnt_ends {g : Lapse} {ini : Initiator} {mask : Nat} {s : State} :
    Ends [.fab, .atlas, .dbg, .regs] (s.pass g) (execMbxCtrlClrcnt g ini mask s) :=
  .next (State.regCmd_clear (.refl ..) (by decide))

theorem execMbxIrqStatClear_ends {g : Lapse} {ses org : Fin 4} {mask : Nat} {s : State} :
    Ends [.fab, .atlas, .dbg, .regs] (s.pass g) (execMbxIrqStatClear g ses org mask s) :=
  .next (State.regCmd_irq (.refl ..) (by decide))

theorem execDbgClrRecord_ends {g : Lapse} {ini : Initiator} {s : State} : Ends [.fab, .dbg, .regs] (s.pass g) (execDbgClrRecord g ini s) :=
  .next (State.regCmd_dbg (.refl ..) (by decide))

theorem execDbgClrCounts_ends {g : Lapse} {ini : Initiator} {s : State} : Ends [.fab, .dbg, .regs] (s.pass g) (execDbgClrCounts g ini s) :=
  .next (State.regCmd_dbg (.refl ..) (by decide))

theorem execDbgHaltreq_ends {g : Lapse} {ini : Initiator} {k : Fin 5} {v : Nat} {s : State} :
    Ends [.fab, .atlas, .dbg, .regs, .evs, .ctl] (s.pass g) (execDbgHaltreq g ini k v s) :=
  .next (State.regCmd_core (.refl ..) (by decide))

theorem execRegisterWrite_ends {g : Lapse} {ini : Initiator} {addr v : Nat} {s : State} :
    Ends [.pace, .fab, .atlas, .par, .dbg, .load, .iso, .lgd, .regs, .evs, .memc, .boot, .ilr, .ctl] (s.pass g) (execRegisterWrite g ini addr v s) :=
  .next (.ite (.refl ..) (.ite (State.accessErr_only (.refl ..) (by decide)) (.ite (State.regCmd_only (.refl ..) (by decide)) (.refl ..))))

/-! ### Machine/Fabric.lean -/

theorem execFabricRequest_ends {g : Lapse} {r : FabReq} {served : Bool} {s : State} :
    Ends (allBut [.ctr, .vlv, .light, .pwr, .svy, .inp, .net, .agr, .acc, .fw]) (s.pass g) (execFabricRequest g r served s) :=
  .next (.ite (State.request_only (.refl ..) (by decide)) (.refl ..))

theorem execFabricResponse_ends {g : Lapse} {port unit : Nat} {s : State} :
    Ends (allBut [.ctr, .vlv, .light, .pwr, .svy, .inp, .net, .agr, .acc, .fw]) (s.pass g) (execFabricResponse g port unit s) := by
  unfold execFabricResponse
  extract_lets
  refine .next ?_
  split
  · exact State.serveAll_only (.refl ..) (by decide)
  · split
    · exact State.serveAll_only (.refl ..) (by decide)
    · exact State.delivered_only (State.endReq_only (State.serveAll_only (.refl ..) (by decide)) (by decide)) (by decide)

theorem execFabricTimeout_ends {g : Lapse} {port unit : Nat} {s : State} :
    Ends (allBut [.ctr, .vlv, .light, .pwr, .svy, .inp, .net, .agr, .acc, .fw]) (s.pass g) (execFabricTimeout g port unit s) := by
  unfold execFabricTimeout
  extract_lets
  refine .next ?_
  split
  · refine State.delivered_only ?_ (by decide)
    refine .ite (Only.put_fab (State.serveOlder_only (.refl ..) (by decide)) (by decide)) ?_
    exact State.lateWrite_only (Only.put_fab (State.serveOlder_only (.refl ..) (by decide)) (by decide)) (by decide)
  · split
    · exact State.delivered_only (State.modTwin_only (State.serveOlder_only (.refl ..) (by decide)) (by decide)) (by decide)
    · split
      · exact State.delivered_only (State.modTwin_only (State.serveOlder_only (.refl ..) (by decide)) (by decide)) (by decide)
      · split
        · exact State.delivered_only (State.modTwin_only (State.serveOlder_only (.refl ..) (by decide)) (by decide)) (by decide)
        · exact State.serveOlder_only (.refl ..) (by decide)

theorem execTwinInboundRequest_ends {g : Lapse} {r : LinkReq} {s : State} :
    Ends (allBut [.ctr, .vlv, .light, .pwr, .svy, .inp, .net, .agr, .acc, .fw]) (s.pass g) (execTwinInboundRequest g r s) := by
  unfold execTwinInboundRequest
  extract_lets
  refine .next ?_
  refine .ite (.refl ..) ?_
  extract_lets
  refine .ite (State.inbound_only (State.serveOlder_only (.refl ..) (by decide)) (by decide)) ?_
  split
  · exact State.inbound_only (State.modTwin_only (State.serveOlder_only (.refl ..) (by decide)) (by decide)) (by decide)
  · exact State.serveOlder_only (.refl ..) (by decide)

theorem execBenchSpiTransaction_ends {g : Lapse} {t : SpiTrans} {s : State} :
    Ends (allBut [.ctr, .vlv, .light, .pwr, .svy, .inp, .net, .agr, .acc, .dma, .fw]) (s.pass g) (execBenchSpiTransaction g t s) := by
  unfold execBenchSpiTransaction
  extract_lets u write n off a nr
  have refuse : ∀ code, Only (allBut [.ctr, .vlv, .light, .pwr, .svy, .inp, .net, .agr, .acc, .dma, .fw]) u (u.benchRefuse code a nr) :=
    fun _ => State.benchRefuse_only (.refl ..) (by decide)
  refine .next (.ite (.refl ..) (.ite (refuse 1) (.ite (refuse 4) (.ite (refuse 3) (.ite (refuse 4) ?_)))))
  extract_lets
  exact Only.put_fab (Only.fst (State.benchRun_only (State.serveAll_only (.refl ..) (by decide)) (by decide))) (by decide)

/-! ### Machine/Dma.lean -/

theorem execDmaDescriptorComplete_ends {g : Lapse} {n : Fin 32} {s : State} :
    Ends (allBut [.ctr, .vlv, .light, .pwr, .svy, .inp, .net, .agr, .acc, .fw]) (s.pass g) (execDmaDescriptorComplete g n s) := by
  unfold execDmaDescriptorComplete
  extract_lets u
  refine .next (.ite (.refl ..) ?_)
  split
  rename_i v k e a h
  have hv : Only (allBut [.ctr, .vlv, .light, .pwr, .svy, .inp, .net, .agr, .acc, .fw]) u v := Only.of_pair h (State.dmaRun_only (.refl ..)
    (by decide))
  refine .ite (State.fabErr_only (State.dmaFail_only hv (by decide)) (by decide)) ?_
  extract_lets c w x
  have hx : Only (allBut [.ctr, .vlv, .light, .pwr, .svy, .inp, .net, .agr, .acc, .fw]) u x :=
    .ite (State.raiseEv_only (State.modDma_only hv (by decide)) (by decide)) (State.modDma_only hv (by decide))
  exact .ite (State.dmaLoad_only hx (by decide)) (State.modDma_only hx (by decide))

theorem execDmaTransferError_ends {g : Lapse} {n : Fin 32} {code addr : Nat} {s : State} :
    Ends (allBut [.ctr, .vlv, .light, .pwr, .svy, .inp, .net, .agr, .acc, .fw]) (s.pass g) (execDmaTransferError g n code addr s) := by
  unfold execDmaTransferError
  extract_lets u
  refine .next (.ite (.refl ..) ?_)
  extract_lets
  split
  rename_i v k e a h
  have hv : Only (allBut [.ctr, .vlv, .light, .pwr, .svy, .inp, .net, .agr, .acc, .fw]) u v := Only.of_pair h (State.dmaRun_only (.refl ..)
    (by decide))
  refine .ite (State.fabErr_only (State.dmaFail_only hv (by decide)) (by decide)) (.ite (.refl ..) ?_)
  extract_lets c w
  have hw : Only (allBut [.ctr, .vlv, .light, .pwr, .svy, .inp, .net, .agr, .acc, .fw]) u w := .ite (State.dmaLate_only hv (by decide)) hv
  exact State.fabErr_only (State.dmaFail_only hw (by decide)) (by decide)

/-! ### Machine/Xitre.lean -/

theorem execWordIssue_ends {g : Lapse} {k : CoreId} {s : State} : Ends (allBut []) (s.pass g) (execWordIssue g k s) :=
  .next (State.issue_only (.refl ..) (by decide))

theorem execCall_ends {g : Lapse} {k : CoreId} {imm : CallSrc} {s : State} : Ends (allBut []) (s.pass g) (execCall g k imm s) := by
  unfold execCall
  refine .next ?_
  split
  · exact State.trigger_only (.refl ..) (by decide)
  · exact State.trigger_only (.refl ..) (by decide)

theorem execWaitEnd_ends {g : Lapse} {k : CoreId} {s : State} : Ends (allBut [.lgd, .ilr]) (s.pass g) (execWaitEnd g k s) :=
  .next (.ite (.refl ..) (.ite (State.trapCore_only (State.endWait_only (.refl ..) (by decide)) (by decide)) (State.endWait_only (.refl ..)
    (by decide))))

theorem execLateWriteError_ends {g : Lapse} {k : CoreId} {code addr : Nat} {s : State} :
    Ends (allBut [.lgd, .ilr]) (s.pass g) (execLateWriteError g k code addr s) := by
  unfold execLateWriteError
  extract_lets u i
  refine .next (.ite (.refl ..) ?_)
  split
  · exact .ite (State.takeLate_only (.refl ..) (by decide)) (.refl ..)
  · exact State.takeLate_only (.ite (State.fabErr_only (.refl ..) (by decide)) (.refl ..)) (by decide)

theorem execAppletWatchdog_ends {g : Lapse} {n : Fin 4} {s : State} : Ends (allBut [.lgd, .ilr]) (s.pass g) (execAppletWatchdog g n s) :=
  .next (.ite (State.trapCore_only (.refl ..) (by decide)) (.refl ..))

theorem execAppletRestart_ends {g : Lapse} {n : Fin 4} {s : State} : Ends [.atlas, .regs, .evs, .bytes] (s.pass g) (execAppletRestart g n s) := by
  unfold execAppletRestart
  extract_lets
  refine .next ?_
  split
  · exact .ite (State.startApplet_only (.refl ..) (by decide)) (.refl ..)
  · exact .refl ..

theorem execDbgCoreStep_ends {g : Lapse} {ini : Initiator} {k : Fin 5} {s : State} : Ends (allBut []) (s.pass g) (execDbgCoreStep g ini k s) :=
  .next (.ite (State.issue_only (State.regCmd_only (.refl ..) (by decide)) (by decide)) (State.regCmd_only (.refl ..) (by decide)))

/-! ### Machine/Ring.lean -/

theorem execRingDeliver_ends {g : Lapse} {a : Fin 4} {s : State} :
    Ends [.atlas, .net, .evs, .bytes, .memc, .ctl] (s.pass g) (execRingDeliver g a s) := by
  unfold execRingDeliver
  extract_lets
  refine .next ?_
  split
  · exact .refl ..
  · exact .ite (.refl ..) (State.ringWrite_only (State.takeRec_only (.refl ..) (by decide)) (by decide))

theorem execTxRingConsume_ends {g : Lapse} {a : Fin 4} {s : State} :
    Ends [.atlas, .net, .regs, .evs, .bytes, .memc, .ctl] (s.pass g) (execTxRingConsume g a s) :=
  .next (.ite (.refl ..) (Only.fst (State.memWrite_only (.ite (.refl ..) (.ite (State.txDrop_only (.refl ..) (by decide)) (State.txEntry_only
    (.refl ..) (by decide)))) (by decide))))

/-! ### Machine/ParamWrite.lean -/

theorem execParamWriteSet_ends {g : Lapse} {q : Rq} {ws : List ParWrite} {s : State} :
    Ends (allBut [.clk, .ctr, .lgd, .boot]) (s.pass g) (execParamWriteSet g q ws s) := by
  unfold execParamWriteSet
  refine .next ?_
  refine State.serve_only (.refl ..) (by decide) (fun _ _ => ?_)
  extract_lets
  split
  · exact State.answer_only (Only.fst (State.writeSet_only (.refl ..) (by decide))) (by decide)
  · exact State.answer_only (Only.fst (State.writeSet_only (.refl ..) (by decide))) (by decide)

/-! ### Machine/Atlas.lean -/

theorem execNop_ends {g : Lapse} {q : Rq} {s : State} : Ends [.atlas, .evs, .ctl] (s.pass g) (execNop g q s) :=
  .next (State.serve_only (.refl ..) (by decide) (fun _ _ => State.answer_only (.refl ..) (by decide)))

theorem execIdent_ends {g : Lapse} {q : Rq} {s : State} : Ends [.atlas, .evs, .ctl] (s.pass g) (execIdent g q s) :=
  .next (State.serve_only (.refl ..) (by decide) (fun _ _ => State.answer_only (.refl ..) (by decide)))

theorem execParamRead_ends {g : Lapse} {q : Rq} {id idx : Nat} {s : State} : Ends [.atlas, .evs, .ctl] (s.pass g) (execParamRead g q id idx s) := by
  unfold execParamRead
  refine .next ?_
  refine State.serve_only (.refl ..) (by decide) (fun _ _ => ?_)
  split
  · exact State.answer_only (.refl ..) (by decide)
  · exact State.answer_only (.refl ..) (by decide)

theorem execParamReadMulti_ends {g : Lapse} {q : Rq} {ps : List (Nat × Nat)} {s : State} :
    Ends [.atlas, .evs, .ctl] (s.pass g) (execParamReadMulti g q ps s) :=
  .next (State.serve_only (.refl ..) (by decide) (fun _ _ => State.answer_only (.refl ..) (by decide)))

theorem execParamDescribe_ends {g : Lapse} {q : Rq} {id idx : Nat} {s : State} :
    Ends [.atlas, .evs, .ctl] (s.pass g) (execParamDescribe g q id idx s) := by
  unfold execParamDescribe
  refine .next ?_
  refine State.serve_only (.refl ..) (by decide) (fun _ _ => ?_)
  split
  · exact State.answer_only (.refl ..) (by decide)
  · exact State.answer_only (.refl ..) (by decide)

theorem execParamCommit_ends {g : Lapse} {q : Rq} {s : State} : Ends [.atlas, .evs, .ctl] (s.pass g) (execParamCommit g q s) := by
  unfold execParamCommit
  refine .next ?_
  refine State.serve_only (.refl ..) (by decide) (fun _ _ => .ite (State.answer_only (.refl ..) (by decide)) ?_)
  split
  · exact Only.of_pair (by assumption) (State.accept_only (.refl ..) (by decide))
  · refine State.flashWait_only ?_ (by decide)
    exact Only.put_atlas (Only.of_pair (by assumption) (State.accept_only (.refl ..) (by decide))) (by decide)

theorem execParamCommitDone_ends {g : Lapse} {ok : Bool} {s : State} : Ends [.atlas, .par, .evs, .ctl] (s.pass g) (execParamCommitDone g ok s) := by
  unfold execParamCommitDone
  extract_lets u r v
  split
  · exact .next (.refl ..)
  · refine .ite (.next (.refl ..)) ?_
    extract_lets w
    have hv : Only [.atlas, .par, .evs, .ctl] u v := Only.put_atlas (.refl ..) (by decide)
    exact .next (State.complete_only (.ite (Only.foldl hv (fun _ _ => State.setStored_only (.refl ..) (by decide))) hv) (by decide))

theorem execFleetCommit_ends {g : Lapse} {q : Rq} {target : Nat} {s : State} :
    Ends [.atlas, .evs, .ctl] (s.pass g) (execFleetCommit g q target s) := by
  unfold execFleetCommit
  refine .next ?_
  refine State.serve_only (.refl ..) (by decide) (fun _ _ => .ite (State.answer_only (.refl ..) (by decide)) ?_)
  split
  · exact Only.of_pair (by assumption) (State.accept_only (.refl ..) (by decide))
  · refine .ite ?_ ?_
    · exact State.complete_only (Only.of_pair (by assumption) (State.accept_only (.refl ..) (by decide))) (by decide)
    · refine .ite ?_ ?_
      · exact State.complete_only (Only.of_pair (by assumption) (State.accept_only (.refl ..) (by decide))) (by decide)
      · refine State.flashWait_only ?_ (by decide)
        exact Only.put_atlas (Only.of_pair (by assumption) (State.accept_only (.refl ..) (by decide))) (by decide)

theorem execFleetCommitDone_ends {g : Lapse} {ok : Bool} {s : State} :
    Ends [.atlas, .par, .evs, .ilr, .ctl] (s.pass g) (execFleetCommitDone g ok s) := by
  unfold execFleetCommitDone
  extract_lets u r v
  split
  · exact .next (.refl ..)
  · refine .ite (.next (.refl ..)) ?_
    have hv : Only [.atlas, .par, .evs, .ilr, .ctl] u v := Only.put_atlas (.refl ..) (by decide)
    refine .ite ?_ (.next (State.complete_only hv (by decide)))
    extract_lets w
    have hw : Only [.atlas, .par, .evs, .ilr, .ctl] u w := State.setStored_only (State.setStored_only (State.setPar_only (State.setPar_only hv
      (by decide)) (by decide)) (by decide)) (by decide)
    exact .next (State.pairChanged_only (State.runEvent_only (State.complete_only hw (by decide)) (by decide)) (by decide))

theorem execHandleQuery_ends {g : Lapse} {q : Rq} {h : Nat} {s : State} : Ends [.atlas, .evs, .ctl] (s.pass g) (execHandleQuery g q h s) := by
  unfold execHandleQuery
  refine .next ?_
  refine State.serve_only (.refl ..) (by decide) (fun _ _ => ?_)
  split
  · exact State.answer_only (.refl ..) (by decide)
  · split
    · exact State.answer_only (.refl ..) (by decide)
    · exact State.answer_only (.refl ..) (by decide)

theorem execHandleRelease_ends {g : Lapse} {q : Rq} {h : Nat} {s : State} : Ends [.atlas, .evs, .ctl] (s.pass g) (execHandleRelease g q h s) := by
  unfold execHandleRelease
  refine .next ?_
  refine State.serve_only (.refl ..) (by decide) (fun _ _ => ?_)
  split
  · exact State.answer_only (.refl ..) (by decide)
  · split
    · exact State.answer_only (State.freeHandle_only (.refl ..) (by decide)) (by decide)
    · exact State.answer_only (.refl ..) (by decide)

theorem execHandleCancel_ends {g : Lapse} {q : Rq} {h : Nat} {s : State} :
    Ends (allBut [.clk, .pace, .dbg, .ctr, .lgd, .agr, .memc, .dma, .boot, .ilr, .twin]) (s.pass g) (execHandleCancel g q h s) := by
  unfold execHandleCancel
  refine .next ?_
  refine State.serve_only (.refl ..) (by decide) (fun _ _ => ?_)
  split
  · exact State.answer_only (.refl ..) (by decide)
  · split
    · exact State.answer_only (.refl ..) (by decide)
    · refine .ite (State.answer_only (.refl ..) (by decide)) ?_
      refine .ite (State.answer_only (.refl ..) (by decide)) ?_
      exact State.finish_only (Only.fst (State.cancelEnded_only (State.answer_only (.refl ..) (by decide)) (by decide))) (by decide)
    · refine .ite (State.answer_only (.refl ..) (by decide)) ?_
      exact .ite (State.answer_only (.refl ..) (by decide)) (State.cancelNow_only (State.answer_only (.refl ..) (by decide)) (by decide))

theorem execHandleKeepExpiry_ends {g : Lapse} {h : Nat} {s : State} : Ends [.atlas] (s.pass g) (execHandleKeepExpiry g h s) := by
  unfold execHandleKeepExpiry
  extract_lets
  split
  · exact .next (.refl ..)
  · split
    · exact .next (.ite (State.freeHandle_only (.refl ..) (by decide)) (.refl ..))
    · exact .next (.refl ..)

theorem execEventSubscribe_ends {g : Lapse} {q : Rq} {mask : Nat} {s : State} :
    Ends [.atlas, .evs, .ctl] (s.pass g) (execEventSubscribe g q mask s) := by
  refine .next ?_
  exact State.serve_only (.refl ..) (by decide) (fun _ _ => .ite (State.answer_only (.refl ..) (by decide)) (.ite (State.sendKept_only
    (State.answer_only (State.modSes_only (.refl ..) (by decide)) (by decide)) (by decide)) (State.answer_only (State.modSes_only (.refl ..)
    (by decide)) (by decide))))

theorem execKeptEventExpiry_ends {g : Lapse} {s : State} : Ends [.atlas] (s.pass g) (execKeptEventExpiry g s) :=
  .next (.ite (Only.put_atlas (.refl ..) (by decide)) (.refl ..))

theorem execSessionTimeout_ends {g : Lapse} {ses : Fin 4} {s : State} : Ends [.atlas, .par, .evs, .ctl] (s.pass g) (execSessionTimeout g ses s) :=
  .next (.ite (State.closeSession_only (.refl ..) (by decide)) (.refl ..))

theorem execUdpDatagramReceived_ends {g : Lapse} {d : Datagram} {s : State} :
    Ends [.atlas, .evs, .ctl] (s.pass g) (execUdpDatagramReceived g d s) := by
  unfold execUdpDatagramReceived
  extract_lets u
  refine .ite (.next (.refl ..)) ?_
  rcases d.frag with ⟨ident, off, more⟩
  refine .ite (.next (.ite (State.deliver_only (.refl ..) (by decide)) (.refl ..))) ?_
  extract_lets mine old new rest
  refine .ite (.next (Only.put_atlas (.refl ..) (by decide))) ?_
  split
  · exact .next (State.deliver_only (Only.put_atlas (.refl ..) (by decide)) (by decide))
  · exact .next (Only.put_atlas (.refl ..) (by decide))

theorem execFragmentReassemblyTimeout_ends {g : Lapse} {ident : Nat} {s : State} :
    Ends [.atlas] (s.pass g) (execFragmentReassemblyTimeout g ident s) :=
  .next (Only.put_atlas (.refl ..) (by decide))
/-! ### Every command -/

/-- A command changes the parts of its list alone, once its time has passed. -/
theorem exec_ends (c : Instr) (s : State) : Ends (touches c) (s.pass (lapseOf c)) (exec c s) := by
  cases c with
  | udpDatagramReceived => exact execUdpDatagramReceived_ends
  | fragmentReassemblyTimeout => exact execFragmentReassemblyTimeout_ends
  | mbxClaim => exact execMbxClaim_ends
  | requestBufferWrite => exact execRequestBufferWrite_ends
  | mbxDoorbellGo => exact execMbxDoorbellGo_ends
  | claimTimeout => exact execClaimTimeout_ends
  | mbxRspAck => exact execMbxRspAck_ends
  | mbxCtrlClrcnt => exact execMbxCtrlClrcnt_ends
  | mbxIrqStatClear => exact execMbxIrqStatClear_ends
  | benchSpiTransaction => exact execBenchSpiTransaction_ends
  | sessionTimeout => exact execSessionTimeout_ends
  | handleKeepExpiry => exact execHandleKeepExpiry_ends
  | keptEventExpiry => exact execKeptEventExpiry_ends
  | nop => exact execNop_ends
  | ident => exact execIdent_ends
  | paramRead => exact execParamRead_ends
  | paramWrite | compositeEnable | compositeDisable | genEnable | mxEnable | cableTest | netsleepEnable | netsleepDisable | appletRun | fwConfirm =>
    exact paramWrite_ends
  | paramReadMulti => exact execParamReadMulti_ends
  | paramWriteSet => exact execParamWriteSet_ends
  | paramDescribe => exact execParamDescribe_ends
  | paramCommit => exact execParamCommit_ends
  | paramCommitDone => exact execParamCommitDone_ends
  | handleQuery => exact execHandleQuery_ends
  | handleCancel => exact execHandleCancel_ends
  | handleRelease => exact execHandleRelease_ends
  | eventSubscribe => exact execEventSubscribe_ends
  | fleetCommit => exact execFleetCommit_ends
  | fleetCommitDone => exact execFleetCommitDone_ends
  | fabricRequest => exact execFabricRequest_ends
  | fabricResponse => exact execFabricResponse_ends
  | fabricTimeout => exact execFabricTimeout_ends
  | domainDrainEnd => exact execDomainDrainEnd_ends
  | paceOpreq | paceVselWrite | paceCapWrite | paceErrClear => exact paceWrite_ends
  | voltageSettled => exact execVoltageSettled_ends
  | capWindowBoundary => exact execCapWindowBoundary_ends
  | droopStart => exact execDroopStart_ends
  | droopEnd => exact execDroopEnd_ends
  | pllLock => exact execPllLock_ends
  | pllFallback => exact execPllFallback_ends
  | pllFallbackEnd => exact execPllFallbackEnd_ends
  | tbNowLoRead => exact execTbNowLoRead_ends
  | tbAonLoRead => exact execTbAonLoRead_ends
  | aonCalibration => exact execAonCalibration_ends
  | chanOff => exact execChanOff_ends
  | chanOn | chanLow | chanForward | chanReverse => exact turnOn_ends
  | chanBrake => exact execChanBrake_ends
  | chanClear => exact execChanClear_ends
  | chanPulse => exact execChanPulse_ends
  | commandDeadline => exact execCommandDeadline_ends
  | deadTimeEnd => exact execDeadTimeEnd_ends
  | inrushEnd => exact execInrushEnd_ends
  | limitUpdate => exact execLimitUpdate_ends
  | reversalBrakeEnd => exact execReversalBrakeEnd_ends
  | fastTrip => exact execFastTrip_ends
  | overcurrent => exact execOvercurrent_ends
  | stall => exact execStall_ends
  | stallAllowanceEnd => exact execStallAllowanceEnd_ends
  | i2tModelStep => exact execI2tModelStep_ends
  | deltaT => exact execDeltaT_ends
  | tjShutdown => exact execTjShutdown_ends
  | inrushTimeout => exact execInrushTimeout_ends
  | retryConditionsMet => exact execRetryConditionsMet_ends
  | confirmationWindowEnd => exact execConfirmationWindowEnd_ends
  | offComplete => exact execOffComplete_ends
  | feedLost => exact execFeedLost_ends
  | feedRestored => exact execFeedRestored_ends
  | feedLostAbandon => exact execFeedLostAbandon_ends
  | overvoltage => exact execOvervoltage_ends
  | reverseCurrent => exact execReverseCurrent_ends
  | reverseCurrentEnd => exact execReverseCurrentEnd_ends
  | sagStart => exact execSagStart_ends
  | sagEnd => exact execSagEnd_ends
  | sagInrushTimeout => exact execSagInrushTimeout_ends
  | offStateTestStart => exact execOffStateTestStart_ends
  | offStatePullupOn => exact execOffStatePullupOn_ends
  | offStateTestEnd => exact execOffStateTestEnd_ends
  | periodBoundary => exact execPeriodBoundary_ends
  | pulseOnEdge => exact execPulseOnEdge_ends
  | pulseOffEdge => exact execPulseOffEdge_ends
  | arbiterPass => exact execArbiterPass_ends
  | modelStep g tcase steps => exact execModelStep_ends (g := g) (tcase := tcase) (steps := steps)
  | trueUp g ms => exact execTrueUp_ends (g := g) (ms := ms)
  | divergenceCheck => exact execDivergenceCheck_ends
  | blockTimeout => exact execBlockTimeout_ends
  | contourWindowEnd => exact execContourWindowEnd_ends
  | contourDatagramSend => exact execContourDatagramSend_ends
  | valveOff => exact execValveOff_ends
  | valveAct => exact execValveAct_ends
  | valveClear => exact execValveClear_ends
  | valveDeadline => exact execValveDeadline_ends
  | boostEnd => exact execBoostEnd_ends
  | tpeakEnd => exact execTpeakEnd_ends
  | tholdExpiry => exact execTholdExpiry_ends
  | valveConfirmationEnd => exact execValveConfirmationEnd_ends
  | chopCycleStart => exact execChopCycleStart_ends
  | chopLevelReached => exact execChopLevelReached_ends
  | cycleRecord => exact execCycleRecord_ends
  | valveTrip => exact execValveTrip_ends
  | openCoil => exact execOpenCoil_ends
  | valveRetryConditions => exact execValveRetryConditions_ends
  | bankFeedLost => exact execBankFeedLost_ends
  | valveOffComplete => exact execValveOffComplete_ends
  | railAvailable => exact execRailAvailable_ends
  | railFault => exact execRailFault_ends
  | railLow => exact execRailLow_ends
  | lightFrame => exact execLightFrame_ends
  | chainFrameStart => exact execChainFrameStart_ends
  | chainFrameEnd => exact execChainFrameEnd_ends
  | matrixFrameBoundary => exact execMatrixFrameBoundary_ends
  | rowSlotStart => exact execRowSlotStart_ends
  | columnIntervalEnd => exact execColumnIntervalEnd_ends
  | rowTrip => exact execRowTrip_ends
  | matrixRestart => exact execMatrixRestart_ends
  | matrixConfirmEnd => exact execMatrixConfirmEnd_ends
  | ntcConversion => exact execNtcConversion_ends
  | runSampleCycle => exact execRunSampleCycle_ends
  | surveyCycle => exact execSurveyCycle_ends
  | powerReqRun => exact execPowerReqRun_ends
  | powerReqHold => exact execPowerReqHold_ends
  | powerReqPark => exact execPowerReqPark_ends
  | powerReqDormant => exact execPowerReqDormant_ends
  | entryOffsComplete => exact execEntryOffsComplete_ends
  | entryCompletionSent => exact execEntryCompletionSent_ends
  | wakeDuringEntry => exact execWakeDuringEntry_ends
  | canWakePattern => exact execCanWakePattern_ends
  | selectiveWake => exact execSelectiveWake_ends
  | selectiveWakeErrorLimit => exact execSelectiveWakeErrorLimit_ends
  | linWake | benchWake => exact wakeNow_ends
  | tc10Wake => exact execTc10Wake_ends
  | speWake => exact execSpeWake_ends
  | twinPartnerWake => exact execTwinPartnerWake_ends
  | alarm => exact execAlarm_ends
  | lgdCtrlClr => exact execLgdCtrlClr_ends
  | feedBelowPd0 => exact execFeedBelowPd0_ends
  | feedStart => exact execFeedStart_ends
  | canFrameReceived => exact execCanFrameReceived_ends
  | canFrameSent g n sof delay => exact execCanFrameSent_ends (sof := sof)
  | canArbitrationLost => exact execCanArbitrationLost_ends
  | canError => exact execCanError_ends
  | busOffRecovered => exact execBusOffRecovered_ends
  | ringDeliver => exact execRingDeliver_ends
  | tunnelFlush => exact execTunnelFlush_ends
  | acfCanReceived => exact execAcfCanReceived_ends
  | txRingConsume => exact execTxRingConsume_ends
  | linSlotStart => exact execLinSlotStart_ends
  | linNoResponse => exact execLinNoResponse_ends
  | linHeaderReceived => exact execLinHeaderReceived_ends
  | linFrameReceived => exact execLinFrameReceived_ends
  | linPublishWrite => exact execLinPublishWrite_ends
  | ethLinkUp => exact execEthLinkUp_ends
  | ethLinkDown => exact execEthLinkDown_ends
  | cableTestDone => exact execCableTestDone_ends
  | plcaLost => exact execPlcaLost_ends
  | switchFrameIngress => exact execSwitchFrameIngress_ends
  | addressAgeing => exact execAddressAgeing_ends
  | gptpSync => exact execGptpSync_ends
  | meridianHoldExpiry => exact execMeridianHoldExpiry_ends
  | meridianCycleDue => exact execMeridianCycleDue_ends
  | referenceSent => exact execReferenceSent_ends
  | keepAliveReceived => exact execKeepAliveReceived_ends
  | keepAliveSend => exact execKeepAliveSend_ends
  | keepAliveTimeout => exact execKeepAliveTimeout_ends
  | linGoToSleep => exact execLinGoToSleep_ends
  | preCommitSave => exact execPreCommitSave_ends
  | readySleepWaitEnd => exact execReadySleepWaitEnd_ends
  | linWakeupRestart => exact execLinWakeupRestart_ends
  | tc10SleepAckTimeout => exact execTc10SleepAckTimeout_ends
  | falseWakeTimeout => exact execFalseWakeTimeout_ends
  | wakeHoldEnd => exact execWakeHoldEnd_ends
  | waymark => exact execWaymark_ends
  | waymarkMinute => exact execWaymarkMinute_ends
  | search | immo | tmemRead | enrol | calibrate => exact accCmd_ends
  | revoke => exact execRevoke_ends
  | calibrateStep => exact execCalibrateStep_ends
  | lockClear => exact execLockClear_ends
  | roundStart => exact execRoundStart_ends
  | fieldBurst => exact execFieldBurst_ends
  | lfShortTrip => exact execLfShortTrip_ends
  | responseSlotEnd => exact execResponseSlotEnd_ends
  | replyCheck => exact execReplyCheck_ends
  | exchangeBlock => exact execExchangeBlock_ends
  | rangingResult => exact execRangingResult_ends
  | accessDeadline => exact execAccessDeadline_ends
  | lockoutEnd => exact execLockoutEnd_ends
  | failWindowExpiry => exact execFailWindowExpiry_ends
  | feLinkUp => exact execFeLinkUp_ends
  | feLinkDown => exact execFeLinkDown_ends
  | twinLinkUp => exact execTwinLinkUp_ends
  | twinLinkDown => exact execTwinLinkDown_ends
  | linkFrameReceived => exact execLinkFrameReceived_ends
  | linkReplay => exact execLinkReplay_ends
  | twinOutboundRequest => exact execTwinOutboundRequest_ends
  | twinInboundRequest => exact execTwinInboundRequest_ends
  | postedWriteError => exact execPostedWriteError_ends
  | reservationExpiry => exact execReservationExpiry_ends
  | lockBreak => exact execLockBreak_ends
  | ctlInterrupt => exact execCtlInterrupt_ends
  | twinWakePattern => exact execTwinWakePattern_ends
  | intlkLineChange => exact execIntlkLineChange_ends
  | idleClaimTimer => exact execIdleClaimTimer_ends
  | claimCheck => exact execClaimCheck_ends
  | pairStateReport => exact execPairStateReport_ends
  | holdoffEnd => exact execHoldoffEnd_ends
  | intlkRelease => exact execIntlkRelease_ends
  | leaseExpiry => exact execLeaseExpiry_ends
  | forwardedCommand => exact execForwardedCommand_ends
  | pairReport => exact execPairReport_ends
  | reportCompare => exact execReportCompare_ends
  | missingReport => exact execMissingReport_ends
  | takeoverBlocked => exact execTakeoverBlocked_ends
  | proofStart => exact execProofStart_ends
  | proofEnd => exact execProofEnd_ends
  | editionReport => exact execEditionReport_ends
  | intlkCtrlWrite => exact execIntlkCtrlWrite_ends
  | intlkErrClear => exact execIntlkErrClear_ends
  | wordIssue => exact execWordIssue_ends
  | add | sub | and | or | xor | shl | shr | sar | min | max | minu | maxu | mul | mulh | mulhu | div | divu | rem | remu | ld8u | ld8s | ld16u |
    ld16s | ld32 | ld64 | st8 | st16 | st32 | st64 | ldx | stx | fence | beq | bne | blt | bge | bltu | bgeu | jmp | ret | rte | wait | post |
    softwareTrap | crcInit | crcB8 | crcB16 | crcB32 | codecStat | shakeAbsorb | shakeSqueeze | aesEnc | dmaGo | dmaStop | dieGate | dieRb | dieAck |
    vlvLevel | vlvPhase | vlvRail => exact trigger_ends
  | call => exact execCall_ends
  | waitEnd => exact execWaitEnd_ends
  | lateWriteError => exact execLateWriteError_ends
  | dmaDescriptorComplete => exact execDmaDescriptorComplete_ends
  | dmaTransferError => exact execDmaTransferError_ends
  | appletWatchdog => exact execAppletWatchdog_ends
  | appletRestart => exact execAppletRestart_ends
  | dbgHaltreq => exact execDbgHaltreq_ends
  | dbgCoreStep => exact execDbgCoreStep_ends
  | dbgClrRecord => exact execDbgClrRecord_ends
  | dbgClrCounts => exact execDbgClrCounts_ends
  | scrubRead => exact execScrubRead_ends
  | memFlipArm => exact execMemFlipArm_ends
  | memFlipDoneClear => exact execMemFlipDoneClear_ends
  | memClrRecord => exact execMemClrRecord_ends
  | memClrCounts => exact execMemClrCounts_ends
  | imgBegin => exact execImgBegin_ends
  | sectorEraseDone => exact execSectorEraseDone_ends
  | imgBlock => exact execImgBlock_ends
  | granuleProgrammed => exact execGranuleProgrammed_ends
  | imgVerify => exact execImgVerify_ends
  | verifyDone => exact execVerifyDone_ends
  | imgActivateNow | imgActivateArmed | imgActivateDisarm | imgActivateApplet => exact imgActivate_ends
  | activationReset => exact execActivationReset_ends
  | trialConfirmTimer => exact execTrialConfirmTimer_ends
  | debugUnlock => exact execDebugUnlock_ends
  | attestSign => exact execAttestSign_ends
  | attestSignDone => exact execAttestSignDone_ends
  | attestChunk => exact execAttestChunk_ends
  | coldStart => exact execColdStart_ends
  | warmStart => exact execWarmStart_ends
  | bootPhaseAdvance => exact execBootPhaseAdvance_ends
  | supervisorWatchdogService => exact execSupervisorWatchdogService_ends
  | watchdogReset => exact execWatchdogReset_ends
  | logicSupplyReset => exact execLogicSupplyReset_ends
  | holdWindowExpiry => exact execHoldWindowExpiry_ends
  | stormClear => exact execStormClear_ends
  | sequencerRestart => exact execSequencerRestart_ends
  | bootCtrlHoldWrite => exact execBootCtrlHoldWrite_ends
  | registerWrite => exact execRegisterWrite_ends
  | canIntegration => exact execCanIntegration_ends
  | plcaBeaconReturn => exact execPlcaBeaconReturn_ends
  | linBusIdle => exact execLinBusIdle_ends
  | tc10SleepAck => exact execTc10SleepAck_ends
  | waymarkRunEnd => exact execWaymarkRunEnd_ends
  | stuckLow => exact execStuckLow_ends
  | switchOverCauseTimeout => exact execSwitchOverCauseTimeout_ends
  | bootRecordWritten => exact execBootRecordWritten_ends

/-- Settles O59, from the frame of each command. -/
theorem frames : Obligations.Frames := by
  intro c s t h p _ hp
  have ends := exec_ends c s
  rw [h] at ends
  obtain ⟨only⟩ := ends
  exact only.same p hp

/-! ### O60: the queue and the bytes -/

/-- No command's list names the queue. -/
theorem pending_notMem_touches (c : Instr) : Part.pending ∉ touches c := by
  unfold touches
  split <;> decide

/-- Every command answers a next state that differs from the state before it, its time passed, in the parts of its list alone. -/
theorem exec_only (c : Instr) (s : State) : Does c s (fun t => Only (touches c) (s.pass (lapseOf c)) t) := by
  generalize h : exec c s = o
  have ends := exec_ends c s
  rw [h] at ends
  obtain ⟨only⟩ := ends
  exact ⟨_, h, only⟩

/-- A byte reads the same in two states with the same bytes. -/
theorem State.byteAt_of_same {s t : State} (h : Part.bytes.same s t) (a : Nat) : t.byteAt a = s.byteAt a := by
  obtain ⟨hcells, -, hepoch⟩ := h
  unfold State.byteAt
  rw [hcells, hepoch]

/-- Every step answers a next state. -/
theorem step_goes (s : State) : Goes (step s) := by
  cases h : s.pending with
  | nil => exact ⟨s, step_of_pending_nil h⟩
  | cons c rest =>
    obtain ⟨t, ht, -⟩ := exec_only c { s with pending := rest }
    exact ⟨t, (step_of_pending_cons h).trans ht⟩

/-- Settles O60, from the frame of each command: the queue is in no list, and time that passes leaves the queue and the bytes. -/
theorem queueAndBytes : Obligations.QueueAndBytes := by
  refine ⟨fun c s => ?_, step_goes, fun c s hb => ?_⟩
  · obtain ⟨t, ht, only⟩ := exec_only c s
    exact ⟨t, ht, only.same .pending (pending_notMem_touches c)⟩
  · obtain ⟨t, ht, only⟩ := exec_only c s
    exact ⟨t, ht, State.byteAt_of_same (s := s.pass (lapseOf c)) (only.same .bytes hb)⟩

end Sys2Proof.Machine
end

section
/-!
PROOFS. The pace governor (02 R50 to R54): what a write of each register of a record and each event make of the record, then O1 and O2.
-/
namespace Sys2Proof.Machine

/-! ### The record under a write (02 R51, R52) -/

/-- While a sequence runs, each of the three writes is refused with REFUSE_BUSY. -/
theorem PaceRec.writes_of_busy {r : PaceRec} (n : Nat) (h : r.busy = true) :
    r.opReq n = { r with err := r.err ||| 4 } ∧ r.vWrite n = { r with err := r.err ||| 4 } ∧ r.capWrite n = { r with err := r.err ||| 4 } := by
  simp [PaceRec.opReq, PaceRec.vWrite, PaceRec.capWrite, h]

/-- OPREQ without a running sequence, as a choice by the point in force. -/
theorem PaceRec.opReq_of_idle {r : PaceRec} {n : Nat} (h : r.busy = false) : r.opReq n =
    if r.opCur < n then
      if r.settled = true ∧ n = r.vsel then { r with opreq := n, cap := n }
      else { r with opreq := n, vsel := n, settled := false, seq := .raise n }
    else if n < r.opCur then { r with opreq := n, cap := n, seq := .lower n }
    else { r with opreq := n } := by
  have hcur : PaceRec.opCur { r with opreq := n } = r.opCur := rfl
  simp only [PaceRec.opReq, h, Bool.false_eq_true, if_false, hcur, PaceRec.setV]
  by_cases hv : r.settled = true ∧ n = r.vsel
  · simp [hv]
  · by_cases hs : r.settled <;> simp_all

/-- A write of the voltage without a running sequence. -/
theorem PaceRec.vWrite_of_idle {r : PaceRec} {n : Nat} (h : r.busy = false) : r.vWrite n =
    if n < r.vsel ∧ n < r.capIf then { r with err := r.err ||| 1 }
    else { r with vsel := n, settled := r.settled && decide (n = r.vsel) } := by
  simp [PaceRec.vWrite, h, PaceRec.setV]

/-- A write of the cap without a running sequence. -/
theorem PaceRec.capWrite_of_idle {r : PaceRec} {n : Nat} (h : r.busy = false) : r.capWrite n =
    if r.cap < n ∧ (r.settled = false ∨ r.volt < n) then { r with err := r.err ||| 2 } else { r with cap := n } := by
  simp [PaceRec.capWrite, h]

/-- A W1C write of PACE_ERR. -/
theorem PaceRec.errClear_eq (r : PaceRec) (mask : Nat) :
    r.errClear mask = { r with err := r.err - (r.err &&& mask), droopCnt := if mask.testBit 3 then 0 else r.droopCnt } := by
  unfold PaceRec.errClear
  split <;> simp [*]

/-! ### The state under a write -/

/-- The supervisor's write of a register of a paced domain's record reaches the record. -/
theorem State.paceWrite_super {u : State} {p : Fin 16} {off : Nat} (f : PaceRec → PaceRec) (hpd : u.pd 3 = true)
    (hopen : u.fab.closed.testBit 3 = false) (hp : paced p = true) (hoff : off ∈ [0, 4, 8, 0x10]) :
    u.paceWrite .super p off f = u.modPace p (fun _ => f (u.paceOf p)) := by
  have port : ∀ p : Fin 16, ∀ off ∈ [0, 4, 8, 0x10], (blockAt (0x40060100 + 0x20 * p + off)).map (fun b => b.2.2.1) = some 3 := by decide
  have hclosed : u.portClosed (0x40060100 + 0x20 * p + off) = false := by
    obtain ⟨b, hb, h3⟩ := Option.map_eq_some_iff.mp (port p off hoff)
    simp [State.portClosed, hb, h3, hopen]
  simp [State.paceWrite, State.superWrite, hpd, hclosed, hp, State.modPace]

section
variable {s : State} {g : Lapse} {p : Fin 16} {x : PaceRec} {n : Nat} (hpd : (s.pass g).pd 3 = true)
  (hopen : (s.pass g).fab.closed.testBit 3 = false) (hp : paced p = true)
include hpd hopen hp

theorem does_paceOpreq (hn : n < 4) (h : ((s.pass g).paceOf p).opReq n = x) :
    Does (.paceOpreq g .super p n) s (fun t => t = (s.pass g).modPace p (fun _ => x)) :=
  ⟨_, rfl, by rw [State.paceWrite_super _ hpd hopen hp (by decide), Nat.mod_eq_of_lt hn, h]⟩

theorem does_paceVselWrite (hn : n < 4) (h : ((s.pass g).paceOf p).vWrite n = x) :
    Does (.paceVselWrite g .super p n) s (fun t => t = (s.pass g).modPace p (fun _ => x)) :=
  ⟨_, rfl, by rw [State.paceWrite_super _ hpd hopen hp (by decide), Nat.mod_eq_of_lt hn, h]⟩

theorem does_paceCapWrite (hn : n < 4) (h : ((s.pass g).paceOf p).capWrite n = x) :
    Does (.paceCapWrite g .super p n) s (fun t => t = (s.pass g).modPace p (fun _ => x)) :=
  ⟨_, rfl, by rw [State.paceWrite_super _ hpd hopen hp (by decide), Nat.mod_eq_of_lt hn, h]⟩

theorem does_paceErrClear (h : ((s.pass g).paceOf p).errClear n = x) :
    Does (.paceErrClear g .super p n) s (fun t => t = (s.pass g).modPace p (fun _ => x)) :=
  ⟨_, rfl, by rw [State.paceWrite_super _ hpd hopen hp (by decide), h]⟩

end

/-- Settles O1, by the record that each write leaves. -/
theorem paceWrites : Obligations.PaceWrites := by
  intro s g p n hpd hopen hp hn u r becomes
  and_intros
  · intro busy c hc
    obtain ⟨hreq, hv, hcap⟩ := PaceRec.writes_of_busy (r := r) n busy
    simp only [List.mem_cons, List.not_mem_nil, or_false] at hc
    obtain rfl | rfl | rfl := hc
    · exact does_paceOpreq hpd hopen hp hn hreq
    · exact does_paceVselWrite hpd hopen hp hn hv
    · exact does_paceCapWrite hpd hopen hp hn hcap
  · intro idle rise new
    refine does_paceOpreq hpd hopen hp hn ((PaceRec.opReq_of_idle idle).trans ?_)
    rw [if_pos rise, if_neg (by rintro ⟨hs, hv⟩; simp_all)]
  · intro idle rise settled same
    refine does_paceOpreq hpd hopen hp hn ((PaceRec.opReq_of_idle idle).trans ?_)
    rw [if_pos rise, if_pos ⟨settled, same⟩]
  · intro idle fall
    refine does_paceOpreq hpd hopen hp hn ((PaceRec.opReq_of_idle idle).trans ?_)
    rw [if_neg (by omega), if_pos fall]
  · intro idle same
    refine does_paceOpreq hpd hopen hp hn ((PaceRec.opReq_of_idle idle).trans ?_)
    rw [if_neg (by omega), if_neg (by omega)]
  · intro idle fall low
    exact does_paceVselWrite hpd hopen hp hn ((PaceRec.vWrite_of_idle idle).trans (if_pos ⟨fall, low⟩))
  · intro idle taken
    exact does_paceVselWrite hpd hopen hp hn ((PaceRec.vWrite_of_idle idle).trans (if_neg (by omega)))
  · intro idle rise unsettled
    exact does_paceCapWrite hpd hopen hp hn ((PaceRec.capWrite_of_idle idle).trans (if_pos ⟨rise, unsettled⟩))
  · intro idle taken
    refine does_paceCapWrite hpd hopen hp hn ((PaceRec.capWrite_of_idle idle).trans (if_neg ?_))
    rintro ⟨rise, unsettled⟩
    obtain low | ⟨settled, high⟩ := taken
    · omega
    · exact unsettled.elim (by simp [settled]) (by omega)
  · exact fun mask => does_paceErrClear hpd hopen hp (PaceRec.errClear_eq r mask)

/-! ### The record under an event (02 R52 to R54) -/

/-- The voltage settles: a sequence that waited for it ends. -/
theorem PaceRec.settle_of_raise {r : PaceRec} {n : Nat} (h : r.seq = .raise n) :
    r.settle = { r with volt := r.vsel, settled := true, cap := n, seq := .idle } := by
  simp only [PaceRec.settle, h]

theorem PaceRec.settle_of_settle {r : PaceRec} {n : Nat} (h : r.seq = .settle n) :
    r.settle = { r with volt := r.vsel, settled := true, seq := .idle } := by
  simp only [PaceRec.settle, h]

theorem PaceRec.settle_of_idle {r : PaceRec} (h : r.seq = .idle) : r.settle = { r with volt := r.vsel, settled := true } := by
  simp only [PaceRec.settle, h]

/-- A window boundary without a sequence. -/
theorem PaceRec.boundary_of_idle {r : PaceRec} (h : r.seq = .idle) :
    r.boundary = { r with capIf := r.cap, droopCap := r.droopCap && r.droop } := by
  simp only [PaceRec.boundary, h]

/-- A window boundary of a lowering sequence: it asks for its voltage, or ends where that has settled. -/
theorem PaceRec.boundary_of_lower {r : PaceRec} {n : Nat} (h : r.seq = .lower n) : r.boundary =
    if r.settled = true ∧ n = r.vsel then { r with capIf := r.cap, droopCap := r.droopCap && r.droop, seq := .idle }
    else { r with capIf := r.cap, droopCap := r.droopCap && r.droop, vsel := n, settled := false, seq := .settle n } := by
  simp only [PaceRec.boundary, h, PaceRec.setV]
  by_cases hv : r.settled = true ∧ n = r.vsel
  · simp [hv]
  · by_cases hs : r.settled <;> simp_all

/-! ### The state under an event -/

section
variable {s : State} {g : Lapse} {p : Fin 16} {x : PaceRec} (hp : paced p = true)
include hp

theorem does_voltageSettled (unsettled : ((s.pass g).paceOf p).settled = false) (h : ((s.pass g).paceOf p).settle = x) :
    Does (.voltageSettled g p) s (fun t => t = (s.pass g).modPace p (fun _ => x)) :=
  ⟨_, rfl, by simp [hp, unsettled, State.modPace, h]⟩

theorem does_capWindowBoundary (boundary : (s.pass g).now % 64 = 0) (h : ((s.pass g).paceOf p).boundary = x) :
    Does (.capWindowBoundary g p) s (fun t => t = (s.pass g).modPace p (fun _ => x)) :=
  ⟨_, rfl, by simp [hp, boundary, State.modPace, h]⟩

end

theorem State.paceOf_modBoot (s : State) (f : Boot → Boot) (q : Nat) : (s.modBoot f).paceOf q = s.paceOf q := rfl

/-- An event's report leaves the pace records. -/
theorem State.emit_paceOf (s : State) (cls unit code : Nat) (detail : List Byte) (q : Nat) : (s.emit cls unit code detail).paceOf q = s.paceOf q := by
  have same : (s.emit cls unit code detail).pace = s.pace := (State.emit_only (.refl [.atlas, .evs, .ctl] s) (by decide)).same .pace (by decide)
  rw [State.paceOf, State.paceOf, same]

/-- An event's report leaves the boot records. -/
theorem State.emit_boot (s : State) (cls unit code : Nat) (detail : List Byte) : (s.emit cls unit code detail).boot = s.boot :=
  (State.emit_only (.refl [.atlas, .evs, .ctl] s) (by decide)).same .boot (by decide)

/-- DROOP_START of a domain that is on. -/
theorem exec_droopStart {s : State} {g : Lapse} {p : Fin 16} (hp : paced p = true) (idle : ((s.pass g).paceOf p).droop = false)
    (on : (s.pass g).pd p = true) : exec (.droopStart g p) s = .next (((s.pass g).modPace p (fun r =>
      { r with droop := true, droopCap := true, err := r.err ||| 8, droopCnt := satInc 0xFFFF r.droopCnt })).modBoot (fun b =>
      { b with droopAt := b.droopAt.setIfInBounds p (s.pass g).now })) := by
  show execDroopStart g p s = _
  simp [execDroopStart, hp, idle, on]
  rfl

/-- The report at a droop's end, which a domain sends at most once per second (17 R436). -/
def State.droopReport (s : State) (p : Nat) : State :=
  let due := match s.boot.droopEv.toList.getD p none with | none => true | some t => s.expired t 200000000
  if due then
    (s.modBoot (fun b => { b with droopEv := b.droopEv.setIfInBounds p (some s.now) })).emit 10 p 1
      (leBytes 4 (s.now - s.boot.droopAt.toList.getD p 0) ++ leBytes 2 (s.paceOf p).droopCnt ++ leBytes 2 0)
  else s

/-- DROOP_END of a domain in a droop. -/
theorem exec_droopEnd {s : State} {g : Lapse} {p : Fin 16} (hp : paced p = true) (droop : ((s.pass g).paceOf p).droop = true) :
    exec (.droopEnd g p) s = .next (((s.pass g).modPace p (fun r => { r with droop := false })).droopReport p) := by
  show execDroopEnd g p s = _
  simp only [execDroopEnd, hp, droop, Bool.not_true, Bool.or_self, Bool.false_eq_true, if_false]
  exact (apply_ite Host.Outcome.next _ _ _).symm

theorem State.paceOf_droopReport (s : State) (p q : Nat) : (s.droopReport p).paceOf q = s.paceOf q := by
  unfold State.droopReport
  extract_lets due
  split
  · exact State.emit_paceOf ..
  · rfl

/-- The report keeps its tick; one within the last second is the one that stays. -/
theorem State.droopEv_droopReport (s : State) (p : Fin 16) :
    (s.droopReport p).boot.droopEv.toList.getD p none = (match s.boot.droopEv.toList.getD p none with
      | some k => if s.now < k + 200000000 then some k else some s.now
      | none => some s.now) := by
  have sent : ∀ detail, ((s.modBoot (fun b => { b with droopEv := b.droopEv.setIfInBounds p (some s.now) })).emit 10 p 1
      detail).boot.droopEv.toList.getD p none = some s.now := by
    intro detail
    rw [State.emit_boot]
    exact (getD_setIfInBounds ..).trans (if_pos ⟨rfl, p.isLt⟩)
  unfold State.droopReport
  cases last : s.boot.droopEv.toList.getD p none with
  | none => exact sent _
  | some k =>
    by_cases h : s.now < k + 200000000
    · have early : s.expired k 200000000 = false := by simp [State.expired, h]
      simp only [early, Bool.false_eq_true, if_false, h, if_true, last]
    · have due : s.expired k 200000000 = true := by simp [State.expired]; omega
      simp only [due, if_true, h, if_false, sent]

/-- Settles O2, by the record that each event leaves. -/
theorem paceEvents : Obligations.PaceEvents := by
  intro s g p hp u r becomes
  and_intros
  · exact fun n unsettled seq => does_voltageSettled hp unsettled (PaceRec.settle_of_raise seq)
  · exact fun n unsettled seq => does_voltageSettled hp unsettled (PaceRec.settle_of_settle seq)
  · exact fun unsettled seq => does_voltageSettled hp unsettled (PaceRec.settle_of_idle seq)
  · exact fun boundary seq => does_capWindowBoundary hp boundary (PaceRec.boundary_of_idle seq)
  · intro n boundary seq new
    refine does_capWindowBoundary hp boundary ((PaceRec.boundary_of_lower seq).trans (if_neg ?_))
    rintro ⟨settled, same⟩
    simp_all
  · exact fun n boundary seq settled same => does_capWindowBoundary hp boundary ((PaceRec.boundary_of_lower seq).trans (if_pos ⟨settled, same⟩))
  · intro idle on
    refine ⟨_, exec_droopStart hp idle on, ?_, ?_, fun q hq => ?_⟩
    · rw [State.paceOf_modBoot]
      exact (State.paceOf_modPace ..).trans (if_pos ⟨rfl, p.isLt⟩)
    · exact (getD_setIfInBounds ..).trans (if_pos ⟨rfl, p.isLt⟩)
    · rw [State.paceOf_modBoot]
      exact (State.paceOf_modPace ..).trans (if_neg (fun h => hq h.1.symm))
  · intro droop
    refine ⟨_, exec_droopEnd hp droop, ?_, fun q hq => ?_, ?_⟩
    · rw [State.paceOf_droopReport]
      exact (State.paceOf_modPace ..).trans (if_pos ⟨rfl, p.isLt⟩)
    · rw [State.paceOf_droopReport]
      exact (State.paceOf_modPace ..).trans (if_neg (fun h => hq h.1.symm))
    · exact State.droopEv_droopReport ..

end Sys2Proof.Machine
end

section
/-!
PROOFS. The time base (02 R55 to R58): how time passes, the lock and the fallback of the PLL, the calibration and the latches; O3 and O4.
-/
namespace Sys2Proof.Machine

/-! ### Time passes (02 R55, R57) -/

/-- While PD3 is on and the PLL has locked, and the device is not OFF, both counters advance. -/
theorem State.pass_of_run {s : State} (g : Lapse) (run : s.clk.run = true) (on : s.pd 3 = true) (up : s.pwr.st ≠ .off) :
    s.pass g = { s with clk := { s.clk with tb := s.clk.tb + g.tk, aon := (s.clk.aon + g.aon) % 2 ^ 48 } } := by
  simp [State.pass, run, on, up]

/-- The ticks by which the time base advances. -/
theorem State.pass_tb (s : State) (g : Lapse) : (s.pass g).clk.tb = s.clk.tb + if s.clk.run && s.pd 3 then g.tk else 0 := rfl

/-- While the device is OFF the AON counter stands. -/
theorem State.pass_aon_of_off {s : State} (g : Lapse) (off : s.pwr.st = .off) (h : s.clk.aon < 2 ^ 48) : (s.pass g).clk.aon = s.clk.aon := by
  simp only [State.pass, off, if_true, Nat.add_zero]
  exact Nat.mod_eq_of_lt h

/-- Settles O4, by the advance of each counter; every part but the clocks is as it was. -/
theorem timePasses : Obligations.TimePasses := by
  refine fun s g => ⟨State.pass_of_run g, fun stopped => ?_, ?_, State.pass_aon_of_off g, fun p hp => ?_⟩
  · rw [State.pass_tb, if_neg (by rcases stopped with h | h <;> simp [h]), Nat.add_zero]
  · rw [State.pass_tb]
    exact Nat.le_add_right ..
  · exact (State.pass_only (l := [.clk]) (.refl ..) (by decide)).same p (by simpa using hp)

/-! ### The PLL (02 R55, R56) -/

/-- A time base that runs is not started again. -/
theorem State.startTb_of_run {u : State} (run : u.clk.run = true) : u.startTb = u := by
  simp [State.startTb, run]

/-- After a cold start the time base starts from where it stands, and the first span with it. -/
theorem State.startTb_of_cold {u : State} (stopped : u.clk.run = false) (cold : u.boot.cold = true) :
    u.startTb = { u with clk := { u.clk with run := true, calAon := u.clk.aon, calTb := u.now } } := by
  simp [State.startTb, stopped, cold, State.spanStart]

/-- An event's report leaves the clocks. -/
theorem State.emit_clk (s : State) (cls unit code : Nat) (detail : List Byte) : (s.emit cls unit code detail).clk = s.clk :=
  (State.emit_only (.refl [.atlas, .evs, .ctl] s) (by decide)).same .clk (by decide)

section
variable {s : State} {g : Lapse}

/-- PLL_LOCK where it is an event. -/
theorem exec_pllLock (on : (s.pass g).pd 3 = true) (unlocked : (s.pass g).clk.lock = false) (own : (s.pass g).clk.fallback = false) :
    exec (.pllLock g) s = .next (s.pass g).pllLock := by
  show execPllLock g s = _
  simp [execPllLock, on, unlocked, own]

/-- PLL_FALLBACK where it is an event. -/
theorem exec_pllFallback (on : (s.pass g).pd 3 = true) (run : (s.pass g).clk.run = true) (own : (s.pass g).clk.fallback = false) :
    exec (.pllFallback g) s = .next ((s.pass g).pllFallback.fallbackEvent 1) := by
  show execPllFallback g s = _
  simp [execPllFallback, on, run, own]

/-- PLL_FALLBACK_END where it is an event. -/
theorem exec_pllFallbackEnd (back : (s.pass g).clk.fallback = true) : exec (.pllFallbackEnd g) s =
    .next (({ s.pass g with clk := { (s.pass g).clk with lock := true, fallback := false } } : State).fallbackEvent 2) := by
  show execPllFallbackEnd g s = _
  simp [execPllFallbackEnd, back]

/-! ### The calibration (02 R57) -/

/-- At the end of a span the ticks of the span become the calibration, and the next span starts. -/
theorem exec_aonCalibration_of_span (on : (s.pass g).pd 3 = true) (run : (s.pass g).clk.run = true)
    (span : (s.pass g).aonSince (s.pass g).clk.calAon = 32768) (fits : (s.pass g).now - (s.pass g).clk.calTb < 2 ^ 32) :
    exec (.aonCalibration g ((s.pass g).now - (s.pass g).clk.calTb)) s = .next { s.pass g with clk := { (s.pass g).clk with
      aonCal := (s.pass g).now - (s.pass g).clk.calTb, calValid := true, calAon := (s.pass g).clk.aon, calTb := (s.pass g).now } } := by
  show execAonCalibration g _ s = _
  simp only [execAonCalibration, on, run, span, State.spanStart, Nat.mod_eq_of_lt fits]
  simp
  rfl

/-- Within a span there is no calibration. -/
theorem exec_aonCalibration_of_within (n : Nat) (within : (s.pass g).aonSince (s.pass g).clk.calAon < 32768) :
    exec (.aonCalibration g n) s = .next (s.pass g) := by
  show execAonCalibration g n s = _
  simp [execAonCalibration, within]

end

/-- Settles O3, by the state after each event of the PLL, of the calibration and of the latches. -/
theorem timeBaseEvents : Obligations.TimeBaseEvents := by
  intro s g u
  and_intros
  · intro on unlocked own run
    exact ⟨_, exec_pllLock on unlocked own, by rw [State.pllLock, State.startTb_of_run run]⟩
  · intro on unlocked own stopped cold
    exact ⟨_, exec_pllLock on unlocked own, by rw [State.pllLock, State.startTb_of_cold stopped cold]⟩
  · intro on run own
    have fell : u.pllFallback = { u with clk := { u.clk with lock := false, fallback := true } } := by
      rw [State.pllFallback, State.startTb_of_run run]
    refine ⟨_, exec_pllFallback on run own, ?_, ?_⟩
    · exact (State.emit_clk ..).trans (congrArg State.clk fell)
    · rw [fell]
      rfl
  · exact fun back => ⟨_, exec_pllFallbackEnd back, State.emit_clk .., rfl⟩
  · exact fun on run span fits => ⟨_, exec_aonCalibration_of_span on run span fits, rfl⟩
  · exact fun n _ _ within => ⟨_, exec_aonCalibration_of_within n within, rfl⟩
  · rintro p (rfl | rfl)
    · exact ⟨⟨_, rfl, rfl⟩, ⟨_, rfl, rfl⟩⟩
    · exact ⟨⟨_, rfl, rfl⟩, ⟨_, rfl, rfl⟩⟩

end Sys2Proof.Machine
end

section
/-!
PROOFS. The fabric (02 R36 to R45): what an early code, the arbiter, a response and a timeout do, then O15; the store of a write to system
SRAM, then O16.
-/
namespace Sys2Proof.Machine

/-! ### What a request gets on the way (02 R36, R37, R40) -/

section
variable {w : State} {r : FabReq} {p : Nat}

theorem State.earlyCode_of_misaligned (h : aligned r.addr r.size = false) : w.earlyCode r = some 4 := by
  simp [State.earlyCode, h]

theorem State.earlyCode_of_reserved (h : aligned r.addr r.size = true) (hd : addrDomain r.addr = none) : w.earlyCode r = some 1 := by
  simp [State.earlyCode, h, hd]

theorem State.earlyCode_of_off (h : aligned r.addr r.size = true) (hd : addrDomain r.addr = some p)
    (off : w.pd p = false ∨ w.fab.closed.testBit p = true) : w.earlyCode r = some 2 := by
  simp [State.earlyCode, h, hd, off]

theorem State.earlyCode_of_open (h : aligned r.addr r.size = true) (hd : addrDomain r.addr = some p) (on : w.pd p = true)
    (isOpen : w.fab.closed.testBit p = false) : w.earlyCode r = none := by
  simp [State.earlyCode, h, hd, on, isOpen]

end

/-- FABRIC_REQUEST while PD3 is on. -/
theorem exec_fabricRequest {s : State} {g : Lapse} {r : FabReq} {b : Bool} (on : (s.pass g).pd 3 = true) :
    exec (.fabricRequest g r b) s = .next ((s.pass g).request r b) := by
  show execFabricRequest g r b s = _
  simp [execFabricRequest, on]

/-- A request with an early code is answered with it and reaches no target. -/
theorem State.request_of_early {u : State} {r : FabReq} {b : Bool} {c : Nat} (h : u.serveOlder.earlyCode r = some c) :
    u.request r b = u.serveOlder.inService r (.answered c 0) := by
  simp only [State.request, h]

/-- A request to a target of this device waits at the arbiter, or at a target that does not answer. -/
theorem State.request_of_local {u : State} {r : FabReq} {b : Bool} (h : u.serveOlder.earlyCode r = none) (own : inTwin r.addr = false) :
    u.request r b = u.serveOlder.inService r (if b then .waiting else .silent) := by
  simp only [State.request, h, own, Bool.false_eq_true, if_false]

/-- A request to the twin window goes to the bridge; the bridge's own port is denied. -/
theorem State.request_of_twin {u : State} {r : FabReq} {b : Bool} (h : u.serveOlder.earlyCode r = none) (twin : inTwin r.addr = true) :
    u.request r b = if r.port = 7 then u.serveOlder.inService r (.answered 3 0) else u.serveOlder.twinOut r u.serveOlder.now := by
  simp only [State.request, h, twin, if_true]

/-! ### The arbiter's choice (02 R43 to R45) -/

/-- The place of a request within its port: its unit, at port 2 counted from the rotation pointer. -/
def FabEntry.turn (ptr : Nat) (e : FabEntry) : Nat := if e.req.port = 2 then (e.req.unit + 32 - ptr) % 32 else e.req.unit

/-- The order of the arbiter: stamp, port, place within the port. -/
theorem FabEntry.sooner_iff {ptr : Nat} {a b : FabEntry} : a.sooner ptr b = true ↔ a.stamp < b.stamp ∨
    (a.stamp = b.stamp ∧ (a.req.port < b.req.port ∨ (a.req.port = b.req.port ∧ a.turn ptr < b.turn ptr))) := by
  simp [FabEntry.sooner, FabEntry.turn]

/-- What is not sooner than a second, which is not sooner than a third, is not sooner than the third. -/
theorem FabEntry.not_sooner_trans {ptr : Nat} {a b c : FabEntry} (hab : a.sooner ptr b = false) (hbc : b.sooner ptr c = false) :
    a.sooner ptr c = false := by
  rw [← Bool.not_eq_true, FabEntry.sooner_iff] at *
  omega

/-- A request is not sooner than one that it is picked after. -/
theorem FabEntry.not_sooner_of_sooner {ptr : Nat} {a b : FabEntry} (h : a.sooner ptr b = true) : b.sooner ptr a = false := by
  rw [← Bool.not_eq_true, FabEntry.sooner_iff] at *
  omega

theorem FabEntry.not_sooner_self {ptr : Nat} (a : FabEntry) : a.sooner ptr a = false := by
  rw [← Bool.not_eq_true, FabEntry.sooner_iff]
  omega

/-- Nothing is picked from an empty list alone. -/
theorem pickReq_eq_none {ptr : Nat} {l : List (Nat × FabEntry)} (h : pickReq ptr l = none) : l = [] := by
  cases l with
  | nil => rfl
  | cons p l =>
    simp only [pickReq] at h
    split at h
    · simp at h
    · split at h <;> simp at h

/-- The request picked is one of the list, and none of the list is sooner. -/
theorem pickReq_spec {ptr : Nat} {l : List (Nat × FabEntry)} {p : Nat × FabEntry} (h : pickReq ptr l = some p) :
    p ∈ l ∧ ∀ q ∈ l, q.2.sooner ptr p.2 = false := by
  induction l generalizing p with
  | nil => simp [pickReq] at h
  | cons x l ih =>
    cases best : pickReq ptr l with
    | none =>
      obtain rfl := pickReq_eq_none best
      obtain rfl : x = p := by simpa [pickReq] using h
      simpa using FabEntry.not_sooner_self x.2
    | some y =>
      obtain ⟨mem, first⟩ := ih best
      simp only [pickReq, best] at h
      split at h
      next sooner =>
        obtain rfl := Option.some.inj h
        exact ⟨List.mem_cons_of_mem _ mem, List.forall_mem_cons.mpr ⟨FabEntry.not_sooner_of_sooner sooner, first⟩⟩
      next later =>
        obtain rfl := Option.some.inj h
        have later : y.2.sooner ptr x.2 = false := Bool.not_eq_true _ ▸ later
        exact ⟨List.mem_cons_self, List.forall_mem_cons.mpr
          ⟨FabEntry.not_sooner_self _, fun q hq => FabEntry.not_sooner_trans (first q hq) later⟩⟩

/-! ### What the crossbar serves -/

/-- Where nothing waits, the crossbar serves nothing. -/
theorem State.arbitrate_of_none_waiting {u : State} (all : Bool) (k : Nat) (h : ∀ e ∈ u.fab.inflight, e.ans ≠ .waiting) :
    State.arbitrate all k u = u := by
  have ready : u.readyReqs all = [] := by
    refine List.filterMap_eq_nil_iff.mpr (fun p hp => ?_)
    simp [h p.1 (List.fst_mem_of_mem_zipIdx hp)]
  cases k <;> simp [State.arbitrate, ready, pickReq]

/-- The only request, which waits and which nothing holds back, is served. -/
theorem State.serveAll_of_single {u v : State} {r : FabReq} {k c d : Nat} (h : u.fab.inflight = [⟨r, k, .waiting⟩]) (free : u.twin.lock = none)
    (port : r.port ≠ 2) (answer : u.target r = (v, c, d)) (same : v.fab = u.fab) :
    u.serveAll = { v with fab := { v.fab with inflight := [⟨r, k, .answered c d⟩] } } := by
  have ready : u.readyReqs true = [(0, ⟨r, k, .waiting⟩)] := by
    simp [State.readyReqs, h, State.lockHolds, free, State.firstOfOrder]
  simp [State.serveAll, h, State.arbitrate, ready, pickReq, State.serveReq, port, answer, same]

/-! ### Responses (02 R38) -/

/-- A response is what its initiator got last, and an error is recorded and counted. -/
theorem State.respond_fab (u : State) (r : FabReq) (code data : Nat) :
    (u.respond r code data).fab = { u.fab with last := some ⟨r.port, r.unit, code, if r.write then 0 else data⟩ } ∧
    (u.respond r code data).dbg = (if code = 0 then u else u.fabErr code r.port r.addr).dbg ∧ (u.respond r code data).mem = u.mem := by
  unfold State.respond
  extract_lets f v w
  have hfab : w.fab = { u.fab with last := some ⟨r.port, r.unit, code, if r.write then 0 else data⟩ } := by
    simp only [w]
    split <;> rfl
  have hdbg : w.dbg = (if code = 0 then u else u.fabErr code r.port r.addr).dbg := by
    simp only [w]
    split <;> rfl
  have hmem : w.mem = u.mem := by
    simp only [w]
    split <;> rfl
  clear_value w
  split
  · exact ⟨hfab, hdbg, hmem⟩
  · split <;> exact ⟨hfab, hdbg, hmem⟩

/-- A response that is neither Atlas's repeat nor a timeout that Atlas repeats is delivered, and no more. -/
theorem State.delivered_eq_respond {u : State} {r : FabReq} {code data : Nat} (first : r.port = 0 → r.unit ≠ rereadUnit)
    (final : code = 7 → u.atlasRead r = false) : u.delivered r code data = u.respond r code data := by
  have h1 : (decide (r.port = 0) && decide (r.unit = rereadUnit)) = false := by simpa using first
  have h2 : (decide (code = 7) && u.atlasRead r) = false := by simpa using final
  simp [State.delivered, h1, h2]

/-- So it is what its initiator got last. -/
theorem State.delivered_fab {u : State} {r : FabReq} {code data : Nat} (first : r.port = 0 → r.unit ≠ rereadUnit)
    (final : code = 7 → u.atlasRead r = false) :
    (u.delivered r code data).fab = { u.fab with last := some ⟨r.port, r.unit, code, if r.write then 0 else data⟩ } ∧
    (u.delivered r code data).dbg = (if code = 0 then u else u.fabErr code r.port r.addr).dbg ∧ (u.delivered r code data).mem = u.mem := by
  rw [State.delivered_eq_respond first final]
  exact State.respond_fab ..

/-- The only request outstanding, served and in time, has its response delivered. -/
theorem exec_fabricResponse_of_single {s : State} {g : Lapse} {v : State} {e : FabEntry} {c d : Nat} (served : (s.pass g).serveAll = v)
    (h : v.fab.inflight = [e]) (ans : e.ans = .answered c d) (inTime : v.now ≤ e.stamp + 20000) :
    exec (.fabricResponse g e.req.port e.req.unit) s =
      .next (({ v with fab := { v.fab with inflight := [] } } : State).delivered e.req c d) := by
  have ends : v.mayEnd e.req.port e.req.unit 0 = some (e, c, d) := by
    simp [State.mayEnd, h, ans, inTime, State.firstOfOrder]
  show execFabricResponse g e.req.port e.req.unit s = _
  simp [execFabricResponse, served, h, List.range_succ, ends, State.endReq]

/-- The only request outstanding, a read that does not wait, ends with TIMEOUT (02 R39). -/
theorem exec_fabricTimeout_of_single {s : State} {g : Lapse} {e : FabEntry} (h : (s.pass g).fab.inflight = [e]) (ans : e.ans ≠ .waiting)
    (read : e.req.write = false) (late : e.stamp + 20000 ≤ (s.pass g).now) :
    exec (.fabricTimeout g e.req.port e.req.unit) s =
      .next (({ s.pass g with fab := { (s.pass g).fab with inflight := [] } } : State).delivered e.req 7 0) := by
  show execFabricTimeout g e.req.port e.req.unit s = _
  unfold execFabricTimeout
  generalize s.pass g = u at *
  have older : u.serveOlder = u := State.arbitrate_of_none_waiting _ _ (by simpa [h] using ans)
  simp [ older, h, takeFirst, State.expired, late, State.lateWrite, read]

/-- DOMAIN_DRAIN_END of a closed domain whose requests have ended (02 R40). -/
theorem exec_domainDrainEnd {s : State} {g : Lapse} {p : Fin 16} (closed : (s.pass g).fab.closed.testBit p = true) (on : (s.pass g).pd p = true)
    (drained : (s.pass g).portDrained p = true) : exec (.domainDrainEnd g p) s = .next ((s.pass g).lower1 p).goOn := by
  show execDomainDrainEnd g p s = _
  unfold execDomainDrainEnd
  generalize s.pass g = u at *
  simp [closed, on, drained]

/-- Settles O15, by the early codes, the arbiter's choice, and the delivery of the only outstanding request. -/
theorem fabricAccess : Obligations.FabricAccess := by
  intro s g r on u w taken
  have request : ∀ {b a}, u.request r b = w.inService r a → Does (.fabricRequest g r b) s (taken a) :=
    fun h => ⟨_, exec_fabricRequest on, h⟩
  and_intros
  · exact fun b mis => request (State.request_of_early (State.earlyCode_of_misaligned mis))
  · exact fun b al reserved => request (State.request_of_early (State.earlyCode_of_reserved al reserved))
  · refine fun p al hd => ⟨fun off b => request (State.request_of_early (State.earlyCode_of_off al hd off)), ?_, ?_⟩
    · intro up isOpen own
      have early := State.earlyCode_of_open al hd up isOpen
      exact ⟨request (State.request_of_local early own), request (State.request_of_local early own)⟩
    · intro up isOpen twin b
      refine ⟨_, exec_fabricRequest on, ?_⟩
      rw [State.request_of_twin (State.earlyCode_of_open al hd up isOpen) twin]
      split <;> rfl
  · exact fun ptr l p h => pickReq_spec h
  · intro e c d one ans inTime
    have all : u.serveAll = u := State.arbitrate_of_none_waiting _ _ (by simp [one, ans])
    exact ⟨_, exec_fabricResponse_of_single all one ans inTime, rfl⟩
  · intro e c d one ans inTime port error final _
    have all : u.serveAll = u := State.arbitrate_of_none_waiting _ _ (by simp [one, ans])
    refine ⟨_, exec_fabricResponse_of_single all one ans inTime, ?_⟩
    obtain ⟨fab, dbg, -⟩ := State.delivered_fab (u := { u with fab := { u.fab with inflight := [] } }) (r := e.req) (data := d)
      (by omega) (fun h => absurd h final)
    exact ⟨congrArg Fabric.inflight fab, congrArg Fabric.last fab, dbg.trans (by rw [if_neg error]; rfl)⟩
  · intro e one ans port read idle foreign late
    refine ⟨_, exec_fabricTimeout_of_single one ans read late, ?_⟩
    have own : ({ u with fab := { u.fab with inflight := [] } } : State).atlasRead e.req = false := by
      simp [State.atlasRead, port]
      exact fun _ => foreign
    obtain ⟨fab, dbg, -⟩ := State.delivered_fab (r := e.req) (code := 7) (data := 0) (by omega) (fun _ => own)
    exact ⟨congrArg Fabric.inflight fab, (congrArg Fabric.last fab).trans (by simp), dbg⟩
  · exact fun p closed up drained => ⟨_, exec_domainDrainEnd closed up drained, rfl⟩

end Sys2Proof.Machine
end

section
/-!
PROOFS. A store of the supervisor to system SRAM, O16: the bytes of a doubleword as a value, the doubleword that a write stores, the answer
of the target, and the response.
-/
namespace Sys2Proof.Machine

/-! ### Bytes of a value -/

/-- A byte of a value in little-endian bytes. -/
theorem getElem?_leBytes {n j : Nat} (v : Nat) (h : j < n) : (leBytes n v)[j]? = some (BitVec.ofNat 8 (v / 256 ^ j)) := by
  induction n generalizing v j with
  | zero => omega
  | succ n ih =>
    cases j with
    | zero => simp [leBytes]
    | succ j => rw [leBytes, List.getElem?_cons_succ, ih (v / 256) (by omega), Nat.div_div_eq_div_mul, Nat.pow_succ']

/-- A byte of the value of little-endian bytes. -/
theorem ofNat_leVal_div {bs : List Byte} {j : Nat} {b : Byte} (h : bs[j]? = some b) : BitVec.ofNat 8 (leVal bs / 256 ^ j) = b := by
  induction bs generalizing j with
  | nil => simp at h
  | cons x bs ih =>
    have hx : x.toNat < 256 := x.isLt
    cases j with
    | zero =>
      obtain rfl : x = b := by simpa using h
      apply BitVec.eq_of_toNat_eq
      simp only [leVal, pow_zero, Nat.div_one, BitVec.toNat_ofNat]
      omega
    | succ j =>
      rw [← ih (by simpa using h), leVal, Nat.pow_succ', ← Nat.div_div_eq_div_mul]
      congr 2
      omega

/-- A byte of two values is the same where its bits are. -/
theorem ofNat_div_congr {v w j k : Nat} (h : ∀ i, i < 8 → v.testBit (8 * j + i) = w.testBit (8 * k + i)) :
    BitVec.ofNat 8 (v / 256 ^ j) = BitVec.ofNat 8 (w / 256 ^ k) := by
  have pow : ∀ n, 256 ^ n = 2 ^ (8 * n) := fun n => by rw [pow_mul]; norm_num
  apply BitVec.eq_of_getLsbD_eq
  intro i hi
  rw [BitVec.getLsbD_ofNat, BitVec.getLsbD_ofNat, pow, pow, Nat.testBit_div_two_pow, Nat.testBit_div_two_pow, Nat.add_comm i, Nat.add_comm i, h i hi]

/-- A field of a value, between what is above it and what is below it. -/
theorem putBits_eq (v lo w x : Nat) : putBits v lo w x = 2 ^ lo * (2 ^ w * (v / 2 ^ (lo + w)) + x % 2 ^ w) + v % 2 ^ lo := by
  have low := Nat.div_add_mod v (2 ^ lo)
  have high := Nat.div_add_mod (v / 2 ^ lo) (2 ^ w)
  rw [Nat.div_div_eq_div_mul, ← Nat.pow_add] at high
  simp only [putBits, bitsOf, Nat.shiftRight_eq_div_pow, Nat.shiftLeft_eq]
  have split : v = 2 ^ lo * (2 ^ w * (v / 2 ^ (lo + w))) + v / 2 ^ lo % 2 ^ w * 2 ^ lo + v % 2 ^ lo := by
    conv_lhs => rw [← low, ← high]
    ring
  have kept : v - v / 2 ^ lo % 2 ^ w * 2 ^ lo = 2 ^ lo * (2 ^ w * (v / 2 ^ (lo + w))) + v % 2 ^ lo := by omega
  rw [kept]
  ring

/-- A bit of a value with a field replaced. -/
theorem testBit_putBits (v lo w x i : Nat) :
    (putBits v lo w x).testBit i = if lo ≤ i ∧ i < lo + w then x.testBit (i - lo) else v.testBit i := by
  rw [putBits_eq, Nat.testBit_two_pow_mul_add _ (Nat.mod_lt _ (Nat.two_pow_pos lo)),
    Nat.testBit_two_pow_mul_add _ (Nat.mod_lt _ (Nat.two_pow_pos w)), Nat.testBit_mod_two_pow, Nat.testBit_mod_two_pow, Nat.testBit_div_two_pow]
  by_cases below : i < lo
  · rw [if_pos below, if_neg (by omega)]
    simp [below]
  · by_cases inside : i - lo < w
    · rw [if_neg below, if_pos inside, if_pos (by omega)]
      simp [inside]
    · rw [if_neg below, if_neg inside, if_neg (by omega)]
      congr 1
      omega

/-! ### The doubleword that a write stores (15 R394) -/

/-- A byte of the doubleword at an address. -/
theorem State.byteAt_of_bytesAt (s : State) {a n j : Nat} (h : j < n) : BitVec.ofNat 8 (s.bytesAt a n / 256 ^ j) = s.byteAt (a + j) :=
  ofNat_leVal_div (by simp [h])

/-- The bytes of a stored doubleword. -/
theorem State.byteAt_storeRaw (s : State) (a d c x : Nat) :
    (s.storeRaw a d c).byteAt x = if a ≤ x ∧ x < a + 8 then BitVec.ofNat 8 (d / 256 ^ (x - a)) else s.byteAt x := by
  split
  next h =>
    have e := State.byteAt_storeRaw_in (s := s) (d := d) (c := c) h.1 h.2
    rw [getElem?_leBytes d (by omega)] at e
    exact Option.some.inj e
  next h => exact State.byteAt_storeRaw_out (by omega)

/-- A write has stored its bytes and left every other byte. -/
def Stores (s t : State) (a size v : Nat) : Prop :=
  (∀ k, k < size → t.byteAt (a + k) = BitVec.ofNat 8 (v / 256 ^ k)) ∧ ∀ x, x < a ∨ a + size ≤ x → t.byteAt x = s.byteAt x

/-- A doubleword stored whole. -/
theorem State.stores_storeRaw (s : State) (a v c : Nat) : Stores s (s.storeRaw a v c) a 8 v := by
  refine ⟨fun k hk => ?_, fun x hx => ?_⟩
  · rw [State.byteAt_storeRaw, if_pos (by omega), Nat.add_sub_cancel_left]
  · rw [State.byteAt_storeRaw, if_neg (by omega)]

/-- A part of a doubleword merged into it. -/
theorem State.stores_merged (s : State) {a size : Nat} (v c : Nat) (h : a % 8 + size ≤ 8) :
    Stores s (s.storeRaw (a / 8 * 8) (putBits (s.bytesAt (a / 8 * 8) 8) (8 * (a % 8)) (8 * size) v) c) a size v := by
  refine ⟨fun k hk => ?_, fun x hx => ?_⟩
  · rw [State.byteAt_storeRaw, if_pos (by omega)]
    refine ofNat_div_congr (fun i hi => ?_)
    rw [testBit_putBits, if_pos (by omega)]
    congr 1
    omega
  · rw [State.byteAt_storeRaw]
    split
    next inside =>
      have e := s.byteAt_of_bytesAt (a := a / 8 * 8) (n := 8) (j := x - a / 8 * 8) (by omega)
      rw [Nat.add_sub_cancel' inside.1] at e
      rw [← e]
      refine ofNat_div_congr (fun i hi => ?_)
      rw [testBit_putBits, if_neg (by omega)]
    next => rfl

/-- An access that is naturally aligned lies within its doubleword. -/
theorem aligned_within {a size : Nat} (h : aligned a size = true) : (size = 8 ∧ a / 8 * 8 = a) ∨ (size < 8 ∧ a % 8 + size ≤ 8) := by
  simp only [aligned, Bool.and_eq_true, Bool.or_eq_true, decide_eq_true_eq] at h
  obtain ⟨((rfl | rfl) | rfl) | rfl, h⟩ := h <;> omega

/-- A doubleword is stored with its check bits where no injection is armed. -/
theorem State.writeDw_of_unarmed {s : State} (a d : Nat) (h : s.mem.arm = false) : s.writeDw a d = s.storeRaw a d (eccOf d) := by
  simp [State.writeDw, h]

/-- A write that is whole, or merges into a doubleword that reads without an error, stores its bytes. -/
theorem State.memWrite_stores {s : State} {port a size : Nat} (v : Nat) (unarmed : s.mem.arm = false) (al : aligned a size = true)
    (clean : size < 8 → synOf (s.synAt (a / 8 * 8)) = .clean) :
    ∃ x d c, s.memWrite port a size v = (s.storeRaw x d c, 0) ∧ Stores s (s.storeRaw x d c) a size v := by
  rcases aligned_within al with ⟨rfl, -⟩ | ⟨small, within⟩
  · refine ⟨a, v, eccOf v, ?_, s.stores_storeRaw a v _⟩
    simp [State.memWrite, State.writeDw_of_unarmed _ _ unarmed]
  · have merged : s.memWrite port a size v =
        (s.writeDw (a / 8 * 8) (putBits (s.bytesAt (a / 8 * 8) 8) (8 * (a % 8)) (8 * size) v), 0) := by
      simp [State.memWrite, Nat.ne_of_lt small, State.readDw, clean small]
    rw [State.writeDw_of_unarmed _ _ unarmed] at merged
    exact ⟨_, _, _, merged, s.stores_merged v _ within⟩

/-! ### The target's answer (02 R36, 15 R391) -/

/-- An address of system SRAM. -/
theorem bounds_of_regionOf_zero {a : Nat} (h : regionOf a = some 0) : 0x10000000 ≤ a ∧ a < 0x10800000 := by
  unfold regionOf at h
  repeat' split at h
  all_goals simp_all

/-- The supervisor's write to system SRAM reaches the memory. -/
theorem State.target_superStore {u v : State} {r : FabReq} (on : u.pd 3 = true) (isOpen : u.fab.closed.testBit 3 = false) (port : r.port = 0)
    (write : r.write = true) (plain : r.excl = false) (region : regionOf r.addr = some 0) (al : aligned r.addr r.size = true)
    (stored : u.memWrite r.port r.addr r.size r.data = (v, 0)) :
    u.target r = ({ v with twin := v.twin.written (ridOf r) r.addr r.size }, 0, 0) := by
  obtain ⟨lo, hi⟩ := bounds_of_regionOf_zero region
  have notTwin : inTwin r.addr = false := by simp [inTwin]; omega
  have notPeripheral : ¬ 0x40000000 ≤ r.addr := by omega
  have domain : addrDomain r.addr = some 3 := by simp [addrDomain, notTwin, notPeripheral, region, memDomain]
  have allowed : u.memAllowed r = true := by simp [State.memAllowed, State.initiator, port]
  simp [State.target, al, domain, on, isOpen, notTwin, notPeripheral, allowed, plain, region, State.sramAccess, write, State.sramWrite, stored]

/-- A state with the same memories reads the same. -/
theorem State.byteAt_of_mem {s t : State} (h : t.mem = s.mem) (a : Nat) : t.byteAt a = s.byteAt a := by
  rw [State.byteAt, State.byteAt, h]

/-- The response of the supervisor's write, the only access outstanding, comes after the store. -/
theorem does_fabricResponse_store {s : State} {g : Lapse} {r : FabReq} {k : Nat} (on : (s.pass g).pd 3 = true)
    (isOpen : (s.pass g).fab.closed.testBit 3 = false) (free : (s.pass g).twin.lock = none) (unarmed : (s.pass g).mem.arm = false) (port : r.port = 0)
    (unit : r.unit = 0) (write : r.write = true) (plain : r.excl = false) (region : regionOf r.addr = some 0) (al : aligned r.addr r.size = true)
    (one : (s.pass g).fab.inflight = [⟨r, k, .waiting⟩]) (inTime : (s.pass g).now ≤ k + 20000)
    (clean : r.size < 8 → synOf ((s.pass g).synAt (r.addr / 8 * 8)) = .clean) :
    Does (.fabricResponse g 0 0) s (fun t =>
      Stores (s.pass g) t r.addr r.size r.data ∧ t.fab.inflight = [] ∧ t.fab.last = some ⟨0, 0, 0, 0⟩) := by
  obtain ⟨x, d, c, stored, stores⟩ := State.memWrite_stores (port := r.port) r.data unarmed al clean
  have answer := State.target_superStore on isOpen port write plain region al stored
  have served := State.serveAll_of_single one free (by omega) answer rfl
  have ends := exec_fabricResponse_of_single served rfl rfl inTime
  simp only [port, unit] at ends
  refine ⟨_, ends, ?_⟩
  obtain ⟨fab, -, mem⟩ := State.delivered_fab (r := r) (code := 0) (data := 0) (by simp [unit, rereadUnit]) (fun h => absurd h (by decide))
  obtain ⟨inside, outside⟩ := stores
  refine ⟨⟨fun k hk => ?_, fun a ha => ?_⟩, congrArg Fabric.inflight fab, ?_⟩
  · exact (State.byteAt_of_mem mem _).trans (inside k hk)
  · exact (State.byteAt_of_mem mem _).trans (outside a ha)
  · exact (congrArg Fabric.last fab).trans (by simp [port, unit])

/-- Settles O16, by the doubleword that the write stores, whole or merged. -/
theorem fabricStore : Obligations.FabricStore := by
  intro s g r k u on isOpen free unarmed port unit write plain region al one inTime
  refine ⟨fun whole => ?_, fun small clean => ?_⟩
  · obtain ⟨t, ht, ⟨inside, outside⟩, done⟩ :=
      does_fabricResponse_store on isOpen free unarmed port unit write plain region al one inTime (fun small => by omega)
    rw [whole] at inside outside
    exact ⟨t, ht, inside, outside, done⟩
  · obtain ⟨t, ht, ⟨inside, outside⟩, done⟩ :=
      does_fabricResponse_store on isOpen free unarmed port unit write plain region al one inTime (fun _ => clean)
    exact ⟨t, ht, inside, outside, done⟩

end Sys2Proof.Machine
end

section
/-!
PROOFS. The state right after reset, O56: every record is the initial one of its structure, and each parameter store lists nothing.
-/
namespace Sys2Proof.Machine

/-- In a vector of one value every place, and the default beyond it, reads as that value. -/
theorem getD_replicate {α : Type} (n i : Nat) (x : α) : (Vector.replicate n x).toList.getD i x = x := by
  simp only [Vector.toList_replicate, List.getD_eq_getElem?_getD, List.getElem?_replicate]
  split <;> rfl

/-- A parameter that its store does not list is at the default of the table. -/
theorem State.parOf_reset (id idx : Nat) : State.reset.parOf id idx = parDefault id idx ∧ State.reset.storedOf id idx = parDefault id idx :=
  ⟨rfl, rfl⟩

/-- Settles O56, by the initial value of each record. -/
theorem resetValues : Obligations.ResetValues := by
  have pace : ∀ p, State.reset.paceOf p = {} := fun p => getD_replicate 16 p _
  have ses : ∀ i, State.reset.ses i = {} := fun i => getD_replicate 4 i _
  have chan : ∀ n, State.reset.chan n = {} := fun n => getD_replicate 64 n _
  have valve : ∀ v, State.reset.valve v = {} := fun v => getD_replicate 16 v _
  have core : ∀ i, State.reset.core i = {} := fun i => getD_replicate 73 i _
  refine ⟨rfl, rfl, rfl, rfl, rfl, rfl, fun p => ?_, fun i => ?_, rfl, rfl, fun n => ?_, fun v => ?_, fun i => ?_, State.parOf_reset, rfl, rfl⟩
  · rw [pace]
    exact ⟨rfl, rfl, rfl, rfl, rfl⟩
  · rw [ses]
    exact ⟨rfl, rfl, rfl, rfl⟩
  · rw [chan]
    exact ⟨rfl, rfl⟩
  · rw [valve]
  · rw [core]

end Sys2Proof.Machine
end

section
/-!
PROOFS. The canonical form of the lists (03 R85, 15 R391): for each command that may change the bytes or the parameters one lemma, along the
branches of its definition, with the operations' lemmas of Canon; every other command keeps the form by its frame. Then O57 and O58.
-/
namespace Sys2Proof.Machine

section
variable {g : Lapse} {s : State} (canon : (s.pass g).Canon)
include canon

theorem execWaymarkMinute_canon {link node : Nat} : CEnds (execWaymarkMinute g link node s) := by
  unfold execWaymarkMinute
  extract_lets
  split
  · exact .next (.ite (State.wmWrite_canon canon) canon)
  · exact .next canon

theorem execSectorEraseDone_canon : CEnds (execSectorEraseDone g s) := by
  unfold execSectorEraseDone
  extract_lets
  split
  · exact .next canon
  · exact .ite (.next (State.modFw_canon (State.loseMem_canon canon))) (.next canon)

theorem execWaymarkRunEnd_canon {link node : Nat} : CEnds (execWaymarkRunEnd g link node s) := by
  unfold execWaymarkRunEnd
  extract_lets
  split
  · exact .next (.ite (State.wmEnd_canon canon) canon)
  · exact .next canon

theorem execParamCommitDone_canon {ok : Bool} : CEnds (execParamCommitDone g ok s) := by
  unfold execParamCommitDone
  extract_lets u r v
  split
  · exact .next canon
  · refine .ite (.next canon) ?_
    extract_lets w
    have hv : v.Canon := State.Canon.upd canon rfl rfl rfl
    exact .next (State.complete_canon (.ite (State.Canon.foldl hv (fun _ _ canon => State.setStored_canon canon)) hv))

theorem execAppletRestart_canon {n : Fin 4} : CEnds (execAppletRestart g n s) := by
  unfold execAppletRestart
  extract_lets
  refine .next ?_
  split
  · exact .ite (State.startApplet_canon canon) canon
  · exact canon

theorem execFleetCommitDone_canon {ok : Bool} : CEnds (execFleetCommitDone g ok s) := by
  unfold execFleetCommitDone
  extract_lets u r v
  split
  · exact .next canon
  · refine .ite (.next canon) ?_
    have hv : v.Canon := State.Canon.upd canon rfl rfl rfl
    refine .ite ?_ (.next (State.complete_canon hv))
    extract_lets w
    have hw : w.Canon := State.setStored_canon (State.setStored_canon (State.setPar_canon (State.setPar_canon hv)))
    exact .next (State.pairChanged_canon (State.runEvent_canon (State.complete_canon hw)))

theorem execWaymark_canon {link node : Nat} : CEnds (execWaymark g link node s) := by
  unfold execWaymark
  extract_lets
  split
  · refine .ite (.next canon) ?_
    refine .next ?_
    exact State.netEvent_canon (State.modAgr_canon (State.wmWrite_canon canon))
  · exact .next canon

theorem execCalibrateStep_canon {ma : Nat} : CEnds (execCalibrateStep g ma s) := by
  unfold execCalibrateStep
  extract_lets
  refine .next ?_
  split
  · split
    · refine .ite canon ?_
      extract_lets
      refine .ite (State.modAcc_canon canon) ?_
      extract_lets
      split
      · exact State.modAcc_canon (State.tuned_canon canon)
      · exact State.accEnd_canon (State.tuned_canon canon)
    · exact canon
  · exact canon

theorem execReplyCheck_canon : CEnds (execReplyCheck g s) := by
  unfold execReplyCheck
  extract_lets u
  have due : u.Canon := State.accDue_canon canon
  refine .next ?_
  split
  · exact due
  · split
    · exact due
    · refine .ite due ?_
      refine .ite ?_ ?_
      · exact State.Canon.foldl (State.modAcc_canon due) (fun _ _ canon => State.accEvent_canon canon)
      · refine State.nextExch_canon ?_
        exact State.Canon.foldl (State.modRound_canon due) (fun _ _ canon => State.checkSlot_canon canon)

theorem execExchangeBlock_canon {slot : Fin 16} {x : ExchObs} : CEnds (execExchangeBlock g slot x s) := by
  unfold execExchangeBlock
  extract_lets u
  have due : u.Canon := State.accDue_canon canon
  refine .next ?_
  split
  · exact due
  · split
    · exact due
    · split
      · exact due
      · refine .ite due ?_
        refine .ite (State.modRound_canon due) ?_
        refine .ite due ?_
        refine State.nextExch_canon ?_
        exact State.accEvent_canon (State.modRound_canon due)

theorem execRangingResult_canon {slot : Fin 16} {r : Ranging} : CEnds (execRangingResult g slot r s) := by
  unfold execRangingResult
  extract_lets u
  have due : u.Canon := State.accDue_canon canon
  refine .next ?_
  split
  · exact due
  · split
    · exact due
    · split
      · exact due
      · refine .ite due ?_
        refine State.nextExch_canon ?_
        refine .ite ?_ ?_
        · refine State.modTok_canon ?_
          refine State.modRound_canon ?_
          exact .ite (State.modFe_canon due) due
        · refine State.accEvent_canon ?_
          refine State.modRound_canon ?_
          exact .ite (State.modFe_canon due) due

theorem execScrubRead_canon : CEnds (execScrubRead g s) := by
  unfold execScrubRead
  extract_lets u
  refine .next (.ite canon ?_)
  split
  · exact canon
  · extract_lets a v m w
    refine .ite canon ?_
    have hw : w.Canon := State.Canon.upd (State.Canon.fst (State.readDw_canon canon)) rfl rfl rfl
    split
    · exact State.Canon.upd hw rfl rfl rfl
    · exact State.Canon.upd (State.lapEnd_canon hw) rfl rfl rfl

theorem execGranuleProgrammed_canon {ok : Bool} : CEnds (execGranuleProgrammed g ok s) := by
  unfold execGranuleProgrammed
  extract_lets
  split
  · exact .next canon
  · split
    · exact .next canon
    · refine .ite ?_ ?_
      · refine .next (State.flashFree_canon ?_)
        refine .ite ?_ ?_
        · refine State.setTarget_canon ?_
          exact State.modFw_canon (State.loadBytes_canon (State.modFw_canon canon))
        · exact State.modFw_canon (State.loadBytes_canon (State.modFw_canon canon))
      · refine .next (State.flashFree_canon ?_)
        exact State.fwEvent_canon (State.modFw_canon (State.modFw_canon canon))

theorem execRingDeliver_canon {a : Fin 4} : CEnds (execRingDeliver g a s) := by
  unfold execRingDeliver
  extract_lets
  refine .next ?_
  split
  · exact canon
  · exact .ite canon (State.ringWrite_canon (State.takeRec_canon canon))

theorem execKeepAliveSend_canon : CEnds (execKeepAliveSend g s) := by
  refine .ite (.next canon) ?_
  refine .ite (.next (State.modAgr_canon canon)) ?_
  refine .ite ?_ (.ite (.next (State.kaSend_canon canon)) (.next canon))
  refine .next (State.kaSend_canon ?_)
  exact State.wmEndAll_canon (State.modAgr_canon (State.agrStay_canon canon))

theorem execVerifyDone_canon {sigOk : Bool} : CEnds (execVerifyDone g sigOk s) := by
  unfold execVerifyDone
  extract_lets
  split
  · exact .next canon
  · refine .ite (.next canon) (.ite (.next (State.unlockCheck_canon canon)) ?_)
    split
    · exact .next (State.imgFail_canon canon)
    · exact .next (State.imgPass_canon canon)

theorem execHoldoffEnd_canon : CEnds (execHoldoffEnd g s) := by
  unfold execHoldoffEnd
  extract_lets
  split
  · exact .next canon
  · exact .ite (.next (State.lineActs_canon (State.modIl_canon canon))) (.next canon)

theorem execSequencerRestart_canon {core : Nat} : CEnds (execSequencerRestart g core s) := by
  unfold execSequencerRestart
  extract_lets
  split
  · refine .ite (.next canon) ?_
    extract_lets
    refine .ite (.next (State.emit_canon (.ite (.ite (State.haltCore_canon (State.modBoot_canon canon)) (State.dropCh_canon
      (State.haltCore_canon (State.modBoot_canon canon)))) (State.bankOff_canon (State.haltCore_canon
      (State.modBoot_canon canon)))))) ?_
    extract_lets
    refine .next ?_
    refine State.emit_canon (.ite ?_ (State.bankOff_canon (State.startSeq_canon (State.loseMem_canon canon))))
    extract_lets
    refine State.settle_canon ?_
    split
    · refine State.evenOut_canon ?_
      refine State.adoptChan_canon ?_
      refine State.applyRel_canon ?_
      exact State.Canon.upd (State.startSeq_canon (State.loseMem_canon canon)) rfl rfl rfl
    · refine State.adoptChan_canon ?_
      refine State.applyRel_canon ?_
      exact State.Canon.upd (State.startSeq_canon (State.loseMem_canon canon)) rfl rfl rfl
  · exact .next canon

theorem execBenchSpiTransaction_canon {t : SpiTrans} : CEnds (execBenchSpiTransaction g t s) := by
  unfold execBenchSpiTransaction
  extract_lets u write n off a nr
  have refuse : ∀ code, (u.benchRefuse code a nr).Canon := fun _ => State.benchRefuse_canon canon
  refine .next (.ite canon (.ite (refuse 1) (.ite (refuse 4) (.ite (refuse 3) (.ite (refuse 4) ?_)))))
  extract_lets
  exact State.Canon.upd (State.Canon.fst (State.benchRun_canon (State.serveAll_canon canon))) rfl rfl rfl

theorem execHandleCancel_canon {q : Rq} {h : Nat} : CEnds (execHandleCancel g q h s) := by
  unfold execHandleCancel
  refine .next ?_
  refine State.serve_canon canon (fun _ _ canon => ?_)
  split
  · exact State.answer_canon canon
  · split
    · exact State.answer_canon canon
    · refine .ite (State.answer_canon canon) ?_
      refine .ite (State.answer_canon canon) ?_
      exact State.finish_canon (State.Canon.fst (State.cancelEnded_canon (State.answer_canon canon)))
    · refine .ite (State.answer_canon canon) ?_
      exact .ite (State.answer_canon canon) (State.cancelNow_canon (State.answer_canon canon))

theorem execFabricResponse_canon {port unit : Nat} : CEnds (execFabricResponse g port unit s) := by
  unfold execFabricResponse
  extract_lets
  refine .next ?_
  split
  · exact State.serveAll_canon canon
  · split
    · exact State.serveAll_canon canon
    · exact State.delivered_canon (State.endReq_canon (State.serveAll_canon canon))

theorem execFabricTimeout_canon {port unit : Nat} : CEnds (execFabricTimeout g port unit s) := by
  unfold execFabricTimeout
  extract_lets
  refine .next ?_
  split
  · refine State.delivered_canon ?_
    refine .ite (State.Canon.upd (State.serveOlder_canon canon) rfl rfl rfl) ?_
    exact State.lateWrite_canon (State.Canon.upd (State.serveOlder_canon canon) rfl rfl rfl)
  · split
    · exact State.delivered_canon (State.modTwin_canon (State.serveOlder_canon canon))
    · split
      · exact State.delivered_canon (State.modTwin_canon (State.serveOlder_canon canon))
      · split
        · exact State.delivered_canon (State.modTwin_canon (State.serveOlder_canon canon))
        · exact State.serveOlder_canon canon

theorem execTwinInboundRequest_canon {r : LinkReq} : CEnds (execTwinInboundRequest g r s) := by
  unfold execTwinInboundRequest
  extract_lets
  refine .next ?_
  refine .ite canon ?_
  extract_lets
  refine .ite (State.inbound_canon (State.serveOlder_canon canon)) ?_
  split
  · exact State.inbound_canon (State.modTwin_canon (State.serveOlder_canon canon))
  · exact State.serveOlder_canon canon

theorem execDmaDescriptorComplete_canon {n : Fin 32} : CEnds (execDmaDescriptorComplete g n s) := by
  unfold execDmaDescriptorComplete
  extract_lets u
  refine .next (.ite canon ?_)
  split
  rename_i v k e a h
  have hv : v.Canon := State.Canon.of_pair h (State.dmaRun_canon canon)
  refine .ite (State.fabErr_canon (State.dmaFail_canon hv)) ?_
  extract_lets c w x
  have hx : x.Canon := .ite (State.raiseEv_canon (State.modDma_canon hv)) (State.modDma_canon hv)
  exact .ite (State.dmaLoad_canon hx) (State.modDma_canon hx)

theorem execDmaTransferError_canon {n : Fin 32} {code addr : Nat} : CEnds (execDmaTransferError g n code addr s) := by
  unfold execDmaTransferError
  extract_lets u
  refine .next (.ite canon ?_)
  extract_lets
  split
  rename_i v k e a h
  have hv : v.Canon := State.Canon.of_pair h (State.dmaRun_canon canon)
  refine .ite (State.fabErr_canon (State.dmaFail_canon hv)) (.ite canon ?_)
  extract_lets c w
  have hw : w.Canon := .ite (State.dmaLate_canon hv) hv
  exact State.fabErr_canon (State.dmaFail_canon hw)

theorem execEntryCompletionSent_canon : CEnds (execEntryCompletionSent g s) := by
  unfold execEntryCompletionSent
  extract_lets
  split
  · refine .ite ?_ (.next canon)
    refine .next (State.goOn_canon ?_)
    exact State.modPwr_canon (.ite (State.Canon.upd (State.nameSlot_canon canon) rfl rfl rfl) canon)
  · exact .next canon

theorem execTc10SleepAckTimeout_canon {k : Fin 2} : CEnds (execTc10SleepAckTimeout g k s) := by
  unfold execTc10SleepAckTimeout
  extract_lets
  split
  · exact .next (.ite (State.netGoOn_canon (State.setEth_canon canon)) canon)
  · exact .next canon

theorem execWakeDuringEntry_canon {w : WakeSrc} : CEnds (execWakeDuringEntry g w s) := by
  unfold execWakeDuringEntry
  extract_lets
  split
  · exact .next (.ite (State.wakeNow_canon canon) canon)
  · exact .next canon

theorem execEntryOffsComplete_canon : CEnds (execEntryOffsComplete g s) := by
  unfold execEntryOffsComplete
  extract_lets
  split
  · refine .ite ?_ (.next canon)
    refine .ite (.next (State.goOn_canon (State.modPwr_canon canon))) ?_
    exact .ite (.next (State.armAt_canon (State.saveState_canon canon))) (.next canon)
  · exact .next canon

theorem execReadySleepWaitEnd_canon : CEnds (execReadySleepWaitEnd g s) := by
  unfold execReadySleepWaitEnd
  extract_lets
  refine .ite (.ite (.next (State.agrStay_canon canon)) ?_) (.next canon)
  extract_lets
  split
  · refine .next (.ite ?_ (State.agrEvent_canon (State.agrNormalAt_canon canon)))
    exact State.Canon.foldl (State.agrEvent_canon (State.agrNormalAt_canon canon)) (fun _ _ canon => .ite (State.linWakeup_canon canon)
      canon)
  · exact .next (State.commitSleep_canon canon)

theorem execFalseWakeTimeout_canon : CEnds (execFalseWakeTimeout g s) := by
  unfold execFalseWakeTimeout
  extract_lets
  refine .ite (.ite (.next (State.agrStay_canon canon)) ?_) (.next canon)
  extract_lets
  split
  · exact .next (State.agrEvent_canon (State.agrNormalAt_canon canon))
  · exact .next (State.commitSleep_canon (State.modAgr_canon (State.Canon.upd canon rfl rfl rfl)))

theorem execParamWriteSet_canon {q : Rq} {ws : List ParWrite} : CEnds (execParamWriteSet g q ws s) := by
  unfold execParamWriteSet
  refine .next ?_
  refine State.serve_canon canon (fun _ _ canon => ?_)
  extract_lets
  split
  · exact State.answer_canon (State.Canon.fst (State.writeSet_canon canon))
  · exact State.answer_canon (State.Canon.fst (State.writeSet_canon canon))

theorem execWarmStart_canon {digestOk : Bool} : CEnds (execWarmStart g digestOk s) := by
  unfold execWarmStart
  extract_lets u v chans gens r m w
  split
  · refine .ite ?_ (.next canon)
    extract_lets resume x
    have hv : v.Canon := State.recordCause_canon canon
    have hw : w.Canon := State.Canon.upd (State.freshLogic_canon hv) rfl rfl rfl
    exact .next (State.phase2_canon (State.modBoot_canon hw))
  · exact .next canon

theorem execLateWriteError_canon {k : CoreId} {code addr : Nat} : CEnds (execLateWriteError g k code addr s) := by
  unfold execLateWriteError
  extract_lets u i
  refine .next (.ite canon ?_)
  split
  · exact .ite (State.takeLate_canon canon) canon
  · exact State.takeLate_canon (.ite (State.fabErr_canon canon) canon)

theorem execBootPhaseAdvance_canon {o : BootObs} : CEnds (execBootPhaseAdvance g o s) := by
  refine .next (State.drained_canon ?_)
  refine .ite canon ?_
  refine .ite (State.phase2_canon canon) ?_
  refine .ite ?_ ?_
  · refine State.modBoot_canon ?_
    refine .ite canon ?_
    exact .ite (State.pllLock_canon canon) (State.pllFallback_canon canon)
  · refine .ite ?_ ?_
    · refine .ite (State.recover_canon (State.selfTested_canon canon)) ?_
      exact State.modBoot_canon (State.selfTested_canon canon)
    · refine .ite ?_ ?_
      · refine .ite (State.phase7_canon (State.selectSlot_canon canon)) ?_
        exact State.modBoot_canon (State.selectSlot_canon canon)
      · refine .ite (State.checkSlot5_canon canon) ?_
        refine .ite ?_ ?_
        · refine .ite ?_ (State.recover_canon canon)
          exact State.phase7_canon (State.loadImage_canon (State.loadImage_canon canon))
        · refine .ite ?_ ?_
          · refine .ite (State.modBoot_canon (State.init_canon canon)) ?_
            exact State.becomeReady_canon (State.init_canon canon)
          · exact .ite (State.becomeReady_canon (State.adopt_canon canon)) canon

theorem execCall_canon {k : CoreId} {imm : CallSrc} : CEnds (execCall g k imm s) := by
  unfold execCall
  refine .next ?_
  split
  · exact State.trigger_canon canon
  · exact State.trigger_canon canon

theorem execColdStart_canon : CEnds (execColdStart g s) := by
  refine .ite ?_ (.next canon)
  refine .next (State.modPwr_canon ?_)
  refine State.modBoot_canon ?_
  exact State.Canon.upd (State.modAcc_canon (State.cold_canon canon)) rfl rfl rfl

end

/-- A command whose list names neither the bytes nor the parameters keeps the form. -/
theorem exec_canon_of_frame {c : Instr} {s : State} (canon : (s.pass (lapseOf c)).Canon) (bytes : (touches c).contains .bytes = false)
    (par : (touches c).contains .par = false) : CEnds (exec c s) := by
  have ends := exec_ends c s
  generalize exec c s = o at ends
  obtain ⟨only⟩ := ends
  exact .next (only.canon (by simpa using bytes) (by simpa using par) canon)

/-- A command keeps the form: by its frame, or by what it does to the lists. -/
theorem exec_canon (c : Instr) {s : State} (h : s.Canon) : CEnds (exec c s) := by
  have canon : (s.pass (lapseOf c)).Canon := State.pass_canon h
  cases c with
  | benchSpiTransaction => exact execBenchSpiTransaction_canon canon
  | sessionTimeout => exact .next (.ite (State.closeSession_canon canon) canon)
  | paramWrite | compositeEnable | compositeDisable | genEnable | mxEnable | cableTest | netsleepEnable | netsleepDisable | appletRun | fwConfirm =>
    exact .next (State.paramWrite_canon canon)
  | paramWriteSet => exact execParamWriteSet_canon canon
  | paramCommitDone => exact execParamCommitDone_canon canon
  | handleCancel => exact execHandleCancel_canon canon
  | fleetCommitDone => exact execFleetCommitDone_canon canon
  | fabricRequest => exact .next (.ite (State.request_canon canon) canon)
  | fabricResponse => exact execFabricResponse_canon canon
  | fabricTimeout => exact execFabricTimeout_canon canon
  | domainDrainEnd => exact .next (.ite (State.goOn_canon (State.lower1_canon canon)) canon)
  | surveyCycle => exact .ite (.next canon) (.next (State.modSvy_canon (State.surveyRun_canon (State.modSvy_canon canon))))
  | powerReqRun => exact .next (State.powerReq_canon canon (fun _ _ canon => State.powerEvent_canon (State.complete_canon (.ite
    (State.tellChanges_canon (State.backToRun_canon canon) (fun _ _ _ _ canon => State.emitAt_canon canon)) (State.backToRun_canon canon)))))
  | powerReqHold => exact .next (State.powerReq_canon canon (fun _ _ canon => .ite (State.forceOffs_canon (State.startEntry_canon canon))
    (State.goOn_canon (State.modPwr_canon (State.startEntry_canon canon)))))
  | powerReqPark | powerReqDormant =>
    exact .next (State.powerReq_canon canon (fun _ _ canon => State.forceOffs_canon (State.cancelJobs_canon (State.startEntry_canon canon))))
  | entryOffsComplete => exact execEntryOffsComplete_canon canon
  | entryCompletionSent => exact execEntryCompletionSent_canon canon
  | wakeDuringEntry => exact execWakeDuringEntry_canon canon
  | canWakePattern => exact .next (.ite canon (State.wakeNow_canon canon))
  | selectiveWake => exact .next (.ite (State.wakeNow_canon (State.wufSeen_canon canon)) (State.wufSeen_canon canon))
  | selectiveWakeErrorLimit => exact .next (.ite (State.wakeNow_canon (State.wufBad_canon canon)) (State.wufBad_canon canon))
  | linWake | benchWake | twinPartnerWake => exact .next (State.wakeNow_canon canon)
  | tc10Wake | speWake | alarm => exact .next (.ite (State.wakeNow_canon canon) canon)
  | feedBelowPd0 => exact .next (State.modPwr_canon (State.cold_canon canon))
  | feedStart => exact .next (.ite (State.modPwr_canon (State.cold_canon canon)) canon)
  | ringDeliver => exact execRingDeliver_canon canon
  | txRingConsume => exact .next (.ite canon (State.Canon.fst (State.memWrite_canon (.ite canon (.ite (State.txDrop_canon canon)
    (State.txEntry_canon canon))))))
  | keepAliveReceived => exact .ite (.next canon) (.next (State.wmSeen_canon (State.agrStay_canon (State.modAgr_canon canon))))
  | keepAliveSend => exact execKeepAliveSend_canon canon
  | readySleepWaitEnd => exact execReadySleepWaitEnd_canon canon
  | tc10SleepAckTimeout => exact execTc10SleepAckTimeout_canon canon
  | falseWakeTimeout => exact execFalseWakeTimeout_canon canon
  | waymark => exact execWaymark_canon canon
  | waymarkMinute => exact execWaymarkMinute_canon canon
  | revoke => exact .next (State.accCmd_canon canon (fun _ e _ canon => Option.some.inj e ▸ State.resumeExch_canon (State.revoke_canon canon)))
  | calibrateStep => exact execCalibrateStep_canon canon
  | replyCheck => exact execReplyCheck_canon canon
  | exchangeBlock => exact execExchangeBlock_canon canon
  | rangingResult => exact execRangingResult_canon canon
  | twinInboundRequest => exact execTwinInboundRequest_canon canon
  | intlkLineChange => exact .next (State.lineActs_canon (.ite (State.modIl_canon (State.modIl_canon canon)) (State.modIl_canon canon)))
  | idleClaimTimer => exact .ite (.next (State.claim_canon canon)) (.next canon)
  | holdoffEnd => exact execHoldoffEnd_canon canon
  | intlkCtrlWrite => exact .next (State.hostWrite_canon canon (fun _ canon => State.setCtrl_canon canon))
  | wordIssue => exact .next (State.issue_canon canon)
  | add | sub | and | or | xor | shl | shr | sar | min | max | minu | maxu | mul | mulh | mulhu | div | divu | rem | remu | ld8u | ld8s | ld16u |
    ld16s | ld32 | ld64 | st8 | st16 | st32 | st64 | ldx | stx | fence | beq | bne | blt | bge | bltu | bgeu | jmp | ret | rte | wait | post |
    softwareTrap | crcInit | crcB8 | crcB16 | crcB32 | codecStat | shakeAbsorb | shakeSqueeze | aesEnc | dmaGo | dmaStop | dieGate | dieRb | dieAck |
    vlvLevel | vlvPhase | vlvRail => exact .next (State.trigger_canon canon)
  | call => exact execCall_canon canon
  | waitEnd => exact .next (.ite canon (.ite (State.trapCore_canon (State.endWait_canon canon)) (State.endWait_canon canon)))
  | lateWriteError => exact execLateWriteError_canon canon
  | dmaDescriptorComplete => exact execDmaDescriptorComplete_canon canon
  | dmaTransferError => exact execDmaTransferError_canon canon
  | appletWatchdog => exact .next (.ite (State.trapCore_canon canon) canon)
  | appletRestart => exact execAppletRestart_canon canon
  | dbgCoreStep => exact .next (.ite (State.issue_canon (State.regCmd_canon canon)) (State.regCmd_canon canon))
  | scrubRead => exact execScrubRead_canon canon
  | sectorEraseDone => exact execSectorEraseDone_canon canon
  | granuleProgrammed => exact execGranuleProgrammed_canon canon
  | verifyDone => exact execVerifyDone_canon canon
  | coldStart => exact execColdStart_canon canon
  | warmStart => exact execWarmStart_canon canon
  | bootPhaseAdvance => exact execBootPhaseAdvance_canon canon
  | activationReset | watchdogReset => exact .next (.ite (State.logicReset_canon canon) canon)
  | logicSupplyReset => exact .next (State.logicReset_canon canon)
  | sequencerRestart => exact execSequencerRestart_canon canon
  | registerWrite => exact .next (.ite canon (.ite (State.accessErr_canon canon) (.ite (State.regCmd_canon canon) canon)))
  | tc10SleepAck => exact .next (.ite (State.netGoOn_canon (State.setEth_canon canon)) canon)
  | waymarkRunEnd => exact execWaymarkRunEnd_canon canon
  | _ => exact exec_canon_of_frame canon rfl rfl

/-- Settles O58: an empty queue leaves the state, and every command keeps the form. -/
theorem canonKept : Obligations.CanonKept := by
  intro s t canon h
  cases queue : s.pending with
  | nil =>
    obtain rfl : s = t := Host.Outcome.next.inj ((step_of_pending_nil queue).symm.trans h)
    exact canon
  | cons c rest =>
    have ends : CEnds (exec c { s with pending := rest }) := exec_canon c canon
    rw [← step_of_pending_cons queue, h] at ends
    obtain ⟨kept⟩ := ends
    exact kept

/-- Settles O57: the lists are empty. -/
theorem canonAtReset : Obligations.CanonAtReset :=
  ⟨.nil, .nil, .nil, .nil⟩

end Sys2Proof.Machine
end

section
/-!
PROOFS. Registers of the session windows and of the host-visible blocks (03 R65 to R69, R95 to R97): a 32-bit write of a register reaches the
register's own write; then O5, O6 and, over the bench port, O7.
-/
namespace Sys2Proof.Machine

/-! ### A 32-bit write of a register (02 R36) -/

/-- The RW fields of a register lie in its 32 bits. -/
theorem rwBits_lt (a : Nat) : rwBits a < 2 ^ 32 := by
  unfold rwBits
  extract_lets off
  repeat' split
  all_goals decide

/-- A write of all 32 bits keeps nothing of the register. -/
theorem State.regWritePart_word {s : State} {ini : Initiator} {a v : Nat} (al : a % 4 = 0) (known : (s.regAt 0 a).isSome = true) :
    s.regWritePart ini a 4 v = s.regWrite32 ini a (v % 2 ^ 32) := by
  obtain ⟨old, hold⟩ := Option.isSome_iff_exists.mp known
  have base : a / 4 * 4 = a := by omega
  have whole : old &&& rwBits a &&& (2 ^ (8 * 4) - 1) = old &&& rwBits a := by
    rw [Nat.and_two_pow_sub_one_eq_mod]
    exact Nat.mod_eq_of_lt (lt_of_le_of_lt Nat.and_le_right (rwBits_lt a))
  simp only [State.regWritePart, base, hold, al, Nat.mul_zero, Nat.shiftLeft_zero, whole, Nat.sub_self, Nat.add_zero]

/-- An assigned register outside the buffers that may be reached has its own write. -/
theorem State.regWrite_word {s : State} {ini : Initiator} {a v : Nat} (reached : s.regDenied ini a true = none)
    (window : ¬ (a / 0x10000 = 0x4000 ∧ 0x4000 ≤ a % 0x10000)) (al : a % 4 = 0) (known : (s.regAt 0 a).isSome = true) :
    s.regWrite ini a 4 v = s.regWrite32 ini a (v % 2 ^ 32) := by
  simp only [State.regWrite, reached, Bool.and_eq_true, decide_eq_true_eq, window, if_false, State.regWritePart_word al known]
  rfl

/-- So has one that a command writes, and a code is delivered to its initiator. -/
theorem State.regCmd_eq {u v : State} {ini : Initiator} {a x c : Nat} (on : u.pd 3 = true) (write : u.regWrite ini a 4 x = (v, c)) :
    u.regCmd ini a 4 x = if c = 0 then v else v.accessErr ini c a := by
  simp [State.regCmd, on, write]

/-- Every recorded error is counted. -/
theorem State.fabErr_ferrCnt (u : State) (c p a : Nat) : (u.fabErr c p a).dbg.ferrCnt = satInc 0xFFFFFFFF u.dbg.ferrCnt := by
  simp only [State.fabErr]
  split <;> rfl

/-- The error response of a whole access is its initiator's last response, and it is recorded and counted. -/
theorem State.accessErr_fab (u : State) (ini : Initiator) (c a : Nat) :
    (u.accessErr ini c a).fab = { u.fab with last := some ⟨Initiator.port ini, 0, c, 0⟩ } ∧
    (u.accessErr ini c a).dbg = (u.fabErr c (Initiator.port ini) a).dbg := by
  have late : ∀ (w : State) i, (w.lateErr i c a).fab = w.fab ∧ (w.lateErr i c a).dbg = w.dbg := by
    intro w i
    unfold State.lateErr
    extract_lets
    split <;> exact ⟨rfl, rfl⟩
  unfold State.accessErr
  extract_lets w
  split
  · exact ⟨(late w _).1, (late w _).2⟩
  · exact ⟨(late w _).1, (late w _).2⟩
  · exact ⟨rfl, rfl⟩

/-! ### Session windows (03 R65, R67) -/

theorem blockAt_mbx {a : Nat} (h : 0x40000000 ≤ a ∧ a < 0x40010000) : blockAt a = some (0x40000000, 0x40010000, 3, true) := by
  simp [blockAt, blockTable, h]

/-- The initiator of a window, its session and its unit. -/
theorem windowIni_spec {ses : Fin 4} (org : Fin 4) (h : ses ≠ 0) :
    ownSession (windowIni ses org) = some ses.val ∧ claimUnit (windowIni ses org) = (if ses = 3 then org.val else 0) ∧
    Initiator.port (windowIni ses org) = if ses = 1 then 7 else if ses = 3 then 1 else 8 := by
  fin_cases ses
  · exact absurd rfl h
  all_goals exact ⟨rfl, rfl, rfl⟩

/-- The identity on a session's record changes nothing. -/
theorem State.modSes_self (s : State) (i : Fin 4) : s.modSes i (fun r => r) = s := by
  have same : s.atlas.ses.setIfInBounds i (s.ses i) = s.atlas.ses := by
    ext j hj
    rw [Vector.getElem_setIfInBounds]
    split
    · subst j
      simp [State.ses]
    · rfl
  simp only [State.modSes, same]

section
variable {u : State} {ses org : Fin 4} (own : ses ≠ 0) (on : u.pd 3 = true) (isOpen : u.fab.closed.testBit 3 = false)
include own on isOpen

/-- A register of a session's record is written by the initiator of its window. -/
theorem State.regWrite_session {r v : Nat} (hr : r ∈ [0, 4, 8, 0x14, 0x1C]) :
    u.regWrite (windowIni ses org) (sesAddr ses r) 4 v = u.sesWrite ses (claimUnit (windowIni ses org)) r (v % 2 ^ 32) := by
  have lt : r < 0x40 ∧ r % 4 = 0 := by
    revert r
    decide
  have pos : (ses : Nat) ≠ 0 := fun h => own (Fin.ext h)
  have high : sesAddr ses r / 0x10000 = 0x4000 := by unfold sesAddr; omega
  have low : sesAddr ses r % 0x10000 = 0x100 + 0x40 * ses + r := by unfold sesAddr; omega
  have record : (0x100 + 0x40 * ses + r - 0x100) / 0x40 = ses := by omega
  have place : (0x100 + 0x40 * ses + r) % 0x40 = r := by omega
  have inside : 0x100 ≤ 0x100 + 0x40 * ses.val + r ∧ 0x100 + 0x40 * ses.val + r < 0x200 := by omega
  have window : mbxWindow (0x100 + 0x40 * ses + r) = some ses.val := by
    rw [mbxWindow, record, if_pos (by simp; omega)]
  have known : (u.regAt 0 (sesAddr ses r)).isSome = true := by
    simp only [State.regAt, high, if_true, State.mbxReg, low, record, place, inside, decide_true, Bool.and_true]
    rw [if_neg (by omega), if_neg (by omega), if_neg (by omega)]
    simp only [List.mem_cons, List.not_mem_nil, or_false] at hr
    rcases hr with rfl | rfl | rfl | rfl | rfl <;> simp [State.sesReg, pos]
  have reached : u.regDenied (windowIni ses org) (sesAddr ses r) true = none := by
    have block := blockAt_mbx (a := sesAddr ses r) (by unfold sesAddr; omega)
    have outside : ¬ 0x4000 ≤ 0x100 + 0x40 * ses.val + r := by omega
    simp [State.regDenied, block, on, isOpen, high, low, window, (windowIni_spec org own).1, outside]
  rw [State.regWrite_word reached (by omega) (by unfold sesAddr; omega) known]
  simp only [State.regWrite32, high, if_true, low, inside, decide_true, Bool.and_true, record, place]
  rw [if_neg (by omega)]

/-- A command on such a register ends as the session's own write does. -/
theorem State.regCmd_session {v : State} {r x y c : Nat} (hr : r ∈ [0, 4, 8, 0x14, 0x1C]) (hy : x % 2 ^ 32 = y)
    (write : u.sesWrite ses (if ses = 3 then org.val else 0) r y = (v, c)) : u.regCmd (windowIni ses org) (sesAddr ses r) 4 x =
      if c = 0 then v else v.accessErr (windowIni ses org) c (sesAddr ses r) := by
  refine State.regCmd_eq on ?_
  rw [State.regWrite_session own on isOpen hr, (windowIni_spec org own).2.1, hy, write]

/-- A command that is not refused ends in the state of the session's own write. -/
theorem State.regCmd_session_ok {v : State} {r x y : Nat} (hr : r ∈ [0, 4, 8, 0x14, 0x1C]) (hy : x % 2 ^ 32 = y)
    (write : u.sesWrite ses (if ses = 3 then org.val else 0) r y = (v, 0)) : u.regCmd (windowIni ses org) (sesAddr ses r) 4 x = v :=
  (State.regCmd_session own on isOpen hr hy write).trans (if_pos rfl)

end

/-! ### The steps of a session window (03 R67) -/

/-- An update of a session's record is the writing of its new value. -/
theorem State.modSes_eq {s : State} {i : Nat} {f : SesRec → SesRec} {r : SesRec} (h : f (s.ses i) = r) : s.modSes i f = s.modSes i (fun _ => r) := by
  simp only [State.modSes, h]

theorem SesRec.mayWrite_of_held {r : SesRec} {unit : Nat} (owner : r.owner = unit) (idle : r.busy = false) : r.mayWrite unit = true := by
  simp [SesRec.mayWrite, owner, idle]

section
variable {u : State} {ses : Fin 4} {unit : Nat}

/-- A claim of a free buffer. -/
theorem State.mbxClaim_of_free (free : (u.ses ses).owner = 0xF) :
    u.mbxClaim ses unit = u.modSes ses (fun _ => { u.ses ses with owner := unit, claimAt := u.now }) :=
  State.modSes_eq (if_pos free)

/-- A later claim. -/
theorem State.mbxClaim_of_claimed (claimed : (u.ses ses).owner ≠ 0xF) : u.mbxClaim ses unit = u :=
  (State.modSes_eq (if_neg claimed)).trans (State.modSes_self u ses)

theorem State.mbxPut_of_held {off : Nat} {data : List Byte} (held : (u.ses ses).mayWrite unit = true) :
    u.mbxPut ses unit off data = (u.modSes ses (fun _ => { u.ses ses with buf := putCells (u.ses ses).buf off data }), 0) := by
  simp only [State.mbxPut, held, Bool.not_true, Bool.false_eq_true, if_false]
  rfl

theorem State.mbxLen_of_held {n : Nat} (held : (u.ses ses).mayWrite unit = true) (small : n < 8192) :
    u.mbxLen ses unit n = (u.modSes ses (fun _ => { u.ses ses with reqLen := n }), 0) := by
  simp only [State.mbxLen, held, Bool.not_true, Bool.false_eq_true, if_false, Nat.mod_eq_of_lt small]
  rfl

/-- MBX_REQ_LEN of a window whose writer does not hold the claim, or whose message has been handed over. -/
theorem State.mbxLen_of_denied {n : Nat} (denied : (u.ses ses).owner ≠ unit ∨ (u.ses ses).busy = true) : u.mbxLen ses unit n = (u, 3) := by
  have held : (u.ses ses).mayWrite unit = false := by
    rcases denied with h | h <;> simp [SesRec.mayWrite, h]
  simp [State.mbxLen, held]

theorem State.mbxGo_of_held (held : (u.ses ses).mayWrite unit = true) : u.mbxGo ses unit =
    (((u.modSes ses (fun _ => { u.ses ses with busy := true })).deliver ses unit
      ((List.range (u.ses ses).reqLen).map (fun i => u.bufByte (u.ses ses).buf i)) 0 0 0).mbxEvent ses, 0) := by
  simp only [State.mbxGo, held, Bool.not_true, Bool.false_eq_true, if_false]
  rfl

end

/-- What the session's own write of each register is. -/
theorem State.sesWrite_eq {u : State} {ses : Fin 4} {unit : Nat} (own : ses ≠ 0) :
    u.sesWrite ses unit 0 1 = u.mbxGo ses unit ∧ (∀ n, u.sesWrite ses unit 4 n = u.mbxLen ses unit n) ∧
    u.sesWrite ses unit 8 2 = (u.mbxClaim ses unit, 0) ∧ u.sesWrite ses unit 0x14 1 = u.mbxAck ses unit ∧
    ∀ n, u.sesWrite ses unit 0x1C n = (u.mbxIrqClear ses n, 0) := by
  have pos : (ses : Nat) ≠ 0 := fun h => own (Fin.ext h)
  have bit : Nat.testBit 2 1 = true := by decide
  simp [State.sesWrite, pos, bit]

/-- Bytes that the holder of a claim writes into the buffer of its window (03 R67). -/
theorem exec_requestBufferWrite_bytes {s : State} {g : Lapse} {ses org : Fin 4} {off : Nat} {data : List Byte} {v : State} (own : ses ≠ 0)
    (on : (s.pass g).pd 3 = true) (isOpen : (s.pass g).fab.closed.testBit 3 = false) (some' : data ≠ []) (fits : off + data.length ≤ 0x2000)
    (write : (s.pass g).mbxPut ses (if ses = 3 then org.val else 0) off data = (v, 0)) :
    exec (.requestBufferWrite g ses org (.bytes off data)) s = .next v := by
  have pos : 0 < data.length := List.length_pos_iff.mpr some'
  have block := blockAt_mbx (a := 0x40000000 + 0x4000 * ses + off) (by omega)
  have port : (s.pass g).portClosed (0x40000000 + 0x4000 * ses + off) = false := by
    simp only [State.portClosed, block, Option.map_some, Option.getD_some, isOpen]
  show execRequestBufferWrite g ses org (.bytes off data) s = _
  simp only [execRequestBufferWrite, (windowIni_spec org own).2.1, List.take_of_length_le (show data.length ≤ 0x2000 - off by omega), write]
  simp [on, port, own, some', show ¬ 0x2000 ≤ off by omega]

/-- A claim that runs out is released with its buffer (03 R67). -/
theorem exec_claimTimeout {s : State} {g : Lapse} {ses : Fin 4} (claimed : ((s.pass g).ses ses).owner ≠ 0xF) (free : ((s.pass g).ses ses).busy = false)
    (late : (s.pass g).now ≥ ((s.pass g).ses ses).claimAt + 20000000) :
    exec (.claimTimeout g ses) s = .next (((s.pass g).modSes ses SesRec.unclaim).mbxEvent ses) := by
  show execClaimTimeout g ses s = _
  simp [execClaimTimeout, claimed, free, State.expired, late]

/-- What a session's interrupt raises leaves the sessions. -/
theorem State.ses_mbxEvent (s : State) (i j : Nat) : (s.mbxEvent i).ses j = s.ses j := by
  rw [State.ses, State.ses, State.mbxEvent_atlas]

/-- Settles O5, by the session's own write of each register. -/
theorem mailboxSteps : Obligations.MailboxSteps := by
  intro s g ses org own on isOpen u r unit
  obtain ⟨go, len, claim, -, -⟩ := State.sesWrite_eq (u := u) (unit := unit) own
  and_intros
  · intro free
    exact ⟨_, rfl, State.regCmd_session_ok (r := 8) own on isOpen (by decide) rfl (claim.trans (congrArg (·, 0) (State.mbxClaim_of_free free)))⟩
  · intro claimed
    exact ⟨_, rfl, State.regCmd_session_ok (r := 8) own on isOpen (by decide) rfl (claim.trans (congrArg (·, 0) (State.mbxClaim_of_claimed claimed)))⟩
  · intro off data some' fits owner idle
    exact ⟨_, exec_requestBufferWrite_bytes own on isOpen some' fits (State.mbxPut_of_held (SesRec.mayWrite_of_held owner idle)), rfl⟩
  · intro n small owner idle
    exact ⟨_, rfl, State.regCmd_session_ok (r := 4) own on isOpen (by decide) (Nat.mod_eq_of_lt (by omega))
      ((len n).trans (State.mbxLen_of_held (SesRec.mayWrite_of_held owner idle) small))⟩
  · intro n denied
    have write := State.regCmd_session (org := org) (x := n) own on isOpen (by decide) rfl ((len _).trans (State.mbxLen_of_denied denied))
    rw [if_neg (by decide)] at write
    refine ⟨_, congrArg Host.Outcome.next write, fun p h1 h2 h3 => ?_, ?_, ?_⟩
    · exact (State.accessErr_only (l := [.fab, .dbg, .regs]) (.refl ..) (by decide)).same p (by simp [h1, h2, h3])
    · rw [(State.accessErr_fab ..).2, State.fabErr_ferrCnt]
    · rw [(State.accessErr_fab ..).1, (windowIni_spec org own).2.2]
  · intro owner idle
    exact ⟨_, rfl, State.regCmd_session_ok (r := 0) own on isOpen (by decide) rfl (go.trans (State.mbxGo_of_held (SesRec.mayWrite_of_held owner idle)))⟩
  · intro claimed idle late
    refine ⟨_, exec_claimTimeout claimed idle late, ?_⟩
    show (((u.modSes ses SesRec.unclaim).mbxEvent ses).ses ses) = _
    rw [State.ses_mbxEvent, State.ses_modSes, if_pos ⟨rfl, ses.isLt⟩]
    simp [SesRec.unclaim, ← idle, r, u]

end Sys2Proof.Machine
end

section
/-!
PROOFS. Registers outside the session windows, written by an initiator that reaches their block (01 R31); then O6.
-/
namespace Sys2Proof.Machine

/-- A block that its initiator reaches: the supervisor every one, the bench the host-visible ones, the partner those but MBX and INTLK (01 R31). -/
theorem State.regDenied_none {u : State} {ini : Initiator} {a b e : Nat} {visible write : Bool} (block : blockAt a = some (b, e, 3, visible))
    (on : u.pd 3 = true) (isOpen : u.fab.closed.testBit 3 = false) (window : a / 0x10000 = 0x4000 → mbxWindow (a % 0x10000) = none)
    (may : ini = .super ∨ visible = true ∧ (ini = .bench ∨ ini = .partner ∧ a / 0x10000 ≠ 0x4000 ∧ a / 0x10000 ≠ 0x4004)) :
    u.regDenied ini a write = none := by
  have noWindow : (if a / 0x10000 = 0x4000 then mbxWindow (a % 0x10000) else none) = none := by
    split
    · exact window ‹_›
    · rfl
  simp only [State.regDenied, block, on, isOpen, Bool.not_true, Bool.or_false, Bool.false_eq_true, if_false, decide_eq_true_eq, noWindow]
  rcases may with rfl | ⟨rfl, rfl | ⟨rfl, mbx, intlk⟩⟩
  · rfl
  · rfl
  · simp [mbx, intlk]

section
variable {u v : State} {ini : Initiator} {a x b e : Nat} {visible : Bool} (on : u.pd 3 = true) (isOpen : u.fab.closed.testBit 3 = false)
include on isOpen

/-- A command on an assigned register that its initiator reaches ends as the register's own write does. -/
theorem State.regCmd_reached (block : blockAt a = some (b, e, 3, visible)) (noWindow : mbxWindow (a % 0x10000) = none)
    (may : ini = .super ∨ visible = true ∧ (ini = .bench ∨ ini = .partner ∧ a / 0x10000 ≠ 0x4000 ∧ a / 0x10000 ≠ 0x4004))
    (al : a % 4 = 0) (known : (u.regAt 0 a).isSome = true) (write : u.regWrite32 ini a (x % 2 ^ 32) = (v, 0)) : u.regCmd ini a 4 x = v := by
  have low : ¬ 0x4000 ≤ a % 0x10000 := by
    intro high
    simp only [mbxWindow, high, if_true] at noWindow
    split at noWindow <;> cases noWindow
  have reached := State.regDenied_none (write := true) block on isOpen (fun _ => noWindow) may
  exact (State.regCmd_eq on ((State.regWrite_word reached (fun h => low h.2) al known).trans write)).trans (if_pos rfl)

/-- A write of MBX_CTRL for one session (03 R95). -/
theorem State.regCmd_mbxCtrl (ses : Fin 4) (may : ini = .bench ∨ ini = .super) : u.regCmd ini 0x40000000 4 (2 ^ ses.val) =
    u.modSes ses (fun _ => { u.ses ses with errFormat := 0, errCrc := 0, evLost := 0, dup := 0, peak := u.handleCount ses }) := by
  refine State.regCmd_reached on isOpen (blockAt_mbx (by decide)) (by decide) (may.elim (fun h => .inr ⟨rfl, .inl h⟩) .inl) (by decide) rfl ?_
  have one : bitList 4 (2 ^ ses.val % 2 ^ 32) = [ses.val] := by
    revert ses
    decide
  simp only [State.regWrite32, State.mbxClear, one, List.foldl]
  rfl

/-- A write of DBG_FERR_CLR by an initiator that reaches DBG (03 R97). -/
theorem State.regCmd_dbgClr (may : ini = .bench ∨ ini = .super ∨ ini = .partner) :
    u.regCmd ini 0x4003000C 4 1 = u.dbgClrRecord ∧ u.regCmd ini 0x4003000C 4 2 = u.dbgClrCounts := by
  have reach : ini = .super ∨ true = true ∧ (ini = .bench ∨ ini = .partner ∧ 0x4003000C / 0x10000 ≠ 0x4000 ∧ 0x4003000C / 0x10000 ≠ 0x4004) := by
    rcases may with h | h | h <;> simp [h]
  exact ⟨State.regCmd_reached on isOpen (b := 0x40030000) (e := 0x40040000) rfl (by decide) reach (by decide) rfl rfl,
    State.regCmd_reached on isOpen (b := 0x40030000) (e := 0x40040000) rfl (by decide) reach (by decide) rfl rfl⟩

end

/-- ACK of a session's posted entry, in session 3 by the core that it answers (03 R67, R68). -/
theorem State.mbxAck_of_posted {u : State} {ses org : Fin 4} {m : Msg} (posted : (u.ses ses).posted = some m) (mine : ses ≠ 3 ∨ m.origin = org) :
    u.mbxAck ses (if ses = 3 then org.val else 0) =
      (((u.modSes ses (fun _ => SesRec.post { u.ses ses with posted := none })).mbxEvent ses).drained, 0) := by
  have other : ¬ ((ses : Nat) = 3 ∧ m.origin ≠ if ses = 3 then org.val else 0) := by
    rintro ⟨three, foreign⟩
    have three : ses = 3 := Fin.ext three
    simp [three] at mine foreign
    exact foreign mine
  simp only [State.mbxAck, posted, Bool.and_eq_true, decide_eq_true_eq, other, if_false]
  rfl

/-- ACK with nothing posted. -/
theorem State.mbxAck_of_none {u : State} {ses : Fin 4} {unit : Nat} (posted : (u.ses ses).posted = none) : u.mbxAck ses unit = (u, 0) := by
  simp only [State.mbxAck, posted]

/-- A register write of the supervisor at an aligned address of the peripheral range. -/
theorem exec_registerWrite_super {s : State} {g : Lapse} {a v : Nat} (on : (s.pass g).pd 3 = true) (al : a % 4 = 0)
    (inside : 0x40000000 ≤ a ∧ a < 0x50000000) : exec (.registerWrite g .super a v) s = .next ((s.pass g).regCmd .super a 4 v) := by
  show execRegisterWrite g .super a v s = _
  simp [execRegisterWrite, on, al, inside]

/-- Settles O6, by the own write of each register. -/
theorem mailboxAnswers : Obligations.MailboxAnswers := by
  intro s g ses org own on isOpen u r
  obtain ⟨-, -, -, ack, irq⟩ := State.sesWrite_eq (u := u) (unit := if ses = 3 then org.val else 0) own
  have word : ∀ {v}, v < 2 ^ 32 → v % 2 ^ 32 = v := Nat.mod_eq_of_lt
  and_intros
  · intro m posted mine
    refine ⟨_, rfl, State.regCmd_session_ok (r := 0x14) own on isOpen (by decide) rfl (ack.trans ?_)⟩
    exact State.mbxAck_of_posted posted mine
  · intro posted
    refine ⟨_, rfl, State.regCmd_session_ok (r := 0x14) own on isOpen (by decide) rfl (ack.trans ?_)⟩
    exact State.mbxAck_of_none posted
  · intro mask small
    exact ⟨_, rfl, State.regCmd_session_ok (r := 0x1C) own on isOpen (by decide) (word small) (irq mask)⟩
  · intro ini may
    exact ⟨_, rfl, State.regCmd_mbxCtrl on isOpen ses may⟩
  · intro ini may
    obtain ⟨record, counts⟩ := State.regCmd_dbgClr on isOpen may
    exact ⟨⟨_, rfl, record⟩, ⟨_, rfl, counts⟩⟩
  · intro v small
    have flip : u.regWrite32 .super 0x40090010 (v % 2 ^ 32) = ({ u with mem := { u.mem with flipLo := v } }, 0) := by
      simpa [State.regWrite32, State.memWriteReg] using small
    exact ⟨_, exec_registerWrite_super on (by decide) (by decide), State.regCmd_reached (b := 0x40090000) (e := 0x400A0000) on isOpen rfl
      (by decide) (.inl rfl) (by decide) rfl flip⟩
  · intro v small
    exact ⟨_, exec_registerWrite_super on (by decide) (by decide), State.regCmd_reached (b := 0x40010000) (e := 0x40020000) on isOpen rfl
      (by decide) (.inl rfl) (by decide) rfl rfl⟩

end Sys2Proof.Machine
end

section
/-!
PROOFS. The bench SPI port (03 R69): transactions of whole groups, and those that make no access; then O7.
-/
namespace Sys2Proof.Machine

/-- A run of reads returns four bytes for each group, after what it had. -/
theorem State.benchRun_length (data out : List Byte) (k i off code : Nat) (s : State) :
    (State.benchRun false data k i off s out code).2.1.length = out.length + 4 * k := by
  induction k generalizing i s out code with
  | zero => rfl
  | succ k ih =>
    unfold State.benchRun
    simp only [Bool.false_eq_true, if_false, ih, List.length_append, length_leBytes]
    omega

/-- A run of writes returns what it had. -/
theorem State.benchRun_write_out (data out : List Byte) (k i off code : Nat) (s : State) : (State.benchRun true data k i off s out code).2.1 = out := by
  induction k generalizing i s code with
  | zero => rfl
  | succ k ih =>
    unfold State.benchRun
    simp only [if_true, ih]

section
variable {s : State} {g : Lapse} {off k : Nat} (on : (s.pass g).pd 3 = true) (al : off % 4 = 0) (visible : off ≤ 0x5FFFF) (some' : 1 ≤ k) (fits : k ≤ 2048)
include on al visible some' fits

/-- A read of whole groups. -/
theorem exec_bench_read : exec (.benchSpiTransaction g ⟨3, some off, [], 4 * k⟩) s =
    .next (let r := State.benchRun false [] k 0 off (s.pass g).serveAll [] 0; { r.1 with fab := { r.1.fab with spi := (r.2.1, r.2.2) } }) := by
  have groups : min (4 * k) 8192 / 4 = k := by omega
  have length := State.benchRun_length [] [] k 0 off 0 (s.pass g).serveAll
  show execBenchSpiTransaction g _ s = _
  unfold execBenchSpiTransaction
  generalize s.pass g = u at on length ⊢
  simp [on, al, groups, show ¬ 0x5FFFF < off by omega, show ¬ 4 * k < 4 by omega, show ¬ 8192 < 4 * k by omega, length]

/-- A write of whole groups. -/
theorem exec_bench_write {data : List Byte} (whole : data.length = 4 * k) : exec (.benchSpiTransaction g ⟨2, some off, data, 0⟩) s =
    .next (let r := State.benchRun true data k 0 off (s.pass g).serveAll [] 0; { r.1 with fab := { r.1.fab with spi := ([], r.2.2) } }) := by
  have groups : min (4 * k) 8192 / 4 = k := by omega
  show execBenchSpiTransaction g _ s = _
  unfold execBenchSpiTransaction
  generalize s.pass g = u at on ⊢
  simp [on, al, groups, whole, show ¬ 0x5FFFF < off by omega, show ¬ 4 * k < 4 by omega, show ¬ 8192 < 4 * k by omega]

end

/-- A refused transaction returns zeros with its code, is recorded once, and changes nothing else. -/
theorem State.benchRefuse_spec (u : State) (c a n : Nat) : (u.benchRefuse c a n).fab.spi = (List.replicate n 0, c) ∧
    (u.benchRefuse c a n).dbg = (u.fabErr c 8 a).dbg ∧ ∀ p, p ≠ .dbg → p ≠ .fab → Part.same p u (u.benchRefuse c a n) :=
  ⟨rfl, rfl, fun p h1 h2 => (State.benchRefuse_only (l := [.fab, .dbg]) (.refl ..) (by decide)).same p (by simp [h1, h2])⟩

/-- The transactions that make no access. -/
theorem exec_bench_refused {s : State} {g : Lapse} (on : (s.pass g).pd 3 = true) (n : Nat) :
    (∀ cmd off, cmd ≠ 2 → cmd ≠ 3 →
      exec (.benchSpiTransaction g ⟨cmd, off, [], n⟩) s = .next ((s.pass g).benchRefuse 1 (0x40000000 + off.getD 0) n)) ∧
    (∀ off, off % 4 ≠ 0 → exec (.benchSpiTransaction g ⟨3, some off, [], n⟩) s = .next ((s.pass g).benchRefuse 4 (0x40000000 + off) n)) ∧
    ∀ off, off % 4 = 0 → 0x5FFFF < off →
      exec (.benchSpiTransaction g ⟨3, some off, [], n⟩) s = .next ((s.pass g).benchRefuse 3 (0x40000000 + off) n) := by
  refine ⟨fun cmd off h2 h3 => ?_, fun off odd => ?_, fun off al out => ?_⟩ <;>
    show execBenchSpiTransaction g _ s = _ <;> unfold execBenchSpiTransaction <;> generalize s.pass g = u at on ⊢
  · simp [on, h2, h3]
  · simp [on, odd]
  · simp [on, al, out]

/-- The value of little-endian bytes. -/
theorem leVal_lt (bs : List Byte) : leVal bs < 2 ^ (8 * bs.length) := by
  induction bs with
  | nil => decide
  | cons b bs ih =>
    have hb := b.isLt
    rw [leVal, List.length_cons, Nat.mul_add, Nat.pow_add]
    omega

section
variable {u : State} (on : u.pd 3 = true) (isOpen : u.fab.closed.testBit 3 = false)
include on isOpen

/-- IDN_PART over the bench port. -/
theorem State.benchRun_idnPart : State.benchRun false [] 1 0 0x10000 u [] 0 = (u, leBytes 4 0x34365A41, 0) := by
  have reached : u.regDenied .bench 0x40010000 false = none :=
    State.regDenied_none (b := 0x40010000) (e := 0x40020000) rfl on isOpen (fun _ => by decide) (.inr ⟨rfl, .inl rfl⟩)
  have word : u.regRead32 8 0x40010000 = (u, some 0x34365A41) := rfl
  have read : u.regRead .bench 8 0x40010000 4 = (u, 0, 0x34365A41) := by simp [State.regRead, reached, word, bitsOf]
  simp [State.benchRun, State.benchWord, read]

/-- A write of DBG_FERR_CLR over the bench port with neither of its bits. -/
theorem State.benchRun_dbgNone {data : List Byte} (four : data.length = 4) (record : (leVal data).testBit 0 = false)
    (counts : (leVal data).testBit 1 = false) : State.benchRun true data 1 0 0x3000C u [] 0 = (u, [], 0) := by
  have word : leAt data 0 4 = leVal data := by rw [leAt, List.drop_zero, List.take_of_length_le four.le]
  have small : leVal data < 2 ^ 32 := by simpa only [four] using leVal_lt data
  have reached : u.regDenied .bench 0x4003000C true = none :=
    State.regDenied_none (b := 0x40030000) (e := 0x40040000) rfl on isOpen (fun _ => by decide) (.inr ⟨rfl, .inl rfl⟩)
  have own : u.regWrite32 .bench 0x4003000C (leVal data) = (u, 0) := by simp [State.regWrite32, record, counts]
  have write : u.regWrite .bench 0x4003000C 4 (leVal data) = (u, 0) := by
    rw [State.regWrite_word reached (by decide) (by decide) rfl, Nat.mod_eq_of_lt small, own]
  simp [State.benchRun, State.benchWord, word, write]

end

/-- With nothing at the fabric there is nothing to serve. -/
theorem State.serveAll_of_idle {u : State} (idle : u.fab.inflight = []) : u.serveAll = u :=
  State.arbitrate_of_none_waiting true _ (by simp [idle])

/-- Settles O7, by the run over the groups and the single accesses that it makes. -/
theorem benchPort : Obligations.BenchPort := by
  intro s g on u
  refine ⟨?_, ?_, ?_, ?_, ?_, ?_, ?_⟩
  · intro off k al visible some' fits
    exact ⟨_, exec_bench_read on al visible some' fits, rfl⟩
  · intro off data k al visible some' fits whole
    exact ⟨_, exec_bench_write on al visible some' fits whole, rfl⟩
  · intro idle isOpen
    refine ⟨_, exec_bench_read (k := 1) on (by decide) (by decide) (by decide) (by decide), ?_⟩
    simp only [show (s.pass g).serveAll = u from State.serveAll_of_idle idle, State.benchRun_idnPart (u := u) on isOpen]
  · intro data idle isOpen four record counts
    refine ⟨_, exec_bench_write (k := 1) on (by decide) (by decide) (by decide) (by decide) four, ?_⟩
    simp only [show (s.pass g).serveAll = u from State.serveAll_of_idle idle, State.benchRun_dbgNone (u := u) on isOpen four record counts]
  · intro cmd off n h2 h3
    exact ⟨_, (exec_bench_refused on n).1 cmd off h2 h3, State.benchRefuse_spec ..⟩
  · intro off n h
    exact ⟨_, (exec_bench_refused on n).2.1 off h, State.benchRefuse_spec ..⟩
  · intro off n al out
    exact ⟨_, (exec_bench_refused on n).2.2 off al out, State.benchRefuse_spec ..⟩

end Sys2Proof.Machine
end

section
/-!
PROOFS. Requests that Atlas takes (03 R70 to R72, R83 to R85): what an answer does to the sessions; then O8 and O9.
-/
namespace Sys2Proof.Machine

/-! ### Commands whose request is taken -/

section
variable {s : State} {g : Lapse} {q : Rq} {op handle : Nat} {payload : List Byte}

/-- A command that stands for a request that Atlas takes ends in the state of its operation. -/
theorem does_of_takes {c : Instr} {P : State → Prop} (k : InReq → State → State) (run : exec c s = .next ((s.pass g).serve q op handle payload k))
    (h : Takes (s.pass g) q op handle payload) (post : P (k ((s.pass g).direct q op handle payload) ((s.pass g).touch q.ses))) : Does c s P :=
  ⟨_, run, (State.serve_takes k h).symm ▸ post⟩

/-- The format of a request that is taken is one of Atlas's own. -/
theorem rspFmt_of_takes {u : State} (h : Takes u q op handle payload) : (u.touch q.ses).rspFmt q.fmt = q.fmt := by
  obtain ⟨-, -, -, -, check⟩ := h
  unfold State.precheck at check
  split at check
  · cases check
  next format =>
    split at check
    · cases check
    next edition =>
      have some' : q.fmt ≠ 0 := fun zero => format (by simp [State.direct, zero])
      exact (if_neg some').trans (if_neg edition)

end

/-! ### Sessions after an answer -/

/-- The response to a request (03 R77, R81). -/
def State.rspMsg (s : State) (r : InReq) (status handle : Nat) (payload : List Byte) : Msg :=
  ⟨s.rspFmt r.fmt, r.op, r.seq, handle, status, 1, if r.ses = 3 then r.org else 0, payload⟩

/-- The record of a session that has answered a request: kept for the duplicate check, with its SEQ shown (03 R75). -/
def SesRec.answering (x : SesRec) (r : InReq) (m : Msg) : SesRec :=
  { x with answered := keepAnswered x.answered ⟨r.org, r.seq, r.crc, m⟩, seqLast := r.seq }

/-- An answer is the response, sent after the session's record has been brought up to date. -/
theorem State.answer_eq (s : State) (r : InReq) (st h : Nat) (pl : List Byte) : s.answer r st h pl =
    (s.modSes r.ses (SesRec.answering · r (s.rspMsg r st h pl))).sendTo r.ses r.iface r.src r.sport (s.rspMsg r st h pl) := rfl

/-- Sending on the uplink leaves the sessions; another session's mailbox takes the message. -/
theorem State.ses_sendTo (s : State) (i j iface dst port : Nat) (m : Msg) :
    (s.sendTo i iface dst port m).ses j = if i ≠ 0 ∧ i = j ∧ i < 4 then (s.ses i).push m else s.ses j := by
  by_cases uplink : i = 0
  · rw [uplink, State.sendTo_zero, if_neg (by simp)]
    rfl
  · rw [State.ses, State.sendTo_atlas _ _ _ _ _ uplink, ← State.ses, State.ses_modSes]
    simp only [ne_eq, uplink, not_false_eq_true, true_and]

/-- The session whose request is answered: on the uplink the response leaves, on another the mailbox takes it. -/
theorem State.ses_answer (s : State) (r : InReq) (st h : Nat) (pl : List Byte) (lt : r.ses < 4) : (s.answer r st h pl).ses r.ses =
    if r.ses ≠ 0 then ((s.ses r.ses).answering r (s.rspMsg r st h pl)).push (s.rspMsg r st h pl) else (s.ses r.ses).answering r (s.rspMsg r st h pl) := by
  simp only [State.answer_eq, State.ses_sendTo, State.ses_modSes, lt, and_self, and_true, if_true]

/-- An answer leaves the other sessions. -/
theorem State.ses_answer_ne (s : State) (r : InReq) (st h : Nat) (pl : List Byte) {j : Nat} (other : r.ses ≠ j) : (s.answer r st h pl).ses j = s.ses j := by
  rw [State.answer_eq, State.ses_sendTo, if_neg (other ·.2.1), State.ses_modSes, if_neg (other ·.1)]

/-- A message pushed where one is posted goes into the queue, as long as it has room. -/
theorem SesRec.push_queue {r : SesRec} {m : Msg} (posted : r.posted ≠ none) (room : r.queue.length < 64) : (r.push m).queue = r.queue ++ [m] := by
  obtain ⟨x, hx⟩ := Option.ne_none_iff_exists'.mp posted
  simp [SesRec.push, hx, room]

/-- Pushing a message leaves everything but the mailbox of its session. -/
theorem SesRec.push_fields (r : SesRec) (m : Msg) : (r.push m).seqLast = r.seqLast ∧ (r.push m).isOpen = r.isOpen ∧ (r.push m).lastReq = r.lastReq ∧
    (r.push m).masks = r.masks := by
  unfold SesRec.push
  split
  · exact ⟨rfl, rfl, rfl, rfl⟩
  · split <;> exact ⟨rfl, rfl, rfl, rfl⟩

/-- A session whose timeout has been restarted. -/
theorem State.ses_touch (u : State) (i : Fin 4) : ((u.touch i).ses i).isOpen = true ∧ ((u.touch i).ses i).lastReq = u.now ∧
    ((u.touch i).ses i).posted = (u.ses i).posted ∧ ((u.touch i).ses i).queue = (u.ses i).queue ∧ ((u.touch i).ses i).masks = (u.ses i).masks := by
  rw [State.touch, State.ses_modSes, if_pos ⟨rfl, i.isLt⟩]
  split
  · exact ⟨‹_›, rfl, rfl, rfl, rfl⟩
  · exact ⟨rfl, rfl, rfl, rfl, rfl⟩

/-- Where the response to a request that is taken goes (03 R66, R67). -/
theorem State.answer_goes {u : State} {q : Rq} {op : Nat} {payload : List Byte} (h : Takes u q op 0 payload) (pl : List Byte) :
    let m : Msg := ⟨q.fmt, op, q.seq, 0, 0, 1, if q.ses = 3 then q.org else 0, pl⟩
    let t := (u.touch q.ses).answer (u.direct q op 0 payload) St.ok 0 pl
    (q.ses = 0 → ∃ x, t.atlas.sent = u.atlas.sent ++ [x] ∧ x.msg = m) ∧
    (q.ses ≠ 0 → (u.ses q.ses).posted = none → (t.ses q.ses).posted = some m) ∧
    (q.ses ≠ 0 → (u.ses q.ses).posted ≠ none → (t.ses q.ses).queue = (u.ses q.ses).queue ++ [m]) ∧
    (t.ses q.ses).seqLast = q.seq ∧ (t.ses q.ses).isOpen = true ∧ (t.ses q.ses).lastReq = u.now := by
  intro m t
  obtain ⟨hopen, last, posted, queue, -⟩ := State.ses_touch u q.ses
  have msg : (u.touch q.ses).rspMsg (u.direct q op 0 payload) St.ok 0 pl = m := by
    have three : ((q.ses : Nat) = 3) = (q.ses = 3) := propext ⟨fun e => Fin.ext e, congrArg Fin.val⟩
    simp only [State.rspMsg, State.direct, rspFmt_of_takes h, three, m, St.ok]
  have after : t.ses q.ses = if (q.ses : Nat) ≠ 0 then (((u.touch q.ses).ses q.ses).answering (u.direct q op 0 payload) m).push m
      else ((u.touch q.ses).ses q.ses).answering (u.direct q op 0 payload) m :=
    msg ▸ State.ses_answer (u.touch q.ses) (u.direct q op 0 payload) St.ok 0 pl q.ses.isLt
  have away : q.ses ≠ 0 → t.ses q.ses = (((u.touch q.ses).ses q.ses).answering (u.direct q op 0 payload) m).push m :=
    fun own => after.trans (if_pos (fun zero => own (Fin.ext zero)))
  refine ⟨fun uplink => ⟨_, State.answer_sent _ _ _ _ _ (congrArg Fin.val uplink), ?_⟩, fun own free => ?_, fun own used => ?_, ?_⟩
  · rw [← msg, State.rspMsg, if_neg (by simp [State.direct, uplink])]
  · rw [away own, SesRec.push_posted]
    exact congrArg some ((congrArg (·.getD m) (posted.trans free)))
  · have room : (u.ses q.ses).queue.length < 64 := by
      have room := h.2.2.1
      simpa [State.hasRoom, own] using room
    rw [away own, SesRec.push_queue (r := SesRec.answering _ _ m) (posted.trans_ne used) (queue ▸ room)]
    exact congrArg (· ++ [m]) queue
  · rw [after]
    split
    · obtain ⟨f1, f2, f3, -⟩ := SesRec.push_fields (((u.touch q.ses).ses q.ses).answering (u.direct q op 0 payload) m) m
      exact ⟨f1, f2.trans hopen, f3.trans last⟩
    · exact ⟨rfl, hopen, last⟩

/-- Settles O8. -/
theorem responses : Obligations.Responses := by
  intro s g q u rsp goes
  exact ⟨fun h => does_of_takes _ rfl h (State.answer_goes h []),
    fun h => does_of_takes _ rfl h (State.answer_goes h ((u.idnWords.map (leBytes 4)).flatten))⟩

/-! ### Reading parameters (03 R83 to R85) -/

/-- A parameter that no family has is not found. -/
theorem State.findPar_none {u : State} {id idx : Nat} (h : parSpec id idx = none) : u.findPar id idx = .inl St.unknownParam := by
  simp only [State.findPar, h]

/-- Settles O9, by what is found under the ID and INDEX. -/
theorem paramReads : Obligations.ParamReads := by
  intro s g q id idx u v
  refine ⟨fun f i p found h => ?_, fun unknown h => ?_, fun ps h => ?_, fun f i p found h => ?_⟩
  · refine does_of_takes _ rfl h ?_
    simp only [v, u] at found
    simp only [found, v, u, entryBytes, List.append_assoc]
  · refine does_of_takes _ rfl h ?_
    simp only [State.findPar_none unknown, v, u]
  · exact does_of_takes _ rfl h ⟨_, rfl⟩
  · refine does_of_takes _ rfl h ?_
    simp only [v, u] at found
    simp only [found, List.append_assoc]
    exact ⟨_, _, rfl⟩

end Sys2Proof.Machine
end

section
/-!
PROOFS. Writes that are refused and write-only parameters (03 R88, R453): O51, from what a set of one entry does.
-/
namespace Sys2Proof.Machine

/-! ### A set of one entry (03 R87, R453) -/

/-- An entry that the table refuses. -/
theorem State.writeSet_refused {v : State} {r : InReq} {w : ParWrite} {c : Nat} (check : v.tableCheck r.ses r.org w = .inl c) (bad : c ≠ 0) :
    v.writeSet r [w] = (v, some (0, c)) := by
  simp [State.writeSet, check, goodEnts, State.firstBad, State.entStatus, bad]

/-- An entry that the table lets through, by its status in the state that it would give. -/
theorem State.writeSet_checked {v : State} {r : InReq} {w : ParWrite} {e : PEnt} (check : v.tableCheck r.ses r.org w = .inr e) :
    v.writeSet r [w] =
      if v.entStatus (v.storeEnt e) (.inr e) = 0 then (v.applySet r.stamp [e], none)
      else (if e.f.base = 0x80 then v.powerRefused e.p.off e.v else v, some (0, v.entStatus (v.storeEnt e) (.inr e))) := by
  simp only [State.writeSet, List.map, check, goodEnts, List.filterMap, List.foldl, State.firstBad]
  by_cases passes : v.entStatus (v.storeEnt e) (.inr e) = 0 <;> simp only [passes, if_true, if_false]

/-- An answer leaves the parameters. -/
theorem State.answer_par (s : State) (r : InReq) (st h : Nat) (pl : List Byte) : (s.answer r st h pl).par = s.par :=
  (State.answer_only (l := [.atlas, .evs, .ctl]) (.refl ..) (by decide)).same .par (by decide)

/-! ### Read-only and write-only parameters (03 R88) -/

/-- The table refuses a write of an RO parameter that has its type and its length. -/
theorem State.tableCheck_readOnly {v : State} {ses org id idx i x : Nat} {f : FamSpec} {p : ParSpec} (known : parSpec id idx = some (f, i, p))
    (edition : 1 ≤ v.be) (ro : p.acc = .ro) : v.tableCheck ses org ⟨id, idx, p.type, p.vlen, x⟩ = .inl St.readOnly := by
  simp [State.tableCheck, known, ro, show ¬ v.be < 1 by omega]

/-- A parameter that has an ID is a member of its family, or the second element of `mem.inject`. -/
theorem parSpec_mem {id idx i : Nat} {f : FamSpec} {p : ParSpec} (known : parSpec id idx = some (f, i, p)) :
    f ∈ famTable ∧ (p ∈ f.pars ∨ p = par_mem_inject1) := by
  have member : ∀ x, lookupPar id = some x → x.1 ∈ famTable ∧ x.2.2 ∈ x.1.pars := by
    intro x found
    unfold lookupPar at found
    split at found
    · cases found
    next fam hfam =>
      extract_lets j at found
      split at found
      · cases found
      · obtain ⟨m, hm, rfl⟩ := Option.map_eq_some_iff.mp found
        exact ⟨List.mem_of_find?_eq_some hfam, List.mem_of_find?_eq_some hm⟩
  unfold parSpec at known
  split at known
  · cases known
  next fam j m found =>
    obtain ⟨hf, hm⟩ := member _ found
    split at known
    · split at known
      · obtain ⟨rfl, -, rfl⟩ : fam = f ∧ j = i ∧ _ = p := by simpa using known
        exact ⟨hf, by split <;> simp [hm]⟩
      · cases known
    · obtain ⟨rfl, -, rfl⟩ : fam = f ∧ j = i ∧ m = p := by simpa using known
      exact ⟨hf, .inl hm⟩

/-- A WO parameter has no RW field, none at bit 0 that is RO, and outside `eth` no RO field at all (table of 03 R90). -/
theorem mask_of_wo : ∀ f ∈ famTable, ∀ p ∈ f.pars, p.acc = .wo →
    p.mask .rw = 0 ∧ (p.mask .ro).testBit 0 = false ∧ (f.base ≠ 0x3400 → p.mask .ro = 0) := by
  decide +kernel

/-- What a read of a WO parameter shows: of its fields the RO ones alone. -/
theorem State.readPar_wo {v : State} {id idx i : Nat} {f : FamSpec} {p : ParSpec} (known : parSpec id idx = some (f, i, p)) (wo : p.acc = .wo) :
    (v.readPar f i p id idx).testBit 0 = false ∧ (f.base ≠ 0x3400 → v.readPar f i p id idx = 0) := by
  obtain ⟨fam, member | rfl⟩ := parSpec_mem known
  · obtain ⟨rw', bit, ro⟩ := mask_of_wo f fam p member wo
    have shown : v.readPar f i p id idx = v.roOf f.base i p.off idx &&& p.mask .ro := by
      simp only [State.readPar, State.rwOf, rw', Nat.and_zero, Nat.zero_or]
    refine ⟨?_, fun other => ?_⟩
    · rw [shown, Nat.testBit_and, bit, Bool.and_false]
    · rw [shown, ro other, Nat.and_zero]
  · cases wo

/-- A parameter in the edition in force is found, with INDEX 0 or as an element of its table. -/
theorem State.findPar_some {v : State} {id idx i : Nat} {f : FamSpec} {p : ParSpec} (known : parSpec id idx = some (f, i, p)) (edition : 1 ≤ v.be)
    (index : p.type = 12 ∨ idx = 0) : v.findPar id idx = .inr (f, i, p) := by
  have inside : ¬ (p.type ≠ 12 ∧ idx ≠ 0) := by tauto
  simp only [State.findPar, known, if_neg (show ¬ v.be < 1 by omega), Bool.and_eq_true, decide_eq_true_eq, inside, if_false]

/-- Settles O51, by the table check of an RO parameter and the masks of a WO one. -/
theorem readOnlyAndWriteOnly : Obligations.ReadOnlyAndWriteOnly := by
  intro s g q id idx f i p u v rd known edition
  refine ⟨?_, fun wo index taken => ?_⟩
  · intro x w ro
    have refused : ∀ r, v.writeSet r [w] = (v, some (0, St.readOnly)) :=
      fun r => State.writeSet_refused (State.tableCheck_readOnly known edition ro) (by decide)
    refine ⟨fun taken => does_of_takes _ rfl taken ?_, fun taken => does_of_takes _ rfl taken ?_⟩
    · simp only [show (s.pass g).touch q.ses = v from rfl, refused]
      exact ⟨rfl, State.answer_par ..⟩
    · simp only [show (s.pass g).touch q.ses = v from rfl, refused]
      exact ⟨⟨_, rfl⟩, State.answer_par ..⟩
  · obtain ⟨bit, zero⟩ := State.readPar_wo (v := v) known wo
    have read : Does (.paramRead g q id idx) s (fun t => t = v.answer (u.direct q 0x10 0 rd) St.ok 0
        (entryBytes ⟨id, idx, p.type, p.vlen, v.readPar f i p id idx⟩)) := by
      refine does_of_takes _ rfl taken ?_
      simp only [show (s.pass g).touch q.ses = v from rfl, State.findPar_some known edition index]
      rfl
    obtain ⟨t, run, ht⟩ := read
    simp only [entryBytes] at ht
    refine ⟨fun other => ⟨t, run, ?_⟩, fun _ => ⟨t, run, _, bit, ?_⟩⟩
    · rw [ht, zero other]
    · rw [ht]

end Sys2Proof.Machine
end

section
/-!
PROOFS. Writes of parameters (03 R85 to R87, R453): what a store of values reads as after a write, what a set of one entry does; then O10.
-/
namespace Sys2Proof.Machine

/-! ### A removed key (03 R86) -/

/-- A removed key is gone from a list that rises strictly. -/
theorem kvGet_kvDel_self {α : Type} (k : Nat) {l : List (Nat × α)} (rising : Rising l) : kvGet k (kvDel k l) = none := by
  induction l with
  | nil => rfl
  | cons y l ih =>
    obtain ⟨above, rest⟩ := List.pairwise_cons.mp rising
    unfold kvDel
    split
    next same =>
      have gone : ∀ m : List (Nat × α), (∀ x ∈ m, k < x.1) → kvGet k m = none := by
        intro m
        induction m with
        | nil => exact fun _ => rfl
        | cons x m ihm =>
          intro all
          have lt := all x List.mem_cons_self
          exact (if_neg (by omega)).trans (ihm (fun z hz => all z (List.mem_cons_of_mem x hz)))
      exact gone l (fun x hx => same ▸ above x hx)
    next other => exact (if_neg other).trans (ih rest)

/-- A lookup of another key after a removal. -/
theorem kvGet_kvDel_ne {α : Type} {j k : Nat} (l : List (Nat × α)) (h : j ≠ k) : kvGet j (kvDel k l) = kvGet j l := by
  induction l with
  | nil => rfl
  | cons y l ih =>
    unfold kvDel
    split
    next same => exact (if_neg (fun e => h (e.trans same.symm))).symm
    next other => simp only [kvGet, ih]

/-! ### Working copies after a write (03 R86) -/

/-- A working copy reads as it was written. -/
theorem State.parOf_setPar_self {s : State} (canon : s.Canon) (id idx v : Nat) : (s.setPar id idx v).parOf id idx = v := by
  obtain ⟨-, -, rising, -⟩ := canon
  simp only [State.parOf, State.setPar]
  split
  next dflt => rw [kvGet_kvDel_self _ rising, Option.getD_none, dflt]
  next other => rw [kvGet_kvPut_self, Option.getD_some]

/-- A write leaves the working copies under other keys. -/
theorem State.work_setPar_ne {s : State} {id idx v k : Nat} (other : k ≠ parKey id idx) :
    kvGet k (s.setPar id idx v).par.work = kvGet k s.par.work := by
  simp only [State.setPar]
  split
  · exact kvGet_kvDel_ne _ other
  · exact kvGet_kvPut_ne _ _ other

/-! ### A set of one entry that passes (03 R453) -/

/-- What an entry that the table lets through consists of. -/
theorem State.tableCheck_inr {v : State} {ses org : Nat} {w : ParWrite} {e : PEnt} (check : v.tableCheck ses org w = .inr e) :
    parSpec w.id w.idx = some (e.f, e.i, e.p) ∧ e.id = w.id ∧ e.idx = w.idx ∧ e.v = w.val % 2 ^ (8 * e.p.vlen) := by
  unfold State.tableCheck at check
  split at check
  · cases check
  next f i p known =>
    simp only at check
    repeat (split at check; · cases check)
    obtain rfl := Sum.inr.inj check
    exact ⟨known, rfl, rfl, rfl⟩

/-- No status that the table gives is OK. -/
theorem State.tableCheck_inl {v : State} {ses org : Nat} {w : ParWrite} {c : Nat} (check : v.tableCheck ses org w = .inl c) : c ≠ 0 := by
  unfold State.tableCheck at check
  split at check
  · cases check
    decide
  · simp only at check
    repeat' split at check
    all_goals cases check <;> decide

/-- A set of one entry that is accepted. -/
theorem State.writeSet_accepted {v : State} {r : InReq} {w : ParWrite} (accepted : (v.writeSet r [w]).2 = none) :
    ∃ e, v.tableCheck r.ses r.org w = .inr e ∧ (v.writeSet r [w]).1 = v.applySet r.stamp [e] := by
  cases check : v.tableCheck r.ses r.org w with
  | inl c =>
    rw [State.writeSet_refused check (State.tableCheck_inl check)] at accepted
    cases accepted
  | inr e =>
    refine ⟨e, rfl, ?_⟩
    rw [State.writeSet_checked check] at accepted ⊢
    split at accepted
    next passes => rw [if_pos passes]
    · cases accepted

/-- A refused set leaves every parameter. -/
theorem State.writeSet_par_of_refused {v : State} {r : InReq} {ws : List ParWrite} {x : Nat × Nat} (refused : (v.writeSet r ws).2 = some x) :
    (v.writeSet r ws).1.par = v.par := by
  simp only [State.writeSet] at refused ⊢
  split at refused
  · cases refused
  · split
    · split
      · exact (State.powerRefused_only (l := [.atlas, .pwr, .evs, .ctl]) (.refl ..) (by decide)).same .par (by decide)
      · rfl
    · rfl

/-- The parameters after a set of one entry are those after its own write. -/
theorem State.applySet_single_par (v : State) (stamp : Nat) (e : PEnt) : (v.applySet stamp [e]).par = (v.written (v.storeEnt e) e).par := by
  have one : lastOnes [e] = [e] := by simp [lastOnes]
  simp only [State.applySet, one, List.foldl]
  refine ((State.pairChanged_only (l := [.atlas, .evs, .ilr, .ctl]) (.refl ..) (by decide)).same .par (by decide)).trans ?_
  split
  · exact (State.sendCtlMsg_only (l := [.ctl]) (.refl ..) (by decide)).same .par (by decide)
  · rfl

/-- A write in the family `atlas` does nothing besides the working copy. -/
theorem State.written_atlas {s0 s : State} {e : PEnt} (base : e.f.base = 0) : s0.written s e = s := by
  simp [State.written, base]

/-- An accepted write of `atlas.session_timeout` stores its value and does nothing else to the parameters. -/
theorem State.par_sessionTimeout {v : State} {r : InReq} {n : Nat} (accepted : (v.writeSet r [⟨9, 0, 6, 4, n⟩]).2 = none) :
    (v.writeSet r [⟨9, 0, 6, 4, n⟩]).1.par = (v.setPar 9 0 (n % 2 ^ 32)).par := by
  obtain ⟨e, check, result⟩ := State.writeSet_accepted accepted
  obtain ⟨known, id, idx, val⟩ := State.tableCheck_inr check
  have spec : parSpec 9 0 = some (fam_atlas, 0, par_atlas_session_timeout) := by decide +kernel
  obtain ⟨f, i, p, id', idx', x⟩ := e
  simp only at known id idx val
  obtain ⟨rfl, rfl, rfl⟩ : fam_atlas = f ∧ 0 = i ∧ par_atlas_session_timeout = p := by simpa [spec] using known
  subst id idx val
  have low : n % 2 ^ (8 * par_atlas_session_timeout.vlen) &&& par_atlas_session_timeout.mask .rw = n % 2 ^ 32 := by
    rw [show par_atlas_session_timeout.mask .rw = 2 ^ 32 - 1 by decide, Nat.and_two_pow_sub_one_eq_mod]
    exact Nat.mod_mod n (2 ^ 32)
  rw [result, State.applySet_single_par, State.written_atlas rfl]
  simp only [State.storeEnt, fam_atlas, Nat.reduceEqDiff, decide_false, Bool.false_and, Bool.false_eq_true, if_false, low]

/-! ### PARAM_WRITE and PARAM_WRITE_SET -/

section
variable {s : State} {g : Lapse} {q : Rq}

/-- The status that a set's outcome is answered with. -/
def statusOf (x : Option (Nat × Nat)) : Nat := match x with | none => St.ok | some (_, c) => c

/-- A PARAM_WRITE that is taken is answered with the outcome of its set of one entry. -/
theorem does_paramWrite {w : ParWrite} {P : State → Prop} (taken : Takes (s.pass g) q 0x11 0 (entryBytes w))
    (post : P ((((s.pass g).touch q.ses).writeSet ((s.pass g).direct q 0x11 0 (entryBytes w)) [w]).1.answer ((s.pass g).direct q 0x11 0 (entryBytes w))
      (statusOf (((s.pass g).touch q.ses).writeSet ((s.pass g).direct q 0x11 0 (entryBytes w)) [w]).2) 0 (leBytes 2 w.id ++ leBytes 2 w.idx))) :
    Does (.paramWrite g q w) s P :=
  does_of_takes _ rfl taken post

/-- A PARAM_WRITE that is accepted ends in its answer. -/
theorem does_paramWrite_accepted {w : ParWrite} (accepts : Accepts (s.pass g) q w) : Does (.paramWrite g q w) s (WroteOk (s.pass g) q w) :=
  does_paramWrite accepts.1 (by rw [WroteOk, accepts.2]; rfl)

/-- What a PARAM_WRITE_SET is answered with: 0xFFFF, or the position of its first failing entry. -/
def placeOf (x : Option (Nat × Nat)) : Nat := match x with | none => 0xFFFF | some (n, _) => n

/-- A PARAM_WRITE_SET that is taken is answered with the outcome of its set. -/
theorem does_paramWriteSet {ws : List ParWrite} {payload : List Byte} {P : State → Prop}
    (bytes : leBytes 2 ws.length ++ (ws.map entryBytes).flatten = payload) (taken : Takes (s.pass g) q 0x13 0 payload)
    (post : P ((((s.pass g).touch q.ses).writeSet ((s.pass g).direct q 0x13 0 payload) ws).1.answer ((s.pass g).direct q 0x13 0 payload)
      (statusOf (((s.pass g).touch q.ses).writeSet ((s.pass g).direct q 0x13 0 payload) ws).2) 0
      (leBytes 2 (placeOf (((s.pass g).touch q.ses).writeSet ((s.pass g).direct q 0x13 0 payload) ws).2)))) :
    Does (.paramWriteSet g q ws) s P := by
  subst bytes
  refine does_of_takes _ rfl taken ?_
  simp only
  generalize ((s.pass g).touch q.ses).writeSet ((s.pass g).direct q 0x13 0 (leBytes 2 ws.length ++ (ws.map entryBytes).flatten)) ws = x at post ⊢
  obtain ⟨t, _ | ⟨n, c⟩⟩ := x
  · exact post
  · exact post

end

/-- Settles O10, by what a set of one entry does. -/
theorem paramWrites : Obligations.ParamWrites := by
  intro s g q u v
  refine ⟨fun w accepts => does_paramWrite_accepted accepts, fun w n c taken refused => does_paramWrite taken ?_, fun ws taken accepted => ?_,
    fun ws n c taken refused => ?_, fun n _ canon accepts => ?_⟩
  · exact ⟨(State.answer_par ..).trans (State.writeSet_par_of_refused refused), by rw [refused]; rfl⟩
  · exact does_paramWriteSet rfl taken ⟨_, by rw [accepted]; rfl⟩
  · exact does_paramWriteSet rfl taken ⟨(State.answer_par ..).trans (State.writeSet_par_of_refused refused), _, by rw [refused]; rfl⟩
  · obtain ⟨t, run, rfl⟩ := does_paramWrite_accepted accepts
    have par := (State.answer_par _ (u.direct q 0x11 0 (entryBytes ⟨9, 0, 6, 4, n⟩)) St.ok 0 (leBytes 2 9 ++ leBytes 2 0)).trans
      (State.par_sessionTimeout accepts.2)
    refine ⟨_, run, ?_, fun k other => ?_⟩
    · rw [State.parOf, par]
      exact State.parOf_setPar_self canon 9 0 (n % 2 ^ 32)
    · rw [par]
      exact State.work_setPar_ne other

end Sys2Proof.Machine
end

section
/-!
PROOFS. Handles (03 R76, R77, R79, R80): queries, releases and cancels by what the handle is; then O12.
-/
namespace Sys2Proof.Machine

section
variable {s : State} {g : Lapse} {q : Rq} {h : Nat} {x : Hnd} {P : State → Prop}

/-- A handle that the device does not hold is the target of no operation. -/
theorem State.targetHandle_none {u : State} {op : Nat} (free : u.handle h = none) : (u.touch q.ses).targetHandle (u.direct q op h []) = none := by
  have free : (u.touch q.ses).handle (u.direct q op h []).handle = none := free
  simp only [State.targetHandle, free]

/-- HANDLE_QUERY of a handle of the session. -/
theorem does_handleQuery (taken : Takes (s.pass g) q 0x30 h [])
    (target : ((s.pass g).touch q.ses).targetHandle ((s.pass g).direct q 0x30 h []) = some x) :
    (x.phase = .pending → P (((s.pass g).touch q.ses).answer ((s.pass g).direct q 0x30 h []) St.ok h
      (leBytes 1 1 ++ leBytes 1 (((s.pass g).touch q.ses).waitOf x) ++ leBytes 2 x.progress)) → Does (.handleQuery g q h) s P) ∧
    ∀ n st pl, x.phase = .done n st pl → P (((s.pass g).touch q.ses).answer ((s.pass g).direct q 0x30 h []) St.ok h
      (leBytes 1 2 ++ leBytes 1 0 ++ leBytes 2 1000 ++ leBytes 2 st ++ pl)) → Does (.handleQuery g q h) s P := by
  refine ⟨fun phase post => does_of_takes _ rfl taken ?_, fun n st pl phase post => does_of_takes _ rfl taken ?_⟩ <;>
    · simp only [target, phase]
      exact post

/-- HANDLE_RELEASE of a handle of the session. -/
theorem does_handleRelease (taken : Takes (s.pass g) q 0x32 h [])
    (target : ((s.pass g).touch q.ses).targetHandle ((s.pass g).direct q 0x32 h []) = some x) :
    (x.phase = .pending → P (((s.pass g).touch q.ses).answer ((s.pass g).direct q 0x32 h []) St.state 0 []) → Does (.handleRelease g q h) s P) ∧
    ∀ n st pl, x.phase = .done n st pl → P ((((s.pass g).touch q.ses).freeHandle h).answer ((s.pass g).direct q 0x32 h []) St.ok h []) →
      Does (.handleRelease g q h) s P := by
  refine ⟨fun phase post => does_of_takes _ rfl taken ?_, fun n st pl phase post => does_of_takes _ rfl taken ?_⟩ <;>
    · simp only [target, phase]
      exact post

/-- HANDLE_CANCEL of a PENDING handle of the session, by whether its operation may be cancelled and whether it has passed c. -/
theorem does_handleCancel_pending (taken : Takes (s.pass g) q 0x31 h [])
    (target : ((s.pass g).touch q.ses).targetHandle ((s.pass g).direct q 0x31 h []) = some x) (phase : x.phase = .pending)
    (post : P (if cancellable x.op = false then ((s.pass g).touch q.ses).answer ((s.pass g).direct q 0x31 h []) St.notCancellable 0 []
      else if (s.pass g).pastC h then ((s.pass g).touch q.ses).answer ((s.pass g).direct q 0x31 h []) St.state 0 []
      else (((s.pass g).touch q.ses).answer ((s.pass g).direct q 0x31 h []) St.ok h []).cancelNow x)) : Does (.handleCancel g q h) s P := by
  refine does_of_takes _ rfl taken ?_
  simp only [target, phase, Bool.not_eq_true']
  exact post

/-- HANDLE_CANCEL of a handle whose operation has ended and whose completion has not left. -/
theorem does_handleCancel_ended {k st : Nat} {pl : List Byte} (taken : Takes (s.pass g) q 0x31 h [])
    (target : ((s.pass g).touch q.ses).targetHandle ((s.pass g).direct q 0x31 h []) = some x) (phase : x.phase = .ended k st pl)
    (post : P (if k < (s.pass g).now then ((s.pass g).touch q.ses).answer ((s.pass g).direct q 0x31 h []) St.state 0 []
      else if cancellable x.op = false then ((s.pass g).touch q.ses).answer ((s.pass g).direct q 0x31 h []) St.notCancellable 0 []
      else let y := (((s.pass g).touch q.ses).answer ((s.pass g).direct q 0x31 h []) St.ok h []).cancelEnded x st pl
        y.1.finish h (s.pass g).now St.cancelled y.2)) : Does (.handleCancel g q h) s P := by
  refine does_of_takes _ rfl taken ?_
  simp only [target, phase, Bool.not_eq_true']
  exact post

/-- HANDLE_CANCEL of a handle that the device does not hold. -/
theorem does_handleCancel_unknown (taken : Takes (s.pass g) q 0x31 h []) (free : (s.pass g).handle h = none)
    (post : P (((s.pass g).touch q.ses).answer ((s.pass g).direct q 0x31 h []) (if (s.pass g).pastC h then St.state else St.unknownHandle) 0 [])) :
    Does (.handleCancel g q h) s P := by
  refine does_of_takes _ rfl taken ?_
  simp only [State.targetHandle_none free]
  exact post

end

/-- Settles O12, by the phase of the handle. -/
theorem handles : Obligations.Handles := by
  intro s g q h
  dsimp only
  refine ⟨fun x op known target phase => ⟨?_, ?_, ?_, ?_, ?_⟩, fun x k st pl known target phase taken => ⟨?_, ?_, ?_⟩,
    fun x op n st pl known target phase => ⟨?_, ?_, ?_⟩, fun free => ⟨?_, ?_, ?_⟩⟩
  · rintro rfl taken
    exact (does_handleQuery taken target).1 phase rfl
  · rintro rfl taken
    exact (does_handleRelease taken target).1 phase rfl
  · rintro rfl taken fixed
    refine does_handleCancel_pending taken target phase ?_
    rw [if_pos fixed]
    exact ⟨(State.answer_handles ..).1, rfl⟩
  · rintro rfl taken free before
    exact does_handleCancel_pending taken target phase (by rw [if_neg (by simp [free]), if_neg (by simp [before])])
  · rintro rfl taken free past
    exact does_handleCancel_pending taken target phase (by rw [if_neg (by simp [free]), if_pos past])
  · intro late
    exact does_handleCancel_ended taken target phase (if_pos late)
  · intro early fixed
    exact does_handleCancel_ended taken target phase (by rw [if_neg (by omega), if_pos fixed])
  · intro early free
    exact does_handleCancel_ended taken target phase (by rw [if_neg (by omega), if_neg (by simp [free])])
  · rintro rfl taken
    exact (does_handleQuery taken target).2 n st pl phase rfl
  · rintro rfl taken
    refine (does_handleRelease taken target).2 n st pl phase ⟨fun y hy => ?_, rfl⟩
    rw [(State.answer_handles ..).1] at hy
    simpa using (List.mem_filter.mp hy).2
  · intro expired
    refine ⟨_, ?_, rfl⟩
    show execHandleKeepExpiry g h s = _
    have expired : (s.pass g).expired n (msTk ((s.pass g).pf Pf.atlasHandleKeep_KEEP)) = true := decide_eq_true expired
    simp only [execHandleKeepExpiry, known, phase, expired, if_true]
  · intro taken
    refine does_of_takes _ rfl taken ?_
    simp only [State.targetHandle_none free]
  · intro taken before
    exact does_handleCancel_unknown taken free (by rw [before]; rfl)
  · intro taken past
    exact does_handleCancel_unknown taken free (by rw [past]; rfl)

end Sys2Proof.Machine
end

section
/-!
PROOFS. Datagrams of the uplink (03 R66, R71, R73): what is handed over, what waits and what is discarded; then O14.
-/
namespace Sys2Proof.Machine

/-! ### Discarding a message (03 R67, R71) -/

/-- A consumed message leaves the counts of its session, and of Atlas everything but the sessions. -/
theorem State.consume_spec (s : State) {i : Nat} (lt : i < 4) : ((s.consume i).ses i).errFormat = (s.ses i).errFormat ∧
    (s.consume i).atlas = { s.atlas with ses := (s.consume i).atlas.ses } := by
  unfold State.consume
  split
  · refine ⟨?_, ?_⟩
    · rw [State.ses_mbxEvent, State.ses_modSes, if_pos ⟨rfl, lt⟩]
    · rw [State.mbxEvent_atlas]
      rfl
  · exact ⟨rfl, rfl⟩

/-- A message with a wrong length is counted, and leaves of Atlas everything but the sessions. -/
theorem State.discard_spec (s : State) {i : Nat} (lt : i < 4) : ((s.discard i 1).ses i).errFormat = satInc 255 (s.ses i).errFormat ∧
    (s.discard i 1).atlas = { s.atlas with ses := (s.discard i 1).atlas.ses } := by
  unfold State.discard
  refine ⟨?_, ?_⟩
  · rw [State.ses_mbxEvent, State.ses_modSes, if_pos ⟨rfl, lt⟩, if_pos rfl]
  · rw [State.mbxEvent_atlas]
    rfl

/-- A message of the uplink with a wrong length is discarded at once where nothing else waits. -/
theorem State.drained_of_wrong {s : State} {r : InReq} (up : s.atlasUp = true) (free : s.atlas.inbox = []) (idle : s.atlas.handles = [])
    (uplink : r.ses = 0) (wrong : r.chk = 1) :
    let t := ({ s with atlas := { s.atlas with inbox := putRequest r s.atlas.inbox } } : State).drained
    t.atlas.sent = s.atlas.sent ∧ (t.ses 0).errFormat = satInc 255 (s.ses 0).errFormat ∧ t.atlas.inbox = [] := by
  intro t
  let w : State := { s with atlas := { s.atlas with inbox := [r] } }
  have front : w.front = some r := by simp [w, State.front, State.hasRoom, uplink]
  have one : t = ((w.takeOut r).discard 0 1).settleEnded := by
    have upW : w.atlasUp = true := up
    have step : w.drain 1 = (w.takeOut r).discard 0 1 := by simp only [State.drain, front, wrong, uplink, decide_true, Bool.true_or, if_true]
    have start : t = w.drained := by simp only [t, w, free, putRequest]
    rw [start, State.drained, if_pos upW]
    exact congrArg State.settleEnded step
  have taken : w.takeOut r = ({ s with atlas := { s.atlas with inbox := [] } } : State).consume 0 := by
    simp only [State.takeOut, w, List.erase_cons_head, uplink]
  obtain ⟨count, atlas⟩ := State.discard_spec (w.takeOut r) (i := 0) (by decide)
  obtain ⟨count', atlas'⟩ := State.consume_spec ({ s with atlas := { s.atlas with inbox := [] } } : State) (i := 0) (by decide)
  rw [← taken] at count' atlas'
  have settled : ((w.takeOut r).discard 0 1).settleEnded = (w.takeOut r).discard 0 1 := by
    have none' : ((w.takeOut r).discard 0 1).atlas.handles = [] := by rw [atlas, atlas']; exact idle
    simp only [State.settleEnded, none', List.foldl]
  rw [one, settled]
  refine ⟨?_, count.trans (congrArg (satInc 255) count'), ?_⟩
  · rw [atlas, atlas']
  · rw [atlas, atlas']

/-! ### Datagrams (03 R66) -/

/-- A message shorter than its header is handed over with its length marked as wrong. -/
theorem State.deliver_of_short {u : State} {bs : List Byte} {iface src sport : Nat} (short : bs.length ≤ 15) :
    ∃ r : InReq, r.ses = 0 ∧ r.chk = 1 ∧
      u.deliver 0 0 bs iface src sport = ({ u with atlas := { u.atlas with inbox := putRequest r u.atlas.inbox } } : State).drained := by
  have wrong : (if bs.length < 16 || 4128 < leAt bs 8 2 || leAt bs 8 2 ≠ (bs.drop 16).length then 1
      else if leAt bs 12 4 ≠ crc32c (bs.take 12 ++ bs.drop 16) then 2 else if leAt bs 10 1 ≠ 0 then 3 else 0) = 1 := by
    rw [if_pos (by simp [show bs.length < 16 by omega])]
  refine ⟨⟨0, 0, leAt bs 0 1, leAt bs 1 1, leAt bs 2 2, leAt bs 4 2, leAt bs 12 4, normPayload (leAt bs 1 1) (bs.drop 16), u.now, iface, src, sport, 1⟩,
    rfl, rfl, ?_⟩
  simp only [State.deliver, wrong]
  rfl

section
variable {s : State} {g : Lapse} {d : Datagram} {n : Nat}

/-- A datagram that the uplink does not accept is dropped. -/
theorem exec_udp_refused (refused : (s.pass g).uplinkOk d = false) : exec (.udpDatagramReceived g d) s = .next (s.pass g) := by
  show execUdpDatagramReceived g d s = _
  simp only [execUdpDatagramReceived, refused, Bool.not_false, if_true]

/-- A whole datagram that the uplink accepts is handed over, or dropped where it is too long. -/
theorem exec_udp_whole (accepted : (s.pass g).uplinkOk d = true) (whole : d.frag = (n, 0, false)) : exec (.udpDatagramReceived g d) s =
    .next (if d.bytes.length ≤ 4148 then (s.pass g).deliver 0 0 d.bytes d.iface d.src d.sport else s.pass g) := by
  show execUdpDatagramReceived g d s = _
  simp only [execUdpDatagramReceived, accepted, whole, Bool.not_true, Bool.false_eq_true, if_false, Bool.not_false, Bool.and_true, decide_true, if_true]

/-- A first fragment of a datagram that no reassembly has begun waits for the rest. -/
theorem exec_udp_first (accepted : (s.pass g).uplinkOk d = true) (first : d.frag = (n, 0, true)) (fits : d.bytes.length ≤ 4148)
    (new : ∀ x ∈ (s.pass g).atlas.reasm, x.ident ≠ n) : exec (.udpDatagramReceived g d) s =
    .next { s.pass g with atlas := { (s.pass g).atlas with reasm := (s.pass g).atlas.reasm ++ [⟨n, (s.pass g).now, d.iface, d.src, [(0, d.bytes)], none⟩] } } := by
  have kept : (s.pass g).atlas.reasm.filter (fun x => !(x.ident = n && x.iface = d.iface.val && x.src = d.src)) = (s.pass g).atlas.reasm :=
    List.filter_eq_self.mpr (fun x hx => by simp [new x hx])
  have fresh : ((s.pass g).atlas.reasm.filter (fun x => !(s.pass g).expired x.first 20000000)).find?
      (fun x => x.ident = n && x.iface = d.iface.val && x.src = d.src) = none :=
    List.find?_eq_none.mpr (fun x hx => by simp [new x (List.mem_filter.mp hx).1])
  show execUdpDatagramReceived g d s = _
  unfold execUdpDatagramReceived
  simp only [accepted, first, fresh, kept]
  simp [show ¬ 4148 < d.bytes.length by omega]

end

/-- Settles O14, by what the uplink does with each kind of datagram. -/
theorem uplink : Obligations.Uplink := by
  intro s g d n u
  refine ⟨fun accepted whole fits => ?_, fun accepted whole long => ?_, fun refused => ⟨_, exec_udp_refused refused, rfl⟩,
    fun accepted first fits new => ⟨_, exec_udp_first accepted first fits new, rfl⟩, ⟨_, rfl, ?_⟩, fun accepted whole fits short free idle => ?_⟩
  · exact ⟨_, exec_udp_whole accepted whole, if_pos fits⟩
  · exact ⟨_, exec_udp_whole accepted whole, if_neg (by omega)⟩
  · refine ⟨fun x hx same late => ?_, fun x hx other => ?_, fun p hp => ?_⟩
    · intro kept
      have young := (List.mem_filter.mp kept).2
      have expired : (s.pass g).expired x.first 20000000 = true := decide_eq_true late
      simp [same, expired] at young
    · refine List.mem_filter.mpr ⟨hx, ?_⟩
      simpa [State.expired, or_iff_not_imp_left] using other
    · exact (Only.put_atlas (l := [.atlas]) (.refl ..) (by decide)).same p (by simpa using hp)
  · obtain ⟨r, uplink, wrong, deliver⟩ := State.deliver_of_short (u := u) (iface := d.iface) (src := d.src) (sport := d.sport) short
    have up : u.atlasUp = true := by
      simp only [State.uplinkOk, Bool.and_eq_true] at accepted
      tauto
    refine ⟨_, (exec_udp_whole accepted whole).trans (congrArg Host.Outcome.next ((if_pos fits).trans deliver)), ?_⟩
    exact State.drained_of_wrong up free idle uplink wrong

end Sys2Proof.Machine
end

section
/-!
PROOFS. Subscriptions, kept events and the end of a session (03 R80, R94, R454); then O13.
-/
namespace Sys2Proof.Machine

/-! ### Events sent to a subscriber (03 R94, R454) -/

/-- An update of a session's record that leaves its subscriptions and the SEQ shown leaves those of every session. -/
theorem State.masks_modSes {s : State} {i : Nat} {f : SesRec → SesRec} (keeps : ∀ r, (f r).masks = r.masks ∧ (f r).seqLast = r.seqLast) (j : Nat) :
    ((s.modSes i f).ses j).masks = (s.ses j).masks ∧ ((s.modSes i f).ses j).seqLast = (s.ses j).seqLast := by
  rw [State.ses_modSes]
  split
  next same =>
    obtain ⟨rfl, -⟩ := same
    exact keeps _
  · exact ⟨rfl, rfl⟩

/-- So does sending. -/
theorem State.masks_sendTo (s : State) (i iface dst port : Nat) (m : Msg) (j : Nat) :
    ((s.sendTo i iface dst port m).ses j).masks = (s.ses j).masks ∧ ((s.sendTo i iface dst port m).ses j).seqLast = (s.ses j).seqLast := by
  rw [State.ses_sendTo]
  split
  next same =>
    obtain ⟨-, rfl, -⟩ := same
    obtain ⟨seq, -, -, masks⟩ := SesRec.push_fields (s.ses i) m
    exact ⟨masks, seq⟩
  · exact ⟨rfl, rfl⟩

/-- An event for a subscriber, sent or dropped, leaves the subscriptions and the SEQ shown. -/
theorem State.masks_eventTo (s : State) (e : Ev) (i org j : Nat) :
    ((s.eventTo e i org).ses j).masks = (s.ses j).masks ∧ ((s.eventTo e i org).ses j).seqLast = (s.ses j).seqLast := by
  unfold State.eventTo
  extract_lets r m u
  obtain ⟨masks, seq⟩ := State.masks_modSes (s := s) (i := i)
    (f := fun r => { r with evSeq := r.evSeq.setIfInBounds org ((r.evSeq.toList.getD org 0 + 1) % 65536) }) (fun _ => ⟨rfl, rfl⟩) j
  split
  · obtain ⟨masks', seq'⟩ := State.masks_modSes (s := u) (i := i) (f := fun r => { r with evLost := satInc 255 r.evLost }) (fun _ => ⟨rfl, rfl⟩) j
    exact ⟨masks'.trans masks, seq'.trans seq⟩
  · obtain ⟨masks', seq'⟩ := State.masks_sendTo u i u.atlas.peerIf u.atlas.peer u.atlas.peerPort m j
    exact ⟨masks'.trans masks, seq'.trans seq⟩

/-- Sending the kept events leaves them too. -/
theorem State.masks_sendKept (s : State) (i org mask j : Nat) :
    ((s.sendKept i org mask).ses j).masks = (s.ses j).masks ∧ ((s.sendKept i org mask).ses j).seqLast = (s.ses j).seqLast := by
  have sent : ∀ (l : List KeptEv) (v : State), ((l.foldl (fun (s : State) k => s.eventTo k.ev i org) v).ses j).masks = (v.ses j).masks ∧
      ((l.foldl (fun (s : State) k => s.eventTo k.ev i org) v).ses j).seqLast = (v.ses j).seqLast := by
    intro l
    induction l with
    | nil => exact fun v => ⟨rfl, rfl⟩
    | cons k l ih =>
      intro v
      obtain ⟨masks, seq⟩ := ih (v.eventTo k.ev i org)
      obtain ⟨masks', seq'⟩ := State.masks_eventTo v k.ev i org j
      exact ⟨masks.trans masks', seq.trans seq'⟩
  exact sent _ s

/-! ### Subscribing (03 R94) -/

/-- The subscriptions and the SEQ shown after an answer. -/
theorem State.masks_answer (s : State) (r : InReq) (st h : Nat) (pl : List Byte) (lt : r.ses < 4) :
    ((s.answer r st h pl).ses r.ses).seqLast = r.seq ∧ ∀ j, ((s.answer r st h pl).ses j).masks = (s.ses j).masks := by
  refine ⟨?_, fun j => ?_⟩
  · rw [State.ses_answer _ _ _ _ _ lt]
    split
    · exact (SesRec.push_fields _ _).1
    · rfl
  · rw [State.answer_eq]
    exact (State.masks_sendTo ..).1.trans (by rw [State.ses_modSes]; split <;> simp_all [SesRec.answering])

/-- The place of a request's subscriber in its session: the core in session 3 (03 R94). -/
def subscriber (q : Rq) : Nat := if (q.ses : Nat) = 3 then q.org else 0

theorem subscriber_eq (q : Rq) : subscriber q = if q.ses = 3 then (q.org : Nat) else 0 := by
  have three : ((q.ses : Nat) = 3) = (q.ses = 3) := propext ⟨fun e => Fin.ext e, congrArg Fin.val⟩
  simp only [subscriber, three]

/-- A session's record with a subscriber's mask set. -/
def SesRec.subscribe (place mask : Nat) (r : SesRec) : SesRec := { r with masks := r.masks.setIfInBounds place mask }

section
variable {s : State} {g : Lapse} {q : Rq} {mask : Nat} {P : State → Prop}

/-- A subscription to classes that do not exist. -/
theorem does_eventSubscribe_range (above : 2 ^ 13 ≤ mask) (word : mask < 2 ^ 32) (taken : Takes (s.pass g) q 0x40 0 (leBytes 4 mask))
    (post : P (((s.pass g).touch q.ses).answer ((s.pass g).direct q 0x40 0 (leBytes 4 mask)) St.range 0 [])) : Does (.eventSubscribe g q mask) s P := by
  refine does_of_takes _ rfl taken ?_
  simp only [Nat.mod_eq_of_lt word, above, if_true]
  exact post

/-- A subscription sets the mask and is answered; shortly after READY the kept events follow. -/
theorem does_eventSubscribe (inside : mask < 2 ^ 13) (taken : Takes (s.pass g) q 0x40 0 (leBytes 4 mask))
    (post : ∀ w, w = (((s.pass g).touch q.ses).modSes q.ses (SesRec.subscribe (subscriber q) mask)).answer
      ((s.pass g).direct q 0x40 0 (leBytes 4 mask)) St.ok 0 [] → P w ∧ P (w.sendKept q.ses (subscriber q) mask)) :
    Does (.eventSubscribe g q mask) s P := by
  refine does_of_takes _ rfl taken ?_
  have word : mask % 2 ^ 32 = mask := Nat.mod_eq_of_lt (by omega)
  have place : (if ((s.pass g).direct q 0x40 0 (leBytes 4 mask)).ses = 3 then ((s.pass g).direct q 0x40 0 (leBytes 4 mask)).org else 0) = subscriber q := rfl
  simp only [word, show ¬ 2 ^ 13 ≤ mask by omega, if_false, place]
  obtain ⟨answered, sent⟩ := post _ rfl
  split
  · exact sent
  · exact answered

end

/-! ### The end of a session (03 R80) -/

/-- Releasing a claim leaves the handles and the other sessions. -/
theorem State.dropClaim_spec (s : State) (i : Nat) : (s.dropClaim i).atlas.handles = s.atlas.handles ∧ ∀ j, i ≠ j → (s.dropClaim i).ses j = s.ses j := by
  have released : ∀ v : State, ((v.modSes i SesRec.unclaim).mbxEvent i).atlas.handles = v.atlas.handles ∧
      ∀ j, i ≠ j → ((v.modSes i SesRec.unclaim).mbxEvent i).ses j = v.ses j := by
    intro v
    refine ⟨?_, fun j other => ?_⟩
    · rw [State.mbxEvent_atlas]
      rfl
    · rw [State.ses_mbxEvent, State.ses_modSes, if_neg (fun h => other h.1)]
  simp only [State.dropClaim]
  split
  · exact ⟨rfl, fun _ _ => rfl⟩
  · split
    · exact released { s with atlas := { s.atlas with inbox := s.atlas.inbox.filter (fun x => x.ses ≠ i || x.org ≠ (s.ses i).owner) } }
    · exact released s

/-- The handles that a session leaves when it closes (03 R80). -/
def handlesAfter (i : Nat) (l : List Hnd) : List Hnd :=
  (l.filter (fun h => h.ses ≠ i || (match h.phase with | .done .. => false | _ => true))).map (fun h => if h.ses = i then { h with orphan := true } else h)

/-- Of the session's own handles only those without a completion stay, as orphans. -/
theorem mem_handlesAfter_own {i : Nat} {l : List Hnd} {h : Hnd} (mem : h ∈ handlesAfter i l) (own : h.ses = i) :
    h.orphan = true ∧ ∀ n st pl, h.phase ≠ .done n st pl := by
  obtain ⟨x, kept, rfl⟩ := List.mem_map.mp mem
  have kept := (List.mem_filter.mp kept).2
  split at own
  next same =>
    rw [if_pos same]
    refine ⟨rfl, fun n st pl done => ?_⟩
    have done : x.phase = .done n st pl := done
    simp [same, done] at kept
  next other => exact absurd own other

/-- The handles of the other sessions stay. -/
theorem mem_handlesAfter_other {i : Nat} {l : List Hnd} {h : Hnd} (mem : h ∈ l) (other : h.ses ≠ i) : h ∈ handlesAfter i l :=
  List.mem_map.mpr ⟨h, List.mem_filter.mpr ⟨mem, by simp [other]⟩, if_neg other⟩

/-- What closing an open session does to the sessions and to the handles. -/
theorem State.closeSession_spec {u : State} {i : Nat} (lt : i < 4) (isOpen : (u.ses i).isOpen = true) :
    let t := u.closeSession i
    ((t.ses i).isOpen = false ∧ (t.ses i).masks = Vector.replicate 4 0 ∧ (t.ses i).answered = []) ∧ (∀ j, i ≠ j → t.ses j = u.ses j) ∧
    t.atlas.handles = handlesAfter i u.atlas.handles := by
  intro t
  let v : State := { u with atlas := { u.atlas with handles := handlesAfter i u.atlas.handles } }
  obtain ⟨handles, others⟩ := State.dropClaim_spec v i
  have atlas : t.atlas = ((v.dropClaim i).modSes i (fun r => { r with isOpen := false, masks := Vector.replicate 4 0, answered := [] })).atlas := by
    simp only [t, State.closeSession, isOpen, if_true]
    rfl
  have sessions : ∀ j, t.ses j = ((v.dropClaim i).modSes i (fun r => { r with isOpen := false, masks := Vector.replicate 4 0, answered := [] })).ses j :=
    fun j => congrArg (fun a : Atlas => a.ses.toList.getD j {}) atlas
  refine ⟨?_, fun j other => ?_, ?_⟩
  · rw [sessions, State.ses_modSes, if_pos ⟨rfl, lt⟩]
    exact ⟨rfl, rfl, rfl⟩
  · rw [sessions, State.ses_modSes, if_neg (fun h => other h.1), others j other]
    rfl
  · rw [atlas]
    exact handles

/-- Settles O13, by the sessions after a subscription and after a timeout. -/
theorem eventsAndSessions : Obligations.EventsAndSessions := by
  intro s g q mask ses
  dsimp only
  refine ⟨fun inside taken => ?_, fun above word taken => does_eventSubscribe_range above word taken ⟨?_, rfl⟩,
    fun ready late => ?_, fun isOpen late => ?_⟩
  · have after : ∀ w, w = (((s.pass g).touch q.ses).modSes q.ses (SesRec.subscribe (subscriber q) mask)).answer
        ((s.pass g).direct q 0x40 0 (leBytes 4 mask)) St.ok 0 [] →
        (w.ses q.ses).masks = ((s.pass g).ses q.ses).masks.setIfInBounds (subscriber q) mask ∧ (w.ses q.ses).seqLast = q.seq ∧
        ∀ k : Fin 4, k ≠ q.ses → (w.ses k).masks = ((s.pass g).ses k).masks := by
      rintro w rfl
      obtain ⟨seq, masks⟩ := State.masks_answer (((s.pass g).touch q.ses).modSes q.ses (SesRec.subscribe (subscriber q) mask))
        ((s.pass g).direct q 0x40 0 (leBytes 4 mask)) St.ok 0 [] q.ses.isLt
      obtain ⟨-, -, -, -, old⟩ := State.ses_touch (s.pass g) q.ses
      refine ⟨?_, seq, fun k other => ?_⟩
      · rw [masks, State.ses_modSes, if_pos ⟨rfl, q.ses.isLt⟩]
        exact congrArg (·.setIfInBounds (subscriber q) mask) old
      · have away : ¬ ((q.ses : Nat) = k ∧ (q.ses : Nat) < 4) := fun e => other (Fin.ext e.1.symm)
        rw [masks, State.ses_modSes, if_neg away, State.touch, State.ses_modSes, if_neg away]
    rw [← subscriber_eq]
    refine does_eventSubscribe inside taken (fun w hw => ⟨after w hw, ?_⟩)
    obtain ⟨masks, seq, others⟩ := after w hw
    have kept := State.masks_sendKept w q.ses (subscriber q) mask
    exact ⟨(kept _).1.trans masks, (kept _).2.trans seq, fun k other => (kept k).1.trans (others k other)⟩
  · obtain ⟨-, masks⟩ := State.masks_answer ((s.pass g).touch q.ses) ((s.pass g).direct q 0x40 0 (leBytes 4 mask)) St.range 0 [] q.ses.isLt
    exact (masks q.ses).trans (State.ses_touch (s.pass g) q.ses).2.2.2.2
  · refine ⟨_, ?_, rfl⟩
    show execKeptEventExpiry g s = _
    have expired : (s.pass g).expired (s.pass g).atlas.readyAt 200000000 = true := decide_eq_true late
    simp only [execKeptEventExpiry, ready, expired, Bool.and_self, if_true]
  · have expired : (s.pass g).expired ((s.pass g).ses ses).lastReq (msTk ((s.pass g).pf Pf.atlasSessionTimeout_TMO)) = true := decide_eq_true late
    have run : exec (.sessionTimeout g ses) s = .next ((s.pass g).closeSession ses) := by
      show execSessionTimeout g ses s = _
      simp only [execSessionTimeout, isOpen, expired, Bool.and_self, if_true]
    obtain ⟨⟨closed, masks, answered⟩, others, handles⟩ := State.closeSession_spec ses.isLt isOpen
    refine ⟨_, run, closed, masks, answered, fun h mem own => mem_handlesAfter_own (handles ▸ mem) own,
      fun h mem other => handles ▸ mem_handlesAfter_other mem other, fun k other => others k (fun e => other (Fin.ext e.symm))⟩

end Sys2Proof.Machine
end

section
/-!
PROOFS. Commits (03 R77, R86, R92): what sending and completing leave of the operations that write the flash, the handle that an operation
takes, the completion of a handle, and the stored copies after a write; then O11.
-/
namespace Sys2Proof.Machine

/-! ### The operations that write the flash -/

/-- The commit of parameters and the fleet commit under way. -/
def State.flashOps (s : State) : Option (Nat × List (Nat × Nat)) × Option (Nat × Nat) := (s.atlas.commit, s.atlas.fleet)

theorem State.flashOps_of_atlas {s t : State} (h : t.atlas = s.atlas) : t.flashOps = s.flashOps := by
  simp only [State.flashOps, h]

@[simp] theorem State.flashOps_sendTo (s : State) (i iface dst port : Nat) (m : Msg) : (s.sendTo i iface dst port m).flashOps = s.flashOps := by
  by_cases uplink : i = 0
  · rw [uplink, State.sendTo_zero]
    rfl
  · rw [State.flashOps, State.sendTo_atlas _ _ _ _ _ uplink]
    rfl

@[simp] theorem State.flashOps_eventTo (s : State) (e : Ev) (i org : Nat) : (s.eventTo e i org).flashOps = s.flashOps := by
  unfold State.eventTo
  extract_lets r m u
  split
  · rfl
  · exact State.flashOps_sendTo ..

@[simp] theorem State.flashOps_emit (s : State) (cls unit code : Nat) (detail : List Byte) : (s.emit cls unit code detail).flashOps = s.flashOps := by
  have sent : ∀ (l : List (Nat × Nat)) (e : Ev) (v : State), (l.foldl (fun s p => s.eventTo e p.1 p.2) v).flashOps = v.flashOps := by
    intro l e
    induction l with
    | nil => exact fun _ => rfl
    | cons p l ih => exact fun v => (ih _).trans (State.flashOps_eventTo ..)
  exact sent ..

@[simp] theorem State.flashOps_finish (s : State) (num tick status : Nat) (payload : List Byte) : (s.finish num tick status payload).flashOps = s.flashOps := by
  unfold State.finish
  split
  · rfl
  · split
    · rfl
    · exact State.flashOps_sendTo ..

@[simp] theorem State.flashOps_complete (s : State) (num status : Nat) (payload : List Byte) : (s.complete num status payload).flashOps = s.flashOps := by
  unfold State.complete
  split
  · rfl
  · split
    · split
      · rfl
      · exact State.flashOps_finish ..
    · rfl

theorem State.flashOps_sendCtl (s : State) (k x : Nat) : (s.sendCtl k x).flashOps = s.flashOps := State.flashOps_of_atlas (State.sendCtl_atlas s k x)

theorem State.flashOps_noteDiff (s : State) : s.noteDiff.flashOps = s.flashOps := by
  unfold State.noteDiff
  extract_lets u
  have same : u.flashOps = s.flashOps := by
    simp only [u]
    split
    · exact State.flashOps_emit ..
    · rfl
  split
  · exact same
  · exact same

theorem State.flashOps_watchOrStandby (s : State) : s.watchOrStandby.flashOps = s.flashOps := by
  unfold State.watchOrStandby
  split
  · exact (State.flashOps_sendCtl ..).trans (State.flashOps_noteDiff _)
  · split
    · exact State.flashOps_sendCtl ..
    · rfl

theorem State.flashOps_pairChanged (s0 s : State) : (State.pairChanged s0 s).flashOps = s.flashOps := by
  unfold State.pairChanged
  extract_lets u v
  have edition : u.flashOps = s.flashOps := by
    simp only [u]
    split
    · exact State.flashOps_sendCtl ..
    · rfl
  have mask : v.flashOps = s.flashOps := by
    simp only [v]
    split
    · exact (State.flashOps_sendCtl ..).trans edition
    · exact edition
  split
  · exact mask
  · exact (State.flashOps_watchOrStandby v).trans mask

/-! ### Taking a handle (03 R77) -/

section
variable {s : State} {g : Lapse} {q : Rq} {op : Nat} {payload : List Byte}

/-- Waiting for the flash changes the handle's wait alone. -/
theorem State.mem_flashWait {s : State} {x : Hnd} (mem : x ∈ s.atlas.handles) :
    ∃ y ∈ (s.flashWait x.num).atlas.handles, y = x ∨ y = { x with wait := 3 } := by
  unfold State.flashWait
  split
  · exact ⟨x, mem, .inl rfl⟩
  · exact ⟨{ x with wait := 3 }, List.mem_map.mpr ⟨x, mem, if_pos rfl⟩, .inr rfl⟩

/-- It leaves everything else. -/
theorem State.flashWait_same (s : State) (n : Nat) : (s.flashWait n).flashOps = s.flashOps ∧ (s.flashWait n).par = s.par := by
  unfold State.flashWait
  split <;> exact ⟨rfl, rfl⟩

/-- What an operation that writes the flash takes when it is accepted: a handle, with the parameters and the images as they were. -/
theorem State.accept_flash {u : State} (room : HasHandle u q) :
    ∃ (v : State) (x : Hnd), (u.touch q.ses).accept (u.direct q op 0 payload) 0 = (v, some x.num) ∧ v.par = u.par ∧ v.fw = u.fw ∧
      ∀ w : State, w.atlas.handles = v.atlas.handles → ∃ y, y.num = x.num ∧ Accepted u q op 0 (w.flashWait x.num) y := by
  obtain ⟨v, accept, handles⟩ := State.accept_some (u.touch q.ses) (u.direct q op 0 payload) 0 room
  have only : Only [.atlas, .evs, .ctl] (u.touch q.ses) v := Only.of_pair accept (State.accept_only (.refl ..) (by decide))
  obtain ⟨x, num, ses, org, hop, seq, unit, stamp, orphan, mem⟩ : ∃ x : Hnd, x.num = (u.touch q.ses).newHandle (u.direct q op 0 payload) ∧
      x.ses = q.ses ∧ x.org = q.org ∧ x.op = op ∧ x.seq = q.seq ∧ x.unit = 0 ∧ x.stamp = u.now ∧ x.orphan = false ∧ x ∈ v.atlas.handles :=
    ⟨_, rfl, rfl, rfl, rfl, rfl, rfl, rfl, rfl, handles ▸ List.mem_append_right _ List.mem_cons_self⟩
  refine ⟨v, x, num ▸ accept, only.same .par (by decide), only.same .fw (by decide), fun w same => ?_⟩
  obtain ⟨y, waits, hy⟩ := State.mem_flashWait (s := w) (same ▸ mem)
  rcases hy with rfl | rfl
  · exact ⟨y, rfl, waits, ses, org, hop, seq, unit, stamp, orphan⟩
  · exact ⟨{ x with wait := 3 }, rfl, waits, ses, org, hop, seq, unit, stamp, orphan⟩

end

/-- Which copies differ from the stored ones depends on the parameters alone. -/
theorem State.uncommitted_of_par {s t : State} (h : t.par = s.par) : t.uncommitted = s.uncommitted := by
  simp only [State.uncommitted, State.parOf, State.storedOf, h]
  rfl

/-! ### The end of an operation (03 R77) -/

/-- A PENDING handle of no orphan whose cancel does not wait is DONE with its completion. -/
theorem State.complete_done {s : State} {num st : Nat} {pl : List Byte} {x : Hnd} (known : s.handle num = some x) (pending : x.phase = .pending)
    (alive : x.orphan = false) (free : s.cancelWaits x = false) :
    ∀ y ∈ (s.complete num st pl).atlas.handles, y.num = num → ∃ n p, y.phase = .done n st p := by
  intro y mem own
  simp only [State.complete, known, pending, free, State.finish, alive, Bool.false_eq_true, if_false, State.sendPeer] at mem
  rw [(State.sendTo_handles ..).1] at mem
  obtain ⟨z, -, rfl⟩ := List.mem_map.mp mem
  split at own
  next same =>
    rw [if_pos same]
    exact ⟨_, _, rfl⟩
  next other => exact absurd own other

theorem State.complete_par (s : State) (num st : Nat) (pl : List Byte) : (s.complete num st pl).par = s.par :=
  (State.complete_only (l := [.atlas, .evs, .ctl]) (.refl ..) (by decide)).same .par (by decide)

/-! ### Stored copies after a write (03 R86) -/

/-- A stored copy reads as it was written. -/
theorem State.storedOf_setStored_self {s : State} (canon : s.Canon) (id idx v : Nat) : (s.setStored id idx v).storedOf id idx = v := by
  obtain ⟨-, -, -, rising⟩ := canon
  simp only [State.storedOf, State.setStored]
  split
  next dflt => rw [kvGet_kvDel_self _ rising, Option.getD_none, dflt]
  next other => rw [kvGet_kvPut_self, Option.getD_some]

/-- A write leaves the stored copies under other keys. -/
theorem State.storedOf_setStored_ne {s : State} {id idx v id' idx' : Nat} (other : parKey id' idx' ≠ parKey id idx) :
    (s.setStored id idx v).storedOf id' idx' = s.storedOf id' idx' := by
  simp only [State.storedOf, State.setStored]
  split
  · rw [kvGet_kvDel_ne _ other]
  · rw [kvGet_kvPut_ne _ _ other]

/-- The writes of a commit, which depend on the parameters alone and leave the working copies. -/
theorem State.par_foldl_setStored (l : List (Nat × Nat)) {s t : State} (h : s.par = t.par) :
    (l.foldl (fun (x : State) p => x.setStored (p.1 / 65536) (p.1 % 65536) p.2) s).par =
      (l.foldl (fun (x : State) p => x.setStored (p.1 / 65536) (p.1 % 65536) p.2) t).par ∧
    (l.foldl (fun (x : State) p => x.setStored (p.1 / 65536) (p.1 % 65536) p.2) s).par.work = t.par.work ∧
    (l.foldl (fun (x : State) p => x.setStored (p.1 / 65536) (p.1 % 65536) p.2) s).atlas = s.atlas := by
  induction l generalizing s t with
  | nil => exact ⟨h, by rw [← h]; rfl, rfl⟩
  | cons p l ih =>
    have step : (s.setStored (p.1 / 65536) (p.1 % 65536) p.2).par = (t.setStored (p.1 / 65536) (p.1 % 65536) p.2).par := by
      simp only [State.setStored, h]
    exact ih step

/-- The pin and the committed edition of a fleet commit, working and stored (03 R92). -/
def State.fleetWritten (s : State) (n : Nat) : State := (((s.setPar 4 0 n).setPar 5 0 n).setStored 4 0 n).setStored 5 0 n

/-- They read as they were written. -/
theorem State.fleetWritten_spec {s : State} (canon : s.Canon) {n : Nat} (word : n < 2 ^ 16) :
    let t := s.fleetWritten n
    t.be = n ∧ t.parOf 5 0 = n ∧ t.storedOf 4 0 = n ∧ t.storedOf 5 0 = n := by
  intro t
  have canon5 : ((s.setPar 4 0 n).setPar 5 0 n).Canon := State.setPar_canon (State.setPar_canon canon)
  have pin : t.parOf 4 0 = n := by
    have first : kvGet (parKey 4 0) ((s.setPar 4 0 n).setPar 5 0 n).par.work = kvGet (parKey 4 0) (s.setPar 4 0 n).par.work :=
      State.work_setPar_ne (by decide)
    exact (congrArg (fun o : Option Nat => o.getD (parDefault 4 0)) first).trans (State.parOf_setPar_self canon 4 0 n)
  refine ⟨?_, State.parOf_setPar_self (State.setPar_canon canon) 5 0 n, ?_, State.storedOf_setStored_self (State.setStored_canon canon5) 5 0 n⟩
  · show bitsOf (t.parOf 4 0) 0 16 = n
    rw [pin, bitsOf, Nat.shiftRight_zero, Nat.mod_eq_of_lt word]
  · exact (State.storedOf_setStored_ne (by decide)).trans (State.storedOf_setStored_self canon5 4 0 n)

/-- The end of a fleet commit: the values are written, it completes OK, and the edition is reported. -/
def State.fleetEnd (s : State) (h n : Nat) : State :=
  s.pairChanged (((s.fleetWritten n).complete h St.ok ((s.fleetWritten n).fleetPayload 0)).runEvent 7 n)

/-- It leaves the operations that write the flash; of the parameters it changes what it writes. -/
theorem State.fleetEnd_same (s : State) (h n : Nat) : (s.fleetEnd h n).flashOps = s.flashOps ∧ (s.fleetEnd h n).par = (s.fleetWritten n).par := by
  refine ⟨?_, ?_⟩
  · exact (State.flashOps_pairChanged ..).trans ((State.flashOps_emit ..).trans (State.flashOps_complete ..))
  · refine ((State.pairChanged_only (l := [.atlas, .evs, .ilr, .ctl]) (.refl ..) (by decide)).same .par (by decide)).trans ?_
    exact ((State.runEvent_only (l := [.atlas, .evs, .ctl]) (.refl ..) (by decide)).same .par (by decide)).trans (State.complete_par ..)

/-- PARAM_COMMIT_DONE with nothing else at the flash. -/
theorem exec_paramCommitDone {s : State} {g : Lapse} {h : Nat} {l : List (Nat × Nat)} (ok : Bool) (under : (s.pass g).atlas.commit = some (h, l))
    (idle : (s.pass g).fw.queue = []) : exec (.paramCommitDone g ok) s = .next
      ((if ok then l.foldl (fun (x : State) p => x.setStored (p.1 / 65536) (p.1 % 65536) p.2)
          { s.pass g with atlas := { (s.pass g).atlas with commit := none } }
        else { s.pass g with atlas := { (s.pass g).atlas with commit := none } }).complete h (if ok then St.ok else St.persistFailed) []) := by
  show execParamCommitDone g ok s = _
  unfold execParamCommitDone
  simp only [under, idle, List.isEmpty_nil, Bool.not_true, Bool.false_eq_true, if_false]

/-- FLEET_COMMIT_DONE with nothing else at the flash. -/
theorem exec_fleetCommitDone {s : State} {g : Lapse} {h n : Nat} (under : (s.pass g).atlas.fleet = some (h, n)) (idle : (s.pass g).fw.queue = []) :
    exec (.fleetCommitDone g true) s = .next (({ s.pass g with atlas := { (s.pass g).atlas with fleet := none } } : State).fleetEnd h n) := by
  show execFleetCommitDone g true s = _
  unfold execFleetCommitDone
  simp only [under, idle, List.isEmpty_nil, Bool.not_true, Bool.false_eq_true, if_false, if_true]
  rfl

/-- Settles O11, by the handle taken and the copies written. -/
theorem commits : Obligations.Commits := by
  intro s g q target
  dsimp only
  refine ⟨fun taken room free => ?_, fun h l under idle => ?_, fun h l x under idle known pending alive waits => ?_,
    fun taken room free low high trial => ?_, fun h n canon under idle _ word => ?_⟩
  · obtain ⟨v, x, accept, par, -, accepted⟩ := State.accept_flash (op := 0x15) (payload := []) room
    have free : ((s.pass g).touch q.ses).opPending 0x15 = false := free
    refine does_of_takes _ rfl taken ?_
    simp only [free, Bool.false_eq_true, if_false, accept]
    obtain ⟨ops, same⟩ := State.flashWait_same { v with atlas := { v.atlas with commit := some (x.num, v.uncommitted) } } x.num
    obtain ⟨y, num, mine⟩ := accepted { v with atlas := { v.atlas with commit := some (x.num, v.uncommitted) } } rfl
    exact ⟨y, (congrArg Prod.fst ops).trans (by rw [num, ← State.uncommitted_of_par par]; rfl), same.trans par, mine⟩
  · obtain ⟨writes, work, atlas⟩ := State.par_foldl_setStored l (s := { s.pass g with atlas := { (s.pass g).atlas with commit := none } }) (t := s.pass g) rfl
    have run := exec_paramCommitDone true under idle
    rw [if_pos rfl, if_pos rfl] at run
    refine ⟨_, run, ?_, (congrArg ParStore.work (State.complete_par ..)).trans work, (State.complete_par ..).trans writes⟩
    exact congrArg Prod.fst ((State.flashOps_complete ..).trans (State.flashOps_of_atlas atlas))
  · have run := exec_paramCommitDone false under idle
    rw [if_neg (by decide), if_neg (by decide)] at run
    exact ⟨_, run, State.complete_par .., congrArg Prod.fst (State.flashOps_complete ..),
      State.complete_done (s := { s.pass g with atlas := { (s.pass g).atlas with commit := none } }) known pending alive waits⟩
  · obtain ⟨v, x, accept, par, fw, accepted⟩ := State.accept_flash (op := 0x60) (payload := leBytes 2 target) room
    have free : ((s.pass g).touch q.ses).opPending 0x60 = false := free
    have low : ¬ target < v.be := by
      have same : v.be = (s.pass g).be := by simp only [State.be, State.pf, State.parOf, par]
      omega
    have image : v.image = (s.pass g).image := by simp only [State.image, fw]
    have inside : (decide (target < v.be) || decide (v.image.beMax < target)) = false := by simp [low, image, high]
    have trial : v.inTrial = false := by simpa only [State.inTrial, image] using trial
    refine does_of_takes _ rfl taken ?_
    simp only [free, Bool.false_eq_true, if_false, accept, inside, trial]
    obtain ⟨ops, same⟩ := State.flashWait_same { v with atlas := { v.atlas with fleet := some (x.num, target) } } x.num
    obtain ⟨y, num, mine⟩ := accepted { v with atlas := { v.atlas with fleet := some (x.num, target) } } rfl
    exact ⟨y, (congrArg Prod.snd ops).trans (by rw [num]; rfl), same.trans par, mine⟩
  · obtain ⟨be, par5, stored4, stored5⟩ := State.fleetWritten_spec (s := { s.pass g with atlas := { (s.pass g).atlas with fleet := none } }) canon word
    obtain ⟨ops, par⟩ := State.fleetEnd_same { s.pass g with atlas := { (s.pass g).atlas with fleet := none } } h n
    refine ⟨_, exec_fleetCommitDone under idle, congrArg Prod.snd ops, ?_, ?_, ?_, ?_⟩
    · simpa only [State.be, State.pf, State.parOf, par] using be
    · simpa only [State.parOf, par] using par5
    · simpa only [State.storedOf, par] using stored4
    · simpa only [State.storedOf, par] using stored5

end Sys2Proof.Machine
end

section
/-!
PROOFS. The refutation of O32. The statement quantifies over every state, and a write of `netsleep.cfg` is judged by EN as the working copies show it
after the write (11 R295). In a state whose working copies list `netsleep.cfg` twice the write of the default takes away the first value alone,
the second still has EN set, and the agreement goes on. Such a state is outside the canonical form that every step keeps (O58).
-/
namespace Sys2Proof.Machine

/-- A running device whose agreement is NORMAL, and whose working copies list `netsleep.cfg` twice, each time with EN set. -/
def State.cfgTwice : State :=
  { clk := { run := true, lock := true }
    atlas := { ready := true }
    pwr := { st := .run, pdOn := 0xFFFF, va := 1300, vb := 1300, aOk := true, bOk := true }
    boot := { phase := 9, cold := true, adopted := true, served := 0 }
    agr := { st := .normal }
    par := { work := [(parKey Pid.nsCfg 0, parDefault Pid.nsCfg 0 + 1), (parKey Pid.nsCfg 0, parDefault Pid.nsCfg 0 + 1)] } }

/-- A request of session 0, with a free SEQ. -/
def anyRq : Rq := ⟨0, 0, 5, 1, 0⟩

/-- The state of the agreement after a step. -/
def agrAfter (o : Host.Outcome State Fault Refusal) : Option AgSt := match o with | .next t => some t.agr.st | _ => none

/-- The write of the default, which has EN 0, is accepted, and the agreement stays NORMAL. -/
theorem netsleepDisable_cfgTwice :
    Pf.nsCfg_EN.of (parDefault Pid.nsCfg 0) = 0 ∧ (State.cfgTwice.pass ⟨0, 0⟩).agr.st ≠ .committing ∧
    Accepts (State.cfgTwice.pass ⟨0, 0⟩) anyRq (parWrite Pid.nsCfg 0 (parDefault Pid.nsCfg 0)) ∧
    agrAfter (exec (.netsleepDisable ⟨0, 0⟩ anyRq (parDefault Pid.nsCfg 0)) State.cfgTwice) = some .normal := by
  decide +kernel

/-- Refutes O32: where the working copies list `netsleep.cfg` twice with EN set, an accepted write of EN 0 leaves the agreement NORMAL. -/
theorem not_enablingWrites : ¬ Obligations.EnablingWrites := by
  intro h
  obtain ⟨zero, settled, accepts, stays⟩ := netsleepDisable_cfgTwice
  obtain ⟨-, -, -, -, -, -, disable, -, -⟩ := h State.cfgTwice ⟨0, 0⟩ anyRq (parDefault Pid.nsCfg 0)
  obtain ⟨t, run, -, disabled⟩ := disable zero settled accepts
  rw [run, agrAfter, disabled] at stays
  cases stays

end Sys2Proof.Machine
end

section
/-!
PROOFS. What the operations of a load channel leave as it was (04 R100 to R125): the settings, the time and the feeds, every channel but the
one they are about and the odd half of its bridge, and, where they only report, every record of a channel.
-/
namespace Sys2Proof.Machine

/-! ### The settings of a channel -/

/-- What the settings of the channels are read from: the parameters, the time, the feeds and domains, the role, the composites, and the
sequencers that run. -/
structure Steady (s t : State) : Prop where
  par : t.par = s.par
  clk : t.clk = s.clk
  pwr : t.pwr = s.pwr
  role : t.il.role = s.il.role
  comp : t.load.comp = s.load.comp
  held : t.load.held = s.load.held
  halted : t.load.halted = s.load.halted

theorem Steady.refl (s : State) : Steady s s := ⟨rfl, rfl, rfl, rfl, rfl, rfl, rfl⟩

theorem Steady.trans {s t u : State} (h : Steady s t) (k : Steady t u) : Steady s u :=
  ⟨k.par.trans h.par, k.clk.trans h.clk, k.pwr.trans h.pwr, k.role.trans h.role, k.comp.trans h.comp, k.held.trans h.held,
    k.halted.trans h.halted⟩

section
variable {s t : State} (h : Steady s t)
include h

theorem Steady.now : t.now = s.now := congrArg TimeBase.tb h.clk
theorem Steady.parOf (id i : Nat) : t.parOf id i = s.parOf id i := by simp only [State.parOf, h.par]
theorem Steady.pf (x : ParField) (i k : Nat) : t.pf x i k = s.pf x i k := by simp only [State.pf, h.parOf]
theorem Steady.pb (x : ParField) (i k : Nat) : t.pb x i k = s.pb x i k := by simp only [State.pb, h.pf]
theorem Steady.bridge (n : Nat) : t.bridge n = s.bridge n := by simp only [State.bridge, h.pb]
theorem Steady.bridgeOdd (n : Nat) : t.bridgeOdd n = s.bridgeOdd n := by simp only [State.bridgeOdd, h.bridge]
theorem Steady.owner (n : Nat) : t.owner n = s.owner n := by simp only [State.owner, h.bridgeOdd]
theorem Steady.halves (n : Nat) : t.halves n = s.halves n := by simp only [State.halves, h.bridge]
theorem Steady.compOf (k : Nat) : t.compOf k = s.compOf k := by simp only [State.compOf, h.comp]
theorem Steady.parentOf (n : Nat) : t.parentOf n = s.parentOf n := by simp only [State.parentOf, h.comp]

theorem Steady.enclosing (d n : Nat) : t.enclosing d n = s.enclosing d n := by
  induction d generalizing n with
  | zero => rfl
  | succ d ih => simp only [State.enclosing, h.parentOf, ih]

theorem Steady.topOf (n : Nat) : t.topOf n = s.topOf n := by simp only [State.topOf, h.enclosing]

theorem Steady.gang (n : Nat) : t.gang n = s.gang n := by simp only [State.gang, h.parentOf, h.compOf, h.owner]
theorem Steady.lead (n : Nat) : t.lead n = s.lead n := by simp only [State.lead, h.gang]
theorem Steady.conf (n : Nat) : t.conf n = s.conf n := by simp only [State.conf, h.bridgeOdd, h.lead]
theorem Steady.ilimOf (n : Nat) : t.ilimOf n = s.ilimOf n := by simp only [State.ilimOf, h.pf, h.conf]
theorem Steady.inrushP (n : Nat) : t.inrushP n = s.inrushP n := by simp only [State.inrushP, h.pf]
theorem Steady.inrushT (n : Nat) : t.inrushT n = s.inrushT n := by simp only [State.inrushT, h.pf]
theorem Steady.seqUp (n : Nat) : t.seqUp n = s.seqUp n := by simp only [State.seqUp, State.pd, h.held, h.halted, h.pwr]
theorem Steady.feedOk (n : Nat) : t.feedOk n = s.feedOk n := by simp only [State.feedOk, h.pwr]
theorem Steady.dualFed (n : Nat) : t.dualFed n = s.dualFed n := by simp only [State.dualFed, h.pb]
theorem Steady.intlkBlocks : t.intlkBlocks = s.intlkBlocks := by simp only [State.intlkBlocks, h.role]

end

/-! ### A channel that stands alone (04 R101, 05 R134) -/

section
variable {s : State} {n : Nat}

/-- A channel that is no odd half of a bridge is commanded itself. -/
theorem State.owner_of_even (even : s.bridgeOdd n = false) : s.owner n = n := by simp [State.owner, even]

/-- The odd half of a bridge is commanded through another channel. -/
theorem State.even_of_owner (own : s.owner n = n) : s.bridgeOdd n = false := by
  cases odd : s.bridgeOdd n
  · rfl
  · obtain ⟨⟨_, mod⟩, _⟩ : (chClass n = 1 ∧ n % 2 = 1) ∧ s.bridge (n - 1) = true := by simpa [State.bridgeOdd] using odd
    simp only [State.owner, odd, if_true] at own
    omega

theorem State.enclosing_of_free (free : s.parentOf n = none) (d : Nat) : s.enclosing d n = [] := by
  cases d <;> simp [State.enclosing, free]

theorem State.topOf_of_free (free : s.parentOf n = none) : s.topOf n = n := by
  simp [State.topOf, State.enclosing_of_free free]

theorem State.gang_of_free (free : s.parentOf n = none) : s.gang n = [s.owner n] := by simp [State.gang, free]

theorem State.lead_of_gang (alone : s.gang n = [n]) : s.lead n = n := by simp [State.lead, alone]

theorem State.leavesOf_channel (chan : n < 64) : s.leavesOf n = [n] := by simp [State.leavesOf, State.leaves, chan]

/-- Both halves of a bridge are M channels, so that the odd one is a channel. -/
theorem State.odd_lt_of_bridge (h : s.bridge n = true) : n + 1 < 64 ∧ n % 2 = 0 ∧ chClass n = 1 := by
  obtain ⟨⟨cls, even⟩, -⟩ : (chClass n = 1 ∧ n % 2 = 0) ∧ s.pb Pf.chCfg_BRIDGE n = true := by simpa [State.bridge] using h
  refine ⟨?_, even, cls⟩
  simp only [chClass] at cls
  split at cls
  · cases cls
  · split at cls
    · omega
    · cases cls

/-- The channel above a bridge's even half is its odd half. -/
theorem State.bridgeOdd_succ (h : s.bridge n = true) : s.bridgeOdd (n + 1) = true := by
  obtain ⟨-, even, cls⟩ := State.odd_lt_of_bridge h
  have : chClass (n + 1) = 1 := by
    simp only [chClass] at cls ⊢
    split at cls <;> grind
  simp [State.bridgeOdd, this, h]
  omega

end

/-! ### Records of channels after an update -/

section
variable (s : State) {n k : Nat}

@[simp] theorem State.chan_setChan_self (lt : n < 64) (c : Chan) : (s.setChan n c).chan n = c := by simp [State.chan_setChan, lt]
@[simp] theorem State.chan_setChan_ne (ne : k ≠ n) (c : Chan) : (s.setChan n c).chan k = s.chan k := by
  simp [State.chan_setChan, Ne.symm ne]
@[simp] theorem State.chan_modChan_self (lt : n < 64) (f : Chan → Chan) : (s.modChan n f).chan n = f (s.chan n) := by
  simp [State.chan_modChan, lt]
@[simp] theorem State.chan_modChan_ne (ne : k ≠ n) (f : Chan → Chan) : (s.modChan n f).chan k = s.chan k := by
  simp [State.chan_modChan, Ne.symm ne]

theorem State.setChan_setChan (c d : Chan) : (s.setChan n c).setChan n d = s.setChan n d := by
  simp only [State.setChan]
  congr 2
  exact Vector.ext (fun i hi => by simp only [Vector.getElem_setIfInBounds]; split <;> rfl)

/-- A change of a channel writes the changed record. -/
theorem State.modChan_eq (f : Chan → Chan) : s.modChan n f = s.setChan n (f (s.chan n)) := rfl

theorem State.modChan_steady (f : Chan → Chan) : Steady s (s.modChan n f) := ⟨rfl, rfl, rfl, rfl, rfl, rfl, rfl⟩
theorem State.setChan_steady (c : Chan) : Steady s (s.setChan n c) := ⟨rfl, rfl, rfl, rfl, rfl, rfl, rfl⟩

end

/-! ### Operations about one channel -/

/-- An operation about channel n: the settings stay, and of the channels only n and, on a bridge, its odd half may change (05 R153). -/
structure About (n : Nat) (s t : State) : Prop where
  steady : Steady s t
  chan : ∀ k, k ≠ n → (s.bridge n = true → k ≠ n + 1) → t.chan k = s.chan k

section
variable {n : Nat} {s t u : State}

theorem About.refl (n : Nat) (s : State) : About n s s := ⟨.refl s, fun _ _ _ => rfl⟩

theorem About.trans (h : About n s t) (k : About n t u) : About n s u :=
  ⟨h.steady.trans k.steady, fun i ne half => (k.chan i ne (fun b => half (h.steady.bridge n ▸ b))).trans (h.chan i ne half)⟩

theorem About.modChan (h : About n s t) (f : Chan → Chan) : About n s (t.modChan n f) :=
  h.trans ⟨State.modChan_steady t f, fun _ ne _ => State.chan_modChan_ne t ne f⟩

theorem About.setChan (h : About n s t) (c : Chan) : About n s (t.setChan n c) :=
  h.trans ⟨State.setChan_steady t c, fun _ ne _ => State.chan_setChan_ne t ne c⟩

theorem About.modOdd (h : About n s t) (bridge : t.bridge n = true) (f : Chan → Chan) : About n s (t.modChan (n + 1) f) :=
  h.trans ⟨State.modChan_steady t f, fun _ _ half => State.chan_modChan_ne t (half bridge) f⟩

end

/-- An operation about channel n that leaves it with a record. -/
structure Makes (n : Nat) (x : Chan) (s t : State) : Prop extends About n s t where
  record : t.chan n = x

section
variable {n : Nat} {x y : Chan} {s t u : State}

theorem Makes.refl (n : Nat) (s : State) : Makes n (s.chan n) s s := ⟨.refl n s, rfl⟩

theorem Makes.trans (h : Makes n x s t) (k : Makes n y t u) : Makes n y s u := ⟨h.toAbout.trans k.toAbout, k.record⟩

theorem Makes.cast (h : Makes n x s t) (eq : x = y) : Makes n y s t := eq ▸ h

theorem Makes.modChan {f : Chan → Chan} (h : Makes n x s t) (lt : n < 64) (eq : f x = y) : Makes n y s (t.modChan n f) :=
  ⟨h.toAbout.modChan f, by rw [State.chan_modChan_self t lt, h.record, eq]⟩

theorem Makes.setChan (h : Makes n x s t) (lt : n < 64) (c : Chan) : Makes n c s (t.setChan n c) :=
  ⟨h.toAbout.setChan c, State.chan_setChan_self t lt c⟩

theorem Makes.modOdd (h : Makes n x s t) (bridge : t.bridge n = true) (f : Chan → Chan) : Makes n x s (t.modChan (n + 1) f) :=
  ⟨h.toAbout.modOdd bridge f, (State.chan_modChan_ne t (by omega) f).trans h.record⟩

/-- An operation about channel n that leaves its record too. -/
theorem Makes.keep (h : Makes n x s t) (k : About n t u) (same : u.chan n = t.chan n) : Makes n x s u :=
  ⟨h.toAbout.trans k, same.trans h.record⟩

end

/-! ### Reports -/

/-- An operation that reports: of the load record only the commands in progress change, of the rest only messages and pending events. -/
structure Reports (s t : State) : Prop where
  only : Only [.atlas, .load, .evs, .ctl] s t
  load : ∃ l, t.load = { s.load with cmds := l }

section
variable {s t u : State}

theorem Reports.refl (s : State) : Reports s s := ⟨.refl .., _, rfl⟩

theorem Reports.trans (h : Reports s t) (k : Reports t u) : Reports s u := by
  obtain ⟨l, hl⟩ := h.load
  obtain ⟨m, hm⟩ := k.load
  exact ⟨h.only.after k.only (fun _ h => h), m, hm.trans (by rw [hl])⟩

/-- A report that leaves the commands too. -/
theorem Reports.of_only (h : Only [.atlas, .evs, .ctl] s t) : Reports s t :=
  ⟨(Only.refl _ s).after h (by decide), _, h.same .load (by decide)⟩

section
variable (h : Reports s t)
include h

theorem Reports.ch : t.load.ch = s.load.ch := by obtain ⟨l, load⟩ := h.load; rw [load]
theorem Reports.die : t.load.die = s.load.die := by obtain ⟨l, load⟩ := h.load; rw [load]
theorem Reports.gen : t.load.gen = s.load.gen := by obtain ⟨l, load⟩ := h.load; rw [load]
theorem Reports.chan (k : Nat) : t.chan k = s.chan k := by simp only [State.chan, h.ch]
theorem Reports.genOf (k : Nat) : t.genOf k = s.genOf k := by simp only [State.genOf, h.gen]
theorem Reports.iso : t.iso = s.iso := h.only.same .iso (by decide)
theorem Reports.vlv : t.vlv = s.vlv := h.only.same .vlv (by decide)

theorem Reports.steady : Steady s t := by
  obtain ⟨l, load⟩ := h.load
  have ilr : { t.il with ctl := [] } = { s.il with ctl := [] } := h.only.same .ilr (by decide)
  exact ⟨h.only.same .par (by decide), h.only.same .clk (by decide), h.only.same .pwr (by decide),
    show ({ t.il with ctl := [] } : Intlk).role = s.il.role by rw [ilr], by rw [load], by rw [load], by rw [load]⟩

theorem Reports.about (n : Nat) : About n s t := ⟨h.steady, fun k _ _ => h.chan k⟩

end

theorem Makes.report {n : Nat} {x : Chan} (h : Makes n x s t) (k : Reports t u) : Makes n x s u := h.keep (k.about n) (k.chan n)

theorem State.dieEvent_reports (s : State) (n b : Nat) : Reports s (s.dieEvent n b) :=
  .of_only (State.dieEvent_only (.refl ..) (by decide))

theorem State.emit_reports (s : State) (cls n code : Nat) (detail : List Byte) : Reports s (s.emit cls n code detail) :=
  .of_only (State.emit_only (.refl ..) (by decide))

theorem State.lowerCode_reports (s : State) (cls op : Nat) (units : List Nat) (old new : Nat) : Reports s (s.lowerCode cls op units old new) :=
  .of_only (State.lowerCode_only (.refl ..) (by decide))

theorem State.complete_reports (s : State) (h st : Nat) (pl : List Byte) : Reports s (s.complete h st pl) :=
  .of_only (State.complete_only (.refl ..) (by decide))

theorem State.leafEventAt_reports (s s0 : State) (n who code kind : Nat) (ma : Int) : Reports s (s.leafEventAt s0 n who code kind ma) :=
  .of_only (State.leafEventAt_only (.refl ..) (by decide))

theorem State.leafEvent_reports (s s0 : State) (n code kind : Nat) (ma : Int) : Reports s (s.leafEvent s0 n code kind ma) :=
  s.leafEventAt_reports s0 n n code kind ma

/-- Recording or forgetting a command in progress. -/
theorem State.setCmd_reports (s : State) (n : Nat) (c : UCmd) : Reports s (s.setCmd n c) := ⟨State.setCmd_only (.refl ..) (by decide), _, rfl⟩
theorem State.dropCmd_reports (s : State) (n : Nat) : Reports s (s.dropCmd n) := ⟨State.dropCmd_only (.refl ..) (by decide), _, rfl⟩

theorem State.endCmd_reports (s : State) (n st : Nat) : Reports s (s.endCmd n st) := by
  unfold State.endCmd
  split
  · exact .refl s
  · exact (s.complete_reports ..).trans (State.dropCmd_reports ..)

theorem State.failCmd_reports (s : State) (n f : Nat) : Reports s (s.failCmd n f) := by
  unfold State.failCmd
  split
  · exact .refl s
  · exact (s.complete_reports ..).trans (State.dropCmd_reports ..)

theorem State.markCmd_reports (s : State) (n : Nat) (f : UCmd → UCmd) : Reports s (s.markCmd n f) := by
  unfold State.markCmd
  split
  · exact .refl s
  · split
    · exact s.setCmd_reports ..
    · exact .refl s

/-- What a command in progress comes to is a report (04 R108). -/
theorem State.settle_reports (s : State) (n : Nat) : Reports s (s.settle n) := by
  unfold State.settle
  extract_lets top
  split
  · exact .refl s
  next c _ =>
    split
    · split
      · exact s.endCmd_reports ..
      · split
        · exact s.failCmd_reports ..
        · exact .refl s
    · split
      · split
        · exact s.endCmd_reports ..
        · exact .refl s
      · split
        · split
          · exact s.endCmd_reports ..
          · split
            · exact s.failCmd_reports ..
            · exact .refl s
        · exact .refl s

theorem State.unresolved_reports (s s0 : State) (n : Nat) : Reports s (s.unresolved s0 n) := by
  unfold State.unresolved
  split
  · split
    · exact s.leafEvent_reports ..
    · exact .refl s
  · split
    · exact s.leafEvent_reports ..
    · exact .refl s
  · exact .refl s

end

end Sys2Proof.Machine
end

section
/-!
PROOFS. Operations on one load channel (04 R104, R106 to R109): what each makes of the channel's record, and that it is about that channel.
-/
namespace Sys2Proof.Machine

/-! ### Gates (04 R100, R104) -/

/-- A channel whose reservation is given up, in its new state (04 R104). -/
def Chan.dropped (c : Chan) (now : Nat) (st : ChSt) : Chan :=
  { c.gateOff now with st := st, offBy := 0, retryReq := false, lostAt := none }

/-- Both low sides turn on at once where neither another switch is on nor one is to be waited for (04 R100). -/
theorem Chan.toGate_of_free {c : Chan} {x : Gate} {act : DeadAct} {now : Nat} (some' : x ≠ .off) (free : c.deadFrom x now = none) :
    c.toGate x act now = { c with gate := x, dead := none } := by
  simp [Chan.toGate, some', free]

/-- A gate command after another switch waits for the dead time (04 R100). -/
theorem Chan.toGate_of_dead {c : Chan} {x : Gate} {act : DeadAct} {now k : Nat} (some' : x ≠ .off) (wait : c.deadFrom x now = some k) :
    c.toGate x act now = { c.open_ now with dead := some (k, act) } := by
  simp [Chan.toGate, some', wait]

section
variable {s : State} {n : Nat}

/-! ### Giving up a reservation -/

theorem State.withdraw_about : About n s (s.withdraw n) := ⟨⟨rfl, rfl, rfl, rfl, rfl, rfl, rfl⟩, fun _ _ _ => rfl⟩

/-- A channel whose reservation is given up; on a bridge the odd half's timers end with it. -/
theorem State.dropCh_makes (lt : n < 64) (st : ChSt) (uj : Option Rat) : Makes n ((s.chan n).dropped s.now st) s (s.dropCh n st uj) := by
  unfold State.dropCh
  extract_lets t v w
  have released : Makes n (s.chan n) s t := by
    unfold t
    split <;> exact ⟨⟨⟨rfl, rfl, rfl, rfl, rfl, rfl, rfl⟩, fun _ _ _ => rfl⟩, rfl⟩
  have withdrawn : Makes n (s.chan n) s v := released.keep State.withdraw_about rfl
  have half : Makes n (s.chan n) s w := by
    unfold w
    split
    next bridge => exact withdrawn.modOdd bridge _
    next => exact withdrawn
  exact half.modChan lt (by rw [half.steady.now]; rfl)

/-- The heat budget's lists but for the releases: the requests keep what is not the channel's. -/
theorem State.dropCh_pend (st : ChSt) (uj : Option Rat) : (s.dropCh n st uj).iso.pend = (s.withdraw n).iso.pend := by
  unfold State.dropCh
  extract_lets t v w
  have released : t.iso.pend = s.iso.pend := by unfold t; split <;> rfl
  have withdrawn : v.iso.pend = (s.withdraw n).iso.pend := by simp only [v, State.withdraw, released]
  unfold w
  split <;> exact withdrawn

theorem State.dropCh_cmds (st : ChSt) (uj : Option Rat) : (s.dropCh n st uj).load.cmds = s.load.cmds := by
  unfold State.dropCh
  extract_lets t v w
  have released : t.load.cmds = s.load.cmds := by unfold t; split <;> rfl
  unfold w
  split <;> exact released

/-! ### Ending a test and a schedule (04 R123, 05 R153) -/

/-- A channel without a test. -/
def Chan.untested (c : Chan) : Chan := { c with test := .idle }

theorem State.endTest_makes (lt : n < 64) : Makes n (s.chan n).untested s (s.endTest n) := by
  unfold State.endTest
  split
  next idle => exact (Makes.refl n s).cast (by rw [Chan.untested, ← idle])
  next =>
    extract_lets t
    have ended : Makes n (s.chan n).untested s t := (Makes.refl n s).modChan lt rfl
    split
    next bridge => exact ended.modOdd bridge _
    next => exact ended

theorem State.endTest_rest : (s.endTest n).iso = s.iso ∧ (s.endTest n).load.cmds = s.load.cmds ∧ (s.endTest n).load.gen = s.load.gen := by
  unfold State.endTest
  split
  · exact ⟨rfl, rfl, rfl⟩
  · extract_lets t
    split <;> exact ⟨rfl, rfl, rfl⟩

/-- The end of a schedule leaves every channel. -/
theorem State.endPulse_same : Steady s (s.endPulse n) ∧ (s.endPulse n).load.ch = s.load.ch ∧ (s.endPulse n).load.cmds = s.load.cmds := by
  unfold State.endPulse
  split
  · exact ⟨.refl s, rfl, rfl⟩
  · exact ⟨⟨rfl, rfl, rfl, rfl, rfl, rfl, rfl⟩, rfl, rfl⟩

theorem State.chan_endPulse (k : Nat) : (s.endPulse n).chan k = s.chan k := by simp only [State.chan, State.endPulse_same]

theorem State.endPulse_makes (k : Nat) : Makes k (s.chan k) s (s.endPulse n) :=
  ⟨⟨State.endPulse_same.1, fun k _ _ => State.chan_endPulse k⟩, State.chan_endPulse k⟩

/-- A command to a channel is no last command of a composite (05 R141). -/
theorem State.lastCmd_channel (lt : n < 64) (idle : Bool) : s.lastCmd n idle = s := if_pos lt

/-! ### The gates of a channel (04 R104) -/

theorem State.armInrush_about : About n s (s.armInrush n) := by
  unfold State.armInrush
  exact ((About.refl n s).modChan _).modChan _

/-- The inrush settings of the tick, and the limit that follows from them. -/
def State.armed (s : State) (n : Nat) (c : Chan) : Chan :=
  { c with inrP := s.inrushP (s.conf n), inrT := s.inrushT (s.conf n), stallAt := none, regAt := none, regSum := 0, regSeen := false }

theorem State.chan_armInrush (lt : n < 64) :
    (s.armInrush n).chan n = { s.armed n (s.chan n) with limit := (s.modChan n (s.armed n)).inrushLimit n 0 } := by
  unfold State.armInrush
  extract_lets h t
  rw [State.chan_modChan_self t lt, State.chan_modChan_self s lt]
  rfl

/-- The limit in force depends on the settings and on the settings that the inrush started with. -/
theorem State.inrushLimit_congr {t : State} (same : Steady s t) (p : (t.chan n).inrP = (s.chan n).inrP) (time : (t.chan n).inrT = (s.chan n).inrT)
    (k : Nat) : t.inrushLimit n k = s.inrushLimit n k := by
  simp only [State.inrushLimit, p, time, same.ilimOf, same.pf, same.conf]

end

end Sys2Proof.Machine
end

section
/-!
PROOFS. Trips of a load channel (04 R104, R105, R112 to R121): what a trip makes of a channel that stands alone, by the state that it finds;
then O23.
-/
namespace Sys2Proof.Machine

/-! ### A channel that stands alone -/

/-- Channel n is commanded itself and is a member of no composite. -/
structure Alone (s : State) (n : Nat) : Prop where
  lt : n < 64
  own : s.owner n = n
  free : s.parentOf n = none

section
variable {s t : State} {n : Nat}

theorem Alone.gang (h : Alone s n) : s.gang n = [n] := by rw [State.gang_of_free h.free, h.own]
theorem Alone.lead (h : Alone s n) : s.lead n = n := State.lead_of_gang h.gang
theorem Alone.topOf (h : Alone s n) : s.topOf n = n := State.topOf_of_free h.free
theorem Alone.conf (h : Alone s n) : s.conf n = n := by simp [State.conf, State.even_of_owner h.own, h.lead]
theorem Alone.steady (h : Alone s n) (k : Steady s t) : Alone t n := ⟨h.lt, (k.owner n).trans h.own, (k.parentOf n).trans h.free⟩

/-- No inrush of a gang of one runs when the channel's own does not. -/
theorem State.inrushOver_of_gang (alone : s.gang n = [n]) : s.inrushOver n = !(s.chan n).inr := by simp [State.inrushOver, alone]

/-- The end of the confirmation window of a record, with the time constant of the wire model (04 R119). -/
def Chan.windowEnd (c : Chan) (tau : Nat) : Nat :=
  if c.firstCode = 4 then max (c.inrEnd + 2000000) (c.gateAt + 5 * (20000000 * tau)) else c.inrEnd + 2000000

theorem State.confirmEnd_of_gang (alone : s.gang n = [n]) : s.confirmEnd n = (s.chan n).windowEnd (s.pf Pf.chWire_TAU n) := by
  simp [State.confirmEnd, alone, Chan.windowEnd]

/-! ### The end of a retry's window (04 R104, R119) -/

/-- The record of a channel whose retry has held. -/
def Chan.confirmed (c : Chan) : Chan := { c with st := .on, trans := satInc 255 c.trans }

theorem State.confirm_reports (lt : n < 64) (alone : s.gang n = [n]) : Reports (s.setChan n (s.chan n).confirmed) (s.confirm n) := by
  have lead (f : Chan → Chan) : (s.modChan n f).lead n = n :=
    State.lead_of_gang (((State.modChan_steady s f).gang n).trans alone)
  simp only [State.confirm, alone, List.foldl_cons, List.foldl_nil, lead]
  have both : (s.modChan n (fun c => { c with st := .on })).modChan n (fun c => { c with trans := satInc 255 c.trans }) =
      s.setChan n (s.chan n).confirmed := by
    rw [State.modChan_eq (s.modChan n _), State.chan_modChan_self s lt, State.modChan_eq, State.setChan_setChan]
    rfl
  rw [both]
  exact ((State.markCmd_reports ..).trans (State.leafEvent_reports ..)).trans (State.settle_reports ..)

/-! ### First and lasting trips (04 R104, R118, R119) -/

/-- The record of a channel with its trip: the code, the stamp and the DELAY of the retry. -/
def Chan.marked (c : Chan) (now code delay : Nat) : Chan := { c with fault := code, firstCode := code, tripAt := now, delay := delay }

/-- The trip is held for Contour too. -/
def Chan.tripped (c : Chan) (now code delay : Nat) : Chan := { c.marked now code delay with trips := c.trips ++ [(code, now)] }

/-- The record after a lasting trip. -/
def Chan.latched (c : Chan) (now code delay : Nat) : Chan :=
  { (c.dropped now .latched).tripped now code delay with dieLast := true, lasting := satInc 255 c.lasting }

theorem State.markTrip_makes {v : State} {x : Chan} (lt : n < 64) (h : Makes n x s v) (code : Nat) :
    Makes n (x.marked s.now code (s.pf Pf.chRetry_DELAY n)) s (v.markTrip n code) :=
  h.modChan lt (by simp only [h.steady.now, h.steady.pf, Chan.marked])

theorem State.noteTrip_makes {v : State} {x : Chan} (lt : n < 64) (h : Makes n x s v) (code : Nat) :
    Makes n { x with trips := x.trips ++ [(code, s.now)] } s (v.noteTrip n code) :=
  h.modChan lt (by simp only [h.steady.now])

theorem State.tripFirst_makes (lt : n < 64) (alone : s.gang n = [n]) (code : Nat) (m : Meas) :
    Makes n (((s.chan n).dropped s.now .retryWait).tripped s.now code (s.pf Pf.chRetry_DELAY n)) s (s.tripFirst n code m) := by
  simp only [State.tripFirst, State.lead_of_gang alone, alone, List.foldl_cons, List.foldl_nil, if_true]
  exact (State.noteTrip_makes lt (State.markTrip_makes lt (State.dropCh_makes lt ..) code) code).report (State.leafEventAt_reports ..)

/-- A channel outside composites has no composite to latch. -/
theorem State.gangLatch_of_free (free : s.parentOf n = none) : s.gangLatch n = s := by
  simp [State.gangLatch, State.enclosing_of_free free]

theorem State.tripLasting_makes (alone : Alone s n) (code : Nat) (m : Meas) :
    Makes n ((s.chan n).latched s.now code (s.pf Pf.chRetry_DELAY n)) s (s.tripLasting n code m) := by
  have lt := alone.lt
  unfold State.tripLasting
  extract_lets s0 l s1 s2 s3 s4
  have lead : l = n := alone.lead
  have dropped : Makes n { (s.chan n).dropped s.now .latched with dieLast := true } s s1 := by
    simp only [s1, alone.gang, List.foldl_cons, List.foldl_nil]
    exact (State.dropCh_makes lt ..).modChan lt rfl
  have noted : Makes n ((s.chan n).latched s.now code (s.pf Pf.chRetry_DELAY n)) s (s2.noteTrip n code) := by
    simp only [s2, lead]
    exact (State.noteTrip_makes lt ((State.markTrip_makes lt dropped code).modChan lt rfl) code).cast rfl
  have free : (s2.noteTrip n code).parentOf l = none := by rw [lead, noted.steady.parentOf, alone.free]
  have same : s3 = s2.noteTrip n code := State.gangLatch_of_free free
  have ended : Makes n ((s.chan n).latched s.now code (s.pf Pf.chRetry_DELAY n)) s s4 := by
    unfold s4
    rw [same]
    split
    · exact noted.keep (State.endPulse_makes n).toAbout (State.chan_endPulse n)
    · exact noted
  exact (ended.report (State.leafEventAt_reports ..)).report (State.settle_reports ..)

/-! ### What a trip finds (04 R104, R105) -/

/-- A lasting trip: with NORETRY, in the confirmation window of a retry, or while BRAKE holds. -/
def State.lasts (s : State) (n : Nat) : Prop :=
  ((s.chan n).st = .on ∨ (s.chan n).st = .inrush) ∧ s.pb Pf.chRetry_NORETRY n = true ∨
  (s.chan n).st = .retryOn ∧ ((s.chan n).inr = true ∨ s.now < s.confirmEnd n) ∨
  ((s.chan n).st = .off ∨ (s.chan n).st = .grantWait) ∧ (s.chan n).brake = true

/-- The record after a first trip. -/
def Chan.retrying (c : Chan) (now code delay : Nat) : Chan := (c.dropped now .retryWait).tripped now code delay

/-- What a trip does in each state (04 R104). -/
def State.tripIn (s : State) (n code : Nat) (m : Meas) : ChSt → State
  | .inrush | .on => if s.pb Pf.chRetry_NORETRY n then s.tripLasting n code m else s.tripFirst n code m
  | .retryOn => s.tripLasting n code m
  | .off | .grantWait => if (s.chan n).brake then s.tripLasting n code m else s
  | .retryWait | .latched => s.tripAgain n code

section
variable (alone : Alone s n) (code : Nat) (m : Meas)
include alone

/-- Outside the end of a retry's window the state alone decides on a trip. -/
theorem State.trip_of_open (before : (s.chan n).st = .retryOn → (s.chan n).inr = true ∨ s.now < s.confirmEnd n) :
    s.trip n code m = s.tripIn n code m (s.chan n).st := by
  have stays : ((s.chan n).st = .retryOn && s.inrushOver n && decide (s.confirmEnd n ≤ s.now)) = false := by
    rw [State.inrushOver_of_gang alone.gang]
    cases st : decide ((s.chan n).st = .retryOn)
    · rfl
    · rcases before (of_decide_eq_true st) with inr | late
      · simp [inr]
      · simp [Nat.not_le.mpr late]
  simp only [State.trip, alone.lead, stays, Bool.false_eq_true, if_false]
  cases (s.chan n).st <;> rfl

theorem State.trip_of_first (st : (s.chan n).st = .on ∨ (s.chan n).st = .inrush) (retry : s.pb Pf.chRetry_NORETRY n = false) :
    s.trip n code m = s.tripFirst n code m := by
  rw [State.trip_of_open alone code m (fun on => by rcases st with st | st <;> rw [st] at on <;> cases on)]
  rcases st with st | st <;> simp [State.tripIn, st, retry]

theorem State.trip_of_lasts (lasts : s.lasts n) : s.trip n code m = s.tripLasting n code m := by
  rcases lasts with ⟨st, retry⟩ | ⟨st, window⟩ | ⟨st, brake⟩
  · rw [State.trip_of_open alone code m (fun on => by rcases st with st | st <;> rw [st] at on <;> cases on)]
    rcases st with st | st <;> simp [State.tripIn, st, retry]
  · rw [State.trip_of_open alone code m (fun _ => window)]
    simp [State.tripIn, st]
  · rw [State.trip_of_open alone code m (fun on => by rcases st with st | st <;> rw [st] at on <;> cases on)]
    rcases st with st | st <;> simp [State.tripIn, st, brake]

/-- At or after the end of its window a retry has held, and the trip is a new one. -/
theorem State.trip_of_held (st : (s.chan n).st = .retryOn) (calm : (s.chan n).inr = false) (ended : s.confirmEnd n ≤ s.now) :
    s.trip n code m = (s.confirm n).trip n code m := by
  have on : (s.confirm n).chan n = (s.chan n).confirmed :=
    ((State.confirm_reports alone.lt alone.gang).chan n).trans (State.chan_setChan_self s alone.lt _)
  have steady := (State.setChan_steady s _).trans (State.confirm_reports alone.lt alone.gang).steady
  have held : ((s.chan n).st = .retryOn && s.inrushOver n && decide (s.confirmEnd n ≤ s.now)) = true := by
    rw [State.inrushOver_of_gang alone.gang]
    simp [st, calm, ended]
  have open' : ((s.confirm n).chan n).st = .retryOn → ((s.confirm n).chan n).inr = true ∨ (s.confirm n).now < (s.confirm n).confirmEnd n := by
    rw [on]
    exact fun h => nomatch h
  rw [State.trip_of_open (alone.steady steady) code m open']
  simp only [State.trip, alone.lead, held, if_true]
  cases ((s.confirm n).chan n).st <;> rfl

theorem State.tripAgain_about : About n s (s.tripAgain n code) := by
  simp only [State.tripAgain, alone.lead, alone.gang, List.foldl_cons, List.foldl_nil]
  split
  · exact (((About.refl n s).modChan _).modChan _).trans ((State.lowerCode_reports ..).about n)
  · exact .refl n s

theorem State.confirm_makes : Makes n (s.chan n).confirmed s (s.confirm n) :=
  ((Makes.refl n s).setChan alone.lt _).report (State.confirm_reports alone.lt alone.gang)

theorem State.trip_about_of_open (before : (s.chan n).st = .retryOn → (s.chan n).inr = true ∨ s.now < s.confirmEnd n) :
    About n s (s.trip n code m) := by
  rw [State.trip_of_open alone code m before]
  have first := (State.tripFirst_makes alone.lt alone.gang code m).toAbout
  have last := (State.tripLasting_makes alone code m).toAbout
  have on : About n s (if s.pb Pf.chRetry_NORETRY n then s.tripLasting n code m else s.tripFirst n code m) := by
    split
    · exact last
    · exact first
  have braking : About n s (if (s.chan n).brake then s.tripLasting n code m else s) := by
    split
    · exact last
    · exact .refl n s
  cases (s.chan n).st
  case off | grantWait => exact braking
  case inrush | on => exact on
  case retryOn => exact last
  case retryWait | latched => exact State.tripAgain_about alone code

theorem State.trip_about : About n s (s.trip n code m) := by
  by_cases held : (s.chan n).st = .retryOn ∧ (s.chan n).inr = false ∧ s.confirmEnd n ≤ s.now
  · obtain ⟨st, calm, ended⟩ := held
    have on := State.confirm_makes alone
    rw [State.trip_of_held alone code m st calm ended]
    refine on.toAbout.trans (State.trip_about_of_open (alone.steady on.steady) code m ?_)
    rw [on.record]
    exact fun h => nomatch h
  · refine State.trip_about_of_open alone code m (fun st => ?_)
    cases inr : (s.chan n).inr
    · exact .inr (Nat.not_le.mp (fun ended => held ⟨st, inr, ended⟩))
    · exact .inl rfl

/-- A trip that the die raises while the sequencer runs: about the channel, and a first or a lasting one by the state that it finds. -/
theorem State.dieTrips_spec (up : s.seqUp n = true) : About n s (s.dieTrips n code m) ∧
    (((s.chan n).st = .on ∨ (s.chan n).st = .inrush) → s.pb Pf.chRetry_NORETRY n = false →
      (s.dieTrips n code m).chan n = (s.chan n).retrying s.now code (s.pf Pf.chRetry_DELAY n)) ∧
    ((s.chan n).st = .retryOn → (s.chan n).inr = false → s.confirmEnd n ≤ s.now → s.pb Pf.chRetry_NORETRY n = false →
      (s.dieTrips n code m).chan n = (s.chan n).confirmed.retrying s.now code (s.pf Pf.chRetry_DELAY n)) ∧
    (s.lasts n → (s.dieTrips n code m).chan n = (s.chan n).latched s.now code (s.pf Pf.chRetry_DELAY n)) := by
  obtain ⟨v, eq, told⟩ : ∃ v, s.dieTrips n code m = v.trip n code m ∧ Reports s v := by
    refine ⟨if s.tripActs n then s.dieEvent n 0 else s, ?_, ?_⟩
    · simp [State.dieTrips, alone.lead, up]
    · split
      · exact s.dieEvent_reports n 0
      · exact .refl s
  have same : v.chan n = s.chan n := told.chan n
  have here := alone.steady told.steady
  have window : v.confirmEnd n = s.confirmEnd n := by
    rw [State.confirmEnd_of_gang here.gang, State.confirmEnd_of_gang alone.gang, same, told.steady.pf]
  have now : v.now = s.now := told.steady.now
  have noRetry : v.pb Pf.chRetry_NORETRY n = s.pb Pf.chRetry_NORETRY n := told.steady.pb ..
  have delay : v.pf Pf.chRetry_DELAY n = s.pf Pf.chRetry_DELAY n := told.steady.pf ..
  rw [eq]
  refine ⟨(told.about n).trans (State.trip_about here code m), fun st retry => ?_, fun st calm ended retry => ?_, fun lasts => ?_⟩
  · rw [State.trip_of_first here code m (by rwa [same]) (noRetry.trans retry), (State.tripFirst_makes here.lt here.gang code m).record, same,
      now, delay]
    rfl
  · have on := State.confirm_makes here
    have there := here.steady on.steady
    rw [State.trip_of_held here code m (by rwa [same]) (by rwa [same]) (by rwa [window, now]),
      State.trip_of_first there code m (.inl (by rw [on.record]; rfl)) ((on.steady.pb ..).trans (noRetry.trans retry)),
      (State.tripFirst_makes there.lt there.gang code m).record, on.record, on.steady.now, on.steady.pf, same, now, delay]
    rfl
  · rw [State.trip_of_lasts here code m (by rwa [State.lasts, same, noRetry, now, window]), (State.tripLasting_makes here code m).record, same, now,
      delay]

end

end

/-! ### Trips that the die raises (04 R112 to R116, 17 R431) -/

section
variable {s : State} {n : Nat} {code : Nat} {m : Meas}

/-- What O23 says of a trip: a first one, one after a retry that has held, or a lasting one; no channel but n and the odd half of its bridge
changes. -/
def TripsAs (u : State) (n : Fin 64) (code : Nat) (t : State) : Prop :=
  (((u.chan n).st = .on ∨ (u.chan n).st = .inrush) → u.pb Pf.chRetry_NORETRY n = false →
    (t.chan n).st = .retryWait ∧ (t.chan n).gate = .off ∧ (t.chan n).fault = code ∧ (t.chan n).tripAt = u.now ∧
    (t.chan n).lasting = (u.chan n).lasting ∧ (t.chan n).trans = (u.chan n).trans) ∧
  ((u.chan n).st = .retryOn → (u.chan n).inr = false → u.confirmEnd n ≤ u.now → u.pb Pf.chRetry_NORETRY n = false →
    (t.chan n).st = .retryWait ∧ (t.chan n).gate = .off ∧ (t.chan n).fault = code ∧ (t.chan n).tripAt = u.now ∧
    (t.chan n).lasting = (u.chan n).lasting ∧ (t.chan n).trans = satInc 255 (u.chan n).trans) ∧
  (u.lasts n → (t.chan n).st = .latched ∧ (t.chan n).gate = .off ∧ (t.chan n).fault = code ∧
    (t.chan n).lasting = satInc 255 (u.chan n).lasting) ∧
  ∀ k : Fin 64, k ≠ n → (u.bridge n = true → k.val ≠ n.val + 1) → t.chan k = u.chan k

/-- A protection that trips in a state that differs from the one before in the wire's temperature alone. -/
theorem tripsAs_dieTrips {u v : State} {n : Fin 64} {th : Rat} (alone : Alone u n) (up : u.seqUp n = true)
    (h : Makes n { u.chan n with theta := th } u v) (code : Nat) (m : Meas) : TripsAs u n code (v.dieTrips n code m) := by
  have here := alone.steady h.steady
  obtain ⟨about, first, held, lasting⟩ := State.dieTrips_spec here code m ((h.steady.seqUp n).trans up)
  have window : v.confirmEnd n = u.confirmEnd n := by
    rw [State.confirmEnd_of_gang here.gang, State.confirmEnd_of_gang alone.gang, h.record, h.steady.pf]
    rfl
  have lasts : v.lasts n = u.lasts n := by simp only [State.lasts, h.record, h.steady.pb, window, h.steady.now]
  rw [h.record, h.steady.pb, h.steady.now] at first
  rw [h.record, h.steady.pb, h.steady.now, window] at held
  rw [h.record, h.steady.now, lasts] at lasting
  refine ⟨fun st retry => ?_, fun st calm ended retry => ?_, fun l => ?_, fun k ne half => ?_⟩
  · rw [first st retry]
    exact ⟨rfl, rfl, rfl, rfl, rfl, rfl⟩
  · rw [held st calm ended retry]
    exact ⟨rfl, rfl, rfl, rfl, rfl, rfl⟩
  · rw [lasting l]
    exact ⟨rfl, rfl, rfl, rfl⟩
  · exact (h.toAbout.trans about).chan k (fun eq => ne (Fin.ext eq)) half

/-- The record of a channel that the die has turned off alone, with its mark (17 R431). -/
def Chan.dieOff (c : Chan) (now code : Nat) : Chan :=
  { c.gateOff now with dieTrip := true, fault := code, firstCode := code, tripAt := now }

/-- While no sequencer runs, the die turns the output off and keeps the mark. -/
theorem State.dieTrips_down {u : State} {n : Fin 64} (alone : Alone u n) (down : u.seqUp n = false) (fresh : (u.chan n).dieTrip = false)
    (on : (u.chan n).energised = true) (code : Nat) (m : Meas) :
    (u.dieTrips n code m).chan n = { (u.chan n).dieOff u.now code with trips := (u.chan n).trips ++ [(code, u.now)] } ∧
    ∀ k : Fin 64, k ≠ n → (u.dieTrips n code m).chan k = u.chan k := by
  have eq : u.dieTrips n code m = ((u.modChan n (fun c => c.dieOff u.now code)).dieEvent n 0).noteTrip n code := by
    simp [State.dieTrips, alone.lead, down, State.dieTripOff, fresh, alone.own, on, alone.gang, Chan.dieOff]
  have told := State.dieEvent_reports (u.modChan n (fun c => c.dieOff u.now code)) n 0
  rw [eq, State.noteTrip]
  refine ⟨?_, fun k ne => ?_⟩
  · rw [State.chan_modChan_self _ alone.lt, told.chan, State.chan_modChan_self u alone.lt, told.steady.now]
    rfl
  · have ne' : k.val ≠ n.val := fun eq => ne (Fin.ext eq)
    rw [State.chan_modChan_ne _ ne', told.chan, State.chan_modChan_ne u ne']

/-- The dwell timer of a channel that stands alone has run (04 R113). -/
theorem State.dwellOver_of_alone {u : State} {ma : Int} (alone : Alone u n) (up : u.seqUp n = true)
    (dwelt : (u.chan n).inr = false ∧ ((u.chan n).limit : Int) ≤ ma ∧ dwellTk n ≤ (u.chan n).dwell u.now) : u.dwellOver n ma = true := by
  obtain ⟨calm, high, long⟩ := dwelt
  simp [State.dwellOver, up, State.inrushOver_of_gang alone.gang, calm, high, long]

end

/-! ### The protections (04 R112 to R116, R121) -/

section
variable {s : State} {g : Lapse} {n : Fin 64} {m : Meas} {P : State → Prop}

/-- A command runs to the state that its definition gives. -/
theorem does_of_run {c : Instr} {t : State} (run : exec c s = .next t) (post : P t) : Does c s P := ⟨t, run, post⟩

theorem exec_fastTrip (big : fastMin n ≤ m.ma) (feed : (s.pass g).feedOk n = true) (on : ((s.pass g).chan ((s.pass g).owner n)).energised = true) :
    exec (.fastTrip g n m) s = .next ((s.pass g).dieTrips n 1 m) := by
  show execFastTrip g n m s = _
  simp [execFastTrip, big, feed, on]

theorem exec_overcurrent (dwelt : (s.pass g).dwellOver n m.ma = true) (steady : (s.pass g).stalls n = false) :
    exec (.overcurrent g n m) s = .next ((s.pass g).dieTrips n 2 m) := by
  show execOvercurrent g n m s = _
  simp [execOvercurrent, dwelt, steady]

theorem exec_stall (motor : (s.pass g).stalls n = true) (ran : (∃ k, ((s.pass g).chan n).stallAt = some k ∧ (s.pass g).seqUp n = true ∧
      k + ((s.pass g).chan n).inrT ≤ (s.pass g).now ∧ ((s.pass g).ilimOf n : Int) ≤ m.ma) ∨ (s.pass g).dwellOver n m.ma = true) :
    exec (.stall g n m) s = .next ((s.pass g).dieTrips n 3 m) := by
  show execStall g n m s = _
  rcases ran with ⟨k, at', up, time, high⟩ | dwelt
  · simp [execStall, motor, at', up, time, high, State.expired]
  · simp [execStall, motor, dwelt]

theorem exec_deltaT {dt : Int} (hot : ((s.pass g).pf Pf.chDtLimit_DT ((s.pass g).conf n) : Int) < dt) (feed : (s.pass g).feedOk n = true) :
    exec (.deltaT g n ⟨m, dt⟩) s = .next ((s.pass g).dieTrips n 5 m) := by
  show execDeltaT g n ⟨m, dt⟩ s = _
  simp [execDeltaT, hot, feed]

theorem exec_tjShutdown {tj : Int} (hot : 1620 < tj) (feed : (s.pass g).feedOk n = true) :
    exec (.tjShutdown g n ⟨m, tj⟩) s = .next ((s.pass g).dieTrips n 6 m) := by
  show execTjShutdown g n ⟨m, tj⟩ s = _
  simp [execTjShutdown, hot, feed]

theorem exec_inrushTimeout (up : (s.pass g).seqUp n = true) (inr : ((s.pass g).chan n).inr = true) (cls : chClass n = 2)
    (time : ((s.pass g).chan n).inrT ≤ ((s.pass g).chan n).timer (s.pass g).now) (low : 10 * m.mv < 9 * (s.pass g).feedMv n) :
    exec (.inrushTimeout g n m) s = .next ((s.pass g).dieTrips n 7 m) := by
  show execInrushTimeout g n m s = _
  simp [execInrushTimeout, up, inr, cls, time, low]

theorem exec_sagInrushTimeout {f : Nat} (up : (s.pass g).seqUp n = true) (inr : ((s.pass g).chan n).inr = true)
    (frozen : ((s.pass g).chan n).frozenAt = some f) (time : 400000 ≤ ((s.pass g).chan n).frozen + ((s.pass g).now - f)) :
    exec (.sagInrushTimeout g n m) s = .next ((s.pass g).dieTrips n 7 m) := by
  show execSagInrushTimeout g n m s = _
  simp [execSagInrushTimeout, up, inr, frozen, time]

/-- The temperature of the wire after a step of the model (04 R116). -/
def State.thetaAfter (u : State) (n : Nat) (v : Vector Int 25) : Rat :=
  (u.chan n).theta + (((v.toList.foldl (fun a i => a + i * i) 0 : Int) : Rat) / 25 / ((u.wireRated n : Rat) * (u.wireRated n : Rat)) -
    (u.chan n).theta) / (1000 * (u.pf Pf.chWire_TAU n : Rat))

theorem exec_i2tModelStep {v : Vector Int 25} (up : (s.pass g).seqUp n = true) (own : (s.pass g).conf n = n) :
    exec (.i2tModelStep g n v) s =
      let u := s.pass g
      let w := u.setChan n { u.chan n with theta := u.thetaAfter n v }
      if (w.pf Pf.chWire_KTRIP n : Rat) / 16 ≤ u.thetaAfter n v then .next (w.dieTrips n 4 ⟨v[24], 0, ratCeil (w.inrUj n)⟩) else .next w := by
  show execI2tModelStep g n v s = _
  simp only [execI2tModelStep, up, own, Bool.not_true, Bool.false_or, ne_eq, not_true_eq_false, decide_false, Bool.false_eq_true, if_false]
  rfl

end

/-- Settles O23, by the state that each trip finds. -/
theorem channelTrips : Obligations.ChannelTrips := by
  intro s g n m gang own free energised u c others noRetry lasts trips alone' dwelt
  have alone : Alone u n := ⟨n.isLt, own, free⟩
  have conf : u.conf n = n := alone.conf
  have raised (code : Nat) (m : Meas) (up : u.seqUp n = true) : trips code (u.dieTrips n code m) :=
    tripsAs_dieTrips (th := c.theta) alone up (Makes.refl n u) code m
  have taken (code : Nat) (m : Meas) (down : u.seqUp n = false) (fresh : c.dieTrip = false) : alone' code (u.dieTrips n code m) :=
    State.dieTrips_down alone down fresh energised code m
  have on : (u.chan (u.owner n)).energised = true := by rw [own]; exact energised
  and_intros
  · intro big feed
    exact ⟨fun up => does_of_run (exec_fastTrip big feed on) (raised 1 m up),
      fun down fresh => does_of_run (exec_fastTrip big feed on) (taken 1 m down fresh)⟩
  · exact fun up long steady => does_of_run (exec_overcurrent (State.dwellOver_of_alone alone up long) steady) (raised 2 m up)
  · intro up motor long
    refine does_of_run (exec_stall motor ?_) (raised 3 m up)
    exact long.imp (fun ⟨k, at', time, high⟩ => ⟨k, at', up, time, high⟩) (State.dwellOver_of_alone alone up)
  · intro v ms th up
    have eq := exec_i2tModelStep (v := v) up conf
    refine ⟨fun hot => does_of_run (eq.trans (if_pos hot)) ?_, fun cool => does_of_run (eq.trans (if_neg (not_le.mpr cool))) rfl⟩
    exact tripsAs_dieTrips alone up ((Makes.refl n u).setChan alone.lt _) 4 _
  · intro dt hot feed
    have hot' : (u.pf Pf.chDtLimit_DT (u.conf n) : Int) < dt := by rwa [conf]
    exact ⟨fun up => does_of_run (exec_deltaT hot' feed) (raised 5 m up),
      fun down fresh => does_of_run (exec_deltaT hot' feed) (taken 5 m down fresh)⟩
  · intro tj hot feed
    exact ⟨fun up => does_of_run (exec_tjShutdown hot feed) (raised 6 m up),
      fun down fresh => does_of_run (exec_tjShutdown hot feed) (taken 6 m down fresh)⟩
  · exact fun up inr cls time low => does_of_run (exec_inrushTimeout up inr cls time low) (raised 7 m up)
  · exact fun f up inr frozen time => does_of_run (exec_sagInrushTimeout up inr frozen time) (raised 7 m up)

end Sys2Proof.Machine
end

section
/-!
PROOFS. Reverse blocking and the off-state test of a load channel (04 R123 to R125, R128): the run of each command, then O24.
-/
namespace Sys2Proof.Machine

section
variable {s : State} {g : Lapse} {n : Fin 64} {m : Meas} {mv k cand : Nat}

/-! ### Reverse blocking (04 R125) -/

theorem exec_reverseCurrent (cls : chClass n ≠ 1) (rb : (s.pass g).pb Pf.chCfg_RB n = true) (on : ((s.pass g).chan n).energised = true)
    (closed : ((s.pass g).chan n).revblock = false) (back : m.ma ≤ -300) :
    exec (.reverseCurrent g n m) s =
      .next (((s.pass g).setChan n { (s.pass g).chan n with revblock := true, fault := 0x13 }).leafEvent (s.pass g) n 0x13 4 m.ma) := by
  show execReverseCurrent g n m s = _
  simp [execReverseCurrent, cls, rb, on, closed, back]

theorem exec_reverseCurrentEnd (blocked : ((s.pass g).chan n).revblock = true) :
    exec (.reverseCurrentEnd g n) s = .next ((s.pass g).modChan n (fun c => { c with revblock := false })) := by
  show execReverseCurrentEnd g n s = _
  simp [execReverseCurrentEnd, blocked]

/-! ### The off-state test (04 R123, R124) -/

theorem exec_offStateTestStart (off : ((s.pass g).chan n).st = .off) (quiet : ((s.pass g).chan n).energised = false)
    (idle : ((s.pass g).chan n).test = .idle) (en : (s.pass g).pb Pf.chOpenload_EN n = true) (up : (s.pass g).seqUp n = true)
    (lead : (s.pass g).lead n = n) (single : (s.pass g).dualFed n = false)
    (due : ((s.pass g).chan n).testAt = 0 ∨
      ((s.pass g).chan n).testAt + 200000 * (s.pass g).pf Pf.chOpenload_PERIOD n ≤ (s.pass g).now) :
    exec (.offStateTestStart g n) s = .next ((s.pass g).setChan n
      { (s.pass g).chan n with test := .pullOff (s.pass g).now, testAt := (s.pass g).now, testCfg := (s.pass g).parOf (Pid.chOpenload n) 0 }) := by
  show execOffStateTestStart g n s = _
  have due' : (decide (((s.pass g).chan n).testAt = 0) ||
      (s.pass g).expired ((s.pass g).chan n).testAt (msTk ((s.pass g).pf Pf.chOpenload_PERIOD n))) = true := by
    rcases due with never | passed
    · simp [never]
    · simp [State.expired, msTk, passed]
  simp [execOffStateTestStart, off, quiet, idle, en, up, lead, single, due']

/-- The candidate of the first step, by the voltage and the polarity (04 R123). -/
def candOf (pol th mv : Nat) : Nat := if pol = 1 then (if mv < th then 0x12 else 0) else (if th < mv then 0x11 else 0)

theorem exec_offStatePullupOn (test : ((s.pass g).chan n).test = .pullOff k) (time : k + 2000 ≤ (s.pass g).now) :
    exec (.offStatePullupOn g n mv) s =
      let c := (s.pass g).chan n
      let v := (s.pass g).setChan n
        { c with test := .pullOn k (candOf (Pf.chOpenload_POL.of c.testCfg) (50 * Pf.chOpenload_VTH.of c.testCfg) mv) }
      .next (if v.bridge n then v.modChan (n + 1) (fun c => { c with gate := .drive .low }) else v) := by
  show execOffStatePullupOn g n mv s = _
  simp only [execOffStatePullupOn, test, State.expired, time, decide_true, if_true]
  rfl

theorem exec_offStateTestEnd (test : ((s.pass g).chan n).test = .pullOn k cand) (time : k + 44000 ≤ (s.pass g).now) :
    exec (.offStateTestEnd g n mv) s =
      let c := (s.pass g).chan n
      let th := 50 * Pf.chOpenload_VTH.of c.testCfg
      .next ((s.pass g).testResult n
        (if cand ≠ 0 then cand else if (if Pf.chOpenload_POL.of c.testCfg = 1 then decide (mv < th) else decide (th < mv)) then 0x10 else 0)) := by
  show execOffStateTestEnd g n mv s = _
  simp only [execOffStateTestEnd, test, State.expired, time, decide_true, if_true]

end

/-! ### The result of a test (04 R123, R128) -/

section
variable {u : State} {n : Nat}

/-- Without a bridge the end of a test writes the channel's record alone. -/
theorem State.endTest_of_single (single : u.bridge n = false) : u.endTest n = u.setChan n (u.chan n).untested ∨ u.endTest n = u := by
  unfold State.endTest
  split
  · exact .inr rfl
  · extract_lets t
    have same : t.bridge n = false := ((State.modChan_steady u _).bridge n).trans single
    rw [same]
    exact .inl rfl

/-- What follows the end of a test replaces the record. -/
theorem State.endTest_setChan (single : u.bridge n = false) (c : Chan) : (u.endTest n).setChan n c = u.setChan n c := by
  rcases State.endTest_of_single single with eq | eq <;> rw [eq]
  exact State.setChan_setChan u ..

/-- A candidate that does not yet reach FILT is counted and raises no flag. -/
theorem State.testResult_of_few_faults {cand : Nat} (lt : n < 64) (single : u.bridge n = false) (fault : cand ≠ 0) (new : (u.chan n).cand ≠ cand)
    (few : 1 < Pf.chOpenload_FILT.of (u.chan n).testCfg) :
    u.testResult n cand = u.setChan n { u.chan n with test := .idle, cand := cand, candCnt := 1, cleanCnt := 0 } := by
  simp only [State.testResult, (State.endTest_makes lt).record, fault, if_false, Chan.untested, new, few, if_true,
    State.endTest_setChan single]
  rfl

/-- A clean test that does not yet reach FILT is counted and clears no flag. -/
theorem State.testResult_of_few_clean (lt : n < 64) (single : u.bridge n = false)
    (few : (u.chan n).cleanCnt + 1 < Pf.chOpenload_FILT.of (u.chan n).testCfg) :
    u.testResult n 0 = u.setChan n { u.chan n with test := .idle, cand := 0, candCnt := 0, cleanCnt := min ((u.chan n).cleanCnt + 1) 15 } := by
  simp only [State.testResult, (State.endTest_makes lt).record, if_true, Chan.untested, few, State.endTest_setChan single]

/-- With FILT 1 at most, the first open load raises its flag and its fault code. -/
theorem State.testResult_open (lt : n < 64) (filt : Pf.chOpenload_FILT.of (u.chan n).testCfg ≤ 1) (unset : (u.chan n).openload = false) :
    ∃ k, Makes n { u.chan n with test := .idle, cand := 0x10, candCnt := k, cleanCnt := 0, openload := true, fault := 0x10 } u
      (u.testResult n 0x10) := by
  have ended := State.endTest_makes (s := u) lt
  have enough : ¬ (if (u.chan n).cand = 0x10 then (u.chan n).candCnt + 1 else 1) < Pf.chOpenload_FILT.of (u.chan n).testCfg := by
    split <;> omega
  refine ⟨min (if (u.chan n).cand = 0x10 then (u.chan n).candCnt + 1 else 1) 15, ?_⟩
  simp only [State.testResult, ended.record, Chan.untested, unset, show ¬ (0x10 = 0) by decide, if_false, if_true, enough, Bool.false_eq_true]
  exact (((ended.setChan lt _).modChan lt rfl).report (State.leafEvent_reports ..)).cast rfl

end

/-- Settles O24, by the run of each command. -/
theorem channelDiagnostics : Obligations.ChannelDiagnostics := by
  intro s g n m mv u c filt th pol steps
  have lt : n.val < 64 := n.isLt
  have pulled (k cand : Nat) (test : c.test = .pullOff k) (time : k + 2000 ≤ u.now) (same : candOf pol th mv = cand) :
      Does (.offStatePullupOn g n mv) s (steps k cand) := by
    refine does_of_run (exec_offStatePullupOn test time) ?_
    rw [show candOf (Pf.chOpenload_POL.of ((s.pass g).chan n).testCfg) (50 * Pf.chOpenload_VTH.of ((s.pass g).chan n).testCfg) mv = cand from same]
    have set := (Makes.refl n.val u).setChan lt { c with test := .pullOn k cand }
    rw [show ((s.pass g).setChan n { (s.pass g).chan n with test := .pullOn k cand }).bridge n = u.bridge n from set.steady.bridge n]
    split
    next bridge =>
      refine ⟨(set.modOdd ((set.steady.bridge n).trans bridge) _).record, fun single => ?_, fun _ => ?_⟩
      · rw [bridge] at single
        cases single
      · exact congrArg Chan.gate (State.chan_modChan_self _ (State.odd_lt_of_bridge bridge).1 _)
    next single => exact ⟨set.record, fun _ => rfl, fun bridge => absurd bridge single⟩
  and_intros
  · intro cls rb on closed back
    have made := ((Makes.refl n.val u).setChan lt { c with revblock := true, fault := 0x13 })
    refine does_of_run (exec_reverseCurrent cls rb on closed back) ⟨(made.report (State.leafEvent_reports ..)).record, fun k ne => ?_⟩
    exact ((State.leafEvent_reports ..).chan k).trans (State.chan_setChan_ne u (fun eq => ne (Fin.ext eq)) _)
  · exact fun blocked => does_of_run (exec_reverseCurrentEnd blocked) rfl
  · exact fun off quiet idle en up lead single due => does_of_run (exec_offStateTestStart off quiet idle en up lead single due) rfl
  · exact fun k test time high => pulled k _ test time (if_neg high)
  · exact fun k test time low => pulled k _ test time (if_pos low)
  · intro k test time new few single
    exact does_of_run (exec_offStateTestEnd test time) (State.testResult_of_few_faults (cand := 0x11) lt single (by decide) new few)
  · intro k test time pol' low few single
    refine does_of_run (exec_offStateTestEnd test time) ?_
    have clean : ¬ (if Pf.chOpenload_POL.of c.testCfg = 1 then decide (mv < th) else decide (th < mv)) = true := by
      rw [if_neg pol']
      simpa using low
    simp only [ne_eq, not_true_eq_false, if_false]
    rw [if_neg clean]
    exact State.testResult_of_few_clean lt single few
  · intro k test time pol' high one unset
    refine does_of_run (exec_offStateTestEnd test time) ?_
    have loose : (if Pf.chOpenload_POL.of c.testCfg = 1 then decide (mv < th) else decide (th < mv)) = true := by
      rw [if_neg pol']
      simpa using high
    simp only [ne_eq, not_true_eq_false, if_false]
    rw [if_pos loose]
    obtain ⟨k, made⟩ := State.testResult_open (u := u) lt one unset
    rw [made.record]
    exact ⟨rfl, rfl, rfl, rfl⟩

end Sys2Proof.Machine
end

section
/-!
PROOFS. Trips of a valve (07 R195, R196, R199, R200, R210): what a trip makes of the valve and what it leaves of the others of its bank, which
may take the boost that becomes free; then O30.
-/
namespace Sys2Proof.Machine

/-! ### Valves that an operation is not about (07 R191, R203) -/

/-- A valve's record apart from how its current falls and from the command in progress. -/
def Valve.apart (x : Valve) : Valve := { x with decay := .none, holdFall := false, fastdly := false, bwait := false, cmd := none }

/-- A valve keeps its record, apart from its fall and its command, or takes the boost that it has waited for. -/
def Passed (x y : Valve) : Prop := y.apart = x.apart ∨ (x.st = .boostWait ∧ y.st = .boost)

section
variable {x y z : Valve}

theorem Valve.st_of_apart (h : y.apart = x.apart) : y.st = x.st := by
  show y.apart.st = x.apart.st
  rw [h]

theorem Passed.refl (x : Valve) : Passed x x := .inl rfl

theorem Passed.trans (h : Passed x y) (k : Passed y z) : Passed x z := by
  rcases h with h | ⟨wait, boost⟩
  · exact k.imp (fun k => k.trans h) (fun ⟨wait, boost⟩ => ⟨(Valve.st_of_apart h).symm.trans wait, boost⟩)
  · rcases k with k | ⟨wait', -⟩
    · exact .inr ⟨wait, (Valve.st_of_apart k).trans boost⟩
    · rw [boost] at wait'
      cases wait'

/-- A valve that does not wait for the boost keeps its record. -/
theorem Passed.apart (h : Passed x y) (st : x.st ≠ .boostWait) : y.apart = x.apart := h.resolve_right (fun wait => st wait.1)

end

/-- An operation that no valve's trip is about: the settings and the time stay, and every valve passes. -/
structure Passes (s t : State) : Prop where
  steady : Steady s t
  valve : ∀ k, Passed (s.valve k) (t.valve k)

/-- An operation about valve v, which it leaves with a record; the others pass. -/
structure Turns (v : Nat) (x : Valve) (s t : State) : Prop where
  steady : Steady s t
  record : (t.valve v).apart = x.apart
  others : ∀ k, k ≠ v → Passed (s.valve k) (t.valve k)

section
variable {v : Nat} {x y : Valve} {s t u : State}

theorem Passes.refl (s : State) : Passes s s := ⟨.refl s, fun _ => .refl _⟩

theorem Passes.trans (h : Passes s t) (k : Passes t u) : Passes s u := ⟨h.steady.trans k.steady, fun i => (h.valve i).trans (k.valve i)⟩

theorem Turns.refl (v : Nat) (s : State) : Turns v (s.valve v) s s := ⟨.refl s, rfl, fun _ _ => .refl _⟩

theorem Turns.trans (h : Turns v x s t) (k : Turns v y t u) : Turns v y s u :=
  ⟨h.steady.trans k.steady, k.record, fun i ne => (h.others i ne).trans (k.others i ne)⟩

theorem Turns.pass (h : Turns v x s t) (k : Passes t u) (st : x.st ≠ .boostWait) : Turns v x s u :=
  ⟨h.steady.trans k.steady, ((k.valve v).apart (by rwa [Valve.st_of_apart h.record])).trans h.record,
    fun i ne => (h.others i ne).trans (k.valve i)⟩

@[simp] theorem State.valve_modValve_self (s : State) (lt : v < 16) (f : Valve → Valve) : (s.modValve v f).valve v = f (s.valve v) := by
  simp [State.valve_modValve, lt]

@[simp] theorem State.valve_modValve_ne (s : State) {k : Nat} (ne : k ≠ v) (f : Valve → Valve) : (s.modValve v f).valve k = s.valve k := by
  simp [State.valve_modValve, Ne.symm ne]

theorem State.modValve_steady (s : State) (v : Nat) (f : Valve → Valve) : Steady s (s.modValve v f) := ⟨rfl, rfl, rfl, rfl, rfl, rfl, rfl⟩

/-- A change of the valve's record that does not look at its fall or its command. -/
theorem Turns.modValve {f : Valve → Valve} (h : Turns v x s t) (lt : v < 16) (blind : ∀ c, (f c).apart = (f c.apart).apart)
    (eq : (f x).apart = y.apart) : Turns v y s (t.modValve v f) :=
  ⟨h.steady.trans (t.modValve_steady v f), by rw [State.valve_modValve_self t lt, blind, h.record, ← blind, eq],
    fun k ne => by rw [State.valve_modValve_ne t ne]; exact h.others k ne⟩

/-- A change of a fall or a command passes every valve. -/
theorem Passes.modValve {f : Valve → Valve} (h : Passes s t) (v : Nat) (same : ∀ c, (f c).apart = c.apart) : Passes s (t.modValve v f) := by
  refine ⟨h.steady.trans (t.modValve_steady v f), fun k => (h.valve k).trans (.inl ?_)⟩
  rw [State.valve_modValve]
  split
  next at' => rw [same, at'.1]
  next => rfl

/-- An operation that leaves the valves' records. -/
theorem Passes.of_vlv (steady : Steady s t) (same : t.vlv.v = s.vlv.v) : Passes s t :=
  ⟨steady, fun k => by simp only [State.valve, same]; exact .refl _⟩

theorem Reports.passes (h : Reports s t) : Passes s t := .of_vlv h.steady (congrArg Valves.v h.vlv)

theorem Passes.foldl {α : Type} {f : State → α → State} (step : ∀ t x, Passes t (f t x)) (l : List α) (s : State) : Passes s (l.foldl f s) := by
  induction l generalizing s with
  | nil => exact .refl s
  | cons x l ih => exact (step s x).trans (ih _)

end

/-! ### Falls, the bank boost and completions -/

section
variable (s : State)

theorem State.valveEvent_reports (v code kind : Nat) (ma : Int) (value : Nat) : Reports s (s.valveEvent v code kind ma value) :=
  s.emit_reports ..

theorem State.modBank_passes (b : Nat) (f : VBank → VBank) : Passes s (s.modBank b f) :=
  .of_vlv ⟨rfl, rfl, rfl, rfl, rfl, rfl, rfl⟩ rfl

theorem State.takeClamp_passes (v : Nat) : Passes s (s.takeClamp v) := .of_vlv ⟨rfl, rfl, rfl, rfl, rfl, rfl, rfl⟩ rfl

theorem State.setWait_passes (h w : Nat) : Passes s (s.setWait h w) := .of_vlv ⟨rfl, rfl, rfl, rfl, rfl, rfl, rfl⟩ rfl

theorem State.startFall_passes (v : Nat) (fast toZero : Bool) : Passes s (s.startFall v fast toZero) := by
  unfold State.startFall
  split
  · exact (Passes.refl s).modValve v (fun _ => rfl)
  · split
    · extract_lets t1 t2
      have late : Passes s t1 := (Passes.refl s).modValve v (fun _ => rfl)
      exact (late.trans (State.modBank_passes ..)).trans (State.valveEvent_reports ..).passes
    · extract_lets t1
      have fast : Passes s t1 := (Passes.refl s).modValve v (fun _ => rfl)
      split
      · exact fast.trans (State.takeClamp_passes ..)
      · exact fast

theorem State.resumeFalls_passes (b : Nat) : Passes s (s.resumeFalls b) := by
  refine Passes.foldl (fun t v => ?_) _ s
  split
  · extract_lets z t1
    have fast : Passes t t1 := (Passes.refl t).modValve v (fun _ => rfl)
    split
    · exact fast.trans (State.takeClamp_passes ..)
    · exact fast
  · exact .refl t

theorem State.delayFalls_passes (b : Nat) : Passes s (s.delayFalls b) := by
  refine Passes.foldl (fun t v => ?_) _ s
  split
  · extract_lets t1 t2
    have late : Passes t t1 := (Passes.refl t).modValve v (fun _ => rfl)
    exact (late.trans (State.modBank_passes ..)).trans (State.valveEvent_reports ..).passes
  · exact .refl t

/-- The waiting member of a bank takes the boost. -/
theorem State.valveGate_passes {v : Nat} (wait : (s.valve v).st = .boostWait) : Passes s (s.valveGate v .boost) := by
  unfold State.valveGate
  refine Passes.trans ⟨s.modValve_steady v _, fun k => ?_⟩ (State.delayFalls_passes ..)
  rw [State.valve_modValve]
  split
  next at' => exact .inr ⟨at'.1 ▸ wait, rfl⟩
  next => exact .refl _

theorem State.freeBoost_passes (b : Nat) : Passes s (s.freeBoost b) := by
  unfold State.freeBoost
  split
  · exact s.resumeFalls_passes b
  next v found =>
    have wait : (s.valve v).st = .boostWait := by simpa using List.find?_some (show (bankMembers b).find? _ = some v from found)
    extract_lets w t1 t2 t3
    have gated : Passes s t1 := (s.valveGate_passes wait).modValve v (fun _ => rfl)
    have boosting : Passes s t2 := gated.trans (t1.modBank_passes ..)
    have told : Passes s t3 := by
      unfold t3
      split
      · exact boosting.trans (State.setWait_passes ..)
      · exact boosting
    exact told.trans (State.valveEvent_reports ..).passes

theorem State.valveEnd_passes (v status fault : Nat) : Passes s (s.valveEnd v status fault) := by
  unfold State.valveEnd
  split
  · exact .refl s
  · exact (s.complete_reports ..).passes.modValve v (fun _ => rfl)

theorem State.actEnd_passes (v status fault : Nat) : Passes s (s.actEnd v status fault) := by
  unfold State.actEnd
  split
  · split
    · exact s.valveEnd_passes ..
    · exact .refl s
  · exact .refl s

end

/-! ### Trips (07 R196, R200, R211) -/

section
variable {s : State} {v : Nat}

/-- A valve that leaves the phases in which current is driven. -/
def Valve.dropped (x : Valve) (st : VSt) : Valve := { x with st := st, low := false, onSince := none }

theorem State.valveDrop_turns (lt : v < 16) {st : VSt} (other : st ≠ .boostWait) (fall : Option Bool) :
    Turns v ((s.valve v).dropped st) s (s.valveDrop v st fall) := by
  unfold State.valveDrop
  extract_lets x had held fromHold inr t1 t2 t3 t4
  have released : Passes s t2 := by
    unfold t2 t1
    split <;> exact .of_vlv ⟨rfl, rfl, rfl, rfl, rfl, rfl, rfl⟩ rfl
  have same : t2.valve v = s.valve v := by
    unfold t2 t1
    split <;> rfl
  have start : Turns v (s.valve v) s t2 := ⟨released.steady, by rw [same], fun k _ => released.valve k⟩
  have dropped : Turns v ((s.valve v).dropped st) s t3 := start.modValve lt (fun _ => rfl) rfl
  have freed : Turns v ((s.valve v).dropped st) s t4 := by
    unfold t4
    split
    · exact dropped.pass (State.freeBoost_passes ..) other
    · exact dropped
  cases fall with
  | none => exact freed
  | some f =>
    show Turns v _ s (if held = true then t4.startFall v f fromHold else t4)
    split
    · exact freed.pass (State.startFall_passes ..) other
    · exact freed

/-- A valve whose retry has held (07 R211). -/
def Valve.confirmed (x : Valve) : Valve := { x with retry := false, trans := satInc 255 x.trans }

theorem State.actRetried_passes (s : State) (v : Nat) : Passes s (s.actRetried v) := (Passes.refl s).modValve v (fun _ => rfl)

theorem State.valveConfirm_turns (lt : v < 16) (st : (s.valve v).st ≠ .boostWait) : Turns v (s.valve v).confirmed s (s.valveConfirm v) := by
  unfold State.valveConfirm
  extract_lets t
  have held : Turns v (s.valve v).confirmed s (s.modValve v Valve.confirmed) := (Turns.refl v s).modValve lt (fun _ => rfl) rfl
  have retried : Turns v (s.valve v).confirmed s t := held.pass (State.actRetried_passes ..) st
  have told := retried.pass (t.valveEvent_reports v (t.valve v).tripCode 1 (t.coil v) 0).passes st
  exact told.pass (State.actEnd_passes ..) st

/-- A valve's trip is lasting: with NORETRY, or in a retry run. -/
def Valve.lasts (x : Valve) : Bool := x.cfgBit Pf.valveCfg_NORETRY || x.retry

/-- The record of a valve with a trip's code, its stamp and its DELAY. -/
def Valve.noted (x : Valve) (now code delay : Nat) : Valve := { x.note code with tripAt := now, delay := delay, tripCode := code }

/-- A lasting trip counts and ends a retry run. -/
def Valve.lasted (x : Valve) : Valve := { x with lasting := satInc 255 x.lasting, retry := false }

/-- The record of a valve after a trip. -/
def Valve.tripped (x : Valve) (now code delay : Nat) : Valve :=
  if x.lasts then ((x.dropped .latched).noted now code delay).lasted else (x.dropped .retryWait).noted now code delay

theorem Valve.tripped_st (x : Valve) (now code delay : Nat) : (x.tripped now code delay).st ≠ .boostWait := by
  unfold Valve.tripped
  split <;> exact VSt.noConfusion

/-- The valve with its trip, before what is told of it. -/
def State.valveNoted (s : State) (v code : Nat) (st : VSt) : State :=
  let t := s.valveDrop v st (some true)
  t.modValve v (fun c => c.noted t.now code (t.pf Pf.valveCfg_DELAY v))

theorem State.valveNoted_turns (lt : v < 16) (code : Nat) {st : VSt} (other : st ≠ .boostWait) :
    Turns v (((s.valve v).dropped st).noted s.now code (s.pf Pf.valveCfg_DELAY v)) s (s.valveNoted v code st) := by
  unfold State.valveNoted
  extract_lets t
  have dropped : Turns v ((s.valve v).dropped st) s t := State.valveDrop_turns lt other (some true)
  exact dropped.modValve lt (fun _ => rfl) (by rw [dropped.steady.now, dropped.steady.pf])

theorem State.valveTripIn_of_first (first : (s.valve v).lasts = false) (code : Nat) (ma : Int) :
    s.valveTripIn v code ma = (s.valveNoted v code .retryWait).valveEvent v code 0 ma 0 := by
  unfold Valve.lasts at first
  simp only [State.valveTripIn, first, Bool.false_eq_true, if_false]
  rfl

theorem State.valveTripIn_of_lasts (lasts : (s.valve v).lasts = true) (code : Nat) (ma : Int) :
    s.valveTripIn v code ma =
      let t := (s.valveNoted v code .latched).modValve v Valve.lasted
      (t.valveEvent v code 2 ma 0).actEnd v St.failed (t.valve v).codes := by
  unfold Valve.lasts at lasts
  simp only [State.valveTripIn, lasts, if_true]
  rfl

theorem State.valveTripIn_turns (lt : v < 16) (code : Nat) (ma : Int) :
    Turns v ((s.valve v).tripped s.now code (s.pf Pf.valveCfg_DELAY v)) s (s.valveTripIn v code ma) := by
  unfold Valve.tripped
  cases lasts : (s.valve v).lasts
  · rw [State.valveTripIn_of_first lasts]
    exact (State.valveNoted_turns lt code VSt.noConfusion).pass (State.valveEvent_reports ..).passes VSt.noConfusion
  · rw [State.valveTripIn_of_lasts lasts]
    extract_lets w
    have counted : Turns v (((s.valve v).dropped .latched).noted s.now code (s.pf Pf.valveCfg_DELAY v)).lasted s w :=
      (State.valveNoted_turns lt code VSt.noConfusion).modValve lt (fun _ => rfl) rfl
    have told := counted.pass (w.valveEvent_reports v code 2 ma 0).passes VSt.noConfusion
    exact told.pass (State.actEnd_passes ..) VSt.noConfusion

/-- A retry that has held when the trip comes (07 R195). -/
def Valve.late (x : Valve) (now : Nat) : Bool := decide (x.st = .hold) && x.retry && decide (x.phaseAt + 2000000 ≤ now)

/-- The valve drives current. -/
def Valve.drives (x : Valve) : Prop := x.st = .boost ∨ x.st = .peak ∨ x.st = .hold

/-- The record of a driving valve after a trip. -/
def Valve.trippedLate (x : Valve) (now code delay : Nat) : Valve := (if x.late now then x.confirmed else x).tripped now code delay

theorem Valve.drives_st {x : Valve} (drives : x.drives) : x.st ≠ .boostWait := by
  rcases drives with h | h | h <;> rw [h] <;> exact VSt.noConfusion

theorem Valve.tripped_apart (x : Valve) (now code delay : Nat) : (x.tripped now code delay).apart = (x.apart.tripped now code delay).apart := by
  have lasts : x.apart.lasts = x.lasts := rfl
  unfold Valve.tripped
  rw [lasts]
  cases x.lasts <;> rfl

/-- A trip does not look at the fall or the command. -/
theorem Valve.tripped_congr {x y : Valve} (h : y.apart = x.apart) (now code delay : Nat) :
    (y.tripped now code delay).apart = (x.tripped now code delay).apart := by
  rw [Valve.tripped_apart, h, ← Valve.tripped_apart]

theorem Valve.trippedLate_congr {x y : Valve} (h : y.apart = x.apart) (now code delay : Nat) :
    (y.trippedLate now code delay).apart = (x.trippedLate now code delay).apart := by
  have late : y.late now = x.late now := show y.apart.late now = x.apart.late now by rw [h]
  have confirmed : y.confirmed.apart = x.confirmed.apart := show y.apart.confirmed.apart = x.apart.confirmed.apart by rw [h]
  unfold Valve.trippedLate
  rw [late]
  cases x.late now
  · exact Valve.tripped_congr h ..
  · exact Valve.tripped_congr confirmed ..

theorem State.valveTrip_of_drives (drives : (s.valve v).drives) (code : Nat) (ma : Int) :
    s.valveTrip v code ma = (if (s.valve v).late s.now then s.valveConfirm v else s).valveTripIn v code ma := by
  rcases drives with h | h | h <;> simp [State.valveTrip, h, Valve.late, State.expired]

theorem State.valveTrip_turns (lt : v < 16) (drives : (s.valve v).drives) (code : Nat) (ma : Int) :
    Turns v ((s.valve v).trippedLate s.now code (s.pf Pf.valveCfg_DELAY v)) s (s.valveTrip v code ma) := by
  rw [State.valveTrip_of_drives drives, Valve.trippedLate]
  cases late : (s.valve v).late s.now
  · exact State.valveTripIn_turns lt code ma
  · have held := State.valveConfirm_turns lt (Valve.drives_st drives)
    have tripped := held.trans (State.valveTripIn_turns lt code ma)
    rw [held.steady.now, held.steady.pf] at tripped
    exact ⟨tripped.steady, tripped.record.trans (Valve.tripped_congr held.record ..), tripped.others⟩

/-- A trip of a valve in RETRY_WAIT or LATCHED (07 R200). -/
theorem State.valveTrip_of_tripped (st : (s.valve v).st = .retryWait ∨ (s.valve v).st = .latched) (code : Nat) (ma : Int) :
    s.valveTrip v code ma = if (s.valve v).tripAt = s.now ∧ code < (s.valve v).tripCode then
      (s.modValve v (fun x => { x.note code with tripCode := code })).lowerCode 2 0x21 [v] (s.valve v).tripCode code else s := by
  rcases st with h | h <;> simp [State.valveTrip, h]

/-- A valve in another state is not touched (07 R196). -/
theorem State.valveTrip_of_still (still : ¬ (s.valve v).drives) (st : ¬ ((s.valve v).st = .retryWait ∨ (s.valve v).st = .latched)) (code : Nat)
    (ma : Int) : s.valveTrip v code ma = s := by
  unfold Valve.drives at still
  cases h : (s.valve v).st
  case off | grantWait | boostWait => simp [State.valveTrip, h]
  case boost | peak | hold => exact absurd (by simp [h]) still
  case retryWait | latched => exact absurd (by simp [h]) st

/-- A trip of one valve: the settings stay and the others pass. -/
theorem State.valveTrip_others (lt : v < 16) (code : Nat) (ma : Int) :
    Steady s (s.valveTrip v code ma) ∧ ∀ k, k ≠ v → Passed (s.valve k) ((s.valveTrip v code ma).valve k) := by
  by_cases drives : (s.valve v).drives
  · have turns := State.valveTrip_turns lt drives code ma
    exact ⟨turns.steady, turns.others⟩
  · by_cases st : (s.valve v).st = .retryWait ∨ (s.valve v).st = .latched
    · rw [State.valveTrip_of_tripped st]
      split
      · have noted : Turns v { (s.valve v).note code with tripCode := code } s
            (s.modValve v (fun x => { x.note code with tripCode := code })) := (Turns.refl v s).modValve lt (fun _ => rfl) rfl
        have told := State.lowerCode_reports (s.modValve v (fun x => { x.note code with tripCode := code })) 2 0x21 [v] (s.valve v).tripCode code
        exact ⟨noted.steady.trans told.passes.steady, fun k ne => (noted.others k ne).trans (told.passes.valve k)⟩
      · exact ⟨.refl s, fun k _ => .refl _⟩
    · rw [State.valveTrip_of_still drives st]
      exact ⟨.refl s, fun k _ => .refl _⟩

/-- The trips of a bank's members, but for valve v's own. -/
theorem State.valveTrips_others (code : Nat) (ma : Int) (l : List Nat) (lt : ∀ i ∈ l, i < 16) (out : v ∉ l) (s : State) :
    Steady s (l.foldl (fun s i => s.valveTrip i code ma) s) ∧
    Passed (s.valve v) ((l.foldl (fun s i => s.valveTrip i code ma) s).valve v) := by
  induction l generalizing s with
  | nil => exact ⟨.refl s, .refl _⟩
  | cons i l ih =>
    obtain ⟨ne, out'⟩ : v ≠ i ∧ v ∉ l := by simpa using out
    obtain ⟨steady, passed⟩ := State.valveTrip_others (s := s) (lt i List.mem_cons_self) code ma
    obtain ⟨steady', passed'⟩ := ih (fun k h => lt k (List.mem_cons_of_mem i h)) out' (s.valveTrip i code ma)
    exact ⟨steady.trans steady', (passed v ne).trans passed'⟩

/-- A bank's trip, of a list of members that names valve v once. -/
theorem State.valveTrips_of_mem {l : List Nat} (lt : ∀ i ∈ l, i < 16) (once : l.Nodup) (mem : v ∈ l) (drives : (s.valve v).drives) (code : Nat)
    (ma : Int) : ((l.foldl (fun s i => s.valveTrip i code ma) s).valve v).apart =
      ((s.valve v).trippedLate s.now code (s.pf Pf.valveCfg_DELAY v)).apart := by
  obtain ⟨a, b, rfl⟩ := List.append_of_mem mem
  obtain ⟨out, after⟩ : v ∉ a ∧ v ∉ b := by
    have := List.nodup_middle.mp once
    simpa using (List.nodup_cons.mp this).1
  simp only [List.foldl_append, List.foldl_cons]
  obtain ⟨steady, passed⟩ := State.valveTrips_others code ma a (fun i h => lt i (by simp [h])) out s
  generalize a.foldl (fun s i => s.valveTrip i code ma) s = t at steady passed
  have same := passed.apart (Valve.drives_st drives)
  have drives' : (t.valve v).drives := by rwa [Valve.drives, Valve.st_of_apart same]
  have turns := State.valveTrip_turns (lt v mem) drives' code ma
  rw [steady.now, steady.pf] at turns
  obtain ⟨-, passed'⟩ := State.valveTrips_others code ma b (fun i h => lt i (by simp [h])) after (t.valveTrip v code ma)
  have st : ((t.valveTrip v code ma).valve v).st ≠ .boostWait := by
    rw [Valve.st_of_apart turns.record, Valve.trippedLate]
    exact Valve.tripped_st _ _ _ _
  exact ((passed'.apart st).trans turns.record).trans (Valve.trippedLate_congr same ..)

end

/-! ### What O30 says of a trip -/

/-- The clauses of O30 on one trip of valve v, read from its record. -/
def ValveTripsAs (x : Valve) (now delay code : Nat) (y : Valve) : Prop :=
  let late := x.st = .hold ∧ x.retry = true ∧ x.phaseAt + 2000000 ≤ now
  (x.drives → x.cfgBit Pf.valveCfg_NORETRY = false → x.retry = false ∨ late →
    y.st = .retryWait ∧ y.low = false ∧ y.fault = code ∧ y.tripAt = now ∧ y.delay = delay ∧ y.lasting = x.lasting ∧ y.retry = false ∧
    y.trans = if late then satInc 255 x.trans else x.trans) ∧
  (x.drives → x.cfgBit Pf.valveCfg_NORETRY = true ∨ (x.retry = true ∧ ¬ late) →
    y.st = .latched ∧ y.low = false ∧ y.fault = code ∧ y.lasting = satInc 255 x.lasting ∧ y.retry = false) ∧
  (¬ x.drives → y.st = .boost ∨ y.st = x.st)

section
variable {x y : Valve} {now delay code : Nat}

theorem Valve.late_iff : x.late now = true ↔ x.st = .hold ∧ x.retry = true ∧ x.phaseAt + 2000000 ≤ now := by simp [Valve.late, and_assoc]

/-- The trip of a driving valve lasts with NORETRY, or in a retry that has not held. -/
theorem Valve.lasts_late (x : Valve) (now : Nat) :
    (if x.late now then x.confirmed else x).lasts = (x.cfgBit Pf.valveCfg_NORETRY || (x.retry && !x.late now)) := by
  cases late : x.late now
  · simp [Valve.lasts]
  · simp [Valve.lasts, Valve.confirmed, Valve.cfgBit]

theorem valveTripsAs_of_drives (drives : x.drives) (h : y.apart = (x.trippedLate now code delay).apart) : ValveTripsAs x now delay code y := by
  suffices ValveTripsAs x now delay code y.apart from this
  rw [h]
  have lasts := x.lasts_late now
  simp only [ValveTripsAs, ← Valve.late_iff, Valve.trippedLate, Valve.tripped]
  refine ⟨fun _ retry first => ?_, fun _ last => ?_, fun still => absurd drives still⟩
  · have no : (if x.late now then x.confirmed else x).lasts = false := by
      rw [lasts, retry]
      rcases first with calm | held
      · simp [calm]
      · simp [held]
    rw [no]
    refine ⟨rfl, rfl, rfl, rfl, rfl, ?_, ?_, ?_⟩
    all_goals cases late : x.late now
    case refine_2.false =>
      have calm : x.retry = false := by simpa [late] using first
      exact calm
    all_goals rfl
  · have yes : (if x.late now then x.confirmed else x).lasts = true := by
      rw [lasts]
      rcases last with no | ⟨run, early⟩
      · simp [no]
      · simp [run, early]
    rw [yes]
    refine ⟨rfl, rfl, rfl, ?_, rfl⟩
    cases x.late now <;> rfl

theorem valveTripsAs_of_still (still : ¬ x.drives) (h : y.st = .boost ∨ y.st = x.st) : ValveTripsAs x now delay code y :=
  ⟨fun drives => absurd drives still, fun drives => absurd drives still, fun _ => h⟩

theorem Passed.st (h : Passed x y) : y.st = .boost ∨ y.st = x.st := h.elim (fun same => .inr (Valve.st_of_apart same)) (fun took => .inl took.2)

end

section
variable {s : State} {v : Nat}

/-- The record of a tripped valve after another trip (07 R200). -/
theorem State.valve_valveTrip_of_tripped (lt : v < 16) (st : (s.valve v).st = .retryWait ∨ (s.valve v).st = .latched) (code : Nat) (ma : Int) :
    (s.valveTrip v code ma).valve v =
      if (s.valve v).tripAt = s.now ∧ code < (s.valve v).tripCode then { (s.valve v).note code with tripCode := code } else s.valve v := by
  rw [State.valveTrip_of_tripped st]
  split
  · have told := State.lowerCode_reports (s.modValve v (fun x => { x.note code with tripCode := code })) 2 0x21 [v] (s.valve v).tripCode code
    rw [State.valve, told.vlv]
    exact State.valve_modValve_self s lt _
  · rfl

/-- Of two trips in one tick the lower code stays. -/
theorem State.valveTrip_again (lt : v < 16) (code : Nat) (ma : Int)
    (st : (s.valve v).st = .retryWait ∨ (s.valve v).st = .latched) (tick : (s.valve v).tripAt = s.now) :
    ((s.valveTrip v code ma).valve v).st = (s.valve v).st ∧
    (code < (s.valve v).tripCode → ((s.valveTrip v code ma).valve v).fault = code) ∧
    ((s.valve v).tripCode ≤ code → ((s.valveTrip v code ma).valve v).fault = (s.valve v).fault) := by
  rw [State.valve_valveTrip_of_tripped lt st]
  by_cases lower : code < (s.valve v).tripCode
  · rw [if_pos ⟨tick, lower⟩]
    exact ⟨rfl, fun _ => rfl, fun high => absurd lower (Nat.not_lt.mpr high)⟩
  · rw [if_neg (fun h => lower h.2)]
    exact ⟨rfl, fun low => absurd low lower, fun _ => rfl⟩

/-- One trip of a valve. -/
theorem State.valveTrip_spec (lt : v < 16) (code : Nat) (ma : Int) :
    ValveTripsAs (s.valve v) s.now (s.pf Pf.valveCfg_DELAY v) code ((s.valveTrip v code ma).valve v) := by
  by_cases drives : (s.valve v).drives
  · exact valveTripsAs_of_drives drives (State.valveTrip_turns lt drives code ma).record
  · refine valveTripsAs_of_still drives (.inr ?_)
    by_cases st : (s.valve v).st = .retryWait ∨ (s.valve v).st = .latched
    · rw [State.valve_valveTrip_of_tripped lt st]
      split <;> rfl
    · rw [State.valveTrip_of_still drives st]

/-- The members of a valve's bank that drive current. -/
def State.driving (s : State) (b : Nat) : List Nat :=
  (bankMembers b).filter (fun i => (s.valve i).st = .boost || (s.valve i).st = .peak || (s.valve i).st = .hold)

theorem State.mem_driving (s : State) (b v : Nat) : v ∈ s.driving b ↔ v / 4 = b ∧ (s.valve v).drives := by
  have bank : v ∈ bankMembers b ↔ v / 4 = b := by
    simp only [bankMembers, List.mem_cons, List.not_mem_nil, or_false]
    omega
  simp [State.driving, bank, Valve.drives, or_assoc]

/-- A bank's trip reaches every member that drives current (07 R210). -/
theorem State.bankTrip_spec (lt : v < 16) (code : Nat) (ma : Int) :
    ValveTripsAs (s.valve v) s.now (s.pf Pf.valveCfg_DELAY v) code
      (((s.driving (v / 4)).foldl (fun s i => s.valveTrip i code ma) s).valve v) := by
  have small : ∀ i ∈ s.driving (v / 4), i < 16 := fun i h => by have := ((s.mem_driving _ i).mp h).1; omega
  have once : (s.driving (v / 4)).Nodup := List.Nodup.filter _ (by simp [bankMembers])
  by_cases drives : (s.valve v).drives
  · exact valveTripsAs_of_drives drives (State.valveTrips_of_mem small once ((s.mem_driving ..).mpr ⟨rfl, drives⟩) drives code ma)
  · exact valveTripsAs_of_still drives (State.valveTrips_others code ma _ small (fun h => drives ((s.mem_driving ..).mp h).2) s).2.st

end

section
variable {s : State} {g : Lapse}

theorem exec_bankTrip (k : Fin 16) (ma : Int) :
    exec (.valveTrip g k (.bank ma)) s = .next (((s.pass g).driving (k / 4)).foldl (fun s i => s.valveTrip i 4 ma) (s.pass g)) := rfl

theorem exec_openCoil {v : Fin 16} {k : Nat} {ma : Int} (on : ((s.pass g).valve v).onSince = some k) (time : k + 200000 ≤ (s.pass g).now)
    (low : ma < 100) : exec (.openCoil g v ma) s = .next ((s.pass g).valveTrip v 2 ma) := by
  show execOpenCoil g v ma s = _
  simp [execOpenCoil, on, time, low, State.expired]

end

/-- Settles O30, by the state that each trip finds. -/
theorem valveTrips : Obligations.ValveTrips := by
  intro s g v ma u x drives noRetry late trips again
  have once (code : Nat) (ma : Int) : trips code (u.valveTrip v code ma) := State.valveTrip_spec v.isLt code ma
  have twice (code : Nat) (ma : Int) : again code (u.valveTrip v code ma) := fun st tick => State.valveTrip_again v.isLt code ma st tick
  refine ⟨⟨_, rfl, once 1 ma, twice 1 ma⟩, ⟨_, rfl, once 3 ma, twice 3 ma⟩, fun k bank => does_of_run (exec_bankTrip k ma) ?_,
    fun k on time low => does_of_run (exec_openCoil on time low) ⟨once 2 ma, twice 2 ma⟩⟩
  rw [bank]
  exact State.bankTrip_spec v.isLt 4 ma

end Sys2Proof.Machine
end

section
/-!
PROOFS. What a load channel does as its times run (04 R100 to R121): one equation per command for the case that O22 names, and what the
operations make of the channel; then O22.
-/
namespace Sys2Proof.Machine

theorem Steady.symm {s t : State} (h : Steady s t) : Steady t s :=
  ⟨h.par.symm, h.clk.symm, h.pwr.symm, h.role.symm, h.comp.symm, h.held.symm, h.halted.symm⟩

/-! ### Changes of one channel's record -/

/-- Channel n takes a record, and every other stays as it was. -/
def Becomes (n : Nat) (x : Chan) (s t : State) : Prop := t.chan n = x ∧ ∀ k, k ≠ n → t.chan k = s.chan k

section
variable {n : Nat} {x : Chan} {s t u : State}

theorem Becomes.set (lt : n < 64) (s : State) (x : Chan) : Becomes n x s (s.setChan n x) :=
  ⟨s.chan_setChan_self lt x, fun _ ne => s.chan_setChan_ne ne x⟩

theorem Becomes.mod (lt : n < 64) (s : State) (f : Chan → Chan) : Becomes n (f (s.chan n)) s (s.modChan n f) := .set lt s _

theorem Becomes.same (h : Becomes n x s t) (k : ∀ i, u.chan i = t.chan i) : Becomes n x s u :=
  ⟨(k n).trans h.1, fun i ne => (k i).trans (h.2 i ne)⟩

theorem Becomes.report (h : Becomes n x s t) (k : Reports t u) : Becomes n x s u := h.same k.chan

/-- In the words of O22, where the channels are numbered below 64. -/
theorem Becomes.fin {n : Fin 64} (h : Becomes n x s t) : t.chan n = x ∧ ∀ k : Fin 64, k ≠ n → t.chan k = s.chan k :=
  ⟨h.1, fun k ne => h.2 k (fun eq => ne (Fin.ext eq))⟩

end

/-- A change of a channel that has just been written. -/
theorem State.modChan_setChan (s : State) {n : Nat} (lt : n < 64) (c : Chan) (f : Chan → Chan) :
    (s.setChan n c).modChan n f = s.setChan n (f c) := by
  rw [State.modChan_eq, State.chan_setChan_self s lt, State.setChan_setChan]

/-! ### Requests of a channel (06 R169, 05 R143) -/

section
variable {s : State} {n : Nat}

theorem State.addReq_mem (r : IsoReq) : r ∈ (s.addReq r).iso.pend := by simp [State.addReq]

theorem State.chan_requestFor (kind : ReqKind) (k : Nat) : (s.requestFor n kind).chan k = s.chan k := rfl

/-- A channel outside composites asks under its own number. -/
theorem State.requestFor_asks (free : s.parentOf n = none) (kind : ReqKind) :
    ∃ r ∈ (s.requestFor n kind).iso.pend, r.num = n ∧ r.kind = kind ∧ r.stamp = s.now := by
  simp only [State.requestFor, free]
  exact ⟨_, State.addReq_mem _, rfl, rfl, rfl⟩

/-! ### Gate-on (04 R104, R111) -/

/-- The record at gate-on, before the inrush settings. -/
def Chan.gateOn (c : Chan) (now : Nat) (sag : Bool) : Chan :=
  { c with gate := .drive c.drive, brake := false, dead := none, gateAt := now, inr := true, inrDue := false, frozen := 0,
           frozenAt := if sag then some now else none }

/-- The halves of a bridge take their inrush settings, each its own. -/
theorem State.armHalves_spec (lt : n < 64) :
    let t := (s.halves n).foldl State.armInrush s
    Steady s t ∧ t.chan n = { s.armed n (s.chan n) with limit := t.inrushLimit n 0 } := by
  have limit {t : State} (steady : Steady s t) (p : (t.chan n).inrP = s.inrushP (s.conf n)) (time : (t.chan n).inrT = s.inrushT (s.conf n)) :
      (s.modChan n (s.armed n)).inrushLimit n 0 = t.inrushLimit n 0 := by
    refine (State.inrushLimit_congr ((s.modChan_steady _).symm.trans steady) ?_ ?_ 0).symm
    · rw [p, State.chan_modChan_self s lt]; rfl
    · rw [time, State.chan_modChan_self s lt]; rfl
  have first := State.armInrush_about (s := s) (n := n)
  have record := State.chan_armInrush (s := s) lt
  unfold State.halves
  split
  · have second := State.armInrush_about (s := s.armInrush n) (n := n + 1)
    have kept : ((s.armInrush n).armInrush (n + 1)).chan n = (s.armInrush n).chan n := second.chan n (by omega) (by omega)
    have steady := first.steady.trans second.steady
    refine ⟨steady, ?_⟩
    show ((s.armInrush n).armInrush (n + 1)).chan n = { s.armed n (s.chan n) with limit := ((s.armInrush n).armInrush (n + 1)).inrushLimit n 0 }
    rw [← limit steady (by rw [kept, record]; rfl) (by rw [kept, record]; rfl), kept, record]
  · refine ⟨first.steady, ?_⟩
    show (s.armInrush n).chan n = { s.armed n (s.chan n) with limit := (s.armInrush n).inrushLimit n 0 }
    rw [← limit first.steady (by rw [record]; rfl) (by rw [record]; rfl), record]

theorem State.gateOn_spec (lt : n < 64) :
    let x := (s.chan n).gateOn s.now (s.dieRec (dieOf n)).sag
    (s.gateOn n).chan n = { s.armed n x with limit := (s.gateOn n).inrushLimit n 0 } := by
  intro x
  have steady := s.setChan_steady (n := n) x
  obtain ⟨-, record⟩ := State.armHalves_spec (s := s.setChan n x) lt
  have halves : s.gateOn n = (((s.setChan n x).halves n).foldl State.armInrush (s.setChan n x)) := rfl
  rw [halves, record, State.chan_setChan_self s lt]
  simp only [State.armed, steady.inrushP, steady.inrushT, steady.conf]

/-! ### The end of an inrush (04 R104, R111, R112) -/

/-- The record after the inrush of a channel in INRUSH, at the limit `ilim`. -/
def Chan.inrushEnded (c : Chan) (now ilim : Nat) : Chan :=
  { c with st := .on, inr := false, inrEnd := now, frozenAt := none, limit := ilim, stallOk := true, belowAt := none,
           tuP := 0, tuN := 0, tuSq := 0, tuOn := 0 }

/-- After the inrush time the limit is ilim, on a channel with a profile (04 R111). -/
theorem State.inrushLimit_of_ended (cls : chClass n ≠ 2) {t : Nat} (ended : (s.chan n).inrT ≤ t) : s.inrushLimit n t = s.ilimOf n := by
  simp [State.inrushLimit, cls, ended]

/-- The inrush timer does not run ahead of the time since gate-on. -/
theorem Chan.timer_le (c : Chan) (now : Nat) : c.timer now ≤ now - c.gateAt := by
  unfold Chan.timer
  omega

/-- Nothing follows the end of an inrush in a unit that no pulse generator drives. -/
theorem State.followOff_of_still (still : s.pmem (s.topOf n) = none) : s.followOff n = s := by
  simp [State.followOff, still]

theorem State.endInrush_spec (lt : n < 64) (m : Meas) (st : (s.chan n).st = .inrush) (gang : s.gang n = [n]) (plain : s.bridge n = false)
    (still : s.pmem (s.topOf n) = none) (cls : chClass n ≠ 2) (ended : (s.chan n).inrT ≤ (s.chan n).timer s.now) :
    Becomes n ((s.chan n).inrushEnded s.now (s.ilimOf n)) s (s.endInrush n m) ∧ .inrEnd n m.uj s.now ∈ (s.endInrush n m).iso.rels := by
  unfold State.endInrush
  extract_lets t1 t2 t3 t4 t5 t6
  have steady (c : Chan) : Steady s (t1.setChan n c) := ⟨rfl, rfl, rfl, rfl, rfl, rfl, rfl⟩
  have halves (c : Chan) : (t1.setChan n c).halves n = [n] := by rw [(steady c).halves, State.halves, plain]; rfl
  have eq3 : t3 = t1.setChan n
      { s.chan n with inr := false, inrEnd := s.now, frozenAt := none, tuP := 0, tuN := 0, tuSq := 0, tuOn := 0 } := by
    unfold t3 t2
    rw [State.modChan_eq t1, halves, List.foldl_cons, List.foldl_nil]
    exact State.modChan_setChan t1 lt ..
  have limit : t3.inrushLimit n (t3.now - (t3.chan n).gateAt) = s.ilimOf n := by
    rw [eq3, State.inrushLimit_of_ended cls, (steady _).ilimOf]
    rw [State.chan_setChan_self _ lt]
    exact ended.trans (Chan.timer_le ..)
  have eq4 : t4 = t1.setChan n { (s.chan n).inrushEnded s.now (s.ilimOf n) with st := .inrush } := by
    have : t3.halves n = [n] := by rw [eq3, halves]
    unfold t4
    rw [this, List.foldl_cons, List.foldl_nil, limit, eq3, State.modChan_setChan t1 lt, ← st]
    rfl
  have gang4 : t4.gang n = [n] := by rw [eq4, (steady _).gang, gang]
  have eq5 : t5 = t1.setChan n ((s.chan n).inrushEnded s.now (s.ilimOf n)) := by
    unfold t5
    rw [gang4, List.foldl_cons, List.foldl_nil, eq4, State.modChan_setChan t1 lt]
    rfl
  have record : t4.chan n = { (s.chan n).inrushEnded s.now (s.ilimOf n) with st := .inrush } := by rw [eq4, State.chan_setChan_self _ lt]
  have over4 : t4.inrushOver n = true := by
    rw [State.inrushOver_of_gang gang4, record]
    rfl
  have eq6 : t6 = t5.settle n := if_pos (by rw [record])
  have told : Reports (t1.setChan n ((s.chan n).inrushEnded s.now (s.ilimOf n))) t6 := by
    rw [eq6, eq5]
    exact State.settle_reports ..
  have same : t6.pmem (t6.topOf n) = none := by
    have gens (k : Nat) : t6.genOf k = s.genOf k := told.genOf k
    rw [((steady _).trans told.steady).topOf]
    simpa only [State.pmem, gens] using still
  rw [over4, ((steady _).trans told.steady).gang, gang, List.foldl_cons, List.foldl_nil, State.followOff_of_still same]
  refine ⟨((Becomes.set lt t1 _).report told : Becomes n _ t1 t6), ?_⟩
  show _ ∈ t6.iso.rels
  rw [told.iso]
  exact List.mem_append_right _ List.mem_cons_self

end

/-! ### Channels of a die (04 R121) -/

section

/-- A change of the channels of a list, each after a report. -/
theorem chan_foldl_mod {step : State → Nat → State} {f : Nat → Chan → Chan} (twice : ∀ now c, f now (f now c) = f now c)
    (each : ∀ t i, ∃ v, Reports t v ∧ step t i = v.modChan i (f t.now)) (l : List Nat) (s : State) :
    Steady s (l.foldl step s) ∧ (l.foldl step s).load.die = s.load.die ∧
    ∀ k, (l.foldl step s).chan k = if k ∈ l ∧ k < 64 then f s.now (s.chan k) else s.chan k := by
  induction l generalizing s with
  | nil => exact ⟨.refl s, rfl, fun k => by simp⟩
  | cons i l ih =>
    obtain ⟨v, told, eq⟩ := each s i
    have steady : Steady s (step s i) := eq ▸ told.steady.trans (v.modChan_steady _)
    have die : (step s i).load.die = s.load.die := eq ▸ told.die
    have chan (k : Nat) : (step s i).chan k = if i = k ∧ i < 64 then f s.now (s.chan i) else s.chan k := by
      rw [eq, State.chan_modChan, told.chan, told.chan]
    obtain ⟨steady', die', chan'⟩ := ih (step s i)
    refine ⟨steady.trans steady', die'.trans die, fun k => ?_⟩
    rw [List.foldl_cons, chan', chan, steady.now]
    by_cases at' : i = k
    · subst at'
      by_cases lt : i < 64 <;> simp [lt, twice]
    · simp [at', Ne.symm at']

theorem mem_chansOf {d k : Nat} : k ∈ chansOf d ↔ k < 64 ∧ dieOf k = d := by simp [chansOf]

end

section
variable {s : State} {g : Lapse} {n : Fin 64} {m : Meas} {k : Nat}

/-! ### The commands, in the cases of O22 -/

theorem exec_deadTimeEnd_gateOn (dead : ((s.pass g).chan n).dead = some (k, .gateOn)) (time : k + 200 ≤ (s.pass g).now) :
    exec (.deadTimeEnd g n) s = .next ((s.pass g).gateOn n) := by
  show execDeadTimeEnd g n s = _
  simp [execDeadTimeEnd, dead, time, State.expired]

theorem exec_deadTimeEnd_brakeOn (dead : ((s.pass g).chan n).dead = some (k, .brakeOn)) (time : k + 200 ≤ (s.pass g).now) :
    exec (.deadTimeEnd g n) s = .next (((s.pass g).modChan n (fun c => { c with dead := none, gate := .brake })).settle n) := by
  show execDeadTimeEnd g n s = _
  simp [execDeadTimeEnd, dead, time, State.expired]

theorem exec_deadTimeEnd_set {x : Gate} (dead : ((s.pass g).chan n).dead = some (k, .set x)) (time : k + 200 ≤ (s.pass g).now) :
    exec (.deadTimeEnd g n) s = .next ((s.pass g).modChan n (fun c => { c with dead := none, gate := x })) := by
  show execDeadTimeEnd g n s = _
  simp [execDeadTimeEnd, dead, time, State.expired]

theorem exec_deadTimeEnd_request (dead : ((s.pass g).chan n).dead = some (k, .request)) (time : k + 200 ≤ (s.pass g).now)
    (st : ((s.pass g).chan n).st = .grantWait) (fed : ((s.pass g).chan n).lostAt = none) :
    exec (.deadTimeEnd g n) s = .next (((s.pass g).modChan n (fun c => { c with dead := none })).requestFor n .turnOn) := by
  show execDeadTimeEnd g n s = _
  simp [execDeadTimeEnd, dead, time, State.expired, st, fed]

theorem exec_inrushEnd (inr : ((s.pass g).chan n).inr = true) (up : (s.pass g).seqUp n = true) (cls : chClass n ≠ 2)
    (ended : ((s.pass g).chan n).inrT ≤ ((s.pass g).chan n).timer (s.pass g).now) :
    exec (.inrushEnd g n m) s = .next ((s.pass g).endInrush n m) := by
  show execInrushEnd g n m s = _
  simp [execInrushEnd, inr, up, cls, ended]

theorem exec_limitUpdate_down {ma : Int} (on : ((s.pass g).chan ((s.pass g).owner n)).energised = true) (down : (s.pass g).seqUp n = false) :
    exec (.limitUpdate g n ma) s = .next ((s.pass g).setChan n { (s.pass g).chan n with limit := nominalMa n }) := by
  show execLimitUpdate g n ma s = _
  simp [execLimitUpdate, on, down]

/-- Outside the inrush, and past T on the odd half of a bridge, the limit is ilim or that of the stall allowance. -/
theorem exec_limitUpdate_up {ma : Int} (on : ((s.pass g).chan ((s.pass g).owner n)).energised = true) (up : (s.pass g).seqUp n = true)
    (calm : ((s.pass g).chan ((s.pass g).owner n)).inr = false)
    (past : (s.pass g).bridgeOdd n = false ∨ ((s.pass g).chan n).inrT ≤ ((s.pass g).chan ((s.pass g).owner n)).timer (s.pass g).now) :
    exec (.limitUpdate g n ma) s =
      let u := s.pass g
      let pulsing := u.pulsing (u.topOf (u.owner n))
      if u.stalls n then .next (u.setChan n (((u.chan n).allow n (u.ilimOf n) u.now ma).look u.now ma pulsing))
      else .next (u.setChan n (({ u.chan n with limit := u.ilimOf n } : Chan).look u.now ma pulsing)) := by
  show execLimitUpdate g n ma s = _
  rcases past with plain | past
  · simp [execLimitUpdate, on, up, calm, plain]
  · simp [execLimitUpdate, on, up, calm, Nat.not_lt.mpr past]

theorem exec_reversalBrakeEnd (rev : ((s.pass g).chan n).revAt = some k) (time : k + 400000 ≤ (s.pass g).now)
    (st : ((s.pass g).chan n).st = .grantWait) (fed : ((s.pass g).chan n).lostAt = none) :
    exec (.reversalBrakeEnd g n) s = .next (((s.pass g).setChan n { (s.pass g).chan n with revAt := none }).requestFor n .turnOn) := by
  show execReversalBrakeEnd g n s = _
  simp [execReversalBrakeEnd, rev, time, State.expired, st, fed]

theorem exec_stallAllowanceEnd (at' : ((s.pass g).chan n).stallAt = some k) (low : 10 * m.ma < 9 * ((s.pass g).ilimOf n : Int) ∨
      (k + ((s.pass g).chan n).inrT ≤ (s.pass g).now ∧ m.ma < ((s.pass g).ilimOf n : Int))) :
    exec (.stallAllowanceEnd g n m) s = .next ((s.pass g).setChan n { (s.pass g).chan n with
      stallAt := none, stallOk := false, belowAt := some (s.pass g).now, limit := (s.pass g).ilimOf n, regAt := none, regSum := 0, regSeen := false }) := by
  show execStallAllowanceEnd g n m s = _
  simp [execStallAllowanceEnd, at', State.expired, low]

theorem exec_retryConditionsMet {sens : List RetrySense} (lead : (s.pass g).lead n = n) (st : ((s.pass g).chan n).st = .retryWait)
    (fresh : ((s.pass g).chan n).retryReq = false) (up : (s.pass g).seqUp n = true) (ready : (s.pass g).retryReady n sens = true) :
    exec (.retryConditionsMet g n sens) s = .next (((s.pass g).modChan n (fun c => { c with retryReq := true })).requestFor n .retry) := by
  show execRetryConditionsMet g n sens s = _
  simp [execRetryConditionsMet, lead, st, fresh, up, ready]

theorem exec_confirmationWindowEnd (gang : (s.pass g).gang n = [n.val]) (st : ((s.pass g).chan n).st = .retryOn)
    (calm : ((s.pass g).chan n).inr = false) (time : (s.pass g).confirmEnd n ≤ (s.pass g).now) (up : (s.pass g).seqUp n = true) :
    exec (.confirmationWindowEnd g n) s = .next ((s.pass g).confirm n) := by
  show execConfirmationWindowEnd g n s = _
  simp [execConfirmationWindowEnd, State.lead_of_gang gang, State.inrushOver_of_gang gang, st, calm, time, up]

theorem exec_offComplete (off : ((s.pass g).chan n).offAt = some k) (low : 10 * m.ma < (nominalMa n : Int) ∨ k + 1000000 ≤ (s.pass g).now) :
    exec (.offComplete g n m) s = .next (((s.pass g).setChan n { (s.pass g).chan n with offAt := none }).settle n) := by
  show execOffComplete g n m s = _
  simp [execOffComplete, off, State.expired, low]

/-- A record while its die is in sag. -/
def Chan.froze (now : Nat) (c : Chan) : Chan := if c.inr then { c with frozenAt := some now } else c

/-- A record when the sag of its die has ended. -/
def Chan.thawed (now : Nat) (c : Chan) : Chan :=
  match c.frozenAt with
  | some f => { c with frozen := c.frozen + (now - f), frozenAt := none }
  | none => c

theorem exec_sagStart {d : Fin 4} (calm : ((s.pass g).dieRec d).sag = false) :
    exec (.sagStart g d) s = .next ((chansOf d).foldl (fun s n => (s.dieEvent n 1).modChan n (Chan.froze s.now))
      ((s.pass g).setDie d { (s.pass g).dieRec d with sag := true })) := by
  show execSagStart g d s = _
  simp only [execSagStart, calm, Bool.false_eq_true, if_false]
  rfl

theorem exec_sagEnd {d : Fin 4} (sag : ((s.pass g).dieRec d).sag = true) :
    exec (.sagEnd g d) s = .next ((chansOf d).foldl (fun s n => s.modChan n (Chan.thawed s.now))
      ((s.pass g).setDie d { (s.pass g).dieRec d with sag := false })) := by
  show execSagEnd g d s = _
  simp only [execSagEnd, sag, Bool.not_true, Bool.false_eq_true, if_false]
  refine congrArg _ (congrArg (fun f => List.foldl f _ _) (funext fun t => funext fun i => congrArg (t.modChan i) (funext fun c => ?_)))
  unfold Chan.thawed
  cases c.frozenAt <;> rfl

end

theorem Chan.froze_twice (now : Nat) (c : Chan) : (c.froze now).froze now = c.froze now := by
  unfold Chan.froze
  split
  · rfl
  · rfl

theorem Chan.thawed_twice (now : Nat) (c : Chan) : (c.thawed now).thawed now = c.thawed now := by
  cases at' : c.frozenAt <;> simp [Chan.thawed, at']

/-- Settles O22, a clause for each of the times. -/
theorem channelTimes : Obligations.ChannelTimes := by
  intro s g n m u c own becomes asks
  have lt := n.isLt
  have alone : u.gang n = [n.val] → u.lead n = n.val := State.lead_of_gang
  and_intros
  · intro k dead time
    refine does_of_run (exec_deadTimeEnd_gateOn dead time) ?_
    rw [State.gateOn_spec lt]
    exact ⟨rfl, rfl, rfl, rfl, rfl, rfl, rfl, rfl, rfl⟩
  · intro k dead time
    exact does_of_run (exec_deadTimeEnd_brakeOn dead time) ((Becomes.mod lt u _).report (State.settle_reports ..)).fin
  · intro k x dead time
    exact does_of_run (exec_deadTimeEnd_set dead time) (Becomes.mod lt u _).fin
  · intro k dead time st fed free
    exact does_of_run (exec_deadTimeEnd_request dead time st fed)
      ⟨((Becomes.mod lt u _).same (State.chan_requestFor _)).fin,
        State.requestFor_asks (((u.modChan_steady _).parentOf n).trans free) .turnOn⟩
  · intro inr up cls ended st gang plain still
    obtain ⟨record, told⟩ := State.endInrush_spec lt m st gang plain still cls ended
    exact does_of_run (exec_inrushEnd inr up cls ended) ⟨record.fin, told⟩
  · exact fun ma on down => does_of_run (exec_limitUpdate_down on down) rfl
  · intro ma on up calm past steady
    refine does_of_run ((exec_limitUpdate_up on up calm past).trans (if_neg (by rw [steady]; exact Bool.noConfusion))) ?_
    rfl
  · intro ma on up calm past motor
    exact does_of_run ((exec_limitUpdate_up on up calm past).trans (if_pos motor)) rfl
  · intro k rev time st fed free own
    exact does_of_run (exec_reversalBrakeEnd rev time st fed)
      ⟨(Becomes.set lt u _).fin, State.requestFor_asks (((u.setChan_steady _).parentOf n).trans free) .turnOn⟩
  · exact fun k at' low => does_of_run (exec_stallAllowanceEnd at' low) rfl
  · intro sens gang free st fresh up ready
    exact does_of_run (exec_retryConditionsMet (alone gang) st fresh up ready)
      ⟨((Becomes.mod lt u _).same (State.chan_requestFor _)).fin,
        State.requestFor_asks (((u.modChan_steady _).parentOf n).trans free) .retry⟩
  · intro gang st calm time up
    exact does_of_run (exec_confirmationWindowEnd gang st calm time up) ((Becomes.set lt u _).report (State.confirm_reports lt gang)).fin
  · exact fun k off low => does_of_run (exec_offComplete off low) ((Becomes.set lt u _).report (State.settle_reports ..)).fin
  · intro d calm
    obtain ⟨-, die, chan⟩ := chan_foldl_mod (step := fun s n => (s.dieEvent n 1).modChan n (Chan.froze s.now)) Chan.froze_twice
      (fun t i => ⟨_, t.dieEvent_reports i 1, rfl⟩) (chansOf d) (u.setDie d { u.dieRec d with sag := true })
    refine does_of_run (exec_sagStart calm) ⟨?_, fun k => ?_⟩
    · rw [State.dieRec, die, ← State.dieRec, State.dieRec_setDie, if_pos ⟨rfl, d.isLt⟩]
    · by_cases here : dieOf k = d
      · refine ((chan k).trans (if_pos ⟨mem_chansOf.mpr ⟨k.isLt, here⟩, k.isLt⟩)).trans ?_
        simp only [here, true_and]
        rfl
      · exact ((chan k).trans (if_neg (fun h => here (mem_chansOf.mp h.1).2))).trans (if_neg (fun h => here h.1)).symm
  · intro d sag here
    obtain ⟨-, die, chan⟩ := chan_foldl_mod (step := fun s n => s.modChan n (Chan.thawed s.now)) Chan.thawed_twice
      (fun t i => ⟨t, .refl t, rfl⟩) (chansOf d) (u.setDie d { u.dieRec d with sag := false })
    have thawed := (chan n).trans (if_pos ⟨mem_chansOf.mpr ⟨lt, here⟩, lt⟩)
    refine does_of_run (exec_sagEnd sag) ⟨?_, fun f frozen => thawed.trans ?_, fun frozen => thawed.trans ?_⟩
    · rw [State.dieRec, die, ← State.dieRec, State.dieRec_setDie, if_pos ⟨rfl, d.isLt⟩]
    · show c.thawed u.now = _
      simp [Chan.thawed, frozen]
    · show c.thawed u.now = _
      simp [Chan.thawed, frozen]

end Sys2Proof.Machine
end

section
/-!
PROOFS. The commands of a load channel (04 R104, R106 to R109): the state that a command's rows of R104 work on, what each row makes of the
channel, of its command and of its request; then O21.
-/
namespace Sys2Proof.Machine

/-! ### A CHAN_CMD that is taken (04 R107) -/

/-- The state in which a command's rows of R104 are taken: its handle is given out and it is recorded as the PENDING command of unit n. -/
structure Recorded (n cmd : Nat) (u v : State) : Prop where
  steady : Steady u v
  iso : v.iso = u.iso
  load : ∃ h dl, v.load = { u.load with cmds := kvPut n ⟨h, cmd, dl, false, false, false⟩ u.load.cmds }

section
variable {n cmd k : Nat} {u v : State} (h : Recorded n cmd u v)
include h

theorem Recorded.ch : v.load.ch = u.load.ch := by obtain ⟨a, dl, load⟩ := h.load; rw [load]
theorem Recorded.gen : v.load.gen = u.load.gen := by obtain ⟨a, dl, load⟩ := h.load; rw [load]
theorem Recorded.chan (k : Nat) : v.chan k = u.chan k := by simp only [State.chan, h.ch]
theorem Recorded.genOf (k : Nat) : v.genOf k = u.genOf k := by simp only [State.genOf, h.gen]
theorem Recorded.cmds : ∃ h dl, v.load.cmds = kvPut n ⟨h, cmd, dl, false, false, false⟩ u.load.cmds := by
  obtain ⟨a, dl, load⟩ := h.load
  exact ⟨a, dl, by rw [load]⟩

theorem Recorded.about (k : Nat) : About k u v := ⟨h.steady, fun i _ _ => h.chan i⟩

end

/-- A removal undoes an insertion of a new key. -/
theorem kvDel_kvPut_self {α : Type} {k : Nat} {l : List (Nat × α)} (fresh : kvGet k l = none) (x : α) : kvDel k (kvPut k x l) = l := by
  induction l with
  | nil => simp [kvPut, kvDel]
  | cons y l ih =>
    obtain ⟨j, y⟩ := y
    have ne : k ≠ j := fun eq => by simp [kvGet, eq] at fresh
    have rest : kvGet k l = none := by simpa [kvGet, ne] using fresh
    unfold kvPut
    split
    · simp [kvDel]
    · simp [kvDel, ne, ih rest]

section
variable {u : State} {q : Rq} {c : UnitCmd} {cmd : Nat}

/-- Served and accepted, the command is carried out by its rows and told to a standby. -/
theorem State.chanCmd_takes (h : TakesUnit u q c cmd) (act : State → State) :
    ∃ v, Recorded c.unit cmd u v ∧ (u.chanCmd q c cmd act).load = (act v).load ∧ (u.chanCmd q c cmd act).iso = (act v).iso := by
  obtain ⟨takes, room, check, fresh⟩ := h
  obtain ⟨w, accepted, -⟩ := State.accept_some (u.touch q.ses) (u.direct q 0x20 0 (unitCmdPayload c cmd)) (c.unit + 256 * cmd)
    room
  obtain ⟨only⟩ := State.accept_only (l := [.atlas, .evs, .ctl]) (r := u.direct q 0x20 0 (unitCmdPayload c cmd)) (unit := c.unit + 256 * cmd)
    (Only.refl _ (u.touch q.ses)) (by decide)
  rw [accepted] at only
  have told : Reports u w := (Reports.of_only (State.touch_only (.refl ..) (by decide))).trans (.of_only only)
  have load : w.load = u.load := only.same .load (by decide)
  have none' : w.cmdOf c.unit = none := by rw [State.cmdOf, load]; exact fresh
  have ended : w.endCmd c.unit St.superseded = w := by simp [State.endCmd, none']
  let number := (u.touch q.ses).newHandle (u.direct q 0x20 0 (unitCmdPayload c cmd))
  let dl := if c.deadline = 0 then none else some (u.now + msTk c.deadline)
  let v := w.setCmd c.unit ⟨number, cmd, dl, false, false, false⟩
  have eq : u.chanCmd q c cmd act = (act v).forward c.unit cmd u.now (unitCmdPayload c cmd) := by
    have check' : (u.touch q.ses).chanCheck (u.direct q 0x20 0 (unitCmdPayload c cmd)) c cmd = none := check
    unfold State.chanCmd
    rw [State.serve_takes _ takes]
    simp only [check', accepted, ended]
    rfl
  have sent : Only [.ctl] (act v) (u.chanCmd q c cmd act) := by
    rw [eq]
    exact State.forward_only (.refl ..) (by decide)
  have recorded : v.load = { u.load with cmds := kvPut c.unit ⟨number, cmd, dl, false, false, false⟩ u.load.cmds } := by
    show { w.load with cmds := kvPut c.unit ⟨number, cmd, dl, false, false, false⟩ w.load.cmds } = _
    rw [load]
  exact ⟨v, ⟨told.steady.trans (w.setCmd_reports ..).steady, told.iso, number, dl, recorded⟩, sent.same .load (by decide),
    sent.same .iso (by decide)⟩

/-- A unit that a command is taken for stands alone (04 R107). -/
theorem alone_of_takes {n : Fin 64} (unit : c.unit = n) (h : TakesUnit u q c cmd) : Alone u n := by
  obtain ⟨-, -, check, -⟩ := h
  unfold State.chanCheck at check
  split at check
  · cases check
  · split at check
    · cases check
    next ok =>
      simp only [unit, n.isLt, decide_true, Bool.true_and, Bool.or_eq_true, Bool.and_eq_true, not_or, Bool.not_eq_true,
        Option.isSome_eq_false_iff, Option.isNone_iff_eq_none] at ok
      obtain ⟨⟨⟨⟨⟨odd, free⟩, -⟩, -⟩, -⟩, -⟩ := ok
      exact ⟨n.isLt, State.owner_of_even odd, free⟩

end

/-- The command of a channel that a command is taken for, with what follows from the rows that it is carried out by. -/
theorem does_of_takesUnit {i : Instr} {s : State} {g : Lapse} {q : Rq} {c : UnitCmd} {cmd : Nat} {n : Fin 64} {act : State → State} {P : State → Prop}
    (run : exec i s = .next ((s.pass g).chanCmd q c cmd act)) (unit : c.unit = n) (takes : TakesUnit (s.pass g) q c cmd)
    (post : ∀ v w t, Alone v n → Recorded n cmd (s.pass g) v → act v = w → t.load = w.load → t.iso = w.iso → P t) :
    Does i s P := by
  obtain ⟨v, recorded, load, iso⟩ := State.chanCmd_takes takes act
  have alone := alone_of_takes unit takes
  rw [unit] at recorded
  exact ⟨_, run, post v _ _ (alone.steady recorded.steady) recorded rfl load iso⟩

/-! ### Turn-on of a channel that is OFF (04 R104, 06 R169) -/

/-- A channel that is OFF and that nothing keeps from a grant: its feed is in range, INTLK permits it, and no request of its own is left. -/
structure Idle (s : State) (n : Nat) : Prop where
  off : (s.chan n).st = .off
  feed : s.feedOk n = true
  permitted : s.dualFed n = false ∨ s.il.role = 2
  fresh : ∀ r ∈ s.iso.pend, r.num = n → r.kind ≠ .turnOn

/-- The record of a channel whose turn-on waits for its grant. -/
def Chan.asked (c : Chan) (d : Drive) : Chan := { c with st := .grantWait, drive := d, offAt := none, lostAt := none, offBy := 0 }

section
variable {s : State} {n : Nat} (alone : Alone s n) (idle : Idle s n)
include alone idle

theorem State.leafOn_idle (d : Drive) :
    s.leafOn n d = ((s.endTest n).setChan n ((s.chan n).untested.asked d), true) := by
  have ended := State.endTest_makes (s := s) alone.lt
  have off : (s.chan n).untested.st = .off := idle.off
  have free : ((s.endTest n).dualFed n && (s.endTest n).intlkBlocks) = false := by
    rw [ended.steady.dualFed, ended.steady.intlkBlocks]
    rcases idle.permitted with no | act
    · simp [no]
    · simp [State.intlkBlocks, act]
  have fed : (s.endTest n).lostMark n = none := by
    simp [State.lostMark, (alone.steady ended.steady).gang, ended.steady.feedOk, idle.feed]
  simp only [State.leafOn, off, free, fed, Bool.false_eq_true, if_false, ended.record]
  rfl

theorem State.unitOn_idle (drive : Nat → Drive) :
    s.unitOn n drive = ((s.endTest n).setChan n ((s.chan n).untested.asked (drive n))).askUnit n [n] := by
  simp [State.unitOn, State.leavesOf_channel alone.lt, State.leafOn_idle alone idle]

/-- What a turn-on does to an idle channel: it waits for its grant, with a request for its own switches. -/
theorem State.unitOn_spec (drive : Nat → Drive) :
    Makes n ((s.chan n).untested.asked (drive n)) s (s.unitOn n drive) ∧ (s.unitOn n drive).load.cmds = s.load.cmds ∧
    (s.unitOn n drive).load.gen = s.load.gen ∧
    ∃ r ∈ (s.unitOn n drive).iso.pend, r.num = n ∧ r.kind = .turnOn ∧ r.stamp = s.now ∧ r.shares.map (·.ch) = [n] := by
  obtain ⟨iso, cmds, gen⟩ := State.endTest_rest (s := s) (n := n)
  have asked : Makes n ((s.chan n).untested.asked (drive n)) s ((s.endTest n).setChan n ((s.chan n).untested.asked (drive n))) :=
    (State.endTest_makes alone.lt).setChan alone.lt _
  rw [State.unitOn_idle alone idle]
  generalize eq : (s.endTest n).setChan n ((s.chan n).untested.asked (drive n)) = t at asked
  have pend : t.iso.pend = s.iso.pend := by rw [← eq, ← iso]; rfl
  have cmds' : t.load.cmds = s.load.cmds := by rw [← eq, ← cmds]; rfl
  have gen' : t.load.gen = s.load.gen := by rw [← eq, ← gen]; rfl
  have none' : t.iso.pend.find? (fun r => r.num = n && r.kind = .turnOn) = none := by
    rw [pend, List.find?_eq_none]
    intro r mem own
    obtain ⟨num, kind⟩ : r.num = n ∧ r.kind = .turnOn := by simpa using own
    exact idle.fresh r mem num kind
  have ask : t.askUnit n [n] = t.addReq (t.makeReq n .turnOn [n] (t.classPrio n).1 (t.classPrio n).2) := by simp [State.askUnit, none']
  rw [ask]
  refine ⟨asked.keep ⟨⟨rfl, rfl, rfl, rfl, rfl, rfl, rfl⟩, fun _ _ _ => rfl⟩ rfl, cmds', gen', _, State.addReq_mem _, rfl, rfl, asked.steady.now, rfl⟩

end

section
variable {s : State} {n : Nat} {x : UCmd}

/-- A turn-on that waits for its grant stays PENDING (04 R108). -/
theorem State.settle_waiting (alone : Alone s n) (cmd : s.cmdOf n = some x) (on : isTurnOn x.cmd = true) (st : (s.chan n).st = .grantWait) :
    s.settle n = s := by
  simp [State.settle, alone.topOf, cmd, on, State.unitState, alone.lt, alone.own, st]

theorem State.afterOn_waiting (alone : Alone s n) (cmd : s.cmdOf n = some x) (on : isTurnOn x.cmd = true) (st : (s.chan n).st = .grantWait) :
    s.afterOn n = s := by
  simp [State.afterOn, State.leavesOf_channel alone.lt, st, State.settle_waiting alone cmd on st]

/-- A command that completes is forgotten. -/
theorem State.endCmd_cmds (cmd : s.cmdOf n = some x) (st : Nat) : (s.endCmd n st).load.cmds = kvDel n s.load.cmds := by
  have load (h pl) : (s.complete h st pl).load = s.load := (State.complete_only (l := [.atlas, .evs, .ctl]) (.refl ..) (by decide)).same .load (by decide)
  simp [State.endCmd, cmd, State.dropCmd, load]

end

/-! ### The rows of R104, as O21 has them -/

/-- No channel but n and the odd half of its bridge changes. -/
def Others (u : State) (n : Fin 64) (t : State) : Prop := ∀ k : Fin 64, k ≠ n → (u.bridge n = true → k.val ≠ n.val + 1) → t.chan k = u.chan k

/-- A turn-on has its request (04 R104, R106). -/
def Starts (u : State) (n : Fin 64) (k : Nat) (d : Drive) (t : State) : Prop :=
  (t.chan n).st = .grantWait ∧ (t.chan n).drive = d ∧ Others u n t ∧ (∃ h dl, t.cmdOf n = some ⟨h, k, dl, false, false, false⟩) ∧
  ∃ r ∈ t.iso.pend, r.num = n ∧ r.kind = .turnOn ∧ r.stamp = u.now ∧ r.shares.map (·.ch) = [n.val]

section
variable {s t u v w : State} {g : Lapse} {q : Rq} {c : UnitCmd} {n : Fin 64} {cmd : Nat}

theorem About.others (h : About n u t) : Others u n t := fun k ne half => h.chan k (fun eq => ne (Fin.ext eq)) half

/-- Channels are read from the load record. -/
theorem State.chan_of_load (load : t.load = u.load) (k : Nat) : t.chan k = u.chan k := by simp only [State.chan, load]

theorem State.cmdOf_of_load (load : t.load = u.load) (k : Nat) : t.cmdOf k = u.cmdOf k := by simp only [State.cmdOf, load]

theorem Others.load (h : Others u n w) (load : t.load = w.load) : Others u n t := fun k ne half => (State.chan_of_load load k).trans (h k ne half)

/-- The channels are those before the command when its rows are taken. -/
theorem Recorded.others (h : Recorded n cmd u v) (about : About n v w) : Others u n w := ((h.about n).trans about).others

theorem Recorded.idle (h : Recorded n cmd u v) (idle : Idle u n) : Idle v n :=
  ⟨by rw [h.chan]; exact idle.off, by rw [h.steady.feedOk]; exact idle.feed, by rw [h.steady.dualFed, h.steady.role]; exact idle.permitted,
    by rw [h.iso]; exact idle.fresh⟩

theorem Recorded.cmdOf (h : Recorded n cmd u v) : ∃ a dl, v.cmdOf n = some ⟨a, cmd, dl, false, false, false⟩ := by
  obtain ⟨a, dl, cmds⟩ := h.cmds
  exact ⟨a, dl, by rw [State.cmdOf, cmds, kvGet_kvPut_self]⟩

/-- A command that completes leaves the commands as they were before it. -/
theorem Recorded.forget (h : Recorded n cmd u v) (fresh : u.cmdOf n = none) : kvDel n v.load.cmds = u.load.cmds := by
  obtain ⟨a, dl, cmds⟩ := h.cmds
  rw [cmds, kvDel_kvPut_self fresh]

theorem does_turnOn {i : Instr} (run : exec i s = .next ((s.pass g).turnOn q c cmd)) (unit : c.unit = n) (takes : TakesUnit (s.pass g) q c cmd)
    (idle : Idle (s.pass g) n) (on : isTurnOn cmd = true) : Does i s (Starts (s.pass g) n cmd (driveOf cmd)) := by
  refine does_of_takesUnit run unit takes (fun v w t there recorded act load iso => ?_)
  obtain ⟨made, cmds, -, r, asked⟩ := State.unitOn_spec there (recorded.idle idle) (fun _ => driveOf cmd)
  obtain ⟨a, dl, cmd'⟩ := recorded.cmdOf
  rw [unit, State.lastCmd_channel n.isLt] at act
  have own : (v.unitOn n (fun _ => driveOf cmd)).cmdOf n = some ⟨a, cmd, dl, false, false, false⟩ := by rw [State.cmdOf, cmds]; exact cmd'
  rw [State.afterOn_waiting (there.steady made.steady) own on (by rw [made.record]; rfl)] at act
  rw [act] at made asked own
  refine ⟨?_, ?_, (recorded.others made.toAbout).load load, ⟨a, dl, (State.cmdOf_of_load load n).trans own⟩, r, ?_⟩
  · rw [State.chan_of_load load, made.record]; rfl
  · rw [State.chan_of_load load, made.record]; rfl
  · rw [iso, ← recorded.steady.now]
    exact asked

end

/-! ### OFF, BRAKE and CLEAR of a channel (04 R104) -/

/-- What OFF makes of a record: a latched channel stays so, any other is OFF with its gate off; the fall of the current is awaited. -/
def OffAs (c : Chan) (now : Nat) (d : Chan) : Prop :=
  d.offAt = some now ∧ d.st = (if c.st = .latched then .latched else .off) ∧ (c.st ≠ .latched → d.gate = .off)

section
variable {s : State} {n : Nat}

theorem State.leafOff_of_latched (st : (s.chan n).st = .latched) : s.leafOff n = s.setChan n { s.chan n with offAt := some s.now } := by
  simp [State.leafOff, st]

theorem State.leafOff_of_off (st : (s.chan n).st = .off) :
    s.leafOff n = s.setChan n { (s.chan n).gateOff s.now with offAt := some s.now, offBy := 0 } := by
  simp [State.leafOff, st]

theorem State.leafOff_of_on (on : (s.chan n).st ≠ .latched) (st : (s.chan n).st ≠ .off) :
    s.leafOff n = (s.dropCh n .off none).modChan n (fun c => { c with offAt := some s.now }) := by
  cases h : (s.chan n).st
  case latched => exact absurd h on
  case off => exact absurd h st
  all_goals simp [State.leafOff, h]

theorem State.leafOff_spec (lt : n < 64) : About n s (s.leafOff n) ∧ OffAs (s.chan n) s.now ((s.leafOff n).chan n) := by
  by_cases latched : (s.chan n).st = .latched
  · have held := (Makes.refl n s).setChan lt { s.chan n with offAt := some s.now }
    rw [State.leafOff_of_latched latched, held.record]
    exact ⟨held.toAbout, rfl, latched.trans (if_pos latched).symm, fun ne => absurd latched ne⟩
  · by_cases off : (s.chan n).st = .off
    · have quiet := (Makes.refl n s).setChan lt { (s.chan n).gateOff s.now with offAt := some s.now, offBy := 0 }
      rw [State.leafOff_of_off off, quiet.record]
      exact ⟨quiet.toAbout, rfl, off.trans (if_neg latched).symm, fun _ => rfl⟩
    · have dropped := State.dropCh_makes (s := s) lt .off none
      have down : Makes n { (s.chan n).dropped s.now .off with offAt := some s.now } s
          ((s.dropCh n .off none).modChan n (fun c => { c with offAt := some s.now })) :=
        dropped.modChan lt rfl
      rw [State.leafOff_of_on latched off, down.record]
      exact ⟨down.toAbout, rfl, (if_neg latched).symm, fun _ => rfl⟩

theorem State.unitOff_spec (lt : n < 64) : About n s (s.unitOff n) ∧ OffAs (s.chan n) s.now ((s.unitOff n).chan n) := by
  have ended := State.endPulse_makes (s := s) (n := n) n
  obtain ⟨about, off⟩ := State.leafOff_spec (s := s.endPulse n) lt
  rw [ended.record, ended.steady.now] at off
  have all : Reports ((s.endPulse n).leafOff n) (s.unitOff n) := by
    simp only [State.unitOff, State.leavesOf_channel lt, State.lastCmd_channel lt, List.foldl_cons, List.foldl_nil]
    split
    · exact State.unresolved_reports ..
    · exact .refl _
  exact ⟨(ended.toAbout.trans about).trans (all.about n), by rw [all.chan]; exact off⟩

/-- A record with its low sides on, or to be turned on after the dead time. -/
def Chan.lowSide (c : Chan) (now : Nat) : Chan := { c.toGate .brake .brakeOn now with brake := true }

/-- A record at its own limit. -/
def Chan.limited (c : Chan) (l : Nat) : Chan := { c with limit := l }

/-- The record of a channel that BRAKE has turned off and whose low sides turn on. -/
def Chan.braking (c : Chan) (now : Nat) : Chan := (c.dropped now .off).lowSide now

/-- A change of both halves, where there are two, from the record of the even one. -/
theorem Makes.modHalves {t : State} {x : Chan} (h : Makes n x s t) (lt : n < 64) (f : State → Nat → Chan → Chan) :
    Makes n (f t n x) s ((t.halves n).foldl (fun s i => s.modChan i (f s i)) t) := by
  have even : Makes n (f t n x) s (t.modChan n (f t n)) := h.modChan lt rfl
  unfold State.halves
  split
  next bridge => exact even.modOdd (((State.modChan_steady t _).bridge n).trans bridge) _
  next => exact even

theorem State.cmds_modHalves (l : List Nat) (f : State → Nat → Chan → Chan) (s : State) :
    (l.foldl (fun s i => s.modChan i (f s i)) s).load.cmds = s.load.cmds := by
  induction l generalizing s with
  | nil => rfl
  | cons i l ih => exact ih _

/-- Both low sides on, each half at its own limit. -/
theorem State.lowSides_spec (lt : n < 64) :
    ∃ l, Makes n (((s.chan n).lowSide s.now).limited l) s (s.lowSides n) ∧
      (s.lowSides n).load.cmds = s.load.cmds := by
  unfold State.lowSides
  extract_lets w
  have on : Makes n ((s.chan n).lowSide s.now) s w := (Makes.refl n s).modChan lt rfl
  exact ⟨w.ilimOf n, on.modHalves lt (fun s i c => c.limited (s.ilimOf i)), State.cmds_modHalves _ _ _⟩

/-- A BRAKE of a channel in ON. -/
theorem State.leafBrake_spec (lt : n < 64) (st : (s.chan n).st = .on) :
    ∃ l, Makes n (((s.chan n).untested.braking s.now).limited l) s (s.leafBrake n) ∧ (s.leafBrake n).load.cmds = s.load.cmds := by
  have ended := State.endTest_makes (s := s) lt
  have dropped := State.dropCh_makes (s := s.endTest n) lt .off none
  obtain ⟨l, low, cmds⟩ := State.lowSides_spec (s := (s.endTest n).dropCh n .off none) lt
  have eq : s.leafBrake n = ((s.endTest n).dropCh n .off none).lowSides n := by simp [State.leafBrake, st, State.unresolved]
  rw [eq]
  refine ⟨l, ((ended.trans dropped).trans low).cast ?_, ?_⟩
  · rw [dropped.record, ended.record, dropped.steady.now, ended.steady.now]
    rfl
  · obtain ⟨-, same, -⟩ := State.endTest_rest (s := s) (n := n)
    rw [cmds, State.dropCh_cmds, same]

theorem State.brake_spec (lt : n < 64) (st : (s.chan n).st = .on) :
    ∃ l, Makes n (((s.chan n).untested.braking s.now).limited l) s ((s.endPulse n).leafBrake n) ∧
      ((s.endPulse n).leafBrake n).load.cmds = s.load.cmds := by
  have ended := State.endPulse_makes (s := s) (n := n) n
  obtain ⟨l, low, cmds⟩ := State.leafBrake_spec (s := s.endPulse n) lt (by rw [ended.record]; exact st)
  rw [ended.record, ended.steady.now] at low
  obtain ⟨-, -, same⟩ := State.endPulse_same (s := s) (n := n)
  exact ⟨l, ended.trans low, cmds.trans same⟩

/-- BRAKE completes when both low sides are on (04 R108). -/
theorem State.settle_braked {x : UCmd} (alone : Alone s n) (cmd : s.cmdOf n = some x) (code : x.cmd = 5) (gate : (s.chan n).gate = .brake) :
    s.settle n = s.endCmd n St.ok := by
  simp [State.settle, alone.topOf, cmd, code, gate, isTurnOn]

/-- After another switch both low sides wait for the dead time. -/
theorem Chan.braking_of_on {c : Chan} {now : Nat} (on : c.gate ≠ .off) (other : c.gate ≠ .brake) :
    (c.braking now).st = .off ∧ (c.braking now).gate = .off ∧ (c.braking now).brake = true ∧ (c.braking now).dead = some (now, .brakeOn) := by
  have wait : (c.dropped now .off).deadFrom .brake now = some now := by
    simp [Chan.deadFrom, Chan.dropped, Chan.gateOff, Chan.open_, on, other]
  rw [Chan.braking, Chan.lowSide, Chan.toGate_of_dead Gate.noConfusion wait]
  exact ⟨rfl, rfl, rfl, rfl⟩

/-- Where no other switch was on, both low sides turn on at once. -/
theorem Chan.braking_of_free {c : Chan} {now : Nat} (free : c.gate = .brake ∨ (c.gate = .off ∧ c.opened = none)) :
    (c.braking now).st = .off ∧ (c.braking now).gate = .brake ∧ (c.braking now).brake = true := by
  have now' : (c.dropped now .off).deadFrom .brake now = none := by
    rcases free with on | ⟨off, open'⟩
    · simp [Chan.deadFrom, Chan.dropped, Chan.gateOff, Chan.open_, on]
    · simp [Chan.deadFrom, Chan.dropped, Chan.gateOff, Chan.open_, off, open']
  rw [Chan.braking, Chan.lowSide, Chan.toGate_of_free Gate.noConfusion now']
  exact ⟨rfl, rfl, rfl⟩

/-- A latched record after CLEAR, with CLRCNT or without it (04 R104, R120). -/
def Chan.cleared (c : Chan) (clr : Bool) : Chan :=
  { c with st := .off, fault := 0, dieLast := false, trans := if clr then 0 else c.trans, lasting := if clr then 0 else c.lasting }

theorem State.leafClear_eq (lt : n < 64) (st : (s.chan n).st = .latched) (clr : Bool) :
    s.leafClear n clr = s.setChan n ((s.chan n).cleared clr) := by
  unfold State.leafClear
  rw [State.modChan_eq, if_pos st]
  cases clr
  · rfl
  · exact (if_pos rfl).trans (State.modChan_setChan s lt ..)

/-- Changes of composites leave the channels and the commands. -/
theorem State.foldl_setComp (f : State → Nat → Comp) (l : List Nat) (s : State) :
    (l.foldl (fun s k => s.setComp k (f s k)) s).load.ch = s.load.ch ∧ (l.foldl (fun s k => s.setComp k (f s k)) s).load.cmds = s.load.cmds := by
  induction l generalizing s with
  | nil => exact ⟨rfl, rfl⟩
  | cons k l ih => exact ih _

theorem State.unitClear_spec (lt : n < 64) (st : (s.chan n).st = .latched) (clr : Bool) :
    Becomes n ((s.chan n).cleared clr) s (s.unitClear n clr) ∧ (s.unitClear n clr).load.cmds = s.load.cmds := by
  simp only [State.unitClear, State.leavesOf_channel lt, State.lastCmd_channel lt, List.foldl_cons, List.foldl_nil, State.leafClear_eq lt st]
  obtain ⟨ch, cmds⟩ := State.foldl_setComp (fun s k => { s.compOf k with latched := false })
    ((List.range 32).filter (fun k => ((s.setChan n ((s.chan n).cleared clr)).compOf k).en &&
      (s.setChan n ((s.chan n).cleared clr)).topOf (64 + k) = n)) (s.setChan n ((s.chan n).cleared clr))
  exact ⟨(Becomes.set lt s _).same (fun k => congrArg (fun v => v.toList.getD k {}) ch), cmds⟩

/-! ### PULSE (05 R153) -/

/-- A unit's member is the first of its generator's with the unit's number. -/
theorem State.memOf_of_pmem {i : Nat} {m : PMem} (mem : s.pmem n = some (i, m)) : i < 16 ∧ s.memOf i n = some m := by
  obtain ⟨j, lt, found⟩ := List.exists_of_findSome?_eq_some mem
  simp only [Option.map_eq_some_iff, Prod.mk.injEq] at found
  obtain ⟨m', found, rfl, rfl⟩ := found
  exact ⟨List.mem_range.mp lt, found⟩

/-- A change of a member that leaves its unit. -/
theorem State.memOf_modMem {i : Nat} {m : PMem} (lt : i < 16) (mem : s.memOf i n = some m) (f : PMem → PMem) (unit : ∀ x, (f x).unit = x.unit) :
    (s.modMem i n f).memOf i n = some (f m) := by
  have own : m.unit = n := by simpa using List.find?_some mem
  have same : ((fun x : PMem => decide (x.unit = n)) ∘ fun x => if x.unit = n then f x else x) = fun x => decide (x.unit = n) := by
    funext x
    simp only [Function.comp]
    split
    next at' => rw [unit, at']
    next => rfl
  rw [State.memOf, State.modMem, State.genOf_setGen, if_pos ⟨rfl, lt⟩, List.find?_map, same]
  rw [State.memOf] at mem
  rw [mem, Option.map_some, if_pos own]

theorem PMem.join_unit (m : PMem) (b p lo t : Nat) : (m.join b p lo t).unit = m.unit := by
  unfold PMem.join
  extract_lets m'
  split
  · rfl
  · split <;> rfl

/-- A member that enters the schedule in the course of a period. -/
def PMem.entered (m : PMem) (b p lo t : Nat) : PMem := { m.join b p lo t with pulsing := true, start := false }

/-- A PULSE of an idle channel: its member is in the schedule, and it asks for its grant. -/
theorem State.pulse_spec {v : State} (alone : Alone v n) (idle : Idle v n) (cmd : ∃ a dl, v.cmdOf n = some ⟨a, 0x10, dl, false, false, false⟩)
    {i : Nat} {m : PMem} (mem : v.pmem n = some (i, m)) (drive : Nat → Drive) {b p lo t : Nat} :
    let w := ((v.modMem i n (fun y => y.entered b p lo t)).unitOn n drive).afterOn n
    Makes n ((v.chan n).untested.asked (drive n)) v w ∧ w.memOf i n = some (m.entered b p lo t) := by
  obtain ⟨lt, member⟩ := State.memOf_of_pmem mem
  obtain ⟨a, dl, cmd⟩ := cmd
  have entered := State.memOf_modMem lt member (fun y => y.entered b p lo t) (fun y => y.join_unit ..)
  have steady : Steady v (v.modMem i n (fun y => y.entered b p lo t)) := ⟨rfl, rfl, rfl, rfl, rfl, rfl, rfl⟩
  have alone' := alone.steady steady
  obtain ⟨made, cmds, gen, -⟩ := State.unitOn_spec alone' ⟨idle.off, (steady.feedOk n).trans idle.feed, idle.permitted, idle.fresh⟩ drive
  have own : ((v.modMem i n (fun y => y.entered b p lo t)).unitOn n drive).cmdOf n = some ⟨a, 0x10, dl, false, false, false⟩ := by
    rw [State.cmdOf, cmds]
    exact cmd
  rw [State.afterOn_waiting (alone'.steady made.steady) own rfl (by rw [made.record]; rfl)]
  refine ⟨⟨(⟨steady, fun _ _ _ => rfl⟩ : About n v _).trans made.toAbout, made.record⟩, ?_⟩
  rw [State.memOf, State.genOf, gen]
  exact entered

end

/-! ### The deadline of a turn-on (04 R106, R109) -/

section
variable {s : State} {g : Lapse} {n : Fin 64} {x : UCmd} {d : Nat}

theorem exec_commandDeadline (cmd : (s.pass g).cmdOf n = some x) (deadline : x.deadline = some d) (time : d ≤ (s.pass g).now)
    (on : isTurnOn x.cmd = true) (st : ((s.pass g).chan n).st = .grantWait) (own : (s.pass g).owner n = n) :
    exec (.commandDeadline g n) s = .next (((s.pass g).abandonOn n).endCmd n St.timeout) := by
  show execCommandDeadline g n s = _
  simp [execCommandDeadline, cmd, deadline, time, on, State.unitState, own, st]

theorem State.abandonOn_spec {s : State} {n : Nat} (lt : n < 64) (st : (s.chan n).st = .grantWait) :
    Makes n ((s.chan n).dropped s.now .off) s (s.abandonOn n) ∧ (s.abandonOn n).load.cmds = s.load.cmds := by
  have ended := State.endPulse_makes (s := s) (n := n) n
  have dropped := State.dropCh_makes (s := s.endPulse n) lt .off none
  have eq : s.abandonOn n = (s.endPulse n).dropCh n .off none := by
    simp [State.abandonOn, State.leavesOf_channel lt, State.lastCmd_channel lt, ended.record, st]
  rw [eq]
  refine ⟨(ended.trans dropped).cast ?_, ?_⟩
  · rw [ended.record, ended.steady.now]
  · obtain ⟨-, -, same⟩ := State.endPulse_same (s := s) (n := n)
    rw [State.dropCh_cmds, same]

end

/-- Settles O21, a row of R104 for each command. -/
theorem channelCommands : Obligations.ChannelCommands := by
  intro s g q c n unit u others starts idle
  have lt := n.isLt
  have fresh {cmd : Nat} (takes : TakesUnit u q c cmd) : u.cmdOf n = none := by
    obtain ⟨-, -, -, none'⟩ := takes
    exact unit ▸ none'
  have idle' : idle → Idle u n := fun ⟨off, feed, permitted, fresh⟩ => ⟨off, feed, permitted, fresh⟩
  and_intros
  · intro takes
    refine does_of_takesUnit rfl unit takes (fun v w t there recorded act load iso => ?_)
    obtain ⟨about, offAt, st, gate⟩ := State.unitOff_spec (s := v) lt
    rw [unit] at act
    rw [act] at about offAt st gate
    rw [recorded.chan] at st gate
    rw [recorded.steady.now] at offAt
    refine ⟨?_, ?_, ?_, (recorded.others about).load load⟩
    all_goals rw [State.chan_of_load load]
    · exact offAt
    · exact st
    · exact gate
  · exact fun takes ok => does_turnOn rfl unit takes (idle' ok) rfl
  · exact fun takes ok => does_turnOn rfl unit takes (idle' ok) rfl
  · exact fun takes ok => does_turnOn rfl unit takes (idle' ok) rfl
  · exact fun takes ok => does_turnOn rfl unit takes (idle' ok) rfl
  · intro takes st on other
    refine does_of_takesUnit rfl unit takes (fun v w t there recorded act load iso => ?_)
    obtain ⟨l, made, -⟩ := State.brake_spec (s := v) lt (by rw [recorded.chan]; exact st)
    rw [unit] at act
    have ended := made.report (act ▸ State.settle_reports _ _ : Reports _ w)
    rw [recorded.chan, recorded.steady.now] at ended
    obtain ⟨off, gate, brake, dead⟩ := Chan.braking_of_on (c := (u.chan n).untested) (now := u.now) on other
    refine ⟨?_, ?_, ?_, ?_, (recorded.others ended.toAbout).load load⟩
    all_goals rw [State.chan_of_load load, ended.record]
    · exact off
    · exact gate
    · exact brake
    · exact dead
  · intro takes st free
    refine does_of_takesUnit rfl unit takes (fun v w t there recorded act load iso => ?_)
    obtain ⟨l, made, cmds⟩ := State.brake_spec (s := v) lt (by rw [recorded.chan]; exact st)
    obtain ⟨off, gate, brake⟩ := Chan.braking_of_free (c := (u.chan n).untested) (now := u.now) free
    rw [recorded.chan, recorded.steady.now] at made
    obtain ⟨a, dl, cmd⟩ := recorded.cmdOf
    have own : ((v.endPulse n).leafBrake n).cmdOf n = some ⟨a, 5, dl, false, false, false⟩ := by rw [State.cmdOf, cmds]; exact cmd
    rw [unit, State.settle_braked (there.steady made.steady) own rfl (by rw [made.record]; exact gate)] at act
    have ended := made.report (act ▸ State.endCmd_reports _ _ _ : Reports _ w)
    refine ⟨?_, ?_, ?_, ?_, (recorded.others ended.toAbout).load load⟩
    · rw [State.chan_of_load load, ended.record]; exact off
    · rw [State.chan_of_load load, ended.record]; exact gate
    · rw [State.chan_of_load load, ended.record]; exact brake
    · rw [State.cmdOf, load, ← act, State.endCmd_cmds own, cmds, recorded.forget (fresh takes)]
      exact fresh takes
  · intro takes st
    refine does_of_takesUnit rfl unit takes (fun v w t there recorded act load iso => ?_)
    obtain ⟨made, cmds⟩ := State.unitClear_spec (s := v) lt (by rw [recorded.chan]; exact st) (decide (c.opt = 1))
    obtain ⟨a, dl, cmd⟩ := recorded.cmdOf
    have own : (v.unitClear n (decide (c.opt = 1))).cmdOf n = some ⟨a, 6, dl, false, false, false⟩ := by rw [State.cmdOf, cmds]; exact cmd
    rw [unit] at act
    have ended := made.report (act ▸ State.endCmd_reports _ _ _ : Reports _ w)
    have record : t.chan n = (u.chan n).cleared (decide (c.opt = 1)) := by rw [State.chan_of_load load, ended.1, recorded.chan]
    refine ⟨congrArg Chan.st record, congrArg Chan.fault record, ?_, fun k ne half => ?_, fun clr => ?_, fun keep => ?_⟩
    · rw [State.cmdOf, load, ← act, State.endCmd_cmds own, cmds, recorded.forget (fresh takes)]
      exact fresh takes
    · rw [State.chan_of_load load, ended.2 k (fun eq => ne (Fin.ext eq)), recorded.chan]
    · rw [record]
      simp [Chan.cleared, clr]
    · rw [record]
      simp [Chan.cleared, keep]
  · intro i m takes ok mem still
    refine does_of_takesUnit rfl unit takes (fun v w t there recorded act load iso => ?_)
    have mem' : v.pmem n = some (i, m) := by simpa only [State.pmem, recorded.genOf] using mem
    have off : v.unitState n ≠ .on := by simp [State.unitState, lt, there.own, (recorded.idle (idle' ok)).off]
    simp only [unit, mem', still, off, Bool.false_eq_true, if_false, State.lastCmd_channel lt] at act
    obtain ⟨drive, act⟩ : ∃ drive,
        ((v.modMem i n (fun y => y.entered (v.genOf i).start (v.genOf i).per (v.minWidth n) v.now)).unitOn n drive).afterOn n = w := ⟨_, act⟩
    obtain ⟨made, member⟩ := State.pulse_spec there (recorded.idle (idle' ok)) recorded.cmdOf mem' drive
    rw [act] at made member
    refine ⟨?_, (recorded.others made.toAbout).load load, ?_⟩
    · rw [State.chan_of_load load, made.record]
      rfl
    · rw [State.memOf, State.genOf, load]
      exact ⟨_, member, rfl, rfl⟩
  · intro x d cmd deadline time on st own
    refine does_of_run (exec_commandDeadline cmd deadline time on st own) ?_
    obtain ⟨made, cmds⟩ := State.abandonOn_spec lt st
    have told := State.endCmd_reports (u.abandonOn n) n St.timeout
    have ended := made.report told
    refine ⟨?_, ?_, ?_, ended.toAbout.others⟩
    · exact congrArg Chan.st ended.record
    · exact congrArg Chan.gate ended.record
    · rw [State.endCmd_cmds (x := x), cmds]
      rw [State.cmdOf, cmds]
      exact cmd

end Sys2Proof.Machine
end

section
/-!
PROOFS. The feeds (04 R104, R127, 18 R443): what the loss and the restore of a feed make of each channel that is bonded to it, one lead after
another.
-/
namespace Sys2Proof.Machine

/-! ### A device without composites (05 R134) -/

/-- No composite slot is enabled. -/
def State.single (s : State) : Prop := ∀ k : Fin 32, (s.compOf k).en = false

theorem firstIdx_none {α : Type} {p : α → Bool} {l : List α} (none' : ∀ x ∈ l, p x = false) (i : Nat) : firstIdx p l i = none := by
  induction l generalizing i with
  | nil => rfl
  | cons x l ih =>
    have here : p x = false := none' x List.mem_cons_self
    simp [firstIdx, here, ih (fun y mem => none' y (List.mem_cons_of_mem x mem))]

section
variable {s t : State}

/-- No unit has a composite. -/
theorem State.parentOf_of_single (single : s.single) (n : Nat) : s.parentOf n = none := by
  have off : ∀ c ∈ s.load.comp.toList, (c.en && c.members.contains n) = false := by
    intro c mem
    obtain ⟨i, lt, rfl⟩ := List.mem_iff_getElem.mp mem
    have lt' : i < 32 := by simpa using lt
    have en := single ⟨i, lt'⟩
    simp only [State.compOf] at en
    rw [List.getD_eq_getElem _ _ lt] at en
    rw [en, Bool.false_and]
  rw [State.parentOf, firstIdx_none off, Option.map_none]

theorem State.single_of_steady (single : s.single) (h : Steady s t) : t.single := fun k => by rw [h.compOf]; exact single k

/-- The leads are the channels that are commanded themselves. -/
theorem State.lead_of_single (single : s.single) (n : Nat) : s.lead n = s.owner n := by
  simp [State.lead, State.gang_of_free (State.parentOf_of_single single n)]

/-- A lead of a feed is a channel that is commanded itself and is bonded to the feed. -/
theorem State.mem_leadsOn (single : s.single) (f : Feed) (n : Nat) : n ∈ s.leadsOn f ↔ n < 64 ∧ s.owner n = n ∧ onFeed f n = true := by
  have gang : s.gang n = [s.owner n] := State.gang_of_free (State.parentOf_of_single single n)
  simp only [State.leadsOn, List.mem_filter, List.mem_range, State.lead_of_single single, gang, Bool.and_eq_true, decide_eq_true_eq,
    List.any_cons, List.any_nil, Bool.or_false]
  constructor
  · exact fun ⟨lt, own, feed⟩ => ⟨lt, own, own ▸ feed⟩
  · exact fun ⟨lt, own, feed⟩ => ⟨lt, own, own.symm ▸ feed⟩

theorem State.leadsOn_alone (single : s.single) {f : Feed} {n : Nat} (mem : n ∈ s.leadsOn f) : Alone s n := by
  obtain ⟨lt, own, -⟩ := (State.mem_leadsOn single f n).mp mem
  exact ⟨lt, own, State.parentOf_of_single single n⟩

theorem State.leadsOn_nodup (s : State) (f : Feed) : (s.leadsOn f).Nodup := List.nodup_range.filter _

/-- Both halves of a bridge are bonded to one feed (18 R441). -/
theorem onFeed_of_bridge {n : Nat} (bridge : s.bridge n = true) (f : Feed) : onFeed f (n + 1) = onFeed f n := by
  obtain ⟨lt, even, cls⟩ := State.odd_lt_of_bridge bridge
  have same : onFeedA (n + 1) = onFeedA n := by
    have low : ¬ n < 8 := fun h => by simp [chClass, h] at cls
    have high : n < 32 := by
      by_contra h
      simp [chClass, low, h] at cls
    have : ∀ k < 32, k % 2 = 0 → 8 ≤ k → onFeedA (k + 1) = onFeedA k := by decide
    exact this n high even (Nat.not_lt.mp low)
  cases f <;> simp [onFeed, same]

end

/-! ### Operations on one lead after another -/

section
variable {step : State → Nat → State} {s : State} {n : Nat}

theorem foldl_about {l : List Nat} (each : ∀ t m, m ∈ l → Steady s t → About m t (step t m)) :
    Steady s (l.foldl step s) ∧ ((∀ m ∈ l, n ≠ m ∧ (s.bridge m = true → n ≠ m + 1)) → (l.foldl step s).chan n = s.chan n) := by
  induction l generalizing s with
  | nil => exact ⟨.refl s, fun _ => rfl⟩
  | cons m l ih =>
    have first := each s m List.mem_cons_self (.refl s)
    obtain ⟨steady, chan⟩ := ih (s := step s m) (fun t k mem same => each t k (List.mem_cons_of_mem m mem) (first.steady.trans same))
    refine ⟨first.steady.trans steady, fun apart => ?_⟩
    obtain ⟨ne, half⟩ := apart m List.mem_cons_self
    refine (chan (fun k mem => ?_)).trans (first.chan n ne half)
    rw [first.steady.bridge]
    exact apart k (List.mem_cons_of_mem m mem)

/-- A lead's own operation finds its record as it was, and leaves it as it is in the end. -/
theorem foldl_about_mem {l : List Nat} (each : ∀ t m, m ∈ l → Steady s t → About m t (step t m)) (once : l.Nodup) (mem : n ∈ l)
    (even : ∀ m ∈ l, s.bridge m = true → n ≠ m + 1) :
    ∃ a b t, l = a ++ n :: b ∧ n ∉ b ∧ Steady s t ∧ t.chan n = s.chan n ∧ l.foldl step s = b.foldl step (step t n) ∧
      (l.foldl step s).chan n = (step t n).chan n := by
  obtain ⟨a, b, rfl⟩ := List.append_of_mem mem
  obtain ⟨out, after⟩ : n ∉ a ∧ n ∉ b := by
    have := List.nodup_middle.mp once
    simpa using (List.nodup_cons.mp this).1
  obtain ⟨steady, before⟩ := foldl_about (n := n) (l := a) (fun t m mem same => each t m (List.mem_append_left _ mem) same)
  have own := each (a.foldl step s) n (List.mem_append_right _ List.mem_cons_self) steady
  obtain ⟨-, rest⟩ := foldl_about (n := n) (s := step (a.foldl step s) n) (l := b)
    (fun t m mem same => each t m (List.mem_append_right _ (List.mem_cons_of_mem n mem)) (steady.trans (own.steady.trans same)))
  refine ⟨a, b, a.foldl step s, rfl, after, steady, before (fun m mem => ⟨fun eq => out (eq ▸ mem), even m (List.mem_append_left _ mem)⟩),
    by simp, ?_⟩
  rw [List.foldl_append, List.foldl_cons]
  refine rest (fun m mem => ⟨fun eq => after (eq ▸ mem), fun bridge => ?_⟩)
  rw [own.steady.bridge, steady.bridge] at bridge
  exact even m (List.mem_append_right _ (List.mem_cons_of_mem n mem)) bridge

end

/-! ### The loss of a feed (04 R104, R127) -/

section
variable {s : State} {n : Nat}

/-- The record of a channel that has lost its feed. -/
def Chan.feedLost (c : Chan) (now : Nat) : Chan := { c.dropped now .grantWait with fault := 0x20, lostAt := some now }

/-- The mark of a loss and its event. -/
theorem State.lostMarked_about {v : State} (h : About n s v) (f : Chan → Chan) {s0 : State} {code kind : Nat} {ma : Int} :
    About n s ((v.modChan n f).leafEvent s0 n code kind ma) :=
  (h.modChan f).trans ((State.leafEvent_reports ..).about n)

theorem State.chanLost_about (alone : Alone s n) : About n s (s.chanLost n) := by
  have dropped := (State.dropCh_makes (s := s) alone.lt .grantWait none).toAbout
  have withdrawn := State.withdraw_about (s := s) (n := n)
  unfold State.chanLost
  extract_lets c s0 mark
  cases st : c.st
  case inrush | on | retryOn =>
    simp only [alone.gang, List.foldl_cons, List.foldl_nil]
    exact State.lostMarked_about dropped _
  case grantWait =>
    simp only [alone.gang, List.foldl_cons, List.foldl_nil]
    exact State.lostMarked_about withdrawn _
  case retryWait =>
    simp only [alone.gang, List.foldl_cons, List.foldl_nil]
    split
    · exact withdrawn.modChan _
    · exact .refl n s
  case off | latched => exact .refl n s

theorem State.chanLost_on (alone : Alone s n) (st : (s.chan n).st = .on) : (s.chanLost n).chan n = (s.chan n).feedLost s.now := by
  have dropped := State.dropCh_makes (s := s) alone.lt .grantWait none
  have marked : Makes n ((s.chan n).feedLost s.now) s ((s.dropCh n .grantWait none).modChan n
      (fun c => { c with fault := 0x20, lostAt := some (c.lostAt.getD (s.dropCh n .grantWait none).now) })) :=
    dropped.modChan alone.lt (by rw [dropped.steady.now]; rfl)
  have eq : s.chanLost n = ((s.dropCh n .grantWait none).modChan n
      (fun c => { c with fault := 0x20, lostAt := some (c.lostAt.getD (s.dropCh n .grantWait none).now) })).leafEvent s n 0x20 6
        (10 * (s.chan n).imeas) := by
    simp only [State.chanLost, st, alone.gang, List.foldl_cons, List.foldl_nil]
  rw [eq]
  exact (marked.report (State.leafEvent_reports ..)).record

theorem Chan.gateOff_twice (now : Nat) (c : Chan) : (c.gateOff now).gateOff now = c.gateOff now := by
  simp [Chan.gateOff, Chan.open_]

theorem State.seqUp_setFeed (s : State) (f : Feed) (ok : Bool) (volt k : Nat) : (s.setFeed f ok volt).seqUp k = s.seqUp k := by
  cases f <;> rfl

/-- The channels whose die turns them off alone at a loss. -/
def State.dieLost (s : State) (f : Feed) : List Nat :=
  (List.range 64).filter (fun n => onFeed f n && !s.seqUp (s.lead n) && (s.chan n).energised)

/-- The device before the leads lose their feed: the monitor has the loss, and the channels without a running sequencer are off. -/
def State.feedGone (s : State) (f : Feed) (volt : Nat) : State :=
  let v := ((List.range 64).filter (onFeed f)).foldl (fun s n => s.dieEvent n 2) (s.setFeed f false volt)
  (v.dieLost f).foldl (fun s n => s.modChan n (fun c => c.gateOff s.now)) v

theorem reports_foldl {step : State → Nat → State} (each : ∀ t m, Reports t (step t m)) (l : List Nat) (s : State) : Reports s (l.foldl step s) := by
  induction l generalizing s with
  | nil => exact .refl s
  | cons m l ih => exact (each s m).trans (ih _)

theorem State.feedGone_spec (single : s.single) (f : Feed) (volt : Nat) (lt : n < 64) :
    Steady (s.setFeed f false volt) (s.feedGone f volt) ∧
    (s.feedGone f volt).chan n = if onFeed f n = true ∧ s.seqUp (s.owner n) = false ∧ (s.chan n).energised = true then (s.chan n).gateOff s.now
      else s.chan n := by
  unfold State.feedGone
  extract_lets v
  have told : Reports (s.setFeed f false volt) v := reports_foldl (fun t m => t.dieEvent_reports m 2) ..
  have chan0 : v.chan n = s.chan n := told.chan n
  have lead : v.lead n = s.owner n := by
    rw [told.steady.lead]
    exact State.lead_of_single single n
  have up : v.seqUp (s.owner n) = s.seqUp (s.owner n) := (told.steady.seqUp _).trans (State.seqUp_setFeed ..)
  obtain ⟨steady, -, chan⟩ := chan_foldl_mod (step := fun s n => s.modChan n (fun c => c.gateOff s.now)) (f := fun now c => c.gateOff now)
    Chan.gateOff_twice (fun t i => ⟨t, .refl t, rfl⟩) (v.dieLost f) v
  refine ⟨told.steady.trans steady, (chan n).trans ?_⟩
  have mem : (n ∈ v.dieLost f ∧ n < 64) ↔ (onFeed f n = true ∧ s.seqUp (s.owner n) = false ∧ (s.chan n).energised = true) := by
    simp [State.dieLost, lead, up, chan0, lt, and_assoc]
  have now : v.now = s.now := told.steady.now
  by_cases off : onFeed f n = true ∧ s.seqUp (s.owner n) = false ∧ (s.chan n).energised = true
  · rw [if_pos (mem.mpr off), if_pos off, chan0, now]
  · rw [if_neg (fun h => off (mem.mp h)), if_neg off, chan0]

/-- The loss reaches every lead whose sequencer runs. -/
def State.leadsLose (s : State) (f : Feed) : State := (s.leadsOn f).foldl (fun s n => if s.seqUp n then s.chanLost n else s) s

/-- No lead's bridge has an odd half that is commanded itself, or one on another feed. -/
theorem State.leadsOn_apart (single : s.single) {f : Feed} (apart : s.owner n = n ∨ onFeed f n = false) {m : Nat} (mem : m ∈ s.leadsOn f)
    (bridge : s.bridge m = true) : n ≠ m + 1 := by
  obtain ⟨-, -, feed⟩ := (State.mem_leadsOn single f m).mp mem
  rintro rfl
  rcases apart with own | off
  · have odd := State.bridgeOdd_succ bridge
    rw [State.even_of_owner own] at odd
    cases odd
  · rw [onFeed_of_bridge bridge, feed] at off
    cases off

theorem State.leadLoses_about (single : s.single) {f : Feed} (t : State) (m : Nat) (mem : m ∈ s.leadsOn f) (same : Steady s t) :
    About m t (if t.seqUp m then t.chanLost m else t) := by
  split
  · exact State.chanLost_about ((State.leadsOn_alone single mem).steady same)
  · exact .refl m t

theorem State.leadsLose_steady (single : s.single) (f : Feed) : Steady s (s.leadsLose f) :=
  (foldl_about (n := 0) (fun t m mem same => State.leadLoses_about single t m mem same)).1

theorem State.leadsLose_other (single : s.single) {f : Feed} (off : onFeed f n = false) : (s.leadsLose f).chan n = s.chan n := by
  refine (foldl_about (n := n) (fun t m mem same => State.leadLoses_about single t m mem same)).2 (fun m mem => ⟨?_, ?_⟩)
  · rintro rfl
    obtain ⟨-, -, feed⟩ := (State.mem_leadsOn single f n).mp mem
    rw [feed] at off
    cases off
  · exact State.leadsOn_apart single (.inr off) mem

theorem State.leadsLose_own (single : s.single) {f : Feed} (lt : n < 64) (own : s.owner n = n) (on : onFeed f n = true) :
    ∃ t, Steady s t ∧ t.chan n = s.chan n ∧ (s.leadsLose f).chan n = (if t.seqUp n then t.chanLost n else t).chan n := by
  obtain ⟨a, b, t, -, -, steady, same, -, record⟩ := foldl_about_mem (fun t m mem same => State.leadLoses_about single t m mem same)
    (s.leadsOn_nodup f) ((State.mem_leadsOn single f n).mpr ⟨lt, own, on⟩) (fun m mem => State.leadsOn_apart single (.inl own) mem)
  exact ⟨t, steady, same, record⟩

/-- What O25 says of the loss of feed f at channel n. -/
def LostAs (u : State) (f : Feed) (volt n : Nat) (t : State) : Prop :=
  t.pwr = (u.setFeed f false volt).pwr ∧
  (onFeed f n = true → u.bridgeOdd n = false → u.seqUp n = true → (u.chan n).st = .on → t.chan n = (u.chan n).feedLost u.now) ∧
  (onFeed f n = true → u.bridgeOdd n = false → u.seqUp n = false → (u.chan n).energised = true → t.chan n = (u.chan n).gateOff u.now) ∧
  (onFeed f n = false → t.chan n = u.chan n)

theorem State.loseFeed_spec (single : s.single) (standby : s.il.role ≠ 2) (f : Feed) (volt : Nat) (lt : n < 64) :
    LostAs s f volt n (s.loseFeed f volt) := by
  obtain ⟨steady, gone⟩ := State.feedGone_spec (s := s) single f volt lt
  have role : (s.feedGone f volt).il.role = s.il.role := steady.role
  have single' : (s.feedGone f volt).single := fun k => by rw [steady.compOf]; exact single k
  have up (k : Nat) : (s.feedGone f volt).seqUp k = s.seqUp k := (steady.seqUp k).trans (State.seqUp_setFeed ..)
  have owner (k : Nat) : (s.feedGone f volt).owner k = s.owner k := steady.owner k
  have now : (s.feedGone f volt).now = s.now := steady.now
  have lose := State.leadsLose_steady single' f
  have eq : s.loseFeed f volt = (s.feedGone f volt).leadsLose f := by
    have no : ((s.feedGone f volt).leadsLose f).selfRelDue = false := by simp [State.selfRelDue, lose.role, role, standby]
    exact if_neg (fun due => Bool.noConfusion (no.symm.trans due))
  rw [eq]
  refine ⟨lose.pwr.trans steady.pwr, fun feed even run st => ?_, fun feed even down on => ?_, fun off => ?_⟩
  · have own : s.owner n = n := State.owner_of_even even
    obtain ⟨t, same, record, lost⟩ := State.leadsLose_own single' lt ((owner n).trans own) feed
    rw [if_neg (by rw [own, run]; simp)] at gone
    rw [lost, if_pos ((same.seqUp n).trans ((up n).trans run)),
      State.chanLost_on ⟨lt, (same.owner n).trans ((owner n).trans own), State.parentOf_of_single (State.single_of_steady single' same) n⟩
        (by rw [record, gone, st]), record, gone, same.now, now]
  · have own : s.owner n = n := State.owner_of_even even
    obtain ⟨t, same, record, lost⟩ := State.leadsLose_own single' lt ((owner n).trans own) feed
    rw [if_pos ⟨feed, by rw [own, down], on⟩] at gone
    rw [lost, if_neg (by rw [same.seqUp, up, down]; exact Bool.noConfusion), record, gone]
  · rw [State.leadsLose_other single' off, gone, if_neg (fun h => by rw [off] at h; cases h.1)]

/-! ### The restore of a feed (04 R104, R127) -/

/-- The record of a channel whose turn-on is abandoned for its feed. -/
def Chan.abandoned (c : Chan) (now : Nat) : Chan := { c.dropped now .off with fault := 0x20, offBy := 0x20 }

/-- A turn-on is abandoned: the channel is OFF with FEED_LOST. -/
theorem State.abandonLost_makes (lt : n < 64) (gang : s.gang n = [n]) : Makes n ((s.chan n).abandoned s.now) s (s.abandonLost n) := by
  have dropped := State.dropCh_makes (s := s) lt .off none
  have gang' : (s.dropCh n .off none).gang n = [n] := (dropped.steady.gang n).trans gang
  have marked : Makes n ((s.chan n).abandoned s.now) s ((s.dropCh n .off none).modChan n (fun c => { c with fault := 0x20, offBy := 0x20 })) :=
    (dropped.modChan lt rfl).cast rfl
  unfold State.abandonLost
  simp only [gang, List.foldl_cons, List.foldl_nil, gang']
  have told := marked.report (State.leafEvent_reports _ s n 0x20 7 (10 * (s.chan n).imeas))
  split
  · exact (told.keep (State.endPulse_makes n).toAbout (State.chan_endPulse n)).report (State.failCmd_reports ..)
  · exact told

/-- A restore asks for the grant again: the command takes RESTORED. -/
def State.askRestored (s : State) (n : Nat) : State :=
  ((s.setChan n { s.chan n with lostAt := none }).markCmd n (fun x => { x with restored := true }))

theorem State.askRestored_reports (s : State) (n : Nat) : Reports (s.setChan n { s.chan n with lostAt := none }) (s.askRestored n) :=
  State.markCmd_reports ..

theorem State.askRestored_makes (lt : n < 64) : Makes n { s.chan n with lostAt := none } s (s.askRestored n) :=
  ((Makes.refl n s).setChan lt _).report (s.askRestored_reports n)

section
variable {k : Nat} (alone : Alone s n) (lost : (s.chan n).lostAt = some k) (st : (s.chan n).st = .grantWait) (feed : s.feedOk n = true)
include alone lost st feed

theorem State.chanRestored_of_late (late : k + 200000000 ≤ s.now) : s.chanRestored n = s.abandonLost n := by
  simp [State.chanRestored, lost, st, State.gangFeedOk, alone.gang, feed, late]

theorem State.chanRestored_of_soon (soon : s.now < k + 200000000) (calm : (s.chan n).revAt = none) (free : (s.chan n).dead = none) :
    s.chanRestored n = (s.askRestored n).requestFor n .turnOn := by
  simp [State.chanRestored, lost, st, State.gangFeedOk, alone.gang, feed, Nat.not_le.mpr soon, calm, free, State.askRestored]

end

/-- A restore at one lead gives up the turn-on, takes the mark of the loss away with or without a request, or does nothing. -/
theorem State.chanRestored_cases (s : State) (n : Nat) :
    s.chanRestored n = s ∨ s.chanRestored n = s.abandonLost n ∨ s.chanRestored n = s.askRestored n ∨
    s.chanRestored n = (s.askRestored n).requestFor n .turnOn := by
  cases lost : (s.chan n).lostAt with
  | none => exact .inl (by simp [State.chanRestored, lost])
  | some k =>
    simp only [State.chanRestored, lost]
    split
    · exact .inl rfl
    · split
      · exact .inr (.inl rfl)
      · split
        · exact .inr (.inr (.inl rfl))
        · exact .inr (.inr (.inr rfl))

theorem State.chanRestored_about (alone : Alone s n) : About n s (s.chanRestored n) := by
  have asked := (State.askRestored_makes (s := s) alone.lt).toAbout
  rcases s.chanRestored_cases n with eq | eq | eq | eq <;> rw [eq]
  · exact .refl n s
  · exact (State.abandonLost_makes alone.lt alone.gang).toAbout
  · exact asked
  · exact asked.trans ⟨⟨rfl, rfl, rfl, rfl, rfl, rfl, rfl⟩, fun _ _ _ => rfl⟩

end

/-! ### Requests that stay (06 R169, R175) -/

/-- A turn-on request of channel n for its own switches alone. -/
structure OwnReq (n : Nat) (r : IsoReq) : Prop where
  num : r.num = n
  kind : r.kind = .turnOn
  shares : r.shares.map (·.ch) = [n]

/-- The own turn-on requests of channel n stay pending. -/
def Keeps (n : Nat) (s t : State) : Prop := ∀ r ∈ s.iso.pend, OwnReq n r → r ∈ t.iso.pend

section
variable {s t u : State} {n m : Nat}

theorem Keeps.refl (n : Nat) (s : State) : Keeps n s s := fun _ mem _ => mem

theorem Keeps.trans (h : Keeps n s t) (k : Keeps n t u) : Keeps n s u := fun r mem own => k r (h r mem own) own

theorem Keeps.of_pend (same : t.iso.pend = s.iso.pend) : Keeps n s t := fun _ mem _ => same ▸ mem

theorem Reports.keeps (h : Reports s t) : Keeps n s t := .of_pend (by rw [h.iso])

/-- Another channel's withdrawal. -/
theorem State.withdraw_keeps (ne : n ≠ m) : Keeps n s (s.withdraw m) := by
  intro r mem own
  obtain ⟨x, eq, ch⟩ := List.map_eq_singleton_iff.mp own.shares
  have kept : r.shares.filter (fun x => x.ch ≠ m) = r.shares := by simp [eq, ch, ne]
  have same : { r with shares := r.shares.filter (fun x => x.ch ≠ m) } = r := by rw [kept]
  refine List.mem_filter.mpr ⟨List.mem_map.mpr ⟨r, mem, same⟩, ?_⟩
  simp [eq]

theorem State.dropCh_keeps (ne : n ≠ m) (st : ChSt) (uj : Option Rat) : Keeps n s (s.dropCh m st uj) :=
  (State.withdraw_keeps ne).trans (.of_pend (State.dropCh_pend st uj))

/-- Another channel's request. -/
theorem State.addReq_keeps {r : IsoReq} (ne : n ≠ r.num) : Keeps n s (s.addReq r) := fun x mem own =>
  List.mem_append_left _ (List.mem_filter.mpr ⟨mem, by simp [own.num, ne]⟩)

/-- The end of a schedule drops increases alone. -/
theorem State.endPulse_keeps (k : Nat) : Keeps n s (s.endPulse k) := by
  intro r mem own
  unfold State.endPulse
  split
  · exact mem
  · exact List.mem_filter.mpr ⟨mem, by simp [own.kind]⟩

theorem State.askRestored_keeps (s : State) : Keeps n s (s.askRestored m) :=
  (Keeps.of_pend rfl).trans (s.askRestored_reports m).keeps

theorem State.requestFor_keeps (free : s.parentOf m = none) (ne : n ≠ m) (kind : ReqKind) : Keeps n s (s.requestFor m kind) := by
  simp only [State.requestFor, free]
  exact State.addReq_keeps ne

theorem State.abandonLost_keeps (lt : m < 64) (gang : s.gang m = [m]) (ne : n ≠ m) : Keeps n s (s.abandonLost m) := by
  have gang' : (s.dropCh m .off none).gang m = [m] := ((State.dropCh_makes lt ..).steady.gang m).trans gang
  unfold State.abandonLost
  simp only [gang, List.foldl_cons, List.foldl_nil, gang']
  have marked : Keeps n s ((s.dropCh m .off none).modChan m (fun c => { c with fault := 0x20, offBy := 0x20 })) :=
    (State.dropCh_keeps ne .off none).trans (.of_pend rfl)
  have told := marked.trans (State.leafEvent_reports _ s m 0x20 7 (10 * (s.chan m).imeas)).keeps
  split
  · exact (told.trans (State.endPulse_keeps _)).trans (State.failCmd_reports ..).keeps
  · exact told

theorem State.chanRestored_keeps (alone : Alone s m) (ne : n ≠ m) : Keeps n s (s.chanRestored m) := by
  have asked := State.askRestored_keeps (n := n) (m := m) s
  rcases s.chanRestored_cases m with eq | eq | eq | eq <;> rw [eq]
  · exact .refl n s
  · exact State.abandonLost_keeps alone.lt alone.gang ne
  · exact asked
  · exact asked.trans (State.requestFor_keeps (((State.askRestored_makes alone.lt).steady.parentOf m).trans alone.free) ne _)

theorem keeps_foldl {step : State → Nat → State} {l : List Nat} {s : State} (each : ∀ t m, m ∈ l → Steady s t → About m t (step t m))
    (keep : ∀ t m, m ∈ l → Steady s t → Keeps n t (step t m)) : Keeps n s (l.foldl step s) := by
  induction l generalizing s with
  | nil => exact .refl n s
  | cons m l ih =>
    have first := (each s m List.mem_cons_self (.refl s)).steady
    exact (keep s m List.mem_cons_self (.refl s)).trans (ih (fun t k mem same => each t k (List.mem_cons_of_mem m mem) (first.trans same))
      (fun t k mem same => keep t k (List.mem_cons_of_mem m mem) (first.trans same)))

/-- A channel that asks again has its own request pending. -/
theorem State.requestFor_own (alone : Alone s n) (kind : s.gang n = [n]) :
    ∃ r ∈ (s.requestFor n .turnOn).iso.pend, OwnReq n r ∧ r.stamp = s.now := by
  simp only [State.requestFor, alone.free, kind]
  exact ⟨_, State.addReq_mem _, ⟨rfl, rfl, rfl⟩, rfl⟩

end

/-! ### The restore at a channel -/

section
variable {s : State} {n : Nat} {f : Feed}

/-- The restore reaches every lead whose sequencer runs. -/
def State.leadsRestored (s : State) (f : Feed) : State := (s.leadsOn f).foldl (fun s n => if s.seqUp n then s.chanRestored n else s) s

theorem State.leadRestored_about (single : s.single) (t : State) (m : Nat) (mem : m ∈ s.leadsOn f) (same : Steady s t) :
    About m t (if t.seqUp m then t.chanRestored m else t) := by
  split
  · exact State.chanRestored_about ((State.leadsOn_alone single mem).steady same)
  · exact .refl m t

theorem State.leadsRestored_steady (single : s.single) : Steady s (s.leadsRestored f) :=
  (foldl_about (n := 0) (fun t m mem same => State.leadRestored_about single t m mem same)).1

theorem State.leadRestored_keeps (single : s.single) (t : State) (m : Nat) (mem : m ∈ s.leadsOn f) (same : Steady s t) (ne : n ≠ m) :
    Keeps n t (if t.seqUp m then t.chanRestored m else t) := by
  split
  · exact State.chanRestored_keeps ((State.leadsOn_alone single mem).steady same) ne
  · exact .refl n t

/-- What a restore makes of a lead, in the end: its own record, and its own request. -/
theorem State.leadsRestored_own (single : s.single) (lt : n < 64) (own : s.owner n = n) (on : onFeed f n = true) (up : s.seqUp n = true) :
    ∃ t, Steady s t ∧ t.chan n = s.chan n ∧ (s.leadsRestored f).chan n = (t.chanRestored n).chan n ∧
      Keeps n (t.chanRestored n) (s.leadsRestored f) := by
  obtain ⟨a, b, t, split, after, steady, same, rest, record⟩ := foldl_about_mem
    (fun t m mem same => State.leadRestored_about single t m mem same) (s.leadsOn_nodup f) ((State.mem_leadsOn single f n).mpr ⟨lt, own, on⟩)
    (fun m mem => State.leadsOn_apart single (.inl own) mem)
  have run : (if t.seqUp n then t.chanRestored n else t) = t.chanRestored n := if_pos ((steady.seqUp n).trans up)
  have mine := (State.chanRestored_about ((⟨lt, own, State.parentOf_of_single single n⟩ : Alone s n).steady steady)).steady
  have in' (m : Nat) (mem : m ∈ b) : m ∈ s.leadsOn f := split ▸ List.mem_append_right _ (List.mem_cons_of_mem n mem)
  rw [run] at rest record
  refine ⟨t, steady, same, record, ?_⟩
  show Keeps n _ ((s.leadsOn f).foldl _ s)
  rw [rest]
  exact keeps_foldl (fun v m mem k => State.leadRestored_about single v m (in' m mem) (steady.trans (mine.trans k)))
    (fun v m mem k => State.leadRestored_keeps single v m (in' m mem) (steady.trans (mine.trans k)) (fun eq => after (eq ▸ mem)))

theorem State.feedOk_setFeed (s : State) (on : onFeed f n = true) (volt : Nat) : (s.setFeed f true volt).feedOk n = true := by
  cases f with
  | a => exact if_pos on
  | b => exact if_neg (by simpa [onFeed] using on)

end

/-! ### The commands, in the cases of O25 -/

section
variable {s : State} {g : Lapse} {f : Feed} {volt : Nat} {n : Fin 64}

theorem exec_feedLost (ok : (s.pass g).feedInRange f = true) (low : volt < 600) :
    exec (.feedLost g f volt) s = .next ((s.pass g).loseFeed f volt) := by
  show execFeedLost g f volt s = _
  simp [execFeedLost, ok, low]

/-- The loss of banks leaves the channels and the feeds' monitors. -/
theorem State.banksLost_rest (l : List Nat) (s : State) :
    (l.foldl (fun s b => s.bankLost b) s).load = s.load ∧ (l.foldl (fun s b => s.bankLost b) s).pwr = s.pwr := by
  induction l generalizing s with
  | nil => exact ⟨rfl, rfl⟩
  | cons b l ih =>
    have only := State.bankLost_only (l := [.atlas, .iso, .vlv, .evs, .ctl]) (b := b) (Only.refl _ s) (by decide)
    obtain ⟨load, pwr⟩ := ih (s.bankLost b)
    exact ⟨load.trans (only.same .load (by decide)), pwr.trans (only.same .pwr (by decide))⟩

/-- The members of a feed's banks go off with its channels. -/
theorem exec_overvoltage (ok : (s.pass g).feedInRange f = true) (high : 2900 < volt) :
    ∃ l : List Nat, exec (.overvoltage g f volt) s = .next (l.foldl (fun s b => s.bankLost b) ((s.pass g).loseFeed f volt)) := by
  cases f
  case a => exact ⟨[0, 1], by show execOvervoltage g .a volt s = _; simp [execOvervoltage, ok, high]⟩
  case b => exact ⟨[2, 3], by show execOvervoltage g .b volt s = _; simp [execOvervoltage, ok, high]⟩

theorem exec_feedRestored (out : (s.pass g).feedInRange f = false) (low : 550 < volt) (high : volt < 2850) :
    exec (.feedRestored g f volt) s = .next (((s.pass g).setFeed f true volt).leadsRestored f) := by
  show execFeedRestored g f volt s = _
  simp only [execFeedRestored, out, low, high, Bool.not_false, decide_true, Bool.and_self, if_true]
  rfl

theorem exec_feedLostAbandon {k : Nat} (gang : (s.pass g).gang n = [n.val]) (lost : ((s.pass g).chan n).lostAt = some k)
    (st : ((s.pass g).chan n).st = .grantWait) (late : k + 200000000 ≤ (s.pass g).now) (out : (s.pass g).feedOk n = false) :
    exec (.feedLostAbandon g n) s = .next ((s.pass g).abandonLost n) := by
  show execFeedLostAbandon g n s = _
  simp [execFeedLostAbandon, State.lead_of_gang gang, lost, st, State.expired, late, State.gangFeedOk, gang, out]

end

end Sys2Proof.Machine
end

section
/-!
PROOFS. The schedule of a pulse generator (05 R149 to R155): a period boundary and the edges of a channel; then O25.
-/
namespace Sys2Proof.Machine

/-! ### Members keep their units (05 R156) -/

/-- A pass over members that gives each a new setting keeps their units. -/
theorem units_foldl {α : Type} {step : List PMem × α → PMem → List PMem × α}
    (each : ∀ p m, (step p m).1.map (·.unit) = p.1.map (·.unit) ++ [m.unit]) (ms : List PMem) (p : List PMem × α) :
    (ms.foldl step p).1.map (·.unit) = p.1.map (·.unit) ++ ms.map (·.unit) := by
  induction ms generalizing p with
  | nil => simp
  | cons m ms ih => rw [List.foldl_cons, ih, each, List.map_cons, List.append_assoc, List.singleton_append]

theorem spreadPhases_units (spread : Nat) (auto : Nat → Bool) (ms : List PMem) :
    (spreadPhases spread auto ms).map (·.unit) = ms.map (·.unit) := by
  unfold spreadPhases
  extract_lets n
  split
  · rfl
  · refine (units_foldl (fun p m => ?_) ms _).trans (List.nil_append _)
    split
    · split <;> simp
    · simp

/-! ### A period boundary (05 R149, R150, R154) -/

section
variable {s : State}

theorem State.load_foldl {α : Type} {step : State → α → State} (each : ∀ t x, (step t x).load = t.load) (l : List α) (s : State) :
    (l.foldl step s).load = s.load := by
  induction l generalizing s with
  | nil => rfl
  | cons x l ih => exact (ih _).trans (each s x)

/-- The refunds of a unit wait for the next pass, and leave the channels and the generators. -/
theorem State.refundPulse_load (u d0 p0 d1 p1 : Nat) : (s.refundPulse u d0 p0 d1 p1).load = s.load := by
  refine State.load_foldl (fun t n => ?_) _ s
  dsimp only
  split <;> rfl

/-- The gates of a unit's leaves leave the generators. -/
theorem State.gen_foldl {α : Type} {step : State → α → State} (each : ∀ t x, (step t x).load.gen = t.load.gen) (l : List α) (s : State) :
    (l.foldl step s).load.gen = s.load.gen := by
  induction l generalizing s with
  | nil => rfl
  | cons x l ih => exact (ih _).trans (each s x)

theorem State.unitOffEdge_gen (u : Nat) (free : Bool) : (s.unitOffEdge u free).load.gen = s.load.gen := by
  refine State.gen_foldl (fun t n => ?_) _ s
  show (t.endOnPhase n).load.gen = t.load.gen
  unfold State.endOnPhase
  refine State.gen_foldl (fun _ _ => ?_) _ t
  rfl

/-- The record of a generator in the period from b, with the minimum widths of its units. -/
def State.periodOf (s : State) (g b : Nat) (width : Nat → Nat) : Gen :=
  let x := s.genOf g
  let per := if s.periodWaits g then x.per else s.pf Pf.genPeriod_P g
  let ms := (spreadPhases (s.pf Pf.genCfg_SPREAD g) (fun u => s.pb Pf.genMember_AUTO g u) (x.mems.map (s.takeSettings g))).map
    (fun m => if m.pulsing then { m.plan b per (width m.unit) with start := false } else m)
  { x with per := per, t0 := if per = x.per then x.t0 else b, start := b, mems := ms, clamped := (x.mems.filter (fun m => m.pulsing && m.clamped)).length }

theorem State.periodOf_units (g b : Nat) (width : Nat → Nat) : (s.periodOf g b width).mems.map (·.unit) = (s.genOf g).mems.map (·.unit) := by
  unfold State.periodOf
  extract_lets x per ms
  have planned : ms.map (·.unit) = (spreadPhases (s.pf Pf.genCfg_SPREAD g) (fun u => s.pb Pf.genMember_AUTO g u)
      (x.mems.map (s.takeSettings g))).map (·.unit) := by
    simp only [ms, List.map_map]
    refine List.map_congr_left (fun m _ => ?_)
    simp only [Function.comp]
    split <;> rfl
  show ms.map (·.unit) = _
  rw [planned, spreadPhases_units, List.map_map]
  exact List.map_congr_left (fun _ _ => rfl)

/-- A period begins: the refunds, the generator's record, and the off-phases of the members that stay off. -/
theorem State.beginPeriod_spec (g b : Nat) : ∃ (v : State) (width : Nat → Nat), v.load = s.load ∧
    s.beginPeriod g b = ((s.periodOf g b width).mems.filter (fun m => m.pulsing && m.off && m.offEdge.isNone)).foldl
      (fun s m => s.unitOffEdge m.unit m.free) (v.setGen g (s.periodOf g b width)) := by
  unfold State.beginPeriod
  extract_lets x per ms v ms' w
  have load : v.load = s.load := by
    refine State.load_foldl (fun t m => ?_) _ s
    split
    · exact (State.refundPulse_load ..).trans (State.refundPulse_load ..)
    · rfl
  exact ⟨v, v.minWidth, load, rfl⟩

/-- What a period boundary does (05 R149): the generator's record, its other generators, and no channel where no member stays off. -/
theorem State.beginPeriod_record {g b : Nat} (lt : g < 16) :
    ∃ width, (s.beginPeriod g b).genOf g = s.periodOf g b width ∧ (∀ k, k ≠ g → (s.beginPeriod g b).genOf k = s.genOf k) ∧
      ((∀ m ∈ (s.periodOf g b width).mems, m.pulsing = true → m.off = true → m.offEdge ≠ none) → (s.beginPeriod g b).load.ch = s.load.ch) := by
  obtain ⟨v, width, load, eq⟩ := s.beginPeriod_spec g b
  have gen : (s.beginPeriod g b).load.gen = (v.setGen g (s.periodOf g b width)).load.gen := by
    rw [eq]
    exact State.gen_foldl (step := fun s (m : PMem) => s.unitOffEdge m.unit m.free) (fun t m => State.unitOffEdge_gen (s := t) m.unit m.free) _ _
  have genOf (k : Nat) : (s.beginPeriod g b).genOf k = if g = k ∧ g < 16 then s.periodOf g b width else s.genOf k := by
    rw [State.genOf, gen, ← State.genOf, State.genOf_setGen]
    simp only [State.genOf, load]
  refine ⟨width, ?_, fun k ne => ?_, fun off => ?_⟩
  · rw [genOf, if_pos ⟨rfl, lt⟩]
  · rw [genOf, if_neg (fun h => ne h.1.symm)]
  · have none' : (s.periodOf g b width).mems.filter (fun m => m.pulsing && m.off && m.offEdge.isNone) = [] := by
      refine List.filter_eq_nil_iff.mpr (fun m mem stays => ?_)
      simp only [Bool.and_eq_true, Option.isNone_iff_eq_none] at stays
      obtain ⟨⟨pulsing, still⟩, edge⟩ := stays
      exact off m mem pulsing still edge
    rw [eq, none', List.foldl_nil]
    show v.load.ch = s.load.ch
    rw [load]

end

/-! ### The edges of a channel (05 R150, R152) -/

section
variable {s : State} {n : Nat}

/-- The on-edge of a channel whose inrush has ended: its switch turns on in its drive. -/
theorem State.unitOnEdge_channel (lt : n < 64) (follows : s.onSchedule n = true) (plain : s.bridge n = false) (due : (s.chan n).inrDue = false)
    (dir : Bool) : s.unitOnEdge n dir = s.pulseGate n (.drive (s.chan n).drive) := by
  simp [State.unitOnEdge, State.leavesOf_channel lt, follows, State.leafOnEdge, plain, due]

/-- The off-edge of a channel without freewheeling: its gate turns off. -/
theorem State.unitOffEdge_channel (lt : n < 64) (follows : s.onSchedule n = true) (due : (s.chan n).inrDue = false) :
    s.unitOffEdge n false = (s.endOnPhase n).pulseGate n .off := by
  simp [State.unitOffEdge, State.leavesOf_channel lt, follows, due, State.leafOffEdge, State.offGate]

theorem State.chan_pulseGate (lt : n < 64) (x : Gate) : (s.pulseGate n x).chan n = (s.chan n).toGate x (.set x) s.now := s.chan_modChan_self lt _

/-- A gate that is off with no switch to wait for turns on at once. -/
theorem Chan.toGate_of_rest {c : Chan} (off : c.gate = .off) (open' : c.opened = none) (dead : c.dead = none) {x : Gate} (on : x ≠ .off)
    (act : DeadAct) (now : Nat) : c.toGate x act now = { c with gate := x } := by
  rw [Chan.toGate_of_free on (by simp [Chan.deadFrom, off, open']), ← dead]

end

section
variable {s : State} {g : Lapse} {gen : Fin 16} {n : Fin 64} {m : PMem} {e : Nat}

/-- A member after its on-edge, and after its off-edge. -/
def PMem.edgeOn (m : PMem) (e : Nat) (w : Option Nat) : PMem := { m with onEdge := none, offEdge := w.map (e + ·) }
def PMem.edgeOff (m : PMem) : PMem := { m with offEdge := none }

theorem exec_periodBoundary (en : ((s.pass g).genOf gen).en = true) (up : (s.pass g).pd 3 = true)
    (time : ((s.pass g).genOf gen).start + ((s.pass g).genOf gen).per ≤ (s.pass g).now) :
    exec (.periodBoundary g gen) s = .next ((s.pass g).beginPeriod gen (((s.pass g).genOf gen).start + ((s.pass g).genOf gen).per)) := by
  show execPeriodBoundary g gen s = _
  simp [execPeriodBoundary, en, up, time]

theorem exec_pulseOnEdge {w : Option Nat} (mem : (s.pass g).memOf gen n = some m) (pulsing : m.pulsing = true) (edge : m.onEdge = some (e, w))
    (time : e ≤ (s.pass g).now) (up : (s.pass g).pd 3 = true) :
    exec (.pulseOnEdge g gen n) s =
      .next (((s.pass g).modMem gen n (fun m => m.edgeOn e w)).unitOnEdge n m.dir) := by
  show execPulseOnEdge g gen n s = _
  simp [execPulseOnEdge, mem, pulsing, edge, time, up, PMem.edgeOn]

theorem exec_pulseOffEdge (mem : (s.pass g).memOf gen n = some m) (pulsing : m.pulsing = true) (edge : m.offEdge = some e)
    (time : e ≤ (s.pass g).now) (up : (s.pass g).pd 3 = true) :
    exec (.pulseOffEdge g gen n) s = .next (((s.pass g).modMem gen n PMem.edgeOff).unitOffEdge n m.free) := by
  show execPulseOffEdge g gen n s = _
  simp only [execPulseOffEdge, mem, pulsing, edge, time, up, decide_true, Bool.and_self, if_true]
  rfl

end

section
variable {s t : State}

theorem State.feedInRange_of_pwr (same : t.pwr = s.pwr) (f : Feed) : t.feedInRange f = s.feedInRange f := by
  cases f <;> simp only [State.feedInRange, same]

theorem State.feedInRange_setFeed (s : State) (f : Feed) (ok : Bool) (volt : Nat) : (s.setFeed f ok volt).feedInRange f = ok := by
  cases f <;> rfl

end

/-- A restore within a second of the loss, and one that comes later, at a channel that waits. -/
theorem State.leadsRestored_waiting {v : State} {f : Feed} {n k : Nat} (single : v.single) (lt : n < 64) (own : v.owner n = n) (on : onFeed f n = true)
    (up : v.seqUp n = true) (feed : v.feedOk n = true) (lost : (v.chan n).lostAt = some k) (st : (v.chan n).st = .grantWait) :
    (v.now < k + 200000000 → (v.chan n).revAt = none → (v.chan n).dead = none →
      ((v.leadsRestored f).chan n).lostAt = none ∧ ∃ r ∈ (v.leadsRestored f).iso.pend, r.num = n ∧ r.kind = .turnOn ∧ r.stamp = v.now) ∧
    (k + 200000000 ≤ v.now → ((v.leadsRestored f).chan n).st = .off ∧ ((v.leadsRestored f).chan n).fault = 0x20) := by
  obtain ⟨t, steady, same, record, keeps⟩ := State.leadsRestored_own single lt own on up
  have alone : Alone t n := (⟨lt, own, State.parentOf_of_single single n⟩ : Alone v n).steady steady
  have feed' : t.feedOk n = true := (steady.feedOk n).trans feed
  have asked := State.askRestored_makes (s := t) lt
  have alone' := alone.steady asked.steady
  rw [← same] at lost st ⊢
  refine ⟨fun soon calm free => ?_, fun late => ?_⟩
  · have eq := State.chanRestored_of_soon alone lost st feed' (by rw [steady.now]; exact soon) calm free
    rw [eq] at record keeps
    obtain ⟨r, mem, mine, stamp⟩ := State.requestFor_own alone' alone'.gang
    refine ⟨?_, r, keeps r mem mine, mine.num, mine.kind, stamp.trans (asked.steady.now.trans steady.now)⟩
    rw [record, State.chan_requestFor, asked.record]
  · rw [record, State.chanRestored_of_late alone lost st feed' (by rw [steady.now]; exact late),
      (State.abandonLost_makes lt alone.gang).record]
    exact ⟨rfl, rfl⟩

/-- Settles O25, a lead after another for the feeds. -/
theorem feedsAndPulses : Obligations.FeedsAndPulses := by
  intro s g f n volt gen u plain lost
  have lt := n.isLt
  have lostAs {t v : State} (h : LostAs u f volt n v) (load : t.load = v.load) (pwr : t.pwr = v.pwr) : lost t := by
    obtain ⟨feeds, on, down, other⟩ := h
    have same : t.pwr = (u.setFeed f false volt).pwr := pwr.trans feeds
    have chan : t.chan n = v.chan n := State.chan_of_load load n
    refine ⟨?_, ?_, fun feed even up st => ?_, fun feed even up energised => ?_, fun off => ?_⟩
    · exact (State.feedInRange_of_pwr same f).trans (State.feedInRange_setFeed ..)
    · rw [same]
      cases f <;> exact ⟨rfl, rfl⟩
    · rw [chan, on feed even up st]
      exact ⟨rfl, rfl, rfl, rfl⟩
    · rw [chan, down feed even up energised]
    · rw [chan, other off]
  and_intros
  · rintro ⟨single, standby⟩ ok low
    exact does_of_run (exec_feedLost ok low) (lostAs (State.loseFeed_spec single standby f volt lt) rfl rfl)
  · rintro ⟨single, standby⟩ ok high
    obtain ⟨l, run⟩ := exec_overvoltage ok high
    obtain ⟨load, pwr⟩ := State.banksLost_rest l (u.loseFeed f volt)
    exact does_of_run run (lostAs (State.loseFeed_spec single standby f volt lt) load pwr)
  · rintro ⟨single, standby⟩ out low high
    have single' : (u.setFeed f true volt).single := single
    have steady := State.leadsRestored_steady (f := f) single'
    refine does_of_run (exec_feedRestored out low high) ⟨?_, fun k on even up lostAt st => ?_⟩
    · exact (State.feedInRange_of_pwr steady.pwr f).trans (State.feedInRange_setFeed ..)
    · exact State.leadsRestored_waiting single' lt (State.owner_of_even even) on ((State.seqUp_setFeed ..).trans up) (u.feedOk_setFeed on volt)
        lostAt st
  · intro k gang lost st late out
    obtain ⟨about, record⟩ := State.abandonLost_makes lt gang
    refine does_of_run (exec_feedLostAbandon gang lost st late out) ⟨?_, ?_, ?_, about.others⟩ <;> rw [record] <;> rfl
  · intro en up time
    obtain ⟨width, record, others, still⟩ := State.beginPeriod_record (s := u) (b := (u.genOf gen).start + (u.genOf gen).per) gen.isLt
    refine does_of_run (exec_periodBoundary en up time) ⟨?_, ?_, ?_, fun k ne => others k (fun eq => ne (Fin.ext eq)), ?_⟩ <;> rw [record]
    · rfl
    · rfl
    · exact State.periodOf_units ..
    · exact still
  · intro m e w mem pulsing edge time up follows plain due off open' dead
    have member := State.memOf_modMem gen.isLt mem (fun m => m.edgeOn e w) (fun _ => rfl)
    refine does_of_run (exec_pulseOnEdge mem pulsing edge time up) ?_
    rw [State.unitOnEdge_channel (s := u.modMem gen n (fun m => m.edgeOn e w)) lt follows plain due]
    refine ⟨(State.chan_pulseGate lt _).trans ?_, member⟩
    exact Chan.toGate_of_rest (c := u.chan n) (x := .drive (u.chan n).drive) off open' dead Gate.noConfusion _ _
  · intro m e mem pulsing edge time up follows free due
    have member := State.memOf_modMem gen.isLt mem PMem.edgeOff (fun _ => rfl)
    refine does_of_run (exec_pulseOffEdge mem pulsing edge time up) ?_
    have same := State.unitOffEdge_gen (s := u.modMem gen n PMem.edgeOff) n m.free
    refine ⟨?_, ?_, ?_⟩
    · rw [free, State.unitOffEdge_channel (s := u.modMem gen n PMem.edgeOff) lt follows due, State.chan_pulseGate lt]
      rfl
    · rw [free, State.unitOffEdge_channel (s := u.modMem gen n PMem.edgeOff) lt follows due, State.chan_pulseGate lt]
      rfl
    · rw [State.memOf, State.genOf, same]
      exact member

end Sys2Proof.Machine
end

section
/-!
PROOFS. CHAN_CMD to a composite (04 R107, 05 R133, R145): its checks by whether the slot's EN is set; then O52.
-/
namespace Sys2Proof.Machine

/-! ### The checks of a CHAN_CMD to a composite -/

section
variable {u : State} {r : InReq} {c : UnitCmd} {cmd : Nat}

/-- The commands that a composite slot accepts (05 R145): LOW where EN is 0, or to a PARALLEL composite of class M. -/
theorem State.cmdValid_composite {n : Nat} (comp : 64 ≤ n) : u.cmdValid n cmd = true ↔
    cmd = 0 ∨ cmd = 1 ∨ cmd = 6 ∨ cmd = 0x10 ∨
      cmd = 2 ∧ ((u.compOf (n - 64)).en = false ∨ (u.compOf (n - 64)).par = true ∧ chClass ((u.compOf (n - 64)).members.headD 0) = 1) := by
  simp [State.cmdValid, Nat.not_lt.mpr comp, or_assoc]

/-- The first check of 04 R107: the unit, the option, the deadline and the command. -/
theorem State.chanCheck_of_range (bad : 95 < c.unit ∨ 1 < c.opt ∨ 60000 < c.deadline ∨ u.cmdValid c.unit cmd = false) :
    u.chanCheck r c cmd = some St.range := by
  unfold State.chanCheck
  exact if_pos (by simpa [or_assoc] using bad)

/-- A command with a valid option and deadline, of those that a composite accepts, finds a slot whose EN is 0 (05 R133). -/
theorem State.chanCheck_of_disabled (comp : 64 ≤ c.unit) (slot : c.unit ≤ 95) (off : (u.compOf (c.unit - 64)).en = false) (opt : c.opt ≤ 1)
    (deadline : c.deadline ≤ 60000) (valid : u.cmdValid c.unit cmd = true) : u.chanCheck r c cmd = some St.state := by
  unfold State.chanCheck
  rw [if_neg (by simp [slot, opt, deadline, valid]), if_pos (by simp [comp, off])]

/-- OFF of a top composite whose EN is 1 passes, where its leaves are in reach and the session may use it. -/
theorem State.chanCheck_off_of_enabled (comp : 64 ≤ c.unit) (slot : c.unit ≤ 95) (on : (u.compOf (c.unit - 64)).en = true) (opt : c.opt ≤ 1)
    (deadline : c.deadline ≤ 60000) (top : u.parentOf c.unit = none)
    (leaves : ∀ n ∈ u.leavesOf c.unit, u.pd (10 + dieOf n) = true ∧ u.boot.stuck.contains (5 + n) = false)
    (use : u.mayUse r 1 c.unit = true) : u.chanCheck r c 0 = none := by
  have valid : u.cmdValid c.unit 0 = true := (State.cmdValid_composite comp).mpr (.inl rfl)
  have reach : ∀ n ∈ u.leavesOf c.unit, 5 + n ∉ u.boot.stuck ∧ u.pd (10 + dieOf n) = true := fun n mem => by
    obtain ⟨up, free⟩ := leaves n mem
    exact ⟨by simpa using free, up⟩
  unfold State.chanCheck
  rw [if_neg (by simp [slot, opt, deadline, valid]), if_neg (by simp [Nat.not_lt.mpr comp, top, on, isTurnOn]; exact reach), if_neg (by simp),
    if_neg (by simp [use])]

end

/-- A CHAN_CMD that is taken and fails a check is answered with that check's status, and nothing else happens. -/
theorem does_chanCmd_refused {i : Instr} {s : State} {g : Lapse} {q : Rq} {c : UnitCmd} {cmd st : Nat} {act : State → State}
    (run : exec i s = .next ((s.pass g).chanCmd q c cmd act))
    (check : (s.pass g).chanCheck ((s.pass g).direct q 0x20 0 (unitCmdPayload c cmd)) c cmd = some st)
    (taken : Takes (s.pass g) q 0x20 0 (unitCmdPayload c cmd)) :
    Does i s (fun t => t = ((s.pass g).touch q.ses).answer ((s.pass g).direct q 0x20 0 (unitCmdPayload c cmd)) st 0 []) := by
  have check' : ((s.pass g).touch q.ses).chanCheck ((s.pass g).direct q 0x20 0 (unitCmdPayload c cmd)) c cmd = some st := check
  refine does_of_takes _ run taken ?_
  simp only [check']

/-- Settles O52, by the checks of R107: first RANGE, by the command, the option and the deadline; then STATE, by EN. -/
theorem compositeExists : Obligations.CompositeExists := by
  intro s g q c u v r refused comp slot
  refine ⟨fun off => ⟨fun opt deadline => ?_, fun bad => ?_, ?_⟩, fun on opt deadline top leaves use =>
    State.chanCheck_off_of_enabled comp slot on opt deadline top leaves use⟩
  · have state (k : Nat) (known : k = 0 ∨ k = 1 ∨ k = 6 ∨ k = 0x10 ∨ k = 2) : u.chanCheck (r k) c k = some St.state :=
      State.chanCheck_of_disabled comp slot off opt deadline ((State.cmdValid_composite comp).mpr (by simpa [off] using known))
    exact ⟨does_chanCmd_refused rfl (state 0 (by decide)), does_chanCmd_refused rfl (state 1 (by decide)),
      does_chanCmd_refused rfl (state 2 (by decide)), does_chanCmd_refused rfl (state 6 (by decide)),
      does_chanCmd_refused rfl (state 0x10 (by decide))⟩
  · have range (k : Nat) : u.chanCheck (r k) c k = some St.range :=
      State.chanCheck_of_range (.inr (bad.imp_right .inl))
    exact ⟨does_chanCmd_refused rfl (range 0), does_chanCmd_refused rfl (range 1), does_chanCmd_refused rfl (range 2),
      does_chanCmd_refused rfl (range 6), does_chanCmd_refused rfl (range 0x10)⟩
  · have range (k : Nat) (foreign : 3 ≤ k ∧ k ≤ 5) : u.chanCheck (r k) c k = some St.range := by
      have invalid : ¬u.cmdValid c.unit k = true := fun valid => by
        have known := (State.cmdValid_composite comp).mp valid
        omega
      exact State.chanCheck_of_range (.inr (.inr (.inr (Bool.eq_false_iff.mpr invalid))))
    exact ⟨does_chanCmd_refused rfl (range 3 (by decide)), does_chanCmd_refused rfl (range 4 (by decide)),
      does_chanCmd_refused rfl (range 5 (by decide))⟩

end Sys2Proof.Machine
end

section
/-!
PROOFS. A pass of the Isotherm arbiter (06 R168, R173, R174, R176) that finds one request: the grant that fits, the deferral of one that does
not, and a request that starts to block.
-/
namespace Sys2Proof.Machine

/-! ### What follows the pools (06 R175) -/

/-- Where neither the load channels nor the pair's role may change, the settings of the channels stay. -/
theorem Only.steady {s t : State} (h : Only [.atlas, .iso, .vlv, .evs, .ctl] s t) : Steady s t := by
  have load : t.load = s.load := h.same .load (by decide)
  have ilr : { t.il with ctl := [] } = { s.il with ctl := [] } := h.same .ilr (by decide)
  exact ⟨h.same .par (by decide), h.same .clk (by decide), h.same .pwr (by decide),
    show ({ t.il with ctl := [] } : Intlk).role = s.il.role by rw [ilr], by rw [load], by rw [load], by rw [load]⟩

/-- The three tests of R173. -/
theorem State.fits_iff {s : State} {ps ex q : Rat} :
    s.fits ps ex q = true ↔ s.isoS + ps ≤ s.budget ∧ ex ≤ s.iso.e ∧ s.isoS + ps + s.isoQ + q ≤ s.peak := by
  simp [State.fits, and_assoc]

/-- OVER follows the pools and its rise is reported: of the budget's record no other field changes. -/
structure Overs (s t : State) : Prop where
  only : Only [.atlas, .iso, .evs, .ctl] s t
  iso : ∃ o, t.iso = { s.iso with ovr := o }

section
variable {s t : State} (h : Overs s t)
include h

theorem Overs.steady : Steady s t := ((Only.refl _ s).after h.only (by decide)).steady
theorem Overs.load : t.load = s.load := h.only.same .load (by decide)
theorem Overs.chan (k : Nat) : t.chan k = s.chan k := by simp only [State.chan, h.load]
theorem Overs.about (n : Nat) : About n s t := ⟨h.steady, fun k _ _ => h.chan k⟩
theorem Overs.e : t.iso.e = s.iso.e := by obtain ⟨o, iso⟩ := h.iso; rw [iso]
theorem Overs.grants : t.iso.grants = s.iso.grants := by obtain ⟨o, iso⟩ := h.iso; rw [iso]
theorem Overs.pend : t.iso.pend = s.iso.pend := by obtain ⟨o, iso⟩ := h.iso; rw [iso]
theorem Overs.defers : t.iso.defers = s.iso.defers := by obtain ⟨o, iso⟩ := h.iso; rw [iso]
theorem Overs.learn : t.iso.learn = s.iso.learn := by obtain ⟨o, iso⟩ := h.iso; rw [iso]

/-- The tests of R173 do not read OVER. -/
theorem Overs.fits (ps ex q : Rat) : t.fits ps ex q = s.fits ps ex q := by
  rw [Bool.eq_iff_iff, State.fits_iff, State.fits_iff]
  simp only [State.isoS, State.isoQ, State.budget, State.peak, h.grants, h.e, h.steady.pf]

end

theorem State.checkOver_overs (s : State) (num : Option Nat) : Overs s (s.checkOver num) := by
  refine ⟨State.checkOver_only (.refl ..) (fun _ mem => mem), s.isOver, ?_⟩
  unfold State.checkOver
  extract_lets o was _ t
  have told (n pool mw mj : Nat) : (t.isoEvent n 3 pool mw mj 0).iso = t.iso :=
    (State.isoEvent_only (l := [.atlas, .evs, .ctl]) (.refl ..) (by decide)).same .iso (by decide)
  split
  · split
    · exact told ..
    · rfl
  · rfl

theorem State.isoEvent_reports (s : State) (num kind pool mw mj waited : Nat) : Reports s (s.isoEvent num kind pool mw mj waited) :=
  .of_only (State.isoEvent_only (.refl ..) (by decide))

theorem State.isoWait_reports (s : State) (num w : Nat) : Reports s (s.isoWait num w) := .of_only (State.isoWait_only (.refl ..) (by decide))

/-! ### A pass that finds one request (06 R173) -/

section
variable {s : State} {r : IsoReq}

/-- With nothing to give back, the first step of a pass only looks at OVER. -/
theorem State.applyRels_of_none (rels : s.iso.rels = []) : s.applyRels = s.checkOver none := by
  have same : { s with iso := { s.iso with rels := [] } } = s := by rw [← rels]
  show (s.iso.rels.foldl _ { s with iso := { s.iso with rels := [] } }).checkOver none = _
  rw [same, rels, List.foldl_nil]

/-- No bank takes the boost in a pass that grants no valve. -/
theorem State.valvesGranted_nil (s : State) : s.valvesGranted [] = s := rfl

theorem takenValves_of_channel (chan : r.num < 96) (after : List IsoReq) : takenValves [r] after = [] := by
  simp [takenValves, Nat.not_le.mpr chan]

theorem State.grantAll_single : s.grantAll 1 [r] = s.grantReq r := by
  simp [State.grantAll, nextReq]

/-- A pass that finds the request of one channel or composite: it is granted where it fits, else deferred, and OVER follows. -/
theorem State.arbiterPass_of_single (up : s.pd 3 = true) (free : s.load.held = false) (rels : s.iso.rels = []) (pend : s.iso.pend = [r])
    (chan : r.num < 96) :
    s.arbiterPass = (if s.fits r.ps r.ex r.q then (s.checkOver none).grantReq r else (s.checkOver none).deferReq r false).checkOver none := by
  have overs := s.checkOver_overs none
  have pend' : (s.checkOver none).iso.pend = [r] := overs.pend.trans pend
  unfold State.arbiterPass
  rw [if_neg (by simp [up, free]), State.applyRels_of_none rels]
  simp only [pend', takenValves_of_channel chan, State.valvesGranted_nil, List.foldl_cons, List.foldl_nil, zero_add, overs.fits,
    List.isEmpty_cons, Bool.false_eq_true, if_false, List.length_singleton, State.grantAll_single]
  by_cases fits : s.fits r.ps r.ex r.q = true
  · rw [if_pos fits, if_pos fits]
  · rw [if_neg fits, if_neg fits]
    simp [sortReqs, insertReq, State.grantInOrder, overs.fits, fits]

end

/-! ### The grant (06 R173, 04 R104) -/

section
variable {s : State} {n : Nat}

/-- The odd half of a bridge takes its inrush settings with the even one. -/
theorem About.armOdd {t : State} (h : About n s t) (bridge : t.bridge n = true) : About n s (t.armInrush (n + 1)) := by
  unfold State.armInrush
  extract_lets own u
  have first : About n t u := (About.refl n t).modOdd bridge _
  exact (h.trans first).modOdd ((first.steady.bridge n).trans bridge) _

theorem State.gateOn_about : About n s (s.gateOn n) := by
  obtain ⟨x, halves⟩ : ∃ x, s.gateOn n = ((s.setChan n x).halves n).foldl State.armInrush (s.setChan n x) := ⟨_, rfl⟩
  have set := (About.refl n s).setChan x
  rw [halves, set.steady.halves]
  have first := set.trans State.armInrush_about
  unfold State.halves
  split
  next bridge => exact first.armOdd ((first.steady.bridge n).trans bridge)
  next => exact first

/-- A gate that holds nothing, and has not just gone off, turns on at once (04 R100). -/
theorem Chan.deadFrom_of_rest {c : Chan} (off : c.gate = .off) (opened : c.opened = none) (x : Gate) (now : Nat) : c.deadFrom x now = none := by
  simp [Chan.deadFrom, off, opened]

/-- A channel that waits for its grant and does not pulse enters INRUSH with its gate on. -/
theorem State.chanGranted_waiting (lt : n < 64) (st : (s.chan n).st = .grantWait) (off : (s.chan n).gate = .off)
    (opened : (s.chan n).opened = none) (still : s.pmem (s.topOf n) = none) :
    s.chanGranted n = (s.setChan n { s.chan n with st := .inrush }).gateOn n := by
  unfold State.chanGranted
  rw [st]
  simp only [still, Bool.false_eq_true, if_false, State.gateOnAfter, State.chan_modChan_self s lt,
    Chan.deadFrom_of_rest (c := { s.chan n with st := .inrush }) off opened]
  rfl

/-- What a grant makes of the record of its channel. -/
def Granted (c : Chan) (now : Nat) (d : Chan) : Prop := d.st = .inrush ∧ d.gate = .drive c.drive ∧ d.gateAt = now

theorem State.chanGranted_spec (lt : n < 64) (st : (s.chan n).st = .grantWait) (off : (s.chan n).gate = .off)
    (opened : (s.chan n).opened = none) (still : s.pmem (s.topOf n) = none) :
    About n s (s.chanGranted n) ∧ Granted (s.chan n) s.now ((s.chanGranted n).chan n) := by
  rw [State.chanGranted_waiting lt st off opened still]
  refine ⟨((About.refl n s).setChan _).trans State.gateOn_about, ?_⟩
  rw [State.gateOn_spec lt, State.chan_setChan_self s lt]
  exact ⟨rfl, rfl, rfl⟩

/-- The budget after the grant of a first-time turn-on: the request leaves, its energy leaves E, its shares are held. -/
def Iso.taking (i : Iso) (r : IsoReq) (now : Nat) : Iso :=
  { i with pend := i.pend.filter (fun x => !(x.num = r.num && x.kind = r.kind)), e := i.e - r.ex,
           grants := i.grants ++ r.shares.map (fun x => (⟨r.num, x, now, r.num ≠ 112, 0⟩ : Grant)) }

/-- A turn-on of one channel that has not been deferred takes from the pools, then turns the channel on. -/
theorem State.grantReq_channel {r : IsoReq} {x : Share} (num : r.num = n) (lt : n < 64) (kind : r.kind = .turnOn) (shares : r.shares = [x])
    (ch : x.ch = n) (first : r.first = none) :
    s.grantReq r = ((State.isoWait { s with iso := s.iso.taking r s.now } n 0).chanGranted n).settle n := by
  simp [State.grantReq, State.grantEffect, first, kind, shares, ch, num, show n < 96 by omega, Iso.taking, State.now]

theorem State.grantReq_spec {r : IsoReq} {x : Share} (num : r.num = n) (lt : n < 64) (kind : r.kind = .turnOn) (shares : r.shares = [x])
    (ch : x.ch = n) (first : r.first = none) (st : (s.chan n).st = .grantWait) (off : (s.chan n).gate = .off)
    (opened : (s.chan n).opened = none) (still : s.pmem (s.topOf n) = none) :
    About n s (s.grantReq r) ∧ Granted (s.chan n) s.now ((s.grantReq r).chan n) ∧ (s.grantReq r).iso = s.iso.taking r s.now := by
  rw [State.grantReq_channel num lt kind shares ch first]
  generalize taken : ({ s with iso := s.iso.taking r s.now } : State) = t
  have same : t.load = s.load := by rw [← taken]
  have paid : About n s t := by rw [← taken]; exact ⟨⟨rfl, rfl, rfl, rfl, rfl, rfl, rfl⟩, fun _ _ _ => rfl⟩
  have waits := t.isoWait_reports n 0
  have steady := paid.steady.trans waits.steady
  have record : (t.isoWait n 0).chan n = s.chan n := (waits.chan n).trans (State.chan_of_load same n)
  have still' : (t.isoWait n 0).pmem ((t.isoWait n 0).topOf n) = none := by
    rw [steady.topOf, ← still]
    simp only [State.pmem, State.genOf, waits.gen, same]
  obtain ⟨about, granted⟩ := State.chanGranted_spec (s := t.isoWait n 0) lt (record ▸ st) (record ▸ off) (record ▸ opened) still'
  have told := ((t.isoWait n 0).chanGranted n).settle_reports n
  refine ⟨((paid.trans (waits.about n)).trans about).trans (told.about n), ?_, ?_⟩
  · rw [told.chan, ← record, ← steady.now]
    exact granted
  · rw [told.iso, (State.chanGranted_only (l := [.load]) (.refl ..) (by decide)).same .iso (by decide), waits.iso, ← taken]

/-- A pass that finds one turn-on which fits: its energy and its share are taken, and its channel turns on. -/
theorem State.arbiterPass_granted {r : IsoReq} {x : Share} (up : s.pd 3 = true) (free : s.load.held = false) (rels : s.iso.rels = [])
    (pend : s.iso.pend = [r]) (num : r.num = n) (lt : n < 64) (kind : r.kind = .turnOn) (shares : r.shares = [x]) (ch : x.ch = n)
    (first : r.first = none) (st : (s.chan n).st = .grantWait) (off : (s.chan n).gate = .off) (opened : (s.chan n).opened = none)
    (still : s.pmem (s.topOf n) = none) (fits : s.fits r.ps r.ex r.q = true) :
    s.arbiterPass.iso.pend = [] ∧ s.arbiterPass.iso.e = s.iso.e - x.ex ∧
    s.arbiterPass.iso.grants = s.iso.grants ++ [⟨n, x, s.now, true, 0⟩] ∧
    Granted (s.chan n) s.now (s.arbiterPass.chan n) ∧ About n s s.arbiterPass := by
  rw [State.arbiterPass_of_single up free rels pend (by omega), if_pos fits]
  have before := s.checkOver_overs none
  generalize s.checkOver none = v at before ⊢
  have still' : v.pmem (v.topOf n) = none := by
    rw [before.steady.topOf, ← still]
    simp only [State.pmem, State.genOf, before.load]
  obtain ⟨about, granted, iso⟩ := State.grantReq_spec num lt kind shares ch first (before.chan n ▸ st) (before.chan n ▸ off)
    (before.chan n ▸ opened) still'
  have after := (v.grantReq r).checkOver_overs none
  refine ⟨?_, ?_, ?_, ?_, ((before.about n).trans about).trans (after.about n)⟩
  · rw [after.pend, iso]
    simp [Iso.taking, before.pend, pend]
  · rw [after.e, iso]
    simp [Iso.taking, before.e, IsoReq.ex, shares]
  · have wire : n ≠ 112 := by omega
    rw [after.grants, iso]
    simp [Iso.taking, before.grants, shares, num, wire, before.steady.now]
  · rw [after.chan, ← before.chan n, ← before.steady.now]
    exact granted

end

/-! ### The deferral (06 R176) -/

section
variable {s : State} {n : Nat} {r : IsoReq}

theorem State.isoMark_reports (chan : n < 96) (s : State) : Reports s (s.isoMark n) := by
  rw [State.isoMark, if_pos chan]
  exact s.markCmd_reports ..

/-- The only request of the list is the one that changes. -/
theorem State.modReq_pend (pend : s.iso.pend = [r]) (f : IsoReq → IsoReq) :
    s.modReq r f = { s with iso := { s.iso with pend := [f r] } } := by
  simp [State.modReq, pend]

/-- A standby's report of a deferral leaves the budget and the load (13 R352). -/
theorem Reports.paired {w x : State} (told : Reports w x) (c : Bool) (bit unit code value : Nat) :
    (if c then (x.pairErr bit).pairEvent unit code value else x).iso = w.iso ∧
    (if c then (x.pairErr bit).pairEvent unit code value else x).load.ch = w.load.ch := by
  have pair : Only [.atlas, .evs, .ilr, .ctl] x ((x.pairErr bit).pairEvent unit code value) :=
    State.pairEvent_only (State.pairErr_only (.refl ..) (by decide)) (by decide)
  split
  · rw [pair.same .iso (by decide), pair.same .load (by decide)]
    exact ⟨told.iso, told.ch⟩
  · exact ⟨told.iso, told.ch⟩

/-- The budget after a first deferral: the request keeps its place with the tick, and its deferrals count. -/
def Iso.deferring (i : Iso) (r : IsoReq) (now pool : Nat) : Iso :=
  { i with pool := i.pool.setIfInBounds r.num pool, pend := [{ r with first := some now }],
           defers := i.defers.setIfInBounds r.num (satInc 0xFFFF (i.defers.toList.getD r.num 0)) }

/-- A first deferral leaves the pools and the channels. -/
theorem State.deferReq_first (pend : s.iso.pend = [r]) (chan : r.num < 96) (first : r.first = none) (blocked : Bool) :
    (s.deferReq r blocked).iso = s.iso.deferring r s.now (s.shortPool r blocked) ∧ (s.deferReq r blocked).load.ch = s.load.ch := by
  simp only [State.deferReq, first, State.modReq_pend, pend]
  exact Reports.paired (((State.isoWait_reports ..).trans (State.isoMark_reports chan _)).trans (State.isoEvent_reports ..)) _ _ _ _ _

/-- A pass that finds one request which does not fit: it keeps its place with the tick, its deferrals count, and nothing is taken. -/
theorem State.arbiterPass_deferred (up : s.pd 3 = true) (free : s.load.held = false) (rels : s.iso.rels = []) (pend : s.iso.pend = [r])
    (num : r.num = n) (chan : n < 96) (first : r.first = none) (fits : s.fits r.ps r.ex r.q = false) :
    s.arbiterPass.iso.pend = [{ r with first := some s.now }] ∧ s.arbiterPass.iso.e = s.iso.e ∧ s.arbiterPass.iso.grants = s.iso.grants ∧
    s.arbiterPass.iso.defers.toList.getD n 0 = satInc 0xFFFF (s.iso.defers.toList.getD n 0) ∧ s.arbiterPass.load.ch = s.load.ch := by
  subst num
  rw [State.arbiterPass_of_single up free rels pend chan, if_neg (by simp [fits])]
  have before := s.checkOver_overs none
  generalize s.checkOver none = v at before ⊢
  obtain ⟨iso, ch⟩ := State.deferReq_first (before.pend.trans pend) chan first false
  have after := (v.deferReq r false).checkOver_overs none
  rw [after.pend, after.e, after.grants, after.defers, after.load, iso, ch, before.load]
  refine ⟨by rw [← before.steady.now]; rfl, before.e, before.grants, ?_, rfl⟩
  rw [Iso.deferring, getD_setIfInBounds, if_pos ⟨rfl, by omega⟩, before.defers]

/-! ### Blocking (06 R174) -/

theorem State.blocks_of_first {f : Nat} (first : r.first = some f) : s.blocks r = true ↔ f + 200000 * s.pf Pf.isoBlockMs_BLOCK ≤ s.now := by
  rw [State.blocks, first]
  exact decide_eq_true_iff

/-- A request that starts to block keeps its place; the rest of the budget stays. -/
theorem State.startBlock_iso (pend : s.iso.pend = [r]) (fresh : r.block = false) :
    (s.startBlock r).iso = { s.iso with pend := [{ r with block := true }] } := by
  simp only [State.startBlock, fresh, Bool.false_eq_true, if_false]
  rw [(State.isoEvent_reports ..).iso, State.modReq_pend pend]

end

end Sys2Proof.Machine
end

section
/-!
PROOFS. A step of the junction model, a true-up and a comparison with the sensors (06 R163, R167, R168, R170, R175): what each makes of one
channel, and what all of them together make of the pools; then O26.
-/
namespace Sys2Proof.Machine

/-! ### Case temperatures (06 R163) -/

/-- A die takes the temperature that its sensor gives, where it gives one. -/
def State.takeCase (s : State) (tcase : List Int) (d : Nat) : State :=
  s.setDie d { s.dieRec d with tcase := tcase.getD d (s.dieRec d).tcase }

theorem State.takeCases_dieRec (s : State) (tcase : List Int) (d : Fin 4) :
    (((List.range 4).foldl (fun s d => s.takeCase tcase d) s).dieRec d).tcase = tcase.getD d (s.dieRec d).tcase := by
  have four : List.range 4 = [0, 1, 2, 3] := rfl
  rw [four]
  fin_cases d <;> simp [State.takeCase, State.dieRec_setDie]

/-- The temperatures of the dies leave the settings, the channels and the budget. -/
theorem State.takeCases_rest (tcase : List Int) (l : List Nat) (s : State) :
    let t := l.foldl (fun s d => s.takeCase tcase d) s
    Steady s t ∧ t.load.ch = s.load.ch ∧ t.iso = s.iso := by
  induction l generalizing s with
  | nil => exact ⟨.refl s, rfl, rfl⟩
  | cons d l ih =>
    obtain ⟨steady, ch, iso⟩ := ih (s.takeCase tcase d)
    exact ⟨(Steady.trans (t := s.takeCase tcase d) ⟨rfl, rfl, rfl, rfl, rfl, rfl, rfl⟩ steady), ch.trans rfl, iso.trans rfl⟩

/-! ### The step of one channel (06 R163 to R166, R175) -/

/-- What the steps of the channels of a list make of the state: the mean current of each that runs is that of its samples, and no other
channel changes; the reservations and E stay. -/
structure Stepped (steps : List StepIn) (l : List Nat) (s t : State) : Prop where
  steady : Steady s t
  die : t.load.die = s.load.die
  e : t.iso.e = s.iso.e
  isoS : t.isoS = s.isoS
  adopted : ∀ k, (t.chan k).seed = true → (s.chan k).seed = true
  mean : ∀ k, k ∈ l → k < 64 → s.seqUp k = true → (t.chan k).imeas = stepMean k (samplesOf steps k)
  other : ∀ k, k ∉ l ∨ s.seqUp k = false → t.chan k = s.chan k

section
variable {steps : List StepIn} {s t u : State} {l m : List Nat} {n : Nat}

theorem Stepped.refl (steps : List StepIn) (s : State) : Stepped steps [] s s :=
  ⟨.refl s, rfl, rfl, rfl, fun _ seed => seed, fun _ mem => absurd mem List.not_mem_nil, fun _ _ => rfl⟩

theorem Stepped.trans (h : Stepped steps l s t) (k : Stepped steps m t u) : Stepped steps (l ++ m) s u where
  steady := h.steady.trans k.steady
  die := k.die.trans h.die
  e := k.e.trans h.e
  isoS := k.isoS.trans h.isoS
  adopted i seed := h.adopted i (k.adopted i seed)
  mean i mem lt up := by
    by_cases later : i ∈ m
    · exact k.mean i later lt ((h.steady.seqUp i).trans up)
    · rw [k.other i (.inl later)]
      exact h.mean i ((List.mem_append.mp mem).resolve_right later) lt up
  other i out := by
    rw [k.other i, h.other i]
    · exact out.imp_left (fun out mem => out (List.mem_append_left _ mem))
    · rw [h.steady.seqUp]
      exact out.imp_left (fun out mem => out (List.mem_append_right _ mem))

/-- A step outside an adoption only adds to the energy of an inrush. -/
theorem State.stepGrant_calm (w : Rat) :
    (s.stepGrant n false w).isoS = s.isoS ∧ (s.stepGrant n false w).iso.e = s.iso.e ∧ (s.stepGrant n false w).load = s.load ∧
    Steady s (s.stepGrant n false w) := by
  unfold State.stepGrant
  extract_lets o held
  rw [if_neg (by simp)]
  refine ⟨?_, rfl, rfl, ⟨rfl, rfl, rfl, rfl, rfl, rfl, rfl⟩⟩
  simp only [State.isoS, List.foldl_map]
  congr 1
  funext a x
  split <;> rfl

/-- What follows a step and leaves the channels, the dies and the pools. -/
theorem Stepped.keep (h : Stepped steps l s t) (steady : Steady t u) (ch : u.load.ch = t.load.ch) (die : u.load.die = t.load.die)
    (e : u.iso.e = t.iso.e) (isoS : u.isoS = t.isoS) : Stepped steps l s u := by
  have chan (k : Nat) : u.chan k = t.chan k := by simp only [State.chan, ch]
  exact ⟨h.steady.trans steady, die.trans h.die, e.trans h.e, isoS.trans h.isoS, fun k seed => h.adopted k (chan k ▸ seed),
    fun k mem lt up => (chan k).symm ▸ h.mean k mem lt up, fun k out => (chan k).trans (h.other k out)⟩

theorem Stepped.report (h : Stepped steps l s t) (told : Reports t u) : Stepped steps l s u :=
  h.keep told.steady told.ch told.die (by rw [told.iso]) (by rw [State.isoS, told.iso]; rfl)

theorem Stepped.grant (h : Stepped steps l s t) (w : Rat) : Stepped steps l s (t.stepGrant n false w) := by
  obtain ⟨isoS, e, load, steady⟩ := State.stepGrant_calm (s := t) (n := n) w
  exact h.keep steady (by rw [load]) (by rw [load]) e isoS

/-- A record of channel n, which runs, with the mean of its samples. -/
theorem Stepped.set (h : Stepped steps l s t) (own : l ⊆ [n]) (up : s.seqUp n = true) {c : Chan}
    (mean : n < 64 → c.imeas = stepMean n (samplesOf steps n)) (calm : c.seed = true → (t.chan n).seed = true) : Stepped steps [n] s (t.setChan n c) where
  steady := h.steady.trans (t.setChan_steady c)
  die := h.die
  e := h.e
  isoS := h.isoS
  adopted k seed := by
    rw [State.chan_setChan] at seed
    split at seed
    next here => exact h.adopted k (here.1 ▸ calm seed)
    next => exact h.adopted k seed
  mean k mem lt _ := by
    obtain rfl := List.mem_singleton.mp mem
    rw [State.chan_setChan_self t lt]
    exact mean lt
  other k out := by
    have ne : k ≠ n := by
      rintro rfl
      simp [up] at out
    rw [State.chan_setChan_ne t ne]
    exact h.other k (.inl (fun mem => ne (List.mem_singleton.mp (own mem))))

/-- The rise and the fall of the warning change its mark alone (06 R176). -/
theorem Stepped.warn (h : Stepped steps [n] s t) (up : s.seqUp n = true) (arm : Bool) :
    Stepped steps [n] s (t.modChan n (fun c => { c with warnArm := arm })) :=
  h.set (List.Subset.refl _) up (fun lt => h.mean n (List.mem_singleton_self n) lt up) (fun seed => seed)

/-- One channel's step, where it has not just been adopted. -/
theorem State.chanStep_stepped (old : State) (calm : (s.chan n).seed = false) : Stepped steps [n] s (s.chanStep old n steps) := by
  cases up : s.seqUp n
  · have still : s.chanStep old n steps = s := if_pos (by simp [up])
    rw [still]
    exact ⟨.refl s, rfl, rfl, rfl, fun _ seed => seed, fun k mem _ on => by simp [List.mem_singleton.mp mem, up] at on, fun _ _ => rfl⟩
  · unfold State.chanStep
    rw [if_neg (by simp [up])]
    extract_lets c samples p poles z pole tl on v w warn tj
    have set : Stepped steps [n] s v := (Stepped.refl steps s).set (List.nil_subset _) up (fun _ => rfl) Bool.noConfusion
    have grant : Stepped steps [n] s w := by
      show Stepped steps [n] s (v.stepGrant n c.seed _)
      rw [show c.seed = false from calm]
      exact set.grant _
    split
    · exact (grant.warn up false).report (State.isoEvent_reports ..)
    · split
      · exact grant.warn up true
      · exact grant

/-- A number above the channels reads as a channel at reset, which has not been adopted. -/
theorem State.calm_of_fin (calm : ∀ k : Fin 64, (s.chan k).seed = false) (k : Nat) : (s.chan k).seed = false := by
  by_cases lt : k < 64
  · exact calm ⟨k, lt⟩
  · simp [State.chan, List.getD_eq_getElem?_getD, Nat.not_lt.mp lt]

/-- The steps of a list of channels, none of which has just been adopted. -/
theorem State.chanSteps_stepped (old : State) (l : List Nat) (s : State) (calm : ∀ k, (s.chan k).seed = false) :
    Stepped steps l s (l.foldl (fun s n => s.chanStep old n steps) s) := by
  induction l generalizing s with
  | nil => exact .refl steps s
  | cons n l ih =>
    have first := State.chanStep_stepped (steps := steps) old (calm n)
    refine first.trans (ih _ (fun k => ?_))
    exact Bool.eq_false_iff.mpr (fun seed => by simpa [calm k] using first.adopted k seed)

end

/-! ### A step boundary (06 R163, R168) -/

section
variable {s : State} {tcase : List Int} {steps : List StepIn}

/-- The case temperatures, then the step of every channel. -/
def State.stepAll (s : State) (tcase : List Int) (steps : List StepIn) : State :=
  (List.range 64).foldl (fun t n => t.chanStep s n steps) ((List.range 4).foldl (fun t d => t.takeCase tcase d) s)

/-- E takes a ten-thousandth of the budget that is not reserved, up to CAP. -/
def State.refilled (s : State) : State :=
  { s with iso := { s.iso with e := min s.burstCap (s.iso.e + max 0 (s.budget - s.isoS) / 10000) } }

/-- What a step boundary has done before the refill: the case temperatures, the mean currents of the channels that run, and no change of
the pools nor of another channel. -/
structure AllStepped (tcase : List Int) (steps : List StepIn) (s t : State) : Prop where
  steady : Steady s t
  e : t.iso.e = s.iso.e
  isoS : t.isoS = s.isoS
  tcase : ∀ d : Fin 4, (t.dieRec d).tcase = tcase.getD d (s.dieRec d).tcase
  mean : ∀ n < 64, s.seqUp n = true → (t.chan n).imeas = stepMean n (samplesOf steps n)
  other : ∀ n, s.seqUp n = false → t.chan n = s.chan n

theorem State.stepAll_spec (calm : ∀ k : Fin 64, (s.chan k).seed = false) : AllStepped tcase steps s (s.stepAll tcase steps) := by
  obtain ⟨steady, ch, iso⟩ := State.takeCases_rest tcase (List.range 4) s
  have dies := s.takeCases_dieRec tcase
  unfold State.stepAll
  generalize (List.range 4).foldl (fun t d => t.takeCase tcase d) s = v at steady ch iso dies ⊢
  have chan (k : Nat) : v.chan k = s.chan k := by simp only [State.chan, ch]
  have stepped := State.chanSteps_stepped (steps := steps) s (List.range 64) v (fun k => chan k ▸ State.calm_of_fin calm k)
  refine ⟨steady.trans stepped.steady, by rw [stepped.e, iso], by rw [stepped.isoS, State.isoS, iso]; rfl, fun d => ?_,
    fun n lt up => ?_, fun n down => ?_⟩
  · rw [State.dieRec, stepped.die]
    exact dies d
  · exact stepped.mean n (List.mem_range.mpr lt) lt ((steady.seqUp n).trans up)
  · exact (stepped.other n (.inr ((steady.seqUp n).trans down))).trans (chan n)

/-- The refill is that of the pools before the step. -/
theorem AllStepped.refilled_e {t : State} (h : AllStepped tcase steps s t) :
    t.refilled.iso.e = min s.burstCap (s.iso.e + max 0 (s.budget - s.isoS) / 10000) := by
  simp only [State.refilled, State.burstCap, State.budget, h.e, h.isoS, h.steady.pf]

theorem exec_modelStep {g : Lapse} (due : (s.pass g).now % 20000 = 0) (up : (s.pass g).pd 3 = true) (free : (s.pass g).load.held = false)
    (calm : ∀ k : Fin 64, ((s.pass g).chan k).seed = false) :
    ∃ v, AllStepped tcase steps (s.pass g) v ∧ exec (.modelStep g tcase steps) s = .next (v.refilled.checkOver none) := by
  have stepped := State.stepAll_spec (tcase := tcase) (steps := steps) calm
  show ∃ v, _ ∧ execModelStep g tcase steps s = _
  unfold execModelStep
  rw [if_neg (by simp [due, up])]
  extract_lets _ _ w
  change AllStepped _ _ _ w at stepped
  clear_value w
  exact ⟨w, stepped, if_neg (by rw [stepped.steady.held, free]; exact Bool.false_ne_true)⟩

end

/-! ### True-ups (06 R170, R175) -/

section
variable {s u : State} {n : Nat}

/-- The budget with other learned currents. -/
def State.withLearn (s : State) (v : Vector Nat 113) : State := { s with iso := { s.iso with learn := v } }

/-- The current learned for n: its RMS current where it is ON and the interval holds samples of it, else the one before. -/
def State.learnedAt (s : State) (n : Nat) : Nat :=
  if (s.chan n).st = .on ∧ (s.chan n).tuOn ≠ 0 then (s.chan n).rms else s.iso.learn.toList.getD n 0

/-- A learned current is written under the channel's number, and changes nothing else. -/
theorem State.learnAt_spec (lt : n < 113) :
    ∃ v, s.learnAt n = s.withLearn v ∧ v.toList.getD n 0 = s.learnedAt n ∧
      ∀ k, k ≠ n → v.toList.getD k 0 = s.iso.learn.toList.getD k 0 := by
  by_cases learns : (s.chan n).st = .on ∧ (s.chan n).tuOn ≠ 0
  · refine ⟨s.iso.learn.setIfInBounds n (s.chan n).rms, if_pos (by simpa using learns), ?_, fun k ne => ?_⟩
    · rw [getD_setIfInBounds, if_pos ⟨rfl, lt⟩, State.learnedAt, if_pos learns]
    · rw [getD_setIfInBounds, if_neg (fun same => ne same.1.symm)]
  · exact ⟨s.iso.learn, if_neg (by simpa using learns), (if_neg learns).symm, fun _ _ => rfl⟩

theorem State.learnAll_spec {l : List Nat} (once : l.Nodup) (lt : ∀ k ∈ l, k < 113) (s : State) :
    ∃ v, l.foldl State.learnAt s = s.withLearn v ∧ (∀ k ∈ l, v.toList.getD k 0 = s.learnedAt k) ∧
      ∀ k, k ∉ l → v.toList.getD k 0 = s.iso.learn.toList.getD k 0 := by
  induction l generalizing s with
  | nil => exact ⟨s.iso.learn, rfl, fun k mem => absurd mem List.not_mem_nil, fun _ _ => rfl⟩
  | cons n l ih =>
    obtain ⟨out, once⟩ := List.nodup_cons.mp once
    obtain ⟨v, first, own, rest⟩ := s.learnAt_spec (lt n List.mem_cons_self)
    obtain ⟨w, later, mem, apart⟩ := ih once (fun k mem => lt k (List.mem_cons_of_mem n mem)) (s.withLearn v)
    refine ⟨w, by rw [List.foldl_cons, first, later]; rfl, fun k here => ?_, fun k there => ?_⟩
    · rcases List.mem_cons.mp here with rfl | here
      · exact (apart k out).trans own
      · have kept : (s.withLearn v).learnedAt k = s.learnedAt k := by
          show (if _ then _ else v.toList.getD k 0) = _
          rw [rest k (fun same => out (same ▸ here))]
          rfl
        exact (mem k here).trans kept
    · obtain ⟨ne, there⟩ := not_or.mp (fun h => there (List.mem_cons.mpr h))
      exact (apart k there).trans (rest k ne)

/-- The learning of every channel writes its learned current, and nothing else. -/
theorem State.learnChannels_spec (s : State) :
    ∃ v, (List.range 64).foldl State.learnAt s = s.withLearn v ∧ ∀ n < 64, v.toList.getD n 0 = s.learnedAt n := by
  obtain ⟨v, learned, mem, -⟩ := State.learnAll_spec (l := List.range 64) List.nodup_range
    (fun k mem => (List.mem_range.mp mem).trans (by decide)) s
  exact ⟨v, learned, fun n lt => mem n (List.mem_range.mpr lt)⟩

/-- A channel whose true-up interval begins. -/
def Chan.unsampled (c : Chan) : Chan := { c with tuP := 0, tuN := 0, tuSq := 0, tuOn := 0 }

/-- Every interval begins anew. -/
def State.unsampled (s : State) : State := (List.range 64).foldl (fun s n => s.modChan n Chan.unsampled) s

theorem State.unsampled_iso (s : State) : s.unsampled.iso = s.iso :=
  (Only.foldl (l := [.load]) (.refl _ s) (fun _ _ => State.modChan_only (.refl ..) (by decide))).same .iso (by decide)

theorem State.chan_unsampled (lt : n < 64) : s.unsampled.chan n = (s.chan n).unsampled := by
  obtain ⟨-, -, chan⟩ := chan_foldl_mod (step := fun s n => s.modChan n Chan.unsampled) (f := fun _ => Chan.unsampled) (fun _ _ => rfl)
    (fun t i => ⟨t, .refl t, rfl⟩) (List.range 64) s
  exact (chan n).trans (if_pos ⟨List.mem_range.mpr lt, lt⟩)

/-- The request numbers of channels and composites that hold grants. -/
def State.unitNums (s : State) : List Nat := ((s.iso.grants.map (·.num)).filter (· < 96)).eraseDups

/-- The true-up of a valve or the matrix by what is given. -/
def State.trueGiven (s : State) (m : TrueUpIn) : State :=
  if s.trueable m.num then { s with iso := { s.iso with grants := trueGrants s.iso.grants m.num m.mw } }.checkOver (some m.num) else s

theorem State.unitNums_of_given (given : ∀ y ∈ s.iso.grants, 96 ≤ y.num) : s.unitNums = [] := by
  have none' : (s.iso.grants.map (·.num)).filter (· < 96) = [] := by
    simpa [List.filter_eq_nil_iff] using given
  rw [State.unitNums, none', List.eraseDups_nil]

theorem State.unitNums_of_single (some' : s.iso.grants ≠ []) (lt : n < 96) (own : ∀ y ∈ s.iso.grants, y.num = n) : s.unitNums = [n] := by
  obtain ⟨y, l, eq⟩ := List.exists_cons_of_ne_nil some'
  have head : y.num = n := own y (by simp [eq])
  have tail : ∀ z ∈ l, z.num = n := fun z mem => own z (by simp [eq, mem])
  have all : ∀ k ∈ (l.map (·.num)).filter (· < 96), k = n := by
    simpa using fun z mem _ => tail z mem
  have gone : ((l.map (·.num)).filter (· < 96)).filter (fun k => !k == n) = [] := by
    rw [List.filter_eq_nil_iff]
    exact fun k mem => by simp [all k mem]
  rw [State.unitNums, eq, List.map_cons, head, List.filter_cons_of_pos (by simpa using lt), List.eraseDups_cons, gone, List.eraseDups_nil]

/-- A unit that is on holds a grant. -/
theorem State.grants_of_trueable (on : s.trueable n = true) : s.iso.grants ≠ [] := by
  intro none'
  simp [State.trueable, none'] at on

/-- A true-up after the learning: of the units by their samples, then of valves and the matrix by what is given. -/
def State.trueAll (s : State) (ms : List TrueUpIn) : State :=
  ((ms.filter (fun m => 96 ≤ m.num.val)).foldl State.trueGiven (s.unitNums.foldl State.trueUnit s)).unsampled

theorem State.trueAll_given {num : Fin 113} (high : 96 ≤ num.val) (mw : Nat) (own : ∀ y ∈ s.iso.grants, y.num = num.val)
    (on : s.trueable num = true) :
    (s.trueAll [⟨num, mw⟩]).iso.grants = trueGrants s.iso.grants num mw ∧ (s.trueAll [⟨num, mw⟩]).iso.e = s.iso.e := by
  have none' : s.unitNums = [] := State.unitNums_of_given (fun y mem => own y mem ▸ high)
  have given : s.trueGiven ⟨num, mw⟩ = _ := if_pos on
  rw [State.trueAll, State.unsampled_iso, List.filter_cons_of_pos (by simpa using high), List.filter_nil, none', List.foldl_nil, List.foldl_cons,
    List.foldl_nil, given, (State.checkOver_overs ..).grants, (State.checkOver_overs ..).e]
  exact ⟨rfl, rfl⟩

/-- The only unit with grants is trued up by its samples, and every interval begins anew. -/
theorem State.trueAll_unit (lt : n < 64) (own : ∀ y ∈ s.iso.grants, y.num = n ∧ (s.chan y.share.ch).tuN ≠ 0) (on : s.trueable n = true) :
    (s.trueAll []).iso.grants = s.trueShares n ∧ (s.trueAll []).iso.e = s.iso.e ∧ (s.trueAll []).chan n = (s.chan n).unsampled ∧
    (s.trueAll []).iso.learn = s.iso.learn := by
  have one : s.unitNums = [n] := State.unitNums_of_single (State.grants_of_trueable on) (by omega) (fun y mem => (own y mem).1)
  have sampled : (s.iso.grants.filter (fun y => y.num = n)).all (fun y => (s.chan y.share.ch).tuN ≠ 0) = true := by
    simpa using fun y mem => .inr (own y mem).2
  have unit : s.trueUnit n = ({ s with iso := { s.iso with grants := s.trueShares n } }).checkOver (some n) :=
    if_pos (by rw [on, sampled]; rfl)
  have after := ({ s with iso := { s.iso with grants := s.trueShares n } } : State).checkOver_overs (some n)
  rw [State.trueAll, State.unsampled_iso, State.chan_unsampled lt, List.filter_nil, List.foldl_nil, one, List.foldl_cons, List.foldl_nil, unit,
    after.grants, after.e, after.learn, after.chan]
  exact ⟨rfl, rfl, rfl, rfl⟩

theorem exec_trueUp {g : Lapse} {ms : List TrueUpIn} (due : (s.pass g).now % 2000000 = 0) (up : (s.pass g).pd 3 = true)
    (free : (s.pass g).load.held = false) (learned : (List.range 64).foldl State.learnAt (s.pass g) = u) :
    exec (.trueUp g ms) s = .next (u.trueAll ms) := by
  show execTrueUp g ms s = _
  unfold execTrueUp
  rw [if_neg (by simp [due, up, show s.load.held = false from free]), learned]
  rfl

end

/-! ### The comparison with a sensor (06 R167) -/

section
variable {s : State} {n : Nat}

theorem exec_divergenceCheck {g : Lapse} {n : Fin 64} {v : Int} (due : (s.pass g).now % 200000 = 0) (up : (s.pass g).seqUp n = true) :
    exec (.divergenceCheck g [(n, v)]) s = .next ((s.pass g).diverge n v) := by
  show execDivergenceCheck g [(n, v)] s = _
  simp [execDivergenceCheck, due, up]

/-- The limit of the comparison is no negative temperature. -/
theorem State.divergeLimit_nonneg : (0 : Rat) ≤ (s.pf Pf.isoDiverge_DIV : Rat) / 10 := by positivity

theorem State.diverge_within {v : Int} (above : s.tj n - (v : Rat) / 10 ≤ (s.pf Pf.isoDiverge_DIV : Rat) / 10)
    (below : -(s.tj n - (v : Rat) / 10) ≤ (s.pf Pf.isoDiverge_DIV : Rat) / 10) :
    s.diverge n v = s.setChan n { s.chan n with diverged := 0 } := by
  refine if_pos ?_
  split <;> assumption

theorem State.diverge_beyond {v : Int} (beyond : (s.pf Pf.isoDiverge_DIV : Rat) / 10 < s.tj n - (v : Rat) / 10 ∨
      (s.pf Pf.isoDiverge_DIV : Rat) / 10 < -(s.tj n - (v : Rat) / 10)) (few : (s.chan n).diverged < 9) :
    s.diverge n v = s.setChan n { s.chan n with diverged := (s.chan n).diverged + 1 } := by
  have limit := s.divergeLimit_nonneg
  refine (if_neg ?_).trans (if_pos (by omega))
  rw [not_le]
  split
  · exact beyond.resolve_left (by linarith)
  · exact beyond.resolve_right (by linarith)

end

/-! ### The clauses of O26 -/

section
variable {s : State} {g : Lapse} {r : IsoReq} {n : Fin 64}

/-- The only request starts to block (06 R174). -/
theorem exec_blockTimeout {num : Fin 113} {f : Nat} (pend : (s.pass g).iso.pend = [r]) (own : r.num = num) (first : r.first = some f)
    (time : f + 200000 * (s.pass g).pf Pf.isoBlockMs_BLOCK ≤ (s.pass g).now) :
    exec (.blockTimeout g num) s = .next ((s.pass g).startBlock r) := by
  show Host.Outcome.next (((s.pass g).iso.pend.filter _).foldl _ _) = _
  rw [pend, List.filter_cons_of_pos (by simp [own, (State.blocks_of_first first).mpr time])]
  rfl

/-- Settles O26: a pass by what it does with its one request, a step and a true-up by what they make of a channel and of the pools. -/
theorem heatBudget : Obligations.HeatBudget := by
  intro s g n r x u c
  have lt := n.isLt
  and_intros
  · intro up free rels pend num kind shares ch first st off opened still fits
    obtain ⟨gone, e, grants, ⟨inrush, gate, gateAt⟩, about⟩ :=
      State.arbiterPass_granted up free rels pend num lt kind shares ch first st off opened still fits
    exact does_of_run rfl ⟨gone, e, grants, inrush, gate, gateAt, about.others⟩
  · intro up free rels pend num first fits
    exact does_of_run rfl (State.arbiterPass_deferred up free rels pend num (by omega) first fits)
  · intro tcase steps due up free calm
    obtain ⟨v, stepped, run⟩ := exec_modelStep (tcase := tcase) (steps := steps) due up free calm
    have overs := v.refilled.checkOver_overs none
    refine does_of_run run ⟨overs.e.trans stepped.refilled_e, fun d => ?_, fun runs => ?_, fun down => ?_⟩
    · rw [State.dieRec, overs.load]
      exact stepped.tcase d
    · rw [overs.chan]
      exact stepped.mean n lt runs
    · rw [overs.chan]
      exact stepped.other n down
  · intro num mw due up free high own on
    obtain ⟨v, learned, -⟩ := u.learnChannels_spec
    exact does_of_run (exec_trueUp due up free learned) (State.trueAll_given high mw own on)
  · intro due up free own on
    obtain ⟨v, learned, currents⟩ := u.learnChannels_spec
    obtain ⟨grants, e, record, learn⟩ := State.trueAll_unit (s := u.withLearn v) lt own on
    exact does_of_run (exec_trueUp due up free learned) ⟨grants, e, record, learn ▸ currents n lt⟩
  · intro v d lim due up
    exact ⟨fun above below => does_of_run (exec_divergenceCheck due up) (State.diverge_within above below),
      fun beyond few => does_of_run (exec_divergenceCheck due up) (State.diverge_beyond beyond few)⟩
  · intro num f pend own first time fresh
    refine does_of_run (exec_blockTimeout pend own first time) ?_
    rw [State.startBlock_iso pend fresh]
    exact ⟨rfl, rfl, rfl⟩

end

end Sys2Proof.Machine
end

section
/-!
PROOFS. Contour telemetry (06 R179 to R186): the greedy search for a segment, the end of a window with one stream, and the datagram of the
oldest window; then O27.
-/
namespace Sys2Proof.Machine

/-! ### The segments of the piecewise-linear mode (06 R180, R182) -/

section
variable {eps : Nat} {a : Int} {xs : List Int} {n : Nat}

/-- The greedy search stops at its first length, or at one that it has tested. -/
theorem segValid_segLen (fuel start : Nat) : segLen eps a xs fuel start = start ∨ segValid eps a xs (segLen eps a xs fuel start) = true := by
  induction fuel generalizing start with
  | zero => exact .inl rfl
  | succ fuel ih =>
    unfold segLen
    split
    next longer =>
      have valid : segValid eps a xs (start + 1) = true := by simpa using (Bool.and_eq_true_iff.mp longer).2
      rcases ih (start + 1) with stop | further
      · rw [stop]
        exact .inr valid
      · exact .inr further
    next => exact .inl rfl

/-- Every sample before the end of a valid segment lies within ε of its line. -/
theorem segValid_iff : segValid eps a xs n = true ↔
    ∀ k, k + 1 < n → (lineAt a (xs.getD (n - 1) 0) n (k + 1) - xs.getD k 0).natAbs ≤ eps := by
  simp [segValid, Nat.lt_sub_iff_add_lt]

end

/-! ### The end of a window (06 R179, R186) -/

section
variable {s : State} {g : Lapse} {w : StreamWin}

/-- Writing the record that a channel has. -/
theorem State.setChan_chan (s : State) (n : Nat) : s.setChan n (s.chan n) = s := by
  have same : s.load.ch.setIfInBounds n (s.chan n) = s.load.ch := by
    refine Vector.ext (fun i lt => ?_)
    rw [Vector.getElem_setIfInBounds]
    split
    next eq => subst eq; simp [State.chan, List.getD_eq_getElem?_getD, lt]
    next => rfl
  rw [State.setChan, same]

/-- A channel's trips once those stamped before a tick have been sent. -/
def Chan.sendTrips (now : Nat) (c : Chan) : Chan := { c with trips := c.trips.filter (fun p => now ≤ p.2) }

theorem Chan.sendTrips_twice (now : Nat) (c : Chan) : (c.sendTrips now).sendTrips now = c.sendTrips now := by
  simp [Chan.sendTrips]

theorem Chan.sendTrips_of_none {c : Chan} (none' : c.trips = []) (now : Nat) : c.sendTrips now = c := by
  rw [Chan.sendTrips, none', List.filter_nil, ← none']

/-- Every channel gives up the trips of the window that ends (02 R61). -/
def State.sendTrips (s : State) : State :=
  (List.range 64).foldl (fun s n => if (s.chan n).trips.isEmpty then s else s.modChan n (Chan.sendTrips s.now)) s

/-- A channel without trips stays, so that every channel can be taken alike. -/
theorem State.sendTrips_step (s : State) (n : Nat) :
    (if (s.chan n).trips.isEmpty then s else s.modChan n (Chan.sendTrips s.now)) = s.modChan n (Chan.sendTrips s.now) := by
  split
  next none' => rw [State.modChan_eq, Chan.sendTrips_of_none (List.isEmpty_iff.mp none'), State.setChan_chan]
  next => rfl

theorem State.chan_sendTrips (n : Fin 64) : s.sendTrips.chan n = (s.chan n).sendTrips s.now := by
  obtain ⟨-, -, chan⟩ := chan_foldl_mod Chan.sendTrips_twice (fun t i => ⟨t, .refl t, State.sendTrips_step t i⟩) (List.range 64) s
  exact (chan n).trans (if_pos ⟨List.mem_range.mpr n.isLt, n.isLt⟩)

theorem State.sendTrips_ctr (s : State) : s.sendTrips.ctr = s.ctr := by
  refine (Only.foldl (l := [.load]) (.refl _ s) (fun t i => ?_)).same .ctr (by decide)
  rw [State.sendTrips_step]
  exact State.modChan_only (.refl ..) (by decide)

/-- The stream of a window is enabled by the configuration in force (06 R179). -/
def State.streamOn (s : State) (w : StreamWin) : Bool := (streamCfg ((kvGet w.ch s.ctr.inForce).getD 0) w.sig).2

/-- The blocks that the end of a window with one stream queues. -/
def State.windowBlocks (s : State) (w : StreamWin) : List CtrBlock :=
  if s.pd 15 && s.streamOn w then s.streamBlocks w (s.now / 200000 - 1) (64 ≤ s.ctr.queue.length) else []

/-- Contour's record after the end of a window with one stream. -/
def State.windowCtr (s : State) (w : StreamWin) : Contour :=
  { s.ctr with queue := if (s.windowBlocks w).isEmpty then s.ctr.queue else s.ctr.queue ++ [(s.now / 200000 - 1, s.windowBlocks w)],
               inForce := s.ctrCfgs, last := Machine.keepLast s.ctr.last w }

/-- The state after the end of a window with one stream. -/
def State.windowEnd (s : State) (w : StreamWin) : State :=
  if s.pd 15 then State.sendTrips { s with ctr := s.windowCtr w } else { s with ctr := s.windowCtr w }

theorem State.windowEnd_ctr (s : State) (w : StreamWin) : (s.windowEnd w).ctr = s.windowCtr w := by
  unfold State.windowEnd
  split
  · rw [State.sendTrips_ctr]
  · rfl

theorem State.chan_windowEnd (power : s.pd 15 = true) (n : Fin 64) : (s.windowEnd w).chan n = (s.chan n).sendTrips s.now := by
  rw [State.windowEnd, if_pos power, State.chan_sendTrips]
  rfl

theorem State.load_windowEnd (power : s.pd 15 = false) : (s.windowEnd w).load = s.load := by
  rw [State.windowEnd, power]
  rfl

theorem exec_contourWindowEnd (due : (s.pass g).now % 200000 = 0) (late : (s.pass g).now ≠ 0) (up : (s.pass g).pd 3 = true) :
    exec (.contourWindowEnd g [w]) s = .next ((s.pass g).windowEnd w) := by
  show execContourWindowEnd g [w] s = _
  unfold execContourWindowEnd
  rw [if_neg (by simp [due, late, up])]
  extract_lets win en full bs _ t
  have blocks : bs = (s.pass g).windowBlocks w := by
    cases power : (s.pass g).pd 15
    · simp [bs, State.windowBlocks, power]
    · cases on : (s.pass g).streamOn w
      · have none' : en = [] := List.filter_cons_of_neg (by simpa [State.streamOn] using on)
        simp [bs, State.windowBlocks, power, on, none']
      · have one : en = [w] := List.filter_cons_of_pos (by simpa [State.streamOn] using on)
        simp [bs, State.windowBlocks, power, on, one, win, full]
  have written : t = { s.pass g with ctr := (s.pass g).windowCtr w } := by
    rw [State.windowCtr, ← blocks]
    rfl
  rw [written]
  rfl

theorem State.windowBlocks_of_off (off : s.pd 15 = false ∨ s.streamOn w = false) : s.windowBlocks w = [] := by
  rcases off with off | off <;> simp [State.windowBlocks, off]

theorem State.windowBlocks_of_on (power : s.pd 15 = true) (on : s.streamOn w = true) :
    s.windowBlocks w = s.streamBlocks w (s.now / 200000 - 1) (64 ≤ s.ctr.queue.length) := by
  simp [State.windowBlocks, power, on]

/-- Blocks that there are join the queue under the number of their window. -/
theorem State.windowCtr_queue {bs : List CtrBlock} (blocks : s.windowBlocks w = bs) (some' : bs ≠ []) :
    (s.windowCtr w).queue = s.ctr.queue ++ [(s.now / 200000 - 1, bs)] := by
  rw [State.windowCtr, blocks]
  exact if_neg (by simpa using some')

/-! ### Datagrams (06 R181) -/

/-- A datagram with blocks of window k, as it leaves now. -/
def State.ctrSent (s : State) (k : Nat) (bs : List CtrBlock) : CtrSent :=
  ⟨s.atlas.peerIf, s.atlas.peer, s.pf Pf.atlasUdpPort_PORT + 1, ctrDatagram s.ctr.seq k bs⟩

theorem exec_contourDatagramSend {k : Nat} {bs : List CtrBlock} {rest : List (Nat × List CtrBlock)}
    (queue : (s.pass g).ctr.queue = (k, bs) :: rest) (power : (s.pass g).pd 15 = true) :
    exec (.contourDatagramSend g) s = .next (
      if ((s.pass g).ses 0).isOpen = false then { s.pass g with ctr := { (s.pass g).ctr with queue := rest } }
      else { s.pass g with ctr := { (s.pass g).ctr with
        queue := if (takeBlocks 1456 bs).2.isEmpty then rest else (k, (takeBlocks 1456 bs).2) :: rest,
        seq := ((s.pass g).ctr.seq + 1) % 65536,
        sent := (s.pass g).ctr.sent ++ [(s.pass g).ctrSent k (takeBlocks 1456 bs).1] } }) := by
  show execContourDatagramSend g s = _
  simp only [execContourDatagramSend, queue, power, Bool.not_true, Bool.false_eq_true, if_false]
  cases ((s.pass g).ses 0).isOpen <;> rfl

end

/-- Settles O27, by the record that a window's end writes, the two ways a datagram leaves the queue, and the length the search stops at. -/
theorem contourStreams : Obligations.ContourStreams := by
  intro s g w u win on
  and_intros
  · intro due late up
    have ctr := u.windowEnd_ctr w
    refine does_of_run (exec_contourWindowEnd due late up) ⟨fun power on room some' => ?_, fun power on full some' => ?_, fun off => ?_, ?_,
      fun power n => State.chan_windowEnd power n, fun off => State.load_windowEnd off, ?_, ?_⟩
    · have room' : decide (64 ≤ u.ctr.queue.length) = false := decide_eq_false (by omega)
      exact (congrArg Contour.queue ctr).trans (State.windowCtr_queue ((State.windowBlocks_of_on power on).trans (by rw [room'])) some')
    · exact (congrArg Contour.queue ctr).trans
        (State.windowCtr_queue ((State.windowBlocks_of_on power on).trans (by rw [decide_eq_true full])) some')
    · exact (congrArg Contour.queue ctr).trans (if_pos (by rw [State.windowBlocks_of_off off]; rfl))
    · exact congrArg Contour.inForce ctr
    · exact congrArg Contour.last ctr
    · exact (congrArg Contour.sent ctr).trans rfl
  · intro k bs rest queue power closed
    exact does_of_run ((exec_contourDatagramSend queue power).trans (congrArg _ (if_pos closed))) rfl
  · intro k bs rest queue power opened all
    refine does_of_run ((exec_contourDatagramSend queue power).trans (congrArg _ (if_neg (by simp [u, opened])))) ?_
    rw [all]
    rfl
  · intro eps a xs n stop some' two k inside
    have valid : segValid eps a xs n = true := by
      subst stop
      exact (segValid_segLen 250 1).resolve_left (by omega)
    exact segValid_iff.mp valid k inside

end Sys2Proof.Machine
end

section
/-!
PROOFS. The commands of a valve (07 R196 to R199, R211, R212): what an operation about one valve leaves in its record, with every other valve
as it was; a VALVE_CMD that is taken; then O28.
-/
namespace Sys2Proof.Machine

/-! ### Operations about one valve -/

/-- An operation that leaves valve v with a record, and every other valve as it was. -/
structure Puts (v : Nat) (x : Valve) (s t : State) : Prop where
  steady : Steady s t
  record : t.valve v = x
  others : ∀ k, k ≠ v → t.valve k = s.valve k

section
variable {v : Nat} {x y : Valve} {s t u : State}

theorem Puts.refl (v : Nat) (s : State) : Puts v (s.valve v) s s := ⟨.refl s, rfl, fun _ _ => rfl⟩

theorem Puts.trans (h : Puts v x s t) (k : Puts v y t u) : Puts v y s u :=
  ⟨h.steady.trans k.steady, k.record, fun i ne => (k.others i ne).trans (h.others i ne)⟩

theorem Puts.cast (h : Puts v x s t) (eq : x = y) : Puts v y s t := eq ▸ h

/-- An operation that leaves the valves' records. -/
theorem Puts.keep (h : Puts v x s t) (steady : Steady t u) (same : u.vlv.v = t.vlv.v) : Puts v x s u := by
  have valve (k : Nat) : u.valve k = t.valve k := by simp only [State.valve, same]
  exact ⟨h.steady.trans steady, (valve v).trans h.record, fun k ne => (valve k).trans (h.others k ne)⟩

theorem Puts.report (h : Puts v x s t) (k : Reports t u) : Puts v x s u := h.keep k.steady (congrArg Valves.v k.vlv)

theorem Puts.modValve {f : Valve → Valve} (h : Puts v x s t) (lt : v < 16) (eq : f x = y) : Puts v y s (t.modValve v f) :=
  ⟨h.steady.trans (t.modValve_steady v f), by rw [State.valve_modValve_self t lt, h.record, eq],
    fun k ne => (State.valve_modValve_ne t ne f).trans (h.others k ne)⟩

theorem Puts.setValve (h : Puts v x s t) (lt : v < 16) (y : Valve) : Puts v y s (t.setValve v y) := h.modValve (f := fun _ => y) lt rfl

/-- A record with another fall of the current. -/
def Valve.falling (x : Valve) (d : VDecay) (holdFall fastdly : Bool) : Valve := { x with decay := d, holdFall := holdFall, fastdly := fastdly }

/-- A fall changes of the record how the current falls (07 R191). -/
theorem Puts.startFall (h : Puts v x s t) (lt : v < 16) (fast toZero : Bool) :
    ∃ d z f, Puts v (x.falling d z f) s (t.startFall v fast toZero) := by
  unfold State.startFall
  split
  · exact ⟨_, _, _, h.modValve lt rfl⟩
  · split
    · extract_lets t1 t2
      have late : Puts v _ s t1 := h.modValve lt rfl
      have counted : Puts v _ s t2 := late.keep ⟨rfl, rfl, rfl, rfl, rfl, rfl, rfl⟩ rfl
      exact ⟨_, _, _, counted.report (t2.valveEvent_reports ..)⟩
    · extract_lets t1
      have fast : Puts v _ s t1 := h.modValve lt rfl
      split
      · exact ⟨_, _, _, fast.keep ⟨rfl, rfl, rfl, rfl, rfl, rfl, rfl⟩ rfl⟩
      · exact ⟨_, _, _, fast⟩

/-- A record with another command in progress. -/
def Valve.commanded (x : Valve) (c : Option UCmd) : Valve := { x with cmd := c }

/-- A completed command is no longer in progress (07 R199). -/
theorem Puts.valveEnd (h : Puts v x s t) (lt : v < 16) (status fault : Nat) :
    Puts v (x.commanded none) s (t.valveEnd v status fault) := by
  unfold State.valveEnd
  split
  next none' =>
    rw [h.record] at none'
    exact h.cast (by rw [Valve.commanded, ← none'])
  next => exact (h.report (t.complete_reports ..)).modValve lt rfl

/-- Of the record an ACT that completes changes the command alone. -/
theorem Puts.actEnd (h : Puts v x s t) (lt : v < 16) (status fault : Nat) :
    ∃ c, Puts v (x.commanded c) s (t.actEnd v status fault) := by
  unfold State.actEnd
  split
  · split
    · exact ⟨_, h.valveEnd lt status fault⟩
    · exact ⟨_, h⟩
  · exact ⟨_, h⟩

/-- A request of the valve leaves the records. -/
theorem Puts.askValve (h : Puts v x s t) (kind : ReqKind) : Puts v x s (t.askValve v kind) :=
  h.keep ⟨rfl, rfl, rfl, rfl, rfl, rfl, rfl⟩ rfl

/-- The request of an actuation is pending under its number (07 R201). -/
theorem State.askValve_asks (s : State) (v : Nat) (kind : ReqKind) :
    ∃ r ∈ (s.askValve v kind).iso.pend, r.num = 96 + v ∧ r.kind = kind ∧ r.stamp = s.now :=
  ⟨_, State.addReq_mem _, rfl, rfl, rfl⟩

/-- A valve that does not boost leaves the phases in which current is driven: no other valve changes (07 R196). -/
theorem State.valveDrop_puts (lt : v < 16) (calm : (s.valve v).st ≠ .boost) (st : VSt) (fall : Option Bool) :
    ∃ d z f, Puts v (((s.valve v).dropped st).falling d z f) s (s.valveDrop v st fall) := by
  unfold State.valveDrop
  extract_lets x had held fromHold inr t1 t2 t3 t4
  have released : Puts v (s.valve v) s t2 := by
    unfold t2 t1
    split <;> exact (Puts.refl v s).keep ⟨rfl, rfl, rfl, rfl, rfl, rfl, rfl⟩ rfl
  have dropped : Puts v ((s.valve v).dropped st) s t3 := released.modValve lt rfl
  have same : t4 = t3 := if_neg calm
  rw [same]
  cases fall with
  | none => exact ⟨_, _, _, dropped⟩
  | some fast =>
    show ∃ d z f, Puts v _ s (if held = true then t3.startFall v fast fromHold else t3)
    split
    · exact dropped.startFall lt fast fromHold
    · exact ⟨_, _, _, dropped⟩

/-- A valve that is turned off while it waits for its grant or holds: OFF, its low side off, its command still in progress. -/
theorem State.valveOff_puts (lt : v < 16) (st : (s.valve v).st = .grantWait ∨ (s.valve v).st = .hold) :
    ∃ d z f, Puts v { ((s.valve v).dropped .off).falling d z f with retry := false } s (s.valveOff v) := by
  have calm : (s.valve v).st ≠ .boost := by rcases st with st | st <;> rw [st] <;> exact VSt.noConfusion
  obtain ⟨d, z, f, dropped⟩ := State.valveDrop_puts lt calm .off (some (s.valve v).fastNow)
  have calmed := dropped.modValve (f := fun x => { x with retry := false }) lt rfl
  refine ⟨d, z, f, ?_⟩
  unfold State.valveOff
  extract_lets x t
  split
  next off => rcases st with st | st <;> exact absurd (st.symm.trans off) VSt.noConfusion
  next latched => rcases st with st | st <;> exact absurd (st.symm.trans latched) VSt.noConfusion
  next =>
    split
    · exact calmed.report (State.valveEvent_reports ..)
    · exact calmed

end

/-! ### Withdrawn requests (06 R169, 07 R196) -/

section
variable {s : State} {v n : Nat}

/-- No pending request is left with a share of a unit that withdraws. -/
theorem State.withdraw_shares : ∀ r ∈ (s.withdraw n).iso.pend, ∀ y ∈ r.shares, y.ch ≠ n := by
  intro r mem y share
  obtain ⟨stripped, -⟩ := List.mem_filter.mp mem
  obtain ⟨r', -, rfl⟩ := List.mem_map.mp stripped
  simpa using (List.mem_filter.mp share).2

theorem State.valveDrop_pend (wait : (s.valve v).st = .grantWait) (st : VSt) (fall : Option Bool) :
    (s.valveDrop v st fall).iso.pend = (s.withdraw (96 + v)).iso.pend := by
  unfold State.valveDrop
  extract_lets x had held fromHold inr t1 t2 t3 t4
  have withdrawn : t2.iso.pend = (s.withdraw (96 + v)).iso.pend := by unfold t2 t1; split <;> rfl
  have calm : t4 = t3 := if_neg (show ¬ x.st = .boost by rw [show x.st = _ from wait]; exact VSt.noConfusion)
  have still : held = false := by simp [held, x, wait]
  rw [still, calm]
  cases fall <;> exact withdrawn

theorem State.valveOff_pend (wait : (s.valve v).st = .grantWait) : (s.valveOff v).iso.pend = (s.withdraw (96 + v)).iso.pend := by
  have dropped := State.valveDrop_pend wait .off (some (s.valve v).fastNow)
  unfold State.valveOff
  extract_lets x t
  rw [show x.st = _ from wait]
  show (if _ then t.valveEvent _ _ _ _ _ else t).iso.pend = _
  split
  · rw [(State.valveEvent_reports ..).iso]
    exact dropped
  · exact dropped

theorem State.valveEnd_iso (status fault : Nat) : (s.valveEnd v status fault).iso = s.iso := by
  unfold State.valveEnd
  split
  · rfl
  · exact (s.complete_reports ..).iso

end

/-! ### A VALVE_CMD that is taken (07 R197, R198) -/

section
variable {s : State} {g : Lapse} {q : Rq} {c : UnitCmd} {cmd : Nat} {v : Fin 16}

/-- The valve with its command PENDING. -/
def Valve.pending (x : Valve) (h cmd : Nat) (dl : Option Nat) : Valve := x.commanded (some ⟨h, cmd, dl, false, false, false⟩)

/-- A taken command is carried out on the valve with the command PENDING. -/
theorem does_of_takesValve {i : Instr} {act : State → State} {P : State → Prop} (run : exec i s = .next ((s.pass g).valveCmd q c cmd act))
    (unit : c.unit = v) (takes : TakesValve (s.pass g) q c cmd)
    (post : ∀ w h dl, Puts v (((s.pass g).valve v).pending h cmd dl) (s.pass g) w → P (act w)) : Does i s P := by
  obtain ⟨takes, room, check, fresh⟩ := takes
  generalize s.pass g = u at *
  let r := u.direct q 0x21 0 (leBytes 2 c.unit ++ leBytes 1 cmd ++ leBytes 1 c.opt ++ leBytes 4 c.deadline)
  obtain ⟨w, accepted, -⟩ := State.accept_some (u.touch q.ses) r (c.unit + 256 * cmd) room
  obtain ⟨only⟩ := State.accept_only (l := [.atlas, .evs, .ctl]) (r := r) (unit := c.unit + 256 * cmd) (Only.refl _ (u.touch q.ses)) (by decide)
  rw [accepted] at only
  have told : Reports u w := (Reports.of_only (State.touch_only (.refl ..) (by decide))).trans (.of_only only)
  have taken : Puts v (u.valve v) u w := (Puts.refl _ u).report told
  have none' : (w.valve c.unit).cmd = none := by rw [unit, taken.record, ← unit]; exact fresh
  have ended : w.valveEnd c.unit St.superseded (w.valve c.unit).codes = w := by simp [State.valveEnd, none']
  have check' : (u.touch q.ses).valveCheck r c cmd = none := check
  refine ⟨_, run, ?_⟩
  rw [State.valveCmd, State.serve_takes _ takes]
  simp only [check', accepted, ended, r]
  rw [unit]
  exact post _ _ _ (taken.modValve v.isLt rfl)

end

/-! ### ACT and CLEAR (07 R196, R201, R215) -/

/-- The record of a valve whose actuation starts with the written settings. -/
def Valve.started (x : Valve) (cfg levels times kink : Nat) : Valve :=
  { x with st := .grantWait, cfg := cfg, levels := levels, times := times, kink := kink, codes := 0, noclose := false, fastdly := false,
           raillow := false, boostskip := false, bwait := false, tclose := 0xFFFFFFFF, retry := false }

theorem State.startAct_puts {s : State} {v : Nat} (lt : v < 16) :
    Puts v ((s.valve v).started (s.parOf (Pid.valveCfg v) 0) (s.parOf (Pid.valveLevels v) 0) (s.parOf (Pid.valveTimes v) 0)
      (s.parOf (Pid.valveKink v) 0)) s (s.startAct v) :=
  ((Puts.refl v s).modValve (f := fun x => x.started (s.parOf (Pid.valveCfg v) 0) (s.parOf (Pid.valveLevels v) 0) (s.parOf (Pid.valveTimes v) 0)
    (s.parOf (Pid.valveKink v) 0)) lt rfl).askValve .turnOn

/-- An actuation asks for its grant. -/
theorem State.startAct_asks (s : State) (v : Nat) :
    ∃ r ∈ (s.startAct v).iso.pend, r.num = 96 + v ∧ r.kind = .turnOn ∧ r.stamp = s.now := State.askValve_asks _ v .turnOn

/-- What CLEAR makes of a record, with CLRCNT in the option. -/
def Valve.clear (x : Valve) (opt : Nat) : Valve :=
  let x := if x.st = .latched then { x with st := .off } else x
  if opt = 1 then { x with trans := 0, lasting := 0 } else x

theorem Valve.clear_of_latched {x : Valve} (latched : x.st = .latched) (h cmd : Nat) (dl : Option Nat) (opt : Nat) :
    (x.pending h cmd dl).clear opt =
      if opt = 1 then { x.pending h cmd dl with st := .off, trans := 0, lasting := 0 } else { x.pending h cmd dl with st := .off } := by
  have latched' : (x.pending h cmd dl).st = .latched := latched
  simp only [Valve.clear, latched', if_true]

/-! ### The loss of a bank's feed (07 R212) -/

/-- A member of a bank at the loss of its feed. -/
def State.valveLost (s : State) (v : Nat) : State :=
  let x := s.valve v
  if x.st = .off || x.st = .latched then s
  else
    let s := (s.valveDrop v .off (some false)).modValve v (fun x => { x.note 0x20 with retry := false })
    (s.valveEvent v 0x20 12 (s.coil v) 0).actEnd v St.failed 0x20

theorem State.bankLost_eq (s : State) (b : Nat) : s.bankLost b = (s.offOrder b).foldl State.valveLost s := rfl

/-- The record of a valve that the loss of its feed turns off. -/
def Valve.lost (x : Valve) : Valve := { (x.dropped .off).note 0x20 with retry := false }

/-- A valve that the loss of its feed has turned off. -/
structure Valve.FeedLost (x : Valve) : Prop where
  off : x.st = .off
  fault : x.fault = 0x20
  low : x.low = false

section
variable {s : State} {v k : Nat}

theorem State.valveLost_of_rest (rest : (s.valve v).st = .off ∨ (s.valve v).st = .latched) : s.valveLost v = s := by
  simp [State.valveLost, rest]

theorem State.valveLost_turns (lt : v < 16) (off : (s.valve v).st ≠ .off) (latched : (s.valve v).st ≠ .latched) :
    Turns v (s.valve v).lost s (s.valveLost v) := by
  unfold State.valveLost
  extract_lets x t
  rw [if_neg (by simp [x, off, latched])]
  have dropped := State.valveDrop_turns (s := s) lt (st := .off) VSt.noConfusion (some false)
  have noted : Turns v (s.valve v).lost s t := dropped.modValve lt (fun _ => rfl) rfl
  exact (noted.pass (t.valveEvent_reports ..).passes VSt.noConfusion).pass (State.actEnd_passes ..) VSt.noConfusion

/-- Another member passes. -/
theorem State.valveLost_passed (lt : k < 16) (ne : v ≠ k) : Passed (s.valve v) ((s.valveLost k).valve v) := by
  by_cases rest : (s.valve k).st = .off ∨ (s.valve k).st = .latched
  · rw [State.valveLost_of_rest rest]
    exact .refl _
  · obtain ⟨off, latched⟩ := not_or.mp rest
    exact (State.valveLost_turns lt off latched).others v ne

theorem Valve.lost_feedLost (x : Valve) : x.lost.FeedLost := ⟨rfl, rfl, rfl⟩

theorem Valve.FeedLost.congr {x y : Valve} (h : x.FeedLost) (same : y.apart = x.apart) : y.FeedLost := by
  have lost : x.apart.FeedLost := ⟨h.off, h.fault, h.low⟩
  rw [← same] at lost
  exact ⟨lost.off, lost.fault, lost.low⟩

/-- A valve that the loss has turned off stays so. -/
theorem State.valveLost_keeps (lt : k < 16) (lost : (s.valve v).FeedLost) : ((s.valveLost k).valve v).FeedLost := by
  by_cases own : v = k
  · rw [← own, State.valveLost_of_rest (.inl lost.off)]
    exact lost
  · exact lost.congr ((State.valveLost_passed lt own).apart (by rw [lost.off]; exact VSt.noConfusion))

/-- The loss turns off every member that it names. -/
theorem State.valvesLost_of_mem {l : List Nat} (lt : ∀ k ∈ l, k < 16) (mem : v ∈ l) (off : (s.valve v).st ≠ .off)
    (latched : (s.valve v).st ≠ .latched) : ((l.foldl State.valveLost s).valve v).FeedLost := by
  induction l generalizing s with
  | nil => cases mem
  | cons k l ih =>
    have lt' : ∀ i ∈ l, i < 16 := fun i h => lt i (List.mem_cons_of_mem k h)
    have first := lt k List.mem_cons_self
    obtain rfl | own := eq_or_ne v k
    · have lost : ((s.valveLost v).valve v).FeedLost := (Valve.lost_feedLost _).congr (State.valveLost_turns first off latched).record
      exact List.foldlRecOn (motive := fun t => (t.valve v).FeedLost) l State.valveLost lost
        (fun t lost i mem => State.valveLost_keeps (lt' i mem) lost)
    · have st := (State.valveLost_passed (s := s) first own).st
      refine ih lt' ((List.mem_cons.mp mem).resolve_left own) ?_ ?_
      · rcases st with st | st <;> rw [st]
        · exact VSt.noConfusion
        · exact off
      · rcases st with st | st <;> rw [st]
        · exact VSt.noConfusion
        · exact latched

theorem mem_bankMembers (b v : Nat) : v ∈ bankMembers b ↔ v / 4 = b := by
  simp only [bankMembers, List.mem_cons, List.not_mem_nil, or_false]
  omega

/-- The loss of a bank's feed names every member. -/
theorem State.mem_offOrder (s : State) (b v : Nat) : v ∈ s.offOrder b ↔ v / 4 = b := by
  by_cases wait : (s.valve v).st = .boostWait <;> simp [State.offOrder, mem_bankMembers, wait]

end

/-! ### The commands, in the cases of O28 -/

section
variable {s : State} {g : Lapse} {v : Fin 16} {k : UCmd}

theorem exec_valveDeadline {d : Nat} (cmd : ((s.pass g).valve v).cmd = some k) (act : k.cmd = 1) (deadline : k.deadline = some d)
    (time : d ≤ (s.pass g).now) (wait : ((s.pass g).valve v).st = .grantWait) :
    exec (.valveDeadline g v) s = .next (((s.pass g).valveOff v).valveEnd v St.timeout ((s.pass g).valve v).codes) := by
  show execValveDeadline g v s = _
  simp [execValveDeadline, cmd, act, deadline, time, wait]

theorem exec_valveOffComplete {i : Int} (cmd : ((s.pass g).valve v).cmd = some k) (off : k.cmd = 0)
    (fallen : 10 * i < (((s.pass g).valve v).ihold : Int) ∨ ((s.pass g).valve v).offAt + 1000000 ≤ (s.pass g).now) :
    exec (.valveOffComplete g v i) s = .next ((s.pass g).valveEnd v St.ok ((s.pass g).valve v).codes) := by
  show execValveOffComplete g v i s = _
  simp [execValveOffComplete, cmd, off, fallen, State.expired]

theorem exec_valveRetryConditions {tc : Int} (wait : ((s.pass g).valve v).st = .retryWait)
    (time : ((s.pass g).valve v).tripAt + 200000 * ((s.pass g).valve v).delay ≤ (s.pass g).now) (cool : tc ≤ 1500)
    (feed : (s.pass g).bankFeedOk (v / 4) = true) : exec (.valveRetryConditions g v tc) s =
      .next (((s.pass g).setValve v { (s.pass g).valve v with st := .grantWait, retry := true }).askValve v .retry) := by
  have due : (s.pass g).expired ((s.pass g).valve v).tripAt (msTk ((s.pass g).valve v).delay) = true :=
    decide_eq_true time
  show execValveRetryConditions g v tc s = _
  simp [execValveRetryConditions, wait, due, cool, feed]

theorem exec_bankFeedLost {b : Fin 4} (lost : (s.pass g).bankFeedOk b = false) : exec (.bankFeedLost g b) s =
    .next (((s.pass g).offOrder b).foldl State.valveLost (s.pass g)) := by
  show execBankFeedLost g b s = _
  simp [execBankFeedLost, lost, State.bankLost_eq]

end

section
variable {u t : State} {v : Fin 16} {x : Valve}

/-- Every other valve is as it was. -/
theorem Puts.fins (h : Puts v x u t) : ∀ k : Fin 16, k ≠ v → t.valve k = u.valve k := fun k ne => h.others k (fun eq => ne (Fin.ext eq))

end

/-- Settles O28, by what each command leaves in the record of its valve. -/
theorem valveCommands : Obligations.ValveCommands := by
  intro s g q c v i unit u x others asks
  have lt := v.isLt
  and_intros
  · intro takes hold
    refine does_of_takesValve rfl unit takes (fun w h dl taken => ?_)
    have hold' : (w.valve v).st = .hold := by rw [taken.record]; exact hold
    obtain ⟨d, z, f, off⟩ := State.valveOff_puts (s := w) lt (.inr hold')
    have done := taken.trans (off.modValve (f := fun x => { x with offAt := w.now }) lt rfl)
    rw [taken.record, taken.steady.now] at done
    simp only [unit, hold', taken.steady.now, reduceCtorEq, if_false]
    exact ⟨congrArg Valve.st done.record, congrArg Valve.low done.record, congrArg Valve.offAt done.record,
      ⟨h, dl, congrArg Valve.cmd done.record⟩, done.fins⟩
  · intro takes off
    refine does_of_takesValve rfl unit takes (fun w h dl taken => ?_)
    have off' : (w.valve v).st = .off := by rw [taken.record]; exact off
    simp only [unit, off', if_true]
    have started := taken.trans (State.startAct_puts (s := w) lt)
    rw [taken.record] at started
    obtain ⟨r, pend, num, kind, stamp⟩ := State.startAct_asks w v
    rw [taken.steady.now] at stamp
    refine ⟨congrArg Valve.st started.record, ?_, ?_, ?_, congrArg Valve.codes started.record, ⟨h, dl, congrArg Valve.cmd started.record⟩,
      started.fins, r, pend, num, kind, stamp⟩
    · exact (congrArg Valve.cfg started.record).trans (taken.steady.parOf ..)
    · exact (congrArg Valve.levels started.record).trans (taken.steady.parOf ..)
    · exact (congrArg Valve.times started.record).trans (taken.steady.parOf ..)
  · intro takes latched
    refine does_of_takesValve rfl unit takes (fun w h dl taken => ?_)
    have cleared := (taken.modValve (f := (·.clear c.opt)) lt (Valve.clear_of_latched latched h 6 dl c.opt)).valveEnd lt St.ok
    simp only [unit]
    refine ⟨(cleared _).record.trans ?_, (cleared _).fins⟩
    split <;> rfl
  · intro k d cmd act deadline time wait
    refine does_of_run (exec_valveDeadline cmd act deadline time wait) ?_
    obtain ⟨_, _, _, off⟩ := State.valveOff_puts (s := u) lt (.inl wait)
    have done := off.valveEnd lt St.timeout x.codes
    refine ⟨congrArg Valve.st done.record, congrArg Valve.cmd done.record, done.fins, ?_⟩
    rw [State.valveEnd_iso, State.valveOff_pend wait]
    exact State.withdraw_shares
  · intro k cmd off fallen
    have done := (Puts.refl v u).valveEnd lt St.ok x.codes
    exact does_of_run (exec_valveOffComplete cmd off fallen) ⟨done.record, done.fins⟩
  · intro tc wait time cool feed
    have done := ((Puts.refl v u).setValve lt { x with st := .grantWait, retry := true }).askValve .retry
    exact does_of_run (exec_valveRetryConditions wait time cool feed) ⟨done.record, done.fins, State.askValve_asks _ v .retry⟩
  · intro b lost bank off latched
    refine does_of_run (exec_bankFeedLost lost) ?_
    have small : ∀ k ∈ u.offOrder b, k < 16 := fun k mem => by have := (u.mem_offOrder b k).mp mem; omega
    obtain ⟨st, fault, low⟩ := State.valvesLost_of_mem small ((u.mem_offOrder b v).mpr bank) off latched
    exact ⟨st, fault, low⟩

end Sys2Proof.Machine
end

section
/-!
PROOFS. The phases of an actuation (07 R192, R193, R195, R203, R205, R207): the end of a boost with the member that takes it over, HOLD, the
closing detection and the rail; then O29.
-/
namespace Sys2Proof.Machine

/-! ### The end of a boost (07 R192, R196, R203) -/

/-- The record of a valve whose boost ends at a current. -/
def Valve.peaked (x : Valve) (now : Nat) (i : Int) : Valve :=
  { x with st := .peak, phaseAt := now, level := x.ipeak, low := !decide ((x.ipeak : Int) < i),
           onSince := if decide ((x.ipeak : Int) < i) then none else x.onSince }

/-- The record of a valve that boosts from now on. -/
def Valve.boosting (x : Valve) (now : Nat) : Valve :=
  { x with st := .boost, low := true, onSince := some now, decay := .none, gateAt := now, phaseAt := now, level := x.iboost, us := [],
           detected := false, tclose := 0xFFFFFFFF }

section
variable {s : State} {v w b : Nat} {i : Int}

theorem Turns.of_puts {x : Valve} {t : State} (h : Puts v x s t) : Turns v x s t :=
  ⟨h.steady, congrArg Valve.apart h.record, fun k ne => .inl (congrArg Valve.apart (h.others k ne))⟩

theorem State.boostDone_turns (lt : v < 16) (i : Int) : Turns v ((s.valve v).peaked s.now i) s (s.boostDone v i) := by
  unfold State.boostDone
  extract_lets x falls fast t1 t2
  have peak : Turns v ((s.valve v).peaked s.now i) s t1 := .of_puts ((Puts.refl v s).setValve lt _)
  have passedOn : Turns v ((s.valve v).peaked s.now i) s t2 := peak.pass (State.freeBoost_passes ..) VSt.noConfusion
  split
  · exact passedOn.pass (State.startFall_passes ..) VSt.noConfusion
  · exact passedOn

theorem State.boostWaiter_spec (found : s.boostWaiter b = some w) : w / 4 = b ∧ (s.valve w).st = .boostWait :=
  ⟨(mem_bankMembers b w).mp (List.mem_of_find?_eq_some found), by simpa using List.find?_some (show (bankMembers b).find? _ = some w from found)⟩

theorem State.valveGate_turns (lt : w < 16) : Turns w ((s.valve w).boosting s.now) s (s.valveGate w .boost) := by
  unfold State.valveGate
  have on : Puts w ((s.valve w).boosting s.now) s (s.modValve w (·.boosting s.now)) := (Puts.refl w s).modValve lt rfl
  exact (Turns.of_puts on).pass (State.delayFalls_passes ..) VSt.noConfusion

/-- The waiting member takes the boost that becomes free. -/
theorem State.freeBoost_turns (lt : w < 16) (found : s.boostWaiter b = some w) : Turns w ((s.valve w).boosting s.now) s (s.freeBoost b) := by
  unfold State.freeBoost
  split
  next none' => rw [found] at none'; cases none'
  next v found' =>
    obtain rfl : w = v := by rw [found] at found'; exact Option.some.inj found'
    extract_lets wait t1 t2 t3
    have logged : Turns w ((s.valve w).boosting s.now) s t1 := (State.valveGate_turns lt).modValve lt (fun _ => rfl) rfl
    have counted : Turns w ((s.valve w).boosting s.now) s t2 := logged.pass (State.modBank_passes ..) VSt.noConfusion
    have told : Turns w ((s.valve w).boosting s.now) s t3 := by
      unfold t3
      split
      · exact counted.pass (State.setWait_passes ..) VSt.noConfusion
      · exact counted
    exact told.pass (State.valveEvent_reports ..).passes VSt.noConfusion

/-- The member of the bank that waits boosts in the tick in which the boost ends. -/
theorem State.boostDone_waiter (lt : v < 16) (boost : (s.valve v).st = .boost) (found : s.boostWaiter (v / 4) = some w) (i : Int) :
    ∃ x : Valve, ((s.boostDone v i).valve w).apart = (x.boosting s.now).apart := by
  obtain ⟨bank, wait⟩ := State.boostWaiter_spec found
  have lt' : w < 16 := by omega
  unfold State.boostDone
  extract_lets x falls fast t1 t2
  have peak : Puts v ((s.valve v).peaked s.now i) s t1 := (Puts.refl v s).setValve lt _
  have st (k : Nat) : decide ((t1.valve k).st = .boostWait) = decide ((s.valve k).st = .boostWait) := by
    by_cases own : k = v
    · rw [own, peak.record, boost]
      rfl
    · rw [peak.others k own]
  have found' : t1.boostWaiter (v / 4) = some w := by
    simp only [State.boostWaiter, st]
    exact found
  have took : Turns w ((t1.valve w).boosting s.now) t1 t2 := peak.steady.now ▸ State.freeBoost_turns lt' found'
  refine ⟨t1.valve w, ?_⟩
  split
  · exact (took.pass (State.startFall_passes ..) VSt.noConfusion).record
  · exact took.record

end

/-! ### The rail's voltage stays (07 R205) -/

section
variable {s : State}

theorem State.valveEvent_vrail (v code kind : Nat) (ma : Int) (value : Nat) : (s.valveEvent v code kind ma value).vlv.vrail = s.vlv.vrail :=
  congrArg Valves.vrail (State.valveEvent_reports ..).vlv

theorem State.modValve_vrail (v : Nat) (f : Valve → Valve) : (s.modValve v f).vlv.vrail = s.vlv.vrail := rfl

theorem State.modBank_vrail (b : Nat) (f : VBank → VBank) : (s.modBank b f).vlv.vrail = s.vlv.vrail := rfl

theorem State.startFall_vrail (v : Nat) (fast toZero : Bool) : (s.startFall v fast toZero).vlv.vrail = s.vlv.vrail := by
  unfold State.startFall
  split
  · rfl
  · split
    · exact State.valveEvent_vrail ..
    · extract_lets t
      split <;> rfl

theorem State.resumeFalls_vrail (b : Nat) : (s.resumeFalls b).vlv.vrail = s.vlv.vrail := by
  unfold State.resumeFalls
  refine List.foldlRecOn (motive := fun t : State => t.vlv.vrail = s.vlv.vrail) _ _ rfl (fun t same v _ => ?_)
  split
  · extract_lets z t'
    split <;> exact same
  · exact same

theorem State.delayFalls_vrail (b : Nat) : (s.delayFalls b).vlv.vrail = s.vlv.vrail := by
  unfold State.delayFalls
  refine List.foldlRecOn (motive := fun t : State => t.vlv.vrail = s.vlv.vrail) _ _ rfl (fun t same v _ => ?_)
  split
  · exact (State.valveEvent_vrail ..).trans same
  · exact same

theorem State.valveGate_vrail (v : Nat) (st : VSt) : (s.valveGate v st).vlv.vrail = s.vlv.vrail := by
  unfold State.valveGate
  extract_lets t
  split
  · exact State.delayFalls_vrail _
  · rfl

theorem State.freeBoost_vrail (b : Nat) : (s.freeBoost b).vlv.vrail = s.vlv.vrail := by
  unfold State.freeBoost
  split
  · exact State.resumeFalls_vrail b
  next v _ =>
    extract_lets w t1 t2 t3
    have told : t3.vlv.vrail = t2.vlv.vrail := by unfold t3; split <;> rfl
    have gated : t2.vlv.vrail = s.vlv.vrail :=
      (State.modBank_vrail ..).trans ((State.modValve_vrail ..).trans (State.valveGate_vrail v .boost))
    exact (State.valveEvent_vrail ..).trans (told.trans gated)

theorem State.boostDone_vrail (v : Nat) (i : Int) : (s.boostDone v i).vlv.vrail = s.vlv.vrail := by
  unfold State.boostDone
  extract_lets x falls fast t1 t2
  have freed : t2.vlv.vrail = s.vlv.vrail := State.freeBoost_vrail (s := t1) _
  split
  · exact (State.startFall_vrail ..).trans freed
  · exact freed

end

/-! ### A low rail (07 R205) -/

/-- The boost of valve v ends because the rail is low. -/
def State.boostLow (s : State) (v : Nat) : State :=
  let s := (s.modValve v (fun x => { x with raillow := true })).boostDone v (s.coil v)
  s.valveEvent v 0 11 (s.coil v) 0

/-- A valve that the low rail has taken to PEAK. -/
structure Valve.RailLow (x : Valve) (now : Nat) : Prop where
  st : x.st = .peak
  low : x.raillow = true
  phase : x.phaseAt = now

/-- The valves that boost on a rail too low for it. -/
def State.starved (s : State) (vrail : Nat) : List Nat :=
  (List.range 16).filter (fun v => (s.valve v).st = .boost && vrail < s.bankFeed (v / 4) + 300)

section
variable {s : State} {g : Lapse} {v k : Nat}

theorem exec_railLow (n : Nat) : exec (.railLow g n) s = .next (
    let t := { s.pass g with vlv := { (s.pass g).vlv with vrail := n } }
    (t.starved n).foldl State.boostLow t) := rfl

theorem Valve.RailLow.congr {x y : Valve} {now : Nat} (h : x.RailLow now) (same : y.apart = x.apart) : y.RailLow now := by
  have low : x.apart.RailLow now := ⟨h.st, h.low, h.phase⟩
  rw [← same] at low
  exact ⟨low.st, low.low, low.phase⟩

/-- The record of a valve that the low rail takes to PEAK. -/
def Valve.starved (x : Valve) (now : Nat) (i : Int) : Valve := { x with raillow := true }.peaked now i

theorem State.boostLow_turns (lt : v < 16) : Turns v ((s.valve v).starved s.now (s.coil v)) s (s.boostLow v) := by
  have marked : Puts v { s.valve v with raillow := true } s (s.modValve v (fun x => { x with raillow := true })) := (Puts.refl v s).modValve lt rfl
  have done := State.boostDone_turns (s := s.modValve v (fun x => { x with raillow := true })) lt (s.coil v)
  rw [marked.record, marked.steady.now] at done
  exact ((Turns.of_puts marked).trans done).pass (State.valveEvent_reports ..).passes VSt.noConfusion

theorem State.boostLow_railLow (lt : v < 16) : ((s.boostLow v).valve v).RailLow s.now :=
  Valve.RailLow.congr (x := (s.valve v).starved s.now (s.coil v)) ⟨rfl, rfl, rfl⟩ (State.boostLow_turns lt).record

theorem State.boostLow_vrail : (s.boostLow v).vlv.vrail = s.vlv.vrail :=
  (State.valveEvent_vrail ..).trans (State.boostDone_vrail (s := s.modValve v (fun x => { x with raillow := true })) _ _)

/-- A valve that the low rail has taken to PEAK stays there. -/
theorem State.boostLow_keeps {now : Nat} (lt : k < 16) (time : s.now = now) (low : (s.valve v).RailLow now) :
    ((s.boostLow k).valve v).RailLow now := by
  obtain rfl | own := eq_or_ne v k
  · exact time ▸ State.boostLow_railLow lt
  · exact low.congr (((State.boostLow_turns lt).others v own).apart (by rw [low.st]; exact VSt.noConfusion))

/-- The low rail ends every boost that it names. -/
theorem State.boostsLow_of_mem {l : List Nat} (lt : ∀ k ∈ l, k < 16) (mem : v ∈ l) : ((l.foldl State.boostLow s).valve v).RailLow s.now := by
  induction l generalizing s with
  | nil => cases mem
  | cons k l ih =>
    have lt' : ∀ i ∈ l, i < 16 := fun i h => lt i (List.mem_cons_of_mem k h)
    have first := lt k List.mem_cons_self
    have time : (s.boostLow k).now = s.now := (State.boostLow_turns first).steady.now
    obtain rfl | own := eq_or_ne v k
    · refine (List.foldlRecOn (motive := fun t : State => t.now = s.now ∧ (t.valve v).RailLow s.now) l State.boostLow
        ⟨time, State.boostLow_railLow first⟩ (fun t ⟨now, low⟩ i mem => ?_)).2
      exact ⟨(State.boostLow_turns (lt' i mem)).steady.now.trans now, State.boostLow_keeps (lt' i mem) now low⟩
    · exact time ▸ ih (s := s.boostLow k) lt' ((List.mem_cons.mp mem).resolve_left own)

theorem State.boostsLow_vrail (l : List Nat) : (l.foldl State.boostLow s).vlv.vrail = s.vlv.vrail :=
  List.foldlRecOn (motive := fun t : State => t.vlv.vrail = s.vlv.vrail) l _ rfl (fun _ same _ _ => State.boostLow_vrail.trans same)

end

/-! ### HOLD (07 R192, R209) -/

/-- The record of a valve that enters HOLD at a current. -/
def Valve.held (x : Valve) (now : Nat) (i : Int) : Valve :=
  { x with st := .hold, phaseAt := now, level := x.ihold, low := x.low && !decide ((x.ihold : Int) < i),
           onSince := if decide ((x.ihold : Int) < i) then none else x.onSince }

/-- PEAK has ended without a closing (07 R209). -/
def Valve.missed (x : Valve) : Valve := { x.note 0x10 with noclose := true }

/-- The record of a valve at the end of PEAK. -/
def Valve.peakEnd (x : Valve) (now : Nat) (i : Int) (d : VDecay) (holdFall fastdly : Bool) : Valve :=
  let y := (x.held now i).falling d holdFall fastdly
  if x.cfgBit Pf.valveCfg_KEN && !x.detected then y.missed else y

theorem Valve.peakEnd_hold (x : Valve) (now : Nat) (i : Int) (d : VDecay) (z f : Bool) :
    (x.peakEnd now i d z f).st = .hold ∧ (x.peakEnd now i d z f).phaseAt = now ∧ (x.peakEnd now i d z f).level = x.ihold := by
  unfold Valve.peakEnd
  split <;> exact ⟨rfl, rfl, rfl⟩

theorem Valve.peakEnd_missed {x : Valve} (ken : x.cfgBit Pf.valveCfg_KEN = true) (fresh : x.detected = false) (now : Nat) (i : Int) (d : VDecay)
    (z f : Bool) : (x.peakEnd now i d z f).noclose = true ∧ (x.peakEnd now i d z f).fault = 0x10 := by
  have missed : x.peakEnd now i d z f = ((x.held now i).falling d z f).missed := if_pos (by simp [ken, fresh])
  rw [missed]
  exact ⟨rfl, rfl⟩

/-- Valve v in HOLD, its inrush ended. -/
def State.peakHeld (s : State) (v : Nat) (i : Int) : State :=
  (s.addRel (.inrEnd (96 + v) (Config.inrushUj (96 + v) (s.valve v).gateAt s.now : Rat) s.now)).setValve v ((s.valve v).held s.now i)

/-- Valve v in HOLD, its current falling where it lies above IHOLD. -/
def State.peakFalls (s : State) (v : Nat) (i : Int) : State :=
  if decide (((s.valve v).ihold : Int) < i) then (s.peakHeld v i).startFall v ((s.valve v).cfgBit Pf.valveCfg_DECAY_P) false else s.peakHeld v i

/-- Valve v in HOLD, a missing closing reported. -/
def State.peakEnds (s : State) (v : Nat) (i : Int) : State :=
  if (s.valve v).cfgBit Pf.valveCfg_KEN && !(s.valve v).detected then
    ((s.peakFalls v i).modValve v Valve.missed).valveEvent v 0x10 5 i 0
  else s.peakFalls v i

/-- Valve v in HOLD; a first run's ACT completes. -/
def State.peakDone (s : State) (v : Nat) (i : Int) : State :=
  let t := s.peakEnds v i
  if (s.valve v).retry then t else t.actEnd v St.ok (t.valve v).codes

section
variable {s : State} {g : Lapse} {v : Nat}

theorem exec_tpeakEnd {v : Fin 16} {i : Int} (peak : ((s.pass g).valve v).st = .peak)
    (time : ((s.pass g).valve v).phaseAt + ((s.pass g).valve v).tpeak ≤ (s.pass g).now) :
    exec (.tpeakEnd g v i) s = .next ((s.pass g).peakDone v i) := by
  show execTpeakEnd g v i s = _
  simp only [execTpeakEnd, peak, State.expired, time, decide_true, Bool.and_true, if_true]
  rfl

theorem Puts.addRel {x : Valve} {t : State} (h : Puts v x s t) (r : IsoRel) : Puts v x s (t.addRel r) :=
  h.keep ⟨rfl, rfl, rfl, rfl, rfl, rfl, rfl⟩ rfl

theorem State.peakFalls_puts (lt : v < 16) (i : Int) : ∃ d z f, Puts v (((s.valve v).held s.now i).falling d z f) s (s.peakFalls v i) := by
  have held : Puts v ((s.valve v).held s.now i) s (s.peakHeld v i) := ((Puts.refl v s).addRel _).setValve lt _
  unfold State.peakFalls
  split
  · exact held.startFall lt _ _
  · exact ⟨_, _, _, held⟩

theorem State.startFall_rels (v : Nat) (fast toZero : Bool) : (s.startFall v fast toZero).iso.rels = s.iso.rels := by
  unfold State.startFall
  split
  · rfl
  · split
    · rw [(State.valveEvent_reports ..).iso]
      rfl
    · extract_lets t
      split <;> rfl

/-- The end of the inrush waits for the next pass of the arbiter (06 R173, R175). -/
theorem State.peakEnds_rels (i : Int) : ∃ e, IsoRel.inrEnd (96 + v) e s.now ∈ (s.peakEnds v i).iso.rels := by
  have held : ∃ e, IsoRel.inrEnd (96 + v) e s.now ∈ (s.peakHeld v i).iso.rels := ⟨_, List.mem_append_right _ (List.mem_singleton.mpr rfl)⟩
  have falls : (s.peakFalls v i).iso.rels = (s.peakHeld v i).iso.rels := by
    unfold State.peakFalls
    split
    · exact State.startFall_rels ..
    · rfl
  have ends : (s.peakEnds v i).iso.rels = (s.peakFalls v i).iso.rels := by
    unfold State.peakEnds
    split
    · rw [(State.valveEvent_reports ..).iso]
      rfl
    · rfl
  rw [ends, falls]
  exact held

theorem State.actEnd_iso (status fault : Nat) : (s.actEnd v status fault).iso = s.iso := by
  unfold State.actEnd
  split
  · split
    · exact State.valveEnd_iso ..
    · rfl
  · rfl

theorem State.peakEnds_puts (lt : v < 16) (i : Int) : ∃ d z f, Puts v ((s.valve v).peakEnd s.now i d z f) s (s.peakEnds v i) := by
  obtain ⟨d, z, f, falls⟩ := State.peakFalls_puts (s := s) lt i
  refine ⟨d, z, f, ?_⟩
  unfold State.peakEnds Valve.peakEnd
  extract_lets y
  split
  · exact (falls.modValve lt rfl).report (State.valveEvent_reports ..)
  · exact falls

theorem State.peakDone_puts (lt : v < 16) (i : Int) :
    ∃ d z f c, Puts v (((s.valve v).peakEnd s.now i d z f).commanded c) s (s.peakDone v i) := by
  obtain ⟨d, z, f, ends⟩ := State.peakEnds_puts (s := s) lt i
  unfold State.peakDone
  extract_lets t
  split
  · exact ⟨d, z, f, _, ends⟩
  · obtain ⟨c, done⟩ := ends.actEnd lt St.ok (t.valve v).codes
    exact ⟨d, z, f, c, done⟩

theorem State.peakDone_rels (i : Int) : ∃ e, IsoRel.inrEnd (96 + v) e s.now ∈ (s.peakDone v i).iso.rels := by
  unfold State.peakDone
  extract_lets t
  split
  · exact State.peakEnds_rels i
  · rw [State.actEnd_iso]
    exact State.peakEnds_rels i

/-- A retry that has held leaves the other valves (07 R211). -/
theorem State.valveConfirm_puts (lt : v < 16) : ∃ c, Puts v ((s.valve v).confirmed.commanded c) s (s.valveConfirm v) := by
  unfold State.valveConfirm
  extract_lets t
  have held : Puts v (s.valve v).confirmed s (s.modValve v Valve.confirmed) := (Puts.refl v s).modValve lt rfl
  have retried : Puts v ((s.valve v).confirmed.commanded _) s t := held.modValve lt rfl
  exact (retried.report (t.valveEvent_reports ..)).actEnd lt St.ok (t.valve v).codes

end

/-! ### Closing detection (07 R207) -/

/-- The detector takes a cycle's record: PEAK with KEN, no detection yet, and a cycle inside PEAK from p0 on. -/
structure Watches (u : State) (v : Nat) (r : CycleRec) : Prop where
  peak : (u.valve v).st = .peak
  ken : (u.valve v).cfgBit Pf.valveCfg_KEN = true
  fresh : (u.valve v).detected = false
  power : u.pd 9 = true
  near : r.behind ≤ 16
  inside : r.inPeak = true
  begun : (u.valve v).us ≠ [] ∨ r.chop = true

section
variable {s : State} {g : Lapse} {v : Fin 16} {r : CycleRec}

/-- The record of a valve with one cycle more. -/
def Valve.watched (x : Valve) (umv : Int) : Valve := { x with us := (x.us ++ [umv]).drop ((x.us ++ [umv]).length - 16) }

/-- None of the tests that pass a record over holds. -/
theorem Watches.taken {u : State} (watches : Watches u v r) :
    (decide ((u.valve v).st ≠ .peak) || !(u.valve v).cfgBit Pf.valveCfg_KEN || (u.valve v).detected || !u.pd 9) = false ∧ ¬ 16 < r.behind ∧
    (!r.inPeak || ((u.valve v).us.isEmpty && !r.chop)) = false := by
  obtain ⟨peak, ken, fresh, power, near, inside, begun⟩ := watches
  refine ⟨by simp [peak, ken, fresh, power], Nat.not_lt.mpr near, ?_⟩
  rcases begun with some' | chop
  · simp [inside, some']
  · simp [inside, chop]

/-- The record of a valve whose kink lies in a cycle (07 R207, R209). -/
def Valve.closed (x : Valve) (r : CycleRec) : Valve := { x.watched r.umv with detected := true, tclose := (r.start - x.gateAt) % 2 ^ 32 }

/-- Valve v with its closing reported. -/
def State.closes (s : State) (v : Nat) (r : CycleRec) : State :=
  (s.setValve v ((s.valve v).closed r)).valveEvent v 0 4 (s.coil v) ((r.start - (s.valve v).gateAt) % 2 ^ 32)

theorem Puts.closes {u t : State} (h : Puts v (t.valve v) u t) : Puts v ((t.valve v).closed r) u (t.closes v r) :=
  (h.setValve v.isLt _).report (State.valveEvent_reports ..)

/-- The state in which VBb takes a cycle's record of valve v: the record is its event (14 R376). -/
def State.cycled (u : State) (v : Fin 16) : State := u.raiseEv (69 + v / 4) 4

theorem exec_cycleRecord_none {t : State} (cycled : t = (s.pass g).cycled v) (watches : Watches t v r)
    (young : (((t.valve v).us ++ [r.umv]).reverse)[Pf.valveKink_KW.of (t.valve v).kink]? = none) :
    exec (.cycleRecord g v r) s = .next (t.setValve v ((t.valve v).watched r.umv)) := by
  obtain ⟨idle, behind, skip⟩ := watches.taken
  subst cycled
  show execCycleRecord g v r s = _
  unfold State.cycled at *
  simp only [execCycleRecord, idle, behind, skip, young, Bool.false_eq_true, if_false]
  rfl

theorem exec_cycleRecord_kink {t : State} {p : Int} (cycled : t = (s.pass g).cycled v) (watches : Watches t v r)
    (old : (((t.valve v).us ++ [r.umv]).reverse)[Pf.valveKink_KW.of (t.valve v).kink]? = some p)
    (kink : r.umv - p ≤ -(50 * Pf.valveKink_KTH.of (t.valve v).kink : Int)) :
    exec (.cycleRecord g v r) s = .next (t.closes v r) := by
  obtain ⟨idle, behind, skip⟩ := watches.taken
  subst cycled
  show execCycleRecord g v r s = _
  unfold State.cycled at *
  simp only [execCycleRecord, idle, behind, skip, old, kink, Bool.false_eq_true, if_false, if_true]
  rfl

theorem State.cycled_puts (u : State) (v : Fin 16) : Puts v (u.valve v) u (u.cycled v) :=
  (Puts.refl v u).keep ⟨rfl, rfl, rfl, rfl, rfl, rfl, rfl⟩ rfl

theorem Valve.watched_of_short {x : Valve} (short : x.us.length ≤ 15) (umv : Int) : x.watched umv = { x with us := x.us ++ [umv] } := by
  simp [Valve.watched, show x.us.length + 1 - 16 = 0 by omega]

end

/-! ### The commands, in the cases of O29 -/

section
variable {s : State} {g : Lapse} {v : Fin 16} {i : Int} {n : Nat}

theorem exec_boostEnd (boost : ((s.pass g).valve v).st = .boost)
    (due : (((s.pass g).valve v).iboost : Int) ≤ i ∨ ((s.pass g).valve v).phaseAt + ((s.pass g).valve v).tboost ≤ (s.pass g).now) :
    exec (.boostEnd g v i) s = .next ((s.pass g).boostDone v i) := by
  show execBoostEnd g v i s = _
  simp [execBoostEnd, boost, due, State.expired]

theorem exec_tholdExpiry (hold : ((s.pass g).valve v).st = .hold) (some' : ((s.pass g).valve v).thold ≠ 0)
    (time : ((s.pass g).valve v).phaseAt + ((s.pass g).valve v).thold ≤ (s.pass g).now) (first : ((s.pass g).valve v).retry = false) :
    exec (.tholdExpiry g v) s = .next ((s.pass g).valveDrop v .off (some (((s.pass g).valve v).cfgBit Pf.valveCfg_DECAY_H))) := by
  show execTholdExpiry g v s = _
  simp [execTholdExpiry, hold, some', time, first, State.expired]

theorem exec_valveConfirmationEnd (hold : ((s.pass g).valve v).st = .hold) (run : ((s.pass g).valve v).retry = true)
    (time : ((s.pass g).valve v).phaseAt + 2000000 ≤ (s.pass g).now) :
    exec (.valveConfirmationEnd g v) s = .next ((s.pass g).valveConfirm v) := by
  show execValveConfirmationEnd g v s = _
  simp [execValveConfirmationEnd, hold, run, time, State.expired]

theorem exec_chopCycleStart (chops : ((s.pass g).valve v).st = .peak ∨ ((s.pass g).valve v).st = .hold)
    (grid : (s.pass g).now % (s.pass g).chopTk (v / 4) = (v % 4) * (s.pass g).chopTk (v / 4) / 4) (below : i < (((s.pass g).valve v).level : Int)) :
    exec (.chopCycleStart g v i) s = .next ((s.pass g).setValve v
      { (s.pass g).valve v with low := true, decay := .none, onSince := some (((s.pass g).valve v).onSince.getD (s.pass g).now) }) := by
  show execChopCycleStart g v i s = _
  simp [execChopCycleStart, chops, grid, below]

theorem exec_chopLevelReached (chops : ((s.pass g).valve v).st = .peak ∨ ((s.pass g).valve v).st = .hold)
    (low : ((s.pass g).valve v).low = true) (reached : (((s.pass g).valve v).level : Int) ≤ i) :
    exec (.chopLevelReached g v i) s = .next ((s.pass g).setValve v { (s.pass g).valve v with low := false, onSince := none }) := by
  show execChopLevelReached g v i s = _
  simp [execChopLevelReached, chops, low, reached]

/-- A rail with a fault is not available (07 R205). -/
theorem State.railOk_of_fault {u : State} (fault : u.vlv.fault = true) : u.railOk = false := by simp [State.railOk, fault]

theorem exec_railAvailable (en : (s.pass g).pb Pf.bankRail_EN 0 = true) (power : (s.pass g).pd 9 = true) (sound : (s.pass g).vlv.fault = false)
    (high : 90 * (s.pass g).pf Pf.bankRail_BOOSTV 0 ≤ n) :
    exec (.railAvailable g n) s = .next { s.pass g with vlv := { (s.pass g).vlv with vrail := n, reached := true } } := by
  show execRailAvailable g n s = _
  unfold execRailAvailable
  generalize s.pass g = u at *
  simp [en, power, sound, high]

theorem exec_railFault (en : (s.pass g).pb Pf.bankRail_EN 0 = true) (power : (s.pass g).pd 9 = true) (sound : (s.pass g).vlv.fault = false)
    (bad : 6800 < n ∨ ((s.pass g).vlv.reached = false ∧ (s.pass g).vlv.railAt + 5000000 ≤ (s.pass g).now)) :
    exec (.railFault g n) s = .next (({ s.pass g with vlv := { (s.pass g).vlv with vrail := n, fault := true } } : State).emit 2 0xFF 0
      (leBytes 1 0 ++ leBytes 1 13 ++ leBytes 10 0)) := by
  show execRailFault g n s = _
  unfold execRailFault
  generalize s.pass g = u at *
  simp [en, power, sound, bad, State.expired]

end

/-- Settles O29, by what each phase leaves in the record of its valve and by the members that pass. -/
theorem valvePhases : Obligations.ValvePhases := by
  intro s g v i n u x others
  have lt := v.isLt
  and_intros
  · intro boost due
    obtain ⟨-, record, -⟩ := State.boostDone_turns (s := u) lt i
    refine does_of_run (exec_boostEnd boost due) ⟨Valve.st_of_apart record, congrArg Valve.phaseAt record, congrArg Valve.level record, ?_,
      fun w found => ?_⟩
    · exact (congrArg Valve.low record).trans (by simp [Valve.apart, Valve.peaked, ← decide_not, x])
    · obtain ⟨y, took⟩ := State.boostDone_waiter lt boost found i
      exact ⟨Valve.st_of_apart took, congrArg Valve.low took, congrArg Valve.gateAt took⟩
  · intro peak time
    obtain ⟨d, z, f, c, done⟩ := State.peakDone_puts (s := u) lt i
    obtain ⟨st, phase, level⟩ := x.peakEnd_hold u.now i d z f
    refine does_of_run (exec_tpeakEnd peak time) ⟨(congrArg Valve.st done.record).trans st, (congrArg Valve.phaseAt done.record).trans phase,
      (congrArg Valve.level done.record).trans level, done.fins, State.peakDone_rels i, fun ken fresh => ?_⟩
    obtain ⟨noclose, fault⟩ := Valve.peakEnd_missed ken fresh u.now i d z f
    exact ⟨(congrArg Valve.noclose done.record).trans noclose, (congrArg Valve.fault done.record).trans fault⟩
  · intro hold some' time first
    obtain ⟨d, z, f, off⟩ := State.valveDrop_puts (s := u) lt (by rw [hold]; exact VSt.noConfusion) .off (some (x.cfgBit Pf.valveCfg_DECAY_H))
    exact does_of_run (exec_tholdExpiry hold some' time first) ⟨congrArg Valve.st off.record, congrArg Valve.low off.record, off.fins⟩
  · intro hold run time
    obtain ⟨c, held⟩ := State.valveConfirm_puts (s := u) lt
    exact does_of_run (exec_valveConfirmationEnd hold run time)
      ⟨(congrArg Valve.st held.record).trans hold, congrArg Valve.retry held.record, congrArg Valve.trans held.record, held.fins⟩
  · exact fun chops grid below => does_of_run (exec_chopCycleStart chops grid below) rfl
  · exact fun chops low reached => does_of_run (exec_chopLevelReached chops low reached) rfl
  · intro r peak ken fresh power near inside begun
    have watches : Watches (u.cycled v) v r := ⟨peak, ken, fresh, power, near, inside, begun⟩
    refine ⟨fun young short => does_of_run (exec_cycleRecord_none rfl watches young) ?_,
      fun p old kink => does_of_run (exec_cycleRecord_kink rfl watches old kink) ?_⟩
    · have done := (u.cycled_puts v).setValve lt (x.watched r.umv)
      exact ⟨done.record.trans (Valve.watched_of_short short _), done.fins⟩
    · have done : Puts v (x.closed r) u ((u.cycled v).closes v r) := Puts.closes (t := u.cycled v) (u.cycled_puts v)
      exact ⟨congrArg Valve.detected done.record, congrArg Valve.tclose done.record, done.fins⟩
  · exact fun en power sound high => does_of_run (exec_railAvailable en power sound high) rfl
  · intro en power sound bad
    have vlv := (State.emit_reports ({ u with vlv := { u.vlv with vrail := n, fault := true } } : State) 2 0xFF 0
      (leBytes 1 0 ++ leBytes 1 13 ++ leBytes 10 0)).vlv
    refine does_of_run (exec_railFault en power sound bad) ⟨vlv, ?_, State.railOk_of_fault (congrArg Valves.fault vlv)⟩
    simp [State.railOk, en, power, sound]
  · let t : State := { u with vlv := { u.vlv with vrail := n } }
    refine does_of_run (exec_railLow n) ⟨State.boostsLow_vrail (s := t) _, fun boost starved => ?_⟩
    have mem : v.val ∈ t.starved n := List.mem_filter.mpr ⟨List.mem_range.mpr lt, by simpa using ⟨boost, starved⟩⟩
    obtain ⟨st, low, phase⟩ := State.boostsLow_of_mem (s := t) (fun k mem => List.mem_range.mp (List.mem_filter.mp mem).1) mem
    exact ⟨st, low, phase⟩

end Sys2Proof.Machine
end

section
/-!
PROOFS. The lighting block (08 R217 to R230): what its operations leave in the record of a chain, of the matrix and of a thermistor input;
then O31.
-/
namespace Sys2Proof.Machine

/-! ### Reports leave the block -/

section
variable {s t : State}

theorem Reports.light (h : Reports s t) : t.light = s.light := h.only.same .light (by decide)

theorem State.lightEvent_reports (s : State) (unit code kind index value : Nat) (temp : Int) :
    Reports s (s.lightEvent unit code kind index value temp) :=
  .of_only (State.lightEvent_only (.refl ..) (by decide))

/-- A report that is made under a condition. -/
theorem Reports.ite {b : Prop} [Decidable b] (h : Reports s t) : Reports s (if b then t else s) := by
  split
  · exact h
  · exact .refl s

end

/-! ### Records of the chains -/

/-- The record of chain c becomes x, and every other chain keeps its own. -/
structure Feeds (c : Nat) (x : Chain) (s t : State) : Prop where
  record : t.chain c = x
  others : ∀ k, k ≠ c → t.chain k = s.chain k

section
variable {c : Nat} {x y : Chain} {s t u : State}

theorem Feeds.fins {c : Fin 8} (h : Feeds c x s t) : ∀ k : Fin 8, k ≠ c → t.chain k = s.chain k :=
  fun k ne => h.others k (Fin.val_ne_iff.mpr ne)

theorem Feeds.refl (c : Nat) (s : State) : Feeds c (s.chain c) s s := ⟨rfl, fun _ _ => rfl⟩

theorem Feeds.setChain (h : Feeds c x s t) (lt : c < 8) (y : Chain) : Feeds c y s (t.setChain c y) :=
  ⟨by simp [State.chain_setChain, lt], fun k ne => by rw [State.chain_setChain, if_neg (fun own => ne own.1.symm), h.others k ne]⟩

/-- A change of the record. -/
theorem Feeds.change {f : Chain → Chain} (h : Feeds c x s t) (lt : c < 8) (eq : f x = y) : Feeds c y s (t.setChain c (f (t.chain c))) := by
  rw [h.record, eq]
  exact h.setChain lt y

/-- An operation that leaves the block. -/
theorem Feeds.keep (h : Feeds c x s t) (same : u.light = t.light) : Feeds c x s u := by
  have chain (k : Nat) : u.chain k = t.chain k := by simp only [State.chain, same]
  exact ⟨(chain c).trans h.record, fun k ne => (chain k).trans (h.others k ne)⟩

theorem Feeds.report (h : Feeds c x s t) (k : Reports t u) : Feeds c x s u := h.keep k.light

end

/-! ### The return check of a frame (08 R220) -/

/-- A record with other counts of the output check. -/
def Chain.doChecked (x : Chain) (bad good : Nat) (fault : Bool) : Chain := { x with doBad := bad, doGood := good, doFault := fault }

/-- A record with a result of the return check. -/
def Chain.resulted (x : Chain) (res cnt flags : Nat) : Chain := { x with res := res, resCnt := cnt, flags := flags }

section
variable {c : Nat} {x : Chain} {s t : State}

/-- The output check changes its own counts alone. -/
theorem Feeds.chainDo (h : Feeds c x s t) (lt : c < 8) (bad : Bool) : ∃ b g f, Feeds c (x.doChecked b g f) s (t.chainDo c bad) := by
  unfold State.chainDo
  extract_lets y b g t'
  have counted : Feeds c (x.doChecked b g (if b = 3 then true else if g = 3 then false else x.doFault)) s t' :=
    h.change (f := fun y => y.doChecked b g (if b = 3 then true else if g = 3 then false else y.doFault)) lt rfl
  refine ⟨b, g, _, counted.report ?_⟩
  split
  · exact State.lightEvent_reports ..
  · exact (State.lightEvent_reports ..).ite

/-- The return check changes its result, its count and its flags. -/
theorem Feeds.chainDiag (h : Feeds c x s t) (lt : c < 8) (res : Nat) : ∃ k f, Feeds c (x.resulted res k f) s (t.chainDiag c res) := by
  unfold State.chainDiag
  extract_lets y k t1
  have found : Feeds c (x.resulted res k x.flags) s t1 := h.change (f := fun y => y.resulted res k y.flags) lt rfl
  have flagged (f : Nat) : Feeds c (x.resulted res k f) s (t1.setChain c { t1.chain c with flags := f }) :=
    found.change (f := fun y => { y with flags := f }) lt rfl
  split
  · exact ⟨_, _, found⟩
  · split
    · exact ⟨k, 0, (flagged 0).report (reports_foldl (fun _ _ => (State.lightEvent_reports ..).ite) _ _)⟩
    · split
      · exact ⟨_, _, found⟩
      · exact ⟨_, _, (flagged _).report (State.lightEvent_reports ..)⟩

end

/-! ### Chain frames (08 R217 to R220, R235) -/

section
variable {s : State} {g : Lapse} {c : Fin 8}

/-- What starts a frame: the frame of zeros that is due, a commit that no frame has sent, or the grid of the periodic mode (08 R219, R235). -/
def State.chainDue (s : State) (c : Nat) : Prop :=
  (s.chain c).dark = 1 ∨ ((s.chain c).dark = 0 ∧ ((Pf.lcCfg_MODE.of (s.lcCfgNow c) = 1 ∧ (s.chain c).fresh = true) ∨
    (Pf.lcCfg_MODE.of (s.lcCfgNow c) ≠ 1 ∧ s.now % (Pf.lcCfg_FPER.of (s.lcCfgNow c) * 200000) = 0)))

theorem exec_chainFrameStart (en : Pf.lcCfg_EN.of ((s.pass g).lcCfgNow c) = 1) (power : (s.pass g).pd 8 = true)
    (opened : (s.pass g).fab.closed.testBit 8 = false) (idle : ((s.pass g).chain c).sending = none) (due : (s.pass g).chainDue c) :
    exec (.chainFrameStart g c) s = .next ((s.pass g).setChain c
      (((s.pass g).chain c).begin ((s.pass g).lcCfgNow c) ((s.pass g).chainFactor c) (s.pass g).now (s.pass g).load.held)) := by
  show execChainFrameStart g c s = _
  unfold execChainFrameStart
  generalize s.pass g = u at *
  rcases due with zeros | ⟨lit, ⟨mode, fresh⟩ | ⟨mode, grid⟩⟩
  · simp [en, power, opened, idle, zeros]
  · simp [en, power, opened, idle, lit, mode, fresh]
  · simp [en, power, opened, idle, lit, mode, grid]

/-- The slots of a frame of a `cfg` value, followed by the check slot where the chain has one (08 R218, R220). -/
def frameSlots (v : Nat) (slot : Nat → Nat) : List Nat :=
  (List.range (Pf.lcCfg_NSLOT.of v)).map slot ++ (if Pf.lcCfg_CHK.of v = 1 then [checkSlot (decide (Pf.lcCfg_SB.of v = 1))] else [])

theorem Chain.begin_of_lit {x : Chain} (lit : x.dark = 0) (v d t : Nat) (held : Bool) :
    x.begin v d t held = { x with
      sending := some t, factor := d, sentFid := x.commFid, fresh := false, len := chainLen v, wide := decide (Pf.lcCfg_SB.of v = 1),
      chk := decide (Pf.lcCfg_CHK.of v = 1), out := frameSlots v (fun i => deratedSlot d (bufGet x.comm i)) } := by
  simp [Chain.begin, frameSlots, lit]

theorem Chain.begin_of_zeros {x : Chain} (zeros : x.dark = 1) (v d t : Nat) (held : Bool) :
    x.begin v d t held = { x with
      sending := some t, factor := d, len := chainLen v, wide := decide (Pf.lcCfg_SB.of v = 1), chk := decide (Pf.lcCfg_CHK.of v = 1),
      out := frameSlots v (fun _ => 0), dark := if held then 2 else 0 } := by
  simp [Chain.begin, frameSlots, zeros]

/-- LCn_DO in tick j of bit i of the frame that goes out (08 R217, R218). -/
theorem State.lcDo_of_bit {k i j : Nat} (power : s.pd 8 = true) (sending : (s.chain c).sending = some k) (bit : i < (s.chain c).wire.length)
    (inside : j < 250) : s.lcDo c (k + 250 * i + j) = some (decide (j < bitHigh ((s.chain c).wire.getD i false))) := by
  have elapsed : k + 250 * i + j - k = 250 * i + j := by omega
  have index : (250 * i + j) / 250 = i := by omega
  have offset : (250 * i + j) % 250 = j := by omega
  simp [State.lcDo, power, sending, elapsed, index, offset, bit, show k ≤ k + 250 * i + j by omega]

/-- Through a reset of the logic die the end of a frame frees the chain, and nothing is checked (08 R235). -/
theorem exec_chainFrameEnd_held {k : Nat} (sending : ((s.pass g).chain c).sending = some k)
    (time : k + ((s.pass g).chain c).len ≤ (s.pass g).now) (held : (s.pass g).load.held = true) (pulses : List (Nat × Nat)) (bad : Bool) :
    exec (.chainFrameEnd g c pulses bad) s = .next ((s.pass g).setChain c { (s.pass g).chain c with sending := none }) := by
  show execChainFrameEnd g c pulses bad s = _
  unfold execChainFrameEnd
  generalize s.pass g = u at *
  simp [sending, State.expired, time, held]

/-- Else the output and what came back are checked, and the committed buffer stays (08 R220). -/
theorem does_chainFrameEnd {k : Nat} (sending : ((s.pass g).chain c).sending = some k)
    (time : k + ((s.pass g).chain c).len ≤ (s.pass g).now) (runs : (s.pass g).load.held = false) (pulses : List (Nat × Nat)) (bad : Bool) :
    Does (.chainFrameEnd g c pulses bad) s (fun t => ∃ y, Feeds c y (s.pass g) t ∧ y.sending = none ∧ y.comm = ((s.pass g).chain c).comm ∧
      (((s.pass g).chain c).chk = true → y.res = (((s.pass g).chain c).result (((s.pass g).chain c).decode k pulses)).1)) := by
  show ∃ t, execChainFrameEnd g c pulses bad s = .next t ∧ _
  unfold execChainFrameEnd
  generalize s.pass g = u at *
  have ended : u.expired k (u.chain c).len = true := decide_eq_true time
  simp only [sending, ended, if_true, State.setChain_fields, runs, Bool.false_eq_true, if_false]
  obtain ⟨b, n, f, done⟩ := ((Feeds.refl c u).setChain c.isLt { u.chain c with sending := none }).chainDo c.isLt bad
  split
  · refine ⟨_, rfl, ?_⟩
    split
    next m _ =>
      obtain ⟨_, _, checked⟩ := (done.change (f := fun x => { x with nfound := m }) c.isLt rfl).chainDiag c.isLt
        ((u.chain c).result ((u.chain c).decode k pulses)).1
      exact ⟨_, checked, rfl, rfl, fun _ => rfl⟩
    next =>
      obtain ⟨_, _, checked⟩ := done.chainDiag c.isLt ((u.chain c).result ((u.chain c).decode k pulses)).1
      exact ⟨_, checked, rfl, rfl, fun _ => rfl⟩
  next bare => exact ⟨_, rfl, _, done, rfl, rfl, fun chk => absurd chk bare⟩

end

/-! ### The matrix and its grant (08 R225, R228, R229) -/

/-- The record of a matrix whose rows and columns are off (08 R229). -/
def Mx.stopped (x : Mx) (st : MxSt) : Mx := { x with st := st, granted := false, asked := false, row := none, colOff := 0, ps := 0 }

/-- The record of a matrix whose restart has held (08 R229). -/
def Mx.confirmed (x : Mx) : Mx := { x with st := .scan, trans := satInc 15 x.trans }

/-- The record of a matrix that starts to scan at a frame boundary (08 R225). -/
def Mx.scanning (x : Mx) (now : Nat) : Mx :=
  { x with st := .scan, granted := false, asked := false, frameAt := now, restartAt := now, row := none, colOff := 0, shortNow := 0, openNow := 0 }

/-- The matrix stops after a trip in row r, its first or one after the restart has held. -/
def State.rowTripped (s : State) (r : Nat) : State :=
  let s := s.mxStop .retryWait
  (s.setMx { s.light.mx with tripRow := r, tripAt := s.now }).lightEvent 8 1 0 r 0 0

/-- The matrix latches after a trip in row r in the window of a restart. -/
def State.rowLatched (s : State) (r : Nat) : State :=
  let s := s.mxStop .latched
  (s.setMx { s.light.mx with lasting := satInc 15 s.light.mx.lasting }).lightEvent 8 1 2 r 0 0

section
variable {s : State} {g : Lapse} {r : Fin 8}

/-- An increase changes of the record VROW alone, as measured for the request. -/
theorem State.mxRaise_light (s : State) : ∃ v, s.mxRaise.light = { s.light with mx := { s.light.mx with vrow := v } } := by
  unfold State.mxRaise
  extract_lets x t m
  split
  · exact ⟨_, rfl⟩
  · split
    · split <;> exact ⟨_, rfl⟩
    · exact ⟨_, rfl⟩

theorem State.mxStop_effect (s : State) (st : MxSt) :
    (s.mxStop st).light = { s.light with mx := s.light.mx.stopped st } ∧ (s.mxStop st).now = s.now := by
  unfold State.mxStop
  extract_lets released withdrawn
  have same : released.light = s.light ∧ released.now = s.now := by unfold released; split <;> exact ⟨rfl, rfl⟩
  obtain ⟨light, now⟩ := same
  exact ⟨show ({ released.light with mx := released.light.mx.stopped st } : Light) = _ by rw [light], now⟩

/-- A committed frame that the grant covers is shown (08 R228). -/
theorem State.mxShow_light (free : s.mxWaits = false) (covered : s.mxNeed ≤ s.light.mx.ps) :
    s.mxShow.light = { s.light with mx := { s.light.mx with
      shown := s.light.mx.comm, shownFid := s.light.mx.commFid, factors := s.mxFactors, icol := s.mxIcol, ps := s.mxNeed } } := by
  simp only [State.mxShow, free, covered, Bool.false_eq_true, if_false, if_true]
  split <;> rfl

theorem exec_matrixFrameBoundary (power : (s.pass g).pd 8 = true) (grid : (s.pass g).now % (8 * (s.pass g).trow) = 0)
    (granted : (s.pass g).light.mx.granted = true) (wait : (s.pass g).light.mx.st = .grantWait) :
    exec (.matrixFrameBoundary g) s = .next ((s.pass g).setMx ((s.pass g).light.mx.scanning (s.pass g).now)).mxShow := by
  show execMatrixFrameBoundary g s = _
  unfold execMatrixFrameBoundary
  generalize s.pass g = u at *
  simp [power, grid, granted, wait, Mx.scanning]

theorem exec_rowSlotStart (scans : (s.pass g).light.mx.st = .scan ∨ (s.pass g).light.mx.st = .retryOn)
    (time : (s.pass g).now = (s.pass g).light.mx.frameAt + r * (s.pass g).trow) :
    exec (.rowSlotStart g r) s = .next ((s.pass g).setMx { (s.pass g).light.mx with row := some r }) := by
  show execRowSlotStart g r s = _
  unfold execRowSlotStart
  generalize s.pass g = u at *
  simp [scans, time]

/-- A column whose land stood high goes off, for the rest of the frame (08 R229). -/
theorem exec_columnIntervalEnd_high {k : Fin 24} (row : (s.pass g).light.mx.row = some r.val) (on : 0 < (s.pass g).columnOn r k)
    (time : (s.pass g).columnEnd r k ≤ (s.pass g).now) :
    exec (.columnIntervalEnd g r k true false) s = .next ((s.pass g).setMx { (s.pass g).light.mx with
      colOff := (s.pass g).light.mx.colOff ||| (1 <<< k.val), shortNow := (s.pass g).light.mx.shortNow ||| (1 <<< k.val) }) := by
  show execColumnIntervalEnd g r k true false s = _
  unfold execColumnIntervalEnd
  generalize s.pass g = u at *
  simp [row, on, time]

/-- A column that did not reach its current in 10 µs is found open (08 R229). -/
theorem exec_columnIntervalEnd_weak {k : Fin 24} (row : (s.pass g).light.mx.row = some r.val) (on : 2000 ≤ (s.pass g).columnOn r k)
    (time : (s.pass g).columnEnd r k ≤ (s.pass g).now) :
    exec (.columnIntervalEnd g r k false true) s = .next ((s.pass g).setMx { (s.pass g).light.mx with
      openNow := (s.pass g).light.mx.openNow ||| (1 <<< k.val) }) := by
  show execColumnIntervalEnd g r k false true s = _
  unfold execColumnIntervalEnd
  generalize s.pass g = u at *
  simp [row, on, time, show 0 < u.columnOn r k by omega]

theorem State.mxConfirm_reports (s : State) : Reports (s.setMx s.light.mx.confirmed) s.mxConfirm := State.lightEvent_reports ..

theorem State.rowTripped_mx (s : State) (r : Nat) :
    (s.rowTripped r).light.mx = { s.light.mx.stopped .retryWait with tripRow := r, tripAt := s.now } := by
  unfold State.rowTripped
  extract_lets t
  obtain ⟨light, now⟩ := s.mxStop_effect .retryWait
  rw [(State.lightEvent_reports ..).light]
  show ({ t.light.mx with tripRow := r, tripAt := t.now } : Mx) = _
  rw [light, now]

theorem State.rowLatched_mx (s : State) (r : Nat) :
    (s.rowLatched r).light.mx = { s.light.mx.stopped .latched with lasting := satInc 15 s.light.mx.lasting } := by
  unfold State.rowLatched
  extract_lets t
  obtain ⟨light, -⟩ := s.mxStop_effect .latched
  rw [(State.lightEvent_reports ..).light]
  show ({ t.light.mx with lasting := satInc 15 t.light.mx.lasting } : Mx) = _
  rw [light]
  rfl

theorem exec_rowTrip_scan (scan : (s.pass g).light.mx.st = .scan) : exec (.rowTrip g r) s = .next ((s.pass g).rowTripped r) := by
  show execRowTrip g r s = _
  unfold execRowTrip
  generalize s.pass g = u at *
  simp only [scan, reduceCtorEq, decide_false, Bool.false_and, Bool.false_eq_true, if_false]
  rfl

/-- A trip after the window of a restart is a new first one (08 R229). -/
theorem exec_rowTrip_held (run : (s.pass g).light.mx.st = .retryOn) (time : (s.pass g).light.mx.restartAt + 2000000 ≤ (s.pass g).now) :
    exec (.rowTrip g r) s = .next ((s.pass g).mxConfirm.rowTripped r) := by
  show execRowTrip g r s = _
  unfold execRowTrip
  generalize s.pass g = u at *
  have scan : u.mxConfirm.light.mx.st = .scan := by rw [u.mxConfirm_reports.light]; rfl
  have ended : u.expired u.light.mx.restartAt 2000000 = true := decide_eq_true time
  simp only [run, ended, decide_true, Bool.and_self, if_true, scan]
  rfl

theorem exec_rowTrip_early (run : (s.pass g).light.mx.st = .retryOn) (time : (s.pass g).now < (s.pass g).light.mx.restartAt + 2000000) :
    exec (.rowTrip g r) s = .next ((s.pass g).rowLatched r) := by
  show execRowTrip g r s = _
  unfold execRowTrip
  generalize s.pass g = u at *
  have window : u.expired u.light.mx.restartAt 2000000 = false := decide_eq_false (not_le.mpr time)
  simp only [window, Bool.and_false, Bool.false_eq_true, if_false, run]
  rfl

theorem exec_matrixRestart (wait : (s.pass g).light.mx.st = .retryWait) (fresh : (s.pass g).light.mx.asked = false)
    (time : (s.pass g).light.mx.tripAt + 20000000 ≤ (s.pass g).now) :
    exec (.matrixRestart g) s = .next (((s.pass g).setMx { (s.pass g).light.mx with asked := true }).mxAsk .retry) := by
  show execMatrixRestart g s = _
  unfold execMatrixRestart
  generalize s.pass g = u at *
  simp [wait, fresh, time, State.expired]

/-- The request of the matrix is pending under its number, with VROW measured for it (08 R228). -/
theorem State.mxAsk_asks (s : State) (kind : ReqKind) :
    (s.mxAsk kind).light.mx = { s.light.mx with vrow := Config.mxVrow s.now } ∧
    ∃ r ∈ (s.mxAsk kind).iso.pend, r.num = 112 ∧ r.kind = kind ∧ r.stamp = s.now :=
  ⟨rfl, _, State.addReq_mem _, rfl, rfl, rfl⟩

theorem exec_matrixConfirmEnd (run : (s.pass g).light.mx.st = .retryOn) (time : (s.pass g).light.mx.restartAt + 2000000 ≤ (s.pass g).now) :
    exec (.matrixConfirmEnd g) s = .next (s.pass g).mxConfirm := by
  show execMatrixConfirmEnd g s = _
  unfold execMatrixConfirmEnd
  generalize s.pass g = u at *
  simp [run, time, State.expired]

end

/-! ### LIGHT_FRAME (08 R221 to R223) -/

/-- The payload of LIGHT_FRAME (08 R221). -/
def framePayload (f : LightFrame) : List Byte :=
  leBytes 1 f.target ++ leBytes 1 f.flags ++ leBytes 2 f.first ++ leBytes 2 f.count ++ leBytes 2 f.fid ++ f.data

/-- A staging buffer after the writes of a frame. -/
def bufPuts (b l : List (Nat × Nat)) : List (Nat × Nat) := l.foldl (fun b p => bufPut b p.1 p.2) b

/-- The writes of a frame in the staging buffer of its target. -/
def State.stage (s : State) (f : LightFrame) (l : List (Nat × Nat)) : State :=
  if f.target = 8 then s.setMx { s.light.mx with staging := bufPuts s.light.mx.staging l }
  else s.setChain f.target { s.chain f.target with staging := bufPuts (s.chain f.target).staging l }

/-- The writes of a frame and, with COMMIT, its commit. -/
def State.takeFrame (s : State) (f : LightFrame) (l : List (Nat × Nat)) : State :=
  if f.flags.testBit 1 then (s.stage f l).commitLight f.target f.fid else s.stage f l

/-- The record of a chain after a commit (08 R223). -/
def Chain.committed (x : Chain) (fid : Nat) : Chain :=
  { x with comm := x.staging, commFid := fid, fresh := true, skipped := if x.fresh then satInc 0xFFFF x.skipped else x.skipped }

/-- The record of a chain after a frame for it. -/
def Chain.taking (x : Chain) (f : LightFrame) (l : List (Nat × Nat)) : Chain :=
  let y := { x with staging := bufPuts x.staging l }
  if f.flags.testBit 1 then y.committed f.fid else y

/-- The record of the matrix after a frame for it, with VROW as measured for an increase. -/
def Mx.taking (x : Mx) (f : LightFrame) (l : List (Nat × Nat)) (vrow : Nat) : Mx :=
  let y := { x with staging := bufPuts x.staging l }
  if f.flags.testBit 1 then { y with comm := y.staging, commFid := f.fid, vrow := vrow } else y

section
variable {s : State} {g : Lapse} {q : Rq} {f : LightFrame} {l : List (Nat × Nat)}

/-- A LIGHT_FRAME that passes R221 is taken, and answered. -/
theorem does_lightFrame (takes : Takes (s.pass g) q 0x22 0 (framePayload f))
    (check : (s.pass g).lightCheck ((s.pass g).direct q 0x22 0 (framePayload f)) f = .ok l) :
    Does (.lightFrame g q f) s (fun t => t.light = (((s.pass g).touch q.ses).takeFrame f l).light) := by
  refine does_of_takes (payload := framePayload f) _ rfl takes ?_
  generalize s.pass g = u at *
  have check' : (u.touch q.ses).lightCheck (u.direct q 0x22 0 (framePayload f)) f = .ok l := check
  simp only [check']
  exact (State.answer_only (.refl _ _) (fun _ h => h)).same .light (by decide)

theorem State.takeFrame_feeds (lt : f.target < 8) : Feeds f.target ((s.chain f.target).taking f l) s (s.takeFrame f l) := by
  have chain : f.target ≠ 8 := by omega
  have staged : Feeds f.target { s.chain f.target with staging := bufPuts (s.chain f.target).staging l } s (s.stage f l) := by
    unfold State.stage
    rw [if_neg chain]
    exact (Feeds.refl _ s).setChain lt _
  unfold State.takeFrame Chain.taking
  split
  · unfold State.commitLight
    rw [if_neg chain]
    exact staged.change (f := (·.committed f.fid)) lt rfl
  · exact staged

theorem State.takeFrame_mx (mx : f.target = 8) : ∃ v, (s.takeFrame f l).light = { s.light with mx := s.light.mx.taking f l v } := by
  have staged : s.stage f l = s.setMx { s.light.mx with staging := bufPuts s.light.mx.staging l } := if_pos mx
  unfold State.takeFrame Mx.taking
  rw [staged]
  split
  · unfold State.commitLight
    rw [if_pos mx]
    exact State.mxRaise_light _
  · exact ⟨0, rfl⟩

end

/-! ### Thermistor inputs (08 R230) -/

/-- The record of input k becomes x, and every other input keeps its own. -/
structure Senses (k : Nat) (x : Ntc) (s t : State) : Prop where
  steady : Steady s t
  record : t.ntcRec k = x
  others : ∀ i, i ≠ k → t.ntcRec i = s.ntcRec i

/-- What a conversion to a code makes of the record of an input of a type. -/
structure Ntc.Took (x : Ntc) (type code : Nat) (y : Ntc) : Prop where
  off : type = 0 → y = {}
  inside : type ≠ 0 → 20 ≤ code → code ≤ 4050 →
    y.openN = 0 ∧ y.shortN = 0 ∧ y.codes = (x.codes ++ [code]).drop (x.codes.length + 1 - 8)

/-- The conversions of the first n inputs. -/
def State.ntcConverted (s : State) (codes : List Nat) (n : Nat) : State :=
  (List.range n).foldl (fun s k => s.ntcConvert k (codes.getD k 0)) s

section
variable {s t u : State} {g : Lapse} {k : Nat} {x y : Ntc} {codes : List Nat}

theorem Senses.setNtc (h : Senses k x s t) (lt : k < 8) (y : Ntc) : Senses k y s (t.setNtc k y) :=
  ⟨h.steady.trans ⟨rfl, rfl, rfl, rfl, rfl, rfl, rfl⟩, by simp [State.ntcRec_setNtc, lt],
    fun i ne => by rw [State.ntcRec_setNtc, if_neg (fun own => ne own.1.symm), h.others i ne]⟩

theorem Senses.refl (k : Nat) (s : State) : Senses k (s.ntcRec k) s s := ⟨.refl s, rfl, fun _ _ => rfl⟩

theorem Reports.ntcRec (h : Reports s t) (i : Nat) : t.ntcRec i = s.ntcRec i := by simp only [State.ntcRec, h.light]

theorem Senses.report (h : Senses k x s t) (told : Reports t u) : Senses k x s u :=
  ⟨h.steady.trans told.steady, (told.ntcRec k).trans h.record, fun i ne => (told.ntcRec i).trans (h.others i ne)⟩

theorem Senses.ntcOff (lt : k < 8) : Senses k {} s (s.ntcOff k) := by
  unfold State.ntcOff
  extract_lets x t1 t2
  have off : Senses k {} s t1 := (Senses.refl k s).setNtc lt {}
  have told : Senses k {} s t2 := off.report (State.lightEvent_reports ..).ite
  exact told.report (State.lightEvent_reports ..).ite

/-- Of the record the reports of a factor change LOW alone (08 R234). -/
theorem Senses.ntcDerate (h : Senses k x s t) (lt : k < 8) (d : Nat) (temp : Int) :
    ∃ b, Senses k { x with low := b } s (t.ntcDerate k d temp) := by
  unfold State.ntcDerate
  extract_lets y
  have record : y = x := h.record
  split
  · exact ⟨x.low, h⟩
  · rw [record]
    exact ⟨_, (h.setNtc lt { x with low := !x.low }).report (State.lightEvent_reports ..)⟩

/-- One conversion (08 R230). -/
theorem State.ntcConvert_senses (lt : k < 8) (code : Nat) :
    ∃ y, Senses k y s (s.ntcConvert k code) ∧ (s.ntcRec k).Took (s.pf Pf.ntcCfg_TYPE k) code y := by
  unfold State.ntcConvert
  extract_lets type x x' temp sense d t1 t2 t3
  split
  next off => exact ⟨_, .ntcOff lt, fun _ => rfl, fun on => absurd off on⟩
  next on =>
    have set' : Senses k { x' with sense := sense, factor := d, temp := temp } s t1 := (Senses.refl k s).setNtc lt _
    have ended : Senses k { x' with sense := sense, factor := d, temp := temp } s t2 := set'.report (State.lightEvent_reports ..).ite
    have begun : Senses k { x' with sense := sense, factor := d, temp := temp } s t3 := ended.report (State.lightEvent_reports ..).ite
    obtain ⟨b, done⟩ := begun.ntcDerate lt d temp
    refine ⟨_, done, fun off => absurd off on, fun _ low high => ?_⟩
    have inside : x' = { x with openN := 0, shortN := 0, codes := (x.codes ++ [code]).drop (x.codes.length + 1 - 8) } := by
      unfold x'
      rw [if_neg (not_lt.mpr high), if_neg (not_lt.mpr low)]
    exact ⟨congrArg Ntc.openN inside, congrArg Ntc.shortN inside, congrArg Ntc.codes inside⟩

/-- Each input takes its own code, by the conversions before it and after it leaving it. -/
theorem State.ntcConverted_spec (n : Nat) (le : n ≤ 8) :
    Steady s (s.ntcConverted codes n) ∧ (n ≤ k → (s.ntcConverted codes n).ntcRec k = s.ntcRec k) ∧
    (k < n → (s.ntcRec k).Took (s.pf Pf.ntcCfg_TYPE k) (codes.getD k 0) ((s.ntcConverted codes n).ntcRec k)) := by
  induction n with
  | zero => exact ⟨.refl s, fun _ => rfl, fun none' => absurd none' (Nat.not_lt_zero k)⟩
  | succ n ih =>
    obtain ⟨steady, before, after⟩ := ih (by omega)
    have last : s.ntcConverted codes (n + 1) = (s.ntcConverted codes n).ntcConvert n (codes.getD n 0) := by
      simp [State.ntcConverted, List.range_succ]
    obtain ⟨y, done, took⟩ := State.ntcConvert_senses (s := s.ntcConverted codes n) (show n < 8 by omega) (codes.getD n 0)
    rw [last]
    refine ⟨steady.trans done.steady, fun le' => ?_, fun lt' => ?_⟩
    · rw [done.others k (by omega), before (by omega)]
    · obtain rfl | ne := eq_or_ne k n
      · rw [before le_rfl, steady.pf] at took
        exact done.record ▸ took
      · exact done.others k ne ▸ after (by omega)

/-- What a change of factors asks for and reports leaves the records of the inputs. -/
theorem State.ntcApply_ntcRec (s s0 : State) (i : Nat) : (s.ntcApply s0).ntcRec i = s.ntcRec i := by
  unfold State.ntcApply
  extract_lets t1 t2
  have told : Only [.atlas, .iso, .evs, .ctl] s t1 := by
    refine Only.foldl (.refl ..) (fun t i => ?_)
    extract_lets n
    split
    · exact State.lightEvent_only (.refl ..) (by decide)
    · exact .refl ..
  have asked : Only [.atlas, .iso, .evs, .ctl] s t2 := by
    refine Only.foldl told (fun t g => Only.foldl (.refl ..) (fun t m => ?_))
    split
    · exact State.askMore_only (State.dropMore_only (.refl ..) (by decide)) (by decide)
    · exact .refl ..
  have light : t2.light = s.light := asked.same .light (by decide)
  split
  · simp only [State.ntcRec, light]
  · obtain ⟨v, raised⟩ := t2.mxRaise_light
    simp only [State.ntcRec, raised, light]

theorem exec_ntcConversion (power : (s.pass g).pd 15 = true) (grid : (s.pass g).now % 2000000 = 0) :
    exec (.ntcConversion g codes) s = .next (((s.pass g).ntcConverted codes 8).ntcApply (s.pass g)) := by
  show execNtcConversion g codes s = _
  unfold execNtcConversion
  generalize s.pass g = u at *
  simp [power, grid, State.ntcConverted]

end

/-- Settles O31, by what each command leaves in the record of a chain, of the matrix or of a thermistor input. -/
theorem lighting : Obligations.Lighting := by
  intro s g c u x m
  have lt := c.isLt
  and_intros
  · intro q f l p stg takes check target
    have feeds := State.takeFrame_feeds (s := u.touch q.ses) (f := f) (l := l) (target ▸ lt)
    obtain ⟨t, run, light⟩ := does_lightFrame takes check
    have done := feeds.keep light
    rw [target] at done
    refine ⟨fun plain => ⟨t, run, ?_, done.fins⟩, fun commit => ⟨t, run, ?_⟩⟩
    · exact done.record.trans (if_neg (by simp [plain]))
    · exact done.record.trans (if_pos commit)
  · intro q f l p stg takes check target
    obtain ⟨v, taken⟩ := State.takeFrame_mx (s := u.touch q.ses) (l := l) target
    obtain ⟨t, run, light⟩ := does_lightFrame takes check
    rw [taken] at light
    have mx : t.light.mx = m.taking f l v := congrArg Light.mx light
    refine ⟨t, run, ?_, (congrArg Light.lc light :), fun commit => ?_, fun plain => ?_⟩ <;> rw [mx]
    · unfold Mx.taking
      split <;> rfl
    · rw [Mx.taking, if_pos commit]
      exact ⟨rfl, rfl⟩
    · exact if_neg (by simp [plain])
  · intro v sends en power opened idle
    refine ⟨fun lit due => does_of_run (exec_chainFrameStart en power opened idle (.inr ⟨lit, due⟩)) ?_,
      fun zeros => does_of_run (exec_chainFrameStart en power opened idle (.inl zeros)) ?_⟩
    · exact congrArg (u.setChain c) (Chain.begin_of_lit lit ..)
    · exact congrArg (u.setChain c) (Chain.begin_of_zeros zeros ..)
  · exact fun k i j power sending bit inside => State.lcDo_of_bit power sending bit inside
  · intro k pulses bad sending time
    cases held : u.load.held with
    | true =>
      have freed := (Feeds.refl c u).setChain lt { x with sending := none }
      exact does_of_run (exec_chainFrameEnd_held sending time held pulses bad)
        ⟨congrArg Chain.sending freed.record, (congrArg Chain.comm freed.record :), freed.fins, fun runs => Bool.noConfusion runs, fun _ => rfl⟩
    | false =>
      obtain ⟨t, run, y, feeds, free, comm, res⟩ := does_chainFrameEnd sending time held pulses bad
      exact ⟨t, run, feeds.record ▸ free, feeds.record ▸ comm, feeds.fins, fun _ chk => feeds.record ▸ res chk,
        fun held => Bool.noConfusion held⟩
  · intro power grid granted wait free covered
    refine does_of_run (exec_matrixFrameBoundary power grid granted wait) ?_
    rw [State.mxShow_light (s := u.setMx (m.scanning u.now)) free covered]
    exact ⟨rfl, rfl, rfl, rfl, rfl, rfl, rfl⟩
  · exact fun scans time => does_of_run (exec_rowSlotStart scans time) rfl
  · exact fun k row on time => ⟨does_of_run (exec_columnIntervalEnd_high row on time) rfl,
      fun long => does_of_run (exec_columnIntervalEnd_weak row long time) rfl⟩
  · intro scan
    refine does_of_run (exec_rowTrip_scan scan) ?_
    rw [State.rowTripped_mx]
    exact ⟨rfl, rfl, rfl, rfl, rfl, rfl⟩
  · intro run time
    refine does_of_run (exec_rowTrip_held run time) ?_
    rw [State.rowTripped_mx, u.mxConfirm_reports.light, u.mxConfirm_reports.steady.now]
    exact ⟨rfl, rfl, rfl, rfl, rfl, rfl⟩
  · intro run time
    refine does_of_run (exec_rowTrip_early run time) ?_
    rw [State.rowLatched_mx]
    exact ⟨rfl, rfl⟩
  · exact fun wait fresh time => does_of_run (exec_matrixRestart wait fresh time) (State.mxAsk_asks _ .retry)
  · exact fun run time => does_of_run (exec_matrixConfirmEnd run time) (congrArg Light.mx u.mxConfirm_reports.light)
  · intro codes power grid
    refine does_of_run (exec_ntcConversion power grid) ?_
    obtain ⟨-, -, took⟩ := State.ntcConverted_spec (s := u) (codes := codes) 8 le_rfl
    obtain ⟨off, inside⟩ := took lt
    rw [State.ntcApply_ntcRec]
    exact ⟨off, inside⟩

end Sys2Proof.Machine
end

section
/-!
PROOFS. Domains that are raised, the return to RUN, and how an entry goes on (01 R24, 09 R240, R241, R245).
-/
namespace Sys2Proof.Machine

/-! ### Raising domains (01 R24) -/

/-- Domains have been raised: none has gone off, and of the power record only PDON has changed. -/
structure Raised (s t : State) : Prop where
  kept : ∀ p, s.pd p = true → t.pd p = true
  pwr : ∃ on, t.pwr = { s.pwr with pdOn := on }

section
variable {s t u : State} {p mask : Nat} {l : List Nat}

theorem Raised.of_same (h : t.pwr = s.pwr) : Raised s t := ⟨fun p on => by rw [State.pd, h]; exact on, s.pwr.pdOn, h⟩

theorem Raised.trans (h : Raised s t) (k : Raised t u) : Raised s u := by
  obtain ⟨on, pwr⟩ := h.pwr
  obtain ⟨on', pwr'⟩ := k.pwr
  exact ⟨fun p on => k.kept p (h.kept p on), on', by rw [pwr', pwr]⟩

theorem Raised.st (h : Raised s t) : t.pwr.st = s.pwr.st := by obtain ⟨on, pwr⟩ := h.pwr; rw [pwr]
theorem Raised.entry (h : Raised s t) : t.pwr.entry = s.pwr.entry := by obtain ⟨on, pwr⟩ := h.pwr; rw [pwr]

theorem testBit_or_shift (v p q : Nat) : (v ||| 1 <<< p).testBit q = (v.testBit q || decide (p = q)) := by
  simp [Nat.testBit_or, Nat.shiftLeft_eq, Nat.testBit_two_pow]

/-- Raising a domain switches it on and none off. -/
theorem State.raise1_raised (s : State) (p : Nat) : Raised s (s.raise1 p) ∧ (s.raise1 p).pd p = true := by
  unfold State.raise1
  split
  next on => exact ⟨.of_same rfl, on⟩
  next off =>
    extract_lets v f w
    have up : (w.domainUp p).pwr = w.pwr := (State.domainUp_only (.refl _ w) (fun _ h => h)).same .pwr (by decide)
    have bits (q : Nat) : (w.domainUp p).pd q = (s.pd q || decide (p = q)) := by
      rw [State.pd, up]
      exact testBit_or_shift ..
    exact ⟨⟨fun q on => by simp [bits, on], _, up⟩, by simp [bits]⟩

theorem State.raises_raised (l : List Nat) : Raised s (l.foldl State.raise1 s) ∧ ∀ p ∈ l, (l.foldl State.raise1 s).pd p = true := by
  induction l generalizing s with
  | nil => exact ⟨.of_same rfl, fun p mem => absurd mem (List.not_mem_nil)⟩
  | cons q l ih =>
    obtain ⟨first, own⟩ := s.raise1_raised q
    obtain ⟨rest, all⟩ := ih (s := s.raise1 q)
    refine ⟨first.trans rest, fun p mem => ?_⟩
    rcases List.mem_cons.mp mem with rfl | mem
    · exact rest.kept p own
    · exact all p mem

theorem mem_raiseOrder (p : Fin 16) : p.val ∈ raiseOrder := by
  revert p
  decide

/-- Every domain of the mask is on afterwards. -/
theorem State.raise_raised (s : State) (mask : Nat) : Raised s (s.raise mask) ∧ ∀ p : Fin 16, mask.testBit p = true → (s.raise mask).pd p = true := by
  unfold State.raise
  extract_lets f v
  obtain ⟨all, each⟩ := State.raises_raised (s := v) (raiseOrder.filter (fun p => mask.testBit p))
  have opened : Raised s v := .of_same rfl
  exact ⟨opened.trans all, fun p bit => each p (List.mem_filter.mpr ⟨mem_raiseOrder p, bit⟩)⟩

/-! ### The return to RUN (09 R240, R248) -/

/-- The device is in RUN, without an entry, with the domains on that `u` has for RUN. -/
def InRun (u t : State) : Prop :=
  t.pwr.st = .run ∧ t.pwr.entry = none ∧ ∀ p : Fin 16, u.runMask.testBit p = true → t.pd p = true

theorem InRun.keep (h : InRun u s) (same : t.pwr = s.pwr) : InRun u t := by
  simpa only [InRun, State.pd, same] using h

theorem State.runMask_congr (h : t.par = s.par) : t.runMask = s.runMask := by
  simp only [State.runMask, State.pf, State.parOf, h]

theorem State.backToRun_inRun (par : s.par = u.par) : InRun u s.backToRun := by
  unfold State.backToRun
  extract_lets v
  obtain ⟨raised, each⟩ := v.raise_raised v.runMask
  have up : InRun u (v.raise v.runMask) := by
    refine ⟨raised.st, raised.entry, fun p bit => each p ?_⟩
    rwa [State.runMask_congr (s := u) (t := v) par]
  refine up.keep (Only.same (l := [.fab, .pace, .svy, .inp]) ?_ .pwr (by decide))
  exact State.closeNext_only (State.surveyInRun_only (State.paceRestore_only (.refl ..) (by decide)) (by decide)) (by decide)

/-! ### The next domain to go (02 R40, 09 R245) -/

theorem State.closeNext_pwr (s : State) : s.closeNext.pwr = s.pwr :=
  (State.closeNext_only (.refl _ s) (fun _ h => h)).same .pwr (by decide)

/-- Where no domain is closed, every domain that is on is to be kept. -/
theorem State.closeNext_open (none' : s.closeNext.fab.closed = 0) (p : Fin 16) (on : s.pd p = true) : s.fab.closed ≠ 0 ∨ s.keepMask.testBit p = true := by
  unfold State.closeNext at none'
  split at none'
  next closed => exact .inl closed
  next =>
    split at none'
    next q _ =>
      have none' : 1 <<< q = 0 := none'
      simp [Nat.shiftLeft_eq] at none'
    next found =>
      have kept := List.find?_eq_none.mp found p (List.mem_reverse.mpr (mem_raiseOrder p))
      exact .inr (by simpa [on] using kept)

/-- HOLD is reached with its record: no entry is left. -/
theorem State.holdReached_pwr (s : State) (e : Entry) : (s.holdReached e).pwr.entry = none ∧ (s.holdReached e).pwr.st = .hold := by
  unfold State.holdReached State.enterHold
  extract_lets v w x
  have paced : w.pwr = v.pwr := (State.paceAll_only (.refl _ v) (fun _ h => h)).same .pwr (by decide)
  have told : Only [.atlas, .evs, .ctl] w (x.powerEvent 0 1 0 1 0) := by
    refine State.powerEvent_only ?_ (by decide)
    unfold x
    split
    · exact State.complete_only (.refl ..) (by decide)
    · exact .refl ..
  rw [told.same .pwr (by decide), paced]
  exact ⟨rfl, rfl⟩

/-- An entry begins its step 5. -/
def State.step5 (s : State) (e : Entry) : State := s.modPwr (fun w => { w with entry := some { e with step := 5 } })

/-- Towards HOLD a domain is closed, or HOLD is reached. -/
theorem State.goOn_hold {e : Entry} (target : e.target = 1) :
    ((s.step5 e).goOn.pwr.entry = some { e with step := 5 } ∧ (s.step5 e).goOn.fab.closed ≠ 0 ∧ (s.step5 e).goOn.pwr.st = s.pwr.st) ∨
    ((s.step5 e).goOn.pwr.entry = none ∧ (s.step5 e).goOn.pwr.st = .hold) := by
  unfold State.goOn
  extract_lets v
  have pwr : v.pwr = (s.step5 e).pwr := State.closeNext_pwr _
  have entry : v.pwr.entry = some { e with step := 5 } := congrArg Power.entry pwr
  split
  next closed => exact .inl ⟨entry, closed, (congrArg Power.st pwr :)⟩
  next =>
    simp only [entry, target, ne_eq, not_true_eq_false, if_false, if_true]
    exact .inr (v.holdReached_pwr _)

/-- Towards PARK or DORMANT a domain is closed, or only PD0 was on and the target is reached. -/
theorem State.goOn_sleep {e : Entry} (target : 2 ≤ e.target) (opened : s.fab.closed = 0) :
    ((s.step5 e).goOn.pwr.entry = some { e with step := 5 } ∧ (s.step5 e).goOn.fab.closed ≠ 0) ∨
    ((s.step5 e).goOn.pwr.entry = none ∧ (s.step5 e).goOn.pwr.st = (if e.target = 3 then .dormant else .park) ∧
      ∀ p : Fin 16, p ≠ 0 → s.pd p = false) := by
  unfold State.goOn
  extract_lets v
  have entry : v.pwr.entry = some { e with step := 5 } := congrArg Power.entry (State.closeNext_pwr _)
  have away : e.target ≠ 1 := by omega
  split
  next closed => exact .inl ⟨entry, closed⟩
  next none' =>
    simp only [entry, away, ne_eq, not_true_eq_false, if_false]
    refine .inr ⟨rfl, rfl, fun p own => Bool.eq_false_iff.mpr fun on => ?_⟩
    have keep : (s.step5 e).keepMask = 1 := if_neg away
    rcases State.closeNext_open (not_not.mp none') p on with closed | bit
    · exact closed opened
    · rw [keep] at bit
      exact own (Fin.ext (Nat.testBit_one_eq_true_iff_self_eq_zero.mp bit))

end

end Sys2Proof.Machine
end

section
/-!
PROOFS. POWER_REQ and the steps of an entry (09 R240 to R247): what blocks a target, a request that is taken, tick c; then O33.
-/
namespace Sys2Proof.Machine

/-! ### What blocks a target (09 R244) -/

section
variable {s t u v : State} {g : Lapse} {q : Rq}

theorem State.pf_of_par (par : t.par = s.par) (x : ParField) (i k : Nat) : t.pf x i k = s.pf x i k := by
  simp only [State.pf, State.parOf, par]

theorem State.pb_of_par (par : t.par = s.par) (x : ParField) (i k : Nat) : t.pb x i k = s.pb x i k := by
  simp only [State.pb, State.pf_of_par par]

/-- What the units of a domain are read from. -/
theorem State.unitsIn_congr (par : t.par = s.par) (on : t.pwr.pdOn = s.pwr.pdOn) (light : t.light = s.light) (vlv : t.vlv = s.vlv)
    (load : t.load = s.load) (p : Nat) : t.unitsIn p = s.unitsIn p := by
  have chan : t.chan = s.chan := funext fun n => by simp only [State.chan, load]
  have valve : t.valve = s.valve := funext fun n => by simp only [State.valve, vlv]
  have busy : t.chanBusy = s.chanBusy := by
    unfold State.chanBusy
    rw [chan]
  unfold State.unitsIn State.pd
  simp only [State.pb_of_par par, on, light, valve, busy]

/-- HOLD is blocked by the same units and operations, whatever the other handles are for. -/
theorem State.blocksEntry_hold_congr (par : t.par = s.par) (on : t.pwr.pdOn = s.pwr.pdOn) (light : t.light = s.light) (vlv : t.vlv = s.vlv)
    (load : t.load = s.load) (ops : ∀ op ≠ 0x68, t.opPending op = s.opPending op) : t.blocksEntry 1 = s.blocksEntry 1 := by
  have units : t.unitsIn = s.unitsIn := funext (State.unitsIn_congr par on light vlv load)
  have mask : t.holdMask = s.holdMask := by simp only [State.holdMask, State.pf_of_par par]
  simp [State.blocksEntry, units, mask, ops]

/-! ### A POWER_REQ that is taken (09 R244) -/

/-- Taken, checked and given its handle, the request begins its entry in a state that differs in Atlas alone; no other operation is PENDING. -/
theorem State.powerReq_taken {target opt : Nat} (act : State → Nat → State) (taken : Takes u q 0x68 0 (powerReqBytes target opt)) (room : HasHandle u q)
    (check : u.powerCheck (u.direct q 0x68 0 (powerReqBytes target opt)) target opt = none) (away : u.pwr.st.code ≠ target) :
    ∃ v h, Only [.atlas, .evs, .ctl] u v ∧ (∀ op ≠ 0x68, v.opPending op = u.opPending op) ∧ u.powerReq q target opt act = act v h := by
  let r := u.direct q 0x68 0 (powerReqBytes target opt)
  obtain ⟨v, accepted, handles⟩ := State.accept_some (u.touch q.ses) r target room
  have only : Only [.atlas, .evs, .ctl] u v :=
    Only.of_pair accepted (State.accept_only (State.touch_only (.refl ..) (by decide)) (by decide))
  have check' : (u.touch q.ses).powerCheck r target opt = none := check
  refine ⟨v, (u.touch q.ses).newHandle r, only, fun op other => ?_, ?_⟩
  · have older : (u.touch q.ses).atlas.handles = u.atlas.handles := rfl
    have own : r.op ≠ op := other.symm
    simp [State.opPending, handles, older, own]
  · have pwr : v.pwr = u.pwr := only.same .pwr (by decide)
    unfold State.powerReq
    rw [State.serve_takes _ taken]
    simp only [check', accepted, r, pwr, away, if_false]

/-- The command of a request that is taken, with what follows from the entry that it begins. -/
theorem does_of_powerReq {i : Instr} {target opt : Nat} {act : State → Nat → State} {P : State → Prop}
    (run : exec i s = .next ((s.pass g).powerReq q target opt act))
    (takes : Takes (s.pass g) q 0x68 0 (powerReqBytes target opt) ∧ HasHandle (s.pass g) q ∧
      (s.pass g).powerCheck ((s.pass g).direct q 0x68 0 (powerReqBytes target opt)) target opt = none)
    (away : (s.pass g).pwr.st.code ≠ target)
    (post : ∀ v h, Only [.atlas, .evs, .ctl] (s.pass g) v → (∀ op ≠ 0x68, v.opPending op = (s.pass g).opPending op) → P (act v h)) : Does i s P := by
  obtain ⟨taken, room, check⟩ := takes
  obtain ⟨v, h, only, ops, eq⟩ := State.powerReq_taken act taken room check away
  exact ⟨_, run, eq ▸ post v h only ops⟩

/-- The entry that a POWER_REQ begins (09 R245 step 1). -/
theorem State.startEntry_pwr (s : State) (target opt h : Nat) : (s.startEntry target opt h).pwr =
    { s.pwr with entry := some ⟨target, some h, decide (opt = 1), 1, s.now, 0, false, false⟩ } := rfl

/-- An entry to PARK or DORMANT begins; what is cancelled and forced off leaves it. -/
theorem does_powerReq_sleep {i : Instr} {target opt : Nat} (run : exec i s = .next ((s.pass g).powerReq q target opt
      (fun s h => ((s.startEntry target opt h).cancelJobs).forceOffs (fun _ => true))))
    (takes : Takes (s.pass g) q 0x68 0 (powerReqBytes target opt) ∧ HasHandle (s.pass g) q ∧
      (s.pass g).powerCheck ((s.pass g).direct q 0x68 0 (powerReqBytes target opt)) target opt = none)
    (away : (s.pass g).pwr.st.code ≠ target) :
    Does i s (fun t => ∃ h, t.pwr.entry = some ⟨target, some h, decide (opt = 1), 1, (s.pass g).now, 0, false, false⟩ ∧
      t.pwr.st = (s.pass g).pwr.st ∧ t.pwr.pdOn = (s.pass g).pwr.pdOn) := by
  refine does_of_powerReq run takes away fun v h only _ => ⟨h, ?_⟩
  have pwr : v.pwr = (s.pass g).pwr := only.same .pwr (by decide)
  have now : v.now = (s.pass g).now := congrArg TimeBase.tb (only.same .clk (by decide) : v.clk = (s.pass g).clk)
  have off : Only [.atlas, .par, .load, .iso, .vlv, .light, .acc, .evs, .fw, .ctl] (v.startEntry target opt h)
      (((v.startEntry target opt h).cancelJobs).forceOffs (fun _ => true)) :=
    State.forceOffs_only (State.cancelJobs_only (.refl ..) (by decide)) (by decide)
  rw [off.same .pwr (by decide), State.startEntry_pwr, pwr, now]
  exact ⟨rfl, rfl, rfl⟩

/-! ### Tick c (09 R245, R247) -/

theorem State.debounced_congr (par : t.par = s.par) (inp : t.inp = s.inp) : t.debounced = s.debounced := by
  have inputs : t.inputOf = s.inputOf := funext fun i => by simp only [State.inputOf, inp]
  unfold State.debounced
  simp only [State.pb_of_par par, inputs]

theorem State.saveInputs_svy (s : State) : s.saveInputs.svy = if s.svy.running then s.svy else { s.svy with stored := s.debounced } := by
  unfold State.saveInputs
  split <;> rfl

/-- A session closes, and every other one stays as it is. -/
theorem State.closeSession_closed {i : Nat} (lt : i < 4) : ((s.closeSession i).ses i).isOpen = false ∧ ∀ j, i ≠ j → (s.closeSession i).ses j = s.ses j := by
  by_cases isOpen : (s.ses i).isOpen = true
  · obtain ⟨⟨closed, -⟩, others, -⟩ := State.closeSession_spec lt isOpen
    exact ⟨closed, others⟩
  · rw [State.closeSession, if_neg isOpen]
    exact ⟨Bool.eq_false_iff.mpr isOpen, fun _ _ => rfl⟩

theorem State.closeSessions_closed {l : List Nat} (lt : ∀ i ∈ l, i < 4) {j : Nat} (h : j ∈ l ∨ (s.ses j).isOpen = false) :
    ((l.foldl State.closeSession s).ses j).isOpen = false := by
  induction l generalizing s with
  | nil => exact h.resolve_left List.not_mem_nil
  | cons i l ih =>
    obtain ⟨closed, others⟩ := State.closeSession_closed (s := s) (lt i List.mem_cons_self)
    refine ih (fun i mem => lt i (List.mem_cons_of_mem _ mem)) ?_
    by_cases own : i = j
    · exact .inr (own ▸ closed)
    · rw [others j own]
      exact h.imp (fun mem => (List.mem_cons.mp mem).resolve_left (Ne.symm own)) id

theorem State.closeAll_closed (k : Fin 4) : (s.closeAll.ses k).isOpen = false :=
  State.closeSessions_closed (fun _ mem => List.mem_range.mp mem) (.inl (List.mem_range.mpr k.isLt))

/-- What a device keeps of itself at c. -/
structure ArmedAt (s : State) (e : Entry) (t : State) : Prop where
  entry : t.pwr.entry = some { e with step := 4, cAon := s.clk.aon }
  running : t.svy.running = true
  dormant : t.svy.dormant = decide (e.target = 3)
  stored : t.svy.stored = s.saveInputs.svy.stored
  boot : t.boot = s.boot
  closed : ∀ k : Fin 4, (t.ses k).isOpen = false

theorem State.armAt_armed (s : State) (e : Entry) : ArmedAt s e (s.armAt e) := by
  unfold State.armAt
  extract_lets v w x y
  have told : Only [.atlas, .evs, .ctl] v w := by
    unfold w
    split
    · exact State.complete_only (.refl ..) (by decide)
    · exact .refl ..
  have released : Only [.atlas, .load, .iso, .evs, .ilr, .ctl] x y := .ite (State.release_only (.refl ..) (by decide)) (.refl ..)
  have saved : Only [.svy] w x := State.saveInputs_only (.refl ..) (by decide)
  have ended : Only [.par, .agr] y y.wmEndAll := State.wmEndAll_only (.refl ..) (by decide)
  have closed : Only [.atlas, .par, .evs, .ctl] (y.wmEndAll.startSurvey (e.target = 3)) (y.wmEndAll.startSurvey (e.target = 3)).closeAll :=
    State.closeAll_only (.refl ..) (by decide)
  have started : Only [.svy] y.wmEndAll (y.wmEndAll.startSurvey (e.target = 3)) := State.startSurvey_only (.refl ..) (by decide)
  have all : Only [.atlas, .par, .load, .iso, .svy, .agr, .evs, .ilr, .ctl] v (y.wmEndAll.startSurvey (e.target = 3)).closeAll :=
    ((((((Only.refl _ v).after told (by decide)).after saved (by decide)).after released (by decide)).after ended (by decide)).after started
      (by decide)).after closed (by decide)
  have svy := closed.same .svy (by decide)
  have kept : y.wmEndAll.svy = x.svy := (ended.same .svy (by decide)).trans (released.same .svy (by decide))
  have same : x.svy = s.saveInputs.svy := by
    have now : w.svy = s.svy := told.same .svy (by decide)
    have inputs : w.debounced = s.debounced := State.debounced_congr (told.same .par (by decide)) (told.same .inp (by decide))
    rw [show x = w.saveInputs from rfl, State.saveInputs_svy, State.saveInputs_svy, now, inputs]
  refine ⟨?_, ?_, ?_, ?_, all.same .boot (by decide), fun k => State.closeAll_closed k⟩
  · rw [all.same .pwr (by decide)]
    rfl
  · rw [svy]
    rfl
  · rw [svy]
    rfl
  · rw [svy, ← same, ← kept]
    rfl

/-- Step 2 before it keeps the inputs, and records the digest of the retained half-bank. -/
theorem ArmedAt.saved {e : Entry} (h : ArmedAt s.saveState e t) :
    t.pwr.entry = some { e with step := 4, cAon := s.clk.aon } ∧ t.svy.running = true ∧ t.svy.dormant = decide (e.target = 3) ∧
    t.boot.digest = true ∧ t.svy.stored = (if s.svy.running then s.svy.stored else s.debounced) ∧ ∀ k : Fin 4, (t.ses k).isOpen = false := by
  obtain ⟨entry, running, dormant, stored, boot, closed⟩ := h
  have saved : Only [.svy, .boot] s s.saveState := State.saveState_only (.refl ..) (by decide)
  have clk : s.saveState.clk = s.clk := saved.same .clk (by decide)
  have again : s.saveState.debounced = s.debounced := State.debounced_congr (saved.same .par (by decide)) (saved.same .inp (by decide))
  have svy : s.saveState.svy = s.saveInputs.svy := rfl
  have digest : s.saveState.boot.digest = true := rfl
  rw [clk] at entry
  refine ⟨entry, running, dormant, boot ▸ digest, stored.trans ?_, closed⟩
  rw [State.saveInputs_svy, svy, State.saveInputs_svy, again]
  by_cases run : s.svy.running = true <;> simp [run]

/-! ### The commands, in the cases of O33 -/

theorem exec_entryOffsComplete {e : Entry} (entry : (s.pass g).pwr.entry = some e) (step : e.step = 1) (offs : (s.pass g).offsDone e = true)
    (free : (s.pass g).cancelHeld e = false) : exec (.entryOffsComplete g) s =
      if e.target = 1 then .next ((s.pass g).step5 e).goOn
      else if e.c < (s.pass g).commitTick then .next ((s.pass g).saveState.armAt { e with c := (s.pass g).commitTick })
      else .next (s.pass g) := by
  show execEntryOffsComplete g s = _
  unfold execEntryOffsComplete
  simp only [entry]
  exact if_pos (by simp [step, offs, free])

theorem exec_entryCompletionSent {e : Entry} (entry : (s.pass g).pwr.entry = some e) (step : e.step = 4) (net : e.net = false)
    (unarmed : (s.pass g).fw.armed = false) : exec (.entryCompletionSent g) s =
      .next ((s.pass g).step5 e).goOn := by
  show execEntryCompletionSent g s = _
  unfold execEntryCompletionSent
  simp only [entry]
  rw [if_pos (by simp [step, net]), if_neg (Bool.eq_false_iff.mp unarmed)]
  rfl

theorem exec_lgdCtrlClr {ini : Initiator} (may : ini = .super ∨ ini = .bench ∨ ini = .partner) (on : (s.pass g).pd 3 = true)
    (opened : (s.pass g).portClosed 0x40050000 = false) : exec (.lgdCtrlClr g ini) s =
      .next { (s.pass g).lgdClear with lgd := { (s.pass g).lgdClear.lgd with freeze := false } } := by
  show execLgdCtrlClr g ini s = _
  unfold execLgdCtrlClr State.openWrite
  rcases may with rfl | rfl | rfl <;> simp only [on, opened, Bool.not_true, Bool.false_eq_true, if_false]

end

/-- Settles O33, by the state that each request and each step of an entry leaves. -/
theorem powerStates : Obligations.PowerStates := by
  intro s g q opt u takes begun
  and_intros
  · intro taken hold
    refine does_of_powerReq rfl taken (by rw [hold]; decide) fun v h only _ => ?_
    have back : InRun u v.backToRun := State.backToRun_inRun (only.same .par (by decide))
    refine back.keep (Only.same (l := [.atlas, .evs, .ctl]) ?_ .pwr (by decide))
    refine State.powerEvent_only (State.complete_only (.ite ?_ (.refl ..)) (by decide)) (by decide)
    exact State.tellChanges_only (.refl ..) (fun _ _ _ _ => State.emitAt_only (.refl ..) (by decide))
  · intro taken run free
    refine does_of_powerReq rfl taken (by rw [run]; decide) fun v h only ops => ?_
    have pwr : v.pwr = u.pwr := only.same .pwr (by decide)
    have now : v.now = u.now := congrArg TimeBase.tb (only.same .clk (by decide) : v.clk = u.clk)
    have free' : (v.startEntry 1 opt h).blocksEntry 1 = false := by
      rw [← free]
      refine State.blocksEntry_hold_congr (only.same .par (by decide)) ?_ (only.same .light (by decide)) (only.same .vlv (by decide))
        (only.same .load (by decide)) ops
      rw [State.startEntry_pwr, pwr]
    simp only [free', Bool.false_eq_true, if_false]
    refine (State.goOn_hold (s := v.startEntry 1 opt h) (e := ⟨1, some h, decide (opt = 1), 1, v.now, 0, false, false⟩) rfl).imp_left ?_
    exact fun ⟨entry, closed, st⟩ => ⟨h, now ▸ entry, closed, st.trans ((congrArg Power.st pwr).trans run)⟩
  · exact fun taken run => does_powerReq_sleep rfl taken (by rw [run]; decide)
  · exact fun taken run => does_powerReq_sleep rfl taken (by rw [run]; decide)
  · intro e entry step offs free
    refine ⟨fun target late => ?_, fun target => ?_⟩
    · have later : e.c < u.commitTick := Nat.lt_sub_of_add_lt late
      exact does_of_run ((exec_entryOffsComplete entry step offs free).trans ((if_neg (by omega)).trans (if_pos later))) (State.armAt_armed _ _).saved
    · refine does_of_run ((exec_entryOffsComplete entry step offs free).trans (if_pos target)) ?_
      exact (State.goOn_hold target).imp_left fun ⟨entry, closed, _⟩ => ⟨entry, closed⟩
  · intro e entry step net target opened unarmed
    exact does_of_run (exec_entryCompletionSent entry step net unarmed) (State.goOn_sleep target opened)
  · exact fun ini may on opened => does_of_run (exec_lgdCtrlClr may on opened) rfl

end Sys2Proof.Machine
end

section
/-!
PROOFS. The switch inputs and Survey (09 R254 to R257): one sample, a cycle of samples, a Survey cycle of one member or none; then O35.
-/
namespace Sys2Proof.Machine

/-! ### One sample (09 R255) -/

/-- What a sample of level v, classified as b, makes of an input's record under a debounce count. -/
def Input.sampled (x : Input) (v : Nat) (b : Bool) (deb : Nat) : Input :=
  let y := { x with level := min 255 v, raw := b }
  if b = x.state then { y with cand := 0 }
  else if x.cand + 1 < deb then { y with cand := x.cand + 1 }
  else { y with state := b, cand := 0, changes := satInc 0xFFFF x.changes }

section
variable {s t : State} {g : Lapse} {levels : List Nat} {i j k v a : Nat} {b : Bool}

/-- What a report and an aborted entry change is no input. -/
theorem State.inputOf_of_told {x : Input} (told : Only [.atlas, .pwr, .evs, .ctl] (s.setInput i x) t) (j : Nat) :
    t.inputOf j = if i = j ∧ i < 48 then x else s.inputOf j := by
  rw [← State.inputOf_setInput, State.inputOf, told.same .inp (by decide), State.inputOf]

/-- A sample sets its own record and reports. -/
theorem State.sampleInput_spec (s : State) (i v a : Nat) : ∃ x, Only [.atlas, .pwr, .evs, .ctl] (s.setInput i x) (s.sampleInput i v a) ∧
    ∀ b, s.mirrorsInput i = false → s.classify i v = some b → x = (s.inputOf i).sampled v b (s.pf Pf.swCfg_DEB i) := by
  unfold State.sampleInput
  extract_lets x c y
  have found : s.classify i v = c := rfl
  clear_value c
  split
  next mirror => exact ⟨_, .refl .., fun b own => absurd mirror (by simp [own])⟩
  next =>
    cases c with
    | none => exact ⟨_, .refl .., fun b _ some' => nomatch found.symm.trans some'⟩
    | some b' =>
      have only (b : Bool) (some' : s.classify i v = some b) : b' = b := Option.some.inj (found.symm.trans some')
      dsimp only
      split
      next same => exact ⟨_, .refl .., fun b _ some' => only b some' ▸ (if_pos same).symm⟩
      next other =>
        split
        next short => exact ⟨_, .refl .., fun b _ some' => only b some' ▸ ((if_neg other).trans (if_pos short)).symm⟩
        next full =>
          refine ⟨{ y with state := b', cand := 0, changes := satInc 0xFFFF y.changes }, ?_, fun b _ some' => ?_⟩
          · exact State.changeAborts_only (State.emitAt_only (.refl ..) (by decide)) (by decide)
          · exact only b some' ▸ ((if_neg other).trans (if_neg full)).symm

/-! ### A cycle of samples (09 R255) -/

/-- What a cycle makes of the record of input k at level v. -/
structure Sampled (s : State) (k v : Nat) (y : Input) : Prop where
  off : s.pb Pf.swCfg_EN k = false → y = s.inputOf k
  on : ∀ b, s.pb Pf.swCfg_EN k = true → s.mirrorsInput k = false → s.classify k v = some b →
    y = (s.inputOf k).sampled v b (s.pf Pf.swCfg_DEB k)

/-- The samples of the first n inputs of a cycle that started at tick a. -/
def State.sampleCycle (s : State) (levels : List Nat) (a n : Nat) : State :=
  (List.range n).foldl (fun s i => if s.pb Pf.swCfg_EN i then s.sampleInput i (levels.getD i 0) (a + 4000 * (i / 8 + 1)) else s) s

/-- Settings and the pair's role decide how a sample is taken; no sample changes them. -/
theorem Sampled.of_only {y : Input} (only : Only [.atlas, .pwr, .inp, .evs, .ctl] s t) (own : t.inputOf k = s.inputOf k) (h : Sampled t k v y) :
    Sampled s k v y := by
  have par : t.par = s.par := only.same .par (by decide)
  have twin : t.twin = s.twin := only.same .twin (by decide)
  have ilr : { t.il with ctl := [] } = { s.il with ctl := [] } := only.same .ilr (by decide)
  have role : t.il.role = s.il.role := (congrArg Intlk.role ilr :)
  have mirrors : t.mirrorsInput k = s.mirrorsInput k := by simp only [State.mirrorsInput, twin, role, State.pf_of_par par]
  have class' : t.classify k v = s.classify k v := by simp only [State.classify, State.pf_of_par par, State.pb_of_par par]
  refine ⟨fun off => (h.off (by rwa [State.pb_of_par par])).trans own, fun b on free found => ?_⟩
  rw [← own, ← State.pf_of_par par]
  exact h.on b (by rwa [State.pb_of_par par]) (mirrors.trans free) (class'.trans found)

/-- Each input takes its own sample; those of the others leave it. -/
theorem State.sampleCycle_spec (n : Nat) (le : n ≤ 48) :
    Only [.atlas, .pwr, .inp, .evs, .ctl] s (s.sampleCycle levels a n) ∧ (n ≤ k → (s.sampleCycle levels a n).inputOf k = s.inputOf k) ∧
    (k < n → Sampled s k (levels.getD k 0) ((s.sampleCycle levels a n).inputOf k)) := by
  induction n with
  | zero => exact ⟨.refl .., fun _ => rfl, fun none' => absurd none' (Nat.not_lt_zero k)⟩
  | succ n ih =>
    obtain ⟨only, before, after⟩ := ih (by omega)
    have last : s.sampleCycle levels a (n + 1) = if (s.sampleCycle levels a n).pb Pf.swCfg_EN n then
        (s.sampleCycle levels a n).sampleInput n (levels.getD n 0) (a + 4000 * (n / 8 + 1)) else s.sampleCycle levels a n := by
      simp [State.sampleCycle, List.range_succ]
    generalize s.sampleCycle levels a n = w at *
    obtain ⟨x, told, sampled⟩ := w.sampleInput_spec n (levels.getD n 0) (a + 4000 * (n / 8 + 1))
    have others (ne : k ≠ n) : (s.sampleCycle levels a (n + 1)).inputOf k = w.inputOf k := by
      rw [last]
      split
      · rw [State.inputOf_of_told told, if_neg (fun own => ne own.1.symm)]
      · rfl
    refine ⟨?_, fun le' => (others (by omega)).trans (before (by omega)), fun lt' => ?_⟩
    · rw [last]
      exact .ite (State.sampleInput_only only (by decide)) only
    · obtain rfl | ne := eq_or_ne k n
      · refine Sampled.of_only only (before le_rfl) ?_
        rw [last]
        refine ⟨fun off => by rw [if_neg (by simp [off])], fun b on free found => ?_⟩
        rw [if_pos on, State.inputOf_of_told told, if_pos ⟨rfl, by omega⟩]
        exact sampled b free found
      · rw [others ne]
        exact after (by omega)

theorem exec_runSampleCycle (power : (s.pass g).pd 15 = true) (logic : (s.pass g).pd 3 = true) (free : (s.pass g).svy.running = false)
    (st : (s.pass g).pwr.st = .run ∨ (s.pass g).pwr.st = .hold) (grid : (s.pass g).now % (200000 * (s.pass g).pf Pf.svyRunPeriod_RPER) = 24000) :
    exec (.runSampleCycle g levels) s = .next ((s.pass g).sampleCycle levels ((s.pass g).now - 24000) 48) := by
  show execRunSampleCycle g levels s = _
  unfold execRunSampleCycle
  generalize s.pass g = u at *
  have on : (decide (u.pwr.st = .run) || decide (u.pwr.st = .hold)) = true := by simpa using st
  simp [power, logic, free, on, grid, State.sampleCycle]

/-! ### Survey (09 R256, R257) -/

/-- A member's sample has completed DEB: its stored state changes and is marked. -/
def State.svyChanged (s : State) (i : Nat) (b : Bool) (a : Nat) : State :=
  s.modSvy (fun x => { x with
    stored := putBits x.stored i 1 (flag b)
    cand := x.cand.setIfInBounds i 0
    changed := x.changed ||| (1 <<< i)
    log := x.log.filter (fun p => p.1 ≠ i) ++ [(i, b, a)] })

theorem State.wakeEdge_of_none (off : s.pf Pf.swCfg_WAKE i = 0) (b : Bool) : s.wakeEdge i b = false := by
  cases b <;> simp [State.wakeEdge, off]

theorem State.surveyMember_changed (found : s.classify i v = some b) (other : b ≠ s.svy.stored.testBit i)
    (full : s.pf Pf.swCfg_DEB i ≤ s.svy.cand.toList.getD i 0 + 1) (off : s.pf Pf.swCfg_WAKE i = 0) :
    s.surveyMember i v a = (s.svyChanged i b a, false) := by
  unfold State.surveyMember
  simp only [found, other, if_false, not_lt.mpr full]
  exact congrArg (Prod.mk _) (State.wakeEdge_of_none off b)

/-- A fold in which no element acts. -/
theorem foldl_of_fixed {α β : Type} {f : β → α → β} {l : List α} {y : β} (h : ∀ z ∈ l, f y z = y) : l.foldl f y = y := by
  induction l with
  | nil => rfl
  | cons z l ih =>
    rw [List.foldl_cons, h z List.mem_cons_self]
    exact ih fun w mem => h w (List.mem_cons_of_mem _ mem)

/-- A fold in which one element alone acts. -/
theorem foldl_of_single {α β : Type} {f : β → α → β} {l : List α} {x : α} {y : β} (nodup : l.Nodup) (mem : x ∈ l)
    (before : ∀ z ∈ l, z ≠ x → f y z = y) (after : ∀ z ∈ l, z ≠ x → f (f y x) z = f y x) : l.foldl f y = f y x := by
  induction l with
  | nil => exact absurd mem List.not_mem_nil
  | cons z l ih =>
    obtain ⟨fresh, rest⟩ := List.nodup_cons.mp nodup
    obtain rfl | ne := eq_or_ne z x
    · exact foldl_of_fixed fun w mem' => after w (List.mem_cons_of_mem _ mem') fun eq => fresh (eq ▸ mem')
    · rw [List.foldl_cons, before z List.mem_cons_self ne]
      exact ih rest ((List.mem_cons.mp mem).resolve_left (Ne.symm ne)) (fun w mem' => before w (List.mem_cons_of_mem _ mem'))
        (fun w mem' => after w (List.mem_cons_of_mem _ mem'))

/-- A group without members leaves Survey. -/
theorem State.surveyGroup_of_none {grp : Nat} (none' : ∀ j < 8, s.svyMember (8 * grp + j) = false) : s.surveyGroup levels grp a = (s, none) :=
  foldl_of_fixed fun j mem => if_neg (Bool.eq_false_iff.mp (none' j (List.mem_range.mp mem)))

/-- A group whose one member completes DEB and is no wake. -/
theorem State.surveyGroup_of_single {grp : Nat} (lt : j < 8) (own : i = 8 * grp + j)
    (others : ∀ k < 8, k ≠ j → s.svyMember (8 * grp + k) = false) (member : s.svyMember i = true)
    (changed : s.surveyMember i (levels.getD i 0) a = (s.svyChanged i b a, false)) : s.surveyGroup levels grp a = (s.svyChanged i b a, none) := by
  unfold State.surveyGroup
  rw [foldl_of_single List.nodup_range (List.mem_range.mpr lt)]
  · simp only [← own, member, changed, if_true, Bool.and_false, Bool.false_eq_true, if_false]
  · exact fun k mem ne => if_neg (Bool.eq_false_iff.mp (others k (List.mem_range.mp mem) ne))
  · simp only [← own, member, changed, if_true, Bool.and_false, Bool.false_eq_true, if_false]
    exact fun k mem ne => if_neg (Bool.eq_false_iff.mp (others k (List.mem_range.mp mem) ne))

theorem State.surveyRun_cons_none {grp : Nat} {l : List Nat} (quiet : s.surveyGroup levels grp (a + grp) = (t, none)) :
    State.surveyRun levels (grp :: l) a s = State.surveyRun levels l a t := by
  conv_lhs => unfold State.surveyRun
  extract_lets p
  have quiet : p = (t, none) := quiet
  clear_value p
  subst quiet
  rfl

/-- A run over groups without members leaves Survey. -/
theorem State.surveyRun_of_none {l : List Nat} (h : ∀ grp ∈ l, s.surveyGroup levels grp (a + grp) = (s, none)) :
    State.surveyRun levels l a s = s := by
  induction l with
  | nil => rfl
  | cons grp l ih =>
    rw [State.surveyRun_cons_none (h grp List.mem_cons_self)]
    exact ih fun k mem => h k (List.mem_cons_of_mem _ mem)

/-- A run in which one group alone acts. -/
theorem State.surveyRun_of_single {l : List Nat} {x : Nat} (nodup : l.Nodup) (mem : x ∈ l) (own : s.surveyGroup levels x (a + x) = (t, none))
    (before : ∀ z ∈ l, z ≠ x → s.surveyGroup levels z (a + z) = (s, none)) (after : ∀ z ∈ l, z ≠ x → t.surveyGroup levels z (a + z) = (t, none)) :
    State.surveyRun levels l a s = t := by
  induction l with
  | nil => exact absurd mem List.not_mem_nil
  | cons z l ih =>
    obtain ⟨fresh, rest⟩ := List.nodup_cons.mp nodup
    obtain rfl | ne := eq_or_ne z x
    · rw [State.surveyRun_cons_none own]
      exact State.surveyRun_of_none fun w mem' => after w (List.mem_cons_of_mem _ mem') fun eq => fresh (eq ▸ mem')
    · rw [State.surveyRun_cons_none (before z List.mem_cons_self ne)]
      exact ih rest ((List.mem_cons.mp mem).resolve_left (Ne.symm ne)) (fun w mem' => before w (List.mem_cons_of_mem _ mem'))
        (fun w mem' => after w (List.mem_cons_of_mem _ mem'))

/-- A Survey cycle of now stamps itself. -/
def State.stamped (s : State) : State := s.modSvy (fun x => { x with lastCyc := s.svy.next })

/-- The six groups of a cycle, from its tick on. -/
def State.sixGroups (s : State) (levels : List Nat) (a : Nat) : State := State.surveyRun levels [0, 1, 2, 3, 4, 5] a s

theorem State.sixGroups_of_none (none' : ∀ j : Fin 48, s.svyMember j = false) : s.sixGroups levels a = s :=
  State.surveyRun_of_none fun grp mem => State.surveyGroup_of_none fun j lt =>
    none' ⟨8 * grp + j, by simp only [List.mem_cons, List.not_mem_nil, or_false] at mem; omega⟩

/-- The cycle of one member whose sample completes DEB and is no wake. -/
theorem State.sixGroups_of_single {i : Fin 48} (members : ∀ j : Fin 48, s.svyMember j = true ↔ j = i)
    (found : s.classify i (levels.getD i 0) = some b) (other : b ≠ s.svy.stored.testBit i)
    (full : s.pf Pf.swCfg_DEB i ≤ s.svy.cand.toList.getD i 0 + 1) (off : s.pf Pf.swCfg_WAKE i = 0) :
    s.sixGroups levels a = s.svyChanged i b (a + i / 8) := by
  have lt := i.isLt
  have group : ∀ grp ∈ [0, 1, 2, 3, 4, 5], grp < 6 := by decide
  have none' (k : Nat) (le : k < 48) (ne : k ≠ i) : s.svyMember k = false :=
    Bool.eq_false_iff.mpr fun own => ne (congrArg Fin.val ((members ⟨k, le⟩).mp own))
  have away (z : Nat) (mem : z ∈ [0, 1, 2, 3, 4, 5]) (ne : z ≠ i / 8) (j : Nat) (lt' : j < 8) : s.svyMember (8 * z + j) = false := by
    have inside := group z mem
    exact none' _ (by omega) (by omega)
  refine State.surveyRun_of_single (x := i / 8) (by decide) (by simp only [List.mem_cons, List.not_mem_nil, or_false]; omega) ?_
    (fun z mem ne => State.surveyGroup_of_none (away z mem ne)) (fun z mem ne => State.surveyGroup_of_none (away z mem ne))
  exact State.surveyGroup_of_single (j := i % 8) (by omega) (by omega) (fun k lt' ne => none' _ (by omega) (by omega)) ((members i).mpr rfl)
    (State.surveyMember_changed found other full off)

theorem exec_surveyCycle (run : (s.pass g).svy.running = true) (on : (s.pass g).pwr.st ≠ .off) (due : (s.pass g).svy.next ≤ (s.pass g).clk.aon)
    (cycle : (s.pass g).stamped.sixGroups levels (s.pass g).svy.next = t) : exec (.surveyCycle g levels) s = .next (t.modSvy (fun x =>
      { x with next := (s.pass g).svy.next + (if t.svy.cand.toList.any (fun k => 0 < k) then t.svy.conf else t.svy.per) })) := by
  show execSurveyCycle g levels s = _
  subst cycle
  unfold execSurveyCycle
  generalize s.pass g = u at *
  simp only [run, on, not_lt.mpr due, Bool.not_true, decide_false, Bool.or_self, Bool.false_eq_true, if_false]
  rfl

end

/-- Settles O35: a cycle of samples by what each sample makes of its own input, a Survey cycle by its one member or none. -/
theorem inputs : Obligations.Inputs := by
  intro s g levels i u x v
  refine ⟨fun power logic free st grid => ?_, fun run on due => ⟨fun none' => ?_, fun b members found other off full => ?_⟩⟩
  · refine does_of_run (exec_runSampleCycle power logic free st grid) ?_
    obtain ⟨-, -, own⟩ := State.sampleCycle_spec (s := u) (levels := levels) (a := u.now - 24000) (k := i) 48 le_rfl
    obtain ⟨out, sampled⟩ := own i.isLt
    refine ⟨out, fun b en alone found => ?_⟩
    have took := sampled b en alone found
    refine ⟨fun same => took.trans (if_pos same), fun other short => took.trans ((if_neg other).trans (if_pos short)),
      fun other full => took.trans ((if_neg other).trans (if_neg (not_lt.mpr full)))⟩
  · refine does_of_run (exec_surveyCycle run on due (State.sixGroups_of_none none')) ⟨rfl, rfl, rfl, rfl, fun p other => ?_⟩
    have stamped : Only [.svy] u u.stamped := State.modSvy_only (.refl ..) (by decide)
    exact (State.modSvy_only stamped (by decide)).same p (by simpa using other)
  · refine does_of_run (exec_surveyCycle run on due (State.sixGroups_of_single (s := u.stamped) members found other full off))
      ⟨rfl, rfl, rfl, fun p other => ?_⟩
    have stamped : Only [.svy] u u.stamped := State.modSvy_only (.refl ..) (by decide)
    exact (State.modSvy_only (State.modSvy_only stamped (by decide)) (by decide)).same p (by simpa using other)

end Sys2Proof.Machine
end

section
/-!
PROOFS. Wakes (09 R246, R250 to R252, 11 R303, R304, 13 R347): what a source that is armed does in PARK, in HOLD and during an entry; then O34.
-/
namespace Sys2Proof.Machine

section
variable {s t u v : State} {g : Lapse} {code bit detail ts : Nat}

/-! ### A wake from PARK (09 R249, R252) -/

/-- LGD_LAST of a wake depends on the network's commit alone. -/
theorem State.wakeWord_congr (commit : t.agr.commit = s.agr.commit) (code src : Nat) (during : Bool) (ts : Nat) :
    t.wakeWord code src during ts = s.wakeWord code src during ts := by
  unfold State.wakeWord
  rw [commit]

theorem State.legend_open (open' : s.lgd.freeze = false) (word detail ts : Nat) :
    (s.legend word detail ts).lgd.last = ⟨word, detail, ts⟩ ∧ (s.legend word detail ts).lgd.wakes = satInc 0xFFFF s.lgd.wakes := by
  unfold State.legend
  rw [if_neg (Bool.eq_false_iff.mp open')]
  exact ⟨rfl, rfl⟩

theorem State.armMask_congr (par : t.par = s.par) (target : Nat) : t.armMask target = s.armMask target := by
  simp only [State.armMask, State.pf_of_par par]

theorem State.wakeUp_park (park : s.pwr.st = .park) (idle : s.pwr.entry = none) : s.wakeUp code bit detail ts =
    if (s.armMask 2).testBit bit then (s.legend (s.wakeWord code 2 false ts) detail ts).wakeStart (s.wakeWord code 2 false ts) detail else s := by
  simp only [State.wakeUp, idle, park]

/-! ### A wake from HOLD (09 R240) -/

theorem State.wakeHold_inRun (par : s.par = u.par) : InRun u (s.wakeHold code detail ts) := by
  unfold State.wakeHold
  extract_lets word v off w x y
  have logged : Only [.lgd] s v := State.legend_only (.refl ..) (by decide)
  have back : InRun u v.backToRun := State.backToRun_inRun ((logged.same .par (by decide)).trans par)
  refine back.keep (Only.same (l := [.atlas, .net, .agr, .evs, .ctl]) ?_ .pwr (by decide))
  refine State.agrReady_only (State.powerEvent_only (State.emit_only (.ite ?_ ?_) (by decide)) (by decide)) (by decide)
  · exact State.tellChanges_only (State.linAfterWake_only (.refl ..) (by decide)) (fun _ _ _ _ => State.emitAt_only (.refl ..) (by decide))
  · exact State.linAfterWake_only (.refl ..) (by decide)

theorem State.wakeUp_hold (hold : s.pwr.st = .hold) (idle : s.pwr.entry = none) (armed : (s.armMask 1).testBit bit = true)
    (off : ∀ p, srcDomain code = some p → s.pd p = false) : s.wakeUp code bit detail ts = s.wakeHold code detail ts := by
  simp only [State.wakeUp, idle, hold, armed, Bool.true_and]
  refine if_pos ?_
  split
  next p source => simp [off p source]
  next => rfl

/-! ### A wake during an entry (09 R246) -/

theorem State.wakeUp_during {e : Entry} (entry : s.pwr.entry = some e) (sleep : 2 ≤ e.target) (late : 4 ≤ e.step)
    (armed : (s.armMask e.target).testBit bit = true) : s.wakeUp code bit detail ts = s.wakeDuring e code detail ts := by
  have later : e.step ≠ 1 := by omega
  simp only [State.wakeUp, entry, not_lt.mpr sleep, armed, later, Bool.not_true, Bool.false_eq_true, if_false]

/-- With PD1 and PD3 still on the device goes back to RUN (entry 64). -/
theorem State.wakeDuring_inRun {e : Entry} (one : s.pd 1 = true) (three : s.pd 3 = true) (par : s.par = u.par) :
    InRun u (s.wakeDuring e code detail ts) := by
  unfold State.wakeDuring
  extract_lets word v w x y z k
  have logged : Only [.lgd] s v := State.legend_only (.refl ..) (by decide)
  have pd (p : Nat) : v.pd p = s.pd p := by rw [State.pd, logged.same .pwr (by decide), State.pd]
  rw [if_pos (by simp [pd, one, three])]
  have joined : Only [.fab, .atlas, .lgd, .net, .fw] s (k.rejoin e) := by
    refine State.rejoin_only (Only.put_atlas (Only.put_fab ?_ (by decide)) (by decide)) (by decide)
    exact State.pauseReady_only ((Only.refl _ s).after logged (by decide)) (by decide)
  have back : InRun u (k.rejoin e).backToRun := State.backToRun_inRun ((joined.same .par (by decide)).trans par)
  refine back.keep (Only.same (l := [.atlas, .net, .agr, .evs, .ctl]) ?_ .pwr (by decide))
  refine State.agrReady_only (State.keep_only ?_ (by decide)) (by decide)
  exact State.tellChanges_only (State.linAfterWake_only (.refl ..) (by decide)) (fun _ _ _ _ => State.keepAt_only (.refl ..) (by decide))

/-- With PD3 off it starts. -/
theorem State.wakeDuring_starts {e : Entry} (three : s.pd 3 = false) : (s.wakeDuring e code detail ts).pwr.st = .start ∧
    (s.wakeDuring e code detail ts).boot.phase = 0 ∧ (s.wakeDuring e code detail ts).pwr.entry = none := by
  unfold State.wakeDuring
  extract_lets word v
  have logged : Only [.lgd] s v := State.legend_only (.refl ..) (by decide)
  have pd (p : Nat) : v.pd p = s.pd p := by rw [State.pd, logged.same .pwr (by decide), State.pd]
  rw [if_neg (by simp [pd, three])]
  exact ⟨rfl, rfl, rfl⟩

theorem exec_wakeDuringEntry {e : Entry} {w : WakeSrc} (entry : (s.pass g).pwr.entry = some e) (sleep : 2 ≤ e.target) (late : 4 ≤ e.step)
    (armed : ((s.pass g).armMask e.target).testBit w.bit = true) :
    exec (.wakeDuringEntry g w) s = .next ((s.pass g).wakeDuring e w.code w.detail (s.pass g).clk.aon) := by
  show execWakeDuringEntry g w s = _
  unfold execWakeDuringEntry State.wakeNow
  simp only [entry, sleep, late, decide_true, Bool.and_self, if_true]
  rw [State.wakeUp_during entry sleep late armed]

/-! ### A source decides a wake now -/

/-- What a source makes of a device in PARK or HOLD without an entry, by its arm bit. -/
structure WokenBy (u : State) (code bit detail : Nat) (t : State) : Prop where
  park : u.pwr.st = .park ∧ u.pwr.entry = none ∧ u.lgd.freeze = false → (u.armMask 2).testBit bit = true →
    t.pwr.st = .start ∧ t.boot.phase = 0 ∧ t.pwr.woke = some (u.wakeWord code 2 false u.clk.aon, detail) ∧
    t.lgd.last = ⟨u.wakeWord code 2 false u.clk.aon, detail, u.clk.aon⟩ ∧ t.lgd.wakes = satInc 0xFFFF u.lgd.wakes ∧ t.pwr.pdOn = u.pwr.pdOn
  unarmed : u.pwr.st = .park ∧ u.pwr.entry = none ∧ u.lgd.freeze = false → (u.armMask 2).testBit bit = false → ∀ p, p ≠ .agr → Part.same p u t
  hold : u.pwr.st = .hold → u.pwr.entry = none → (u.armMask 1).testBit bit = true → (∀ p, srcDomain code = some p → u.pd p = false) → InRun u t

/-- A source's own detector may have counted before it decides. -/
structure Counted (u v : State) : Prop where
  only : Only [.agr] u v
  commit : v.agr.commit = u.agr.commit

theorem Counted.refl (u : State) : Counted u u := ⟨.refl .., rfl⟩

theorem State.wufStep_counted (n : Nat) (k : Nat → Nat) : Counted u (u.wufStep n k) := by
  refine ⟨State.wufStep_only (.refl ..) (by decide), ?_⟩
  unfold State.wufStep
  split <;> rfl

theorem State.wufSeen_counted (n : Nat) (f : CanFrame) : Counted u (u.wufSeen n f) := by
  unfold State.wufSeen
  split
  · exact State.wufStep_counted ..
  · exact .refl u

/-- What a detector decodes, and what it takes for a wake, is read from the parameters. -/
theorem State.wufDecodes_congr (par : t.par = s.par) (n : Nat) : t.wufDecodes n = s.wufDecodes n := by
  have nom : t.nomBit n = s.nomBit n := by simp only [State.nomBit, State.pf_of_par par]
  unfold State.wufDecodes
  rw [nom, State.pb_of_par par]

theorem State.wufMatch_congr (par : t.par = s.par) (n : Nat) (f : CanFrame) : t.wufMatch n f = s.wufMatch n f := by
  have read : t.parOf = s.parOf := by
    funext id i
    simp only [State.parOf, par]
  unfold State.wufMatch
  rw [read]

theorem State.wakeNow_woken (h : Counted u v) : WokenBy u code bit detail (v.wakeNow code bit detail) := by
  obtain ⟨only, commit⟩ := h
  have pwr : v.pwr = u.pwr := only.same .pwr (by decide)
  have clk : v.clk = u.clk := only.same .clk (by decide)
  have lgd : v.lgd = u.lgd := only.same .lgd (by decide)
  have par : v.par = u.par := only.same .par (by decide)
  unfold State.wakeNow
  refine ⟨fun ⟨park, idle, free⟩ armed => ?_, fun ⟨park, idle, _⟩ unarmed p other => ?_, fun hold idle armed off => ?_⟩
  · rw [State.wakeUp_park (pwr ▸ park) (pwr ▸ idle), State.armMask_congr par, if_pos armed, State.wakeWord_congr commit, clk]
    obtain ⟨last, wakes⟩ := v.legend_open (lgd ▸ free) (u.wakeWord code 2 false u.clk.aon) detail u.clk.aon
    have logged : Only [.lgd] v (v.legend (u.wakeWord code 2 false u.clk.aon) detail u.clk.aon) := State.legend_only (.refl ..) (by decide)
    have on : (v.legend (u.wakeWord code 2 false u.clk.aon) detail u.clk.aon).pwr = u.pwr := (logged.same .pwr (by decide)).trans pwr
    exact ⟨rfl, rfl, rfl, last, wakes.trans (by rw [lgd]), (congrArg Power.pdOn on :)⟩
  · rw [State.wakeUp_park (pwr ▸ park) (pwr ▸ idle), State.armMask_congr par, if_neg (Bool.eq_false_iff.mp unarmed)]
    exact only.same p (by simpa using other)
  · rw [State.wakeUp_hold (pwr ▸ hold) (pwr ▸ idle) (by rwa [State.armMask_congr par]) (by simpa only [State.pd, pwr] using off)]
    exact State.wakeHold_inRun par

end

/-- A command that ends in a source's decision. -/
theorem does_of_wakeNow {s v : State} {g : Lapse} {code bit detail : Nat} {c : Instr} {P : State → Prop} (counted : Counted (s.pass g) v)
    (run : exec c s = .next (v.wakeNow code bit detail)) (post : ∀ t, WokenBy (s.pass g) code bit detail t → P t) : Does c s P :=
  ⟨_, run, post _ (State.wakeNow_woken counted)⟩

/-- Settles O34: every source by what its decision does, after its own detector has counted. -/
theorem wakes : Obligations.Wakes := by
  intro s g u parked wakes
  have told (code bit detail : Nat) (t : State) (h : WokenBy u code bit detail t) : wakes code bit detail t := ⟨h.park, h.unarmed, h.hold⟩
  have same : Counted u u := .refl u
  and_intros
  · intro n free
    refine does_of_wakeNow same (congrArg _ (if_neg ?_)) (told _ _ _)
    exact Bool.eq_false_iff.mp free
  · intro n f decodes found
    have counted : Counted u (u.wufSeen n f) := State.wufSeen_counted n f
    have par : (u.wufSeen n f).par = u.par := counted.only.same .par (by decide)
    refine does_of_wakeNow counted (congrArg _ (if_pos (Bool.and_eq_true_iff.mpr ⟨?_, ?_⟩))) (told _ _ _)
    · exact (State.wufDecodes_congr par n).trans decodes
    · exact (State.wufMatch_congr par n f).trans found
  · intro n limit
    exact does_of_wakeNow (State.wufStep_counted n _) (congrArg _ (if_pos limit)) (told _ _ _)
  · exact fun n => does_of_wakeNow same rfl (told _ _ _)
  · exact fun k en => does_of_wakeNow same (congrArg _ (if_pos en)) (told _ _ _)
  · exact fun k en => does_of_wakeNow same (congrArg _ (if_pos en)) (told _ _ _)
  · exact does_of_wakeNow same rfl (told _ _ _)
  · exact does_of_wakeNow same rfl (told _ _ _)
  · exact fun some' now => does_of_wakeNow same (congrArg _ (if_pos (Bool.and_eq_true_iff.mpr ⟨decide_eq_true some', decide_eq_true now⟩))) (told _ _ _)
  · exact fun w e entry sleep late armed one three =>
      does_of_run (exec_wakeDuringEntry entry sleep late armed) (State.wakeDuring_inRun one three rfl)
  · exact fun w e entry sleep late armed three => does_of_run (exec_wakeDuringEntry entry sleep late armed) (State.wakeDuring_starts three)

end Sys2Proof.Machine
end

section
/-!
PROOFS. READY (17 R425): what Atlas sends and answers, and what READY itself does, leaves that Atlas is READY and since when.
-/
namespace Sys2Proof.Machine

/-- Atlas has sent, answered or recorded something: the rest of the start stands, and so does READY with its time. -/
structure KeepsReady (s t : State) : Prop where
  only : Only [.atlas, .net, .agr, .acc, .evs, .fw, .ctl] s t
  ready : t.atlas.ready = s.atlas.ready
  readyAt : t.atlas.readyAt = s.atlas.readyAt

section
variable {s t u : State}

theorem KeepsReady.refl (s : State) : KeepsReady s s := ⟨.refl .., rfl, rfl⟩

theorem KeepsReady.trans (h : KeepsReady s t) (k : KeepsReady t u) : KeepsReady s u :=
  ⟨h.only.after k.only (fun _ h => h), k.ready.trans h.ready, k.readyAt.trans h.readyAt⟩

theorem KeepsReady.ite {c : Prop} [Decidable c] (h : KeepsReady s t) (k : KeepsReady s u) : KeepsReady s (if c then t else u) := by
  split
  · exact h
  · exact k

theorem KeepsReady.foldl {α : Type} {f : State → α → State} (h : ∀ t x, KeepsReady t (f t x)) (l : List α) : KeepsReady s (l.foldl f s) := by
  induction l generalizing s with
  | nil => exact .refl s
  | cons x l ih => exact (h s x).trans ih

/-- What leaves Atlas leaves READY. -/
theorem KeepsReady.of_only (h : Only [.net, .agr, .acc, .evs, .fw, .ctl] s t) : KeepsReady s t := by
  have same : t.atlas = s.atlas := h.same .atlas (by decide)
  exact ⟨(Only.refl _ s).after h (by decide), congrArg Atlas.ready same, congrArg Atlas.readyAt same⟩

theorem KeepsReady.put_atlas {a : Atlas} (ready : a.ready = s.atlas.ready) (readyAt : a.readyAt = s.atlas.readyAt) :
    KeepsReady s { s with atlas := a } :=
  ⟨Only.put_atlas (.refl ..) (by decide), ready, readyAt⟩

end

/-! ### What Atlas sends (03 R66, R67, R94) -/

section
variable (s : State)

theorem State.modSes_keepsReady (i : Nat) (f : SesRec → SesRec) : KeepsReady s (s.modSes i f) := .put_atlas rfl rfl

theorem State.mbxEvent_keepsReady (i : Nat) : KeepsReady s (s.mbxEvent i) := .of_only (State.mbxEvent_only (.refl ..) (by decide))

theorem State.sendTo_keepsReady (i iface dst port : Nat) (m : Msg) : KeepsReady s (s.sendTo i iface dst port m) :=
  .ite (.put_atlas rfl rfl) ((s.modSes_keepsReady ..).trans (State.mbxEvent_keepsReady ..))

theorem State.eventTo_keepsReady (e : Ev) (i org : Nat) : KeepsReady s (s.eventTo e i org) := by
  unfold State.eventTo
  extract_lets r m u
  exact (s.modSes_keepsReady ..).trans (.ite (u.modSes_keepsReady ..) (u.sendTo_keepsReady ..))

theorem State.emitAt_keepsReady (cls unit code stamp : Nat) (detail : List Byte) : KeepsReady s (s.emitAt cls unit code stamp detail) :=
  .foldl (fun t _ => t.eventTo_keepsReady ..) _

theorem State.keepAt_keepsReady (cls unit code stamp : Nat) (detail : List Byte) : KeepsReady s (s.keepAt cls unit code stamp detail) :=
  (s.emitAt_keepsReady ..).trans (.put_atlas rfl rfl)

theorem State.keep_keepsReady (cls unit code : Nat) (detail : List Byte) : KeepsReady s (s.keep cls unit code detail) := s.keepAt_keepsReady ..

/-! ### Draining (03 R71, R75, R79) -/

theorem State.consume_keepsReady (i : Nat) : KeepsReady s (s.consume i) :=
  .ite ((s.modSes_keepsReady ..).trans (State.mbxEvent_keepsReady ..)) (.refl s)

theorem State.takeOut_keepsReady (r : InReq) : KeepsReady s (s.takeOut r) :=
  KeepsReady.trans (t := { s with atlas := { s.atlas with inbox := s.atlas.inbox.erase r } }) (.put_atlas rfl rfl) (State.consume_keepsReady ..)

theorem State.discard_keepsReady (i chk : Nat) : KeepsReady s (s.discard i chk) := (s.modSes_keepsReady ..).trans (State.mbxEvent_keepsReady ..)

theorem State.answer_keepsReady (r : InReq) (status handle : Nat) (payload : List Byte) : KeepsReady s (s.answer r status handle payload) :=
  (s.modSes_keepsReady ..).trans (State.sendTo_keepsReady ..)

theorem State.serveOne_keepsReady (r : InReq) : KeepsReady s (s.serveOne r (fun _ s => s)) := by
  unfold State.serveOne
  split
  · exact (s.modSes_keepsReady ..).trans (State.sendTo_keepsReady ..)
  · split
    · exact s.answer_keepsReady ..
    · exact .refl s

theorem State.modHandle_keepsReady (num : Nat) (f : Hnd → Hnd) : KeepsReady s (s.modHandle num f) := .put_atlas rfl rfl

theorem State.finish_keepsReady (num tick status : Nat) (payload : List Byte) : KeepsReady s (s.finish num tick status payload) := by
  unfold State.finish
  split
  · exact .refl s
  · exact .ite (.put_atlas rfl rfl) ((s.modHandle_keepsReady ..).trans (State.sendTo_keepsReady ..))

end

theorem State.drain_keepsReady (k : Nat) (s : State) : KeepsReady s (s.drain k) := by
  induction k generalizing s with
  | zero => exact .refl s
  | succ k ih =>
    unfold State.drain
    split
    · exact .refl s
    · exact .ite (((s.takeOut_keepsReady _).trans (State.discard_keepsReady ..)).trans (ih _))
        (.ite (((s.takeOut_keepsReady _).trans (State.serveOne_keepsReady ..)).trans (ih _)) (.refl s))

theorem State.settleEnded_keepsReady (s : State) : KeepsReady s s.settleEnded := by
  refine .foldl (fun t h => ?_) _
  split
  · exact .ite (.refl t) (t.finish_keepsReady ..)
  · exact .refl t

theorem State.drained_keepsReady (s : State) : KeepsReady s s.drained :=
  .ite ((s.drain_keepsReady _).trans (State.settleEnded_keepsReady _)) (.refl s)

/-! ### READY (17 R425, R436) -/

/-- The marks of READY, before the events that are due then. -/
def State.markReady (s : State) : State :=
  let v := s.modBoot (fun b => { b with phase := 9 })
  { v with atlas := { v.atlas with ready := true, readyAt := v.now } }

/-- READY marks phase 9 and its time; the wake that led to it is past. -/
theorem State.becomeReady_eq (s : State) : ∃ t, KeepsReady s.markReady t ∧ s.becomeReady = t.modPwr (fun w => { w with woke := none }) := by
  unfold State.becomeReady
  extract_lets v a v1 v2 v3 v4 v5 v6 v7 v8 v9 v10 src v11
  refine ⟨v11, ?_, rfl⟩
  have changes : KeepsReady s.markReady v2 := .foldl (fun t _ => t.keepAt_keepsReady ..) _
  have reset : KeepsReady v2 v3 := .ite (v2.keep_keepsReady ..) (.refl v2)
  have expired : KeepsReady v3 v4 := .ite (v3.keep_keepsReady ..) (.refl v3)
  have storm : KeepsReady v4 v5 := .ite (v4.keep_keepsReady ..) (.refl v4)
  have woken : KeepsReady v5 v6 := by
    unfold v6
    split
    · exact v5.keep_keepsReady ..
    · exact .refl v5
  have falsely : KeepsReady v6 v7 := by
    unfold v7
    split
    · exact KeepsReady.trans (.of_only (State.modAgr_only (.refl ..) (by decide))) (State.keep_keepsReady ..)
    · exact .refl v6
  have locked : KeepsReady v7 v8 := by
    unfold v8
    split
    · exact KeepsReady.trans (.of_only (State.modAcc_only (.refl ..) (by decide))) (State.keep_keepsReady ..)
    · exact .refl v7
  have due : KeepsReady v8 v9 := .foldl (fun t _ => t.keep_keepsReady ..) _
  have rest : KeepsReady v9 v11 :=
    .of_only (State.linAfterWake_only (State.agrReady_only (State.modFw_only (.refl ..) (by decide)) (by decide)) (by decide))
  exact changes.trans (reset.trans (expired.trans (storm.trans (woken.trans (falsely.trans (locked.trans (due.trans rest)))))))

end Sys2Proof.Machine
end

section
/-!
PROOFS. Adoption (17 R425, R430): once it has released the sequencers, nothing that it adopts holds them again.
-/
namespace Sys2Proof.Machine

/-- The sequencers are held, or not, as before. -/
def KeepsHeld (s t : State) : Prop := t.load.held = s.load.held

section
variable {s t u : State}

theorem KeepsHeld.refl (s : State) : KeepsHeld s s := rfl
theorem KeepsHeld.trans (h : KeepsHeld s t) (k : KeepsHeld t u) : KeepsHeld s u := Eq.trans k h
theorem KeepsHeld.of_only (h : Only (allBut [.load]) s t) : KeepsHeld s t := congrArg Load.held (h.same .load (by decide))

theorem KeepsHeld.ite {c : Prop} [Decidable c] (h : KeepsHeld s t) (k : KeepsHeld s u) : KeepsHeld s (if c then t else u) := by
  split
  · exact h
  · exact k

theorem KeepsHeld.foldl {α : Type} {f : State → α → State} (h : ∀ t x, KeepsHeld t (f t x)) (l : List α) : KeepsHeld s (l.foldl f s) := by
  induction l generalizing s with
  | nil => exact .refl s
  | cons x l ih => exact (h s x).trans ih

theorem KeepsHeld.fst_ite {β : Type} {c : Prop} [Decidable c] {p q : State × β} (h : KeepsHeld s p.1) (k : KeepsHeld s q.1) :
    KeepsHeld s (if c then p else q).1 := by
  split
  · exact h
  · exact k

/-- A loop that collects a result beside the state. -/
theorem KeepsHeld.foldl_pair {α β : Type} {f : State × β → α → State × β} (h : ∀ p x, KeepsHeld p.1 (f p x).1) (l : List α) (p : State × β) :
    KeepsHeld p.1 (l.foldl f p).1 := by
  induction l generalizing p with
  | nil => exact .refl p.1
  | cons x l ih => exact (h p x).trans (ih _)

end

section
variable (s : State)

/-! ### Channels and composites (04 R118, 05 R144, R148) -/

theorem State.modChan_keepsHeld (n : Nat) (f : Chan → Chan) : KeepsHeld s (s.modChan n f) := rfl
theorem State.setChan_keepsHeld (n : Nat) (c : Chan) : KeepsHeld s (s.setChan n c) := rfl
theorem State.setComp_keepsHeld (k : Nat) (c : Comp) : KeepsHeld s (s.setComp k c) := rfl
theorem State.setGen_keepsHeld (g : Nat) (x : Gen) : KeepsHeld s (s.setGen g x) := rfl

theorem State.dropCh_keepsHeld (n : Nat) (st : ChSt) (uj : Option Rat) : KeepsHeld s (s.dropCh n st uj) := by
  unfold State.dropCh
  extract_lets v w x
  have released : KeepsHeld s v := .ite (.of_only (State.releaseCh_only (.refl ..) (by decide))) (.refl s)
  have half : KeepsHeld w x := .ite (w.modChan_keepsHeld ..) (.refl w)
  exact released.trans (half.trans (x.modChan_keepsHeld ..))

theorem State.gangLatch_keepsHeld (n : Nat) : KeepsHeld s (s.gangLatch n) := by
  refine .foldl (fun t p => .ite ?_ (.refl t)) _
  exact (t.setComp_keepsHeld ..).trans (.foldl (fun v i => .ite (.refl v) (v.dropCh_keepsHeld ..)) _)

theorem State.evenOut_keepsHeld (k : Nat) : KeepsHeld s (s.evenOut k) :=
  .ite (.foldl (fun t _ => t.modChan_keepsHeld ..) _) (.refl s)

theorem State.adoptChan_keepsHeld (kept : Bool) (n : Nat) : KeepsHeld s (s.adoptChan kept n) := by
  unfold State.adoptChan
  extract_lets s0 c x arm v half w put code
  have odd : KeepsHeld v w := .ite (v.setChan_keepsHeld ..) (.refl v)
  have armed : KeepsHeld s w := (s.setChan_keepsHeld ..).trans odd
  have told (t : State) (u code : Nat) (d : List Byte) : Only [.atlas, .evs, .ctl] t (put t u code d) :=
    .ite (State.keepAt_only (.refl ..) (by decide)) (State.emit_only (.refl ..) (by decide))
  refine .ite (.refl s) (.ite armed (armed.trans (.of_only ?_)))
  exact (Only.refl _ w).after (State.compEventsBy_only (told ..) told) (by decide)

/-! ### Units that pulse (05 R149, R158) -/

theorem State.endTest_keepsHeld (n : Nat) : KeepsHeld s (s.endTest n) :=
  .ite (.refl s) (.trans (s.modChan_keepsHeld ..) (.ite (State.modChan_keepsHeld ..) (.refl _)))

theorem State.lowSides_keepsHeld (n : Nat) : KeepsHeld s (s.lowSides n) :=
  (s.modChan_keepsHeld ..).trans (.foldl (fun t _ => t.modChan_keepsHeld ..) _)

theorem State.unresolved_keepsHeld (s0 : State) (n : Nat) : KeepsHeld s (s.unresolved s0 n) := (s.unresolved_reports s0 n).steady.held

theorem State.leafOn_keepsHeld (n : Nat) (d : Drive) : KeepsHeld s (s.leafOn n d).1 := by
  unfold State.leafOn
  extract_lets v c s0 lost w off lost' low turned
  refine (s.endTest_keepsHeld n).trans (t := v) ?_
  have dropped : KeepsHeld v off := v.dropCh_keepsHeld ..
  have marked (f : Chan → Chan) : KeepsHeld v ((off.modChan n f).unresolved s0 n) :=
    dropped.trans ((off.modChan_keepsHeld n f).trans (State.unresolved_keepsHeld ..))
  have reversed : KeepsHeld v (turned.unresolved s0 n) :=
    dropped.trans ((off.lowSides_keepsHeld n).trans ((low.modChan_keepsHeld ..).trans (State.unresolved_keepsHeld ..)))
  have redirected : KeepsHeld v (if c.drive = d then (v, false) else if reverses c.drive d then (turned.unresolved s0 n, false)
      else if c.energised then ((off.modChan n (fun c => { c with drive := d, dead := some (off.now, .request), lostAt := lost' })).unresolved s0 n, false)
      else ((off.modChan n (fun c => { c with drive := d, lostAt := lost' })).unresolved s0 n, lost'.isNone)).1 :=
    .fst_ite (.refl v) (.fst_ite reversed (.fst_ite (marked _) (marked _)))
  have withdrawn : KeepsHeld v w := .of_only (State.withdraw_only (.refl ..) (by decide))
  split
  case h_1 => exact .fst_ite (v.modChan_keepsHeld ..) (v.setChan_keepsHeld ..)
  case h_2 => exact .fst_ite (.refl v) (.fst_ite (withdrawn.trans (w.setChan_keepsHeld ..)) (withdrawn.trans (w.setChan_keepsHeld ..)))
  case h_3 | h_4 | h_5 | h_6 => exact redirected
  case h_7 => exact .refl v

theorem State.lastCmd_keepsHeld (u : Nat) (idle : Bool) : KeepsHeld s (s.lastCmd u idle) := .ite (.refl s) (s.setComp_keepsHeld ..)

theorem State.unitOn_keepsHeld (u : Nat) (drive : Nat → Drive) : KeepsHeld s (s.unitOn u drive) := by
  unfold State.unitOn
  extract_lets ls
  split
  next v need turned =>
    have on : KeepsHeld s v := by
      rw [← show _ = v from congrArg Prod.fst turned]
      refine KeepsHeld.foldl_pair (fun p n => ?_) ls (s, [])
      exact p.1.leafOn_keepsHeld n (drive n)
    exact .ite on (on.trans (.of_only (State.askUnit_only (.refl ..) (by decide))))

theorem State.resumePulse_keepsHeld (g u : Nat) : KeepsHeld s (s.resumePulse g u) := by
  unfold State.resumePulse
  split
  · exact .refl s
  · extract_lets dr ls
    refine .ite (.refl s) (.ite ((s.lastCmd_keepsHeld ..).trans (State.unitOn_keepsHeld ..)) (.foldl (fun t n => ?_) _))
    have on : KeepsHeld t (t.leafOn n (dr n)).1 := t.leafOn_keepsHeld ..
    exact .ite (on.trans (.of_only (State.requestFor_only (.refl ..) (by decide)))) on

theorem State.endOnPhase_keepsHeld (n : Nat) : KeepsHeld s (s.endOnPhase n) := .foldl (fun t i => t.modChan_keepsHeld i _) _

theorem State.leafOffEdge_keepsHeld (n : Nat) (free : Bool) : KeepsHeld s (s.leafOffEdge n free) :=
  (s.endOnPhase_keepsHeld n).trans (State.modChan_keepsHeld ..)

theorem State.unitOffEdge_keepsHeld (u : Nat) (free : Bool) : KeepsHeld s (s.unitOffEdge u free) :=
  .foldl (fun t _ => t.leafOffEdge_keepsHeld ..) _

theorem State.beginPeriod_keepsHeld (g b : Nat) : KeepsHeld s (s.beginPeriod g b) := by
  unfold State.beginPeriod
  extract_lets x per ms v ms' w
  have refunded : KeepsHeld s v := by
    refine .foldl (fun t m => .ite (.of_only ?_) (.refl t)) _
    exact State.refundPulse_only (State.refundPulse_only (.refl ..) (by decide)) (by decide)
  exact refunded.trans (.trans (v.setGen_keepsHeld ..) (.foldl (fun t _ => t.unitOffEdge_keepsHeld ..) _))

theorem State.restartGens_keepsHeld (k : Nat) : KeepsHeld s (s.restartGens k) :=
  .foldl (fun t _ => .ite ((t.setGen_keepsHeld ..).trans (.trans (.foldl (fun v _ => v.resumePulse_keepsHeld ..) _) (State.beginPeriod_keepsHeld ..)))
    (.refl t)) _

/-- Phase 8 releases the sequencers (R430), and marks its end in the boot record. -/
theorem State.adopt_boot : s.adopt.load.held = false ∧ s.adopt.boot = { s.boot with window := none, adopted := true } := by
  unfold State.adopt
  extract_lets l v w x y z
  have adopted : KeepsHeld v w := .foldl (fun t _ => t.adoptChan_keepsHeld ..) _
  have even : KeepsHeld w x := .foldl (fun t _ => t.evenOut_keepsHeld ..) _
  have latched : KeepsHeld x y := .foldl (fun t _ => .ite (t.gangLatch_keepsHeld ..) (.refl t)) _
  have resumed : KeepsHeld y z := (y.restartGens_keepsHeld ..).trans (.of_only (State.adoptLight_only (.refl ..) (by decide)))
  have others : Only [.atlas, .load, .iso, .light, .evs, .ctl] v z := by
    have channels : Only [.atlas, .load, .iso, .light, .evs, .ctl] v w := .foldl (.refl ..) (fun t _ => State.adoptChan_only (.refl ..) (by decide))
    have composites : Only [.atlas, .load, .iso, .light, .evs, .ctl] v x := .foldl channels (fun t _ => State.evenOut_only (.refl ..) (by decide))
    have gangs : Only [.atlas, .load, .iso, .light, .evs, .ctl] v y :=
      .foldl composites (fun t _ => .ite (State.gangLatch_only (.refl ..) (by decide)) (.refl ..))
    exact State.adoptLight_only (State.restartGens_only gangs (by decide)) (by decide)
  have boot : z.boot = s.boot := others.same .boot (by decide)
  exact ⟨adopted.trans (even.trans (latched.trans resumed)), congrArg (fun b : Boot => { b with window := none, adopted := true }) boot⟩

end

end Sys2Proof.Machine
end

section
/-!
PROOFS. Starts (09 R242, 17 R425 to R430): OFF and the feeds, the marks of a cold and of a warm start, each phase with what it hands to the
next; then O36.
-/
namespace Sys2Proof.Machine

section
variable {s u t w : State} {g : Lapse} {o : BootObs}

/-! ### OFF, cold start and warm start (09 R242, 17 R425, R427) -/

theorem exec_feedStart {a b : Bool} (off : (s.pass g).pwr.st = .off) (fed : a = true ∨ b = true) :
    exec (.feedStart g a b) s = .next ((s.pass g).cold.modPwr (fun w => { w with st := .start, pdOn := 1, startFeeds := flag a + 2 * flag b })) := by
  show execFeedStart g a b s = _
  simp only [execFeedStart]
  generalize s.pass g = u at *
  exact congrArg _ (if_pos (by simpa [off] using fed))

/-- The state that a cold start enters phase 1 with. -/
def State.coldStarted (s : State) : State :=
  let s := s.cold
  let lock := Pf.accLockout_LOCKMIN.of (s.storedOf (Pf.accLockout_LOCKMIN.id 0) 0)
  let s := s.modAcc (fun a => { a with lock := if a.flag then some (0, lock * 1966080 + 1) else none })
  let r : LgdRec := ⟨0x400A, s.pwr.startFeeds, 0⟩
  let s := { s with lgd := { last := r, hist := (Vector.replicate 8 ({} : LgdRec)).setIfInBounds 0 r } }
  let s := s.modBoot (fun b => { b.begin true false false 1 with cause := 1 })
  s.modPwr (fun w => { w with pdOn := 1 })

theorem exec_coldStart (start : (s.pass g).pwr.st = .start) (fresh : (s.pass g).boot.phase = 0) (unwoken : (s.pass g).pwr.woke = none) :
    exec (.coldStart g) s = .next (s.pass g).coldStarted := by
  show execColdStart g s = _
  simp only [execColdStart]
  generalize s.pass g = u at *
  exact if_pos (by simp [start, fresh, unwoken])

/-- The cause of a start is the low byte of its record. -/
theorem State.causeWord_mod (s : State) (cause : Nat) (during : Bool) (small : cause < 256) : s.causeWord cause during % 256 = cause := by
  simp only [State.causeWord, Nat.shiftLeft_eq]
  omega

/-- The state that a warm start enters phase 2 with, before PD1 and PD3 are raised. -/
def State.warmStarted (s : State) (resume : Bool) : State :=
  let s := s.recordCause (s.causeWord 2 false)
  let chans := Vector.ofFn (fun (i : Fin 64) => s.parked i)
  let gens := s.load.gen.map (fun x => { x with mems := x.mems.map (fun m => { m with pulsing := false }) })
  let s := { (s.freshLogic true) with load := { s.load with ch := chans, gen := gens, cmds := [], held := false, halted := 0 }, light := s.light.fresh }
  s.modBoot (fun b => { b.begin false false resume 2 with digest := false, window := none })

theorem exec_warmStart {w d : Nat} (ok : Bool) (woken : (s.pass g).pwr.woke = some (w, d)) (start : (s.pass g).pwr.st = .start)
    (fresh : (s.pass g).boot.phase = 0) : ∃ resume, exec (.warmStart g ok) s = .next ((s.pass g).warmStarted resume).phase2 := by
  show ∃ resume, execWarmStart g ok s = _
  simp only [execWarmStart]
  generalize s.pass g = u at *
  rw [woken]
  exact ⟨_, if_pos (by simp [start, fresh])⟩

/-- Phase 2 has PD1 and PD3 on; of the rest, only what a domain that rises starts has changed. -/
theorem State.phase2_raises (s : State) : s.phase2.boot = { s.boot with phase := 2 } ∧ s.phase2.pd 1 = true ∧ s.phase2.pd 3 = true ∧
    s.phase2.par = s.par ∧ s.phase2.load = s.load := by
  unfold State.phase2
  generalize marked : s.modBoot (fun b => { b with phase := 2 }) = v
  obtain ⟨-, each⟩ := v.raise_raised 0xB
  have only := State.raise_only (mask := 0xB) (.refl _ v) (fun _ h => h)
  exact ⟨(only.same .boot (by decide)).trans (marked ▸ rfl), each 1 (by decide), each 3 (by decide),
    (only.same .par (by decide)).trans (marked ▸ rfl), (only.same .load (by decide)).trans (marked ▸ rfl)⟩

theorem State.parked_modBoot (s : State) (f : Boot → Boot) (n : Nat) : (s.modBoot f).parked n = s.parked n := rfl

theorem State.warmStarted_chan (s : State) (resume : Bool) (n : Fin 64) : (s.warmStarted resume).chan n = s.parked n := by
  unfold State.warmStarted
  extract_lets v chans gens
  have read : chans.toList.getD n {} = v.parked n := by simp [chans]
  exact read.trans (State.parked_modBoot ..)

theorem State.warmStarted_marks (s : State) (resume : Bool) : (s.warmStarted resume).boot.cause = s.causeWord 2 false ∧
    (s.warmStarted resume).boot.cold = false ∧ (s.warmStarted resume).par = { s.par with work := s.par.work.filter (fun p => keyPers p.1 ≠ 0) } :=
  ⟨rfl, rfl, rfl⟩

/-- A warm start enters phase 2 with its cause, its working copies, and every channel as it was parked. -/
theorem State.warmStarted_phase2 {resume : Bool} (enters : t = (s.warmStarted resume).phase2) : t.boot.phase = 2 ∧ t.boot.cause % 256 = 2 ∧
    t.boot.cold = false ∧ t.pd 1 = true ∧ t.pd 3 = true ∧ t.par.stored = s.par.stored ∧
    t.par.work = s.par.work.filter (fun p => keyPers p.1 ≠ 0) ∧ ∀ n : Fin 64, t.chan n = s.parked n := by
  obtain ⟨cause, cold, kept⟩ := s.warmStarted_marks resume
  have parked := s.warmStarted_chan resume
  subst enters
  generalize s.warmStarted resume = v at *
  obtain ⟨boot, one, three, par, load⟩ := v.phase2_raises
  have store := par.trans kept
  refine ⟨congrArg Boot.phase boot, ?_, (congrArg Boot.cold boot).trans cold, one, three, (congrArg ParStore.stored store :),
    (congrArg ParStore.work store :), fun n => ?_⟩
  · rw [congrArg Boot.cause boot, cause, State.causeWord_mod s 2 false (by decide)]
  · exact (congrArg (fun l : Load => l.ch.toList.getD n {}) load).trans (parked n)

/-! ### The phases (17 R425) -/

/-- What BOOT_PHASE_ADVANCE does before Atlas drains: the phase in progress ends with what it found, and the next begins. -/
def State.advanced (s : State) (o : BootObs) : State :=
  if s.pwr.st = .off || s.pwr.st = .park || s.pwr.st = .dormant then s
  else if s.boot.phase = 1 then s.phase2
  else if s.boot.phase = 2 then (if s.clk.run then s else if o.lock then s.pllLock else s.pllFallback).modBoot (fun b => { b with phase := 3 })
  else if s.boot.phase = 3 then
    if ((s.selfTested o.failed).mem.test.toList.getD 0 {}).result = 2 then (s.selfTested o.failed).recover 4
    else (s.selfTested o.failed).modBoot (fun b => { b with phase := 4 })
  else if s.boot.phase = 4 then (if s.boot.resume then s.selectSlot.phase7 else s.selectSlot.modBoot (fun b => { b with phase := 5 }))
  else if s.boot.phase = 5 then s.checkSlot5 o.digestOk
  else if s.boot.phase = 6 then
    if o.loadOk then ((s.loadImage 0x20000000 0x10000).loadImage 0x10000000 0x800000).phase7 else s.recover 5
  else if s.boot.phase = 7 then (if s.init.boot.restart then s.init.modBoot (fun b => { b with phase := 8 }) else s.init.becomeReady)
  else if s.boot.phase = 8 then s.adopt.becomeReady
  else s

theorem exec_bootPhaseAdvance : exec (.bootPhaseAdvance g o) s = .next ((s.pass g).advanced o).drained := rfl

/-- Atlas has drained: everything but what it has handed over stands, and so does READY. -/
structure AfterDrain (t w : State) : Prop where
  only : Only [.atlas, .evs, .ctl] t w
  ready : KeepsReady t w

theorem State.drained_afterDrain (t : State) : AfterDrain t t.drained := ⟨State.drained_only (.refl ..) (by decide), t.drained_keepsReady⟩

theorem AfterDrain.boot (d : AfterDrain t w) : w.boot = t.boot := d.only.same .boot (by decide)
theorem AfterDrain.pwr (d : AfterDrain t w) : w.pwr = t.pwr := d.only.same .pwr (by decide)

section
variable (start : u.pwr.st = .start)
include start

theorem State.advanced_one (ph : u.boot.phase = 1) : u.advanced o = u.phase2 := by simp [State.advanced, start, ph]

theorem State.advanced_two (ph : u.boot.phase = 2) (stopped : u.clk.run = false) :
    u.advanced o = (if o.lock then u.pllLock else u.pllFallback).modBoot (fun b => { b with phase := 3 }) := by
  simp [State.advanced, start, ph, stopped]

theorem State.advanced_three (ph : u.boot.phase = 3) : u.advanced o =
    if ((u.selfTested o.failed).mem.test.toList.getD 0 {}).result = 2 then (u.selfTested o.failed).recover 4
    else (u.selfTested o.failed).modBoot (fun b => { b with phase := 4 }) := by
  simp [State.advanced, start, ph]

theorem State.advanced_four (ph : u.boot.phase = 4) :
    u.advanced o = if u.boot.resume then u.selectSlot.phase7 else u.selectSlot.modBoot (fun b => { b with phase := 5 }) := by
  simp [State.advanced, start, ph]

theorem State.advanced_five (ph : u.boot.phase = 5) : u.advanced o = u.checkSlot5 o.digestOk := by simp [State.advanced, start, ph]

theorem State.advanced_six (ph : u.boot.phase = 6) (loaded : o.loadOk = true) :
    u.advanced o = ((u.loadImage 0x20000000 0x10000).loadImage 0x10000000 0x800000).phase7 := by
  simp [State.advanced, start, ph, loaded]

theorem State.advanced_seven (ph : u.boot.phase = 7) :
    u.advanced o = if u.init.boot.restart then u.init.modBoot (fun b => { b with phase := 8 }) else u.init.becomeReady := by
  simp [State.advanced, start, ph]

theorem State.advanced_eight (ph : u.boot.phase = 8) : u.advanced o = u.adopt.becomeReady := by simp [State.advanced, start, ph]

end

/-! ### What each phase does (17 R425, R426, R430) -/

/-- After a cold start the time base starts with the decision about the PLL. -/
theorem State.pll_decided (stopped : u.clk.run = false) (cold : u.boot.cold = true) (lock : Bool) :
    (if lock then u.pllLock else u.pllFallback).clk.run = true ∧ (if lock then u.pllLock else u.pllFallback).clk.lock = lock ∧
    (lock = false → (if lock then u.pllLock else u.pllFallback).clk.fallback = true) := by
  cases lock
  · have fell : u.pllFallback.clk = { u.clk with run := true, calAon := u.clk.aon, calTb := u.now, lock := false, fallback := true } := by
      rw [State.pllFallback, State.startTb_of_cold stopped cold]
    exact ⟨congrArg TimeBase.run fell, congrArg TimeBase.lock fell, fun _ => congrArg TimeBase.fallback fell⟩
  · have locked : u.pllLock.clk = { u.clk with run := true, calAon := u.clk.aon, calTb := u.now, lock := true } := by
      rw [State.pllLock, State.startTb_of_cold stopped cold]
    exact ⟨congrArg TimeBase.run locked, congrArg TimeBase.lock locked, nofun⟩

/-- What leaves the records of the memories leaves what their self-test found. -/
theorem Only.test {l : List Part} (h : Only l s t) (kept : .memc ∉ l) : t.mem.test = s.mem.test := by
  have records : { t.mem with cells := [], chk := [], epoch := 0 } = { s.mem with cells := [], chk := [], epoch := 0 } := h.same .memc kept
  exact (congrArg Mem.test records :)

/-- A self-test in which nothing fails passes every memory and says so at BOOT_SELFTEST. -/
theorem State.selfTested_nil (s : State) : (s.selfTested []).boot.selftest = 2 ^ 31 ∧
    (s.selfTested []).mem.test = Vector.replicate 74 ⟨1, 0, 0⟩ := by
  unfold State.selfTested
  simp -zeta only [List.foldl_nil]
  extract_lets test bad cs word m v w x y
  have passed (i : Nat) : ¬ bad i := by
    show ¬ ((Vector.replicate 74 (⟨1, 0, 0⟩ : SelfTest)).toList.getD i {}).result = 2
    simp only [Vector.toList_replicate, List.getD_eq_getElem?_getD, List.getElem?_replicate]
    split <;> decide
  have clean : word = 2 ^ 31 := by simp [word, cs, passed, maskOf, flag]
  have lost : Only [.bytes] v x := State.loseMem_only (.foldl (.refl ..) (fun t _ => State.loseMem_only (.refl ..) (by decide))) (by decide)
  clear_value x
  exact ⟨clean, lost.test (by decide)⟩

theorem State.selectSlot_hold (s : State) : s.selectSlot.boot.hold = s.boot.holdRec := by
  unfold State.selectSlot
  extract_lets
  show (if _ then _ else _ : State).boot.hold = _
  split
  · rfl
  · split <;> rfl

/-- A slot that holds an image whose digest and rollback value pass is taken as it is. -/
theorem State.checkSlot5_ok (full : u.image.st ≠ .empty) (valid : u.image.st ≠ .invalid) (fresh : u.fw.rollback ≤ u.image.rollback) :
    u.checkSlot5 true = u.modBoot (fun b => { b with phase := 6 }) := by
  have new : ¬ u.image.rollback < u.fw.rollback := by omega
  simp [State.checkSlot5, full, valid, new]

theorem State.loadImages_only (s : State) : Only [.bytes] s ((s.loadImage 0x20000000 0x10000).loadImage 0x10000000 0x800000) :=
  State.loadImage_only (State.loadImage_only (.refl ..) (by decide)) (by decide)

/-- Phase 7 leaves the time and what the start is; the device is in RUN. -/
theorem State.init_run (s : State) : s.init.clk = s.clk ∧ s.init.boot.restart = s.boot.restart ∧ s.init.pwr.st = .run := by
  have clk : s.init.clk = s.clk := (State.init_only (.refl _ s) (fun _ h => h)).same .clk (by decide)
  refine ⟨clk, ?_⟩
  unfold State.init
  extract_lets work p s1 s2 s3 s4 s5 s6 s7 s8 s9
  have parameters : Only (allBut [.boot]) s s3 :=
    State.setPar_only (State.raiseEdition_only (Only.put_par (.refl ..) (by decide)) (by decide)) (by decide)
  have rebuilt : Only (allBut [.boot]) s s5 := State.rebuild_only (.ite parameters (State.writeFilters_only parameters (by decide))) (by decide)
  have up : Only (allBut [.boot]) s s7 :=
    State.startCore_only (State.railStart_only (State.paceRestore_only (State.raise_only rebuilt (by decide)) (by decide)) (by decide)) (by decide)
  have periods : Only (allBut [.boot]) s s8 := .ite up (State.restartGens_only up (by decide))
  have registers : Only (allBut [.boot]) s s9 := State.memParWritten_only (State.setCtrl_only periods (by decide)) (by decide)
  have boot : s9.boot = s.boot := registers.same .boot (by decide)
  generalize s9 = v at boot
  have last (t : State) : Only [.fab, .svy, .inp] t t.surveyInRun.closeNext := State.closeNext_only (State.surveyInRun_only (.refl ..) (by decide)) (by decide)
  exact ⟨(congrArg Boot.restart ((last _).same .boot (by decide))).trans (congrArg Boot.restart boot :), congrArg Power.st ((last _).same .pwr (by decide))⟩

/-- READY ends the start: phase 9, with its time, and the wake that led to it is past. -/
theorem KeepsReady.after_ready (k : KeepsReady u.becomeReady w) : w.boot = { u.boot with phase := 9 } ∧ w.atlas.ready = true ∧
    w.atlas.readyAt = u.now ∧ w.pwr = { u.pwr with woke := none } ∧ w.load = u.load := by
  obtain ⟨t, told, eq⟩ := u.becomeReady_eq
  rw [eq] at k
  have boot : t.boot = { u.boot with phase := 9 } := told.only.same .boot (by decide)
  have pwr : t.pwr = u.pwr := told.only.same .pwr (by decide)
  have load : t.load = u.load := told.only.same .load (by decide)
  exact ⟨(k.only.same .boot (by decide)).trans boot, k.ready.trans told.ready, k.readyAt.trans told.readyAt,
    (k.only.same .pwr (by decide)).trans (congrArg (fun p : Power => { p with woke := none }) pwr), (k.only.same .load (by decide)).trans load⟩

/-- The self-test of phase 3 without a failure leads to phase 4. -/
theorem State.advanced_tested (start : u.pwr.st = .start) (ph : u.boot.phase = 3) (clean : o.failed = []) :
    u.advanced o = (u.selfTested []).modBoot (fun b => { b with phase := 4 }) := by
  rw [State.advanced_three start ph, clean, (State.selfTested_nil u).2, if_neg]
  simp

/-- What the self-test has found stands after it. -/
theorem AfterDrain.tested (d : AfterDrain (t.modBoot (fun b => { b with phase := 4 })) w) (word : t.boot.selftest = 2 ^ 31)
    (passed : t.mem.test = Vector.replicate 74 ⟨1, 0, 0⟩) :
    w.boot.phase = 4 ∧ w.boot.selftest = 2 ^ 31 ∧ ∀ k : Fin 74, w.mem.test.toList.getD k {} = ⟨1, 0, 0⟩ := by
  have test : w.mem.test = Vector.replicate 74 ⟨1, 0, 0⟩ := (d.only.test (by decide)).trans passed
  refine ⟨congrArg Boot.phase d.boot, (congrArg Boot.selftest d.boot).trans word, fun k => ?_⟩
  rw [test, List.getD_eq_getElem?_getD, Vector.toList_replicate, List.getElem?_replicate, if_pos k.isLt, Option.getD_some]

/-! ### Each phase, with what Atlas drains after it (17 R425) -/

section
variable (start : u.pwr.st = .start) (d : AfterDrain (u.advanced o) w)
include start d

theorem AfterDrain.phase_one (ph : u.boot.phase = 1) : w.boot.phase = 2 ∧ w.pd 1 = true ∧ w.pd 3 = true := by
  rw [State.advanced_one start ph] at d
  obtain ⟨boot, one, three, -⟩ := u.phase2_raises
  have pwr : w.pwr = u.phase2.pwr := d.pwr
  exact ⟨congrArg Boot.phase (d.boot.trans boot), by simpa only [State.pd, pwr] using And.intro one three⟩

theorem AfterDrain.phase_two (ph : u.boot.phase = 2) (stopped : u.clk.run = false) (cold : u.boot.cold = true) :
    w.boot.phase = 3 ∧ w.clk.run = true ∧ w.clk.lock = o.lock ∧ (o.lock = false → w.clk.fallback = true) := by
  rw [State.advanced_two start ph stopped] at d
  have clk : w.clk = (if o.lock then u.pllLock else u.pllFallback).clk := d.only.same .clk (by decide)
  exact ⟨congrArg Boot.phase d.boot, by simpa only [clk] using State.pll_decided stopped cold o.lock⟩

theorem AfterDrain.phase_three (ph : u.boot.phase = 3) (clean : o.failed = []) :
    w.boot.phase = 4 ∧ w.boot.selftest = 2 ^ 31 ∧ ∀ k : Fin 74, w.mem.test.toList.getD k {} = ⟨1, 0, 0⟩ := by
  rw [State.advanced_tested start ph clean] at d
  obtain ⟨word, passed⟩ := u.selfTested_nil
  exact d.tested word passed

theorem AfterDrain.phase_four (ph : u.boot.phase = 4) : w.boot.phase = (if u.boot.resume then 7 else 5) ∧ w.boot.hold = u.boot.holdRec := by
  rw [State.advanced_four start ph] at d
  cases resume : u.boot.resume
  · rw [resume, if_neg Bool.false_ne_true] at d
    exact ⟨congrArg Boot.phase d.boot, (congrArg Boot.hold d.boot).trans u.selectSlot_hold⟩
  · rw [resume, if_pos rfl] at d
    exact ⟨congrArg Boot.phase d.boot, (congrArg Boot.hold d.boot).trans u.selectSlot_hold⟩

theorem AfterDrain.phase_five (ph : u.boot.phase = 5) (good : o.digestOk = true) (full : u.image.st ≠ .empty) (valid : u.image.st ≠ .invalid)
    (fresh : u.fw.rollback ≤ u.image.rollback) : w.boot.phase = 6 ∧ w.fw.run = u.fw.run := by
  rw [State.advanced_five start ph, good, State.checkSlot5_ok full valid fresh] at d
  exact ⟨congrArg Boot.phase d.boot, congrArg Fw.run (d.only.same .fw (by decide))⟩

theorem AfterDrain.phase_six (ph : u.boot.phase = 6) (loaded : o.loadOk = true) : w.boot.phase = 7 ∧ w.par = u.par := by
  rw [State.advanced_six start ph loaded] at d
  have par : _ = u.par := u.loadImages_only.same .par (by decide)
  generalize (u.loadImage 0x20000000 0x10000).loadImage 0x10000000 0x800000 = t at *
  exact ⟨congrArg Boot.phase d.boot, (d.only.same .par (by decide)).trans par⟩

theorem AfterDrain.phase_seven (ph : u.boot.phase = 7) (fresh : u.boot.restart = false) :
    w.boot.phase = 9 ∧ w.atlas.ready = true ∧ w.atlas.readyAt = u.now ∧ w.pwr.st = .run ∧ w.pwr.woke = none := by
  obtain ⟨clk, restart, run⟩ := u.init_run
  rw [State.advanced_seven start ph, restart, fresh, if_neg Bool.false_ne_true] at d
  obtain ⟨boot, ready, readyAt, pwr, -⟩ := d.ready.after_ready
  exact ⟨congrArg Boot.phase boot, ready, readyAt.trans (congrArg TimeBase.tb clk), (congrArg Power.st pwr).trans run, congrArg Power.woke pwr⟩

theorem AfterDrain.phase_seven_reset (ph : u.boot.phase = 7) (again : u.boot.restart = true) : w.boot.phase = 8 ∧ w.pwr.st = .run := by
  obtain ⟨-, restart, run⟩ := u.init_run
  rw [State.advanced_seven start ph, restart, again, if_pos rfl] at d
  exact ⟨congrArg Boot.phase d.boot, (congrArg Power.st d.pwr).trans run⟩

theorem AfterDrain.phase_eight (ph : u.boot.phase = 8) :
    w.boot.phase = 9 ∧ w.atlas.ready = true ∧ w.boot.adopted = true ∧ w.boot.window = none ∧ w.load.held = false := by
  obtain ⟨released, adopted⟩ := u.adopt_boot
  rw [State.advanced_eight start ph] at d
  obtain ⟨boot, ready, -, -, load⟩ := d.ready.after_ready
  rw [adopted] at boot
  exact ⟨congrArg Boot.phase boot, ready, congrArg Boot.adopted boot, congrArg Boot.window boot, (congrArg Load.held load).trans released⟩

end

end

/-- Settles O36: OFF, the feeds and a cold start give their whole records; each phase is followed through the draining of Atlas, which keeps
READY and every other part of the start. -/
theorem starts : Obligations.Starts := by
  intro s g o u goesTo
  have ends := (u.advanced o).drained_afterDrain
  refine ⟨⟨_, rfl, rfl, rfl, rfl, rfl, rfl⟩, fun a b off fed => ⟨_, exec_feedStart off fed, rfl, rfl, rfl, rfl⟩,
    fun start fresh unwoken => ⟨_, exec_coldStart start fresh unwoken, rfl, rfl, rfl, rfl, rfl, rfl, rfl, rfl, rfl⟩, ?_, fun start _ => ⟨?_, ?_, ?_, ?_, ?_, ?_, ?_, ?_, ?_, ?_⟩⟩
  · intro w d ok woken start fresh
    obtain ⟨resume, run⟩ := exec_warmStart ok woken start fresh
    exact ⟨_, run, State.warmStarted_phase2 rfl⟩
  · exact fun ph => ⟨_, exec_bootPhaseAdvance, ends.phase_one start ph⟩
  · exact fun ph stopped cold => ⟨_, exec_bootPhaseAdvance, ends.phase_two start ph stopped cold⟩
  · exact fun ph clean => ⟨_, exec_bootPhaseAdvance, ends.phase_three start ph clean⟩
  · intro ph fresh
    obtain ⟨phase, hold⟩ := ends.phase_four start ph
    exact ⟨_, exec_bootPhaseAdvance, by rwa [fresh] at phase, hold⟩
  · intro ph resumed
    obtain ⟨phase, hold⟩ := ends.phase_four start ph
    exact ⟨_, exec_bootPhaseAdvance, by rwa [resumed] at phase, hold⟩
  · exact fun ph good full valid fresh => ⟨_, exec_bootPhaseAdvance, ends.phase_five start ph good full valid fresh⟩
  · exact fun ph loaded => ⟨_, exec_bootPhaseAdvance, ends.phase_six start ph loaded⟩
  · exact fun ph fresh => ⟨_, exec_bootPhaseAdvance, ends.phase_seven start ph fresh⟩
  · exact fun ph again => ⟨_, exec_bootPhaseAdvance, ends.phase_seven_reset start ph again⟩
  · exact fun ph => ⟨_, exec_bootPhaseAdvance, ends.phase_eight start ph⟩

end Sys2Proof.Machine
end

section
/-!
PROOFS. The vehicle networks (10): what a port's record reads as after an update of one port, and what a class-5 event leaves of the networks.
-/
namespace Sys2Proof.Machine

/-! ### One entry of a vector of ports -/

/-- From one vector of ports to another, the port `i` alone is written, with `x`. -/
structure PutAt {α : Type} {k : Nat} (d : α) (v w : Vector α k) (i : Fin k) (x : α) : Prop where
  own : w.toList.getD i d = x
  others : ∀ j : Fin k, j ≠ i → w.toList.getD j d = v.toList.getD j d

section
variable {α : Type} {k : Nat} {d x y : α} {v w z : Vector α k} {i : Fin k}

theorem PutAt.refl : PutAt d v v i (v.toList.getD i d) := ⟨rfl, fun _ _ => rfl⟩

theorem PutAt.set : PutAt d v (v.setIfInBounds i x) i x :=
  ⟨(getD_setIfInBounds ..).trans (if_pos ⟨rfl, i.isLt⟩),
    fun _ ne => (getD_setIfInBounds ..).trans (if_neg fun h => ne (Fin.ext h.1.symm))⟩

theorem PutAt.trans (h : PutAt d v w i x) (k : PutAt d w z i y) : PutAt d v z i y :=
  ⟨k.own, fun j ne => (k.others j ne).trans (h.others j ne)⟩

/-- A later update of what is no port leaves the record. -/
theorem PutAt.keep (h : PutAt d v w i x) (same : z = w) : PutAt d v z i x := same ▸ h

end

/-- The record of CANn alone is written. -/
abbrev CanPut (u t : State) (n : Fin 8) (c : CanPort) : Prop := PutAt {} u.net.can t.net.can n c

/-- The record of LINn alone is written. -/
abbrev LinPut (u t : State) (n : Fin 8) (l : LinPort) : Prop := PutAt {} u.net.lin t.net.lin n l

/-- The record of an uplink alone is written. -/
abbrev EthPut (u t : State) (k : Fin 2) (e : EthPort) : Prop := PutAt {} u.net.eth t.net.eth k e

section
variable {s : State} {unit code count value : Nat}

theorem State.canPut_modCan (n : Fin 8) (f : CanPort → CanPort) : CanPut s (s.modCan n f) n (f (s.canPort n)) := .set
theorem State.canPort_modCan_self (n : Fin 8) (f : CanPort → CanPort) : (s.modCan n f).canPort n = f (s.canPort n) := (s.canPut_modCan n f).own
theorem State.linPut_modLin (n : Fin 8) (f : LinPort → LinPort) : LinPut s (s.modLin n f) n (f (s.linPort n)) := .set
theorem State.linPort_modLin_self (n : Fin 8) (f : LinPort → LinPort) : (s.modLin n f).linPort n = f (s.linPort n) := (s.linPut_modLin n f).own

/-! ### Class-5 events (10 R281, R287) -/

@[simp] theorem State.netEventN_net : (s.netEventN unit code count value).net = s.net :=
  (State.netEventN_only (.refl [.atlas, .evs, .ctl] s) (by decide)).same .net (by decide)

@[simp] theorem State.netEvent_net : (s.netEvent unit code value).net = s.net := State.netEventN_net

/-- A limited event keeps its own count, and leaves the rest of the networks. -/
theorem State.netLimited_net : ∃ l, (s.netLimited unit code value).net = { s.net with evs := l } := by
  unfold State.netLimited
  extract_lets key
  split
  · split
    · exact ⟨_, State.netEventN_net⟩
    · exact ⟨_, rfl⟩
  · exact ⟨_, State.netEventN_net⟩

@[simp] theorem State.netLimited_lin : (s.netLimited unit code value).net.lin = s.net.lin := by
  obtain ⟨l, net⟩ := s.netLimited_net (unit := unit) (code := code) (value := value)
  rw [net]

@[simp] theorem State.netLimited_linq : (s.netLimited unit code value).net.linq = s.net.linq := by
  obtain ⟨l, net⟩ := s.netLimited_net (unit := unit) (code := code) (value := value)
  rw [net]

end

end Sys2Proof.Machine
end

section
/-!
PROOFS. CAN controllers and the tunnel (10 R268 to R274, R286); then O38.
-/
namespace Sys2Proof.Machine

/-! ### What a frame counts and starts besides its port (11 R297, R304) -/

section
variable {s : State} {n : Nat} {f : CanFrame}

/-- A selective-wake detector counts in the sleep agreement alone. -/
theorem State.wufStep_agr (k : Nat → Nat) : ∃ a, s.wufStep n k = { s with agr := a } := by
  unfold State.wufStep
  split <;> exact ⟨_, rfl⟩

theorem State.wufSeen_agr : ∃ a, s.wufSeen n f = { s with agr := a } := by
  unfold State.wufSeen
  split
  · exact State.wufStep_agr _
  · exact ⟨_, rfl⟩

/-- A frame while no entry runs aborts none. -/
theorem State.entryTraffic_of_idle (idle : s.pwr.entry = none) : s.entryTraffic n f = s := by
  simp only [State.entryTraffic, State.beforeC, idle]

theorem State.kaSentCan_net : (s.kaSentCan f).net = s.net := (State.kaSentCan_only (.refl [.agr] s) (by decide)).same .net (by decide)

end

/-! ### Acceptance (10 R273) -/

section
variable {s : State} {n i sof t : Nat} {f : CanFrame}

theorem State.accepts_of_first (inside : i < s.nfiltFor n sof) (before : ∀ j, j < i → takesFrame (s.elementFor n j t) f = false)
    (takes : takesFrame (s.elementFor n i t) f = true) (accept : (s.elementFor n i t).testBit 3 = true) :
    s.accepts n f sof t = some (bitsOf (s.elementFor n i t) 4 2) := by
  have first : (List.range (s.nfiltFor n sof)).find? (fun j => takesFrame (s.elementFor n j t) f) = some i :=
    List.find?_range_eq_some.mpr ⟨takes, List.mem_range.mpr inside, fun j lt => by simp [before j lt]⟩
  simp only [State.accepts, first, accept, if_true]

theorem State.accepts_of_none (none' : ∀ j, j < s.nfiltFor n sof → takesFrame (s.elementFor n j t) f = false)
    (reject : s.pb Pf.canCfg_NOMATCH n = false) : s.accepts n f sof t = none := by
  have first : (List.range (s.nfiltFor n sof)).find? (fun j => takesFrame (s.elementFor n j t) f) = none :=
    List.find?_eq_none.mpr fun j mem => Bool.not_eq_true _ ▸ none' j (List.mem_range.mp mem)
  simp only [State.accepts, first, reject, Bool.false_eq_true, if_false]

/-- An element that no write reached at or after the end of the identifier is read as it stands. -/
theorem State.elementFor_of_settled (settled : ∀ w ∈ (s.canPort n).elemW, w.1 = i → w.2.1 < t) : s.elementFor n i t = s.filterAt n i := by
  have none' : (s.canPort n).elemW.find? (fun w => w.1 = i && t ≤ w.2.1) = none :=
    List.find?_eq_none.mpr fun w mem => by
      have before := settled w mem
      simp only [Bool.and_eq_true, decide_eq_true_eq, not_and, not_le]
      exact before
  simp only [State.elementFor, none']

theorem State.nfiltFor_of_settled (settled : ∀ w ∈ (s.canPort n).nfiltW, w.1 < sof) : s.nfiltFor n sof = s.pf Pf.canCfg_NFILT n := by
  have none' : (s.canPort n).nfiltW.find? (fun w => sof ≤ w.1) = none :=
    List.find?_eq_none.mpr fun w mem => by simpa using settled w mem
  simp only [State.nfiltFor, none']

end

section
variable {s : State} {g : Lapse} {n : Fin 8} {f : CanFrame} {i : Nat}

/-- A record enters a queue that a core is granted and that has room for it (R268, R269). -/
theorem State.queueRec_put {q : Nat} {r : RxRec} (own : q ≠ 0) (granted : (s.granteeOf 4 (4 * n.val + q)).isSome = true)
    (room : (((s.canPort n).queues.toList.getD q []).map RxRec.size).foldl (· + ·) 0 + r.size ≤ 8192) : CanPut s (s.queueRec n q r) n
      { s.canPort n with queues := (s.canPort n).queues.setIfInBounds q ((s.canPort n).queues.toList.getD q [] ++ [r]) } := by
  have held : (s.granteeOf 4 (4 * n.val + q)).isNone = false := by simpa using granted
  simp only [State.queueRec, own, held, not_lt.mpr room, decide_false, Bool.false_and, Bool.and_false, Bool.false_eq_true, if_false]
  exact s.canPut_modCan n _

/-- The record of a controller that has received a frame without error. -/
def CanPort.tookFrame (c : CanPort) (now : Nat) : CanPort := { c.goodRx now with elemW := [], nfiltW := [] }

/-- A controller has received a frame without error, and the sleep agreement is `a`. -/
def State.received (s : State) (n : Nat) (a : Agree) : State := State.modCan { s with agr := a } n (fun c => c.tookFrame s.now)

/-- A frame that the controller receives outside an entry enters the queue that acceptance names, if any. -/
theorem exec_canFrameReceived {sof idEnd : Nat} {q : Option Nat} (idle : (s.pass g).pwr.entry = none) (bus : ((s.pass g).canPort n).onBus = true)
    (fmt : f.fmt ≤ (s.pass g).pf Pf.canCfg_FORMATS n) (len : f.data.length ≤ 2048) (accepts : (s.pass g).accepts n f sof idEnd = q) :
    ∃ a, exec (.canFrameReceived g n f ⟨sof, idEnd⟩) s =
      .next (q.elim ((s.pass g).received n a) (fun q => ((s.pass g).received n a).queueRec n q ⟨sof, f.fmt, f⟩)) := by
  show ∃ a, execCanFrameReceived g n f ⟨sof, idEnd⟩ s = _
  obtain ⟨a, counted⟩ := (s.pass g).wufSeen_agr (n := n) (f := f)
  have seen : ((s.pass g).wufSeen n f).entryTraffic n f = { s.pass g with agr := a } := by
    rw [counted]
    exact State.entryTraffic_of_idle idle
  refine ⟨a, ?_⟩
  subst accepts
  unfold execCanFrameReceived
  rw [seen]
  refine congrArg _ ((if_neg ?_).trans ?_)
  · have takes : (((s.pass g).canPort n).onBus && f.fmt ≤ (s.pass g).pf Pf.canCfg_FORMATS n && f.data.length ≤ 2048) = true := by simp [bus, fmt, len]
    exact Bool.not_eq_true _ ▸ congrArg not takes
  · show (match (s.pass g).accepts n f sof idEnd with | none => _ | some q => _) = _
    cases (s.pass g).accepts n f sof idEnd <;> rfl

theorem State.received_put (s : State) (n : Fin 8) (a : Agree) :
    CanPut s (s.received n a) n ((s.canPort n).tookFrame s.now) := .set

/-! ### Transmission (10 R267, R270, R271, R274) -/

/-- Delay compensation notes its sample point, and may saturate (R267). -/
theorem State.tdc_put (u : State) (n : Fin 8) (f : CanFrame) (delay : Nat) :
    ∃ x sat, CanPut u (u.tdc n f delay) n { u.canPort n with ssp := x, tdcSat := sat } := by
  unfold State.tdc
  extract_lets on off t
  have noted : CanPut u t n { u.canPort n with ssp := min 255 (delay + off) } := .set
  split
  · exact ⟨_, _, .refl⟩
  · split
    · have saturated : CanPut t (t.modCan n (fun c => { c with tdcSat := true })) n { t.canPort n with tdcSat := true } := .set
      rw [show t.canPort n = _ from noted.own] at saturated
      exact ⟨_, true, (noted.trans saturated).keep (congrArg Nets.can State.netEvent_net)⟩
    · exact ⟨_, _, noted⟩

/-- The frame that the controller offers has been sent, and its buffers are free. -/
theorem exec_canFrameSent {sof delay : Nat} (offered : ((s.pass g).canPort n).offered = some i) (own : i ≠ 32)
    (frame : ((s.pass g).canPort n).frameAt i = some f) (sends : (s.pass g).canSends n = true) : exec (.canFrameSent g n sof delay) s =
      .next ((((s.pass g).setCan n { (((s.pass g).canPort n).free i).goodTx with sent := ((s.pass g).canPort n).sent ++ [f] }).tdc n f delay).kaSentCan f) := by
  show execCanFrameSent g n sof delay s = _
  simp only [execCanFrameSent, offered, frame, sends, own, decide_false, Bool.not_true, Bool.false_and, Bool.or_self, Bool.false_eq_true, if_false]

theorem CanPort.free_of_ne {c : CanPort} (own : i ≠ 32) : c.free i = { c with tx := c.tx.filter (fun b => b.first ≠ i) } := if_neg own

theorem exec_canArbitrationLost (offered : ((s.pass g).canPort n).offered = some i) (sends : (s.pass g).canSends n = true) :
    exec (.canArbitrationLost g n) s =
      .next (if (s.pass g).pb Pf.canCfg_DAR n then (s.pass g).setCan n (((s.pass g).canPort n).fail i) else s.pass g) := by
  show execCanArbitrationLost g n s = _
  simp only [execCanArbitrationLost, offered, sends, Bool.true_and]
  rfl

/-! ### Errors and bus-off (10 R274) -/

/-- The counts of a controller after an error, the receive count held at 255. -/
def CanPort.counted (c : CanPort) (e : CanErr) : CanPort :=
  { c with tec := ((c.tec : Int) + e.dtec).toNat, recv := min 255 ((c.recv : Int) + e.drec).toNat }

/-- The transmit count has passed 255: bus-off. -/
def CanPort.toBusOff (c : CanPort) : CanPort := { c.failAll with st := .busOff, busOffs := satInc 255 c.busOffs }

/-- An error of a controller that offers a frame again: what its port becomes. -/
theorem canError_put (e : CanErr) (bus : ((s.pass g).canPort n).onBus = true) (again : (s.pass g).pb Pf.canCfg_DAR n = false) :
    ∃ t, exec (.canError g n e) s = .next t ∧ CanPut (s.pass g) t n
      (if 255 < (((s.pass g).canPort n).counted e).tec then (((s.pass g).canPort n).counted e).toBusOff else (((s.pass g).canPort n).counted e).confine) := by
  show ∃ t, execCanError g n e s = .next t ∧ _
  obtain ⟨a, counted⟩ : ∃ a, (s.pass g).wufBad n = { s.pass g with agr := a } := (s.pass g).wufStep_agr _
  unfold execCanError
  rw [counted]
  extract_lets u v c d x failed above was y w
  have kept : d = c := by
    unfold d
    split
    · exact if_neg (Bool.eq_false_iff.mp again)
    · rfl
  have after : x = ((s.pass g).canPort n).counted e := congrArg (fun p => CanPort.counted p e) kept
  rw [if_neg (by simp [show c.onBus = true from bus]), ← after]
  split
  · exact ⟨_, rfl, PutAt.set.keep (congrArg Nets.can State.netEvent_net)⟩
  · split
    · exact ⟨_, rfl, PutAt.set.keep (congrArg Nets.can State.netEvent_net)⟩
    · exact ⟨_, rfl, PutAt.set⟩

end

/-! ### The tunnel (10 R269) -/

section
variable {u : State} {n : Fin 8}

/-- A dropped record of the tunnel is counted. -/
theorem State.tunDrop_put : (u.tunDrop n).net.ntscf = u.net.ntscf ∧
    CanPut u (u.tunDrop n) n { u.canPort n with tunDrop := satInc 0x3FF (u.canPort n).tunDrop } := by
  unfold State.tunDrop
  extract_lets t
  obtain ⟨evs, net⟩ := t.netLimited_net (unit := n) (code := 6) (value := (t.canPort n).tunDrop)
  rw [CanPut, net]
  exact ⟨rfl, .set⟩

/-- The records of queue 0 are counted one by one, up to the top of the count. -/
theorem State.tunDrops_count (l : List RxRec) (low : (u.canPort n).tunDrop ≤ 0x3FF) :
    (l.foldl (fun s _ => s.tunDrop n) u).net.ntscf = u.net.ntscf ∧
    (l.foldl (fun s _ => s.tunDrop n) u).canPort n = { u.canPort n with tunDrop := min 0x3FF ((u.canPort n).tunDrop + l.length) } := by
  induction l generalizing u with
  | nil => exact ⟨rfl, by rw [List.length_nil, Nat.add_zero, Nat.min_eq_right low]; rfl⟩
  | cons r l ih =>
    obtain ⟨ntscf, put⟩ := u.tunDrop_put (n := n)
    have port : (u.tunDrop n).canPort n = { u.canPort n with tunDrop := satInc 0x3FF (u.canPort n).tunDrop } := put.own
    have stays : satInc 0x3FF (u.canPort n).tunDrop ≤ 0x3FF := by
      unfold satInc
      split <;> omega
    have sum : min 0x3FF (satInc 0x3FF (u.canPort n).tunDrop + l.length) = min 0x3FF ((u.canPort n).tunDrop + (l.length + 1)) := by
      unfold satInc
      split <;> omega
    obtain ⟨ntscf', counted⟩ := ih (u := u.tunDrop n) (by rw [port]; exact stays)
    refine ⟨ntscf'.trans ntscf, counted.trans ?_⟩
    rw [port]
    exact congrArg (fun k => { u.canPort n with tunDrop := k }) sum

/-- Queue 0 is emptied without sending. -/
theorem State.emptyTunnel_counts (low : (u.canPort n).tunDrop ≤ 0x3FF) : (u.emptyTunnel n).net.ntscf = u.net.ntscf ∧
    ((u.emptyTunnel n).canPort n).queues.toList.getD 0 [] = [] ∧
    ((u.emptyTunnel n).canPort n).tunDrop = min 0x3FF ((u.canPort n).tunDrop + ((u.canPort n).queues.toList.getD 0 []).length) := by
  unfold State.emptyTunnel
  extract_lets l t
  have port : t.canPort n = { u.canPort n with queues := (u.canPort n).queues.setIfInBounds 0 [] } := u.canPort_modCan_self n _
  obtain ⟨ntscf, counted⟩ := t.tunDrops_count (n := n) l (by rw [port]; exact low)
  rw [port] at counted
  rw [counted]
  exact ⟨ntscf, (getD_setIfInBounds ..).trans (if_pos ⟨rfl, by decide⟩), rfl⟩

end

/-- The oldest 10 records of queue 0 of CANn and of the tunnelled frames of LINn have left in one frame. -/
def State.flushed (s : State) (n : Nat) : State :=
  let c := (s.canPort n).queues.toList.getD 0 []
  let l := (s.linPort n).tun
  let t := (s.modCan n (fun p => { p with queues := p.queues.setIfInBounds 0 (c.drop 10) })).modLin n (fun p => { p with tun := l.drop (10 - c.length) })
  { t with net := { t.net with
    ntscf := s.net.ntscf ++ [(Config.peerMac (s.pf Pf.atlasUplinkPeer_PEER), ((c ++ l).take 10).map (fun r => ⟨n, r⟩))] } }

section
variable {s : State} {g : Lapse} {n : Fin 8} {f : CanFrame}

theorem exec_tunnelFlush_open (up : (s.pass g).uplinkOpen = true)
    (some' : ((s.pass g).canPort n).queues.toList.getD 0 [] ++ ((s.pass g).linPort n).tun ≠ []) :
    exec (.tunnelFlush g n) s = .next ((s.pass g).flushed n) := by
  refine congrArg Host.Outcome.next ((if_neg ?_).trans (if_neg ?_))
  · simp [up]
  · simpa using some'

theorem exec_tunnelFlush_closed (down : (s.pass g).uplinkOpen = false) :
    exec (.tunnelFlush g n) s = .next (((s.pass g).emptyTunnel n).modLin n (fun l => { l with tun := [] })) :=
  congrArg _ (if_pos (by simp [down]))

/-- A frame of the uplink peer that the port may send takes the lowest free buffer (R269, R271). -/
theorem State.canQueue_of_sendable {u : State} (runs : (u.canPort n).st ≠ .off) (formats : f.fmt ≤ u.pf Pf.canCfg_FORMATS n) (data : f.rtr = false)
    (fits : f.fmt < 2) (len : f.data.length ≤ 64) : u.canQueue n f =
      ((u.canPort n).freeRun 1).map (fun i => u.setCan n { u.canPort n with tx := (u.canPort n).tx ++ [⟨i, 1, u.now, f⟩] }) := by
  have one : bufsFor f = 1 := if_neg (by omega)
  unfold State.canQueue
  rw [one]
  refine if_neg ?_
  have long : f.data.length ≤ 2048 := by omega
  simp [runs, formats, data, len, long]

theorem exec_acfCanReceived {r : Option State} (on : (s.pass g).pd 5 = true) (fits : f.fmt < 2) (queued : (s.pass g).canQueue n f = r) :
    exec (.acfCanReceived g n f) s = .next (r.getD ((s.pass g).tunDrop n)) := by
  subst queued
  refine congrArg Host.Outcome.next ((if_neg ?_).trans ?_)
  · have xl : f.fmt ≠ 2 := by omega
    simp [on, xl]
  · cases (s.pass g).canQueue n f <;> rfl

end

section
variable {s : State} {g : Lapse} {n : Fin 8} {f : CanFrame} {i : Nat}

/-- A received frame enters the queue of the first element that takes it (R268, R273). -/
theorem canFrameReceived_queued {sof idEnd q : Nat} (idle : (s.pass g).pwr.entry = none) (bus : ((s.pass g).canPort n).onBus = true)
    (fmt : f.fmt ≤ (s.pass g).pf Pf.canCfg_FORMATS n) (len : f.data.length ≤ 2048) (accepts : (s.pass g).accepts n f sof idEnd = some q) (own : q ≠ 0)
    (granted : ((s.pass g).granteeOf 4 (4 * n.val + q)).isSome = true)
    (room : ((((s.pass g).canPort n).queues.toList.getD q []).map RxRec.size).foldl (· + ·) 0 + (RxRec.mk sof f.fmt f).size ≤ 8192) :
    ∃ t, exec (.canFrameReceived g n f ⟨sof, idEnd⟩) s = .next t ∧ CanPut (s.pass g) t n { ((s.pass g).canPort n).tookFrame (s.pass g).now with
      queues := ((s.pass g).canPort n).queues.setIfInBounds q (((s.pass g).canPort n).queues.toList.getD q [] ++ [⟨sof, f.fmt, f⟩]) } := by
  obtain ⟨a, run⟩ := exec_canFrameReceived idle bus fmt len accepts
  have put := (s.pass g).received_put n a
  have port : ((s.pass g).received n a).canPort n = ((s.pass g).canPort n).tookFrame (s.pass g).now := put.own
  have queued : CanPut ((s.pass g).received n a) _ n _ := State.queueRec_put (r := ⟨sof, f.fmt, f⟩) own granted (by rw [port]; exact room)
  rw [port] at queued
  exact ⟨_, run, put.trans queued⟩

/-- The port of a frame that has been sent, where delay compensation may have noted its sample point. -/
theorem canFrameSent_put {sof delay : Nat} (offered : ((s.pass g).canPort n).offered = some i) (own : i ≠ 32)
    (frame : ((s.pass g).canPort n).frameAt i = some f) (sends : (s.pass g).canSends n = true) :
    ∃ t x sat, exec (.canFrameSent g n sof delay) s = .next t ∧ CanPut (s.pass g) t n { (((s.pass g).canPort n).free i).goodTx with
      sent := ((s.pass g).canPort n).sent ++ [f], ssp := x, tdcSat := sat } := by
  let c : CanPort := { (((s.pass g).canPort n).free i).goodTx with sent := ((s.pass g).canPort n).sent ++ [f] }
  have put : CanPut (s.pass g) ((s.pass g).setCan n c) n c := .set
  have port : ((s.pass g).setCan n c).canPort n = c := put.own
  obtain ⟨x, sat, noted⟩ := ((s.pass g).setCan n c).tdc_put n f delay
  rw [port] at noted
  exact ⟨_, x, sat, exec_canFrameSent offered own frame sends, (put.trans noted).keep (congrArg Nets.can State.kaSentCan_net)⟩

theorem busOffRecovered_put (off : ((s.pass g).canPort n).st = .busOff) (auto : (s.pass g).pb Pf.canCfg_BOMANUAL n = false) :
    ∃ t, exec (.busOffRecovered g n) s = .next t ∧ CanPut (s.pass g) t n { (s.pass g).canPort n with st := .active, tec := 0, recv := 0 } :=
  ⟨_, congrArg Host.Outcome.next (if_pos (by simp [off, auto])), (State.canPut_modCan ..).keep (congrArg Nets.can State.netEvent_net)⟩

theorem exec_canIntegration (integrating : ((s.pass g).canPort n).st = .integrating) :
    exec (.canIntegration g n) s = .next ((s.pass g).setCan n ((s.pass g).canPort n).confine) := congrArg Host.Outcome.next (if_pos integrating)

end

/-- Settles O38: each command's end is read off the one port that it writes; a flush of a closed uplink counts its records one by one. -/
theorem canPorts : Obligations.CanPorts := by
  intro s g n u c others
  refine ⟨fun f sof idEnd idle bus fmt len => ?_, fun i f sof delay offered own frame sends => ?_, fun i offered sends => ⟨fun again => ?_, fun once own => ?_⟩,
    fun e bus again => ?_, fun off auto => ?_, fun integrating low low' => ?_, ⟨fun up some' => ?_, fun down low => ?_⟩,
    fun f on fits formats data len runs => ⟨fun i free => ?_, fun full => ?_⟩⟩
  · intro now el
    refine ⟨fun i q inside before takes accept queue own granted room => ?_, fun none' reject => ?_, fun i => State.elementFor_of_settled, State.nfiltFor_of_settled⟩
    · have accepted := (State.accepts_of_first inside before takes accept).trans (congrArg some queue)
      obtain ⟨t, run, put⟩ := canFrameReceived_queued idle bus fmt len accepted own granted room
      exact does_of_run run ⟨put.own, put.others⟩
    · obtain ⟨a, run⟩ := exec_canFrameReceived idle bus fmt len (State.accepts_of_none none' reject)
      have put := u.received_put n a
      exact does_of_run run ⟨put.own, put.others⟩
  · obtain ⟨t, x, sat, run, put⟩ := canFrameSent_put (delay := delay) (sof := sof) offered own frame sends
    have port : t.canPort n = _ := put.own
    rw [CanPort.free_of_ne own] at port
    refine does_of_run run ?_
    rw [port]
    exact ⟨rfl, rfl, rfl, rfl, put.others⟩
  · exact does_of_run (exec_canArbitrationLost offered sends) (if_neg (Bool.eq_false_iff.mp again))
  · refine does_of_run (exec_canArbitrationLost offered sends) ((if_pos once).trans ?_)
    rw [CanPort.fail, CanPort.free_of_ne own]
  · obtain ⟨t, run, put⟩ := canError_put e bus again
    have count : (c.counted e).tec = ((c.tec : Int) + e.dtec).toNat := rfl
    refine ⟨fun above => does_of_run run ?_, fun within => does_of_run run ?_⟩
    · rw [if_pos (by rw [count]; omega)] at put
      have port : t.canPort n = _ := put.own
      rw [port]
      exact ⟨rfl, rfl, rfl, rfl, rfl, put.others⟩
    · rw [if_neg (by rw [count]; omega)] at put
      have port : t.canPort n = _ := put.own
      rw [port]
      refine ⟨rfl, rfl, rfl, ?_, put.others⟩
      simp [CanPort.confine]
  · obtain ⟨t, run, put⟩ := busOffRecovered_put off auto
    exact does_of_run run ⟨put.own, put.others⟩
  · refine does_of_run (exec_canIntegration integrating) (congrArg (u.setCan n) ?_)
    have st : (if 127 < c.tec || 127 < c.recv then CanSt.passive else .active) = .active := if_neg (by simp [low, low'])
    exact congrArg (fun st => { c with st := st }) st
  · have put : CanPut u (u.flushed n) n _ := .set
    have lin : LinPut u (u.flushed n) n _ := .set
    have port : (u.flushed n).canPort n = _ := put.own
    refine does_of_run (exec_tunnelFlush_open up some') ⟨rfl, ?_, congrArg LinPort.tun lin.own, put.others⟩
    rw [port]
    exact (getD_setIfInBounds ..).trans (if_pos ⟨rfl, by decide⟩)
  · obtain ⟨ntscf, emptied, counted⟩ := State.emptyTunnel_counts low
    exact does_of_run (exec_tunnelFlush_closed down) ⟨ntscf, emptied, congrArg LinPort.tun (State.linPort_modLin_self ..), counted⟩
  · have queued := State.canQueue_of_sendable runs formats data fits len
    exact does_of_run (exec_acfCanReceived on fits (queued.trans (congrArg _ free))) rfl
  · have refused : u.canQueue n f = none := (State.canQueue_of_sendable runs formats data fits len).trans (congrArg _ full)
    refine does_of_run (exec_acfCanReceived on fits refused) ?_
    obtain ⟨-, put⟩ := u.tunDrop_put (n := n)
    have port : (u.tunDrop n).canPort n = _ := put.own
    exact ⟨congrArg CanPort.tunDrop port, (congrArg CanPort.tx port :)⟩

end Sys2Proof.Machine
end

section
/-!
PROOFS. The rings of the application cores (14 R383 to R385): what Atlas writes at HEAD of a receive ring, and what an entry at TAIL of a
transmit ring does; then O39.
-/
namespace Sys2Proof.Machine

/-! ### The receive ring (14 R384) -/

section
variable {s : State} {g : Lapse} {a : Fin 4} {base size head tail : Nat} {e : List Byte}

theorem State.bytesAt_of_mem {t : State} (same : t.mem = s.mem) (x n : Nat) : t.bytesAt x n = s.bytesAt x n := by
  simp only [State.bytesAt, State.byteAt_of_mem same]

/-- A record leaves its queue, and no memory with it. -/
theorem State.takeRec_mem (r : RingRec) : (s.takeRec r).mem = s.mem := by
  unfold State.takeRec
  split <;> rfl

/-- The bytes in use of a ring (14 R384). -/
def ringUsed (size head tail : Nat) : Nat := (head + (size - 16) - tail) % (size - 16)

section
variable (head' : s.bytesAt base 4 = head) (tail' : s.bytesAt (base + 4) 4 = tail) (pos : ringPos size head = true)
include head' tail' pos

/-- An entry that fits before the end, and leaves HEAD short of TAIL, is written at HEAD. -/
theorem State.ringWrite_fits (fits : e.length ≤ size - head) (room : ringUsed size head tail + e.length < size - 16) : s.ringWrite a base size e =
    ((((s.loadBytes (base + head) e).memWrite 0 base 4 (if head + e.length = size then 16 else head + e.length)).1).raiseEv (1 + a) 1) := by
  subst head' tail'
  unfold State.ringWrite
  extract_lets head tail cap used gap t place w next
  have none' : gap = 0 := if_neg (not_lt.mpr fits)
  have room' : used + gap + e.length < cap := by rwa [none']
  have unpadded : t = s := if_pos none'
  have here : place = head := if_pos none'
  rw [if_neg (by simp [head, pos, room'])]
  show (((t.loadBytes (base + place) e).memWrite 0 base 4 (if place + e.length = size then 16 else place + e.length)).1).raiseEv (1 + a) 1 = _
  rw [unpadded, here]

/-- One that does not fit before the end is written at the front, behind a pad. -/
theorem State.ringWrite_padded (short : size - head < e.length) (room : ringUsed size head tail + (size - head) + e.length < size - 16) :
    s.ringWrite a base size e = ((((s.loadBytes (base + head) (padEntry (size - head))).loadBytes (base + 16) e).memWrite 0 base 4
      (if 16 + e.length = size then 16 else 16 + e.length)).1).raiseEv (1 + a) 1 := by
  subst head' tail'
  unfold State.ringWrite
  extract_lets head tail cap used gap t place w next
  have whole : gap = size - head := if_pos short
  have some' : gap ≠ 0 := by
    have inside : head < size := (by simpa [ringPos] using pos : (16 ≤ head ∧ head < size) ∧ _).1.2
    omega
  have room' : used + gap + e.length < cap := by rwa [whole]
  have padded : t = s.loadBytes (base + head) (padEntry gap) := if_neg some'
  have front : place = 16 := if_neg some'
  rw [if_neg (by simp [head, pos, room'])]
  show (((t.loadBytes (base + place) e).memWrite 0 base 4 (if place + e.length = size then 16 else place + e.length)).1).raiseEv (1 + a) 1 = _
  rw [padded, front, whole]

/-- One with which HEAD would come up to TAIL is counted in DROPS. -/
theorem State.ringWrite_full (full : size - 16 ≤ ringUsed size head tail + e.length) : s.ringWrite a base size e =
    (s.memWrite 0 (base + 8) 4 (satInc 0xFFFFFFFF (s.bytesAt (base + 8) 4))).1 := by
  subst head' tail'
  unfold State.ringWrite
  extract_lets head tail cap used gap
  refine if_pos ?_
  have above : cap ≤ used + gap + e.length := by
    have : cap ≤ used + e.length := full
    omega
  simp [above]

end

theorem exec_ringDeliver {r : RingRec} (oldest : oldestRec ((s.pass g).ringHeads a) = some r) (run : (s.pass g).pb Pf.appCfg_RUN a = true)
    (on : (s.pass g).pd 2 = true) (some' : (s.pass g).pf Pf.appRing_RXSIZE a ≠ 0) : exec (.ringDeliver g a) s =
      .next (((s.pass g).takeRec r).ringWrite a (ownBase (1 + a) + (s.pass g).pf Pf.appRing_RXBASE a) ((s.pass g).pf Pf.appRing_RXSIZE a)
        (ringEntry r.src r.queue r.body)) := by
  show execRingDeliver g a s = _
  simp only [execRingDeliver, oldest, run, on, some', decide_false, Bool.not_true, Bool.or_self, Bool.false_eq_true, if_false]

/-! ### The transmit ring (14 R385) -/

section
variable {u : State} {src : Nat} {body : List Byte} {f : CanFrame}

/-- A CAN frame that the core may send takes a transmit buffer. -/
theorem State.txEntry_can {w : State} (frame : frameOf body = f) (can : src < 8) (may : u.mayCan a src = true) (fmt : f.fmt ≤ 2) (whole : f.data.length = f.dlc)
    (queued : u.canQueue src f = some w) : u.txEntry a src body = w := by
  subst frame
  simp only [State.txEntry, can, may, whole, queued, not_lt.mpr fmt, if_true, ne_eq, not_true, decide_false, Bool.not_true, Bool.or_self, Bool.false_eq_true,
    if_false]

/-- A CAN frame that it may not send is skipped and counted. -/
theorem State.txEntry_denied (can : src < 8) (denied : u.mayCan a src = false) : u.txEntry a src body = u.txDrop a := by
  simp only [State.txEntry, can, denied, if_true, Bool.not_false, Bool.true_or]

/-- A LIN record of a frame that the port publishes replaces its data. -/
theorem State.txEntry_lin (frame : frameOf body = f) (lin : 8 ≤ src) (port : src < 16) (granted : u.granted a 5 (src - 8) = true) (fmt : f.fmt = 3)
    (id : f.id ≤ 63) (whole : f.data.length = f.dlc) (on : u.pd 6 = true) (pub : u.pb Pf.linFrame_PUB (src - 8) f.id = true) :
    u.txEntry a src body = u.linPublish (src - 8) f.id f.data := by
  subst frame
  simp only [State.txEntry, not_lt.mpr lin, port, granted, fmt, not_lt.mpr id, whole, on, pub, if_true, if_false, ne_eq, not_true, decide_false,
    Bool.not_true, Bool.or_self, Bool.and_self, Bool.false_eq_true]

end

/-- An entry of a length that entries have acts, and TAIL moves past it. -/
theorem exec_txRingConsume {len src : Nat} (some' : size ≠ 0) (txSize : (s.pass g).pf Pf.appRing_TXSIZE a = size)
    (txBase : ownBase (1 + a) + (s.pass g).pf Pf.appRing_TXBASE a = base) (run : (s.pass g).pb Pf.appCfg_RUN a = true) (on : (s.pass g).pd 2 = true)
    (head' : (s.pass g).bytesAt base 4 = head) (tail' : (s.pass g).bytesAt (base + 4) 4 = tail) (len' : (s.pass g).bytesAt (base + tail + 2) 2 = len)
    (src' : (s.pass g).bytesAt (base + tail) 1 = src) (waits : head ≠ tail) (headPos : ringPos size head = true) (tailPos : ringPos size tail = true)
    (step : len % 32 = 0) (min' : 32 ≤ len) (fits : len ≤ size - tail) (entry : src ≠ 0xFF) : exec (.txRingConsume g a) s =
      .next (((s.pass g).txEntry a src ((List.range (len - 8)).map (fun i => (s.pass g).byteAt (base + tail + 8 + i)))).memWrite 0 (base + 4) 4
        (if tail + len = size then 16 else tail + len)).1 := by
  show execTxRingConsume g a s = _
  subst txSize txBase head' tail' len' src'
  simp only [execTxRingConsume, some', run, on, waits, headPos, tailPos, step, min', fits, entry, decide_false, decide_true, Bool.not_true, Bool.or_self,
    Bool.and_self, Bool.false_and, Bool.false_eq_true, if_false, if_true]

end

/-- Settles O39: a record is delivered where its entry fits, behind a pad or not at all; an entry of the transmit ring acts by its port. -/
theorem appletRings : Obligations.AppletRings := by
  intro s g a u
  refine ⟨fun r oldest run on => ?_, ?_⟩
  · intro size base head tail e used some' pos
    have bytes (x n : Nat) : (u.takeRec r).bytesAt x n = u.bytesAt x n := State.bytesAt_of_mem (u.takeRec_mem r) x n
    have head' : (u.takeRec r).bytesAt base 4 = head := bytes ..
    have tail' : (u.takeRec r).bytesAt (base + 4) 4 = tail := bytes ..
    have delivered := exec_ringDeliver oldest run on some'
    refine ⟨fun fits room => ?_, fun short room => ?_, fun full => ?_⟩
    · exact does_of_run delivered (State.ringWrite_fits head' tail' pos fits room)
    · exact does_of_run delivered (State.ringWrite_padded head' tail' pos short room)
    · refine does_of_run delivered ((State.ringWrite_full head' tail' pos full).trans ?_)
      rw [bytes]
  · intro size base head tail len n f next some' run on waits headPos tailPos step min' fits
    have consumed := fun entry => exec_txRingConsume some' rfl rfl run on rfl rfl rfl rfl waits headPos tailPos step min' fits entry
    refine ⟨fun w queued can may fmt whole => ?_, fun lin port granted fmt id whole on' pub => ?_, fun can denied => ?_⟩
    · refine does_of_run (consumed (show n ≠ 0xFF by omega)) ?_
      rw [State.txEntry_can rfl can may fmt whole queued]
    · refine does_of_run (consumed (show n ≠ 0xFF by omega)) ?_
      rw [State.txEntry_lin rfl lin port granted fmt id whole on' pub]
    · refine does_of_run (consumed (show n ≠ 0xFF by omega)) ?_
      rw [State.txEntry_denied can denied]
      rfl

end Sys2Proof.Machine
end

section
/-!
PROOFS. LIN ports (10 R278 to R281, R289, 11 R299): slots of a commander, headers of a responder, received frames and published data; then O40.
-/
namespace Sys2Proof.Machine

/-! ### Data and its bytes (10 R280) -/

/-- Bytes are read back from their value. -/
theorem leBytes_leVal (bs : List Byte) : leBytes bs.length (leVal bs) = bs := by
  induction bs with
  | nil => rfl
  | cons b bs ih =>
    have low : BitVec.ofNat 8 (leVal (b :: bs)) = b := by simpa using ofNat_leVal_div (bs := b :: bs) (j := 0) rfl
    have high : leVal (b :: bs) / 256 = leVal bs := by
      have := b.isLt
      simp only [leVal]
      omega
    rw [List.length_cons, leBytes, low, high, ih]

section
variable {s t : State} {n : Fin 8} {id : Nat}

/-- Without `response_error`, the data that a port sends is what was last published, filled up with zeros. -/
theorem State.linData_published (plain : s.pb Pf.linFrame_RERREN n id = false) (len : s.linLen n id ≤ 8) :
    s.linData n id = (((kvGet id (s.linPort n).pub).getD []) ++ List.replicate 8 0).take (s.linLen n id) := by
  let d := (((kvGet id (s.linPort n).pub).getD []) ++ List.replicate 8 0).take (s.linLen n id)
  have whole : d.length = s.linLen n id := by
    simp only [d, List.length_take, List.length_append, List.length_replicate]
    omega
  have bytes : leBytes (s.linLen n id) (leVal d) = d := whole ▸ leBytes_leVal d
  unfold State.linData
  extract_lets l len d' v
  rw [plain, if_neg Bool.false_ne_true]
  exact bytes

/-- What a port sends is read from the parameters, the published data and the response errors. -/
theorem State.linData_congr (par : t.par = s.par) (pub : (t.linPort n).pub = (s.linPort n).pub) (rerr : (t.linPort n).rerr = (s.linPort n).rerr) :
    t.linData n id = s.linData n id := by
  unfold State.linData State.linLen
  simp only [State.pf_of_par par, State.pb_of_par par, pub, rerr]

/-! ### Headers (10 R278, R280) -/

/-- The response that a port sends: its data and their checksum. -/
def State.linResponse (s : State) (n id : Nat) : List Byte :=
  s.linData n id ++ [BitVec.ofNat 8 (linSum (s.linClassic n id) id (s.linData n id))]

/-- The response of an identifier has been sent. -/
def LinPort.responded (l : LinPort) (id : Nat) (bs : List Byte) : LinPort :=
  { l with sent := l.sent ++ [(id, bs)], fresh := l.fresh.filter (fun i => i ≠ id), rerr := l.rerr.filter (fun i => i ≠ id), hdr := none }

theorem State.linResponse_congr (par : t.par = s.par) (pub : (t.linPort n).pub = (s.linPort n).pub) (rerr : (t.linPort n).rerr = (s.linPort n).rerr) :
    t.linResponse n id = s.linResponse n id := by
  simp only [State.linResponse, State.linClassic, State.linData_congr par pub rerr, State.pb_of_par par]

/-- Two changes of one port are one. -/
theorem State.modLin_modLin (f k : LinPort → LinPort) : (s.modLin n f).modLin n k = s.modLin n (fun l => k (f l)) := by
  have own : (s.modLin n f).linPort n = f (s.linPort n) := State.linPort_modLin_self n f
  show (s.modLin n f).setLin n (k ((s.modLin n f).linPort n)) = _
  rw [own]
  simp only [State.modLin, State.setLin, Vector.setIfInBounds_setIfInBounds]

variable {entry : Option Nat}

/-- A header that asks for no answer of Atlas: the port responds where it publishes the frame, and else waits for the response. -/
theorem State.linHeader_of_plain (plain : id ≠ 61 ∨ entry.isSome = true ∨ (s.linPort n).answer = none) (en : s.pb Pf.linFrame_EN n id = true) :
    s.linHeader n id entry = s.modLin n (fun l =>
      if s.pb Pf.linFrame_PUB n id then l.responded id (s.linResponse n id) else { l with hdr := some ⟨id, s.now, entry⟩ }) := by
  unfold State.linHeader
  extract_lets t
  have port : t.linPort n = { s.linPort n with hdr := none } := State.linPort_modLin_self ..
  have unasked : ¬ (id = 61 && entry.isNone && (t.linPort n).answer.isSome) = true := by
    rw [port]
    obtain other | scheduled | none' := plain
    · simp [other]
    · simp [Option.isNone_eq_false_iff.mpr scheduled]
    · simp [none']
  have en' : t.pb Pf.linFrame_EN n id = true := en
  have pub : t.pb Pf.linFrame_PUB n id = s.pb Pf.linFrame_PUB n id := rfl
  rw [if_neg unasked, en', pub]
  cases s.pb Pf.linFrame_PUB n id
  · rw [Bool.and_false, if_neg Bool.false_ne_true, if_pos rfl]
    exact State.modLin_modLin ..
  · have same : t.linResponse n id = s.linResponse n id := State.linResponse_congr rfl (by rw [port]) (by rw [port])
    have sent : t.linRespond n id = t.modLin n (fun l => l.responded id (t.linResponse n id)) := rfl
    rw [Bool.and_self, if_pos rfl, sent, same]
    exact State.modLin_modLin ..

/-- A responder that has heard the header of a frame that it has enabled responds to it or waits for the response. -/
theorem State.linHeader_heard (plain : id ≠ 61 ∨ (s.linPort n).answer = none) (en : s.pb Pf.linFrame_EN n id = true) :
    (s.modLin n (fun l => l.active s.now)).linHeader n id none = s.modLin n (fun l =>
      if s.pb Pf.linFrame_PUB n id then (l.active s.now).responded id (s.linResponse n id) else { l.active s.now with hdr := some ⟨id, s.now, none⟩ }) := by
  let t := s.modLin n (fun l => l.active s.now)
  have port : t.linPort n = (s.linPort n).active s.now := State.linPort_modLin_self ..
  have same : t.linResponse n id = s.linResponse n id := State.linResponse_congr rfl (by rw [port]; rfl) (by rw [port]; rfl)
  have heard : t.linHeader n id none = _ := State.linHeader_of_plain (plain.imp_right fun none' => .inr (by rw [port]; exact none')) en
  rw [same] at heard
  exact heard.trans (State.modLin_modLin ..)

/-- A commander sends the header of a frame that it has enabled, and responds to it or waits for the response. -/
theorem State.linSendHeader_eq (e : Nat) (en : s.pb Pf.linFrame_EN n id = true) : s.linSendHeader n id e = s.modLin n (fun l =>
    if s.pb Pf.linFrame_PUB n id then { l with heads := l.heads ++ [(id, 13 + s.pf Pf.linCfg_BREAK n)] }.responded id (s.linResponse n id)
    else { l with heads := l.heads ++ [(id, 13 + s.pf Pf.linCfg_BREAK n)], hdr := some ⟨id, s.now, some e⟩ }) := by
  let t := s.modLin n (fun l => { l with heads := l.heads ++ [(id, 13 + s.pf Pf.linCfg_BREAK n)] })
  have port : t.linPort n = { s.linPort n with heads := (s.linPort n).heads ++ [(id, 13 + s.pf Pf.linCfg_BREAK n)] } := State.linPort_modLin_self ..
  have same : t.linResponse n id = s.linResponse n id := State.linResponse_congr rfl (by rw [port]) (by rw [port])
  have sent : t.linHeader n id (some e) = _ := State.linHeader_of_plain (.inr (.inl rfl)) en
  rw [same] at sent
  exact sent.trans (State.modLin_modLin ..)

/-- The answer to a configuration request goes out on identifier 61 (R280). -/
theorem State.linHeader_asked {a : List Byte} (asked : (s.linPort n).answer = some a) :
    (s.modLin n (fun l => l.active s.now)).linHeader n 61 none = s.modLin n (fun l => { l.active s.now with
      sent := l.sent ++ [(61, Config.linAnswer a ++ [BitVec.ofNat 8 (linSum true 61 (Config.linAnswer a))])], answer := none, hdr := none }) := by
  unfold State.linHeader
  rw [State.modLin_modLin]
  extract_lets t
  have port : t.linPort n = { (s.linPort n).active s.now with hdr := none } := State.linPort_modLin_self ..
  have answer : (t.linPort n).answer = some a := by
    rw [port]
    exact asked
  rw [if_pos (by simp [answer]), answer]
  exact State.modLin_modLin (fun l => { l.active s.now with hdr := none }) (fun l => { l with
    sent := l.sent ++ [(61, Config.linAnswer a ++ [BitVec.ofNat 8 (linSum true 61 (Config.linAnswer a))])], answer := none })

end

/-! ### Slots of a commander (10 R278, R279) -/

section
variable {s : State} {g : Lapse} {n : Fin 8}

/-- The record of a commander whose next slot starts, no collision being resolved, in a schedule of `cnt` entries. -/
def LinPort.nextSlot (l : LinPort) (now cnt delay : Nat) : LinPort :=
  { l.active now with slot := l.pos, pos := if l.pos + 1 < cnt then l.pos + 1 else 0, coll := none, next := now + msTk delay }

/-- The slot of the schedule's next entry has started. -/
def State.slotStarted (s : State) (n : Nat) : State :=
  s.modLin n (fun l => l.nextSlot s.now (s.pf Pf.linCfg_NSCHED n) (s.pf Pf.linSched_DELAY n l.pos))

/-- The slot of an entry with no collision to resolve, by its type; an event-triggered or sporadic entry apart. -/
theorem exec_linSlotStart (up : (s.pass g).linUp n = true) (run : ((s.pass g).linPort n).run = true) (some' : (s.pass g).pf Pf.linCfg_NSCHED n ≠ 0)
    (due : ((s.pass g).linPort n).next = (s.pass g).now) (calm : ((s.pass g).linPort n).coll = none)
    (type : (s.pass g).pf Pf.linSched_TYPE n ((s.pass g).linPort n).pos ≠ 2) : exec (.linSlotStart g n) s =
      .next (if (s.pass g).pf Pf.linSched_TYPE n ((s.pass g).linPort n).pos = 3 then ((s.pass g).slotStarted n).modLin n (fun l => { l with hdr := none })
        else ((s.pass g).slotStarted n).linSendHeader n ((s.pass g).pf Pf.linSched_ID n ((s.pass g).linPort n).pos) ((s.pass g).linPort n).pos) := by
  show execLinSlotStart g n s = _
  simp only [execLinSlotStart, calm, Bool.false_eq_true, if_false]
  refine congrArg Host.Outcome.next ((if_neg (by simp [up, run, some', due])).trans ?_)
  show (if (s.pass g).pf Pf.linSched_TYPE n ((s.pass g).linPort n).pos = 3 then ((s.pass g).slotStarted n).modLin n _
    else if (s.pass g).pf Pf.linSched_TYPE n ((s.pass g).linPort n).pos = 2 then _ else _) = _
  rw [if_neg type]
  rfl

theorem exec_linSlotStart_frame (up : (s.pass g).linUp n = true) (run : ((s.pass g).linPort n).run = true) (some' : (s.pass g).pf Pf.linCfg_NSCHED n ≠ 0)
    (due : ((s.pass g).linPort n).next = (s.pass g).now) (calm : ((s.pass g).linPort n).coll = none)
    (type : (s.pass g).pf Pf.linSched_TYPE n ((s.pass g).linPort n).pos = 0) : exec (.linSlotStart g n) s =
      .next (((s.pass g).slotStarted n).linSendHeader n ((s.pass g).pf Pf.linSched_ID n ((s.pass g).linPort n).pos) ((s.pass g).linPort n).pos) :=
  (exec_linSlotStart up run some' due calm (by rw [type]; decide)).trans (congrArg _ (if_neg (by rw [type]; decide)))

/-- The slot of an entry for one frame sends its header. -/
theorem State.slotStarted_send {id : Nat} (e : Nat) (en : (s.pb Pf.linFrame_EN n id) = true) :
    LinPut s ((s.slotStarted n).linSendHeader n id e) n (
      let l := (s.linPort n).nextSlot s.now (s.pf Pf.linCfg_NSCHED n) (s.pf Pf.linSched_DELAY n (s.linPort n).pos)
      let heads := l.heads ++ [(id, 13 + s.pf Pf.linCfg_BREAK n)]
      if s.pb Pf.linFrame_PUB n id then { l with heads := heads }.responded id (s.linResponse n id)
      else { l with heads := heads, hdr := some ⟨id, s.now, some e⟩ }) := by
  have started : LinPut s (s.slotStarted n) n _ := .set
  have port : (s.slotStarted n).linPort n = _ := started.own
  have same : (s.slotStarted n).linResponse n id = s.linResponse n id := State.linResponse_congr rfl (by rw [port]; rfl) (by rw [port]; rfl)
  have en' : (s.slotStarted n).pb Pf.linFrame_EN n id = true := en
  have sent : LinPut (s.slotStarted n) ((s.slotStarted n).linSendHeader n id e) n _ := State.linSendHeader_eq e en' ▸ State.linPut_modLin ..
  rw [same, port] at sent
  exact started.trans sent

/-- The slot of a reserved entry sends none. -/
theorem State.slotStarted_empty : LinPut s ((s.slotStarted n).modLin n (fun l => { l with hdr := none })) n
    { (s.linPort n).nextSlot s.now (s.pf Pf.linCfg_NSCHED n) (s.pf Pf.linSched_DELAY n (s.linPort n).pos) with hdr := none } := by
  rw [State.slotStarted, State.modLin_modLin]
  exact .set

/-! ### Responses that do not come, and headers of a responder (10 R278, R280) -/

/-- An entry for one frame is no event-triggered one. -/
theorem State.linEvent_of_plain {h : LinHdr} {e : Nat} (entry : h.entry = some e) (type : s.pf Pf.linSched_TYPE n e = 0) : s.linEvent n h = none := by
  simp [State.linEvent, entry, type]

theorem linNoResponse_put {h : LinHdr} {e : Nat} (hdr : ((s.pass g).linPort n).hdr = some h) (entry : h.entry = some e)
    (type : (s.pass g).pf Pf.linSched_TYPE n e = 0)
    (late : h.start + linLongest ((s.pass g).pf Pf.linCfg_BAUD n) ((s.pass g).linLen n h.id) ≤ (s.pass g).now) :
    ∃ t, exec (.linNoResponse g n) s = .next t ∧
      LinPut (s.pass g) t n { (s.pass g).linPort n with hdr := none, noResp := satInc 0xFFFF ((s.pass g).linPort n).noResp } := by
  have plain := State.linEvent_of_plain (s := s.pass g) (n := n) entry type
  let t := (s.pass g).modLin n (fun l => { l with hdr := none, noResp := satInc 0xFFFF l.noResp })
  have run : exec (.linNoResponse g n) s = .next (t.netLimited (8 + n) 0x10 h.id) := by
    show execLinNoResponse g n s = _
    simp only [execLinNoResponse, hdr, plain, entry, State.expired, late, decide_true, Bool.not_true, Option.isNone_some, Option.isSome_none, Bool.or_self,
      Bool.false_eq_true, if_false, State.modLin_modLin]
    rfl
  have counted : LinPut (s.pass g) t n _ := .set
  exact ⟨_, run, counted.keep State.netLimited_lin⟩

section
variable {id : Fin 64} {brk rate : Nat} (up : (s.pass g).linUp n = true) (role : (s.pass g).pb Pf.linCfg_ROLE n = false)
include up role

theorem exec_linHeaderReceived_far (long : 11 ≤ brk) (far : ¬ ((s.pass g).pf Pf.linCfg_BAUD n * 86 ≤ rate * 100 ∧ rate * 100 ≤ (s.pass g).pf Pf.linCfg_BAUD n * 114)) :
    exec (.linHeaderReceived g n id ⟨brk, rate⟩) s = .next ((s.pass g).setLin n { ((s.pass g).linPort n).active (s.pass g).now with
      bitErr := satInc 0xFFFF ((s.pass g).linPort n).bitErr }) := by
  refine congrArg Host.Outcome.next ((if_neg (by simp [up, role, long])).trans ((if_pos ?_).trans (State.modLin_modLin ..)))
  simp
  omega

theorem exec_linHeaderReceived_near (long : 11 ≤ brk) (near : (s.pass g).pf Pf.linCfg_BAUD n * 86 ≤ rate * 100 ∧ rate * 100 ≤ (s.pass g).pf Pf.linCfg_BAUD n * 114) :
    exec (.linHeaderReceived g n id ⟨brk, rate⟩) s = .next (((s.pass g).modLin n (fun l => l.active (s.pass g).now)).linHeader n id none) := by
  refine congrArg Host.Outcome.next ((if_neg (by simp [up, role, long])).trans (if_neg ?_))
  simp
  omega

end

/-! ### Received frames (10 R279 to R281) -/

/-- The response of a frame has come to the port: it waits for none. -/
def State.linArrived (s : State) (n : Nat) : State := s.modLin n (fun l => { l.active s.now with hdr := none })

/-- It was no good. -/
def State.linRejected (s : State) (n id : Nat) : State :=
  (((s.linArrived n).modLin n (fun l => { l with chkErr := satInc 0xFFFF l.chkErr })).linRespErr n).netLimited (8 + n) 0x11 id

/-- The response of an entry for one frame is delivered, or counts as a response error. -/
theorem exec_linFrameReceived {h : LinHdr} {e : Nat} {f : LinFrame} (hdr : ((s.pass g).linPort n).hdr = some h) (entry : h.entry = some e)
    (type : (s.pass g).pf Pf.linSched_TYPE n e = 0) (up : (s.pass g).linUp n = true) (role : (s.pass g).pb Pf.linCfg_ROLE n = true) (own : h.id = f.id.val)
    (inTime : (s.pass g).now ≤ h.start + linLongest ((s.pass g).pf Pf.linCfg_BAUD n) ((s.pass g).linLen n h.id)) : exec (.linFrameReceived g n f) s =
      .next (if (s.pass g).linGood n f then ((s.pass g).linArrived n).linDeliver n h.id f.sof f.data
        else (s.pass g).linRejected n h.id) := by
  have plain := State.linEvent_of_plain (s := s.pass g) (n := n) entry type
  have role' : ((s.pass g).linArrived n).pb Pf.linCfg_ROLE n = true := role
  show execLinFrameReceived g n f s = _
  simp only [execLinFrameReceived, hdr]
  refine congrArg Host.Outcome.next ((if_neg (by simp [up, own, own ▸ inTime])).trans ?_)
  simp only [plain]
  show (if (s.pass g).linGood n f then (if (!((s.pass g).linArrived n).pb Pf.linCfg_ROLE n && isLinConfig h.id f.data) then _ else _) else _) = _
  rw [role', Bool.not_true, Bool.false_and, if_neg Bool.false_ne_true]
  rfl

/-- A tunnelled frame joins those that wait for the uplink. -/
theorem State.linDeliver_tunnel {id sof : Nat} {d : List Byte} (tunnel : s.pb Pf.linFrame_TUNNEL n id = true) (up : s.uplinkOpen = true) :
    s.linDeliver n id sof d = s.modLin n (fun l => { l with tun := l.tun ++ [linRec id sof d] }) := by
  unfold State.linDeliver
  rw [if_pos tunnel, if_pos up]

/-- Another goes to the ring of the core that is granted the port. -/
theorem State.linDeliver_ring {id sof : Nat} {d : List Byte} (local' : s.pb Pf.linFrame_TUNNEL n id = false) (granted : (s.granteeOf 5 n).isSome = true) :
    s.linDeliver n id sof d = { s with net := { s.net with linq := s.net.linq.setIfInBounds n (s.net.linq.toList.getD n [] ++ [linRec id sof d]) } } := by
  unfold State.linDeliver
  rw [if_neg (Bool.eq_false_iff.mp local'), if_pos granted]

/-- Every frame that carries `response_error` is marked. -/
theorem State.linRespErr_put : ∃ r, LinPut s (s.linRespErr n) n { s.linPort n with rerr := r } ∧
    ∀ i, i < 64 → s.pb Pf.linFrame_RERREN n i = true → i ∈ r := by
  refine ⟨_, .set, fun i lt carries => ?_⟩
  by_cases marked : i ∈ (s.linPort n).rerr
  · exact List.mem_append_left _ marked
  · exact List.mem_append_right _ (by simp [marked, lt, carries])

/-- A response that is no good is counted and marks the response error, and reaches no ring. -/
theorem State.linRejected_put {id : Nat} : (s.linRejected n id).net.linq = s.net.linq ∧
    ∃ r, LinPut s (s.linRejected n id) n { (s.linPort n).active s.now with hdr := none, chkErr := satInc 0xFFFF (s.linPort n).chkErr, rerr := r } ∧
    ∀ i, i < 64 → s.pb Pf.linFrame_RERREN n i = true → i ∈ r := by
  let v := (s.linArrived n).modLin n (fun l => { l with chkErr := satInc 0xFFFF l.chkErr })
  have counted : LinPut s v n { (s.linPort n).active s.now with hdr := none, chkErr := satInc 0xFFFF (s.linPort n).chkErr } := by
    rw [show v = _ from State.modLin_modLin ..]
    exact .set
  have port : v.linPort n = _ := counted.own
  obtain ⟨r, put, marks⟩ := v.linRespErr_put (n := n)
  rw [port] at put
  exact ⟨State.netLimited_linq, r, (counted.trans put).keep State.netLimited_lin, marks⟩

/-! ### Published data, restarts and the idle bus (10 R281, R289, 11 R299) -/

theorem exec_linPublishWrite {id : Fin 64} {data : List Byte} {up : Bool} (on : (s.pass g).pd 6 = true) (pub : (s.pass g).pb Pf.linFrame_PUB n id = true)
    (may : up = false ∨ ((s.pass g).pd 5 = true ∧ (s.pass g).pb Pf.linFrame_TUNNEL n id = true)) :
    exec (.linPublishWrite g n id ⟨data, up⟩) s = .next ((s.pass g).linPublish n id data) :=
  congrArg Host.Outcome.next (if_pos (by simp [on, pub, may]))

/-- An identifier whose data was written counts as written since it was last sent. -/
theorem State.linPublish_fresh (id : Nat) (data : List Byte) : id ∈ ((s.linPublish n id data).linPort n).fresh := by
  rw [State.linPublish, State.linPort_modLin_self]
  by_cases fresh : id ∈ (s.linPort n).fresh <;> simp [fresh]

theorem exec_linWakeupRestart {k : Nat} (restart : ((s.pass g).linPort n).restart = some k) (due : k ≤ (s.pass g).now) (commander : (s.pass g).linCommander n = true) :
    exec (.linWakeupRestart g n) s = .next ((s.pass g).setLin n { ((s.pass g).linPort n).active (s.pass g).now with
      run := true, pos := 0, coll := none, hdr := none, restart := none, next := (s.pass g).now }) := by
  show execLinWakeupRestart g n s = _
  simp only [execLinWakeupRestart, restart, due, commander, decide_true, Bool.and_self, if_true]
  rfl

theorem exec_linBusIdle (up : (s.pass g).linUp n = true) (quiet : ((s.pass g).linPort n).lastAct + 800000000 ≤ (s.pass g).now) :
    exec (.linBusIdle g n) s = .next ((s.pass g).setLin n { (s.pass g).linPort n with idle := true }) :=
  congrArg Host.Outcome.next (if_pos (by simp [up, State.expired, quiet]))

end

/-- Settles O40: each command's end is read off the one port that it writes; published bytes are read back from their value. -/
theorem linPorts : Obligations.LinPorts := by
  intro s g n u l cnt sid slot heads others
  refine ⟨fun up run some' due calm => ⟨fun type en pub plain len => ?_, fun type en sub => ?_, fun type => ?_⟩, fun h e hdr entry type late => ?_,
    fun id brk rate up role => ?_, fun h e f hdr entry type up role own inTime => ⟨fun good tunnel open' => ?_, fun good local' granted => ?_, fun bad => ?_⟩,
    fun id data up on pub may => ?_, fun k restart due commander => ?_, fun up quiet => ?_⟩
  · have sent := State.slotStarted_send (s := u) l.pos en
    rw [if_pos pub] at sent
    have port : ((u.slotStarted n).linSendHeader n sid l.pos).linPort n = _ := sent.own
    refine does_of_run (exec_linSlotStart_frame up run some' due calm type) ?_
    rw [port]
    refine ⟨⟨rfl, rfl, rfl⟩, sent.others, rfl, ?_⟩
    show l.sent ++ [(sid, u.linResponse n sid)] = _
    rw [State.linResponse, State.linData_published plain len]
  · have sent := State.slotStarted_send (s := u) l.pos en
    rw [if_neg (Bool.eq_false_iff.mp sub)] at sent
    have port : ((u.slotStarted n).linSendHeader n sid l.pos).linPort n = _ := sent.own
    refine does_of_run (exec_linSlotStart_frame up run some' due calm type) ?_
    rw [port]
    exact ⟨⟨rfl, rfl, rfl⟩, rfl, rfl, rfl, sent.others⟩
  · have started := u.slotStarted_empty (n := n)
    have port : State.linPort _ n = _ := started.own
    refine does_of_run ((exec_linSlotStart up run some' due calm (by rw [type]; decide)).trans (congrArg _ (if_pos type))) ?_
    rw [port]
    exact ⟨⟨rfl, rfl, rfl⟩, rfl, rfl, started.others⟩
  · obtain ⟨t, run, put⟩ := linNoResponse_put hdr entry type late
    exact does_of_run run ⟨put.own, put.others⟩
  · intro b near
    refine ⟨fun short => ?_, fun long far => ?_, fun long close plain en sub => ?_, fun long close plain en pub => ?_, fun a long close asked answer => ?_⟩
    · exact does_of_run (congrArg Host.Outcome.next (if_pos (by simp [short]))) rfl
    · exact does_of_run (exec_linHeaderReceived_far up role long far) rfl
    · refine does_of_run (exec_linHeaderReceived_near up role long close) ((State.linHeader_heard plain en).trans (congrArg (u.setLin n) ?_))
      exact if_neg (Bool.eq_false_iff.mp sub)
    · have heard := State.linHeader_heard plain en
      have put : LinPut u _ n _ := heard ▸ State.linPut_modLin ..
      rw [if_pos pub] at put
      have port : State.linPort _ n = _ := put.own
      refine does_of_run (exec_linHeaderReceived_near up role long close) ?_
      rw [port]
      exact ⟨rfl, put.others, rfl⟩
    · have heard := State.linHeader_asked answer
      have put : LinPut u _ n _ := heard ▸ State.linPut_modLin ..
      have port : State.linPort _ n = _ := put.own
      refine does_of_run (exec_linHeaderReceived_near up role long close) ?_
      rw [asked, port]
      exact ⟨rfl, put.others, rfl⟩
  · refine does_of_run ((exec_linFrameReceived hdr entry type up role own inTime).trans (congrArg _ (if_pos good))) ?_
    exact (State.linDeliver_tunnel (s := u.linArrived n) tunnel open').trans (State.modLin_modLin ..)
  · refine does_of_run ((exec_linFrameReceived hdr entry type up role own inTime).trans (congrArg _ (if_pos good))) ?_
    have arrived : LinPut u (u.linArrived n) n _ := State.linPut_modLin ..
    rw [State.linDeliver_ring (s := u.linArrived n) local' granted]
    exact ⟨(getD_setIfInBounds ..).trans (if_pos ⟨rfl, n.isLt⟩), arrived.own, arrived.others⟩
  · refine does_of_run ((exec_linFrameReceived hdr entry type up role own inTime).trans (congrArg _ (if_neg (Bool.eq_false_iff.mp bad)))) ?_
    obtain ⟨linq, r, put, marks⟩ := u.linRejected_put (n := n) (id := h.id)
    have port : (u.linRejected n h.id).linPort n = _ := put.own
    rw [port]
    exact ⟨rfl, rfl, marks, linq, put.others⟩
  · have put : LinPut u (u.linPublish n id data) n _ := State.linPut_modLin ..
    have port : (u.linPublish n id data).linPort n = _ := put.own
    refine does_of_run (exec_linPublishWrite on pub may) ⟨?_, State.linPublish_fresh .., (congrArg LinPort.sent port :), put.others⟩
    rw [port]
    exact kvGet_kvPut_self ..
  · exact does_of_run (exec_linWakeupRestart restart due commander) rfl
  · exact does_of_run (exec_linBusIdle up quiet) rfl

end Sys2Proof.Machine
end

section
/-!
PROOFS. Ethernet ports, the switch and Meridian (10 R275 to R277, R282 to R284); then O41.
-/
namespace Sys2Proof.Machine

/-! ### Links, cable tests and T1S ports (10 R282, R283) -/

section
variable {s : State} {g : Lapse} {k : Fin 2}

theorem ethLinkUp_put {sqi : Fin 8} (on : (s.pass g).pd 5 = true) (en : (s.pass g).pb Pf.ethCfg_EN k = true) (down : ((s.pass g).ethPort k).link = false)
    (awake : ((s.pass g).ethPort k).silent = false) :
    ∃ t, exec (.ethLinkUp g k sqi) s = .next t ∧ EthPut (s.pass g) t k { (s.pass g).ethPort k with link := true, sqi := sqi } :=
  ⟨_, congrArg Host.Outcome.next (if_pos (by simp [on, en, down, awake])), PutAt.set.keep (congrArg Nets.eth State.netEvent_net)⟩

theorem ethLinkDown_put (up : ((s.pass g).ethPort k).link = true) : ∃ t, exec (.ethLinkDown g k) s = .next t ∧
    EthPut (s.pass g) t k { (s.pass g).ethPort k with link := false, sqi := 0, asCap := false, downs := satInc 0xFFFF ((s.pass g).ethPort k).downs } :=
  ⟨_, congrArg Host.Outcome.next (if_pos up), PutAt.set.keep (congrArg Nets.eth State.netEvent_net)⟩

theorem exec_cableTestDone {r d : Nat} (runs : ((s.pass g).ethPort k).cable = 4) (low : 1 ≤ r) (high : r ≤ 3) (short : d < 4096) :
    exec (.cableTestDone g k r d) s = .next ((s.pass g).setEth k { (s.pass g).ethPort k with cable := r, dist := if r = 1 then 0 else d }) := by
  refine congrArg Host.Outcome.next ((if_pos (by simp [runs, low, high])).trans ?_)
  rw [Nat.mod_eq_of_lt short]

theorem State.speFollows_of {u : State} (on : u.pd 5 = true) (en : u.pb Pf.speCfg_EN k = true) (plca : u.pb Pf.speCfg_PLCA k = true)
    (node : u.pf Pf.speCfg_NODEID k ≠ 0) : u.speFollows k = true := by
  simp [State.speFollows, on, en, plca, node]

theorem plcaLost_port (follows : (s.pass g).speFollows k = true) (plca : ((s.pass g).spePort k).csma = false) :
    ∃ t, exec (.plcaLost g k) s = .next t ∧ t.spePort k =
      { (s.pass g).spePort k with beacon := false, csma := true, losses := satInc 0xFFFF ((s.pass g).spePort k).losses } :=
  ⟨_, congrArg Host.Outcome.next (if_pos (by simp [follows, plca])), (PutAt.set.keep (congrArg Nets.spe State.netEvent_net)).own⟩

theorem exec_plcaBeaconReturn (follows : (s.pass g).speFollows k = true) :
    exec (.plcaBeaconReturn g k) s = .next ((s.pass g).setSpe k { (s.pass g).spePort k with beacon := true, csma := false }) :=
  congrArg Host.Outcome.next (if_pos follows)

end

/-! ### The switch (10 R284) -/

/-- Frames of the switch have been counted: the counts of its ports alone differ, and no link. -/
structure PortsCounted (s t : State) : Prop where
  form : ∃ e x, t = { s with net := { s.net with eth := e, spe := x } }
  link : ∀ j, (t.ethPort j).link = (s.ethPort j).link

section
variable {s t : State} {f : EthFrame} {i p v : Nat}

theorem PortsCounted.now (h : PortsCounted s t) : t.now = s.now := by
  obtain ⟨⟨_, _, rfl⟩, -⟩ := h
  rfl

theorem PortsCounted.par (h : PortsCounted s t) : t.par = s.par := by
  obtain ⟨⟨_, _, rfl⟩, -⟩ := h
  rfl

/-- The rest of the switch is as it was. -/
theorem PortsCounted.net (h : PortsCounted s t) :
    t.net.learned = s.net.learned ∧ t.net.vlanDrop = s.net.vlanDrop ∧ t.net.egress = s.net.egress := by
  obtain ⟨⟨_, _, rfl⟩, -⟩ := h
  exact ⟨rfl, rfl, rfl⟩

theorem State.portCount_counted (p i : Nat) : PortsCounted s (s.portCount p i) := by
  unfold State.portCount
  split
  · refine ⟨⟨_, _, rfl⟩, fun j => ?_⟩
    extract_lets e
    rw [State.ethPort_setEth]
    split
    next own => rw [← own.1]
    next => rfl
  · split
    · exact ⟨⟨_, _, rfl⟩, fun _ => rfl⟩
    · exact ⟨⟨_, _, rfl⟩, fun _ => rfl⟩

/-- A port is in service by its link and the parameters. -/
theorem PortsCounted.portUp (h : PortsCounted s t) (p : Nat) : t.portUp p = s.portUp p := by
  have link := h.link p
  obtain ⟨e, x, rfl⟩ := h.form
  unfold State.portUp
  rw [link]
  rfl

theorem PortsCounted.destPorts (h : PortsCounted s t) (vlan mac : Nat) : t.destPorts vlan mac = s.destPorts vlan mac := by
  obtain ⟨⟨e, x, rfl⟩, -⟩ := h
  rfl

/-- A frame that leaves by a port in service enters its egress queue. -/
theorem State.egressTo_up (untag : Bool) (up : s.portUp p = true) : (s.egressTo p untag f).net.learned = s.net.learned ∧
    (s.egressTo p untag f).net.vlanDrop = s.net.vlanDrop ∧ (s.egressTo p untag f).net.egress =
      putEgress ⟨p, if p < 2 then s.pf Pf.ethPrio_TC p f.pcp.val else f.pcp.val, s.now, untag, f⟩ s.net.egress := by
  have counted := s.portCount_counted p 1
  obtain ⟨learned, drops, egress⟩ := counted.net
  unfold State.egressTo
  rw [if_neg (by simp [up])]
  exact ⟨learned, drops, by rw [← egress, ← counted.now]⟩

/-- Forwarding leaves what the switch has learned. -/
theorem State.egressTo_learned (untag : Bool) : (s.egressTo p untag f).net.learned = s.net.learned := by
  by_cases up : s.portUp p = true
  · exact (State.egressTo_up untag up).1
  · unfold State.egressTo
    rw [if_pos (by simpa using up)]
    obtain ⟨learned, -, -⟩ := (s.portCount_counted p 4).net
    exact learned

theorem State.egressAll_learned (untag : State → Nat → Bool) (l : List Nat) :
    (l.foldl (fun s e => s.egressTo e (untag s e) f) s).net.learned = s.net.learned := by
  induction l generalizing s with
  | nil => rfl
  | cons e l ih => exact ih.trans (State.egressTo_learned _)

/-- A frame of a member VLAN leaves by the ports of its destination but the one it came by. -/
def State.forwarded (s : State) (f : EthFrame) (v i : Nat) : State :=
  ((bitList 5 ((s.destPorts v f.dst).getD 0x1F &&& s.pf Pf.swxVlan_MEMBER 0 i)).filter (fun e => e ≠ f.port.val)).foldl
    (fun s e => s.egressTo e ((s.pf Pf.swxVlan_UNTAG 0 i).testBit e) f) s

/-- A destination that is known at one other port. -/
theorem State.forwarded_one {d : Fin 5} {ps : Nat} (known : s.destPorts v f.dst = some ps) (one : ps &&& s.pf Pf.swxVlan_MEMBER 0 i = 1 <<< d.val)
    (other : d ≠ f.port) : s.forwarded f v i = s.egressTo d ((s.pf Pf.swxVlan_UNTAG 0 i).testBit d) f := by
  have bit : ∀ d : Fin 5, bitList 5 (1 <<< d.val) = [d.val] := by decide
  have leaves : [d.val].filter (fun e => e ≠ f.port.val) = [d.val] := by simpa using Fin.val_ne_of_ne other
  unfold State.forwarded
  rw [known, Option.getD_some, one, bit, leaves]
  rfl

theorem State.pvid_congr (par : t.par = s.par) (p : Nat) : t.pvid p = s.pvid p := by
  simp only [State.pvid, State.pf_of_par par]

theorem State.vlanEntry_congr (par : t.par = s.par) (v : Nat) : t.vlanEntry v = s.vlanEntry v := by
  simp only [State.vlanEntry, State.pf_of_par par]

section
variable (up : s.portUp f.port = true) (min' : 64 ≤ f.len) (max' : f.len ≤ 1522) (plain : f.dst ≠ 0x0180C200000E)
  (entry : s.vlanEntry (f.vlan.getD (s.pvid f.port)) = some i)
include up min' max' plain entry

/-- A frame of a VLAN that the switch knows: counted, then dropped, or learned from and forwarded. -/
theorem State.switchIn_of_vlan : ∃ t, PortsCounted s t ∧ s.switchIn f =
    if (s.pf Pf.swxVlan_MEMBER 0 i).testBit f.port then
      (t.learnAddr (f.vlan.getD (s.pvid f.port)) f.src f.port).forwarded f (f.vlan.getD (s.pvid f.port)) i
    else { t with net := { t.net with vlanDrop := satInc 0xFFFF t.net.vlanDrop } } := by
  have counted := s.portCount_counted f.port 0
  refine ⟨_, counted, ?_⟩
  unfold State.switchIn
  extract_lets p t vlan
  have par : t.par = s.par := counted.par
  have own : vlan = f.vlan.getD (s.pvid f.port) := congrArg f.vlan.getD (State.pvid_congr par p)
  have known : t.vlanEntry vlan = some i := by rw [State.vlanEntry_congr par, own, entry]
  have mem : t.pf Pf.swxVlan_MEMBER 0 i = s.pf Pf.swxVlan_MEMBER 0 i := State.pf_of_par par ..
  rw [if_neg (by simp [p, up]), if_neg (by simp [min', max']), if_neg plain]
  have learnt : (t.learnAddr vlan f.src p).par = t.par := (State.learnAddr_only (.refl [.net] t) (by decide)).same .par (by decide)
  have mem' : (t.learnAddr vlan f.src p).pf Pf.swxVlan_MEMBER 0 i = s.pf Pf.swxVlan_MEMBER 0 i := State.pf_of_par (learnt.trans par) ..
  simp only [known, mem, ← own]
  by_cases member : (s.pf Pf.swxVlan_MEMBER 0 i).testBit p = true
  · rw [if_neg (by simp [member]), if_pos member, State.forwarded, mem']
  · rw [if_pos (by simpa using member), if_neg member]

/-- A frame of a VLAN that its port is no member of is dropped and counted. -/
theorem State.switchIn_stranger (stranger : (s.pf Pf.swxVlan_MEMBER 0 i).testBit f.port = false) :
    (s.switchIn f).net.vlanDrop = satInc 0xFFFF s.net.vlanDrop ∧ (s.switchIn f).net.egress = s.net.egress ∧
    (s.switchIn f).net.learned = s.net.learned := by
  obtain ⟨t, counted, eq⟩ := State.switchIn_of_vlan up min' max' plain entry
  obtain ⟨learned, drops, egress⟩ := counted.net
  rw [eq, if_neg (Bool.eq_false_iff.mp stranger)]
  exact ⟨congrArg (satInc 0xFFFF) drops, egress, learned⟩

section
variable (member : (s.pf Pf.swxVlan_MEMBER 0 i).testBit f.port = true)
include member

/-- A member's frame whose destination is known at one other port leaves by it. -/
theorem State.switchIn_known {d : Fin 5} {ps : Nat} (still : s.pb Pf.swxCfg_LEARN = false)
    (known : s.destPorts (f.vlan.getD (s.pvid f.port)) f.dst = some ps) (one : ps &&& s.pf Pf.swxVlan_MEMBER 0 i = 1 <<< d.val) (other : d ≠ f.port)
    (service : s.portUp d = true) : (s.switchIn f).net.learned = s.net.learned ∧ (s.switchIn f).net.vlanDrop = s.net.vlanDrop ∧
      (s.switchIn f).net.egress = putEgress ⟨d, if d.val < 2 then s.pf Pf.ethPrio_TC d f.pcp else f.pcp, s.now,
        (s.pf Pf.swxVlan_UNTAG 0 i).testBit d, f⟩ s.net.egress := by
  obtain ⟨t, counted, eq⟩ := State.switchIn_of_vlan up min' max' plain entry
  obtain ⟨learned, drops, egress⟩ := counted.net
  have pf (x : ParField) (i k : Nat) : t.pf x i k = s.pf x i k := State.pf_of_par counted.par ..
  have unlearnt : t.learnAddr (f.vlan.getD (s.pvid f.port)) f.src f.port = t := if_pos (by simp [State.pb_of_par counted.par, still])
  have service' : t.portUp d = true := (counted.portUp d).trans service
  obtain ⟨learned', drops', egress'⟩ := State.egressTo_up (s := t) (f := f) ((t.pf Pf.swxVlan_UNTAG 0 i).testBit d) service'
  rw [eq, if_pos member, unlearnt, State.forwarded_one ((counted.destPorts ..).trans known) (by rw [pf]; exact one) other, learned', drops', egress']
  simp only [pf, counted.now]
  exact ⟨learned, drops, by rw [egress]⟩

/-- The source of a member's frame is learned, where it is new and the table has room. -/
theorem State.switchIn_learns (learns : s.pb Pf.swxCfg_LEARN = true) (room : s.net.learned.length < 1024)
    (new : s.net.learned.any (fun l => l.vlan = f.vlan.getD (s.pvid f.port) && l.mac = f.src) = false) :
    (s.switchIn f).net.learned = s.net.learned ++ [⟨f.vlan.getD (s.pvid f.port), f.src, f.port, s.now⟩] := by
  obtain ⟨t, counted, eq⟩ := State.switchIn_of_vlan up min' max' plain entry
  obtain ⟨learned, -, -⟩ := counted.net
  have learnt : (t.learnAddr (f.vlan.getD (s.pvid f.port)) f.src f.port).net.learned =
      s.net.learned ++ [⟨f.vlan.getD (s.pvid f.port), f.src, f.port, s.now⟩] := by
    unfold State.learnAddr
    rw [State.pb_of_par counted.par, learns, learned, new, counted.now, if_neg (by decide), if_neg (by decide), if_neg (by omega)]
  rw [eq, if_pos member, State.forwarded, State.egressAll_learned, learnt]

end

end

end

/-- A frame at the switch, and the answer of the endpoint. -/
theorem exec_switchFrameIngress {s : State} {g : Lapse} {f : EthFrame} {r : Option EthFrame} (answer : (s.pass g).endpointAnswer f = r) :
    exec (.switchFrameIngress g f) s = .next (r.elim ((s.pass g).switchIn f) ((s.pass g).switchIn f).switchIn) := by
  subst answer
  show execSwitchFrameIngress g f s = _
  unfold execSwitchFrameIngress
  extract_lets u a v
  show Host.Outcome.next _ = .next (a.elim v v.switchIn)
  cases a <;> rfl

/-! ### Meridian (10 R275 to R277) -/

section
variable {s : State} {g : Lapse}

/-- A Sync on the uplink that SRC names makes Meridian traced. -/
theorem gptpSync_learns {k : Fin 2} {y : SyncIn} (on : (s.pass g).pd 6 = true) (en : (s.pass g).pb Pf.mrdCfg_EN = true)
    (src : (s.pass g).pf Pf.mrdCfg_SRC = k.val) (power : (s.pass g).pd 5 = true) (link : ((s.pass g).ethPort k).link = true) :
    ∃ t, exec (.gptpSync g k y) s = .next t ∧
      t.net.mrd = { (s.pass g).net.mrd with sync := some (y.g0, y.t0, y.rate), syncAt := (s.pass g).now, traced := true } ∧
      EthPut (s.pass g) t k { (s.pass g).ethPort k with asCap := true, pdelay := Config.linkDelay (s.pass g).now % 2 ^ 32 } := by
  have known : ((s.pass g).pd 6 && (s.pass g).pb Pf.mrdCfg_EN && (s.pass g).pf Pf.mrdCfg_SRC = k.val && (s.pass g).pd 5 &&
      ((s.pass g).ethPort k).link) = true := by simp [on, en, src, power, link]
  show ∃ t, execGptpSync g k y s = .next t ∧ _
  unfold execGptpSync
  extract_lets u was synced t x e v
  rw [if_neg (by simpa using known)]
  have put : EthPut u v k _ := .set
  split
  · exact ⟨_, rfl, rfl, put⟩
  · exact ⟨_, rfl, congrArg Nets.mrd State.netEvent_net, put.keep (congrArg Nets.eth State.netEvent_net)⟩

theorem meridianHoldExpiry_untraced (traced : (s.pass g).net.mrd.traced = true)
    (held : (s.pass g).net.mrd.syncAt + msTk ((s.pass g).pf Pf.mrdCfg_HOLD) ≤ (s.pass g).now) :
    ∃ t, exec (.meridianHoldExpiry g) s = .next t ∧ t.net.mrd = { (s.pass g).net.mrd with traced := false } :=
  ⟨_, congrArg Host.Outcome.next (if_pos (Bool.and_eq_true_iff.mpr ⟨traced, decide_eq_true held⟩)), congrArg Nets.mrd State.netEvent_net⟩

/-- The reference that a due tick places on a port, or none. -/
def State.mrdPlaced (s : State) (n : Nat) (c : CanPort) : CanPort :=
  let reference : MrdBuf := ⟨dataFrame (s.pf Pf.mrdIds_REFID) (s.pb Pf.mrdIds_REFXTD) (leBytes 1 (c.cycle % 64)), false, s.now⟩
  { c with mrd := if (s.pf Pf.mrdCfg_PORTS).testBit n ∧ s.pb Pf.canCfg_EN n = true ∧ c.st ≠ .off then some reference else none }

theorem State.mrdPlaced_congr {t : State} (par : t.par = s.par) (clk : t.clk = s.clk) : t.mrdPlaced = s.mrdPlaced := by
  funext n c
  simp only [State.mrdPlaced, State.pf_of_par par, State.pb_of_par par, State.now, clk]

/-- A due tick on one port. -/
theorem State.mrdDue_put (n : Fin 8) : (s.mrdDue n).net.mrd = s.net.mrd ∧ CanPut s (s.mrdDue n) n (s.mrdPlaced n (s.canPort n)) := by
  unfold State.mrdDue
  extract_lets c t on m
  have told : Only [.atlas, .evs, .ctl] s t := by
    unfold t
    split
    · exact .ite (.refl ..) (State.netEvent_only (.refl ..) (by decide))
    · exact .refl ..
  have net : t.net = s.net := told.same .net (by decide)
  have port : t.canPort n = c := by simp only [State.canPort, net, c]
  have placed : t.mrdPlaced = s.mrdPlaced := State.mrdPlaced_congr (told.same .par (by decide)) (told.same .clk (by decide))
  have put : CanPut s (t.modCan n (fun c => { c with mrd := if on then some m else none })) n _ :=
    (PutAt.refl.keep (congrArg Nets.can net)).trans (State.canPut_modCan ..)
  rw [port] at put
  refine ⟨(congrArg Nets.mrd net :), ?_⟩
  rw [← placed]
  simpa [State.mrdPlaced, on, and_assoc] using put

/-- A due tick on several ports places the reference of each. -/
theorem State.mrdDues_placed (n : Fin 8) (l : List (Fin 8)) (nodup : l.Nodup) : ((l.map Fin.val).foldl State.mrdDue s).net.mrd = s.net.mrd ∧
    ((l.map Fin.val).foldl State.mrdDue s).canPort n = if n ∈ l then s.mrdPlaced n (s.canPort n) else s.canPort n := by
  induction l generalizing s with
  | nil => exact ⟨rfl, rfl⟩
  | cons k l ih =>
    obtain ⟨fresh, nodup'⟩ := List.nodup_cons.mp nodup
    obtain ⟨mrd, put⟩ := s.mrdDue_put k
    have told : Only [.atlas, .net, .evs, .ctl] s (s.mrdDue k) := State.mrdDue_only (.refl ..) (by decide)
    have placed : (s.mrdDue k).mrdPlaced = s.mrdPlaced := State.mrdPlaced_congr (told.same .par (by decide)) (told.same .clk (by decide))
    obtain ⟨mrd', port⟩ := ih (s := s.mrdDue k) nodup'
    refine ⟨mrd'.trans mrd, port.trans ?_⟩
    rw [placed]
    obtain rfl | other := eq_or_ne n k
    · rw [if_neg fresh, if_pos List.mem_cons_self]
      exact put.own
    · rw [show (s.mrdDue k).canPort n = s.canPort n from put.others n other]
      simp [other]

/-- The state in which the references of a due tick are placed: `period` and `ids` come into force. -/
def State.mrdForced (s : State) : State :=
  { s with net := { s.net with mrd := { s.net.mrd with force := some (s.pf Pf.mrdPeriod_PERIOD, s.parOf Pid.mrdIds 0) } } }

theorem exec_meridianCycleDue (on : (s.pass g).pd 6 = true) (en : (s.pass g).pb Pf.mrdCfg_EN = true)
    (due : (s.pass g).now % msTk (s.pass g).mrdPeriod = 0) :
    exec (.meridianCycleDue g) s = .next (((List.finRange 8).map Fin.val).foldl State.mrdDue (s.pass g).mrdForced) :=
  congrArg Host.Outcome.next (if_pos (Bool.and_eq_true_iff.mpr ⟨Bool.and_eq_true_iff.mpr ⟨on, en⟩, decide_eq_true due⟩))

theorem meridianCycleDue_places (n : Fin 8) (on : (s.pass g).pd 6 = true) (en : (s.pass g).pb Pf.mrdCfg_EN = true)
    (due : (s.pass g).now % msTk (s.pass g).mrdPeriod = 0) : ∃ t, exec (.meridianCycleDue g) s = .next t ∧
      t.net.mrd = (s.pass g).mrdForced.net.mrd ∧ t.canPort n = (s.pass g).mrdPlaced n ((s.pass g).canPort n) := by
  have placed : (s.pass g).mrdForced.mrdPlaced = (s.pass g).mrdPlaced := State.mrdPlaced_congr rfl rfl
  obtain ⟨mrd, port⟩ := (s.pass g).mrdForced.mrdDues_placed n (List.finRange 8) (List.nodup_finRange 8)
  rw [if_pos (List.mem_finRange n), placed] at port
  exact ⟨_, exec_meridianCycleDue on en due, mrd, port⟩

theorem exec_referenceSent {n : Fin 8} {m : MrdBuf} {sof : Nat} (buf : ((s.pass g).canPort n).mrd = some m) (first : m.fup = false)
    (offered : ((s.pass g).canPort n).offered = some 32) (sends : (s.pass g).canSends n = true) : exec (.referenceSent g n sof) s =
      .next ((s.pass g).setCan n { ((s.pass g).canPort n).goodTx with
        mrd := some ⟨dataFrame (Pf.mrdIds_FUPID.of (s.pass g).mrdIds) (decide (Pf.mrdIds_FUPXTD.of (s.pass g).mrdIds = 1)) ((s.pass g).followUp n sof),
          true, (s.pass g).now⟩
        cycle := (((s.pass g).canPort n).cycle + 1) % 64
        sent := ((s.pass g).canPort n).sent ++ [m.frame] }) := by
  show execReferenceSent g n sof s = _
  simp only [execReferenceSent, buf, first, offered, sends, decide_true, Bool.not_false, Bool.and_self, if_true]

end

/-- Settles O41: links and ports by the record that each command writes; a frame through the switch by what it finds of its VLAN; Meridian by its
record, and a due tick by the one port that it is read at. -/
theorem ethernetAndMeridian : Obligations.EthernetAndMeridian := by
  intro s g k n u e x c eths
  refine ⟨fun sqi on en down awake => ?_, fun up => ?_, fun r d runs low high short => ?_, fun on en plca node => ⟨fun csma => ?_, ?_⟩,
    fun f i up min' max' plain entry => ?_, fun v mac => ?_, fun y on en src power link => ?_, fun traced held => ?_, fun on en due => ?_,
    fun m sof buf first offered sends => ?_⟩
  · obtain ⟨t, run, put⟩ := ethLinkUp_put (sqi := sqi) on en down awake
    exact does_of_run run ⟨put.own, put.others⟩
  · obtain ⟨t, run, put⟩ := ethLinkDown_put up
    exact does_of_run run ⟨put.own, put.others⟩
  · exact does_of_run (exec_cableTestDone runs low high short) rfl
  · obtain ⟨t, run, port⟩ := plcaLost_port (State.speFollows_of on en plca node) csma
    exact does_of_run run port
  · exact does_of_run (exec_plcaBeaconReturn (State.speFollows_of on en plca node)) rfl
  · intro v
    refine ⟨fun r answer => ?_, fun unasked => ?_⟩
    · exact does_of_run (exec_switchFrameIngress answer) rfl
    · intro m
      have run := exec_switchFrameIngress unasked
      exact ⟨fun stranger => does_of_run run (State.switchIn_stranger up min' max' plain entry stranger),
        fun d ps member still known one other service => does_of_run run (State.switchIn_known up min' max' plain entry member still known one other service),
        fun member learns room new => does_of_run run (State.switchIn_learns up min' max' plain entry member learns room new)⟩
  · refine ⟨_, rfl, fun p other => (Only.put_net (.refl [.net] u) (by decide)).same p (by simpa using other), fun l => List.mem_filter.trans (and_congr_right fun _ => ?_)⟩
    simp only [State.expired, Bool.not_eq_true', ← Bool.not_eq_true, Bool.and_eq_true, decide_eq_true_eq, and_assoc]
    exact Iff.rfl
  · obtain ⟨t, run, mrd, put⟩ := gptpSync_learns (y := y) on en src power link
    have port : t.ethPort k = _ := put.own
    refine does_of_run run ?_
    rw [port]
    exact ⟨mrd, rfl, rfl⟩
  · obtain ⟨t, run, mrd⟩ := meridianHoldExpiry_untraced traced held
    exact does_of_run run mrd
  · obtain ⟨t, run, mrd, port⟩ := meridianCycleDue_places n on en due
    exact does_of_run run ⟨mrd, port⟩
  · refine does_of_run (exec_referenceSent buf first offered sends) ?_
    rw [State.canPort_setCan, if_pos ⟨rfl, n.isLt⟩]
    exact ⟨rfl, rfl, rfl, rfl, rfl⟩

end Sys2Proof.Machine
end

section
/-!
PROOFS. Keep-alives and the Waymark log (11 R295 to R298, R306): what each leaves of the sleep agreement, and what the device sends on its links.
-/
namespace Sys2Proof.Machine

/-! ### Steps over the ports -/

/-- From one state to another the networks alone may differ. -/
def NetAlone (s t : State) : Prop := t = { s with net := t.net }

section
variable {s t u : State}

theorem NetAlone.refl (s : State) : NetAlone s s := rfl

theorem NetAlone.trans (h : NetAlone s t) (k : NetAlone t u) : NetAlone s u :=
  Eq.trans k (congrArg (fun x : State => { x with net := u.net }) h)

theorem NetAlone.foldl {f : State → Nat → State} (each : ∀ t k, NetAlone t (f t k)) (l : List Nat) : NetAlone s (l.foldl f s) := by
  induction l generalizing s with
  | nil => exact .refl s
  | cons k l ih => exact (each s k).trans ih

/-- What is read from neither the ports nor the rest of the networks is as it was. -/
theorem NetAlone.read {α : Type} {read : State → α} (h : NetAlone s t) (blind : ∀ x y, read { x with net := y } = read x) : read t = read s :=
  (congrArg read h).trans (blind s t.net)

variable {α : Type} {read : State → α} {f : State → Nat → State}

/-- A reading that no step touches stays. -/
theorem foldl_read {l : List Nat} (each : ∀ t, ∀ k ∈ l, read (f t k) = read t) : read (l.foldl f s) = read s := by
  induction l generalizing s with
  | nil => rfl
  | cons k l ih => exact (ih fun t j mem => each t j (List.mem_cons_of_mem _ mem)).trans (each s k List.mem_cons_self)

/-- Steps over several ports, read at one of them: its own step alone counts. -/
theorem foldl_atPort {l : List Nat} {n : Nat} {y : α} (nodup : l.Nodup) (mem : n ∈ l) (net : ∀ t k, NetAlone t (f t k))
    (others : ∀ t k, k ≠ n → read (f t k) = read t) (own : ∀ t, NetAlone s t → read t = read s → read (f t n) = y) : read (l.foldl f s) = y := by
  induction l generalizing s with
  | nil => exact absurd mem List.not_mem_nil
  | cons k l ih =>
    obtain ⟨fresh, rest⟩ := List.nodup_cons.mp nodup
    obtain rfl | ne := eq_or_ne k n
    · exact (foldl_read fun t j mem => others t j fun eq => fresh (eq ▸ mem)).trans (own s (.refl s) rfl)
    · exact ih rest ((List.mem_cons.mp mem).resolve_left ne.symm) fun t later same => own t ((net s k).trans later) (same.trans (others s k ne))

end

/-! ### Runs of keep-alives (11 R306) -/

section
variable {s : State} {g : Lapse} {link node reason : Nat} {r : WmRun}

/-- A run that ends leaves the table; its element, if it has one, is no longer ACTIVE. -/
theorem State.wmEnd_agr : (s.wmEnd r).agr = { s.agr with runs := s.agr.runs.filter (fun x => !(x.link = r.link && x.node = r.node)) } := by
  unfold State.wmEnd
  extract_lets t
  split
  · split
    · exact (State.setPf_only (.refl [.par] t) (by decide)).same .agr (by decide)
    · rfl
  · rfl

/-- A run that is not in the log leaves no trace there. -/
theorem State.wmEnd_par (unlogged : r.logged = false) : (s.wmEnd r).par = s.par := by
  unfold State.wmEnd
  extract_lets t
  split
  · rw [if_neg (Bool.eq_false_iff.mp unlogged)]
    rfl
  · rfl

/-- The agreement differs in its runs alone. -/
def Agree.SameButRuns (a b : Agree) : Prop := b = { a with runs := b.runs }

theorem Agree.SameButRuns.put {a b : Agree} (h : a.SameButRuns b) (l : List WmRun) : a.SameButRuns { b with runs := l } :=
  (congrArg (fun x : Agree => { x with runs := l }) h :)

theorem State.wmEndAll_agr : s.agr.SameButRuns s.wmEndAll.agr := by
  unfold State.wmEndAll
  generalize s.agr.runs = l
  induction l generalizing s with
  | nil => rfl
  | cons r l ih =>
    have rest : (s.wmEnd r).agr.SameButRuns _ := ih
    rw [State.wmEnd_agr] at rest
    exact rest

theorem State.wmSeen_agr : s.agr.SameButRuns (s.wmSeen link node reason).agr := by
  unfold State.wmSeen
  split
  · exact State.wmEndAll_agr
  · split
    · extract_lets t
      have ended : s.agr.SameButRuns t.agr := by
        unfold t
        split
        · rw [State.wmEnd_agr]
          rfl
        · rfl
      split <;> exact ended.put _
    · rfl

theorem exec_waymarkRunEnd (run : (s.pass g).wmRun link node = some r) (gap : (s.pass g).agrTmo < (s.pass g).now - r.last) :
    exec (.waymarkRunEnd g link node) s = .next ((s.pass g).wmEnd r) := by
  show execWaymarkRunEnd g link node s = _
  simp only [execWaymarkRunEnd, run, gap, decide_true, Bool.or_true, if_true]

theorem exec_waymarkMinute {i : Nat} (run : (s.pass g).wmRun link node = some r) (slot : (s.pass g).wmSlot link node = some i) (logged : r.logged = true) :
    exec (.waymarkMinute g link node) s = .next ((s.pass g).wmWrite i r true) := by
  show execWaymarkMinute g link node s = _
  simp only [execWaymarkMinute, run, slot, logged, if_true]

/-- The run of a link and node is in the log. -/
def State.wmLogged (s : State) (link node : Nat) : State :=
  s.modAgr (fun a => { a with runs := a.runs.map (fun x => if x.link = link && x.node = node then { x with logged := true } else x) })

/-- A run that reaches its limit enters the log. -/
theorem waymark_logs (run : (s.pass g).wmRun link node = some r) (unlogged : r.logged = false) (free : (s.pass g).localReq = false)
    (st : (s.pass g).agr.st = .normal ∨ (s.pass g).agr.st = .wakeCheck) (long : (s.pass g).pf Pf.nsCfg_WMLIMIT ≤ (s.pass g).wmMinutes r) :
    ∃ t, exec (.waymark g link node) s = .next t ∧ t.par = ((s.pass g).wmWrite ((s.pass g).wmTake link node) r true).par ∧
      t.agr.runs = (s.pass g).agr.runs.map (fun x => if x.link = link ∧ x.node = node then { x with logged := true } else x) := by
  show ∃ t, execWaymark g link node s = .next t ∧ _
  simp only [execWaymark, run]
  generalize s.pass g = u at *
  rw [if_neg (by simpa [unlogged, free, long] using or_iff_not_imp_left.mp st)]
  let t := u.wmWrite (u.wmTake link node) r true
  have written : t.agr = u.agr := (State.wmWrite_only (.refl [.par] u) (by decide)).same .agr (by decide)
  have told (unit code value : Nat) : Only [.atlas, .evs, .ctl] (t.wmLogged link node) ((t.wmLogged link node).netEvent unit code value) :=
    State.netEvent_only (.refl ..) (by decide)
  refine ⟨_, rfl, (told ..).same .par (by decide), (congrArg Agree.runs ((told ..).same .agr (by decide))).trans ?_⟩
  simp only [State.wmLogged, State.modAgr, written, Bool.and_eq_true, decide_eq_true_eq]

end

/-! ### Keep-alives that are received (11 R295, R298) -/

section
variable {s : State} {g : Lapse} {link node reason value : Nat}

theorem State.agrStay_normal (st : s.agr.st = .normal) : s.agrStay value = s.agrStart s.now := by
  simp only [State.agrStay, st]

theorem State.agrStay_wakeCheck (st : s.agr.st = .wakeCheck) : s.agrStay value = s.agrNormal := by
  simp only [State.agrStay, st]

/-- Each LIN commander sends a wake-up signal. -/
def State.linWakeups (s : State) : State := (List.range 8).foldl (fun s n => if s.linCommander n then s.linWakeup n else s) s

theorem State.linWakeups_only : Only [.net] s s.linWakeups :=
  .foldl (.refl ..) fun _ _ => .ite (State.linWakeup_only (.refl ..) (by decide)) (.refl ..)

/-- The commanders that had gone to sleep are woken: the agreement and the power states stay. -/
theorem State.linWakeups_if (slept : Bool) : Only [.net] s (if slept then s.linWakeups else s) := .ite State.linWakeups_only (.refl ..)

/-- A wait that is aborted. -/
theorem State.agrStay_readySleep (st : s.agr.st = .readySleep) :
    (s.agrStay value).agr = { s.agrNormal.agr with aborts := satInc 0xFFFF s.agr.aborts } := by
  let t := (s.agrNormal.modAgr (fun a => { a with aborts := satInc 0xFFFF a.aborts })).agrEvent 0x41 value
  have aborted : s.agrStay value = if s.agr.linSlept then t.linWakeups else t := by
    simp only [State.agrStay, st]
    rfl
  rw [aborted, (t.linWakeups_if s.agr.linSlept).same .agr (by decide)]
  exact (State.agrEvent_only (.refl [.atlas, .evs, .ctl] _) (by decide)).same .agr (by decide)

/-- The agreement notes whose keep-alive came last. -/
def State.heard (s : State) (link node : Nat) : State := s.modAgr (fun a => { a with lastNode := node, lastLink := link })

/-- A keep-alive on a watched link: the agreement goes on with it, and its runs apart nothing else happens to the agreement. -/
theorem keepAliveReceived_agr {b : Agree} (watched : (s.pass g).watched link = true) (on : (s.pass g).pd (if link < 8 then 6 else 5) = true)
    (near : link < 8 → node ≤ 63) (st : (s.pass g).agr.st = .normal ∨ (s.pass g).agr.st = .readySleep ∨ (s.pass g).agr.st = .wakeCheck)
    (stay : (((s.pass g).heard link node).agrStay node).agr = b) :
    ∃ t, exec (.keepAliveReceived g link node reason) s = .next t ∧ b.SameButRuns t.agr := by
  subst stay
  refine ⟨_, if_neg ?_, State.wmSeen_agr⟩
  generalize s.pass g = u at *
  rcases st with st | st | st <;> simpa [st, watched, on] using near

end

/-! ### Keep-alives of the device (11 R297) -/

/-- The device's CAN keep-alive. -/
def State.kaFrame (s : State) : CanFrame :=
  ⟨Pf.nsKa_KABASE.of s.agr.ka + Pf.nsCfg_NODE.of s.agr.cfg, false, false, 0, 0, 0, 0, 0, 1, [BitVec.ofNat 8 s.reason]⟩

/-- A keep-alive on CANn: queued, or counted in TXFAIL. -/
def State.kaOnCan (f : CanFrame) (s : State) (n : Nat) : State :=
  (s.canQueue n f).getD (s.modCan n (fun c => { c with txFail := satInc 0xFFF c.txFail }))

/-- A keep-alive on a link of Ethernet or T1S. -/
def State.kaOnEth (s : State) (link : Nat) : State :=
  if s.watched link && s.pd 5 then (s.modAgr (fun a => { a with sent := a.sent ++ [s.kaDatagram link] })).kaSent else s

/-- A keep-alive on every CAN port of `netsleep.ka`. -/
def State.kaOnCans (s : State) : State := (bitList 8 (Pf.nsKa_CAN.of s.agr.ka)).foldl (State.kaOnCan s.kaFrame) s

section
variable {s t : State} {g : Lapse} {n : Fin 8} {f : CanFrame} {i : Nat}

theorem State.kaSend_eq : s.kaSend = [16, 17, 18, 19].foldl State.kaOnEth s.kaOnCans := by
  have step : State.kaOnCan s.kaFrame = fun s' n => match s'.canQueue n s.kaFrame with
      | some t => t
      | none => s'.modCan n (fun c => { c with txFail := satInc 0xFFF c.txFail }) := by
    funext s' n
    unfold State.kaOnCan
    cases s'.canQueue n s.kaFrame <;> rfl
  unfold State.kaOnCans
  rw [step]
  rfl

theorem exec_keepAliveSend (st : (s.pass g).agr.st = .normal) (request : (s.pass g).localReq = true) (held : (s.pass g).agr.held = true)
    (due : (s.pass g).now % (Pf.nsCfg_KAPER.of (s.pass g).agr.cfg * 2000000) = 0) : exec (.keepAliveSend g) s = .next (s.pass g).kaSend := by
  refine (if_neg ?_).trans ((if_neg ?_).trans ((if_neg ?_).trans (if_pos due)))
  · simp only [st]
    decide
  · rw [request]
    decide
  · rw [held]
    decide

theorem exec_keepAliveSend_idle (st : (s.pass g).agr.st = .normal) (free : (s.pass g).localReq = false) :
    exec (.keepAliveSend g) s = .next { s.pass g with agr := { (s.pass g).agr with held := false } } := by
  refine (if_neg ?_).trans (if_pos ?_)
  · simp only [st]
    decide
  · rw [free]
    rfl

/-- A keep-alive on a CAN port is written to its record. -/
theorem State.kaOnCan_set (s : State) (f : CanFrame) (n : Nat) : ∃ c, s.kaOnCan f n = s.setCan n c := by
  unfold State.kaOnCan State.canQueue
  extract_lets c
  split
  · exact ⟨_, rfl⟩
  · cases c.freeRun (bufsFor f) <;> exact ⟨_, rfl⟩

theorem State.kaOnCan_net (s : State) (f : CanFrame) (n : Nat) : NetAlone s (s.kaOnCan f n) := by
  obtain ⟨c, eq⟩ := s.kaOnCan_set f n
  rw [eq]
  rfl

theorem State.kaOnCans_net : NetAlone s s.kaOnCans := .foldl (fun t n => t.kaOnCan_net _ n) _

/-- A port that runs and has a free buffer queues the keep-alive. -/
theorem State.kaOnCans_queued (bit : (Pf.nsKa_CAN.of s.agr.ka).testBit n = true) (runs : (s.canPort n).st ≠ .off)
    (room : (s.canPort n).freeRun 1 = some i) :
    s.kaOnCans.canPort n = { s.canPort n with tx := (s.canPort n).tx ++ [⟨i, 1, s.now, s.kaFrame⟩] } := by
  refine foldl_atPort (n := n.val) (read := fun t => t.canPort n) (List.nodup_range.filter _) (List.mem_filter.mpr ⟨List.mem_range.mpr n.isLt, bit⟩)
    (fun t k => t.kaOnCan_net _ k) (fun t k other => ?_) fun t alone same => ?_
  · obtain ⟨c, eq⟩ := t.kaOnCan_set s.kaFrame k
    rw [eq, State.canPort_setCan, if_neg fun own => other own.1]
  · have now : t.now = s.now := alone.read fun _ _ => rfl
    have queued := State.canQueue_of_sendable (f := s.kaFrame) (n := n) (u := t) (same ▸ runs) (Nat.zero_le _) rfl Nat.two_pos (Nat.le_add_left 1 63)
    rw [same, room, now] at queued
    rw [State.kaOnCan, queued]
    exact (State.canPort_setCan ..).trans (if_pos ⟨rfl, n.isLt⟩)

/-- A keep-alive has been sent at tick `now`, with which the timeout starts. -/
structure SentAt (d : KaOut) (now : Nat) (t : State) : Prop where
  sent : d ∈ t.agr.sent
  start : t.agr.start = now
  time : t.now = now

theorem SentAt.kaOnEth {d : KaOut} {now : Nat} (h : SentAt d now t) (link : Nat) : SentAt d now (t.kaOnEth link) := by
  obtain ⟨sent, start, time⟩ := h
  unfold State.kaOnEth State.kaSent
  split
  · split
    · exact ⟨List.mem_append_left _ sent, time, time⟩
    · exact ⟨List.mem_append_left _ sent, start, time⟩
  · exact ⟨sent, start, time⟩

theorem State.kaOnEth_sent {link : Nat} (st : s.agr.st = .normal) (watched : s.watched link = true) (on : s.pd 5 = true) :
    SentAt (s.kaDatagram link) s.now (s.kaOnEth link) := by
  have sent : s.kaOnEth link = s.modAgr (fun a => { a with
      sent := a.sent ++ [s.kaDatagram link], start := s.now, cfg := s.parOf Pid.nsCfg 0, ka := s.parOf Pid.nsKa 0 }) := by
    unfold State.kaOnEth
    rw [watched, on]
    exact if_pos st
  rw [sent]
  exact ⟨List.mem_append_right _ (List.mem_singleton_self _), rfl, rfl⟩

/-- The keep-alive on ETH0 is sent, whatever follows on the other links. -/
theorem State.kaSend_sent (st : s.agr.st = .normal) (watched : s.watched 16 = true) (on : s.pd 5 = true) : SentAt (s.kaDatagram 16) s.now s.kaSend := by
  have first : SentAt (s.kaDatagram 16) s.now (s.kaOnCans.kaOnEth 16) := by
    have same {α : Type} (read : State → α) (blind : ∀ x y, read { x with net := y } = read x) : read s.kaOnCans = read s := s.kaOnCans_net.read blind
    have sent := State.kaOnEth_sent (s := s.kaOnCans) (link := 16) ((same (·.agr.st) fun _ _ => rfl).trans st)
      ((same (·.watched 16) fun _ _ => rfl).trans watched) ((same (·.pd 5) fun _ _ => rfl).trans on)
    rwa [same (·.kaDatagram 16) fun _ _ => rfl, same State.now fun _ _ => rfl] at sent
  rw [State.kaSend_eq]
  exact ((first.kaOnEth 17).kaOnEth 18).kaOnEth 19

/-- What is sent on Ethernet leaves the CAN ports. -/
theorem State.kaSend_net : s.kaSend.net = s.kaOnCans.net := by
  rw [State.kaSend_eq]
  refine foldl_read (read := State.net) fun t link _ => ?_
  unfold State.kaOnEth State.kaSent
  split
  · split <;> rfl
  · rfl

end

end Sys2Proof.Machine
end

section
/-!
PROOFS. The sleep commit (11 R295, R299 to R301, R305): the ready-sleep wait and its end, tick c, requests for sleep and the false wake; then O42.
-/
namespace Sys2Proof.Machine

/-! ### Timeouts and the ready-sleep wait (11 R295, R296, R299) -/

section
variable {s : State} {g : Lapse}

theorem keepAliveTimeout_waits (st : (s.pass g).agr.st = .normal) (late : (s.pass g).agr.start + (s.pass g).agrTmo + 1 ≤ (s.pass g).now)
    (free : (s.pass g).localReq = false) : ∃ t, exec (.keepAliveTimeout g) s = .next t ∧
      t.agr = { (s.pass g).agr with st := .readySleep, start := (s.pass g).agr.start + (s.pass g).agrTmo, linSlept := false, saved := false } := by
  refine ⟨_, if_pos ?_, (State.agrEvent_only (.refl [.atlas, .evs, .ctl] _) (by decide)).same .agr (by decide)⟩
  generalize s.pass g = u at *
  simpa [st, State.expired, free, ← Nat.add_assoc] using late

/-- The LIN commanders go to sleep. -/
def State.linSleeps (s : State) : State := (List.range 8).foldl (fun s n => if s.linCommander n then s.linSleep n else s) s

theorem exec_linGoToSleep (st : (s.pass g).agr.st = .readySleep) (awake : (s.pass g).agr.linSlept = false)
    (due : (s.pass g).agr.start + 296000000 ≤ (s.pass g).now) :
    exec (.linGoToSleep g) s = .next ((s.pass g).linSleeps.modAgr (fun a => { a with linSlept := true })) := by
  refine if_pos ?_
  generalize s.pass g = u at *
  simpa [st, State.expired, awake] using due

theorem State.linSleeps_agr : s.linSleeps.agr = s.agr :=
  foldl_read (read := State.agr) fun t n _ => by
    split <;> rfl

/-- A commander that goes to sleep stops its schedule and sends the command. -/
theorem State.linSleeps_port (n : Fin 8) (commander : s.linCommander n = true) :
    s.linSleeps.linPort n = { s.linPort n with
      run := false, hdr := none, coll := none, heads := (s.linPort n).heads ++ [(0x3C, 13 + s.pf Pf.linCfg_BREAK n)]
      sent := (s.linPort n).sent ++ [(0x3C, 0x00 :: List.replicate 7 0xFF ++ [BitVec.ofNat 8 (linSum true 0x3C (0x00 :: List.replicate 7 0xFF))])] } := by
  refine foldl_atPort (n := n.val) (read := fun t => t.linPort n) List.nodup_range (List.mem_range.mpr n.isLt) (fun t k => ?_) (fun t k other => ?_)
    fun t alone same => ?_
  · split <;> rfl
  · split
    · exact (State.linPort_modLin ..).trans (if_neg fun own => other own.1)
    · rfl
  · have still : t.linCommander n = true := (alone.read (read := (·.linCommander n)) fun _ _ => rfl).trans commander
    have brk : t.pf Pf.linCfg_BREAK n = s.pf Pf.linCfg_BREAK n := alone.read (read := (·.pf Pf.linCfg_BREAK n)) fun _ _ => rfl
    rw [if_pos still, State.linSleep, State.linPort_modLin_self, same, brk]

theorem exec_preCommitSave (st : (s.pass g).agr.st = .readySleep) (fresh : (s.pass g).agr.saved = false)
    (due : (s.pass g).agr.start + 299800000 ≤ (s.pass g).now) :
    exec (.preCommitSave g) s = .next ((s.pass g).saveState.modAgr (fun a => { a with saved := true })) := by
  refine if_pos ?_
  generalize s.pass g = u at *
  simpa [st, State.expired, fresh] using due

theorem exec_wakeHoldEnd {k : Nat} (hold : (s.pass g).agr.hold = some k) (due : k + msTk (10 * Pf.nsCfg_WAKEHOLD.of (s.pass g).agr.cfg) ≤ (s.pass g).now) :
    exec (.wakeHoldEnd g) s = .next { s.pass g with agr := { (s.pass g).agr with hold := none } } := by
  show execWakeHoldEnd g s = _
  simp only [execWakeHoldEnd, hold]
  exact congrArg _ (if_pos (decide_eq_true due))

end

/-! ### The buses at c (11 R300) -/

/-- A CAN controller stops, and its buffers are freed into TXFAIL. -/
def CanPort.stops (c : CanPort) : CanPort := { c.failAll with st := .off }

/-- CANn and LINn stop. -/
def State.busStops (s : State) (n : Nat) : State := (s.modCan n CanPort.stops).linStop n

/-- An Ethernet link is asked for sleep. -/
def State.tc10Asks (c : Nat) (s : State) (k : Nat) : State := if (s.ethPort k).link then s.setEth k { s.ethPort k with tc10 := some c } else s

/-- A T1S port stops. -/
def State.speStops (s : State) (k : Nat) : State := s.setSpe k { s.spePort k with beacon := false, csma := false }

/-- The buses of PD6 are released. -/
def State.pd6Released (s : State) : State := if s.pd 6 then (List.range 8).foldl State.busStops s else s

section
variable {s : State} {c : Nat}

theorem State.busStops_net (s : State) (n : Nat) : NetAlone s (s.busStops n) := rfl

theorem State.tc10Asks_net (s : State) (k : Nat) : NetAlone s (s.tc10Asks c k) := by
  unfold State.tc10Asks
  split <;> rfl

theorem State.pd6Released_net : NetAlone s s.pd6Released := by
  unfold State.pd6Released
  split
  · exact .foldl State.busStops_net _
  · exact .refl s

theorem State.pd6Released_eth : s.pd6Released.net.eth = s.net.eth := by
  unfold State.pd6Released
  split
  · exact foldl_read (read := (·.net.eth)) fun _ _ _ => rfl
  · rfl

theorem State.pd6Released_stopped (on : s.pd 6 = true) (n : Fin 8) : (s.pd6Released.canPort n).st = .off ∧ (s.pd6Released.linPort n).run = false := by
  have mem : n.val ∈ List.range 8 := List.mem_range.mpr n.isLt
  unfold State.pd6Released
  rw [if_pos on]
  have can (t : State) (k : Nat) : (t.busStops k).canPort n = if k = n ∧ k < 8 then (t.canPort k).stops else t.canPort n := t.canPort_modCan k n CanPort.stops
  have lin (t : State) (k : Nat) : ((t.busStops k).linPort n).run = if k = n ∧ k < 8 then false else (t.linPort n).run :=
    (congrArg LinPort.run (State.linPort_modLin _ k n _)).trans (apply_ite LinPort.run ..)
  constructor
  · refine foldl_atPort (read := fun t => (t.canPort n).st) List.nodup_range mem State.busStops_net (fun t k other => ?_) fun t _ _ => ?_
    · rw [can, if_neg fun own => other own.1]
    · rw [can, if_pos ⟨rfl, n.isLt⟩, CanPort.stops]
  · refine foldl_atPort (read := fun t => (t.linPort n).run) List.nodup_range mem State.busStops_net (fun t k other => ?_) fun t _ _ => ?_
    · rw [lin, if_neg fun own => other own.1]
    · rw [lin, if_pos ⟨rfl, n.isLt⟩]

theorem State.releaseBuses_on (on : s.pd 5 = true) :
    s.releaseBuses c = (List.range 2).foldl State.speStops ((List.range 2).foldl (State.tc10Asks c) s.pd6Released) :=
  if_pos ((s.pd6Released_net.read (read := (·.pd 5)) fun _ _ => rfl).trans on)

/-- An Ethernet link that is up is asked for sleep at c. -/
theorem State.releaseBuses_asks (on : s.pd 5 = true) (k : Fin 2) (link : (s.ethPort k).link = true) : ((s.releaseBuses c).ethPort k).tc10 = some c := by
  have kept : (s.releaseBuses c).ethPort k = ((List.range 2).foldl (State.tc10Asks c) s.pd6Released).ethPort k := by
    rw [State.releaseBuses_on on]
    exact foldl_read (read := (·.ethPort k)) fun _ _ _ => rfl
  have before : s.pd6Released.ethPort k = s.ethPort k := congrArg (fun v : Vector EthPort 2 => v.toList.getD k {}) s.pd6Released_eth
  have asked : ((List.range 2).foldl (State.tc10Asks c) s.pd6Released).ethPort k = { s.ethPort k with tc10 := some c } := by
    refine foldl_atPort (n := k.val) (read := (·.ethPort k)) List.nodup_range (List.mem_range.mpr k.isLt) State.tc10Asks_net (fun t j other => ?_)
      fun t _ same => ?_
    · unfold State.tc10Asks
      split
      · exact (State.ethPort_setEth ..).trans (if_neg fun own => other own.1)
      · rfl
    · have same' := same.trans before
      unfold State.tc10Asks
      rw [same', if_pos link, State.ethPort_setEth, if_pos ⟨rfl, k.isLt⟩]
  rw [kept, asked]

theorem State.releaseBuses_stopped (on5 : s.pd 5 = true) (on6 : s.pd 6 = true) (n : Fin 8) :
    ((s.releaseBuses c).canPort n).st = .off ∧ ((s.releaseBuses c).linPort n).run = false := by
  have kept {α : Type} (read : State → α) (eth : ∀ t k e, read (State.setEth t k e) = read t) (spe : ∀ t k x, read (State.setSpe t k x) = read t) :
      read (s.releaseBuses c) = read s.pd6Released := by
    rw [State.releaseBuses_on on5]
    refine (foldl_read fun _ _ _ => spe ..).trans (foldl_read fun t k _ => ?_)
    unfold State.tc10Asks
    split
    · exact eth ..
    · rfl
  rw [kept (·.canPort n) (fun _ _ _ => rfl) fun _ _ _ => rfl, kept (·.linPort n) (fun _ _ _ => rfl) fun _ _ _ => rfl]
  exact State.pd6Released_stopped on6 n

end

/-! ### The commit (11 R300) -/

/-- Step 5 waits for the answer to a request for sleep. -/
theorem State.netGoOn_waits {s : State} (k : Fin 2) (asked : (s.ethPort k).tc10.isSome = true) : s.netGoOn = s := by
  have waits : (List.range 2).all (fun k => (s.ethPort k).tc10.isNone) = false :=
    List.all_eq_false.mpr ⟨k, List.mem_range.mpr k.isLt, by simpa [Option.isSome_iff_ne_none] using asked⟩
  unfold State.netGoOn
  split
  · rw [waits, Bool.and_false, if_neg Bool.false_ne_true]
  · rfl

/-- The entry that a network commit at c begins. -/
def State.netEntry (s : State) (c : Nat) : Entry := ⟨2 + s.pf Pf.nsCfg_TARGET, none, false, 4, c, s.clk.aon, true, false⟩

/-- What tick c of an entry leaves of the agreement and the networks, and what it does to the power states. -/
structure ArmsOnly (s : State) (e : Entry) (t : State) : Prop where
  pwr : t.pwr = { s.pwr with entry := some { e with step := 4, cAon := s.clk.aon } }
  agr : s.agr.SameButRuns t.agr
  net : t.net = s.net
  lgd : t.lgd = s.lgd

theorem State.armAt_armsOnly (s : State) (e : Entry) : ArmsOnly s e (s.armAt e) := by
  unfold State.armAt
  extract_lets v w x y
  have told : Only [.atlas, .load, .iso, .svy, .evs, .ilr, .ctl] v w := by
    unfold w
    split
    · exact State.complete_only (.refl ..) (by decide)
    · exact .refl ..
  have saved : Only [.atlas, .load, .iso, .svy, .evs, .ilr, .ctl] v x := State.saveInputs_only told (by decide)
  have released : Only [.atlas, .load, .iso, .svy, .evs, .ilr, .ctl] v y := .ite (State.release_only saved (by decide)) saved
  have closed : Only [.atlas, .par, .svy, .evs, .ctl] y.wmEndAll (y.wmEndAll.startSurvey (e.target = 3)).closeAll :=
    State.closeAll_only (State.startSurvey_only (.refl ..) (by decide)) (by decide)
  have all : Only [.atlas, .par, .load, .iso, .svy, .agr, .evs, .ilr, .ctl] v (y.wmEndAll.startSurvey (e.target = 3)).closeAll :=
    (State.wmEndAll_only ((Only.refl _ v).after released (by decide)) (by decide)).after closed (by decide)
  refine ⟨all.same .pwr (by decide), ?_, all.same .net (by decide), all.same .lgd (by decide)⟩
  rw [closed.same .agr (by decide)]
  exact (released.same .agr (by decide) : y.agr = s.agr) ▸ State.wmEndAll_agr

/-- The agreement has committed, at AON count `aon`. -/
def Agree.commits (a : Agree) (aon : Nat) : Agree := { a with st := .committing, commit := some aon }

/-- What a commit at c leaves of a state in which an Ethernet link is up. -/
structure Committed (s : State) (c : Nat) (k : Fin 2) (t : State) : Prop where
  entry : t.pwr.entry = some (s.netEntry c)
  agr : (s.agr.commits s.clk.aon).SameButRuns t.agr
  asked : (t.ethPort k).tc10 = some c
  stopped : s.pd 6 = true → ∀ n : Fin 8, (t.canPort n).st = .off ∧ (t.linPort n).run = false
  lgd : t.lgd = s.lgd

/-- Tick c of a network commit: the agreement commits, and the entry is armed. -/
def State.armNet (s : State) (c : Nat) : State :=
  (s.modAgr (fun a => a.commits s.clk.aon)).armAt (s.netEntry c)

theorem State.armNet_armsOnly (s : State) (c : Nat) : ArmsOnly (s.modAgr (fun a => a.commits s.clk.aon)) (s.netEntry c) (s.armNet c) :=
  State.armAt_armsOnly ..

theorem State.armNet_pwr (s : State) (c : Nat) : (s.armNet c).pwr = { s.pwr with entry := some (s.netEntry c) } := (s.armNet_armsOnly c).pwr

theorem State.armNet_agr (s : State) (c : Nat) : (s.agr.commits s.clk.aon).SameButRuns (s.armNet c).agr := (s.armNet_armsOnly c).agr

/-- Before tick c the state is saved, unless it was in the wait, and jobs are cancelled; then the buses are released. -/
theorem State.commitSleep_stages (s : State) (c : Nat) : ∃ w, Only [.atlas, .acc, .svy, .evs, .boot, .fw, .ctl] s w ∧
    s.commitSleep c = ((w.armNet c).releaseBuses c).netGoOn :=
  ⟨_, State.cancelJobs_only (.ite (.refl ..) (State.saveState_only (.refl ..) (by decide))) (by decide), rfl⟩

theorem State.commitSleep_committed {s : State} {c : Nat} {k : Fin 2} (on : s.pd 5 = true) (link : (s.ethPort k).link = true) :
    Committed s c k (s.commitSleep c) := by
  obtain ⟨w, prepared, commit⟩ := s.commitSleep_stages c
  have clk : w.clk = s.clk := prepared.same .clk (by decide)
  have entry : w.netEntry c = s.netEntry c := by simp only [State.netEntry, State.pf_of_par (prepared.same .par (by decide)), clk]
  have pwr : (w.armNet c).pwr = { s.pwr with entry := some (s.netEntry c) } := by
    rw [State.armNet_pwr, entry, prepared.same .pwr (by decide)]
  have pd (p : Nat) : (w.armNet c).pd p = s.pd p := by rw [State.pd, pwr, State.pd]
  have net : (w.armNet c).net = s.net := (w.armNet_armsOnly c).net.trans (prepared.same .net (by decide))
  have eth : (w.armNet c).ethPort k = s.ethPort k := by rw [State.ethPort, net, State.ethPort]
  have asked : (((w.armNet c).releaseBuses c).ethPort k).tc10 = some c := State.releaseBuses_asks ((pd 5).trans on) k ((congrArg EthPort.link eth).trans link)
  have released : Only [.net] (w.armNet c) ((w.armNet c).releaseBuses c) := State.releaseBuses_only (.refl ..) (by decide)
  rw [commit, State.netGoOn_waits k (by rw [asked]; rfl)]
  refine ⟨?_, ?_, asked, fun on6 => State.releaseBuses_stopped ((pd 5).trans on) ((pd 6).trans on6), ?_⟩
  · rw [released.same .pwr (by decide), pwr]
  · have agr := w.armNet_agr c
    rw [clk, prepared.same .agr (by decide)] at agr
    rw [released.same .agr (by decide)]
    exact agr
  · exact (released.same .lgd (by decide)).trans ((w.armNet_armsOnly c).lgd.trans (prepared.same .lgd (by decide)))

/-! ### The end of the wait, and a false wake (11 R295, R301, R305) -/

section
variable {s : State} {g : Lapse} {k j : Fin 2}

/-- A commit that is not possible: the timeout restarts at its tick. -/
def State.commitFails (s : State) (c b : Nat) : State :=
  let t := (s.agrNormalAt c).agrEvent 0x42 b
  if s.agr.linSlept then t.linWakeups else t

theorem State.commitFails_only (s : State) (c b : Nat) : Only [.atlas, .net, .evs, .ctl] (s.agrNormalAt c) (s.commitFails c b) :=
  Only.after (State.agrEvent_only (.refl ..) (by decide)) (State.linWakeups_if s.agr.linSlept) (by decide)

/-- The wait is over: a request aborts it, the arm mask may forbid the commit, and else the device commits. -/
theorem exec_readySleepWaitEnd (st : (s.pass g).agr.st = .readySleep) (late : (s.pass g).agr.start + 300000001 ≤ (s.pass g).now)
    (idle : (s.pass g).pwr.entry = none) : exec (.readySleepWaitEnd g) s = .next (
      if (s.pass g).localReq then (s.pass g).agrStay 0xFFFFFFFF
      else (s.pass g).commitBlock.elim ((s.pass g).commitSleep ((s.pass g).agr.start + 300000000))
        ((s.pass g).commitFails ((s.pass g).agr.start + 300000000))) := by
  show execReadySleepWaitEnd g s = _
  unfold execReadySleepWaitEnd
  generalize s.pass g = u at *
  rw [apply_ite Host.Outcome.next]
  refine (if_pos (by simp [st, State.expired, late, idle])).trans ?_
  cases u.commitBlock <;> rfl

/-- A wake was false (R305): the Legend marks and counts it, and its source is kept to be reported. -/
def State.wokeFalsely (s : State) : State :=
  let first := s.lgd.hist.toList.headD {}
  { s with
    agr := { s.agr with falseSrc := some s.agr.wakeSrc }
    lgd := { s.lgd with
      falses := satInc 0xFFFF s.lgd.falses
      last := { s.lgd.last with word := s.lgd.last.word ||| 0x400 }
      hist := s.lgd.hist.setIfInBounds 0 { first with word := first.word ||| 0x400 } } }

/-- A wake check is over, with no request and nothing that forbids the commit. -/
theorem exec_falseWakeTimeout (st : (s.pass g).agr.st = .wakeCheck) (late : (s.pass g).agr.start + (s.pass g).agrFwTmo + 1 ≤ (s.pass g).now)
    (idle : (s.pass g).pwr.entry = none) (free : (s.pass g).localReq = false) (able : (s.pass g).commitBlock = none) :
    exec (.falseWakeTimeout g) s = .next ((s.pass g).wokeFalsely.commitSleep ((s.pass g).agr.start + (s.pass g).agrFwTmo)) := by
  show execFalseWakeTimeout g s = _
  unfold execFalseWakeTimeout
  generalize s.pass g = u at *
  refine (if_pos (by simpa [st, State.expired, idle, ← Nat.add_assoc] using late)).trans ((if_neg (Bool.eq_false_iff.mp free)).trans ?_)
  simp only [able]
  rfl

/-- A link whose request for sleep has ended. -/
def EthPort.slept (e : EthPort) : EthPort := { e with tc10 := none, silent := true, link := false }

/-- While the other link has not answered, step 5 does not begin. -/
theorem State.netGoOn_other {e : EthPort} (other : j ≠ k) (asked : (s.ethPort j).tc10.isSome = true) : (s.setEth k e).netGoOn = s.setEth k e := by
  refine State.netGoOn_waits j ?_
  rw [State.ethPort_setEth, if_neg fun own => other (Fin.ext own.1.symm)]
  exact asked

theorem exec_tc10SleepAck {x : Nat} (other : j ≠ k) (waits : ((s.pass g).ethPort j).tc10.isSome = true) (asked : ((s.pass g).ethPort k).tc10 = some x) :
    exec (.tc10SleepAck g k) s = .next ((s.pass g).setEth k ((s.pass g).ethPort k).slept) := by
  refine congrArg Host.Outcome.next ((if_pos ?_).trans (State.netGoOn_other other waits))
  rw [asked]
  rfl

theorem exec_tc10SleepAckTimeout {x : Nat} (other : j ≠ k) (waits : ((s.pass g).ethPort j).tc10.isSome = true)
    (asked : ((s.pass g).ethPort k).tc10 = some x) (late : x + 3200000 ≤ (s.pass g).now) :
    exec (.tc10SleepAckTimeout g k) s = .next ((s.pass g).setEth k ((s.pass g).ethPort k).slept) := by
  show execTc10SleepAckTimeout g k s = _
  unfold execTc10SleepAckTimeout
  simp only [asked]
  exact congrArg Host.Outcome.next ((if_pos (decide_eq_true late)).trans (State.netGoOn_other other waits))

end

/-- Settles O42: the agreement is read off the one step that each command takes, its runs apart; the ports by the step of each, and the commit by
what is left of the agreement, the power states and the networks. -/
theorem sleepAgreement : Obligations.SleepAgreement := by
  intro s g u a
  refine ⟨fun link node reason watched on near => ⟨fun st => ?_, fun st => ?_, fun st => ?_⟩,
    fun st request held due => ⟨fun n i bit runs room => ?_, fun watched on => ?_⟩, fun st free => ?_, fun st late free => ?_, fun st awake due => ?_,
    fun st fresh due => ?_, fun st late idle => ?_,
    fun k j x other waits asked => ?_, fun k st late idle free able on link => ?_, fun k hold due => ?_,
    fun link node r run => ⟨fun unlogged free st long => ?_, fun i logged slot => ?_, fun gap => ?_⟩⟩
  · obtain ⟨t, runs, agr⟩ := keepAliveReceived_agr (reason := reason) watched on near (.inl st) (congrArg State.agr (State.agrStay_normal st))
    refine does_of_run runs ?_
    rw [agr]
    exact ⟨st, rfl, rfl, rfl, rfl⟩
  · obtain ⟨t, runs, agr⟩ := keepAliveReceived_agr (reason := reason) watched on near (.inr (.inl st)) (State.agrStay_readySleep st)
    refine does_of_run runs ?_
    rw [agr]
    exact ⟨rfl, rfl, rfl, rfl, rfl⟩
  · obtain ⟨t, runs, agr⟩ := keepAliveReceived_agr (reason := reason) watched on near (.inr (.inr st)) (congrArg State.agr (State.agrStay_wakeCheck st))
    refine does_of_run runs ?_
    rw [agr]
    exact ⟨rfl, rfl⟩
  · refine does_of_run (exec_keepAliveSend st request held due) ?_
    rw [State.canPort, State.kaSend_net]
    exact congrArg CanPort.tx (State.kaOnCans_queued bit runs room)
  · obtain ⟨sent, start, -⟩ := State.kaSend_sent st watched on
    exact does_of_run (exec_keepAliveSend st request held due) ⟨sent, start⟩
  · exact does_of_run (exec_keepAliveSend_idle st free) rfl
  · exact keepAliveTimeout_waits st late free
  · refine does_of_run (exec_linGoToSleep st awake due) ⟨congrArg (fun b : Agree => { b with linSlept := true }) u.linSleeps_agr, fun n commander => ?_⟩
    have port : (u.linSleeps.modAgr (fun a => { a with linSlept := true })).linPort n = _ := u.linSleeps_port n commander
    rw [port]
    exact ⟨rfl, rfl⟩
  · refine does_of_run (exec_preCommitSave st fresh due) ⟨?_, rfl, fun free => ?_⟩
    · exact congrArg (fun b : Agree => { b with saved := true }) ((State.saveState_only (.refl [.svy, .boot] u) (by decide)).same .agr (by decide))
    · exact u.saveInputs_svy.trans (if_neg (Bool.eq_false_iff.mp free))
  · intro c
    have runs := exec_readySleepWaitEnd st late idle
    refine ⟨fun request => ?_, fun b free block => ?_, fun k free able on5 on6 link => ?_⟩
    · rw [if_pos request] at runs
      refine does_of_run runs ?_
      rw [State.agrStay_readySleep st]
      exact ⟨rfl, rfl, (State.agrStay_only (.refl [.atlas, .net, .agr, .evs, .ctl] u) (by decide)).same .pwr (by decide)⟩
    · rw [if_neg (Bool.eq_false_iff.mp free), block] at runs
      have failed := u.commitFails_only c b
      have agr : (u.commitFails c b).agr = (u.agrNormalAt c).agr := failed.same .agr (by decide)
      exact does_of_run runs ⟨congrArg Agree.st agr, congrArg Agree.start agr, failed.same .pwr (by decide)⟩
    · rw [if_neg (Bool.eq_false_iff.mp free), able] at runs
      obtain ⟨entry, agr, asked, stopped, -⟩ := State.commitSleep_committed (c := c) on5 link
      exact does_of_run runs ⟨congrArg Agree.st agr, congrArg Agree.commit agr, entry, asked, stopped on6⟩
  · exact ⟨does_of_run (exec_tc10SleepAck other waits asked) rfl, fun late => does_of_run (exec_tc10SleepAckTimeout other waits asked late) rfl⟩
  · obtain ⟨-, agr, asked, -, lgd⟩ := State.commitSleep_committed (s := u.wokeFalsely) (c := a.start + u.agrFwTmo) (k := k) on link
    refine does_of_run (exec_falseWakeTimeout st late idle free able) ?_
    rw [agr, lgd]
    exact ⟨rfl, rfl, rfl, rfl, asked⟩
  · exact does_of_run (exec_wakeHoldEnd hold due) rfl
  · obtain ⟨t, runs, par, logged⟩ := waymark_logs run unlogged free st long
    exact does_of_run runs ⟨par, logged⟩
  · exact does_of_run (exec_waymarkMinute run slot logged) rfl
  · exact does_of_run (exec_waymarkRunEnd run gap) ⟨congrArg Agree.runs State.wmEnd_agr, State.wmEnd_par⟩

end Sys2Proof.Machine
end

section
/-!
PROOFS. Moves and their words (14 R363), O55: a word by its fields, the source that SK and the last 18 bits spell, and back.
-/
namespace Sys2Proof.Machine

/-! ### A word by its fields -/

theorem bitsOf_eq (v lo w : Nat) : bitsOf v lo w = v / 2 ^ lo % 2 ^ w := by rw [bitsOf, Nat.shiftRight_eq_div_pow]

theorem bitsOf_lt (v lo w : Nat) : bitsOf v lo w < 2 ^ w := Nat.mod_lt _ (Nat.two_pow_pos w)

/-- A word is its STOP, its reserved bit, DST, SK and the rest. -/
theorem word_of_fields {w : Nat} (h : w < 2 ^ 32) :
    w = flag (w.testBit 31) * 2 ^ 31 + flag (w.testBit 30) * 2 ^ 30 + bitsOf w 20 10 * 2 ^ 20 + (bitsOf w 18 2 * 2 ^ 18 + bitsOf w 0 18) := by
  simp only [bitsOf_eq, flag, Nat.testBit_eq_decide_div_mod_eq, decide_eq_true_eq]
  split <;> split <;> omega

/-- The fields of a word read back what it was put together from. -/
theorem fields_of_word {stop : Bool} {dst sk x : Nat} (hd : dst < 2 ^ 10) (hs : sk < 2 ^ 2) (hx : x < 2 ^ 18) :
    let w := flag stop * 2 ^ 31 + dst * 2 ^ 20 + (sk * 2 ^ 18 + x)
    w < 2 ^ 32 ∧ w.testBit 31 = stop ∧ w.testBit 30 = false ∧ bitsOf w 20 10 = dst ∧ bitsOf w 18 2 = sk ∧ bitsOf w 0 18 = x := by
  intro w
  have bit : flag stop = if stop then 1 else 0 := rfl
  simp only [w, bitsOf_eq, Nat.testBit_eq_decide_div_mod_eq, bit]
  cases stop <;> simp <;> omega

/-! ### The source of a move -/

/-- The source that SK and the last 18 bits of a word spell. -/
def srcOf (sk x : Nat) : Src :=
  if sk = 0 then (if x / 2 ^ 10 = 0 then .port x else .bad)
  else if sk = 1 then .imm (shortImm x) true
  else if sk = 2 then .imm (x * 2 ^ 14) false
  else .bad

theorem moveOf_eq (w : Nat) : moveOf w = ⟨bitsOf w 20 10, srcOf (bitsOf w 18 2) (bitsOf w 0 18),
    w.testBit 30 || decide (srcOf (bitsOf w 18 2) (bitsOf w 0 18) = .bad), w.testBit 31⟩ := by
  have upper : bitsOf w 10 8 = bitsOf w 0 18 / 2 ^ 10 := by simp only [bitsOf_eq]; omega
  have lower : bitsOf w 0 18 / 2 ^ 10 = 0 → bitsOf w 0 10 = bitsOf w 0 18 := by simp only [bitsOf_eq]; omega
  simp only [moveOf, srcOf, upper, Nat.shiftLeft_eq]
  by_cases h : bitsOf w 0 18 / 2 ^ 10 = 0
  · simp only [h, lower h]
  · simp only [h, if_false]

/-- The short immediate of an 18-bit field: the field, raised to the top of the 32 bits where its sign bit is set. -/
theorem shortImm_of_lt {x : Nat} (h : x < 2 ^ 18) : shortImm x = if 2 ^ 17 ≤ x then x + 2 ^ 32 - 2 ^ 18 else x := by
  simp only [shortImm, unsignedOf, signedOf, Nat.mod_eq_of_lt h]
  split <;> omega

/-- The values that a source of a move can have (R363): `Move.legal` of its source. -/
def Src.legal : Src → Prop
  | .port p => p < 1024
  | .imm v true => v < 2 ^ 32 ∧ shortImm (v % 2 ^ 18) = v
  | .imm v false => v < 2 ^ 32 ∧ v % 2 ^ 14 = 0
  | .bad => False

/-- SK and the last 18 bits of a word with a source: the last part of `Move.word`. -/
def Src.code : Src → Nat
  | .port p => p
  | .imm v true => 2 ^ 18 + v % 2 ^ 18
  | .imm v false => 2 * 2 ^ 18 + v / 2 ^ 14
  | .bad => 3 * 2 ^ 18

theorem Move.legal_iff (m : Move) : m.legal ↔ m.dst < 1024 ∧ m.bad = false ∧ m.src.legal := by
  obtain ⟨dst, src, bad, stop⟩ := m
  match src with
  | .port _ | .imm _ true | .imm _ false | .bad => exact Iff.rfl

theorem Move.word_eq (m : Move) : m.word = flag m.stop * 2 ^ 31 + m.dst * 2 ^ 20 + m.src.code := by
  obtain ⟨dst, src, bad, stop⟩ := m
  match src with
  | .port _ | .imm _ true | .imm _ false | .bad => rfl

/-- A legal source is spelt by an SK and 18 bits. -/
theorem Src.legal.spelt {s : Src} (h : s.legal) : ∃ sk x, sk < 2 ^ 2 ∧ x < 2 ^ 18 ∧ s.code = sk * 2 ^ 18 + x ∧ srcOf sk x = s := by
  match s, h with
  | .port p, h =>
    have h : p < 1024 := h
    have small : p / 2 ^ 10 = 0 := by omega
    exact ⟨0, p, by decide, by omega, by simp [Src.code], if_pos small⟩
  | .imm v true, ⟨_, short⟩ => exact ⟨1, v % 2 ^ 18, by decide, Nat.mod_lt _ (by decide), by simp [Src.code], congrArg (Src.imm · true) short⟩
  | .imm v false, ⟨low, upper⟩ =>
    have whole : v / 2 ^ 14 * 2 ^ 14 = v := by omega
    exact ⟨2, v / 2 ^ 14, by decide, by omega, rfl, by simp only [srcOf, whole]; rfl⟩

/-- An SK and 18 bits that spell a source spell a legal one, whose code they are. -/
theorem srcOf_legal {sk x : Nat} (hs : sk < 2 ^ 2) (hx : x < 2 ^ 18) (good : srcOf sk x ≠ .bad) :
    (srcOf sk x).legal ∧ (srcOf sk x).code = sk * 2 ^ 18 + x := by
  match sk, hs with
  | 0, _ =>
    by_cases small : x / 2 ^ 10 = 0
    · simp only [srcOf, small, if_true, Src.legal, Src.code]
      omega
    · exact absurd (if_neg small) good
  | 1, _ =>
    have short := shortImm_of_lt hx
    have back : shortImm x % 2 ^ 18 = x := by rw [short]; split <;> omega
    refine ⟨⟨?_, congrArg shortImm back⟩, ?_⟩
    · rw [short]; split <;> omega
    · exact congrArg (2 ^ 18 + ·) back
  | 2, _ =>
    have upper : (x * 2 ^ 14) / 2 ^ 14 = x := Nat.mul_div_cancel _ (by decide)
    exact ⟨⟨by omega, Nat.mul_mod_left ..⟩, congrArg (2 * 2 ^ 18 + ·) upper⟩
  | 3, _ => exact absurd rfl good

/-! ### Moves -/

/-- The word of a legal move decodes to it. -/
theorem moveOf_word {m : Move} (h : m.legal) : m.word < 2 ^ 32 ∧ moveOf m.word = m := by
  obtain ⟨hd, good, legal⟩ := m.legal_iff.mp h
  obtain ⟨sk, x, hs, hx, code, src⟩ := legal.spelt
  obtain ⟨below, stop, reserved, dst, skind, low⟩ := fields_of_word (stop := m.stop) hd hs hx
  have known : m.src ≠ .bad := fun e => by rw [e] at legal; exact legal
  rw [Move.word_eq, code]
  refine ⟨below, ?_⟩
  rw [moveOf_eq, stop, reserved, dst, skind, low, src]
  obtain ⟨d, s, b, p⟩ := m
  subst good
  simpa using known

/-- A word that decodes without a reserved field is that of a legal move. -/
theorem word_moveOf {w : Nat} (h : w < 2 ^ 32) (good : (moveOf w).bad = false) : (moveOf w).legal ∧ (moveOf w).word = w := by
  rw [Move.legal_iff, Move.word_eq]
  rw [moveOf_eq] at good ⊢
  obtain ⟨reserved, known⟩ := Bool.or_eq_false_iff.mp good
  obtain ⟨legal, code⟩ := srcOf_legal (bitsOf_lt w 18 2) (bitsOf_lt w 0 18) (of_decide_eq_false known)
  refine ⟨⟨bitsOf_lt w 20 10, good, legal⟩, ?_⟩
  have whole := word_of_fields h
  rw [reserved] at whole
  exact (congrArg (flag (w.testBit 31) * 2 ^ 31 + bitsOf w 20 10 * 2 ^ 20 + ·) code).trans (by simpa [flag] using whole.symm)

/-- A word with a reserved field decodes with its mark. -/
theorem moveOf_bad {w : Nat} (h : w.testBit 30 = true ∨ bitsOf w 18 2 = 3 ∨ (bitsOf w 18 2 = 0 ∧ bitsOf w 10 8 ≠ 0)) : (moveOf w).bad = true := by
  rcases h with reserved | kind | ⟨kind, upper⟩
  · simp [moveOf, reserved]
  · simp [moveOf, kind]
  · simp [moveOf, kind, upper]

/-- Settles O55: a source by the SK and the 18 bits that spell it, a word by its fields. -/
theorem moveWords : Obligations.MoveWords :=
  ⟨fun _ => moveOf_word, fun _ => word_moveOf, fun _ _ => moveOf_bad⟩

end Sys2Proof.Machine
end

section
/-!
PROOFS. A trigger of a core (14 R365, R379): the core's record, what a trigger does that traps, waits or fires, and a command that is one
trigger; then compare and branch (14 R371, R372), O48.
-/
namespace Sys2Proof.Machine

/-! ### The record of a core -/

theorem coreIx_lt (k : CoreId) : coreIx k < 73 := by
  cases k <;> simp only [coreIx] <;> omega

section
variable {s : State} {i : Nat} {c d : Core}

theorem State.core_setCore_self (h : i < 73) : (s.setCore i c).core i = c := (s.core_setCore i i c).trans (if_pos ⟨rfl, h⟩)

theorem State.setCore_setCore : (s.setCore i c).setCore i d = s.setCore i d := by
  simp [State.setCore, Vector.setIfInBounds_setIfInBounds]

theorem State.modCore_setCore (h : i < 73) (f : Core → Core) : (s.setCore i c).modCore i f = s.setCore i (f c) := by
  rw [State.modCore, State.core_setCore_self h, State.setCore_setCore]

end

/-! ### What a trigger does (14 R365, R379) -/

/-- The core of a trigger that runs: its fence, which nothing holds any more, ends (14 R369). -/
def Core.unfence (c : Core) : Core := { c with fence := false }

/-- Its state. -/
def State.unfence (s : State) (i : Nat) : State := s.modCore i Core.unfence

theorem State.core_unfence {s : State} {i : Nat} (h : i < 73) : (s.unfence i).core i = (s.core i).unfence := State.core_setCore_self h

theorem State.setCore_unfence {s : State} {i : Nat} {d : Core} : (s.unfence i).setCore i d = s.setCore i d := State.setCore_setCore

section
variable {s : State} {i p v : Nat} {short : Bool}

/-- A trigger whose port takes it, whose unit does not wait and that raises no trap starts its unit. -/
theorem State.trigger_fires (run : (s.core i).st = .running) (free : s.fenced i = false) (port : portKind i p = .trigger)
    (ready : s.trigStall i p = false) (calm : s.trigTraps i p v short = []) : s.trigger i p v short = (s.unfence i).fire i p v := by
  simp only [State.trigger, run, free, dstTrap, port, ready, calm, lowestTrap]
  rfl

/-- One that raises traps has no effect but the trap of the lowest cause. -/
theorem State.trigger_traps {t : Trap} (run : (s.core i).st = .running) (free : s.fenced i = false) (port : portKind i p = .trigger)
    (ready : s.trigStall i p = false) (raised : lowestTrap (s.trigTraps i p v short) = some t) :
    s.trigger i p v short = (s.recordTrap i t).trapCore i t false := by
  simp only [State.trigger, run, free, dstTrap, port, ready, raised]
  rfl

/-- Only an access that ended with an error response is recorded. -/
theorem State.recordTrap_of_cause {t : Trap} (cause : t.cause ≠ 6) : s.recordTrap i t = s := by
  simp [State.recordTrap, cause]

/-- The units but the LSU never wait. -/
theorem State.trigStall_of_unit (other : unitOf p ≠ 0x14) : s.trigStall i p = false := by
  simp [State.trigStall, other]

theorem State.trigger_traps_of_cause {t : Trap} (run : (s.core i).st = .running) (free : s.fenced i = false) (port : portKind i p = .trigger)
    (other : unitOf p ≠ 0x14) (cause : t.cause ≠ 6) (raised : lowestTrap (s.trigTraps i p v short) = some t) :
    s.trigger i p v short = s.trapCore i t false := by
  rw [State.trigger_traps run free port (State.trigStall_of_unit other) raised, State.recordTrap_of_cause cause]

end

/-- A command that is one trigger of a core. -/
theorem does_of_trigger {c : Instr} {s t : State} {g : Lapse} {i p v : Nat} {short : Bool} {P : State → Prop}
    (effect : (s.pass g).trigger i p v short = t) (run : exec c s = .next ((s.pass g).trigger i p v short)) (post : P t) : Does c s P :=
  ⟨t, run.trans (congrArg _ effect), post⟩

/-! ### Compare and branch (14 R371, R372) -/

/-- What a branch to a target does: a trap of the target or a transfer that waits for its delay slots. -/
def State.jumps (u : State) (i d : Nat) : State :=
  if d % 4 ≠ 0 then u.trapCore i ⟨2, 0, 0⟩ false else if i ≠ 0 ∧ ownSize i ≤ d then u.trapCore i ⟨4, 0, d⟩ false
  else u.setCore i { u.core i with fence := false, flow := some (.jump d), slots := if i < 5 then 2 else 1 }

section
variable {u : State} {i p v : Nat}

/-- The ports of the branches with a condition and of jmp. -/
theorem portKind_branch (port : p ∈ [0x182, 0x183, 0x184, 0x185, 0x186, 0x187, 0x188]) : portKind i p = .trigger ∧ unitOf p ≠ 0x14 := by
  fin_cases port <;> exact ⟨rfl, by decide⟩

/-- The target of a branch: jmp's is its value. -/
def Core.target (c : Core) (p v : Nat) : Nat := if p = 0x188 then v else c.brT

theorem State.fire_branch (port : p ∈ [0x182, 0x183, 0x184, 0x185, 0x186, 0x187, 0x188]) :
    u.fire i p v = if branchTaken p (u.core i).brA v then u.branch i (.jump ((u.core i).target p v)) else u := by
  fin_cases port <;> rfl

theorem State.trigTraps_branch (port : p ∈ [0x182, 0x183, 0x184, 0x185, 0x186, 0x187, 0x188]) :
    u.trigTraps i p v false = (if (u.core i).slots ≠ 0 then [trapOf 2] else []) ++
      (if branchTaken p (u.core i).brA v then (targetTrap i ((u.core i).target p v)).toList else []) := by
  fin_cases port <;> simp [State.trigTraps, Core.target, branchTaken]

theorem lowestTrap_two (t : Option Trap) (low : ∀ x ∈ t, 2 ≤ x.cause) : lowestTrap (trapOf 2 :: t.toList) = some (trapOf 2) := by
  cases t with
  | none => rfl
  | some x =>
    have above : ¬ x.cause < 2 := Nat.not_lt.mpr (low x rfl)
    simp [lowestTrap, trapOf, above]

theorem targetTrap_cause {t : Nat} : ∀ x ∈ targetTrap i t, x.cause = 2 ∨ x.cause = 4 := by
  intro x hx
  unfold targetTrap at hx
  repeat' split at hx
  all_goals simp_all [trapOf]
  all_goals simp [← hx]

variable (lt : i < 73) (run : (u.core i).st = .running) (free : u.fenced i = false)
include run free

/-- A branch in a delay slot traps, whatever its target. -/
theorem State.trigger_branch_slot (port : p ∈ [0x182, 0x183, 0x184, 0x185, 0x186, 0x187, 0x188]) (slot : (u.core i).slots ≠ 0) :
    u.trigger i p v false = u.trapCore i (trapOf 2) false := by
  obtain ⟨kind, unit⟩ := portKind_branch (i := i) port
  refine State.trigger_traps_of_cause run free kind unit (by decide) ?_
  rw [State.trigTraps_branch port, if_pos slot]
  split
  · exact lowestTrap_two _ fun x hx => by rcases targetTrap_cause x hx with h | h <;> omega
  · rfl

include lt

/-- Outside a delay slot it jumps where its condition holds. -/
theorem State.trigger_branch (port : p ∈ [0x182, 0x183, 0x184, 0x185, 0x186, 0x187, 0x188]) (slot : (u.core i).slots = 0) :
    u.trigger i p v false = if branchTaken p (u.core i).brA v then u.jumps i ((u.core i).target p v) else u.unfence i := by
  obtain ⟨kind, unit⟩ := portKind_branch (i := i) port
  have traps := u.trigTraps_branch (i := i) (v := v) port
  rw [if_neg (not_not.mpr slot), List.nil_append] at traps
  have core : (u.unfence i).core i = (u.core i).unfence := State.core_unfence lt
  by_cases taken : branchTaken p (u.core i).brA v
  · rw [if_pos taken] at traps
    rw [if_pos taken]
    set d := (u.core i).target p v with target
    have raises : ∀ t, targetTrap i d = some t → u.trigger i p v false = u.trapCore i t false := fun t ht => by
      refine State.trigger_traps_of_cause run free kind unit ?_ ?_
      · rcases targetTrap_cause t ht with h | h <;> omega
      · rw [traps, ht]; rfl
    by_cases word : d % 4 = 0
    · by_cases outside : i ≠ 0 ∧ ownSize i ≤ d
      · rw [raises ⟨4, 0, d⟩ (by simp [targetTrap, word, outside])]
        simp [State.jumps, word, outside]
      · have fits : targetTrap i d = none := by simpa [targetTrap, word] using outside
        rw [State.trigger_fires run free kind (State.trigStall_of_unit unit) (by rw [traps, fits]; rfl), State.fire_branch port, core]
        have again : (u.core i).unfence.target p v = d := target
        rw [if_pos (show branchTaken p (u.core i).unfence.brA v = true from taken), again, State.jumps, if_neg (not_not.mpr word), if_neg outside]
        exact State.modCore_setCore lt _
    · rw [raises (trapOf 2) (by simp [targetTrap, word])]
      simp [State.jumps, word, trapOf]
  · rw [if_neg taken] at traps
    rw [if_neg taken, State.trigger_fires run free kind (State.trigStall_of_unit unit) traps, State.fire_branch port, core]
    exact if_neg taken

end

theorem signedOf_toNat (a : Word) : signedOf 32 a.toNat = a.toInt := by
  have lt := a.isLt
  simp only [signedOf, BitVec.toInt_eq_toNat_cond, Nat.mod_eq_of_lt lt]
  split <;> split <;> omega

/-- Settles O48, by what a branch does in a delay slot and outside one. -/
theorem compareAndBranch : Obligations.CompareAndBranch := by
  intro s g k v a b u i c on jumps run free hA hT
  have lt : i < 73 := coreIx_lt k
  have hA : (u.core i).brA = a.toNat := hA
  have hT : (u.core i).brT = b.toNat := hT
  refine ⟨fun slot => ?_, fun slot cmd mem => ?_⟩
  · have branch : ∀ p ∈ [0x182, 0x183, 0x184, 0x185, 0x186, 0x187, 0x188], u.trigger i p v.toNat false =
        if branchTaken p a.toNat v.toNat then jumps (if p = 0x188 then v.toNat else b.toNat) else on := fun p port => by
      rw [State.trigger_branch lt run free port slot, hA, Core.target, hT]
      rfl
    refine ⟨?_, ?_, ?_, ?_, ?_, ?_, ?_⟩
    · refine does_of_trigger (branch 0x182 (by decide)) rfl ?_
      simp [branchTaken, BitVec.toNat_inj]
    · refine does_of_trigger (branch 0x183 (by decide)) rfl ?_
      simp [branchTaken, BitVec.toNat_inj]
    · refine does_of_trigger (branch 0x184 (by decide)) rfl ?_
      simp [branchTaken, signedOf_toNat, BitVec.slt]
    · refine does_of_trigger (branch 0x185 (by decide)) rfl ?_
      simp [branchTaken, signedOf_toNat, BitVec.sle]
    · refine does_of_trigger (branch 0x186 (by decide)) rfl ?_
      simp [branchTaken, BitVec.ult]
    · refine does_of_trigger (branch 0x187 (by decide)) rfl ?_
      simp [branchTaken, BitVec.ule]
    · exact does_of_trigger (branch 0x188 (by decide)) rfl rfl
  · have traps : ∀ p ∈ [0x182, 0x183, 0x184, 0x185, 0x186, 0x187, 0x188], u.trigger i p v.toNat false = u.trapCore i ⟨2, 0, 0⟩ false :=
      fun p port => State.trigger_branch_slot run free port slot
    fin_cases mem
    exacts [does_of_trigger (traps 0x182 (by decide)) rfl rfl, does_of_trigger (traps 0x183 (by decide)) rfl rfl,
      does_of_trigger (traps 0x184 (by decide)) rfl rfl, does_of_trigger (traps 0x185 (by decide)) rfl rfl,
      does_of_trigger (traps 0x186 (by decide)) rfl rfl, does_of_trigger (traps 0x187 (by decide)) rfl rfl,
      does_of_trigger (traps 0x188 (by decide)) rfl rfl]

end Sys2Proof.Machine
end

section
/-!
PROOFS. The arithmetic of a core (14 R368), O45: the results of the ALU and of the MUL unit as operations on 32-bit words, and what a trigger
of either does.
-/
namespace Sys2Proof.Machine

/-! ### Results as 32-bit words -/

theorem w32_eq (x : Int) : w32 x = (BitVec.ofInt 32 x).toNat := by simp [w32, unsignedOf]

/-- An arithmetic shift divides by a power of two, rounding down. -/
theorem w32_div_two_pow (o : Word) (n : Nat) : w32 (o.toInt / 2 ^ n) = (o.sshiftRight n).toNat := by
  rw [w32_eq, BitVec.sshiftRight, Int.shiftRight_eq_div_pow, Nat.cast_pow, Nat.cast_ofNat]

section
variable (o v : Word)

/-- Each result of the ALU is the value of a word (R368). -/
theorem aluResult_words :
    aluResult 1 o.toNat v.toNat = (o + v).toNat ∧ aluResult 2 o.toNat v.toNat = (o - v).toNat ∧ aluResult 3 o.toNat v.toNat = (o &&& v).toNat ∧
    aluResult 4 o.toNat v.toNat = (o ||| v).toNat ∧ aluResult 5 o.toNat v.toNat = (o ^^^ v).toNat ∧
    aluResult 6 o.toNat v.toNat = (o <<< (v.toNat % 32)).toNat ∧ aluResult 7 o.toNat v.toNat = (o >>> (v.toNat % 32)).toNat ∧
    aluResult 8 o.toNat v.toNat = (o.sshiftRight (v.toNat % 32)).toNat ∧
    aluResult 9 o.toNat v.toNat = (if o.sle v then o else v).toNat ∧ aluResult 10 o.toNat v.toNat = (if o.sle v then v else o).toNat ∧
    aluResult 11 o.toNat v.toNat = (if o.ule v then o else v).toNat ∧ aluResult 12 o.toNat v.toNat = (if o.ule v then v else o).toNat := by
  have ho := o.isLt
  have hv := v.isLt
  have value : ∀ (b : Bool) (x y : Word), (if b then x else y).toNat = if b then x.toNat else y.toNat := fun b _ _ => by cases b <;> rfl
  refine ⟨by simp [aluResult], ?_, by simp [aluResult], by simp [aluResult], by simp [aluResult], by simp [aluResult], by simp [aluResult],
    by simp [aluResult, signedOf_toNat, w32_div_two_pow], ?_, ?_, ?_, ?_⟩
  · simp only [aluResult, BitVec.toNat_sub, reduceIte, OfNat.ofNat_ne_one]
    omega
  · rw [value]
    simp [aluResult, signedOf_toNat, BitVec.sle]
  · rw [value]
    simp [aluResult, signedOf_toNat, BitVec.sle]
  · rw [value]
    simp [aluResult, BitVec.ule, Nat.min_def]
  · rw [value]
    simp [aluResult, BitVec.ule, Nat.max_def]

/-- Each result of the MUL unit is the value of a word (R368). -/
theorem mulResult_words :
    mulResult 1 o.toNat v.toNat = (o * v).toNat ∧
    mulResult 2 o.toNat v.toNat = (((o.signExtend 64 * v.signExtend 64) >>> 32).setWidth 32).toNat ∧
    mulResult 3 o.toNat v.toNat = (((o.setWidth 64 * v.setWidth 64) >>> 32).setWidth 32).toNat ∧
    mulResult 4 o.toNat v.toNat = (o.sdiv v).toNat ∧ mulResult 5 o.toNat v.toNat = (o / v).toNat ∧
    mulResult 6 o.toNat v.toNat = (o.srem v).toNat ∧ mulResult 7 o.toNat v.toNat = (o % v).toNat := by
  have ho := o.isLt
  have hv := v.isLt
  refine ⟨(BitVec.toNat_mul ..).symm, ?_, ?_, ?_, (BitVec.toNat_udiv ..).symm, ?_, (BitVec.toNat_umod ..).symm⟩
  · show w32 (signedOf 32 o.toNat * signedOf 32 v.toNat / 2 ^ 32) = _
    rw [BitVec.signExtend, BitVec.signExtend, ← BitVec.ofInt_mul, signedOf_toNat, signedOf_toNat]
    simp only [w32, unsignedOf, BitVec.toNat_setWidth, BitVec.toNat_ushiftRight, BitVec.toNat_ofInt, Nat.shiftRight_eq_div_pow]
    generalize o.toInt * v.toInt = x
    omega
  · show o.toNat * v.toNat / 2 ^ 32 = _
    have below : o.toNat * v.toNat < 2 ^ 32 * 2 ^ 32 := Nat.mul_lt_mul'' ho hv
    simp only [BitVec.toNat_setWidth, BitVec.toNat_ushiftRight, BitVec.toNat_mul, Nat.shiftRight_eq_div_pow]
    rw [Nat.mod_eq_of_lt (by omega : o.toNat < 2 ^ 64), Nat.mod_eq_of_lt (by omega : v.toNat < 2 ^ 64)]
    generalize o.toNat * v.toNat = x at below
    omega
  · show w32 ((signedOf 32 o.toNat).tdiv (signedOf 32 v.toNat)) = _
    rw [w32_eq, signedOf_toNat, signedOf_toNat]
    exact congrArg BitVec.toNat (BitVec.eq_of_toInt_eq (by rw [BitVec.toInt_ofInt, BitVec.toInt_sdiv]))
  · show w32 ((signedOf 32 o.toNat).tmod (signedOf 32 v.toNat)) = _
    rw [w32_eq, signedOf_toNat, signedOf_toNat, ← BitVec.toInt_srem, BitVec.ofInt_toInt]

end

/-! ### The triggers -/

/-- The number of an ALU. -/
def aluNo : Alu → Nat
  | .alu0 => 0
  | .alu1 => 1

theorem unitOf_ne_lsu {p : Nat} (low : p / 16 ≠ 0x14) (high : p / 16 ≠ 0x15) : unitOf p ≠ 0x14 := by
  simp [unitOf, low, high]

section
variable {u : State} {i k : Nat} {v : Nat} (lt : i < 73) (run : (u.core i).st = .running) (free : u.fenced i = false)
include lt run free

/-- A trigger of an ALU leaves its result. -/
theorem State.trigger_alu {al : Alu} (own : al = .alu0 ∨ i < 5) (op : k ∈ List.range' 1 12) : u.trigger i (aluBase al + k) v false =
    u.setCore i { u.core i with fence := false, aluR := (u.core i).aluR.setIfInBounds (aluNo al) (aluResult k ((u.core i).aluO.toList.getD (aluNo al) 0) v) } := by
  obtain ⟨low, high⟩ : 1 ≤ k ∧ k ≤ 12 := by simp only [List.mem_range'_1] at op; omega
  have kind : portKind i (aluBase al + k) = .trigger := by
    cases al with
    | alu0 => interval_cases k <;> rfl
    | alu1 =>
      have own : i < 5 := own.resolve_left (by decide)
      interval_cases k <;> simp [portKind, aluBase, unitPort, own]
  have unit : unitOf (aluBase al + k) ≠ 0x14 := by
    cases al <;> exact unitOf_ne_lsu (by simp only [aluBase]; omega) (by simp only [aluBase]; omega)
  have calm : u.trigTraps i (aluBase al + k) v false = [] := by
    cases al <;> interval_cases k <;> rfl
  rw [State.trigger_fires run free kind (State.trigStall_of_unit unit) calm]
  cases al with
  | alu0 =>
    have off : (aluBase .alu0 + k) % 16 = k := by simp only [aluBase]; omega
    rw [State.fire, if_pos (by simp only [aluBase]; omega), off]
    exact State.modCore_setCore lt _
  | alu1 =>
    have off : (aluBase .alu1 + k) % 16 = k := by simp only [aluBase]; omega
    rw [State.fire, if_neg (by simp only [aluBase]; omega), if_pos (by simp only [aluBase]; omega), off]
    exact State.modCore_setCore lt _

/-- A trigger of the MUL unit leaves its result. -/
theorem State.trigger_mul (op : k ∈ List.range' 1 7) (own : 4 ≤ k → i < 5 ∧ v ≠ 0) : u.trigger i (0x120 + k) v false =
    u.setCore i { u.core i with fence := false, mulR := mulResult k (u.core i).mulO v } := by
  obtain ⟨low, high⟩ : 1 ≤ k ∧ k ≤ 7 := by simp only [List.mem_range'_1] at op; omega
  have kind : portKind i (0x120 + k) = .trigger := by interval_cases k <;> simp_all [portKind, unitPort]
  have unit : unitOf (0x120 + k) ≠ 0x14 := unitOf_ne_lsu (by omega) (by omega)
  have calm : u.trigTraps i (0x120 + k) v false = [] := by interval_cases k <;> simp_all [State.trigTraps]
  have off : (0x120 + k) % 16 = k := by omega
  rw [State.trigger_fires run free kind (State.trigStall_of_unit unit) calm, State.fire, if_neg (by omega), if_neg (by omega),
    if_pos (by omega), off]
  exact State.modCore_setCore lt _

omit lt

/-- A division by zero traps. -/
theorem State.trigger_div_zero (op : k ∈ List.range' 4 4) (own : i < 5) : u.trigger i (0x120 + k) 0 false = u.trapCore i (trapOf 7) false := by
  obtain ⟨low, high⟩ : 4 ≤ k ∧ k ≤ 7 := by simp only [List.mem_range'_1] at op; omega
  have kind : portKind i (0x120 + k) = .trigger := by interval_cases k <;> simp [portKind, own]
  have unit : unitOf (0x120 + k) ≠ 0x14 := unitOf_ne_lsu (by omega) (by omega)
  have raised : u.trigTraps i (0x120 + k) 0 false = [trapOf 7] := by interval_cases k <;> rfl
  exact State.trigger_traps_of_cause run free kind unit (by decide) (congrArg lowestTrap raised)

end

/-- Settles O45, by what a trigger of each unit leaves and the word that each result is. -/
theorem xitreArithmetic : Obligations.XitreArithmetic := by
  intro s g k al o v u i c n alu mul run free
  have lt : i < 73 := coreIx_lt k
  refine ⟨fun own operand => ?_, fun operand => ?_, fun own => ?_⟩
  · have no : n = aluNo al := by cases al <;> rfl
    have operand : (u.core i).aluO.toList.getD (aluNo al) 0 = o.toNat := no ▸ operand
    have leaves : ∀ j ∈ List.range' 1 12, ∀ r : Word, aluResult j o.toNat v.toNat = r.toNat →
        ∃ t, u.trigger i (aluBase al + j) v.toNat false = t ∧ alu r t := fun j op r result =>
      ⟨_, (State.trigger_alu lt run free own op).trans (by rw [operand, result, ← no]), rfl⟩
    have does : ∀ {c : Instr} {j : Nat} {r : Word}, exec c s = .next (u.trigger i (aluBase al + j) v.toNat false) → j ∈ List.range' 1 12 →
        aluResult j o.toNat v.toNat = r.toNat → Does c s (alu r) := fun runs op result =>
      let ⟨_, effect, post⟩ := leaves _ op _ result
      does_of_trigger effect runs post
    obtain ⟨add, sub, and, or, xor, shl, shr, sar, min, max, minu, maxu⟩ := aluResult_words o v
    exact ⟨does rfl (by decide) add, does rfl (by decide) sub, does rfl (by decide) and, does rfl (by decide) or, does rfl (by decide) xor,
      does rfl (by decide) shl, does rfl (by decide) shr, does rfl (by decide) sar, does rfl (by decide) min, does rfl (by decide) max,
      does rfl (by decide) minu, does rfl (by decide) maxu⟩
  · have operand : (u.core i).mulO = o.toNat := operand
    have does : ∀ {c : Instr} {j : Nat} {r : Word}, exec c s = .next (u.trigger i (0x120 + j) v.toNat false) → j ∈ List.range' 1 7 →
        (4 ≤ j → i < 5 ∧ v.toNat ≠ 0) → mulResult j o.toNat v.toNat = r.toNat → Does c s (mul r) := fun runs op own result =>
      does_of_trigger (State.trigger_mul lt run free op own) runs (by rw [operand, result])
    obtain ⟨low, high, highu, div, divu, rem, remu⟩ := mulResult_words o v
    refine ⟨does rfl (by decide) (by omega) low, does rfl (by decide) (by omega) high, does rfl (by decide) (by omega) highu, fun own nonzero => ?_⟩
    have may : ∀ j, 4 ≤ j → i < 5 ∧ v.toNat ≠ 0 := fun _ _ => ⟨own, fun zero => nonzero (BitVec.eq_of_toNat_eq zero)⟩
    exact ⟨does rfl (by decide) (may 4) div, does rfl (by decide) (may 5) divu, does rfl (by decide) (may 6) rem, does rfl (by decide) (may 7) remu⟩
  · have traps : ∀ j ∈ List.range' 4 4, u.trigger i (0x120 + j) 0 false = u.trapCore i ⟨7, 0, 0⟩ false :=
      fun j op => State.trigger_div_zero run free op own
    exact ⟨does_of_trigger (traps 4 (by decide)) rfl rfl, does_of_trigger (traps 5 (by decide)) rfl rfl,
      does_of_trigger (traps 6 (by decide)) rfl rfl, does_of_trigger (traps 7 (by decide)) rfl rfl⟩

end Sys2Proof.Machine
end

section
/-!
PROOFS. Loads and stores of a core (14 R369, R370), O46: parts of a doubleword, own memory, and what a trigger of the LSU does.
-/
namespace Sys2Proof.Machine

/-! ### Parts of a doubleword -/

theorem leVal_drop (bs : List Byte) (k : Nat) : leVal (bs.drop k) = leVal bs / 256 ^ k := by
  induction k generalizing bs with
  | zero => simp
  | succ k ih =>
    cases bs with
    | nil => simp [leVal]
    | cons b bs =>
      have low := b.isLt
      rw [List.drop_succ_cons, ih, leVal, Nat.pow_succ', ← Nat.div_div_eq_div_mul]
      congr 1
      omega

theorem leVal_take (bs : List Byte) (k : Nat) : leVal (bs.take k) = leVal bs % 256 ^ k := by
  induction k generalizing bs with
  | zero => simp [leVal, Nat.mod_one]
  | succ k ih =>
    cases bs with
    | nil => simp [leVal]
    | cons b bs =>
      have low := b.isLt
      have first : (b.toNat + 256 * leVal bs) % 256 = b.toNat := by omega
      have rest : (b.toNat + 256 * leVal bs) / 256 = leVal bs := by omega
      rw [List.take_succ_cons, leVal, leVal, ih, Nat.pow_succ', Nat.mod_mul, first, rest]

/-- A field of whole bytes of a value is the value of those bytes. -/
theorem State.bitsOf_bytesAt (s : State) {a m k n : Nat} (inside : k + n ≤ m) : bitsOf (s.bytesAt a m) (8 * k) (8 * n) = s.bytesAt (a + k) n := by
  have pow : ∀ j, 2 ^ (8 * j) = 256 ^ j := fun j => by rw [pow_mul]; norm_num
  have part : (((List.range m).map (fun i => s.byteAt (a + i))).drop k).take n = (List.range n).map (fun i => s.byteAt (a + k + i)) := by
    apply List.ext_getElem
    · simp; omega
    · intro j _ _
      simp [Nat.add_assoc]
  rw [bitsOf_eq, pow, pow, State.bytesAt, ← leVal_drop, ← leVal_take, part, State.bytesAt]

theorem State.bytesAt_lt (s : State) (a n : Nat) : s.bytesAt a n < 2 ^ (8 * n) := by
  have lt := leVal_lt ((List.range n).map (fun i => s.byteAt (a + i)))
  rwa [List.length_map, List.length_range] at lt

theorem State.bytesAt_one (s : State) (a : Nat) : s.bytesAt a 1 = (s.byteAt a).toNat := by
  simp [State.bytesAt, leVal]

/-- Reading a part of a doubleword that has no error leaves the state. -/
theorem State.memRead_clean {s : State} {port a size : Nat} (clean : synOf (s.synAt (a / 8 * 8)) = .clean) (within : a % 8 + size ≤ 8) :
    s.memRead port a size = (s, 0, s.bytesAt a size) := by
  have part := s.bitsOf_bytesAt (a := a / 8 * 8) within
  rw [Nat.div_add_mod' a 8] at part
  simp [State.memRead, State.readDw, clean, part]

/-- A sign extension to 32 bits. -/
theorem unsignedOf_signedOf (w x : Nat) : unsignedOf 32 (signedOf w x) = ((BitVec.ofNat w x).signExtend 32).toNat := by
  have same : signedOf w x = (BitVec.ofNat w x).toInt := by
    rw [BitVec.toInt_eq_msb_cond, BitVec.msb_eq_decide, BitVec.toNat_ofNat]
    simp only [signedOf, decide_eq_true_eq]
    split <;> push_cast <;> rfl
  rw [same, BitVec.signExtend, BitVec.toNat_ofInt, unsignedOf]
  norm_cast

/-! ### Own memory (14 R369, R382) -/

section
variable {s : State} {i a size v : Nat}

/-- The own memory of a core is not system SRAM, where an injection may strike. -/
theorem regionOf_ne_of_isOwn (own : isOwn i a = true) {x : Nat} (dw : x / 8 = a / 8) : regionOf x ≠ some 0 := by
  intro sram
  obtain ⟨low, high⟩ := bounds_of_regionOf_zero sram
  have base : 0x20000000 ≤ ownBase i := by unfold ownBase; split <;> [skip; split <;> [skip; split]] <;> omega
  simp only [isOwn, Bool.and_eq_true, decide_eq_true_eq] at own
  omega

theorem State.writeDw_outside {d : Nat} (outside : regionOf a ≠ some 0) : s.writeDw a d = s.storeRaw a d (eccOf d) := by
  simp [State.writeDw, outside]

/-- A write of own memory stores its bytes. -/
theorem State.memWrite_own {port : Nat} (v : Nat) (own : isOwn i a = true) (al : aligned a size = true) (clean : synOf (s.synAt (a / 8 * 8)) = .clean) :
    ∃ x d c, s.memWrite port a size v = (s.storeRaw x d c, 0) ∧ Stores s (s.storeRaw x d c) a size v := by
  rcases aligned_within al with ⟨rfl, whole⟩ | ⟨small, within⟩
  · refine ⟨a, v, eccOf v, ?_, s.stores_storeRaw a v _⟩
    simp [State.memWrite, State.writeDw_outside (regionOf_ne_of_isOwn own rfl)]
  · have outside : regionOf (a / 8 * 8) ≠ some 0 := regionOf_ne_of_isOwn own (by omega)
    have merged : s.memWrite port a size v =
        (s.writeDw (a / 8 * 8) (putBits (s.bytesAt (a / 8 * 8) 8) (8 * (a % 8)) (8 * size) v), 0) := by
      simp [State.memWrite, Nat.ne_of_lt small, State.readDw, clean]
    rw [State.writeDw_outside outside] at merged
    exact ⟨_, _, _, merged, s.stores_merged v _ within⟩

/-- An application core's own memory is in its sandbox, and the other cores have none. -/
theorem State.accTrap_none {write : Bool} (al : a % size = 0) (box : isA i = true → s.sandboxOk (i - 1) a write = true) : s.accTrap i a size write = none := by
  by_cases app : isA i = true
  · simp [State.accTrap, box app, al]
  · simp [State.accTrap, app, al]

theorem State.sandboxOk_of_own {write : Bool} (own : isOwn i a = true) (app : isA i = true) : s.sandboxOk (i - 1) a write = true := by
  have no : 1 + (i - 1) = i := by simp only [isA, Bool.and_eq_true, decide_eq_true_eq] at app; omega
  simp [State.sandboxOk, no, own]

end

/-! ### A trigger of the LSU -/

section
variable {u : State} {i p v : Nat}

/-- The ports of the loads and stores. -/
theorem portKind_lsu (low : 0x142 ≤ p) (high : p ≤ 0x14E) : portKind i p = .trigger := by interval_cases p <;> rfl

theorem State.fire_lsu (low : 0x142 ≤ p) (high : p ≤ 0x14E) : u.fire i p v = u.fireLsu i p v := by interval_cases p <;> rfl

theorem State.trigTraps_lsu (low : 0x142 ≤ p) (high : p ≤ 0x14D) :
    u.trigTraps i p v false = (u.accTrap i v (lsuShape p).1 (lsuShape p).2).toList := by interval_cases p <;> rfl

variable (lt : i < 73) (run : (u.core i).st = .running) (free : u.fenced i = false) (load : (u.core i).ldWait = none) (ex : (u.core i).exWait = false)

include load ex in
/-- The LSU waits for nothing but room for a store. -/
theorem State.trigStall_lsu (room : 0x148 ≤ p → p ≤ 0x14B → ((u.pendingReqs i).filter (·.write)).length < 8) : u.trigStall i p = false := by
  have full : (0x148 ≤ p && p ≤ 0x14B && 8 ≤ ((u.pendingReqs i).filter (·.write)).length) = false := by
    by_cases store : 0x148 ≤ p ∧ p ≤ 0x14B
    · simp [room store.1 store.2]
    · simpa [Nat.not_le] using fun low high => absurd ⟨low, high⟩ store
  simp [State.trigStall, load, ex, full]

include run free load ex in
theorem State.trigger_lsu (low : 0x142 ≤ p) (high : p ≤ 0x14D) (room : 0x148 ≤ p → p ≤ 0x14B → ((u.pendingReqs i).filter (·.write)).length < 8)
    (calm : u.accTrap i v (lsuShape p).1 (lsuShape p).2 = none) : u.trigger i p v false = (u.unfence i).fireLsu i p v := by
  rw [State.trigger_fires run free (portKind_lsu low (by omega)) (State.trigStall_lsu load ex room) (by rw [State.trigTraps_lsu low high, calm]; rfl),
    State.fire_lsu low (by omega)]

end

/-- A load that returns, in a core that waits for no other. -/
theorem Core.loaded_ok {c : Core} {w : LdWait} {d r rh : Nat} (load : c.ldWait = none) (low : w.value d = r)
    (high : (if w.size = 8 then d / 2 ^ 32 % 2 ^ 32 else c.lsuRh) = rh) : c.loaded w 0 d = { c with lsuR := r, lsuRh := rh } := by
  subst low high
  exact (congrArg (fun x => { c with ldWait := x, lsuR := w.value d, lsuRh := if w.size = 8 then d / 2 ^ 32 % 2 ^ 32 else c.lsuRh }) load).symm

theorem State.loadFrom_own {s : State} {i a size : Nat} {sgn : Bool} (lt : i < 73) (own : isOwn i a = true)
    (clean : synOf (s.synAt (a / 8 * 8)) = .clean) (within : a % 8 + size ≤ 8) :
    s.loadFrom i a size sgn false =
      s.setCore i (Core.loaded { s.core i with ldErr := none } ⟨a, size, sgn, false⟩ 0 (s.bytesAt a size)) := by
  have read : (s.modCore i (fun c => { c with ldErr := none })).memRead 9 a size = (s.modCore i (fun c => { c with ldErr := none }), 0, s.bytesAt a size) :=
    State.memRead_clean clean within
  simp only [State.loadFrom, own, Bool.not_false, Bool.and_self, if_true, read]
  exact State.modCore_setCore lt _

theorem State.storeTo_own {s : State} {i a size v : Nat} (own : isOwn i a = true) (al : aligned a size = true)
    (clean : synOf (s.synAt (a / 8 * 8)) = .clean) :
    ∃ x d c, s.storeTo i a size v false = s.storeRaw x d c ∧ Stores s (s.storeRaw x d c) a size v := by
  obtain ⟨x, d, c, stored, stores⟩ := State.memWrite_own (port := 9) v own al clean
  exact ⟨x, d, c, by simp [State.storeTo, own, stored], stores⟩

/-- A trigger that loads from own memory. -/
theorem State.trigger_load_own {u : State} {i p a size r rh : Nat} {sgn : Bool} (lt : i < 73) (run : (u.core i).st = .running)
    (free : u.fenced i = false) (load : (u.core i).ldWait = none) (ex : (u.core i).exWait = false) (own : isOwn i a = true)
    (clean : synOf (u.synAt (a / 8 * 8)) = .clean) (low : 0x142 ≤ p) (high : p ≤ 0x147) (shape : lsuShape p = (size, false))
    (sign : decide (p = 0x143 ∨ p = 0x145) = sgn) (al : aligned a size = true) (lsuR : LdWait.value ⟨a, size, sgn, false⟩ (u.bytesAt a size) = r)
    (lsuRh : (if size = 8 then u.bytesAt a size / 2 ^ 32 % 2 ^ 32 else (u.core i).lsuRh) = rh) :
    u.trigger i p a false = u.setCore i { (u.core i).unfence with ldErr := none, lsuR := r, lsuRh := rh } := by
  have within : a % 8 + size ≤ 8 := by rcases aligned_within al with h | h <;> omega
  have mod : a % size = 0 := by simp only [aligned, Bool.and_eq_true, decide_eq_true_eq] at al; exact al.2
  have calm : u.accTrap i a (lsuShape p).1 (lsuShape p).2 = none := by
    rw [shape]
    exact State.accTrap_none mod (State.sandboxOk_of_own own)
  rw [State.trigger_lsu run free load ex low (by omega) (by omega) calm]
  have fire : (u.unfence i).fireLsu i p a = (u.unfence i).loadFrom i a size sgn false := by
    have fence : p ≠ 0x14E := by omega
    have excl : p ≠ 0x14C := by omega
    simp [State.fireLsu, shape, ← sign, fence, excl]
  have taken : Core.loaded { (u.core i).unfence with ldErr := none } ⟨a, size, sgn, false⟩ 0 (u.bytesAt a size) =
      { (u.core i).unfence with ldErr := none, lsuR := r, lsuRh := rh } := Core.loaded_ok load lsuR lsuRh
  rw [fire, State.loadFrom_own (s := u.unfence i) lt own clean within, State.core_unfence lt, State.setCore_unfence]
  exact congrArg (u.setCore i) taken


/-- A value that a store keeps of the two data ports. -/
theorem storeVal {d dh n : Nat} (size : n = 1 ∨ n = 2 ∨ n = 4 ∨ n = 8) :
    (d + (if n = 8 then dh * 2 ^ 32 else 0)) % 2 ^ (8 * n) = (d + dh * 2 ^ 32) % 2 ^ (8 * n) := by
  obtain rfl | rfl | rfl | rfl := size
  · simp; omega
  · simp; omega
  · simp
  · simp

theorem Stores.of_mod {s t : State} {a n v : Nat} (h : Stores s t a n (v % 2 ^ (8 * n))) : Stores s t a n v := by
  refine ⟨fun k hk => (h.1 k hk).trans (ofNat_div_congr fun i hi => ?_), h.2⟩
  rw [Nat.testBit_mod_two_pow]
  simp only [Bool.and_eq_right_iff_imp, decide_eq_true_eq]
  omega

/-- A trigger that stores to own memory. -/
theorem State.trigger_store_own {u : State} {i p a size : Nat} (run : (u.core i).st = .running)
    (free : u.fenced i = false) (load : (u.core i).ldWait = none) (ex : (u.core i).exWait = false) (own : isOwn i a = true)
    (clean : synOf (u.synAt (a / 8 * 8)) = .clean) (low : 0x148 ≤ p) (high : p ≤ 0x14B) (shape : lsuShape p = (size, true))
    (al : aligned a size = true) (room : ((u.pendingReqs i).filter (·.write)).length < 8) (lt : i < 73) :
    ∃ x d c, u.trigger i p a false = (u.unfence i).storeRaw x d c ∧
      Stores u ((u.unfence i).storeRaw x d c) a size ((u.core i).lsuD + (u.core i).lsuDh * 2 ^ 32) := by
  have mod : a % size = 0 := by simp only [aligned, Bool.and_eq_true, decide_eq_true_eq] at al; exact al.2
  have width : size = 1 ∨ size = 2 ∨ size = 4 ∨ size = 8 := by
    simp only [aligned, Bool.and_eq_true, Bool.or_eq_true, decide_eq_true_eq] at al
    omega
  have calm : u.accTrap i a (lsuShape p).1 (lsuShape p).2 = none := by
    rw [shape]
    exact State.accTrap_none mod (State.sandboxOk_of_own own)
  rw [State.trigger_lsu run free load ex (by omega) (by omega) (fun _ _ => room) calm]
  have fire : (u.unfence i).fireLsu i p a =
      (u.unfence i).storeTo i a size (((u.core i).lsuD + (u.core i).lsuDh * 2 ^ 32) % 2 ^ (8 * size)) false := by
    have fence : p ≠ 0x14E := by omega
    have excl : p ≠ 0x14D := by omega
    simp only [State.fireLsu, shape, fence, excl, State.core_unfence lt, storeVal width, decide_false, if_false, if_true]
    rfl
  obtain ⟨x, d, c, stored, stores⟩ := State.storeTo_own (s := u.unfence i) (v := ((u.core i).lsuD + (u.core i).lsuDh * 2 ^ 32) % 2 ^ (8 * size)) own al clean
  exact ⟨x, d, c, fire.trans stored, stores.of_mod⟩

/-! ### Accesses over the fabric (14 R370, 02 R41) -/

/-- Where no older request can be served, none is. -/
theorem State.serveOlder_of_none {s : State} (none' : s.readyReqs false = []) : s.serveOlder = s := by
  unfold State.serveOlder
  cases s.fab.inflight.length with
  | zero => rfl
  | succ n => simp only [State.arbitrate, none', pickReq]

theorem State.core_of_xi {s t : State} (same : t.xi = s.xi) (i : Nat) : t.core i = s.core i := by rw [State.core, State.core, same]

/-- A request of core i to system SRAM is outstanding. -/
theorem State.request_sram {s : State} {r : FabReq} (none' : s.readyReqs false = []) (region : regionOf r.addr = some 0) :
    (s.request r true).xi = s.xi ∧ ∃ e, (s.request r true).fab.inflight = s.fab.inflight ++ [e] ∧ e.req = r ∧ e.stamp = s.now := by
  obtain ⟨lo, hi⟩ := bounds_of_regionOf_zero region
  have local' : inTwin r.addr = false := by simp [inTwin]; omega
  have older := State.serveOlder_of_none none'
  cases early : s.earlyCode r with
  | none =>
    rw [State.request_of_local (by rw [older]; exact early) local', older]
    exact ⟨rfl, _, rfl, rfl, rfl⟩
  | some c =>
    rw [State.request_of_early (by rw [older]; exact early), older]
    exact ⟨rfl, _, rfl, rfl, rfl⟩

/-- A core whose exclusive read of an address waits for its response, and one whose exclusive write does. -/
def Core.readsEx (c : Core) (a : Nat) : Core := { c.unfence with ldErr := none, ldWait := some ⟨a, 4, false, true⟩ }
def Core.writesEx (c : Core) : Core := { c.unfence with exWait := c.exWait || true }

section
variable {u : State} {i a : Nat} (lt : i < 73) (run : (u.core i).st = .running) (free : u.fenced i = false) (load : (u.core i).ldWait = none)
  (ex : (u.core i).exWait = false) (port : i < 5) (al : a % 4 = 0)
include lt run free load ex port al

/-- An exclusive read that its core may make is requested. -/
theorem State.trigger_ldx (box : isA i = true → u.sandboxOk (i - 1) a false = true) : u.trigger i 0x14C a false =
    (u.setCore i ((u.core i).readsEx a)).request ⟨(corePort i).1, (corePort i).2, a, 4, false, 0, true⟩ true := by
  have calm : u.accTrap i a (lsuShape 0x14C).1 (lsuShape 0x14C).2 = none := State.accTrap_none al box
  rw [State.trigger_lsu run free load ex (by decide) (by decide) (by omega) calm]
  show (u.unfence i).loadFrom i a 4 false true = _
  simp only [State.loadFrom, State.unfence, State.modCore, Bool.not_true, Bool.and_false, if_false, Bool.false_eq_true, not_le.mpr port,
    State.setCore_setCore, State.core_setCore_self lt]
  rfl

/-- An exclusive write that its core may make is requested. -/
theorem State.trigger_stx (box : isA i = true → u.sandboxOk (i - 1) a true = true) : u.trigger i 0x14D a false =
    (u.setCore i (u.core i).writesEx).request ⟨(corePort i).1, (corePort i).2, a, 4, true, (u.core i).lsuD % 2 ^ 32, true⟩ true := by
  have calm : u.accTrap i a (lsuShape 0x14D).1 (lsuShape 0x14D).2 = none := State.accTrap_none al box
  rw [State.trigger_lsu run free load ex (by decide) (by decide) (by omega) calm]
  show (u.unfence i).storeTo i a 4 ((((u.unfence i).core i).lsuD + 0) % 2 ^ 32) true = _
  simp only [State.storeTo, State.unfence, State.modCore, Bool.not_true, Bool.and_false, if_false, Bool.false_eq_true, not_le.mpr port,
    State.setCore_setCore, State.core_setCore_self lt, Nat.add_zero]
  rfl

end

/-- Settles O46, by what a load and a store of own memory, an exclusive access, and a trap of the LSU leave. -/
theorem xitreMemory : Obligations.XitreMemory := by
  intro s g k v u i c a own loads stores run free load ex
  have lt : i < 73 := coreIx_lt k
  have small : ∀ n, n ≤ 4 → u.bytesAt a n < 2 ^ 32 := fun n le => (u.bytesAt_lt a n).trans_le (Nat.pow_le_pow_right (by decide) (by omega))
  have returns : ∀ {cmd : Instr} {p size r rh : Nat} {sgn : Bool}, exec cmd s = .next (u.trigger i p a false) → 0x142 ≤ p → p ≤ 0x147 →
      lsuShape p = (size, false) → decide (p = 0x143 ∨ p = 0x145) = sgn → isOwn i a = true → synOf (u.synAt (a / 8 * 8)) = .clean → aligned a size = true →
      LdWait.value ⟨a, size, sgn, false⟩ (u.bytesAt a size) = r → (if size = 8 then u.bytesAt a size / 2 ^ 32 % 2 ^ 32 else c.lsuRh) = rh →
      Does cmd s (loads r rh) := fun runs low high shape sign own clean al lsuR lsuRh =>
    does_of_trigger (State.trigger_load_own lt run free load ex own clean low high shape sign al lsuR lsuRh) runs rfl
  refine ⟨fun ⟨own, clean⟩ => ?_, fun ⟨own, clean⟩ al => ?_, fun ⟨own, clean⟩ al => ?_, fun ⟨own, clean⟩ al => ?_,
    fun data room ⟨own, clean⟩ => ?_, fun app al region idle => ?_, fun ⟨own, clean⟩ al => ?_, ?_⟩
  · have one : aligned a 1 = true := by simp [aligned, Nat.mod_one]
    exact ⟨returns (p := 0x142) (sgn := false) rfl (by decide) (by decide) rfl (by decide) own clean one (Nat.mod_eq_of_lt (small 1 (by decide))) rfl,
      returns (p := 0x143) (sgn := true) rfl (by decide) (by decide) rfl (by decide) own clean one
        ((unsignedOf_signedOf 8 _).trans (by rw [State.bytesAt_one, BitVec.ofNat_toNat, BitVec.setWidth_eq])) rfl⟩
  · have two : aligned a 2 = true := by simp [aligned, al]
    exact ⟨returns (p := 0x144) (sgn := false) rfl (by decide) (by decide) rfl (by decide) own clean two (Nat.mod_eq_of_lt (small 2 (by decide))) rfl,
      returns (p := 0x145) (sgn := true) rfl (by decide) (by decide) rfl (by decide) own clean two (unsignedOf_signedOf 16 _) rfl⟩
  · have four : aligned a 4 = true := by simp [aligned, al]
    exact returns (p := 0x146) (sgn := false) rfl (by decide) (by decide) rfl (by decide) own clean four (Nat.mod_eq_of_lt (small 4 (by decide))) rfl
  · have eight : aligned a 8 = true := by simp [aligned, al]
    have low : u.bytesAt a 8 % 2 ^ 32 = u.bytesAt a 4 := by simpa [bitsOf_eq] using u.bitsOf_bytesAt (a := a) (m := 8) (k := 0) (n := 4) (by decide)
    have high : u.bytesAt a 8 / 2 ^ 32 % 2 ^ 32 = u.bytesAt (a + 4) 4 := by
      simpa [bitsOf_eq] using u.bitsOf_bytesAt (a := a) (m := 8) (k := 4) (n := 4) (by decide)
    exact returns (p := 0x147) (sgn := false) rfl (by decide) (by decide) rfl (by decide) own clean eight low high
  · have does : ∀ {c : Instr} {p size : Nat}, exec c s = .next (u.trigger i p a false) → 0x148 ≤ p → p ≤ 0x14B → lsuShape p = (size, true) →
        aligned a size = true → Does c s (stores size) := fun runs low high shape al => by
      obtain ⟨x, d, c, effect, inside, outside⟩ := State.trigger_store_own run free load ex own clean low high shape al room lt
      exact does_of_trigger effect runs ⟨inside, outside, rfl, rfl⟩
    exact ⟨does (p := 0x148) rfl (by decide) (by decide) rfl (by simp [aligned, Nat.mod_one]),
      fun al => does (p := 0x149) rfl (by decide) (by decide) rfl (by simp [aligned, al]),
      fun al => does (p := 0x14A) rfl (by decide) (by decide) rfl (by simp [aligned, al]),
      fun al => does (p := 0x14B) rfl (by decide) (by decide) rfl (by simp [aligned, al])⟩
  · have box : ∀ {w}, i = 0 ∨ u.sandboxOk (i - 1) a w = true → isA i = true → u.sandboxOk (i - 1) a w = true := fun may app =>
      may.resolve_left (by rintro zero; simp [zero, isA] at app)
    refine ⟨fun may => ?_, fun may => ?_⟩
    · obtain ⟨xi, outstanding⟩ := State.request_sram (s := u.setCore i ((u.core i).readsEx a))
        (r := ⟨(corePort i).1, (corePort i).2, a, 4, false, 0, true⟩) idle region
      have core := (State.core_of_xi xi i).trans (State.core_setCore_self lt)
      exact does_of_trigger (State.trigger_ldx lt run free load ex app al (box may)) rfl ⟨congrArg Core.ldWait core, (congrArg Core.lsuR core).trans rfl, outstanding⟩
    · obtain ⟨xi, outstanding⟩ := State.request_sram (s := u.setCore i (u.core i).writesEx)
        (r := ⟨(corePort i).1, (corePort i).2, a, 4, true, (u.core i).lsuD % 2 ^ 32, true⟩) idle region
      have core := (State.core_of_xi xi i).trans (State.core_setCore_self lt)
      exact does_of_trigger (State.trigger_stx lt run free load ex app al (box may)) rfl
        ⟨(congrArg Core.exWait core).trans (Bool.or_true _), (congrArg Core.lsuEx core).trans rfl, outstanding⟩
  · have raised : lowestTrap (u.trigTraps i 0x146 a false) = some ⟨6, 4, a⟩ := by
      have box : (isA i && !u.sandboxOk (i - 1) a false) = false := by
        by_cases app : isA i = true
        · simp [State.sandboxOk_of_own own app]
        · simp [app]
      have trap : u.accTrap i a 4 false = some ⟨6, 4, a⟩ := by simp [State.accTrap, box, al]
      rw [State.trigTraps_lsu (by decide) (by decide), show lsuShape 0x146 = (4, false) from rfl, trap]
      rfl
    exact does_of_trigger (State.trigger_traps run free (portKind_lsu (by decide) (by decide)) (State.trigStall_lsu load ex (by omega)) raised) rfl rfl
  · have fires := State.trigger_fires (p := 0x14E) (v := a) (short := false) run free (portKind_lsu (by decide) (by decide))
      (State.trigStall_lsu load ex (by omega)) rfl
    exact does_of_trigger fires rfl (State.modCore_setCore (s := u) (c := (u.core i).unfence) lt (fun c => { c with fence := true }))

end Sys2Proof.Machine
end

section
/-!
PROOFS. The other units of a core (14 R366, R377, R378), O49: the checks of the CRC unit, bytes that S reads and writes over the fabric, the
start of a DMA channel, and the triggers of the die and of the valve stage.
-/
namespace Sys2Proof.Machine

/-! ### Triggers that raise no trap -/

section
variable {u : State} {i p v : Nat} {short : Bool}

/-- The units of the die, of the valve stage and of the coprocessor block raise no trap of their own. -/
theorem State.trigTraps_units (unit : 0x200 ≤ p) : u.trigTraps i p v short = [] := by
  have br : ¬ p ≤ 0x18B := by omega
  have mul : ¬ p ≤ 0x127 := by omega
  have lsu : ¬ p ≤ 0x14D := by omega
  have cmp : ¬ p ≤ 0x187 := by omega
  have others : p ≠ 0x188 ∧ p ≠ 0x189 ∧ p ≠ 0x1C1 ∧ p ≠ 0x1C2 ∧ p ≠ 0x1D0 := by omega
  simp [State.trigTraps, br, mul, lsu, cmp, others]

theorem State.trigger_units (run : (u.core i).st = .running) (free : u.fenced i = false) (port : portKind i p = .trigger) (unit : 0x200 ≤ p) :
    u.trigger i p v short = if 0x300 ≤ p then (u.unfence i).fireCo i p v else (u.unfence i).firePlant i p v := by
  rw [State.trigger_fires run free port (State.trigStall_of_unit (unitOf_ne_lsu (by omega) (by omega))) (State.trigTraps_units unit)]
  simp [State.fire, show ¬ p < 0x110 by omega, show ¬ p < 0x120 by omega, show ¬ p < 0x140 by omega, show ¬ p < 0x160 by omega,
    show ¬ p < 0x190 by omega, show p ≠ 0x1C1 by omega, show p ≠ 0x1C2 by omega]

/-- A trigger that changes its core's record alone. -/
theorem State.trigger_core {f : Core → Core} (lt : i < 73) (effect : u.trigger i p v short = (u.unfence i).modCore i f) :
    u.trigger i p v short = u.setCore i (f (u.core i).unfence) := effect.trans (State.modCore_setCore lt f)

end

/-! ### The CRC unit (14 R378) -/

/-- A check after one byte. -/
def Core.crcNext (c : Core) (z b : Nat) : Nat := if c.crcIn = 0 then crcByte z (b % 256) else crc8Byte (z % 256) (b % 256)

theorem Core.crcFeed_eq (c : Core) (b : Nat) : c.crcFeed (b % 256) = { c with crcS := c.crcNext c.crcS b } := by
  unfold Core.crcFeed Core.crcNext
  split <;> rfl

theorem Core.crcFeeds_one (c : Core) (v : Nat) : Core.crcFeeds 1 v c = { c with crcS := c.crcNext c.crcS v } := by
  simp only [Core.crcFeeds, Core.crcFeed_eq]

theorem Core.crcFeeds_two (c : Core) (v : Nat) : Core.crcFeeds 2 v c = { c with crcS := c.crcNext (c.crcNext c.crcS v) (v / 256) } := by
  simp only [Core.crcFeeds, Core.crcFeed_eq]
  rfl

theorem Core.crcFeeds_four (c : Core) (v : Nat) : Core.crcFeeds 4 v c =
    { c with crcS := c.crcNext (c.crcNext (c.crcNext (c.crcNext c.crcS v) (v / 256)) (v / 65536)) (v / 16777216) } := by
  simp only [Core.crcFeeds, Core.crcFeed_eq, Nat.div_div_eq_div_mul]
  rfl

/-! ### Bytes of the memory of S over the fabric (14 R377) -/

/-- S reaches its own memory: the fabric runs, no access is outstanding, and its domain is on and open. -/
structure OwnUp (s : State) : Prop where
  pd3 : s.pd 3 = true
  idle : s.fab.inflight = []
  pd1 : s.pd 1 = true
  isOpen : s.fab.closed.testBit 1 = false

/-- Every byte of a range lies in the memory of S and in a doubleword without an error. -/
def Mine (s : State) (a n : Nat) : Prop := ∀ b, b < n → isOwn 0 (a + b) = true ∧ synOf (s.synAt ((a + b) / 8 * 8)) = .clean

theorem Mine.first {s : State} {a n : Nat} (mine : Mine s a (n + 1)) : isOwn 0 a = true ∧ synOf (s.synAt (a / 8 * 8)) = .clean :=
  mine 0 n.succ_pos

theorem aligned_one (a : Nat) : aligned a 1 = true := by simp [aligned, Nat.mod_one]

theorem regionOf_own {a : Nat} (own : isOwn 0 a = true) : regionOf a = some 2 := by
  simp only [isOwn, ownBase, ownSize, Bool.and_eq_true, decide_eq_true_eq, if_true] at own
  norm_num at own
  simp [regionOf, show ¬ a < 0x20000 by omega, show ¬ a < 0x10800000 by omega, show ¬ a < 0x10804000 by omega, own]

theorem State.serveOlder_of_idle {s : State} (idle : s.fab.inflight = []) : s.serveOlder = s :=
  State.serveOlder_of_none (by simp [State.readyReqs, idle])

/-- An access of S to a byte of its own memory is one of the memory. -/
theorem State.access_own {s : State} {a v : Nat} (up : OwnUp s) (own : isOwn 0 a = true) :
    s.access ⟨0, 0, a, 1, false, v, false⟩ = s.memRead 0 a 1 ∧ s.access ⟨0, 0, a, 1, true, v, false⟩ = ((s.memWrite 0 a 1 v).1, (s.memWrite 0 a 1 v).2, 0) := by
  obtain ⟨pd3, idle, pd1, isOpen⟩ := up
  have region := regionOf_own own
  simp only [isOwn, ownBase, ownSize, Bool.and_eq_true, decide_eq_true_eq, if_true] at own
  norm_num at own
  have notTwin : inTwin a = false := by simp [inTwin]; omega
  have domain : addrDomain a = some 1 := by simp [addrDomain, notTwin, show ¬ 0x40000000 ≤ a by omega, region, memDomain]
  simp [State.access, State.serveOlder_of_idle idle, pd3, State.earlyCode, aligned_one, domain, pd1, isOpen, notTwin, State.target,
    show ¬ 0x40000000 ≤ a by omega, State.memAllowed, State.initiator, region]

theorem leVal_leBytes (n v : Nat) : leVal (leBytes n v) = v % 256 ^ n := by
  induction n generalizing v with
  | zero => simp [leBytes, leVal, Nat.mod_one]
  | succ n ih =>
    rw [leBytes, leVal, ih, Nat.pow_succ', Nat.mod_mul]
    simp

/-- A doubleword reads back whole. -/
theorem State.bytesAt_storeRaw_self (s : State) {a d c : Nat} (h : d < 2 ^ 64) : (s.storeRaw a d c).bytesAt a 8 = d := by
  have bytes : (List.range 8).map (fun i => (s.storeRaw a d c).byteAt (a + i)) = leBytes 8 d := by
    apply List.ext_getElem?
    intro j
    by_cases lt : j < 8
    · rw [getElem?_leBytes d lt, List.getElem?_map, List.getElem?_range lt, Option.map_some, State.byteAt_storeRaw, if_pos (by omega),
        Nat.add_sub_cancel_left]
    · rw [List.getElem?_eq_none (by simpa using lt), List.getElem?_eq_none (by simpa [length_leBytes] using lt)]
  rw [State.bytesAt, bytes, leVal_leBytes]
  exact Nat.mod_eq_of_lt (by simpa using h)

/-- A doubleword stored with its check bits has no error, and every other doubleword stays as it was. -/
theorem State.clean_storeRaw {s : State} {a d y : Nat} (below : d < 2 ^ 64) (region : regionOf a = some 2) (dw : a % 8 = 0) (dw' : y % 8 = 0)
    (clean : synOf (s.synAt y) = .clean) : synOf ((s.storeRaw a d (eccOf d)).synAt y) = .clean := by
  by_cases same : y = a
  · subst same
    have chk : (s.storeRaw y d (eccOf d)).chkAt y = eccOf d := by simp [State.chkAt, region, State.chk_storeRaw]
    rw [State.synAt, State.bytesAt_storeRaw_self s below, chk, Nat.xor_self]
    rfl
  · have bytes : (s.storeRaw a d (eccOf d)).bytesAt y 8 = s.bytesAt y 8 := by
      refine congrArg leVal (List.map_congr_left fun i mem => State.byteAt_storeRaw_out ?_)
      have := List.mem_range.mp mem
      omega
    have chk : (s.storeRaw a d (eccOf d)).chkAt y = s.chkAt y := by
      have kept : kvGet y (s.storeRaw a d (eccOf d)).mem.chk = kvGet y s.mem.chk := kvGet_kvPut_ne _ _ same
      simp only [State.chkAt, bytes, kept]
      rfl
    rw [State.synAt, bytes, chk]
    exact clean

/-- The doubleword with a byte merged into it. -/
theorem putBits_lt {v lo x : Nat} (h : v < 2 ^ 64) (within : lo + 8 ≤ 64) : putBits v lo 8 x < 2 ^ 64 :=
  Nat.lt_pow_two_of_testBit _ fun i hi => by
    rw [testBit_putBits, if_neg (by omega)]
    exact Nat.testBit_lt_two_pow (h.trans_le (Nat.pow_le_pow_right (by decide) hi))

/-- A state with other memories. -/
def State.withMem (s : State) (m : Mem) : State := { s with mem := m }

/-- A byte written to the memory of S changes the memories alone, and leaves every doubleword without an error so. -/
theorem State.memWrite_byte {s : State} {a v : Nat} (own : isOwn 0 a = true) (clean : synOf (s.synAt (a / 8 * 8)) = .clean) :
    ∃ m, s.memWrite 0 a 1 v = (s.withMem m, 0) ∧ Stores s (s.withMem m) a 1 v ∧
      ∀ y, y % 8 = 0 → synOf (s.synAt y) = .clean → synOf ((s.withMem m).synAt y) = .clean := by
  have own' : isOwn 0 (a / 8 * 8) = true := by
    simp only [isOwn, ownBase, ownSize, Bool.and_eq_true, decide_eq_true_eq, if_true] at own ⊢
    norm_num at own ⊢
    omega
  set d := putBits (s.bytesAt (a / 8 * 8) 8) (8 * (a % 8)) (8 * 1) v with merge
  have outside : regionOf (a / 8 * 8) ≠ some 0 := regionOf_ne_of_isOwn own (by omega)
  have merged : s.memWrite 0 a 1 v = (s.writeDw (a / 8 * 8) d, 0) := by simp [State.memWrite, State.readDw, clean, merge]
  rw [State.writeDw_outside outside] at merged
  have below : d < 2 ^ 64 := putBits_lt (s.bytesAt_lt _ 8) (by omega)
  have stores : Stores s (s.storeRaw (a / 8 * 8) d (eccOf d)) a 1 v := s.stores_merged v _ (by omega)
  exact ⟨(s.storeRaw (a / 8 * 8) d (eccOf d)).mem, merged, stores,
    fun y dw clean => State.clean_storeRaw below (regionOf_own own') (Nat.mul_mod_left ..) dw clean⟩

theorem OwnUp.withMem {s : State} (up : OwnUp s) (m : Mem) : OwnUp (s.withMem m) := ⟨up.pd3, up.idle, up.pd1, up.isOpen⟩

/-- S reads a range of its memory. -/
theorem State.bytesFrom_own {s : State} (up : OwnUp s) {n a : Nat} (mine : Mine s a n) (out : List Byte) :
    s.bytesFrom n a out = (s, out ++ (List.range n).map (fun b => s.byteAt (a + b))) := by
  induction n generalizing a out with
  | zero => simp [State.bytesFrom]
  | succ n ih =>
    obtain ⟨own, clean⟩ := mine.first
    have read : s.superAccess a 1 false 0 = (s, 0, s.bytesAt a 1) := by
      simp [State.superAccess, (State.access_own (v := 0) up own).1, State.memRead_clean (port := 0) (size := 1) clean (by omega)]
    have rest : Mine s (a + 1) n := fun b lt => by simpa [Nat.add_assoc, Nat.add_comm 1] using mine (b + 1) (by omega)
    rw [State.bytesFrom, read]
    simp only [ne_eq, not_true, if_false]
    rw [ih rest, State.bytesAt_one, BitVec.ofNat_toNat, BitVec.setWidth_eq, List.range_succ_eq_map]
    simp [Nat.add_assoc, Nat.add_comm 1, Function.comp_def]

/-- S writes a range of its memory: only the memories change, each byte is written and every other byte stays. -/
theorem State.bytesTo_own {s : State} (up : OwnUp s) {a : Nat} {l : List Byte} (mine : Mine s a l.length) :
    ∃ m, s.bytesTo a l = s.withMem m ∧ (∀ b, b < l.length → (s.withMem m).byteAt (a + b) = l.getD b 0) ∧
      ∀ b, b < a ∨ a + l.length ≤ b → (s.withMem m).byteAt b = s.byteAt b := by
  induction l generalizing s a with
  | nil => exact ⟨s.mem, rfl, fun b lt => absurd lt (Nat.not_lt_zero b), fun _ _ => rfl⟩
  | cons x l ih =>
    obtain ⟨own, clean⟩ := mine.first
    obtain ⟨m, stored, ⟨inside, outside⟩, cleans⟩ := State.memWrite_byte (v := x.toNat) own clean
    have write : s.superAccess a 1 true x.toNat = (s.withMem m, 0, 0) := by
      simp [State.superAccess, (State.access_own (v := x.toNat) up own).2, stored]
    have rest : Mine (s.withMem m) (a + 1) l.length := fun b lt => by
      obtain ⟨own, clean⟩ := mine (b + 1) (Nat.succ_lt_succ lt)
      rw [show a + 1 + b = a + (b + 1) by omega]
      exact ⟨own, cleans _ (Nat.mul_mod_left ..) clean⟩
    obtain ⟨m', run, inside', outside'⟩ := ih (up.withMem m) rest
    refine ⟨m', ?_, fun b lt => ?_, fun b out => ?_⟩
    · rw [State.bytesTo, write]
      exact run
    · cases b with
      | zero =>
        refine (outside' a (.inl (by omega))).trans ((inside 0 (by decide)).trans ?_)
        simp
      | succ b =>
        rw [← Nat.add_assoc, Nat.add_right_comm]
        exact inside' b (Nat.lt_of_succ_lt_succ lt)
    · rw [List.length_cons] at out
      exact (outside' b (by omega)).trans (outside b (by omega))

/-- The first access of S to an address that is no target's ends with DECODE. -/
theorem State.access_reserved {s : State} {a v : Nat} {write : Bool} (pd3 : s.pd 3 = true) (idle : s.fab.inflight = []) (reserved : addrDomain a = none) :
    s.superAccess a 1 write v = (s.portErr 1 0 a, 1, 0) := by
  simp [State.superAccess, State.access, State.serveOlder_of_idle idle, pd3, State.earlyCode, aligned_one, reserved]

/-- An error that a running core takes later. -/
theorem State.lateErr_taken {s : State} {i code a : Nat} (run : (s.core i).st = .running) :
    s.lateErr i code a = s.modCore i (fun c => { c with late := c.late ++ [(code, a)] }) := by
  have on : (s.core i).st ≠ .halted := by rw [run]; decide
  exact if_neg on

/-! ### The coprocessors of S (14 R377) -/

/-- The message that a new absorb extends: none after a squeeze. -/
def State.shakeMsg (s : State) : List Byte := if s.xi.shOut = 0 then s.xi.shIn else []

/-- The SHAKE unit after an absorb of bytes, and after a squeeze that leaves so many squeezed. -/
def State.absorbed (s : State) (m : List Byte) : State := { s with xi := { s.xi with shIn := s.shakeMsg ++ m, shOut := 0 } }
def State.squeezed (s : State) (n : Nat) : State := { s with xi := { s.xi with shOut := n } }

/-- The unit leaves a status at its result port. -/
def State.shakeDone (s : State) : State := s.modCore 0 (fun c => { c with shR := (Config.unitResult s.now 0x32F).toNat })

/-- The bytes that a squeeze writes. -/
def State.shakeBytes (s : State) : List Byte :=
  (List.range (s.core 0).shLen).map (fun k => Config.shakeOut (s.core 0).shMode s.xi.shIn (s.xi.shOut + k))

/-- The block that the cipher makes. -/
def State.aesBlock (s : State) : List Byte :=
  leBytes 16 (Config.aesOut (s.core 0).aesKey ((List.range 16).map (fun j => s.byteAt ((s.core 0).aesSrc + j)))).toNat

theorem State.shakeAbsorb_eq {u w : State} {a : Nat} {m : List Byte} (read : u.bytesFrom (u.core 0).shLen a [] = (w, m)) :
    u.shakeAbsorb a = (w.absorbed m).shakeDone := by
  simp only [State.shakeAbsorb, read]
  rfl

theorem State.shakeSqueeze_eq (u : State) (a : Nat) :
    u.shakeSqueeze a = ((u.bytesTo a u.shakeBytes).squeezed (u.xi.shOut + (u.core 0).shLen)).shakeDone := rfl

theorem State.shakeDone_core (s : State) : s.shakeDone.core 0 = { s.core 0 with shR := (Config.unitResult s.now 0x32F).toNat } :=
  State.core_setCore_self (by decide)

theorem State.shakeDone_of_core {s : State} {c : Core} (core : s.core 0 = c) :
    s.shakeDone.core 0 = { c with shR := (Config.unitResult s.now 0x32F).toNat } := by
  rw [State.shakeDone_core, core]

section
variable {u : State} {a : Nat} (up : OwnUp u)
include up

theorem State.shakeAbsorb_own (mine : Mine u a (u.core 0).shLen) :
    u.shakeAbsorb a = (u.absorbed ((List.range (u.core 0).shLen).map (fun b => u.byteAt (a + b)))).shakeDone :=
  State.shakeAbsorb_eq ((State.bytesFrom_own up mine []).trans (by rw [List.nil_append]))

theorem State.shakeSqueeze_own (mine : Mine u a (u.core 0).shLen) :
    ∃ m, u.shakeSqueeze a = ((u.withMem m).squeezed (u.xi.shOut + (u.core 0).shLen)).shakeDone ∧
      (∀ b, b < (u.core 0).shLen → (u.withMem m).byteAt (a + b) = Config.shakeOut (u.core 0).shMode u.xi.shIn (u.xi.shOut + b)) ∧
      ∀ b, b < a ∨ a + (u.core 0).shLen ≤ b → (u.withMem m).byteAt b = u.byteAt b := by
  have len : u.shakeBytes.length = (u.core 0).shLen := by simp [State.shakeBytes]
  obtain ⟨m, write, inside, outside⟩ := State.bytesTo_own (l := u.shakeBytes) up (by rw [len]; exact mine)
  refine ⟨m, (State.shakeSqueeze_eq u a).trans (by rw [write]), fun b lt => (inside b (len ▸ lt)).trans ?_, fun b far => outside b (len ▸ far)⟩
  simp [State.shakeBytes, lt]

theorem State.aesEncrypt_own (source : Mine u (u.core 0).aesSrc 16) (mine : Mine u a 16) :
    ∃ m, u.aesEncrypt a = (u.withMem m).modCore 0 (fun c => { c with aesR := (Config.unitResult u.now 0x33F).toNat }) ∧
      (∀ b, b < 16 → (u.withMem m).byteAt (a + b) = u.aesBlock.getD b 0) ∧ ∀ b, b < a ∨ a + 16 ≤ b → (u.withMem m).byteAt b = u.byteAt b := by
  have read := State.bytesFrom_own up source []
  rw [List.nil_append] at read
  have len : u.aesBlock.length = 16 := length_leBytes 16 _
  obtain ⟨m, write, inside, outside⟩ := State.bytesTo_own (l := u.aesBlock) up (by rw [len]; exact mine)
  refine ⟨m, ?_, fun b lt => inside b (len ▸ lt), fun b far => outside b (len ▸ far)⟩
  simp only [State.aesEncrypt, read, List.length_map, List.length_range, if_true]
  rw [← State.aesBlock, write]
  rfl

/-! The first error response ends a transfer (02 R38). -/

variable (reserved : addrDomain a = none) (some' : 0 < (u.core 0).shLen)
include reserved some'

theorem State.shakeAbsorb_reserved : u.shakeAbsorb a = (((u.portErr 1 0 a).lateErr 0 1 a).absorbed []).shakeDone := by
  obtain ⟨n, len⟩ := Nat.exists_eq_succ_of_ne_zero some'.ne'
  refine State.shakeAbsorb_eq ?_
  rw [len, State.bytesFrom, State.access_reserved up.pd3 up.idle reserved]
  rfl

theorem State.shakeSqueeze_reserved :
    u.shakeSqueeze a = (((u.portErr 1 0 a).lateErr 0 1 a).squeezed (u.xi.shOut + (u.core 0).shLen)).shakeDone := by
  obtain ⟨n, len⟩ := Nat.exists_eq_succ_of_ne_zero some'.ne'
  have write : u.bytesTo a u.shakeBytes = (u.portErr 1 0 a).lateErr 0 1 a := by
    rw [State.shakeBytes, len, List.range_succ_eq_map, List.map_cons, State.bytesTo, State.access_reserved up.pd3 up.idle reserved]
    rfl
  exact (State.shakeSqueeze_eq u a).trans (by rw [write])

end

/-- What the error of a running S changes: its own list and the error record. -/
theorem State.lateErr_keeps {s : State} {code port a e x : Nat} (run : (s.core 0).st = .running) :
    let t := (s.portErr code port a).lateErr 0 e x
    t.xi.shIn = s.xi.shIn ∧ t.xi.shOut = s.xi.shOut ∧ t.dbg = (s.fabErr code port a).dbg ∧ t.mem = s.mem := by
  intro t
  have taken : t = _ := State.lateErr_taken (s := s.portErr code port a) run
  rw [taken]
  exact ⟨rfl, rfl, rfl, rfl⟩

/-- An error of a running core is among those that it takes later. -/
theorem State.late_of_run {s : State} {i code a : Nat} (lt : i < 73) (run : (s.core i).st = .running) : (code, a) ∈ ((s.lateErr i code a).core i).late := by
  rw [State.lateErr_taken run, State.modCore, State.core_setCore_self lt]
  simp

section
variable {s u : State} {a : Nat}

theorem State.late_shakeDone (run : (u.core 0).st = .running) (same : s.core 0 = ((u.portErr 1 0 a).lateErr 0 1 a).core 0) :
    (1, a) ∈ (s.shakeDone.core 0).late := by
  rw [State.shakeDone_of_core same]
  exact State.late_of_run (by decide) run

variable (up : OwnUp u) (reserved : addrDomain a = none) (some' : 0 < (u.core 0).shLen) (run : (u.core 0).st = .running)
include up reserved some' run

/-- The first error ends an absorb: it adds nothing, and the error is recorded and reaches S (14 R377). -/
theorem State.shakeAbsorb_reserved_leaves :
    (u.shakeAbsorb a).xi.shIn = u.shakeMsg ∧ (u.shakeAbsorb a).dbg = (u.fabErr 1 0 a).dbg ∧ (1, a) ∈ ((u.shakeAbsorb a).core 0).late := by
  obtain ⟨inKept, outKept, dbgKept, -⟩ := State.lateErr_keeps (code := 1) (port := 0) (a := a) (e := 1) (x := a) run
  rw [State.shakeAbsorb_reserved up reserved some']
  refine ⟨(List.append_nil _).trans ?_, dbgKept, State.late_shakeDone run rfl⟩
  rw [State.shakeMsg, State.shakeMsg, inKept, outKept]

/-- The first error ends a squeeze: it writes nothing, and the error is recorded and reaches S (14 R377). -/
theorem State.shakeSqueeze_reserved_leaves :
    (u.shakeSqueeze a).mem = u.mem ∧ (u.shakeSqueeze a).dbg = (u.fabErr 1 0 a).dbg ∧ (1, a) ∈ ((u.shakeSqueeze a).core 0).late := by
  obtain ⟨-, -, dbgKept, memKept⟩ := State.lateErr_keeps (code := 1) (port := 0) (a := a) (e := 1) (x := a) run
  rw [State.shakeSqueeze_reserved up reserved some']
  exact ⟨memKept, dbgKept, State.late_shakeDone run rfl⟩

end

/-! ### Starting and stopping a DMA channel (15 R405) -/

/-- A channel keeps its starter, and every other channel its record. -/
def DmaKeeps (s t : State) (n : Nat) : Prop := (t.dmaOf n).starter = (s.dmaOf n).starter ∧ ∀ m, m ≠ n → t.dmaOf m = s.dmaOf m

section
variable {s t w : State} {n : Nat}

theorem DmaKeeps.trans (h : DmaKeeps s t n) (k : DmaKeeps t w n) : DmaKeeps s w n := ⟨k.1.trans h.1, fun m ne => (k.2 m ne).trans (h.2 m ne)⟩

theorem DmaKeeps.of_dma (h : t.dma = s.dma) : DmaKeeps s t n := by
  simp [DmaKeeps, State.dmaOf, h]

theorem DmaKeeps.modDma {f : DmaCh → DmaCh} (h : ∀ c, (f c).starter = c.starter) : DmaKeeps s (s.modDma n f) n := by
  refine ⟨?_, fun m ne => ?_⟩
  · rw [State.dmaOf_modDma]
    split
    · exact h _
    · rfl
  · rw [State.dmaOf_modDma, if_neg (fun same => ne same.1.symm)]

theorem DmaKeeps.halt {code a b c : Nat} (h : DmaKeeps s t n) : DmaKeeps s ((t.dmaHalt n code a).fabErr b 2 c) n :=
  (h.trans (DmaKeeps.modDma (f := fun c => { c with st := 3, code := code, errAddr := a }) (fun _ => rfl))).trans (.of_dma rfl)

/-- Taking a descriptor. -/
theorem State.dmaLoad_keeps (s : State) (n a : Nat) : DmaKeeps s (s.dmaLoad n a) n := by
  unfold State.dmaLoad
  extract_lets taken rd
  have start : DmaKeeps s taken n := .modDma (fun _ => rfl)
  split
  · exact start.halt
  · split
    · exact start.halt
    · have step : ∀ p i, (rd p i).1.dma = p.1.dma := fun p i => by
        unfold rd
        split
        · rfl
        · exact ((State.access_only (.refl _ p.1) (List.Subset.refl _)).fst.same .dma (by decide))
      have reads : ([0, 1, 2, 3].foldl rd (taken, 0, [])).1.dma = taken.dma := by
        simp only [List.foldl_cons, List.foldl_nil, step]
      have fetched : DmaKeeps s ([0, 1, 2, 3].foldl rd (taken, 0, [])).1 n := start.trans (.of_dma reads)
      generalize [0, 1, 2, 3].foldl rd (taken, 0, []) = p at fetched
      obtain ⟨v, e, ws⟩ := p
      dsimp only at fetched ⊢
      split
      · exact fetched.halt
      · have loaded : ∀ d k, DmaKeeps s (v.modDma n (fun c => { c with st := 1, desc := d, left := k })) n :=
          fun _ _ => fetched.trans (.modDma (fun _ => rfl))
        split
        · exact (loaded _ _).halt
        · exact loaded _ _

/-- A core that may use a channel: S, or an application core that is granted it (14 R383). -/
def State.dmaMay (s : State) (i n : Nat) : Prop := i = 0 ∨ (i < 5 ∧ s.granted (i - 1) 6 n = true)

/-- go on a channel that is not busy starts it for the core. -/
theorem State.dmaStart_free {i d : Nat} (n : Fin 32) (may : s.dmaMay i n) (free : (s.dmaOf n).st ≠ 1) :
    ∃ t, s.dmaStart i n d = (t, 0) ∧ (t.dmaOf n).starter = i ∧ ∀ m, m ≠ n.val → t.dmaOf m = s.dmaOf m := by
  have number : n.val % 2 ^ 31 = n := Nat.mod_eq_of_lt (by omega)
  have start : n.val.testBit 31 = false := Nat.testBit_lt_two_pow (by omega)
  have granted : (i ≠ 0 && !s.granted (i - 1) 6 n) = false := by rcases may with zero | ⟨-, yes⟩ <;> simp_all
  obtain ⟨starter, others⟩ := (s.modDma n (fun _ => { ({} : DmaCh) with st := 1, starter := i })).dmaLoad_keeps n d
  refine ⟨(s.modDma n (fun _ => { ({} : DmaCh) with st := 1, starter := i })).dmaLoad n d, ?_, starter.trans ?_, fun m ne => (others m ne).trans ?_⟩
  · simp only [State.dmaStart, number, start, granted, free, not_le.mpr n.isLt, Bool.false_eq_true, if_false]
  · rw [State.dmaOf_modDma, if_pos ⟨rfl, n.isLt⟩]
  · rw [State.dmaOf_modDma, if_neg (fun same => ne same.1.symm)]

theorem State.dmaStart_busy {i d : Nat} (n : Fin 32) (may : s.dmaMay i n) (busy : (s.dmaOf n).st = 1) : s.dmaStart i n d = (s, 1) := by
  have number : n.val % 2 ^ 31 = n := Nat.mod_eq_of_lt (by omega)
  have start : n.val.testBit 31 = false := Nat.testBit_lt_two_pow (by omega)
  have granted : (i ≠ 0 && !s.granted (i - 1) 6 n) = false := by rcases may with zero | ⟨-, yes⟩ <;> simp_all
  simp only [State.dmaStart, number, start, granted, busy, not_le.mpr n.isLt, Bool.false_eq_true, if_false, if_true]

/-- With bit 31 go reads the status. -/
theorem State.dmaStart_status {i d : Nat} (n : Fin 32) : s.dmaStart i (2 ^ 31 + n) d = (s, (s.dmaOf n).stat) := by
  have number : (2 ^ 31 + n.val) % 2 ^ 31 = n := by omega
  have status : (2 ^ 31 + n.val).testBit 31 = true := by
    rw [Nat.testBit_two_pow_add_eq, Nat.testBit_lt_two_pow (by omega)]
    rfl
  simp only [State.dmaStart, number, status, not_le.mpr n.isLt, if_true, if_false]

/-- stop leaves a channel that does not run, and ends one that does. -/
theorem State.dmaStop_idle {i : Nat} (n : Fin 32) (idle : (s.dmaOf n).st ≠ 1) : s.dmaStop i n = s := by
  simp [State.dmaStop, idle]

theorem State.dmaStop_runs {i : Nat} (n : Fin 32) (may : s.dmaMay i n) (busy : (s.dmaOf n).st = 1) :
    ((s.dmaStop i n).dmaOf n).st = 3 ∧ ((s.dmaStop i n).dmaOf n).stopped = true := by
  have granted : (i ≠ 0 && !s.granted (i - 1) 6 n) = false := by rcases may with zero | ⟨-, yes⟩ <;> simp_all
  unfold State.dmaStop
  have acts : (decide (32 ≤ n.val) || decide ((s.dmaOf n).st ≠ 1) || (i ≠ 0 && !s.granted (i - 1) 6 n)) = false := by
    rw [granted, busy]
    simp
  rw [if_neg (Bool.eq_false_iff.mp acts)]
  generalize State.dmaRun n none (min (Config.dmaIssued s.now n) (s.dmaOf n).count) 0 s = p
  obtain ⟨t, j, e, a⟩ := p
  dsimp only
  split
  · rw [State.dmaOf_modDma, if_pos ⟨rfl, n.isLt⟩]
    have halted : (((t.dmaFail n j e a).fabErr e 2 a).dmaOf n).st = 3 := by
      show ((t.dmaFail n j e a).dmaOf n).st = 3
      rw [State.dmaFail, State.dmaHalt, State.dmaOf_modDma, if_pos ⟨rfl, n.isLt⟩]
    exact ⟨halted, rfl⟩
  · rw [State.dmaOf_modDma, if_pos ⟨rfl, n.isLt⟩]
    exact ⟨rfl, rfl⟩

end

/-! ### The power die (14 R366) -/

/-- Bits taken out of a value. -/
theorem testBit_sub_and (x y j : Nat) : (x - (x &&& y)).testBit j = (x.testBit j && !y.testBit j) := by
  induction j generalizing x y with
  | zero =>
    have le : x &&& y ≤ x := Nat.and_le_left
    have low : (x &&& y) % 2 = 1 ↔ x % 2 = 1 ∧ y % 2 = 1 := by simp
    rw [Bool.eq_iff_iff]
    simp only [Nat.testBit_zero, Bool.and_eq_true, Bool.not_eq_true', decide_eq_true_eq, decide_eq_false_iff_not]
    omega
  | succ j ih =>
    have le : x &&& y ≤ x := Nat.and_le_left
    have low : (x &&& y) % 2 = 1 ↔ x % 2 = 1 ∧ y % 2 = 1 := by simp
    have half : (x &&& y) / 2 = x / 2 &&& y / 2 := Nat.and_div_two
    have rest : (x - (x &&& y)) / 2 = x / 2 - (x / 2 &&& y / 2) := by omega
    rw [Nat.testBit_succ, Nat.testBit_succ, Nat.testBit_succ, rest]
    exact ih _ _

/-- A core takes off the events that a value names. -/
def Core.dieAcked (c : Core) (v : Nat) : Core := { c with dieEv := c.dieEv - (c.dieEv &&& v) }

theorem setIfInBounds_getD_self {α : Type} {k : Nat} (v : Vector α k) (i : Nat) (d : α) : v.setIfInBounds i (v.toList.getD i d) = v := by
  ext j lt
  rw [Vector.getElem_setIfInBounds]
  split
  next same =>
    subst same
    simp [lt]
  next => rfl

theorem State.modChan_id (s : State) (n : Nat) : s.modChan n (fun c => c) = s := by
  have same := setIfInBounds_getD_self s.load.ch n ({} : Chan)
  simp only [State.modChan, State.setChan, State.chan, same]

/-- The gate commands of the die are the values 0 to 5 (14 R378). -/
theorem gateOf_named {x : Nat} {y g : Gate}
    (mem : (x, y) ∈ [(0, Gate.off), (1, .drive .high), (2, .drive .low), (3, .drive .fwd), (4, .drive .rev), (5, .brake)]) : gateOf x g = y := by
  simp only [List.mem_cons, Prod.mk.injEq, List.not_mem_nil, or_false] at mem
  rcases mem with ⟨rfl, rfl⟩ | ⟨rfl, rfl⟩ | ⟨rfl, rfl⟩ | ⟨rfl, rfl⟩ | ⟨rfl, rfl⟩ | ⟨rfl, rfl⟩ <;> rfl

/-- A valve that is off takes no phase (14 R378). -/
theorem State.vlvMove_off {s : State} {m v : Nat} (off : (s.valve m).st = .off) : s.vlvMove m v = s := by
  simp [State.vlvMove, off]

/-! ### The triggers -/

section
variable {u : State} {i v : Nat} {short : Bool}

/-- A gate command of the die (entry 31: a value above 5 names none). -/
theorem State.firePlant_gate (n : Fin 64) {y : Gate} (named : v ≤ 5) (is : ∀ g, gateOf v g = y) :
    u.firePlant (5 + n) 0x201 v = u.modChan n (fun z => z.toGate y (.set y) u.now) := by
  have no : 5 + n.val - 5 = n := Nat.add_sub_cancel_left ..
  simp only [State.firePlant, if_true, no, not_lt.mpr named, if_false, is]

theorem State.firePlant_noGate (n : Fin 64) (above : 5 < v) : u.firePlant (5 + n) 0x201 v = u := by
  simp only [State.firePlant, if_true, above]
  exact u.modChan_id _

variable (run : (u.core i).st = .running) (free : u.fenced i = false)
include run free

theorem State.trigger_go (app : i < 5) : u.trigger i 0x341 v short =
    ((u.unfence i).dmaStart i v (u.core i).dmaD).1.modCore i (fun c => { c with dmaR := ((u.unfence i).dmaStart i v (u.core i).dmaD).2 }) := by
  have port : portKind i 0x341 = .trigger := by simp [portKind, coPort, unitPort, app]
  rw [State.trigger_units run free port (by decide)]
  have core : ((u.unfence i).core i).dmaD = (u.core i).dmaD := by rw [State.core_unfence (by omega)]; rfl
  rw [← core]
  rfl

theorem State.trigger_stop (app : i < 5) : u.trigger i 0x342 v short = (u.unfence i).dmaStop i v := by
  have port : portKind i 0x342 = .trigger := by simp [portKind, coPort, unitPort, app]
  rw [State.trigger_units run free port (by decide)]
  rfl

/-- The power die of a C core and the valve stage of a VB core. -/
theorem State.trigger_plant {p : Nat} (port : p ∈ [0x201, 0x202, 0x203] ∧ isC i = true ∨ p ∈ [0x241, 0x242, 0x243] ∧ isVb i = true) :
    u.trigger i p v short = (u.unfence i).firePlant i p v := by
  have kind : portKind i p = .trigger ∧ 0x200 ≤ p ∧ ¬ 0x300 ≤ p := by
    rcases port with ⟨mem, type⟩ | ⟨mem, type⟩ <;> fin_cases mem <;> simp [portKind, unitPort, type]
  obtain ⟨kind, low, high⟩ := kind
  rw [State.trigger_units run free kind low, if_neg high]

end

/-- Settles O49, by what the trigger of each unit leaves. -/
theorem xitreUnits : Obligations.XitreUnits := by
  intro s g k v u i c x on mine feed runs
  have lt : i < 73 := coreIx_lt k
  refine ⟨fun ⟨run, free⟩ app sel => ?_, fun ⟨run, free⟩ app => ?_, fun ⟨run, free⟩ type => ?_, fun ⟨run, free⟩ super pd3 idle pd1 isOpen => ?_,
    fun n ⟨run, free⟩ may => ?_, fun n ⟨run, free⟩ type => ?_, fun b ⟨run, free⟩ type => ?_⟩
  · have port : portKind i 0x301 = .trigger := by simp [portKind, coPort, unitPort, app]
    have effect := State.trigger_core (f := fun c => c.crcInit x) lt (State.trigger_units (v := x) (short := false) run free port (by decide))
    refine does_of_trigger effect rfl ?_
    have taken : (u.core i).unfence.crcSel < 2 := sel
    simp only [Core.crcInit, if_pos taken]
    rfl
  · have ports : ∀ p ∈ [0x302, 0x303, 0x304], portKind i p = .trigger := by simp [portKind, coPort, unitPort, app]
    have effect := fun p (mem : p ∈ [0x302, 0x303, 0x304]) (unit : 0x200 ≤ p) =>
      State.trigger_units (v := x) (short := false) run free (ports p mem) unit
    refine ⟨?_, ?_, ?_⟩
    · exact does_of_trigger (State.trigger_core (f := Core.crcFeeds 1 x) lt (effect 0x302 (by decide) (by decide))) rfl (congrArg (u.setCore i) (Core.crcFeeds_one ..))
    · exact does_of_trigger (State.trigger_core (f := Core.crcFeeds 2 x) lt (effect 0x303 (by decide) (by decide))) rfl (congrArg (u.setCore i) (Core.crcFeeds_two ..))
    · exact does_of_trigger (State.trigger_core (f := Core.crcFeeds 4 x) lt (effect 0x304 (by decide) (by decide))) rfl (congrArg (u.setCore i) (Core.crcFeeds_four ..))
  · have port : portKind i 0x311 = .trigger := by
      have own : (decide (i = 0) || isC i) = true := by
        rcases type with rfl | ⟨n, rfl⟩
        · rfl
        · simp [i, coreIx, isC]
          omega
      simp [portKind, coPort, unitPort, own]
    have effect := State.trigger_core (f := fun c => { c with codR := (Config.unitResult (u.unfence i).now 0x31F).toNat }) lt
      (State.trigger_units (v := x) (short := false) run free port (by decide))
    exact does_of_trigger effect rfl ⟨_, rfl⟩
  · subst super
    have up : OwnUp (u.unfence 0) := ⟨pd3, idle, pd1, isOpen⟩
    have core : (u.unfence 0).core 0 = (u.core 0).unfence := State.core_unfence (by decide)
    have run' : ((u.unfence 0).core 0).st = .running := by rw [core]; exact run
    have len : ((u.unfence 0).core 0).shLen = c.shLen := by rw [core]; rfl
    have absorb : u.trigger 0 0x322 x false = (u.unfence 0).shakeAbsorb x := State.trigger_units run free rfl (by decide)
    have squeeze : u.trigger 0 0x323 x false = (u.unfence 0).shakeSqueeze x := State.trigger_units run free rfl (by decide)
    have enc : u.trigger 0 0x332 x false = (u.unfence 0).aesEncrypt x := State.trigger_units run free rfl (by decide)
    refine ⟨fun inside => ?_, fun inside => ?_, fun source inside => ?_, fun reserved some' => ?_⟩
    · have effect := absorb.trans (State.shakeAbsorb_own up (a := x) (by rw [len]; exact inside))
      rw [len] at effect
      exact does_of_trigger effect rfl ⟨rfl, rfl, rfl, _, State.shakeDone_of_core core⟩
    · obtain ⟨m, effect, written, kept⟩ := State.shakeSqueeze_own up (a := x) (by rw [len]; exact inside)
      rw [core] at effect written kept
      exact does_of_trigger (squeeze.trans effect) rfl ⟨rfl, rfl, written, kept⟩
    · obtain ⟨m, effect, written, kept⟩ := State.aesEncrypt_own up (a := x) (by rw [core]; exact source) inside
      rw [State.aesBlock, core] at written
      exact does_of_trigger (enc.trans effect) rfl ⟨rfl, written, kept⟩
    · have some' : 0 < ((u.unfence 0).core 0).shLen := by rw [len]; exact some'
      exact ⟨does_of_trigger absorb rfl (State.shakeAbsorb_reserved_leaves up reserved some' run'),
        does_of_trigger squeeze rfl (State.shakeSqueeze_reserved_leaves up reserved some' run')⟩
  · have app : i < 5 := may.elim (fun zero => by omega) And.left
    have may : (u.unfence i).dmaMay i n := may
    have number : (BitVec.ofNat 32 n.val).toNat = n := by simp; omega
    have status : (BitVec.ofNat 32 (2 ^ 31 + n.val)).toNat = 2 ^ 31 + n := by simp; omega
    refine ⟨fun notBusy idle => ?_, fun busy => ?_, ?_, fun notBusy => ?_, fun busy => ?_⟩
    · obtain ⟨t, started, starter, others⟩ := State.dmaStart_free (d := (u.core i).dmaD) n may notBusy
      have effect := State.trigger_go (v := n) (short := false) run free app
      rw [started, ← number] at effect
      exact does_of_trigger effect rfl ⟨congrArg Core.dmaR (State.core_setCore_self lt), starter, fun m ne => others m (Fin.val_ne_of_ne ne)⟩
    · have effect := State.trigger_go (v := n) (short := false) run free app
      rw [State.dmaStart_busy n may busy, ← number] at effect
      exact does_of_trigger effect rfl (State.modCore_setCore lt _)
    · have effect := State.trigger_go (v := 2 ^ 31 + n) (short := false) run free app
      rw [State.dmaStart_status, ← status] at effect
      exact does_of_trigger effect rfl (State.modCore_setCore lt _)
    · have effect := State.trigger_stop (v := n) (short := false) run free app
      rw [State.dmaStop_idle (s := u.unfence i) n notBusy, ← number] at effect
      exact does_of_trigger effect rfl rfl
    · have effect := State.trigger_stop (v := n) (short := false) run free app
      rw [← number] at effect
      exact does_of_trigger effect rfl (by rw [number]; exact State.dmaStop_runs n may busy)
  · subst type
    have plant : ∀ p ∈ [0x201, 0x202, 0x203], u.trigger (5 + n) p x false = on.firePlant (5 + n) p x := fun p mem =>
      State.trigger_plant run free (.inl ⟨mem, by simp [isC]; omega⟩)
    refine ⟨fun y mem => ?_, fun above => ?_, ?_, ?_⟩
    · refine does_of_trigger (plant 0x201 (by decide)) rfl (State.firePlant_gate n ?_ ?_)
      · simp only [List.mem_cons, Prod.mk.injEq, List.not_mem_nil, or_false] at mem
        omega
      · exact fun g => gateOf_named mem
    · exact does_of_trigger (plant 0x201 (by decide)) rfl (State.firePlant_noGate n above)
    · exact does_of_trigger (plant 0x202 (by decide)) rfl (State.modCore_setCore (s := u) (c := (u.core (5 + n)).unfence) lt (fun c => { c with dieRb := x }))
    · refine does_of_trigger ((plant 0x203 (by decide)).trans (State.modCore_setCore (f := fun c => c.dieAcked x) lt)) rfl ⟨fun j => ?_, fun j ne => ?_⟩
      · exact (congrArg (fun d : Core => d.dieEv.testBit j) (State.core_setCore_self lt)).trans (testBit_sub_and ..)
      · exact (State.core_setCore ..).trans (if_neg fun both => ne both.1.symm)
  · subst type
    have plant : ∀ p ∈ [0x241, 0x242, 0x243], u.trigger (69 + b) p x false = on.firePlant (69 + b) p x := fun p mem =>
      State.trigger_plant run free (.inr ⟨mem, by simp [isVb]⟩)
    have base : 69 + b.val - 69 = b := Nat.add_sub_cancel_left ..
    have core : (u.unfence (69 + b)).core (69 + b) = (u.core (69 + b)).unfence := State.core_unfence lt
    have valve : 4 * (69 + b.val - 69) + (on.core (69 + b)).vlvSel % 4 = 4 * b.val + c.vlvSel % 4 := by
      rw [base]
      exact congrArg (fun d : Core => 4 * b.val + d.vlvSel % 4) core
    refine ⟨does_of_trigger (plant 0x241 (by decide)) rfl ?_, fun off => does_of_trigger (plant 0x242 (by decide)) rfl ?_,
      does_of_trigger (plant 0x243 (by decide)) rfl ?_⟩
    · exact congrArg (fun m => on.modValve m (fun z => { z with level := x })) valve
    · exact (congrArg (on.vlvMove · x) valve).trans (State.vlvMove_off off)
    · exact congrArg (fun m => on.modBank m (fun z => { z with rail := x })) base

end Sys2Proof.Machine
end

section
/-!
PROOFS. Control of a core: a word of one move (14 R363, R365, R372), calls, returns and waits (14 R373 to R375), traps (14 R379 to R381,
R386) and the debugger (14 R387); then O47.
-/
namespace Sys2Proof.Machine

/-! ### Words of one move to a general register (14 R363, R365) -/

/-- The word at the program counter of core i moves the immediate x to register d. -/
def State.MovesAt (u : State) (i d x : Nat) (short : Bool) : Prop :=
  let a := if i = 0 then (u.core i).pc else ownBase i + (u.core i).pc
  isOwn i a = true ∧ (u.core i).pc % 4 = 0 ∧ synOf (u.synAt (a / 8 * 8)) = .clean ∧ d < 8 ∧ moveOf (u.bytesAt a 4) = ⟨d, .imm x short, false, true⟩

section
variable {u t : State} {i d x : Nat} {short : Bool}

/-- A word of the core's own memory that reads without an error is fetched (14 R362). -/
theorem State.fetchAt_own (moves : u.MovesAt i d x short) :
    u.fetchAt i (u.core i).pc = (u, .ok (u.bytesAt (if i = 0 then (u.core i).pc else ownBase i + (u.core i).pc) 4)) := by
  obtain ⟨own, al, clean, -, -⟩ := moves
  set pc := (u.core i).pc
  set a := if i = 0 then pc else ownBase i + pc with at_
  have base : ownBase i % 8 = 0 := by unfold ownBase; split <;> [skip; split <;> [skip; split]] <;> omega
  have within : a % 8 + 4 ≤ 8 := by rw [at_]; split <;> omega
  have place : (if i = 0 then decide (regionOf a = some 2) || decide (regionOf a = some 0) || decide (regionOf a = some 9) || decide (regionOf a = some 10)
      else decide (pc < ownSize i)) = true := by
    by_cases super : i = 0
    · subst super
      simp [regionOf_own own]
    · have inside : ownBase i ≤ ownBase i + pc ∧ ownBase i + pc < ownBase i + ownSize i := by simpa [at_, super, isOwn] using own
      simp only [super, if_false, decide_eq_true_eq]
      omega
  have read : ∀ port, u.memRead port a 4 = (u, 0, u.bytesAt a 4) := fun port => State.memRead_clean clean within
  simp only [State.fetchAt, al, ← at_, place, clean, read]
  rfl

theorem portKind_general (low : d < 8) : portKind i d = .reg := by
  interval_cases d <;> simp [portKind]

/-- Its move writes the register; then the word ends (14 R365, R372). -/
theorem State.runMoves_imm (low : d < 8) {c : Core} (core : u.core i = c)
    (after : (u.setCore i { c with g := c.g.setIfInBounds d x }).afterWord i c.pc c.slots 1 false = (t, none)) :
    u.runMoves i [⟨d, .imm x short, false, true⟩] = if c.stepped && (t.core i).st = .running then t.trapCore i (trapOf 9) false else t := by
  subst core
  have kind := portKind_general (i := i) low
  have port : ({ u.core i with g := (u.core i).g.setIfInBounds d x } : Core) = (u.core i).setPort d x := by
    rw [Core.setPort, if_pos (by omega)]
  have notDie : d ≠ 0x200 := by omega
  have notRte : d ≠ 0x18B := by omega
  rw [port] at after
  cases error : (u.core i).ldErr <;>
    simp [State.runMoves, wordTraps, hasTwice, srcTrap, dstTrap, kind, State.wordStalls, readsPort, State.writePorts, State.srcVal, notDie, notRte,
      lowestTrap, after, error]

theorem State.afterWord_plain {pc n : Nat} (none' : n = 0) :
    u.afterWord i pc n 1 false = (u.modCore i (fun c => { c with pc := (pc + 4) % 2 ^ 32 }), none) := by
  subst none'
  rfl

/-- Outside delay slots the core goes on at the next word. -/
theorem State.runMoves_imm_plain (lt : i < 73) (low : d < 8) {c : Core} (core : u.core i = c) (slot : c.slots = 0)
    (next : u.setCore i { c with g := c.g.setIfInBounds d x, pc := (c.pc + 4) % 2 ^ 32 } = t) :
    u.runMoves i [⟨d, .imm x short, false, true⟩] = if c.stepped && (t.core i).st = .running then t.trapCore i (trapOf 9) false else t := by
  refine State.runMoves_imm low core ?_
  rw [State.afterWord_plain slot, ← next]
  exact congrArg (·, none) (State.modCore_setCore (s := u) (c := { c with g := c.g.setIfInBounds d x }) lt (fun e => { e with pc := (c.pc + 4) % 2 ^ 32 }))

/-- In the last delay slot of a jump it goes on at the jump's target (14 R372). -/
theorem State.runMoves_imm_jump (lt : i < 73) (low : d < 8) {c : Core} {z : Nat} (core : u.core i = c) (slot : c.slots = 1) (jump : c.flow = some (.jump z))
    (calm : c.stepped = false) : u.runMoves i [⟨d, .imm x short, false, true⟩] =
      u.setCore i { c with g := c.g.setIfInBounds d x, flow := none, slots := 0, pc := z } := by
  set e : Core := { c with g := c.g.setIfInBounds d x } with wrote
  have written : (u.setCore i e).core i = e := State.core_setCore_self lt
  have after : (u.setCore i e).afterWord i c.pc c.slots 1 false = (u.setCore i { e with flow := none, slots := 0, pc := z }, none) := by
    rw [slot]
    have flow : e.flow = some (.jump z) := jump
    have passes : (u.setCore i e).afterWord i c.pc 1 1 false = (u.setCore i e).transfer i ((c.pc + 4 * 1) % 2 ^ 32) := rfl
    rw [passes, State.transfer, written, flow]
    exact congrArg (·, none) ((congrArg (fun s : State => s.modCore i (fun c => { c with pc := z })) (State.modCore_setCore lt _)).trans
      (State.modCore_setCore lt _))
  rw [State.runMoves_imm low core after, calm]
  rfl

/-- A running core that nothing holds or halts runs the word (14 R365). -/
theorem State.issue_word (run : (u.core i).st = .running) (late : (u.core i).late = []) (free : u.fenced i = false)
    (calm : (u.core i).stepped = true ∨ (i < 5 → (u.dbgCore i).ctrl.testBit 0 = false) ∧ u.atBreak i = false) (lt : i < 73)
    (moves : u.MovesAt i d x short) : u.issue i = (u.unfence i).runMoves i [⟨d, .imm x short, false, true⟩] := by
  have notHalted : (decide (i < 5) && (u.dbgCore i).ctrl.testBit 0 && !(u.core i).stepped) = false := by
    rcases calm with stepped | ⟨off, -⟩
    · simp [stepped]
    · by_cases app : i < 5
      · simp [off app]
      · simp [app]
  have notBreak : (u.atBreak i && !(u.core i).stepped) = false := by
    rcases calm with stepped | ⟨-, off⟩ <;> simp [*]
  have notHeld : u.fetchHeld i = false := by
    by_cases super : i = 0
    · subst super
      have own : isOwn 0 (u.core 0).pc = true := moves.1
      simp [State.fetchHeld, regionOf_own own]
    · simp [State.fetchHeld, super]
  have core : (u.unfence i).core i = (u.core i).unfence := State.core_unfence lt
  have moves' : (u.unfence i).MovesAt i d x short := by
    simp only [State.MovesAt, core]
    exact moves
  have fetch := State.fetchAt_own moves'
  rw [core] at fetch
  obtain ⟨-, -, -, -, move⟩ := moves'
  rw [core] at move
  have word : State.fetchMoves i (busesOf i) (u.core i).pc (u.unfence i) [] = (u.unfence i, .ok [⟨d, .imm x short, false, true⟩]) := by
    obtain ⟨n, buses⟩ : ∃ n, busesOf i = n + 1 := by unfold busesOf; split <;> exact ⟨_, rfl⟩
    have pc : (u.core i).unfence.pc = (u.core i).pc := rfl
    rw [pc] at fetch move
    simp only [buses, State.fetchMoves, fetch, move, if_true, List.nil_append]
  simp only [State.issue, run, ne_eq, not_true, if_false, late, notHalted, notBreak, free, notHeld, Bool.or_self, Bool.false_eq_true]
  exact congrArg (fun r : State × Except Trap (List Move) => match r with
    | (s, .error t) => (s.recordTrap i t).trapCore i t false
    | (s, .ok ms) => s.runMoves i ms) word

end

/-! ### What Atlas does when an applet halts leaves the cores (03 R67, R68) -/

/-- Every core is as before but for its pending events. -/
structure CoresKeep (s t : State) : Prop where
  keep (j : Nat) : { t.core j with evPend := 0 } = { s.core j with evPend := 0 }

section
variable {s t u : State}

theorem CoresKeep.refl (s : State) : CoresKeep s s := ⟨fun _ => rfl⟩

theorem CoresKeep.trans (h : CoresKeep s t) (k : CoresKeep t u) : CoresKeep s u := ⟨fun j => (k.keep j).trans (h.keep j)⟩

theorem CoresKeep.of_xi (same : t.xi = s.xi) : CoresKeep s t := ⟨fun j => by rw [State.core_of_xi same]⟩

theorem CoresKeep.at (h : CoresKeep s t) (j x : Nat) : { t.core j with evPend := x } = { s.core j with evPend := x } :=
  congrArg (fun c : Core => { c with evPend := x }) (h.keep j)

theorem State.raiseEv_coresKeep (s : State) (i b : Nat) : CoresKeep s (s.raiseEv i b) := by
  refine ⟨fun j => ?_⟩
  have set : s.raiseEv i b = s.setCore i { s.core i with evPend := (s.core i).evPend ||| (1 <<< b) } := rfl
  rw [set, State.core_setCore]
  split
  next same => rw [same.1]
  next => rfl

theorem State.mbxEvent_coresKeep (s : State) (i : Nat) : CoresKeep s (s.mbxEvent i) := by
  have raised := s.raiseEv_coresKeep 0 0
  unfold State.mbxEvent
  extract_lets on x
  split
  · refine raised.trans (.of_xi ?_)
    unfold State.sendCtl State.sendCtlMsg
    split <;> rfl
  · split
    · exact raised.trans ((((State.raiseEv_coresKeep ..).trans (State.raiseEv_coresKeep ..)).trans (State.raiseEv_coresKeep ..)).trans
        (State.raiseEv_coresKeep ..))
    · exact raised

theorem State.dropClaim_coresKeep (s : State) (i : Nat) : CoresKeep s (s.dropClaim i) := by
  simp only [State.dropClaim]
  split
  · exact .refl s
  · refine (CoresKeep.of_xi ?_).trans (State.mbxEvent_coresKeep ..)
    show (if _ then _ else _ : State).xi = s.xi
    split <;> rfl

theorem State.dropApplet_coresKeep (s : State) (n : Nat) : CoresKeep s (s.dropApplet n) := by
  unfold State.dropApplet
  extract_lets x y a z
  refine CoresKeep.trans ?_ (State.mbxEvent_coresKeep ..)
  have dropped : CoresKeep s x := by
    simp only [x]
    split
    · exact s.dropClaim_coresKeep 3
    · exact .refl s
  exact dropped.trans (.of_xi rfl)

/-- The debugger halts a core where it stands (14 R387). -/
theorem State.debugHalt_core {i : Nat} (lt : i < 73) (x : Nat) :
    { (s.debugHalt i).core i with evPend := x } = ({ s.core i with st := .halted, stepped := true, evPend := x } : Core) := by
  have halted : { (s.modCore i (fun c => { c with st := .halted, stepped := true })).core i with evPend := x } =
      ({ s.core i with st := .halted, stepped := true, evPend := x } : Core) := by
    rw [State.modCore, State.core_setCore_self lt]
  simp only [State.debugHalt]
  split
  · exact ((State.dropApplet_coresKeep ..).at i x).trans halted
  · exact halted

end

/-! ### Traps (14 R379 to R381, R386) -/

/-- The record of S in its handler. -/
def Core.trapped (c : Core) (t : Trap) (async : Bool) (tgt : Nat) : Core :=
  { c with
    epc := c.pc, ecause := t.cause % 256 + t.code <<< 8 + flag async <<< 11, eaddr := t.addr, etgt := tgt, eds := c.slots, eflow := c.flow
    flow := none, slots := 0, masked := true, ldErr := none, stepped := false, pc := c.tvec }

section
variable {s : State} {t : Trap} {async : Bool}

theorem State.trapCore_super (unmasked : (s.core 0).masked = false) (noBreak : t.cause ≠ 9) :
    ∃ tgt, ((s.core 0).slots = 0 → tgt = 0) ∧ (s.trapCore 0 t async).core 0 = (s.core 0).trapped t async tgt := by
  set u := (s.modDbgCore 0 (fun d => d.trapped t async)).modCore 0 (fun c => { c with stepped := false }) with entered
  have core : u.core 0 = { s.core 0 with stepped := false } := State.core_setCore_self (by decide)
  have trap : s.trapCore 0 t async = u.superTrap t async := by simp [State.trapCore, noBreak, ← entered]
  refine ⟨if (s.core 0).slots = 0 then 0 else ((s.core 0).flow.map (u.flowTarget 0)).getD 0, fun none' => if_pos none', ?_⟩
  rw [trap, State.superTrap, core]
  simp only [unmasked, Bool.false_eq_true, if_false]
  rw [State.modCore, State.core_setCore_self (by decide), core]
  rfl

theorem State.appTrap_leaves (n : Fin 4) (cause code : Nat) :
    ((s.appTrap n cause code).core (1 + n)).st = .trapped ∧ ((s.appTrap n cause code).applet n).cause = cause ∧
      ((s.appTrap n cause code).applet n).trapN = satInc 255 (s.applet n).trapN ∧ ((s.appTrap n cause code).applet n).pc = (s.core (1 + n)).pc := by
  unfold State.appTrap
  extract_lets c traps y again z
  have kept : Only [.atlas, .evs, .ctl] z ((z.dropApplet n).emit 11 n 0x30 (leBytes 1 cause ++ leBytes 1 code ++ leBytes 2 0 ++ leBytes 4 c.pc)) :=
    State.emit_only (State.dropApplet_only (.refl ..) (by decide)) (by decide)
  obtain ⟨apps, -, -, cores⟩ := kept.same .regs (by decide)
  have applet : z.applet n = _ := (State.applet_modApplet ..).trans (if_pos ⟨rfl, n.isLt⟩)
  have halted : (z.core (1 + n)).st = .trapped := by
    show (y.core (1 + n)).st = .trapped
    simp only [y, State.haltCore, State.modCore, State.core_setCore_self (show 1 + n.val < 73 by omega)]
  refine ⟨(congrArg Core.st (cores (1 + n))).trans halted, ?_⟩
  rw [State.applet, apps]
  show (z.applet n).cause = _ ∧ (z.applet n).trapN = _ ∧ (z.applet n).pc = _
  rw [applet]
  exact ⟨rfl, rfl, rfl⟩

/-- An applet's trap halts its core and is recorded (14 R380, R386). -/
theorem State.trapCore_applet (n : Fin 4) (noBreak : t.cause ≠ 9) :
    let u := s.trapCore (1 + n) t async
    (u.core (1 + n)).st = .trapped ∧ (u.applet n).cause = t.cause ∧ (u.applet n).trapN = satInc 255 (s.applet n).trapN ∧ (u.applet n).pc = (s.core (1 + n)).pc := by
  intro u
  have lt : 1 + n.val < 5 := by omega
  have no : 1 + n.val - 1 = n := Nat.add_sub_cancel_left ..
  set x := (s.modDbgCore (1 + n) (fun d => d.trapped t async)).modCore (1 + n) (fun c => { c with stepped := false }) with entered
  have core : x.core (1 + n) = { s.core (1 + n) with stepped := false } := State.core_setCore_self (by omega)
  have trap : u = x.appTrap n t.cause t.code := by simp [u, State.trapCore, noBreak, lt, no, ← entered]
  obtain ⟨halted, cause, count, pc⟩ := x.appTrap_leaves n t.cause t.code
  rw [trap]
  exact ⟨halted, cause, count, pc.trans (by rw [core])⟩

/-- An applet starts at its ENTRY (14 R386). -/
theorem State.startApplet_core (n : Fin 4) : ((s.startApplet n).core (1 + n)).st = .running ∧
    ((s.startApplet n).core (1 + n)).pc = 4 * s.pf Pf.appCfg_ENTRY n ∧ ((s.startApplet n).applet n).restart = none := by
  unfold State.startApplet
  extract_lets x y z
  have loaded : Only [.bytes] s x := State.freshRings_only (State.copyApplet_only (.refl ..) (by decide)) (by decide)
  have par : z.par = s.par := loaded.same .par (by decide)
  have core : (z.startCore (1 + n) (4 * z.pf Pf.appCfg_ENTRY n)).core (1 + n) = _ := State.core_setCore_self (by omega)
  have applet : z.applet n = { y.applet n with restart := none } := (State.applet_modApplet ..).trans (if_pos ⟨rfl, n.isLt⟩)
  rw [core, State.pf_of_par par]
  exact ⟨rfl, rfl, congrArg Applet.restart applet⟩

end

/-! ### Calls, returns, waits and events (14 R373 to R375) -/

section
variable {u : State} {i v : Nat} {short : Bool} (run : (u.core i).st = .running) (free : u.fenced i = false)
include run free

/-- A call whose target a core can run is pending for its delay slots (14 R373). -/
theorem State.trigger_call (lt : i < 73) (slot : (u.core i).slots = 0) (target : targetTrap i (u.core i).brT = none) (mask : v < 2 ^ 16)
    (saves : i < 5 ∨ v = 0) : u.trigger i 0x189 v true =
      u.setCore i { u.core i with fence := false, flow := some (.call (u.core i).brT v), slots := delayOf i } := by
  have calm : u.trigTraps i 0x189 v true = [] := by
    have none' : ¬ (5 ≤ i ∧ v ≠ 0) := by omega
    have mask' : callMask v true = some v := by simpa [callMask] using mask
    simp [State.trigTraps, slot, mask', target, none']
  rw [State.trigger_fires run free rfl (State.trigStall_of_unit (by decide)) calm]
  have fires : (u.unfence i).fire i 0x189 v = (u.unfence i).branch i (.call ((u.unfence i).core i).brT (v % 2 ^ 16)) := rfl
  rw [fires, State.core_unfence lt, Nat.mod_eq_of_lt mask]
  exact State.modCore_setCore lt _

/-- One whose source is no short immediate traps (14 R373). -/
theorem State.trigger_call_other (slot : (u.core i).slots = 0) : u.trigger i 0x189 v false = u.trapCore i (trapOf 2) false := by
  refine State.trigger_traps_of_cause run free rfl (by decide) (by decide) ?_
  simp [State.trigTraps, slot, callMask, lowestTrap]

theorem State.trigger_ret (lt : i < 73) (slot : (u.core i).slots = 0) :
    u.trigger i 0x18A v short = u.setCore i { u.core i with fence := false, flow := some .ret, slots := delayOf i } := by
  have calm : u.trigTraps i 0x18A v short = [] := by simp [State.trigTraps, slot]
  rw [State.trigger_fires run free rfl (State.trigStall_of_unit (by decide)) calm]
  exact State.modCore_setCore (s := u) (c := (u.core i).unfence) lt (fun c => { c with flow := some .ret, slots := delayOf i })

theorem State.trigger_wait (lt : i < 73) (mask : (u.core i).evMask < 128) : u.trigger i 0x1C1 v short =
    u.setCore i { u.core i with fence := false, st := .waiting, waitAt := u.now, waitFor := if v = 0 then none else some v } := by
  have calm : u.trigTraps i 0x1C1 v short = [] := by simp [State.trigTraps, Nat.not_le.mpr mask]
  rw [State.trigger_fires run free rfl (State.trigStall_of_unit (by decide)) calm]
  exact State.modCore_setCore (s := u) (c := (u.core i).unfence) lt (fun c => { c with st := .waiting, waitAt := u.now, waitFor := if v = 0 then none else some v })

theorem State.trigger_post {j : Nat} (dest : postTo i v = some j) : u.trigger i 0x1C2 v short = (u.unfence i).raiseEv j 6 := by
  have calm : u.trigTraps i 0x1C2 v short = [] := by simp [State.trigTraps, dest]
  rw [State.trigger_fires run free rfl (State.trigStall_of_unit (by decide)) calm]
  simp [State.fire, dest]

end

section
variable {u : State} {v : Nat} {short : Bool} (run : (u.core 0).st = .running) (free : u.fenced 0 = false)
include run free

/-- rte leaves the handler where no delay slot was interrupted (14 R381). -/
theorem State.trigger_rte (slot : (u.core 0).slots = 0) (whole : (u.core 0).eds = 0) : u.trigger 0 0x18B v short =
    u.setCore 0 { u.core 0 with fence := false, masked := false, pc := (u.core 0).epc, slots := 0, flow := none } := by
  have calm : u.trigTraps 0 0x18B v short = [] := by simp [State.trigTraps, slot]
  rw [State.trigger_fires run free rfl (State.trigStall_of_unit (by decide)) calm]
  have fires : (u.unfence 0).fire 0 0x18B v = (u.unfence 0).doRte := rfl
  rw [fires, State.doRte, State.modCore, State.core_unfence (by decide), State.setCore_unfence]
  simp [Core.unfence, whole]

/-- A software trap (14 R379). -/
theorem State.trigger_softwareTrap (slot : (u.core 0).slots = 0) : u.trigger 0 0x1D0 v false = u.trapCore 0 (trapOf (v % 256)) false := by
  have raised : lowestTrap (u.trigTraps 0 0x1D0 v false) = some (trapOf (v % 256)) := by simp [State.trigTraps, slot, lowestTrap]
  rw [State.trigger_traps run free rfl (State.trigStall_of_unit (by decide)) raised]
  simp [State.recordTrap, trapOf]

end

section
variable {s : State} {i r : Nat}

/-- The record of a core whose wait has ended (14 R375). -/
theorem State.endWait_core (lt : i < 73) : ((s.endWait i r).core i).st = .running ∧ ((s.endWait i r).core i).evR = r ∧
    ((s.endWait i r).core i).evPend = (s.core i).evPend - ((s.core i).evPend &&& r) := by
  rw [State.endWait, State.modCore, State.core_setCore_self lt]
  exact ⟨rfl, rfl, rfl⟩

end

/-! ### The debugger's registers (03 R97, 14 R387) -/

section
variable {u : State} (on : u.pd 3 = true) (isOpen : u.fab.closed.testBit 3 = false)
include on isOpen

theorem State.regWrite_dbgCore (j : Fin 5) {r : Nat} (reg : r = 0 ∨ r = 0x18) :
    u.regWrite .super (0x40030100 + r + 0x20 * j) 4 1 = u.dbgCoreWrite j r 1 := by
  have reached : ∀ {a}, blockAt a = some (0x40030000, 0x40040000, 3, true) → a / 0x10000 ≠ 0x4000 → u.regDenied .super a true = none := fun block notMbx =>
    State.regDenied_none block on isOpen (fun mbx => absurd mbx notMbx) (.inl rfl)
  rcases reg with rfl | rfl <;> fin_cases j <;>
    exact State.regWrite_word (reached rfl (by decide)) (by decide) (by decide) rfl

theorem State.regCmd_haltreq (j : Fin 5) (unlocked : u.dbg.locked = false) : u.regCmd .super (0x40030100 + 0x20 * j) 4 1 = u.dbgCtrl j 1 := by
  have write : u.dbgCoreWrite j 0 1 = (u.dbgCtrl j 1, 0) := by simp [State.dbgCoreWrite, unlocked]
  exact (State.regCmd_eq on ((State.regWrite_dbgCore on isOpen j (.inl rfl)).trans write)).trans (if_pos rfl)

theorem State.regCmd_haltreq_locked (j : Fin 5) (locked : u.dbg.locked = true) :
    u.regCmd .super (0x40030100 + 0x20 * j) 4 1 = u.accessErr .super 3 (0x40030100 + 0x20 * j) := by
  have write : u.dbgCoreWrite j 0 1 = (u, 3) := by simp [State.dbgCoreWrite, locked]
  exact (State.regCmd_eq on ((State.regWrite_dbgCore on isOpen j (.inl rfl)).trans write)).trans (if_neg (by decide))

theorem State.regCmd_step (j : Fin 5) (unlocked : u.dbg.locked = false) : u.regCmd .super (0x40030118 + 0x20 * j) 4 1 = u.dbgStep j := by
  have write : u.dbgCoreWrite j 0x18 1 = (u.dbgStep j, 0) := by simp [State.dbgCoreWrite, unlocked]
  exact (State.regCmd_eq on ((State.regWrite_dbgCore on isOpen j (.inr rfl)).trans write)).trans (if_pos rfl)

end

section
variable {u : State} {i d x : Nat} {short : Bool}

/-- A halted core with TRAPHALT runs the word as a step and halts again (14 R387). -/
theorem State.step_word (lt : i < 5) (halted : (u.core i).st = .halted) (late : (u.core i).late = []) (free : u.fenced i = false)
    (trapHalt : (u.dbgCore i).ctrl.testBit 3 = true) (slot : (u.core i).slots = 0) (moves : u.MovesAt i d x short) (y : Nat) :
    { ((u.dbgStep i).issue i).core i with evPend := y } = ({ u.core i with
      fence := false, g := (u.core i).g.setIfInBounds d x, pc := ((u.core i).pc + 4) % 2 ^ 32, st := .halted, stepped := true, evPend := y } : Core) := by
  have lt' : i < 73 := by omega
  set c : Core := { u.core i with st := .running, stepped := true } with stepping
  have stepped : u.dbgStep i = u.setCore i c := if_pos halted
  have core : (u.setCore i c).core i = c := State.core_setCore_self lt'
  have moves' : (u.setCore i c).MovesAt i d x short := by
    simp only [State.MovesAt, core]
    exact moves
  have free' : (u.setCore i c).fenced i = false := by
    rw [State.fenced, core]
    exact free
  have issued := State.issue_word (by rw [core]) (by rw [core]; exact late) free' (.inl (by rw [core])) lt' moves'
  have unfenced : ((u.setCore i c).unfence i).core i = c.unfence := by rw [State.core_unfence lt', core]
  obtain ⟨-, -, -, low, -⟩ := moves
  have ran := State.runMoves_imm_plain (x := x) (short := short) lt' low unfenced slot
    ((congrArg (fun s : State => s.setCore i _) State.setCore_setCore).trans State.setCore_setCore)
  set t := u.setCore i { c.unfence with g := c.unfence.g.setIfInBounds d x, pc := (c.unfence.pc + 4) % 2 ^ 32 } with next
  have written : t.core i = _ := State.core_setCore_self lt'
  have bit : (t.dbgCore i).ctrl.testBit 3 = true := trapHalt
  have halts : t.trapCore i (trapOf 9) false = t.debugHalt i := by simp [State.trapCore, trapOf, lt, bit]
  rw [stepped, issued, ran, if_pos (by rw [written]; rfl), halts, State.debugHalt_core lt', written]
  rfl

end

/-- A word of its own memory is a target that a core can run (14 R372). -/
theorem targetTrap_none {i t : Nat} (fits : t % 4 = 0 ∧ (i = 0 ∨ t < ownSize i)) : targetTrap i t = none := by
  have inside : ¬ (i ≠ 0 ∧ ownSize i ≤ t) := by omega
  simp [targetTrap, fits.1, inside]

theorem State.pendingEv_of_notC {s : State} {i : Nat} (notC : isC i = false) : s.pendingEv i = (s.core i).evPend := by
  simp [State.pendingEv, notC]

/-- A wait of a core without model steps ends with the events of its mask, or at its time with none (14 R375). -/
theorem exec_waitEnd {s u : State} {g : Lapse} {k : CoreId} {r : Nat} (passed : s.pass g = u) (waiting : (u.core (coreIx k)).st = .waiting)
    (calm : (u.core (coreIx k)).stepped = false) (pending : u.pendingEv (coreIx k) &&& (u.core (coreIx k)).evMask = r)
    (ends : r ≠ 0 ∨ ∃ n, (u.core (coreIx k)).waitFor = some n ∧ (u.core (coreIx k)).waitAt + n ≤ u.now) :
    exec (.waitEnd g k) s = .next (u.endWait (coreIx k) r) := by
  have over' : ¬ (r = 0 ∧ ((u.core (coreIx k)).waitFor.map (fun t => u.expired (u.core (coreIx k)).waitAt t)).getD false = false) := by
    rintro ⟨zero, early⟩
    obtain some' | ⟨n, timed, due⟩ := ends
    · exact some' zero
    · simp [timed, State.expired, due] at early
  show execWaitEnd g k s = _
  simp only [execWaitEnd, passed, waiting, calm, pending]
  simp [over']

/-- The record of S that a trap of a cause alone enters from outside a delay slot. -/
theorem Core.trapped_cause {c : Core} {n : Nat} (slot : c.slots = 0) : c.trapped (trapOf (n % 256)) false 0 =
    { c with masked := true, epc := c.pc, ecause := n % 256, eaddr := 0, etgt := 0, eds := 0, eflow := c.flow, flow := none, slots := 0, ldErr := none, stepped := false, pc := c.tvec } := by
  rw [Core.trapped, slot]
  simp [trapOf, flag]

/-- The oldest error of a posted write is taken (14 R379). -/
theorem exec_lateWriteError {s u : State} {g : Lapse} {k : CoreId} {code addr : Nat} {l : List (Nat × Nat)} (passed : s.pass g = u)
    (run : (u.core (coreIx k)).st = .running) (low : 1 ≤ code) (high : code ≤ 7) (late : (u.core (coreIx k)).late = (code, addr) :: l) :
    exec (.lateWriteError g k code addr) s = .next (u.takeLate (coreIx k) code addr) := by
  have some' : code ≠ 0 := Nat.ne_of_gt low
  have inRange : ¬ 7 < code := Nat.not_lt.mpr high
  show execLateWriteError g k code addr s = _
  simp [execLateWriteError, passed, run, some', inRange, late]

theorem State.takeLate_super {u : State} {code addr : Nat} {l : List (Nat × Nat)} (unmasked : (u.core 0).masked = false)
    (late : (u.core 0).late = (code, addr) :: l) : ((u.takeLate 0 code addr).core 0).late = l ∧
      ((u.takeLate 0 code addr).core 0).ecause = 6 + 256 * code + 2048 ∧ ((u.takeLate 0 code addr).core 0).eaddr = addr ∧
      ((u.takeLate 0 code addr).core 0).epc = (u.core 0).pc ∧ ((u.takeLate 0 code addr).core 0).pc = (u.core 0).tvec := by
  set x := u.modCore 0 (fun c => { c with late := c.late.drop 1 }) with taken
  have core : x.core 0 = { u.core 0 with late := (u.core 0).late.drop 1 } := State.core_setCore_self (by decide)
  obtain ⟨tgt, -, trapped⟩ := State.trapCore_super (s := x) (t := ⟨6, code, addr⟩) (async := true) (by rw [core]; exact unmasked) (by simp)
  rw [State.takeLate, ← taken, trapped, core, late]
  refine ⟨rfl, ?_, rfl, rfl, rfl⟩
  show 6 % 256 + code <<< 8 + 1 <<< 11 = _
  rw [Nat.shiftLeft_eq]
  omega

/-- An applet's watchdog stops a core that has not waited for WDOG ms (14 R386). -/
theorem exec_appletWatchdog {s u : State} {g : Lapse} {n : Fin 4} (passed : s.pass g = u) (set : u.pf Pf.appCfg_WDOG n ≠ 0)
    (run : (u.core (1 + n)).st = .running) (due : (u.core (1 + n)).busyAt + msTk (u.pf Pf.appCfg_WDOG n) ≤ u.now) :
    exec (.appletWatchdog g n) s = .next (u.trapCore (1 + n) (trapOf 8) false) := by
  show execAppletWatchdog g n s = _
  simp [execAppletWatchdog, passed, set, run, State.expired, due]

/-- It is started again 100 ms after its trap (14 R386). -/
theorem exec_appletRestart {s u : State} {g : Lapse} {n : Fin 4} {r : Nat} (passed : s.pass g = u) (since : (u.applet n).restart = some r)
    (due : r + 20000000 ≤ u.now) (on : u.pb Pf.appCfg_RUN n = true) (up : u.pd 2 = true) : exec (.appletRestart g n) s = .next (u.startApplet n) := by
  show execAppletRestart g n s = _
  simp [execAppletRestart, passed, since, State.expired, due, on, up]

/-- HALTREQ halts a running core where it stands (14 R387). -/
theorem State.dbgCtrl_halt {u : State} (j : Fin 5) (run : (u.core j).st = .running) : ((u.dbgCtrl j 1).dbgCore j).ctrl = 1 ∧
    ∀ x, { (u.dbgCtrl j 1).core j with evPend := x } = ({ u.core j with st := .halted, stepped := true, evPend := x } : Core) := by
  set t := u.modDbgCore j (fun d => { d with ctrl := 1 % 16 }) with written
  have run' : (t.core j).st = .running := run
  have halts : u.dbgCtrl j 1 = t.debugHalt j := by simp [State.dbgCtrl, ← written, run']
  have dbg : (t.debugHalt j).dbg = t.dbg := (State.debugHalt_only (l := [.atlas, .regs, .evs, .ctl]) (.refl ..) (by decide)).same .dbg (by decide)
  have ctrl : t.dbgCore j = { u.dbgCore j with ctrl := 1 } := (State.dbgCore_modDbgCore ..).trans (if_pos ⟨rfl, j.isLt⟩)
  rw [halts]
  refine ⟨?_, fun x => State.debugHalt_core (by omega) x⟩
  rw [State.dbgCore, dbg]
  exact congrArg DbgCore.ctrl ctrl

/-- A write of STEP runs a halted core's next word (14 R387). -/
theorem exec_dbgCoreStep {s u : State} {g : Lapse} {j : Fin 5} (passed : s.pass g = u) (on : u.pd 3 = true) (isOpen : u.fab.closed.testBit 3 = false)
    (unlocked : u.dbg.locked = false) (halted : (u.core j).st = .halted) : exec (.dbgCoreStep g .super j) s = .next ((u.dbgStep j).issue j) := by
  have running : ((u.dbgStep j).core j).st = .running := by
    rw [State.dbgStep, if_pos halted, State.modCore, State.core_setCore_self (by omega)]
  show execDbgCoreStep g .super j s = _
  simp [execDbgCoreStep, passed, halted, State.regCmd_step on isOpen j unlocked, running]

/-- Settles O47, by what a word, a trigger, a wait and a trap leave of a core. -/
theorem xitreControl : Obligations.XitreControl := by
  intro s g k v b u i c run at_ moves free pends fits
  have lt : i < 73 := coreIx_lt k
  have core : (u.unfence i).core i = c := State.core_unfence lt
  refine ⟨fun ⟨running, free⟩ ⟨late, notHalted, notBreak⟩ notStepped => ?_, fun ⟨running, free⟩ slot => ?_, fun ⟨running, free⟩ mask => ?_,
    fun j ⟨running, free⟩ dest => ?_, fun waiting notStepped notC event => ?_, fun n waiting notStepped notC none' timed due => ?_,
    fun code addr l super running unmasked low high late => ?_, fun n => ⟨fun set running due => ?_, fun r since due on up => ?_⟩, fun j on isOpen => ?_⟩
  · have issue : ∀ {d x y}, moves d x y → u.issue i = (u.unfence i).runMoves i [⟨d, .imm x y, false, true⟩] := fun here =>
      State.issue_word running late free (.inr ⟨notHalted, notBreak⟩) lt here
    refine ⟨fun d x y here slot => ?_, fun d x y z here slot jump => ?_⟩
    · obtain ⟨-, -, -, low, -⟩ := id here
      have ran := State.runMoves_imm_plain (x := x) (short := y) lt low core slot State.setCore_unfence
      have calm : c.stepped = false := notStepped
      exact ⟨_, congrArg Host.Outcome.next (issue here), ran.trans (if_neg (by simp [calm]))⟩
    · obtain ⟨-, -, -, low, -⟩ := id here
      have ran := State.runMoves_imm_jump (x := x) (short := y) lt low core slot jump notStepped
      exact ⟨_, congrArg Host.Outcome.next (issue here), ran.trans State.setCore_unfence⟩
  · refine ⟨fun m target fits' low saves => ?_, ?_, ?_, fun super whole => ?_, fun super unmasked noBreak => ?_⟩
    · have short : shortImm m.toNat = m.toNat := by
        rw [shortImm_of_lt m.isLt, if_neg (by omega)]
      have calls := State.trigger_call running free lt slot (target.symm ▸ targetTrap_none fits') low (saves.imp_right fun zero => by simp [zero])
      refine does_of_trigger ((congrArg (u.trigger i 0x189 · true) short).trans calls) rfl ?_
      exact congrArg (fun b' => u.setCore i { c with flow := some (.call b' m.toNat), slots := delayOf i }) target
    · exact does_of_trigger (State.trigger_call_other running free slot) rfl rfl
    · exact does_of_trigger (State.trigger_ret running free lt slot) rfl rfl
    · subst super
      exact does_of_trigger (State.trigger_rte running free slot whole) rfl rfl
    · subst super
      obtain ⟨tgt, zero, trapped⟩ := State.trapCore_super (s := u) (t := trapOf (v.toNat % 256)) (async := false) unmasked noBreak
      refine does_of_trigger (State.trigger_softwareTrap running free slot) rfl (trapped.trans ?_)
      rw [zero slot]
      exact Core.trapped_cause slot
  · have waits := State.trigger_wait (v := v.toNat) (short := false) running free lt mask
    refine does_of_trigger waits rfl ?_
    have none' : v = 0 ↔ v.toNat = 0 := BitVec.toNat_inj.symm
    simp only [none']
    rfl
  · exact does_of_trigger (State.trigger_post running free dest) rfl rfl
  · have pending : u.pendingEv i &&& (u.core i).evMask = c.evPend &&& c.evMask :=
      congrArg (· &&& (u.core i).evMask) (State.pendingEv_of_notC notC)
    obtain ⟨running, ev, left⟩ := State.endWait_core (s := u) (r := c.evPend &&& c.evMask) lt
    refine ⟨_, exec_waitEnd rfl waiting notStepped pending (.inl event), running, ev, fun j => ?_⟩
    rw [left, testBit_sub_and, Nat.testBit_and]
    show ((u.core i).evPend.testBit j && !((u.core i).evPend.testBit j && (u.core i).evMask.testBit j)) = ((u.core i).evPend.testBit j && !(u.core i).evMask.testBit j)
    cases (u.core i).evPend.testBit j <;> simp
  · have pending : u.pendingEv i &&& (u.core i).evMask = 0 := by rw [State.pendingEv_of_notC notC]; exact none'
    obtain ⟨running, ev, left⟩ := State.endWait_core (s := u) (r := 0) lt
    exact ⟨_, exec_waitEnd rfl waiting notStepped pending (.inr ⟨n, timed, due⟩), running, ev, left.trans (by rw [Nat.and_zero]; rfl)⟩
  · subst super
    exact ⟨_, exec_lateWriteError rfl running low high late, State.takeLate_super unmasked late⟩
  · exact ⟨_, exec_appletWatchdog rfl set running due, State.trapCore_applet n (by decide)⟩
  · exact ⟨_, exec_appletRestart rfl since due on up, State.startApplet_core n⟩
  · refine ⟨fun locked => ⟨_, rfl, State.regCmd_haltreq_locked on isOpen j locked⟩, fun unlocked running => ?_,
      fun d x y unlocked ix halted free late trapHalt here slot => ?_⟩
    · obtain ⟨ctrl, core⟩ := State.dbgCtrl_halt j running
      exact ⟨_, congrArg Host.Outcome.next (State.regCmd_haltreq on isOpen j unlocked), ctrl, core _⟩
    · have core : { ((u.dbgStep i).issue i).core i with evPend := c.evPend } = _ := State.step_word (ix ▸ j.isLt) halted late free (ix ▸ trapHalt) slot here c.evPend
      exact ⟨_, exec_dbgCoreStep rfl on isOpen unlocked (ix ▸ halted), ix ▸ core⟩

end Sys2Proof.Machine
end

section
/-!
PROOFS. The scrubber and the MEM block (15 R400, R403, R407); then O17.
-/
namespace Sys2Proof.Machine

section
variable {u t : State} {p q v : Nat}

/-! ### The scrubber (15 R400) -/

/-- What the scrubber looks for depends on what is enabled alone. -/
theorem State.scrubFrom_congr (half : t.mem.scrub = u.mem.scrub) (filter : t.mem.scrubF = u.mem.scrubF) (k p : Nat) : t.scrubFrom k p = u.scrubFrom k p := by
  induction k generalizing p with
  | zero => rfl
  | succ k ih =>
    have on : t.scrubOn p = u.scrubOn p := by rw [State.scrubOn, State.scrubOn, half, filter]
    simp only [State.scrubFrom, on, ih]

/-- A clean doubleword is read and nothing of it changes (15 R392). -/
theorem State.readDw_clean {port a : Nat} (clean : synOf (u.synAt a) = .clean) : u.readDw port a = (u, some (u.bytesAt a 8)) := by
  simp [State.readDw, clean]

/-- One read of the scrubber, of a doubleword without an error inside a lap. -/
theorem exec_scrubRead {s : State} {g : Lapse} (passed : s.pass g = u) (on : u.mem.ctrl.testBit 0 = true) (up : u.pd 3 = true) (runs : u.pwr.st = .run)
    (due : u.mem.readAt + bitsOf u.mem.ctrl 4 14 ≤ u.now) (first : u.scrubFrom 34 u.mem.pos = some p) (idle : u.fab.inflight = [])
    (clean : synOf (u.synAt (scrubAddr p)) = .clean) (next : u.scrubFrom 34 (p + 1) = some q) :
    exec (.scrubRead g) s = .next { u with mem := { u.mem with readAt := u.now, pos := q } } := by
  have next' : ({ u with mem := { u.mem with readAt := u.now } } : State).scrubFrom 34 (p + 1) = some q := (State.scrubFrom_congr rfl rfl ..).trans next
  show execScrubRead g s = _
  simp [execScrubRead, passed, on, up, runs, State.expired, due, first, idle, State.readDw_clean clean, next']

/-! ### Writes of the block (15 R403, R407) -/

/-- The supervisor's write of a register of a block that is up reaches it (01 R31). -/
theorem State.superWrite_super {a : Nat} {k : State → State} (up : u.pd 3 = true) (at_ : blockAt a = some (0x40090000, 0x400A0000, 3, false))
    (isOpen : u.fab.closed.testBit 3 = false) : u.superWrite .super a k = k u := by
  have isOpen' : u.portClosed a = false := by rw [State.portClosed, at_]; exact isOpen
  simp [State.superWrite, up, isOpen']

/-- An application core's does not. -/
theorem State.superWrite_applet {a : Nat} {k : State → State} {n : Fin 4} (up : u.pd 3 = true) (at_ : blockAt a = some (0x40090000, 0x400A0000, 3, false))
    (isOpen : u.fab.closed.testBit 3 = false) :
    u.superWrite (.applet n) a k = u.accessErr (.applet n) 3 a := by
  have isOpen' : u.portClosed a = false := by rw [State.portClosed, at_]; exact isOpen
  simp [State.superWrite, up, isOpen']

/-- A write of MEM_FLIP_CTRL that does not clear DONE (15 R403). -/
theorem exec_memFlipArm {s : State} {g : Lapse} (passed : s.pass g = u) (up : u.pd 3 = true) (isOpen : u.fab.closed.testBit 3 = false) (keeps : v < 2 ^ 14) :
    exec (.memFlipArm g .super v) s = .next (u.setFlip v) := by
  have done : v.testBit 14 = false := Nat.testBit_lt_two_pow keeps
  show execMemFlipArm g .super v s = _
  rw [execMemFlipArm, passed, State.superWrite_super up rfl isOpen]
  simp [done]

theorem State.setFlip_arm (some' : u.mem.flipLo ≠ 0) : (u.setFlip v).mem.arm = v.testBit 13 := by
  simp [State.setFlip, some']

/-- Arming with every mask 0 has no effect (15 R403). -/
theorem State.setFlip_arm_none (lo : u.mem.flipLo = 0) (hi : u.mem.flipHi = 0) (chk : bitsOf v 0 8 = 0) : (u.setFlip v).mem.arm = false := by
  simp [State.setFlip, lo, hi, chk]

theorem bitsOf_zero (x n : Nat) : bitsOf x 0 n = x % 2 ^ n := by
  simp [bitsOf]

end

/-- Settles O17, by the state that each command of the block leaves. -/
theorem memoryBlock : Obligations.MemoryBlock := by
  intro s g up isOpen u
  refine ⟨fun p on runs due first idle clean more => ?_, fun v small _ => ?_, fun lo hi => ?_, ?_, ?_, ?_, fun n => ?_⟩
  · obtain ⟨q, next⟩ := Option.isSome_iff_exists.mp more
    have kept : Only [.memc] u { u with mem := { u.mem with readAt := u.now, pos := q } } := Only.put_memc (.refl ..) (by decide) rfl rfl rfl
    exact ⟨_, exec_scrubRead rfl on up runs due first idle clean next, rfl, next.symm, fun _ => rfl, fun part other => kept.same part (by simp [other])⟩
  · have kept : Only [.memc] u (u.setFlip v) := State.setFlip_only (.refl ..) (by decide)
    exact ⟨_, exec_memFlipArm rfl up isOpen small, bitsOf_zero .., rfl, State.setFlip_arm, fun part other => kept.same part (by simp [other])⟩
  · exact ⟨_, exec_memFlipArm rfl up isOpen (by decide), State.setFlip_arm_none lo hi (by decide)⟩
  · exact ⟨_, congrArg Host.Outcome.next (State.superWrite_super up rfl isOpen), rfl⟩
  · exact ⟨_, congrArg Host.Outcome.next (State.superWrite_super up rfl isOpen), rfl⟩
  · exact ⟨_, congrArg Host.Outcome.next (State.superWrite_super up rfl isOpen), rfl⟩
  · exact ⟨_, congrArg Host.Outcome.next (State.superWrite_applet up rfl isOpen), rfl⟩

end Sys2Proof.Machine
end

section
/-!
PROOFS. The transfers of a DMA channel (15 R404 to R406); then O18.
-/
namespace Sys2Proof.Machine

section
variable {u v : State} {n : Nat}

/-! ### A write of a channel of the supervisor (15 R404) -/

/-- A write of such a channel to system SRAM, with nothing outstanding, reaches the memory. -/
theorem State.access_dmaStore {r : FabReq} (up : u.pd 3 = true) (isOpen : u.fab.closed.testBit 3 = false) (idle : u.fab.inflight = [])
    (port : r.port = 2) (starter : (u.dmaOf r.unit).starter = 0) (write : r.write = true) (plain : r.excl = false) (region : regionOf r.addr = some 0)
    (al : aligned r.addr r.size = true) (stored : u.memWrite r.port r.addr r.size r.data = (v, 0)) :
    u.access r = ({ v with twin := v.twin.written (ridOf r) r.addr r.size }, 0, 0) := by
  obtain ⟨lo, hi⟩ := bounds_of_regionOf_zero region
  have notTwin : inTwin r.addr = false := by simp [inTwin]; omega
  have notPeripheral : ¬ 0x40000000 ≤ r.addr := by omega
  have domain : addrDomain r.addr = some 3 := by simp [addrDomain, notTwin, notPeripheral, region, memDomain]
  have allowed : u.memAllowed r = true := by simp [State.memAllowed, State.initiator, port, starter]
  have early : u.earlyCode r = none := by simp [State.earlyCode, al, domain, up, isOpen]
  have target : u.target r = ({ v with twin := v.twin.written (ridOf r) r.addr r.size }, 0, 0) := by
    simp [State.target, al, domain, up, isOpen, notTwin, notPeripheral, allowed, plain, region, State.sramAccess, write, State.sramWrite, stored]
  simp [State.access, State.serveOlder_of_idle idle, up, early, notTwin, target]

/-- The one element of a fill with 8 bytes is stored (15 R404). -/
theorem State.dmaElem_fill {a x : Nat} (up : u.pd 3 = true) (isOpen : u.fab.closed.testBit 3 = false) (idle : u.fab.inflight = []) (unarmed : u.mem.arm = false)
    (starter : (u.dmaOf n).starter = 0) (desc : (u.dmaOf n).desc = [0, a, 8, 0x1B, 0, x]) (region : regionOf a = some 0) (al : a % 8 = 0) :
    ∃ t, u.dmaElem n 0 = (t, 0, a) ∧ Stores u t a 8 x ∧ t.dma = u.dma := by
  obtain ⟨lo, hi⟩ := bounds_of_regionOf_zero region
  have elem : (u.dmaOf n).elem = 8 := by simp [DmaCh.elem, DmaCh.fld, desc, bitsOf]
  have dst : (u.dmaOf n).dst 0 = a := by simp [DmaCh.dst, DmaCh.fld, desc]; omega
  have al' : aligned a 8 = true := by simp [aligned, al]
  obtain ⟨y, d, c, stored, stores⟩ := State.memWrite_stores (port := 2) (x % 2 ^ 64) unarmed al' (fun small => absurd small (by decide))
  have data : u.dmaData n 0 = (u, 0, x % 2 ^ 64) := by
    have fill : (u.dmaOf n).reads = false := by simp [DmaCh.reads, DmaCh.fld, desc, Nat.testBit]
    simp [State.dmaData, fill, elem, DmaCh.fld, desc, bitsOf]
  have access := State.access_dmaStore (r := (u.dmaOf n).writeOf n 0 (x % 2 ^ 64)) up isOpen idle rfl starter rfl rfl (by simpa [DmaCh.writeOf, dst] using region)
    (by simpa [DmaCh.writeOf, dst, elem] using al') (by simpa only [DmaCh.writeOf, dst, elem] using stored)
  set t : State := { u.storeRaw y d c with twin := u.twin.written (ridOf ((u.dmaOf n).writeOf n 0 (x % 2 ^ 64))) ((u.dmaOf n).dst 0) (u.dmaOf n).elem }
  refine ⟨t, ?_, Stores.of_mod (n := 8) stores, rfl⟩
  have access' : u.access ((u.dmaOf n).writeOf n 0 (x % 2 ^ 64)) = (t, 0, 0) := access
  simp only [State.dmaElem, data, ne_eq, not_true_eq_false, if_false, access', dst]

/-! ### The end of a channel's descriptor and its errors (15 R405, R406) -/

/-- A channel halts with its code and address and the bytes not yet written (15 R406). -/
theorem State.dmaOf_dmaFail {k code a : Nat} (lt : n < 32) : (u.dmaFail n k code a).dmaOf n =
    { u.dmaOf n with left := (u.dmaOf n).fld 2 - k * (u.dmaOf n).elem, st := 3, code := code, errAddr := a } := by
  rw [State.dmaFail, State.dmaHalt, State.dmaOf_modDma, if_pos ⟨rfl, lt⟩, State.dmaOf_modDma, if_pos ⟨rfl, lt⟩]

/-- An error of the first element's write: nothing of the descriptor was transferred before it. -/
theorem exec_dmaTransferError {s : State} {g : Lapse} {n : Fin 32} {code : Nat} (passed : s.pass g = u) (busy : (u.dmaOf n).st = 1) (some' : 0 < (u.dmaOf n).count)
    (low : 1 ≤ code) (high : code ≤ 7) : exec (.dmaTransferError g n code ((u.dmaOf n).dst 0)) s =
      .next (((if code = 7 && !((u.dmaOf n).reads && decide ((u.dmaOf n).src 0 = (u.dmaOf n).dst 0)) then u.dmaLate n 0 else u).dmaFail n 0 code
        ((u.dmaOf n).dst 0)).fabErr code 2 ((u.dmaOf n).dst 0)) := by
  obtain ⟨k, count⟩ := Nat.exists_eq_succ_of_ne_zero some'.ne'
  have real : code ≠ 0 := Nat.ne_of_gt low
  have inRange : ¬ 7 < code := Nat.not_lt.mpr high
  show execDmaTransferError g n code _ s = _
  simp [execDmaTransferError, passed, busy, count, real, inRange, State.dmaRun]

/-- A fill of one element ends its channel (15 R405). -/
theorem exec_dmaDescriptorComplete {s t : State} {g : Lapse} {n : Fin 32} {a b x : Nat} (passed : s.pass g = u) (busy : (u.dmaOf n).st = 1)
    (desc : (u.dmaOf n).desc = [0, a, 8, 0x1B, 0, x]) (elem : u.dmaElem n 0 = (t, 0, b)) (kept : t.dma = u.dma) :
    exec (.dmaDescriptorComplete g n) s = .next ((t.modDma n (fun c => { c with left := 0 })).modDma n (fun c => { c with st := 2 })) := by
  have one : (u.dmaOf n).count = 1 := by simp [DmaCh.count, DmaCh.elem, DmaCh.fld, desc, bitsOf]
  have same : t.dmaOf n = u.dmaOf n := by rw [State.dmaOf, State.dmaOf, kept]
  have ctrl : (t.dmaOf n).fld 3 = 0x1B := by simp [DmaCh.fld, same, desc]
  have noPost : Nat.testBit 0x1B 6 = false := by decide
  have noLink : Nat.testBit 0x1B 5 = false := by decide
  show execDmaDescriptorComplete g n s = _
  simp [execDmaDescriptorComplete, passed, busy, one, State.dmaRun, elem, ctrl, noPost, noLink]

end

/-- Settles O18, by the one element of the fill and by what a channel that halts keeps. -/
theorem dmaChannels : Obligations.DmaChannels := by
  intro s g n u c
  refine ⟨fun a v up isOpen idle unarmed busy starter desc region al => ?_, fun busy some' => ?_, fun code low high busy some' len => ?_⟩
  · obtain ⟨t, elem, ⟨inside, outside⟩, kept⟩ := State.dmaElem_fill up isOpen idle unarmed starter desc region al
    have same : ∀ m, t.dmaOf m = u.dmaOf m := fun m => by rw [State.dmaOf, State.dmaOf, kept]
    refine ⟨_, exec_dmaDescriptorComplete rfl busy desc elem kept, ?_, ?_, inside, outside, fun m ne => ?_⟩
    · rw [State.dmaOf_modDma, if_pos ⟨rfl, n.isLt⟩]
    · rw [State.dmaOf_modDma, if_pos ⟨rfl, n.isLt⟩, State.dmaOf_modDma, if_pos ⟨rfl, n.isLt⟩]
    · have other : ¬ (n.val = m.val ∧ n.val < 32) := fun both => ne (Fin.ext both.1.symm)
      rw [State.dmaOf_modDma, if_neg other, State.dmaOf_modDma, if_neg other, same]
  · refine ⟨_, exec_dmaTransferError rfl busy some' (by decide) le_rfl, ?_⟩
    dsimp only [c]
    generalize ((u.dmaOf n).reads && decide ((u.dmaOf n).src 0 = (u.dmaOf n).dst 0)) = sameRead
    cases sameRead <;> rfl
  · have notTimeout : code ≠ 7 := by omega
    have run := exec_dmaTransferError (s := s) (g := g) rfl busy some' low (by omega : code ≤ 7)
    rw [if_neg (by simp [notTimeout])] at run
    have halted := State.dmaOf_dmaFail (u := u) (k := 0) (code := code) (a := c.dst 0) n.isLt
    refine ⟨_, run, congrArg DmaCh.st halted, congrArg DmaCh.code halted, congrArg DmaCh.errAddr halted, (congrArg DmaCh.left halted).trans ?_, rfl, fun _ => rfl⟩
    simp [c]

end Sys2Proof.Machine
end

section
/-!
PROOFS. The twin link (13 R334, R336, R341, R345 to R347): what brings it up and down, the frames, the errors and the timers; then O19.
-/
namespace Sys2Proof.Machine

/-! ### The buffers of a link that goes down (13 R336, R344) -/

section
variable {t : Twin} {i j : Nat}

/-- Emptying a buffer changes the buffers and the counts of discarded words alone. -/
theorem Twin.dropBuf_eq (t : Twin) (i : Nat) : ∃ pf d, t.dropBuf i = { t with pf := pf, discarded := d } := by
  unfold Twin.dropBuf
  split
  · exact ⟨t.pf, t.discarded, rfl⟩
  · exact ⟨_, _, rfl⟩

theorem Twin.buf_dropBuf : (t.dropBuf i).buf j = if i = j then none else t.buf j := by
  unfold Twin.dropBuf
  split
  next empty =>
    split
    next same => rw [← same, empty]
    next => rfl
  next =>
    rw [Twin.buf, getD_setIfInBounds]
    by_cases same : i = j
    · subst same
      by_cases lt : i < 8
      · simp [lt]
      · simp [lt]
    · simp [same, Twin.buf]

/-- Emptying several. -/
theorem Twin.dropBufs (l : List Nat) (t : Twin) : (∃ pf d, l.foldl Twin.dropBuf t = { t with pf := pf, discarded := d }) ∧
    ∀ j, (l.foldl Twin.dropBuf t).buf j = if j ∈ l then none else t.buf j := by
  induction l generalizing t with
  | nil => exact ⟨⟨t.pf, t.discarded, rfl⟩, fun j => by simp⟩
  | cons i l ih =>
    obtain ⟨⟨pf, d, all⟩, bufs⟩ := ih (t.dropBuf i)
    obtain ⟨_, _, one⟩ := t.dropBuf_eq i
    refine ⟨⟨pf, d, ?_⟩, fun j => ?_⟩
    · rw [List.foldl_cons, all, one]
    · rw [List.foldl_cons, bufs, Twin.buf_dropBuf]
      by_cases rest : j ∈ l <;> simp [rest, eq_comm]

end

section
variable {s u : State}

theorem State.modTwin_dropBufs (l : List Nat) (s : State) : l.foldl (fun s i => s.modTwin (fun t => t.dropBuf i)) s = { s with twin := l.foldl Twin.dropBuf s.twin } := by
  induction l generalizing s with
  | nil => rfl
  | cons i l ih => rw [List.foldl_cons, ih]; rfl

/-- A lock that is broken is gone, and counted (13 R346). -/
theorem State.breakLock_held {rid k : Nat} (held : s.twin.lock = some (rid, k)) :
    s.breakLock.twin = { s.twin with lock := none, broken := some rid, lockBreak := satInc 0xFFFF s.twin.lockBreak } := by
  have event : Only [.atlas, .evs, .ctl] (s.modTwin (fun t => { t with lock := none, broken := some rid, lockBreak := satInc 0xFFFF t.lockBreak })) s.breakLock := by
    rw [State.breakLock, held]
    exact State.linkEvent_only (.refl ..) (by decide)
  exact event.same .twin (by decide)

theorem State.breakLock_lock (s : State) : s.breakLock.twin.lock = none ∧ s.breakLock.twin.downs = s.twin.downs := by
  cases held : s.twin.lock with
  | none => simp [State.breakLock, held]
  | some p => rw [State.breakLock_held held]; exact ⟨rfl, rfl⟩

/-- The link's record when it has gone down, `lost` posted writes with it (13 R336). -/
def Twin.down (t : Twin) (lost : Nat) : Twin :=
  { t with
    up := false, out := [], again := [], wait := [], txq := [], unacked := [], inq := [], sem := [], lockReq := false
    downs := satInc 0xFFFF t.downs, postErr := satAdd 0xFFFFFFFF t.postErr lost }

theorem Twin.buf_down (t : Twin) (lost i : Nat) : (t.down lost).buf i = t.buf i := rfl

theorem Twin.downs_down (t : Twin) (lost : Nat) : (t.down lost).downs = satInc 0xFFFF t.downs := rfl

theorem State.linkDown_twin (up : u.twin.up = true) (reason : Nat) :
    ∃ lost, (u.linkDown reason).twin = ((List.range 8).foldl Twin.dropBuf u.breakLock.twin).down lost ∧ (u.linkDown reason).il.beValid = false := by
  unfold State.linkDown
  rw [if_neg (by simp [up])]
  extract_lets outs lost again wait broken emptied gone refused refused' unheard marked
  refine ⟨lost, ?_⟩
  have dropped : emptied.twin = (List.range 8).foldl Twin.dropBuf broken.twin := by
    simp only [emptied, State.modTwin_dropBufs]
  have answered : Only [.fab, .dbg, .regs, .dma] gone refused' :=
    Only.foldl (Only.foldl (.refl ..) (fun _ _ => State.respond_only (.refl ..) (by decide))) (fun _ _ => State.respond_only (.refl ..) (by decide))
  have event : Only [.atlas, .evs, .ctl] marked (marked.linkEvent 2 reason) := State.linkEvent_only (.refl ..) (by decide)
  have same : marked.twin = refused'.twin ∧ marked.il.beValid = false := by
    simp only [marked]
    split <;> exact ⟨rfl, rfl⟩
  have ilr : { (marked.linkEvent 2 reason).il with ctl := [] } = { marked.il with ctl := [] } := event.same .ilr (by decide)
  have il : (marked.linkEvent 2 reason).il.beValid = marked.il.beValid := by simpa only using congrArg Intlk.beValid ilr
  have down : gone.twin = emptied.twin.down lost := rfl
  have eventTwin : (marked.linkEvent 2 reason).twin = marked.twin := event.same .twin (by decide)
  have answeredTwin : refused'.twin = gone.twin := answered.same .twin (by decide)
  rw [eventTwin, same.1, answeredTwin, down, dropped, il]
  exact ⟨rfl, same.2⟩

/-- What a link that goes down loses, and counts (13 R336). -/
theorem State.linkDown_leaves (up : u.twin.up = true) (reason : Nat) :
    (u.linkDown reason).twin.up = false ∧ (u.linkDown reason).twin.out = [] ∧ (u.linkDown reason).twin.unacked = [] ∧ (u.linkDown reason).twin.sem = [] ∧
      (u.linkDown reason).twin.lock = none ∧ (u.linkDown reason).twin.downs = satInc 0xFFFF u.twin.downs ∧
      (∀ i : Fin 8, (u.linkDown reason).twin.buf i = none) ∧ (u.linkDown reason).il.beValid = false := by
  obtain ⟨lost, twin, unheard⟩ := State.linkDown_twin up reason
  obtain ⟨unlocked, downs⟩ := u.breakLock_lock
  obtain ⟨⟨pf, d, kept⟩, bufs⟩ := Twin.dropBufs (List.range 8) u.breakLock.twin
  rw [twin]
  refine ⟨rfl, rfl, rfl, rfl, ?_, ?_, fun i => ?_, unheard⟩
  · rw [kept]
    exact unlocked
  · rw [Twin.downs_down, kept, ← downs]
  · rw [Twin.buf_down, bufs, if_pos (List.mem_range.mpr i.isLt)]

/-! ### The link comes up (13 R334) -/

/-- The link's record when it has come up. -/
def Twin.fresh (t : Twin) (now : Nat) : Twin :=
  { t with
    up := true, seen := true, txSeq := 0, rxSeq := 0, ackSeq := 255, ackAt := now, lastRx := now, unacked := [], replayed := 0
    credit := [32, 32, 32], owed := [0, 0, 0], txq := [], inq := [], broken := none }

theorem does_twinLinkUp {g : Lapse} (passed : s.pass g = u) (down : u.twin.up = false) (on : u.pd 14 = true) (enabled : u.pb Pf.twinCfg_EN = true) :
    Does (.twinLinkUp g) s (fun t => t.twin = u.twin.fresh u.now) := by
  let v := (u.modTwin (fun t => t.fresh u.now)).modIl (fun x => { x with heardAt := u.now })
  have sent : Only [.atlas, .evs, .ctl] v ((((v.linkEvent 1 v.twin.downs).sendCtl 7 v.be).sendCtl 2 v.dualMask).sendRole) :=
    State.sendRole_only (State.sendCtl_only (State.sendCtl_only (State.linkEvent_only (.refl ..) (by decide)) (by decide)) (by decide)) (by decide)
  refine ⟨_, ?_, sent.same .twin (by decide)⟩
  have comes : ¬ (u.twin.up || !u.pd 14 || !u.pb Pf.twinCfg_EN) = true := by simp [down, on, enabled]
  subst passed
  exact if_neg comes

/-! ### Frames (13 R335, R336) -/

/-- Taking an acknowledgement changes what is not yet acknowledged alone. -/
theorem Twin.takeAck_eq (t : Twin) (ack now : Nat) : ∃ unacked last since replayed out,
    t.takeAck ack now = { t with unacked := unacked, ackSeq := last, ackAt := since, replayed := replayed, out := out } := by
  unfold Twin.takeAck
  split
  · exact ⟨t.unacked, t.ackSeq, t.ackAt, t.replayed, t.out, rfl⟩
  · exact ⟨_, _, _, _, _, rfl⟩

/-- Nothing goes out where nothing waits. -/
theorem Twin.pump_of_nothing {t : Twin} (none' : t.txq = []) (now k : Nat) : t.pump now k = t := by
  induction k with
  | zero => rfl
  | succ k ih =>
    have one : t.send1 now = t := by simp [Twin.send1, none', takeReady]
    rw [Twin.pump, one, ih]

/-- A frame with a wrong CRC is counted, and nothing else (13 R336). -/
theorem exec_linkFrame_wrong {g : Lapse} {bytes : List Byte} (passed : s.pass g = u) (up : u.twin.up = true) (wrong : crc32c (bytes.take 28) ≠ leAt bytes 28 4) :
    exec (.linkFrameReceived g bytes) s = .next (u.modTwin (fun t => { t with crcErr := satInc 0xFFFF t.crcErr })) := by
  show execLinkFrameReceived g bytes s = _
  simp [execLinkFrameReceived, passed, up, wrong]

/-- An idle frame that carries no credit is an acknowledgement (13 R335). -/
theorem exec_linkFrame_idle {g : Lapse} {bytes : List Byte} (passed : s.pass g = u) (up : u.twin.up = true) (len : bytes.length = 32)
    (crc : crc32c (bytes.take 28) = leAt bytes 28 4) (seq : leAt bytes 1 1 = u.twin.rxSeq) (idle : leAt bytes 0 1 = 3) (credit : leAt bytes 3 1 = 3)
    (wait : u.twin.wait = []) (txq : u.twin.txq = []) :
    ∃ unacked last since replayed out, exec (.linkFrameReceived g bytes) s = .next { u with twin :=
      { u.twin with unacked := unacked, ackSeq := last, ackAt := since, replayed := replayed, out := out, lastRx := u.now } } := by
  obtain ⟨unacked, last, since, replayed, out, ack⟩ := u.twin.takeAck_eq (leAt bytes 2 1) u.now
  refine ⟨unacked, last, since, replayed, out, ?_⟩
  show execLinkFrameReceived g bytes s = _
  simp [execLinkFrameReceived, passed, up, len, crc, seq, idle, credit, ack, State.modTwin, wait, txq, State.freeWait, Twin.pump_of_nothing]

/-- What a command of the link that ends with an event leaves of its record. -/
theorem State.linkEvent_twin (t : State) (code value : Nat) : (t.linkEvent code value).twin = t.twin := by
  have event : Only [.atlas, .evs, .ctl] t (t.linkEvent code value) := State.linkEvent_only (.refl ..) (by decide)
  exact event.same .twin (by decide)

/-- A lock that has lasted 4,000 tk is broken, and nothing waits for it (13 R346). -/
theorem exec_lockBreak {g : Lapse} {rid k : Nat} (passed : s.pass g = u) (held : u.twin.lock = some (rid, k)) (late : k + 4000 ≤ u.now) :
    exec (.lockBreak g) s = .next u.breakLock.unlocked := by
  show execLockBreak g s = _
  simp [execLockBreak, passed, held, State.expired, late]

theorem State.unlocked_of_nothing {t : State} (again : t.twin.again = []) (wait : t.twin.wait = []) : t.unlocked = t.modTwin (fun x => { x with again := [] }) := by
  simp [State.unlocked, again, State.modTwin, wait, State.freeWait]

/-- Frames not acknowledged for 64 tk are sent again (13 R336). -/
theorem exec_linkReplay {g : Lapse} (passed : s.pass g = u) (up : u.twin.up = true) (some' : u.twin.unacked ≠ []) (late : u.twin.ackAt + 64 ≤ u.now) :
    exec (.linkReplay g) s = .next (u.modTwin (fun t => { t with replays := satInc 255 t.replays, replayed := t.replayed + 1, ackAt := u.now })) := by
  show execLinkReplay g s = _
  simp [execLinkReplay, passed, up, some', State.expired, late]

/-- The error of a posted write is counted and kept (13 R341). -/
theorem exec_postedWriteError {g : Lapse} {n code : Nat} (passed : s.pass g = u) (up : u.twin.up = true) (low : 1 ≤ code) (high : code ≤ 7) (small : n < 2 ^ 32) :
    exec (.postedWriteError g n code) s =
      .next ((u.modTwin (fun t => { t with postErr := satInc 0xFFFFFFFF t.postErr, postAddr := n, postCode := code })).linkEvent 0x0B n) := by
  have addr : n % 4294967296 = n := Nat.mod_eq_of_lt small
  have kept : code % 8 = code := Nat.mod_eq_of_lt (by omega)
  have real : code ≠ 0 := Nat.ne_of_gt low
  show execPostedWriteError g n code s = _
  simp [execPostedWriteError, passed, up, addr, kept, real]

theorem exec_ctlInterrupt {g : Lapse} (passed : s.pass g = u) (up : u.twin.up = true) :
    exec (.ctlInterrupt g) s = .next ((u.modTwin (fun t => { t with irq := true })).raiseEv 0 2) := by
  show execCtlInterrupt g s = _
  simp [execCtlInterrupt, passed, up]

theorem exec_twinWakePattern {g : Lapse} (passed : s.pass g = u) (runs : u.pwr.st = .run) (on : u.pd 14 = true) (pair : u.pb Pf.twinCfg_PAIR = true)
    (down : u.twin.up = false) (late : u.twin.wakeAt + 20000000 ≤ u.now) : exec (.twinWakePattern g) s = .next (u.modTwin (fun t => { t with wakeAt := u.now })) := by
  show execTwinWakePattern g s = _
  simp [execTwinWakePattern, passed, runs, on, pair, down, State.expired, late]

end

/-- Settles O19, by the record that each of the commands leaves. -/
theorem twinLink : Obligations.TwinLink := by
  intro s g n u
  refine ⟨fun down on enabled => ?_, fun up => ?_, fun bytes up wrong => ?_, fun bytes up len crc seq idle credit wait txq => ?_, fun up some' late => ?_,
    fun code up low high small => ?_, ?_, fun rid k held late again wait => ?_, fun up => ?_, fun runs on pair down late => ?_⟩
  · obtain ⟨t, run, twin⟩ := does_twinLinkUp rfl down on enabled
    refine ⟨t, run, ?_⟩
    beta_reduce
    rw [twin]
    exact ⟨rfl, rfl, rfl, rfl, rfl, rfl, rfl⟩
  · exact ⟨_, rfl, State.linkDown_leaves up 0⟩
  · exact ⟨_, exec_linkFrame_wrong rfl up wrong, rfl⟩
  · obtain ⟨unacked, last, since, replayed, out, run⟩ := exec_linkFrame_idle rfl up len crc seq idle credit wait txq
    have kept : Only [.twin] u { u with twin :=
      { u.twin with unacked := unacked, ackSeq := last, ackAt := since, replayed := replayed, out := out, lastRx := u.now } } := Only.put_twin (.refl ..) (by decide)
    exact ⟨_, run, rfl, rfl, rfl, rfl, fun p other => kept.same p (by simp [other])⟩
  · exact ⟨_, exec_linkReplay rfl up some' late, rfl⟩
  · exact ⟨_, exec_postedWriteError rfl up low high small, State.linkEvent_twin ..⟩
  · exact ⟨_, rfl, rfl⟩
  · have broken := State.breakLock_held held
    refine ⟨_, exec_lockBreak rfl held late, ?_⟩
    rw [State.unlocked_of_nothing (by rw [broken]; exact again) (by rw [broken]; exact wait)]
    show { u.breakLock.twin with again := [] } = _
    rw [broken, ← again]
  · exact ⟨_, exec_ctlInterrupt rfl up, rfl, congrArg Core.evPend (State.core_setCore_self (by decide))⟩
  · exact ⟨_, exec_twinWakePattern rfl runs on pair down late, rfl⟩

end Sys2Proof.Machine
end

section
/-!
PROOFS. Resets of the logic die (17 R429, R430), the hold window (17 R431, R432) and sequencers that are started again (17 R434); then O37.
-/
namespace Sys2Proof.Machine

section
variable {s u t : State} {n k : Nat}

/-! ### Phase 2 (17 R425, R430) -/

/-- Raising PD0, PD1 and PD3 brings nothing up but the domains. -/
theorem State.raise_logic (s : State) : Only [.fab, .pwr] s (s.raise 0xB) := by
  have domains : raiseOrder.filter (fun p => Nat.testBit 0xB p) = [0, 3, 1] := by decide
  have one : ∀ (v : State) (p : Nat), p ∈ [0, 3, 1] → Only [.fab, .pwr] v (v.raise1 p) := fun v p mem => by
    have nothing : ∀ w : State, w.domainUp p = w := fun w => by fin_cases mem <;> rfl
    unfold State.raise1
    split
    · exact .refl ..
    · extract_lets x f y
      rw [nothing]
      exact Only.put_fab (State.modPwr_only (.refl ..) (by decide)) (by decide)
  unfold State.raise
  rw [domains]
  extract_lets f v
  have closed : Only [.fab, .pwr] s v := Only.put_fab (.refl ..) (by decide)
  refine closed.after (((one v 0 (by decide)).after (one _ 3 (by decide)) ?_).after (one _ 1 (by decide)) ?_) ?_ <;> exact fun _ h => h

/-- What phase 2 leaves of the rest of the device. -/
structure Phase2 (s t : State) : Prop where
  boot : t.boot = { s.boot with phase := 2 }
  load : t.load = s.load
  atlas : t.atlas = s.atlas
  par : t.par = s.par
  cells : t.mem.cells = s.mem.cells
  st : t.pwr.st = s.pwr.st
  pd1 : t.pd 1 = true
  pd3 : t.pd 3 = true

theorem State.phase2_leaves (s : State) : Phase2 s s.phase2 := by
  have raised := (s.modBoot (fun b => { b with phase := 2 })).raise_logic
  obtain ⟨domains, up⟩ := (s.modBoot (fun b => { b with phase := 2 })).raise_raised 0xB
  obtain ⟨cells, -, -⟩ := (raised.same .bytes (by decide) : _ ∧ _ ∧ _)
  exact ⟨raised.same .boot (by decide), raised.same .load (by decide), raised.same .atlas (by decide), raised.same .par (by decide), cells,
    domains.st, up 1 rfl, up 3 rfl⟩

/-- No storm: fewer than three resets of the window's kinds have come within its time (17 R433). -/
def State.calm (s : State) : Prop := s.pd 3 = true ∧ s.pwr.entry = none ∧ (s.boot.faults.filter (fun k => decide (s.aonSince k < 327680))).length < 3

/-- What a reset of the logic die with a cause leaves (17 R429 to R431). -/
structure LogicReset (u : State) (cause : Nat) (t : State) : Prop where
  phase : t.boot.phase = 2
  cause : t.boot.cause = u.causeWord cause false
  resets : t.boot.resets = satInc 0xFFFF u.boot.resets
  restart : t.boot.restart = true
  st : t.pwr.st = .start
  pd1 : t.pd 1 = true
  pd3 : t.pd 3 = true
  ready : t.atlas.ready = false
  held : t.load.held = true
  stored : t.par.stored = u.par.stored
  cells : t.mem.cells = u.mem.cells
  chan (n : Fin 64) : t.chan n = (u.chan n).reset

theorem State.chan_map_reset (lt : n < 64) : (s.load.ch.map Chan.reset).toList.getD n {} = (s.chan n).reset := by
  simp [State.chan, lt, List.getD_eq_getElem?_getD]

theorem Boot.begin_resets (b : Boot) : (b.begin false true false 2).resets = satInc 0xFFFF b.resets := by rw [Boot.begin]; rfl

theorem State.logicReset_calm (calm : u.calm) (c : Nat) : LogicReset u c (u.logicReset c) := by
  obtain ⟨on, entry, few⟩ := calm
  unfold State.logicReset
  rw [if_neg (by simp [on])]
  extract_lets late u1 paused power aon faults storm outs window stored survey chans fresh clk load v w x y
  have early : late = false := by simp only [late, entry]
  have noStorm : storm = false := by
    have since : ∀ k, u1.aonSince k = u.aonSince k := fun k => by simp only [State.aonSince, u1, State.recordCause, State.modBoot]
    have same : u1.boot.faults = u.boot.faults := by simp only [u1, State.recordCause, State.modBoot]
    have short : countsForStorm c = true → faults.length < 4 := fun counts => by
      simp only [faults, counts, if_true, List.length_append, since, same]
      exact Nat.succ_lt_succ few
    by_cases counts : countsForStorm c = true
    · simp only [storm, Nat.not_le.mpr (short counts), decide_false, Bool.and_false]
    · simp only [storm, counts, Bool.false_and]
  have abandoned : Only [.acc, .boot] u u1.accAbandon := State.accAbandon_only (State.recordCause_only (.refl ..) (by decide)) (by decide)
  have surveyed : Only [.svy] x y := Only.ite (.refl ..) (State.startSurvey_only (State.modSvy_only (.refl ..) (by decide)) (by decide))
  rw [if_neg (by simp [early])]
  obtain ⟨boot, load, atlas, par, cells, st, pd1, pd3⟩ := y.phase2_leaves
  have load : y.phase2.load = x.load := load.trans (surveyed.same .load (by decide))
  have boot : y.phase2.boot = { x.boot with phase := 2 } := boot.trans (congrArg (fun b : Boot => { b with phase := 2 }) (surveyed.same .boot (by decide)))
  have began : v.boot = u1.boot := (State.accAbandon_only (l := [.acc]) (.refl ..) (by decide)).same .boot (by decide)
  obtain ⟨cells', -, -⟩ := (surveyed.same .bytes (by decide) : _ ∧ _ ∧ _)
  obtain ⟨cells'', -, -⟩ := (abandoned.same .bytes (by decide) : _ ∧ _ ∧ _)
  have counted : x.boot.resets = satInc 0xFFFF u.boot.resets := by
    have same : u1.boot.resets = u.boot.resets := by simp only [u1, State.recordCause, State.modBoot]
    simp only [x, w, State.modPwr, State.modBoot, Boot.begin_resets, began, same]
  have power : y.pwr.st = x.pwr.st := congrArg Power.st (surveyed.same .pwr (by decide))
  have stored : y.phase2.par.stored = v.par.stored := congrArg ParStore.stored (par.trans (surveyed.same .par (by decide)))
  have ready : y.phase2.atlas.ready = v.atlas.ready := congrArg Atlas.ready (atlas.trans (surveyed.same .atlas (by decide)))
  have reset : chans = u.load.ch.map Chan.reset := by simp only [chans, noStorm]; rfl
  exact {
    phase := congrArg Boot.phase boot
    cause := (congrArg Boot.cause boot).trans ((congrArg Boot.cause began).trans (congrArg (u.causeWord c) early))
    resets := (congrArg Boot.resets boot).trans counted
    restart := congrArg Boot.restart boot
    st := st.trans power
    pd1
    pd3
    ready
    held := congrArg Load.held load
    stored := stored.trans (congrArg ParStore.stored (abandoned.same .par (by decide)) : u1.accAbandon.par.stored = u.par.stored)
    cells := cells.trans (cells'.trans cells'')
    chan := fun n => (congrArg (fun l : Load => l.ch.toList.getD n {}) load).trans
      ((congrArg (fun l : Vector Chan 64 => l.toList.getD n {}) reset).trans (State.chan_map_reset n.isLt)) }

/-! ### The watchdog and the hold window (17 R429, R431, R432) -/

theorem exec_watchdogReset {g : Lapse} (passed : s.pass g = u) (on : u.pd 1 = true) (up : 7 ≤ u.boot.phase) (last : u.boot.phase ≤ 9)
    (due : u.boot.served + 20000000 ≤ u.now) : exec (.watchdogReset g) s = .next (u.logicReset 3) := by
  show execWatchdogReset g s = _
  simp [execWatchdogReset, passed, on, up, last, State.expired, due]

theorem exec_activationReset {g : Lapse} (passed : s.pass g = u) (due : u.fw.resetAt ≠ none) : exec (.activationReset g) s = .next (u.logicReset 5) := by
  show execActivationReset g s = _
  simp [execActivationReset, passed, Option.isSome_iff_ne_none, due]

theorem exec_watchdogService {g : Lapse} (passed : s.pass g = u) (on : u.pd 1 = true) :
    exec (.supervisorWatchdogService g) s = .next (u.modBoot (fun b => { b with served := u.now })) := by
  show execSupervisorWatchdogService g s = _
  simp [execSupervisorWatchdogService, passed, on]

theorem exec_holdWrite {g : Lapse} {v : Nat} (passed : s.pass g = u) (on : u.pd 3 = true) (isOpen : u.portClosed 0x40020000 = false) :
    exec (.bootCtrlHoldWrite g .super v) s = .next (u.holdWrite v) := by
  show execBootCtrlHoldWrite g .super v s = _
  simp [execBootCtrlHoldWrite, passed, State.openWrite, on, isOpen]

theorem exec_stormClear {g : Lapse} (passed : s.pass g = u) (storm : u.boot.storm = true) (quiet : 327680 ≤ u.aonSince (u.boot.faults.getLast?.getD 0)) :
    exec (.stormClear g) s = .next (u.modBoot (fun b => { b with storm := false, stormStart := false, faults := [] })) := by
  show execStormClear g s = _
  simp [execStormClear, passed, storm, quiet]

theorem State.holdWrite_in {v : Nat} (low : 656 ≤ v % 65536) (high : v % 65536 ≤ 32768) :
    u.holdWrite v = { u with boot := { u.boot with hold := v % 65536, holdPd0 := v % 65536 } } := by
  simp [State.holdWrite, low, high, State.modBoot]

theorem State.holdWrite_out {v : Nat} (out : v % 65536 < 656 ∨ 32768 < v % 65536) : u.holdWrite v = u := by
  have refused : ¬ (656 ≤ v % 65536 ∧ v % 65536 ≤ 32768) := by omega
  simp [State.holdWrite, refused]

/-- A channel that the release of a redundant pair does not turn off, that is no half of a bridge, and whose ORPHAN is OFF. -/
structure OrphanOff (s : State) (k : Nat) : Prop where
  single : s.dualFed k = false
  whole : s.bridgeOdd k = false
  off : s.pf Pf.chCfg_ORPHAN k = 0

theorem OrphanOff.of_par (h : OrphanOff s k) (par : t.par = s.par) : OrphanOff t k where
  single := by simpa only [State.dualFed, State.pb, State.pf_of_par par] using h.single
  whole := by simpa only [State.bridgeOdd, State.bridge, State.pb, State.pf_of_par par] using h.whole
  off := by simpa only [State.pf_of_par par] using h.off

theorem State.orphan_par (s : State) (n : Nat) : (s.orphan n).par = s.par :=
  (State.orphan_only (l := [.load]) (.refl ..) (by decide)).same .par (by decide)

theorem State.orphan_self (h : OrphanOff s k) : s.orphan k = s.setChan k ((s.chan k).gateOff s.now) := by
  simp [State.orphan, h.single, h.whole, h.off]

theorem State.chan_orphan_ne (ne : k ≠ n) : (s.orphan n).chan k = s.chan k := by
  simp only [State.orphan]
  split
  · rfl
  · split
    · exact State.chan_setChan_ne _ ne _
    · split
      · exact State.chan_setChan_ne _ ne _
      · rfl

theorem State.orphan_gate (h : OrphanOff s k) (lt : k < 64) (off : (s.chan k).gate = .off ∨ k = n) : ((s.orphan n).chan k).gate = .off := by
  by_cases same : k = n
  · subst same
    rw [State.orphan_self h, State.chan_setChan_self _ lt]
    rfl
  · rw [State.chan_orphan_ne same]
    exact off.resolve_right same

theorem State.orphans_gate (h : OrphanOff s k) (lt : k < 64) (l : List Nat) (off : (s.chan k).gate = .off ∨ k ∈ l) :
    ((l.foldl State.orphan s).chan k).gate = .off := by
  induction l generalizing s with
  | nil => exact off.resolve_right (List.not_mem_nil)
  | cons n l ih =>
    refine ih (h.of_par (s.orphan_par n)) ?_
    rcases off with off | mem
    · exact .inl (State.orphan_gate h lt (.inl off))
    · rcases List.mem_cons.mp mem with same | later
      · exact .inl (State.orphan_gate h lt (.inr same))
      · exact .inr later

theorem does_holdWindowExpiry {g : Lapse} {at_ : Nat} (passed : s.pass g = u) (window : u.boot.window = some (at_, n)) (passedBy : n ≤ u.aonSince at_)
    (held : u.load.held = true) : Does (.holdWindowExpiry g) s (fun t =>
      t.boot.window = none ∧ t.boot.expired = true ∧ ∀ k : Fin 64, u.dualFed k = false → u.bridgeOdd k = false → u.pf Pf.chCfg_ORPHAN k = 0 →
        (t.chan k).gate = .off) := by
  have ran (v : State) (all : (List.range 64).foldl State.orphan u = v) : ∃ took, exec (.holdWindowExpiry g) s =
      .next (({ v with light := v.light.darken } : State).modBoot (fun b => { b with window := none, expired := true, orphans := took })) := by
    refine ⟨((List.range 64).filter (fun c => !u.dualFed c && !u.bridgeOdd c)).length, ?_⟩
    show execHoldWindowExpiry g s = _
    simp [execHoldWindowExpiry, passed, window, passedBy, held, all]
  obtain ⟨took, ran⟩ := ran _ rfl
  exact ⟨_, ran, rfl, rfl, fun k single whole off => State.orphans_gate ⟨single, whole, off⟩ k.isLt _ (.inr (List.mem_range.mpr k.isLt))⟩

/-! ### Sequencers that are started again (17 R434) -/

/-- What leaves the registers of the cores leaves their states. -/
theorem Only.core_state {l : List Part} (h : Only l s t) (kept : .regs ∉ l) (i : Nat) : (t.core i).st = (s.core i).st ∧ (t.core i).pc = (s.core i).pc := by
  obtain ⟨-, -, -, cores⟩ := (h.same .regs kept : _ ∧ _ ∧ _ ∧ _)
  exact ⟨(congrArg Core.st (cores i) :), (congrArg Core.pc (cores i) :)⟩

theorem coreOfNo_lt {core i : Nat} (of : coreOfNo core = some i) : i < 73 := by
  simp only [coreOfNo] at of
  split at of
  · cases of; omega
  · split at of
    next in_ => cases of; simp only [Bool.and_eq_true, decide_eq_true_eq] at in_; omega
    · cases of

theorem State.coreSound_congr {i : Nat} (test : t.mem.test = s.mem.test) (boot : t.boot = s.boot) : t.coreSound i = s.coreSound i := by
  rw [State.coreSound, State.coreSound, test, boot]

/-- A sequencer that may start runs at the start of its memory; nothing of BOOT changes. -/
theorem State.startSeq_runs {i : Nat} (lt : i < 73) (sound : s.coreSound i = true) :
    ((s.startSeq i).core i).st = .running ∧ ((s.startSeq i).core i).pc = ownBase i ∧ (s.startSeq i).boot = s.boot := by
  have started : s.startSeq i = (s.loadImage (ownBase i) (ownSize i)).startCore i (ownBase i) := by rw [State.startSeq, if_pos sound]
  refine ⟨?_, ?_, (State.startSeq_only (l := [.regs, .evs, .bytes]) (.refl ..) (by decide)).same .boot (by decide)⟩ <;>
    rw [started, State.startCore, State.modCore, State.core_setCore_self lt]

theorem State.not_expired (s : State) (a d : Nat) : (!s.expired a d) = decide (s.now < a + d) := by
  simp only [State.expired, ← decide_not, Nat.not_le]

/-- The parts that the adoption of a channel or bank, or turning it off, changes. -/
def adoptParts : List Part := [.atlas, .load, .iso, .vlv, .evs, .ctl]

section
variable {g : Lapse} {core i : Nat} (passed : s.pass g = u) (of : coreOfNo core = some i) (seq : isVb i = true ∨ isC i = true)
  (trapped : (u.core i).st = .trapped) (ready : u.atlas.ready = true)
include passed of seq trapped ready

/-- Before its third trap a sequencer is started again, and its channel or bank adopted. -/
theorem exec_sequencerRestart_again (few : (u.boot.seqTraps.filter (fun p => p.1 = i && !u.expired p.2 2000000000)).length < 3) :
    ∃ t, exec (.sequencerRestart g core) s = .next t ∧ Only adoptParts ((u.loseMem (ownBase i) (ownSize i)).startSeq i) t := by
  show ∃ t, execSequencerRestart g core s = .next t ∧ _
  unfold execSequencerRestart
  extract_lets w
  have w_eq : w = u := passed
  clear_value w
  subst w_eq
  have kind : (isC i || isVb i) = true := Bool.or_eq_true .. ▸ seq.symm
  simp only [of]
  rw [if_neg (by simp [kind, trapped, ready]), if_neg (by simpa using few)]
  refine ⟨_, rfl, State.emit_only (.ite (State.settle_only ?_ (by decide)) (State.bankOff_only (.refl ..) (by decide))) (by decide)⟩
  have adopted : ∀ (x : State) (r : IsoRel) (n : Nat) (l : Load), Only adoptParts x ((({ x with load := l } : State).applyRel r).adoptChan false n) := fun x r n l =>
    State.adoptChan_only (State.applyRel_only (Only.put_load (.refl ..) (by decide)) (by decide)) (by decide)
  split
  · exact State.evenOut_only (adopted ..) (by decide)
  · exact adopted ..

/-- The third trap halts it for good. -/
theorem exec_sequencerRestart_stuck (many : 3 ≤ (u.boot.seqTraps.filter (fun p => p.1 = i && !u.expired p.2 2000000000)).length) :
    ∃ t, exec (.sequencerRestart g core) s = .next t ∧ Only adoptParts ((u.modBoot (fun b => { b with stuck := b.stuck ++ [i] })).haltCore i .halted) t := by
  show ∃ t, execSequencerRestart g core s = .next t ∧ _
  unfold execSequencerRestart
  extract_lets w
  have w_eq : w = u := passed
  clear_value w
  subst w_eq
  have kind : (isC i || isVb i) = true := Bool.or_eq_true .. ▸ seq.symm
  simp only [of]
  rw [if_neg (by simp [kind, trapped, ready]), if_pos (by simpa using many)]
  exact ⟨_, rfl, State.emit_only (.ite (.ite (.refl ..) (State.dropCh_only (.refl ..) (by decide))) (State.bankOff_only (.refl ..) (by decide))) (by decide)⟩

theorem does_sequencerRestart_again (none_ : u.boot.seqTraps = []) (sound : u.coreSound i = true) :
    Does (.sequencerRestart g core) s (fun t => (t.core i).st = .running ∧ (t.core i).pc = ownBase i ∧ t.boot = u.boot) := by
  obtain ⟨t, ran, only⟩ := exec_sequencerRestart_again passed of seq trapped ready (by simp [none_])
  have lost : Only [.bytes] u (u.loseMem (ownBase i) (ownSize i)) := State.loseMem_only (.refl ..) (by decide)
  have boot := lost.same .boot (by decide)
  obtain ⟨st, pc, kept⟩ := State.startSeq_runs (coreOfNo_lt of) ((State.coreSound_congr (lost.test (by decide)) boot).trans sound)
  obtain ⟨st', pc'⟩ := only.core_state (by decide) i
  exact ⟨t, ran, st'.trans st, pc'.trans pc, (only.same .boot (by decide)).trans (kept.trans boot)⟩

theorem does_sequencerRestart_stuck (many : 3 ≤ (u.boot.seqTraps.filter (fun p => decide (p.1 = i) && decide (u.now < p.2 + 2000000000))).length) :
    Does (.sequencerRestart g core) s (fun t => (t.core i).st = .halted ∧ i ∈ t.boot.stuck) := by
  obtain ⟨t, ran, only⟩ := exec_sequencerRestart_stuck passed of seq trapped ready (by simpa only [State.not_expired] using many)
  obtain ⟨st, -⟩ := only.core_state (by decide) i
  have boot : t.boot = { u.boot with stuck := u.boot.stuck ++ [i] } := only.same .boot (by decide)
  refine ⟨t, ran, ?_, by simp [boot]⟩
  rw [st, State.haltCore, State.modCore, State.core_setCore_self (coreOfNo_lt of)]

end

end

/-- Settles O37: the calm reset is taken apart once for the three causes, and a fold over the channels carries the ORPHAN state. -/
theorem resets : Obligations.Resets := by
  unfold Obligations.Resets
  intro s g u calm resets
  have reset : ∀ c, calm → resets c (u.logicReset c) := fun c quiet => by
    obtain ⟨phase, cause, count, restart, st, pd1, pd3, ready, held, stored, cells, chan⟩ := State.logicReset_calm quiet c
    exact ⟨phase, cause, count, restart, st, pd1, pd3, ready, held, stored, cells, chan⟩
  refine ⟨fun quiet on up last due => ⟨_, exec_watchdogReset rfl on up last due, reset 3 quiet⟩,
    fun quiet => ⟨_, rfl, reset 6 quiet⟩,
    fun quiet due => ⟨_, exec_activationReset rfl due, reset 5 quiet⟩,
    fun on => ⟨_, exec_watchdogService rfl on, rfl⟩,
    fun v on isOpen low high => ⟨_, exec_holdWrite rfl on isOpen, ?_⟩,
    fun v on isOpen out => ⟨_, exec_holdWrite rfl on isOpen, ?_⟩,
    fun h n window passedBy held => does_holdWindowExpiry rfl window passedBy held,
    fun storm quiet => ⟨_, exec_stormClear rfl storm quiet, rfl⟩,
    fun core i of seq trapped ready none_ sound => does_sequencerRestart_again rfl of seq trapped ready none_ sound,
    fun core i of seq trapped ready many => does_sequencerRestart_stuck rfl of seq trapped ready many⟩
  · exact State.holdWrite_in low high
  · exact State.holdWrite_out out

end Sys2Proof.Machine
end

section
/-!
PROOFS. The interlock line and the redundant pair (13 R348 to R360): what a release leaves of the channels, the pair's record; then O44.
-/
namespace Sys2Proof.Machine

/-! ### A release turns channels off (13 R351) -/

/-- The first index of a list whose element has a property names such an element. -/
theorem firstIdx_some {α : Type} {p : α → Bool} {l : List α} {i j : Nat} (found : firstIdx p l i = some j) : i ≤ j ∧ ∃ x, l[j - i]? = some x ∧ p x = true := by
  induction l generalizing i with
  | nil => cases found
  | cons y l ih =>
    rw [firstIdx] at found
    split at found
    next here => cases found; exact ⟨Nat.le_refl _, y, by simp, here⟩
    next =>
      obtain ⟨le, x, at_, has⟩ := ih found
      exact ⟨by omega, x, by rw [show j - i = (j - (i + 1)) + 1 by omega, List.getElem?_cons_succ, at_], has⟩

section
variable {s t u : State} {n i : Nat}

/-- A composite that holds a unit has members. -/
theorem State.members_of_parent {p : Nat} (parent : s.parentOf n = some p) : (s.compOf (p - 64)).members.contains n = true := by
  obtain ⟨j, found, rfl⟩ : ∃ j, firstIdx (fun c : Comp => c.en && c.members.contains n) s.load.comp.toList 0 = some j ∧ j + 64 = p := by
    simpa [State.parentOf] using parent
  obtain ⟨-, c, at_, has⟩ := firstIdx_some found
  have comp : s.compOf (j + 64 - 64) = c := by rw [State.compOf, List.getD_eq_getElem?_getD, Nat.add_sub_cancel]; simpa using congrArg (·.getD {}) at_
  rw [comp]
  exact (Bool.and_eq_true .. ▸ has).2

/-- The lead of a gang is in it. -/
theorem State.mem_gang_of_lead (lead : s.lead n = n) : n ∈ s.gang n := by
  unfold State.lead at lead
  cases gang : s.gang n with
  | cons m ms => rw [gang] at lead; exact lead ▸ List.mem_cons_self
  | nil =>
    exfalso
    unfold State.gang at gang
    split at gang
    next p parent =>
      split at gang
      · have mem := State.members_of_parent parent
        rw [gang] at mem
        cases mem
      · cases gang
    · cases gang

/-- A channel is off, or latched. -/
def State.out (s : State) (n : Nat) : Prop := (s.chan n).st = .off ∨ (s.chan n).st = .latched

/-- An operation that turns no channel on and leaves what settings are read from. -/
structure Lowers (s t : State) : Prop where
  steady : Steady s t
  out : ∀ k, s.out k → t.out k

theorem Lowers.refl (s : State) : Lowers s s := ⟨.refl s, fun _ h => h⟩

theorem Lowers.trans (h : Lowers s t) (k : Lowers t u) : Lowers s u := ⟨h.steady.trans k.steady, fun n off => k.out n (h.out n off)⟩

theorem Lowers.foldl {f : State → Nat → State} (each : ∀ t i, Lowers t (f t i)) (l : List Nat) : Lowers s (l.foldl f s) := by
  induction l generalizing s with
  | nil => exact .refl s
  | cons i l ih => exact (each s i).trans ih

theorem Lowers.of_chan (steady : Steady s t) (chan : ∀ k, t.chan k = s.chan k) : Lowers s t :=
  ⟨steady, fun k off => by rw [State.out, chan k]; exact off⟩

theorem Reports.lowers (h : Reports s t) : Lowers s t := .of_chan h.steady h.chan

theorem State.modChan_lowers {f : Chan → Chan} (keeps : ∀ c, (f c).st = c.st ∨ (f c).st = .off) (s : State) (i : Nat) : Lowers s (s.modChan i f) :=
  ⟨State.modChan_steady .., fun k off => by
    rw [State.out, State.chan_modChan]
    split
    next at_ =>
      obtain ⟨rfl, -⟩ := at_
      rcases keeps (s.chan i) with same | low
      · rw [same]; exact off
      · exact .inl low
    next => exact off⟩

theorem State.endPulse_lowers (s : State) (i : Nat) : Lowers s (s.endPulse i) := .of_chan State.endPulse_same.1 State.chan_endPulse

/-- Giving up a channel turns it off and none on. -/
theorem State.dropCh_lowers (s : State) (i : Nat) : Lowers s (s.dropCh i .off none) := by
  unfold State.dropCh
  extract_lets a b c
  have freed : Lowers s a := by unfold a; split <;> exact .of_chan ⟨rfl, rfl, rfl, rfl, rfl, rfl, rfl⟩ (fun _ => rfl)
  have withdrawn : Lowers s b := freed.trans (.of_chan State.withdraw_about.steady (fun _ => rfl))
  have half : Lowers s c := by
    unfold c
    split
    · exact withdrawn.trans (State.modChan_lowers (by exact fun _ => .inl rfl) ..)
    · exact withdrawn
  exact half.trans (State.modChan_lowers (by exact fun _ => .inr rfl) ..)

theorem State.dropCh_out (lt : i < 64) : (s.dropCh i .off none).out i := .inl (by rw [(State.dropCh_makes lt .off none).record]; rfl)

/-- What a fold over channels that turns each off leaves. -/
theorem foldl_out {f : State → Nat → State} (lowers : ∀ t i, Lowers t (f t i)) (off : ∀ t, Steady s t → (f t n).out n) {l : List Nat} (mem : n ∈ l) :
    (l.foldl f s).out n := by
  induction l generalizing s with
  | nil => cases mem
  | cons i l ih =>
    rcases List.mem_cons.mp mem with rfl | later
    · exact (Lowers.foldl lowers l).out n (off s (.refl s))
    · exact ih (fun t same => off t ((lowers s i).steady.trans same)) later

/-- The drop of a DUALFED channel with its code (13 R351). -/
def State.dualDrop (s : State) (i : Nat) : State := (s.dropCh i .off none).modChan i (fun c => { c with fault := 0x21, offBy := 0x21 })

theorem State.dualDrop_lowers (s : State) (i : Nat) : Lowers s (s.dualDrop i) := (s.dropCh_lowers i).trans (State.modChan_lowers (by exact fun _ => .inl rfl) ..)

theorem State.dualDrop_out (lt : n < 64) (s : State) : (s.dualDrop n).out n :=
  (State.modChan_lowers (by exact fun _ => .inl rfl) ..).out n (State.dropCh_out lt)

theorem State.dieEvents_reports (s : State) (b : Nat) (l : List Nat) : Reports s (l.foldl (fun s i => s.dieEvent i b) s) :=
  .of_only (Only.foldl (.refl ..) (fun _ _ => State.dieEvent_only (.refl ..) (by decide)))

/-- Turning a DUALFED channel off turns none on, and leaves the channel off or latched. -/
theorem State.dualOffAt_lowers (s : State) (n : Nat) : Lowers s (s.dualOffAt n) ∧ (n < 64 → s.lead n = n → (s.dualOffAt n).out n) := by
  unfold State.dualOffAt
  extract_lets c s0 v top a b w
  have noted : Lowers s v := (s.dieEvents_reports 3 (s.gang n)).lowers
  have drops (t : State) : Lowers t ((t.gang n).foldl State.dualDrop t) := .foldl State.dualDrop_lowers _
  have open_ (t : State) : Lowers t ((t.gang n).foldl (fun s i => s.modChan i (fun x => if x.energised then x.gateOff s.now else x)) t) :=
    .foldl (fun t i => State.modChan_lowers (fun x => .inl (by split <;> rfl)) t i) _
  split
  next low =>
    have off : s.out n := by simpa [State.out, c] using low
    exact ⟨noted.trans (open_ v), fun _ _ => (noted.trans (open_ v)).out n off⟩
  next =>
    have told : Reports a w := (a.unresolved_reports s0 n).trans (b.leafEvent_reports s0 n 0x21 8 (10 * c.imeas))
    have after (p : Prop) [Decidable p] : Lowers a (if p then (w.endPulse top).failCmd top 0x21 else w) := by
      split
      · exact (told.lowers.trans (w.endPulse_lowers top)).trans ((w.endPulse top).failCmd_reports top 0x21).lowers
      · exact told.lowers
    refine ⟨(noted.trans (drops v)).trans (after _), fun lt lead => (after _).out n ?_⟩
    exact foldl_out State.dualDrop_lowers (fun t _ => t.dualDrop_out lt) (State.mem_gang_of_lead ((noted.steady.lead n).trans lead))

theorem State.dualOff_lowers (s : State) : Lowers s s.dualOff := .foldl (fun t i => (t.dualOffAt_lowers i).1) _

theorem State.dualOff_out (lt : n < 64) (dual : s.dualFed n = true) (lead : s.lead n = n) : s.dualOff.out n :=
  foldl_out (fun t i => (t.dualOffAt_lowers i).1) (fun t same => (t.dualOffAt_lowers n).2 lt ((same.lead n).trans lead))
    (List.mem_filter.mpr ⟨List.mem_filter.mpr ⟨List.mem_range.mpr lt, dual⟩, by simpa using lead⟩)

/-! ### The pair's record -/

/-- What leaves the record of the pair leaves all of it but the messages on CTL. -/
theorem Only.il_eq {l : List Part} (h : Only l s t) (kept : .ilr ∉ l) : t.il = { s.il with ctl := t.il.ctl } := by
  have same : { t.il with ctl := [] } = { s.il with ctl := [] } := h.same .ilr kept
  exact (congrArg (fun x : Intlk => { x with ctl := t.il.ctl }) same :)

/-- A message goes out on CTL while the link is up. -/
theorem State.sendCtlMsg_eq (s : State) (m : CtlMsg) :
    s.sendCtlMsg m = { s with il := { s.il with ctl := if s.twin.up then s.il.ctl ++ [m] else s.il.ctl } } := by
  unfold State.sendCtlMsg
  split <;> rfl

theorem State.sendRole_eq (s : State) : ∃ c, s.sendRole = { s with il := { s.il with ctl := c } } := ⟨_, s.sendCtlMsg_eq _⟩

theorem State.pairEvent_il (s : State) (unit code value : Nat) : ∃ c, (s.pairEvent unit code value).il = { s.il with ctl := c } :=
  ⟨_, (State.pairEvent_only (l := [.atlas, .evs, .ctl]) (.refl ..) (by decide)).il_eq (by decide)⟩

theorem State.pairEvent_reports (s : State) (unit code value : Nat) : Reports s (s.pairEvent unit code value) :=
  .of_only (State.pairEvent_only (.refl ..) (by decide))

theorem testBit_orBit (v b k : Nat) : (v ||| 1 <<< b).testBit k = (v.testBit k || decide (b = k)) := testBit_or_shift v b k

/-! ### A release (13 R349, R351) -/

/-- The line let go into IDLE with holdoff: the record but for the messages on CTL. -/
theorem State.letGo_il (s : State) (cause : Nat) : ∃ c, (s.letGo cause).il =
    { s.keepShadow.il with role := 1, pull := false, claimAt := none, swOver := none, cause := cause, holdoff := some (s.now + s.holdoffTk), relAt := s.now, ctl := c } := by
  unfold State.letGo
  extract_lets v
  obtain ⟨c, role⟩ := (v.modIl (fun x => { x with role := 1, pull := false, claimAt := none, swOver := none, cause := cause, holdoff := some (v.now + v.holdoffTk), relAt := v.now })).sendRole_eq
  have off : Only [.atlas, .load, .iso, .evs, .ctl] s.keepShadow v := State.dualOff_only (.refl ..) (by decide)
  have il := off.il_eq (by decide)
  have now : v.now = s.now := congrArg TimeBase.tb (off.same .clk (by decide))
  have hold : v.holdoffTk = s.holdoffTk := by rw [State.holdoffTk, State.holdoffTk, State.pf_of_par (off.same .par (by decide))]; rfl
  exact ⟨c, by rw [role, State.modIl, il, now, hold]⟩

theorem State.letGo_out (lt : n < 64) (dual : s.dualFed n = true) (lead : s.lead n = n) (cause : Nat) : (s.letGo cause).out n := by
  unfold State.letGo
  extract_lets v
  obtain ⟨c, role⟩ := (v.modIl (fun x => { x with role := 1, pull := false, claimAt := none, swOver := none, cause := cause, holdoff := some (v.now + v.holdoffTk), relAt := v.now })).sendRole_eq
  have shadow : Steady s s.keepShadow := ⟨rfl, rfl, rfl, rfl, rfl, rfl, rfl⟩
  rw [role]
  exact State.dualOff_out lt ((shadow.dualFed n).trans dual) ((shadow.lead n).trans lead)

/-- What a release with its cause leaves. -/
structure Released (u : State) (k : Nat) (t : State) : Prop where
  role : t.il.role = 1
  pull : t.il.pull = false
  cause : t.il.cause = k
  holdoff : t.il.holdoff = some (u.now + u.holdoffTk)
  relAt : t.il.relAt = u.now
  told : u.twin.up = true → ⟨4, k, u.now, []⟩ ∈ t.il.ctl
  out (n : Fin 64) : u.dualFed n = true → u.lead n = n → t.out n

theorem Released.of_steady {cause : Nat} (h : Released s cause t) (same : Steady u s) (twin : s.twin = u.twin) : Released u cause t where
  role := h.role
  pull := h.pull
  cause := h.cause
  holdoff := by rw [h.holdoff, same.now, State.holdoffTk, State.holdoffTk, same.pf]
  relAt := h.relAt.trans same.now
  told up := by rw [← same.now]; exact h.told (twin ▸ up)
  out n dual lead := h.out n ((same.dualFed n).trans dual) ((same.lead n).trans lead)

/-- A release of the active device; INTLK_ERR stays. -/
theorem State.release_leaves (active : s.il.role = 2) (cause : Nat) : Released s cause (s.release cause) ∧ (s.release cause).il.err = s.il.err := by
  have released : s.release cause = (s.letGo cause).sendCtl 4 cause := by rw [State.release, if_neg (by simp [active])]
  obtain ⟨c, il⟩ := s.letGo_il cause
  have only : Only [.atlas, .load, .iso, .evs, .ilr, .ctl] s (s.letGo cause) := State.letGo_only (.refl ..) (by decide)
  have now : (s.letGo cause).now = s.now := congrArg TimeBase.tb (only.same .clk (by decide))
  have twin : (s.letGo cause).twin = s.twin := only.same .twin (by decide)
  rw [released, State.sendCtl, State.sendCtlMsg_eq, il, now, twin]
  exact ⟨⟨rfl, rfl, rfl, rfl, rfl, fun up => by simp [up], fun n dual lead => State.letGo_out n.isLt dual lead cause⟩, rfl⟩

/-! ### The line (13 R348 to R350) -/

/-- The record with a level taken. -/
def State.lineTaken (s : State) (high : Bool) : State := s.modIl (fun x => { x with line := high, lineAt := s.now, taken := true })

theorem exec_intlkLineChange {g : Lapse} {high : Bool} (passed : s.pass g = u) (apart : u.il.proofOn = false ∨ high = true) :
    exec (.intlkLineChange g high) s = .next (u.lineTaken high).lineActs := by
  show execIntlkLineChange g high s = _
  rcases apart with idle | rfl
  · simp [execIntlkLineChange, passed, State.lineTaken, State.modIl, idle]
  · simp [execIntlkLineChange, passed, State.lineTaken]

theorem State.lineActs_low (taken : s.il.taken = true) (low : s.il.line = false) (idle : s.il.role = 1) : s.lineActs = s.standBy := by
  simp [State.lineActs, taken, low, idle]

theorem State.lineActs_claim (may : s.mayClaim = true) (first : s.il.twinId = false) : s.lineActs = s.claim false := by
  obtain ⟨⟨⟨⟨⟨-, taken⟩, high⟩, -⟩, -⟩, -⟩ : (((((s.il.role = 1 ∧ s.il.taken = true) ∧ s.il.line = true) ∧ s.il.holdoff = none) ∧ s.il.ctrl.testBit 2 = false) ∧ s.il.err.testBit 3 = false) := by
    simpa [State.mayClaim] using may
  simp [State.lineActs, taken, high, may, first]

theorem State.lineActs_takeover (taken : s.il.taken = true) (high : s.il.line = true) (standby : s.il.role = 3) (willing : s.il.ctrl.testBit 2 = false) :
    s.lineActs = s.claim true := by
  simp [State.lineActs, State.mayClaim, taken, high, standby, willing]

/-- An active device does nothing at the line's level. -/
theorem State.lineActs_active (active : s.il.role = 2) : s.lineActs = s := by
  simp [State.lineActs, State.mayClaim, active]

theorem State.standBy_equal (equal : s.pairEqual = true) : ∃ c, s.standBy.il = { s.il with role := 3, heardAt := s.now, run := 0, decided := none, blocked := false, idleAt := none, ctl := c } ∧
    s.standBy.load = s.load := by
  unfold State.standBy
  rw [if_pos equal]
  extract_lets v w
  have same : w = v := if_pos equal
  have only : Only [.iso, .ctl] v (((bitList 64 w.il.shadowOn).foldl (fun s n => s.standing n) w).sendRole) := by
    rw [same]
    exact State.sendRole_only (Only.foldl (.refl ..) (fun _ _ => State.standing_only (.refl ..) (by decide))) (by decide)
  exact ⟨_, only.il_eq (by decide), only.same .load (by decide)⟩

theorem State.claim_first (s : State) : ∃ c, s.claim false = { s with il := { s.il with role := 2, pull := true, claimAt := some s.now, leaseAt := s.now, run := 0, decided := none, blocked := false, idleAt := none, cause := 0, ctl := c } } := by
  unfold State.claim
  extract_lets x v
  obtain ⟨c, role⟩ := (s.modIl (fun x => { x with role := 2, pull := true, claimAt := some s.now, leaseAt := s.now, run := 0, decided := none, blocked := false, idleAt := none })).sendRole_eq
  exact ⟨c, (if_pos rfl).trans (congrArg (fun t : State => t.modIl (fun x => { x with cause := 0 })) role)⟩

/-- What a switch-over that is told later, or its gap, leaves of a claim. -/
structure SameClaim (s t : State) : Prop where
  role : t.il.role = s.il.role
  pull : t.il.pull = s.il.pull
  claimAt : t.il.claimAt = s.il.claimAt
  switches : t.il.switches = s.il.switches
  shadowOn : t.il.shadowOn = s.il.shadowOn

theorem SameClaim.trans (h : SameClaim s t) (k : SameClaim t u) : SameClaim s u :=
  ⟨k.role.trans h.role, k.pull.trans h.pull, k.claimAt.trans h.claimAt, k.switches.trans h.switches, k.shadowOn.trans h.shadowOn⟩

theorem SameClaim.of_only {l : List Part} (h : Only l s t) (kept : .ilr ∉ l) : SameClaim s t := by
  have il := h.il_eq kept
  exact ⟨(congrArg Intlk.role il :), (congrArg Intlk.pull il :), (congrArg Intlk.claimAt il :), (congrArg Intlk.switches il :), (congrArg Intlk.shadowOn il :)⟩

theorem State.settleOver_claim (s : State) : SameClaim s s.settleOver := by
  unfold State.settleOver
  split
  · split
    · exact SameClaim.trans (t := s.modIl _) ⟨rfl, rfl, rfl, rfl, rfl⟩ (.of_only (State.pairEvent_only (l := [.atlas, .evs, .ctl]) (.refl ..) (by decide)) (by decide))
    · exact ⟨rfl, rfl, rfl, rfl, rfl⟩
  · exact ⟨rfl, rfl, rfl, rfl, rfl⟩

theorem State.takeShadowPar_il (s : State) : s.takeShadowPar.il = { s.il with shadowPar := [] } := by
  unfold State.takeShadowPar
  have only : Only [.par] s (s.il.shadowPar.foldl (fun s p => s.setPar (p.1 / 65536) (p.1 % 65536) p.2) s) :=
    Only.foldl (.refl ..) (fun _ _ => State.setPar_only (.refl ..) (by decide))
  rw [State.modIl, only.il_eq (by decide), show Intlk.ctl _ = s.il.ctl from only.same .ctl (by decide)]

/-- A claim that takes over from a STANDBY. -/
theorem State.claim_takeover (s : State) : (s.claim true).il.role = 2 ∧ (s.claim true).il.pull = true ∧ (s.claim true).il.claimAt = some s.now ∧
    (s.claim true).il.switches = satInc 0xFFFF s.il.switches ∧ (s.claim true).il.shadowOn = 0 := by
  unfold State.claim
  extract_lets il v w cause on a ready b c
  have role : v.il.role = 2 ∧ v.il.pull = true ∧ v.il.claimAt = some s.now ∧ v.il.switches = s.il.switches := by
    obtain ⟨d, sent⟩ := (s.modIl (fun x => { x with role := 2, pull := true, claimAt := some s.now, leaseAt := s.now, run := 0, decided := none, blocked := false, idleAt := none })).sendRole_eq
    have il : v.il = _ := congrArg State.il sent
    rw [il]
    exact ⟨rfl, rfl, rfl, rfl⟩
  have shadows : w.il = { v.il with shadowPar := [] } := v.takeShadowPar_il
  have on_ : SameClaim a b := .of_only (l := [.load]) (Only.foldl (.refl ..) (fun _ _ => State.takeOver_only (.refl ..) (by decide))) (by decide)
  have gap : SameClaim c (if ready then c.recordGap else c) := by split <;> exact ⟨rfl, rfl, rfl, rfl, rfl⟩
  have last := gap.trans (State.settleOver_claim _)
  obtain ⟨role, pull, claimAt, switches⟩ := role
  have counted : a.il.switches = satInc 0xFFFF v.il.switches := congrArg (satInc 0xFFFF) (congrArg Intlk.switches shadows :)
  rw [if_neg (by simp)]
  exact ⟨last.role.trans (on_.role.trans ((congrArg Intlk.role shadows).trans role)), last.pull.trans (on_.pull.trans ((congrArg Intlk.pull shadows).trans pull)),
    last.claimAt.trans (on_.claimAt.trans ((congrArg Intlk.claimAt shadows).trans claimAt)),
    last.switches.trans (on_.switches.trans (counted.trans (congrArg (satInc 0xFFFF) switches))), last.shadowOn⟩

/-! ### Claims, the holdoff and the partner's state (13 R349, R350, R355) -/

section
variable {g : Lapse} {k : Nat} (passed : s.pass g = u)
include passed

theorem exec_idleClaimTimer (may : u.mayClaim = true) (second : u.il.twinId = true) (waited : u.il.lineAt + msTk (u.pf Pf.twinPair_IDLECLAIM) ≤ u.now) :
    exec (.idleClaimTimer g) s = .next (u.claim false) := by
  show execIdleClaimTimer g s = _
  simp [execIdleClaimTimer, passed, may, second, State.expired, waited]

theorem exec_claimCheck_low (claimed : u.il.claimAt = some k) (none_ : u.il.swOver = none) :
    exec (.claimCheck g true) s = .next { u with il := { u.il with claimAt := none } } := by
  show execClaimCheck g true s = _
  simp [execClaimCheck, passed, claimed, none_, State.modIl]

theorem exec_claimCheck_high (claimed : u.il.claimAt = some k) (waited : k + 200 ≤ u.now) :
    exec (.claimCheck g false) s = .next (((u.letGo u.il.cause).pairErr 0).pairEvent 0 9 0) := by
  show execClaimCheck g false s = _
  simp [execClaimCheck, passed, claimed, State.expired, waited]

theorem exec_holdoffEnd (waits : u.il.holdoff = some k) (ended : k ≤ u.now) (active : u.il.role = 2) :
    exec (.holdoffEnd g) s = .next { u with il := { u.il with holdoff := none } } := by
  show execHoldoffEnd g s = _
  have same := State.lineActs_active (s := u.modIl (fun x => { x with holdoff := none })) active
  simp [execHoldoffEnd, passed, waits, ended, same]
  rfl

theorem exec_intlkRelease_yield (yields : u.il.ctrl.testBit 2 = true) : exec (.intlkRelease g 6) s = .next (u.release 6) := by
  show execIntlkRelease g 6 s = _
  simp [execIntlkRelease, passed, yields]

theorem exec_intlkRelease_mismatch (up : u.twin.up = true) : exec (.intlkRelease g 1) s = .next (u.release 1) := by
  show execIntlkRelease g 1 s = _
  simp [execIntlkRelease, passed, up]

theorem exec_leaseExpiry (active : u.il.role = 2) (ended : u.il.leaseAt + 240000 ≤ u.now) : exec (.leaseExpiry g) s = .next (u.release 4) := by
  show execLeaseExpiry g s = _
  simp [execLeaseExpiry, passed, State.leaseOver, active, State.expired, ended]

end

/-- The partner's reported pair state is taken (13 R350). -/
def State.peerTaken (s : State) (p : PairPeer) : State := s.modIl (fun x => { x with pRole := p.role, pPull := p.pull, pTwinId := p.twinId })

/-- Since when the partner reports that it does not pull while the line is low. -/
def State.peerIdle (s : State) (p : PairPeer) : State :=
  s.modIl (fun x => { x with idleAt := if x.role = 3 && !x.line && !p.pull then some (x.idleAt.getD s.now) else none })

theorem State.peerIdle_peerTaken (s : State) (p : PairPeer) : (s.peerTaken p).peerIdle p = { s with il := { s.il with
    pRole := p.role, pPull := p.pull, pTwinId := p.twinId
    idleAt := if s.il.role = 3 ∧ s.il.line = false ∧ p.pull = false then some (s.il.idleAt.getD s.now) else none } } := by
  have idleAt : (if s.il.role = 3 && !s.il.line && !p.pull then some (s.il.idleAt.getD s.now) else none) =
      if s.il.role = 3 ∧ s.il.line = false ∧ p.pull = false then some (s.il.idleAt.getD s.now) else none := if_congr (by simp [and_assoc]) rfl rfl
  exact congrArg (fun i => ({ s with il := { s.il with pRole := p.role, pPull := p.pull, pTwinId := p.twinId, idleAt := i } } : State)) idleAt

theorem Released.peerIdle {k : Nat} (h : Released u k t) (p : PairPeer) : Released u k (t.peerIdle p) :=
  ⟨h.role, h.pull, h.cause, h.holdoff, h.relAt, h.told, h.out⟩

section
variable {g : Lapse} {p : PairPeer} (passed : s.pass g = u) (up : u.twin.up = true) (other : p.twinId ≠ u.il.twinId) (told : p.cause = none)
include passed up other told

theorem exec_pairStateReport (apart : u.il.role ≠ 2) : exec (.pairStateReport g p) s = .next ((u.peerTaken p).peerIdle p) := by
  show execPairStateReport g p s = _
  have taken : (u.peerTaken p).il = { u.il with pRole := p.role, pPull := p.pull, pTwinId := p.twinId } := rfl
  simp only [execPairStateReport, passed, up, told]
  rw [← State.peerTaken]
  simp [taken, other, apart, State.peerIdle]

theorem exec_pairStateReport_clash (active : u.il.role = 2) (both : p.role = 2) (yields : u.il.twinId = true) :
    exec (.pairStateReport g p) s = .next (((((u.peerTaken p).pairErr 2).pairEvent 0 8 0).release 7).peerIdle p) := by
  have id : ((((u.peerTaken p).pairErr 2).pairEvent 0 8 0).il).twinId = true := by
    obtain ⟨c, il⟩ := ((u.peerTaken p).pairErr 2).pairEvent_il 0 8 0
    rw [il]
    exact yields
  show execPairStateReport g p s = _
  have taken : (u.peerTaken p).il = { u.il with pRole := p.role, pPull := p.pull, pTwinId := p.twinId } := rfl
  simp only [execPairStateReport, passed, up, told]
  rw [← State.peerTaken]
  simp [taken, other, active, both, id, State.peerIdle]

end

/-! ### Mirroring (13 R352, R353) -/

/-- What leaves the record of the pair and the messages on CTL. -/
theorem Only.il_same {l : List Part} (h : Only l s t) (record : .ilr ∉ l) (ctl : .ctl ∉ l) : t.il = s.il := by
  rw [h.il_eq record, show t.il.ctl = s.il.ctl from h.same .ctl ctl]

section
variable {g : Lapse} {n : Fin 64} (passed : s.pass g = u) (up : u.twin.up = true) (standby : u.il.role = 3)
include passed up standby

theorem exec_forwarded_on : exec (.forwardedCommand g (.chan n true)) s = .next (({ u with il := { u.il with shadowOn := putBits u.il.shadowOn n 1 1 } } : State).standing n) := by
  show execForwardedCommand g (.chan n true) s = _
  simp [execForwardedCommand, passed, up, standby, State.modIl, flag]

theorem exec_forwarded_off : ∃ t, exec (.forwardedCommand g (.chan n false)) s = .next t ∧
    Only [.iso] { u with il := { u.il with shadowOn := putBits u.il.shadowOn n 1 0, shadowPulse := putBits u.il.shadowPulse n 1 0 } } t := by
  refine ⟨if u.holdsGrant n then (({ u with il := { u.il with shadowOn := putBits u.il.shadowOn n 1 0, shadowPulse := putBits u.il.shadowPulse n 1 0 } } : State).releaseCh n (some 0)).withdraw n
    else ({ u with il := { u.il with shadowOn := putBits u.il.shadowOn n 1 0, shadowPulse := putBits u.il.shadowPulse n 1 0 } } : State).withdraw n, ?_, .ite (State.withdraw_only (State.releaseCh_only (.refl ..) (by decide)) (by decide)) (State.withdraw_only (.refl ..) (by decide))⟩
  show execForwardedCommand g (.chan n false) s = _
  simp [execForwardedCommand, passed, up, standby, State.modIl, flag, State.holdsGrant]

theorem exec_forwarded_pulse {d : Nat} : exec (.forwardedCommand g (.pulse n true d)) s = .next (({ u with il := { u.il with shadowOn := putBits u.il.shadowOn n 1 1, shadowPulse := putBits u.il.shadowPulse n 1 1, shadowDuty := kvPut n d u.il.shadowDuty } } : State).standing n) := by
  show execForwardedCommand g (.pulse n true d) s = _
  simp [execForwardedCommand, passed, up, standby, State.modIl, flag]

/-- The channels whose duty a forwarded parameter sets. -/
def State.dutyUnits (s : State) (w : ParWrite) : List Nat := if 0x1C00 ≤ w.id && w.id < 0x1D00 && w.id % 16 = 2 then s.leavesOf w.idx else []

theorem exec_forwarded_param {w : ParWrite} : exec (.forwardedCommand g (.param w)) s = .next { u with il := { u.il with
    shadowPar := kvPut (parKey w.id w.idx) w.val u.il.shadowPar
    shadowDuty := (u.dutyUnits w).foldl (fun l n => kvPut n (Pf.genMember_DUTY.of w.val) l) u.il.shadowDuty } } := by
  show execForwardedCommand g (.param w) s = _
  simp [execForwardedCommand, passed, up, standby, State.modIl, State.dutyUnits]

end

/-- A value put for each key of a list is read back for each. -/
theorem kvGet_puts {d n : Nat} {l : List Nat} (mem : n ∈ l) (m : List (Nat × Nat)) : kvGet n (l.foldl (fun m k => kvPut k d m) m) = some d := by
  have keeps : ∀ (l : List Nat) (m : List (Nat × Nat)), kvGet n m = some d → kvGet n (l.foldl (fun m k => kvPut k d m) m) = some d := fun l => by
    induction l with
    | nil => exact fun _ h => h
    | cons k l ih =>
      refine fun m h => ih _ ?_
      by_cases same : n = k
      · rw [same, kvGet_kvPut_self]
      · rw [kvGet_kvPut_ne d m same, h]
  induction l generalizing m with
  | nil => cases mem
  | cons k l ih =>
    rcases List.mem_cons.mp mem with rfl | later
    · exact keeps l _ (kvGet_kvPut_self ..)
    · exact ih later _

/-- The state of input i. -/
def State.inpState (s : State) (i : Nat) : Bool := (s.inp.toList.getD i {}).state

theorem State.takeInputs_state {m i : Nat} (lt : i < 48) (mirrored : (s.pf Pf.twinMirror_SW).testBit i = true) : (s.takeInputs m).inpState i = m.testBit i := by
  have one (t : State) (j : Nat) : ({ t with inp := t.inp.setIfInBounds j { t.inp.toList.getD j {} with state := m.testBit j, cand := 0 } } : State).inpState i =
      if j = i then m.testBit i else t.inpState i := by
    simp only [State.inpState, getD_setIfInBounds]
    by_cases same : j = i
    · subst same; simp [lt]
    · simp [same]
  have all (l : List Nat) (t : State) (has : i ∈ l ∨ t.inpState i = m.testBit i) :
      (l.foldl (fun s j => ({ s with inp := s.inp.setIfInBounds j { s.inp.toList.getD j {} with state := m.testBit j, cand := 0 } } : State)) t).inpState i = m.testBit i := by
    induction l generalizing t with
    | nil => exact has.resolve_left (List.not_mem_nil)
    | cons j l ih =>
      refine ih _ ?_
      by_cases same : j = i
      · exact .inr ((one t j).trans (if_pos same))
      · rcases has with mem | done
        · exact .inl ((List.mem_cons.mp mem).resolve_left (fun eq => same eq.symm))
        · exact .inr ((one t j).trans ((if_neg same).trans done))
  exact all _ s (.inl (List.mem_filter.mpr ⟨List.mem_range.mpr lt, mirrored⟩))

/-! ### Reports and their comparison (13 R353, R354) -/

/-- The report of the window that ends now, made and sent. -/
theorem exec_pairReport {g : Lapse} (passed : s.pass g = u) (active : u.il.role = 2) (on : u.il.ctrl.testBit 0 = true) (boundary : u.now % 200000 = 0)
    (ready : u.atlas.ready = true) (up : u.pd 3 = true) (idle : u.il.proofOn = false) :
    exec (.pairReport g) s = .next ((u.modIl (fun x => { x with leaseAt := u.now, report := some (u.makeReport u.mirrored) })).sendCtlMsg
      ⟨6, u.now / 200000 - 1, u.now, pairReportBytes (u.makeReport u.mirrored)⟩) := by
  have sent : ((u.modIl (fun x => { x with leaseAt := u.now, report := some (u.makeReport u.mirrored) })).sendCtlMsg
      ⟨6, u.now / 200000 - 1, u.now, pairReportBytes (u.makeReport u.mirrored)⟩).il.proofOn = false := by rw [State.sendCtlMsg_eq]; exact idle
  show execPairReport g s = _
  simp only [execPairReport, passed]
  rw [if_neg (by simp [active, on, boundary, ready, up])]
  refine congrArg Host.Outcome.next (if_neg ?_)
  rw [Bool.and_eq_true, not_and]
  exact fun runs => absurd (sent.symm.trans runs) (by decide)

/-- A report has come: its inputs are mirrored. -/
def State.reportHeard (s : State) (r : PairReport) : State := (s.modIl (fun x => { x with heardAt := s.now, inputs := r.inputs })).takeInputs r.inputs

theorem State.reportHeard_il (s : State) (r : PairReport) : (s.reportHeard r).il = { s.il with heardAt := s.now, inputs := r.inputs } :=
  (State.takeInputs_only (l := [.inp]) (.refl ..) (by decide)).il_same (by decide) (by decide)

/-- A report that agrees with the shadow state. -/
structure Agrees (s : State) (r : PairReport) : Prop where
  on : r.on = s.il.shadowOn
  pulse : r.pulse = 0
  fail : r.fail = 0

theorem Agrees.differs {r : PairReport} (h : Agrees s r) : s.differs r = [] := by
  have none_ : bitList 64 r.pulse = [] := by rw [h.pulse]; simp [bitList]
  simp [State.differs, h.on, none_, firstIdx]

section
variable {g : Lapse} {r : PairReport} (passed : s.pass g = u) (up : u.twin.up = true) (standby : u.il.role = 3) (idle : u.il.proofOn = false)
include passed up standby idle

theorem exec_reportCompare_agrees (agrees : Agrees u r) : exec (.reportCompare g r) s =
    .next ((u.reportHeard r).modIl (fun x => { x with compared := satInc 0xFFFFFFFF x.compared, run := 0 })) := by
  have il := u.reportHeard_il r
  have idle' : (u.reportHeard r).il.proofOn = false := by rw [il]; exact idle
  have same : (u.reportHeard r).differs r = [] := Agrees.differs ⟨by rw [il]; exact agrees.on, agrees.pulse, agrees.fail⟩
  show execReportCompare g r s = _
  simp only [execReportCompare, passed]
  rw [if_neg (by simp [up, standby]), ← State.reportHeard, if_neg (by rw [il]; simp [standby]), if_pos (by simp [same, agrees.fail])]
  simp [State.modIl, idle']

/-- A report with a failed channel counts as a mismatch. -/
def Intlk.mismatched (x : Intlk) (ch : Nat) : Intlk :=
  { x with compared := satInc 0xFFFFFFFF x.compared, mismatch := satInc 0xFFFFFFFF x.mismatch, run := min 3 (x.run + 1), firstCh := ch }

theorem exec_reportCompare_failed (failed : r.fail ≠ 0) : ∃ v : State, exec (.reportCompare g r) s = .next (if v.il.run = 3 && v.il.decided.isNone then v.misDecide else v) ∧
    v.twin = u.twin ∧ v.now = u.now ∧ ∃ ch c, v.il = { { u.il with heardAt := u.now, inputs := r.inputs }.mismatched ch with ctl := c } := by
  have il := u.reportHeard_il r
  have idle' : (u.reportHeard r).il.proofOn = false := by rw [il]; exact idle
  have heard : Only [.inp, .ilr, .ctl] u (u.reportHeard r) := State.takeInputs_only (State.modIl_only (.refl ..) (by decide)) (by decide)
  have ran : ∀ ch, ((u.reportHeard r).differs r).headD 0xFF = ch → exec (.reportCompare g r) s = .next
      (let v := ((u.reportHeard r).modIl (fun x => x.mismatched ch)).pairEvent 0 4 ch
       if v.il.run = 3 && v.il.decided.isNone then v.misDecide else v) := fun ch first => by
    subst first
    show execReportCompare g r s = _
    simp only [execReportCompare, passed]
    rw [if_neg (by simp [up, standby]), ← State.reportHeard, if_neg (by rw [il]; simp [standby]), if_neg (by simp [failed])]
    simp [State.modIl, idle', Intlk.mismatched]
  have only : Only [.atlas, .inp, .evs, .ilr, .ctl] u (((u.reportHeard r).modIl (fun x => x.mismatched (((u.reportHeard r).differs r).headD 0xFF))).pairEvent 0 4 (((u.reportHeard r).differs r).headD 0xFF)) :=
    State.pairEvent_only (State.modIl_only (Only.after (Only.refl ..) heard (by decide)) (by decide)) (by decide)
  obtain ⟨c, sent⟩ := ((u.reportHeard r).modIl (fun x => x.mismatched (((u.reportHeard r).differs r).headD 0xFF))).pairEvent_il 0 4 (((u.reportHeard r).differs r).headD 0xFF)
  refine ⟨_, ran _ rfl, only.same .twin (by decide), congrArg TimeBase.tb (only.same .clk (by decide)), ((u.reportHeard r).differs r).headD 0xFF, c, ?_⟩
  rw [sent, State.modIl, il]

end

/-- A switch-over decided while the link is up. -/
theorem State.decideOver_il (up : s.twin.up = true) (k : Nat) :
    (s.decideOver k).il = { s.il with decided := some (s.now, k), blocked := false, ctl := s.il.ctl ++ [⟨5, k, s.now, []⟩] } := by
  simp only [State.decideOver, State.sendCtl, State.sendCtlMsg_eq, State.modIl, up, if_true]
  rfl

theorem State.misDecide_first (never : s.il.lastMis = none) (up : s.twin.up = true) :
    s.misDecide.il = { s.il with lastMis := some s.now, decided := some (s.now, 1), blocked := false, ctl := s.il.ctl ++ [⟨5, 1, s.now, []⟩] } := by
  rw [State.misDecide, never]
  exact State.decideOver_il (s := s.modIl (fun x => { x with lastMis := some s.now })) up 1

section
variable {g : Lapse} {k c : Nat} (passed : s.pass g = u)
include passed

theorem exec_missingReport (standby : u.il.role = 3) (open_ : u.il.decided = none) (late : u.il.heardAt + 240000 ≤ u.now) (up : u.twin.up = true) :
    exec (.missingReport g) s = .next (u.decideOver 2) := by
  show execMissingReport g s = _
  simp [execMissingReport, passed, standby, open_, State.expired, late, up]

theorem exec_missingReport_down (down : u.twin.up = false) : exec (.missingReport g) s = .next u := by
  show execMissingReport g s = _
  simp [execMissingReport, passed, down]

theorem exec_takeoverBlocked (decided : u.il.decided = some (k, c)) (standby : u.il.role = 3) (low : u.il.line = false) (first : u.il.blocked = false)
    (late : k + 240000 ≤ u.now) : exec (.takeoverBlocked g) s = .next (((u.modIl (fun x => { x with blocked := true })).pairErr 7).pairEvent 0 0x0D (u.now - k)) := by
  show execTakeoverBlocked g s = _
  simp only [execTakeoverBlocked, passed, decided, standby, low, first, State.expired, late]
  rfl

theorem exec_stuckLow (idle : u.il.idleAt = some k) (standby : u.il.role = 3) (up : u.twin.up = true) (low : u.il.line = false) (late : k + 2000 ≤ u.now) :
    exec (.stuckLow g) s = .next (((u.modIl (fun x => { x with idleAt := none })).pairErr 1).pairEvent 0 9 1) := by
  show execStuckLow g s = _
  simp [execStuckLow, passed, idle, standby, up, low, State.expired, late]

theorem exec_switchOverTimeout (waits : u.il.swOver = some (k, none)) (late : k + 2000 ≤ u.now) :
    exec (.switchOverCauseTimeout g) s = .next (u.modIl (fun x => { x with swOver := some (k, some 10) })).settleOver := by
  show execSwitchOverCauseTimeout g s = _
  simp [execSwitchOverCauseTimeout, passed, waits, State.expired, late]

end

theorem State.settleOver_gap (over_ : s.il.swOver = some (k, some c)) (gap : s.il.gapEnd = false) : s.settleOver = s := by
  simp [State.settleOver, over_, gap]

theorem State.settleOver_tells (over_ : s.il.swOver = some (k, some c)) (gap : s.il.gapEnd = true) :
    ∃ d, s.settleOver.il = { s.il with swOver := none, cause := c, ctl := d } := by
  obtain ⟨d, il⟩ := (s.modIl (fun x => { x with swOver := none, cause := c })).pairEvent_il 0 3 s.il.gapLast
  refine ⟨d, ?_⟩
  rw [State.settleOver, over_]
  exact (congrArg State.il (if_pos gap)).trans il

/-! ### The proof test (13 R356) -/

theorem State.hostWrite_super {a : Nat} {f : State → State} (on : u.pd 3 = true) (isOpen : u.portClosed a = false) : u.hostWrite .super a f = f u := by
  simp [State.hostWrite, on, isOpen]

theorem exec_proofStart {g : Lapse} {v : Nat} (passed : s.pass g = u) (on : u.pd 3 = true) (isOpen : u.portClosed 0x4004000C = false) :
    exec (.proofStart g .super v) s = .next (u.proofWrite v) := by
  subst passed
  exact congrArg Host.Outcome.next (State.hostWrite_super on isOpen)

theorem exec_intlkCtrlWrite {g : Lapse} {v : Nat} (passed : s.pass g = u) (on : u.pd 3 = true) (isOpen : u.portClosed 0x40040004 = false) :
    exec (.intlkCtrlWrite g .super v) s = .next (u.setCtrl v) := by
  subst passed
  exact congrArg Host.Outcome.next (State.hostWrite_super on isOpen)

theorem exec_intlkErrClear {g : Lapse} {v : Nat} (passed : s.pass g = u) (on : u.pd 3 = true) (isOpen : u.portClosed 0x40040010 = false) :
    exec (.intlkErrClear g .super v) s = .next (u.ilErrClear v) := by
  subst passed
  exact congrArg Host.Outcome.next (State.hostWrite_super on isOpen)

theorem State.proofWrite_starts (idle : u.il.proofOn = false) (active : u.il.role = 2) (up : u.twin.up = true) (partner : u.il.pRole = 3) (equal : u.pairEqual = true)
    (clean : u.il.run = 0) : (u.proofWrite 1).il =
      { u.il with back := false, proofOn := true, proofStep := 0, result := 0, proofCnt := 0, proofBad := false, proofGap := 0 } := by
  unfold State.proofWrite
  extract_lets v
  have noted : v = u.modIl (fun x => { x with back := false }) := if_neg (by simp [idle])
  clear_value v
  subst noted
  have may : (u.modIl (fun x => { x with back := false })).pairEqual = true := equal
  rw [if_neg (by simp [State.modIl, idle]), may, if_neg (by simp [State.modIl, active, up, partner, clean])]
  rfl

theorem State.proofWrite_refused (idle : u.il.proofOn = false) (apart : u.il.role ≠ 2) : (u.proofWrite 1).il = { u.il with back := false, result := 3 } := by
  have bit : Nat.testBit 1 1 = false := by decide
  simp [State.proofWrite, idle, State.modIl, apart, bit]

theorem exec_proofEnd {g : Lapse} (passed : s.pass g = u) (runs : u.il.proofOn = true) (compares : u.il.proofStep = 1) (apart : u.il.role ≠ 2)
    (enough : u.pf Pf.twinPair_PROOFWIN ≤ u.il.proofCnt) (short : u.il.proofGap ≤ 40000) (stays : u.il.back = false) :
    exec (.proofEnd g) s = .next (u.proofResult (!u.il.proofBad)) := by
  show execProofEnd g s = _
  simp [execProofEnd, passed, runs, compares, apart, enough, short, stays]

theorem State.proofResult_il (s : State) (pass : Bool) : ∃ c, (s.proofResult pass).il =
    { s.il with proofOn := false, proofStep := 0, result := if pass then 1 else 2, proofs := satInc 0xFFFF s.il.proofs, ctl := c } := by
  unfold State.proofResult
  extract_lets v
  have told : ∃ code value, (if pass then v.pairEvent 0 5 v.il.proofGap else v.pairEvent 0 6 v.il.proofCnt) = v.pairEvent 0 code value := by
    cases pass
    · exact ⟨_, _, rfl⟩
    · exact ⟨_, _, rfl⟩
  obtain ⟨code, value, told⟩ := told
  obtain ⟨c, il⟩ := v.pairEvent_il 0 code value
  exact ⟨c, (congrArg State.il told).trans il⟩

/-! ### Editions and INTLK_CTRL (13 R357, R360) -/

theorem exec_editionReport {g : Lapse} {be mask : Nat} (passed : s.pass g = u) (up : u.twin.up = true) :
    exec (.editionReport g be mask) s = .next (u.modIl (fun x => { x with partnerBe := be, beValid := true, partnerMask := mask })).watchOrStandby := by
  show execEditionReport g be mask s = _
  simp [execEditionReport, passed, up]

/-- The error and the event of another edition; of INTLK_ERR only the two bits of a difference change. -/
theorem State.noteDiff_other (valid : s.il.beValid = true) (other : s.il.partnerBe ≠ s.be) :
    ∃ err c, s.noteDiff.il = { s.il with err := err, ctl := c } ∧ err.testBit 4 = true ∧ err.testBit 2 = s.il.err.testBit 2 := by
  unfold State.noteDiff
  extract_lets v
  obtain ⟨c, il⟩ := (s.pairErr 4).pairEvent_il 0 7 s.il.partnerBe
  have noted : v.il = { s.il with err := s.il.err ||| 1 <<< 4, ctl := c } := (congrArg State.il (if_pos (by simp [valid, other]))).trans il
  split
  · refine ⟨s.il.err ||| 1 <<< 4 ||| 1 <<< 8, c, ?_, by simp only [testBit_orBit]; simp, by simp only [testBit_orBit]; simp⟩
    rw [State.pairErr, noted]
  · exact ⟨_, c, noted, by simp only [testBit_orBit]; simp, by simp only [testBit_orBit]; simp⟩

/-- A STANDBY whose partner has another edition watches; ID_CLASH's neighbours in INTLK_ERR stay. -/
theorem State.watch_other (standby : s.il.role = 3) (valid : s.il.beValid = true) (other : s.il.partnerBe ≠ s.be) : s.watchOrStandby.il.role = 4 ∧
    s.watchOrStandby.il.partnerBe = s.il.partnerBe ∧ s.watchOrStandby.il.err.testBit 4 = true ∧ s.watchOrStandby.il.err.testBit 2 = s.il.err.testBit 2 := by
  have apart : s.pairEqual = false := by simp [State.pairEqual, valid, other]
  obtain ⟨c, role⟩ := (s.modIl (fun x => { x with role := 4 })).noteDiff.sendRole_eq
  obtain ⟨err, d, il, four, two⟩ := State.noteDiff_other (s := s.modIl (fun x => { x with role := 4 })) valid other
  rw [State.watchOrStandby, if_pos (by simp [standby, apart]), role, il]
  exact ⟨rfl, rfl, four, two⟩

/-- A WATCH whose partner agrees again is STANDBY. -/
theorem State.watch_equal (watch : s.il.role = 4) (equal : s.pairEqual = true) : ∃ c, s.watchOrStandby.il = { s.il with role := 3, heardAt := s.now, run := 0, ctl := c } := by
  obtain ⟨c, role⟩ := (s.modIl (fun x => { x with role := 3, heardAt := s.now, run := 0 })).sendRole_eq
  rw [State.watchOrStandby, if_neg (by simp [watch]), if_pos (by simp [watch, equal]), role]
  exact ⟨c, rfl⟩

theorem State.setCtrl_pair (clear : s.il.ctrl = 0) (fresh : s.il.taken = false) :
    s.setCtrl 1 = ({ s with il := { s.il with ctrl := 1, role := 1 } } : State).sendRole := by
  obtain ⟨c, role⟩ := ({ s with il := { s.il with ctrl := 1, role := 1 } } : State).sendRole_eq
  have still : ({ s with il := { s.il with ctrl := 1, role := 1 } } : State).sendRole.lineActs = ({ s with il := { s.il with ctrl := 1, role := 1 } } : State).sendRole := by
    rw [role, State.lineActs, if_pos (by simp [fresh])]
  unfold State.setCtrl
  extract_lets was v
  rw [if_neg (by simp [was, clear]), if_pos (by simp [was, clear])]
  exact still

theorem State.setCtrl_clear (apart : s.il.role ≠ 2) (on : s.il.ctrl.testBit 0 = true) : ∃ v : State, v.il.role = 0 ∧ v.il.pull = false ∧ v.il.ctrl = 0 ∧ s.setCtrl 0 = v.sendRole := by
  unfold State.setCtrl
  extract_lets was v w
  have given : w = v.dropStanding := if_neg apart
  have il : w.il = v.il := by rw [given]; exact (State.dropStanding_only (l := [.iso]) (.refl ..) (by decide)).il_same (by decide) (by decide)
  rw [if_pos (by simp [was, on])]
  exact ⟨w.modIl (fun x => { x with role := 0, pull := false, holdoff := none, decided := none }), rfl, rfl, congrArg Intlk.ctrl il, rfl⟩

end

/-- Settles O44: the record of the pair is read back from each step, and a release lowers every DUALFED channel in one pass over them. -/
theorem interlock : Obligations.Interlock := by
  unfold Obligations.Interlock
  intro s g u x released
  have passed : s.pass g = u := rfl
  clear_value u
  have record : u.il = x := rfl
  clear_value x
  subst record
  have released_of : ∀ {k t}, Released u k t → released k t := fun h => ⟨h.role, h.pull, h.cause, h.holdoff, h.relAt, h.told, h.out⟩
  refine ⟨fun idle proof equal => ?_, fun idle hold may id twin => ?_, fun standby may => ?_, fun idle taken high hold may id twin waited => ?_, fun k claimed => ⟨fun none_ => ?_, fun late => ?_⟩,
    fun k waits ended active => ⟨_, exec_holdoffEnd passed waits ended active, rfl⟩, fun p up other told => ⟨fun apart => ?_, fun active both twin => ?_⟩,
    fun active yields => ⟨_, exec_intlkRelease_yield passed yields, released_of (State.release_leaves active 6).1⟩,
    fun active up => ⟨_, exec_intlkRelease_mismatch passed up, released_of (State.release_leaves active 1).1⟩,
    fun active ended => ⟨_, exec_leaseExpiry passed active ended, released_of (State.release_leaves active 4).1⟩,
    fun up standby => ⟨fun n => ?_, fun n => ?_, fun n d => ?_, fun w => ?_⟩,
    fun active on boundary ready pd idle => ?_,
    fun r up standby idle => ⟨fun on pulse fail => ?_, fun fail few => ?_, fun fail two open_ never => ?_⟩,
    fun standby open_ late up => ?_, fun down => ⟨_, exec_missingReport_down passed down, rfl⟩,
    fun k c decided standby low first late => ?_,
    fun pd isOpen idle => ⟨fun active up partner equal clean => ?_, fun apart => ?_⟩,
    fun runs compares apart enough short stays => ?_,
    fun be mask up standby other => ?_, fun up watch => ?_,
    fun pd isOpen off clear fresh => ?_, fun pd isOpen apart on => ?_, fun m pd isOpen => ?_,
    fun k idle standby up low late => ?_,
    fun k waits late => ⟨fun gap => ?_, fun gap => ?_⟩⟩
  · obtain ⟨c, il, load⟩ := State.standBy_equal (s := u.lineTaken false) equal
    refine ⟨_, exec_intlkLineChange passed (.inl proof), ?_⟩
    rw [State.lineActs_low (s := u.lineTaken false) rfl rfl idle]
    beta_reduce
    rw [il]
    exact ⟨rfl, rfl, rfl, rfl, load⟩
  · have claims : (u.lineTaken true).mayClaim = true := by simp [State.mayClaim, State.lineTaken, State.modIl, idle, hold, may, id]
    obtain ⟨c, il⟩ := (u.lineTaken true).claim_first
    refine ⟨_, exec_intlkLineChange passed (.inr rfl), ?_⟩
    rw [State.lineActs_claim claims twin, il]
    exact ⟨rfl, rfl, rfl, rfl, rfl⟩
  · refine ⟨_, exec_intlkLineChange passed (.inr rfl), ?_⟩
    rw [State.lineActs_takeover (s := u.lineTaken true) rfl rfl standby may]
    exact (u.lineTaken true).claim_takeover
  · obtain ⟨c, il⟩ := u.claim_first
    refine ⟨_, exec_idleClaimTimer passed (by simp [State.mayClaim, idle, taken, high, hold, may, id]) twin waited, ?_⟩
    rw [il]
    exact ⟨rfl, rfl, rfl⟩
  · exact ⟨_, exec_claimCheck_low passed claimed none_, rfl⟩
  · obtain ⟨c, il⟩ := u.letGo_il u.il.cause
    obtain ⟨d, sent⟩ := ((u.letGo u.il.cause).pairErr 0).pairEvent_il 0 9 0
    refine ⟨_, exec_claimCheck_high passed claimed late, ?_⟩
    beta_reduce
    rw [sent, State.pairErr, il]
    exact ⟨rfl, rfl, by simp only [testBit_orBit]; simp, rfl⟩
  · refine ⟨_, exec_pairStateReport passed up other told apart, ?_⟩
    rw [State.peerIdle_peerTaken]
  · obtain ⟨c, il⟩ := ((u.peerTaken p).pairErr 2).pairEvent_il 0 8 0
    have clash : Only [.atlas, .evs, .ilr, .ctl] u (((u.peerTaken p).pairErr 2).pairEvent 0 8 0) :=
      State.pairEvent_only (State.pairErr_only (State.modIl_only (.refl ..) (by decide)) (by decide)) (by decide)
    have marked : Steady u ((u.peerTaken p).pairErr 2) := ⟨rfl, rfl, rfl, rfl, rfl, rfl, rfl⟩
    have same := marked.trans (((u.peerTaken p).pairErr 2).pairEvent_reports 0 8 0).steady
    obtain ⟨rel, err⟩ := State.release_leaves (s := ((u.peerTaken p).pairErr 2).pairEvent 0 8 0) (by rw [il]; exact active) 7
    have rel := (rel.of_steady same (clash.same .twin (by decide))).peerIdle p
    refine ⟨_, exec_pairStateReport_clash passed up other told active both twin, released_of rel, ?_⟩
    show ((((u.peerTaken p).pairErr 2).pairEvent 0 8 0).release 7).il.err.testBit 2 = true
    rw [err, il]
    show (u.il.err ||| 1 <<< 2).testBit 2 = true
    rw [testBit_orBit]
    simp
  · have asks : Only [.iso] ({ u with il := { u.il with shadowOn := putBits u.il.shadowOn n 1 1 } } : State) _ := State.standing_only (n := n) (.refl ..) (by decide)
    have il := asks.il_same (by decide) (by decide)
    exact ⟨_, exec_forwarded_on passed up standby, congrArg Intlk.shadowOn il, asks.same .load (by decide)⟩
  · obtain ⟨t, ran, asks⟩ := exec_forwarded_off (n := n) passed up standby
    have il := asks.il_same (by decide) (by decide)
    exact ⟨t, ran, congrArg Intlk.shadowOn il, congrArg Intlk.shadowPulse il, asks.same .load (by decide)⟩
  · have asks : Only [.iso] ({ u with il := { u.il with shadowOn := putBits u.il.shadowOn n 1 1, shadowPulse := putBits u.il.shadowPulse n 1 1, shadowDuty := kvPut n d u.il.shadowDuty } } : State) _ :=
      State.standing_only (n := n) (.refl ..) (by decide)
    have il := asks.il_same (by decide) (by decide)
    exact ⟨_, exec_forwarded_pulse passed up standby, congrArg Intlk.shadowPulse il, (congrArg (fun x : Intlk => kvGet n x.shadowDuty) il).trans (kvGet_kvPut_self ..)⟩
  · refine ⟨_, exec_forwarded_param passed up standby, rfl, rfl, fun low high at_ n mem => kvGet_puts ?_ _⟩
    rw [State.dutyUnits, if_pos (by simp [low, high, at_])]
    exact mem
  · refine ⟨_, exec_pairReport passed active on boundary ready pd idle, ?_⟩
    rw [State.sendCtlMsg_eq]
    exact ⟨rfl, u.makeReport u.mirrored, rfl, fun linked => by simp [State.modIl, linked], rfl, rfl, rfl, rfl, rfl⟩
  · have il : ((u.reportHeard r).modIl (fun x => { x with compared := satInc 0xFFFFFFFF x.compared, run := 0 })).il =
        { u.il with heardAt := u.now, inputs := r.inputs, compared := satInc 0xFFFFFFFF u.il.compared, run := 0 } := by rw [State.modIl, u.reportHeard_il r]
    exact ⟨_, exec_reportCompare_agrees passed up standby idle ⟨on, pulse, fail⟩, (congrArg Intlk.run il :), (congrArg Intlk.compared il :),
      (congrArg Intlk.mismatch il :), (congrArg Intlk.heardAt il :), fun i mirrored => State.takeInputs_state i.isLt mirrored⟩
  · obtain ⟨v, ran, -, -, ch, c, il⟩ := exec_reportCompare_failed passed up standby idle fail
    have run : v.il.run = u.il.run + 1 := (congrArg Intlk.run il).trans (show min 3 (u.il.run + 1) = _ by omega)
    rw [if_neg (by rw [run]; simp; omega)] at ran
    exact ⟨v, ran, run, (congrArg Intlk.mismatch il :), (congrArg Intlk.decided il :)⟩
  · obtain ⟨v, ran, twin, now, ch, c, il⟩ := exec_reportCompare_failed passed up standby idle fail
    have run : v.il.run = 3 := (congrArg Intlk.run il).trans (show min 3 (u.il.run + 1) = 3 by omega)
    have undecided : v.il.decided = none := (congrArg Intlk.decided il).trans open_
    rw [if_pos (by rw [run, undecided]; rfl)] at ran
    refine ⟨_, ran, ?_⟩
    beta_reduce
    rw [State.misDecide_first ((congrArg Intlk.lastMis il).trans never) (by rw [twin]; exact up), now]
    exact ⟨run, rfl, by simp, rfl⟩
  · refine ⟨_, exec_missingReport passed standby open_ late up, ?_⟩
    beta_reduce
    rw [State.decideOver_il up]
    exact ⟨rfl, by simp⟩
  · obtain ⟨d, il⟩ := ((u.modIl (fun x => { x with blocked := true })).pairErr 7).pairEvent_il 0 0x0D (u.now - k)
    refine ⟨_, exec_takeoverBlocked passed decided standby low first late, ?_⟩
    beta_reduce
    rw [il]
    exact ⟨rfl, by simp only [State.pairErr, testBit_orBit]; simp, rfl⟩
  · refine ⟨_, exec_proofStart passed pd isOpen, ?_⟩
    beta_reduce
    rw [State.proofWrite_starts idle active up partner equal clean]
    exact ⟨rfl, rfl, rfl, rfl⟩
  · refine ⟨_, exec_proofStart passed pd isOpen, ?_⟩
    beta_reduce
    rw [State.proofWrite_refused idle apart]
    exact ⟨idle, rfl⟩
  · obtain ⟨c, il⟩ := u.proofResult_il (!u.il.proofBad)
    refine ⟨_, exec_proofEnd passed runs compares apart enough short stays, ?_⟩
    beta_reduce
    rw [il]
    exact ⟨rfl, by cases u.il.proofBad <;> rfl, rfl⟩
  · obtain ⟨role, partner, four, two⟩ := State.watch_other (s := u.modIl (fun x => { x with partnerBe := be, beValid := true, partnerMask := mask })) standby rfl other
    exact ⟨_, exec_editionReport passed up, role, partner, four, two⟩
  · obtain ⟨c, il⟩ := State.watch_equal (s := u.modIl (fun x => { x with partnerBe := u.be, beValid := true, partnerMask := u.dualMask })) watch (by
      show (!true || (decide (u.be = u.be) && decide (u.dualMask = u.dualMask))) = true
      simp)
    refine ⟨_, exec_editionReport passed up, ?_⟩
    beta_reduce
    rw [il]
    exact ⟨rfl, rfl, rfl⟩
  · exact ⟨_, exec_intlkCtrlWrite passed pd isOpen, State.setCtrl_pair clear fresh⟩
  · obtain ⟨v, role, pull, ctrl, cleared⟩ := State.setCtrl_clear apart on
    obtain ⟨c, sent⟩ := v.sendRole_eq
    refine ⟨_, exec_intlkCtrlWrite passed pd isOpen, ?_⟩
    rw [cleared, sent]
    exact ⟨role, pull, ctrl⟩
  · exact ⟨_, exec_intlkErrClear passed pd isOpen, fun b => testBit_sub_and u.il.err m b⟩
  · obtain ⟨d, il⟩ := ((u.modIl (fun x => { x with idleAt := none })).pairErr 1).pairEvent_il 0 9 1
    refine ⟨_, exec_stuckLow passed idle standby up low late, ?_⟩
    beta_reduce
    rw [il]
    exact ⟨rfl, by simp only [State.pairErr, testBit_orBit]; simp⟩
  · exact ⟨_, exec_switchOverTimeout passed waits late, State.settleOver_gap rfl gap⟩
  · obtain ⟨d, il⟩ := State.settleOver_tells (s := u.modIl (fun x => { x with swOver := some (k, some 10) })) rfl gap
    refine ⟨_, exec_switchOverTimeout passed waits late, ?_⟩
    beta_reduce
    rw [il]
    exact ⟨rfl, rfl⟩

end Sys2Proof.Machine
end

section
/-!
PROOFS. Firmware images, the debug token and attestation (16): handles of accepted operations, the SHAKE core, flash that is erased and
programmed; then O50.
-/
namespace Sys2Proof.Machine

section
variable {s t u v : State} {g : Lapse} {q : Rq} {op unit num : Nat} {payload : List Byte} {x : Hnd}

/-! ### The handle of an accepted operation (03 R77) -/

/-- A handle fresh from an accepted request. -/
structure Fresh (u : State) (q : Rq) (op unit : Nat) (x : Hnd) : Prop where
  ses : x.ses = q.ses
  org : x.org = q.org
  op : x.op = op
  seq : x.seq = q.seq
  unit : x.unit = unit
  stamp : x.stamp = u.now
  orphan : x.orphan = false

theorem Fresh.accepted (h : Fresh u q op unit x) (mem : x ∈ t.atlas.handles) : Accepted u q op unit t x :=
  ⟨mem, h.ses, h.org, h.op, h.seq, h.unit, h.stamp, h.orphan⟩

/-- Accepting leaves the requests that wait. -/
theorem State.accept_inbox (s : State) (r : InReq) (unit : Nat) : (s.accept r unit).1.atlas.inbox = s.atlas.inbox := by
  unfold State.accept
  split
  · exact (State.answer_handles ..).2
  · extract_lets used ser num a hn src b n w
    exact (State.answer_handles w r _ _ _).2

/-- Accepting an operation adds a fresh PENDING handle, and leaves what is no message. -/
theorem State.accept_fresh (room : HasHandle u q) (op unit : Nat) (payload : List Byte) : ∃ (v : State) (x : Hnd),
    (u.touch q.ses).accept (u.direct q op 0 payload) unit = (v, some x.num) ∧ Only [.atlas, .evs, .ctl] u v ∧
    v.atlas.handles = u.atlas.handles ++ [x] ∧ v.atlas.inbox = u.atlas.inbox ∧ Fresh u q op unit x ∧ x.phase = .pending := by
  obtain ⟨v, accept, handles⟩ := State.accept_some (u.touch q.ses) (u.direct q op 0 payload) unit room
  have inbox : v.atlas.inbox = u.atlas.inbox := (congrArg (fun e : State × Option Nat => e.1.atlas.inbox) accept).symm.trans (State.accept_inbox ..)
  have touched : Only [.atlas, .evs, .ctl] u (u.touch q.ses) := State.touch_only (.refl ..) (by decide)
  have only : Only [.atlas, .evs, .ctl] u v := touched.after (Only.of_pair accept (State.accept_only (l := [.atlas, .evs, .ctl]) (.refl ..) (by decide))) (by decide)
  exact ⟨v, _, accept, only, handles, inbox, ⟨rfl, rfl, rfl, rfl, rfl, rfl, rfl⟩, rfl⟩

/-- A handle whose wait or progress changes is still there. -/
theorem State.mem_modHandle {f : Hnd → Hnd} (mem : x ∈ s.atlas.handles) (fresh : Fresh u q op unit x) (num : Nat)
    (keeps : ∀ y, Fresh u q op unit y → Fresh u q op unit (f y) ∧ (f y).num = y.num) :
    ∃ y ∈ (s.modHandle num f).atlas.handles, y.num = x.num ∧ Fresh u q op unit y := by
  by_cases own : x.num = num
  · exact ⟨f x, List.mem_map.mpr ⟨x, mem, if_pos own⟩, (keeps x fresh).2, (keeps x fresh).1⟩
  · exact ⟨x, List.mem_map.mpr ⟨x, mem, if_neg own⟩, rfl, fresh⟩

theorem State.mem_setProgress (mem : x ∈ s.atlas.handles) (fresh : Fresh u q op unit x) (num p : Nat) :
    ∃ y ∈ (s.setProgress num p).atlas.handles, y.num = x.num ∧ Fresh u q op unit y :=
  State.mem_modHandle mem fresh num (fun _ h => ⟨⟨h.ses, h.org, h.op, h.seq, h.unit, h.stamp, h.orphan⟩, rfl⟩)

theorem State.mem_setWait (mem : x ∈ s.atlas.handles) (fresh : Fresh u q op unit x) (num p : Nat) :
    ∃ y ∈ (s.setWait num p).atlas.handles, y.num = x.num ∧ Fresh u q op unit y :=
  State.mem_modHandle mem fresh num (fun _ h => ⟨⟨h.ses, h.org, h.op, h.seq, h.unit, h.stamp, h.orphan⟩, rfl⟩)

/-- A number that a handle has names a handle with that number. -/
theorem State.handle_of_mem (mem : x ∈ s.atlas.handles) : ∃ y, s.handle x.num = some y ∧ y.num = x.num := by
  have found : (s.handle x.num).isSome := List.find?_isSome.mpr ⟨x, mem, by simp⟩
  obtain ⟨y, named⟩ := Option.isSome_iff_exists.mp found
  exact ⟨y, named, by simpa using List.find?_some named⟩

/-- What leaves the bytes and the records of the memories leaves them whole. -/
theorem State.mem_of_only {l : List Part} (h : Only l s t) (bytes : .bytes ∉ l) (records : .memc ∉ l) : t.mem = s.mem := by
  obtain ⟨cells, chk, epoch⟩ := (h.same .bytes bytes : _ ∧ _ ∧ _)
  have rest : { t.mem with cells := [], chk := [], epoch := 0 } = { s.mem with cells := [], chk := [], epoch := 0 } := h.same .memc records
  have whole (m : Mem) : m = { ({ m with cells := [], chk := [], epoch := 0 } : Mem) with cells := m.cells, chk := m.chk, epoch := m.epoch } := rfl
  rw [whole t.mem, whole s.mem, rest, cells, chk, epoch]

/-! ### The SHAKE core (16 R415) -/

/-- The SHAKE core's choice changes its own operation alone. -/
theorem State.shakeServe_eq (s : State) : ∃ k, s.shakeServe = { s with fw := { s.fw with shake := k } } := by
  unfold State.shakeServe
  extract_lets l keep
  split
  · exact ⟨s.fw.shake, rfl⟩
  · exact ⟨_, rfl⟩

/-- The one operation that is ready is served. -/
theorem State.shakeServe_one (ready : s.shakeReady = [x]) : s.shakeServe.fw.shake = some x.num := by
  unfold State.shakeServe
  rw [ready]
  cases core : s.fw.shake with
  | none => rfl
  | some n =>
    by_cases same : x.num = n
    · simp [core, same]
    · simp [same, oldestHnd, State.modFw]

/-- What the end of the flash queue leaves. -/
theorem State.flashFree_fw (s : State) : ∃ k, s.flashFree.fw = { s.fw with shake := k } := by
  unfold State.flashFree
  split
  · extract_lets a b
    have serves : ∀ w : State, Only [.atlas] s w → ∃ k, w.shakeServe.fw = { s.fw with shake := k } := fun w only => by
      obtain ⟨k, served⟩ := w.shakeServe_eq
      exact ⟨k, by rw [served, show w.fw = s.fw from only.same .fw (by decide)]⟩
    have first : Only [.atlas] s a := Only.foldl (.refl ..) (fun _ _ => State.setWait_only (.refl ..) (by decide))
    have second : Only [.atlas] s b := by
      unfold b
      split
      · exact State.setWait_only first (by decide)
      · exact first
    refine serves _ ?_
    split
    · exact State.setWait_only second (by decide)
    · exact second
  · exact ⟨s.fw.shake, rfl⟩

/-! ### Targets (16 R412) -/

/-- The state of a target is read from the slots, the stores and the token. -/
theorem State.targetSt_of_fw (slots : t.fw.slots = s.fw.slots) (run : t.fw.run = s.fw.run) (apps : t.fw.apps = s.fw.apps) (token : t.fw.token = s.fw.token) (n : Nat) :
    t.targetSt n = s.targetSt n := by
  rw [State.targetSt, State.targetSt, slots, run, apps, token]

/-- Setting the state of a target. -/
theorem State.setTarget_eq (s : State) (n : Nat) (st : SlotSt) : (∃ a b c, s.setTarget n st = { s with fw := { s.fw with slots := a, apps := b, token := c } }) ∧
    (s.setTarget n st).targetSt n = st := by
  unfold State.setTarget
  by_cases zero : n = 0
  · subst zero
    refine ⟨⟨_, _, _, rfl⟩, ?_⟩
    simp only [State.targetSt, State.modSlot, State.modFw, getD_setIfInBounds, if_true]
    rw [if_pos ⟨trivial, by omega⟩]
  · by_cases app : n ≤ 4
    · refine ⟨⟨s.fw.slots, s.fw.apps.setIfInBounds (n - 1) { s.fw.apps.toList.getD (n - 1) {} with st := st }, s.fw.token, by simp [zero, app, State.modFw]⟩, ?_⟩
      simp only [State.targetSt, State.modFw, getD_setIfInBounds, zero, app, if_true, if_false]
      rw [if_pos ⟨trivial, by omega⟩]
    · exact ⟨⟨s.fw.slots, s.fw.apps, { s.fw.token with st := st }, by simp [zero, app, State.modFw]⟩, by simp [State.targetSt, State.modFw, zero, app]⟩

/-- Taking a header changes the records of the images alone. -/
theorem State.takeHeader_eq (s : State) (n : Nat) : ∃ a b, s.takeHeader n = { s with fw := { s.fw with slots := a, apps := b } } := by
  unfold State.takeHeader
  extract_lets b
  split
  · exact ⟨_, _, rfl⟩
  · split
    · exact ⟨_, _, rfl⟩
    · exact ⟨_, _, rfl⟩

/-! ### Operations on an image (16 R415) -/

/-- An accepted operation on an image waits for its check. -/
structure Waiting (u : State) (q : Rq) (op unit : Nat) (k : ImgOp) (t : State) (h : Hnd) : Prop where
  accepted : Accepted u q op unit t h
  fw : t.fw = { u.fw with jobs := u.fw.jobs ++ [⟨h.num, unit, k, false⟩], shake := t.fw.shake }
  served : u.fw.queue = [] → u.fw.jobs = [] → u.fw.sign = none → t.fw.shake = some h.num

theorem State.imgJob_waits (room : HasHandle u q) (op unit : Nat) (payload : List Byte) (k : ImgOp) :
    ∃ h, Waiting u q op unit k ((u.touch q.ses).imgJob (u.direct q op 0 payload) unit k) h := by
  obtain ⟨v, x, accept, only, handles, -, fresh, -⟩ := State.accept_fresh room op unit payload
  have fw : v.fw = u.fw := only.same .fw (by decide)
  rw [State.imgJob, accept]
  obtain ⟨y, memy, numy, freshy⟩ := State.mem_setProgress (s := v.modFw (fun w => { w with jobs := w.jobs ++ [⟨x.num, unit, k, false⟩] })) (x := x)
    (show x ∈ v.atlas.handles by simp [handles]) fresh x.num 0
  have waited : ∃ w : State, (if ((v.modFw (fun w => { w with jobs := w.jobs ++ [⟨x.num, unit, k, false⟩] })).setProgress x.num 0).fw.queue.isEmpty
      then (v.modFw (fun w => { w with jobs := w.jobs ++ [⟨x.num, unit, k, false⟩] })).setProgress x.num 0
      else ((v.modFw (fun w => { w with jobs := w.jobs ++ [⟨x.num, unit, k, false⟩] })).setProgress x.num 0).setWait x.num 3) = w ∧
      w.fw = { u.fw with jobs := u.fw.jobs ++ [⟨x.num, unit, k, false⟩] } ∧ ∃ z ∈ w.atlas.handles, z.num = x.num ∧ Fresh u q op unit z := by
    split
    · exact ⟨_, rfl, by rw [← fw]; rfl, y, memy, numy, freshy⟩
    · obtain ⟨z, memz, numz, freshz⟩ := State.mem_setWait memy freshy x.num 3
      exact ⟨_, rfl, by rw [← fw]; rfl, z, memz, numz.trans numy, freshz⟩
  obtain ⟨w, given, fwW, z, mem, numz, freshz⟩ := waited
  show ∃ h, Waiting u q op unit k (State.shakeServe _) h
  rw [given]
  obtain ⟨c, served⟩ := w.shakeServe_eq
  refine ⟨z, freshz.accepted (by rw [served]; exact mem), by rw [served, fwW, numz], fun empty none_ unsigned => ?_⟩
  obtain ⟨y, named, numy⟩ := State.handle_of_mem mem
  have ready : w.shakeReady = [y] := by
    simp [State.shakeReady, fwW, empty, none_, unsigned, ← numz, named]
  rw [State.shakeServe_one ready, numy]

theorem State.answer_fw (s : State) (r : InReq) (st h : Nat) (pl : List Byte) : (s.answer r st h pl).fw = s.fw :=
  (State.answer_only (l := [.atlas, .evs, .ctl]) (.refl ..) (by decide)).same .fw (by decide)

theorem State.complete_fw (s : State) (h st : Nat) (pl : List Byte) : (s.complete h st pl).fw = s.fw :=
  (State.complete_only (l := [.atlas, .evs, .ctl]) (.refl ..) (by decide)).same .fw (by decide)

theorem State.fwEvent_fw (s : State) (n code value : Nat) : (s.fwEvent n code value).fw = s.fw :=
  (State.fwEvent_only (l := [.atlas, .evs, .ctl]) (.refl ..) (by decide)).same .fw (by decide)

theorem State.runEvent_fw (s : State) (code value : Nat) : (s.runEvent code value).fw = s.fw :=
  (State.runEvent_only (l := [.atlas, .evs, .ctl]) (.refl ..) (by decide)).same .fw (by decide)

theorem State.targetSt_congr (same : t.fw = s.fw) (n : Nat) : t.targetSt n = s.targetSt n :=
  State.targetSt_of_fw (congrArg Fw.slots same) (congrArg Fw.run same) (congrArg Fw.apps same) (congrArg Fw.token same) n

/-! ### Transfers (16 R412, R413) -/

/-- What IMG_BEGIN's checks ask of the device. -/
structure Begins (s : State) (b : ImgBegin) : Prop where
  served : s.boot.recovery = false
  target : b.target ≤ 5
  len : lengthOk (targetKind b.target) b.len = true
  free : b.target = 0 → s.inTrial = false ∧ s.fw.armed = false
  idle : s.imgPending = false
  on : s.pd 4 = true

theorem Begins.taken {b : ImgBegin} (h : Begins u b) (i : Nat) : Begins (u.touch i) b := ⟨h.served, h.target, h.len, h.free, h.idle, h.on⟩

section
variable {b : ImgBegin} (h : Begins s b) (r : InReq)
include h

/-- An accepted IMG_BEGIN starts its transfer; for the token it draws a nonce. -/
theorem State.imgBegin_fw (flags : b.flags ≤ 1) (known : b.flags = 1 → ∃ m e, s.fw.xfer = some ⟨b.target, b.len, b.token, m, e⟩) :
    ∃ n, (s.imgBegin r b).fw = { (s.xferStart b).fw with nonce := n } ∧ (b.target = 5 → n.isSome = true) ∧ (b.target ≠ 5 → n = (s.xferStart b).fw.nonce) := by
  obtain ⟨served, target, len, free, idle, on⟩ := h
  have notBusy : (decide (b.target = 0) && (s.inTrial || s.fw.armed)) = false := by
    by_cases zero : b.target = 0
    · obtain ⟨trial, armed⟩ := free zero
      simp [trial, armed]
    · simp [zero]
  unfold State.imgBegin
  extract_lets same resume v
  have fits : (resume && !same) = false := by
    rcases Nat.le_one_iff_eq_zero_or_eq_one.mp flags with new | again
    · simp [resume, new]
    · obtain ⟨m, e, xfer⟩ := known again
      simp [same, xfer]
  rw [if_neg (by simp [State.recoveryOnly, served]), if_neg (by simp [target, flags, len]), if_neg (by simp [fits, notBusy, idle, on])]
  by_cases five : b.target = 5
  · simp only [five, if_true]
    exact ⟨some (v.draw.2 % 2 ^ 64), (State.answer_fw ..).trans rfl, fun _ => rfl, fun h => absurd rfl h⟩
  · simp only [five, if_false]
    exact ⟨v.fw.nonce, (State.answer_fw ..).trans rfl, fun h => absurd h id, fun _ => rfl⟩

/-- A new transfer has received nothing. -/
theorem State.imgBegin_new (new : b.flags = 0) : (s.imgBegin r b).fw.xfer = some ⟨b.target, b.len, b.token, [], 0⟩ ∧ (s.imgBegin r b).fw.queue = [] ∧
    (s.imgBegin r b).targetSt b.target = .receiving ∧ (b.target = 5 → (s.imgBegin r b).fw.nonce.isSome = true) := by
  obtain ⟨n, fw, drawn, -⟩ := State.imgBegin_fw h r (by omega) (by omega)
  obtain ⟨⟨a, c, d, eq⟩, st⟩ := (s.modFw (fun w => { w with xfer := some ⟨b.target, b.len, b.token, [], 0⟩, queue := [] })).setTarget_eq b.target .receiving
  have started : s.xferStart b = (s.modFw (fun w => { w with xfer := some ⟨b.target, b.len, b.token, [], 0⟩, queue := [] })).setTarget b.target .receiving :=
    if_neg (by simp [new])
  have state : (s.imgBegin r b).targetSt b.target = (s.xferStart b).targetSt b.target := State.targetSt_of_fw (by rw [fw]) (by rw [fw]) (by rw [fw]) (by rw [fw]) _
  refine ⟨?_, ?_, by rw [state, started, st], fun five => by rw [fw]; exact drawn five⟩ <;> rw [fw, started, eq] <;> rfl

/-- One that is resumed goes on. -/
theorem State.imgBegin_resumed {m : List (Nat × Nat)} {e : Nat} (again : b.flags = 1) (apart : b.target ≠ 5) (same : s.fw.xfer = some ⟨b.target, b.len, b.token, m, e⟩) :
    (s.imgBegin r b).fw = s.fw := by
  obtain ⟨n, fw, -, kept⟩ := State.imgBegin_fw h r (by omega) (fun _ => ⟨m, e, same⟩)
  have going : s.xferStart b = s := if_pos (by simp [again])
  rw [fw, kept apart, going]

end

theorem exec_sectorEraseDone {y : Xfer} (passed : s.pass g = u) (xfer : u.fw.xfer = some y) (left : 65536 * y.erased < y.len) :
    exec (.sectorEraseDone g) s = .next ((u.loseMem (u.targetBase y.target + 65536 * y.erased) 65536).modFw (fun w => { w with xfer := some { y with erased := y.erased + 1 } })) := by
  show execSectorEraseDone g s = _
  simp [execSectorEraseDone, passed, xfer, left]

/-- An erased range is lost, and nothing else. -/
theorem State.kvGet_loseMem (s : State) (a n k : Nat) : kvGet k (s.loseMem a n).mem.cells = if k < a ∨ a + n ≤ k then kvGet k s.mem.cells else none := by
  have cells : (s.loseMem a n).mem.cells = s.mem.cells.filter (fun c => (fun k => decide (k < a ∨ a + n ≤ k)) c.1) := by
    simp [State.loseMem, dropCells]
  rw [cells, kvGet_filter k (fun k => decide (k < a ∨ a + n ≤ k))]
  simp

/-- A block that fits its transfer. -/
structure Fits (s : State) (y : Xfer) (b : ImgBlock) : Prop where
  xfer : s.fw.xfer = some y
  served : s.boot.recovery = false
  token : b.token = y.token
  at_ : b.off % 4096 = 0
  below : b.off < y.len
  len : b.len = min 4096 (y.len - b.off)
  whole : b.data.length = b.len
  crc : crc32c b.data = b.crc
  new : kvGet b.off y.map = none
  apart : ∀ z ∈ s.fw.queue, z.off ≠ b.off
  room : s.fw.queue.length < 16

theorem State.imgBlock_queued {b : ImgBlock} {y : Xfer} (h : Fits s y b) (r : InReq) :
    (s.imgBlock r b).fw = { s.fw with queue := s.fw.queue ++ [⟨b.off, b.crc, b.data⟩] } := by
  obtain ⟨xfer, served, token, at_, below, len, whole, crc, new, apart, room⟩ := h
  have absent : s.fw.queue.find? (fun q : Granule => q.off = b.off) = none := List.find?_eq_none.mpr (fun z mem => by simpa using apart z mem)
  unfold State.imgBlock
  rw [xfer]
  simp only [new, absent, Option.map_none]
  rw [if_neg (by simp [whole]), if_neg (by simp [State.recoveryOnly, served]), if_neg (by simp [token]), if_neg (by simp [at_, below, len]),
    if_neg (by simp [crc]), if_neg (by omega), State.answer_fw]
  rfl

/-! ### Programming (16 R413) -/

/-- Loading bytes sets their check bits after them, which leaves the bytes. -/
theorem State.loadBytes_cells (s : State) (a : Nat) (bs : List Byte) :
    (s.loadBytes a bs).mem.cells = putCells s.mem.cells a bs ∧ (s.loadBytes a bs).mem.epoch = s.mem.epoch := by
  have checks (l : List Nat) (v : State) : (l.foldl (fun (s : State) i => ({ s with mem := { s.mem with chk := kvPut (a + 8 * i) (eccOf (s.bytesAt (a + 8 * i) 8)) s.mem.chk } } : State)) v).mem.cells = v.mem.cells ∧
      (l.foldl (fun (s : State) i => ({ s with mem := { s.mem with chk := kvPut (a + 8 * i) (eccOf (s.bytesAt (a + 8 * i) 8)) s.mem.chk } } : State)) v).mem.epoch = v.mem.epoch := by
    induction l generalizing v with
    | nil => exact ⟨rfl, rfl⟩
    | cons i l ih => exact ih _
  exact checks ..

theorem State.byteAt_loadBytes_in {a : Nat} {bs : List Byte} {i : Nat} (lt : i < bs.length) : (s.loadBytes a bs).byteAt (a + i) = bs.getD i 0 := by
  obtain ⟨cells, -⟩ := s.loadBytes_cells a bs
  rw [State.byteAt, cells, kvGet_putCells_in (by omega) (by omega), Nat.add_sub_cancel_left]
  simp [lt]

theorem State.byteAt_loadBytes_out {a k : Nat} {bs : List Byte} (out : k < a ∨ a + bs.length ≤ k) : (s.loadBytes a bs).byteAt k = s.byteAt k := by
  obtain ⟨cells, epoch⟩ := s.loadBytes_cells a bs
  rw [State.byteAt, cells, epoch, kvGet_putCells_out out, State.byteAt]

/-- The first granule of the queue, whose sector is erased. -/
structure Programs (s : State) (y : Xfer) (z : Granule) (rest : List Granule) : Prop where
  xfer : s.fw.xfer = some y
  queue : s.fw.queue = z :: rest
  erased : z.off / 65536 < y.erased
  apart : ∀ x ∈ rest, x.off ≠ z.off

theorem Programs.rest {y : Xfer} {z : Granule} {rest : List Granule} (h : Programs s y z rest) : s.fw.queue.filter (fun x => x.off ≠ z.off) = rest := by
  rw [h.queue, List.filter_cons_of_neg (by simp)]
  exact List.filter_eq_self.mpr (fun x mem => by simpa using h.apart x mem)

section
variable {y : Xfer} {z : Granule} {rest : List Granule} (passed : s.pass g = u) (h : Programs u y z rest)
include passed h

theorem exec_granuleProgrammed : exec (.granuleProgrammed g true) s = .next
    (let v := ((u.modFw (fun w => { w with queue := rest })).loadBytes (u.targetBase y.target + z.off) z.data).modFw (fun w => { w with xfer := some { y with map := kvPut z.off z.crc y.map } })
     (if (kvPut z.off z.crc y.map).length = granules y.len then v.setTarget y.target .received else v).flashFree) := by
  have rest' := h.rest
  obtain ⟨xfer, queue, erased, apart⟩ := h
  have first : u.fw.queue.find? (fun q => q.off / 65536 < y.erased) = some z := by rw [queue, List.find?_cons_of_pos (by simpa using erased)]
  show execGranuleProgrammed g true s = _
  have taken : (u.modFw (fun w => { w with queue := w.queue.filter (fun x => x.off ≠ z.off) })) = u.modFw (fun w => { w with queue := rest }) :=
    congrArg (fun l => ({ u with fw := { u.fw with queue := l } } : State)) rest'
  simp only [execGranuleProgrammed, passed, xfer, first, if_true, taken]
  rfl

theorem exec_granuleFailed : exec (.granuleProgrammed g false) s = .next
    (((u.modFw (fun w => { w with queue := rest, flashErr := satInc 0xFFFF w.flashErr })).fwEvent y.target 0x0A z.off).flashFree) := by
  have rest' := h.rest
  obtain ⟨xfer, queue, erased, apart⟩ := h
  have first : u.fw.queue.find? (fun q => q.off / 65536 < y.erased) = some z := by rw [queue, List.find?_cons_of_pos (by simpa using erased)]
  show execGranuleProgrammed g false s = _
  have taken : (u.modFw (fun w => { w with queue := w.queue.filter (fun x => x.off ≠ z.off) })) = u.modFw (fun w => { w with queue := rest }) :=
    congrArg (fun l => ({ u with fw := { u.fw with queue := l } } : State)) rest'
  simp only [execGranuleProgrammed, passed, xfer, first, taken]
  rfl

/-- A granule that is programmed is in flash and in the map; the last one makes its target RECEIVED. -/
theorem does_granuleProgrammed : Does (.granuleProgrammed g true) s (fun t => t.fw.xfer = some { y with map := kvPut z.off z.crc y.map } ∧ t.fw.queue = rest ∧
    (∀ i, i < z.data.length → t.byteAt (u.targetBase y.target + z.off + i) = z.data.getD i 0) ∧
    (∀ a, a < u.targetBase y.target + z.off ∨ u.targetBase y.target + z.off + z.data.length ≤ a → t.byteAt a = u.byteAt a) ∧
    t.targetSt y.target = (if (kvPut z.off z.crc y.map).length = granules y.len then .received else u.targetSt y.target)) := by
  have run := exec_granuleProgrammed passed h
  extract_lets v at run
  have loaded : Only [.bytes] (u.modFw (fun w => { w with queue := rest })) ((u.modFw (fun w => { w with queue := rest })).loadBytes (u.targetBase y.target + z.off) z.data) :=
    State.loadBytes_only (.refl ..) (by decide)
  have vfw : v.fw = { u.fw with queue := rest, xfer := some { y with map := kvPut z.off z.crc y.map } } :=
    congrArg (fun w : Fw => { w with xfer := some { y with map := kvPut z.off z.crc y.map } }) (loaded.same .fw (by decide))
  have target : ∃ w : State, (if (kvPut z.off z.crc y.map).length = granules y.len then v.setTarget y.target .received else v) = w ∧ w.mem = v.mem ∧
      w.fw.xfer = v.fw.xfer ∧ w.fw.queue = v.fw.queue ∧
      w.targetSt y.target = if (kvPut z.off z.crc y.map).length = granules y.len then .received else u.targetSt y.target := by
    split
    · obtain ⟨⟨a, b, c, eq⟩, st⟩ := v.setTarget_eq y.target .received
      exact ⟨_, rfl, by rw [eq], by rw [eq], by rw [eq], st⟩
    · exact ⟨v, rfl, rfl, rfl, rfl, State.targetSt_of_fw (by rw [vfw]) (by rw [vfw]) (by rw [vfw]) (by rw [vfw]) _⟩
  obtain ⟨w, given, mem, xfer, queue, st⟩ := target
  rw [given] at run
  obtain ⟨k, fw⟩ := w.flashFree_fw
  have flash : w.flashFree.mem = w.mem := (State.mem_of_only (State.flashFree_only (l := [.atlas, .fw]) (.refl ..) (by decide)) (by decide) (by decide))
  have bytes : ∀ a, w.flashFree.byteAt a = ((u.modFw (fun w => { w with queue := rest })).loadBytes (u.targetBase y.target + z.off) z.data).byteAt a := fun a => by
    rw [State.byteAt, flash, mem]
    rfl
  refine ⟨_, run, by rw [fw]; exact xfer.trans (by rw [vfw]), by rw [fw]; exact queue.trans (by rw [vfw]), fun i lt => (bytes _).trans (State.byteAt_loadBytes_in lt),
    fun a out => (bytes a).trans (State.byteAt_loadBytes_out out), ?_⟩
  rw [State.targetSt_of_fw (s := w) (by rw [fw]) (by rw [fw]) (by rw [fw]) (by rw [fw])]
  exact st

theorem does_granuleFailed : Does (.granuleProgrammed g false) s (fun t =>
    t.fw = { u.fw with queue := rest, flashErr := satInc 0xFFFF u.fw.flashErr, shake := t.fw.shake } ∧ t.mem = u.mem) := by
  obtain ⟨k, fw⟩ := ((u.modFw (fun w => { w with queue := rest, flashErr := satInc 0xFFFF w.flashErr })).fwEvent y.target 0x0A z.off).flashFree_fw
  have only : Only [.atlas, .evs, .fw, .ctl] u (((u.modFw (fun w => { w with queue := rest, flashErr := satInc 0xFFFF w.flashErr })).fwEvent y.target 0x0A z.off).flashFree) :=
    State.flashFree_only (State.fwEvent_only (State.modFw_only (.refl ..) (by decide)) (by decide)) (by decide)
  refine ⟨_, exec_granuleFailed passed h, ?_, State.mem_of_only only (by decide) (by decide)⟩
  rw [fw, State.fwEvent_fw]
  rfl

end

/-! ### Checks (16 R414, R415) -/

theorem does_imgVerify {n : Nat} {P : State → Prop} (taken : Takes (s.pass g) q 0x52 0 (leBytes 1 n ++ leBytes 3 0)) (served : (s.pass g).boot.recovery = false)
    (le : n ≤ 4) (first : (s.pass g).opPending 0x52 = false) (ready : checkable ((s.pass g).targetSt n) = true) (on : (s.pass g).pd 4 = true)
    (post : P (((s.pass g).touch q.ses).imgJob ((s.pass g).direct q 0x52 0 (leBytes 1 n ++ leBytes 3 0)) n .verify)) : Does (.imgVerify g q n) s P := by
  refine does_of_takes _ rfl taken ?_
  have served : ((s.pass g).touch q.ses).recoveryOnly n = false := by rw [State.recoveryOnly, show ((s.pass g).touch q.ses).boot.recovery = false from served]; rfl
  have first : ((s.pass g).touch q.ses).opPending 0x52 = false := first
  have ready : checkable (((s.pass g).touch q.ses).targetSt n) = true := ready
  have on : ((s.pass g).touch q.ses).pd 4 = true := on
  simp only [served, first, ready, on, Nat.not_lt.mpr le]
  exact post

/-- The check that the SHAKE core computes. -/
structure Checks (s : State) (j : ImgJob) : Prop where
  jobs : s.fw.jobs = [j]
  writing : j.writing = false
  served : s.fw.shake = some j.handle
  on : s.pd 4 = true

theorem exec_verifyDone {j : ImgJob} {ok : Bool} (passed : s.pass g = u) (h : Checks u j) (verify : j.op = .verify) : exec (.verifyDone g ok) s =
    .next (match u.imgCheck j.target ok with | some (st, c) => u.imgFail j st c | none => u.imgPass j) := by
  obtain ⟨jobs, writing, served, on⟩ := h
  have checking : u.checking = some j := by simp [State.checking, jobs, writing, served]
  show execVerifyDone g ok s = _
  simp only [execVerifyDone, passed, checking, on, verify]
  cases u.imgCheck j.target ok <;> rfl

/-- A wrong signature fails the check, whatever else is found. -/
theorem State.imgCheck_unsigned (s : State) (n : Nat) : ∃ st c, s.imgCheck n false = some (st, c) := by
  unfold State.imgCheck
  extract_lets base kind be
  rw [if_pos (by rfl : (!false) = true)]
  split_ifs <;> exact ⟨_, _, rfl⟩

theorem State.dropJob_fw (s : State) (h : Nat) : ∃ k, (s.dropJob h).fw = { s.fw with jobs := s.fw.jobs.filter (fun j => j.handle ≠ h), shake := k } := by
  obtain ⟨k, served⟩ := (s.modFw (fun w => { w with jobs := w.jobs.filter (fun j => j.handle ≠ h) })).shakeServe_eq
  exact ⟨k, congrArg State.fw served⟩

/-- Dropping the only job leaves none. -/
theorem filter_only {j : ImgJob} {l : List ImgJob} (only : l = [j]) : l.filter (fun x => x.handle ≠ j.handle) = [] := by
  rw [only, List.filter_cons_of_neg (by simp), List.filter_nil]

section
variable {j : ImgJob} (h : s.fw.jobs = [j])
include h

theorem State.imgFail_leaves (st c : Nat) : (s.imgFail j st c).targetSt j.target = .invalid ∧ (s.imgFail j st c).fw.jobs = [] ∧ (s.imgFail j st c).mem = s.mem := by
  have only : Only [.atlas, .evs, .fw, .ctl] s (s.imgFail j st c) := State.imgFail_only (.refl ..) (by decide)
  refine ⟨?_, ?_, State.mem_of_only only (by decide) (by decide)⟩
  all_goals
    obtain ⟨⟨a, b, d, eq⟩, state⟩ := s.setTarget_eq j.target .invalid
    obtain ⟨k, fw⟩ := ((s.setTarget j.target .invalid).complete j.handle st (if st = St.failed then leBytes 1 c else [])).dropJob_fw j.handle
    rw [State.complete_fw] at fw
  · rw [State.imgFail, State.targetSt_congr (State.fwEvent_fw ..), State.targetSt_of_fw (s := s.setTarget j.target .invalid) (by rw [fw]) (by rw [fw]) (by rw [fw]) (by rw [fw])]
    exact state
  · rw [State.imgFail, State.fwEvent_fw, fw, eq]
    exact filter_only h

theorem State.imgPass_verify (verify : j.op = .verify) : (s.imgPass j).targetSt j.target = .verified ∧ (s.imgPass j).fw.jobs = [] ∧ (s.imgPass j).mem = s.mem := by
  obtain ⟨a, b, header⟩ := s.takeHeader_eq j.target
  obtain ⟨⟨c, d, e, eq⟩, state⟩ := (s.takeHeader j.target).setTarget_eq j.target .verified
  have passed : ∃ value, s.imgPass j = ((((s.takeHeader j.target).setTarget j.target .verified).complete j.handle St.ok
      (((s.takeHeader j.target).setTarget j.target .verified).verifyPayload j.target)).dropJob j.handle).fwEvent j.target 1 value := by
    rw [State.imgPass, verify]
    exact ⟨_, rfl⟩
  obtain ⟨value, passed⟩ := passed
  obtain ⟨k, fw⟩ := (((s.takeHeader j.target).setTarget j.target .verified).complete j.handle St.ok
      (((s.takeHeader j.target).setTarget j.target .verified).verifyPayload j.target)).dropJob_fw j.handle
  rw [State.complete_fw] at fw
  have only : Only [.atlas, .evs, .fw, .ctl] s (s.imgPass j) := by
    rw [passed]
    exact State.fwEvent_only (State.dropJob_only (State.complete_only (State.setTarget_only (State.takeHeader_only (.refl ..) (by decide)) (by decide)) (by decide))
      (by decide)) (by decide)
  refine ⟨?_, ?_, State.mem_of_only only (by decide) (by decide)⟩
  · rw [passed, State.targetSt_congr (State.fwEvent_fw ..), State.targetSt_of_fw (s := (s.takeHeader j.target).setTarget j.target .verified) (by rw [fw]) (by rw [fw]) (by rw [fw]) (by rw [fw])]
    exact state
  · rw [passed, State.fwEvent_fw, fw, eq, header]
    exact filter_only h

/-! ### Activation and confirmation (16 R416, R418) -/

theorem exec_bootRecordWritten (passed : u.pass g = s) (writing : j.writing = true) :
    exec (.bootRecordWritten g) u = .next (((s.nameSlot.complete j.handle St.ok []).dropJob j.handle).modFw (fun w => { w with resetAt := some ((s.nameSlot.complete j.handle St.ok []).dropJob j.handle).now })) := by
  have job : s.fw.jobs.find? (fun j => j.writing) = some j := by simp [h, writing]
  show execBootRecordWritten g u = _
  simp only [execBootRecordWritten, passed, job]

/-- The boot record names the other slot, and the reset is due. -/
theorem State.bootRecord_leaves : ∃ k, (((s.nameSlot.complete j.handle St.ok []).dropJob j.handle).modFw
      (fun w => { w with resetAt := some ((s.nameSlot.complete j.handle St.ok []).dropJob j.handle).now })).fw =
      { s.fw with named := 1 - s.fw.run, trial := 1, jobs := [], resetAt := some s.now, shake := k } ∧
    (((s.nameSlot.complete j.handle St.ok []).dropJob j.handle).modFw
      (fun w => { w with resetAt := some ((s.nameSlot.complete j.handle St.ok []).dropJob j.handle).now })).boot = { s.boot with holdRec := s.boot.holdPd0 } := by
  have only : Only [.atlas, .evs, .fw, .ctl] s.nameSlot ((s.nameSlot.complete j.handle St.ok []).dropJob j.handle) :=
    State.dropJob_only (State.complete_only (.refl ..) (by decide)) (by decide)
  obtain ⟨k, fw⟩ := (s.nameSlot.complete j.handle St.ok []).dropJob_fw j.handle
  have now : ((s.nameSlot.complete j.handle St.ok []).dropJob j.handle).now = s.now := congrArg TimeBase.tb (only.same .clk (by decide))
  have none_ : s.nameSlot.fw.jobs.filter (fun x => x.handle ≠ j.handle) = [] := filter_only h
  refine ⟨k, ?_, only.same .boot (by decide)⟩
  rw [State.modFw, now, fw, State.complete_fw, none_]
  rfl

end

/-- What IMG_ACTIVATE's checks ask of the device for TARGET 0. -/
structure Activates (s : State) : Prop where
  first : s.opPending 0x53 = false
  on : s.pd 4 = true
  ready : s.targetSt 0 = .verified
  settled : s.inTrial = false

theorem Activates.taken (h : Activates u) (i : Nat) : Activates (u.touch i) := ⟨h.first, h.on, h.ready, h.settled⟩

section
variable {r : InReq}

theorem State.imgActivate_slot (h : Activates s) {mode : Nat} (le : mode < 2) : s.imgActivate r 0 mode = s.imgJob r 0 (if mode = 0 then .now else .armed) := by
  obtain ⟨first, on, ready, settled⟩ := h
  have apart : mode ≠ 2 := by omega
  rw [State.imgActivate, if_neg (by simp [State.recoveryOnly]), if_neg (by simp; omega), if_neg (by simp [first]), if_neg (by simp [on]), if_pos rfl]
  simp only [ready, settled, apart]
  rfl

theorem State.imgActivate_disarm (h : Activates s) (armed : s.fw.armed = true) : s.imgActivate r 0 2 =
    match s.accept r 0 with
    | (s, some h) => (s.modFw (fun w => { w with armed := false })).complete h St.ok []
    | (s, none) => s := by
  obtain ⟨first, on, ready, settled⟩ := h
  rw [State.imgActivate, if_neg (by simp [State.recoveryOnly]), if_neg (by simp), if_neg (by simp [first]), if_neg (by simp [on]), if_pos rfl]
  simp only [ready, settled, armed]
  rfl

theorem State.imgActivate_applet {n mode : Nat} (served : s.boot.recovery = false) (pos : 1 ≤ n) (le : n ≤ 4) (mode_le : mode ≤ 2) (first : s.opPending 0x53 = false)
    (on : s.pd 4 = true) (halted : s.pb Pf.appCfg_RUN (n - 1) = false) (ready : s.targetSt n = .verified) : s.imgActivate r n mode = s.imgJob r n .applet := by
  rw [State.imgActivate, if_neg (by simp [State.recoveryOnly, served]), if_neg (by simp; omega), if_neg (by simp [first]), if_neg (by simp [on]), if_neg (by omega),
    if_neg (by simp [halted, ready])]

end

theorem exec_trialConfirmTimer (passed : s.pass g = u) (trial : u.inTrial = true) (set : u.pf Pf.fwCfg_CONFIRM_S ≠ 0)
    (ready : secTk (u.pf Pf.fwCfg_CONFIRM_S) ≤ u.readyFor) : exec (.trialConfirmTimer g) s = .next u.confirmTrial := by
  show execTrialConfirmTimer g s = _
  simp [execTrialConfirmTimer, passed, trial, set, ready]

/-- A running image in TRIAL has a slot. -/
theorem State.run_lt_of_trial (trial : s.inTrial = true) : s.fw.run < 2 := by
  by_contra out
  have none_ : s.image = {} := by
    have length : s.fw.slots.toList.length = 2 := by simp
    rw [State.image, List.getD_eq_default _ _ (by omega)]
  simp [State.inTrial, none_] at trial

theorem State.confirmTrial_fw (s : State) : s.confirmTrial.fw = { s.fw with
    slots := s.fw.slots.setIfInBounds s.fw.run { s.image with st := .active }
    rollback := max s.fw.rollback s.image.rollback, revoked := s.fw.revoked ||| s.image.revoke, trial := 0 } := by
  unfold State.confirmTrial
  extract_lets img a b c
  have told : c.fw = b.fw := State.runEvent_fw ..
  split
  · exact told
  · exact (State.runEvent_fw ..).trans told

theorem State.confirmTrial_active (trial : s.inTrial = true) : s.confirmTrial.image.st = .active := by
  rw [State.image, s.confirmTrial_fw]
  show (Slot.st _) = _
  rw [getD_setIfInBounds, if_pos ⟨rfl, State.run_lt_of_trial trial⟩]

/-! ### Debug unlock and attestation (16 R420, R421) -/

theorem does_debugUnlock {P : State → Prop} (taken : Takes (s.pass g) q 0x5C 0 []) (first : (s.pass g).opPending 0x5C = false) (on : (s.pass g).pd 4 = true)
    (token : (s.pass g).fw.token.st = .received) (post : P (((s.pass g).touch q.ses).imgJob ((s.pass g).direct q 0x5C 0 []) 5 .unlock)) :
    Does (.debugUnlock g q) s P := by
  refine does_of_takes _ rfl taken ?_
  have first : ((s.pass g).touch q.ses).opPending 0x5C = false := first
  have on : ((s.pass g).touch q.ses).pd 4 = true := on
  have token : ((s.pass g).touch q.ses).fw.token.st = .received := token
  simp only [first, on, token]
  exact post

/-- Without a token received the operation ends at once, and the nonce is used up. -/
theorem does_debugUnlock_none (passed : s.pass g = u) (taken : Takes u q 0x5C 0 []) (room : HasHandle u q) (first : u.opPending 0x5C = false) (on : u.pd 4 = true)
    (token : u.fw.token.st ≠ .received) : Does (.debugUnlock g q) s (fun t => t.fw.nonce = none ∧ t.dbg = u.dbg) := by
  subst passed
  obtain ⟨v, x, accept, only, -⟩ := State.accept_fresh room 0x5C 5 []
  refine does_of_takes _ rfl taken ?_
  have first : ((s.pass g).touch q.ses).opPending 0x5C = false := first
  have on : ((s.pass g).touch q.ses).pd 4 = true := on
  have token : ((s.pass g).touch q.ses).fw.token.st ≠ .received := token
  simp only [first, on, token, accept]
  have ended : Only [.atlas, .evs, .fw, .ctl] v (v.unlockEnd x.num St.failed 6) := State.unlockEnd_only (.refl ..) (by decide)
  exact ⟨rfl, (ended.same .dbg (by decide)).trans (only.same .dbg (by decide))⟩

/-- The report carries the nonce behind the identity of the device. -/
theorem State.reportBody_nonce (s : State) (nonce : Nat) : ((s.reportBody nonce).drop 28).take 32 = leBytes 32 nonce := by
  have carried : ∃ rest, s.reportBody nonce = (leBytes 4 1 ++ leBytes 4 0x34365A41 ++ leBytes 2 0xA14D ++ leBytes 2 0 ++ leBytes 16 uidVal) ++ (leBytes 32 nonce ++ rest) := by
    unfold State.reportBody
    exact ⟨_, by simp only [List.append_assoc]; rfl⟩
  obtain ⟨rest, carried⟩ := carried
  rw [carried, List.drop_left' (by simp [length_leBytes]), List.take_left' (length_leBytes ..)]

theorem does_attestSign {nonce : Nat} (passed : s.pass g = u) (taken : Takes u q 0x58 0 (leBytes 4 0 ++ leBytes 32 nonce)) (room : HasHandle u q)
    (first : u.opPending 0x58 = false) (on : u.pd 4 = true) : Does (.attestSign g q nonce) s (fun t => ∃ h body, Accepted u q 0x58 0 t h ∧
      t.fw = { u.fw with report := none, sign := some ⟨h.num, body⟩, shake := t.fw.shake } ∧ (body.drop 28).take 32 = leBytes 32 nonce) := by
  subst passed
  obtain ⟨v, x, accept, only, handles, -, fresh, -⟩ := State.accept_fresh room 0x58 0 (leBytes 4 0 ++ leBytes 32 nonce)
  refine does_of_takes _ rfl taken ?_
  have first : ((s.pass g).touch q.ses).opPending 0x58 = false := first
  have on : ((s.pass g).touch q.ses).pd 4 = true := on
  simp only [first, on, accept]
  obtain ⟨k, served⟩ := (v.modFw (fun w => { w with report := none, sign := some ⟨x.num, v.reportBody nonce⟩ })).shakeServe_eq
  have fw : v.fw = (s.pass g).fw := only.same .fw (by decide)
  refine ⟨x, v.reportBody nonce, fresh.accepted ?_, ?_, ?_⟩
  · show x ∈ (State.shakeServe _).atlas.handles
    rw [served]
    show x ∈ v.atlas.handles
    simp [handles]
  · show (State.shakeServe _).fw = _
    rw [served, ← fw]
    rfl
  · exact State.reportBody_nonce v nonce

/-- Dropping the attestation leaves the rest of the firmware record, but for the SHAKE core. -/
theorem State.dropSign_fw (s : State) : s.dropSign.fw = { s.fw with sign := none, shake := s.dropSign.fw.shake } := by
  obtain ⟨k, served⟩ := (s.modFw (fun w => { w with sign := none })).shakeServe_eq
  rw [show s.dropSign = _ from served]
  rfl

theorem exec_attestSignDone {j : SignJob} (passed : s.pass g = u) (signs : u.fw.sign = some j) (served : u.fw.shake = some j.handle) (on : u.pd 4 = true) :
    exec (.attestSignDone g) s = .next (((u.modFw (fun w => { w with serial := (w.serial + 1) % 65536, report := some ((w.serial + 1) % 65536, j.body) })).dropSign).complete
      j.handle St.ok (leBytes 4 30048 ++ leBytes 2 ((u.fw.serial + 1) % 65536) ++ leBytes 2 0 ++ j.body)) := by
  show execAttestSignDone g s = _
  simp [execAttestSignDone, passed, signs, served, on, State.modFw]

/-- A PENDING handle that is completed at once is DONE. -/
theorem State.complete_own {st : Nat} {pl : List Byte} (only : s.atlas.handles = [x]) (pending : x.phase = .pending) (alive : x.orphan = false) (idle : s.atlas.inbox = []) :
    ∃ y ∈ (s.complete x.num st pl).atlas.handles, y.op = x.op ∧ y.phase = .done s.now st pl := by
  have known : s.handle x.num = some x := by simp [State.handle, only]
  have free : s.cancelWaits x = false := by simp [State.cancelWaits, idle]
  simp only [State.complete, known, pending, free, State.finish, alive, Bool.false_eq_true, if_false, State.sendPeer]
  rw [(State.sendTo_handles ..).1]
  exact ⟨_, List.mem_map.mpr ⟨x, by simp [only], if_pos rfl⟩, rfl, rfl⟩

theorem does_attestChunk {chunk n : Nat} {body : List Byte} (passed : s.pass g = u) (taken : Takes u q 0x58 0 (leBytes 2 1 ++ leBytes 2 chunk ++ leBytes 32 0))
    (le : chunk ≤ 7) (none_ : u.atlas.handles = []) (report : u.fw.report = some (n, body)) : Does (.attestChunk g q chunk) s (fun t => t.fw = u.fw ∧
      ∃ h ∈ t.atlas.handles, h.op = 0x58 ∧
        h.phase = .done u.now St.ok (leBytes 2 n ++ leBytes 2 chunk ++ leBytes 4 0 ++ ((reportBytes body).drop (4096 * chunk)).take 4096)) := by
  have room : HasHandle u q := by simp [HasHandle, State.handleCount, none_]
  have first : u.opPending 0x58 = false := by simp [State.opPending, none_]
  subst passed
  obtain ⟨v, x, accept, only, handles, inbox, fresh, pending⟩ := State.accept_fresh room 0x58 1 (leBytes 2 1 ++ leBytes 2 chunk ++ leBytes 32 0)
  refine does_of_takes _ rfl taken ?_
  have first : ((s.pass g).touch q.ses).opPending 0x58 = false := first
  have fw : v.fw = (s.pass g).fw := only.same .fw (by decide)
  have now : v.now = (s.pass g).now := congrArg TimeBase.tb (only.same .clk (by decide))
  simp only [first, accept, Nat.not_lt.mpr le, show v.fw.report = some (n, body) by rw [fw]; exact report]
  obtain ⟨y, mem, op, done⟩ := State.complete_own (st := St.ok) (pl := leBytes 2 n ++ leBytes 2 chunk ++ leBytes 4 0 ++ ((reportBytes body).drop (4096 * chunk)).take 4096)
    (by rw [handles, none_]; rfl) pending fresh.orphan (inbox.trans taken.2.1)
  exact ⟨(State.complete_fw ..).trans fw, y, mem, op.trans fresh.op, by rw [done, now]⟩

end

/-- Settles O50: each step changes the firmware record as written out, and an accepted operation's handle is followed through its marks. -/
theorem firmwareImages : Obligations.FirmwareImages := by
  unfold Obligations.FirmwareImages
  intro s g q u w jobs
  have passed : s.pass g = u := rfl
  clear_value u
  have record : u.fw = w := rfl
  clear_value w
  subst record
  have waits : ∀ {op unit k t}, (∃ h, Waiting u q op unit k t h) → jobs op unit k t := fun ⟨h, waiting⟩ => ⟨h, waiting.accepted, waiting.fw, waiting.served⟩
  refine ⟨fun b taken served target len free idle on => ⟨fun new => ?_, fun m e again apart same => ?_⟩, fun y xfer left => ?_,
    fun b y taken xfer served token at_ below len whole crc new apart room => ?_, fun y z rest xfer queue erased apart => ⟨?_, ?_⟩,
    fun n taken room served le first ready on => ?_, fun j only writing verify served on => ⟨?_, fun passes => ?_⟩,
    fun mode taken room first on ready settled => ⟨fun zero => ?_, fun one => ?_, fun two armed => ?_⟩,
    fun n mode taken room served pos le mode_le first on halted ready => ?_, fun j only writing => ?_, fun trial set ready => ?_,
    fun taken room first on => ⟨fun token => ?_, fun token => ?_⟩, fun nonce taken room first on => ?_, fun j signs served on => ?_,
    fun chunk n body taken le none_ report => ?_⟩
  · have begun := fun r => State.imgBegin_new (Begins.taken ⟨served, target, len, free, idle, on⟩ q.ses) r new
    subst passed
    exact does_of_takes _ rfl taken (begun _)
  · have kept := fun r => State.imgBegin_resumed (Begins.taken ⟨served, target, len, free, idle, on⟩ q.ses) r again apart same
    subst passed
    exact does_of_takes _ rfl taken (kept _)
  · have reads := u.kvGet_loseMem (u.targetBase y.target + 65536 * y.erased) 65536
    have step : u.targetBase y.target + 65536 * (y.erased + 1) = u.targetBase y.target + 65536 * y.erased + 65536 := by rw [Nat.mul_succ, Nat.add_assoc]
    rw [step]
    exact ⟨_, exec_sectorEraseDone passed xfer left, rfl, fun a out => (reads a).trans (if_pos out),
      fun a low high => (reads a).trans (if_neg (not_or.mpr ⟨Nat.not_lt.mpr low, Nat.not_le.mpr high⟩))⟩
  · have fits : Fits (u.touch q.ses) y b := ⟨xfer, served, token, at_, below, len, whole, crc, new, apart, room⟩
    subst passed
    exact does_of_takes _ rfl taken (State.imgBlock_queued fits _)
  · exact does_granuleProgrammed passed ⟨xfer, queue, erased, apart⟩
  · exact does_granuleFailed passed ⟨xfer, queue, erased, apart⟩
  · have job := waits (State.imgJob_waits room 0x52 n (leBytes 1 n ++ leBytes 3 0) .verify)
    subst passed
    exact does_imgVerify taken served le first ready on job
  · obtain ⟨st, c, fails⟩ := u.imgCheck_unsigned j.target
    have run := exec_verifyDone (ok := false) passed ⟨only, writing, served, on⟩ verify
    rw [fails] at run
    exact ⟨_, run, State.imgFail_leaves only st c⟩
  · have run := exec_verifyDone (ok := true) passed ⟨only, writing, served, on⟩ verify
    rw [passes] at run
    exact ⟨_, run, State.imgPass_verify only verify⟩
  · subst zero
    have job := waits (State.imgJob_waits room 0x53 0 (activateBytes 0 0) .now)
    have act : Activates (u.touch q.ses) := Activates.taken ⟨first, on, ready, settled⟩ q.ses
    subst passed
    exact does_of_takes _ rfl taken ((State.imgActivate_slot (mode := 0) act (by decide)).symm ▸ job)
  · subst one
    have job := waits (State.imgJob_waits room 0x53 0 (activateBytes 0 1) .armed)
    have act : Activates (u.touch q.ses) := Activates.taken ⟨first, on, ready, settled⟩ q.ses
    subst passed
    exact does_of_takes _ rfl taken ((State.imgActivate_slot (mode := 1) act (by decide)).symm ▸ job)
  · subst two
    obtain ⟨v, x, accept, only, -⟩ := State.accept_fresh room 0x53 0 (activateBytes 0 2)
    have act : Activates (u.touch q.ses) := Activates.taken ⟨first, on, ready, settled⟩ q.ses
    have fw : v.fw = u.fw := only.same .fw (by decide)
    subst passed
    refine does_of_takes _ rfl taken ?_
    rw [State.imgActivate_disarm act armed, accept, ← fw]
    exact State.complete_fw ..
  · have job := waits (State.imgJob_waits room 0x53 n (activateBytes n mode) .applet)
    have run := State.imgActivate_applet (s := u.touch q.ses) (r := u.direct q 0x53 0 (activateBytes n mode)) served pos le mode_le first on halted ready
    subst passed
    exact does_of_takes _ rfl taken (run.symm ▸ job)
  · obtain ⟨k, fw, boot⟩ := State.bootRecord_leaves only
    exact ⟨_, exec_bootRecordWritten only passed writing, by rw [fw], boot⟩
  · refine ⟨_, exec_trialConfirmTimer passed trial set ready, State.confirmTrial_active trial, ?_⟩
    rw [u.confirmTrial_fw]
    exact ⟨rfl, rfl, rfl⟩
  · have job := waits (State.imgJob_waits room 0x5C 5 [] .unlock)
    subst passed
    exact does_debugUnlock taken first on token job
  · exact does_debugUnlock_none passed taken room first on token
  · exact does_attestSign passed taken room first on
  · refine ⟨_, exec_attestSignDone passed signs served on, ?_⟩
    beta_reduce
    rw [State.complete_fw]
    exact State.dropSign_fw _
  · exact does_attestChunk passed taken le none_ report

end Sys2Proof.Machine
end

section
/-!
PROOFS. The refutation of O43. The statement quantifies over every state, and gives an accepted keyless-access command its handle whatever the
queue holds. Where no command runs while one is queued, that one comes to run first, and here it ends at once: it is a CALIBRATE and no aerial
is enabled (12 R313). Its number belongs to an orphan of session 1 and is the one that session 0 takes next, so the end of the orphan, which
frees its number (03 R80), frees the handle of the new command too. The steps themselves start a queued command as soon as none
runs; the statement does not ask for such a state.
-/
namespace Sys2Proof.Machine

/-- A running device with keyless access on and no aerial enabled. No command runs, a CALIBRATE is queued, and its handle, an orphan of session 1,
has the number that session 0 takes next. -/
def State.orphanQueued : State :=
  let s : State :=
    { clk := { run := true, lock := true }
      atlas := { ready := true, handles := [⟨1, 1, 0, 1, 0x28, 3, 0xFF + 256 * 0x20, 0, 0, 0xFFFF, .pending, true⟩] }
      pwr := { st := .run, pdOn := 0xFFFF, va := 1300, vb := 1300, aOk := true, bOk := true }
      boot := { phase := 9, cold := true, adopted := true, served := 0 }
      acc := { queue := [⟨1, 1, 0x20, 0xFF, 0, none, 0, 0, 0, 0⟩] } }
  s.setPf Pf.accCfg_EN 0 0 1

/-- A SEARCH on every slot. -/
def searchAll : AccessCmd := ⟨0xFF, 0, 0⟩

/-- The handles after a step. -/
def handlesLeft (o : Host.Outcome State Fault Refusal) : Option (List Hnd) := match o with | .next t => some t.atlas.handles | _ => none

/-- The SEARCH is accepted, and the step leaves no handle. -/
theorem search_orphanQueued :
    let u := (State.orphanQueued.pass ⟨0, 0⟩).accDue
    Takes u anyRq 0x28 0 (accPayloadIn 1 searchAll []) ∧ HasHandle u anyRq ∧ u.accCheck (u.direct anyRq 0x28 0 (accPayloadIn 1 searchAll [])) 1 searchAll 0 = none ∧
    handlesLeft (exec (.search ⟨0, 0⟩ anyRq searchAll) State.orphanQueued) = some [] := by
  decide +kernel

/-- Refutes O43: a SEARCH accepted while an orphan's command is queued under its number has no handle after the step. -/
theorem not_access : ¬ Obligations.Access := by
  intro h
  obtain ⟨taken, room, check, empty⟩ := search_orphanQueued
  obtain ⟨search, -⟩ := h State.orphanQueued ⟨0, 0⟩ anyRq searchAll
  obtain ⟨t, run, x, ⟨mem, -⟩, -⟩ := search ⟨taken, room, check⟩
  rw [run, handlesLeft, Option.some.injEq] at empty
  rw [empty] at mem
  cases mem

end Sys2Proof.Machine
end
